-- ==== Sys2Proof/Word.lean ====
section
/-! DEFINITION. The word and byte types of the Krerdolan, and sparse maps as sorted lists. -/
namespace Sys2Proof

/-- A word is 24 bits unless a block says otherwise (spec 00, Numbers and units). -/
abbrev Word := BitVec 24

/-- A byte of a frame, a blob or a flash image. -/
abbrev Byte := BitVec 8

/-- A sparse map from numbers to values, kept as a list in rising key order. -/
abbrev SMap (α : Type) := List (Nat × α)

/-- Bits [hi:lo] of a number, the manual's bit-range notation (spec 00, Numbers and units). -/
def bits (v hi lo : Nat) : Nat := (v >>> lo) % 2 ^ (hi + 1 - lo)

/-- Bit n of a number. -/
def bit (v n : Nat) : Bool := v.testBit n

end Sys2Proof
end

