-- ==== Sys2Proof/Syntax.lean ====
section
/-! DEFINITION. The commands of the block: one constructor for each row of spec/opcode_table.json. -/
namespace Sys2Proof

/-- The paths by which a dictionary request reaches the keepers (spec 03, R78). -/
inductive Via where
  | hatch                     -- the Hatch request ring
  | quick                     -- the BAR0 quick window
  | aap (sess : Fin 8)        -- an AAP session
  | aapOpen (u : Fin 4) (addr : Nat)      -- AAP without a session (R94)
  | smbus                     -- SMBus through the Sump
  | mgmt (ctx : Fin 128)      -- the management service of a context
deriving DecidableEq, Repr

/-- A dictionary request's path and transaction number (spec 03, R74, R80). -/
structure Src where
  via : Via
  tid : Byte
deriving DecidableEq, Repr

/-- The PCI Express memory BARs (spec 04, R108). -/
inductive Bar where
  | bar0 | bar2 | bar4
deriving DecidableEq, Repr

/-- What the receive shifter of a channel has sampled (spec 09, R246): the ns since the symbol's start edge, and three samples of each bit. -/
structure Sampled where
  since : Nat
  bits : List (BitVec 3)
deriving DecidableEq, Repr

/-- A write of an endpoint's doorbell (spec 18, R500): the endpoint, and the core that makes the write, none where the host or the dictionary does. -/
structure Bell where
  ep : Fin 21
  core : Option (Fin 20)
deriving DecidableEq, Repr

/-- Who makes a write that both the dictionary and a core can make. -/
inductive By where
  | dict (r : Src)
  | core (c : Fin 20)
deriving DecidableEq, Repr

/-- How an attempt of a priority-bus controller ends (spec 08, R216, R223, R228).
`code` is a LAST_ERR code of R229; `inData` says that the error lies in the control or data field. -/
inductive BusEnd where
  | success
  | lost
  | error (code : Fin 8) (place : Fin 3)   -- place 1: the control or data field; 2: a recessive stuff bit of the arbitration field read dominant
deriving DecidableEq, Repr

/-- The writes that can name a disciplining agent for a time base (spec 15, R563). -/
inductive Discipline where
  | asEnable | asTb
  | ppsInDisc (i : Fin 4)
  | tbDiscCtx (n : Fin 8)
deriving DecidableEq, Repr

/-- What stands in the flash socket as RESET# rises (spec 19, R521): nothing, the flash as the device last left it, or a flash
programmed outside, whose bytes are listed; unlisted bytes are erased (log entry 5). -/
inductive Flash where
  | absent
  | asIs
  | image (bytes : List (Nat × Byte))
deriving DecidableEq, Repr

/-- The commands: one constructor for each row of spec/opcode_table.json, in its order. -/
inductive Instr where
  | powerOn  -- POWER_ON R517
  | resetLow  -- RESET_LOW R517
  | resetRelease (straps : BitVec 2) (test : Bool) (flash : Flash)  -- RESET_RELEASE R520
  | warmRestart (cause : Fin 8)  -- WARM_RESTART R536
  | perst  -- PERST R517
  | brownOut (rail : Fin 20)  -- BROWN_OUT R551
  | bootLimitExpiry  -- BOOT_LIMIT_EXPIRY R525
  | hostBootChunk  -- HOST_BOOT_CHUNK R526
  | refclk25Absent  -- REFCLK25_ABSENT R13
  | refclk25Present  -- REFCLK25_PRESENT R13
  | holdPinLow  -- HOLD_PIN_LOW R35
  | holdPinHigh  -- HOLD_PIN_HIGH R47
  | interconnectTimeout (agent : Fin 21) (addr : Word) (wr : Bool)  -- INTERCONNECT_TIMEOUT R32
  | sumpWatchdogExpiry  -- SUMP_WATCHDOG_EXPIRY R534
  | wdogKick (agent : Fin 21) (v : Word)  -- WDOG_KICK R534
  | modeRequest (r : Src) (v : Word)  -- MODE_REQUEST R39
  | limpWaitEnd  -- LIMP_WAIT_END R48
  | limpReturn  -- LIMP_RETURN R49
  | wakeAtAlarm  -- WAKE_AT_ALARM R43
  | tjSample (temps : List Int) (sump : Int)  -- TJ_SAMPLE R50
  | tapRailSample (rails : List (Nat × Nat))  -- TAP_RAIL_SAMPLE R56
  | limpPowerDormant  -- LIMP_POWER_DORMANT R62
  | tapRequest  -- TAP_REQUEST R57
  | tapRelease  -- TAP_RELEASE R66
  | tapWaitExpiry  -- TAP_WAIT_EXPIRY R57
  | permitExpiry  -- PERMIT_EXPIRY R58
  | tapBudgetWrite (r : Src) (v : Word)  -- TAP_BUDGET_WRITE R55
  | tapPeakClear (r : Src) (v : Word)  -- TAP_PEAK_CLEAR R68
  | tjMaxReset (r : Src) (v : Word)  -- TJ_MAX_RESET R68
  | read (r : Src) (key : Word)  -- READ R75
  | write (r : Src) (key : Word) (vals : List Word)  -- WRITE R75
  | readMulti (r : Src) (keys : List Word)  -- READ_MULTI R76
  | writeMulti (r : Src) (items : List Word)  -- WRITE_MULTI R76
  | sigRead (r : Src) (sig count : Word)  -- SIG_READ R394
  | sigWrite (r : Src) (sig : Word) (vals : List Word)  -- SIG_WRITE R395
  | sigForce (r : Src) (sig : Word) (vals : List Word)  -- SIG_FORCE R395
  | sigUnforce (r : Src) (sig : Word)  -- SIG_UNFORCE R395
  | domainPut (r : Src) (key ofs : Word) (payload : List Word)  -- DOMAIN_PUT R77
  | domainGet (r : Src) (key ofs : Word) (payload : List Word)  -- DOMAIN_GET R75
  | domainPutIdle (key : Word)  -- DOMAIN_PUT_IDLE R77
  | save (r : Src)  -- SAVE R98
  | saveDone (ok : Bool)  -- SAVE_DONE R98
  | restoreDefaults (r : Src)  -- RESTORE_DEFAULTS R100
  | subscribe (r : Src) (key arg : Word)  -- SUBSCRIBE R79
  | subscribeSend (via : Via) (num : Fin 64)  -- SUBSCRIBE_SEND R79
  | dictTimeout (r : Src)  -- DICT_TIMEOUT R82
  | hatchCompletionPost  -- HATCH_COMPLETION_POST R87
  | qwRead  -- QW_READ R90
  | qwWrite1  -- QW_WRITE1 R90
  | qwWrite2  -- QW_WRITE2 R90
  | qwOverlapClear  -- QW_OVERLAP_CLEAR R89
  | aapHello (u : Fin 4) (addr : Nat) (dgram : List Byte)  -- AAP_HELLO R92
  | aapProve (u : Fin 4) (addr : Nat) (dgram : List Byte)  -- AAP_PROVE R93
  | aapRequests (u : Fin 4) (addr : Nat) (dgram : List Byte)  -- AAP_REQUESTS R95
  | aapOpenRead (u : Fin 4) (addr : Nat) (dgram : List Byte)  -- AAP_OPEN_READ R94
  | aapClose (u : Fin 4) (addr : Nat) (dgram : List Byte)  -- AAP_CLOSE R95
  | aapIdleTimeout (sess : Fin 8)  -- AAP_IDLE_TIMEOUT R95
  | aapBlockExpiry (addr : Nat)  -- AAP_BLOCK_EXPIRY R93
  | revokeKey (r : Src) (v : Word)  -- REVOKE_KEY R102
  | jtagLockWrite (r : Src) (v : Word)  -- JTAG_LOCK_WRITE R102
  | registerWrite (r : Src) (key : Word) (vals : List Word)  -- REGISTER_WRITE R4
  | hostRead (bar : Bar) (ofs lanes : Nat)  -- HOST_READ R111
  | hostWrite (bar : Bar) (ofs : Nat) (lanes : List (BitVec 32 × BitVec 4))  -- HOST_WRITE R109
  | scrubStep (mem : Fin 14) (unit addr : Nat) (err : Fin 4) (pass : Option Nat)  -- SCRUB_STEP R118
  | eccClear (r : Src) (mem : Fin 14) (v : Word)  -- ECC_CLEAR R121
  | portModeWrite (r : Src) (p : Fin 96) (v : Word)  -- PORT_MODE_WRITE R135
  | portDisable (r : Src) (p : Fin 96)  -- PORT_DISABLE R127
  | portEnable (r : Src) (p : Fin 96)  -- PORT_ENABLE R127
  | portQuarantine (r : Src) (p : Fin 96)  -- PORT_QUARANTINE R127
  | portReservationDone (p : Fin 96)  -- PORT_RESERVATION_DONE R131
  | probeTimeout (p : Fin 96)  -- PROBE_TIMEOUT R127
  | portUp (p : Fin 96) (parallel crossed : Bool)  -- PORT_UP R133
  | linkLost (p : Fin 96)  -- LINK_LOST R127
  | degWindowEnd (p : Fin 96)  -- DEG_WINDOW_END R127
  | portOptionWrite (r : Src) (p : Fin 96) (opt : Fin 9) (v : Word)  -- PORT_OPTION_WRITE R135
  | etxAnRestart (p : Fin 96)  -- ETX_AN_RESTART R136
  | t1lResolve (p : Fin 96) (partner : BitVec 2)  -- T1L_RESOLVE R138
  | busPolaritySwap (p : Fin 96)  -- BUS_POLARITY_SWAP R139
  | idleLevelEval (p : Fin 96) (mv : Int)  -- IDLE_LEVEL_EVAL R140
  | recal (r : Src) (p : Fin 96) (v : Word)  -- RECAL R142
  | recalDone (p : Fin 96)  -- RECAL_DONE R142
  | roleMove (r : Src) (p : Fin 96) (v : Word)  -- ROLE_MOVE R143
  | roleMoveCancel (r : Src) (p : Fin 96)  -- ROLE_MOVE_CANCEL R143
  | errReport (core : Fin 20) (p : Fin 96) (v : Word)  -- ERR_REPORT R151
  | portCntClear (r : Src) (p : Fin 96) (v : Word)  -- PORT_CNT_CLEAR R152
  | tileLoss (t : Fin 4)  -- TILE_LOSS R147
  | tileColdStart (r : Src) (t : Fin 4)  -- TILE_COLD_START R148
  | tileStartPermit (t : Fin 4)  -- TILE_START_PERMIT R148
  | tileStartEnd (t : Fin 4) (ok : Bool)  -- TILE_START_END R148
  | tileAutoRestart (t : Fin 4)  -- TILE_AUTO_RESTART R148
  | tileRecalibrate (r : Src) (t : Fin 4)  -- TILE_RECALIBRATE R149
  | tileUseWrite (r : Src) (t : Fin 4) (v : Word)  -- TILE_USE_WRITE R150
  | overcurrent (p : Fin 96) (pin : Fin 5)  -- OVERCURRENT R156
  | overvoltage (p : Fin 96) (pin : Fin 5) (cv : Int)  -- OVERVOLTAGE R157
  | retryDelayEnd (p : Fin 96)  -- RETRY_DELAY_END R159
  | retryPermit (p : Fin 96) (cv : Vector Int 5)  -- RETRY_PERMIT R159
  | retryWindowEnd (p : Fin 96)  -- RETRY_WINDOW_END R159
  | retryCountReset (p : Fin 96)  -- RETRY_COUNT_RESET R159
  | tdrStart (r : Src) (p : Fin 96) (v : Word)  -- TDR_START R160
  | tdrAcqEnd (p : Fin 96)  -- TDR_ACQ_END R163
  | tdrProcEnd (p : Fin 96) (traces : List (List Word))  -- TDR_PROC_END R165
  | flutterWindowEnd (p : Fin 96) (inp : Fin 5)  -- FLUTTER_WINDOW_END R167
  | stuckTimeout (p : Fin 96) (inp : Fin 5)  -- STUCK_TIMEOUT R168
  | wirebreakTest (p : Fin 96) (inp : Fin 5) (cv : Int)  -- WIREBREAK_TEST R171
  | supplyLowTimer (t : Fin 4) (dv : Nat)  -- SUPPLY_LOW_TIMER R172
  | edgeClear (r : Src) (p : Fin 96) (v : Word)  -- EDGE_CLEAR R169
  | encIndexEdge (p : Fin 96) (cv : Int) (held : Nat)  -- ENC_INDEX_EDGE R173
  | encIllegalTransition (p : Fin 96) (held : Nat)  -- ENC_ILLEGAL_TRANSITION R173
  | encPreset (r : Src) (p : Fin 96) (v : BitVec 48)  -- ENC_PRESET R173
  | macRxFrame (m : Fin 100) (pre : Nat) (frame : List Byte) (err : BitVec 4) (headOut : Bool)  -- MAC_RX_FRAME R179
  | pauseRx (m : Fin 100) (quanta : BitVec 16)  -- PAUSE_RX R182
  | pauseExpiry (m : Fin 100)  -- PAUSE_EXPIRY R182
  | tsPop (agent : Fin 21) (idx : Fin 100)  -- TS_POP R194
  | uplinkModeWrite (r : Src) (u : Fin 4) (v : Word)  -- UPLINK_MODE_WRITE R196
  | uplinkUp (u : Fin 4)  -- UPLINK_UP R197
  | uplinkFault (u : Fin 4) (remote : Bool)  -- UPLINK_FAULT R197
  | uplinkFaultClear (u : Fin 4)  -- UPLINK_FAULT_CLEAR R197
  | deviceFrameRx (u : Fin 4) (frame : List Byte)  -- DEVICE_FRAME_RX R198
  | gclApply (r : Src) (u : Fin 4) (v : Word)  -- GCL_APPLY R200
  | gclChange (u : Fin 4)  -- GCL_CHANGE R201
  | gclEntryEnd (u : Fin 4)  -- GCL_ENTRY_END R199
  | macCntClear (r : Src) (p : Fin 96) (v : Word)  -- MAC_CNT_CLEAR R203
  | upCntClear (r : Src) (u : Fin 4) (v : Word)  -- UP_CNT_CLEAR R203
  | txSend (core : Fin 20) (p : Fin 96) (buf : Fin 32)  -- TX_SEND R214
  | txAbort (core : Fin 20) (p : Fin 96) (buf : Fin 32)  -- TX_ABORT R217
  | busSelect (p : Fin 96)  -- BUS_SELECT R215
  | busAttemptEnd (p : Fin 96) (res : BusEnd) (tdc : Option (BitVec 8))  -- BUS_ATTEMPT_END R216
  | busRxFrame (p : Fin 96) (w0 w1 : Word) (data : List Byte) (ago : Nat)  -- BUS_RX_FRAME R219
  | protocolException (p : Fin 96)  -- PROTOCOL_EXCEPTION R208
  | busRxLockRead (core : Fin 20) (p : Fin 96) (obj : Fin 64)  -- BUS_RX_LOCK_READ R220
  | busRxRelease (core : Fin 20) (p : Fin 96) (obj : Fin 64) (v : Word)  -- BUS_RX_RELEASE R220
  | busRefill (p : Fin 96)  -- BUS_REFILL R218
  | busRecover (by_ : By) (p : Fin 96) (v : Word)  -- BUS_RECOVER R226
  | busRecoveryDone (p : Fin 96)  -- BUS_RECOVERY_DONE R226
  | busDoneClear (core : Fin 20) (p : Fin 96) (hi : Bool) (v : Word)  -- BUS_DONE_CLEAR R229
  | busTimingWrite (r : Src) (p : Fin 96) (el : Fin 11) (v : Word)  -- BUS_TIMING_WRITE R206
  | listenOnlyWrite (r : Src) (p : Fin 96) (v : Word)  -- LISTEN_ONLY_WRITE R222
  | busCntClear (r : Src) (p : Fin 96) (v : Word)  -- BUS_CNT_CLEAR R230
  | rnJmp (ch : Fin 96) (dly : Fin 8) (addr : BitVec 8)  -- RN_JMP R259
  | rnJcond (ch : Fin 96) (dly : Fin 8) (cond : Fin 8) (ofs : BitVec 5) (lin : BitVec 4)  -- RN_JCOND R260
  | rnWait (ch : Fin 96) (dly : Fin 8) (mode : Fin 4) (ivb : Fin 8) (lin : BitVec 4)  -- RN_WAIT R260
  | inRhr (ch : Fin 96) (dly : Fin 8) (toY nb : Bool)  -- IN_RHR R261
  | inReport (ch : Fin 96) (dly : Fin 8) (toY : Bool) (w : Fin 8)  -- IN_REPORT R261
  | inIv (ch : Fin 96) (dly : Fin 8) (toY : Bool) (lin : BitVec 4)  -- IN_IV R261
  | inTime (ch : Fin 96) (dly : Fin 8) (toY : Bool)  -- IN_TIME R261
  | rnOut (ch : Fin 96) (dly : Fin 8) (cont : Bool) (source : Fin 4) (lit : BitVec 5)  -- RN_OUT R261
  | rnMov (ch : Fin 96) (dly : Fin 8) (dst source : Fin 8) (lin : BitVec 4)  -- RN_MOV R261
  | rnPush (ch : Fin 96) (dly : Fin 8) (last bad : Bool) (cnt : Fin 4) (fromY nb : Bool)  -- RN_PUSH R261
  | rnPull (ch : Fin 96) (dly : Fin 8) (toY nb : Bool)  -- RN_PULL R261
  | setDrv (ch : Fin 96) (dly : Fin 8) (v : BitVec 5)  -- SET_DRV R262
  | setX (ch : Fin 96) (dly : Fin 8) (v : BitVec 5)  -- SET_X R262
  | setY (ch : Fin 96) (dly : Fin 8) (v : BitVec 5)  -- SET_Y R262
  | setLine (ch : Fin 96) (dly : Fin 8) (v : BitVec 5)  -- SET_LINE R262
  | setRxctl (ch : Fin 96) (dly : Fin 8) (v : BitVec 5)  -- SET_RXCTL R262
  | setTsarm (ch : Fin 96) (dly : Fin 8) (v : BitVec 5)  -- SET_TSARM R262
  | setBitph (ch : Fin 96) (dly : Fin 8) (v : BitVec 5)  -- SET_BITPH R262
  | setSc (ch : Fin 96) (dly : Fin 8) (v : BitVec 5)  -- SET_SC R262
  | ctlIrq (ch : Fin 96) (dly : Fin 8) (v : BitVec 5)  -- CTL_IRQ R262
  | ctlSync (ch : Fin 96) (dly : Fin 8) (v : BitVec 5)  -- CTL_SYNC R265
  | ctlDelay (ch : Fin 96) (dly : Fin 8) (v : BitVec 5)  -- CTL_DELAY R262
  | ctlSafe (ch : Fin 96) (dly : Fin 8) (v : BitVec 5)  -- CTL_SAFE R262
  | ctlHalt (ch : Fin 96) (dly : Fin 8) (v : BitVec 5)  -- CTL_HALT R262
  | rnIllegal (ch : Fin 96) (poisoned : Bool)  -- RN_ILLEGAL R263
  | rxSymbolComplete (ch : Fin 96) (samples : Sampled)  -- RX_SYMBOL_COMPLETE R246
  | txSymbolEnd (ch : Fin 96)  -- TX_SYMBOL_END R247
  | winProg (r : Src) (e : Fin 12) (w : Fin 4) (image : List Byte)  -- WIN_PROG R238
  | winSwapWait (by_ : By) (e : Fin 12) (w : Fin 4)  -- WIN_SWAP_WAIT R239
  | winSwapNow (by_ : By) (e : Fin 12) (w : Fin 4)  -- WIN_SWAP_NOW R239
  | winSwapForce (by_ : By) (e : Fin 12) (w : Fin 4)  -- WIN_SWAP_FORCE R242
  | winSwapCancel (by_ : By) (e : Fin 12) (w : Fin 4)  -- WIN_SWAP_CANCEL R239
  | channelFlip (ch : Fin 96)  -- CHANNEL_FLIP R241
  | engStart (by_ : By) (e : Fin 12) (mask : Byte)  -- ENG_START R264
  | engBitsync (by_ : By) (e : Fin 12) (mask : Byte)  -- ENG_BITSYNC R264
  | armActionArm (by_ : By) (e : Fin 12)  -- ARM_ACTION_ARM R264
  | armActionCancel (by_ : By) (e : Fin 12)  -- ARM_ACTION_CANCEL R268
  | armActionLand (e : Fin 12)  -- ARM_ACTION_LAND R264
  | stallWatchdog (ch : Fin 96)  -- STALL_WATCHDOG R266
  | chStart (by_ : By) (ch : Fin 96)  -- CH_START R269
  | chHalt (by_ : By) (ch : Fin 96)  -- CH_HALT R269
  | chRestart (by_ : By) (ch : Fin 96)  -- CH_RESTART R269
  | rxPop (core : Fin 20) (ch : Fin 96)  -- RX_POP R269
  | txPush (core : Fin 20) (ch : Fin 96) (v : Word)  -- TX_PUSH R256
  | chFlagsClear (by_ : By) (ch : Fin 96) (v : Word)  -- CH_FLAGS_CLEAR R269
  | runCntClear (r : Src) (ch : Fin 96) (v : Word)  -- RUN_CNT_CLEAR R271
  | pair (core : Fin 20) (opa : BitVec 5) (xa ya : BitVec 3) (opb : BitVec 5) (xb yb : BitVec 3) (z0 : Bool)  -- PAIR R306
  | nop (core : Fin 20)  -- NOP R314
  | addi (core : Fin 20) (rd rs : Fin 16) (imm : BitVec 9)  -- ADDI R314
  | cmpi (core : Fin 20) (rs : Fin 16) (imm : BitVec 9)  -- CMPI R314
  | andi (core : Fin 20) (rd rs : Fin 16) (imm : BitVec 9)  -- ANDI R314
  | ori (core : Fin 20) (rd rs : Fin 16) (imm : BitVec 9)  -- ORI R314
  | xori (core : Fin 20) (rd rs : Fin 16) (imm : BitVec 9)  -- XORI R314
  | shli (core : Fin 20) (rd rs : Fin 16) (imm : BitVec 9)  -- SHLI R314
  | shri (core : Fin 20) (rd rs : Fin 16) (imm : BitVec 9)  -- SHRI R314
  | sari (core : Fin 20) (rd rs : Fin 16) (imm : BitVec 9)  -- SARI R314
  | ld (core : Fin 20) (rd rs : Fin 16) (imm : BitVec 9)  -- LD R314
  | st (core : Fin 20) (rd rs : Fin 16) (imm : BitVec 9)  -- ST R314
  | lda (core : Fin 20) (rd : Fin 16) (n : Fin 4) (imm : BitVec 9)  -- LDA R314
  | sta (core : Fin 20) (rd : Fin 16) (n : Fin 4) (imm : BitVec 9)  -- STA R314
  | mfs (core : Fin 20) (rd : Fin 16) (sr : Fin 32)  -- MFS R314
  | mts (core : Fin 20) (sr : Fin 32) (rs : Fin 16)  -- MTS R314
  | mova (core : Fin 20) (n : Fin 4) (rs : Fin 16) (imm : BitVec 9)  -- MOVA R314
  | mfa (core : Fin 20) (rd : Fin 16) (n : Fin 4) (imm : BitVec 9)  -- MFA R314
  | push (core : Fin 20) (rd : Fin 16)  -- PUSH R277
  | pop (core : Fin 20) (rd : Fin 16)  -- POP R277
  | add (core : Fin 20) (rd rs rt : Fin 16)  -- ADD R314
  | sub (core : Fin 20) (rd rs rt : Fin 16)  -- SUB R314
  | adc (core : Fin 20) (rd rs rt : Fin 16)  -- ADC R314
  | sbc (core : Fin 20) (rd rs rt : Fin 16)  -- SBC R314
  | and (core : Fin 20) (rd rs rt : Fin 16)  -- AND R314
  | or (core : Fin 20) (rd rs rt : Fin 16)  -- OR R314
  | xor (core : Fin 20) (rd rs rt : Fin 16)  -- XOR R314
  | shl (core : Fin 20) (rd rs rt : Fin 16)  -- SHL R314
  | shr (core : Fin 20) (rd rs rt : Fin 16)  -- SHR R314
  | sar (core : Fin 20) (rd rs rt : Fin 16)  -- SAR R314
  | cmp (core : Fin 20) (rs rt : Fin 16)  -- CMP R314
  | mul (core : Fin 20) (rs rt : Fin 16)  -- MUL R283
  | mulu (core : Fin 20) (rs rt : Fin 16)  -- MULU R283
  | mac (core : Fin 20) (rs rt : Fin 16)  -- MAC R283
  | mulLand (core : Fin 20)  -- MUL_LAND R284
  | ldx (core : Fin 20) (rd rs rt : Fin 16)  -- LDX R314
  | stx (core : Fin 20) (rd rs rt : Fin 16)  -- STX R314
  | ldar (core : Fin 20) (rd : Fin 16) (n : Fin 4) (rt : Fin 16)  -- LDAR R314
  | star (core : Fin 20) (rd : Fin 16) (n : Fin 4) (rt : Fin 16)  -- STAR R314
  | cvbd (core : Fin 20) (rd rs : Fin 16)  -- CVBD R311
  | cvdb (core : Fin 20) (rd rs : Fin 16)  -- CVDB R311
  | freq (core : Fin 20) (rd rs rt : Fin 16)  -- FREQ R285
  | farDone (core : Fin 20) (tag : Fin 32)  -- FAR_DONE R287
  | farTimeout (core : Fin 20) (tag : Fin 32)  -- FAR_TIMEOUT R287
  | fwait (core : Fin 20) (rd rs : Fin 16)  -- FWAIT R288
  | fpoll (core : Fin 20) (rd rs : Fin 16)  -- FPOLL R288
  | waitmb (core : Fin 20) (rd rs : Fin 16)  -- WAITMB R294
  | waitmbRelease (core : Fin 20)  -- WAITMB_RELEASE R503
  | addd (core : Fin 20) (rd rs rt : Fin 16)  -- ADDD R309
  | subd (core : Fin 20) (rd rs rt : Fin 16)  -- SUBD R309
  | daj (core : Fin 20) (rd rs rt : Fin 16)  -- DAJ R310
  | bcondLow (core : Fin 20) (cond : Fin 8) (ofs : BitVec 14)  -- BCOND_LOW R312
  | bcondHigh (core : Fin 20) (cond : Fin 8) (ofs : BitVec 14)  -- BCOND_HIGH R312
  | jmp (core : Fin 20) (target : BitVec 15)  -- JMP R314
  | call (core : Fin 20) (target : BitVec 15)  -- CALL R278
  | jr (core : Fin 20) (rs : Fin 16)  -- JR R314
  | callr (core : Fin 20) (rs : Fin 16)  -- CALLR R314
  | ret (core : Fin 20)  -- RET R316
  | reti (core : Fin 20)  -- RETI R280
  | wait (core : Fin 20)  -- WAIT R293
  | setgie (core : Fin 20) (b : Bool)  -- SETGIE R317
  | lit (core : Fin 20) (rd : Fin 16) (lit : Word)  -- LIT R314
  | addl (core : Fin 20) (rd rs : Fin 16) (lit : Word)  -- ADDL R314
  | andl (core : Fin 20) (rd rs : Fin 16) (lit : Word)  -- ANDL R314
  | orl (core : Fin 20) (rd rs : Fin 16) (lit : Word)  -- ORL R314
  | xorl (core : Fin 20) (rd rs : Fin 16) (lit : Word)  -- XORL R314
  | cmpl (core : Fin 20) (rs : Fin 16) (lit : Word)  -- CMPL R314
  | illegalWord (core : Fin 20) (literal : Bool)  -- ILLEGAL_WORD R305
  | interruptEntry (core : Fin 20)  -- INTERRUPT_ENTRY R292
  | bankArm (core : Fin 20) (mask : BitVec 16)  -- BANK_ARM R298
  | bankCancel (core : Fin 20)  -- BANK_CANCEL R298
  | bankNow (core : Fin 20)  -- BANK_NOW R299
  | timerExpiry (core : Fin 20)  -- TIMER_EXPIRY R296
  | wdogWarn (core : Fin 20)  -- WDOG_WARN R295
  | wdogExpiry (core : Fin 20)  -- WDOG_EXPIRY R295
  | coreStart (r : Src) (core : Fin 20)  -- CORE_START R302
  | coreHold (r : Src) (core : Fin 20)  -- CORE_HOLD R302
  | coreReset (r : Src) (core : Fin 20)  -- CORE_RESET R302
  | ctxBind (r : Src) (c : Fin 128)  -- CTX_BIND R324
  | ctxStart (r : Src) (c : Fin 128)  -- CTX_START R323
  | ctxStop (r : Src) (c : Fin 128)  -- CTX_STOP R323
  | ctxUnbind (r : Src) (c : Fin 128)  -- CTX_UNBIND R323
  | ctxRestart (r : Src) (c : Fin 128)  -- CTX_RESTART R323
  | ctxRestoreDone (c : Fin 128)  -- CTX_RESTORE_DONE R332
  | contextBoundary (c : Fin 128)  -- CONTEXT_BOUNDARY R328
  | cyclePoint (c : Fin 128) (j : Fin 8)  -- CYCLE_POINT R328
  | ctxDone (agent : Fin 21) (c : Fin 128)  -- CTX_DONE R329
  | deadlineMiss (c : Fin 128)  -- DEADLINE_MISS R329
  | cpPendingClear (agent : Fin 21) (c : Fin 128) (v : Word)  -- CP_PENDING_CLEAR R331
  | ckptReq (agent : Fin 21) (c : Fin 128) (v : Word)  -- CKPT_REQ R332
  | ckptDone (c : Fin 128)  -- CKPT_DONE R332
  | ctxMigrate (r : Src) (c : Fin 128) (v : Word)  -- CTX_MIGRATE R334
  | migrationLand (c : Fin 128)  -- MIGRATION_LAND R335
  | migrationAbort (c : Fin 128)  -- MIGRATION_ABORT R335
  | ctxPersSwap (r : Src) (c : Fin 128) (v : Word)  -- CTX_PERS_SWAP R339
  | persSwapCancel (c : Fin 128)  -- PERS_SWAP_CANCEL R339
  | persDelete (r : Src) (j : Fin 256) (v : Word)  -- PERS_DELETE R341
  | ctxCntClear (r : Src) (c : Fin 128) (v : Word)  -- CTX_CNT_CLEAR R340
  | parserLookup (inp : Fin 101)  -- PARSER_LOOKUP R349
  | cellArrive (out inp : Fin 48) (cnt : BitVec 8)  -- CELL_ARRIVE R360
  | outputFrameStart (o : Fin 100)  -- OUTPUT_FRAME_START R354
  | outputUnderrun (o : Fin 100)  -- OUTPUT_UNDERRUN R355
  | ringRxDeliver (ep : Fin 21)  -- RING_RX_DELIVER R366
  | ringTxSend (ep : Fin 21)  -- RING_TX_SEND R366
  | meterClear (r : Src) (m : Fin 2048) (v : Word)  -- METER_CLEAR R369
  | qCntClear (r : Src) (q : Fin 1056) (v : Word)  -- Q_CNT_CLEAR R370
  | peakClear (r : Src) (q : Fin 1056) (v : Word)  -- PEAK_CLEAR R370
  | freeMinReset (r : Src) (v : Word)  -- FREE_MIN_RESET R371
  | scatterCommit  -- SCATTER_COMMIT R387
  | sweepEntry  -- SWEEP_ENTRY R389
  | contestClear (r : Src) (reg : Fin 1024) (v : Word)  -- CONTEST_CLEAR R383
  | regClear (r : Src) (reg : Fin 1024) (v : Word)  -- REG_CLEAR R396
  | regClearDone (reg : Fin 1024)  -- REG_CLEAR_DONE R396
  | regionWrite (r : Src) (reg : Fin 1024) (el : Fin 3) (v : Word)  -- REGION_WRITE R374
  | templateFire (n : Fin 4096)  -- TEMPLATE_FIRE R400
  | regCntClear (r : Src) (reg : Fin 1024) (v : Word)  -- REG_CNT_CLEAR R406
  | cellarCntClear (r : Src) (v : Word)  -- CELLAR_CNT_CLEAR R407
  | tbIncrWrite (r : Src) (n : Fin 8) (v : BitVec 48)  -- TB_INCR_WRITE R411
  | tbOffsetWrite (r : Src) (n : Fin 8) (v : BitVec 48)  -- TB_OFFSET_WRITE R412
  | tbSetWrite (r : Src) (n : Fin 8) (w0 w1 w2 w3 : Word)  -- TB_SET_WRITE R413
  | tbSyncedWrite (r : Src) (n : Fin 8) (v : Word)  -- TB_SYNCED_WRITE R418
  | syncLossTimeout (n : Fin 8)  -- SYNC_LOSS_TIMEOUT R418
  | tbReserveWrite (r : Src) (n : Fin 8) (v : Word)  -- TB_RESERVE_WRITE R417
  | tbSwitchReserve (r : Src) (n : Fin 8)  -- TB_SWITCH_RESERVE R419
  | tbSwitchOwn (r : Src) (n : Fin 8)  -- TB_SWITCH_OWN R419
  | revertHoldEnd (n : Fin 8)  -- REVERT_HOLD_END R419
  | convergedReserve (n : Fin 8)  -- CONVERGED_RESERVE R420
  | convergedOwn (n : Fin 8)  -- CONVERGED_OWN R420
  | disciplineWrite (r : Src) (which : Discipline) (v : Word)  -- DISCIPLINE_WRITE R563
  | tileAlignCheck (t : Fin 4) (ps : Int) (crcErrs : Nat)  -- TILE_ALIGN_CHECK R422
  | ppsInEdge (pps : Fin 4) (rising : Bool) (phase : Fin 8)  -- PPS_IN_EDGE R423
  | ppsOutEdge (pps : Fin 4)  -- PPS_OUT_EDGE R424
  | ppsPop (agent : Fin 21) (pps : Fin 4)  -- PPS_POP R427
  | tbCntClear (r : Src) (n : Fin 8) (v : Word)  -- TB_CNT_CLEAR R428
  | segStart (r : Src) (s_ : Fin 96)  -- SEG_START R449
  | segStop (r : Src) (s_ : Fin 96)  -- SEG_STOP R447
  | listenTimeout (s_ : Fin 96)  -- LISTEN_TIMEOUT R448
  | backoffEnd (s_ : Fin 96)  -- BACKOFF_END R448
  | slotTemplateFire (s_ : Fin 96) (slot : Fin 256)  -- SLOT_TEMPLATE_FIRE R442
  | slotSend (s_ : Fin 96) (slot : Fin 256)  -- SLOT_SEND R444
  | slotEnd (s_ : Fin 96) (slot : Fin 256) (atStart atEnd : Bool) (starts : List Int) (frame : List Byte)  -- SLOT_END R440
  | cycleEnd (s_ : Fin 96)  -- CYCLE_END R445
  | slotMapWrite (r : Src) (s_ : Fin 96) (image : List Byte)  -- SLOT_MAP_WRITE R449
  | segCntClear (r : Src) (s_ : Fin 96) (v : Word)  -- SEG_CNT_CLEAR R454
  | groupUpdate (g : Fin 4) (reached : Nat)  -- GROUP_UPDATE R458
  | commandFrame  -- COMMAND_FRAME R467
  | axCmd (r : Src) (a : Fin 4096) (rec_ : List Byte)  -- AX_CMD R467
  | jogTimeout (a : Fin 4096)  -- JOG_TIMEOUT R472
  | axisParamWrite (r : Src) (a : Fin 4096) (el : Fin 27) (v : BitVec 48)  -- AXIS_PARAM_WRITE R488
  | axUseWrite (r : Src) (a : Fin 4096) (v : Word)  -- AX_USE_WRITE R488
  | mVelWrite (r : Src) (m : Fin 16) (v : BitVec 48)  -- M_VEL_WRITE R463
  | axCntClear (r : Src) (a : Fin 4096) (v : Word)  -- AX_CNT_CLEAR R489
  | mailboxPost (src : Fin 21) (dst : Fin 21) (mbx : Fin 8) (body : List Word) (hdr : Word)  -- MAILBOX_POST R493
  | mailboxAck (ep : Fin 21) (mbx : Fin 8)  -- MAILBOX_ACK R497
  | mailboxRelease (ep : Fin 21) (mbx : Fin 8) (v : Word)  -- MAILBOX_RELEASE R497
  | collideClear (ep : Fin 21) (mbx : Fin 8) (v : Word)  -- COLLIDE_CLEAR R494
  | doorbellRing (bell : Bell) (v : Word)  -- DOORBELL_RING R500
  | doorbellRead (ep : Fin 21)  -- DOORBELL_READ R500
  | hostReset (v : Word)  -- HOST_RESET R491
  | pendSet (core : Fin 20) (w : Fin 3) (v : Word)  -- PEND_SET R505
  | pendClr (core : Fin 20) (w : Fin 3) (v : Word)  -- PEND_CLR R505
  | maskSet (core : Fin 20) (w : Fin 3) (v : Word)  -- MASK_SET R505
  | maskClr (core : Fin 20) (w : Fin 3) (v : Word)  -- MASK_CLR R505
  | imodExpiry (core : Fin 20)  -- IMOD_EXPIRY R508
  | gatherEdge (source : Fin 2048)  -- GATHER_EDGE R511
  | gcEnWrite (agent : Fin 21) (w : Fin 86) (v : Word)  -- GC_EN_WRITE R511
  | gcPendClr (w : Fin 86) (v : Word)  -- GC_PEND_CLR R510
  | gcPendSet (w : Fin 86) (v : Word)  -- GC_PEND_SET R510
  | msixUnmask (vec : Fin 32)  -- MSIX_UNMASK R511
  | logPost (core : Fin 20) (v : Word)  -- LOG_POST R514
  | consoleLine  -- CONSOLE_LINE R547
  | fwPrepare (r : Src) (v : Word)  -- FW_PREPARE R529
  | fwEraseDone  -- FW_ERASE_DONE R529
  | fwActivateRestart (r : Src)  -- FW_ACTIVATE_RESTART R530
  | fwActivateLive (r : Src)  -- FW_ACTIVATE_LIVE R530
  | activationTimeout  -- ACTIVATION_TIMEOUT R530
  | roleHolderWrite (r : Src) (role : Fin 9) (v : Word)  -- ROLE_HOLDER_WRITE R533
  | smbStatus (pec : Option Bool)  -- SMB_STATUS R538
  | smbAlertClear (data : List Byte) (pec : Option Bool)  -- SMB_ALERT_CLEAR R538
  | smbDictReq (data : List Byte) (pec : Option Bool)  -- SMB_DICT_REQ R96
  | smbDictResp (pec : Option Bool)  -- SMB_DICT_RESP R538
  | smbT0 (pec : Option Bool)  -- SMB_T0 R538
  | smbLog (data : List Byte) (pec : Option Bool)  -- SMB_LOG R538
  | smbRing (data : List Byte) (pec : Option Bool)  -- SMB_RING R538
  | smbHold (data : List Byte) (pec : Option Bool)  -- SMB_HOLD R538
  | smbRestart (data : List Byte) (pec : Option Bool)  -- SMB_RESTART R538
  | smbDomainOff (data : List Byte) (pec : Option Bool)  -- SMB_DOMAIN_OFF R538
  | smbWake (data : List Byte) (pec : Option Bool)  -- SMB_WAKE R538
  | smbClearFail (data : List Byte) (pec : Option Bool)  -- SMB_CLEAR_FAIL R538
  | smbAlertResponse  -- SMB_ALERT_RESPONSE R537
  | sumpRestart (r : Src) (v : Word)  -- SUMP_RESTART R539
  | alertClear (r : Src) (v : Word)  -- ALERT_CLEAR R539
  | clearFail (r : Src) (v : Word)  -- CLEAR_FAIL R539
  | dinSample (p : Fin 96) (cv : Vector Int 5)  -- DIN_SAMPLE R166
  | encEdge (p : Fin 96) (a b : Int) (held : Nat)  -- ENC_EDGE R173
  | degradingCondition (p : Fin 96) (q : Int)  -- DEGRADING_CONDITION R133
  | busRxError (p : Fin 96) (code : Fin 8) (more : Fin 3)  -- BUS_RX_ERROR R223
  | outputFrameEnd (o : Fin 100)  -- OUTPUT_FRAME_END R343
  | listenFrameReceived (s_ : Fin 96) (ago : Nat) (frame : List Byte)  -- LISTEN_FRAME_RECEIVED R448
  | perstRelease  -- PERST_RELEASE R491
  | brownOutReturn (rail : Fin 20)  -- BROWN_OUT_RETURN R551
  | vtfPresenceChange (t : Fin 4) (present : Bool) (dv : Nat)  -- VTF_PRESENCE_CHANGE R171
  | jtagInstruction (ir : BitVec 8)  -- JTAG_INSTRUCTION R546
deriving DecidableEq, Repr

end Sys2Proof
end

