-- ==== Sys2Proof/WellFormed.lean ====
section
/-! DEFINITION. Which commands are well formed: list operands have the lengths that the hardware gives them. -/
namespace Sys2Proof

/-- The lengths of list operands: the eight sensors of a sample (spec 02, R50), the twenty rails (R56), the traces of a sweep, at most
one for each of four pairs (spec 06, R160), and the body words of a mailbox message (spec 18, R492). -/
def Instr.wellFormed : Instr → Bool
  | .tjSample temps _ => temps.length == 8
  | .tapRailSample rails => rails.length == 20
  | .tdrProcEnd _ traces => decide (traces.length ≤ 4)
  | .mailboxPost _ _ _ body _ => decide (body.length ≤ 15)
  | _ => true

end Sys2Proof
end

