-- ==== Sys2Proof/Decode.lean ====
section
/-! DEFINITION. The command that a word of the opcode table spells. The table gives none of its rows any bits, so no word spells one:
commands reach the device with their operands, in its queue. -/
namespace Sys2Proof

/-- The command of a table word: none, since no row of spec/opcode_table.json has bits. -/
def decodeTableWord (_nbits _w : Nat) : Option Instr := none

/-- Bits n + m - 1 to n of a runnel operand, and one bit of it. -/
def opnd (w : BitVec 14) (n m : Nat) : Nat := w.toNat / 2 ^ n % 2 ^ m

/-- The command that a runnel instruction word is for channel `ch`, with the line bits of its slot: OP in [13:11], DLY in [10:8] and OPND in [7:0]
(R258), the operand fields of R259 to R262, reserved fields ignored. A word in a row marked illegal is RN_ILLEGAL (R263). -/
def decodeRunnel (ch : Fin 96) (lin : BitVec 4) (w : BitVec 14) : Instr :=
  let dly : Fin 8 := Fin.ofNat 8 (opnd w 8 3)
  let lit : BitVec 5 := BitVec.ofNat 5 (opnd w 0 5)
  match opnd w 11 3 with
  | 0 => .rnJmp ch dly (BitVec.ofNat 8 (opnd w 0 8))
  | 1 => .rnJcond ch dly (Fin.ofNat 8 (opnd w 5 3)) lit lin
  | 2 => .rnWait ch dly (Fin.ofNat 4 (opnd w 6 2)) (Fin.ofNat 8 (opnd w 3 3)) lin
  | 3 =>
    match opnd w 6 2 with
    | 0 => .inRhr ch dly (w.getLsbD 5) (w.getLsbD 4)
    | 1 => .inReport ch dly (w.getLsbD 5) (Fin.ofNat 8 (opnd w 0 3))
    | 2 => .inIv ch dly (w.getLsbD 5) lin
    | _ => .inTime ch dly (w.getLsbD 5)
  | 4 => .rnOut ch dly (w.getLsbD 7) (Fin.ofNat 4 (opnd w 5 2)) lit
  | 5 =>
    match opnd w 6 2 with
    | 0 => .rnMov ch dly (Fin.ofNat 8 (opnd w 3 3)) (Fin.ofNat 8 (opnd w 0 3)) lin
    | 1 => .rnPush ch dly (w.getLsbD 5) (w.getLsbD 4) (Fin.ofNat 4 (opnd w 2 2)) (w.getLsbD 1) (w.getLsbD 0)
    | 2 => .rnPull ch dly (w.getLsbD 1) (w.getLsbD 0)
    | _ => .rnIllegal ch false
  | 6 =>
    match opnd w 5 3 with
    | 0 => .setDrv ch dly lit
    | 1 => .setX ch dly lit
    | 2 => .setY ch dly lit
    | 3 => .setLine ch dly lit
    | 4 => .setRxctl ch dly lit
    | 5 => .setTsarm ch dly lit
    | 6 => .setBitph ch dly lit
    | _ => .setSc ch dly lit
  | _ =>
    match opnd w 5 3 with
    | 0 => .ctlIrq ch dly lit
    | 1 => .ctlSync ch dly lit
    | 2 => .ctlDelay ch dly lit
    | 3 => .ctlSafe ch dly lit
    | 4 => .ctlHalt ch dly lit
    | _ => .rnIllegal ch false

end Sys2Proof
end

