-- ==== Sys2Proof/Config.lean ====
section
/-! DEFINITION. What the manual leaves open as values: constants without a body. -/
namespace Sys2Proof.Config

/-- A free value of w bits, a fresh one for each count of State's free counter (log entry 6).
Nothing constrains it. -/
opaque freeValue (w n : Nat) : BitVec w

/-- A free natural number below `bound + 1`, for choices the manual bounds but does not fix (log entry 6). -/
opaque freeNat (n : Nat) : Nat

/-- The 16-bit maximal LFSR of a switch output after n decisions: R364 gives neither its polynomial nor its seed (log entry 6). -/
opaque lfsr16 (output n : Nat) : BitVec 16

/-- The word of the Attic in which a saved object starts: its layout there is not given (log entry 8). -/
opaque atticWord (key : Nat) : BitVec 17

/-- The chips of the TDR stimulus, chip 0 first: R163 does not give the generator of its 255-chip maximal-length sequence (log entry 6). -/
opaque tdrChip (n : Nat) : Bool

/-- The 8-bit instruction code of IDCODE: R546 does not give it (log entry 6). -/
opaque idcodeIr : BitVec 8

/-- Does an instruction code of the test access port select the boundary-scan chain? R546 gives no code (log entry 55). -/
opaque boundaryIr (ir : BitVec 8) : Bool

/-- The sub-tick phase, in units of 125 ps, that a capture point latches in a tick of TCK (R421; log entry 13). -/
opaque subTick (point tick : Nat) : BitVec 3

end Sys2Proof.Config
end

