-- ==== Sys2Proof/Machine/State.lean ====
section
/-! DEFINITION. The state of the Krerdolan as plain data, and the state right after reset. -/
namespace Sys2Proof.Machine


/-! ### Events, log, outputs (spec 01, 18, 20) -/

/-- An event-log entry (spec 18, R513). -/
structure LogEntry where
  seq : Nat
  t0us : Nat
  inst : Nat
  code : Nat
deriving DecidableEq, Repr

/-- What the block has sent to the outside, newest first (the model's own record, log entry 7). -/
inductive Out where
  | msix (vec : Nat)                                  -- one MSI-X message (R511)
  | aap (u : Nat) (addr : Nat) (dgram : List Byte)    -- an AAP datagram (R91)
  | smb (data : List Byte)                            -- an SMBus read response (R538)
  | hostData (lanes : List Nat)                       -- the 32-bit lanes of a host read (R111)
  | coreRead (ep : Nat) (v : Nat)                     -- the word an endpoint's read returned
  | notify (ctx : Nat) (words : List Nat)             -- a completion or notification to a management service
  | frame (port : Nat) (bytes : List Byte) (bad : Bool)   -- a frame on a line; ports 0 to 95, uplinks 96 to 99
  | upSends (u : Nat) (what : Nat)                     -- an uplink's MAC sends: 0 frames, 1 remote-fault ordered sets, 2 idle only (R197)
  | busFrame (port : Nat) (w0 w1 : Nat) (data : List Byte)  -- a frame on a priority bus
  | busFlag (port : Nat) (passive : Bool)             -- an error flag on a priority bus
  | uartLine (text : List Byte)                       -- what CON_TX sends for one entry (R547)
  | pps (i : Nat) (level : Bool)                      -- an edge of a PPS output (R424)
  | symbol (ch : Nat) (line : List Bool)              -- the bits of a symbol that a runnel channel starts on its line, in order (R245)
  | tapDrive (ir : Nat) (v : Nat)                     -- what a JTAG instruction selects (R546)
deriving DecidableEq, Repr

/-! ### The Tap and the mode manager (spec 02) -/

/-- Who holds or asks for a permit (spec 02, R63, R66). -/
inductive Holder where
  | core (ep : Nat)           -- firmware, by mailbox 7
  | port (p : Nat)            -- a port's enable reservation (R131)
  | retry (p : Nat)           -- a port retry (R159)
  | tileStart (t : Nat)       -- a tile cold start (R148)
  | tileCal (t : Nat)         -- a tile recalibration (R149)
  | tdr (p : Nat)             -- a TDR sweep (R160)
  | bank (core : Nat)         -- a core's bank swap burst (R298)
  | window (ew : Nat)         -- a runnel window load (R238)
  | region (r : Nat)          -- a region clear (R396)
  | save                      -- an Attic save (R98)
  | firmware                  -- flash activity of an update (R529)
  | geared                    -- the Geared reservation (R44)
  | pers (c : Nat)            -- a personality swap's load (R339)
  | roleMove (p : Nat)        -- loading a window for a role move (R143)
  | migrate (c : Nat)         -- loading a migration target (R334)
  | multi (r : Src)           -- a WRITE_MULTI whose item needs a permit (R82)
deriving DecidableEq, Repr

/-- Is the holder a line operation that a mode change ends of itself (R162, R150)? -/
def Holder.ofLine : Holder → Bool
  | .retry _ | .tdr _ | .tileStart _ | .tileCal _ => true
  | _ => false

/-- A permit or reservation in force (spec 02, R58); `ends` is absent for a reservation. -/
structure Permit where
  num : Nat
  amount : Nat
  prio : Nat
  seq : Nat
  ends : Option Nat
  holder : Holder
  tag : Nat
deriving DecidableEq, Repr

/-- A queued permit request (spec 02, R57). -/
structure TapReq where
  amount : Nat
  dur : Nat
  prio : Nat
  waitEnds : Nat
  seq : Nat
  holder : Holder
  tag : Nat
deriving DecidableEq, Repr

/-- The Tap's state beside its objects (spec 02, R56 to R62). -/
structure Tap where
  permits : List Permit := []
  queue : List TapReq := []
  sums : List Nat := []            -- the last 100 sums, newest first, mW
  rails : List (List Nat) := []    -- the last 100 samples of the 20 rails, newest first
  tooMuch : Nat := 0                  -- consecutive samples above the effective budget
  overSump : Nat := 0              -- the same, counted while the role is unserved (R61)
  limpOver : Option Nat := none    -- since when the draw is above the Limp budget after R59 was applied
deriving DecidableEq, Repr

/-- A live activation (spec 19, R530): the keeper in hand, since when, the copy, the keepers done and the holders before it. -/
structure FwAct where
  keeper : Nat
  since : Nat
  copy : Nat
  swapped : Bool            -- the keeper in hand runs the new image
  finished : List Nat
  holders : List Nat
deriving DecidableEq, Repr

/-- The mode manager's state beside its objects (spec 02). -/
structure ModeMgr where
  waiting : Option (Nat × Option Src × Nat) := none   -- a change waiting for the Geared permit: target, request, since
  reqBefore : Option Nat := none      -- what MODE_REQUEST read before the request that waits
  limpWait : Option Nat := none       -- R48 step 2: when the wait ends
  limpInHold : Bool := false          -- Limp constraints applied while in Hold
  limpClear : Option Nat := none      -- since when every Limp cause is clear (R49)
  overClear : Option Nat := none      -- since when the draw is below the overrun threshold (R49)
  gearedNum : Nat := 0                -- the Geared reservation, 0 none
  sensors : List (List Int) := []     -- the last 10 samples of the eight sensors, newest first
  warn : Bool := false                -- the thermal warning is up (R50)
  sumpTemp : Int := 0                 -- the Sump's own sensor, 0.1 degree
  thermCause : Bool := false          -- a thermal Limp cause is up
  migrating : List Nat := []          -- contexts moved on entry to Limp
  act : Option FwAct := none          -- a live activation that runs (R530)
deriving DecidableEq, Repr

/-! ### The Sump, pins and flash (spec 01, 19, 20) -/

/-- The SMBus target's state (spec 19, R537, R538). -/
structure Smb where
  addr : Nat := 0x5A                 -- the address in use
  lastStatus : Nat := 0
  pending : Bool := false            -- a DICT_REQ is with the keeper
  response : List Byte := []         -- the completion DICT_RESP returns
deriving DecidableEq, Repr

/-- The Sump's state beside area F (spec 01 R12 to R15, R34; 19 R534 to R538). -/
structure Sump where
  resetLow : Bool := true            -- RESET# is low (R518: held low at power-on)
  straps : Nat := 0                  -- BOOTSEL[1:0] as latched
  testMode : Bool := false           -- TEST_MODE was high at the last rising edge of RESET# (R546)
  holdLow : Bool := false            -- HOLD# is low
  perstLow : Bool := true            -- PERST# is low
  refAbsent : Bool := false          -- REFCLK25 is declared absent
  oscFrac : Nat := 0                 -- fractional accumulator of T0 on the Sump oscillator, in half nanoseconds
  hardHold : Bool := false           -- the drivers are held off (R35)
  sumpHold : Bool := false           -- the Sump's own hold cause
  kickAt : Nat := 0                  -- when the device watchdog was last fed
  mirror : List LogEntry := []       -- the newest 64 log entries, newest first
  smb : Smb := {}
  railsOut : List Nat := []          -- rails browned out and not yet back (R551)
  waitRef : Bool := false            -- a boot waits for REFCLK25 (R520)
  bootWhy : Nat := 0                 -- the cause of the restart whose boot waits (R33)
  bootAt : Nat := 0                  -- the T0 of the last RESET# edge or wake
  booting : Bool := false            -- the steps of R521 are not done yet
  startDue : Bool := false           -- START_MODE has not been entered since the boot began (R525)
  hostWindow : Bool := false         -- the host boot window is open (R526)
  hostWords : Nat := 0               -- words of the host's bundle taken so far
  bootCopy : Nat := 0                -- the copy in use, 2 host
  flashOk : Bool := false            -- a usable flash is fitted (R521 step 1)
  consoleQueue : List LogEntry := [] -- entries CON_TX has still to send (R547)
  consoleLost : Nat := 0
  wakeLow : Bool := false            -- WAKE# is low
  coldSinceVaon : Bool := true       -- no boot since power-on of VAON (R527)
  endpointSaved : Bool := false      -- the endpoint configuration is saved in PD0 (R536)
  keeperFails : List (Nat × Nat) := []   -- keeper and T0 of its watchdog expiries (R532)
  rillProg : List Nat := []          -- the Rillnet channel program of the image running (R433, R523)
deriving DecidableEq, Repr

/-- The working image of the saved objects as one flash copy holds it (spec 03, R98, R99).
The byte layout of a copy is not given, so the copy is kept as its content (log entry 8). -/
structure AtticImage where
  gen : Nat
  objs : SMap Int
  blobs : SMap (List Byte)
  version : Nat := 0x010000    -- the dictionary version of the firmware that saved it
  crc : Nat := 0               -- its CRC-32C
deriving DecidableEq, Repr

/-- External flash and OTP (spec 03 R98 to R102, 19 R522). -/
structure Store where
  flash : SMap Byte := []                  -- bytes that are not erased; an unlisted byte reads 0xFF
  atticA : Option AtticImage := none       -- Attic copy A, absent when invalid
  atticB : Option AtticImage := none
  saving : Option (Option Src × Bool × AtticImage × Nat × Nat) := none   -- SAVE running: request, copy B?, image, permit, the snapshot's number
  keyState : Nat := 1                      -- KEY_STATE
  keyHash : List Nat :=                    -- SHA-256 hashes of the four key slots (log entry 5)
    [0xd6c23e2744a840cb3a5a14b6554cce7c070057c4e3298cb93577de687eece659, 0, 0, 0]
  signer : Nat := 0                        -- the slot that signed the running image
  serial : Nat := 1               -- SERIAL of the model's part (log entry 5, PRESUMED)
  grade : Nat := 0                         -- GRADE: R1 leaves it to the part, and the model's part is IT (DESIGN CHOICE, log entry 58)
  macBase : Nat := 0
deriving DecidableEq, Repr

/-! ### The dictionary service (spec 03) -/

/-- What an in-flight transaction waits for. -/
inductive Wait where
  | permit (h : Holder)
  | portAnswer (p : Nat)
  | clearing (r : Nat)
  | flash
  | mode
  | role (p : Nat)
  | behind                     -- an earlier transaction on the same key (R81)
deriving DecidableEq, Repr

/-- A transaction in flight (spec 03, R80 to R83). -/
structure Tx where
  src : Src
  op : Nat
  key : Nat
  started : Nat
  wait : Wait
  took : Option Nat := none    -- the number at which it took effect, while it goes on
  args : List Nat := []        -- ARG and the payload
deriving DecidableEq, Repr

/-- A completion (spec 03, R74). -/
structure Compl where
  src : Src
  op : Nat
  status : Nat
  index : Nat
  seq : Nat
  data : List Nat
deriving DecidableEq, Repr

/-- A subscription (spec 03, R79). -/
structure Sub where
  via : Via
  num : Nat
  key : Nat
  onChange : Bool
  period : Nat
  sentAt : Nat
  last : List Nat
deriving DecidableEq, Repr

/-- An open DOMAIN_PUT transfer (spec 03, R77). -/
structure Put where
  key : Nat
  via : Via
  data : List Byte
  at_ : Nat
deriving DecidableEq, Repr

/-- An AAP session or an unanswered challenge (spec 03, R92 to R95). -/
structure AapSess where
  sess : Nat
  opened : Bool                -- WELCOME was sent
  up : Nat
  addr : Nat
  level : Nat
  cnonce : List Byte
  dnonce : List Byte
  at_ : Nat                    -- CHALLENGE time, then the last valid datagram
  key : List Byte              -- Ks
  rx : List (Nat × List Nat × List (List Byte))  -- the last 32 numbers taken, each with its requests' TIDs and its stored replies, newest first
  rxTop : Nat                  -- highest number received
  tx : Nat                     -- datagrams sent
deriving DecidableEq, Repr

/-- The quick window (spec 03, R89). -/
structure Quick where
  key : Nat := 0
  data0 : Nat := 0
  data1 : Nat := 0
  op : Nat := 0                        -- 1 READ, 2 WRITE of one word, 3 of two, not taken yet; 0 none
  busy : Bool := false
  overlap : Bool := false
  status : Nat := 0
  seq : Nat := 0
deriving DecidableEq, Repr

/-- The dictionary role's state (spec 03). -/
structure Dict where
  inflight : List Tx := []
  finished : List Compl := []          -- Hatch transactions waiting for a completion slot (R87)
  replies : List Compl := []           -- completions of the request in hand on a datagram or SMBus path
  subs : List Sub := []
  puts : List Put := []
  sess : List AapSess := []
  fails : List (Nat × Nat) := []       -- source address and T0 of failed proofs (R93)
  blocked : List (Nat × Nat) := []     -- source address and end of its 10 s block
  quick : Quick := {}
  rung : Bool := false                 -- a doorbell rung for the request ring and not yet served (R86)
  fwChunk : Option (Bool × List Byte) := none   -- a chunk of FW_BUNDLE that waits for its permit: FINAL and bytes (R529)
  took : Option Nat := none            -- the number at which the operation in hand took effect (R74)
  closedLevels : SMap Nat := []        -- the level of a closed session, for its transactions still in flight (R95)
  journal : Nat := 0                   -- entries written to the DICT role's journal (R83)
deriving DecidableEq, Repr

/-! ### Ports, tiles, MACs, uplinks, priority buses (spec 05 to 08) -/

/-- An enabling or mode write that waits for its reservation (spec 05, R131, R135). -/
structure PortReq where
  src : Option Src
  mode : Nat                 -- the mode the port is to enter
  isModeWrite : Bool
  answer : Option (Option Nat) := none    -- the Tap's answer: a permit number, or refused
deriving DecidableEq, Repr

/-- One discrete input's conditioning (spec 06, R166 to R171). -/
structure DinIn where
  filt : Bool := false
  lvl : Bool := false              -- the level of the last sample, before DIN_INVERT
  raw : Bool := false
  cnt : Nat := 0
  rejected : Nat := 0
  flutter : Bool := false
  stuck : Bool := false
  highSince : Nat := 0
  wbOpen : Nat := 0
  wirebreak : Bool := false
  testEnds : Nat := 0              -- T0 at which the wire-break test of this input ends (R171)
  winAt : Nat := 0                 -- T0 of the current FLUTTER_W window's start
  edgeAt : Option Nat := none      -- T0 of the last edge counted (R169)
deriving DecidableEq, Repr

/-- What a faulted port's retry is doing (spec 06, R159). -/
inductive Retry where
  | idle
  | delay (ends : Nat)
  | asked                    -- permit requested
  | answered (num : Option Nat)
  | window (num : Nat) (ends : Nat)
deriving DecidableEq, Repr

/-- A port's state beside its objects (spec 05, 06). -/
structure Port where
  since : Nat := 0              -- T0 of the last state change
  upSince : Nat := 0            -- T0 of the last entry to Up (LINK_TIME)
  serviceSince : Nat := 0       -- T0 of the last entry to Up or Degraded from below (R159)
  degrading : Bool := false
  winErr : Nat := 0             -- error counts of the current 1 s window (R127)
  goodWins : Nat := 0
  winAt : Nat := 0              -- T0 at which the current 1 s window began
  res : Nat := 0                -- the reservation held, 0 none
  req : Option PortReq := none
  lowOnly : Bool := false       -- R132 applied: 1.0 Vpp only
  recalEnds : Option Nat := none
  attempts : Nat := 1           -- n of R159
  retry : Retry := .idle
  overAt : Option Nat := none   -- T0 of the overcurrent that took the port to Fault, for an overvoltage in the same sample (R157)
  ocWas : Nat := 0              -- OC_EVENTS before that overcurrent
  idleQuiet : Bool := false     -- the last evaluation found an idle level within ±200 mV (R140)
  polSwap : Bool := false       -- M485: the front-end has swapped the pair (R140)
  din : List DinIn := [{}, {}, {}, {}, {}]
  dinFirst : Bool := true       -- the next sample restarts the filter (R170)
  dinAt : Nat := 0              -- T0 of the next sample (R166)
  errs : List (Nat × Nat) := [] -- error counts of the last second with their T0, newest first (R127)
  encA : Bool := false
  encB : Bool := false
  encIdx : Bool := false
  integrating : Bool := false   -- a bus integration runs
  inLatch : SMap Nat := []      -- second words of input-word pairs whose first word was read, by 8 x reader + word (R174)
  standFor : Option Nat := none -- the context the port's writes stand for (R380)
deriving DecidableEq, Repr

/-- A TDR sweep (spec 06, R160 to R165). -/
structure Sweep where
  port : Nat
  permit : Nat
  acquiring : Bool
  pairs : Nat
  ends : Nat                       -- T0 at which the acquisition ends
deriving DecidableEq, Repr

/-- A tile's state beside its objects (spec 05 R146 to R150, 06). -/
structure Tile where
  lostAt : Nat := 0
  autoAt : Option Nat := none       -- T0 of the next automatic attempt
  autoLeft : Nat := 0               -- automatic attempts still to come, that one included
  fails : Nat := 0
  startPermit : Option (Option Nat) := none  -- the Tap's answer to a cold start's request
  asked : Bool := false             -- a cold-start request is with the Tap
  askSrc : Option Src := none
  auto : Bool := false              -- the request in hand is an automatic attempt
  startEnds : Option Nat := none    -- a cold start runs until
  permit : Nat := 0
  calPort : Option Nat := none      -- the port a tile recalibration is at
  calPermit : Nat := 0
  vtfPresent : Bool := false
  supplyLow : Bool := false
  sweep : Option Sweep := none
deriving DecidableEq, Repr

/-- An egress timestamp record (spec 07, R193). -/
structure TsRec where
  dropped : Bool
  tag : Nat
  secs : Nat
  ns : Nat
deriving DecidableEq, Repr

/-- A frame MAC's state beside its objects (spec 07); MACs 0 to 95 are ports, 96 to 99 uplinks. -/
structure Mac where
  paused : Option Nat := none       -- T0 at which a PAUSE ends
  pauseNext : Option (Nat × Option Nat) := none  -- a PAUSE frame in reception: T0 of its end, from which the stop stands, and until when (R182)
  fifo : List TsRec := []
  latch : Option TsRec := none
  gapEnds : Nat := 0                -- T0 at which the interframe gap after the last frame ends (R178)
  cut : Bool := false               -- a hard hold stopped the driver during the frame on the line (R35)
deriving DecidableEq, Repr

/-- A gate control list with its times (spec 07, R199 to R202); times in ns of its base. -/
structure Gcl where
  entries : List (Nat × Nat)        -- gates and interval
  base : Nat
  cycle : Nat
deriving DecidableEq, Repr

/-- An uplink's state beside its objects (spec 07). -/
structure Uplink where
  armed : Option Gcl := none
  oper : Option Gcl := none
  idx : Nat := 0                    -- the entry in force
  entryEnds : Nat := 0              -- its end on GCL_TB
  faultSeen : Nat := 0              -- T0 at which a fault was last seen
  sends : Nat := 0                  -- what its MAC sends: 0 frames, 1 remote-fault ordered sets, 2 idle only (R197)
deriving DecidableEq, Repr

/-- A priority-bus controller (spec 08). `words` is the controller space by offset, an unlisted word reading 0;
words 25 of transmit buffers hold STATE, TWIN and the counts, words 24 of receive objects hold FULL and the rest. -/
structure BusCtl where
  words : SMap Nat := []
  shadow : SMap (List Nat) := []     -- words 0 to 23, 26 to 29 and 31 of shadow frames, by object
  shadowFull : List Nat := []
  active : Option Nat := none        -- the ACTIVE buffer
  abortActive : Bool := false        -- ABORT was given while ACTIVE
  sof : Nat := 0                     -- start-of-frame time of the attempt on BUS_TS_BASE
  suspendEnds : Nat := 0             -- T0 before which no attempt of its own starts (R224)
  twin : SMap Nat := []              -- consecutive twin-type bit errors per buffer
  listen : Bool := false             -- LISTEN_ONLY as of the last integration
  tsTag : SMap Nat := []             -- fabric-fed buffers that ask for a timestamp, with their tag
deriving DecidableEq, Repr

/-! ### Runnel engines (spec 09) -/

/-- One FIFO entry: 24 bits of data and a tag (spec 09, R253). -/
structure FifoEnt where
  data : Nat
  tag : Nat
deriving DecidableEq, Repr

/-- An entry of an RX FIFO, in the layout of R253, with what the channel knows of the frame that it begins or ends (spec 09, R250, R254). -/
structure RxEnt where
  data : Nat
  tag : Nat
  cause : Nat := 0            -- with END: why the frame has a bad tail, 0 for a good one
  drop : Bool := false        -- with END: the receive path was out of use (R142, R161)
  time : Nat := 0             -- with SOF: the ingress time
  est : Bool := false         -- with SOF: that time is estimated
deriving DecidableEq, Repr

/-- A symbol in RHR with its error marks (spec 09, R246, R249). -/
structure RxSym where
  sym : Nat
  ferr : Bool
  perr : Bool
  ovr : Bool
deriving DecidableEq, Repr

/-- The symbol format and the bit clock of a shifter (spec 09, R244, R245). -/
structure SymFmt where
  async : Bool
  bits : Nat
  parity : Nat
  stop : Nat
  msb : Bool
  div : Nat
deriving DecidableEq, Repr

/-- What blocks a channel's current instruction (spec 09, R266). -/
inductive Block where
  | none
  | pushFull | pullOpen | thrFull | sync      -- counted by the stall watchdog
  | waiting                                   -- WAIT, IN, or an empty FIFO with no frame open: not counted
deriving DecidableEq, Repr

/-- A runnel channel's state beside its objects (spec 09, R243). -/
structure Chan where
  x : Nat := 0
  y : Nat := 0
  tcmp : Nat := 0
  sc : Nat := 0
  scTx : Bool := false
  bank : Bool := false                 -- bank in use
  drv : Nat := 0
  rxOn : Bool := false
  armIn : Bool := false                -- SET TSARM [0]
  armAt : Nat := 0                     -- T0 at which it was set
  armOut : Bool := false               -- SET TSARM [1]
  cyc : Bool := false                  -- IV CYC
  thr : Option (Nat × Bool × Bool) := none    -- THR: symbol, CONT, first byte of a fabric frame
  shift : Option (Nat × Bool) := none  -- transmit shifter: symbol, CONT
  inRun : Bool := false                -- inside a continued run (R240)
  rhr : Option RxSym := none
  rferr : Bool := false                -- RSTAT [2:0], [7:6]
  rperr : Bool := false
  rovr : Bool := false
  rsof : Bool := false
  rend : Bool := false
  rxF : List RxEnt := []               -- RX FIFO, oldest first
  rxClose : List Nat := []             -- closures of torn frames, each by the number of RX entries in front of it (R242)
  txF : List FifoEnt := []             -- TX FIFO, oldest first
  txByte : Nat := 0                    -- bytes of the head TX entry already taken by OUT TXF
  newFrame : Bool := true              -- the next entry pushed carries SOF
  rxOpen : Bool := false               -- a frame toward the RX FIFO has no END yet
  pushed : List Byte := []             -- bytes of the frame pushed and not ended, in push order
  rxLostEnt : Bool := false            -- that frame lost an entry (R254)
  parsing : Bool := false              -- the parser has a frame of this channel open
  rxBytes : List Byte := []            -- its bytes, at most 2,000
  rxTime : Nat := 0                    -- its ingress time (R250)
  rxEst : Bool := false                -- that time is estimated
  txOpen : Bool := false               -- a transmit frame is open (R257)
  txBytes : List Byte := []            -- bytes of the open transmit frame (R255)
  txTs : List (Option Nat) := []       -- timestamp tags asked for by the frames whose first byte waits in the TX FIFO
  crcNext : List Byte := []            -- CRC bytes that follow the EOF byte in THR (R255)
  crcLeft : List Byte := []            -- CRC bytes still to append
  ingTs : Option Nat := none           -- captured ingress time
  rxTag : Nat := 0
  txTag : Nat := 0
  block : Block := .none
  blockedAt : Nat := 0                 -- T0 at which the current instruction blocked
  waitBit : Option Bool := none        -- the IV bit when a WAIT of mode 2 or 3 issued
  issueAt : Nat := 0                   -- T0 of the next slot in thirds of a ns (R231, R232)
  toWin : Option Nat := none           -- the window to which the channel flips at its next landing point (R339, R241)
  flipDue : Bool := false              -- a boundary passed in the middle of a shift (R241)
  bitAt : Nat := 0                     -- T0 at which the bit clocks were last restarted
  syncDly : Nat := 0                   -- DLY of the SYNC at which the channel waits (R232)
  pulled : Bool := false               -- PULL took the head of a frame, and no symbol has been sent since
  idleFrom : Nat := 0                  -- T0 of the last stop-bit sample, or at which the receiver was enabled (R243)
  rawAt : Option Nat := none           -- the end of the last symbol of a RAW receiver that has its bit phase, in 1/96 ns of T0 (R244, R246)
  fmtWas : List (Nat × SymFmt) := []   -- changes of the symbol format since the last symbol, oldest first: T0, and the format before (R245)
  lin : Nat := 0xB                     -- the line as last seen: the pairs of RXD and RXD2 at the pins, and [3] idle since (R243; log entry 46)
  drvEnds : Nat := 0                   -- T0 at which the AUTO driver goes off after a run (R248)
deriving DecidableEq, Repr

/-- A pending swap of a window (spec 09, R239). -/
structure WinSwap where
  win : Nat
  flipped : List Nat          -- channels 0 to 7 that have flipped
deriving DecidableEq, Repr

/-- A runnel engine's state beside its objects (spec 09). Program words are in memory. -/
structure Engine where
  active : List Bool := [false, false, false, false]   -- active bank of windows 0 to 3
  swaps : List WinSwap := []
  armed : Bool := false
  swapStatus : Nat := 0       -- word 10 [23:16]
  lens : SMap Nat := []       -- bytes of the program image in each bank, by 2 x window + bank (R238, R271)
  armWords : List Nat := []   -- the words of ARM_TIME as a core wrote them one by one (R268)
deriving DecidableEq, Repr

/-! ### Cores (spec 10, 11) and endpoints (spec 18) -/

/-- A far request in flight or completed (spec 10, R285 to R289). -/
structure FarReq where
  tag : Nat
  addr : Nat
  op : Nat
  cnt : Nat
  loc : Nat
  issued : Nat                 -- T0 of the issue
  words : Nat := 0             -- words performed
  ended : Option Nat := none   -- the status its words ended with, before completion is visible
  done : Option Nat := none    -- the completion status
deriving DecidableEq, Repr

/-- What a core's issue waits for (spec 10, R288, R293, R294). -/
inductive CoreWait where
  | none
  | wait
  | far (rd tag : Nat)
  | mailbox (rd operand since : Nat)
deriving DecidableEq, Repr

/-- An operation in the multiplier (spec 10, R283, R284); `lands` is the core cycle at whose end it lands. -/
structure MulOp where
  kind : Nat                   -- 0 MUL, 1 MULU, 2 MAC
  a : Word
  b : Word
  lands : Nat
deriving DecidableEq, Repr

/-- A core's registers and its local interrupt unit (spec 10 R272 to R301, 18 R505 to R508).
CORE_STATE, the bank and its identifiers, WDOG_RESETS and the fault counts are objects. -/
structure Core where
  g : Vector Word 16 := Vector.replicate 16 0
  a : Vector Word 4 := Vector.replicate 4 0
  pc : BitVec 15 := 0
  flags : BitVec 5 := 0            -- Z N C V D
  gie : Bool := false
  gieDue : Option Bool := none     -- a store to CORE_CTRL that is still outstanding: GIE takes it when the access completes (R317)
  dsp : Word := 0x007E00
  dsl : Word := 0x007A00
  rsd : Nat := 0
  rsb : Word := 0x007400
  hw : List Word := []             -- hardware return stack, top first, at most 32
  mh : Word := 0
  ml : Word := 0
  ov : Bool := false
  mulq : List MulOp := []          -- in issue order
  amode : Word := 0
  base : Vector Word 4 := Vector.replicate 4 0
  mlen : Vector Word 4 := Vector.replicate 4 0
  ctx : Word := 0
  cycHi : Word := 0                -- CYCHI as latched
  resetAt : Nat := 0               -- T0 of the core's reset
  cyc : Nat := 0                   -- the cycle since reset in which the next instruction issues
  accEnds : Nat := 0               -- the cycle at which the outstanding data access completes (R274)
  accReg : Nat := 0                -- the general register that it loads, 0 none
  accSr : Option Nat := none       -- the special register that it writes
  ivbase : Word := 0x007E00
  imod : Nat := 0
  t0mid : Word := 0
  t0hi : Word := 0
  faultKind : Nat := 0
  faultCount : Nat := 0
  faultStatus : Nat := 0
  faultAddr : Word := 0
  cpMask : BitVec 16 := 0
  swapStatus : Nat := 0
  swapPending : Bool := false
  swapNow : Bool := false          -- a now command waits for its permit or boundary
  swapPermit : Nat := 0
  wdogAt : Nat := 0                -- T0 of the last restart of WDOG
  wdogWarned : Bool := false
  tmrPeriod : Nat := 0
  tmrAt : Nat := 0
  mbto : Nat := 1000
  wait : CoreWait := .none
  trap : Option Nat := none        -- source 10 or 11 to be taken at the next boundary
  trapHeld : Bool := false         -- a trap was taken and no RETI has followed
  in63 : Bool := false             -- source 63 was taken and no RETI has followed
  far : List FarReq := []
  pend : Nat := 0                  -- pending state of the edge-sensed sources, one bit each
  level : Nat := 0                 -- input levels of sources 16 to 63
  mask : Nat := 2 ^ 64 - 1
  moder : Nat := 0
  sense : SMap Nat := []           -- SENSE of sources 16 to 62 that differ from 2
  imodEnds : Option Nat := none    -- T0 at which the hold-off ends
deriving DecidableEq, Repr

/-- A sender's status towards one receiver and mailbox (spec 18, R498). -/
structure SendStat where
  ack : Bool
  collided : Bool
  pepoch : Nat
deriving DecidableEq, Repr

/-- An endpoint's mailbox state (spec 18, R491 to R499). Bodies are in memory; epoch, doorbell and WAKE are objects.
`send` is keyed by 8 x receiver + mailbox and lists the mailboxes with POSTED set. -/
structure Endpoint where
  full : List Nat := []            -- mailboxes whose FULL is 1
  collide : List Nat := []
  send : SMap SendStat := []
  wakeWas : Option Nat := none     -- the WAKE bits when the domain went off (R501); none: it has not gone off
deriving DecidableEq, Repr

/-- The host endpoint and its PCI Express function (spec 04 R108, 18 R502, R511). -/
structure HostEp where
  target : Nat := 0                -- SEND_TARGET
  command : Nat := 0               -- the command register of the configuration space (R536)
  bars : Nat × Nat × Nat := (0, 0, 0)   -- the base addresses in BAR0, BAR2 and BAR4 (R108)
  msixCap : Nat := 31              -- message control of the MSI-X capability: table size less 1, function mask and enable
  d3hot : Bool := false            -- the power state D3hot, else D0 (R556)
  vecs : SMap (Nat × Nat × Nat × Nat) := []   -- MSI-X table: address low, high, data, control
  vmask : Nat := 2 ^ 32 - 1        -- masked vectors
  vpend : Nat := 0                 -- the pending-bit array
  linkUp : Bool := false           -- the endpoint accepts configuration requests
  rate : Nat := 0                  -- the link's rate in units of 0.1 GT/s: 25, 50 or 80, 0 while it is down (R556)
  lanes : Nat := 0                 -- its width: 1, 2 or 4 lanes, 0 while it is down
deriving DecidableEq, Repr

/-- The configuration that a warm restart keeps in PD0 (R536): the command register, the BARs, the MSI-X capability, table and pending bits. -/
def HostEp.config (h : HostEp) : HostEp :=
  { command := h.command, bars := h.bars, msixCap := h.msixCap, vecs := h.vecs, vmask := h.vmask, vpend := h.vpend }

/-- The gather controller (spec 18, R509 to R512): bit s of each number is source s. -/
structure Gather where
  pend : Nat := 0
  en : Nat := 0
  fired : Nat := 0
deriving DecidableEq, Repr

/-! ### Contexts and the catalogue (spec 12) -/

/-- A checkpoint copy (spec 12, R332). The pool's words are in memory at `base`; the header's generation is kept here too. -/
structure CkptCopy where
  valid : Bool := false
  gen : Nat := 0
deriving DecidableEq, Repr

/-- The parameters of a context that change at its next boundary only (spec 12, R330). -/
structure CtxEff where
  deadline : Nat
  cps : List Nat
  ckptEvery : Nat
  mgmt : Nat
  restartMax : Nat
deriving DecidableEq, Repr

/-- A context's state beside its objects (spec 12, R319 to R335). -/
structure Ctx where
  pending : Nat := 0               -- CP_PENDING
  resumed : Bool := false
  migrated : Bool := false
  swapped : Bool := false
  misses : Nat := 0                -- consecutive misses
  open_ : Bool := false            -- a cycle runs whose DONE is neither written nor missed
  doneSeen : Bool := false         -- DONE was written in this cycle
  boundaryAt : Nat := 0            -- time of the last boundary on the context's base, ns
  nextAt : Nat := 0                -- time of the next one
  notBefore : Nat := 0             -- a followed segment's start before this instant is no boundary (R323, R451)
  eff : Option CtxEff := none      -- the parameters in force since the last boundary
  copies : CkptCopy × CkptCopy := ({}, {})
  copying : Option Bool := none    -- a checkpoint copy runs: into the second copy?
  ckptStatus : Nat := 0
  restarts : List Nat := []        -- T0 of the restarts of the last 60 s
  migTarget : Option Nat := none   -- an armed migration's target core
  migSlot : Nat := 0
  migHeld : Bool := false          -- the boundary source is withheld at the source core
  swapEntry : Option Nat := none   -- a personality swap armed: the new entry
  swapAt : Nat := 0
  swapProfile : List Nat := []     -- the port profile that the swap brings (R346)
  swapWins : List (Nat × Nat × Bool) := []  -- where its channel programs are: port, window, and whether in the shadow bank of the channel's own window (R339)
  cpFired : Nat := 0               -- cycle points raised since the boundary
  ports : List Nat := []           -- ports by context port index
deriving DecidableEq, Repr

/-- An installed bundle: its place in the Larder's bundle pool (spec 12, R338). -/
structure Bundle where
  base : Nat
  words : Nat
  inFlash : Bool := false
deriving DecidableEq, Repr

/-! ### The Sluice and the Cistern (spec 13) -/

/-- The envelope (spec 13, R345). -/
structure Env where
  mc : Bool := false
  dest : Nat := 0
  cls : Nat := 0
  colour : Nat := 0
  ct : Bool := false
  fcsIn : Bool := false
  src : Nat := 0
  rate : Nat := 0
  vid : Nat := 0
  tsReq : Bool := false
  oneStep : Bool := false
  tsEst : Bool := false
  tsTb : Nat := 0
  tsTag : Nat := 0
  tsOff : Nat := 0
  csumOff : Nat := 0
  ctxV : Bool := false
  ctx : Nat := 0
  ingS : Nat := 0
  ingNs : Nat := 0
  hit : Bool := false
  mat : Nat := 0
  mv : Bool := false
  meter : Nat := 0
  aux : Nat := 0
deriving DecidableEq, Repr

/-- A received frame at an ingress parser, with what its line engine says of it (spec 13, R349 to R352). -/
structure RxFrame where
  bytes : List Byte
  bad : Bool
  cause : Nat
  vid : Nat
  cls : Nat
  ingTb : Nat
  ingTime : Nat                    -- ns on that base
  est : Bool
  rate : Nat
  fcsIn : Bool := false            -- the last four bytes are the frame's FCS (R180)
deriving DecidableEq, Repr

/-- A cell in transit or held (spec 13, R342, R344). -/
structure FCell where
  sof : Bool
  eof : Bool
  bad : Bool
  cause : Nat
  inp : Nat
  sub : Nat
  dep : BitVec 16                  -- DEP: the FCK count at which it left its input
  len : Nat
  seq : Nat
  out : Nat
  mask : Nat                       -- field-port mask of a multicast copy, 0 for unicast
  env : Env                        -- meaningful in a head cell
  data : List Byte
  slot : Nat := 0                  -- the slot in which its source gives it
deriving DecidableEq, Repr

/-- A frame in a queue (spec 13, R343, R360 to R366). -/
structure QFrame where
  id : Nat
  env : Env
  data : List Byte
  tail : Option (Bool × Nat)       -- BAD and CAUSE once the tail has been linked
  dep : Nat
  headAt : Nat
  len : Nat
deriving DecidableEq, Repr

/-- A stream of (output, input, SUB, field port): the frame its later cells belong to, or a refused one. -/
structure Stream where
  out : Nat
  inp : Nat
  sub : Nat
  queues : List (Nat × Nat)        -- queue and frame id of each admitted copy
deriving DecidableEq, Repr

/-- What an output has on its line (spec 13, R354, R355). -/
structure OnLine where
  queue : Nat
  frame : QFrame
  started : Nat
  ts : Nat := 0                    -- the egress time captured, in ns of TS_BASE (R188)
deriving DecidableEq, Repr

/-- A meter's buckets, in bytes with 16 fractional bits, as of T0 `at_` (spec 13, R363). -/
structure Buckets where
  tc : Int
  tp : Int
  at_ : Nat
deriving DecidableEq, Repr

/-- Whose set a list or template belongs to (spec 14, R404). -/
inductive Owner where
  | ctx (c : Nat)
  | dev
  | seg (s : Nat)
  | coming (c : Nat)     -- a context's next set, resolved beside the present one (R339)
deriving DecidableEq, Repr

/-- A match-store entry with whose entry it is (spec 13, R348, R350). -/
structure MatchEnt where
  owner : Owner
  bytes : List Byte
  poison : List Nat := []          -- its poisoned 8-byte groups (R119)
deriving DecidableEq, Repr

/-- The switch's state beside its objects (spec 13). -/
structure Switch where
  rx : SMap (List RxFrame) := []           -- frames waiting at parsers: ports 0 to 95, uplinks 96 to 99, host 100
  counts : SMap Nat := []                  -- next count per 48 x input + output (R360)
  expect : SMap Nat := []                  -- next expected count per 48 x output + input
  slot : Nat := 0                          -- the free-running slot count t (R357)
  src : SMap (List (List FCell)) := []     -- per 8 x input + SUB: cells the source has yet to give, in order (R352)
  stage : SMap (List (List FCell)) := []   -- per 49 x input + output: staged cells; output 48 is the multicast stage (R353)
  mids : SMap (List FCell) := []           -- per 49 x middle + output: the unicast slots; 48 is the multicast slot, the copies still to send (R357, R359)
  transit : List FCell := []               -- cells sent by a middle, on their way to their output
  held : List FCell := []                  -- cells at an output, not linked yet
  streams : List Stream := []
  queues : SMap (List QFrame) := []
  nextId : Nat := 0
  avg : SMap Nat := []                     -- RED averages in 1/256 cell
  lfsr : SMap Nat := []                    -- decisions made per output (R364)
  buckets : SMap Buckets := []             -- meters that differ from full
  deficit : SMap Int := []                 -- per 4 x output + class
  rr : SMap Nat := []
  lock : SMap (Int × Nat) := []            -- Lockstep bucket per field port, 16 fractional bits, with its T0
  line : SMap OnLine := []                 -- per output 0 to 99
  mstore : SMap MatchEnt := []            -- match store, by entry index
  spoilt : List Nat := []                  -- ids of frames with a poisoned Cistern cell whose tail is not linked yet (R119)
  profiles : SMap (List Nat) := []         -- profile of each field port bound, 10 words
  ptr : SMap Nat := []                     -- rotating pointer of each input (R358)
  txOpen : SMap Nat := []
  notLoaded : List Nat := []               -- saved tables that failed their checks at boot (R527)
deriving DecidableEq, Repr

/-! ### The Cellar's units (spec 14) -/

/-- A run of words taken in the body area 0x270000 to 0x27FFFF (spec 14, R397, R407). -/
structure Alloc where
  start : Nat
  len : Nat
  owner : Owner
  tpl : Bool
deriving DecidableEq, Repr

/-- An installed template (spec 14, R397, R404); its header stands in memory at `hdr`.
`nextAt` is its next firing on its time base in ns; a slot template has none (R442). -/
structure Tpl where
  hdr : Nat
  owner : Owner
  nextAt : Option Nat
deriving DecidableEq, Repr

/-- The Cellar units' state beside the entries (which are in memory) and the objects. -/
structure Cellar where
  latch : SMap (Nat × List Nat) := []      -- a core's entry latch: entry and words 1 to 3 (R391)
  stage : SMap (Nat × Nat) := []           -- a core's staging register: entry and word 0 (R392)
  contestPend : SMap Nat := []             -- regions with a contest clear pending, with the entries left to visit (R383)
  contested1 : List Nat := []              -- regions with a contest since their contest clear (R381)
  sweepAt : Nat := 0                       -- the sweeper's position (R389)
  sweepBegan : Nat := 0                    -- T0 at which its present pass began
  clearing : List Nat := []                -- regions whose clear is running (R396)
  lists : SMap (Owner × Bool) := []        -- scatter lists by index, with whether each met its limits (R399)
  tpls : SMap Tpl := []                    -- installed templates by number
  alloc : List Alloc := []
deriving DecidableEq, Repr

/-! ### Time bases and PPS (spec 15) -/

/-- A time base T1 to T7 (spec 15, R408 to R420). Values are in units of 2^-32 ns. -/
structure TimeBase where
  src : Nat := 0
  pub : Nat := 0
  incr : Nat := 0x0100000000           -- TB_INCR
  state : Nat := 0                     -- TB_STATE
  synced : Bool := false
  lost : Bool := false                 -- the flag is 0 after a loss (R419)
  syncEnds : Nat := 0                  -- T0 at which the loss timer ends, while the flag is 1
  syncedAt : Nat := 0                  -- T0 at which the flag last rose
  slewLeft : Int := 0                  -- the offset still to add
  slewPart : Int := 0                  -- what each tick adds
  slewTicks : Nat := 0                 -- ticks left
  incrHi : Nat := 0                    -- staged control words (R427)
  ofsHi : Nat := 0
  setStage : List Nat := [0, 0, 0]
  latched : List Nat := [0, 0, 0]      -- words 1 to 3 as latched by a read of word 0
deriving DecidableEq, Repr

/-- A PPS input (spec 15, R423, R427): records are (time on PPS_IN_TB, T0) in ns, oldest first. -/
structure PpsIn where
  fifo : List (Nat × Nat) := []
  latched : List Nat := []             -- words 1 to 8 as latched
  lastAt : Option Nat := none
deriving DecidableEq, Repr

/-- The bases T1 to T7 after a change of one of them, at T0 = `at_`, with the TB_RESERVE and TB_SLEW_MAX that they then followed (R420, R421). -/
structure TbPast where
  at_ : Nat
  bases : List TimeBase
  reserves : List Nat
  slews : List Nat
deriving DecidableEq, Repr

/-- The time-base unit (spec 15). `bases` lists T1 to T7. -/
structure TimeUnit where
  bases : List TimeBase := List.replicate 7 {}
  t0Latched : List Nat := [0, 0, 0]    -- words 1 to 3 of T0 as latched
  ppsIn : List PpsIn := List.replicate 4 {}
  ppsHigh : List Bool := List.replicate 4 false
  alignAt : List Nat := List.replicate 4 0    -- when each tile's next alignment check is due (R422)
  hist : List TbPast := []                    -- the latest changes of the bases, newest first (R421)
  gmId : Option (List Byte) := none           -- the grandmaster that the 802.1AS profile follows (R425, R430)
deriving DecidableEq, Repr

/-! ### Rillnet segments (spec 16) -/

/-- The outcome words of one slot (spec 16, R453). -/
structure SlotCnt where
  last : Nat := 0
  cyc : Nat := 0
  empty : Nat := 0
  edge : Nat := 0
  collided : Nat := 0
deriving DecidableEq, Repr

/-- A slot's observation in the current cycle, once it has ended (spec 16, R440, R445). -/
structure SlotObs where
  slot : Nat
  outcome : Nat                        -- the codes of R453
  sync : Bool
  cstart : Bool
  own : Bool
  dev : Int                            -- deviation in ns
deriving DecidableEq, Repr

/-- A segment's sequencer (spec 16, R431 to R453). Instants are in units of 2^-32 ns on SEG_TB;
the rate correction is in units of 2^-64. SEG_STATE and the counters are objects. -/
structure Segment where
  port : Nat := 0
  listenEnds : Option Nat := none      -- ns on SEG_TB
  backoffEnds : Option Nat := none     -- ns on SEG_TB
  csFault : Bool := false
  held : Bool := false
  attempts : Nat := 0
  start : Nat := 0                     -- S of the current cycle; after CYCLE_END, that of the next one
  startWas : Nat := 0                  -- S of the cycle before it
  rhoWas : Int := 0                    -- the rate correction that the cycle before it ran with
  countedWas : Bool := false           -- that cycle's slots were classified (R440)
  cyc : Nat := 0                       -- own cycle count
  cycles : Nat := 0                    -- SEG_CYCLE
  rho : Int := 0
  applied : Int := 0                   -- offset applied at the end of the previous cycle
  off : Int := 0
  obs : List SlotObs := []             -- slots of the current cycle that have ended
  prev : List SlotObs := []            -- those of the previous cycle
  carry : Bool := false                -- a symbol ran over the end of the slot before (R440)
  sent : Nat := 0                      -- cold-start cycles sent without collision
  counted : Nat := 0                   -- counting cycles VALID
  adopted : Nat := 0                   -- the adopted slot
  adoptCycle : Bool := false           -- the current cycle is the adoption cycle
  waiting : Bool := false              -- the wait cycle runs
  heard : Nat := 0                     -- consecutive cycles with a VALID sync frame from another node
  missed : Nat := 0                    -- consecutive cycles without one
  good : Nat := 0                      -- consecutive cycles of the PASSIVE return
  slots : SMap SlotCnt := []
  tpls : SMap Nat := []                -- template number of each sending slot
  fireNext : SMap Int := []            -- by slot: how many cycles after the current one its next firing is for; negative where one has been missed
  lists : SMap Nat := []               -- scatter list of each receiving slot
  ownSent : List Nat := []             -- slots in which the device has sent in the current cycle
  newMap : Option (List Byte) := none  -- a SLOT_MAP that replaces the sets at the next cycle start
  latched : List Nat := []             -- words 1 to 8 as latched (R452)
deriving DecidableEq, Repr

/-! ### The profile unit (spec 17) -/

/-- A queued gear step with its place in the step pool (spec 17, R476). -/
structure GStep where
  idx : Nat
  dir : Nat
  mpos : Int
  num : Int
  den : Nat
  blend : Nat
  tag : Nat
deriving DecidableEq, Repr

/-- One segment of a plan: its length in seconds, the acceleration at its start and its jerk (spec 17, R470). -/
structure Seg where
  dur : Rat
  acc : Rat
  jerk : Rat
deriving DecidableEq, Repr

/-- A running plan: where and when it starts, its segments, and what it ends in (spec 17, R470).
`t` is an instant of the group's time base in ns. -/
structure Plan where
  p : Rat
  v : Rat
  t : Rat
  segs : List Seg
  endAt : Option Rat                   -- the position it ends at exactly
  vEnd : Rat                           -- the velocity it ends with
deriving DecidableEq, Repr

/-- A motion that a plan is to be made for (spec 17, R470 to R473). -/
inductive Want where
  | target (p : Int) (vl : Rat) (rel : Bool)
  | speed (v dec : Rat)                -- one phase to a velocity, with the deceleration to use
deriving DecidableEq, Repr

/-- An accepted command that waits for its axis's next update (spec 17, R459). -/
structure AxCmd where
  op : Nat
  words : List Nat                     -- words 1 to 7
  at_ : Nat := 0                       -- T0 at which it was received
deriving DecidableEq, Repr

/-- Homing work (spec 17, R484 to R486). -/
structure Homing where
  phase : Nat := 0                     -- 0 moving off, 1 search, 2 creep off, 3 creep on, 4 index, 5 final rest, 6 reversed search
  braking : Bool := false              -- coming to rest before the phase's motion
  quick : Bool := false                -- braking at D_FAULT (R461, R485)
  startAt : Nat := 0                   -- the first phase waits for a released axis until then, in ns of the group's base (R481)
  seen : Bool := false                 -- the reversed search has met HOME
  latch : Option Rat := none
  ended : Bool := false                -- ended without a home, coming to rest
  lastCount : Nat := 0                 -- the home input's edge counter
  idx : Nat × Nat := (0, 0)            -- the index latch last seen
  winAt : Nat := 0                     -- T0 of the present chatter window's start
  chatter : Nat := 0
  phaseAt : Nat := 0                   -- T0 at which the phase began
deriving DecidableEq, Repr

/-- An axis's working state (spec 17, R487 words 32 to 63); the record in memory mirrors it. -/
structure Axis where
  state : Nat := 0
  fault : Nat := 0
  profile : Nat := 0
  atRest : Bool := false
  zeroOnce : Bool := true              -- the velocity was 0 at the last update
  homed : Bool := false
  homeResult : Nat := 0
  pos : Rat := 0
  vel : Rat := 0
  acc : Rat := 0
  posAt : Nat := 0                     -- the instant of pos and vel, in ns of the group's base
  target : Int := 0
  plan : Option Plan := none
  nextMove : Option Want := none       -- held until the acceleration is 0 (R471)
  r0 : Rat := 0
  r1 : Rat := 0
  ratio : List Nat := [0, 1, 0, 1]     -- NUM, DEN, NUM0, DEN0 as words
  blend : Nat := 0
  x : Int := 0
  pref : Rat := 0
  fresh : Bool := false                -- no update since the GEAR (R464)
  steps : List GStep := []
  tag : Nat := 0
  restAt : Option Nat := none          -- T0 since which AT_REST holds
  rested : Bool := false               -- the standstill policy is applied
  jogEnds : Option Nat := none
  prevPos : Int := 0                   -- POS committed at the previous update
  fe : Int := 0
  feCount : Nat := 0
  fbCount : Nat := 0
  homing : Homing := {}
  cmds : List AxCmd := []
  notes : List (Nat × Nat × Option Nat) := []   -- notifications due at the next commit: code, tag, instant
  ctrl : Nat := 0
deriving DecidableEq, Repr

/-- A master's sampling state (spec 17, R463, R464). -/
structure Master where
  prev : SMap Int := []                -- the position before M_MODULO at the previous update, by group
  velAt : Nat := 0                     -- T0 of the last M_VEL write
  velPos : Rat := 0                    -- the VIRTUAL position then
deriving DecidableEq, Repr

/-- A servo group: its next sample instant k, and where a stopped update goes on (spec 17, R456, R458). -/
structure Group where
  next : Nat := 0
  resume : Nat := 0
deriving DecidableEq, Repr

/-- The profile unit (spec 17). -/
structure Motion where
  axes : SMap Axis := []
  masters : SMap Master := []
  groups : SMap Group := []
  allRest : Bool := true               -- every axis at rest, as judged after the last group update (R465)
  limpAt : Option Nat := none          -- T0 at which a Limp cause was applied in Hold (R469)
deriving DecidableEq, Repr

/-! ### The whole block -/

/-- What one part of a command leaves for another part of the same command to carry on:
answers and calls between the units. The list is drained inside the command (log entry 9). -/
inductive Work where
  | granted (h : Holder) (num amount tag : Nat)  -- the Tap granted a queued request (R57)
  | refused (h : Holder) (tag : Nat)           -- the Tap refused a queued one
  | revoked (h : Holder) (num amount tag : Nat)  -- a reservation was revoked (R60)
  | limp (causes : Nat)                        -- Limp causes raised (R48)
  | hold (causes : Nat)                        -- Hold causes raised (R34, R43)
  | ring (ep bits : Nat)                       -- a doorbell ring to act on (R500)
  | restart (cause : Nat)                      -- a warm restart (R536)
  | dictTaken                                  -- a keeper takes the dictionary role over (R83)
deriving DecidableEq, Repr

/-- Memory by 24-bit words: listed words differ from what an unlisted word reads as (log entry 4). -/
abbrev Memory := List (Nat × Word)

/-- The last store of a core, or write of the host, to a shared memory: what the word held before it, and what it was given (spec 01, R32). -/
structure LastStore where
  addr : Nat
  old : Nat
  new : Nat
  bad : Bool                   -- the word was poisoned
deriving DecidableEq, Repr

/-- Single-bit errors that reads met and corrected in what they delivered (spec 04, R117). -/
structure Ecc where
  pending : List (Nat × Nat × Nat) := []   -- write-backs that wait for their bank: bank, place, T0
  left : List Nat := []                    -- places whose bank had four waiting: the scrubber repairs them
deriving DecidableEq, Repr

/-- Everything but the queue. -/
structure Dev where
  now : Nat := 0                       -- T0 in ns (R408, R409)
  seq : Nat := 0                       -- sequence numbers issued (R25)
  doms : Nat := 3                      -- power domains that are on, one bit each: PD0 and PD1 (R16, R517)
  free : Nat := 0                      -- the model's own count of free values drawn (log entry 6)
  od : SMap Int := []                  -- dictionary objects that differ from their defaults
  blob : SMap (List Byte) := []        -- DOM objects
  mem : Memory := []
  poison : List Nat := []              -- poisoned words, rising (R119)
  ecc : Ecc := {}
  sump : Sump := {}
  store : Store := {}
  tap : Tap := {}
  mm : ModeMgr := {}
  dict : Dict := {}
  eps : SMap Endpoint := []
  host : HostEp := {}
  gather : Gather := {}
  ports : SMap Port := []
  tiles : SMap Tile := []
  macs : SMap Mac := []
  ups : SMap Uplink := []
  buses : SMap BusCtl := []
  engines : SMap Engine := []
  chans : SMap Chan := []
  cores : SMap Core := []
  ctxs : SMap Ctx := []
  bundles : SMap Bundle := []
  sw : Switch := {}
  cellar : Cellar := {}
  time : TimeUnit := {}
  segs : SMap Segment := []
  motion : Motion := {}
  logAt : SMap Nat := []               -- T0 of the last entry of each rate-limited event, by code x 65536 + instance
  stores : SMap LastStore := []        -- the last store to a shared memory of each agent, by core, 20 the host (R32)
  out : List Out := []
  work : List Work := []
deriving DecidableEq, Repr

/-- The state: the block and the queue of commands that wait, first in, first out. -/
structure State where
  pending : List Instr := []
  dev : Dev := {}
deriving DecidableEq, Repr

/-- Faults: a command whose operands do not have the shape of anything the outside can present. Safe. -/
inductive Fault where
  | malformed (what : String)          -- raised by a command whose list operand has an impossible length; safe
deriving DecidableEq, Repr

/-- Refusals: commands that the model does not run. Safe. -/
inductive Refusal where
  | notModelled (mnemonic : String)    -- raised by Dispatch for a command without a meaning; safe
deriving DecidableEq, Repr

/-- Right after power-on: Dormant, RESET# low, T0 at 0 (spec 19, R517, R518). -/
def State.reset : State := {}

end Sys2Proof.Machine
end

