-- ==== Sys2Proof/Machine/Ops.lean ====
section
/-! DEFINITION. Sparse maps, numbers and bytes, memory words, and the parts of the block by number. -/
namespace Sys2Proof.Machine

/-! ### Sparse maps -/

/-- The value at a key, absent when unlisted. -/
def mget? {α : Type} (m : SMap α) (k : Nat) : Option α :=
  match m with
  | [] => none
  | (j, v) :: r => if j = k then some v else mget? r k

/-- The value at a key, `d` when unlisted. -/
def mget {α : Type} (m : SMap α) (k : Nat) (d : α) : α := (mget? m k).getD d

/-- List a value at a key, in rising key order. -/
def mput {α : Type} (m : SMap α) (k : Nat) (v : α) : SMap α :=
  match m with
  | [] => [(k, v)]
  | (j, w) :: r => if j = k then (k, v) :: r else if k < j then (k, v) :: (j, w) :: r else (j, w) :: mput r k v

/-- Drop a key. -/
def mdel {α : Type} (m : SMap α) (k : Nat) : SMap α := m.filter (fun e => e.1 != k)

/-- Change the value at a key. -/
def mmod {α : Type} (m : SMap α) (k : Nat) (d : α) (f : α → α) : SMap α := mput m k (f (mget m k d))

/-- Insert a number into a rising list. -/
def insNat (k : Nat) : List Nat → List Nat
  | [] => [k]
  | j :: r => if j = k then j :: r else if k < j then k :: j :: r else j :: insNat k r

/-! ### Numbers -/

/-- v with bit n set to b. -/
def putBit (v n : Nat) (b : Bool) : Nat :=
  if v.testBit n = b then v else if b then v + 2 ^ n else v - 2 ^ n

/-- v with bits [hi:lo] replaced by x. -/
def putBits (v hi lo x : Nat) : Nat :=
  v - (bits v hi lo) * 2 ^ lo + (x % 2 ^ (hi + 1 - lo)) * 2 ^ lo

/-- The number of set bits below w. -/
def popBits (v w : Nat) : Nat := (List.range w).countP (fun i => v.testBit i)

/-- The numbers of the set bits below w, rising. -/
def setBits (v w : Nat) : List Nat := (List.range w).filter (fun i => v.testBit i)

/-- A w-bit number read as two's complement. -/
def sext (w v : Nat) : Int := if v % 2 ^ w < 2 ^ (w - 1) then ((v % 2 ^ w : Nat) : Int) else ((v % 2 ^ w : Nat) : Int) - 2 ^ w

/-- A number as w bits in two's complement. -/
def wrapN (w : Nat) (v : Int) : Nat := (v % (2 ^ w : Int)).toNat

/-- A number as a 24-bit word. -/
def word (v : Nat) : Word := BitVec.ofNat 24 v

/-- 1 for true. -/
def b2n (b : Bool) : Nat := if b then 1 else 0

/-- Round a rational toward negative infinity, to nearest with ties away from zero, and toward zero. -/
def ratNear (q : Rat) : Int := if 0 ≤ q then (q + 1 / 2).floor else -((-q + 1 / 2).floor)
def ratTrunc (q : Rat) : Int := if 0 ≤ q then q.floor else -((-q).floor)

/-! ### Bytes -/

/-- The number that bytes spell, first byte most significant. -/
def beNat (l : List Byte) : Nat := l.foldl (fun a b => a * 256 + b.toNat) 0

/-- n bytes of a number, most significant first. -/
def beBytes (n v : Nat) : List Byte := (List.range n).map (fun i => BitVec.ofNat 8 (v >>> (8 * (n - 1 - i))))

/-- The byte at a place, 0 past the end. -/
def byteAt (l : List Byte) (i : Nat) : Nat := ((l[i]?).getD 0).toNat

/-- The 24-bit words that bytes spell, three bytes each from [23:16]; a short last word is filled with zeros. -/
def wordsOf (l : List Byte) : List Nat :=
  (List.range ((l.length + 2) / 3)).map (fun i => beNat [BitVec.ofNat 8 (byteAt l (3 * i)), BitVec.ofNat 8 (byteAt l (3 * i + 1)), BitVec.ofNat 8 (byteAt l (3 * i + 2))])

/-- The bytes of 24-bit words, three each from [23:16]. -/
def bytesOf (l : List Nat) : List Byte := l.flatMap (beBytes 3)

/-- Set the byte at a place. -/
def setByte (l : List Byte) (i v : Nat) : List Byte := l.set i (BitVec.ofNat 8 v)

/-- l with the elements from place i on replaced by those of x. -/
def splice {α : Type} (l : List α) (i : Nat) (x : List α) : List α := l.take i ++ x ++ l.drop (i + x.length)

/-! ### Statuses (spec 00, R8) -/

namespace Stat
abbrev done : Nat := 0
abbrev noKey : Nat := 1
abbrev denied : Nat := 2
abbrev type : Nat := 3
abbrev range : Nat := 4
abbrev mode : Nat := 5
abbrev permit : Nat := 6
abbrev timeout : Nat := 7
abbrev asleep : Nat := 8
abbrev epoch : Nat := 9
abbrev busy : Nat := 10
abbrev poison : Nat := 11
abbrev auth : Nat := 12
abbrev aborted : Nat := 13
abbrev quarantined : Nat := 14
abbrev internal : Nat := 15
end Stat

/-! ### Memory words (spec 04, R103 to R105, R119; log entry 4) -/

namespace Memory

/-- What an unlisted word reads as (log entry 4: R18 leaves a memory cleared to 0 at power-on). -/
def unlisted : Word := 0

/-- Keys strictly rising. -/
def rising : Memory → Bool
  | [] => true
  | [_] => true
  | (j, _) :: (k, v) :: r => decide (j < k) && rising ((k, v) :: r)

/-- The canonical form: rising addresses, no entry equal to what an unlisted word reads as. -/
def wf (m : Memory) : Bool := rising m && m.all (fun e => e.2 != unlisted)

/-- The word at an address. -/
def read (m : Memory) (a : Nat) : Word := mget m a unlisted

/-- Store a word, keeping the canonical form. -/
def write (m : Memory) (a : Nat) (v : Word) : Memory := if v = unlisted then mdel m a else mput m a v

/-- Store words at rising addresses. -/
def writeAll (m : Memory) (a : Nat) : List Word → Memory
  | [] => m
  | v :: r => writeAll (m.write a v) (a + 1) r

/-- Clear every word from lo up to, not including, hi. -/
def clear (m : Memory) (lo hi : Nat) : Memory := m.filter (fun e => decide (e.1 < lo) || decide (hi ≤ e.1))

end Memory

/-- The word at an address, 0 when poisoned. -/
def Dev.ld (d : Dev) (a : Nat) : Nat := (d.mem.read a).toNat

/-- Is the word at an address poisoned (R119)? -/
def Dev.poisoned (d : Dev) (a : Nat) : Bool := d.poison.contains a

/-- Store a whole word; it clears poison (R119). -/
def Dev.st (d : Dev) (a v : Nat) : Dev :=
  { d with mem := d.mem.write a (word v), poison := if d.poison.contains a then d.poison.filter (fun x => x != a) else d.poison }

/-- Store words at rising addresses. -/
def Dev.stAll (d : Dev) (a : Nat) : List Nat → Dev
  | [] => d
  | v :: r => (d.st a v).stAll (a + 1) r

/-- n words from an address. -/
def Dev.ldAll (d : Dev) (a n : Nat) : List Nat := (List.range n).map (fun i => d.ld (a + i))

/-- Clear a run of words and its poison. -/
def Dev.clearMem (d : Dev) (lo hi : Nat) : Dev :=
  { d with mem := d.mem.clear lo hi, poison := d.poison.filter (fun a => decide (a < lo) || decide (hi ≤ a)) }

/-! ### Parts of the block by number -/

def Dev.port (d : Dev) (p : Nat) : Port := mget d.ports p {}
def Dev.modPort (d : Dev) (p : Nat) (f : Port → Port) : Dev := { d with ports := mmod d.ports p {} f }
def Dev.tile (d : Dev) (t : Nat) : Tile := mget d.tiles t {}
def Dev.modTile (d : Dev) (t : Nat) (f : Tile → Tile) : Dev := { d with tiles := mmod d.tiles t {} f }
def Dev.mac (d : Dev) (m : Nat) : Mac := mget d.macs m {}
def Dev.modMac (d : Dev) (m : Nat) (f : Mac → Mac) : Dev := { d with macs := mmod d.macs m {} f }
def Dev.up (d : Dev) (u : Nat) : Uplink := mget d.ups u {}
def Dev.modUp (d : Dev) (u : Nat) (f : Uplink → Uplink) : Dev := { d with ups := mmod d.ups u {} f }
def Dev.bus (d : Dev) (p : Nat) : BusCtl := mget d.buses p {}
def Dev.modBus (d : Dev) (p : Nat) (f : BusCtl → BusCtl) : Dev := { d with buses := mmod d.buses p {} f }
def Dev.engine (d : Dev) (e : Nat) : Engine := mget d.engines e {}
def Dev.modEngine (d : Dev) (e : Nat) (f : Engine → Engine) : Dev := { d with engines := mmod d.engines e {} f }
def Dev.chan (d : Dev) (c : Nat) : Chan := mget d.chans c {}
def Dev.modChan (d : Dev) (c : Nat) (f : Chan → Chan) : Dev := { d with chans := mmod d.chans c {} f }
def Dev.core (d : Dev) (c : Nat) : Core := mget d.cores c {}
def Dev.modCore (d : Dev) (c : Nat) (f : Core → Core) : Dev := { d with cores := mmod d.cores c {} f }
def Dev.ctx (d : Dev) (c : Nat) : Ctx := mget d.ctxs c {}
def Dev.modCtx (d : Dev) (c : Nat) (f : Ctx → Ctx) : Dev := { d with ctxs := mmod d.ctxs c {} f }
def Dev.ep (d : Dev) (e : Nat) : Endpoint := mget d.eps e {}
def Dev.modEp (d : Dev) (e : Nat) (f : Endpoint → Endpoint) : Dev := { d with eps := mmod d.eps e {} f }
def Dev.seg (d : Dev) (s : Nat) : Segment := mget d.segs s {}
def Dev.modSeg (d : Dev) (s : Nat) (f : Segment → Segment) : Dev := { d with segs := mmod d.segs s {} f }
def Dev.axis (d : Dev) (a : Nat) : Axis := mget d.motion.axes a {}
def Dev.modAxis (d : Dev) (a : Nat) (f : Axis → Axis) : Dev :=
  { d with motion := { d.motion with axes := mmod d.motion.axes a {} f } }

/-- Is a power domain on (spec 01, R16)? -/
def Dev.domOn (d : Dev) (n : Nat) : Bool := d.doms.testBit n

/-- Say something to the outside (log entry 7). -/
def Dev.emit (d : Dev) (o : Out) : Dev := { d with out := o :: d.out }

/-- Leave work for another unit of the same command (log entry 9). -/
def Dev.todo (d : Dev) (w : Work) : Dev := { d with work := d.work ++ [w] }

/-- A free value of w bits (log entry 6). -/
def Dev.fresh (d : Dev) (w : Nat) : Nat × Dev := ((Config.freeValue w d.free).toNat, { d with free := d.free + 1 })

/-- Do f to each number of a list in turn. -/
def Dev.each (d : Dev) (l : List Nat) (f : Dev → Nat → Dev) : Dev := l.foldl f d

/-- Do f when the condition holds. -/
def Dev.iff (d : Dev) (c : Bool) (f : Dev → Dev) : Dev := if c then f d else d

/-- A command that always runs: its effect on everything but the queue. -/
def lift (f : Dev → Dev) (s : State) : Host.Outcome State Fault Refusal := .next { s with dev := f s.dev }

end Sys2Proof.Machine
end

