-- ==== Sys2Proof/Machine/Objects.lean ====
section
/-! DEFINITION. The object dictionary's keys and object tables (spec 02 to 19, the tables of every area). -/
namespace Sys2Proof.Machine

/-- The data types of objects (spec 03, R70). -/
inductive Ty where
  | bool | u8 | u16 | u24 | s24 | u48 | s48 | t80
  | dom (max : Nat)
  | str (n : Nat)
deriving DecidableEq, Repr

/-- Access classes (spec 03, R72). -/
inductive Acc where
  | r | rw | w | rwc | rwh
deriving DecidableEq, Repr

/-- What a write of an object does beside storing the value; `plain` stores it only. -/
inductive Eff where
  | plain | modeRequest | limpTiles | limpCores | tapBudget | tapPeak | tjMax | revokeKey | jtagLock | aapKey 
  | eccClear | portMode | portAdmin | portOption | recal | portCntClear | roleMove | tileCmd | tileUse 
  | retryBase | retryCap | tdrStart | edgeClear | encPreset | macAddr | macCntClear | uplinkMode | upMacAddr 
  | gclEnable | gclAdmin | gclApply | upCntClear | busTiming | listenOnly | txqBufs | busRecover | busCntClear 
  | engStart | engBitsync | armCmd | winProg | winSwap | chIdle | chJoin | chPlain | chFlags | chCmd | runCntClear 
  | coreCmd | ctxLocked | ctxPeriod | ctxPhase | ctxCmd | ctxMigrate | ctxPersSwap | ctxCntClear | persBundle 
  | persDelete | meterRate | meterClear | qPeak | qCntClear | freeMin | mcTable | fwdTable | profile | redMin 
  | redMax | ringBase | ringSize | region | regPlain | contestClear | regClear | regCntClear | cellarCntClear 
  | devScatter | devGather | tbIncr | tbOffset | tbPlain | tbSet | tbReserve | tbSynced | tbSwitch | discCtx 
  | tbCntClear | ppsInDisc | ppsOutEn | ppsOut | asAgent | segCfg | slotMap | segCmd | segCntClear | axUse 
  | axParam | axCmd | axCntClear | mKind | mVel | grpEn | grpCfg | epRing | gcRoute | gcEnable | sumpRestart 
  | alertClear | clearFail | roleHolder | mbWake | fwPrepare | fwBundle | fwActivate | flutterN | stuckT
  | regRights | homeInput | homeIndex | chFormat
deriving DecidableEq, Repr

/-- One row of an object table: objects `base + stride * i + w`, elements `el` to `el + els - 1`. -/
structure Desc where
  base : Nat
  stride : Nat
  count : Nat
  sub : Nat
  el : Nat
  els : Nat
  ty : Ty
  acc : Acc
  dflt : Int
  lo : Int
  hi : Int
  alt : Option Int
  saved : Bool
  eff : Eff
deriving DecidableEq, Repr

/-- Area 0, part 1. -/
def tab01 : List Desc :=
  [ ⟨0x0, 0x1, 1, 1, 0x0, 1, (.str 6), .r, 0, 0, 0, none, false, .plain⟩,  -- VENDOR
    ⟨0x0, 0x1, 1, 1, 0x1, 1, (.str 7), .r, 0, 0, 0, none, false, .plain⟩,  -- FAMILY
    ⟨0x0, 0x1, 1, 1, 0x2, 1, (.str 6), .r, 0, 0, 0, none, false, .plain⟩,  -- DEVICE
    ⟨0x0, 0x1, 1, 1, 0x3, 1, (.str 15), .r, 0, 0, 0, none, false, .plain⟩,  -- ORDER_CODE
    ⟨0x0, 0x1, 1, 1, 0x4, 1, .u8, .r, 0, 0, 255, none, false, .plain⟩,  -- GRADE
    ⟨0x0, 0x1, 1, 1, 0x5, 1, (.str 2), .r, 0, 0, 0, none, false, .plain⟩,  -- STEPPING
    ⟨0x0, 0x1, 1, 1, 0x6, 1, .u48, .r, 0, 0, 281474976710655, none, false, .plain⟩,  -- SERIAL
    ⟨0x1, 0x1, 1, 1, 0x0, 1, .u24, .r, 65536, 0, 16777215, none, false, .plain⟩,  -- DICT_VERSION
    ⟨0x1, 0x1, 1, 1, 0x1, 1, .u24, .r, 0, 0, 16777215, none, false, .plain⟩,  -- FW_VERSION
    ⟨0x1, 0x1, 1, 1, 0x2, 1, .u8, .r, 0, 0, 255, none, false, .plain⟩,  -- IMAGE_COPY
    ⟨0x1, 0x1, 1, 1, 0x3, 1, .u8, .r, 0, 0, 255, none, false, .plain⟩,  -- ATTIC_SOURCE
    ⟨0x1, 0x1, 1, 1, 0x4, 1, .u24, .r, 0, 0, 16777215, none, false, .plain⟩,  -- ATTIC_GEN
    ⟨0x2, 0x1, 1, 1, 0x0, 1, .u8, .r, 16, 0, 255, none, false, .plain⟩,  -- DICT_KEEPER
    ⟨0x2, 0x1, 1, 1, 0x1, 1, .u16, .r, 0, 0, 65535, none, false, .plain⟩,  -- IN_FLIGHT
    ⟨0x2, 0x1, 1, 1, 0x2, 1, .u24, .r, 0, 0, 16777215, none, false, .plain⟩,  -- DICT_TIMEOUTS
    ⟨0x2, 0x1, 1, 1, 0x3, 1, .u24, .r, 0, 0, 16777215, none, false, .plain⟩ ]  -- DICT_BUSY

/-- Area 1, part 1. -/
def tab11 : List Desc :=
  [ ⟨0x0, 0x1, 1, 1, 0x0, 1, .u8, .r, 0, 0, 255, none, false, .plain⟩,  -- MODE
    ⟨0x0, 0x1, 1, 1, 0x1, 1, .u8, .rw, 0, 0, 255, none, false, .modeRequest⟩,  -- MODE_REQUEST
    ⟨0x0, 0x1, 1, 1, 0x2, 1, .u8, .r, 0, 0, 255, none, false, .plain⟩,  -- MODE_PRIOR
    ⟨0x0, 0x1, 1, 1, 0x3, 1, .u8, .rwc, 2, 2, 5, none, true, .plain⟩,  -- START_MODE
    ⟨0x0, 0x1, 1, 1, 0x4, 1, .u8, .r, 0, 0, 255, none, false, .plain⟩,  -- HOLD_CAUSE
    ⟨0x0, 0x1, 1, 1, 0x5, 1, .u8, .r, 0, 0, 255, none, false, .plain⟩,  -- LIMP_CAUSE
    ⟨0x0, 0x1, 1, 1, 0x6, 1, .u8, .rwh, 3, 0, 255, none, true, .limpTiles⟩,  -- LIMP_TILES
    ⟨0x0, 0x1, 1, 1, 0x7, 1, .u24, .rwh, 255, 0, 16777215, none, true, .limpCores⟩,  -- LIMP_CORES
    ⟨0x0, 0x1, 1, 1, 0x8, 1, .bool, .rw, 1, 0, 1, none, true, .plain⟩,  -- LIMP_RETURN
    ⟨0x0, 0x1, 1, 1, 0x9, 1, .u24, .rw, 10000, 1000, 600000, none, true, .plain⟩,  -- LIMP_RETURN_DELAY
    ⟨0x0, 0x1, 1, 1, 0xA, 1, .u24, .r, 0, 0, 16777215, none, false, .plain⟩,  -- MODE_CHANGES
    ⟨0x0, 0x1, 1, 1, 0xB, 1, .u24, .r, 0, 0, 16777215, none, false, .plain⟩,  -- FORCED_COUNT
    ⟨0x10, 0x1, 1, 1, 0x0, 1, .u24, .rwh, 36000, 0, 16777215, none, true, .tapBudget⟩,  -- TAP_BUDGET
    ⟨0x10, 0x1, 1, 1, 0x1, 1, .u24, .r, 0, 0, 16777215, none, false, .plain⟩,  -- TAP_EFFECTIVE
    ⟨0x10, 0x1, 1, 1, 0x2, 1, .u24, .r, 0, 0, 16777215, none, false, .plain⟩,  -- TAP_DECLARED
    ⟨0x10, 0x1, 1, 1, 0x3, 1, .u24, .r, 0, 0, 16777215, none, false, .plain⟩,  -- TAP_MEASURED
    ⟨0x10, 0x1, 1, 1, 0x4, 1, .u24, .rw, 0, 0, 16777215, none, false, .tapPeak⟩,  -- TAP_PEAK
    ⟨0x10, 0x1, 1, 1, 0x5, 1, .u16, .r, 0, 0, 65535, none, false, .plain⟩,  -- PERMITS
    ⟨0x10, 0x1, 1, 1, 0x6, 1, .u8, .r, 0, 0, 255, none, false, .plain⟩,  -- QUEUE_DEPTH
    ⟨0x10, 0x1, 1, 1, 0x7, 1, .u24, .r, 0, 0, 16777215, none, false, .plain⟩,  -- REFUSED
    ⟨0x10, 0x1, 1, 1, 0x8, 1, .u24, .r, 0, 0, 16777215, none, false, .plain⟩,  -- REVOKED
    ⟨0x10, 0x1, 1, 1, 0x9, 1, .u8, .r, 16, 0, 255, none, false, .plain⟩,  -- TAP_KEEPER
    ⟨0x11, 0x1, 1, 1, 0x0, 8, .u24, .r, 0, 0, 16777215, none, false, .plain⟩,  -- MODE_BASE
    ⟨0x20, 0x1, 1, 1, 0x0, 20, .u24, .r, 0, 0, 16777215, none, false, .plain⟩,  -- RAIL_POWER
    ⟨0x30, 0x1, 1, 1, 0x0, 1, .s24, .r, 0, (-8388608), 8388607, none, false, .plain⟩,  -- TJ
    ⟨0x30, 0x1, 1, 1, 0x1, 1, .s24, .rw, 0, (-8388608), 8388607, none, false, .tjMax⟩,  -- TJ_MAX
    ⟨0x30, 0x1, 1, 1, 0x2, 1, .s24, .rw, 1050, 600, 1050, none, true, .plain⟩,  -- TJ_WARN
    ⟨0x30, 0x1, 1, 1, 0x3, 8, .s24, .r, 0, (-8388608), 8388607, none, false, .plain⟩ ]  -- TJ_SENSOR

/-- Area 2, part 1. -/
def tab21 : List Desc :=
  [ ⟨0x0, 0x20, 96, 1, 0x0, 1, .u8, .rw, 0, 0, 7, none, true, .portMode⟩,  -- PORT_MODE
    ⟨0x0, 0x20, 96, 1, 0x1, 1, .u8, .rw, 1, 0, 2, none, true, .portAdmin⟩,  -- PORT_ADMIN
    ⟨0x0, 0x20, 96, 1, 0x2, 1, .u8, .rw, 5, 0, 7, none, true, .plain⟩,  -- PORT_TAP_PRIO
    ⟨0x0, 0x20, 96, 1, 0x3, 1, .bool, .rw, 1, 0, 1, none, true, .portOption⟩,  -- P_ETX_AN
    ⟨0x0, 0x20, 96, 1, 0x4, 1, .u8, .rw, 2, 0, 2, none, true, .portOption⟩,  -- P_T1L_LEVEL
    ⟨0x0, 0x20, 96, 1, 0x5, 1, .bool, .rw, 1, 0, 1, none, true, .portOption⟩,  -- P_T1L_AN
    ⟨0x0, 0x20, 96, 1, 0x6, 1, .u8, .rw, 0, 0, 3, none, true, .portOption⟩,  -- P_TERM
    ⟨0x0, 0x20, 96, 1, 0x7, 1, .bool, .rw, 1, 0, 1, none, true, .portOption⟩,  -- P_POL_AUTO
    ⟨0x0, 0x20, 96, 1, 0x8, 1, .u8, .rw, 0, 0, 3, none, true, .portOption⟩,  -- P_POL_SWAP
    ⟨0x0, 0x20, 96, 1, 0x9, 1, .u8, .rw, 0, 0, 2, none, true, .portOption⟩,  -- P_MDIX
    ⟨0x0, 0x20, 96, 1, 0xA, 1, .u8, .rw, 0, 0, 2, none, true, .portOption⟩,  -- P_ENC_INPUT
    ⟨0x0, 0x20, 96, 1, 0xB, 1, .u8, .rw, 3, 0, 255, none, true, .portOption⟩,  -- P_DIN_TYPE
    ⟨0x0, 0x20, 96, 1, 0xC, 1, .u16, .rw, 100, 1, 65535, none, true, .plain⟩,  -- P_DEG_LIMIT
    ⟨0x0, 0x20, 96, 1, 0xD, 1, .u16, .rw, 5000, 10, 65535, none, true, .plain⟩,  -- P_PROBE_TIMEOUT
    ⟨0x1, 0x20, 96, 1, 0x0, 1, .u8, .r, 0, 0, 255, none, false, .plain⟩,  -- PORT_STATE
    ⟨0x1, 0x20, 96, 1, 0x1, 1, .u8, .r, 0, 0, 255, none, false, .plain⟩,  -- PORT_CAUSE
    ⟨0x1, 0x20, 96, 1, 0x2, 1, .u24, .r, 0, 0, 16777215, none, false, .plain⟩,  -- PORT_FLAGS
    ⟨0x1, 0x20, 96, 1, 0x3, 1, .u24, .r, 0, 0, 16777215, none, false, .plain⟩,  -- P_LINK_TIME
    ⟨0x1, 0x20, 96, 1, 0x4, 1, .u8, .w, 0, 1, 1, none, false, .recal⟩,  -- P_RECAL
    ⟨0x2, 0x20, 96, 1, 0x0, 1, .u24, .r, 0, 0, 16777215, none, false, .plain⟩,  -- P_UP_COUNT
    ⟨0x2, 0x20, 96, 1, 0x1, 1, .u24, .r, 0, 0, 16777215, none, false, .plain⟩,  -- P_DOWN_COUNT
    ⟨0x2, 0x20, 96, 1, 0x2, 1, .u24, .r, 0, 0, 16777215, none, false, .plain⟩,  -- P_ERR_COUNT
    ⟨0x2, 0x20, 96, 1, 0x3, 1, .u24, .r, 0, 0, 16777215, none, false, .plain⟩,  -- P_POL_EVENTS
    ⟨0x2, 0x20, 96, 1, 0x4, 1, .u24, .r, 0, 0, 16777215, none, false, .plain⟩,  -- P_RECAL_DROPS
    ⟨0x2, 0x20, 96, 1, 0x5, 1, .u8, .w, 0, 1, 1, none, false, .portCntClear⟩,  -- PORT_CNT_CLEAR
    ⟨0x3, 0x20, 96, 1, 0x0, 1, .u8, .r, 255, 0, 255, none, false, .plain⟩,  -- P_ROLE_CONTEXT
    ⟨0x3, 0x20, 96, 1, 0x1, 1, .u16, .w, 0, 0, 65535, none, false, .roleMove⟩,  -- P_ROLE_MOVE
    ⟨0x3, 0x20, 96, 1, 0x2, 1, .u16, .r, 127, 0, 65535, none, false, .plain⟩,  -- P_ROLE_PENDING
    ⟨0x3, 0x20, 96, 1, 0x3, 1, .u24, .r, 0, 0, 16777215, none, false, .plain⟩,  -- P_ROLE_MOVES
    ⟨0xC00, 0x10, 4, 1, 0x0, 1, .u8, .r, 0, 0, 255, none, false, .plain⟩,  -- TILE_STATE
    ⟨0xC00, 0x10, 4, 1, 0x1, 1, .u8, .w, 0, 1, 2, none, false, .tileCmd⟩,  -- TILE_CMD
    ⟨0xC00, 0x10, 4, 1, 0x2, 1, .bool, .rw, 1, 0, 1, none, true, .plain⟩ ]  -- TILE_AUTO_RESTART

/-- Area 2, part 2. -/
def tab22 : List Desc :=
  [ ⟨0xC00, 0x10, 4, 1, 0x3, 1, .bool, .rwc, 1, 0, 1, none, true, .tileUse⟩,  -- TILE_USE
    ⟨0xC00, 0x10, 4, 1, 0x4, 1, .u24, .r, 0, 0, 16777215, none, false, .plain⟩,  -- TILE_LOSSES
    ⟨0xC00, 0x10, 4, 1, 0x5, 1, .u24, .r, 0, 0, 16777215, none, false, .plain⟩,  -- TILE_LINK_ERR
    ⟨0xC00, 0x10, 4, 1, 0x6, 1, .u16, .r, 0, 0, 65535, none, false, .plain⟩,  -- TILE_VTF
    ⟨0xC00, 0x10, 4, 1, 0x7, 1, .u8, .r, 0, 0, 255, none, false, .plain⟩,  -- TILE_PORTS_UP
    ⟨0x10, 0x20, 96, 1, 0x0, 1, .u8, .rw, 1, 0, 1, none, true, .plain⟩,  -- P_RETRY_POLICY
    ⟨0x10, 0x20, 96, 1, 0x1, 1, .u16, .rw, 100, 10, 60000, none, true, .retryBase⟩,  -- P_RETRY_BASE
    ⟨0x10, 0x20, 96, 1, 0x2, 1, .u24, .rw, 10000, 10, 3600000, none, true, .retryCap⟩,  -- P_RETRY_CAP
    ⟨0x10, 0x20, 96, 1, 0x3, 1, .u8, .rw, 8, 0, 255, none, true, .plain⟩,  -- P_RETRY_MAX
    ⟨0x10, 0x20, 96, 1, 0x4, 1, .u24, .r, 0, 0, 16777215, none, false, .plain⟩,  -- P_RETRY_COUNT
    ⟨0x10, 0x20, 96, 1, 0x5, 1, .u8, .r, 255, 0, 255, none, false, .plain⟩,  -- P_FAULT_PIN
    ⟨0x11, 0x20, 96, 1, 0x0, 1, .u24, .r, 0, 0, 16777215, none, false, .plain⟩,  -- P_OC_EVENTS
    ⟨0x11, 0x20, 96, 1, 0x1, 1, .u24, .r, 0, 0, 16777215, none, false, .plain⟩,  -- P_OV_EVENTS
    ⟨0x11, 0x20, 96, 1, 0x2, 5, .s24, .r, 0, (-8388608), 8388607, none, false, .plain⟩,  -- P_PIN_VOLT
    ⟨0x12, 0x20, 96, 1, 0x0, 1, .u8, .w, 0, 1, 1, none, false, .tdrStart⟩,  -- P_TDR_START
    ⟨0x12, 0x20, 96, 1, 0x1, 1, .u8, .rw, 1, 0, 15, none, true, .plain⟩,  -- P_TDR_PAIRS
    ⟨0x12, 0x20, 96, 1, 0x2, 1, .u16, .rw, 660, 400, 990, none, true, .plain⟩,  -- P_TDR_VF
    ⟨0x12, 0x20, 96, 1, 0x3, 1, .u16, .rw, 20, 0, 200, none, true, .plain⟩,  -- P_TDR_LOSS
    ⟨0x12, 0x20, 96, 1, 0x4, 1, .s24, .rw, 0, (-500), 500, none, true, .plain⟩,  -- P_TDR_ZERO
    ⟨0x12, 0x20, 96, 1, 0x5, 1, .u8, .rw, 10, 5, 90, none, true, .plain⟩,  -- P_TDR_THRESH
    ⟨0x12, 0x20, 96, 1, 0x6, 1, .u8, .rw, 2, 0, 7, none, true, .plain⟩,  -- P_TDR_PRIO
    ⟨0x13, 0x20, 96, 1, 0x0, 1, .u8, .r, 0, 0, 255, none, false, .plain⟩,  -- P_TDR_STATUS
    ⟨0x13, 0x20, 96, 1, 0x1, 1, .u24, .r, 0, 0, 16777215, none, false, .plain⟩,  -- P_TDR_SEQ
    ⟨0x13, 0x20, 96, 1, 0x2, 1, .u8, .r, 0, 0, 255, none, false, .plain⟩,  -- P_TDR_DROPPED
    ⟨0x13, 0x20, 96, 1, 0x3, 8, .u48, .r, 281474959933440, 0, 281474976710655, none, false, .plain⟩,  -- P_TDR_EVENT
    ⟨0x14, 0x20, 96, 1, 0x0, 1, (.dom 49152), .r, 0, 0, 0, none, false, .plain⟩,  -- P_TDR_SAMPLES
    ⟨0x15, 0x20, 96, 1, 0x0, 5, .u16, .rw, 1000, 0, 65535, none, true, .plain⟩,  -- P_DEBOUNCE
    ⟨0x15, 0x20, 96, 1, 0x5, 1, .u8, .rw, 20, 0, 255, none, true, .flutterN⟩,  -- P_FLUTTER_N
    ⟨0x15, 0x20, 96, 1, 0x6, 1, .u16, .rw, 1000, 1, 65535, none, true, .plain⟩,  -- P_FLUTTER_W
    ⟨0x16, 0x20, 96, 1, 0x0, 5, .u24, .rw, 0, 0, 16777215, none, true, .stuckT⟩,  -- P_STUCK_T
    ⟨0x17, 0x20, 96, 1, 0x0, 1, .u8, .rw, 0, 0, 31, none, true, .plain⟩,  -- P_DIN_INVERT
    ⟨0x17, 0x20, 96, 1, 0x1, 1, .u16, .rw, 1023, 0, 1023, none, true, .plain⟩ ]  -- P_EDGE_MODE

/-- Area 2, part 3. -/
def tab23 : List Desc :=
  [ ⟨0x17, 0x20, 96, 1, 0x2, 1, .u8, .rw, 0, 0, 31, none, true, .plain⟩,  -- P_WB_ENABLE
    ⟨0x18, 0x20, 96, 1, 0x0, 1, .u24, .r, 0, 0, 16777215, none, false, .plain⟩,  -- P_DIN_STATE
    ⟨0x18, 0x20, 96, 1, 0x1, 1, .u8, .r, 0, 0, 255, none, false, .plain⟩,  -- P_DIN_DIAG
    ⟨0x18, 0x20, 96, 1, 0x2, 5, .u24, .r, 0, 0, 16777215, none, false, .plain⟩,  -- P_EDGE_COUNT
    ⟨0x18, 0x20, 96, 1, 0x7, 1, .u8, .w, 0, 0, 31, none, false, .edgeClear⟩,  -- P_EDGE_CLEAR
    ⟨0x18, 0x20, 96, 1, 0x8, 1, .u24, .r, 0, 0, 16777215, none, false, .plain⟩,  -- P_FLUTTER_EVENTS
    ⟨0x19, 0x20, 96, 1, 0x0, 1, .u8, .rw, 16, 1, 255, none, true, .plain⟩,  -- P_ENC_FILTER
    ⟨0x19, 0x20, 96, 1, 0x1, 1, .s48, .r, 0, (-140737488355328), 140737488355327, none, false, .plain⟩,  -- P_ENC_COUNT
    ⟨0x19, 0x20, 96, 1, 0x2, 1, .s48, .w, 0, (-140737488355328), 140737488355327, none, false, .encPreset⟩,  -- P_ENC_PRESET
    ⟨0x19, 0x20, 96, 1, 0x3, 1, .s48, .r, 0, (-140737488355328), 140737488355327, none, false, .plain⟩,  -- P_ENC_INDEX
    ⟨0x19, 0x20, 96, 1, 0x4, 1, .t80, .r, 0, 0, 1208925819614629174706175, none, false, .plain⟩,  -- P_ENC_INDEX_TIME
    ⟨0x19, 0x20, 96, 1, 0x5, 1, .u24, .r, 0, 0, 16777215, none, false, .plain⟩,  -- P_ENC_ERR
    ⟨0xC08, 0x10, 4, 1, 0x0, 1, .u8, .r, 255, 0, 255, none, false, .plain⟩,  -- TILE_TDR_PORT
    ⟨0xC08, 0x10, 4, 1, 0x1, 1, .u24, .r, 0, 0, 16777215, none, false, .plain⟩,  -- TILE_TDR_SWEEPS
    ⟨0xC08, 0x10, 4, 1, 0x2, 1, .u24, .r, 0, 0, 16777215, none, false, .plain⟩,  -- TILE_TDR_ABORTS
    ⟨0xC09, 0x10, 4, 1, 0x0, 1, .bool, .r, 0, 0, 1, none, false, .plain⟩,  -- TILE_SUPPLY_LOW
    ⟨0xC09, 0x10, 4, 1, 0x1, 1, .u16, .rw, 180, 100, 300, none, true, .plain⟩,  -- TILE_VTF_LOW_LIMIT
    ⟨0xC09, 0x10, 4, 1, 0x2, 1, .u24, .r, 0, 0, 16777215, none, false, .plain⟩ ]  -- TILE_SUPPLY_LOW_EVENTS

/-- Area 3, part 1. -/
def tab31 : List Desc :=
  [ ⟨0x0, 0x10, 96, 1, 0x0, 1, .u48, .rw, 0, 0, 281474976710655, none, true, .macAddr⟩,  -- MAC_ADDR
    ⟨0x0, 0x10, 96, 1, 0x1, 1, .u8, .rw, 0, 0, 1, none, true, .plain⟩,  -- MAC_PAUSE_MODE
    ⟨0x0, 0x10, 96, 1, 0x2, 1, .u16, .rw, 1, 1, 4094, none, true, .plain⟩,  -- MAC_PVID
    ⟨0x0, 0x10, 96, 1, 0x3, 1, .u8, .rw, 0, 0, 7, none, true, .plain⟩,  -- MAC_PORT_PCP
    ⟨0x0, 0x10, 96, 1, 0x4, 1, .u8, .rw, 0, 0, 2, none, true, .plain⟩,  -- MAC_ACCEPT
    ⟨0x0, 0x10, 96, 1, 0x5, 1, .u8, .rw, 0, 0, 2, none, true, .plain⟩,  -- MAC_EGRESS_TAG
    ⟨0x0, 0x10, 96, 1, 0x6, 1, .u24, .rw, 16434824, 0, 16777215, none, true, .plain⟩,  -- MAC_PCP_MAP
    ⟨0x0, 0x10, 96, 1, 0x7, 1, .u8, .rw, 1, 0, 7, none, true, .plain⟩,  -- MAC_TS_BASE
    ⟨0x0, 0x10, 96, 1, 0x8, 1, .s24, .rw, 0, (-10000), 10000, none, true, .plain⟩,  -- MAC_TS_ING_ADJ
    ⟨0x0, 0x10, 96, 1, 0x9, 1, .s24, .rw, 0, (-10000), 10000, none, true, .plain⟩,  -- MAC_TS_EGR_ADJ
    ⟨0x1, 0x10, 96, 1, 0x0, 1, .u48, .r, 0, 0, 281474976710655, none, false, .plain⟩,  -- MAC_RX_FRAMES
    ⟨0x1, 0x10, 96, 1, 0x1, 1, .u48, .r, 0, 0, 281474976710655, none, false, .plain⟩,  -- MAC_RX_OCTETS
    ⟨0x1, 0x10, 96, 1, 0x2, 1, .u48, .r, 0, 0, 281474976710655, none, false, .plain⟩,  -- MAC_TX_FRAMES
    ⟨0x1, 0x10, 96, 1, 0x3, 1, .u48, .r, 0, 0, 281474976710655, none, false, .plain⟩,  -- MAC_TX_OCTETS
    ⟨0x1, 0x10, 96, 1, 0x4, 1, .u24, .r, 0, 0, 16777215, none, false, .plain⟩,  -- MAC_FCS_ERR
    ⟨0x1, 0x10, 96, 1, 0x5, 1, .u24, .r, 0, 0, 16777215, none, false, .plain⟩,  -- MAC_SYMBOL_ERR
    ⟨0x1, 0x10, 96, 1, 0x6, 1, .u24, .r, 0, 0, 16777215, none, false, .plain⟩,  -- MAC_ALIGN_ERR
    ⟨0x1, 0x10, 96, 1, 0x7, 1, .u24, .r, 0, 0, 16777215, none, false, .plain⟩,  -- MAC_RUNTS
    ⟨0x1, 0x10, 96, 1, 0x8, 1, .u24, .r, 0, 0, 16777215, none, false, .plain⟩,  -- MAC_OVERSIZE
    ⟨0x1, 0x10, 96, 1, 0x9, 1, .u24, .r, 0, 0, 16777215, none, false, .plain⟩,  -- MAC_TX_OVERSIZE
    ⟨0x1, 0x10, 96, 1, 0xA, 1, .u24, .r, 0, 0, 16777215, none, false, .plain⟩,  -- MAC_PAUSE_RX
    ⟨0x1, 0x10, 96, 1, 0xB, 1, .u24, .r, 0, 0, 16777215, none, false, .plain⟩,  -- MAC_MACCTL_OTHER
    ⟨0x1, 0x10, 96, 1, 0xC, 1, .u24, .r, 0, 0, 16777215, none, false, .plain⟩,  -- MAC_TX_MACCTL
    ⟨0x1, 0x10, 96, 1, 0xD, 1, .u24, .r, 0, 0, 16777215, none, false, .plain⟩,  -- MAC_VLAN_DROP
    ⟨0x1, 0x10, 96, 1, 0xE, 1, .u24, .r, 0, 0, 16777215, none, false, .plain⟩,  -- MAC_TS_LOST
    ⟨0x1, 0x10, 96, 1, 0xF, 1, .u8, .w, 0, 1, 1, none, false, .macCntClear⟩,  -- MAC_CNT_CLEAR
    ⟨0xC00, 0x20, 4, 1, 0x0, 1, .u8, .rw, 0, 0, 4, none, true, .uplinkMode⟩,  -- UPLINK_MODE
    ⟨0xC00, 0x20, 4, 1, 0x1, 1, .u8, .r, 0, 0, 255, none, false, .plain⟩,  -- UPLINK_STATE
    ⟨0xC00, 0x20, 4, 1, 0x2, 1, .bool, .rw, 1, 0, 1, none, true, .plain⟩,  -- UP_AN
    ⟨0xC00, 0x20, 4, 1, 0x3, 1, .u48, .rw, 0, 0, 281474976710655, none, true, .upMacAddr⟩,  -- UP_MAC_ADDR
    ⟨0xC00, 0x20, 4, 1, 0x4, 1, .u8, .rw, 0, 0, 1, none, true, .plain⟩,  -- UP_PAUSE_MODE
    ⟨0xC00, 0x20, 4, 1, 0x5, 1, .u16, .rw, 1, 1, 4094, none, true, .plain⟩ ]  -- UP_PVID

/-- Area 3, part 2. -/
def tab32 : List Desc :=
  [ ⟨0xC00, 0x20, 4, 1, 0x6, 1, .u8, .rw, 0, 0, 7, none, true, .plain⟩,  -- UP_PORT_PCP
    ⟨0xC00, 0x20, 4, 1, 0x7, 1, .u8, .rw, 0, 0, 2, none, true, .plain⟩,  -- UP_ACCEPT
    ⟨0xC00, 0x20, 4, 1, 0x8, 1, .u8, .rw, 0, 0, 2, none, true, .plain⟩,  -- UP_EGRESS_TAG
    ⟨0xC00, 0x20, 4, 1, 0x9, 1, .u24, .rw, 16434824, 0, 16777215, none, true, .plain⟩,  -- UP_PCP_MAP
    ⟨0xC00, 0x20, 4, 1, 0xA, 1, .u8, .rw, 1, 0, 7, none, true, .plain⟩,  -- UP_TS_BASE
    ⟨0xC00, 0x20, 4, 1, 0xB, 1, .s24, .rw, 0, (-10000), 10000, none, true, .plain⟩,  -- UP_TS_ING_ADJ
    ⟨0xC00, 0x20, 4, 1, 0xC, 1, .s24, .rw, 0, (-10000), 10000, none, true, .plain⟩,  -- UP_TS_EGR_ADJ
    ⟨0xC01, 0x20, 4, 1, 0x0, 1, .u48, .rw, 0, 0, 4294967295, none, true, .plain⟩,  -- UP_IPV4_ADDR
    ⟨0xC01, 0x20, 4, 1, 0x1, 1, .u8, .rw, 24, 1, 32, none, true, .plain⟩,  -- UP_IPV4_PREFIX
    ⟨0xC01, 0x20, 4, 1, 0x2, 1, .u48, .rw, 0, 0, 4294967295, none, true, .plain⟩,  -- UP_IPV4_GW
    ⟨0xC01, 0x20, 4, 1, 0x3, 1, (.dom 16), .rw, 0, 0, 0, none, true, .plain⟩,  -- UP_IPV6_ADDR
    ⟨0xC01, 0x20, 4, 1, 0x4, 1, .u8, .rw, 64, 1, 128, none, true, .plain⟩,  -- UP_IPV6_PREFIX
    ⟨0xC01, 0x20, 4, 1, 0x5, 1, (.dom 16), .rw, 0, 0, 0, none, true, .plain⟩,  -- UP_IPV6_GW
    ⟨0xC01, 0x20, 4, 1, 0x6, 1, .u16, .rw, 0, 0, 4094, none, true, .plain⟩,  -- UPLINK_VID
    ⟨0xC02, 0x20, 4, 1, 0x0, 1, .bool, .rw, 0, 0, 1, none, true, .gclEnable⟩,  -- UP_GCL_ENABLE
    ⟨0xC02, 0x20, 4, 1, 0x1, 1, .u8, .rw, 1, 0, 7, none, true, .plain⟩,  -- UP_GCL_TB
    ⟨0xC02, 0x20, 4, 1, 0x2, 1, (.dom 1536), .rw, 0, 0, 0, none, true, .gclAdmin⟩,  -- UP_GCL_ADMIN
    ⟨0xC02, 0x20, 4, 1, 0x3, 1, .t80, .rw, 0, 0, 1208925819614629174706175, none, true, .plain⟩,  -- UP_GCL_ADMIN_BASE
    ⟨0xC02, 0x20, 4, 1, 0x4, 1, .u48, .rw, 1000000, 0, 281474976710655, none, true, .plain⟩,  -- UP_GCL_ADMIN_CYCLE
    ⟨0xC02, 0x20, 4, 1, 0x5, 1, .u8, .w, 0, 1, 1, none, false, .gclApply⟩,  -- UP_GCL_APPLY
    ⟨0xC02, 0x20, 4, 1, 0x6, 1, .u8, .r, 0, 0, 255, none, false, .plain⟩,  -- UP_GCL_STATE
    ⟨0xC02, 0x20, 4, 1, 0x7, 1, .t80, .r, 0, 0, 1208925819614629174706175, none, false, .plain⟩,  -- UP_GCL_CHANGE_TIME
    ⟨0xC03, 0x20, 4, 1, 0x0, 1, .u48, .r, 0, 0, 281474976710655, none, false, .plain⟩,  -- UP_RX_FRAMES
    ⟨0xC03, 0x20, 4, 1, 0x1, 1, .u48, .r, 0, 0, 281474976710655, none, false, .plain⟩,  -- UP_RX_OCTETS
    ⟨0xC03, 0x20, 4, 1, 0x2, 1, .u48, .r, 0, 0, 281474976710655, none, false, .plain⟩,  -- UP_TX_FRAMES
    ⟨0xC03, 0x20, 4, 1, 0x3, 1, .u48, .r, 0, 0, 281474976710655, none, false, .plain⟩,  -- UP_TX_OCTETS
    ⟨0xC03, 0x20, 4, 1, 0x4, 1, .u24, .r, 0, 0, 16777215, none, false, .plain⟩,  -- UP_FCS_ERR
    ⟨0xC03, 0x20, 4, 1, 0x5, 1, .u24, .r, 0, 0, 16777215, none, false, .plain⟩,  -- UP_SYMBOL_ERR
    ⟨0xC03, 0x20, 4, 1, 0x6, 1, .u24, .r, 0, 0, 16777215, none, false, .plain⟩,  -- UP_ALIGN_ERR
    ⟨0xC03, 0x20, 4, 1, 0x7, 1, .u24, .r, 0, 0, 16777215, none, false, .plain⟩,  -- UP_RUNTS
    ⟨0xC03, 0x20, 4, 1, 0x8, 1, .u24, .r, 0, 0, 16777215, none, false, .plain⟩,  -- UP_OVERSIZE
    ⟨0xC03, 0x20, 4, 1, 0x9, 1, .u24, .r, 0, 0, 16777215, none, false, .plain⟩ ]  -- UP_TX_OVERSIZE

/-- Area 3, part 3. -/
def tab33 : List Desc :=
  [ ⟨0xC03, 0x20, 4, 1, 0xA, 1, .u24, .r, 0, 0, 16777215, none, false, .plain⟩,  -- UP_PAUSE_RX
    ⟨0xC03, 0x20, 4, 1, 0xB, 1, .u24, .r, 0, 0, 16777215, none, false, .plain⟩,  -- UP_MACCTL_OTHER
    ⟨0xC03, 0x20, 4, 1, 0xC, 1, .u24, .r, 0, 0, 16777215, none, false, .plain⟩,  -- UP_TX_MACCTL
    ⟨0xC03, 0x20, 4, 1, 0xD, 1, .u24, .r, 0, 0, 16777215, none, false, .plain⟩,  -- UP_VLAN_DROP
    ⟨0xC03, 0x20, 4, 1, 0xE, 1, .u24, .r, 0, 0, 16777215, none, false, .plain⟩,  -- UP_TS_LOST
    ⟨0xC03, 0x20, 4, 1, 0xF, 1, .u24, .r, 0, 0, 16777215, none, false, .plain⟩,  -- UP_LINK_FAULTS
    ⟨0xC03, 0x20, 4, 1, 0x10, 1, .u24, .r, 0, 0, 16777215, none, false, .plain⟩,  -- UP_TX_TOOLONG
    ⟨0xC03, 0x20, 4, 1, 0x11, 1, .u24, .r, 0, 0, 16777215, none, false, .plain⟩,  -- UP_NOT_LOCAL
    ⟨0xC03, 0x20, 4, 1, 0x12, 1, .u8, .w, 0, 1, 1, none, false, .upCntClear⟩,  -- UP_CNT_CLEAR
    ⟨0xD00, 0x1, 1, 1, 0x0, 1, .u48, .r, 0, 0, 281474976710655, none, false, .plain⟩,  -- MAC_BASE
    ⟨0xD00, 0x1, 1, 1, 0x1, 1, .u8, .r, 16, 0, 255, none, false, .plain⟩,  -- TS_KEEPER
    ⟨0x8, 0x10, 96, 1, 0x0, 1, .u8, .rw, 1, 0, 1, none, true, .busTiming⟩,  -- BUS_FD_MODE
    ⟨0x8, 0x10, 96, 1, 0x1, 1, .u16, .rw, 4, 1, 256, none, true, .busTiming⟩,  -- BUS_N_BRP
    ⟨0x8, 0x10, 96, 1, 0x2, 1, .u16, .rw, 23, 2, 256, none, true, .busTiming⟩,  -- BUS_N_TSEG1
    ⟨0x8, 0x10, 96, 1, 0x3, 1, .u8, .rw, 6, 1, 128, none, true, .busTiming⟩,  -- BUS_N_TSEG2
    ⟨0x8, 0x10, 96, 1, 0x4, 1, .u8, .rw, 6, 1, 128, none, true, .busTiming⟩,  -- BUS_N_SJW
    ⟨0x8, 0x10, 96, 1, 0x5, 1, .u8, .rw, 1, 0, 32, none, true, .busTiming⟩,  -- BUS_D_BRP
    ⟨0x8, 0x10, 96, 1, 0x6, 1, .u8, .rw, 22, 1, 32, none, true, .busTiming⟩,  -- BUS_D_TSEG1
    ⟨0x8, 0x10, 96, 1, 0x7, 1, .u8, .rw, 7, 1, 16, none, true, .busTiming⟩,  -- BUS_D_TSEG2
    ⟨0x8, 0x10, 96, 1, 0x8, 1, .u8, .rw, 7, 1, 16, none, true, .busTiming⟩,  -- BUS_D_SJW
    ⟨0x8, 0x10, 96, 1, 0x9, 1, .u8, .rw, 1, 0, 1, none, true, .busTiming⟩,  -- BUS_TDC_MODE
    ⟨0x8, 0x10, 96, 1, 0xA, 1, .u8, .rw, 0, 0, 127, none, true, .busTiming⟩,  -- BUS_TDC_OFFSET
    ⟨0x8, 0x10, 96, 1, 0xB, 1, .bool, .rw, 0, 0, 1, none, true, .listenOnly⟩,  -- BUS_LISTEN_ONLY
    ⟨0x8, 0x10, 96, 1, 0xC, 1, .bool, .rw, 1, 0, 1, none, true, .plain⟩,  -- BUS_PEX
    ⟨0x8, 0x10, 96, 1, 0xD, 1, .u8, .rw, 8, 0, 32, none, true, .txqBufs⟩,  -- BUS_TXQ_BUFS
    ⟨0x8, 0x10, 96, 1, 0xE, 1, .u8, .rw, 1, 0, 7, none, true, .plain⟩,  -- BUS_TS_BASE
    ⟨0x8, 0x10, 96, 1, 0xF, 1, .s24, .rw, 0, (-10000), 10000, none, true, .plain⟩,  -- BUS_TS_ADJ
    ⟨0x9, 0x10, 96, 1, 0x0, 1, .u8, .r, 5, 0, 255, none, false, .plain⟩,  -- BUS_STATE
    ⟨0x9, 0x10, 96, 1, 0x1, 1, .u16, .r, 0, 0, 65535, none, false, .plain⟩,  -- BUS_TEC
    ⟨0x9, 0x10, 96, 1, 0x2, 1, .u8, .r, 0, 0, 255, none, false, .plain⟩,  -- BUS_REC
    ⟨0x9, 0x10, 96, 1, 0x3, 1, .u8, .r, 0, 0, 255, none, false, .plain⟩,  -- BUS_LAST_ERR
    ⟨0x9, 0x10, 96, 1, 0x4, 1, .u8, .r, 0, 0, 255, none, false, .plain⟩ ]  -- BUS_TDC_MEAS

/-- Area 3, part 4. -/
def tab34 : List Desc :=
  [ ⟨0x9, 0x10, 96, 1, 0x5, 1, .u8, .w, 0, 1, 1, none, false, .busRecover⟩,  -- BUS_RECOVER
    ⟨0xA, 0x10, 96, 1, 0x0, 1, .u48, .r, 0, 0, 281474976710655, none, false, .plain⟩,  -- BUS_RX_FRAMES
    ⟨0xA, 0x10, 96, 1, 0x1, 1, .u48, .r, 0, 0, 281474976710655, none, false, .plain⟩,  -- BUS_TX_FRAMES
    ⟨0xA, 0x10, 96, 1, 0x2, 1, .u24, .r, 0, 0, 16777215, none, false, .plain⟩,  -- BUS_ERRF_TX
    ⟨0xA, 0x10, 96, 1, 0x3, 1, .u24, .r, 0, 0, 16777215, none, false, .plain⟩,  -- BUS_ERRF_RX
    ⟨0xA, 0x10, 96, 1, 0x4, 1, .u24, .r, 0, 0, 16777215, none, false, .plain⟩,  -- BUS_ARB_LOST
    ⟨0xA, 0x10, 96, 1, 0x5, 1, .u24, .r, 0, 0, 16777215, none, false, .plain⟩,  -- BUS_RX_LOST
    ⟨0xA, 0x10, 96, 1, 0x6, 1, .u24, .r, 0, 0, 16777215, none, false, .plain⟩,  -- BUS_TWIN_EVENTS
    ⟨0xA, 0x10, 96, 1, 0x7, 1, .u24, .r, 0, 0, 16777215, none, false, .plain⟩,  -- BUS_OFFS
    ⟨0xA, 0x10, 96, 1, 0x8, 1, .u24, .r, 0, 0, 16777215, none, false, .plain⟩,  -- BUS_STRANDED
    ⟨0xA, 0x10, 96, 1, 0x9, 1, .u24, .r, 0, 0, 16777215, none, false, .plain⟩,  -- BUS_TX_ABORTS
    ⟨0xA, 0x10, 96, 1, 0xA, 1, .u24, .r, 0, 0, 16777215, none, false, .plain⟩,  -- BUS_PEX_COUNT
    ⟨0xA, 0x10, 96, 1, 0xB, 1, .u24, .r, 0, 0, 16777215, none, false, .plain⟩,  -- BUS_TX_INVALID
    ⟨0xA, 0x10, 96, 1, 0xC, 1, .u8, .w, 0, 1, 1, none, false, .busCntClear⟩ ]  -- BUS_CNT_CLEAR

/-- Area 4, part 1. -/
def tab41 : List Desc :=
  [ ⟨0x0, 0x100, 12, 1, 0x0, 1, .u8, .w, 0, 0, 255, none, false, .engStart⟩,  -- ENG_START
    ⟨0x0, 0x100, 12, 1, 0x1, 1, .u8, .w, 0, 0, 255, none, false, .engBitsync⟩,  -- ENG_BITSYNC
    ⟨0x0, 0x100, 12, 1, 0x2, 1, .u8, .rw, 0, 0, 255, none, true, .plain⟩,  -- ENG_SYNC_MASK
    ⟨0x0, 0x100, 12, 1, 0x3, 1, .u16, .rw, 0, 0, 511, none, true, .plain⟩,  -- ENG_ARM_MASK
    ⟨0x0, 0x100, 12, 1, 0x4, 1, .u8, .rw, 1, 0, 7, none, true, .plain⟩,  -- ENG_ARM_BASE
    ⟨0x0, 0x100, 12, 1, 0x5, 1, .t80, .rw, 0, 0, 1208925819614629174706175, none, true, .plain⟩,  -- ENG_ARM_TIME
    ⟨0x0, 0x100, 12, 1, 0x6, 1, .u8, .rw, 0, 1, 2, none, false, .armCmd⟩,  -- ENG_ARM_CMD
    ⟨0x10, 0x100, 12, 4, 0x0, 1, (.dom 512), .rw, 0, 0, 0, none, false, .winProg⟩,  -- WIN_PROG
    ⟨0x10, 0x100, 12, 4, 0x1, 1, .u8, .w, 0, 0, 3, none, false, .winSwap⟩,  -- WIN_SWAP
    ⟨0x10, 0x100, 12, 4, 0x2, 1, .u8, .r, 0, 0, 255, none, false, .plain⟩,  -- WIN_STATE
    ⟨0x10, 0x100, 12, 4, 0x3, 1, .u8, .r, 0, 0, 255, none, false, .plain⟩,  -- WIN_CHANNELS
    ⟨0x10, 0x100, 12, 4, 0x4, 1, .u8, .r, 0, 0, 255, none, false, .plain⟩,  -- WIN_LANDED
    ⟨0x10, 0x100, 12, 4, 0x5, 1, .u24, .r, 0, 0, 16777215, none, false, .plain⟩,  -- WIN_ID_ACTIVE
    ⟨0x10, 0x100, 12, 4, 0x6, 1, .u24, .rw, 0, 0, 16777215, none, false, .plain⟩,  -- WIN_ID_SHADOW
    ⟨0x10, 0x100, 12, 4, 0x7, 1, .u24, .r, 0, 0, 16777215, none, false, .plain⟩,  -- WIN_SWAPS
    ⟨0x10, 0x100, 12, 4, 0x8, 1, .u24, .r, 0, 0, 16777215, none, false, .plain⟩,  -- WIN_FORCED
    ⟨0x20, 0x100, 12, 8, 0x0, 1, .u8, .rw, 0, 0, 3, none, true, .chIdle⟩,  -- CH_WIN
    ⟨0x20, 0x100, 12, 8, 0x1, 1, .u8, .rw, 0, 0, 3, none, true, .chJoin⟩,  -- CH_JOIN
    ⟨0x20, 0x100, 12, 8, 0x2, 1, .u8, .rw, 0, 0, 1, none, true, .chIdle⟩,  -- CH_RX_SINK
    ⟨0x20, 0x100, 12, 8, 0x3, 1, .u8, .rw, 0, 0, 1, none, true, .chIdle⟩,  -- CH_TX_SRC
    ⟨0x20, 0x100, 12, 8, 0x4, 1, .bool, .rw, 0, 0, 1, none, true, .chPlain⟩,  -- CH_HOLDSTART
    ⟨0x20, 0x100, 12, 8, 0x5, 1, .u8, .rw, 1, 0, 1, none, true, .chFormat⟩,  -- CH_SYM_MODE
    ⟨0x20, 0x100, 12, 8, 0x6, 1, .u8, .rw, 8, 1, 24, none, true, .chFormat⟩,  -- CH_SYM_BITS
    ⟨0x20, 0x100, 12, 8, 0x7, 1, .u8, .rw, 0, 0, 2, none, true, .chFormat⟩,  -- CH_PARITY
    ⟨0x20, 0x100, 12, 8, 0x8, 1, .u8, .rw, 1, 1, 2, none, true, .chFormat⟩,  -- CH_STOP_BITS
    ⟨0x20, 0x100, 12, 8, 0x9, 1, .bool, .rw, 0, 0, 1, none, true, .chFormat⟩,  -- CH_MSB_FIRST
    ⟨0x20, 0x100, 12, 8, 0xA, 1, .bool, .rw, 1, 0, 1, none, true, .chPlain⟩,  -- CH_LINE_IDLE
    ⟨0x20, 0x100, 12, 8, 0xB, 1, .u24, .rw, 833333, 1920, 16777215, none, true, .chFormat⟩,  -- CH_BIT_DIV
    ⟨0x20, 0x100, 12, 8, 0xC, 1, .u16, .rw, 20, 1, 65535, none, true, .chPlain⟩,  -- CH_RX_IDLE
    ⟨0x20, 0x100, 12, 8, 0xD, 1, .u8, .rw, 7, 0, 7, none, true, .chPlain⟩,  -- CH_JPIN_A
    ⟨0x20, 0x100, 12, 8, 0xE, 1, .u8, .rw, 3, 0, 7, none, true, .chPlain⟩,  -- CH_JPIN_B
    ⟨0x20, 0x100, 12, 8, 0xF, 1, .u8, .rw, 0, 0, 1, none, true, .chPlain⟩ ]  -- CH_CRC_MODE

/-- Area 4, part 2. -/
def tab42 : List Desc :=
  [ ⟨0x20, 0x100, 12, 8, 0x10, 1, .u8, .rw, 0, 0, 15, none, true, .chPlain⟩,  -- CH_CRC_SKIP
    ⟨0x20, 0x100, 12, 8, 0x11, 4, .u24, .rw, 0, 0, 16777215, none, true, .chPlain⟩,  -- CH_K
    ⟨0x20, 0x100, 12, 8, 0x15, 1, .u8, .rw, 1, 0, 7, none, true, .chPlain⟩,  -- CH_TB
    ⟨0x20, 0x100, 12, 8, 0x16, 1, .s24, .rw, 0, (-10000), 10000, none, true, .chPlain⟩,  -- CH_TS_ADJ
    ⟨0x20, 0x100, 12, 8, 0x17, 1, .bool, .rw, 0, 0, 1, none, true, .chPlain⟩,  -- CH_TXAT
    ⟨0x30, 0x100, 12, 8, 0x0, 1, .u8, .r, 0, 0, 255, none, false, .plain⟩,  -- CH_STATE
    ⟨0x30, 0x100, 12, 8, 0x1, 1, .u8, .r, 0, 0, 255, none, false, .plain⟩,  -- CH_PC
    ⟨0x30, 0x100, 12, 8, 0x2, 1, .u8, .rw, 0, 0, 255, none, false, .chFlags⟩,  -- CH_FLAGS
    ⟨0x30, 0x100, 12, 8, 0x3, 1, .u8, .w, 0, 1, 3, none, false, .chCmd⟩,  -- CH_CMD
    ⟨0x30, 0x100, 12, 8, 0x4, 1, .u24, .r, 0, 0, 16777215, none, false, .plain⟩,  -- CH_RECOVERIES
    ⟨0x30, 0x100, 12, 8, 0x5, 1, .u24, .r, 0, 0, 16777215, none, false, .plain⟩,  -- CH_RXOVER_CNT
    ⟨0x30, 0x100, 12, 8, 0x6, 1, .u24, .r, 0, 0, 16777215, none, false, .plain⟩,  -- CH_TXUNDER_CNT
    ⟨0x30, 0x100, 12, 8, 0x7, 1, .u24, .r, 0, 0, 16777215, none, false, .plain⟩,  -- CH_TXSTALL_CNT
    ⟨0x30, 0x100, 12, 8, 0x8, 1, .u24, .r, 0, 0, 16777215, none, false, .plain⟩,  -- CH_CRC_ERR
    ⟨0x30, 0x100, 12, 8, 0x9, 1, .u48, .r, 0, 0, 281474976710655, none, false, .plain⟩,  -- CH_RX_FRAMES
    ⟨0x30, 0x100, 12, 8, 0xA, 1, .u48, .r, 0, 0, 281474976710655, none, false, .plain⟩,  -- CH_TX_FRAMES
    ⟨0x30, 0x100, 12, 8, 0xB, 1, .u24, .r, 0, 0, 16777215, none, false, .plain⟩,  -- CH_OVERSIZE
    ⟨0x30, 0x100, 12, 8, 0xC, 1, .u24, .r, 0, 0, 16777215, none, false, .plain⟩,  -- CH_TORN_CNT
    ⟨0x30, 0x100, 12, 8, 0xD, 1, .u24, .r, 0, 0, 16777215, none, false, .plain⟩,  -- CH_TX_DISCARD
    ⟨0x30, 0x100, 12, 8, 0xE, 1, .u8, .w, 0, 1, 1, none, false, .runCntClear⟩ ]  -- CH_RUN_CNT_CLEAR

/-- Area 5, part 1. -/
def tab51 : List Desc :=
  [ ⟨0x500, 0x1, 14, 1, 0x0, 1, .u24, .r, 0, 0, 16777215, none, false, .plain⟩,  -- ECC_CORRECTED
    ⟨0x500, 0x1, 14, 1, 0x1, 1, .u24, .r, 0, 0, 16777215, none, false, .plain⟩,  -- ECC_UNCORRECTED
    ⟨0x500, 0x1, 14, 1, 0x2, 1, .u24, .r, 0, 0, 16777215, none, false, .plain⟩,  -- ECC_POISONED
    ⟨0x500, 0x1, 14, 1, 0x3, 1, .u24, .r, 0, 0, 16777215, none, false, .plain⟩,  -- ECC_LAST_ADDR
    ⟨0x500, 0x1, 14, 1, 0x4, 1, .u8, .r, 0, 0, 255, none, false, .plain⟩,  -- ECC_LAST_UNIT
    ⟨0x500, 0x1, 14, 1, 0x5, 1, .u24, .r, 0, 0, 16777215, none, false, .plain⟩,  -- ECC_SCRUB_PASS
    ⟨0x500, 0x1, 14, 1, 0x6, 1, .u8, .w, 0, 1, 1, none, false, .eccClear⟩,  -- ECC_CLEAR
    ⟨0x520, 0x1, 1, 1, 0x0, 1, .u24, .r, 0, 0, 16777215, none, false, .plain⟩,  -- HOST_REFUSED
    ⟨0x0, 0x10, 20, 1, 0x0, 1, .u8, .r, 0, 0, 255, none, false, .plain⟩,  -- CORE_STATE
    ⟨0x0, 0x10, 20, 1, 0x1, 1, .u8, .w, 0, 1, 3, none, false, .coreCmd⟩,  -- CORE_CMD
    ⟨0x0, 0x10, 20, 1, 0x2, 1, .u8, .r, 0, 0, 255, none, false, .plain⟩,  -- CORE_BANK_ACTIVE
    ⟨0x0, 0x10, 20, 1, 0x3, 1, .u24, .r, 0, 0, 16777215, none, false, .plain⟩,  -- CORE_BANK_ID_ACTIVE
    ⟨0x0, 0x10, 20, 1, 0x4, 1, .u24, .rw, 0, 0, 16777215, none, false, .plain⟩,  -- CORE_BANK_ID_SHADOW
    ⟨0x0, 0x10, 20, 1, 0x5, 1, .u24, .r, 0, 0, 16777215, none, false, .plain⟩,  -- CORE_WDOG_RESETS
    ⟨0x0, 0x10, 20, 1, 0x6, 1, .u24, .r, 0, 0, 16777215, none, false, .plain⟩,  -- CORE_FAULTS
    ⟨0x0, 0x10, 20, 1, 0x7, 1, .u24, .r, 0, 0, 16777215, none, false, .plain⟩,  -- CORE_LAST_FAULT
    ⟨0x0, 0x10, 20, 1, 0x8, 1, .u24, .r, 0, 0, 16777215, none, false, .plain⟩,  -- CORE_LAST_FAULT_ADDR
    ⟨0x0, 0x10, 20, 1, 0x9, 1, .u24, .r, 0, 0, 16777215, none, false, .plain⟩,  -- CORE_SWAPS
    ⟨0x200, 0x1, 1, 1, 0x0, 4, .u8, .rw, 16, 16, 19, none, false, .roleHolder⟩,  -- ROLE_HOLDER
    ⟨0x200, 0x1, 1, 1, 0x4, 2, .u8, .rw, 17, 16, 19, none, false, .roleHolder⟩,  -- ROLE_HOLDER
    ⟨0x200, 0x1, 1, 1, 0x6, 2, .u8, .rw, 18, 16, 19, none, false, .roleHolder⟩,  -- ROLE_HOLDER
    ⟨0x200, 0x1, 1, 1, 0x8, 1, .u8, .rw, 19, 16, 19, none, false, .roleHolder⟩,  -- ROLE_HOLDER
    ⟨0x200, 0x1, 1, 1, 0x9, 1, .u24, .r, 0, 0, 16777215, none, false, .plain⟩,  -- TAKEOVERS
    ⟨0x210, 0x1, 1, 1, 0x0, 1, .u8, .w, 0, 1, 1, none, false, .fwPrepare⟩,  -- FW_PREPARE
    ⟨0x210, 0x1, 1, 1, 0x1, 1, .u8, .r, 0, 0, 255, none, false, .plain⟩,  -- FW_STATE
    ⟨0x210, 0x1, 1, 1, 0x2, 1, (.dom 196746), .w, 0, 0, 0, none, false, .fwBundle⟩,  -- FW_BUNDLE
    ⟨0x210, 0x1, 1, 1, 0x3, 1, .u8, .w, 0, 1, 2, none, false, .fwActivate⟩,  -- FW_ACTIVATE
    ⟨0x210, 0x1, 1, 1, 0x4, 1, .u8, .r, 0, 0, 255, none, false, .plain⟩,  -- FW_ACT_STATE
    ⟨0x210, 0x1, 1, 1, 0x5, 2, .u24, .r, 0, 0, 16777215, none, false, .plain⟩,  -- FW_VERSION_AB
    ⟨0x210, 0x1, 1, 1, 0x7, 2, .u24, .r, 0, 0, 16777215, none, false, .plain⟩ ]  -- FW_GEN_AB

/-- Area 6, part 1. -/
def tab61 : List Desc :=
  [ ⟨0x0, 0x10, 128, 1, 0x0, 1, .u8, .rw, 0, 0, 255, none, true, .ctxLocked⟩,  -- CTX_PERS
    ⟨0x0, 0x10, 128, 1, 0x1, 1, .u8, .rw, 0, 0, 15, none, true, .ctxLocked⟩,  -- CTX_CORE
    ⟨0x0, 0x10, 128, 1, 0x2, 1, .u8, .rw, 1, 0, 7, none, true, .plain⟩,  -- CTX_TB
    ⟨0x0, 0x10, 128, 1, 0x3, 1, .u24, .rw, 0, 125, 16000000, none, true, .ctxPeriod⟩,  -- CTX_PERIOD
    ⟨0x0, 0x10, 128, 1, 0x4, 1, .u24, .rw, 0, 0, 16777215, none, true, .ctxPhase⟩,  -- CTX_PHASE
    ⟨0x0, 0x10, 128, 1, 0x5, 1, .u24, .rw, 0, 0, 16777215, none, true, .plain⟩,  -- CTX_DEADLINE
    ⟨0x0, 0x10, 128, 1, 0x6, 1, .u16, .rw, 0, 1, 512, none, true, .ctxLocked⟩,  -- CTX_NODES
    ⟨0x0, 0x10, 128, 1, 0x7, 1, .u16, .rw, 0, 256, 3072, none, true, .ctxLocked⟩,  -- CTX_WORDS
    ⟨0x0, 0x10, 128, 1, 0x8, 1, .u16, .rw, 100, 0, 65535, none, true, .plain⟩,  -- CTX_CKPT_EVERY
    ⟨0x0, 0x10, 128, 1, 0x9, 1, .u8, .rwh, 1, 0, 3, none, true, .plain⟩,  -- CTX_MGMT_LEVEL
    ⟨0x0, 0x10, 128, 1, 0xA, 1, .u8, .rw, 5, 1, 255, none, true, .plain⟩,  -- CTX_RESTART_MAX
    ⟨0x0, 0x10, 128, 1, 0xB, 4, .u24, .rw, 0, 0, 16777215, none, true, .ctxLocked⟩,  -- CTX_PORT_MASK
    ⟨0x0, 0x10, 128, 1, 0xF, 1, .bool, .rw, 0, 0, 1, none, true, .plain⟩,  -- CTX_AUTOSTART
    ⟨0x1, 0x10, 128, 1, 0x0, 1, .u8, .w, 0, 1, 5, none, false, .ctxCmd⟩,  -- CTX_CMD
    ⟨0x1, 0x10, 128, 1, 0x1, 1, .u8, .w, 0, 0, 15, none, false, .ctxMigrate⟩,  -- CTX_MIGRATE
    ⟨0x1, 0x10, 128, 1, 0x2, 1, .u16, .w, 0, 0, 511, none, false, .ctxPersSwap⟩,  -- CTX_PERS_SWAP
    ⟨0x1, 0x10, 128, 1, 0x3, 1, .u8, .r, 0, 0, 255, none, false, .plain⟩,  -- CTX_STATE
    ⟨0x1, 0x10, 128, 1, 0x4, 1, .u8, .r, 255, 0, 255, none, false, .plain⟩,  -- CTX_CORE_NOW
    ⟨0x1, 0x10, 128, 1, 0x5, 1, .u8, .r, 255, 0, 255, none, false, .plain⟩,  -- CTX_SLOT
    ⟨0x1, 0x10, 128, 1, 0x6, 1, .u24, .r, 0, 0, 16777215, none, false, .plain⟩,  -- CTX_CYCLE
    ⟨0x1, 0x10, 128, 1, 0x7, 1, .u16, .r, 0, 0, 65535, none, false, .plain⟩,  -- CTX_NODE_BASE
    ⟨0x1, 0x10, 128, 1, 0x8, 1, .u24, .r, 0, 0, 16777215, none, false, .plain⟩,  -- CTX_CKPT_GEN
    ⟨0x2, 0x10, 128, 1, 0x0, 1, .u24, .r, 0, 0, 16777215, none, false, .plain⟩,  -- CTX_MISSED
    ⟨0x2, 0x10, 128, 1, 0x1, 1, .u24, .r, 0, 0, 16777215, none, false, .plain⟩,  -- CTX_RESTARTS
    ⟨0x2, 0x10, 128, 1, 0x2, 1, .u24, .r, 0, 0, 16777215, none, false, .plain⟩,  -- CTX_MIGRATIONS
    ⟨0x2, 0x10, 128, 1, 0x3, 1, .u24, .r, 0, 0, 16777215, none, false, .plain⟩,  -- CTX_CKPTS
    ⟨0x2, 0x10, 128, 1, 0x4, 1, .u24, .r, 0, 0, 16777215, none, false, .plain⟩,  -- CTX_CKPT_ABORTS
    ⟨0x2, 0x10, 128, 1, 0x5, 1, .u24, .r, 0, 0, 16777215, none, false, .plain⟩,  -- CTX_ORPHANS
    ⟨0x2, 0x10, 128, 1, 0x6, 1, .u24, .r, 0, 0, 16777215, none, false, .plain⟩,  -- CTX_SWAPS
    ⟨0x2, 0x10, 128, 1, 0x7, 1, .u8, .w, 0, 1, 1, none, false, .ctxCntClear⟩,  -- CTX_CNT_CLEAR
    ⟨0x3, 0x10, 128, 1, 0x1, 7, .u24, .rw, 0, 0, 16777215, none, true, .plain⟩,  -- CTX_CP_OFFSET
    ⟨0x800, 0x1, 256, 1, 0x0, 1, (.dom 393216), .w, 0, 0, 0, none, false, .persBundle⟩ ]  -- PERS_BUNDLE

/-- Area 6, part 2. -/
def tab62 : List Desc :=
  [ ⟨0x800, 0x1, 256, 1, 0x1, 1, .u8, .r, 0, 0, 255, none, false, .plain⟩,  -- PERS_STATE
    ⟨0x800, 0x1, 256, 1, 0x2, 1, .u24, .r, 0, 0, 16777215, none, false, .plain⟩,  -- PERS_ID
    ⟨0x800, 0x1, 256, 1, 0x3, 1, .u24, .r, 0, 0, 16777215, none, false, .plain⟩,  -- PERS_VERSION
    ⟨0x800, 0x1, 256, 1, 0x4, 1, .u8, .r, 0, 0, 255, none, false, .plain⟩,  -- PERS_USERS
    ⟨0x800, 0x1, 256, 1, 0x5, 1, .u8, .w, 0, 1, 1, none, false, .persDelete⟩,  -- PERS_DELETE
    ⟨0x800, 0x1, 256, 1, 0x6, 1, .u8, .r, 255, 0, 255, none, false, .plain⟩ ]  -- PERS_SIGNER

/-- Area 7, part 1. -/
def tab71 : List Desc :=
  [ ⟨0x0, 0x1, 2048, 1, 0x0, 1, .u24, .rw, 0, 0, 16000000, none, true, .meterRate⟩,  -- METER_CIR
    ⟨0x0, 0x1, 2048, 1, 0x1, 1, .u24, .rw, 0, 0, 16000000, none, true, .meterRate⟩,  -- METER_PIR
    ⟨0x0, 0x1, 2048, 1, 0x2, 1, .u24, .rw, 2000, 2000, 16000000, none, true, .meterRate⟩,  -- METER_CBS
    ⟨0x0, 0x1, 2048, 1, 0x3, 1, .u24, .rw, 2000, 2000, 16000000, none, true, .meterRate⟩,  -- METER_PBS
    ⟨0x0, 0x1, 2048, 1, 0x4, 1, .u8, .rw, 0, 0, 3, none, true, .plain⟩,  -- METER_MODE
    ⟨0x0, 0x1, 2048, 1, 0x5, 1, .u48, .r, 0, 0, 281474976710655, none, false, .plain⟩,  -- METER_GREEN
    ⟨0x0, 0x1, 2048, 1, 0x6, 1, .u48, .r, 0, 0, 281474976710655, none, false, .plain⟩,  -- METER_YELLOW
    ⟨0x0, 0x1, 2048, 1, 0x7, 1, .u48, .r, 0, 0, 281474976710655, none, false, .plain⟩,  -- METER_RED
    ⟨0x0, 0x1, 2048, 1, 0x8, 1, .u24, .r, 0, 0, 16777215, none, false, .plain⟩,  -- METER_DROPS
    ⟨0x0, 0x1, 2048, 1, 0x9, 1, .u8, .w, 0, 1, 1, none, false, .meterClear⟩,  -- METER_CLEAR
    ⟨0x800, 0x1, 1056, 1, 0x0, 1, .s24, .rw, (-1), (-4), 3, none, true, .plain⟩,  -- Q_ALPHA_EXP
    ⟨0x800, 0x1, 1056, 1, 0x1, 1, .u8, .rw, 0, 0, 15, none, true, .plain⟩,  -- Q_RED_PROFILE
    ⟨0x800, 0x1, 1056, 1, 0x2, 1, .u16, .rw, 1536, 64, 65535, none, true, .plain⟩,  -- Q_QUANTUM
    ⟨0x800, 0x1, 1056, 1, 0x3, 1, .u24, .r, 0, 0, 16777215, none, false, .plain⟩,  -- Q_DEPTH
    ⟨0x800, 0x1, 1056, 1, 0x4, 1, .u24, .rw, 0, 0, 16777215, none, false, .qPeak⟩,  -- Q_PEAK
    ⟨0x800, 0x1, 1056, 1, 0x5, 1, .u48, .r, 0, 0, 281474976710655, none, false, .plain⟩,  -- Q_ENQUEUED
    ⟨0x800, 0x1, 1056, 1, 0x6, 1, .u24, .r, 0, 0, 16777215, none, false, .plain⟩,  -- Q_DT_DROPS
    ⟨0x800, 0x1, 1056, 1, 0x7, 1, .u24, .r, 0, 0, 16777215, none, false, .plain⟩,  -- Q_RED_DROPS
    ⟨0x800, 0x1, 1056, 1, 0x8, 1, .u24, .r, 0, 0, 16777215, none, false, .plain⟩,  -- Q_FLUSHED
    ⟨0x800, 0x1, 1056, 1, 0x9, 1, .u24, .r, 0, 0, 16777215, none, false, .plain⟩,  -- Q_BAD_TAIL
    ⟨0x800, 0x1, 1056, 1, 0xA, 1, .u24, .r, 0, 0, 16777215, none, false, .plain⟩,  -- Q_UNDERRUNS
    ⟨0x800, 0x1, 1056, 1, 0xB, 1, .u24, .r, 0, 0, 16777215, none, false, .plain⟩,  -- Q_DEMOTED
    ⟨0x800, 0x1, 1056, 1, 0xC, 1, .u8, .w, 0, 1, 1, none, false, .qCntClear⟩,  -- Q_CNT_CLEAR
    ⟨0xC20, 0x1, 1, 1, 0x0, 1, .u24, .rwh, 2048, 0, 16384, none, true, .plain⟩,  -- HEADROOM
    ⟨0xC20, 0x1, 1, 1, 0x1, 1, .u24, .r, 131072, 0, 16777215, none, false, .plain⟩,  -- FREE_CELLS
    ⟨0xC20, 0x1, 1, 1, 0x2, 1, .u24, .rw, 131072, 0, 16777215, none, false, .freeMin⟩,  -- FREE_MIN
    ⟨0xC20, 0x1, 1, 1, 0x3, 1, .u24, .r, 0, 0, 16777215, none, false, .plain⟩,  -- NOBUF
    ⟨0xC20, 0x1, 1, 1, 0x4, 1, .u24, .r, 0, 0, 16777215, none, false, .plain⟩,  -- STAGE_DROPS
    ⟨0xC20, 0x1, 1, 1, 0x5, 1, .u24, .r, 0, 0, 16777215, none, false, .plain⟩,  -- PARSE_MISS
    ⟨0xC20, 0x1, 1, 1, 0x6, 1, .u24, .r, 0, 0, 16777215, none, false, .plain⟩,  -- PARSE_DROP
    ⟨0xC20, 0x1, 1, 1, 0x7, 1, .u16, .r, 0, 0, 65535, none, false, .plain⟩,  -- ENTRIES_USED
    ⟨0xC20, 0x1, 1, 1, 0x8, 1, (.dom 16384), .rw, 0, 0, 0, none, true, .mcTable⟩ ]  -- MC_TABLE

/-- Area 7, part 2. -/
def tab72 : List Desc :=
  [ ⟨0xC20, 0x1, 1, 1, 0x9, 1, (.dom 32768), .rw, 0, 0, 0, none, true, .fwdTable⟩,  -- FWD_TABLE
    ⟨0xC20, 0x1, 1, 1, 0xA, 1, (.dom 30), .rw, 0, 0, 0, none, true, .profile⟩,  -- UPLINK_PROFILE
    ⟨0xC20, 0x1, 1, 1, 0xB, 1, (.dom 30), .rw, 0, 0, 0, none, true, .profile⟩,  -- HOST_PROFILE
    ⟨0xC21, 0x1, 1, 1, 0x0, 48, .u24, .r, 0, 0, 16777215, none, false, .plain⟩,  -- STAGED
    ⟨0xC31, 0x1, 15, 1, 0x0, 1, .u8, .rw, 0, 0, 15, none, true, .plain⟩,  -- RED_W
    ⟨0xC31, 0x1, 15, 1, 0x1, 3, .u24, .rw, 131071, 0, 16777215, none, true, .redMin⟩,  -- RED_MIN
    ⟨0xC31, 0x1, 15, 1, 0x4, 3, .u24, .rw, 131072, 0, 16777215, none, true, .redMax⟩,  -- RED_MAX
    ⟨0xC31, 0x1, 15, 1, 0x7, 3, .u16, .rw, 0, 0, 256, none, true, .plain⟩,  -- RED_PMAX
    ⟨0xC50, 0x1, 21, 1, 0x0, 1, .u24, .rw, 0, 0, 16777215, none, true, .ringBase⟩,  -- RING_RX_BASE
    ⟨0xC50, 0x1, 21, 1, 0x1, 1, .u16, .rw, 0, 0, 65535, none, true, .ringSize⟩,  -- RING_RX_SIZE
    ⟨0xC50, 0x1, 21, 1, 0x2, 1, .u24, .rw, 0, 0, 16777215, none, true, .ringBase⟩,  -- RING_TX_BASE
    ⟨0xC50, 0x1, 21, 1, 0x3, 1, .u16, .rw, 0, 0, 65535, none, true, .ringSize⟩,  -- RING_TX_SIZE
    ⟨0xC50, 0x1, 21, 1, 0x4, 1, .u16, .r, 0, 0, 65535, none, false, .plain⟩,  -- RING_RX_PTR
    ⟨0xC50, 0x1, 21, 1, 0x5, 1, .u16, .r, 0, 0, 65535, none, false, .plain⟩,  -- RING_TX_PTR
    ⟨0xC50, 0x1, 21, 1, 0x6, 1, .u48, .r, 0, 0, 281474976710655, none, false, .plain⟩,  -- RING_RX_FRAMES
    ⟨0xC50, 0x1, 21, 1, 0x7, 1, .u48, .r, 0, 0, 281474976710655, none, false, .plain⟩,  -- RING_TX_FRAMES
    ⟨0xC50, 0x1, 21, 1, 0x8, 1, .u24, .r, 0, 0, 16777215, none, false, .plain⟩ ]  -- RING_TX_BAD

/-- Area 8, part 1. -/
def tab81 : List Desc :=
  [ ⟨0x0, 0x1, 1024, 1, 0x0, 1, .u24, .rwh, 0, 0, 16777215, none, true, .region⟩,  -- REG_BASE
    ⟨0x0, 0x1, 1024, 1, 0x1, 1, .u24, .rwh, 0, 0, 16777215, none, true, .region⟩,  -- REG_SIZE
    ⟨0x0, 0x1, 1024, 1, 0x2, 1, .u8, .rwh, 255, 0, 255, none, true, .region⟩,  -- REG_OWNER
    ⟨0x0, 0x1, 1024, 1, 0x3, 1, .u8, .rwh, 0, 0, 1, none, true, .regPlain⟩,  -- REG_POLICY
    ⟨0x0, 0x1, 1024, 1, 0x4, 1, .u8, .rwh, 1, 0, 7, none, true, .regPlain⟩,  -- REG_TB
    ⟨0x0, 0x1, 1024, 1, 0x5, 1, .u8, .rwh, 2, 0, 5, none, true, .regPlain⟩,  -- REG_QUANT
    ⟨0x0, 0x1, 1024, 1, 0x6, 1, .u24, .rw, 0, 0, 4194304, none, true, .plain⟩,  -- REG_FRESH_LIMIT
    ⟨0x0, 0x1, 1024, 1, 0x7, 1, .u8, .rwh, 3, 0, 255, none, true, .regRights⟩,  -- REG_RIGHTS
    ⟨0x0, 0x1, 1024, 1, 0x8, 1, .u8, .w, 0, 1, 1, none, false, .contestClear⟩,  -- REG_CONTEST_CLEAR
    ⟨0x0, 0x1, 1024, 1, 0x9, 1, .u8, .w, 0, 1, 1, none, false, .regClear⟩,  -- REG_CLEAR
    ⟨0x0, 0x1, 1024, 1, 0xA, 1, .u24, .r, 0, 0, 16777215, none, false, .plain⟩,  -- REG_STALE_NOW
    ⟨0x0, 0x1, 1024, 1, 0xB, 1, .u24, .r, 0, 0, 16777215, none, false, .plain⟩,  -- REG_CONTESTS
    ⟨0x0, 0x1, 1024, 1, 0xC, 1, .u24, .r, 0, 0, 16777215, none, false, .plain⟩,  -- REG_FOREIGN_DROPS
    ⟨0x0, 0x1, 1024, 1, 0xD, 1, .u24, .r, 0, 0, 16777215, none, false, .plain⟩,  -- REG_FORCED_DROPS
    ⟨0x0, 0x1, 1024, 1, 0xE, 1, .u24, .r, 0, 0, 16777215, none, false, .plain⟩,  -- REG_RIGHTS_DROPS
    ⟨0x0, 0x1, 1024, 1, 0xF, 1, .u8, .w, 0, 1, 1, none, false, .regCntClear⟩,  -- REG_CNT_CLEAR
    ⟨0x400, 0x1, 1, 1, 0x0, 1, .u48, .r, 0, 0, 281474976710655, none, false, .plain⟩,  -- SCATTER_FRAMES
    ⟨0x400, 0x1, 1, 1, 0x1, 1, .u48, .r, 0, 0, 281474976710655, none, false, .plain⟩,  -- SCATTER_UPDATES
    ⟨0x400, 0x1, 1, 1, 0x2, 1, .u24, .r, 0, 0, 16777215, none, false, .plain⟩,  -- LIST_MISSING
    ⟨0x400, 0x1, 1, 1, 0x3, 1, .u24, .r, 0, 0, 16777215, none, false, .plain⟩,  -- SHORT_FIELDS
    ⟨0x400, 0x1, 1, 1, 0x4, 1, .u24, .r, 0, 0, 16777215, none, false, .plain⟩,  -- NO_REGION
    ⟨0x400, 0x1, 1, 1, 0x5, 1, .u24, .r, 0, 0, 16777215, none, false, .plain⟩,  -- BAD_TABLES
    ⟨0x400, 0x1, 1, 1, 0x6, 1, .u24, .r, 0, 0, 16777215, none, false, .plain⟩,  -- SWEEP_PASS
    ⟨0x400, 0x1, 1, 1, 0x7, 1, .u24, .r, 65536, 0, 16777215, none, false, .plain⟩,  -- LIST_WORDS_FREE
    ⟨0x401, 0x1, 1, 1, 0x0, 1, .u16, .r, 0, 0, 65535, none, false, .plain⟩,  -- TEMPLATES
    ⟨0x401, 0x1, 1, 1, 0x1, 1, .u48, .r, 0, 0, 281474976710655, none, false, .plain⟩,  -- FIRINGS
    ⟨0x401, 0x1, 1, 1, 0x2, 1, .u24, .r, 0, 0, 16777215, none, false, .plain⟩,  -- LATE
    ⟨0x401, 0x1, 1, 1, 0x3, 1, .u24, .r, 0, 0, 16777215, none, false, .plain⟩,  -- SKIPPED
    ⟨0x401, 0x1, 1, 1, 0x4, 1, .u24, .r, 0, 0, 16777215, none, false, .plain⟩,  -- POISON_SUBS
    ⟨0x401, 0x1, 1, 1, 0x5, 1, .u24, .r, 0, 0, 16777215, none, false, .plain⟩,  -- STALE_SUBS
    ⟨0x401, 0x1, 1, 1, 0x6, 1, .u8, .w, 0, 1, 1, none, false, .cellarCntClear⟩,  -- CELLAR_CNT_CLEAR
    ⟨0x402, 0x1, 1, 1, 0x0, 1, (.dom 98304), .rwh, 0, 0, 0, none, true, .devScatter⟩ ]  -- DEV_SCATTER

/-- Area 8, part 2. -/
def tab82 : List Desc :=
  [ ⟨0x402, 0x1, 1, 1, 0x1, 1, .u16, .r, 0, 0, 65535, none, false, .plain⟩,  -- DEV_SCATTER_BASE
    ⟨0x402, 0x1, 1, 1, 0x2, 1, (.dom 98304), .rwh, 0, 0, 0, none, true, .devGather⟩,  -- DEV_GATHER
    ⟨0x402, 0x1, 1, 1, 0x3, 1, .u16, .r, 0, 0, 65535, none, false, .plain⟩ ]  -- DEV_GATHER_BASE

/-- Area 9, part 1. -/
def tab91 : List Desc :=
  [ ⟨0x0, 0x10, 8, 1, 0x0, 1, .t80, .r, 0, 0, 1208925819614629174706175, none, false, .plain⟩,  -- TB_NOW
    ⟨0x0, 0x10, 8, 1, 0x1, 1, .u48, .rw, 4294967296, 0, 1099511627775, none, false, .tbIncr⟩,  -- TB_INCR
    ⟨0x0, 0x10, 8, 1, 0x2, 1, .s48, .w, 0, (-140737488355328), 140737488355327, none, false, .tbOffset⟩,  -- TB_OFFSET
    ⟨0x0, 0x10, 8, 1, 0x3, 1, .u24, .rw, 1000000, 1, 16777215, none, true, .tbPlain⟩,  -- TB_SLEW_TICKS
    ⟨0x0, 0x10, 8, 1, 0x4, 1, .t80, .w, 0, 0, 1208925819614629174706175, none, false, .tbSet⟩,  -- TB_SET
    ⟨0x0, 0x10, 8, 1, 0x5, 1, .u8, .r, 0, 0, 255, none, false, .plain⟩,  -- TB_STATE
    ⟨0x0, 0x10, 8, 1, 0x6, 1, .u8, .rwh, 255, 0, 7, some 255, true, .tbReserve⟩,  -- TB_RESERVE
    ⟨0x0, 0x10, 8, 1, 0x7, 1, .u24, .rw, 3000, 10, 600000, none, true, .tbPlain⟩,  -- TB_SYNC_LOSS_TIMEOUT
    ⟨0x0, 0x10, 8, 1, 0x8, 1, .u24, .rw, 10000, 100, 500000, none, true, .tbPlain⟩,  -- TB_SLEW_MAX
    ⟨0x0, 0x10, 8, 1, 0x9, 1, .bool, .rw, 0, 0, 1, none, false, .tbSynced⟩,  -- TB_SYNCED
    ⟨0x0, 0x10, 8, 1, 0xA, 1, .u8, .w, 0, 1, 2, none, false, .tbSwitch⟩,  -- TB_SWITCH
    ⟨0x0, 0x10, 8, 1, 0xB, 1, .bool, .rw, 1, 0, 1, none, true, .tbPlain⟩,  -- TB_REVERT
    ⟨0x0, 0x10, 8, 1, 0xC, 1, .u16, .rw, 10, 1, 3600, none, true, .tbPlain⟩,  -- TB_REVERT_HOLD
    ⟨0x0, 0x10, 8, 1, 0xD, 1, .u16, .r, 0, 0, 65535, none, false, .plain⟩,  -- TB_SCHEDULES
    ⟨0x0, 0x10, 8, 1, 0xE, 1, .u8, .rwh, 255, 0, 127, some 255, true, .discCtx⟩,  -- TB_DISC_CTX
    ⟨0x1, 0x10, 8, 1, 0x0, 1, .u24, .r, 0, 0, 16777215, none, false, .plain⟩,  -- TB_SWITCHES
    ⟨0x1, 0x10, 8, 1, 0x1, 1, .u24, .r, 0, 0, 16777215, none, false, .plain⟩,  -- TB_SYNC_LOSSES
    ⟨0x1, 0x10, 8, 1, 0x2, 1, .s48, .r, 0, (-140737488355328), 140737488355327, none, false, .plain⟩,  -- TB_DIFF
    ⟨0x1, 0x10, 8, 1, 0x3, 1, .s48, .r, 0, (-140737488355328), 140737488355327, none, false, .plain⟩,  -- TB_OFFSET_PENDING
    ⟨0x1, 0x10, 8, 1, 0x4, 1, .u8, .w, 0, 1, 1, none, false, .tbCntClear⟩,  -- TB_CNT_CLEAR
    ⟨0x80, 0x1, 4, 1, 0x0, 1, .u8, .rw, 0, 0, 1, none, true, .plain⟩,  -- PPS_IN_EDGE
    ⟨0x80, 0x1, 4, 1, 0x1, 1, .u8, .rw, 1, 0, 7, none, true, .plain⟩,  -- PPS_IN_TB
    ⟨0x80, 0x1, 4, 1, 0x2, 1, .u8, .rwh, 255, 1, 7, some 255, true, .ppsInDisc⟩,  -- PPS_IN_DISC
    ⟨0x80, 0x1, 4, 1, 0x3, 1, .s24, .rw, 0, (-1000000), 1000000, none, true, .plain⟩,  -- PPS_IN_PHASE
    ⟨0x80, 0x1, 4, 1, 0x4, 1, .u24, .rw, 1000, 0, 16777215, none, true, .plain⟩,  -- PPS_SYNC_LIMIT
    ⟨0x80, 0x1, 4, 1, 0x5, 1, .t80, .r, 0, 0, 1208925819614629174706175, none, false, .plain⟩,  -- PPS_IN_LAST
    ⟨0x80, 0x1, 4, 1, 0x6, 1, .u24, .r, 0, 0, 16777215, none, false, .plain⟩,  -- PPS_IN_COUNT
    ⟨0x80, 0x1, 4, 1, 0x7, 1, .u24, .r, 0, 0, 16777215, none, false, .plain⟩,  -- PPS_IN_LOST
    ⟨0x90, 0x1, 4, 1, 0x0, 1, .bool, .rw, 0, 0, 1, none, true, .ppsOutEn⟩,  -- PPS_OUT_EN
    ⟨0x90, 0x1, 4, 1, 0x1, 1, .u8, .rw, 1, 0, 7, none, true, .plain⟩,  -- PPS_OUT_TB
    ⟨0x90, 0x1, 4, 1, 0x2, 1, .u48, .rw, 1000000000, 1000, 1000000000, none, true, .ppsOut⟩,  -- PPS_OUT_PERIOD
    ⟨0x90, 0x1, 4, 1, 0x3, 1, .u48, .rw, 0, 0, 281474976710655, none, true, .ppsOut⟩ ]  -- PPS_OUT_PHASE

/-- Area 9, part 2. -/
def tab92 : List Desc :=
  [ ⟨0x90, 0x1, 4, 1, 0x4, 1, .u48, .rw, 100000000, 0, 281474976710655, none, true, .ppsOut⟩,  -- PPS_OUT_WIDTH
    ⟨0xA0, 0x1, 4, 1, 0x0, 1, .s24, .r, 0, (-8388608), 8388607, none, false, .plain⟩,  -- TSA_TS_SKEW
    ⟨0xA0, 0x1, 4, 1, 0x1, 1, .u24, .r, 0, 0, 16777215, none, false, .plain⟩,  -- TSA_TS_REALIGN
    ⟨0xC0, 0x1, 1, 1, 0x0, 1, .bool, .rwh, 0, 0, 1, none, true, .asAgent⟩,  -- AS_ENABLE
    ⟨0xC0, 0x1, 1, 1, 0x1, 1, .u8, .rwh, 1, 1, 7, none, true, .asAgent⟩,  -- AS_TB
    ⟨0xC0, 0x1, 1, 1, 0x2, 1, .u8, .rwh, 0, 0, 255, none, true, .plain⟩,  -- AS_DOMAIN
    ⟨0xC0, 0x1, 1, 1, 0x3, 1, .u8, .rwh, 1, 0, 15, none, true, .plain⟩,  -- AS_UPLINKS
    ⟨0xC0, 0x1, 1, 1, 0x4, 4, .u24, .rwh, 0, 0, 16777215, none, true, .plain⟩,  -- AS_PORTS
    ⟨0xC0, 0x1, 1, 1, 0x8, 1, .u8, .rwh, 246, 0, 255, none, true, .plain⟩,  -- AS_PRIORITY1
    ⟨0xC0, 0x1, 1, 1, 0x9, 1, .bool, .rwh, 1, 0, 1, none, true, .plain⟩,  -- AS_GM_CAPABLE
    ⟨0xC0, 0x1, 1, 1, 0xA, 1, .u24, .rw, 1000, 0, 16777215, none, true, .plain⟩,  -- AS_SYNC_LIMIT
    ⟨0xC0, 0x1, 1, 1, 0xB, 1, .u8, .r, 0, 0, 255, none, false, .plain⟩,  -- AS_STATE
    ⟨0xC0, 0x1, 1, 1, 0xC, 1, (.dom 8), .r, 0, 0, 0, none, false, .plain⟩,  -- AS_GM_ID
    ⟨0xC0, 0x1, 1, 1, 0xD, 1, .s48, .r, 0, (-140737488355328), 140737488355327, none, false, .plain⟩,  -- AS_OFFSET
    ⟨0xC0, 0x1, 1, 1, 0xE, 1, .u24, .r, 0, 0, 16777215, none, false, .plain⟩,  -- AS_PATH_DELAY
    ⟨0x100, 0x10, 96, 1, 0x0, 1, .u8, .rw, 255, 0, 127, some 255, true, .segCfg⟩,  -- SEG_CTX
    ⟨0x100, 0x10, 96, 1, 0x1, 1, .u8, .rw, 0, 0, 15, none, true, .segCfg⟩,  -- SEG_PIX
    ⟨0x100, 0x10, 96, 1, 0x2, 1, .u8, .rw, 2, 0, 2, none, true, .segCfg⟩,  -- SEG_RATE
    ⟨0x100, 0x10, 96, 1, 0x3, 1, .u8, .rw, 1, 0, 7, none, true, .segCfg⟩,  -- SEG_TB
    ⟨0x100, 0x10, 96, 1, 0x4, 1, .u24, .rw, 1000, 250, 100000, none, true, .segCfg⟩,  -- SEG_CYCLE_LEN
    ⟨0x100, 0x10, 96, 1, 0x5, 1, .u24, .rw, 0, 0, 16777215, none, true, .segCfg⟩,  -- SEG_PHASE
    ⟨0x100, 0x10, 96, 1, 0x6, 1, .u8, .rw, 1, 1, 255, none, true, .segCfg⟩,  -- SEG_SLOTS
    ⟨0x100, 0x10, 96, 1, 0x7, 1, .u24, .rw, 0, 0, 16777215, none, true, .segCfg⟩,  -- SEG_SLOT_LEN
    ⟨0x100, 0x10, 96, 1, 0x8, 1, .u24, .rw, 0, 0, 16777215, none, true, .segCfg⟩,  -- SEG_ACT_OFS
    ⟨0x100, 0x10, 96, 1, 0x9, 1, .u16, .rw, 0, 0, 65535, none, true, .segCfg⟩,  -- SEG_PI
    ⟨0x100, 0x10, 96, 1, 0xA, 1, .u16, .rw, 0, 0, 65535, none, true, .segCfg⟩,  -- SEG_PI_MAX
    ⟨0x100, 0x10, 96, 1, 0xB, 1, .u8, .rw, 64, 0, 64, none, true, .segCfg⟩,  -- SEG_MAX_PAYLOAD
    ⟨0x100, 0x10, 96, 1, 0xC, 1, .u8, .rw, 255, 0, 3, some 255, true, .segCfg⟩,  -- SEG_RANK
    ⟨0x100, 0x10, 96, 1, 0xD, 1, .u8, .rw, 1, 1, 255, none, true, .segCfg⟩,  -- SEG_SYNC_SLOT
    ⟨0x100, 0x10, 96, 1, 0xE, 1, .u8, .rw, 0, 0, 1, none, true, .segCfg⟩,  -- SEG_SYNC_MODE
    ⟨0x100, 0x10, 96, 1, 0xF, 1, .u16, .rw, 20, 5, 1000, none, true, .segCfg⟩,  -- SEG_LEAD
    ⟨0x101, 0x10, 96, 1, 0x0, 1, (.dom 1530), .rw, 0, 0, 0, none, true, .slotMap⟩ ]  -- SEG_SLOT_MAP

/-- Area 9, part 3. -/
def tab93 : List Desc :=
  [ ⟨0x101, 0x10, 96, 1, 0x1, 1, .bool, .rw, 0, 0, 1, none, true, .plain⟩,  -- SEG_CTX_SYNC
    ⟨0x101, 0x10, 96, 1, 0x2, 1, .u8, .rw, 3, 0, 3, none, true, .plain⟩,  -- SEG_WIN
    ⟨0x101, 0x10, 96, 1, 0x3, 1, .bool, .rw, 0, 0, 1, none, true, .plain⟩,  -- SEG_AUTOSTART
    ⟨0x101, 0x10, 96, 1, 0x4, 1, .u8, .w, 0, 1, 2, none, false, .segCmd⟩,  -- SEG_CMD
    ⟨0x102, 0x10, 96, 1, 0x0, 1, .u8, .r, 0, 0, 255, none, false, .plain⟩,  -- SEG_STATE
    ⟨0x102, 0x10, 96, 1, 0x1, 1, .u8, .r, 0, 0, 255, none, false, .plain⟩,  -- SEG_FLAGS
    ⟨0x102, 0x10, 96, 1, 0x2, 1, .u24, .r, 0, 0, 16777215, none, false, .plain⟩,  -- SEG_CYCLE
    ⟨0x102, 0x10, 96, 1, 0x3, 1, .s24, .r, 0, (-8388608), 8388607, none, false, .plain⟩,  -- SEG_OFFSET
    ⟨0x102, 0x10, 96, 1, 0x4, 1, .s24, .r, 0, (-8388608), 8388607, none, false, .plain⟩,  -- SEG_RATE_CORR
    ⟨0x102, 0x10, 96, 1, 0x5, 1, .u8, .r, 0, 0, 255, none, false, .plain⟩,  -- SEG_SYNC_SEEN
    ⟨0x103, 0x10, 96, 1, 0x0, 1, .u48, .r, 0, 0, 281474976710655, none, false, .plain⟩,  -- SEG_VALID_FRAMES
    ⟨0x103, 0x10, 96, 1, 0x1, 1, .u24, .r, 0, 0, 16777215, none, false, .plain⟩,  -- SEG_EDGE
    ⟨0x103, 0x10, 96, 1, 0x2, 1, .u24, .r, 0, 0, 16777215, none, false, .plain⟩,  -- SEG_COLLIDED
    ⟨0x103, 0x10, 96, 1, 0x3, 1, .u24, .r, 0, 0, 16777215, none, false, .plain⟩,  -- SEG_EMPTY
    ⟨0x103, 0x10, 96, 1, 0x4, 1, .u24, .r, 0, 0, 16777215, none, false, .plain⟩,  -- SEG_CRC_ERR
    ⟨0x103, 0x10, 96, 1, 0x5, 1, .u24, .r, 0, 0, 16777215, none, false, .plain⟩,  -- SEG_HDR_ERR
    ⟨0x103, 0x10, 96, 1, 0x6, 1, .u24, .r, 0, 0, 16777215, none, false, .plain⟩,  -- SEG_CYC_ERR
    ⟨0x103, 0x10, 96, 1, 0x7, 1, .u24, .r, 0, 0, 16777215, none, false, .plain⟩,  -- SEG_TX_LATE
    ⟨0x103, 0x10, 96, 1, 0x8, 1, .u24, .r, 0, 0, 16777215, none, false, .plain⟩,  -- SEG_TX_BAD
    ⟨0x103, 0x10, 96, 1, 0x9, 1, .u24, .r, 0, 0, 16777215, none, false, .plain⟩,  -- SEG_COLLISIONS
    ⟨0x103, 0x10, 96, 1, 0xA, 1, .u24, .r, 0, 0, 16777215, none, false, .plain⟩,  -- SEG_PASSIVES
    ⟨0x103, 0x10, 96, 1, 0xB, 1, .u24, .r, 0, 0, 16777215, none, false, .plain⟩,  -- SEG_RATE_CLAMPS
    ⟨0x103, 0x10, 96, 1, 0xC, 1, .u24, .r, 0, 0, 16777215, none, false, .plain⟩,  -- SEG_SYNC_EXCESS
    ⟨0x103, 0x10, 96, 1, 0xD, 1, .u24, .r, 0, 0, 16777215, none, false, .plain⟩,  -- SEG_SCHED_CONFLICT
    ⟨0x103, 0x10, 96, 1, 0xE, 1, .u8, .w, 0, 1, 1, none, false, .segCntClear⟩,  -- SEG_CNT_CLEAR
    ⟨0x104, 0x10, 96, 1, 0x0, 1, (.dom 2295), .r, 0, 0, 0, none, false, .plain⟩ ]  -- SEG_SLOT_COUNTS

/-- Area A, part 1. -/
def tabA1 : List Desc :=
  [ ⟨0x0, 0x1, 4096, 1, 0x0, 1, .bool, .rw, 0, 0, 1, none, true, .axUse⟩,  -- AX_USE
    ⟨0x0, 0x1, 4096, 1, 0x1, 1, .u8, .rw, 0, 0, 3, none, true, .axParam⟩,  -- AX_GROUP
    ⟨0x0, 0x1, 4096, 1, 0x2, 1, .u24, .rw, 0, 0, 16777215, none, true, .axParam⟩,  -- AX_SIG
    ⟨0x0, 0x1, 4096, 1, 0x3, 1, .u8, .rw, 255, 0, 15, some 255, true, .axParam⟩,  -- AX_MASTER
    ⟨0x0, 0x1, 4096, 1, 0x4, 1, .u48, .rw, 0, 0, 281474976710655, none, true, .axParam⟩,  -- AX_MOD_LEN
    ⟨0x0, 0x1, 4096, 1, 0x5, 1, .u8, .rw, 0, 0, 2, none, true, .axParam⟩,  -- AX_REVERSAL
    ⟨0x0, 0x1, 4096, 1, 0x6, 1, .s48, .rw, 65536000000, (-140737488355328), 140737488355327, none, true, .axParam⟩,  -- AX_VMAX
    ⟨0x0, 0x1, 4096, 1, 0x7, 1, .s48, .rw, 2560000000, (-140737488355328), 140737488355327, none, true, .axParam⟩,  -- AX_AMAX
    ⟨0x0, 0x1, 4096, 1, 0x8, 1, .s48, .rw, 2560000000, (-140737488355328), 140737488355327, none, true, .axParam⟩,  -- AX_DMAX
    ⟨0x0, 0x1, 4096, 1, 0x9, 1, .u48, .rw, 0, 0, 281474976710655, none, true, .axParam⟩,  -- AX_JMAX
    ⟨0x0, 0x1, 4096, 1, 0xA, 1, .s48, .rw, 2560000000, (-140737488355328), 140737488355327, none, true, .axParam⟩,  -- AX_D_STOP
    ⟨0x0, 0x1, 4096, 1, 0xB, 1, .s48, .rw, 10240000000, (-140737488355328), 140737488355327, none, true, .axParam⟩,  -- AX_D_FAULT
    ⟨0x0, 0x1, 4096, 1, 0xC, 1, .bool, .rw, 0, 0, 1, none, true, .axParam⟩,  -- AX_SOFT_EN
    ⟨0x0, 0x1, 4096, 1, 0xD, 1, .s48, .rw, 0, (-140737488355328), 140737488355327, none, true, .axParam⟩,  -- AX_SOFT_MIN
    ⟨0x0, 0x1, 4096, 1, 0xE, 1, .s48, .rw, 0, (-140737488355328), 140737488355327, none, true, .axParam⟩,  -- AX_SOFT_MAX
    ⟨0x0, 0x1, 4096, 1, 0xF, 1, .bool, .rw, 0, 0, 1, none, true, .axParam⟩,  -- AX_FE_EN
    ⟨0x0, 0x1, 4096, 1, 0x10, 1, .u48, .rw, 10000, 0, 281474976710655, none, true, .axParam⟩,  -- AX_FE_LIMIT
    ⟨0x0, 0x1, 4096, 1, 0x11, 1, .u8, .rw, 3, 1, 255, none, true, .axParam⟩,  -- AX_FE_TIME
    ⟨0x0, 0x1, 4096, 1, 0x12, 1, .u8, .rw, 0, 0, 3, none, true, .axParam⟩,  -- AX_STANDSTILL
    ⟨0x0, 0x1, 4096, 1, 0x13, 1, .u16, .rw, 500, 0, 65535, none, true, .axParam⟩,  -- AX_REST_MS
    ⟨0x0, 0x1, 4096, 1, 0x14, 1, .u8, .rw, 40, 0, 100, none, true, .axParam⟩,  -- AX_REDUCE_PCT
    ⟨0x0, 0x1, 4096, 1, 0x15, 1, .u16, .rw, 20, 0, 65535, none, true, .axParam⟩,  -- AX_WAKE_MS
    ⟨0x0, 0x1, 4096, 1, 0x16, 1, .u8, .rw, 0, 0, 8, none, true, .axParam⟩,  -- AX_HOME_METHOD
    ⟨0x0, 0x1, 4096, 1, 0x17, 1, .u8, .rw, 0, 0, 255, none, true, .axParam⟩,  -- AX_HOME_TABLE
    ⟨0x0, 0x1, 4096, 1, 0x18, 1, .s48, .rw, 0, (-140737488355328), 140737488355327, none, true, .axParam⟩,  -- AX_HOME_OFFSET
    ⟨0x0, 0x1, 4096, 1, 0x19, 1, .s48, .rw, 6553600000, (-140737488355328), 140737488355327, none, true, .axParam⟩,  -- AX_V_SEARCH
    ⟨0x0, 0x1, 4096, 1, 0x1A, 1, .s48, .rw, 655360000, (-140737488355328), 140737488355327, none, true, .axParam⟩,  -- AX_V_CREEP
    ⟨0x0, 0x1, 4096, 1, 0x20, 1, .u8, .r, 0, 0, 255, none, false, .plain⟩,  -- AX_STATE
    ⟨0x0, 0x1, 4096, 1, 0x21, 1, .u8, .r, 0, 0, 255, none, false, .plain⟩,  -- AX_FAULT
    ⟨0x0, 0x1, 4096, 1, 0x22, 1, .s48, .r, 0, (-140737488355328), 140737488355327, none, false, .plain⟩,  -- AX_POS
    ⟨0x0, 0x1, 4096, 1, 0x23, 1, .s48, .r, 0, (-140737488355328), 140737488355327, none, false, .plain⟩,  -- AX_VEL
    ⟨0x0, 0x1, 4096, 1, 0x24, 1, .s48, .r, 0, (-140737488355328), 140737488355327, none, false, .plain⟩ ]  -- AX_FE

/-- Area A, part 2. -/
def tabA2 : List Desc :=
  [ ⟨0x0, 0x1, 4096, 1, 0x25, 1, .u8, .r, 0, 0, 255, none, false, .plain⟩,  -- AX_STEPS_QUEUED
    ⟨0x0, 0x1, 4096, 1, 0x26, 1, .u8, .r, 0, 0, 255, none, false, .plain⟩,  -- AX_HOME_RESULT
    ⟨0x0, 0x1, 4096, 1, 0x27, 1, (.dom 24), .w, 0, 0, 0, none, false, .axCmd⟩,  -- AX_CMD
    ⟨0x0, 0x1, 4096, 1, 0x28, 1, .u24, .r, 0, 0, 16777215, none, false, .plain⟩,  -- AX_FAULTS
    ⟨0x0, 0x1, 4096, 1, 0x29, 1, .u24, .r, 0, 0, 16777215, none, false, .plain⟩,  -- AX_STEPS_TAKEN
    ⟨0x0, 0x1, 4096, 1, 0x2A, 1, .u8, .w, 0, 1, 1, none, false, .axCntClear⟩ ]  -- AX_CNT_CLEAR

/-- Area B, part 1. -/
def tabB1 : List Desc :=
  [ ⟨0x0, 0x1, 21, 1, 0x0, 8, .bool, .rw, 0, 0, 1, none, true, .mbWake⟩,  -- EP_MB_WAKE
    ⟨0x0, 0x1, 21, 1, 0x8, 1, .u24, .r, 0, 0, 16777215, none, false, .plain⟩,  -- EP_EPOCH
    ⟨0x0, 0x1, 21, 1, 0x9, 1, .u24, .r, 0, 0, 16777215, none, false, .plain⟩,  -- EP_COLLIDES
    ⟨0x0, 0x1, 21, 1, 0xA, 1, .u24, .r, 0, 0, 16777215, none, false, .plain⟩,  -- EP_DOORBELL
    ⟨0x0, 0x1, 21, 1, 0xB, 1, .u24, .w, 0, 0, 16777215, none, false, .epRing⟩,  -- EP_RING
    ⟨0x100, 0x1, 2048, 1, 0x0, 1, .u24, .rw, 0, 0, 16777215, none, true, .gcRoute⟩,  -- GC_ROUTE
    ⟨0x100, 0x1, 2048, 1, 0x1, 1, .bool, .rw, 0, 0, 1, none, false, .gcEnable⟩,  -- GC_ENABLE
    ⟨0x100, 0x1, 2048, 1, 0x2, 1, .bool, .r, 0, 0, 1, none, false, .plain⟩,  -- GC_FIRED_BIT
    ⟨0x900, 0x1, 1, 1, 0x0, 86, .u8, .rwh, 31, 0, 20, some 31, true, .plain⟩,  -- GC_OWNER
    ⟨0xA00, 0x1, 1, 1, 0x0, 1, .u24, .r, 0, 0, 16777215, none, false, .plain⟩,  -- LOG_COUNT
    ⟨0xA00, 0x1, 1, 1, 0x1, 1, (.dom 768), .r, 0, 0, 0, none, false, .plain⟩ ]  -- LOG_MIRROR

/-- Area C, part 1. -/
def tabC1 : List Desc :=
  [ ⟨0x0, 0x1, 16, 1, 0x0, 1, .u8, .rw, 0, 0, 4, none, true, .mKind⟩,  -- M_KIND
    ⟨0x0, 0x1, 16, 1, 0x1, 1, .u24, .rw, 0, 0, 1048575, none, true, .mKind⟩,  -- M_SOURCE
    ⟨0x0, 0x1, 16, 1, 0x2, 1, .u48, .rw, 0, 0, 281474976710655, none, true, .plain⟩,  -- M_MODULO
    ⟨0x0, 0x1, 16, 1, 0x3, 1, .s48, .rw, 0, (-140737488355328), 140737488355327, none, true, .mVel⟩,  -- M_VEL
    ⟨0x0, 0x1, 16, 1, 0x4, 1, .s48, .r, 0, (-140737488355328), 140737488355327, none, false, .plain⟩,  -- M_POS
    ⟨0x0, 0x1, 16, 1, 0x5, 1, .s48, .r, 0, (-140737488355328), 140737488355327, none, false, .plain⟩,  -- M_VEL_EST
    ⟨0x0, 0x1, 16, 1, 0x6, 1, .u8, .r, 0, 0, 255, none, false, .plain⟩,  -- M_STATE
    ⟨0x0, 0x1, 16, 1, 0x7, 1, .u24, .r, 0, 0, 16777215, none, false, .plain⟩,  -- M_FAULTS
    ⟨0x100, 0x1, 4, 1, 0x0, 1, .bool, .rw, 0, 0, 1, none, true, .grpEn⟩,  -- GRP_EN
    ⟨0x100, 0x1, 4, 1, 0x1, 1, .u8, .rw, 1, 0, 7, none, true, .grpCfg⟩,  -- GRP_TB
    ⟨0x100, 0x1, 4, 1, 0x2, 1, .u8, .rw, 3, 0, 5, none, true, .grpCfg⟩,  -- GRP_PERIOD
    ⟨0x100, 0x1, 4, 1, 0x3, 1, .u24, .rw, 0, 0, 16777215, none, true, .grpCfg⟩,  -- GRP_PHASE
    ⟨0x100, 0x1, 4, 1, 0x4, 1, .u16, .r, 0, 0, 65535, none, false, .plain⟩,  -- GRP_AXES
    ⟨0x100, 0x1, 4, 1, 0x5, 1, .u24, .r, 0, 0, 16777215, none, false, .plain⟩,  -- GRP_SKIPS
    ⟨0x200, 0x1, 256, 1, 0x0, 1, .u16, .rw, 0, 0, 65535, none, true, .homeInput⟩,  -- H_HOME
    ⟨0x200, 0x1, 256, 1, 0x1, 1, .u16, .rw, 0, 0, 65535, none, true, .homeInput⟩,  -- H_LIM_NEG
    ⟨0x200, 0x1, 256, 1, 0x2, 1, .u16, .rw, 0, 0, 65535, none, true, .homeInput⟩,  -- H_LIM_POS
    ⟨0x200, 0x1, 256, 1, 0x3, 1, .u8, .rw, 0, 0, 255, none, true, .homeIndex⟩,  -- H_INDEX
    ⟨0x200, 0x1, 256, 1, 0x4, 1, .u8, .rw, 4, 0, 255, none, true, .plain⟩,  -- H_CHATTER_N
    ⟨0x200, 0x1, 256, 1, 0x5, 1, .u16, .rw, 100, 1, 65535, none, true, .plain⟩,  -- H_CHATTER_W
    ⟨0x200, 0x1, 256, 1, 0x6, 1, .u16, .rw, 5000, 1, 65535, none, true, .plain⟩,  -- H_STUCK_MS
    ⟨0x300, 0x1, 1, 1, 0x0, 1, .u24, .r, 0, 0, 16777215, none, false, .plain⟩,  -- MOTION_LOAD
    ⟨0x300, 0x1, 1, 1, 0x1, 1, .u24, .r, 0, 0, 16777215, none, false, .plain⟩,  -- MOTION_CAP
    ⟨0x300, 0x1, 1, 1, 0x2, 1, .u8, .rw, 255, 16, 36, some 255, true, .plain⟩,  -- NOTIFY_DEST
    ⟨0x300, 0x1, 1, 1, 0x3, 1, .u8, .rw, 5, 0, 7, none, true, .plain⟩,  -- REPORT_CLASS
    ⟨0x300, 0x1, 1, 1, 0x4, 1, .u16, .rw, 200, 10, 10000, none, true, .plain⟩,  -- JOG_TIMEOUT
    ⟨0x300, 0x1, 1, 1, 0x5, 1, .u16, .r, 4096, 0, 65535, none, false, .plain⟩,  -- POOL_FREE
    ⟨0x300, 0x1, 1, 1, 0x6, 1, .u24, .r, 0, 0, 16777215, none, false, .plain⟩ ]  -- CMD_BAD

/-- Area D, part 1. -/
def tabD1 : List Desc :=
  [ ⟨0x0, 0x1, 1, 1, 0x0, 1, .u8, .r, 0, 0, 255, none, false, .plain⟩,  -- KEY_STATE
    ⟨0x0, 0x1, 1, 1, 0x1, 1, .u8, .w, 0, 0, 3, none, false, .revokeKey⟩,  -- REVOKE_KEY
    ⟨0x0, 0x1, 1, 1, 0x2, 1, .bool, .rwc, 0, 0, 1, none, false, .jtagLock⟩,  -- JTAG_LOCK
    ⟨0x0, 0x1, 1, 1, 0x3, 1, .bool, .rwc, 0, 0, 1, none, true, .plain⟩,  -- JTAG_LOCK_AT_BOOT
    ⟨0x1, 0x1, 1, 1, 0x0, 1, .u8, .rwh, 3, 0, 3, none, true, .plain⟩,  -- HOST_LEVEL
    ⟨0x1, 0x1, 1, 1, 0x1, 1, .u8, .rwh, 1, 0, 3, none, true, .plain⟩,  -- MGMT_LEVEL_MAX
    ⟨0x2, 0x1, 1, 1, 0x0, 1, .u8, .rwh, 0, 0, 15, none, true, .plain⟩,  -- AAP_ENABLE
    ⟨0x2, 0x1, 1, 1, 0x1, 1, .u16, .rwh, 50217, 1024, 65535, none, true, .plain⟩,  -- AAP_PORT
    ⟨0x2, 0x1, 1, 1, 0x2, 1, .bool, .rwh, 0, 0, 1, none, true, .plain⟩,  -- AAP_OPEN_READ
    ⟨0x2, 0x1, 1, 1, 0x3, 1, .u16, .rw, 60, 5, 3600, none, true, .plain⟩,  -- AAP_IDLE
    ⟨0x2, 0x1, 1, 1, 0x4, 1, .u8, .r, 0, 0, 255, none, false, .plain⟩,  -- AAP_SESSIONS
    ⟨0x2, 0x1, 1, 1, 0x5, 1, .u24, .r, 0, 0, 16777215, none, false, .plain⟩,  -- AUTH_FAILS
    ⟨0x3, 0x1, 1, 1, 0x0, 4, (.dom 32), .w, 0, 0, 0, none, true, .aapKey⟩ ]  -- AAP_KEY

/-- Area F, part 1. -/
def tabF1 : List Desc :=
  [ ⟨0x0, 0x1, 1, 1, 0x0, 1, .u8, .rwh, 90, 8, 119, none, true, .plain⟩,  -- SUMP_ADDR
    ⟨0x0, 0x1, 1, 1, 0x1, 1, .bool, .rw, 0, 0, 1, none, true, .plain⟩,  -- SMB_PEC_REQ
    ⟨0x0, 0x1, 1, 1, 0x2, 1, .u8, .r, 0, 0, 255, none, false, .plain⟩,  -- BOOTSEL
    ⟨0x0, 0x1, 1, 1, 0x3, 1, .u8, .r, 0, 0, 255, none, false, .plain⟩,  -- RESET_CAUSE
    ⟨0x0, 0x1, 1, 1, 0x4, 1, .u24, .r, 0, 0, 16777215, none, false, .plain⟩,  -- WARM_RESTARTS
    ⟨0x0, 0x1, 1, 1, 0x5, 1, .u8, .w, 0, 165, 165, none, false, .sumpRestart⟩,  -- SUMP_RESTART
    ⟨0x0, 0x1, 1, 1, 0x6, 1, .u8, .r, 0, 0, 255, none, false, .plain⟩,  -- ALERT_CAUSE
    ⟨0x0, 0x1, 1, 1, 0x7, 1, .u8, .w, 0, 0, 255, none, false, .alertClear⟩,  -- ALERT_CLEAR
    ⟨0x1, 0x1, 1, 1, 0x0, 1, .t80, .rw, 0, 0, 1208925819614629174706175, none, false, .plain⟩,  -- WAKE_AT
    ⟨0x1, 0x1, 1, 1, 0x1, 1, .t80, .r, 0, 0, 1208925819614629174706175, none, false, .plain⟩,  -- T0_NOW
    ⟨0x2, 0x1, 1, 1, 0x0, 1, .u8, .r, 0, 0, 255, none, false, .plain⟩,  -- COPY_FAIL
    ⟨0x2, 0x1, 1, 1, 0x1, 1, .u8, .w, 0, 0, 255, none, false, .clearFail⟩,  -- CLEAR_FAIL
    ⟨0x2, 0x1, 1, 1, 0x2, 1, .u16, .rw, 10000, 1000, 60000, none, true, .plain⟩,  -- BOOT_LIMIT
    ⟨0x3, 0x1, 1, 1, 0x0, 1, .u24, .r, 0, 0, 16777215, none, false, .plain⟩ ]  -- SMB_ERRORS

/-- The object table of an area (spec 03, R69). -/
def objTable : Nat → List Desc
  | 0x0 => tab01
  | 0x1 => tab11
  | 0x2 => tab21 ++ tab22 ++ tab23
  | 0x3 => tab31 ++ tab32 ++ tab33 ++ tab34
  | 0x4 => tab41 ++ tab42
  | 0x5 => tab51
  | 0x6 => tab61 ++ tab62
  | 0x7 => tab71 ++ tab72
  | 0x8 => tab81 ++ tab82
  | 0x9 => tab91 ++ tab92 ++ tab93
  | 0xA => tabA1 ++ tabA2
  | 0xB => tabB1
  | 0xC => tabC1
  | 0xD => tabD1
  | 0xF => tabF1
  | _ => []

/-- Does a row hold this object and element? -/
def Desc.holds (r : Desc) (obj el : Nat) : Bool :=
  decide (r.base ≤ obj) && decide ((obj - r.base) / r.stride < r.count) && decide ((obj - r.base) % r.stride < r.sub) &&
    decide (r.el ≤ el) && decide (el < r.el + r.els)

/-- The row of a key (spec 00, R5). -/
def descOf (key : Nat) : Option Desc :=
  (objTable (bits key 23 20)).find? (fun r => r.holds (bits key 19 8) (bits key 7 0))

/-- The instance a key names within its row. -/
def Desc.index (r : Desc) (key : Nat) : Nat :=
  (bits key 19 8 - r.base) / r.stride * r.sub + (bits key 19 8 - r.base) % r.stride

namespace K
def MODE : Nat := 0x100000
def MODE_REQUEST : Nat := 0x100001
def MODE_PRIOR : Nat := 0x100002
def START_MODE : Nat := 0x100003
def HOLD_CAUSE : Nat := 0x100004
def LIMP_CAUSE : Nat := 0x100005
def LIMP_TILES : Nat := 0x100006
def LIMP_CORES : Nat := 0x100007
def LIMP_RETURN : Nat := 0x100008
def LIMP_RETURN_DELAY : Nat := 0x100009
def MODE_CHANGES : Nat := 0x10000A
def FORCED_COUNT : Nat := 0x10000B
def TAP_BUDGET : Nat := 0x101000
def TAP_EFFECTIVE : Nat := 0x101001
def TAP_DECLARED : Nat := 0x101002
def TAP_MEASURED : Nat := 0x101003
def TAP_PEAK : Nat := 0x101004
def PERMITS : Nat := 0x101005
def QUEUE_DEPTH : Nat := 0x101006
def REFUSED : Nat := 0x101007
def REVOKED : Nat := 0x101008
def TAP_KEEPER : Nat := 0x101009
def MODE_BASE (j : Nat) : Nat := 0x101100 + j
def RAIL_POWER (j : Nat) : Nat := 0x102000 + j
def TJ : Nat := 0x103000
def TJ_MAX : Nat := 0x103001
def TJ_WARN : Nat := 0x103002
def TJ_SENSOR (j : Nat) : Nat := 0x103003 + j
def VENDOR : Nat := 0x000000
def FAMILY : Nat := 0x000001
def DEVICE : Nat := 0x000002
def ORDER_CODE : Nat := 0x000003
def GRADE : Nat := 0x000004
def STEPPING : Nat := 0x000005
def SERIAL : Nat := 0x000006
def DICT_VERSION : Nat := 0x000100
def FW_VERSION : Nat := 0x000101
def IMAGE_COPY : Nat := 0x000102
def ATTIC_SOURCE : Nat := 0x000103
def ATTIC_GEN : Nat := 0x000104
def DICT_KEEPER : Nat := 0x000200
def IN_FLIGHT : Nat := 0x000201
def DICT_TIMEOUTS : Nat := 0x000202
def DICT_BUSY : Nat := 0x000203
def KEY_STATE : Nat := 0xD00000
def REVOKE_KEY : Nat := 0xD00001
def JTAG_LOCK : Nat := 0xD00002
def JTAG_LOCK_AT_BOOT : Nat := 0xD00003
def HOST_LEVEL : Nat := 0xD00100
def MGMT_LEVEL_MAX : Nat := 0xD00101
def AAP_ENABLE : Nat := 0xD00200
def AAP_PORT : Nat := 0xD00201
def AAP_OPEN_READ : Nat := 0xD00202
def AAP_IDLE : Nat := 0xD00203
def AAP_SESSIONS : Nat := 0xD00204
def AUTH_FAILS : Nat := 0xD00205
def AAP_KEY (j : Nat) : Nat := 0xD00300 + j
def ECC_CORRECTED (i : Nat) : Nat := 0x550000 + 0x100 * i
def ECC_UNCORRECTED (i : Nat) : Nat := 0x550001 + 0x100 * i
def ECC_POISONED (i : Nat) : Nat := 0x550002 + 0x100 * i
def ECC_LAST_ADDR (i : Nat) : Nat := 0x550003 + 0x100 * i
def ECC_LAST_UNIT (i : Nat) : Nat := 0x550004 + 0x100 * i
def ECC_SCRUB_PASS (i : Nat) : Nat := 0x550005 + 0x100 * i
def ECC_CLEAR (i : Nat) : Nat := 0x550006 + 0x100 * i
def HOST_REFUSED : Nat := 0x552000
def PORT_MODE (i : Nat) : Nat := 0x200000 + 0x2000 * i
def PORT_ADMIN (i : Nat) : Nat := 0x200001 + 0x2000 * i
def PORT_TAP_PRIO (i : Nat) : Nat := 0x200002 + 0x2000 * i
def P_ETX_AN (i : Nat) : Nat := 0x200003 + 0x2000 * i
def P_T1L_LEVEL (i : Nat) : Nat := 0x200004 + 0x2000 * i
def P_T1L_AN (i : Nat) : Nat := 0x200005 + 0x2000 * i
def P_TERM (i : Nat) : Nat := 0x200006 + 0x2000 * i
def P_POL_AUTO (i : Nat) : Nat := 0x200007 + 0x2000 * i
def P_POL_SWAP (i : Nat) : Nat := 0x200008 + 0x2000 * i
def P_MDIX (i : Nat) : Nat := 0x200009 + 0x2000 * i
def P_ENC_INPUT (i : Nat) : Nat := 0x20000A + 0x2000 * i
def P_DIN_TYPE (i : Nat) : Nat := 0x20000B + 0x2000 * i
def P_DEG_LIMIT (i : Nat) : Nat := 0x20000C + 0x2000 * i
def P_PROBE_TIMEOUT (i : Nat) : Nat := 0x20000D + 0x2000 * i
def PORT_STATE (i : Nat) : Nat := 0x200100 + 0x2000 * i
def PORT_CAUSE (i : Nat) : Nat := 0x200101 + 0x2000 * i
def PORT_FLAGS (i : Nat) : Nat := 0x200102 + 0x2000 * i
def P_LINK_TIME (i : Nat) : Nat := 0x200103 + 0x2000 * i
def P_RECAL (i : Nat) : Nat := 0x200104 + 0x2000 * i
def P_UP_COUNT (i : Nat) : Nat := 0x200200 + 0x2000 * i
def P_DOWN_COUNT (i : Nat) : Nat := 0x200201 + 0x2000 * i
def P_ERR_COUNT (i : Nat) : Nat := 0x200202 + 0x2000 * i
def P_POL_EVENTS (i : Nat) : Nat := 0x200203 + 0x2000 * i
def P_RECAL_DROPS (i : Nat) : Nat := 0x200204 + 0x2000 * i
def PORT_CNT_CLEAR (i : Nat) : Nat := 0x200205 + 0x2000 * i
def P_ROLE_CONTEXT (i : Nat) : Nat := 0x200300 + 0x2000 * i
def P_ROLE_MOVE (i : Nat) : Nat := 0x200301 + 0x2000 * i
def P_ROLE_PENDING (i : Nat) : Nat := 0x200302 + 0x2000 * i
def P_ROLE_MOVES (i : Nat) : Nat := 0x200303 + 0x2000 * i
def TILE_STATE (i : Nat) : Nat := 0x2C0000 + 0x1000 * i
def TILE_CMD (i : Nat) : Nat := 0x2C0001 + 0x1000 * i
def TILE_AUTO_RESTART (i : Nat) : Nat := 0x2C0002 + 0x1000 * i
def TILE_USE (i : Nat) : Nat := 0x2C0003 + 0x1000 * i
def TILE_LOSSES (i : Nat) : Nat := 0x2C0004 + 0x1000 * i
def TILE_LINK_ERR (i : Nat) : Nat := 0x2C0005 + 0x1000 * i
def TILE_VTF (i : Nat) : Nat := 0x2C0006 + 0x1000 * i
def TILE_PORTS_UP (i : Nat) : Nat := 0x2C0007 + 0x1000 * i
def P_RETRY_POLICY (i : Nat) : Nat := 0x201000 + 0x2000 * i
def P_RETRY_BASE (i : Nat) : Nat := 0x201001 + 0x2000 * i
def P_RETRY_CAP (i : Nat) : Nat := 0x201002 + 0x2000 * i
def P_RETRY_MAX (i : Nat) : Nat := 0x201003 + 0x2000 * i
def P_RETRY_COUNT (i : Nat) : Nat := 0x201004 + 0x2000 * i
def P_FAULT_PIN (i : Nat) : Nat := 0x201005 + 0x2000 * i
def P_OC_EVENTS (i : Nat) : Nat := 0x201100 + 0x2000 * i
def P_OV_EVENTS (i : Nat) : Nat := 0x201101 + 0x2000 * i
def P_PIN_VOLT (i j : Nat) : Nat := 0x201102 + 0x2000 * i + j
def P_TDR_START (i : Nat) : Nat := 0x201200 + 0x2000 * i
def P_TDR_PAIRS (i : Nat) : Nat := 0x201201 + 0x2000 * i
def P_TDR_VF (i : Nat) : Nat := 0x201202 + 0x2000 * i
def P_TDR_LOSS (i : Nat) : Nat := 0x201203 + 0x2000 * i
def P_TDR_ZERO (i : Nat) : Nat := 0x201204 + 0x2000 * i
def P_TDR_THRESH (i : Nat) : Nat := 0x201205 + 0x2000 * i
def P_TDR_PRIO (i : Nat) : Nat := 0x201206 + 0x2000 * i
def P_TDR_STATUS (i : Nat) : Nat := 0x201300 + 0x2000 * i
def P_TDR_SEQ (i : Nat) : Nat := 0x201301 + 0x2000 * i
def P_TDR_DROPPED (i : Nat) : Nat := 0x201302 + 0x2000 * i
def P_TDR_EVENT (i j : Nat) : Nat := 0x201303 + 0x2000 * i + j
def P_TDR_SAMPLES (i : Nat) : Nat := 0x201400 + 0x2000 * i
def P_DEBOUNCE (i j : Nat) : Nat := 0x201500 + 0x2000 * i + j
def P_FLUTTER_N (i : Nat) : Nat := 0x201505 + 0x2000 * i
def P_FLUTTER_W (i : Nat) : Nat := 0x201506 + 0x2000 * i
def P_STUCK_T (i j : Nat) : Nat := 0x201600 + 0x2000 * i + j
def P_DIN_INVERT (i : Nat) : Nat := 0x201700 + 0x2000 * i
def P_EDGE_MODE (i : Nat) : Nat := 0x201701 + 0x2000 * i
def P_WB_ENABLE (i : Nat) : Nat := 0x201702 + 0x2000 * i
def P_DIN_STATE (i : Nat) : Nat := 0x201800 + 0x2000 * i
def P_DIN_DIAG (i : Nat) : Nat := 0x201801 + 0x2000 * i
def P_EDGE_COUNT (i j : Nat) : Nat := 0x201802 + 0x2000 * i + j
def P_EDGE_CLEAR (i : Nat) : Nat := 0x201807 + 0x2000 * i
def P_FLUTTER_EVENTS (i : Nat) : Nat := 0x201808 + 0x2000 * i
def P_ENC_FILTER (i : Nat) : Nat := 0x201900 + 0x2000 * i
def P_ENC_COUNT (i : Nat) : Nat := 0x201901 + 0x2000 * i
def P_ENC_PRESET (i : Nat) : Nat := 0x201902 + 0x2000 * i
def P_ENC_INDEX (i : Nat) : Nat := 0x201903 + 0x2000 * i
def P_ENC_INDEX_TIME (i : Nat) : Nat := 0x201904 + 0x2000 * i
def P_ENC_ERR (i : Nat) : Nat := 0x201905 + 0x2000 * i
def TILE_TDR_PORT (i : Nat) : Nat := 0x2C0800 + 0x1000 * i
def TILE_TDR_SWEEPS (i : Nat) : Nat := 0x2C0801 + 0x1000 * i
def TILE_TDR_ABORTS (i : Nat) : Nat := 0x2C0802 + 0x1000 * i
def TILE_SUPPLY_LOW (i : Nat) : Nat := 0x2C0900 + 0x1000 * i
def TILE_VTF_LOW_LIMIT (i : Nat) : Nat := 0x2C0901 + 0x1000 * i
def TILE_SUPPLY_LOW_EVENTS (i : Nat) : Nat := 0x2C0902 + 0x1000 * i
def MAC_ADDR (i : Nat) : Nat := 0x300000 + 0x1000 * i
def MAC_PAUSE_MODE (i : Nat) : Nat := 0x300001 + 0x1000 * i
def MAC_PVID (i : Nat) : Nat := 0x300002 + 0x1000 * i
def MAC_PORT_PCP (i : Nat) : Nat := 0x300003 + 0x1000 * i
def MAC_ACCEPT (i : Nat) : Nat := 0x300004 + 0x1000 * i
def MAC_EGRESS_TAG (i : Nat) : Nat := 0x300005 + 0x1000 * i
def MAC_PCP_MAP (i : Nat) : Nat := 0x300006 + 0x1000 * i
def MAC_TS_BASE (i : Nat) : Nat := 0x300007 + 0x1000 * i
def MAC_TS_ING_ADJ (i : Nat) : Nat := 0x300008 + 0x1000 * i
def MAC_TS_EGR_ADJ (i : Nat) : Nat := 0x300009 + 0x1000 * i
def MAC_RX_FRAMES (i : Nat) : Nat := 0x300100 + 0x1000 * i
def MAC_RX_OCTETS (i : Nat) : Nat := 0x300101 + 0x1000 * i
def MAC_TX_FRAMES (i : Nat) : Nat := 0x300102 + 0x1000 * i
def MAC_TX_OCTETS (i : Nat) : Nat := 0x300103 + 0x1000 * i
def MAC_FCS_ERR (i : Nat) : Nat := 0x300104 + 0x1000 * i
def MAC_SYMBOL_ERR (i : Nat) : Nat := 0x300105 + 0x1000 * i
def MAC_ALIGN_ERR (i : Nat) : Nat := 0x300106 + 0x1000 * i
def MAC_RUNTS (i : Nat) : Nat := 0x300107 + 0x1000 * i
def MAC_OVERSIZE (i : Nat) : Nat := 0x300108 + 0x1000 * i
def MAC_TX_OVERSIZE (i : Nat) : Nat := 0x300109 + 0x1000 * i
def MAC_PAUSE_RX (i : Nat) : Nat := 0x30010A + 0x1000 * i
def MAC_MACCTL_OTHER (i : Nat) : Nat := 0x30010B + 0x1000 * i
def MAC_TX_MACCTL (i : Nat) : Nat := 0x30010C + 0x1000 * i
def MAC_VLAN_DROP (i : Nat) : Nat := 0x30010D + 0x1000 * i
def MAC_TS_LOST (i : Nat) : Nat := 0x30010E + 0x1000 * i
def MAC_CNT_CLEAR (i : Nat) : Nat := 0x30010F + 0x1000 * i
def UPLINK_MODE (i : Nat) : Nat := 0x3C0000 + 0x2000 * i
def UPLINK_STATE (i : Nat) : Nat := 0x3C0001 + 0x2000 * i
def UP_AN (i : Nat) : Nat := 0x3C0002 + 0x2000 * i
def UP_MAC_ADDR (i : Nat) : Nat := 0x3C0003 + 0x2000 * i
def UP_PAUSE_MODE (i : Nat) : Nat := 0x3C0004 + 0x2000 * i
def UP_PVID (i : Nat) : Nat := 0x3C0005 + 0x2000 * i
def UP_PORT_PCP (i : Nat) : Nat := 0x3C0006 + 0x2000 * i
def UP_ACCEPT (i : Nat) : Nat := 0x3C0007 + 0x2000 * i
def UP_EGRESS_TAG (i : Nat) : Nat := 0x3C0008 + 0x2000 * i
def UP_PCP_MAP (i : Nat) : Nat := 0x3C0009 + 0x2000 * i
def UP_TS_BASE (i : Nat) : Nat := 0x3C000A + 0x2000 * i
def UP_TS_ING_ADJ (i : Nat) : Nat := 0x3C000B + 0x2000 * i
def UP_TS_EGR_ADJ (i : Nat) : Nat := 0x3C000C + 0x2000 * i
def UP_IPV4_ADDR (i : Nat) : Nat := 0x3C0100 + 0x2000 * i
def UP_IPV4_PREFIX (i : Nat) : Nat := 0x3C0101 + 0x2000 * i
def UP_IPV4_GW (i : Nat) : Nat := 0x3C0102 + 0x2000 * i
def UP_IPV6_ADDR (i : Nat) : Nat := 0x3C0103 + 0x2000 * i
def UP_IPV6_PREFIX (i : Nat) : Nat := 0x3C0104 + 0x2000 * i
def UP_IPV6_GW (i : Nat) : Nat := 0x3C0105 + 0x2000 * i
def UPLINK_VID (i : Nat) : Nat := 0x3C0106 + 0x2000 * i
def UP_GCL_ENABLE (i : Nat) : Nat := 0x3C0200 + 0x2000 * i
def UP_GCL_TB (i : Nat) : Nat := 0x3C0201 + 0x2000 * i
def UP_GCL_ADMIN (i : Nat) : Nat := 0x3C0202 + 0x2000 * i
def UP_GCL_ADMIN_BASE (i : Nat) : Nat := 0x3C0203 + 0x2000 * i
def UP_GCL_ADMIN_CYCLE (i : Nat) : Nat := 0x3C0204 + 0x2000 * i
def UP_GCL_APPLY (i : Nat) : Nat := 0x3C0205 + 0x2000 * i
def UP_GCL_STATE (i : Nat) : Nat := 0x3C0206 + 0x2000 * i
def UP_GCL_CHANGE_TIME (i : Nat) : Nat := 0x3C0207 + 0x2000 * i
def UP_RX_FRAMES (i : Nat) : Nat := 0x3C0300 + 0x2000 * i
def UP_RX_OCTETS (i : Nat) : Nat := 0x3C0301 + 0x2000 * i
def UP_TX_FRAMES (i : Nat) : Nat := 0x3C0302 + 0x2000 * i
def UP_TX_OCTETS (i : Nat) : Nat := 0x3C0303 + 0x2000 * i
def UP_FCS_ERR (i : Nat) : Nat := 0x3C0304 + 0x2000 * i
def UP_SYMBOL_ERR (i : Nat) : Nat := 0x3C0305 + 0x2000 * i
def UP_ALIGN_ERR (i : Nat) : Nat := 0x3C0306 + 0x2000 * i
def UP_RUNTS (i : Nat) : Nat := 0x3C0307 + 0x2000 * i
def UP_OVERSIZE (i : Nat) : Nat := 0x3C0308 + 0x2000 * i
def UP_TX_OVERSIZE (i : Nat) : Nat := 0x3C0309 + 0x2000 * i
def UP_PAUSE_RX (i : Nat) : Nat := 0x3C030A + 0x2000 * i
def UP_MACCTL_OTHER (i : Nat) : Nat := 0x3C030B + 0x2000 * i
def UP_TX_MACCTL (i : Nat) : Nat := 0x3C030C + 0x2000 * i
def UP_VLAN_DROP (i : Nat) : Nat := 0x3C030D + 0x2000 * i
def UP_TS_LOST (i : Nat) : Nat := 0x3C030E + 0x2000 * i
def UP_LINK_FAULTS (i : Nat) : Nat := 0x3C030F + 0x2000 * i
def UP_TX_TOOLONG (i : Nat) : Nat := 0x3C0310 + 0x2000 * i
def UP_NOT_LOCAL (i : Nat) : Nat := 0x3C0311 + 0x2000 * i
def UP_CNT_CLEAR (i : Nat) : Nat := 0x3C0312 + 0x2000 * i
def MAC_BASE : Nat := 0x3D0000
def TS_KEEPER : Nat := 0x3D0001
def BUS_FD_MODE (i : Nat) : Nat := 0x300800 + 0x1000 * i
def BUS_N_BRP (i : Nat) : Nat := 0x300801 + 0x1000 * i
def BUS_N_TSEG1 (i : Nat) : Nat := 0x300802 + 0x1000 * i
def BUS_N_TSEG2 (i : Nat) : Nat := 0x300803 + 0x1000 * i
def BUS_N_SJW (i : Nat) : Nat := 0x300804 + 0x1000 * i
def BUS_D_BRP (i : Nat) : Nat := 0x300805 + 0x1000 * i
def BUS_D_TSEG1 (i : Nat) : Nat := 0x300806 + 0x1000 * i
def BUS_D_TSEG2 (i : Nat) : Nat := 0x300807 + 0x1000 * i
def BUS_D_SJW (i : Nat) : Nat := 0x300808 + 0x1000 * i
def BUS_TDC_MODE (i : Nat) : Nat := 0x300809 + 0x1000 * i
def BUS_TDC_OFFSET (i : Nat) : Nat := 0x30080A + 0x1000 * i
def BUS_LISTEN_ONLY (i : Nat) : Nat := 0x30080B + 0x1000 * i
def BUS_PEX (i : Nat) : Nat := 0x30080C + 0x1000 * i
def BUS_TXQ_BUFS (i : Nat) : Nat := 0x30080D + 0x1000 * i
def BUS_TS_BASE (i : Nat) : Nat := 0x30080E + 0x1000 * i
def BUS_TS_ADJ (i : Nat) : Nat := 0x30080F + 0x1000 * i
def BUS_STATE (i : Nat) : Nat := 0x300900 + 0x1000 * i
def BUS_TEC (i : Nat) : Nat := 0x300901 + 0x1000 * i
def BUS_REC (i : Nat) : Nat := 0x300902 + 0x1000 * i
def BUS_LAST_ERR (i : Nat) : Nat := 0x300903 + 0x1000 * i
def BUS_TDC_MEAS (i : Nat) : Nat := 0x300904 + 0x1000 * i
def BUS_RECOVER (i : Nat) : Nat := 0x300905 + 0x1000 * i
def BUS_RX_FRAMES (i : Nat) : Nat := 0x300A00 + 0x1000 * i
def BUS_TX_FRAMES (i : Nat) : Nat := 0x300A01 + 0x1000 * i
def BUS_ERRF_TX (i : Nat) : Nat := 0x300A02 + 0x1000 * i
def BUS_ERRF_RX (i : Nat) : Nat := 0x300A03 + 0x1000 * i
def BUS_ARB_LOST (i : Nat) : Nat := 0x300A04 + 0x1000 * i
def BUS_RX_LOST (i : Nat) : Nat := 0x300A05 + 0x1000 * i
def BUS_TWIN_EVENTS (i : Nat) : Nat := 0x300A06 + 0x1000 * i
def BUS_OFFS (i : Nat) : Nat := 0x300A07 + 0x1000 * i
def BUS_STRANDED (i : Nat) : Nat := 0x300A08 + 0x1000 * i
def BUS_TX_ABORTS (i : Nat) : Nat := 0x300A09 + 0x1000 * i
def BUS_PEX_COUNT (i : Nat) : Nat := 0x300A0A + 0x1000 * i
def BUS_TX_INVALID (i : Nat) : Nat := 0x300A0B + 0x1000 * i
def BUS_CNT_CLEAR (i : Nat) : Nat := 0x300A0C + 0x1000 * i
def ENG_START (i : Nat) : Nat := 0x400000 + 0x10000 * i
def ENG_BITSYNC (i : Nat) : Nat := 0x400001 + 0x10000 * i
def ENG_SYNC_MASK (i : Nat) : Nat := 0x400002 + 0x10000 * i
def ENG_ARM_MASK (i : Nat) : Nat := 0x400003 + 0x10000 * i
def ENG_ARM_BASE (i : Nat) : Nat := 0x400004 + 0x10000 * i
def ENG_ARM_TIME (i : Nat) : Nat := 0x400005 + 0x10000 * i
def ENG_ARM_CMD (i : Nat) : Nat := 0x400006 + 0x10000 * i
def WIN_PROG (i : Nat) : Nat := 0x401000 + 0x10000 * (i / 4) + 0x100 * (i % 4)
def WIN_SWAP (i : Nat) : Nat := 0x401001 + 0x10000 * (i / 4) + 0x100 * (i % 4)
def WIN_STATE (i : Nat) : Nat := 0x401002 + 0x10000 * (i / 4) + 0x100 * (i % 4)
def WIN_CHANNELS (i : Nat) : Nat := 0x401003 + 0x10000 * (i / 4) + 0x100 * (i % 4)
def WIN_LANDED (i : Nat) : Nat := 0x401004 + 0x10000 * (i / 4) + 0x100 * (i % 4)
def WIN_ID_ACTIVE (i : Nat) : Nat := 0x401005 + 0x10000 * (i / 4) + 0x100 * (i % 4)
def WIN_ID_SHADOW (i : Nat) : Nat := 0x401006 + 0x10000 * (i / 4) + 0x100 * (i % 4)
def WIN_SWAPS (i : Nat) : Nat := 0x401007 + 0x10000 * (i / 4) + 0x100 * (i % 4)
def WIN_FORCED (i : Nat) : Nat := 0x401008 + 0x10000 * (i / 4) + 0x100 * (i % 4)
def CH_WIN (i : Nat) : Nat := 0x402000 + 0x10000 * (i / 8) + 0x100 * (i % 8)
def CH_JOIN (i : Nat) : Nat := 0x402001 + 0x10000 * (i / 8) + 0x100 * (i % 8)
def CH_RX_SINK (i : Nat) : Nat := 0x402002 + 0x10000 * (i / 8) + 0x100 * (i % 8)
def CH_TX_SRC (i : Nat) : Nat := 0x402003 + 0x10000 * (i / 8) + 0x100 * (i % 8)
def CH_HOLDSTART (i : Nat) : Nat := 0x402004 + 0x10000 * (i / 8) + 0x100 * (i % 8)
def CH_SYM_MODE (i : Nat) : Nat := 0x402005 + 0x10000 * (i / 8) + 0x100 * (i % 8)
def CH_SYM_BITS (i : Nat) : Nat := 0x402006 + 0x10000 * (i / 8) + 0x100 * (i % 8)
def CH_PARITY (i : Nat) : Nat := 0x402007 + 0x10000 * (i / 8) + 0x100 * (i % 8)
def CH_STOP_BITS (i : Nat) : Nat := 0x402008 + 0x10000 * (i / 8) + 0x100 * (i % 8)
def CH_MSB_FIRST (i : Nat) : Nat := 0x402009 + 0x10000 * (i / 8) + 0x100 * (i % 8)
def CH_LINE_IDLE (i : Nat) : Nat := 0x40200A + 0x10000 * (i / 8) + 0x100 * (i % 8)
def CH_BIT_DIV (i : Nat) : Nat := 0x40200B + 0x10000 * (i / 8) + 0x100 * (i % 8)
def CH_RX_IDLE (i : Nat) : Nat := 0x40200C + 0x10000 * (i / 8) + 0x100 * (i % 8)
def CH_JPIN_A (i : Nat) : Nat := 0x40200D + 0x10000 * (i / 8) + 0x100 * (i % 8)
def CH_JPIN_B (i : Nat) : Nat := 0x40200E + 0x10000 * (i / 8) + 0x100 * (i % 8)
def CH_CRC_MODE (i : Nat) : Nat := 0x40200F + 0x10000 * (i / 8) + 0x100 * (i % 8)
def CH_CRC_SKIP (i : Nat) : Nat := 0x402010 + 0x10000 * (i / 8) + 0x100 * (i % 8)
def CH_K (i j : Nat) : Nat := 0x402011 + 0x10000 * (i / 8) + 0x100 * (i % 8) + j
def CH_TB (i : Nat) : Nat := 0x402015 + 0x10000 * (i / 8) + 0x100 * (i % 8)
def CH_TS_ADJ (i : Nat) : Nat := 0x402016 + 0x10000 * (i / 8) + 0x100 * (i % 8)
def CH_TXAT (i : Nat) : Nat := 0x402017 + 0x10000 * (i / 8) + 0x100 * (i % 8)
def CH_STATE (i : Nat) : Nat := 0x403000 + 0x10000 * (i / 8) + 0x100 * (i % 8)
def CH_PC (i : Nat) : Nat := 0x403001 + 0x10000 * (i / 8) + 0x100 * (i % 8)
def CH_FLAGS (i : Nat) : Nat := 0x403002 + 0x10000 * (i / 8) + 0x100 * (i % 8)
def CH_CMD (i : Nat) : Nat := 0x403003 + 0x10000 * (i / 8) + 0x100 * (i % 8)
def CH_RECOVERIES (i : Nat) : Nat := 0x403004 + 0x10000 * (i / 8) + 0x100 * (i % 8)
def CH_RXOVER_CNT (i : Nat) : Nat := 0x403005 + 0x10000 * (i / 8) + 0x100 * (i % 8)
def CH_TXUNDER_CNT (i : Nat) : Nat := 0x403006 + 0x10000 * (i / 8) + 0x100 * (i % 8)
def CH_TXSTALL_CNT (i : Nat) : Nat := 0x403007 + 0x10000 * (i / 8) + 0x100 * (i % 8)
def CH_CRC_ERR (i : Nat) : Nat := 0x403008 + 0x10000 * (i / 8) + 0x100 * (i % 8)
def CH_RX_FRAMES (i : Nat) : Nat := 0x403009 + 0x10000 * (i / 8) + 0x100 * (i % 8)
def CH_TX_FRAMES (i : Nat) : Nat := 0x40300A + 0x10000 * (i / 8) + 0x100 * (i % 8)
def CH_OVERSIZE (i : Nat) : Nat := 0x40300B + 0x10000 * (i / 8) + 0x100 * (i % 8)
def CH_TORN_CNT (i : Nat) : Nat := 0x40300C + 0x10000 * (i / 8) + 0x100 * (i % 8)
def CH_TX_DISCARD (i : Nat) : Nat := 0x40300D + 0x10000 * (i / 8) + 0x100 * (i % 8)
def CH_RUN_CNT_CLEAR (i : Nat) : Nat := 0x40300E + 0x10000 * (i / 8) + 0x100 * (i % 8)
def CORE_STATE (i : Nat) : Nat := 0x500000 + 0x1000 * i
def CORE_CMD (i : Nat) : Nat := 0x500001 + 0x1000 * i
def CORE_BANK_ACTIVE (i : Nat) : Nat := 0x500002 + 0x1000 * i
def CORE_BANK_ID_ACTIVE (i : Nat) : Nat := 0x500003 + 0x1000 * i
def CORE_BANK_ID_SHADOW (i : Nat) : Nat := 0x500004 + 0x1000 * i
def CORE_WDOG_RESETS (i : Nat) : Nat := 0x500005 + 0x1000 * i
def CORE_FAULTS (i : Nat) : Nat := 0x500006 + 0x1000 * i
def CORE_LAST_FAULT (i : Nat) : Nat := 0x500007 + 0x1000 * i
def CORE_LAST_FAULT_ADDR (i : Nat) : Nat := 0x500008 + 0x1000 * i
def CORE_SWAPS (i : Nat) : Nat := 0x500009 + 0x1000 * i
def CTX_PERS (i : Nat) : Nat := 0x600000 + 0x1000 * i
def CTX_CORE (i : Nat) : Nat := 0x600001 + 0x1000 * i
def CTX_TB (i : Nat) : Nat := 0x600002 + 0x1000 * i
def CTX_PERIOD (i : Nat) : Nat := 0x600003 + 0x1000 * i
def CTX_PHASE (i : Nat) : Nat := 0x600004 + 0x1000 * i
def CTX_DEADLINE (i : Nat) : Nat := 0x600005 + 0x1000 * i
def CTX_NODES (i : Nat) : Nat := 0x600006 + 0x1000 * i
def CTX_WORDS (i : Nat) : Nat := 0x600007 + 0x1000 * i
def CTX_CKPT_EVERY (i : Nat) : Nat := 0x600008 + 0x1000 * i
def CTX_MGMT_LEVEL (i : Nat) : Nat := 0x600009 + 0x1000 * i
def CTX_RESTART_MAX (i : Nat) : Nat := 0x60000A + 0x1000 * i
def CTX_PORT_MASK (i j : Nat) : Nat := 0x60000B + 0x1000 * i + j
def CTX_AUTOSTART (i : Nat) : Nat := 0x60000F + 0x1000 * i
def CTX_CMD (i : Nat) : Nat := 0x600100 + 0x1000 * i
def CTX_MIGRATE (i : Nat) : Nat := 0x600101 + 0x1000 * i
def CTX_PERS_SWAP (i : Nat) : Nat := 0x600102 + 0x1000 * i
def CTX_STATE (i : Nat) : Nat := 0x600103 + 0x1000 * i
def CTX_CORE_NOW (i : Nat) : Nat := 0x600104 + 0x1000 * i
def CTX_SLOT (i : Nat) : Nat := 0x600105 + 0x1000 * i
def CTX_CYCLE (i : Nat) : Nat := 0x600106 + 0x1000 * i
def CTX_NODE_BASE (i : Nat) : Nat := 0x600107 + 0x1000 * i
def CTX_CKPT_GEN (i : Nat) : Nat := 0x600108 + 0x1000 * i
def CTX_MISSED (i : Nat) : Nat := 0x600200 + 0x1000 * i
def CTX_RESTARTS (i : Nat) : Nat := 0x600201 + 0x1000 * i
def CTX_MIGRATIONS (i : Nat) : Nat := 0x600202 + 0x1000 * i
def CTX_CKPTS (i : Nat) : Nat := 0x600203 + 0x1000 * i
def CTX_CKPT_ABORTS (i : Nat) : Nat := 0x600204 + 0x1000 * i
def CTX_ORPHANS (i : Nat) : Nat := 0x600205 + 0x1000 * i
def CTX_SWAPS (i : Nat) : Nat := 0x600206 + 0x1000 * i
def CTX_CNT_CLEAR (i : Nat) : Nat := 0x600207 + 0x1000 * i
def CTX_CP_OFFSET (i j : Nat) : Nat := 0x600301 + 0x1000 * i + j
def PERS_BUNDLE (i : Nat) : Nat := 0x680000 + 0x100 * i
def PERS_STATE (i : Nat) : Nat := 0x680001 + 0x100 * i
def PERS_ID (i : Nat) : Nat := 0x680002 + 0x100 * i
def PERS_VERSION (i : Nat) : Nat := 0x680003 + 0x100 * i
def PERS_USERS (i : Nat) : Nat := 0x680004 + 0x100 * i
def PERS_DELETE (i : Nat) : Nat := 0x680005 + 0x100 * i
def PERS_SIGNER (i : Nat) : Nat := 0x680006 + 0x100 * i
def METER_CIR (i : Nat) : Nat := 0x700000 + 0x100 * i
def METER_PIR (i : Nat) : Nat := 0x700001 + 0x100 * i
def METER_CBS (i : Nat) : Nat := 0x700002 + 0x100 * i
def METER_PBS (i : Nat) : Nat := 0x700003 + 0x100 * i
def METER_MODE (i : Nat) : Nat := 0x700004 + 0x100 * i
def METER_GREEN (i : Nat) : Nat := 0x700005 + 0x100 * i
def METER_YELLOW (i : Nat) : Nat := 0x700006 + 0x100 * i
def METER_RED (i : Nat) : Nat := 0x700007 + 0x100 * i
def METER_DROPS (i : Nat) : Nat := 0x700008 + 0x100 * i
def METER_CLEAR (i : Nat) : Nat := 0x700009 + 0x100 * i
def Q_ALPHA_EXP (i : Nat) : Nat := 0x780000 + 0x100 * i
def Q_RED_PROFILE (i : Nat) : Nat := 0x780001 + 0x100 * i
def Q_QUANTUM (i : Nat) : Nat := 0x780002 + 0x100 * i
def Q_DEPTH (i : Nat) : Nat := 0x780003 + 0x100 * i
def Q_PEAK (i : Nat) : Nat := 0x780004 + 0x100 * i
def Q_ENQUEUED (i : Nat) : Nat := 0x780005 + 0x100 * i
def Q_DT_DROPS (i : Nat) : Nat := 0x780006 + 0x100 * i
def Q_RED_DROPS (i : Nat) : Nat := 0x780007 + 0x100 * i
def Q_FLUSHED (i : Nat) : Nat := 0x780008 + 0x100 * i
def Q_BAD_TAIL (i : Nat) : Nat := 0x780009 + 0x100 * i
def Q_UNDERRUNS (i : Nat) : Nat := 0x78000A + 0x100 * i
def Q_DEMOTED (i : Nat) : Nat := 0x78000B + 0x100 * i
def Q_CNT_CLEAR (i : Nat) : Nat := 0x78000C + 0x100 * i
def HEADROOM : Nat := 0x7C2000
def FREE_CELLS : Nat := 0x7C2001
def FREE_MIN : Nat := 0x7C2002
def NOBUF : Nat := 0x7C2003
def STAGE_DROPS : Nat := 0x7C2004
def PARSE_MISS : Nat := 0x7C2005
def PARSE_DROP : Nat := 0x7C2006
def ENTRIES_USED : Nat := 0x7C2007
def MC_TABLE : Nat := 0x7C2008
def FWD_TABLE : Nat := 0x7C2009
def UPLINK_PROFILE : Nat := 0x7C200A
def HOST_PROFILE : Nat := 0x7C200B
def STAGED (j : Nat) : Nat := 0x7C2100 + j
def RED_W (i : Nat) : Nat := 0x7C3100 + 0x100 * i
def RED_MIN (i j : Nat) : Nat := 0x7C3101 + 0x100 * i + j
def RED_MAX (i j : Nat) : Nat := 0x7C3104 + 0x100 * i + j
def RED_PMAX (i j : Nat) : Nat := 0x7C3107 + 0x100 * i + j
def RING_RX_BASE (i : Nat) : Nat := 0x7C5000 + 0x100 * i
def RING_RX_SIZE (i : Nat) : Nat := 0x7C5001 + 0x100 * i
def RING_TX_BASE (i : Nat) : Nat := 0x7C5002 + 0x100 * i
def RING_TX_SIZE (i : Nat) : Nat := 0x7C5003 + 0x100 * i
def RING_RX_PTR (i : Nat) : Nat := 0x7C5004 + 0x100 * i
def RING_TX_PTR (i : Nat) : Nat := 0x7C5005 + 0x100 * i
def RING_RX_FRAMES (i : Nat) : Nat := 0x7C5006 + 0x100 * i
def RING_TX_FRAMES (i : Nat) : Nat := 0x7C5007 + 0x100 * i
def RING_TX_BAD (i : Nat) : Nat := 0x7C5008 + 0x100 * i
def REG_BASE (i : Nat) : Nat := 0x800000 + 0x100 * i
def REG_SIZE (i : Nat) : Nat := 0x800001 + 0x100 * i
def REG_OWNER (i : Nat) : Nat := 0x800002 + 0x100 * i
def REG_POLICY (i : Nat) : Nat := 0x800003 + 0x100 * i
def REG_TB (i : Nat) : Nat := 0x800004 + 0x100 * i
def REG_QUANT (i : Nat) : Nat := 0x800005 + 0x100 * i
def REG_FRESH_LIMIT (i : Nat) : Nat := 0x800006 + 0x100 * i
def REG_RIGHTS (i : Nat) : Nat := 0x800007 + 0x100 * i
def REG_CONTEST_CLEAR (i : Nat) : Nat := 0x800008 + 0x100 * i
def REG_CLEAR (i : Nat) : Nat := 0x800009 + 0x100 * i
def REG_STALE_NOW (i : Nat) : Nat := 0x80000A + 0x100 * i
def REG_CONTESTS (i : Nat) : Nat := 0x80000B + 0x100 * i
def REG_FOREIGN_DROPS (i : Nat) : Nat := 0x80000C + 0x100 * i
def REG_FORCED_DROPS (i : Nat) : Nat := 0x80000D + 0x100 * i
def REG_RIGHTS_DROPS (i : Nat) : Nat := 0x80000E + 0x100 * i
def REG_CNT_CLEAR (i : Nat) : Nat := 0x80000F + 0x100 * i
def SCATTER_FRAMES : Nat := 0x840000
def SCATTER_UPDATES : Nat := 0x840001
def LIST_MISSING : Nat := 0x840002
def SHORT_FIELDS : Nat := 0x840003
def NO_REGION : Nat := 0x840004
def BAD_TABLES : Nat := 0x840005
def SWEEP_PASS : Nat := 0x840006
def LIST_WORDS_FREE : Nat := 0x840007
def TEMPLATES : Nat := 0x840100
def FIRINGS : Nat := 0x840101
def LATE : Nat := 0x840102
def SKIPPED : Nat := 0x840103
def POISON_SUBS : Nat := 0x840104
def STALE_SUBS : Nat := 0x840105
def CELLAR_CNT_CLEAR : Nat := 0x840106
def DEV_SCATTER : Nat := 0x840200
def DEV_SCATTER_BASE : Nat := 0x840201
def DEV_GATHER : Nat := 0x840202
def DEV_GATHER_BASE : Nat := 0x840203
def TB_NOW (i : Nat) : Nat := 0x900000 + 0x1000 * i
def TB_INCR (i : Nat) : Nat := 0x900001 + 0x1000 * i
def TB_OFFSET (i : Nat) : Nat := 0x900002 + 0x1000 * i
def TB_SLEW_TICKS (i : Nat) : Nat := 0x900003 + 0x1000 * i
def TB_SET (i : Nat) : Nat := 0x900004 + 0x1000 * i
def TB_STATE (i : Nat) : Nat := 0x900005 + 0x1000 * i
def TB_RESERVE (i : Nat) : Nat := 0x900006 + 0x1000 * i
def TB_SYNC_LOSS_TIMEOUT (i : Nat) : Nat := 0x900007 + 0x1000 * i
def TB_SLEW_MAX (i : Nat) : Nat := 0x900008 + 0x1000 * i
def TB_SYNCED (i : Nat) : Nat := 0x900009 + 0x1000 * i
def TB_SWITCH (i : Nat) : Nat := 0x90000A + 0x1000 * i
def TB_REVERT (i : Nat) : Nat := 0x90000B + 0x1000 * i
def TB_REVERT_HOLD (i : Nat) : Nat := 0x90000C + 0x1000 * i
def TB_SCHEDULES (i : Nat) : Nat := 0x90000D + 0x1000 * i
def TB_DISC_CTX (i : Nat) : Nat := 0x90000E + 0x1000 * i
def TB_SWITCHES (i : Nat) : Nat := 0x900100 + 0x1000 * i
def TB_SYNC_LOSSES (i : Nat) : Nat := 0x900101 + 0x1000 * i
def TB_DIFF (i : Nat) : Nat := 0x900102 + 0x1000 * i
def TB_OFFSET_PENDING (i : Nat) : Nat := 0x900103 + 0x1000 * i
def TB_CNT_CLEAR (i : Nat) : Nat := 0x900104 + 0x1000 * i
def PPS_IN_EDGE (i : Nat) : Nat := 0x908000 + 0x100 * i
def PPS_IN_TB (i : Nat) : Nat := 0x908001 + 0x100 * i
def PPS_IN_DISC (i : Nat) : Nat := 0x908002 + 0x100 * i
def PPS_IN_PHASE (i : Nat) : Nat := 0x908003 + 0x100 * i
def PPS_SYNC_LIMIT (i : Nat) : Nat := 0x908004 + 0x100 * i
def PPS_IN_LAST (i : Nat) : Nat := 0x908005 + 0x100 * i
def PPS_IN_COUNT (i : Nat) : Nat := 0x908006 + 0x100 * i
def PPS_IN_LOST (i : Nat) : Nat := 0x908007 + 0x100 * i
def PPS_OUT_EN (i : Nat) : Nat := 0x909000 + 0x100 * i
def PPS_OUT_TB (i : Nat) : Nat := 0x909001 + 0x100 * i
def PPS_OUT_PERIOD (i : Nat) : Nat := 0x909002 + 0x100 * i
def PPS_OUT_PHASE (i : Nat) : Nat := 0x909003 + 0x100 * i
def PPS_OUT_WIDTH (i : Nat) : Nat := 0x909004 + 0x100 * i
def TSA_TS_SKEW (i : Nat) : Nat := 0x90A000 + 0x100 * i
def TSA_TS_REALIGN (i : Nat) : Nat := 0x90A001 + 0x100 * i
def AS_ENABLE : Nat := 0x90C000
def AS_TB : Nat := 0x90C001
def AS_DOMAIN : Nat := 0x90C002
def AS_UPLINKS : Nat := 0x90C003
def AS_PORTS (j : Nat) : Nat := 0x90C004 + j
def AS_PRIORITY1 : Nat := 0x90C008
def AS_GM_CAPABLE : Nat := 0x90C009
def AS_SYNC_LIMIT : Nat := 0x90C00A
def AS_STATE : Nat := 0x90C00B
def AS_GM_ID : Nat := 0x90C00C
def AS_OFFSET : Nat := 0x90C00D
def AS_PATH_DELAY : Nat := 0x90C00E
def SEG_CTX (i : Nat) : Nat := 0x910000 + 0x1000 * i
def SEG_PIX (i : Nat) : Nat := 0x910001 + 0x1000 * i
def SEG_RATE (i : Nat) : Nat := 0x910002 + 0x1000 * i
def SEG_TB (i : Nat) : Nat := 0x910003 + 0x1000 * i
def SEG_CYCLE_LEN (i : Nat) : Nat := 0x910004 + 0x1000 * i
def SEG_PHASE (i : Nat) : Nat := 0x910005 + 0x1000 * i
def SEG_SLOTS (i : Nat) : Nat := 0x910006 + 0x1000 * i
def SEG_SLOT_LEN (i : Nat) : Nat := 0x910007 + 0x1000 * i
def SEG_ACT_OFS (i : Nat) : Nat := 0x910008 + 0x1000 * i
def SEG_PI (i : Nat) : Nat := 0x910009 + 0x1000 * i
def SEG_PI_MAX (i : Nat) : Nat := 0x91000A + 0x1000 * i
def SEG_MAX_PAYLOAD (i : Nat) : Nat := 0x91000B + 0x1000 * i
def SEG_RANK (i : Nat) : Nat := 0x91000C + 0x1000 * i
def SEG_SYNC_SLOT (i : Nat) : Nat := 0x91000D + 0x1000 * i
def SEG_SYNC_MODE (i : Nat) : Nat := 0x91000E + 0x1000 * i
def SEG_LEAD (i : Nat) : Nat := 0x91000F + 0x1000 * i
def SEG_SLOT_MAP (i : Nat) : Nat := 0x910100 + 0x1000 * i
def SEG_CTX_SYNC (i : Nat) : Nat := 0x910101 + 0x1000 * i
def SEG_WIN (i : Nat) : Nat := 0x910102 + 0x1000 * i
def SEG_AUTOSTART (i : Nat) : Nat := 0x910103 + 0x1000 * i
def SEG_CMD (i : Nat) : Nat := 0x910104 + 0x1000 * i
def SEG_STATE (i : Nat) : Nat := 0x910200 + 0x1000 * i
def SEG_FLAGS (i : Nat) : Nat := 0x910201 + 0x1000 * i
def SEG_CYCLE (i : Nat) : Nat := 0x910202 + 0x1000 * i
def SEG_OFFSET (i : Nat) : Nat := 0x910203 + 0x1000 * i
def SEG_RATE_CORR (i : Nat) : Nat := 0x910204 + 0x1000 * i
def SEG_SYNC_SEEN (i : Nat) : Nat := 0x910205 + 0x1000 * i
def SEG_VALID_FRAMES (i : Nat) : Nat := 0x910300 + 0x1000 * i
def SEG_EDGE (i : Nat) : Nat := 0x910301 + 0x1000 * i
def SEG_COLLIDED (i : Nat) : Nat := 0x910302 + 0x1000 * i
def SEG_EMPTY (i : Nat) : Nat := 0x910303 + 0x1000 * i
def SEG_CRC_ERR (i : Nat) : Nat := 0x910304 + 0x1000 * i
def SEG_HDR_ERR (i : Nat) : Nat := 0x910305 + 0x1000 * i
def SEG_CYC_ERR (i : Nat) : Nat := 0x910306 + 0x1000 * i
def SEG_TX_LATE (i : Nat) : Nat := 0x910307 + 0x1000 * i
def SEG_TX_BAD (i : Nat) : Nat := 0x910308 + 0x1000 * i
def SEG_COLLISIONS (i : Nat) : Nat := 0x910309 + 0x1000 * i
def SEG_PASSIVES (i : Nat) : Nat := 0x91030A + 0x1000 * i
def SEG_RATE_CLAMPS (i : Nat) : Nat := 0x91030B + 0x1000 * i
def SEG_SYNC_EXCESS (i : Nat) : Nat := 0x91030C + 0x1000 * i
def SEG_SCHED_CONFLICT (i : Nat) : Nat := 0x91030D + 0x1000 * i
def SEG_CNT_CLEAR (i : Nat) : Nat := 0x91030E + 0x1000 * i
def SEG_SLOT_COUNTS (i : Nat) : Nat := 0x910400 + 0x1000 * i
def AX_USE (i : Nat) : Nat := 0xA00000 + 0x100 * i
def AX_GROUP (i : Nat) : Nat := 0xA00001 + 0x100 * i
def AX_SIG (i : Nat) : Nat := 0xA00002 + 0x100 * i
def AX_MASTER (i : Nat) : Nat := 0xA00003 + 0x100 * i
def AX_MOD_LEN (i : Nat) : Nat := 0xA00004 + 0x100 * i
def AX_REVERSAL (i : Nat) : Nat := 0xA00005 + 0x100 * i
def AX_VMAX (i : Nat) : Nat := 0xA00006 + 0x100 * i
def AX_AMAX (i : Nat) : Nat := 0xA00007 + 0x100 * i
def AX_DMAX (i : Nat) : Nat := 0xA00008 + 0x100 * i
def AX_JMAX (i : Nat) : Nat := 0xA00009 + 0x100 * i
def AX_D_STOP (i : Nat) : Nat := 0xA0000A + 0x100 * i
def AX_D_FAULT (i : Nat) : Nat := 0xA0000B + 0x100 * i
def AX_SOFT_EN (i : Nat) : Nat := 0xA0000C + 0x100 * i
def AX_SOFT_MIN (i : Nat) : Nat := 0xA0000D + 0x100 * i
def AX_SOFT_MAX (i : Nat) : Nat := 0xA0000E + 0x100 * i
def AX_FE_EN (i : Nat) : Nat := 0xA0000F + 0x100 * i
def AX_FE_LIMIT (i : Nat) : Nat := 0xA00010 + 0x100 * i
def AX_FE_TIME (i : Nat) : Nat := 0xA00011 + 0x100 * i
def AX_STANDSTILL (i : Nat) : Nat := 0xA00012 + 0x100 * i
def AX_REST_MS (i : Nat) : Nat := 0xA00013 + 0x100 * i
def AX_REDUCE_PCT (i : Nat) : Nat := 0xA00014 + 0x100 * i
def AX_WAKE_MS (i : Nat) : Nat := 0xA00015 + 0x100 * i
def AX_HOME_METHOD (i : Nat) : Nat := 0xA00016 + 0x100 * i
def AX_HOME_TABLE (i : Nat) : Nat := 0xA00017 + 0x100 * i
def AX_HOME_OFFSET (i : Nat) : Nat := 0xA00018 + 0x100 * i
def AX_V_SEARCH (i : Nat) : Nat := 0xA00019 + 0x100 * i
def AX_V_CREEP (i : Nat) : Nat := 0xA0001A + 0x100 * i
def AX_STATE (i : Nat) : Nat := 0xA00020 + 0x100 * i
def AX_FAULT (i : Nat) : Nat := 0xA00021 + 0x100 * i
def AX_POS (i : Nat) : Nat := 0xA00022 + 0x100 * i
def AX_VEL (i : Nat) : Nat := 0xA00023 + 0x100 * i
def AX_FE (i : Nat) : Nat := 0xA00024 + 0x100 * i
def AX_STEPS_QUEUED (i : Nat) : Nat := 0xA00025 + 0x100 * i
def AX_HOME_RESULT (i : Nat) : Nat := 0xA00026 + 0x100 * i
def AX_CMD (i : Nat) : Nat := 0xA00027 + 0x100 * i
def AX_FAULTS (i : Nat) : Nat := 0xA00028 + 0x100 * i
def AX_STEPS_TAKEN (i : Nat) : Nat := 0xA00029 + 0x100 * i
def AX_CNT_CLEAR (i : Nat) : Nat := 0xA0002A + 0x100 * i
def M_KIND (i : Nat) : Nat := 0xC00000 + 0x100 * i
def M_SOURCE (i : Nat) : Nat := 0xC00001 + 0x100 * i
def M_MODULO (i : Nat) : Nat := 0xC00002 + 0x100 * i
def M_VEL (i : Nat) : Nat := 0xC00003 + 0x100 * i
def M_POS (i : Nat) : Nat := 0xC00004 + 0x100 * i
def M_VEL_EST (i : Nat) : Nat := 0xC00005 + 0x100 * i
def M_STATE (i : Nat) : Nat := 0xC00006 + 0x100 * i
def M_FAULTS (i : Nat) : Nat := 0xC00007 + 0x100 * i
def GRP_EN (i : Nat) : Nat := 0xC10000 + 0x100 * i
def GRP_TB (i : Nat) : Nat := 0xC10001 + 0x100 * i
def GRP_PERIOD (i : Nat) : Nat := 0xC10002 + 0x100 * i
def GRP_PHASE (i : Nat) : Nat := 0xC10003 + 0x100 * i
def GRP_AXES (i : Nat) : Nat := 0xC10004 + 0x100 * i
def GRP_SKIPS (i : Nat) : Nat := 0xC10005 + 0x100 * i
def H_HOME (i : Nat) : Nat := 0xC20000 + 0x100 * i
def H_LIM_NEG (i : Nat) : Nat := 0xC20001 + 0x100 * i
def H_LIM_POS (i : Nat) : Nat := 0xC20002 + 0x100 * i
def H_INDEX (i : Nat) : Nat := 0xC20003 + 0x100 * i
def H_CHATTER_N (i : Nat) : Nat := 0xC20004 + 0x100 * i
def H_CHATTER_W (i : Nat) : Nat := 0xC20005 + 0x100 * i
def H_STUCK_MS (i : Nat) : Nat := 0xC20006 + 0x100 * i
def MOTION_LOAD : Nat := 0xC30000
def MOTION_CAP : Nat := 0xC30001
def NOTIFY_DEST : Nat := 0xC30002
def REPORT_CLASS : Nat := 0xC30003
def JOG_TIMEOUT : Nat := 0xC30004
def POOL_FREE : Nat := 0xC30005
def CMD_BAD : Nat := 0xC30006
def EP_MB_WAKE (i j : Nat) : Nat := 0xB00000 + 0x100 * i + j
def EP_EPOCH (i : Nat) : Nat := 0xB00008 + 0x100 * i
def EP_COLLIDES (i : Nat) : Nat := 0xB00009 + 0x100 * i
def EP_DOORBELL (i : Nat) : Nat := 0xB0000A + 0x100 * i
def EP_RING (i : Nat) : Nat := 0xB0000B + 0x100 * i
def GC_ROUTE (i : Nat) : Nat := 0xB10000 + 0x100 * i
def GC_ENABLE (i : Nat) : Nat := 0xB10001 + 0x100 * i
def GC_FIRED_BIT (i : Nat) : Nat := 0xB10002 + 0x100 * i
def GC_OWNER (j : Nat) : Nat := 0xB90000 + j
def LOG_COUNT : Nat := 0xBA0000
def LOG_MIRROR : Nat := 0xBA0001
def SUMP_ADDR : Nat := 0xF00000
def SMB_PEC_REQ : Nat := 0xF00001
def BOOTSEL : Nat := 0xF00002
def RESET_CAUSE : Nat := 0xF00003
def WARM_RESTARTS : Nat := 0xF00004
def SUMP_RESTART : Nat := 0xF00005
def ALERT_CAUSE : Nat := 0xF00006
def ALERT_CLEAR : Nat := 0xF00007
def WAKE_AT : Nat := 0xF00100
def T0_NOW : Nat := 0xF00101
def COPY_FAIL : Nat := 0xF00200
def CLEAR_FAIL : Nat := 0xF00201
def BOOT_LIMIT : Nat := 0xF00202
def SMB_ERRORS : Nat := 0xF00300
def ROLE_HOLDER (j : Nat) : Nat := 0x520000 + j
def TAKEOVERS : Nat := 0x520009
def FW_PREPARE : Nat := 0x521000
def FW_STATE : Nat := 0x521001
def FW_BUNDLE : Nat := 0x521002
def FW_ACTIVATE : Nat := 0x521003
def FW_ACT_STATE : Nat := 0x521004
def FW_VERSION_AB (j : Nat) : Nat := 0x521005 + j
def FW_GEN_AB (j : Nat) : Nat := 0x521007 + j
end K

end Sys2Proof.Machine
end

