-- ==== Sys2Proof/Machine/Events.lean ====
section
/-! DEFINITION. Object values, sequence numbers, the event log, interrupts, doorbells and mailboxes (spec 01, 18). -/
namespace Sys2Proof.Machine

/-! ### Object values -/

/-- The default of a key, 0 where no row holds it. -/
def dfltOf (key : Nat) : Int :=
  match descOf key with
  | some r => r.dflt
  | none => 0

/-- The value an object holds. -/
def Dev.ob (d : Dev) (key : Nat) : Int := (mget? d.od key).getD (dfltOf key)

/-- The same, as a natural number. -/
def Dev.obn (d : Dev) (key : Nat) : Nat := (d.ob key).toNat

/-- Is a Boolean object 1? -/
def Dev.obb (d : Dev) (key : Nat) : Bool := d.ob key != 0

/-- Give an object a value. -/
def Dev.setOb (d : Dev) (key : Nat) (v : Int) : Dev := { d with od := mput d.od key v }

/-- The greatest value of a type. -/
def Ty.top : Ty → Nat
  | .bool => 1
  | .u8 => 2 ^ 8 - 1
  | .u16 => 2 ^ 16 - 1
  | .u24 => 2 ^ 24 - 1
  | .s24 => 2 ^ 23 - 1
  | .u48 => 2 ^ 48 - 1
  | .s48 => 2 ^ 47 - 1
  | .t80 => 2 ^ 80 - 1
  | .dom _ => 0
  | .str _ => 0

/-- Count n more: a U48 counter wraps, every other saturates (the counter rules of each area). -/
def Dev.bumpBy (d : Dev) (key n : Nat) : Dev :=
  match descOf key with
  | some r => if r.ty = .u48 then d.setOb key ((d.obn key + n) % 2 ^ 48 : Nat) else d.setOb key (min (d.obn key + n) r.ty.top : Nat)
  | none => d

/-- Count one more. -/
def Dev.bump (d : Dev) (key : Nat) : Dev := d.bumpBy key 1

/-- Set each of the keys to 0. -/
def Dev.zero (d : Dev) (keys : List Nat) : Dev := keys.foldl (fun d k => d.setOb k 0) d

/-- The bytes of a DOM object. -/
def Dev.dom (d : Dev) (key : Nat) : List Byte := mget d.blob key []

/-- Give a DOM object its bytes. -/
def Dev.setDom (d : Dev) (key : Nat) (v : List Byte) : Dev := { d with blob := mput d.blob key v }

/-- The mode in force (R37). -/
def Dev.mode (d : Dev) : Nat := d.obn K.MODE

/-! ### Sequence numbers and the event log -/

/-- One event takes the next sequence number, which `seq` then holds (R25, R26). -/
def Dev.event (d : Dev) : Dev := { d with seq := (d.seq + 1) % 2 ^ 24 }

/-- The four words of a log entry (R513). -/
def LogEntry.words (e : LogEntry) : List Nat :=
  [e.seq, bits e.t0us 39 16, bits e.t0us 15 0 * 256 + bits e.inst 15 8, bits e.inst 7 0 * 65536 + bits e.code 15 0]

/-- How many lines the console holds before it drops them (DESIGN CHOICE, log entry 10). -/
def consoleDepth : Nat := 64

/-- Queue an entry for the console, or count it lost (R547). -/
def Sump.console (s : Sump) (e : LogEntry) : Sump :=
  if s.consoleQueue.length < consoleDepth then { s with consoleQueue := s.consoleQueue ++ [e] }
  else { s with consoleLost := s.consoleLost + 1 }

/-- Write an entry into the Sump's mirror, hand it to the console (R547), and write it into the Larder's log while PD2 is on (R514, R515). -/
def Dev.logE (d : Dev) (code inst : Nat) : Dev :=
  let d := d.event
  let e : LogEntry := ⟨d.seq, d.now / 1000 % 2 ^ 40, inst % 65536, code⟩
  let d := { d with sump := { d.sump.console e with mirror := (e :: d.sump.mirror).take 64 } }
  if d.domOn 2 then
    let n := d.obn K.LOG_COUNT
    let d := d.stAll (0x1F8000 + 4 * (n % 8192)) e.words
    d.setOb K.LOG_COUNT ((n + 1) % 2 ^ 24 : Nat)
  else d

/-- Note when an event was last logged. -/
def Dev.markLog (d : Dev) (code inst : Nat) : Dev := { d with logAt := mput d.logAt (code * 65536 + inst) d.now }

/-- Log at most once in a period, per code and instance. -/
def Dev.logRate (d : Dev) (code inst period : Nat) : Dev :=
  match mget? d.logAt (code * 65536 + inst) with
  | some t => if t + period ≤ d.now then (d.logE code inst).markLog code inst else d
  | none => (d.logE code inst).markLog code inst

/-- Log at most once per second, whatever the instance. -/
def Dev.logSecAny (d : Dev) (code inst : Nat) : Dev :=
  match mget? d.logAt (code * 65536) with
  | some t => if t + 1000000000 ≤ d.now then (d.logE code inst).markLog code 0 else d
  | none => (d.logE code inst).markLog code 0

/-- Log at most once per second. -/
def Dev.logSec (d : Dev) (code inst : Nat) : Dev := d.logRate code inst 1000000000

/-! ### Endpoints (R491 to R504) -/

/-- The power domain of an endpoint (spec 01, Power domains). -/
def domOfEp (e : Nat) : Nat := if e < 16 then 4 + e else if e < 20 then 20 + (e - 16) else 2

/-- Is an endpoint's domain on? -/
def Dev.epOn (d : Dev) (e : Nat) : Bool := d.domOn (domOfEp e)

/-- The address of word w of a mailbox body (log entry 4). -/
def mailAddr (e m w : Nat) : Nat := 0x1300000 + 128 * e + 16 * m + w

/-- An endpoint's doorbell. -/
def Dev.bell (d : Dev) (e : Nat) : Nat := d.obn (K.EP_DOORBELL e)

/-- The level of mailbox m's source: WAKE and (FULL or doorbell bit m) (R499). -/
def Dev.mbLevel (d : Dev) (e m : Nat) : Bool :=
  d.obb (K.EP_MB_WAKE e m) && ((d.ep e).full.contains m || (d.bell e).testBit m)

/-! ### Local interrupt units (R505 to R508) -/

/-- The SENSE code of a source (R506). -/
def Core.senseOf (c : Core) (s : Nat) : Nat :=
  if s = 0 then 2 else if s < 10 then 0 else if s < 16 then 2 else if s = 63 then 2 else mget c.sense s 2

/-- The input level of a source, driven to a new value: an edge that the sensing takes sets pending (R506). -/
def Dev.drive (d : Dev) (c s : Nat) (v : Bool) : Dev :=
  d.modCore c fun co =>
    let old := co.level.testBit s
    let sn := co.senseOf s
    let hit := (sn == 2 && !old && v) || (sn == 3 && old && !v) || (sn == 4 && old != v)
    { co with level := putBit co.level s v, pend := if hit then putBit co.pend s true else co.pend }

/-- A pulse on a source: up and down again. -/
def Dev.pulse (d : Dev) (c s : Nat) : Dev := if d.epOn c then (d.drive c s true).drive c s false else d

/-- Is a completed, uncollected far tag there (R286, R287)? -/
def Core.farAny (c : Core) : Bool := c.far.any (fun r => r.done.isSome)

/-- The input of a level-sensed source. -/
def Dev.input (d : Dev) (c s : Nat) : Bool :=
  if s = 9 then (d.core c).farAny else if s < 9 && s ≠ 0 then d.mbLevel c (s - 1) else (d.core c).level.testBit s

/-- The pending state of a source (R506). -/
def Dev.srcPending (d : Dev) (c s : Nat) : Bool :=
  let co := d.core c
  match co.senseOf s with
  | 0 => d.input c s
  | 1 => !d.input c s
  | _ => co.pend.testBit s

/-- Does a source qualify for WINNER? With `held`, moderated sources are left out (R507, R508). -/
def Dev.qualifies (d : Dev) (c : Nat) (held : Bool) (s : Nat) : Bool :=
  let co := d.core c
  d.srcPending c s && (s == 10 || s == 11 || s == 63 || !co.mask.testBit s) && !(held && co.moder.testBit s)

/-- Does a moderation hold-off run (R508)? -/
def Dev.heldOff (d : Dev) (c : Nat) : Bool :=
  match (d.core c).imodEnds with
  | some t => decide (d.now < t)
  | none => false

/-- WINNER: the highest-numbered source that qualifies (R507). -/
def Dev.winner (d : Dev) (c : Nat) (held : Bool) : Option Nat :=
  ((List.range 64).reverse).find? (d.qualifies c held)

/-! ### The gather controller (R509 to R512) -/

def Dev.modGather (d : Dev) (f : Gather → Gather) : Dev := { d with gather := f d.gather }

/-- The line value of a core's line: the OR of PEND and EN over the sources routed to it (R511). -/
def Dev.lineValue (d : Dev) (c l : Nat) : Bool :=
  (setBits (d.gather.pend &&& d.gather.en) 2048).any (fun s => let r := d.obn (K.GC_ROUTE s); bits r 23 19 == c && bits r 18 14 == l)

/-- Post a line's value to the core's local source 32 + L. -/
def Dev.postLine (d : Dev) (c l : Nat) : Dev :=
  if c < 20 && l < 31 && d.epOn c then d.drive c (32 + l) (d.lineValue c l) else d

/-- The line a source is routed to. -/
def Dev.routeOf (d : Dev) (s : Nat) : Nat × Nat := let r := d.obn (K.GC_ROUTE s); (bits r 23 19, bits r 18 14)

/-- Send one MSI-X message, or leave it pending while the vector is masked (R511). -/
def Dev.msix (d : Dev) (v : Nat) : Dev :=
  if d.host.vmask.testBit v then { d with host := { d.host with vpend := putBit d.host.vpend v true } } else d.emit (.msix v)

/-- PEND and EN of a source became 1: its delivery (R511). -/
def Dev.deliver (d : Dev) (s : Nat) : Dev :=
  let r := d.obn (K.GC_ROUTE s)
  let e := bits r 23 19
  let l := bits r 18 14
  if e > 20 || (e < 20 && !d.epOn e) then d else
  let d := if e = 20 then d.msix l else d.postLine e l
  if r.testBit 13 then (d.modGather fun g => { g with en := putBit g.en s false, fired := putBit g.fired s true }).postLine e l else d

/-- An edge of an event source: one event that sets PEND (R509). -/
def Dev.raise (d : Dev) (s : Nat) : Dev :=
  if d.domOn 2 then
    let d := d.event
    let was := d.gather.pend.testBit s && d.gather.en.testBit s
    let d := d.modGather fun g => { g with pend := putBit g.pend s true }
    if d.gather.en.testBit s && !was then d.deliver s else d
  else d

/-- Clear PEND of sources (R509). -/
def Dev.gcClear (d : Dev) (l : List Nat) : Dev :=
  d.each l fun d s =>
    let d := d.modGather fun g => { g with pend := putBit g.pend s false }
    d.postLine (d.routeOf s).1 (d.routeOf s).2

/-- Write the 24 enable bits of a word (R511, R512). -/
def Dev.gcEnWrite (d : Dev) (w v : Nat) : Dev :=
  let l := (List.range (if w = 85 then 8 else 24)).map fun i => (24 * w + i, v.testBit i)
  let up := l.filterMap fun x => if x.2 && !d.gather.en.testBit x.1 then some x.1 else none
  let down := l.filterMap fun x => if !x.2 && d.gather.en.testBit x.1 then some x.1 else none
  let d := d.modGather fun g =>
    { g with en := l.foldl (fun e x => putBit e x.1 x.2) g.en, fired := up.foldl (fun e s => putBit e s false) g.fired }
  let d := d.each up fun d s => if d.gather.pend.testBit s then d.deliver s else d
  d.each down fun d s => d.postLine (d.routeOf s).1 (d.routeOf s).2

/-! ### Doorbells and mailboxes -/

/-- Do f, then raise HOST_MBOXm for every host mailbox whose level rose (R499). -/
def Dev.hostLevels (d : Dev) (f : Dev → Dev) : Dev :=
  let d' := f d
  d'.each (List.range 8) fun x m => if !d.mbLevel 20 m && d'.mbLevel 20 m then x.raise (0x52C + m) else x

/-- The WAKE bits of an endpoint's mailboxes (R499). -/
def Dev.wakeBits (d : Dev) (e : Nat) : Nat := (List.range 8).foldl (fun v m => putBit v m (d.obb (K.EP_MB_WAKE e m))) 0

/-- Ring a doorbell: one event that ORs the value in (R500). What the ring asks of a role, of the mode manager
or of K0 is left as work (R86, R501, R526, R530). -/
def Dev.ring (d : Dev) (e v : Nat) : Dev :=
  (d.hostLevels fun d => d.event.setOb (K.EP_DOORBELL e) ((d.bell e ||| v) % 2 ^ 24 : Nat)).todo (.ring e v)

/-- An endpoint reads its own doorbell, which clears it at one event (R500). -/
def Dev.readBell (d : Dev) (e : Nat) : Dev := d.event.setOb (K.EP_DOORBELL e) 0

/-- The send status word of a sender (R498). -/
def Dev.sendStatus (d : Dev) (src dst m : Nat) : Nat :=
  match mget? (d.ep src).send (8 * dst + m) with
  | none => 0
  | some t => b2n t.ack * 2 ^ 23 + 2 ^ 22 + b2n t.collided * 2 ^ 21 +
      b2n (t.pepoch != bits (d.obn (K.EP_EPOCH dst)) 11 0) * 2 ^ 20 + t.pepoch

/-- Write a body word of a mailbox whose domain is on; on a FULL mailbox it also sets COLLIDE (R493, R495). -/
def Dev.mbBody (d : Dev) (dst m w v : Nat) : Dev :=
  let d := d.st (mailAddr dst m w) v
  if (d.ep dst).full.contains m then d.modEp dst fun e => { e with collide := insNat m e.collide } else d

/-- Post: write the header, set FULL, one event (R492, R493, R495, R498). -/
def Dev.post (d : Dev) (src dst m hdr : Nat) : Dev :=
  d.hostLevels fun d =>
    let was := (d.ep dst).full.contains m
    let d := (d.mbBody dst m 0 (src * 2 ^ 19 + bits hdr 18 15 * 2 ^ 15 + bits (d.obn (K.EP_EPOCH src)) 11 0)).event
    let d := d.modEp dst fun e => { e with full := insNat m e.full }
    let d := d.modEp src fun e =>
      { e with send := mput e.send (8 * dst + m) ⟨false, was, bits (d.obn (K.EP_EPOCH dst)) 11 0⟩ }
    if was then d.bump (K.EP_COLLIDES dst) else d

/-- Acknowledge the message of a mailbox: clears FULL at one event (R497). -/
def Dev.ackMail (d : Dev) (e m : Nat) : Dev :=
  if (d.ep e).full.contains m then
    let h := d.ld (mailAddr e m 0)
    let src := bits h 23 19
    let d := d.event.modEp e fun x => { x with full := x.full.erase m }
    if src ≤ 20 && bits h 11 0 == bits (d.obn (K.EP_EPOCH src)) 11 0 then
      d.modEp src fun x => { x with send := x.send.map fun t => if t.1 = 8 * e + m then (t.1, { t.2 with ack := true }) else t }
    else d
  else d

/-- An endpoint's epoch increments: its inbound mailboxes are cleared, and its send status (R491, R498). -/
def Dev.epochInc (d : Dev) (e : Nat) : Dev :=
  let d := d.setOb (K.EP_EPOCH e) ((d.obn (K.EP_EPOCH e) + 1) % 2 ^ 24 : Nat)
  let d := d.clearMem (mailAddr e 0 0) (mailAddr e 8 0)
  d.modEp e fun _ => {}

/-- Clear one bit-selected set of 24-bit lanes: the numbers 24i to 24i + 23 whose bits are set in v. -/
def laneBits (i v : Nat) : List Nat := (setBits v 24).map (fun b => 24 * i + b)

/-- The gather sources that R509 lists; the other numbers are reserved and are never raised. -/
def gatherListed (s : Nat) : Bool :=
  decide (s ≤ 0x504) || (decide (0x508 ≤ s) && decide (s ≤ 0x51C)) || (decide (0x520 ≤ s) && decide (s ≤ 0x533)) ||
    (decide (0x540 ≤ s) && decide (s ≤ 0x546)) || (decide (0x700 ≤ s) && decide (s ≤ 0x7FF))

/-- The gather sources that have edges of their own: not T0's, and not SOFT, which only GC_PEND_SET raises (R509). -/
def gatherEdged (s : Nat) : Bool := gatherListed s && decide (s < 0x700) && decide (s ≠ 0x520)

/-- The sources that the bits of a gather word name. -/
def gatherSet (w v : Nat) : List Nat := (laneBits w v).filter gatherListed

end Sys2Proof.Machine
end

