-- ==== Sys2Proof/Machine/Time.lean ====
section
/-! DEFINITION. T0 and the time bases: the passing of time, and the state machine of reserve pairs (spec 01 R14, R15; 15). -/
namespace Sys2Proof.Machine

/-- A T80 value in ns as its four words, and back (spec 03, R70). -/
def t80Words (ns : Nat) : List Nat :=
  let s := ns / 1000000000
  let n := ns % 1000000000
  [bits s 47 24, bits s 23 0, bits n 31 24, bits n 23 0]

def t80Ns (w : List Nat) : Nat :=
  ((w.getD 0 0) * 2 ^ 24 + w.getD 1 0) * 1000000000 + (bits (w.getD 2 0) 7 0 * 2 ^ 24 + w.getD 3 0)

/-- Time base n, 1 to 7. -/
def Dev.tb (d : Dev) (n : Nat) : TimeBase := (d.time.bases[n - 1]?).getD {}

/-- The bases as they stand, for values of the past (R421). -/
def Dev.tbPast (d : Dev) : TbPast :=
  ⟨d.now, d.time.bases, (List.range 7).map fun i => d.obn (K.TB_RESERVE (i + 1)), (List.range 7).map fun i => d.obn (K.TB_SLEW_MAX (i + 1))⟩

/-- An event has changed a base: what is older than 100 ms goes, but for the newest of it (R421). -/
def Dev.noteBases (d : Dev) : Dev :=
  let young := d.time.hist.takeWhile fun e => decide (d.now < e.at_ + 100000000)
  { d with time := { d.time with hist := d.tbPast :: d.time.hist.take (young.length + 1) } }

def Dev.modTb (d : Dev) (n : Nat) (f : TimeBase → TimeBase) : Dev :=
  ({ d with time := { d.time with bases := d.time.bases.modify (n - 1) f } } : Dev).noteBases

/-- What a slew adds in n ticks (R412). -/
def TimeBase.slewAdds (b : TimeBase) (n : Nat) : Int := if b.slewTicks ≤ n then b.slewLeft else b.slewPart * n

/-- The source after n ticks (R411, R412). -/
def TimeBase.srcAfter (b : TimeBase) (n : Nat) : Nat := ((b.src : Int) + (n * b.incr : Nat) + b.slewAdds n).toNat

/-- The convergence step, in units of 2^-32 ns per tick (R420). -/
def Dev.slewStep (d : Dev) (n : Nat) : Nat := d.obn (K.TB_SLEW_MAX n) * 2 ^ 32 / 1000000000

/-- x moved toward 0 by at most s. -/
def shrink (x : Int) (s : Nat) : Int := if 0 ≤ x then max (x - s) 0 else min (x + s) 0

/-- The published value of a base now, in units of 2^-32 ns. -/
def Dev.pubRaw (d : Dev) (n : Nat) : Nat := if n = 0 then d.now * 2 ^ 32 else (d.tb n).pub

/-- The published value of base n after k ticks; chains of reserves have no cycle, so eight links are enough (R417, R420). -/
def Dev.pubAfter (d : Dev) (k : Nat) : Nat → Nat → Nat
  | 0, n => d.pubRaw n
  | fuel + 1, n =>
    if n = 0 then (d.now + k) * 2 ^ 32 else
    let b := d.tb n
    let r := d.obn (K.TB_RESERVE n)
    match b.state with
    | 0 => b.srcAfter k
    | 1 => ((d.pubAfter k fuel r : Int) - shrink ((d.pubRaw r : Int) - b.pub) (k * d.slewStep n)).toNat
    | 2 => d.pubAfter k fuel r
    | _ => ((b.srcAfter k : Int) - shrink ((b.src : Int) - b.pub) (k * d.slewStep n)).toNat

/-- A base after k ticks, its published value given. -/
def TimeBase.after (b : TimeBase) (k pub : Nat) : TimeBase :=
  { b with src := b.srcAfter k, pub := pub, slewLeft := b.slewLeft - b.slewAdds k, slewTicks := b.slewTicks - k,
           slewPart := if b.slewTicks ≤ k then 0 else b.slewPart }

/-- The published value of a base by the chain of reserves that it follows in ON_RESERVE (R420). -/
def Dev.pubNow (d : Dev) : Nat → Nat → Nat
  | 0, n => d.pubRaw n
  | fuel + 1, n => if n ≠ 0 && (d.tb n).state = 2 then d.pubNow fuel (d.obn (K.TB_RESERVE n)) else d.pubRaw n

/-- Bases in ON_RESERVE follow a reserve that has stepped; one in TO_RESERVE does not jump, and converges on the new value (R420). -/
def Dev.pubFollow (d : Dev) : Dev :=
  { d with time := { d.time with bases := (List.range 7).map fun i => { d.tb (i + 1) with pub := d.pubNow 8 (i + 1) } } }

/-- k ticks of TCK pass: T0 and, while PD2 is on, T1 to T7 (R409, R411, R420). -/
def Dev.advance (d : Dev) (k : Nat) : Dev :=
  let bases := if d.domOn 2 then (List.range 7).map fun i => (d.tb (i + 1)).after k (d.pubAfter k 8 (i + 1)) else d.time.bases
  { d with now := d.now + k, time := { d.time with bases := bases } }

/-- The time-base unit as a change left it (R421). -/
def Dev.tbAsAt (d : Dev) (p : TbPast) : Dev :=
  let d := ({ d with now := p.at_, time := { d.time with bases := p.bases } } : Dev)
  (List.range 7).foldl (fun d i =>
    (d.setOb (K.TB_RESERVE (i + 1)) (p.reserves.getD i 0xFF : Nat)).setOb (K.TB_SLEW_MAX (i + 1)) (p.slews.getD i 0 : Nat)) d

/-- The published value of base n at an instant of T0 that has passed (R421; log entry 13). -/
def Dev.pubAt (d : Dev) (n t : Nat) : Nat :=
  if d.now ≤ t then d.pubRaw n else
  match d.time.hist.find? fun e => decide (e.at_ ≤ t) with
  | some p => (d.tbAsAt p).pubAfter (t - p.at_) 8 n
  | none => d.pubRaw n - (d.now - t) * 2 ^ 32

/-- The rate of base n at an instant of T0 (R408, R411). -/
def Dev.incrAt (d : Dev) (n t : Nat) : Nat :=
  if n = 0 then 2 ^ 32
  else if d.now ≤ t then (d.tb n).incr
  else match d.time.hist.find? fun e => decide (e.at_ ≤ t) with
    | some p => ((p.bases[n - 1]?).getD {}).incr
    | none => (d.tb n).incr

/-- A capture at tick t with a sub-tick phase in eighths, on base n, in ns (R421). -/
def Dev.captureAt (d : Dev) (n t phase : Nat) : Nat := (d.pubAt n t + phase * d.incrAt n t / 8) / 2 ^ 32

/-- A capture of an instant whose command says no phase: the phase of 125 ps that capture point `point` latches in that tick is a free value (R421; log
entry 13). Points: 0 to 99 MAC or port, 100 + a the encoder of axis a. -/
def Dev.captured (d : Dev) (n t point : Nat) : Nat := d.captureAt n t (Config.subTick point t).toNat

/-- Does the Sump count T0: in Dormant, and while REFCLK25 is declared absent (R13, R14)? -/
def Dev.sumpCounts (d : Dev) : Bool := d.mode == 0 || d.sump.refAbsent

/-- What n periods of the Sump's oscillator add to T0: 40 or 80 ns each, through the accumulator of half nanoseconds (R14). -/
def Sump.oscAdds (s : Sump) (n : Nat) : Nat := 40 * (n + (s.oscFrac + 45 * n) / 80)

/-- n periods of the Sump's oscillator pass (R14). -/
def Dev.oscSteps (d : Dev) (n : Nat) : Dev :=
  ({ d with sump := { d.sump with oscFrac := (d.sump.oscFrac + 45 * n) % 80 } }).advance (d.sump.oscAdds n)

/-- The least number of oscillator periods that add at least x ns: it lies within three of (x - 40) / 62.5. -/
def Sump.oscCount (s : Sump) (x : Nat) : Nat :=
  let n := 2 * (x - 40) / 125
  n + (([0, 1, 2].find? fun i => decide (x ≤ s.oscAdds (n + i))).getD 3)

/-- Time passes until T0 has reached an instant, if that lies ahead (log entry 1). Where the Sump counts, T0 stands on its steps and
passes the instant by less than one of them (R13, R14). -/
def Dev.upTo (d : Dev) (t : Nat) : Dev :=
  if t ≤ d.now then d
  else if !d.sumpCounts then d.advance (t - d.now)
  else if d.sump.refAbsent then d.oscSteps (d.sump.oscCount (t - d.now))
  else d.advance ((t - d.now + 39) / 40 * 40)

/-- The published value of a base in ns (R408). -/
def Dev.tbNs (d : Dev) (n : Nat) : Nat := d.pubRaw n / 2 ^ 32

/-- The least k in [lo, hi] at which the published value of n is at or above the target. -/
def Dev.searchTick (d : Dev) (n target : Nat) : Nat → Nat → Nat → Nat
  | 0, _, hi => hi
  | fuel + 1, lo, hi =>
    if lo < hi then
      let mid := (lo + hi) / 2
      if target ≤ d.pubAfter mid 8 n then d.searchTick n target fuel lo mid else d.searchTick n target fuel (mid + 1) hi
    else hi

/-- Ticks until the published ns of a base reach an instant (R416); the advance per tick is at least 0.498 ns (R420). -/
def Dev.ticksTo (d : Dev) (n ns : Nat) : Nat :=
  let need := ns * 2 ^ 32 - d.pubRaw n
  if need = 0 then 0 else if n = 0 then ns - d.now else d.searchTick n (ns * 2 ^ 32) 96 0 (need * 1000 / (498 * 2 ^ 32) + 2)

/-- Time passes up to an instant of a base, if that lies ahead (log entry 1). -/
def Dev.upToOn (d : Dev) (n ns : Nat) : Dev := d.upTo (d.now + d.ticksTo n ns)

/-- The tick of an idle block: 1 ns, or a step of the Sump where the Sump counts (R13, R14, R409; log entries 1 and 58). -/
def Dev.tick (d : Dev) : Dev :=
  if d.sump.refAbsent then d.oscSteps 1 else if d.mode = 0 then d.advance 40 else d.advance 1

/-- T1 to T7 as PD2 powers on (R410). -/
def Dev.tbPowerOn (d : Dev) : Dev :=
  let bases := List.replicate 7 { src := d.now * 2 ^ 32, pub := d.now * 2 ^ 32 }
  ({ d with time := { bases := bases } } : Dev).noteBases

/-! ### Reserve pairs (R417 to R419) -/

/-- Is the reserve of a base usable (R417)? -/
def Dev.reserveUsable (d : Dev) (n : Nat) : Bool :=
  let r := d.obn (K.TB_RESERVE n)
  if r = 0 then true else if r ≤ 7 then (d.tb r).synced || (d.tb r).state == 2 else false

/-- A base changes state: one event and its event source (R414, R419). -/
def Dev.tbState (d : Dev) (n st code : Nat) : Dev :=
  ((d.modTb n fun b => { b with state := st }).logE code n).raise (0x520 + n)

/-- A base starts toward its reserve (R419). -/
def Dev.tbToReserve (d : Dev) (n : Nat) : Dev := (d.bump (K.TB_SWITCHES n)).tbState n 1 0x9001

/-- A base starts back toward its own source (R419). -/
def Dev.tbToOwn (d : Dev) (n : Nat) : Dev := d.tbState n 3 0x9004

/-- A reserve that became usable by a change from the state `was` moves the bases that wait for it (R419, row 3). -/
def Dev.watchReserves (d was : Dev) : Dev :=
  d.each [1, 2, 3, 4, 5, 6, 7] fun d n =>
    let b := d.tb n
    if b.state == 0 && !b.synced && b.lost && d.reserveUsable n && !was.reserveUsable n then d.tbToReserve n else d

/-- A change of the sync flag from 1 to 0 (R418, R419). -/
def Dev.syncLoss (d : Dev) (n : Nat) : Dev :=
  let d := d.modTb n fun b => { b with synced := false, lost := true }
  let d := ((d.logE 0x9000 n).bump (K.TB_SYNC_LOSSES n)).raise (0x520 + n)
  match (d.tb n).state with
  | 0 => if d.reserveUsable n then d.tbToReserve n else d.logE 0x9002 n
  | 3 => if d.reserveUsable n then d.tbToReserve n else d
  | _ => d

/-- A write of TB_SYNCED (R418). -/
def Dev.setSynced (d : Dev) (n : Nat) (v : Bool) : Dev :=
  if v then
    (d.event.modTb n fun b =>
      { b with synced := true, lost := false, syncedAt := if b.synced then b.syncedAt else d.now,
               syncEnds := d.now + d.obn (K.TB_SYNC_LOSS_TIMEOUT n) * 1000000 }).watchReserves d
  else if (d.tb n).synced then d.event.syncLoss n else d.event

/-- May an offset be added: within SLEW_TICKS / 2 in magnitude, a running slew's rest included (R412)? Units of 2^-32 ns. -/
def Dev.offsetSum (d : Dev) (n : Nat) (ofs : Int) : Int := (d.tb n).slewLeft + ofs * 2 ^ 32

def Dev.offsetOk (d : Dev) (n : Nat) (ofs : Int) : Bool :=
  decide (2 * (d.offsetSum n ofs).natAbs ≤ d.obn (K.TB_SLEW_TICKS n) * 2 ^ 32)

/-- Start or extend a slew (R412): equal parts, the last adding the remainder. -/
def Dev.startSlew (d : Dev) (n : Nat) (ofs : Int) : Dev :=
  let sum := d.offsetSum n ofs
  let k := d.obn (K.TB_SLEW_TICKS n)
  d.event.modTb n fun b => { b with slewLeft := sum, slewTicks := k, slewPart := Int.tdiv sum k }

/-- Step the source, and the published value in OWN (R413); a base that runs on this one as its reserve follows at once (R420). -/
def Dev.stepTb (d : Dev) (n ns : Nat) : Dev :=
  ((d.event.modTb n fun b =>
    { b with src := ns * 2 ^ 32, pub := if b.state = 0 then ns * 2 ^ 32 else b.pub, slewLeft := 0, slewTicks := 0, slewPart := 0 }).pubFollow).logE 0x9006 n

/-- Is a rate inside the range of R411? -/
def incrOk (v : Nat) : Bool := decide (0x00FFBE76C9 ≤ v) && decide (v ≤ 0x0100418937)

/-- The time role's servo steers a base: it writes a rate and an offset, which the manual does not give; each is a free value, and one out of range
changes nothing (R423, R425; log entry 57). -/
def Dev.servo (d : Dev) (n : Nat) : Dev :=
  let (v, d) := d.fresh 40
  let d := d.iff (incrOk v) fun d => d.event.modTb n fun b => { b with incr := v }
  let (v, d) := d.fresh 48
  d.iff (d.offsetOk n (sext 48 v)) fun d => d.startSlew n (sext 48 v)

end Sys2Proof.Machine
end

