-- ==== Sys2Proof/Machine/Tap.lean ====
section
/-! DEFINITION. The Tap: budgets, permits, the queue and revocation (spec 02, R37, R54 to R67, R564). -/
namespace Sys2Proof.Machine

def Dev.modTap (d : Dev) (f : Tap → Tap) : Dev := { d with tap := f d.tap }

/-- The mode whose limits are in force: in Hold the prior mode, or Limp under Limp constraints (R37, R48). -/
def Dev.limits (d : Dev) : Nat :=
  if d.mode = 7 then (if d.mm.limpInHold then 6 else d.obn K.MODE_PRIOR) else d.mode

/-- The base allowance of a mode from 0 to 6 (R37, R68). -/
def baseOf : Nat → Nat
  | 1 => 6000
  | 2 => 12000
  | 3 => 14000
  | 4 => 13000
  | 5 => 14000
  | 6 => 7000
  | _ => 0

/-- The effective budget that a TAP_BUDGET gives in a mode (R37). -/
def effOf (mode budget : Nat) : Nat :=
  if mode = 2 then min budget 30000 else if mode = 6 then min budget 14000 else budget

/-- The grade's limit of TAP_BUDGET, and its default (R1, R68). -/
def Dev.gradeLimit (d : Dev) : Nat := if d.store.grade = 1 then 28000 else 36000
def Dev.budget (d : Dev) : Nat := ((mget? d.od K.TAP_BUDGET).getD d.gradeLimit).toNat

def Dev.effective (d : Dev) : Nat := effOf d.limits d.budget

/-- The sum of the amounts of permits. -/
def permitSum (l : List Permit) : Nat := l.foldl (fun a p => a + p.amount) 0

/-- The declared load (R54). -/
def Dev.declared (d : Dev) : Nat := baseOf d.limits + permitSum d.tap.permits

/-- Is a keeper running (CORE_STATE 2 or 3)? -/
def Dev.coreRuns (d : Dev) (c : Nat) : Bool := let s := d.obn (K.CORE_STATE c); s == 2 || s == 3

/-- The holder of a keeper role (R531). -/
def Dev.roleOf (d : Dev) (r : Nat) : Nat := d.obn (K.ROLE_HOLDER r)

/-- Is a role served: its holder runs (R564), with a keeper image loaded (R521)? -/
def Dev.served (d : Dev) (r : Nat) : Bool := d.coreRuns (d.roleOf r) && !d.sump.booting

/-- The Tap's answer to a request made inside the device. -/
inductive TapAns where
  | granted (num : Nat)
  | queued
  | refused
  | busy
deriving DecidableEq, Repr

/-- Is the permit a reservation, and may it be revoked (R57, R59)? -/
def Permit.isRes (p : Permit) : Bool := p.ends.isNone
def Permit.revocable (p : Permit) : Bool := p.isRes && decide (p.prio ≤ 5)

/-- The lowest free permit number (R58). -/
def Tap.freeNum (t : Tap) : Option Nat := (List.range' 1 255).find? fun n => t.permits.all (fun p => p.num != n)

/-- Would the amount fit now (R54, R58)? -/
def Dev.fits (d : Dev) (amount : Nat) : Bool :=
  decide (d.declared + amount ≤ d.effective) && decide (d.tap.permits.length < 255)

/-- Put a permit in force: one event. -/
def Dev.grant (d : Dev) (h : Holder) (amount dur prio tag num : Nat) : Dev :=
  let d := d.event
  d.modTap fun t => { t with permits :=
    ⟨num, amount, prio, d.seq, if dur = 0xFFFFFF then none else some (d.now + dur * 1000), h, tag⟩ :: t.permits }

/-- Refuse: one event, counted. -/
def Dev.refuse (d : Dev) : Dev := d.event.bump K.REFUSED

/-- Insert behind every request of at least its priority (R57). -/
def tapInsert (r : TapReq) : List TapReq → List TapReq
  | [] => [r]
  | x :: l => if x.prio < r.prio then r :: x :: l else x :: tapInsert r l

/-- Does a holder hold a bounded permit (R65)? -/
def Dev.holdsBounded (d : Dev) (h : Holder) : Bool := d.tap.permits.any fun p => p.holder == h && !p.isRes

/-- Ask for a permit (R57, R65). While the Tap is unserved every request waits: none is granted and none refused (R564).
REFUSED counts the refusals with PERMIT and not those with BUSY (log entry 53, DESIGN CHOICE). -/
def Dev.ask (d : Dev) (h : Holder) (amount dur prio waitMs tag : Nat) : Dev × TapAns :=
  let queue := fun (d : Dev) => d.modTap fun t => { t with queue := tapInsert ⟨amount, dur, prio, d.now + waitMs * 1000000, d.seq, h, tag⟩ t.queue }
  if !d.served 2 then (queue d, .queued)
  else if d.holdsBounded h then (d, .busy)
  else match d.tap.freeNum with
  | some num =>
    if d.fits amount && d.tap.queue.isEmpty then (d.grant h amount dur prio tag num, .granted num)
    else if waitMs = 0 || 64 ≤ d.tap.queue.length then (d.refuse, .refused)
    else (queue d, .queued)
  | none => if waitMs = 0 || 64 ≤ d.tap.queue.length then (d.refuse, .refused) else (queue d, .queued)

/-- Grant the head of the queue as long as it fits (R57); each grant is left as work for its holder. -/
def Dev.reeval (d : Dev) : Nat → Dev
  | 0 => d
  | fuel + 1 =>
    match d.tap.queue, d.tap.freeNum with
    | q :: rest, some num =>
      if d.served 2 && d.fits q.amount then
        let d := d.modTap fun t => { t with queue := rest }
        ((d.grant q.holder q.amount q.dur q.prio q.tag num).todo (.granted q.holder num q.amount q.tag)).reeval fuel
      else d
    | _, _ => d

/-- Re-evaluate the head at every release, expiry, revocation and rail sample (R57). -/
def Dev.recheck (d : Dev) : Dev := d.reeval 64

/-- End a permit, by its number (R58). -/
def Dev.release (d : Dev) (num : Nat) : Dev :=
  if num = 0 then d else (d.modTap fun t => { t with permits := t.permits.filter (fun p => p.num != num) }).recheck

/-- End every permit of a holder, and its queued requests. -/
def Dev.releaseAll (d : Dev) (h : Holder) : Dev :=
  (d.modTap fun t => { t with permits := t.permits.filter (fun p => p.holder != h), queue := t.queue.filter (fun q => q.holder != h) }).recheck

/-- Revoke one reservation: one event, counted, logged, and its holder is told (R59, R60). -/
def Dev.revoke (d : Dev) (p : Permit) : Dev :=
  ((d.modTap fun t => { t with permits := t.permits.filter (fun x => x.num != p.num) }).event.bump K.REVOKED |>.logE 0x1021 0).todo (.revoked p.holder p.num p.amount p.tag)

/-- The revocable reservation that goes first: lowest priority, most recently granted within it (R59).
Permits are listed newest first. -/
def firstToRevoke (l : List Permit) : Option Permit :=
  (l.filter (·.revocable)).foldl (fun a p => match a with
    | none => some p
    | some b => if p.prio < b.prio then some p else a) none

/-- Revoke in the order of R59 until `enough` of what was revoked says so. -/
def Dev.revokeWhile (d : Dev) (more : Dev → Nat → Bool) : Nat → Nat → Dev
  | 0, _ => d
  | fuel + 1, sum =>
    if more d sum then
      match firstToRevoke d.tap.permits with
      | some p => (d.revoke p).revokeWhile more fuel (sum + p.amount)
      | none => d
    else d

/-- Revoke until the declared load is within the effective budget (R46, R55). While the role is unserved every reservation stays in force (R564). -/
def Dev.revokeToBudget (d : Dev) : Dev :=
  if d.served 2 then (d.revokeWhile (fun d _ => decide (d.effective < d.declared)) 256 0).recheck else d

/-- What the declared load would be with every revocable reservation gone. -/
def Dev.floorLoad (d : Dev) : Nat := baseOf d.limits + permitSum (d.tap.permits.filter fun p => !p.revocable)

/-- Refuse every queued request whose wait has ended (R57, R564). -/
def Dev.tapWaits (d : Dev) : Dev :=
  let gone := d.tap.queue.filter fun q => decide (q.waitEnds ≤ d.now)
  let d := d.modTap fun t => { t with queue := t.queue.filter fun q => !decide (q.waitEnds ≤ d.now) }
  gone.foldl (fun d q => (d.refuse).todo (.refused q.holder q.tag)) d

/-- End every bounded permit whose duration has ended (R58). -/
def Dev.tapExpire (d : Dev) : Dev :=
  d.modTap fun t => { t with permits := t.permits.filter fun p =>
    match p.ends with
    | some e => decide (d.now < e)
    | none => true }

/-- Has a store changed the journal of role r, 0x1E0000 + 0x1000 × r on (R104)? The model's holders keep their state as content, and write no words there
(log entry 59, DESIGN CHOICE). -/
def Dev.journalHit (d : Dev) (r : Nat) : Bool :=
  d.mem.any fun e => decide (0x1E0000 + 0x1000 * r ≤ e.1) && decide (e.1 < 0x1E1000 + 0x1000 * r)

/-- Those entries of a list that free choices from the n-th on keep. -/
def freeKept {α : Type} (n : Nat) (l : List α) : List α :=
  ((l.zip (List.range l.length)).filter fun e => Config.freeNat (n + e.2) % 2 == 1).map (·.1)

/-- What a new holder of the Tap finds in a journal that a store has changed: which permits and requests it still reads there is free, since the
manual gives the journal no layout (log entry 59, DESIGN CHOICE). -/
def Dev.tapJournal (d : Dev) : Dev :=
  if !d.journalHit 2 then d else
  let n := d.tap.permits.length
  let d' := (d.modTap fun t => { t with permits := freeKept d.free t.permits, queue := freeKept (d.free + n) t.queue }).clearMem 0x1E2000 0x1E3000
  { d' with free := d.free + n + d.tap.queue.length }

/-- A keeper takes the Tap role: permits and queue stand as the journal has them, then R564's three steps. A queue that grew past R57's 64 entries while the
role was unserved keeps every entry (log entry 53, DESIGN CHOICE). -/
def Dev.tapRebuild (d : Dev) : Dev := if d.served 2 then d.tapJournal.tapExpire.tapWaits.recheck else d

/-- The mean of a list of numbers, rounded down: for the means of R56 and R59 the manual states no rounding to whole mW
(DESIGN CHOICE, log entry 58). -/
def meanN (l : List Nat) : Nat := l.foldl (· + ·) 0 / max l.length 1

/-- One sample of the 20 rails, in mW (R56). -/
def Dev.railSample (d : Dev) (mw : List Nat) : Dev :=
  let sum := mw.foldl (· + ·) 0
  let tooMuch := decide (d.effective < sum)
  let d := d.modTap fun t =>
    { t with sums := (sum :: t.sums).take 100, rails := (mw :: t.rails).take 100,
             tooMuch := if tooMuch then t.tooMuch + 1 else 0, overSump := if tooMuch && !d.served 2 then t.overSump + 1 else 0,
             limpOver := if tooMuch then t.limpOver else none }
  let d := if d.obn K.TAP_PEAK < sum then d.setOb K.TAP_PEAK sum else d
  d.recheck

/-- Overrun: 100 samples in a row above the effective budget (R59), or 200 while the role is unserved (R61). -/
def Dev.overrun (d : Dev) : Dev :=
  if d.served 2 then
    if 100 ≤ d.tap.tooMuch then
      let excess := meanN d.tap.sums - d.effective
      let limp := d.limits = 6
      let d := d.modTap fun t => { t with tooMuch := 0, limpOver := if limp then (if t.limpOver.isSome then t.limpOver else some d.now) else none }
      if (firstToRevoke d.tap.permits).isSome then
        (d.revokeWhile (fun _ s => decide (s < excess)) 256 0).recheck
      else if (d.obn K.LIMP_CAUSE).testBit 0 then d
      else (d.logE 0x1020 0).todo (.limp 1)
    else d
  else if 200 ≤ d.tap.overSump then (d.modTap fun t => { t with overSump := 0 }).todo (.limp 1)
  else d

/-- TAP_MEASURED: the mean of the last 100 sums (R56). -/
def Dev.measured (d : Dev) : Nat := meanN d.tap.sums

/-- The 1 ms mean of one rail (R56). -/
def Dev.railMean (d : Dev) (i : Nat) : Nat := meanN (d.tap.rails.map (fun r => r.getD i 0))

end Sys2Proof.Machine
end

