-- ==== Sys2Proof/Machine/Cellar.lean ====
section
/-! DEFINITION. The Cellar's entries and regions, and how a write lands (spec 14, R372 to R396). -/
namespace Sys2Proof.Machine

def Dev.modCellar (d : Dev) (f : Cellar → Cellar) : Dev := { d with cellar := f d.cellar }

/-- The memory address of word w of an entry (R6, R105). -/
def sigAddr (n w : Nat) : Nat := 0x400000 + 4 * n + w

/-- Is an entry poisoned (R119)? -/
def Dev.entryPoisoned (d : Dev) (n : Nat) : Bool := (List.range 4).any fun w => d.poisoned (sigAddr n w)

/-- An entry's fields (R372). -/
structure Entry where
  value : Nat
  stamp : Nat
  source : Nat
  node : Nat
  contested : Bool
  stale : Bool
  valid : Bool
  forced : Bool
  count : Nat
deriving DecidableEq, Repr

/-- The entry as stored; a poisoned one reads as never written (R381). -/
def Dev.entry (d : Dev) (n : Nat) : Entry :=
  if d.entryPoisoned n then ⟨0, 0, 0, 0, false, false, false, false, 0⟩ else
  let w3 := d.ld (sigAddr n 3)
  { value := d.ld (sigAddr n 0) * 2 ^ 24 + d.ld (sigAddr n 1), stamp := d.ld (sigAddr n 2), source := bits w3 23 17,
    node := bits w3 16 8, contested := w3.testBit 7, stale := w3.testBit 6, valid := w3.testBit 5, forced := w3.testBit 4,
    count := bits w3 3 0 }

/-- The four words of an entry (R372). -/
def Entry.words (e : Entry) : List Nat :=
  [bits e.value 47 24, bits e.value 23 0, e.stamp % 2 ^ 24,
   e.source % 128 * 2 ^ 17 + e.node % 512 * 2 ^ 8 + b2n e.contested * 128 + b2n e.stale * 64 + b2n e.valid * 32 +
     b2n e.forced * 16 + e.count % 16]

/-- Store an entry whole. -/
def Dev.putEntry (d : Dev) (n : Nat) (e : Entry) : Dev := d.stAll (sigAddr n 0) e.words

/-! ### Regions (R374 to R377) -/

/-- The regions in use, in ascending number: those with a listed REG_SIZE that is not 0. -/
def Dev.regions (d : Dev) : List Nat :=
  d.od.filterMap fun e =>
    if bits e.1 23 20 = 8 && bits e.1 7 0 = 1 && bits e.1 19 8 < 0x400 && e.2 != 0 then some (bits e.1 19 8) else none

/-- Does a signal lie in a region? -/
def Dev.inRegion (d : Dev) (r n : Nat) : Bool :=
  decide (d.obn (K.REG_BASE r) ≤ n) && decide (n < d.obn (K.REG_BASE r) + d.obn (K.REG_SIZE r))

/-- The region a signal lies in. -/
def Dev.regionOf (d : Dev) (n : Nat) : Option Nat := d.regions.find? (fun r => d.inRegion r n)

/-- The stamp quantum in ns (R375). -/
def quantumNs : Nat → Nat
  | 0 => 8
  | 1 => 64
  | 2 => 1000
  | 3 => 10000
  | 4 => 100000
  | _ => 1000000

/-- The stamp of an instant of a region's base, in ns (R375). -/
def Dev.stampOf (d : Dev) (r ns : Nat) : Nat := ns / quantumNs (d.obn (K.REG_QUANT r)) % 2 ^ 24

/-- The age of a stamp at an instant's stamp (R375). -/
def ageOf (now stamp : Nat) : Nat := (now + 2 ^ 24 - stamp % 2 ^ 24) % 2 ^ 24

/-- The region at index i of a context (R376). -/
def Dev.regionAt (d : Dev) (c i : Nat) : Option Nat := (d.regions.filter fun r => d.obn (K.REG_OWNER r) == c)[i]?

/-- The source code part of an identity: a bound port or core code stands for its context, written 1000 + c; a port that a role move left goes on standing
for its former context until it is bound again (R380). -/
def Dev.sourceId (d : Dev) (src node : Nat) : Nat :=
  if src < 96 then
    if d.obn (K.P_ROLE_CONTEXT src) < 128 then 1000 + d.obn (K.P_ROLE_CONTEXT src) else
    match (d.port src).standFor with
    | some c => 1000 + c
    | none => src
  else if 100 ≤ src && src < 120 && 384 ≤ node then 1000 + (node - 384)
  else src

/-- Is a write by this source and node an owner write of the region (R380)? -/
def Dev.ownerWrite (d : Dev) (r src node : Nat) : Bool :=
  let o := d.obn (K.REG_OWNER r)
  (o < 128 && d.sourceId src node == 1000 + o) || (src == 121 && o == 0xFE)

/-! ### A write to an entry (R378 to R382) -/

/-- The three kinds of write. -/
inductive WOp where
  | write | force | unforce
deriving DecidableEq, Repr

/-- A write as it meets an entry; `ns` is its instant on the region's base. -/
structure CWrite where
  sig : Nat
  value : Nat
  src : Nat
  node : Nat
  op : WOp
  ns : Nat
deriving DecidableEq, Repr

/-- Is the entry fresh at a write's stamp (R379)? -/
def Dev.isFresh (d : Dev) (r : Nat) (e : Entry) (stamp : Nat) : Bool :=
  e.valid && !e.stale && (d.obn (K.REG_FRESH_LIMIT r) == 0 || decide (ageOf stamp e.stamp ≤ d.obn (K.REG_FRESH_LIMIT r)))

/-- Mark a contest (R381): the entry, the count, and at the first of a region the log and the event source. -/
def Dev.contest (d : Dev) (r : Nat) : Dev :=
  let d := d.bump (K.REG_CONTESTS r)
  if d.cellar.contested1.contains r then d else
  ((d.modCellar fun c => { c with contested1 := insNat r c.contested1 }).logE 0x8010 r).raise 0x542

/-- The accepted write's entry (R381). -/
def Dev.landed (d : Dev) (r : Nat) (w : CWrite) (e : Entry) : Entry :=
  { e with value := w.value % 2 ^ 48, stamp := d.stampOf r w.ns, source := w.src, node := w.node, valid := true, stale := false,
           forced := e.forced || w.op = .force, count := (e.count + 1) % 16 }

/-- Store an accepted write and keep STALE_NOW and FORCED_COUNT (R381). -/
def Dev.land (d : Dev) (r : Nat) (w : CWrite) (e : Entry) : Dev :=
  let d := d.putEntry w.sig (d.landed r w e)
  let d := if e.stale then d.setOb (K.REG_STALE_NOW r) (d.obn (K.REG_STALE_NOW r) - 1 : Nat) else d
  if w.op = .force && !e.forced then d.setOb K.FORCED_COUNT (d.obn K.FORCED_COUNT + 1 : Nat) else d

/-- Apply a write to an entry of region r; the answer says whether it was accepted (R381). -/
def Dev.applyWrite (d : Dev) (r : Nat) (w : CWrite) : Dev × Bool :=
  let e := d.entry w.sig
  if w.op = .unforce then
    if e.forced then
      ((d.putEntry w.sig { e with forced := false }).setOb K.FORCED_COUNT (d.obn K.FORCED_COUNT - 1 : Nat), true)
    else (d, true)
  else if e.forced && w.op = .write then (d.bump (K.REG_FORCED_DROPS r), false)
  else
    let clash := w.op = .write && d.isFresh r e (d.stampOf r w.ns) &&
      !(d.sourceId w.src w.node == d.sourceId e.source e.node && w.node == e.node)
    if clash then
      let d := d.contest r
      let e := { e with contested := true }
      if d.obn (K.REG_POLICY r) = 0 && !d.ownerWrite r w.src w.node then
        ((d.putEntry w.sig e).bump (K.REG_FOREIGN_DROPS r), false)
      else (d.land r w e, true)
    else (d.land r w e, true)

/-! ### Rights (R377) -/

/-- The writers that REG_RIGHTS tells apart, with the bit each needs. -/
inductive Writer where
  | dictWrite | dictForce | core | list | profile
deriving DecidableEq, Repr

def Writer.bit : Writer → Nat
  | .dictWrite => 0
  | .dictForce => 1
  | .core => 2
  | .list => 3
  | .profile => 4

/-- May this writer write the region: its owner's own writers need no right (R377)? -/
def Dev.mayWrite (d : Dev) (r : Nat) (k : Writer) (own : Bool) : Bool := own || (d.obn (K.REG_RIGHTS r)).testBit k.bit

/-- A scatter or profile update without its right, or in no region, is discarded (R377). -/
def Dev.noRight (d : Dev) (r : Option Nat) : Dev :=
  match r with
  | some r => (d.bump (K.REG_RIGHTS_DROPS r)).logSec 0x8001 r
  | none => (d.bump K.NO_REGION).logSec 0x8001 0xFFFF

/-- One update of a scatter commit or a profile-unit axis, and whether it was accepted; the owner's own writers need no right. -/
def Dev.updateAns (d : Dev) (k : Writer) (ownCtx : Option Nat) (src node sig value : Nat) (ns : Nat → Nat) : Dev × Bool :=
  match d.regionOf sig with
  | none => (d.noRight none, false)
  | some r =>
    let o := d.obn (K.REG_OWNER r)
    let own := (match ownCtx with
      | some c => o == c
      | none => false) || (k = .profile && o == 0xFE)
    if d.mayWrite r k own then d.applyWrite r ⟨sig, value, src, node, .write, ns (d.obn (K.REG_TB r))⟩ else (d.noRight (some r), false)

/-- The update where its acceptance is not counted. -/
def Dev.update (d : Dev) (k : Writer) (ownCtx : Option Nat) (src node sig value : Nat) (ns : Nat → Nat) : Dev :=
  (d.updateAns k ownCtx src node sig value ns).1

/-! ### Core access through the gate (R391 to R393) -/

/-- A word of an entry as the gate latches it; one that is poisoned is marked by bit 24. -/
def Dev.latched (d : Dev) (n w : Nat) : Nat := if d.poisoned (sigAddr n w) then 2 ^ 24 else d.ld (sigAddr n w)

/-- A core loads word w of an entry (R391): the word, whether it is poisoned (R119), and the latch. -/
def Dev.gateLoad (d : Dev) (c n w : Nat) : Dev × Nat × Bool :=
  let now := (d.ld (sigAddr n w), d.poisoned (sigAddr n w))
  if w = 0 then (d.modCellar fun x => { x with latch := mput x.latch c (n, [d.latched n 1, d.latched n 2, d.latched n 3]) }, now)
  else
    match mget? d.cellar.latch c with
    | some (m, l) => if m = n then (d, l.getD (w - 1) 0 % 2 ^ 24, (l.getD (w - 1) 0).testBit 24) else (d.modCellar fun x => { x with latch := mdel x.latch c }, now)
    | none => (d, now)

/-- The context a core's CTX register names, if VALID (R273). -/
def Core.ctxNum (c : Core) : Option Nat := if c.ctx.toNat.testBit 7 then some (bits c.ctx.toNat 6 0) else none

/-- The NODE a core's gate store records (R373). -/
def Core.gateNode (c : Core) : Nat :=
  match c.ctxNum with
  | some x => 384 + x
  | none => 383

/-- A core stores word w of an entry: the status, DONE 0 or DENIED 2 (R392). -/
def Dev.gateStore (d : Dev) (c n w v : Nat) : Dev × Nat :=
  let d := d.modCellar fun x => { x with latch := mdel x.latch c }
  if w = 0 then (d.modCellar fun x => { x with stage := mput x.stage c (n, v) }, 0)
  else if w = 1 then
    let hi := match mget? d.cellar.stage c with
      | some (m, h) => if m = n then h else if d.poisoned (sigAddr n 0) then 0 else d.ld (sigAddr n 0)
      | none => if d.poisoned (sigAddr n 0) then 0 else d.ld (sigAddr n 0)
    let d := d.modCellar fun x => { x with stage := mdel x.stage c }
    match d.regionOf n with
    | none => (d, 2)
    | some r =>
      let node := (d.core c).gateNode
      let own := (d.core c).ctxNum == some (d.obn (K.REG_OWNER r))
      if d.mayWrite r .core own then
        ((d.event.applyWrite r ⟨n, hi * 2 ^ 24 + v, 100 + c, node, .write, d.tbNs (d.obn (K.REG_TB r))⟩).1, 0)
      else (d, 2)
  else (d, 2)

/-! ### Clearing (R383, R396) -/

/-- Clear every entry of a region at one event: FORCED_COUNT falls by the forced entries, STALE_NOW becomes 0 (R396). -/
def Dev.clearRegion (d : Dev) (r : Nat) : Dev :=
  let lo := sigAddr (d.obn (K.REG_BASE r)) 0
  let hi := sigAddr (d.obn (K.REG_BASE r) + d.obn (K.REG_SIZE r)) 0
  let forced := (d.mem.filter fun e => decide (lo ≤ e.1) && decide (e.1 < hi) && e.1 % 4 == 3 && e.2.toNat.testBit 4).length
  let d := d.event.clearMem lo hi
  let d := d.setOb K.FORCED_COUNT (d.obn K.FORCED_COUNT - forced : Nat)
  d.setOb (K.REG_STALE_NOW r) 0

end Sys2Proof.Machine
end

