-- ==== Sys2Proof/Machine/Crypto.lean ====
section
/-! DEFINITION. Check sums, SHA-256, HMAC and ECDSA P-256 as the manual uses them (spec 03 R91 to R95, 13 R347, 19 R523). -/
namespace Sys2Proof.Machine

/-! ### Check sums -/

/-- One byte into a reflected 32-bit CRC. -/
def crcByte (poly c : Nat) (b : Byte) : Nat :=
  (List.range 8).foldl (fun c _ => if c.testBit 0 then (c / 2) ^^^ poly else c / 2) (c ^^^ b.toNat)

/-- A reflected 32-bit CRC over bytes, starting from and inverted with all ones. -/
def crc32With (poly : Nat) (l : List Byte) : Nat := (l.foldl (crcByte poly) 0xFFFFFFFF) ^^^ 0xFFFFFFFF

/-- CRC-32C (R255). -/
def crc32C (l : List Byte) : Nat := crc32With 0x82F63B78 l

/-- The frame check sequence of IEEE 802.3 (R177), as a number whose low byte goes first on the line. -/
def fcsOf (l : List Byte) : Nat := crc32With 0xEDB88320 l

/-- The four bytes of a little-endian 32-bit number. -/
def leBytes4 (v : Nat) : List Byte := [BitVec.ofNat 8 v, BitVec.ofNat 8 (v >>> 8), BitVec.ofNat 8 (v >>> 16), BitVec.ofNat 8 (v >>> 24)]

/-- A frame with its FCS appended. -/
def withFcs (l : List Byte) : List Byte := l ++ leBytes4 (fcsOf l)

/-- Do the last four bytes of a frame hold its FCS? -/
def fcsGood (l : List Byte) : Bool := l.drop (l.length - 4) == leBytes4 (fcsOf (l.take (l.length - 4)))

/-! ### SHA-256 (R92, R523: as FIPS 180-4 defines it)

The eight working words stand in one 256-bit number, A at the top; a block is 64 turns of a window of sixteen schedule words. -/

/-- Word i of a number of 32-bit words, the lowest word first. -/
def word32 (v i : Nat) : Nat := v / 2 ^ (32 * i) % 2 ^ 32

/-- The exclusive or of a word turned right by each distance. -/
def turned (x : Nat) (by_ : List Nat) : Nat := by_.foldl (fun y n => y ^^^ (x / 2 ^ n + x * 2 ^ (32 - n)) % 2 ^ 32) 0

/-- The sixteen round constants of each quarter of a block, the last constant lowest: the fractions of the cube roots of the first 64 primes. -/
def shaQuarters : List Nat :=
  [0x428A2F9871374491B5C0FBCFE9B5DBA53956C25B59F111F1923F82A4AB1C5ED5D807AA9812835B01243185BE550C7DC372BE5D7480DEB1FE9BDC06A7C19BF174,
   0xE49B69C1EFBE47860FC19DC6240CA1CC2DE92C6F4A7484AA5CB0A9DC76F988DA983E5152A831C66DB00327C8BF597FC7C6E00BF3D5A7914706CA635114292967,
   0x27B70A852E1B21384D2C6DFC53380D13650A7354766A0ABB81C2C92E92722C85A2BFE8A1A81A664BC24B8B70C76C51A3D192E819D6990624F40E3585106AA070,
   0x19A4C1161E376C082748774C34B0BCB5391C0CB34ED8AA4A5B9CCA4F682E6FF3748F82EE78A5636F84C878148CC7020890BEFFFAA4506CEBBEF9A3F7C67178F2]

/-- The first working words: the fractions of the square roots of the first 8 primes. -/
def shaStart : Nat := 0x6A09E667BB67AE853C6EF372A54FF53A510E527F9B05688C1F83D9AB5BE0CD19

/-- One round on the packed words, for a constant added to a schedule word. -/
def shaRound (v kw : Nat) : Nat :=
  let at_ := fun (i : Nat) => word32 v (7 - i)
  let choice := at_ 6 ^^^ (at_ 4 &&& (at_ 5 ^^^ at_ 6))
  let major := (at_ 0 &&& at_ 1) ||| (at_ 2 &&& (at_ 0 ||| at_ 1))
  let t := word32 v 0 + turned (at_ 4) [6, 11, 25] + choice + kw
  let top := (t + turned (at_ 0) [2, 13, 22] + major) % 2 ^ 32
  let mid := (at_ 3 + t) % 2 ^ 32
  top * 2 ^ 224 + v / 2 ^ 160 * 2 ^ 128 + mid * 2 ^ 96 + v / 2 ^ 32 % 2 ^ 96

/-- The schedule word that joins a window of sixteen as its first one leaves. -/
def shaNext (w : List Nat) : Nat :=
  let lo := w.getD 1 0
  let hi := w.getD 14 0
  (w.getD 0 0 + (turned lo [7, 18] ^^^ lo / 2 ^ 3) + w.getD 9 0 + (turned hi [17, 19] ^^^ hi / 2 ^ 10)) % 2 ^ 32

/-- Rounds on a window and the packed words, with the constants still to come in a quarter, the next one at place n. -/
def shaTurn (ks : Nat) : Nat → List Nat × Nat → List Nat × Nat
  | 0, x => x
  | n + 1, (w, v) => shaTurn ks n (w.drop 1 ++ [shaNext w], shaRound v (word32 ks n + w.getD 0 0))

/-- One block into the packed words, whose words are added at the end. -/
def shaBlock (v : Nat) (blk : List Byte) : Nat :=
  let w := (List.range 16).map fun i => beNat ((blk.drop (4 * i)).take 4)
  let r := (shaQuarters.foldl (fun x ks => shaTurn ks 16 x) (w, v)).2
  (List.range 8).foldl (fun a i => a + (word32 v i + word32 r i) % 2 ^ 32 * 2 ^ (32 * i)) 0

/-- SHA-256 of bytes, as 32 bytes: a one bit, zeros, and the length in bits in the last 8 bytes of the last block. -/
def sha256 (m : List Byte) : List Byte :=
  let zeros := (64 - (m.length + 9) % 64) % 64
  let all := m ++ BitVec.ofNat 8 128 :: (List.replicate zeros 0 ++ beBytes 8 (m.length * 8))
  beBytes 32 ((List.range (all.length / 64)).foldl (fun v k => shaBlock v ((all.drop (k * 64)).take 64)) shaStart)

/-- HMAC-SHA-256 (RFC 2104). -/
def hmac256 (key m : List Byte) : List Byte :=
  let k0 := if 64 < key.length then sha256 key else key
  let k := k0 ++ List.replicate (64 - k0.length) 0
  sha256 (k.map (· ^^^ 0x5c) ++ sha256 (k.map (· ^^^ 0x36) ++ m))

/-! ### ECDSA on P-256 (FIPS 186-5) -/

namespace P256
def p : Nat := 0xFFFFFFFF00000001000000000000000000000000FFFFFFFFFFFFFFFFFFFFFFFF
def n : Nat := 0xFFFFFFFF00000000FFFFFFFFFFFFFFFFBCE6FAADA7179E84F3B9CAC2FC632551
def b : Nat := 0x5AC635D8AA3A93E7B3EBBD55769886BC651D06B0CC53B0F63BCE3C3E27D2604B
def gx : Nat := 0x6B17D1F2E12C4247F8BCE6E563A440F277037D812DEB33A0F4A13945D898C296
def gy : Nat := 0x4FE342E2FE1A7F9B8EE7EB4A7C0F9E162BCE33576B315ECECBB6406837BF51F5

/-- x to the power e, mod m, by the bits of e. -/
def pow (m x : Nat) : Nat → Nat → Nat
  | 0, _ => 1
  | k + 1, e => let h := pow m (x * x % m) k (e / 2); if e % 2 = 1 then x * h % m else h

/-- The inverse mod a prime. -/
def inv (m x : Nat) : Nat := pow m (x % m) 256 (m - 2)

/-- A point, none at infinity. -/
abbrev Pt := Option (Nat × Nat)

def add (a c : Pt) : Pt :=
  match a, c with
  | none, c => c
  | a, none => a
  | some (x1, y1), some (x2, y2) =>
    if x1 = x2 && (y1 + y2) % p = 0 then none else
    let l := if x1 = x2 then (3 * x1 * x1 + (p - 3)) * inv p (2 * y1) % p
             else ((y2 + p - y1) * inv p (x2 + p - x1)) % p
    let x := (l * l + 2 * p - x1 - x2) % p
    some (x, (l * (x1 + p - x) + p - y1) % p)

def mul (q : Pt) : Nat → Nat → Pt
  | 0, _ => none
  | k + 1, e => let h := mul (add q q) k (e / 2); if e % 2 = 1 then add q h else h

def onCurve (x y : Nat) : Bool := decide (x < p) && decide (y < p) && (y * y % p == (x * x % p * x + (p - 3) * x + b) % p)

/-- Does (r, s) sign the hash under the public key? -/
def verify (pub : List Byte) (hash : List Byte) (r s : Nat) : Bool :=
  let x := beNat (pub.take 32)
  let y := beNat ((pub.drop 32).take 32)
  if r = 0 || n ≤ r || s = 0 || n ≤ s || !onCurve x y then false else
  let w := inv n s
  match add (mul (some (gx, gy)) 256 (beNat hash * w % n)) (mul (some (x, y)) 256 (r * w % n)) with
  | none => false
  | some (v, _) => v % n == r
end P256

end Sys2Proof.Machine
end

