-- ==== Sys2Proof/Machine/Sets.lean ====
section
/-! DEFINITION. Tables that are installed as sets: scatter lists, templates, parser entries, and the sections of bundles
that hold them (spec 12 R336, R337; 13 R346 to R350; 14 R384 to R404). The layouts of images are log entry 11. -/
namespace Sys2Proof.Machine

/-! ### Room -/

/-- The least start from lo at which n units fit below hi, beside the runs in use (start, length). -/
def firstFit (used : List (Nat × Nat)) (lo hi n : Nat) : Option Nat :=
  ((lo :: used.map fun u => u.1 + u.2).filter fun b => decide (lo ≤ b) && decide (b + n ≤ hi) &&
      used.all fun u => u.2 = 0 || n = 0 || decide (b + n ≤ u.1) || decide (u.1 + u.2 ≤ b)).foldl
    (fun a b => match a with
      | none => some b
      | some x => some (min x b)) none

/-- Free words of the body area (R407). -/
def Dev.listWordsFree (d : Dev) : Nat := 65536 - d.cellar.alloc.foldl (fun a x => a + x.len) 0

/-! ### Bodies and fields (R385, R386) -/

/-- A body entry. -/
structure BodyEnt where
  byte : Nat
  bit : Nat
  width : Nat
  le : Bool
  flag : Bool          -- SIGNED, or STALE_SAFE
  off : Nat
  safe : Nat
deriving DecidableEq, Repr

def bodyEnt (w : List Nat) : BodyEnt :=
  let a := w.getD 0 0
  { byte := bits a 23 13, bit := bits a 12 10, width := bits a 9 4 + 1, le := a.testBit 3, flag := a.testBit 2,
    off := bits (w.getD 1 0) 19 0, safe := w.getD 2 0 * 2 ^ 24 + w.getD 3 0 }

/-- The entries of a body whose first word is at place i of the words. -/
def bodyAt (w : List Nat) (i : Nat) : List BodyEnt :=
  let h := w.getD i 0
  let n := if h.testBit 23 then 4 else 2
  (List.range (bits h 7 0)).map fun k => bodyEnt ((w.drop (i + 1 + n * k)).take n)

/-- Does a body of kind g stand at place i within the limits of R385? -/
def bodyOk (w : List Nat) (i : Nat) (g : Bool) : Bool :=
  let h := w.getD i 0
  let n := if g then 4 else 2
  decide (i < w.length) && h.testBit 23 == g && decide (1 ≤ bits h 7 0) && decide (i + 1 + n * bits h 7 0 ≤ w.length) &&
    (bodyAt w i).all fun e => decide (e.width ≤ 48)

/-- The entries of an installed body, BODY counted from 0x260000. -/
def Dev.body (d : Dev) (ofs : Nat) : List BodyEnt :=
  let h := d.ld (0x260000 + ofs)
  let n := if h.testBit 23 then 4 else 2
  (List.range (bits h 7 0)).map fun k => bodyEnt (d.ldAll (0x260000 + ofs + 1 + n * k) n)

/-- Byte and bit of bit i of a field, i = 0 the least significant (R386). -/
def BodyEnt.place (e : BodyEnt) (i : Nat) : Nat × Nat :=
  if e.le then (e.byte + (e.bit + i) / 8, (e.bit + i) % 8)
  else let f := 8 * e.byte + e.bit + (e.width - 1 - i); (f / 8, 7 - f % 8)

/-- The last byte a field touches. -/
def BodyEnt.lastByte (e : BodyEnt) : Nat := e.byte + (e.bit + e.width - 1) / 8

/-- Take a field from a frame (R386). -/
def BodyEnt.takeFrom (e : BodyEnt) (frame : List Byte) : Nat :=
  let v := (List.range e.width).foldl (fun a i => let q := e.place i; if (byteAt frame q.1).testBit q.2 then a + 2 ^ i else a) 0
  if e.flag then wrapN 48 (sext e.width v) else v

/-- Put the low bits of a value into a frame at a byte base (R386, R397). -/
def BodyEnt.putInto (e : BodyEnt) (base v : Nat) (frame : List Byte) : List Byte :=
  (List.range e.width).foldl (fun f i =>
    let q := e.place i
    setByte f (base + q.1) (putBit (byteAt f (base + q.1)) q.2 (v.testBit i))) frame

/-! ### Destinations -/

/-- DEST of an envelope, [9:0]: with MC 0 its bit [3] is reserved (R3, R345). -/
def destBits (mc : Bool) (dest : Nat) : Nat := if mc then dest % 1024 else dest % 1024 / 16 * 16 + dest % 8

/-- DEST with MC in [15] and its reserved bits 0 (R3, R345). -/
def destWord (w : Nat) : Nat := bits w 15 15 * 2 ^ 15 + destBits (w.testBit 15) w

/-- The bytes of a match entry that R348 defines. -/
def entryMask : List Nat := List.replicate 16 255 ++ [0x83, 255, 255, 255, 0x87, 255, 255, 255, 255, 255, 255, 0, 0, 0, 0, 0]

/-- An image of records of `size` bytes with the bits of each byte that `keep` does not list cleared: reserved fields read 0 (R3). -/
def maskImage (size : Nat) (keep : List Nat) (img : List Byte) : List Byte :=
  (img.zip (List.range img.length)).map fun e => e.1 &&& BitVec.ofNat 8 (keep.getD (e.2 % size) 255)

/-- Match entries without their reserved bits: those of R348, and [3] of a DEST with MC 0 (R345). -/
def cleanEntries (img : List Byte) : List Byte :=
  let m := maskImage 32 entryMask img
  (m.zip (List.range m.length)).map fun e => if e.2 % 32 = 17 && !(byteAt m (e.2 - 1)).testBit 7 then e.1 &&& 0xF7 else e.1

/-- R21: no output 38, none of 40 to 47 (and no number past 47). -/
def destOk (dest : Nat) : Bool := dest.testBit 15 || (bits dest 9 4 != 38 && decide (bits dest 9 4 < 40))

/-- The DEST of a field port. -/
def portDest (p : Nat) : Nat := p / 8 * 16 + p % 8

/-- The DEST of a core's fabric port. -/
def coreDest (c : Nat) : Nat := (16 + c) * 16

/-! ### Signal bases -/

/-- The signal base that a section's word names: by region index for a context, as it stands otherwise (log entry 11). -/
def Dev.sigBase (d : Dev) (ow : Owner) (w : Nat) : Option Nat :=
  let rel := fun c => (d.regionAt c (bits w 23 20)).map fun r => (d.obn (K.REG_BASE r) + bits w 19 0) % 2 ^ 20
  match ow with
  | .ctx c => rel c
  | .coming c => rel c
  | _ => some (bits w 19 0)

/-- The context of an owner. -/
def Owner.ctx? : Owner → Option Nat
  | .ctx c => some c
  | .coming c => some c
  | _ => none

/-- Is a set live as soon as it is added? -/
def Owner.live : Owner → Bool
  | .coming _ => false
  | _ => true

/-- Count a list or template that is not installed (R399). -/
def Dev.badTable (d : Dev) : Dev := (d.bump K.BAD_TABLES).logE 0x8000 0

/-! ### Scatter lists -/

/-- A body without its reserved bits (R3, R385). -/
def cleanBody (img : List Nat) (b : Nat) : List Nat :=
  let h := img.getD b 0
  let n := if h.testBit 23 then 4 else 2
  (List.range (bits h 7 0)).foldl (fun img k =>
    let i := b + 1 + n * k
    (img.set i (img.getD i 0 / 4 * 4)).set (i + 1) (img.getD (i + 1) 0 % 2 ^ 20)) (img.set b (bits h 23 23 * 2 ^ 23 + h % 256))

/-- Word k of a scatter list's header without its reserved bits (R384). A section's SIG_BASE names a region in [23:20]. -/
def listKeep (k v : Nat) : Nat :=
  match k with
  | 0 => v / 2 ^ 13 * 2 ^ 13
  | 1 => v
  | 2 => v % 2 ^ 17
  | _ => 0

/-- How many lists an image holds. -/
def listCount (img : List Nat) : Nat := min (img.getD 0 0) ((img.length - 1) / 4)

/-- Does list i of an image meet its limits (R399)? -/
def Dev.listOk (d : Dev) (ow : Owner) (img : List Nat) (i : Nat) : Bool :=
  bodyOk img (bits (img.getD (3 + 4 * i) 0) 16 0) false && (d.sigBase ow (img.getD (2 + 4 * i) 0)).isSome

/-- An image of lists without the reserved bits of its headers and bodies (R3). -/
def cleanLists (img : List Nat) : List Nat :=
  (List.range (listCount img)).foldl (fun img i =>
    let img := (List.range 4).foldl (fun img k => img.set (1 + 4 * i + k) (listKeep k (img.getD (1 + 4 * i + k) 0))) img
    cleanBody img (img.getD (3 + 4 * i) 0)) img

/-- Write list i of an image as list j, its body moved by `shift`. -/
def Dev.putList (d : Dev) (ow : Owner) (img : List Nat) (i j : Nat) (shift : Int) : Dev :=
  let ok := d.listOk ow img i
  let w0 := img.getD (1 + 4 * i) 0
  let d := { d with cellar := { d.cellar with lists := mput d.cellar.lists j (ow, ok) } }
  if ok then
    d.stAll (0x260000 + 4 * j)
      [bits w0 22 13 * 2 ^ 13 + (if ow.live then 2 ^ 23 else 0), (d.sigBase ow (img.getD (2 + 4 * i) 0)).getD 0,
       ((bits (img.getD (3 + 4 * i) 0) 16 0 : Nat) + shift).toNat, 0]
  else (d.stAll (0x260000 + 4 * j) [0, 0, 0, 0]).badTable

/-- Install the lists of an image for an owner: the state and the first index, or none for want of room. -/
def Dev.addLists (d : Dev) (ow : Owner) (image : List Nat) : Option (Dev × Nat) :=
  let img := cleanLists image
  let n := listCount img
  if n = 0 then some (d, 0) else
  let heads := 1 + 4 * n
  match firstFit (d.cellar.lists.map fun e => (e.1, 1)) 0 0x4000 n,
        firstFit (d.cellar.alloc.map fun a => (a.start, a.len)) 0x270000 0x280000 (img.length - heads) with
  | some j, some run =>
    let d := (d.modCellar fun c => { c with alloc := ⟨run, img.length - heads, ow, false⟩ :: c.alloc }).stAll run (img.drop heads)
    some (d.each (List.range n) fun d i => d.putList ow img i (j + i) ((run : Int) - 0x260000 - heads), j)
  | _, _ => none

/-! ### Templates -/

/-- Words of a template from its header (R397). -/
def tplWords (w0 w2 : Nat) : Nat := 8 + 3 * bits w0 12 9 + (bits w2 10 0 + 2) / 3

/-- The places of the templates in an image. -/
def tplPlaces (img : List Nat) : Nat → Nat → List Nat
  | 0, _ => []
  | n + 1, i => if i + 8 ≤ img.length then i :: tplPlaces img n (i + tplWords (img.getD i 0) (img.getD (i + 2) 0)) else []

def tplList (img : List Nat) : List Nat := tplPlaces img (min (img.getD 0 0) 4096) 1

/-- Word k of a template whose word 0 is w0, without its reserved bits (R3, R397). -/
def tplKeep (w0 k v : Nat) : Nat :=
  match k with
  | 0 => v / 2 ^ 9 * 2 ^ 9
  | 1 => v / 2 ^ 16 * 2 ^ 16 + (if w0.testBit 22 then v % 16 else destWord v)
  | 2 => v % 2 ^ 11
  | 3 => v
  | 4 => v
  | 5 => v % 2 ^ 10
  | 6 => v % 2 ^ 8
  | 7 => 0
  | k + 8 => if k % 3 = 0 then v else if k % 3 = 1 then v % 2 ^ 11 else v % 2 ^ 17

/-- An image of templates without the reserved bits of its headers, segments and bodies. -/
def cleanTpls (image : List Nat) : List Nat :=
  (tplList image).foldl (fun img i =>
    let w0 := img.getD i 0
    let img := (List.range (8 + 3 * bits w0 12 9)).foldl (fun img k => img.set (i + k) (tplKeep w0 k (img.getD (i + k) 0))) img
    (List.range (bits w0 12 9)).foldl (fun img s => cleanBody img (img.getD (i + 10 + 3 * s) 0)) img) image

/-- How many ports the context of an owner has. -/
def Dev.ownerPorts (d : Dev) (ow : Owner) : Nat :=
  match ow with
  | .ctx c => (d.ctx c).ports.length
  | .coming c => (d.ctx c).ports.length
  | .seg s => (d.ctx (d.obn (K.SEG_CTX s))).ports.length
  | .dev => 0

/-- Does the template at place i meet its limits (R399)? A slot template has no schedule of its own (R442), and
its last field may reach past its payload (R434). -/
def Dev.tplOk (d : Dev) (ow : Owner) (slot : Bool) (img : List Nat) (i : Nat) : Bool :=
  let w := fun k => img.getD (i + k) 0
  let len := bits (w 2) 10 0
  let per := w 3
  decide (1 ≤ len) && decide (len ≤ 2000) && decide (bits (w 0) 21 20 ≤ 2) &&
  decide (i + tplWords (w 0) (w 2) ≤ img.length) &&
  (slot || (decide (10 ≤ per) && decide (per ≤ 16000000) && decide (w 4 < per) && decide (bits (w 5) 9 0 ≤ 999))) &&
  (if (w 0).testBit 22 then decide (bits (w 1) 3 0 < d.ownerPorts ow) else destOk (bits (w 1) 15 0)) &&
  (List.range (bits (w 0) 12 9)).all fun s =>
    let b := bits (w (10 + 3 * s)) 16 0
    (d.sigBase ow (w (8 + 3 * s))).isSome && bodyOk img b true &&
      (slot || (bodyAt img b).all fun e => decide (bits (w (9 + 3 * s)) 10 0 + e.lastByte < len))

/-- The first firing time after an instant, all in ns of the template's base (R398, R404). -/
def firingAfter (per ph phNs t : Nat) : Nat :=
  let base := ph * 1000 + phNs
  if t < base then base else base + ((t - base) / (per * 1000) + 1) * (per * 1000)

/-- The next firing of an installed template after now. -/
def Dev.tplNext (d : Dev) (hdr : Nat) : Nat :=
  firingAfter (d.ld (hdr + 3)) (d.ld (hdr + 4)) (bits (d.ld (hdr + 5)) 9 0) (d.tbNs (bits (d.ld hdr) 16 14))

/-- Patch the template at place i of an image that now stands at `run`, and number it n. One of a swap that has not landed yet does not fire (R404). -/
def Dev.putTpl (d : Dev) (ow : Owner) (slot : Bool) (img : List Nat) (run i n : Nat) : Dev :=
  if d.tplOk ow slot img i then
    let h := run + i
    let w0 := d.ld h
    let d := d.st h (bits w0 22 0 + if ow.live then 2 ^ 23 else 0)
    let w1 := d.ld (h + 1)
    let d := match ow.ctx? with
      | some c => if w1.testBit 23 then d.st (h + 1) (2 ^ 23 + c * 2 ^ 16 + bits w1 15 0) else d
      | none => d
    let d := d.each (List.range (bits w0 12 9)) fun d s =>
      (d.st (h + 8 + 3 * s) ((d.sigBase ow (d.ld (h + 8 + 3 * s))).getD 0)).st (h + 10 + 3 * s)
        (bits (d.ld (h + 10 + 3 * s)) 16 0 + run - 0x260000)
    d.modCellar fun c => { c with tpls := mput c.tpls n ⟨h, ow, if slot || !ow.live then none else some (d.tplNext h)⟩ }
  else (d.st (run + i) (bits (d.ld (run + i)) 22 0)).badTable

/-- Install the templates of an image for an owner: the state and the first number, or none for want of room. -/
def Dev.addTpls (d : Dev) (ow : Owner) (slot : Bool) (image : List Nat) : Option (Dev × Nat) :=
  let img := cleanTpls image
  let l := tplList img
  if l.isEmpty then some (d, 0) else
  match firstFit (d.cellar.tpls.map fun e => (e.1, 1)) 0 4096 l.length,
        firstFit (d.cellar.alloc.map fun a => (a.start, a.len)) 0x270000 0x280000 img.length with
  | some j, some run =>
    let d := (d.modCellar fun c => { c with alloc := ⟨run, img.length, ow, true⟩ :: c.alloc }).stAll run img
    some ((l.zip (List.range l.length)).foldl (fun d e => d.putTpl ow slot img run e.1 (j + e.2)) d, j)
  | _, _ => none

/-! ### Removing and adopting sets (R404) -/

/-- Free the runs of an owner's set. -/
def Dev.freeRuns (d : Dev) (l : List Alloc) : Dev :=
  let d := l.foldl (fun d a => d.clearMem a.start (a.start + a.len)) d
  d.modCellar fun c => { c with alloc := c.alloc.filter fun a => !l.contains a }

/-- Remove lists by index with their runs. -/
def Dev.dropLists (d : Dev) (idx : List Nat) (runs : List Alloc) : Dev :=
  let d := d.each idx fun d j => d.clearMem (0x260000 + 4 * j) (0x260004 + 4 * j)
  (d.modCellar fun c => { c with lists := c.lists.filter fun e => !idx.contains e.1 }).freeRuns runs

/-- Remove templates by number with their runs. -/
def Dev.dropTpls (d : Dev) (nums : List Nat) (runs : List Alloc) : Dev :=
  (d.modCellar fun c => { c with tpls := c.tpls.filter fun e => !nums.contains e.1 }).freeRuns runs

def Dev.listsOf (d : Dev) (ow : Owner) : List Nat := (d.cellar.lists.filter fun e => e.2.1 = ow).map (·.1)
def Dev.tplsOf (d : Dev) (ow : Owner) : List Nat := (d.cellar.tpls.filter fun e => e.2.owner = ow).map (·.1)
def Dev.runsOf (d : Dev) (ow : Owner) (tpl : Bool) : List Alloc := d.cellar.alloc.filter fun a => a.owner = ow && a.tpl == tpl

/-- Remove everything of an owner. -/
def Dev.dropSets (d : Dev) (ow : Owner) : Dev :=
  (d.dropLists (d.listsOf ow) (d.runsOf ow false)).dropTpls (d.tplsOf ow) (d.runsOf ow true)

/-- A context's coming sets become its sets, at the event of a personality swap (R339). -/
def Dev.adoptSets (d : Dev) (c : Nat) : Dev :=
  let d := d.dropSets (.ctx c)
  let d := d.cellar.lists.foldl (fun d e => if e.2 = (Owner.coming c, true) then d.st (0x260000 + 4 * e.1) (putBit (d.ld (0x260000 + 4 * e.1)) 23 true) else d) d
  let d := d.cellar.tpls.foldl (fun d e => if e.2.owner = .coming c then d.st e.2.hdr (putBit (d.ld e.2.hdr) 23 true) else d) d
  let own := fun (o : Owner) => if o = .coming c then .ctx c else o
  let next := fun (t : Tpl) => if t.owner = .coming c then { t with owner := .ctx c, nextAt := some (d.tplNext t.hdr) } else t
  d.modCellar fun x =>
    { x with lists := x.lists.map fun e => (e.1, (own e.2.1, e.2.2)), tpls := x.tpls.map fun e => (e.1, next e.2),
             alloc := x.alloc.map fun a => { a with owner := own a.owner } }

/-- Device lists (R404): the new image beside the old one, which then goes; none when it does not fit. -/
def Dev.setDevLists (d : Dev) (img : List Nat) : Option Dev :=
  let old := d.listsOf .dev
  let runs := d.runsOf .dev false
  (d.event.addLists .dev img).map fun r => (r.1.dropLists old runs).setOb K.DEV_SCATTER_BASE (r.2 : Nat)

/-- Device templates (R404). -/
def Dev.setDevTpls (d : Dev) (img : List Nat) : Option Dev :=
  let old := d.tplsOf .dev
  let runs := d.runsOf .dev true
  (d.event.addTpls .dev false img).map fun r => (r.1.dropTpls old runs).setOb K.DEV_GATHER_BASE (r.2 : Nat)

/-- Is region r named by an installed device list or template: does one of their signals lie in it (R374)? -/
def Dev.devNames (d : Dev) (r : Nat) : Bool :=
  (d.cellar.lists.any fun e => e.2 = (Owner.dev, true) &&
    (d.body (bits (d.ld (0x260002 + 4 * e.1)) 16 0)).any fun b => d.inRegion r ((d.ld (0x260001 + 4 * e.1) + b.off) % 2 ^ 20)) ||
  (d.cellar.tpls.any fun e => (e.2.owner = .dev) && (List.range (bits (d.ld e.2.hdr) 12 9)).any fun s =>
    (d.body (bits (d.ld (e.2.hdr + 10 + 3 * s)) 16 0)).any fun b => d.inRegion r ((bits (d.ld (e.2.hdr + 8 + 3 * s)) 19 0 + b.off) % 2 ^ 20))

/-! ### Parser tables (R346 to R350) -/

/-- Is a profile of 10 words within R346? -/
def profileOk (w : List Nat) : Bool :=
  decide ((List.range 4).foldl (fun a i => a + bits (w.getD (i + 1) 0) 15 12) 0 ≤ 13) &&
    (List.range 4).all fun i => decide (bits (w.getD (i + 1) 0) 15 12 ≤ 13)

/-- The bucket of a key (R347). -/
def bucketOf (key : List Byte) : Nat := crc32C key % 2048

/-- Is an entry valid? -/
def entryValid (b : List Byte) : Bool := (byteAt b 0).testBit 7

/-- The bytes of an entry as they match: a coming entry is not valid yet. -/
def heldBytes (ow : Owner) (b : List Byte) : List Byte := if ow.live then b else setByte b 0 (byteAt b 0 % 128)

/-- Put an entry at the lowest free way of its bucket, none when the bucket is full (R347). -/
def addEntry (m : SMap MatchEnt) (ow : Owner) (b : List Byte) : Option (SMap MatchEnt) :=
  let k := 4 * bucketOf (b.take 16)
  ((List.range 4).find? fun w => (mget? m (k + w)).isNone).map fun w => mput m (k + w) { owner := ow, bytes := heldBytes ow b }

/-- Put the valid entries of a table, none when a bucket would hold more than 4. -/
def addEntries (m : SMap MatchEnt) (ow : Owner) (l : List (List Byte)) : Option (SMap MatchEnt) :=
  (l.filter entryValid).foldl (fun a b => a.bind fun m => addEntry m ow b) (some m)

/-- Entries of 32 bytes from bytes. -/
def entriesOf (l : List Byte) : List (List Byte) := (List.range (l.length / 32)).map fun i => (l.drop (32 * i)).take 32

/-- A saved table as the memory holds it: nothing where it failed its checks at boot (R527). -/
def Dev.table (d : Dev) (key : Nat) : List Byte := if d.sw.notLoaded.contains key then [] else d.dom key

def Dev.modSw (d : Dev) (f : Switch → Switch) : Dev := { d with sw := f d.sw }

/-- Keep ENTRIES_USED (R371); a way that holds an entry was written whole. -/
def Dev.entriesUsed (d : Dev) : Dev :=
  let d := if d.poison.any (fun a => decide (0x1400000 ≤ a)) then
      { d with poison := d.poison.filter fun a => !(decide (0x1400000 ≤ a) && (mget? d.sw.mstore ((a - 0x1400000) / 4)).isSome) } else d
  d.setOb K.ENTRIES_USED ((d.sw.mstore.countP fun e => entryValid e.2.bytes) : Nat)

/-- Drop an owner's entries. -/
def dropEntries (m : SMap MatchEnt) (ow : Owner) : SMap MatchEnt := m.filter fun e => e.2.owner != ow

/-- The index of list k of a set whose sections were installed at these indices, each with its count (log entry 11). -/
def listIndex : List (Nat × Nat) → Nat → Nat
  | [], k => k
  | r :: l, k => if k < r.2 || l.isEmpty then r.1 + k else listIndex l (k - r.2)

/-- A context's parser entry, resolved: SRC holds a port index; DEST [14:13] is 1 for a port index in [3:0] and 2 for the
context's core; AUX of an entry to the scatter unit is a list of the set; a valid CTX is the context (log entry 11). -/
def Dev.resolveEntry (d : Dev) (c : Nat) (runs : List (Nat × Nat)) (b : List Byte) : List Byte :=
  let x := d.ctx c
  let src := x.ports.getD (byteAt b 0 % 128) 127
  let dest := byteAt b 16 * 256 + byteAt b 17
  let dest' := if bits dest 14 13 = 1 then portDest (x.ports.getD (bits dest 3 0) 0)
    else if bits dest 14 13 = 2 then coreDest (d.obn (K.CTX_CORE_NOW c)) else destWord dest
  let aux := byteAt b 22 * 256 + byteAt b 23
  let aux' := if bits dest' 15 4 = 37 then listIndex runs aux else aux
  let b := setByte b 0 (byteAt b 0 / 128 * 128 + src)
  let b := setByte (setByte b 16 (dest' / 256)) 17 dest'
  let b := if (byteAt b 19).testBit 7 then setByte b 19 (128 + c) else b
  setByte (setByte b 22 (aux' / 256)) 23 aux'

/-- The match store with the entries of a context changed by f, those whose key changes put into their buckets anew: none where a bucket would hold more
than 4 (R350). -/
def Dev.reEntries (d : Dev) (c : Nat) (f : List Byte → List Byte) : Option (SMap MatchEnt) :=
  let mine := d.sw.mstore.filter fun e => e.2.owner = .ctx c || e.2.owner = .coming c
  let stays := fun (e : Nat × MatchEnt) => (f e.2.bytes).take 16 == e.2.bytes.take 16
  let m := mine.foldl (fun m e => if stays e then mput m e.1 { e.2 with bytes := f e.2.bytes } else mdel m e.1) d.sw.mstore
  (mine.filter fun e => !stays e).foldl (fun a e => a.bind fun m => addEntry m e.2.owner (f e.2.bytes)) (some m)

/-- The same done; where a bucket has no room the table stays as it is. -/
def Dev.reEntry (d : Dev) (c : Nat) (f : List Byte → List Byte) : Dev :=
  (d.modSw fun s => { s with mstore := (d.reEntries c f).getD s.mstore }).entriesUsed

/-! ### Bundles (R336, R337) -/

/-- The sections of a type of an installed bundle, in the order of its directory, each with its INDEX. -/
def Dev.sections (d : Dev) (j ty : Nat) : List (Nat × List Nat) :=
  match mget? d.bundles j with
  | none => []
  | some b =>
    let n := bits (d.ld (b.base + 1)) 15 8
    ((List.range n).filter fun i => bits (d.ld (b.base + 8 + 3 * i)) 23 16 == ty).map fun i =>
      (bits (d.ld (b.base + 8 + 3 * i)) 15 8, d.ldAll (b.base + d.ld (b.base + 9 + 3 * i)) (d.ld (b.base + 10 + 3 * i)))

/-- The words of all sections of a type. -/
def Dev.sects (d : Dev) (j ty : Nat) : List (List Nat) := (d.sections j ty).map (·.2)

/-- The words of the first section of a type, empty when the bundle has none. -/
def Dev.sect (d : Dev) (j ty : Nat) : List Nat := (d.sects j ty).headD []

/-- The RUNNEL_PROG section of an index. -/
def Dev.progSect (d : Dev) (j ix : Nat) : List Nat := (((d.sections j 2).find? fun s => s.1 == ix).map (·.2)).getD []

/-- The words of the CHANNEL sections, five for each port index. -/
def Dev.chanWords (d : Dev) (j : Nat) : List Nat := (d.sects j 8).flatten

/-- The profile of a bundle: that of its first PARSER section; and the entries of all of them (log entry 11). -/
def Dev.persProfile (d : Dev) (j : Nat) : List Nat := (d.sect j 3).take 10
def Dev.persEntries (d : Dev) (j : Nat) : List (List Byte) := (d.sects j 3).flatMap fun w => entriesOf (bytesOf (w.drop 10))

/-- Does a catalogue entry hold a bundle? -/
def Dev.hasBundle (d : Dev) (j : Nat) : Bool := (mget? d.bundles j).isSome

/-- Word i of CTX_DEFAULTS (R337). -/
def Dev.ctxDefault (d : Dev) (j i : Nat) : Nat := (d.sect j 7).getD i 0

/-! ### Contexts: parameters and places (R319) -/

def Dev.ctxState (d : Dev) (c : Nat) : Nat := d.obn (K.CTX_STATE c)
def Dev.setCtxState (d : Dev) (c s : Nat) : Dev := d.setOb (K.CTX_STATE c) (s : Nat)
def Dev.ctxCore (d : Dev) (c : Nat) : Nat := d.obn (K.CTX_CORE_NOW c)
def Dev.ctxSlot (d : Dev) (c : Nat) : Nat := d.obn (K.CTX_SLOT c)

/-- An object whose default the bundle gives: word i of CTX_DEFAULTS (R337, R340). -/
def Dev.ctxParam (d : Dev) (c key i : Nat) : Nat :=
  match mget? d.od key with
  | some v => v.toNat
  | none => d.ctxDefault (d.obn (K.CTX_PERS c)) i

/-- Word i of a context's descriptor in the Larder (R104, R319). The manual gives no layout of its 16 words: catalogue entry, core, slot, time base,
period, phase, deadline, first node slot, nodes, window words and checkpoint pool address, in this order (DESIGN CHOICE, log entry 60). -/
def Dev.ctxDesc (d : Dev) (c i : Nat) : Nat := d.ld (0x1E9000 + 16 * c + i)

/-- Write words of a context's descriptor from word i. -/
def Dev.descPut (d : Dev) (c i : Nat) (l : List Nat) : Dev := d.stAll (0x1E9000 + 16 * c + i) l

/-- The value in force for a context: its descriptor's while it is bound, else the object's. -/
def Dev.ctxHeld (d : Dev) (c i obj : Nat) : Nat := if d.ctxState c = 0 then obj else d.ctxDesc c i

/-- The period and phase in µs, the nodes and the window words. -/
def Dev.ctxPeriod (d : Dev) (c : Nat) : Nat := d.ctxHeld c 4 (d.ctxParam c (K.CTX_PERIOD c) 1)
def Dev.ctxPhase (d : Dev) (c : Nat) : Nat := d.ctxHeld c 5 (d.obn (K.CTX_PHASE c))
def Dev.ctxNodes (d : Dev) (c : Nat) : Nat := d.ctxHeld c 8 (d.ctxParam c (K.CTX_NODES c) 2)
def Dev.ctxWords (d : Dev) (c : Nat) : Nat := d.ctxHeld c 9 (d.ctxParam c (K.CTX_WORDS c) 3)

/-- The time base, period and phase that the objects hold come into force. -/
def Dev.descTiming (d : Dev) (c : Nat) : Dev :=
  d.descPut c 3 [d.obn (K.CTX_TB c), d.ctxParam c (K.CTX_PERIOD c) 1, d.obn (K.CTX_PHASE c)]

/-- Does a bundle name a fabric port in its parser entries or templates that R21 bars, or hold a profile that R346 refuses? -/
def Dev.setsBarred (d : Dev) (j : Nat) : Bool :=
  !profileOk (d.persProfile j) ||
  (d.persEntries j).any (fun b =>
    let dest := byteAt b 16 * 256 + byteAt b 17
    entryValid b && bits dest 14 13 != 1 && bits dest 14 13 != 2 && !destOk dest) ||
  (d.sects j 5).any fun img => (tplList img).any fun i => !((img.getD i 0).testBit 22) && !destOk (bits (img.getD (i + 1) 0) 15 0)

/-- Resolve the three sets of a context for catalogue entry j under an owner; none for want of room (R324, R339). -/
def Dev.resolveSets (d : Dev) (c j : Nat) (ow : Owner) : Option Dev := do
  let (d1, runs) ← (d.sects j 4).foldl (fun (a : Option (Dev × List (Nat × Nat))) img => a.bind fun (x : Dev × List (Nat × Nat)) =>
    (x.1.addLists ow img).map fun r => (r.1, x.2 ++ [(r.2, listCount img)])) (some (d, []))
  let d2 ← (d1.sects j 5).foldl (fun (a : Option Dev) img => a.bind fun (d : Dev) => (d.addTpls ow false img).map (·.1)) (some d1)
  let ents := (d2.persEntries j).map (d2.resolveEntry c runs)
  let m ← addEntries d2.sw.mstore ow ents
  return (d2.modSw fun s => { s with mstore := m }).entriesUsed

/-- Does a segment that is not STOPPED run on a port (R433)? -/
def Dev.segHolds (d : Dev) (c : Nat) : Bool := d.segs.any fun e => e.2.port == c && d.obn (K.SEG_STATE e.1) != 0

/-- A context's ports run a profile, those aside that run a segment's (R346, R433). -/
def Dev.setProfiles (d : Dev) (c : Nat) (w : List Nat) : Dev :=
  if profileOk w then
    d.modSw fun s => { s with profiles := ((d.ctx c).ports.filter fun p => !d.segHolds p).foldl (fun m p => mput m p w) s.profiles }
  else d

/-- Remove a context's sets and profiles (R404). -/
def Dev.dropCtxSets (d : Dev) (c : Nat) : Dev :=
  let d := (d.dropSets (.ctx c)).dropSets (.coming c)
  (d.modSw fun s => { s with mstore := dropEntries (dropEntries s.mstore (.ctx c)) (.coming c),
                             profiles := s.profiles.filter fun e => !(d.ctx c).ports.contains e.1 || d.segHolds e.1 }).entriesUsed

/-- The coming entries of a context become valid and its old ones go (R339). -/
def Dev.adoptEntries (d : Dev) (c : Nat) : Dev :=
  let own := fun (e : Nat × MatchEnt) =>
    if e.2.owner = .coming c then (e.1, { owner := .ctx c, bytes := setByte e.2.bytes 0 (byteAt e.2.bytes 0 ||| 128) }) else e
  (d.modSw fun s => { s with mstore := (dropEntries s.mstore (.ctx c)).map own }).entriesUsed

end Sys2Proof.Machine
end

