-- ==== Sys2Proof/Machine/Bundles.lean ====
section
/-! DEFINITION. Bundles: layout, CRC and signature checks, the catalogue, and the personality store in flash
(spec 12 R336 to R338, R341; 19 R521 to R525). -/
namespace Sys2Proof.Machine

/-! ### Words of a bundle -/

/-- Section i of a bundle's directory: type, index, first word, words. -/
def sectionAt (w : List Nat) (i : Nat) : Nat × Nat × Nat × Nat :=
  (bits (w.getD (8 + 3 * i) 0) 23 16, bits (w.getD (8 + 3 * i) 0) 15 8, w.getD (9 + 3 * i) 0, w.getD (10 + 3 * i) 0)

/-- The sections of a bundle. -/
def sectionsOf (w : List Nat) : List (Nat × Nat × Nat × Nat) := (List.range (bits (w.getD 1 0) 15 8)).map (sectionAt w)

/-- The words of the section of a type in a bundle, empty when it has none. -/
def sectionIn (w : List Nat) (ty : Nat) : List Nat :=
  match (sectionsOf w).find? fun s => s.1 == ty with
  | some s => (w.drop s.2.2.1).take s.2.2.2
  | none => []

/-- Words before the trailer. -/
def totalOf (w : List Nat) : Nat := w.getD 5 0

/-- Header and directory within R336, and the trailer after TOTAL words. -/
def layoutOk (magic : Nat) (tyOk : Nat → Bool) (once : List Nat) (w : List Nat) : Bool :=
  let n := bits (w.getD 1 0) 15 8
  let ss := sectionsOf w
  w.getD 0 0 == magic && bits (w.getD 1 0) 23 16 == 1 && decide (1 ≤ n) && decide (n ≤ 32) &&
    decide (w.length = totalOf w + 46) && decide (8 + 3 * n ≤ totalOf w) &&
    ss.all (fun s => tyOk s.1 && decide (s.2.2.1 + s.2.2.2 ≤ totalOf w)) &&
    once.all fun t => (ss.countP fun s => s.1 == t) == 1

/-- A personality bundle's layout (R337, R338): the types, and the lengths and indices that R337 gives them (log entry 11). -/
def persLayout (w : List Nat) : Bool :=
  layoutOk 0x505253 (fun t => decide (1 ≤ t) && decide (t ≤ 8)) [1, 7] w && (sectionsOf w).all fun s =>
    let n := s.2.2.2
    match s.1 with
    | 1 => decide (1 ≤ n) && decide (n ≤ 32768)
    | 2 => decide (1 ≤ n) && decide (n ≤ 256) && decide (s.2.1 ≤ 15)
    | 7 => n == 8
    | _ => true

/-- A firmware bundle's layout (R523). -/
def fwLayout (w : List Nat) : Bool :=
  layoutOk 0x465742 (fun t => t == 0x10 || t == 0x11 || t == 0x12) [0x10, 0x11, 0x12] w && decide (totalOf w ≤ 65536) &&
    (sectionsOf w).all fun s =>
      let n := s.2.2.2
      match s.1 with
      | 0x10 => decide (1 ≤ n) && decide (n ≤ 32768)
      | 0x11 => decide (1 ≤ n) && decide (n ≤ 256)
      | _ => true

/-- The CRC of the words before the trailer, words 6 and 7 taken as 0. -/
def bundleCrcOk (w : List Nat) : Bool :=
  crc32C (bytesOf (((w.take (totalOf w)).set 6 0).set 7 0)) == bits (w.getD 6 0) 7 0 * 2 ^ 24 + w.getD 7 0

/-- KEY_SLOT of the trailer. -/
def keySlotOf (w : List Nat) : Nat := bits ((w.drop (totalOf w)).getD 1 0) 23 22

/-- The signature check (R524). -/
def Dev.sigOk (d : Dev) (w : List Nat) : Bool :=
  let t := w.drop (totalOf w)
  let slot := keySlotOf w
  let pub := (bytesOf ((t.drop 2).take 22)).take 64
  let sg := (bytesOf ((t.drop 24).take 22)).take 64
  t.getD 0 0 == 0x534947 && d.store.keyState.testBit slot && !d.store.keyState.testBit (4 + slot) &&
    beNat (sha256 pub) == d.store.keyHash.getD slot 0 &&
    P256.verify pub (sha256 (bytesOf (w.take (totalOf w + 2)))) (beNat (sg.take 32)) (beNat ((sg.drop 32).take 32))

/-! ### The catalogue (R338, R341) -/

/-- Install a bundle in catalogue entry j: the status of R338. -/
def Dev.installBundle (d : Dev) (j : Nat) (img : List Byte) : Dev × Nat :=
  let w := wordsOf img
  if d.hasBundle j then (d, Stat.busy)
  else if img.length % 3 ≠ 0 || !persLayout w then (d, Stat.range)
  else if !bundleCrcOk w then (d, Stat.range)
  else if !d.sigOk w then (d, Stat.auth)
  else if d.obn K.DICT_VERSION < w.getD 4 0 then (d, Stat.range)
  else match firstFit (d.bundles.map fun e => (e.2.base, e.2.words)) 0x160000 0x1C0000 w.length with
    | none => (d, Stat.busy)
    | some b =>
      let d := (d.event.stAll b w)
      let d := { d with bundles := mput d.bundles j ⟨b, w.length, false⟩ }
      let d := ((d.setOb (K.PERS_STATE j) 1).setOb (K.PERS_ID j) (w.getD 2 0 : Nat)).setOb (K.PERS_VERSION j) (w.getD 3 0 : Nat)
      ((d.setOb (K.PERS_SIGNER j) (keySlotOf w : Nat)).logE 0x6030 j, Stat.done)

/-- Contexts bound to a catalogue entry (R319, R341). -/
def Dev.persUsers (d : Dev) (j : Nat) : List Nat :=
  (List.range 128).filter fun c => d.obn (K.CTX_STATE c) != 0 && d.obn (K.CTX_PERS c) == j

/-- PERS_DELETE. -/
def Dev.deleteBundle (d : Dev) (j v : Nat) : Dev × Nat :=
  if v ≠ 1 then (d, Stat.range)
  else if !(d.persUsers j).isEmpty then (d, Stat.busy)
  else (({ d with bundles := mdel d.bundles j }).event.zero [K.PERS_STATE j, K.PERS_ID j, K.PERS_VERSION j] |>.setOb (K.PERS_SIGNER j) 0xFF, Stat.done)

/-! ### Flash (R521, R522) -/

/-- The byte of flash at an address; an unlisted one is erased. -/
def Store.byte (s : Store) (a : Nat) : Nat := (mget s.flash a 0xFF).toNat

/-- n bytes of flash. -/
def Store.bytes (s : Store) (a n : Nat) : List Byte := (List.range n).map fun i => mget s.flash (a + i) 0xFF

/-- Write bytes into flash. -/
def Store.program (s : Store) (a : Nat) (l : List Byte) : Store :=
  { s with flash := (l.zip (List.range l.length)).foldl (fun m e => if e.1 = 0xFF then mdel m (a + e.2) else mput m (a + e.2) e.1) s.flash }

/-- Erase a run of flash. -/
def Store.erase (s : Store) (lo hi : Nat) : Store := { s with flash := s.flash.filter fun e => decide (e.1 < lo) || decide (hi ≤ e.1) }

/-- Is a run of flash erased? -/
def Store.erased (s : Store) (lo hi : Nat) : Bool := s.flash.all fun e => decide (e.1 < lo) || decide (hi ≤ e.1)

/-- The words of a bundle that starts at a flash address, as far as its TOTAL says; none when that is too long for its place. -/
def Store.bundle (s : Store) (a limit : Nat) : List Nat :=
  let total := beNat (s.bytes (a + 15) 3)
  if limit < total + 46 then [] else wordsOf (s.bytes a (3 * (total + 46)))

/-- Slot j of the personality store. -/
def slotAddr (j : Nat) : Nat := 0x300000 + 0x70000 * j

/-- Store slots in use. -/
def Store.slotUsed (s : Store) (j : Nat) : Bool := s.byte (slotAddr j) != 0xFF || s.byte (slotAddr j + 1) != 0xFF

/-- Write the installed bundles that are not in flash into the lowest free slots (R338, R522). -/
def Dev.saveBundles (d : Dev) : Dev :=
  d.each ((d.bundles.filter fun e => !e.2.inFlash).map (·.1)) fun d j =>
    match mget? d.bundles j, (List.range 16).find? fun k => !d.store.slotUsed k with
    | some b, some k =>
      let img := BitVec.ofNat 8 j :: bytesOf (d.ldAll b.base b.words)
      let d := { d with store := d.store.program (slotAddr k) img, bundles := mput d.bundles j { b with inFlash := true } }
      d.setOb (K.PERS_STATE j) 2
    | _, _ => d.logE 0x0022 0

/-- Reinstall the bundles of the personality store at boot; a flash treated as absent holds none (R521). -/
def Dev.reinstall (d : Dev) : Dev :=
  d.each (List.range 16) fun d k =>
    if !d.sump.flashOk || !d.store.slotUsed k then d else
    let j := d.store.byte (slotAddr k)
    let w := d.store.bundle (slotAddr k + 1) 131118
    match d.installBundle j (bytesOf w) with
    | (d', 0) =>
      { d' with bundles := mmod d'.bundles j ⟨0, 0, true⟩ fun b => { b with inFlash := true } }.setOb (K.PERS_STATE j) 2
    | _ => d.logE 0x6031 k

end Sys2Proof.Machine
end

