-- ==== Sys2Proof/Machine/Paths.lean ====
section
/-! DEFINITION. How completions and notifications reach the paths of the object dictionary (spec 03, R74, R80 to R95). -/
namespace Sys2Proof.Machine

def Dev.modDict (d : Dev) (f : Dict → Dict) : Dev := { d with dict := f d.dict }

/-! ### The Hatch rings (R84 to R87) -/

/-- The address of a Hatch word. -/
def hatch (ofs : Nat) : Nat := 0x040000 + ofs

/-- Entries in a ring, from its tail and head offsets. -/
def Dev.ringFill (d : Dev) (tail head : Nat) : Nat := (d.ld (hatch tail) + 2 ^ 24 - d.ld (hatch head)) % 2 ^ 24

/-- The words of a completion (R74). -/
def Compl.words (c : Compl) : List Nat :=
  [(c.op ||| 0x80) * 65536 + c.src.tid.toNat * 256 + c.data.length, c.status * 65536 + c.index * 256, c.seq] ++ c.data

/-- Post the oldest finished transaction at CQ_TAIL, when a slot is free (R86, R87). -/
def Dev.postCompl (d : Dev) : Dev :=
  match d.dict.finished with
  | [] => d
  | c :: rest =>
    if 256 ≤ d.ringFill 3 4 then d else
    let t := d.ld (hatch 3)
    let d := (d.stAll (hatch (0x4100 + 64 * (t % 256))) c.words).st (hatch 3) ((t + 1) % 2 ^ 24)
    (d.modDict fun x => { x with finished := rest }).raise 0x540

/-! ### AAP datagrams (R91, R92) -/

/-- A datagram: header, body and tag; the tag is zero before WELCOME and without a session. -/
def aapDgram (kind sess seq : Nat) (body : List Byte) (key : Option (List Byte)) : List Byte :=
  let h := beBytes 2 0x4141 ++ beBytes 1 1 ++ beBytes 1 kind ++ beBytes 2 sess ++ beBytes 4 seq ++ beBytes 2 body.length ++ beBytes 4 0
  h ++ body ++ match key with
    | some k => (hmac256 k (h ++ body)).take 16
    | none => List.replicate 16 0

/-- Send a datagram of a session: kind and body, with the next number of the device's own. -/
def Dev.aapSend (d : Dev) (sess kind : Nat) (body : List Byte) : Dev × List Byte :=
  match d.dict.sess.find? fun s => s.sess == sess && s.opened with
  | none => (d, [])
  | some s =>
    let g := aapDgram kind sess (s.tx + 1) body (some s.key)
    ((d.modDict fun x => { x with sess := x.sess.map fun y => if y.sess = sess && y.opened then { y with tx := y.tx + 1 } else y }).emit (.aap s.up s.addr g), g)

/-! ### Delivering (R74, R87, R90) -/

/-- Deliver a completion on its path. Those of AAP paths are gathered into one datagram at the end of the command. -/
def Dev.deliverCompl (d : Dev) (c : Compl) : Dev :=
  match c.src.via with
  | .hatch => (d.modDict fun x => { x with finished := x.finished ++ [c] }).postCompl
  | .quick => d.modDict fun x => { x with quick := { x.quick with busy := false, status := c.status, seq := c.seq,
                                                                  data0 := c.data.getD 0 x.quick.data0, data1 := c.data.getD 1 x.quick.data1 } }
  | .aap _ => d.modDict fun x => { x with replies := x.replies ++ [c] }
  | .aapOpen _ _ => d.modDict fun x => { x with replies := x.replies ++ [c] }
  | .smbus => { d with sump := { d.sump with smb := { d.sump.smb with pending := false, response := beBytes 1 0 ++ bytesOf c.words } } }
  | .mgmt k => d.emit (.notify k.val c.words)

/-- A transaction in flight ends (R80). -/
def Dev.endTx (d : Dev) (r : Src) : Dev :=
  let d := d.modDict fun x => { x with inflight := x.inflight.filter fun t => t.src != r }
  d.setOb K.IN_FLIGHT (d.dict.inflight.length : Nat)


/-- The path as the node of a signal write (R78). A path without a session has no code of its own and no level to write with. -/
def viaNode : Via → Nat
  | .hatch => 0
  | .quick => 1
  | .aap s => 2 + s.val
  | .aapOpen _ _ => 0
  | .smbus => 10
  | .mgmt c => 16 + c.val

/-- The DICT role's journal holds the transaction that has taken effect (R83, R104): four words in the next of its 1,024 places, its OP, TID and path,
its key, its status with VALID, and its number. The manual gives no layout (DESIGN CHOICE, log entry 59). -/
def Dev.journal (d : Dev) (t : Tx) (status seq : Nat) : Dev :=
  if !d.domOn 2 then d else
  (d.stAll (0x1E0000 + 4 * (d.dict.journal % 1024)) [t.op * 65536 + t.src.tid.toNat * 256 + viaNode t.src.via, t.key, 2 ^ 23 + status, seq]).modDict
    fun x => { x with journal := (x.journal + 1) % 2 ^ 24 }

/-- The last number issued is the one at which the operation in hand takes effect. -/
def Dev.tookEffect (d : Dev) : Dev := d.modDict fun x => { x with took := some d.seq }

/-- Complete a waiting transaction, if it still waits: SEQ is 0 when it is refused. -/
def Dev.complete (d : Dev) (r : Option Src) (status : Nat) : Dev :=
  match r with
  | none => d
  | some r =>
    match d.dict.inflight.find? fun t => t.src == r with
    | none => d
    | some t =>
      let seq := if status = 0 then t.took.getD (d.dict.took.getD d.seq) else 0
      ((d.iff (status == 0 && t.took.isNone) fun d => d.journal t status seq).endTx r).deliverCompl ⟨r, t.op, status, 0, seq, []⟩

/-- The status that the DICT role's journal records for a transaction that took effect at n, when its entry still stands there (R83, R104). -/
def Dev.journalled (d : Dev) (t : Tx) (n : Nat) : Option Nat :=
  ((List.range 1024).map fun i => d.ldAll (0x1E0000 + 4 * i) 4).findSome? fun w =>
    if w.getD 0 0 == t.op * 65536 + t.src.tid.toNat * 256 + viaNode t.src.via && w.getD 1 0 == t.key && (w.getD 2 0).testBit 23 && w.getD 3 0 == n
    then some (w.getD 2 0 % 256) else none

/-- A keeper takes the dictionary role over (R83): transactions that have taken effect complete with the status that the journal records, and one whose
entry is not there any more is carried out like the others. -/
def Dev.dictTaken (d : Dev) : Dev :=
  d.dict.inflight.foldl (fun d t =>
    match t.took with
    | none => d
    | some n => match d.journalled t n with
      | some st => d.complete (some t.src) st
      | none => d.modDict fun x => { x with inflight := x.inflight.map fun u => if u.src = t.src then { u with took := none, wait := .behind } else u }) d

/-- A waiting transaction has taken effect at the last number issued: it is journalled then (R83), and goes on. -/
def Dev.txTook (d : Dev) (r : Option Src) : Dev :=
  match r with
  | none => d
  | some r =>
    let d := match d.dict.inflight.find? fun t => t.src == r with
      | some t => d.journal t Stat.done d.seq
      | none => d
    d.modDict fun x => { x with inflight := x.inflight.map fun t => if t.src = r then { t with took := some d.seq } else t }

/-- Keep a transaction in flight. -/
def Dev.keepTx (d : Dev) (t : Tx) : Dev :=
  let d := d.modDict fun x => { x with inflight := x.inflight ++ [t] }
  d.setOb K.IN_FLIGHT (d.dict.inflight.length : Nat)

/-- The rest of a transaction's 100 ms in ms, as a Tap wait (R82). -/
def Dev.waitLeft (d : Dev) (r : Option Src) : Nat :=
  match r.bind fun r => d.dict.inflight.find? fun t => t.src == r with
  | some t => (t.started + 100000000 - d.now) / 1000000
  | none => 100

end Sys2Proof.Machine
end

