-- ==== Sys2Proof/Machine/Values.lean ====
section
/-! DEFINITION. Values of objects as words, and lists of key and value items (spec 03, R70, R74). -/
namespace Sys2Proof.Machine

/-- Words of a type. -/
def Ty.words : Ty → Nat
  | .bool | .u8 | .u16 | .u24 | .s24 => 1
  | .u48 | .s48 => 2
  | .t80 => 4
  | .dom _ => 0
  | .str n => (n + 2) / 3

/-- The words of a value. -/
def Ty.encode (t : Ty) (v : Int) : List Nat :=
  match t with
  | .u48 | .s48 => [wrapN 48 v / 2 ^ 24, wrapN 48 v % 2 ^ 24]
  | .t80 => t80Words v.toNat
  | .dom _ => []
  | .str n => List.replicate ((n + 2) / 3) 0
  | _ => [wrapN 24 v]

/-- The value that words spell, if the type allows it; reserved bits of a T80 are ignored (R3). -/
def Ty.decode (t : Ty) (w : List Nat) : Option Int :=
  let a := w.getD 0 0
  match t with
  | .bool => if a ≤ 1 then some a else none
  | .u8 => if a < 256 then some a else none
  | .u16 => if a < 65536 then some a else none
  | .u24 => some a
  | .s24 => some (sext 24 a)
  | .u48 => some (a * 2 ^ 24 + w.getD 1 0 : Nat)
  | .s48 => some (sext 48 (a * 2 ^ 24 + w.getD 1 0))
  | .t80 =>
    let ns := bits (w.getD 2 0) 7 0 * 2 ^ 24 + w.getD 3 0
    if ns < 1000000000 then some ((a * 2 ^ 24 + w.getD 1 0) * 1000000000 + ns : Nat) else none
  | .dom _ | .str _ => none

/-- Is a value among those that an object may hold? -/
def Desc.allows (r : Desc) (v : Int) : Bool := (decide (r.lo ≤ v) && decide (v ≤ r.hi)) || r.alt == some v

/-- Items of key and value words: those of known keys that carry a whole, allowed value; the first unreadable item ends the list. -/
def itemsOf (desc : Nat → Option Desc) : Nat → List Nat → List (Nat × Int)
  | 0, _ => []
  | _, [] => []
  | n + 1, k :: rest =>
    match desc k with
    | none => []
    | some r =>
      if rest.length < r.ty.words || r.ty.words = 0 then [] else
      match r.ty.decode (rest.take r.ty.words) with
      | some v => (if r.allows v then [(k, v)] else []) ++ itemsOf desc n (rest.drop r.ty.words)
      | none => itemsOf desc n (rest.drop r.ty.words)

end Sys2Proof.Machine
end

