-- ==== Sys2Proof/Machine/Attic.lean ====
section
/-! DEFINITION. The Attic: saved objects, SAVE, and loading at boot (spec 03, R97 to R100; 19, R527). -/
namespace Sys2Proof.Machine

/-- Is an object saved (R97)? The objects of area E are RW objects that read back as written (log entry 28). -/
def isSaved (key : Nat) : Bool :=
  match descOf key with
  | some r => r.saved
  | none => bits key 23 20 == 14

/-- The CRC-32C of an image (R98), over its content in an order of the model's own, since the layout of a copy is not given
(DESIGN CHOICE, log entry 8). -/
def AtticImage.sum (i : AtticImage) : Nat :=
  crc32C (beBytes 3 i.gen ++ beBytes 3 i.version ++ (i.objs.flatMap fun e => beBytes 3 e.1 ++ beBytes 10 (wrapN 80 e.2)) ++
    i.blobs.flatMap fun e => beBytes 3 e.1 ++ beBytes 3 e.2.length ++ e.2)

/-- The dictionary version of the firmware (DICT_VERSION, R101): the only one that it reads. -/
def dictVersion : Nat := 0x010000

/-- A copy is valid whose CRC holds and whose dictionary version the firmware reads (R99). -/
def AtticImage.valid (i : AtticImage) : Bool := i.version == dictVersion && i.crc == i.sum

/-- The image of the saved objects as they stand: every saved object is in it, an unlisted one with its default. -/
def Dev.atticNow (d : Dev) (gen : Nat) : AtticImage :=
  let i : AtticImage := ⟨gen, d.od.filter fun e => isSaved e.1, d.blob.filter fun e => isSaved e.1, dictVersion, 0⟩
  { i with crc := i.sum }

/-- The newest valid copy; true is copy B (R98, R99). -/
def Store.newest (s : Store) : Option (Bool × AtticImage) :=
  match s.atticA.filter (·.valid), s.atticB.filter (·.valid) with
  | none, none => none
  | some a, none => some (false, a)
  | none, some b => some (true, b)
  | some a, some b => if a.gen < b.gen then some (true, b) else some (false, a)

/-- One Attic copy replaced. -/
def Store.setCopy (s : Store) (b : Bool) (v : Option AtticImage) : Store :=
  if b then { s with atticB := v } else { s with atticA := v }

/-- A word of the Attic's memory. -/
def isAtticWord (a : Nat) : Bool := decide (0x2C0000 ≤ a) && decide (a < 0x2E0000)

/-- Is the Attic word of a saved object poisoned (R119)? -/
def Dev.atticPoisoned (d : Dev) (key : Nat) : Bool :=
  d.poison.any isAtticWord && isSaved key && d.poisoned (0x2C0000 + (Config.atticWord key).toNat)

/-- A write of a saved object covers its word. -/
def Dev.atticWritten (d : Dev) (key : Nat) : Dev :=
  if d.atticPoisoned key then { d with poison := d.poison.filter fun a => a != 0x2C0000 + (Config.atticWord key).toNat } else d

/-- SAVE has its permit: the snapshot, at its own number (R98); a poisoned Attic ends it (R119). -/
def Dev.saveGo (d : Dev) (num : Nat) (r : Option Src) : Dev :=
  if d.poison.any isAtticWord then (d.release num).complete r Stat.poison else
  let d := d.event
  let (b, g) := match d.store.newest with
    | some (b, i) => (!b, (i.gen + 1) % 2 ^ 24)
    | none => (false, 1)
  let s := d.store.setCopy b none
  ({ d with store := { s with saving := some (r, b, d.atticNow g, num, d.seq) } }).txTook r

/-- Does a SAVE run or wait for its permit? -/
def Dev.saveBusy (d : Dev) : Bool :=
  d.store.saving.isSome || d.tap.queue.any fun q => q.holder == .save

/-- SAVE (R98): none while it runs. -/
def Dev.saveReq (d : Dev) (r : Src) : Dev × Option Nat :=
  if d.saveBusy then (d, some Stat.busy) else
  match d.ask .save 400 2000000 3 (d.waitLeft (some r)) 0 with
  | (d, .granted n) => (d.saveGo n (some r), none)
  | (d, .queued) => (d, none)
  | (d, .busy) => (d, some Stat.busy)
  | (d, .refused) => (d, some Stat.permit)

/-- The flash write of a SAVE ends (R98). -/
def Dev.saveEnd (d : Dev) (ok : Bool) : Dev :=
  match d.store.saving with
  | none => d
  | some (r, b, img, num, _) =>
    let ok := ok && d.sump.flashOk
    let d := { d with store := { d.store with saving := none } }
    let d := if ok then
        (({ d with store := d.store.setCopy b (some img) }).setOb K.ATTIC_GEN (img.gen : Nat)).saveBundles
      else d.logE 0x0020 0
    (d.release num).complete r (if ok then Stat.done else Stat.internal)

/-- The working image is loaded from flash, or takes its defaults (R99). -/
def Dev.loadAttic (d : Dev) (defaults : List (Nat × Int)) : Dev :=
  let od := d.od.filter fun e => !isSaved e.1
  let blob := d.blob.filter fun e => !isSaved e.1
  match (if d.sump.flashOk then d.store.newest else none) with
  | some (b, img) =>
    { d with od := mput (mput (img.objs.foldl (fun m e => mput m e.1 e.2) od) K.ATTIC_SOURCE (if b then 2 else 1)) K.ATTIC_GEN (img.gen : Nat),
             blob := img.blobs.foldl (fun m e => mput m e.1 e.2) blob }
  | none =>
    let d := { d with od := mdel (mdel od K.ATTIC_SOURCE) K.ATTIC_GEN, blob := blob }
    ((defaults.filter fun e => isSaved e.1).foldl (fun d e => d.setOb e.1 e.2) d).logE 0x0021 0


/-- The Attic at boot: loaded at the first boot after power-on of VAON and when it holds poison, else kept (R527). -/
def Dev.prepareAttic (d : Dev) (defaults : List (Nat × Int)) : Dev :=
  let bad := d.poison.any isAtticWord
  let d := if bad then d.clearMem 0x2C0000 0x2E0000 else d
  let d := if d.sump.coldSinceVaon || bad then d.loadAttic defaults else d
  { d with sump := { d.sump with coldSinceVaon := false } }

end Sys2Proof.Machine
end

