-- ==== Sys2Proof/Machine/Switch.lean ====
section
/-! DEFINITION. The Sluice and the Cistern: parsers, cells, queues, meters, and the rings of cores and the host (spec 13). -/
namespace Sys2Proof.Machine

/-! ### Rates (R345, R368) -/

/-- Does a TDR acquisition run on a port (R161)? -/
def Dev.acquiring (d : Dev) (p : Nat) : Bool :=
  decide (p < 96) && match (d.tile (p / 24)).sweep with
    | some s => s.port == p && s.acquiring
    | none => false

/-- Is a line out of use: recalibrating, or under a TDR acquisition (R142, R161)? -/
def Dev.lineBusy (d : Dev) (p : Nat) : Bool := (decide (p < 96) && (d.obn (K.PORT_FLAGS p)).testBit 6) || d.acquiring p

/-- What a line's driver puts on the line: in a hard hold the drivers of the field ports are off (R35, R130),
and in a TDR acquisition those of its port (R161). -/
def Dev.onWire (d : Dev) (o : Nat) (x : Out) : Dev :=
  if o < 96 && (d.sump.hardHold || (d.mac o).cut || d.acquiring o) then d.modMac o fun m => { m with cut := false } else d.emit x

/-- The mode a port is in (R122). -/
def Dev.portMode (d : Dev) (p : Nat) : Nat := d.obn (K.PORT_MODE p)

/-- PORT_STATE (R126). -/
def Dev.portState (d : Dev) (p : Nat) : Nat := d.obn (K.PORT_STATE p)

/-- Add to a port's ERR_COUNT, which wraps, and to what its last second holds (R127, R134). -/
def Dev.errCount (d : Dev) (p n : Nat) : Dev :=
  (d.setOb (K.P_ERR_COUNT p) ((d.obn (K.P_ERR_COUNT p) + n) % 2 ^ 24 : Nat)).modPort p fun x =>
    { x with winErr := x.winErr + n, errs := (d.now, n) :: x.errs.filter fun e => decide (d.now < e.1 + 1000000000) }

/-- Does a port pass traffic: Up or Degraded (R126)? -/
def Dev.portUp (d : Dev) (p : Nat) : Bool := d.portState p == 2 || d.portState p == 3

/-- The nominal product of R205. -/
def Dev.nomProduct (d : Dev) (p : Nat) : Nat := d.obn (K.BUS_N_BRP p) * (1 + d.obn (K.BUS_N_TSEG1 p) + d.obn (K.BUS_N_TSEG2 p))

/-- The line rate of output o in bit/s, 0 for a line that is off (R123, R196, R205, R244, R368). -/
def Dev.lineRate (d : Dev) (o : Nat) : Nat :=
  if o < 96 then
    match d.portMode o with
    | 1 => 100000000
    | 2 => 10000000
    | 3 => 60000000 / max (d.nomProduct o) 1
    | 4 => 96000000000 / max (d.obn (K.CH_BIT_DIV o)) 1
    | 5 => 96000000000 / max (d.obn (K.CH_BIT_DIV o)) 1
    | _ => 0
  else
    match d.obn (K.UPLINK_MODE (o - 96)) with
    | 1 => 10000000000
    | 2 => 10000000000
    | 3 => 2500000000
    | 4 => 1000000000
    | _ => 0

/-- Is line o driven by a frame MAC (R9)? -/
def Dev.isMac (d : Dev) (o : Nat) : Bool := decide (96 ≤ o) || d.portMode o == 1 || d.portMode o == 2

/-- The RATE code of a line (R345). -/
def rateCode (bps : Nat) : Nat :=
  if bps = 10000000 then 1 else if bps = 100000000 then 2 else if bps = 1000000000 then 3 else if bps = 2500000000 then 4
  else if bps = 10000000000 then 5 else 6

/-- The rate of a RATE code in bit/s; WHOLE counts as above every rate (R354). -/
def rateBps : Nat → Nat
  | 0 => 100000000000
  | 1 => 10000000
  | 2 => 100000000
  | 3 => 1000000000
  | 4 => 2500000000
  | 5 => 10000000000
  | _ => 1

/-- Time of n bytes at a rate, in ns, rounded up. -/
def bytesNs (n bps : Nat) : Nat := if bps = 0 then 0 else (n * 8 * 1000000000 + bps - 1) / bps

/-! ### Egress timestamp records (R193 to R195) -/

/-- A key of MAC m: field port 0 to 95 or uplink 96 + u. -/
def macKey (m : Nat) (port up : Nat → Nat) : Nat := if m < 96 then port m else up (m - 96)

/-- The FIFO not empty raises TS_READY (R194). -/
def Dev.postTs (d : Dev) (m : Nat) (r : TsRec) : Dev :=
  let f := (d.mac m).fifo
  if 16 ≤ f.length then d.bump (macKey m K.MAC_TS_LOST K.UP_TS_LOST)
  else (d.modMac m fun x => { x with fifo := x.fifo ++ [r] }).iff f.isEmpty fun d => d.raise (0x60 + m)

/-- A record for an instant of a base in ns. -/
def tsRec (tag ns : Nat) : TsRec := ⟨false, tag, ns / 1000000000 % 2 ^ 48, ns % 1000000000⟩

/-- A frame with a timestamp request that is discarded unsent (R195). -/
def Dev.dropTs (d : Dev) (m : Nat) (e : Env) : Dev := if e.tsReq || e.oneStep then d.postTs m ⟨true, e.tsTag, 0, 0⟩ else d

/-! ### Queues (R343, R362) -/

/-- The queue of a fabric port, and for a group of a field port (R362). -/
def queueOf (f fieldPort cls : Nat) : Nat := if f < 12 then 8 * (8 * f + fieldPort) + cls else 768 + 8 * (f - 12) + cls

/-- The first queue of line o. -/
def lineQueue (o : Nat) : Nat := if o < 96 then 8 * o else 768 + 8 * (o - 96)

/-- The line whose queue this is, if it is a line's. -/
def lineOfQueue (q : Nat) : Option Nat := if q < 768 then some (q / 8) else if q < 800 then some (96 + (q - 768) / 8) else none

def Dev.queue (d : Dev) (q : Nat) : List QFrame := mget d.sw.queues q []
def Dev.modQueue (d : Dev) (q : Nat) (f : List QFrame → List QFrame) : Dev :=
  d.modSw fun s => { s with queues := let l := f (mget s.queues q []); if l.isEmpty then mdel s.queues q else mput s.queues q l }

/-- Cistern cells of L frame bytes (R343). -/
def cellsOf (len : Nat) : Nat := (len + 24 + 63) / 64

/-- Cells that a frame on a line has freed: a cell is freed when its last byte has been handed over (R343).
A frame on a line stays in its queue until it ends. -/
def Dev.freedCells (d : Dev) (o : Nat) (x : OnLine) : Nat :=
  let sent := if d.isMac o then (d.now - x.started - bytesNs 8 (d.lineRate o)) * d.lineRate o / 8000000000 else mget d.sw.txOpen o 0
  match (d.queue x.queue).find? (fun f => f.id == x.frame.id) with
  | some f =>
    if f.tail.isSome && decide (f.data.length ≤ sent) then cellsOf f.data.length
    else min (cellsOf f.data.length) ((24 + min sent f.data.length) / 64)
  | none => 0

/-- The cells of a queue, partial frames included (R364). -/
def Dev.qDepth (d : Dev) (q : Nat) : Nat :=
  (d.queue q).foldl (fun a f => a + cellsOf f.data.length) 0 -
    d.sw.line.foldl (fun a x => if x.2.queue = q then a + d.freedCells x.1 x.2 else a) 0

/-- Free cells of the Cistern (R364). A cell that waits for its turn at an output takes one (R360). -/
def Dev.freeCells (d : Dev) : Nat :=
  131072 + d.sw.line.foldl (fun a x => a + d.freedCells x.1 x.2) 0 - (d.sw.held.filter fun c => !c.data.isEmpty).length -
    d.sw.queues.foldl (fun a q => a + q.2.foldl (fun a f => a + cellsOf f.data.length) 0) 0

/-- Keep FREE_MIN (R371). -/
def Dev.freeMin (d : Dev) : Dev := if d.freeCells < d.obn K.FREE_MIN then d.setOb K.FREE_MIN (d.freeCells : Nat) else d

/-- Keep PEAK and FREE_MIN after a queue has grown (R370, R371). -/
def Dev.watermarks (d : Dev) (q : Nat) : Dev :=
  (if d.obn (K.Q_PEAK q) < d.qDepth q then d.setOb (K.Q_PEAK q) (d.qDepth q : Nat) else d).freeMin

/-- Does line or block of output f accept frames for a field port (R365)? -/
def Dev.accepting (d : Dev) (f fieldPort : Nat) : Bool :=
  if f < 12 then d.portUp (8 * f + fieldPort)
  else if f < 16 then d.obn (K.UPLINK_STATE (f - 12)) == 2
  else if f < 36 then d.epOn (f - 16)
  else if f = 39 then d.domOn 3
  else d.domOn 2

/-- Discard the queued frames of line o, as it leaves service (R129, R195, R365). -/
def Dev.flushLine (d : Dev) (o : Nat) : Dev :=
  let d := d.each (List.range 8) fun d c =>
    let q := lineQueue o + c
    let l := d.queue q
    if l.isEmpty then d else
    let started := ((mget? d.sw.line o).map fun x => x.frame.id).getD d.sw.nextId
    let told := fun (f : QFrame) => f.id == started && mget d.sw.txOpen o 0 != 0
    let d := l.foldl (fun d f => if told f then d else d.dropTs o f.env) d
    (d.modQueue q fun _ => []).bumpBy (K.Q_FLUSHED q) (l.filter fun f => f.id != started).length
  d.modSw fun s => { s with line := mdel s.line o }

/-! ### Envelopes as bytes (R345) -/

/-- The whole seconds of an envelope's 16-bit ingress seconds: the ones nearest to the base's present (R345, R375). -/
def fullSeconds (now s : Nat) : Nat :=
  let ahead := (s + 65536 - now % 65536) % 65536
  if ahead < 32768 then now + ahead else now + ahead - 65536

/-- The 24 bytes of an envelope. -/
def Env.bytes (e : Env) : List Byte :=
  beBytes 2 (b2n e.mc * 32768 + destBits e.mc e.dest) ++
  beBytes 1 (e.cls % 8 * 32 + e.colour % 4 * 8 + b2n e.ct * 4 + b2n e.fcsIn * 2) ++ beBytes 1 (e.src % 128) ++
  beBytes 2 (e.rate % 16 * 4096 + e.vid % 4096) ++
  beBytes 1 (b2n e.tsReq * 128 + b2n e.oneStep * 64 + b2n e.tsEst * 32 + e.tsTb % 8) ++ beBytes 1 e.tsTag ++
  beBytes 1 e.tsOff ++ beBytes 1 e.csumOff ++ beBytes 1 (b2n e.ctxV * 128 + e.ctx % 128) ++ [0] ++
  beBytes 2 e.ingS ++ beBytes 4 e.ingNs ++ beBytes 2 (b2n e.hit * 32768 + e.mat % 8192) ++
  beBytes 2 (b2n e.mv * 32768 + e.meter % 2048) ++ beBytes 2 e.aux

/-- The envelope that 24 bytes spell. -/
def envOf (l : List Byte) : Env :=
  let n := fun i => byteAt l i
  { mc := (n 0).testBit 7, dest := destBits ((n 0).testBit 7) ((n 0 % 4) * 256 + n 1), cls := n 2 / 32, colour := n 2 / 8 % 4, ct := (n 2).testBit 2,
    fcsIn := (n 2).testBit 1, src := n 3 % 128, rate := n 4 / 16, vid := (n 4 % 16) * 256 + n 5, tsReq := (n 6).testBit 7,
    oneStep := (n 6).testBit 6, tsEst := (n 6).testBit 5, tsTb := n 6 % 8, tsTag := n 7, tsOff := n 8, csumOff := n 9,
    ctxV := (n 10).testBit 7, ctx := n 10 % 128, ingS := n 12 * 256 + n 13, ingNs := beNat ((l.drop 14).take 4),
    hit := (n 18).testBit 7, mat := (n 18 % 32) * 256 + n 19, mv := (n 20).testBit 7, meter := (n 20 % 8) * 256 + n 21,
    aux := n 22 * 256 + n 23 }

/-! ### Meters (R363) -/

/-- The buckets of a meter as of now, in bytes with 16 fractional bits. -/
def Dev.buckets (d : Dev) (m : Nat) : Buckets :=
  let cap := fun (k : Nat) => ((d.obn k * 65536 : Nat) : Int)
  match mget? d.sw.buckets m with
  | none => ⟨cap (K.METER_CBS m), cap (K.METER_PBS m), d.now⟩
  | some b =>
    let us := d.now - b.at_
    ⟨min (b.tc + ((d.obn (K.METER_CIR m) * us * 65536 / 8000000 : Nat) : Int)) (cap (K.METER_CBS m)),
     min (b.tp + ((d.obn (K.METER_PIR m) * us * 65536 / 8000000 : Nat) : Int)) (cap (K.METER_PBS m)), d.now⟩

/-- The colour of a frame at lookup: 0 green, 1 yellow, 2 red. -/
def Dev.meterColour (d : Dev) (m incoming : Nat) : Nat :=
  let b := d.buckets m
  let c := if (d.obn (K.METER_MODE m)).testBit 0 then min incoming 2 else 0
  if c = 2 || decide (b.tp ≤ 0) then 2 else if c = 1 || decide (b.tc ≤ 0) then 1 else 0

/-- Charge a frame's length at its tail. -/
def Dev.meterCharge (d : Dev) (m colour len : Nat) : Dev :=
  let b := d.buckets m
  let l : Int := (len * 65536 : Nat)
  let b := if colour = 0 then { b with tc := b.tc - l, tp := b.tp - l } else if colour = 1 then { b with tp := b.tp - l } else b
  d.modSw fun s => { s with buckets := mput s.buckets m b }

/-! ### Cells (R342, R352, R359, R360) -/

/-- The destinations of a multicast group: fabric port and field-port mask (R359, R371). -/
def Dev.groupDests (d : Dev) (g : Nat) : List (Nat × Nat) :=
  let l := ((d.table K.MC_TABLE).drop (16 * g)).take 16
  ((List.range 8).map fun k => (byteAt l (2 * k) % 64, byteAt l (2 * k + 1))).filter fun x =>
    decide (16 * g + 16 ≤ (d.table K.MC_TABLE).length) && decide (x.1 < 48)

/-- Where a frame goes: fabric port and field-port mask, 0 for unicast. -/
def Dev.destsOf (d : Dev) (e : Env) : List (Nat × Nat) :=
  (if e.mc then d.groupDests (e.dest % 1024) else [(e.dest / 16, 0)]).filter fun x => x.1 != 38 && decide (x.1 < 40)

/-- The fabric input and the SUB of a source code (R345). -/
def inputOf (src : Nat) : Nat × Nat :=
  if src < 96 then (src / 8, src % 8) else if src < 100 then (src - 84, 0) else if src < 120 then (src - 84, 0)
  else if src = 120 then (38, 0) else if src = 121 then (39, 0) else (36, 0)

/-- Cut the bytes of a frame into cells: up to 40 in the head cell, a cell for each CHUNK bytes, and the remainder, which can be 0 bytes, in the tail
(R342, R352). -/
def chunksOf (chunk : Nat) (l : List Byte) : List (List Byte) :=
  let rest := l.drop 40
  l.take 40 :: (List.range (rest.length / chunk + 1)).map fun i => (rest.drop (chunk * i)).take chunk

/-- The next count of (input, output) (R360). -/
def Dev.countOf (d : Dev) (i o : Nat) : Nat := mget d.sw.counts (48 * i + o) 0

/-- The stage or middle slot that a cell takes: that of its output, or 48 for a multicast cell (R353, R357, R359).
A cell in the fabric is the list of its copies, one for each destination (R359, R360). -/
def laneOf (cs : List FCell) : Nat :=
  match cs with
  | c :: _ => if c.env.mc then 48 else c.out
  | [] => 48

/-- What input i has staged on a lane (R353). -/
def Dev.staged (d : Dev) (i lane : Nat) : List (List FCell) := mget d.sw.stage (49 * i + lane) []

/-- Keep a list at a key, or nothing for an empty one. -/
def keepList {α : Type} (m : SMap (List α)) (k : Nat) (l : List α) : SMap (List α) := if l.isEmpty then mdel m k else mput m k l

/-- DEP of an instant in ns: the count of FCK cycles of 4 ns, mod 2^16 (R344). -/
def depOf (t : Nat) : BitVec 16 := BitVec.ofNat 16 (t / 4)

/-- The instant that a DEP stands for: the one nearest to now. -/
def Dev.depTime (d : Dev) (dep : BitVec 16) : Nat := ((((d.now / 4 : Nat) : Int) + (dep - depOf d.now).toInt) * 4).toNat

/-- Give each copy the next count of its input and output. -/
def giveCounts (counts : SMap Nat) : List FCell → SMap Nat × List FCell
  | [] => (counts, [])
  | c :: r =>
    let k := 48 * c.inp + c.out
    let n := mget counts k 0
    let (m, l) := giveCounts (mput counts k ((n + 1) % 256)) r
    (m, { c with seq := n } :: l)

/-- Stage a cell at its input (R353, R360). -/
def Dev.stageCell (d : Dev) (i : Nat) (cs : List FCell) : Dev :=
  let (counts, l) := giveCounts d.sw.counts cs
  let k := 49 * i + laneOf cs
  d.modSw fun s => { s with counts := counts, stage := mput s.stage k (mget s.stage k [] ++ [l]) }

/-- Is it a frame's tail cell? -/
def isTail (cs : List FCell) : Bool := cs.any (·.eof)

/-- A source gives the cell that is due to its input, one a slot; its tail charges the frame's meter (R363). A field port that finds the stage full discards the frame's
further bytes and gives a tail of 0 bytes with CAUSE NOBUF when space frees; every other source is held back (R352, R353; log entry 12). -/
def Dev.sourceGives (d : Dev) (k : Nat) : Dev :=
  match mget d.sw.src k [] with
  | [] => d
  | cs :: r =>
    match cs with
    | [] => d
    | c :: _ =>
      if d.sw.slot < c.slot then d
      else if (d.staged (k / 8) (laneOf cs)).length < 32 then
        ((d.iff (c.eof && c.env.mv) fun d => d.meterCharge c.env.meter c.env.colour c.len).modSw fun s => { s with src := keepList s.src k r }).stageCell (k / 8) cs
      else if k / 8 < 12 && c.cause != 7 then
        let rest := r.dropWhile fun x => !isTail x
        let len := if c.eof then c.len else ((rest.head?.bind List.head?).map (·.len)).getD 0
        let tail := cs.map fun c => { c with sof := false, eof := true, bad := true, cause := 7, len := len, data := [] }
        ((d.bump K.STAGE_DROPS).logSec 0x7001 0).modSw fun s => { s with src := mput s.src k (tail :: if c.eof then r else rest.drop 1) }
      else d

/-- In its slot, middle m sends the cell it holds for the output it faces: the multicast cell before the unicast one (R357, R359; log entry 12). -/
def Dev.middleSends (d : Dev) (m : Nat) : Dev :=
  let o := (m + d.sw.slot) % 48
  let mc := mget d.sw.mids (49 * m + 48) []
  match mc.find? (fun c => c.out == o) with
  | some c => d.modSw fun s => { s with mids := keepList s.mids (49 * m + 48) (mc.erase c), transit := s.transit ++ [c] }
  | none => d.modSw fun s => { s with mids := mdel s.mids (49 * m + o), transit := s.transit ++ mget s.mids (49 * m + o) [] }

/-- Input i sends the head of a lane's stage to middle m; the cell leaves its input now (R344, R358). -/
def Dev.inputSends (d : Dev) (i lane m : Nat) : Dev :=
  match d.staged i lane with
  | [] => d
  | cs :: r => d.modSw fun s => { s with
      stage := keepList s.stage (49 * i + lane) r,
      mids := mput s.mids (49 * m + lane) (cs.map fun c => { c with dep := c.dep + BitVec.ofNat 16 (8 * (s.slot - c.slot)) }) }

/-- In its slot, input i sends at most one cell: the multicast stage first, then the stages from its rotating pointer on,
to a middle whose slot is free; each head that found its slot full counts in STAGED (R358). -/
def Dev.inputSlot (d : Dev) (i : Nat) : Dev :=
  let m := (i + d.sw.slot) % 48
  let ready := fun lane => !(d.staged i lane).isEmpty && (mget d.sw.mids (49 * m + lane) []).isEmpty
  if ready 48 then d.inputSends i 48 m
  else match ((List.range 48).map fun k => (mget d.sw.ptr i 0 + k) % 48).find? ready with
    | some o => (d.inputSends i o m).modSw fun s => { s with ptr := mput s.ptr i ((o + 1) % 48) }
    | none => d.bumpBy (K.STAGED i) ((List.range 49).filter fun lane => !(d.staged i lane).isEmpty).length

/-- The inputs or middles that a map of lanes names. -/
def lanesOf {α : Type} (m : SMap α) : List Nat := (m.map fun x => x.1 / 49).eraseDups

/-- One slot of the fabric: the middles send, the sources give what is due, the inputs send (R357, R358). -/
def Dev.fabricSlot (d : Dev) : Dev :=
  let d := d.each (lanesOf d.sw.mids) Dev.middleSends
  let d := d.each (d.sw.src.map (·.1)) Dev.sourceGives
  let d := d.each (lanesOf d.sw.stage) Dev.inputSlot
  d.modSw fun s => { s with slot := s.slot + 1 }

/-- Run slots until the cell is on its way to its output, or nothing is left in the fabric. -/
def Dev.fabricRun (d : Dev) (isIt : FCell → Bool) : Nat → Dev
  | 0 => d
  | n + 1 =>
    if d.sw.transit.any isIt || (d.sw.src.isEmpty && d.sw.stage.isEmpty && d.sw.mids.isEmpty) then d
    else d.fabricSlot.fabricRun isIt n

/-- The slots after which every cell now in the fabric has left its middle: a round serves a cell of each output that has one (R357, R361). -/
def Dev.fabricSlots (d : Dev) : Nat :=
  let count := fun (m : SMap (List (List FCell))) => m.foldl (fun a x => a + x.2.length) 0
  let due := d.sw.src.foldl (fun a x => x.2.foldl (fun a cs => cs.foldl (fun a c => max a c.slot) a) a) 0
  (due - d.sw.slot) + 48 * (count d.sw.src + count d.sw.stage + d.sw.mids.length + 2)

/-- Send a whole frame into the Sluice: its head cell at once, then a cell for each CHUNK bytes at the source's rate, then the tail (R352).
A source gives one frame after another. -/
def Dev.sendFrame (d : Dev) (e : Env) (data : List Byte) (bad : Bool) (cause : Nat) : Dev :=
  let (i, sub) := inputOf e.src
  let slow := e.rate = 1 || e.rate = 2
  let chunk := if slow then 8 else 64
  let dt := if e.rate = 0 then 32 else bytesNs chunk (rateBps e.rate)
  let e := { e with ct := e.ct && decide (3 ≤ d.limits) && decide (d.limits ≤ 5) }  -- in Commission and Limp CT is 0 for every frame (R368)
  let dests := d.destsOf e
  if dests.isEmpty then d else
  let old := mget d.sw.src (8 * i + sub) []
  let t := max d.sw.slot (((old.getLast?.bind List.head?).map (·.slot + 1)).getD 0)
  let l := chunksOf chunk data
  let cells := (l.zip (List.range l.length)).map fun x =>
    let tail := x.2 + 1 == l.length
    let at_ := if tail then dt * (x.2 - 1) + dt * x.1.length / chunk else dt * x.2
    dests.map fun o => (⟨x.2 == 0, tail, tail && bad, if tail then cause else 0, i, sub, depOf (d.now + 32 * (t - d.sw.slot) + at_),
      if tail then data.length else 0, 0, o.1, o.2, e, x.1, t + at_ / 32⟩ : FCell)
  d.modSw fun s => { s with src := mput s.src (8 * i + sub) (old ++ cells) }

/-! ### Admission and linking (R360, R364, R365) -/

/-- RED: the new average and whether to drop; a decision advances the output's LFSR (R364). -/
def Dev.redDrop (d : Dev) (f q col : Nat) : Dev × Bool :=
  let r := d.obn (K.Q_RED_PROFILE q)
  if r = 0 then (d, false) else
  let old : Int := (mget d.sw.avg q 0 : Nat)
  let avg := (old + ((((d.qDepth q * 256 : Nat) : Int) - old) >>> d.obn (K.RED_W (r - 1)))).toNat
  let n := mget d.sw.lfsr f 0 + 1
  let d := d.modSw fun s => { s with avg := mput s.avg q avg, lfsr := mput s.lfsr f n }
  let a := avg / 256
  let lo := d.obn (K.RED_MIN (r - 1) col)
  let hi := d.obn (K.RED_MAX (r - 1) col)
  let p := if a < lo then 0 else if hi ≤ a then 256 else d.obn (K.RED_PMAX (r - 1) col) * (a - lo) / (hi - lo)
  (d, decide ((Config.lfsr16 f n).toNat % 256 < p))

/-- The dynamic threshold (R364). -/
def Dev.dtLimit (d : Dev) (q : Nat) : Nat :=
  let x := d.freeCells - d.obn K.HEADROOM
  let a := d.ob (K.Q_ALPHA_EXP q)
  if a < 0 then x / 2 ^ (-a).toNat else x * 2 ^ a.toNat

/-- The queue a copy joins: in Lockstep class 7 belongs to cores and the composer on field ports (R368). -/
def Dev.copyClass (d : Dev) (f : Nat) (e : Env) : Nat :=
  if e.cls = 7 && f < 12 && d.limits = 4 && !((100 ≤ e.src && e.src < 120) || e.src = 120) then 6 else e.cls

/-- Does a core hold a context (R365)? -/
def Dev.holdsCtx (d : Dev) (core c : Nat) : Bool := d.obn (K.CTX_CORE_NOW c) == core && d.obn (K.CTX_STATE c) != 0

/-- A core goes off: frames in its queues for contexts that it does not hold any more are orphans; the others wait there (R365). -/
def Dev.orphanFab (d : Dev) (c : Nat) : Dev :=
  d.each (List.range 8) fun d k =>
    let q := queueOf (16 + c) 0 k
    let gone := (d.queue q).filter fun f => f.env.ctxV && !d.holdsCtx c f.env.ctx
    if gone.isEmpty then d else
    gone.foldl (fun d f => d.bump (K.CTX_ORPHANS f.env.ctx)) (d.modQueue q fun l => l.filter fun f => !(f.env.ctxV && !d.holdsCtx c f.env.ctx))

/-- Admit the head of one copy, or refuse it: the queue and frame number when admitted (R364, R365). -/
def Dev.admitHead (d : Dev) (c : FCell) (fieldPort : Nat) : Dev × Option (Nat × Nat) :=
  let cls := d.copyClass c.out c.env
  let q := queueOf c.out fieldPort cls
  let d := if cls != c.env.cls then d.bump (K.Q_DEMOTED q) else d
  let drop := fun (d : Dev) => if c.out < 16 then d.dropTs (if c.out < 12 then 8 * c.out + fieldPort else 84 + c.out) c.env else d
  if 16 ≤ c.out && c.out < 36 && c.env.ctxV && !d.holdsCtx (c.out - 16) c.env.ctx && d.epOn (c.out - 16) then
    (d.bump (K.CTX_ORPHANS c.env.ctx), none)
  else if !d.accepting c.out fieldPort then (drop (d.bump (K.Q_FLUSHED q)), none)
  else
    let (d, red) := d.redDrop c.out q (min c.env.colour 2)
    if red then (drop (d.bump (K.Q_RED_DROPS q)), none)
    else if d.dtLimit q ≤ d.qDepth q then (drop (d.bump (K.Q_DT_DROPS q)), none)
    else
      let id := d.sw.nextId
      let fr : QFrame := { id := id, env := { c.env with cls := cls }, data := [], tail := none, dep := d.depTime c.dep, headAt := d.now, len := 0 }
      (((d.modSw fun s => { s with nextId := id + 1 }).modQueue q (· ++ [fr])).bump (K.Q_ENQUEUED q), some (q, id))

/-- n free cells of the Cistern are written anew. Which cells they are, and so which marks of poisoned cells the writes cover, is free
(R119; log entry 31). -/
def Dev.cellsWritten (d : Dev) (n : Nat) : Dev :=
  d.each (List.range n) fun d _ =>
    let marks := d.poison.filter fun a => decide (0x1500000 ≤ a) && decide (a < 0x1600000)
    if marks.isEmpty then d else
    let (v, d) := d.fresh 24
    match marks[v % (marks.length + 1)]? with
    | some a => { d with poison := d.poison.filter fun b => b / 8 != a / 8 }  -- the eight words of the cell
    | none => d

/-- Add a cell's bytes to an admitted copy; with no free cell the frame is cut (R364). -/
def Dev.addBytes (d : Dev) (q id : Nat) (data : List Byte) (tail : Option (Bool × Nat)) (len : Nat) : Dev :=
  match (d.queue q).find? (fun f => f.id == id) with
  | none => d
  | some f =>
    if f.tail.isSome then d else
    let grows := cellsOf (f.data.length + data.length) - cellsOf f.data.length
    let cut := decide (d.freeCells < grows)
    let f' := if cut then { f with tail := some (true, 7), len := f.data.length }
      else { f with data := f.data ++ data, tail := tail, len := len }
    let f' := if f'.tail.isSome && d.sw.spoilt.contains id then { f' with tail := some (true, 6) } else f'
    let d := d.modQueue q fun l => l.map fun x => if x.id = id then f' else x
    let d := if cut then (d.bump K.NOBUF).logSec 0x7000 0 else d.cellsWritten (grows + b2n f.data.isEmpty)
    d.watermarks q

/-- The field ports a cell is copied to at its output; one nameless copy elsewhere (R359, R362). -/
def copiesOf (c : FCell) : List Nat :=
  if c.out < 12 then (if c.env.mc then setBits c.mask 8 else [c.env.dest % 8]) else [0]

/-- Link a cell into its frame (R360). -/
def Dev.linkCell (d : Dev) (c : FCell) : Dev :=
  let mine := fun (s : Stream) => s.out == c.out && s.inp == c.inp && s.sub == c.sub
  let d := if c.sof then
      let (d, qs) := (copiesOf c).foldl (fun (a : Dev × List (Nat × Nat)) p =>
        let (d, r) := a.1.admitHead c p
        (d, match r with
          | some x => a.2 ++ [x]
          | none => a.2)) (d, [])
      d.modSw fun s => { s with streams := ⟨c.out, c.inp, c.sub, qs⟩ :: s.streams.filter fun x => !mine x }
    else d
  match d.sw.streams.find? mine with
  | none => d
  | some st =>
    let tail := if c.eof then some (c.bad, c.cause) else none
    let d := st.queues.foldl (fun d q => d.addBytes q.1 q.2 c.data tail c.len) d
    if c.eof then d.modSw fun s => { s with streams := s.streams.filter fun x => !mine x }
    else d

/-- Link every cell of (input, output) that follows in count order (R360). -/
def Dev.linkAll (d : Dev) (i o : Nat) : Nat → Dev
  | 0 => d
  | fuel + 1 =>
    let n := mget d.sw.expect (48 * o + i) 0
    match d.sw.held.find? (fun c => c.inp == i && c.out == o && c.seq % 128 == n % 128) with
    | none => d
    | some c =>
      let d := d.modSw fun s => { s with held := s.held.erase c, expect := mput s.expect (48 * o + i) ((n + 1) % 256) }
      (d.linkCell c).linkAll i o fuel

/-- A cell arrives at its output: the slots run that bring it there, then it is held and linked (R357 to R360; log entry 12).
A cell that is not in the fabric arrives nowhere. -/
def Dev.cellArrive (d : Dev) (o i n : Nat) : Dev :=
  let isIt := fun (c : FCell) => c.inp == i && c.out == o && c.seq == n
  let e := d.fabricRun isIt d.fabricSlots
  match e.sw.transit.find? isIt with
  | none => d
  | some c =>
    let others := fun (x : FCell) => !(x.inp == i && x.out == o && x.seq % 128 == c.seq % 128)
    (((e.modSw fun s => { s with transit := s.transit.erase c, held := s.held.filter others ++ [c] })).linkAll i o 256).freeMin

/-! ### The ingress parser (R346 to R352) -/

/-- The profile an input runs (R346). -/
def Dev.profileOf (d : Dev) (inp : Nat) : List Nat :=
  if inp < 96 then mget d.sw.profiles inp [] else if inp < 100 then wordsOf (d.table K.UPLINK_PROFILE) else wordsOf (d.table K.HOST_PROFILE)

/-- Does the frame carry a C-tag (R185)? -/
def hasTag (l : List Byte) : Bool := byteAt l 12 == 0x81 && byteAt l 13 == 0

/-- Byte i of a frame from its destination address, a C-tag skipped (R346). -/
def keyByte (l : List Byte) (i : Nat) : Byte := (l[if hasTag l && decide (12 ≤ i) then i + 4 else i]?).getD 0

/-- The lookup key (R347). -/
def lookupKey (prof : List Nat) (src vid : Nat) (l : List Byte) : List Byte :=
  let ext := (List.range 4).flatMap fun n =>
    let w := prof.getD (n + 1) 0
    (List.range (bits w 15 12)).map fun i => keyByte l (bits w 23 16 + i)
  let mask := bytesOf ((List.range 5).map fun i => prof.getD (5 + i) 0)
  let v := if (prof.getD 0 0).testBit 23 then vid else 0
  beBytes 1 (0x80 + src) ++ beBytes 2 v ++ (List.range 13).map fun i => (ext[i]?).getD 0 &&& (mask[i]?).getD 0

/-- The lowest way whose key equals (R347); a poisoned entry is a miss (R119). -/
def Dev.lookup (d : Dev) (key : List Byte) : Option (Nat × List Byte) :=
  let b := 4 * bucketOf key
  (List.range 4).findSome? fun w =>
    match mget? d.sw.mstore (b + w) with
    | some m => if m.bytes.take 16 = key && m.poison.isEmpty then some (b + w, m.bytes) else none
    | none => none

/-- Is a class cut-through in the mode in force (R37)? -/
def cutThrough (mode cls : Nat) : Bool :=
  if mode = 3 then true else if mode = 4 then cls == 7 else if mode = 5 then decide (4 ≤ cls) else false

/-- The source code of a parser's input. -/
def srcOf (inp : Nat) : Nat := if inp < 100 then inp else 127

/-- The context bound to a port, if any. -/
def Dev.boundCtx (d : Dev) (p : Nat) : Option Nat :=
  if p < 96 && d.obn (K.P_ROLE_CONTEXT p) < 128 then some (d.obn (K.P_ROLE_CONTEXT p)) else none

/-- The envelope that a received frame starts with. -/
def envOfRx (inp : Nat) (f : RxFrame) : Env :=
  { src := srcOf inp, fcsIn := f.fcsIn, rate := f.rate, vid := f.vid, cls := f.cls, tsEst := f.est, tsTb := f.ingTb,
    ingS := f.ingTime / 1000000000 % 65536, ingNs := f.ingTime % 1000000000 }

/-- The parser resolves a frame (R349, R351, R352): the frame sent, or discarded. -/
def Dev.parse (d : Dev) (inp : Nat) (f : RxFrame) : Dev :=
  let prof := d.profileOf inp
  let e := envOfRx inp f
  match d.lookup (lookupKey prof (srcOf inp) f.vid f.bytes) with
  | some (ix, b) =>
    let hits := (beNat ((b.drop 24).take 3) + 1) % 2 ^ 24
    let b := splice b 24 (beBytes 3 hits)
    let d := d.modSw fun s => { s with mstore := mmod s.mstore ix { owner := .dev, bytes := b } fun m => { m with bytes := b } }
    let n := fun i => byteAt b i
    if (n 18).testBit 2 then d.bump K.PARSE_DROP else
    let dest := n 16 * 256 + n 17
    let cls := if (n 18).testBit 4 then n 18 / 32 else f.cls
    let mv := (n 20).testBit 7
    let meter := (n 20 % 8) * 256 + n 21
    let colour := if mv then d.meterColour meter (n 18 % 4) else n 18 % 4
    let d := if mv then d.bump ([K.METER_GREEN meter, K.METER_YELLOW meter, K.METER_RED meter].getD colour 0) else d
    if mv && colour = 2 && (d.obn (K.METER_MODE meter)).testBit 1 then d.bump (K.METER_DROPS meter) else
    let e := { e with mc := dest.testBit 15, dest := destBits (dest.testBit 15) dest, cls := cls, colour := colour,
                      ct := (n 18).testBit 3 && cutThrough d.limits cls && decide (e.rate < 6),
                      ctxV := (n 19).testBit 7, ctx := n 19 % 128, hit := true, mat := ix, mv := mv, meter := meter,
                      aux := n 22 * 256 + n 23 }
    d.sendFrame e f.bytes f.bad f.cause
  | none =>
    let cls := bits (prof.getD 0 0) 20 18
    let e := { e with cls := cls }
    match bits (prof.getD 0 0) 22 21, d.boundCtx inp with
    | 1, some c => d.sendFrame { e with dest := coreDest (d.obn (K.CTX_CORE_NOW c)), ctxV := true, ctx := c } f.bytes f.bad f.cause
    | 2, _ => d.sendFrame { e with dest := 36 * 16 } f.bytes f.bad f.cause
    | 3, _ => d.sendFrame { e with dest := coreDest (d.roleOf 0) } f.bytes f.bad f.cause
    | _, _ => d.bump K.PARSE_MISS

/-- Hand a received frame to its parser. -/
def Dev.toParser (d : Dev) (inp : Nat) (f : RxFrame) : Dev :=
  d.modSw fun s => { s with rx := mput s.rx inp (mget s.rx inp [] ++ [f]) }

/-- The parser takes the next frame (R349). -/
def Dev.parserStep (d : Dev) (inp : Nat) : Dev :=
  match mget d.sw.rx inp [] with
  | [] => d
  | f :: r => (d.modSw fun s => { s with rx := if r.isEmpty then mdel s.rx inp else mput s.rx inp r }).parse inp f

/-! ### Serving an output (R354, R356, R367, R368) -/

/-- Discard frames with a bad tail at the heads of line o's queues, before their first byte (R356). -/
def Dev.badHeads (d : Dev) (o : Nat) : Dev :=
  d.each (List.range 8) fun d c =>
    let q := lineQueue o + c
    let bad := (d.queue q).takeWhile fun f => match f.tail with
      | some (b, _) => b
      | none => false
    if bad.isEmpty then d else
    let d := bad.foldl (fun d f => d.dropTs o f.env) d
    (d.modQueue q fun l => l.drop bad.length).bumpBy (K.Q_BAD_TAIL q) bad.length

/-- Can the head frame of a queue start on a line (R354)? -/
def Dev.canStart (d : Dev) (o : Nat) (f : QFrame) : Bool :=
  match f.tail with
  | some (b, _) => !b
  | none => f.env.ct && d.isMac o && decide (d.lineRate o ≤ rateBps f.env.rate)

/-- The earliest start of a cut-through frame (R354). -/
def Dev.cutStart (d : Dev) (o : Nat) (f : QFrame) : Nat :=
  if f.env.ct && f.env.rate < 6 && d.isMac o && decide (d.lineRate o ≤ rateBps f.env.rate) then
    let chunk := if f.env.rate = 1 || f.env.rate = 2 then 8 else 64
    let tIn := if f.env.rate = 0 then 0 else bytesNs chunk (rateBps f.env.rate)
    max f.headAt (f.dep + 1600 + (tIn - bytesNs 8 (d.lineRate o)))
  else d.now

/-- The 30 % bucket of classes 0 to 3 on a field port in Lockstep, in bytes with 16 fractional bits (R368). -/
def Dev.lockBucket (d : Dev) (o : Nat) : Int :=
  match mget? d.sw.lock o with
  | none => 2000 * 65536
  | some (v, t) => min (v + ((d.lineRate o * 3 * (d.now - t) * 65536 / 80000000000 : Nat) : Int)) (2000 * 65536)

/-- May classes 0 to 3 start on line o (R368)? -/
def Dev.lowOk (d : Dev) (o : Nat) : Bool := if o < 96 && d.limits = 4 then decide (0 < d.lockBucket o) else true

/-- The deficit round robin over classes 3 to 0: the class to start, trying each up to the quantum's number of turns (R367). -/
def Dev.drr (d : Dev) (qb : Nat) (key : Nat) (ready hasHead : Nat → Bool) : Nat → Nat → Dev × Option Nat
  | 0, _ => (d, none)
  | fuel + 1, k =>
    if k = 4 then
      if (List.range 4).any ready then d.drr qb key ready hasHead fuel 0 else (d, none)
    else
      let c := (mget d.sw.rr key 0 + k) % 4
      let df := mget d.sw.deficit (4 * key + c) 0
      if !ready c then
        let d := if hasHead c then d else d.modSw fun s => { s with deficit := mdel s.deficit (4 * key + c) }
        d.drr qb key ready hasHead fuel (k + 1)
      else if df ≤ 0 then
        (d.modSw fun s => { s with deficit := mput s.deficit (4 * key + c) (df + d.ob (K.Q_QUANTUM (qb + c))) }).drr qb key ready hasHead fuel (k + 1)
      else (d.modSw fun s => { s with rr := mput s.rr key c }, some c)

/-- The class an output serves next: 7 to 4 strictly, then the round robin, which forgets the deficit of a class with nothing queued (R367). -/
def Dev.pick (d : Dev) (qb key : Nat) (ready hasHead : Nat → Bool) : Dev × Option Nat :=
  match [7, 6, 5, 4].find? ready with
  | some c => (d, some c)
  | none =>
    if (List.range 4).any ready then d.drr qb key ready hasHead 8000 0
    else (d.modSw fun s => { s with deficit := s.deficit.filter fun x => !(x.1 / 4 == key && !hasHead (x.1 % 4)) }, none)

/-- Charge a frame's length to its class when it ends (R367, R368). -/
def Dev.chargeEnd (d : Dev) (key : Nat) (o : Option Nat) (cls len : Nat) : Dev :=
  if cls < 4 then
    let d := d.modSw fun s => { s with deficit := mput s.deficit (4 * key + cls) (mget s.deficit (4 * key + cls) 0 - (len : Nat)) }
    match o with
    | some o => if o < 96 && d.limits = 4 then d.modSw fun s => { s with lock := mput s.lock o (d.lockBucket o - ((len * 65536 : Nat) : Int), d.now) } else d
    | none => d
  else d

/-- Take the next whole frame of a unit's or a ring's fabric port, as a frame that ends at once (R367). -/
def Dev.takeWhole (d : Dev) (f : Nat) (ok : QFrame → Bool) : Dev × Option (Nat × QFrame) :=
  let qb := queueOf f 0 0
  let head := fun c => (d.queue (qb + c)).head?
  let ready := fun c => match head c with
    | some x => x.tail.isSome && ok x
    | none => false
  match d.pick qb (96 + f) ready (fun c => (head c).isSome) with
  | (d, none) => (d, none)
  | (d, some c) =>
    match (d.queue (qb + c)).head? with
    | none => (d, none)
    | some x => ((d.modQueue (qb + c) fun l => l.drop 1).chargeEnd (96 + f) none c x.len, some (qb + c, x))

/-! ### Rings of cores and the host (R366, R371) -/

/-- The word address of an endpoint's area and its bounds: the Larder's ring area, or the Hatch from 0x8900 (R366). -/
def ringArea (e : Nat) : Nat × Nat := if e = 20 then (0x8900, 0x10000) else (0x1C0000, 0x1E0000)

/-- The Hatch at its shared address (R103 to R105). -/
def hatchBase : Nat := 0x040000

/-- The memory address of a ring word (host ring words count from the Hatch's word 0). -/
def ringAddr (e a : Nat) : Nat := if e = 20 then hatchBase + a else a

/-- Does a buffer of 683 words lie inside its endpoint area (R366)? -/
def bufOk (e b : Nat) : Bool := decide ((ringArea e).1 ≤ b) && decide (b + 683 ≤ (ringArea e).2)

/-- The next receive descriptor: skip those whose buffer lies outside, counting each in TX_BAD; its number when one is free.
The device reads a poisoned word of a ring as it is stored (log entry 37, DESIGN CHOICE). -/
def Dev.rxDesc (d : Dev) (e : Nat) : Nat → Dev × Option Nat
  | 0 => (d, none)
  | fuel + 1 =>
    let n := d.obn (K.RING_RX_SIZE e)
    if n = 0 then (d, none) else
    let i := d.obn (K.RING_RX_PTR e)
    let a := ringAddr e (d.obn (K.RING_RX_BASE e) + 2 * i)
    if !(d.ld a).testBit 23 then (d, none)
    else if bufOk e (d.ld (a + 1)) then (d, some a)
    else ((((d.st a (2 ^ 22)).bump (K.RING_TX_BAD e)).setOb (K.RING_RX_PTR e) ((i + 1) % n : Nat))).rxDesc e fuel

/-- A frame is delivered into the next receive descriptor (R366). -/
def Dev.ringDeliver (d : Dev) (e : Nat) : Dev :=
  if !d.accepting (16 + e) 0 || (d.takeWhole (16 + e) fun _ => true).2.isNone then d else
  match d.rxDesc e 1024 with
  | (d, none) => d
  | (d, some a) =>
    match d.takeWhole (16 + e) (fun _ => true) with
    | (d, none) => d
    | (d, some (_, f)) =>
      if e < 20 && f.env.ctxV && !d.holdsCtx e f.env.ctx then d.bump (K.CTX_ORPHANS f.env.ctx) else
      let (bad, cause) := f.tail.getD (true, 5)
      let bytes := f.env.bytes ++ f.data
      let d := d.stAll (ringAddr e (d.ld (a + 1))) (wordsOf bytes)
      let d := d.st a (b2n bad * 2 ^ 22 + cause * 2 ^ 18 + bytes.length % 4096)
      let d := d.setOb (K.RING_RX_PTR e) ((d.obn (K.RING_RX_PTR e) + 1) % d.obn (K.RING_RX_SIZE e) : Nat)
      (d.bump (K.RING_RX_FRAMES e)).raise (0x4F0 + e)

/-- Is a group or fabric destination permitted to a sender (R21)? -/
def envDestOk (e : Env) : Bool := e.mc || destOk e.dest

/-- The device takes the next send descriptor of an endpoint (R366). -/
def Dev.ringSend (d : Dev) (e : Nat) : Dev :=
  let n := d.obn (K.RING_TX_SIZE e)
  if n = 0 then d else
  let i := d.obn (K.RING_TX_PTR e)
  let a := ringAddr e (d.obn (K.RING_TX_BASE e) + 2 * i)
  let w := d.ld a
  if !w.testBit 23 then d else
  let len := w % 4096
  let buf := d.ld (a + 1)
  let d := (d.st a (bits w 22 18 * 2 ^ 18 + bits w 11 0)).setOb (K.RING_TX_PTR e) ((i + 1) % n : Nat)
  if !bufOk e buf then d.bump (K.RING_TX_BAD e) else
  let bytes := (bytesOf (d.ldAll (ringAddr e buf) 683)).take len
  let env := { envOf bytes with src := if e = 20 then 127 else 100 + e, rate := 0 }
  if !envDestOk env || decide (len < 88) || decide (2024 < len) then d.bump (K.RING_TX_BAD e)
  else (((d.sendFrame env (bytes.drop 24) false 0).bump (K.RING_TX_FRAMES e))).raise (0x508 + e)

end Sys2Proof.Machine
end

