-- ==== Sys2Proof/Machine/CoreBase.lean ====
section
/-! DEFINITION. Cores as units: power, reset, start and hold, faults, watchdogs, banks, and the keeper roles (spec 10, 19). -/
namespace Sys2Proof.Machine

/-! ### Places (R103, R105; log entry 4) -/

def isWeir (c : Nat) : Bool := decide (c < 16)

/-- Local data words of a core. -/
def localWords (c : Nat) : Nat := if c < 16 then 0x8000 else 0x10000

/-- A core's local data word a. -/
def localAddr (c a : Nat) : Nat := 0x800000 + 0x10000 * c + a

/-- Word a of an instruction bank of a core. -/
def bankAddr (c bank a : Nat) : Nat := 0x1000000 + c * 0x10000 + bank * 0x8000 + a

/-- CORE_STATE. -/
def Dev.coreState (d : Dev) (c : Nat) : Nat := d.obn (K.CORE_STATE c)

/-- RING_ID: set while the ring service is ready, 0 otherwise (R84). -/
def Dev.showRing (d : Dev) : Dev := d.st 0x040000 (if d.served 0 then 0x4F4401 else 0)

/-- CORE_STATE; with a keeper's state the ring service comes and goes. -/
def Dev.setCoreState (d : Dev) (c s : Nat) : Dev := (d.setOb (K.CORE_STATE c) (s : Nat)).iff (decide (16 ≤ c)) Dev.showRing

/-- Can a core issue an instruction: it runs, waits for nothing and has no trap to take? -/
def Dev.issues (d : Dev) (c : Nat) : Bool := d.coreState c == 2 && (d.core c).wait == .none && (d.core c).trap.isNone

/-! ### Faults and traps (R275, R279, R291) -/

/-- The FAULT word. -/
def Core.faultWord (x : Core) : Nat := x.faultKind * 2 ^ 20 + x.faultCount * 256 + x.faultStatus

/-- Record a fault. -/
def Dev.noteFault (d : Dev) (c kind status addr : Nat) : Dev :=
  let d := d.modCore c fun x =>
    { x with faultKind := kind, faultStatus := status, faultCount := min (x.faultCount + 1) 255, faultAddr := word addr }
  ((d.bump (K.CORE_FAULTS c)).setOb (K.CORE_LAST_FAULT c) ((d.core c).faultWord : Nat)).setOb (K.CORE_LAST_FAULT_ADDR c) (addr % 2 ^ 24 : Nat)

/-- A failed access: kind 1 load, 2 store, 3 fetch; raises source 13 (R275). -/
def Dev.accessFault (d : Dev) (c kind status addr : Nat) : Dev := (d.noteFault c kind status addr).pulse c 13

/-- A fault of kinds 4 to 7, for which R275 gives no address: FAULT_ADDR takes a free value (log entry 6). -/
def Dev.otherFault (d : Dev) (c kind : Nat) : Dev :=
  let (v, d) := d.fresh 24
  d.noteFault c kind 0 v

/-- The core halts (R279, R291). -/
def Dev.haltCore (d : Dev) (c : Nat) : Dev :=
  (((d.otherFault c 7).setCoreState c 4).modCore c fun x => { x with wait := .none, trap := none }).logSec 0x5002 c

/-- Raise trap source 10 or 11; a second one before the next RETI halts the core (R291). -/
def Dev.raiseTrap (d : Dev) (c s : Nat) : Dev :=
  let x := d.core c
  let d := d.pulse c s
  if x.trapHeld || x.trap.isSome then d.haltCore c else d.modCore c fun x => { x with trap := some s }

/-! ### Reset, power, start and hold (R273, R295, R302, R491) -/

/-- The registers of a core after its reset at a time; the lines into its interrupt unit keep their levels. -/
def resetRegs (c now level : Nat) : Core :=
  let r : Core := { resetAt := now, wdogAt := now, tmrAt := now, level := level }
  if c < 16 then r else { r with dsp := 0x010000, dsl := 0x00FC00, rsb := 0x00F400 }

/-- Restart a core at word 0 of its active bank, its epoch incremented; a held core stays held (R299, R302, R333). -/
def Dev.coreReset (d : Dev) (c : Nat) : Dev :=
  let d := d.releaseAll (.bank c)
  let d := { d with cores := mput d.cores c (resetRegs c d.now (d.core c).level) }
  let d := d.iff (d.coreState c != 1 && d.coreState c != 0) fun d => d.setCoreState c 2
  d.epochInc c

/-- Power a core's domain on: memories cleared, ACTIVE 0, held (R18, R299, R491). -/
def Dev.corePowerOn (d : Dev) (c : Nat) : Dev :=
  if d.epOn c then d else
  let d := { d with doms := putBit d.doms (domOfEp c) true, cores := mput d.cores c (resetRegs c d.now 0) }
  let d := ((d.setCoreState c 1).setOb (K.CORE_BANK_ACTIVE c) 0).zero [K.CORE_BANK_ID_ACTIVE c, K.CORE_BANK_ID_SHADOW c]
  let d := d.epochInc c
  d.each (List.range 31) fun d l => if d.lineValue c l then d.postLine c l else d

/-- Power a core's domain off: its memories, mailboxes and permits go (R18, R46, R504). -/
def Dev.corePowerOff (d : Dev) (c : Nat) : Dev :=
  if !d.epOn c then d else
  let d := ((d.releaseAll (.bank c)).releaseAll (.core c)).orphanFab c
  let d := { d with doms := putBit d.doms (domOfEp c) false, cores := mdel d.cores c }
  let d := (d.clearMem (localAddr c 0) (localAddr c 0x10000)).clearMem (bankAddr c 0 0) (bankAddr c 2 0)
  let d := d.clearMem (mailAddr c 0 0) (mailAddr c 8 0)
  (d.modEp c fun _ => { wakeWas := some (d.wakeBits c) }).setCoreState c 0

/-- A held core starts (CORE_CMD 1). -/
def Dev.coreGo (d : Dev) (c : Nat) : Dev :=
  if d.coreState c ≠ 1 then d else
  match (d.core c).wait with
  | .wait => d.setCoreState c 3
  | .mailbox _ _ _ => d.setCoreState c 3
  | _ => d.setCoreState c 2

/-- CORE_CMD 2. -/
def Dev.coreStop (d : Dev) (c : Nat) : Dev := d.setCoreState c 1

/-- Source 63 at a running core (R507). -/
def Dev.raise63 (d : Dev) (c : Nat) : Dev := if d.coreRuns c then d.pulse c 63 else d

/-! ### Watchdog and timer (R295, R296) -/

/-- The period of a core's watchdog, ns. -/
def wdogPeriod (c : Nat) : Nat := if c < 16 then 5000000 else 50000000

/-- Any write of WDOG. -/
def Dev.feedWdog (d : Dev) (c : Nat) : Dev := d.modCore c fun x => { x with wdogAt := d.now, wdogWarned := false }

/-- The remaining time falls to a quarter: source 12. -/
def Dev.wdogWarn (d : Dev) (c : Nat) : Dev :=
  if !d.epOn c || (d.core c).wdogWarned then d else
  let d := d.upTo ((d.core c).wdogAt + wdogPeriod c * 3 / 4)
  (d.modCore c fun x => { x with wdogWarned := true }).pulse c 12

/-- TMR_PERIOD expires: source 0. -/
def Dev.timerExpiry (d : Dev) (c : Nat) : Dev :=
  let x := d.core c
  if !d.epOn c || x.tmrPeriod = 0 then d else
  let t := x.tmrAt + x.tmrPeriod * 1000
  let d := d.upTo t
  (d.modCore c fun x => { x with tmrAt := t }).pulse c 0

/-- A write of TMR_PERIOD. -/
def Dev.setTimer (d : Dev) (c v : Nat) : Dev := d.modCore c fun x => { x with tmrPeriod := v, tmrAt := d.now }

/-! ### Instruction banks (R297 to R299) -/

def Dev.activeOf (d : Dev) (c : Nat) : Nat := d.obn (K.CORE_BANK_ACTIVE c)

/-- Load an image from word 0 of a bank, and note its identifier (log entry 23). -/
def Dev.loadBank (d : Dev) (c : Nat) (shadow : Bool) (img : List Nat) (id : Nat) : Dev :=
  let b := if shadow then 1 - d.activeOf c else d.activeOf c
  (d.stAll (bankAddr c b 0) img).setOb (if shadow then K.CORE_BANK_ID_SHADOW c else K.CORE_BANK_ID_ACTIVE c) (id : Nat)

/-- ACTIVE flips: one event (R299, R302). -/
def Dev.bankFlip (d : Dev) (c : Nat) : Dev :=
  let a := d.ob (K.CORE_BANK_ID_ACTIVE c)
  let b := d.ob (K.CORE_BANK_ID_SHADOW c)
  let d := ((d.event.setOb (K.CORE_BANK_ACTIVE c) (1 - d.activeOf c : Nat)).setOb (K.CORE_BANK_ID_ACTIVE c) b).setOb (K.CORE_BANK_ID_SHADOW c) a
  let num := (d.core c).swapPermit
  let d := (d.modCore c fun x => { x with swapPending := false, swapNow := false, swapPermit := 0 }).release num
  (d.logE 0x5010 c).bump (K.CORE_SWAPS c)

/-- SWAP_STATUS. -/
def Dev.swapStat (d : Dev) (c st : Nat) : Dev := d.modCore c fun x => { x with swapStatus := st }

/-- The permit of an arm or now command is there. -/
def Dev.bankGranted (d : Dev) (c num : Nat) (now : Bool) (mask : Nat) : Dev :=
  (d.modCore c fun x =>
    { x with swapPending := true, swapNow := now, swapPermit := num, cpMask := BitVec.ofNat 16 mask }).swapStat c Stat.done

/-- An arm or now command takes its permit first; CP_MASK changes with the command, so not where it is refused (R298). The request's tag holds the
mask above bit 2. -/
def Dev.bankAsk (d : Dev) (c : Nat) (now : Bool) (mask : Nat) : Dev :=
  let x := d.core c
  if x.swapPending then d.swapStat c Stat.busy else
  match d.ask (.bank c) 300 1000 4 0 (mask * 4 + b2n now) with
  | (d, .granted n) => d.bankGranted c n now mask
  | (d, .queued) => d
  | (d, .busy) => d.swapStat c Stat.busy
  | (d, .refused) => d.swapStat c Stat.permit

/-- A cancel command. -/
def Dev.bankCancel (d : Dev) (c : Nat) : Dev :=
  let x := d.core c
  if x.swapPending then
    ((d.modCore c fun x => { x with swapPending := false, swapNow := false, swapPermit := 0 }).release x.swapPermit).swapStat c Stat.done
  else d.swapStat c Stat.range

/-- A write of BANK (R297). -/
def Dev.bankWrite (d : Dev) (c v : Nat) : Dev :=
  let mask := bits v 23 8
  let put := fun (d : Dev) => d.modCore c fun x => { x with cpMask := BitVec.ofNat 16 mask }
  match bits v 3 2 with
  | 1 => d.bankAsk c false mask
  | 2 => (put d).bankCancel c
  | 3 => d.bankAsk c true mask
  | _ => put d

/-- BANK as read. -/
def Dev.bankWord (d : Dev) (c : Nat) : Nat :=
  let x := d.core c
  x.cpMask.toNat * 256 + x.swapStatus % 16 * 16 + b2n x.swapPending * 2 + d.activeOf c

/-- A now command takes effect at an instruction boundary: the return stack empties and word 0 of the new bank is next (R299). -/
def Dev.bankNow (d : Dev) (c : Nat) : Dev :=
  if (d.core c).swapPending && (d.core c).swapNow then
    (d.bankFlip c).modCore c fun x => { x with rsd := 0, hw := [], pc := 0 }
  else d

/-! ### Keeper roles (R531 to R533) -/

/-- The next running keeper after k, in the order K0, K1, K2, K3, K0. -/
def Dev.nextKeeper (d : Dev) (k : Nat) : Option Nat :=
  ([1, 2, 3].map fun i => 16 + (k - 16 + i) % 4).find? d.coreRuns

/-- The dictionary's keeper shows itself in the Hatch (R84, R88). -/
def Dev.showKeeper (d : Dev) : Dev := (d.showRing.st 0x040008 (d.roleOf 0)).st 0x040009 (d.obn (K.EP_EPOCH (d.roleOf 0)))

/-- What a role's new holder does at once: the Tap's three steps (R564), and DICT_CORE with DICT_EPOCH (R88), with the journalled transactions (R83). -/
def Dev.roleTaken (d : Dev) (r : Nat) : Dev := if r = 2 then d.tapRebuild else if r = 0 then d.showKeeper.todo .dictTaken else d

/-- A keeper's roles pass to the next running keeper at one event (R532). -/
def Dev.passRoles (d : Dev) (k : Nat) : Dev :=
  match d.nextKeeper k with
  | none => d
  | some n =>
    let mine := (List.range 9).filter fun r => d.roleOf r == k
    if mine.isEmpty then d else
    let d := d.event.each mine fun d r => d.setOb (K.ROLE_HOLDER r) (n : Nat)
    d.each mine fun d r => (((d.ring n (2 ^ (8 + r))).logE 0x5020 r).bump K.TAKEOVERS).roleTaken r

/-- A keeper is reset as on watchdog expiry; `expiry` says that its watchdog did it (R532). Where no other keeper runs it keeps the dictionary,
whose DICT_EPOCH is then its new epoch (R84). -/
def Dev.keeperReset (d : Dev) (k : Nat) (expiry : Bool) : Dev :=
  let d := d.passRoles k
  let shown := fun (d : Dev) => d.iff (d.roleOf 0 == k && d.coreRuns k) fun d => d.showKeeper
  if !expiry then shown (d.coreReset k) else
  let recent := (k, d.now) :: d.sump.keeperFails.filter fun e => decide (d.now < e.2 + 60000000000)
  let third := decide (3 ≤ (recent.filter fun e => e.1 == k).length)
  let d := (({ d with sump := { d.sump with keeperFails := recent } }).coreReset k)
  if third then
    ((d.coreStop k).setOb K.ALERT_CAUSE (putBit (d.obn K.ALERT_CAUSE) 5 true : Nat)).logE 0x5021 k
  else shown d

/-- ROLE_HOLDER: the role moves at one event (R533). -/
def Dev.roleMoveTo (d : Dev) (r k : Nat) : Dev := (d.event.setOb (K.ROLE_HOLDER r) (k : Nat)).roleTaken r

end Sys2Proof.Machine
end

