-- ==== Sys2Proof/Machine/Mac.lean ====
section
/-! DEFINITION. Frame MACs: receive, PAUSE, egress frames, gate control lists, device services (spec 07). -/
namespace Sys2Proof.Machine

/-! ### Objects of MAC m -/

def Dev.macOb (d : Dev) (m : Nat) (port up : Nat → Nat) : Nat := d.obn (macKey m port up)
def Dev.macBump (d : Dev) (m : Nat) (port up : Nat → Nat) : Dev := d.bump (macKey m port up)

/-- The MAC address of MAC m: its own object, else MAC_BASE + 4 + p or MAC_BASE + u (R203). -/
def Dev.macAddr (d : Dev) (m : Nat) : Nat :=
  match mget? d.od (macKey m K.MAC_ADDR K.UP_MAC_ADDR) with
  | some v => v.toNat
  | none => d.store.macBase + if m < 96 then 4 + m else m - 96

/-- Does MAC m run: its port in a MAC mode and Up or Degraded, or its uplink Up (R177, R126, R197)? -/
def Dev.macRuns (d : Dev) (m : Nat) : Bool :=
  if m < 96 then (d.portMode m == 1 || d.portMode m == 2) && d.portUp m else d.obn (K.UPLINK_STATE (m - 96)) == 2

/-- What capture point `point` captured `back` ns ago, on a base (R421; log entry 13). -/
def Dev.tbAgo (d : Dev) (n back point : Nat) : Nat := d.captured n (d.now - back) point

/-- Add a signed adjustment in ns. -/
def adjNs (t : Nat) (a : Int) : Nat := ((t : Int) + a).toNat

/-! ### PAUSE (R182) -/

/-- A PAUSE frame whose end has come by T0 `now` replaces the remaining time. -/
def Mac.settled (x : Mac) (now : Nat) : Mac :=
  match x.pauseNext with
  | some (t, stop) => if t ≤ now then { x with paused := stop, pauseNext := none } else x
  | none => x

/-- The stop time that ended at `t` is over, unless another PAUSE frame has replaced it. -/
def Mac.expired (x : Mac) (t : Nat) : Mac := if x.paused = some t then { x with paused := none } else x

/-- A PAUSE frame that ends at `t` stops the MAC from then until `stop`. -/
def Mac.pause (x : Mac) (now t : Nat) (stop : Option Nat) : Mac := { x.settled now with pauseNext := some (t, stop) }.settled now

/-- A PAUSE frame with a good FCS, which ends at `ends`: counted, and obeyed from its end in PAUSE_MODE 1. -/
def Dev.pauseRx (d : Dev) (m quanta ends : Nat) : Dev :=
  let d := d.macBump m K.MAC_PAUSE_RX K.UP_PAUSE_RX
  if d.macOb m K.MAC_PAUSE_MODE K.UP_PAUSE_MODE = 1 then
    d.modMac m fun x => x.pause d.now ends (if quanta = 0 then none else some (ends + (quanta * 512 * 1000000000 + d.lineRate m - 1) / max (d.lineRate m) 1))
  else d

/-! ### Receive (R178 to R188) -/

/-- The EtherType of a frame, after a C-tag. -/
def etherType (l : List Byte) : Nat := let i := if hasTag l then 16 else 12; byteAt l i * 256 + byteAt l (i + 1)

/-- A bad line frame adds to ERR_COUNT of its port (R134). -/
def Dev.lineErr (d : Dev) (m : Nat) : Dev :=
  if m < 96 then d.errCount m 1 else d

/-- The VID, PCP and whether ACCEPT admits the frame (R186). -/
def Dev.vlanOf (d : Dev) (m : Nat) (l : List Byte) : Nat × Nat × Bool :=
  let acc := d.macOb m K.MAC_ACCEPT K.UP_ACCEPT
  if hasTag l then
    let tci := byteAt l 14 * 256 + byteAt l 15
    let vid := tci % 4096
    if vid = 0 then (d.macOb m K.MAC_PVID K.UP_PVID, tci / 8192, acc != 1)
    else (vid, tci / 8192, vid != 4095 && acc != 2)
  else (d.macOb m K.MAC_PVID K.UP_PVID, d.macOb m K.MAC_PORT_PCP K.UP_PORT_PCP, acc != 1)

/-- The class of a PCP (R186). -/
def Dev.classOf (d : Dev) (m pcp : Nat) : Nat := bits (d.macOb m K.MAC_PCP_MAP K.UP_PCP_MAP) (3 * pcp + 2) (3 * pcp)

/-! ### Device services on an uplink (R198) -/

/-- The ones' complement sum of 16-bit words, folded (RFC 1071). -/
def inetFold (n : Nat) : Nat := let a := n % 65536 + n / 65536; let b := a % 65536 + a / 65536; b % 65536 + b / 65536

def inetSum (l : List Byte) : Nat :=
  inetFold ((List.range ((l.length + 1) / 2)).foldl (fun a i => a + byteAt l (2 * i) * 256 + byteAt l (2 * i + 1)) 0)

/-- The checksum field for bytes whose own field is 0. -/
def inetCsum (l : List Byte) : Nat := 65535 - inetSum l

/-- The IPv6 link-local address of an uplink, from its MAC address (R198). -/
def Dev.linkLocal (d : Dev) (u : Nat) : List Byte :=
  let m := beBytes 6 (d.macAddr (96 + u))
  beBytes 8 0xFE80000000000000 ++ [(m.getD 0 0) ^^^ 2] ++ (m.drop 1).take 2 ++ [0xFF, 0xFE] ++ m.drop 3

/-- Is an IPv6 address one of the uplink's own (R198)? -/
def Dev.own6 (d : Dev) (u : Nat) (a : List Byte) : Bool :=
  a == d.linkLocal u || ((d.dom (K.UP_IPV6_ADDR u)).length == 16 && a == d.dom (K.UP_IPV6_ADDR u))

/-- What the device does with a frame of its own VLAN on an uplink. -/
inductive Service where
  | answer (frame : List Byte)     -- keeper firmware answers
  | aap                            -- to the dictionary keeper
  | timeKeeper                     -- to the time keeper
deriving DecidableEq, Repr

/-- ICMPv6 with its checksum over the pseudo header (RFC 4443). -/
def icmp6 (source dst body : List Byte) : List Byte :=
  let ck := inetCsum (source ++ dst ++ beBytes 4 body.length ++ beBytes 4 58 ++ body)
  splice body 2 (beBytes 2 ck)

/-- The service a frame asks for (R198): ARP, ICMP echo, neighbour discovery, UDP to AAP_PORT, EtherType 0x88F7. -/
def Dev.service (d : Dev) (u : Nat) (l : List Byte) : Option Service :=
  let me := beBytes 6 (d.macAddr (96 + u))
  let toMe := l.take 6 == me
  let multi := (byteAt l 0).testBit 0
  let h := if hasTag l then 18 else 14
  let head := (l.drop 6).take 6 ++ me ++ (l.drop 12).take (h - 12)
  let p := l.drop h
  let ip4 := beBytes 4 (d.obn (K.UP_IPV4_ADDR u))
  let has4 := d.obn (K.UP_IPV4_ADDR u) != 0
  match etherType l with
  | 0x88F7 => some .timeKeeper
  | 0x0806 =>
    if has4 && (toMe || multi) && p.take 8 == beBytes 8 0x0001080006040001 && (p.drop 24).take 4 == ip4 then
      some (.answer (head ++ beBytes 8 0x0001080006040002 ++ me ++ ip4 ++ (p.drop 8).take 10))
    else none
  | 0x0800 =>
    let ihl := (byteAt p 0 % 16) * 4
    let q := p.drop ihl
    if !(toMe && has4 && (p.drop 16).take 4 == ip4) then none
    else if byteAt p 9 = 17 && byteAt q 2 * 256 + byteAt q 3 = d.obn K.AAP_PORT then some .aap
    else if byteAt p 9 = 1 && byteAt q 0 = 8 then
      let len := byteAt p 2 * 256 + byteAt p 3
      let q := q.take (len - ihl)
      let q0 := splice q 0 [0, 0, 0, 0]
      let ih := splice (splice (p.take ihl) 10 [0, 0]) 12 ((p.drop 16).take 4 ++ (p.drop 12).take 4)
      some (.answer (head ++ splice ih 10 (beBytes 2 (inetCsum ih)) ++ splice q0 2 (beBytes 2 (inetCsum q0))))
    else none
  | 0x86DD =>
    let len := byteAt p 4 * 256 + byteAt p 5
    let source := (p.drop 8).take 16
    let dst := (p.drop 24).take 16
    let q := (p.drop 40).take len
    let hdr := fun (n : Nat) (a b : List Byte) => p.take 4 ++ beBytes 2 n ++ [58, 255] ++ a ++ b
    if byteAt p 6 = 17 && toMe && d.own6 u dst && byteAt q 2 * 256 + byteAt q 3 = d.obn K.AAP_PORT then some .aap
    else if byteAt p 6 = 58 && byteAt q 0 = 128 && toMe && d.own6 u dst then
      some (.answer (head ++ hdr q.length dst source ++ icmp6 dst source (splice q 0 [129, 0, 0, 0])))
    else if byteAt p 6 = 58 && byteAt q 0 = 135 && d.own6 u ((q.drop 8).take 16) then
      let tgt := (q.drop 8).take 16
      let body := [136, 0, 0, 0, 0x60, 0, 0, 0] ++ tgt ++ [2, 1] ++ me
      some (.answer (head ++ hdr body.length tgt source ++ icmp6 tgt source body))
    else none
  | _ => none

/-- Is a frame in the uplink's device VLAN (R198)? -/
def Dev.deviceVlan (d : Dev) (u : Nat) (l : List Byte) : Bool :=
  let v := d.obn (K.UPLINK_VID u)
  if v = 0 then !hasTag l else hasTag l && (byteAt l 14 * 256 + byteAt l 15) % 4096 == v

/-- Serve a frame addressed to the device; frames to keepers enter the Sluice from the uplink in class 0 (log entry 14). -/
def Dev.serve (d : Dev) (u : Nat) (l : List Byte) (e : Env) : Service → Dev
  | .answer f => d.sendFrame { src := 100 + d.roleOf 0, dest := (12 + u) * 16 } f false 0
  | .aap => d.sendFrame { e with dest := coreDest (d.roleOf 0) } l false 0
  | .timeKeeper => d.sendFrame { e with dest := coreDest (d.roleOf 3) } l false 0

/-- The PTP message of a frame, after its EtherType (R425). -/
def ptpOf (l : List Byte) : List Byte := l.drop (if hasTag l then 18 else 14)

/-- An Announce of the 802.1AS domain: best master selection (R425). The manual names the standard and gives AS_PRIORITY1 and AS_GM_CAPABLE; the lower
grandmasterPriority1 wins, and what the rest of the standard's comparison decides is a free value (log entry 57, PRESUMED). -/
def Dev.asAnnounce (d : Dev) (p : List Byte) : Dev :=
  let (v, d) := d.fresh 1
  let own := d.obn K.AS_PRIORITY1
  let slave := !d.obb K.AS_GM_CAPABLE || decide (byteAt p 47 < own) || (byteAt p 47 == own && v == 1)
  let d := d.setOb K.AS_STATE (if slave then 3 else 2)
  { d with time := { d.time with gmId := if slave then some ((p.drop 53).take 8) else none } }

/-- A Sync that carries its own time, or a Follow_Up, that a slave takes: it steers AS_TB, with a heartbeat where the offset lies within AS_SYNC_LIMIT; the
offset is a free value (R425, R430; log entry 57). -/
def Dev.asSync (d : Dev) : Dev :=
  let n := d.obn K.AS_TB
  let (ofs, d) := d.fresh 48
  let d := (d.setOb K.AS_OFFSET (sext 48 ofs)).servo n
  if (sext 48 ofs).natAbs ≤ d.obn K.AS_SYNC_LIMIT then d.setSynced n true else d

/-- The messages that answer a Pdelay_Req which came in at `t`: Pdelay_Resp with that time and Pdelay_Resp_Follow_Up with that of the answer, which is a
free value (R425; log entry 57, PRESUMED: IEEE 802.1AS-2020 gives their layout). -/
def Dev.asAnswers (d : Dev) (m t : Nat) (l : List Byte) : List (List Byte) × Dev :=
  let p := ptpOf l
  let (sent, d) := d.fresh 72
  let me := beBytes 6 (d.macAddr m)
  let msg := fun (type flags : Nat) (ns : Nat) =>
    beBytes 6 0x0180C200000E ++ me ++ (l.drop 12).take (if hasTag l then 6 else 2) ++
    [BitVec.ofNat 8 (16 + type), 0x12, 0, 54, BitVec.ofNat 8 (byteAt p 4), 0] ++ beBytes 2 flags ++ beBytes 12 0 ++
    me.take 3 ++ [0xFF, 0xFE] ++ me.drop 3 ++ [0, 1] ++ (p.drop 30).take 2 ++ [5, 0x7F] ++
    beBytes 6 (ns / 1000000000) ++ beBytes 4 (ns % 1000000000) ++ (p.drop 20).take 10
  ([msg 3 0x0208 t, msg 10 0x0008 sent], d)

/-- The time role takes a frame of the IEEE 802.1AS profile that came in on a MAC at `t`, where it is of AS_DOMAIN (R425, R430; log entry 57). -/
def Dev.asFrame (d : Dev) (listed : Bool) (m t : Nat) (l : List Byte) : Dev :=
  let p := ptpOf l
  if !listed || !d.obb K.AS_ENABLE || !d.served 3 || byteAt p 4 ≠ d.obn K.AS_DOMAIN then d else
  let slave := d.obn K.AS_STATE == 3
  match byteAt p 0 % 16 with
  | 0 => d.iff (slave && !(byteAt p 6).testBit 1) Dev.asSync
  | 2 =>
    let (answers, d) := d.asAnswers m t l
    answers.foldl (fun d f => d.sendFrame { src := 100 + d.roleOf 3, dest := if m < 96 then m / 8 * 16 + m % 8 else (m - 84) * 16 } f false 0) d
  | 8 => d.iff slave Dev.asSync
  | 10 => d.iff slave fun d => let (delay, d) := d.fresh 24; d.setOb K.AS_PATH_DELAY (delay : Nat)
  | 11 => d.asAnnounce p
  | _ => d

/-- A frame for the device on an uplink: served while the keeper of the service runs, or a unicast frame without a service counted in NOT_LOCAL (R198).
Without its keeper it is discarded (DEDUCED, log entry 14). -/
def Dev.deviceRx (d : Dev) (u : Nat) (l : List Byte) (e : Env) : Dev :=
  match d.service u l with
  | some s =>
    if d.served (match s with | .timeKeeper => 3 | _ => 0) then
      (d.serve u l e s).asFrame ((match s with | .timeKeeper => true | _ => false) && (d.obn K.AS_UPLINKS).testBit u)
        (96 + u) (fullSeconds (d.tbNs e.tsTb / 1000000000) e.ingS * 1000000000 + e.ingNs) l
    else d
  | none => if (byteAt l 0).testBit 0 then d else d.bump (K.UP_NOT_LOCAL u)

/-- Does the device take a frame on an uplink: one in its VLAN that has a service or is unicast (R198)? -/
def Dev.forDevice (d : Dev) (u : Nat) (l : List Byte) : Bool :=
  d.deviceVlan u l && ((d.service u l).isSome || !(byteAt l 0).testBit 0)

/-- Is an uplink's line a Clause 49 one (R196)? -/
def Dev.clause49 (d : Dev) (m : Nat) : Bool := decide (96 ≤ m) && (d.obn (K.UPLINK_MODE (m - 96)) == 1 || d.obn (K.UPLINK_MODE (m - 96)) == 2)

/-- A received frame: `pre` preamble bytes, and the bytes from the destination address to the FCS (R178 to R188). The command comes at the frame's
timestamp point, the first bit after the delimiter, so that it takes the time base and its adjustment as they then stand (R188, R190; log entry 13).
`sym` and `odd` are a symbol error and an odd bit count; `cut` says that the source stops in the middle of the frame (R129, R352), which counts nothing
in the MAC (log entry 33); `block` is a Clause 49 block error that ends the frame (R203); `headOut` says that the parser had released the head before
the frame ended short. RX_FRAMES and RX_OCTETS count the good frames that the MAC passes on, not those it takes itself or discards (R203; log entry 61,
DESIGN CHOICE). -/
def Dev.macRx (d : Dev) (m pre : Nat) (frame : List Byte) (sym odd cut block headOut : Bool) : Dev :=
  if !d.macRuns m || pre = 0 || decide (7 < pre) then d
  else if d.lineBusy m then d.bump (K.P_RECAL_DROPS m)
  else if frame.length < 64 && !headOut then
    let d := if block && d.clause49 m then d.macBump m K.MAC_FCS_ERR K.UP_FCS_ERR else d
    (if cut then d else d.macBump m K.MAC_RUNTS K.UP_RUNTS)
  else
    let tooMuch := decide (2000 < frame.length)
    let l := frame.take 2000
    let block := block && d.clause49 m
    let fcs := !tooMuch && !cut && !block && !fcsGood l
    let short := decide (frame.length < 64) && !cut
    let d := if short then d.macBump m K.MAC_RUNTS K.UP_RUNTS else d
    let d := if tooMuch then d.macBump m K.MAC_OVERSIZE K.UP_OVERSIZE else d
    let d := if fcs then (d.macBump m K.MAC_FCS_ERR K.UP_FCS_ERR).lineErr m else d
    let d := if sym then (d.macBump m K.MAC_SYMBOL_ERR K.UP_SYMBOL_ERR).lineErr m else d
    let d := if odd then (d.macBump m K.MAC_ALIGN_ERR K.UP_ALIGN_ERR).lineErr m else d
    let d := if block then d.macBump m K.MAC_FCS_ERR K.UP_FCS_ERR else d
    let bad := short || tooMuch || fcs || sym || odd || cut || block
    let cause := if short then 3 else if tooMuch then 4 else if cut then 5 else if sym || odd || block then 2 else if fcs then 1 else 0
    if etherType l = 0x8808 then
      let i := if hasTag l then 18 else 14
      let pause := byteAt l i * 256 + byteAt l (i + 1) == 1 &&
        (l.take 6 == beBytes 6 0x0180C2000001 || l.take 6 == beBytes 6 (d.macAddr m))
      if pause then
        (if bad then d.macBump m K.MAC_PAUSE_RX K.UP_PAUSE_RX
         else d.pauseRx m (byteAt l (i + 2) * 256 + byteAt l (i + 3)) (d.now + bytesNs frame.length (d.lineRate m)))
      else d.macBump m K.MAC_MACCTL_OTHER K.UP_MACCTL_OTHER
    else
      let (vid, pcp, ok) := d.vlanOf m l
      if !ok then d.macBump m K.MAC_VLAN_DROP K.UP_VLAN_DROP else
      let d := if bad then d else
        (d.macBump m K.MAC_RX_FRAMES K.UP_RX_FRAMES).bumpBy (macKey m K.MAC_RX_OCTETS K.UP_RX_OCTETS) l.length
      let tb := d.macOb m K.MAC_TS_BASE K.UP_TS_BASE
      let t := adjNs (d.tbAgo tb 0 m) (d.ob (macKey m K.MAC_TS_ING_ADJ K.UP_TS_ING_ADJ))
      let r : RxFrame := { bytes := l, fcsIn := true, bad := bad, cause := cause, vid := vid, cls := d.classOf m pcp, ingTb := tb,
                           ingTime := t, est := false, rate := rateCode (d.lineRate m) }
      if 96 ≤ m && d.forDevice (m - 96) l then d.iff (!bad) fun d => d.deviceRx (m - 96) l (envOfRx m r)
      else if m < 96 && !bad && etherType l = 0x88F7 && (d.boundCtx m).isNone && (d.obn (K.AS_PORTS (m / 24))).testBit (m % 24) then d.asFrame true m t l
      else d.toParser m r

/-! ### Gate control lists (R199 to R202) -/

/-- The published time of GCL_TB in ns. -/
def Dev.gclNow (d : Dev) (u : Nat) : Nat := d.tbNs (d.obn (K.UP_GCL_TB u))

/-- The published time of GCL_TB in ns, `k` ns from now. -/
def Dev.gclAfter (d : Dev) (u k : Nat) : Nat := d.pubAfter k 8 (d.obn (K.UP_GCL_TB u)) / 2 ^ 32

/-- The gates in force: all open with GCL_ENABLE 0 or without an operative list (R199). -/
def Dev.gates (d : Dev) (u : Nat) : Nat :=
  match d.obb (K.UP_GCL_ENABLE u), (d.up u).oper with
  | true, some g => (g.entries[(d.up u).idx]?).elim 255 (·.1)
  | _, _ => 255

/-- The length of entry i: the last one runs to the end of the cycle (R200). -/
def Gcl.len (g : Gcl) (i : Nat) : Nat :=
  if i + 1 = g.entries.length then g.cycle - ((g.entries.take i).foldl (fun a e => a + e.2) 0) else (g.entries[i]?).elim 0 (·.2)

/-- How long the gate of a class stays open from entry i on, over at most n entries. -/
def Gcl.openRun (g : Gcl) (c : Nat) : Nat → Nat → Nat
  | 0, _ => 0
  | n + 1, i =>
    let j := i % max g.entries.length 1
    if ((g.entries[j]?).elim 255 (·.1)).testBit c then g.len j + g.openRun c n (i + 1) else 0

/-- Until when the class's gate stays open, on GCL_TB; none when it does not close. The guard looks at the operative list only, not ahead to an armed
list's change time (R202; log entry 61, DESIGN CHOICE). -/
def Dev.openUntil (d : Dev) (u c : Nat) : Option Nat :=
  match d.obb (K.UP_GCL_ENABLE u), (d.up u).oper with
  | true, some g =>
    if g.entries.all fun e => e.1.testBit c then none
    else some ((d.up u).entryEnds + g.openRun c g.entries.length ((d.up u).idx + 1))
  | _, _ => none

/-- The longest open run of a class, across the cycle's wrap; none when it never closes (R202). -/
def Dev.longestOpen (d : Dev) (u c : Nat) : Option Nat :=
  match d.obb (K.UP_GCL_ENABLE u), (d.up u).oper with
  | true, some g =>
    if g.entries.all fun e => e.1.testBit c then none
    else some ((List.range g.entries.length).foldl (fun a i => max a (g.openRun c g.entries.length i)) 0)
  | _, _ => none

/-! ### Egress (R179 to R195) -/

/-- The bytes of a frame before its FCS: a frame whose envelope sets FCS_IN carries it in its last four bytes (R180). -/
def bodyOf (e : Env) (data : List Byte) : List Byte := if e.fcsIn then data.take (data.length - 4) else data

/-- The bytes of a frame as a MAC changes them, the one-step time written at `ts` (R187, R192). -/
def Dev.macEdit (d : Dev) (o : Nat) (e : Env) (l : List Byte) (ts : Nat) : List Byte :=
  let l := match d.macOb o K.MAC_EGRESS_TAG K.UP_EGRESS_TAG with
    | 1 => if hasTag l then l.take 12 ++ l.drop 16 else l
    | 2 => l.take 12 ++ [0x81, 0x00] ++ beBytes 2 (e.cls * 8192 + e.vid) ++ l.drop (if hasTag l then 16 else 12)
    | _ => l
  if e.oneStep && 96 ≤ o then
      let stamp := beBytes 6 (ts / 1000000000) ++ beBytes 4 (ts % 1000000000)
      let old := (l.drop e.tsOff).take 10
      let l := splice l e.tsOff stamp
      if e.csumOff = 0 then l else
      let hc := byteAt l e.csumOff * 256 + byteAt l (e.csumOff + 1)
      let odd := if (e.tsOff + e.csumOff) % 2 = 0 then ([] : List Byte) else [0]
      splice l e.csumOff (beBytes 2 (65535 - inetFold ((65535 - hc) + (65535 - inetSum (odd ++ old ++ odd)) + inetSum (odd ++ stamp ++ odd))))
  else l

/-- The bytes before the FCS that a MAC sends, padded to the shortest frame (R179). -/
def Dev.macBody (d : Dev) (o : Nat) (e : Env) (l : List Byte) (ts : Nat) : List Byte :=
  let l := d.macEdit o e l ts
  l ++ List.replicate (60 - l.length) 0

/-- The bytes from the destination address to the FCS that a MAC sends (R179 to R192). A FCS that the frame carries goes
out unchanged unless the MAC has changed the frame. -- DEDUCED, log entry 32. -/
def Dev.macBytes (d : Dev) (o : Nat) (e : Env) (data : List Byte) (ts : Nat) : List Byte :=
  let l := d.macBody o e (bodyOf e data) ts
  if e.fcsIn && l == bodyOf e data then data else withFcs l

/-- The preamble and the delimiter that a MAC sends before a frame (R178). -/
def preamble : List Byte := List.replicate 7 0x55 ++ [0xD5]

/-- Frame bytes on the line with preamble, in ns. -/
def Dev.frameNs (d : Dev) (o n : Nat) : Nat := bytesNs (n + 8) (d.lineRate o)

/-- The bytes a head frame will take on the line, with its FCS. The length of a frame whose tail has not arrived is not known: it counts as
the longest one, 2,000 bytes with the FCS and the tag that this MAC adds (DESIGN CHOICE, log entry 61). -/
def Dev.lineLen (d : Dev) (o : Nat) (f : QFrame) : Nat :=
  if f.tail.isSome then (d.macBytes o f.env f.data 0).length
  else 2000 + (if f.env.fcsIn then 0 else 4) + (if d.macOb o K.MAC_EGRESS_TAG K.UP_EGRESS_TAG = 2 && !hasTag f.data then 4 else 0)

/-- Is a MAC stopped by PAUSE at an instant (R182)? -/
def Dev.macStopped (d : Dev) (o t : Nat) : Bool :=
  match ((d.mac o).settled t).paused with
  | some stop => decide (t < stop)
  | none => false

/-- Is a MAC held back: paused, recalibrating, or with its drivers held off (R130, R142, R184)? -/
def Dev.macHeld (d : Dev) (o : Nat) : Bool :=
  d.macStopped o d.now || d.lineBusy o || (decide (o < 96) && d.sump.hardHold)

/-- Discard the heads that a MAC never starts: oversize, MAC control, and too long for their gate (R179, R183, R202). The limits of R179 are judged on the
frame as EGRESS_TAG leaves it (log entry 61, DESIGN CHOICE). -/
def Dev.macHeads (d : Dev) (o : Nat) : Nat → Dev
  | 0 => d
  | fuel + 1 =>
    let bad := (List.range 8).findSome? fun c =>
      match (d.queue (lineQueue o + c)).head? with
      | none => none
      | some f =>
        let n := d.lineLen o f
        if 14 ≤ f.data.length && etherType f.data = 0x8808 then some (c, f, macKey o K.MAC_TX_MACCTL K.UP_TX_MACCTL)
        else if f.tail.isSome && 2000 < n then some (c, f, macKey o K.MAC_TX_OVERSIZE K.UP_TX_OVERSIZE)
        else if 96 ≤ o && f.tail.isSome then
          match d.longestOpen (o - 96) c with
          | some t => if t ≠ 0 && t < d.gclAfter (o - 96) (d.frameNs o n) - d.gclNow (o - 96) then some (c, f, K.UP_TX_TOOLONG (o - 96)) else none
          | none => none
        else none
    match bad with
    | none => d
    | some (c, f, key) => (((d.modQueue (lineQueue o + c) fun l => l.drop 1).bump key).dropTs o f.env).macHeads o fuel

/-- Is a class open on line o for a frame, from the instant at which it would start (R184, R199, R202, R354)? -/
def Dev.gateOk (d : Dev) (o c : Nat) (f : QFrame) : Bool :=
  if o < 96 then true else
  (d.gates (o - 96)).testBit c &&
    match d.openUntil (o - 96) c with
    | some t => decide (d.gclAfter (o - 96) (d.cutStart o f - d.now + d.frameNs o (d.lineLen o f)) ≤ t)
    | none => true

/-- A MAC starts the next frame of its queues, up to its timestamp point after preamble and delimiter (R177, R178, R188, R354, R367). -/
def Dev.macStart (d : Dev) (o : Nat) : Dev :=
  if (mget? d.sw.line o).isSome || !d.macRuns o then d else
  let d := ((d.upTo (d.mac o).gapEnds).badHeads o).macHeads o 4096
  if d.macHeld o then d else
  let qb := lineQueue o
  let head := fun c => (d.queue (qb + c)).head?
  let ready := fun c => match head c with
    | some f => d.canStart o f && !d.macStopped o (d.cutStart o f) && d.gateOk o c f && (decide (4 ≤ c) || d.lowOk o)
    | none => false
  match d.pick qb o ready (fun c => (head c).isSome) with
  | (d, none) => d
  | (d, some c) =>
    match (d.queue (qb + c)).head? with
    | none => d
    | some f =>
      let d := d.upTo (d.cutStart o f)
      let start := d.now
      let d := d.upTo (start + bytesNs 8 (d.lineRate o))
      let ts := adjNs (d.tbAgo (d.macOb o K.MAC_TS_BASE K.UP_TS_BASE) 0 o) (d.ob (macKey o K.MAC_TS_EGR_ADJ K.UP_TS_EGR_ADJ))
      d.modSw fun s => { s with line := mput s.line o ⟨qb + c, f, start, ts⟩ }

/-- The frame on a line as its queue holds it now, with the bytes that have arrived since it started. -/
def Dev.onLine (d : Dev) (x : OnLine) : QFrame := ((d.queue x.queue).find? fun f => f.id == x.frame.id).getD x.frame

/-- Take the frame off its line and queue. -/
def Dev.offLine (d : Dev) (o : Nat) (x : OnLine) : Dev :=
  (d.modQueue x.queue fun l => l.filter fun f => f.id != x.frame.id).modSw fun s => { s with line := mdel s.line o }

/-- A frame ended with the complement of its FCS (R355, R356). -/
def spoiled (l : List Byte) : List Byte := l ++ ((withFcs l).drop l.length).map (~~~ ·)

/-- A MAC ends the frame on its line (R355, R356, R367). -/
def Dev.macEnd (d : Dev) (o : Nat) : Dev :=
  match mget? d.sw.line o with
  | none => d
  | some x =>
    let f := d.onLine x
    match f.tail with
    | none => d
    | some (bad, _) =>
      let l := d.macBytes o f.env f.data x.ts
      let d := d.upTo (x.started + d.frameNs o l.length)
      let d := (d.offLine o x).modMac o fun m => { m with gapEnds := d.now + bytesNs 12 (d.lineRate o) }
      let d := d.onWire o (.frame o (preamble ++ if bad then spoiled (d.macBody o f.env (bodyOf f.env f.data) x.ts) else l) bad)
      let d := if bad then d.bump (K.Q_BAD_TAIL x.queue) else
        (d.macBump o K.MAC_TX_FRAMES K.UP_TX_FRAMES).bumpBy (macKey o K.MAC_TX_OCTETS K.UP_TX_OCTETS) l.length
      let two := if o < 96 then f.env.tsReq || f.env.oneStep else f.env.tsReq && !f.env.oneStep
      let d := if two then d.postTs o (tsRec f.env.tsTag x.ts) else d
      d.chargeEnd o (some o) (x.queue % 8) f.len

/-- A started frame needs a byte that has not arrived: it ends at once, unpadded (R355). -/
def Dev.macUnderrun (d : Dev) (o : Nat) : Dev :=
  match mget? d.sw.line o with
  | none => d
  | some x =>
    let f := d.onLine x
    if f.tail.isSome then d else
    let l := d.macEdit o f.env f.data x.ts
    let d := (d.offLine o x).onWire o (.frame o (preamble ++ spoiled l) true)
    let d := d.modMac o fun m => { m with gapEnds := d.now + bytesNs 12 (d.lineRate o) }
    let d := ((d.bump (K.Q_UNDERRUNS x.queue)).logSecAny 0x7002 x.queue).dropTs o f.env
    d.chargeEnd o (some o) (x.queue % 8) f.data.length

end Sys2Proof.Machine
end

