-- ==== Sys2Proof/Machine/Plans.lean ====
section
/-! DEFINITION. The closed forms of the profile unit: plans and gearing (spec 17, R460, R470 to R477). -/
namespace Sys2Proof.Machine

/-- The integer square root, rounded down. -/
def isqrt (n : Nat) : Nat :=
  ((List.range (n.log2 / 2 + 1)).reverse).foldl (fun r i => if (r + 2 ^ i) * (r + 2 ^ i) ≤ n then r + 2 ^ i else r) 0

/-- A square root to 2^-48, rounded down (log entry 16). -/
def ratSqrt (q : Rat) : Rat := if q ≤ 0 then 0 else mkRat (isqrt (q * (2 ^ 96 : Nat)).floor.toNat) (2 ^ 48)

/-- A quantity to f fractional bits, to nearest with ties away from zero (R460). -/
def roundTo (f : Nat) (q : Rat) : Rat := mkRat (ratNear (q * (2 ^ f : Nat))) (2 ^ f)

/-- q modulo l, in [0, l); q itself for l = 0. -/
def ratMod (q : Rat) (l : Nat) : Rat := if l = 0 then q else q - (l : Rat) * ((q / (l : Rat)).floor : Rat)

/-- A difference wrapped into (-l/2, l/2] (R464, R480). -/
def wrapHalf (v : Int) (l : Nat) : Int :=
  if l = 0 then v else
  let r := v % (l : Int)
  if 2 * r ≤ l then r else r - l

def ratAbs (q : Rat) : Rat := if q < 0 then -q else q

/-! ### Phases (R470) -/

/-- The segments of a phase from va to vb with limit a and jerk j. -/
def phase (va vb a j : Rat) : List Seg :=
  let dv := ratAbs (vb - va)
  let s : Rat := if va ≤ vb then 1 else -1
  if dv = 0 then []
  else if j = 0 then [⟨dv / a, s * a, 0⟩]
  else if a * a / j ≤ dv then [⟨a / j, 0, s * j⟩, ⟨dv / a - a / j, s * a, 0⟩, ⟨a / j, s * a, -(s * j)⟩]
  else
    let t := ratSqrt (dv / j)
    [⟨t, 0, s * j⟩, ⟨t, s * j * t, -(s * j)⟩]

/-- How long a list of segments lasts. -/
def segsTime (l : List Seg) : Rat := l.foldl (fun t x => t + x.dur) 0

/-- The distance that a phase covers. -/
def phaseDist (va vb a j : Rat) : Rat := (va + vb) / 2 * segsTime (phase va vb a j)

/-- The limits of an axis, in increments and seconds. -/
structure Limits where
  vmax : Rat
  amax : Rat
  dmax : Rat
  jmax : Rat
  dstop : Rat
  dfault : Rat
deriving DecidableEq, Repr

/-- What the two phases around the cruise cover. -/
def Limits.covers (c : Limits) (u vc : Rat) : Rat :=
  phaseDist u vc (if u ≤ vc then c.amax else c.dmax) c.jmax + phaseDist vc 0 c.dmax c.jmax

/-- The greatest multiple n of 2^-16 in [lo, hi] whose two phases cover no more than dist, by bisection. -/
def Limits.bisect (c : Limits) (u dist : Rat) : Nat → Nat → Nat → Nat
  | 0, lo, _ => lo
  | fuel + 1, lo, hi =>
    if lo < hi then
      let mid := (lo + hi + 1) / 2
      if c.covers u (mkRat mid 65536) ≤ dist then c.bisect u dist fuel mid hi else c.bisect u dist fuel lo (mid - 1)
    else lo

/-- The cruise velocity of a plan of length dist from velocity u (R470). -/
def Limits.cruise (c : Limits) (u vl dist : Rat) : Rat :=
  if c.jmax = 0 then min vl (ratSqrt ((2 * c.amax * c.dmax * dist + c.dmax * u * u) / (c.amax + c.dmax)))
  else if c.covers u vl ≤ dist then vl
  else mkRat (c.bisect u dist 64 0 (vl * 65536).floor.toNat) 65536

/-- Segments in the other direction. -/
def flipSegs (s : Rat) (l : List Seg) : List Seg := l.map fun x => ⟨x.dur, s * x.acc, s * x.jerk⟩

/-- The segments of a plan over dist from velocity u toward the target, with no reversal. -/
def Limits.forward (c : Limits) (u vl dist : Rat) : List Seg :=
  let vc := c.cruise u vl dist
  let rest := dist - c.covers u vc
  phase u vc (if u ≤ vc then c.amax else c.dmax) c.jmax ++ (if 0 < vc && 0 < rest then [⟨rest / vc, 0, 0⟩] else []) ++
    phase vc 0 c.dmax c.jmax

/-- A plan from p0, v0 to the position pt; where it lies behind, or nearer than the stopping distance, it first
brakes to rest (R470, R471, R473 row 0). -/
def Limits.plan (c : Limits) (p0 v0 pt vl t : Rat) : Plan :=
  let dir := fun p : Rat => if p ≤ pt then (1 : Rat) else -1
  let s := dir p0
  let u := s * v0
  if u < 0 || ratAbs (pt - p0) < phaseDist (ratAbs v0) 0 c.dmax c.jmax then
    let b := phase v0 0 c.dmax c.jmax
    let p1 := p0 + phaseDist v0 0 c.dmax c.jmax
    ⟨p0, v0, t, b ++ flipSegs (dir p1) (if p1 = pt then [] else c.forward 0 vl (ratAbs (pt - p1))), some pt, 0⟩
  else if pt = p0 && v0 = 0 then ⟨p0, v0, t, [], some pt, 0⟩
  else ⟨p0, v0, t, flipSegs s (c.forward u vl (ratAbs (pt - p0))), some pt, 0⟩

/-- One phase to a velocity: AMAX when the speed rises, the given deceleration when it falls (R472). -/
def Limits.toSpeed (c : Limits) (p0 v0 v dec j t : Rat) : Plan :=
  ⟨p0, v0, t, phase v0 v (if ratAbs v0 < ratAbs v then c.amax else dec) j, none, v⟩

/-- Position, velocity and acceleration after some time on segments, and whether they have ended. -/
def runSegs (p v : Rat) (dt : Rat) : List Seg → Rat × Rat × Rat × Bool
  | [] => (p + v * dt, v, 0, true)
  | x :: l =>
    let u := if dt < x.dur then dt else x.dur
    let p' := p + v * u + x.acc * u * u / 2 + x.jerk * u * u * u / 6
    let v' := v + x.acc * u + x.jerk * u * u / 2
    if dt < x.dur then (p', v', x.acc + x.jerk * u, false) else runSegs p' v' (dt - x.dur) l

/-- The seconds from a plan's start to an instant. -/
def Plan.secs (pl : Plan) (t : Rat) : Rat := (t - pl.t) / 1000000000

/-- A plan's state at an instant: position, velocity, acceleration, and whether it has ended. -/
def Plan.eval (pl : Plan) (t : Rat) : Rat × Rat × Rat × Bool :=
  let dt := pl.secs t
  if dt < 0 then (pl.p, pl.v, 0, false) else
  let total := segsTime pl.segs
  if total ≤ dt then
    let (p, _, _, _) := runSegs pl.p pl.v total pl.segs
    (pl.endAt.getD (p + pl.vEnd * (dt - total)), pl.vEnd, 0, true)
  else
    let (p, v, a, _) := runSegs pl.p pl.v dt pl.segs
    (p, v, a, false)

/-- Seconds from the start of the segments to the first instant at or after dt at which the acceleration is 0. -/
def accZero (dt begun : Rat) : List Seg → Rat
  | [] => max dt begun
  | x :: l =>
    let stop := begun + x.dur
    if x.acc = 0 && dt ≤ begun then begun
    else if x.acc = 0 && x.jerk = 0 && dt < stop then dt
    else if x.acc + x.jerk * x.dur = 0 && dt ≤ stop then stop
    else accZero dt stop l

/-- The first instant at or after t at which a plan's acceleration is 0 (R471). -/
def Plan.zeroAt (pl : Plan) (t : Rat) : Rat := pl.t + accZero (pl.secs t) 0 pl.segs * 1000000000

/-- How far a modulo axis travels to a target by its reversal policy (R473): ds is the stopping distance,
f the distance in the direction of motion. A negative answer is travel backward. -/
def moduloTravel (policy : Nat) (moving : Bool) (f ds len : Rat) : Rat :=
  let fwd := if ds ≤ f then f else f + len
  if policy = 1 then fwd
  else if !moving then (if f ≤ len - f then f else f - len)
  else
    let rest := ds - f
    let back := rest - len * ((rest / len).floor : Rat)
    if fwd ≤ ds + back then fwd else ds - back

/-! ### Gearing (R475, R477) -/

/-- s(x) and r_eff(x) of an axis (R475). -/
def Axis.slave (a : Axis) (x : Int) : Rat :=
  let x : Rat := x
  let b : Rat := a.blend
  if x < 0 then a.r0 * x
  else if x < b then a.r0 * x + (a.r1 - a.r0) * x * x / (2 * b)
  else (a.r0 + a.r1) * b / 2 + a.r1 * (x - b)

def Axis.rEff (a : Axis) (x : Int) : Rat :=
  if x < 0 then a.r0
  else if x < a.blend then a.r0 + (a.r1 - a.r0) * (x : Rat) / (a.blend : Rat)
  else a.r1

/-- Does a blend run? -/
def Axis.blending (a : Axis) : Bool := a.state == 3 && decide (0 ≤ a.x) && decide (a.x < a.blend)

/-- Does a step's DIR allow travel of this sign (R476)? -/
def dirOk (dir : Nat) (rising : Bool) : Bool := dir == 2 || (dir == 0) == rising

/-- Travel from c to m in the direction of rem, modulo len for a modulo master (R477). -/
def travelTo (c m rem : Int) (len : Nat) : Int :=
  if len = 0 then m - c else if 0 ≤ rem then (m - c) % (len : Int) else -((c - m) % (len : Int))

/-- A crossed step: its tag, its pool entry and the crossing instant in ns. -/
structure Crossing where
  step : GStep
  at_ : Nat

/-- Walk the master's travel over the head steps (R477): `dm` travels in all, from `s0` over `per` ns. -/
def walkSteps (len : Nat) (dm : Int) (s0 per : Nat) : Nat → Axis → Int → Int → List Crossing → Axis × List Crossing
  | 0, a, _, rem, acc => ({ a with x := a.x + rem }, acc)
  | fuel + 1, a, c, rem, acc =>
    match a.steps with
    | [] => ({ a with x := a.x + rem }, acc)
    | h :: l =>
      let d1 := travelTo c h.mpos rem len
      let ok := rem != 0 && decide (0 < d1.natAbs) && decide (d1.natAbs ≤ rem.natAbs) && decide (0 < d1 ↔ 0 < rem) &&
        dirOk h.dir (decide (0 < rem))
      if ok then
        let x := a.x + d1
        let r := a.rEff x
        let tx : Rat := (s0 : Rat) + (per : Rat) * ((dm - rem + d1 : Int) : Rat) / (dm : Rat)
        let a' := { a with pref := roundTo 24 (a.pref + a.slave x), r0 := r, r1 := mkRat h.num h.den, blend := h.blend, x := 0, steps := l,
                           ratio := [wrapN 24 h.num, h.den, wrapN 24 r.num, r.den % 2 ^ 24] }
        walkSteps len dm s0 per fuel a' h.mpos (rem - d1) (acc ++ [⟨h, (ratNear tx).toNat⟩])
      else ({ a with x := a.x + rem }, acc)

end Sys2Proof.Machine
end

