-- ==== Sys2Proof/Machine/Composer.lean ====
section
/-! DEFINITION. The scatter unit, the freshness sweeper and the frame composer (spec 14, R384 to R407). -/
namespace Sys2Proof.Machine

/-! ### Scatter commits (R386 to R388) -/

/-- The context a set belongs to: a segment's is that of its SEG_CTX. -/
def Dev.ownerCtx (d : Dev) : Owner → Option Nat
  | .ctx c => some c
  | .coming c => some c
  | .seg s => let c := d.obn (K.SEG_CTX s); if c < 128 then some c else none
  | .dev => none

/-- Word w of node slot NODE_BASE + n of a context (R326, R327). -/
def Dev.nodeAddr (d : Dev) (c n w : Nat) : Nat := 0x200000 + 8 * (d.obn (K.CTX_NODE_BASE c) + n) + w

/-- The context and node whose slot a list's frames are counted in (R388). -/
def Dev.listNode (d : Dev) (j : Nat) : Option (Nat × Nat) :=
  let h := d.ld (0x260000 + 4 * j)
  match (mget? d.cellar.lists j).bind fun o => d.ownerCtx o.1 with
  | some c => if h.testBit 22 then some (c, bits h 21 13) else none
  | none => none

/-- A scatter update's instant: the ingress timestamp on the region's own base, else now (R375). -/
def Dev.scatterNs (d : Dev) (e : Env) (tb : Nat) : Nat :=
  if e.tsTb = tb then fullSeconds (d.tbNs tb / 1000000000) e.ingS * 1000000000 + e.ingNs else d.tbNs tb

/-- Commit the updates of a frame through list j, at one event (R387). -/
def Dev.scatter (d : Dev) (j : Nat) (e : Env) (data : List Byte) : Dev :=
  let h := d.ldAll (0x260000 + 4 * j) 4
  let d := d.event
  let node := if (h.getD 0 0).testBit 22 then bits (h.getD 0 0) 21 13 else 0
  let own := (mget? d.cellar.lists j).bind fun o => d.ownerCtx o.1
  let ents := d.body (bits (h.getD 2 0) 16 0)
  let d := ents.foldl (fun d b =>
    if b.lastByte < data.length then
      let (d, ok) := d.updateAns .list own e.src node ((bits (h.getD 1 0) 19 0 + b.off) % 2 ^ 20) (b.takeFrom data) (d.scatterNs e)
      d.iff ok fun d => d.bump K.SCATTER_UPDATES
    else (d.bump K.SHORT_FIELDS).logSec 0x8002 0) d
  let d := match d.listNode j with
    | some (c, n) => (d.st (d.nodeAddr c n 1) (d.now / 1000 % 2 ^ 24)).st (d.nodeAddr c n 2) ((d.ld (d.nodeAddr c n 2) + 1) % 2 ^ 24)
    | none => d
  d.bump K.SCATTER_FRAMES

/-- The scatter unit takes its next frame (R387, R388). -/
def Dev.scatterCommit (d : Dev) : Dev :=
  match d.takeWhole 37 (fun _ => true) with
  | (d, none) => d
  | (d, some (_, f)) =>
    let j := f.env.aux % 2 ^ 15
    if !(d.ld (0x260000 + 4 * j)).testBit 23 then (d.bump K.LIST_MISSING).logSec 0x8003 0
    else match f.tail with
      | some (false, _) => d.scatter j f.env f.data
      | _ => match d.listNode j with
        | some (c, n) => d.st (d.nodeAddr c n 3) (min (d.ld (d.nodeAddr c n 3) + 1) (2 ^ 24 - 1))
        | none => d

/-! ### The sweeper (R383, R389, R390) -/

/-- The regions that a pass visits. -/
def Dev.swept (d : Dev) (r : Nat) : Bool := d.obn (K.REG_FRESH_LIMIT r) != 0 || (mget? d.cellar.contestPend r).isSome

/-- The next entry at or after a signal number that the sweeper visits, with its region. -/
def Dev.nextSwept (d : Dev) (n : Nat) : Option (Nat × Nat) :=
  (d.regions.filter d.swept).foldl (fun best r =>
    let b := d.obn (K.REG_BASE r)
    let stop := b + d.obn (K.REG_SIZE r)
    let at_ := max b n
    if at_ < stop then match best with
      | some (x, _) => if at_ < x then some (at_, r) else best
      | none => some (at_, r)
    else best) none

/-- STALE_NOW of a region rises from 0: CELLAR_STALE and E:8020, both at most once per second per region (R389; log entry 61). -/
def Dev.staleRise (d : Dev) (r : Nat) : Dev :=
  if (mget? d.logAt (0x8020 * 65536 + r)).all fun t => decide (t + 1000000000 ≤ d.now) then (d.raise 0x543).logSec 0x8020 r else d

/-- One visit of an entry (R389). -/
def Dev.sweepEntry (d : Dev) (n r : Nat) : Dev :=
  let lim := d.obn (K.REG_FRESH_LIMIT r)
  let e := d.entry n
  let now := d.stampOf r (d.tbNs (d.obn (K.REG_TB r)))
  let d := if lim != 0 && e.valid && !e.forced && !e.stale && decide (lim < ageOf now e.stamp) then
      let was := d.obn (K.REG_STALE_NOW r)
      let d := (d.putEntry n { e with stale := true }).setOb (K.REG_STALE_NOW r) (was + 1 : Nat)
      if was = 0 then d.staleRise r else d
    else d
  match mget? d.cellar.contestPend r with
  | none => d
  | some left =>
    let e := d.entry n
    let d := if e.contested then d.putEntry n { e with contested := false } else d
    d.modCellar fun c => { c with contestPend := if left ≤ 1 then mdel c.contestPend r else mput c.contestPend r (left - 1) }

/-- The sweeper goes on to its next entry; past the last it starts a new pass (SWEEP_PASS). -/
def Dev.sweepStep (d : Dev) : Dev :=
  let visit := fun (d : Dev) (x : Nat × Nat) => (d.sweepEntry x.1 x.2).modCellar fun c => { c with sweepAt := x.1 + 1 }
  match d.nextSwept d.cellar.sweepAt with
  | some x => visit d x
  | none =>
    let d := if d.cellar.sweepAt = 0 then d else d.setOb K.SWEEP_PASS (min ((d.now - d.cellar.sweepBegan) / 1000) (2 ^ 24 - 1) : Nat)
    let d := d.modCellar fun c => { c with sweepAt := 0, sweepBegan := d.now }
    match d.nextSwept 0 with
    | some x => visit d x
    | none => d

/-! ### Firings (R400 to R403) -/

/-- The context that may read without a right: the template's own. -/
def Dev.gatherEntry (d : Dev) (hold0 : Bool) (base byteBase : Nat) (acc : Dev × List Byte) (b : BodyEnt) : Dev × List Byte :=
  let sig := (base + b.off) % 2 ^ 20
  let e := d.entry sig
  let (x, frame) := acc
  if x.entryPoisoned sig then (((x.bump K.POISON_SUBS).logSec 0x8031 0), b.putInto byteBase b.safe frame)
  else if hold0 then (x, b.putInto byteBase b.safe frame)
  else if b.flag && (e.stale || !e.valid) then (x.bump K.STALE_SUBS, b.putInto byteBase b.safe frame)
  else (x, b.putInto byteBase e.value frame)

/-- The frame of a template as gathered now, and its envelope (R400 to R402); none when SAFE_MODE 1 holds it back. -/
def Dev.compose (d : Dev) (t : Tpl) : Option (Dev × Env × List Byte) :=
  let w := fun i => d.ld (t.hdr + i)
  let w0 := w 0
  let hold := d.mode == 7
  let safe := bits w0 21 20
  if hold && safe = 1 then none else
  let len := bits (w 2) 10 0
  let segs := bits w0 12 9
  let skel := (bytesOf (d.ldAll (t.hdr + 8 + 3 * segs) ((len + 2) / 3))).take len
  let (d', data) := (List.range segs).foldl (fun acc s =>
    (d.body (bits (w (10 + 3 * s)) 16 0)).foldl (d.gatherEntry (hold && safe = 0) (bits (w (8 + 3 * s)) 19 0) (bits (w (9 + 3 * s)) 10 0)) acc) (d, skel)
  let w1 := w 1
  let ctxPort := match d.ownerCtx t.owner with
    | some c => ((d.ctx c).ports[bits w1 3 0]?).map portDest
    | none => none
  let dest := if w0.testBit 22 then ctxPort.getD 0 else bits w1 15 0
  let cls := bits w0 19 17
  some (d', { mc := dest.testBit 15, dest := dest % 1024, cls := cls, ct := cutThrough d.limits cls, src := 120, rate := 0,
              tsReq := w0.testBit 13, tsTag := bits (w 6) 7 0, ctxV := w1.testBit 23, ctx := bits w1 22 16 }, data)

/-- A firing's gather starts: one frame into fabric port 38. -/
def Dev.gatherNow (d : Dev) (t : Tpl) : Dev :=
  match d.compose t with
  | none => d
  | some (d, e, data) => (d.sendFrame e data false 0).bump K.FIRINGS

/-- A template's time base and its period in ns (R397). -/
def Dev.tplTb (d : Dev) (t : Tpl) : Nat := bits (d.ld t.hdr) 16 14
def Dev.tplNs (d : Dev) (t : Tpl) : Nat := d.ld (t.hdr + 3) * 1000

/-- How late a template's firing is now: none before it is due; firings that were missed whole do not count (R403). -/
def Dev.tplLate (d : Dev) (t : Tpl) : Option Nat :=
  t.nextAt.bind fun at_ =>
    let now := d.tbNs (d.tplTb t)
    if at_ ≤ now then some ((now - at_) % d.tplNs t) else none

/-- Firing order: the earlier firing first, then the lower number (R398). -/
def firesBefore (x y : Nat × Nat) : Bool := decide (y.1 < x.1) || (x.1 == y.1 && decide (x.2 < y.2))

/-- Put a firing, its lateness and its template, into a list in firing order. -/
def putFiring (x : Nat × Nat) : List (Nat × Nat) → List (Nat × Nat)
  | [] => [x]
  | y :: l => if firesBefore x y then x :: y :: l else y :: putFiring x l

/-- The other templates whose due firings the composer serves before template n's, in order (R398). -/
def Dev.firesFirst (d : Dev) (n late : Nat) : List Nat :=
  (d.cellar.tpls.foldl (fun acc e =>
    match d.tplLate e.2 with
    | some l => if firesBefore (l, e.1) (late, n) then putFiring (l, e.1) acc else acc
    | none => acc) []).map (·.2)

/-- Serve the due firing of one template (R403). -/
def Dev.fireOne (d : Dev) (n : Nat) : Dev :=
  match mget? d.cellar.tpls n with
  | none => d
  | some t =>
    match t.nextAt with
    | none => d
    | some at_ =>
      let per := d.tplNs t
      let behind := d.tbNs (d.tplTb t) - at_
      let miss := behind / per
      let d := d.iff (miss != 0) fun d => (d.bumpBy K.SKIPPED miss).logSec 0x8030 0
      let d := d.iff (decide (2000 < behind % per)) fun d => d.bump K.LATE
      let d := d.modCellar fun c => { c with tpls := mput c.tpls n { t with nextAt := some (at_ + (miss + 1) * per) } }
      d.gatherNow t

/-- The next due firing of template n, after those that go before it (R398). -/
def Dev.fireTemplate (d : Dev) (n : Nat) : Dev :=
  match mget? d.cellar.tpls n with
  | none => d
  | some t =>
    match t.nextAt with
    | none => d
    | some at_ =>
      let d := d.upToOn (d.tplTb t) at_
      (d.each (d.firesFirst n ((d.tplLate t).getD 0)) fun d m => d.fireOne m).fireOne n

end Sys2Proof.Machine
end

