-- ==== Sys2Proof/Machine/Bus.lean ====
section
/-! DEFINITION. Priority-bus controllers: buffers, receive objects, filters, error confinement (spec 08).
A frame in the fabric is the six bytes of words 0 and 1 followed by its data bytes (log entry 15). -/
namespace Sys2Proof.Machine

/-! ### Words and buffers -/

def Dev.bw (d : Dev) (p ofs : Nat) : Nat := mget (d.bus p).words ofs 0
def Dev.bset (d : Dev) (p ofs v : Nat) : Dev := d.modBus p fun b => { b with words := if v = 0 then mdel b.words ofs else mput b.words ofs (v % 2 ^ 24) }

/-- Set words from an offset on. -/
def Dev.bsetAll (d : Dev) (p ofs : Nat) : List Nat → Dev
  | [] => d
  | v :: r => (d.bset p ofs v).bsetAll p (ofs + 1) r

/-- The first word of transmit buffer b and of receive object o (R209). -/
def txBase (b : Nat) : Nat := 0x400 + 32 * b
def rxBase (o : Nat) : Nat := 0x800 + 32 * o

/-- The data length of a frame's word 0 (R210). -/
def dlcBytes (w0 : Nat) : Nat :=
  let n := bits w0 18 15
  if w0.testBit 22 then 0 else if n ≤ 8 then n else if w0.testBit 21 then [12, 16, 20, 24, 32, 48, 64].getD (n - 9) 64 else 8

/-- Buffer states (R211): 0 EMPTY, 1 PENDING, 2 ACTIVE, 3 STRANDED, 4 SENT, 5 ABORTED. -/
def Dev.txState (d : Dev) (p b : Nat) : Nat := bits (d.bw p (txBase b + 25)) 23 21
def Dev.setTxState (d : Dev) (p b s : Nat) : Dev := d.bset p (txBase b + 25) (putBits (d.bw p (txBase b + 25)) 23 21 s)

/-- Is a buffer busy: PENDING, ACTIVE or STRANDED? -/
def Dev.txBusy (d : Dev) (p b : Nat) : Bool := let s := d.txState p b; s == 1 || s == 2 || s == 3
def Dev.anyTxBusy (d : Dev) (p : Nat) : Bool := (List.range 32).any (d.txBusy p)

/-- Is a buffer fabric-fed? -/
def Dev.fabricFed (d : Dev) (p b : Nat) : Bool := decide (32 - d.obn (K.BUS_TXQ_BUFS p) ≤ b)

/-- Does the bus controller of a port run: BUS mode, and not held in reset? -/
def Dev.busOn (d : Dev) (p : Nat) : Bool := d.portMode p == 3 && d.obn (K.BUS_STATE p) != 5

/-- The core that runs a port's bound context. -/
def Dev.boundCore (d : Dev) (p : Nat) : Option Nat := (d.boundCtx p).map fun c => d.obn (K.CTX_CORE_NOW c)

/-- Is this agent the core running the port's bound context? -/
def Dev.isBound (d : Dev) (agent p : Nat) : Bool := d.boundCore p == some agent

/-! ### Done and full flags (R229) -/

def Dev.doneBits (d : Dev) (p : Nat) : Nat := d.bw p 4 + d.bw p 5 * 2 ^ 24

/-- Set a buffer's DONE bit; BUS_TX rises with the first. -/
def Dev.setDone (d : Dev) (p b : Nat) : Dev :=
  let was := d.doneBits p
  let now := putBit was b true
  ((d.bset p 4 (now % 2 ^ 24)).bset p 5 (now / 2 ^ 24)).iff (was == 0) fun d => d.raise (0xC4 + p)

/-- FULL of object o. -/
def Dev.rxFull (d : Dev) (p o : Nat) : Bool := (d.bw p (rxBase o + 24)).testBit 23
def Dev.anyFull (d : Dev) (p : Nat) : Bool := (List.range 64).any (d.rxFull p)

/-- Do f; BUS_RX rises when the first FULL bit does. -/
def Dev.withFull (d : Dev) (p : Nat) (f : Dev → Dev) : Dev :=
  let was := d.anyFull p
  let d := f d
  if !was && d.anyFull p then d.raise (0x124 + p) else d

/-! ### Transmission (R214 to R218) -/

/-- A fabric-fed buffer's frame that asked for a timestamp ends unsent (R218). -/
def Dev.dropBufTs (d : Dev) (p b : Nat) : Dev :=
  match mget? (d.bus p).tsTag b with
  | some t => (d.modBus p fun x => { x with tsTag := mdel x.tsTag b }).postTs p ⟨true, t, 0, 0⟩
  | none => d

/-- A buffer becomes ABORTED at one event (R214, R217, R227). -/
def Dev.abortBuf (d : Dev) (p b : Nat) : Dev :=
  let d := d.event.setTxState p b 5
  ((d.bset p (txBase b + 31) d.seq).dropBufTs p b).setDone p b

/-- Is a buffer's content refused at SEND (R214)? -/
def Dev.refusedTx (d : Dev) (p b : Nat) : Bool :=
  let w := d.bw p (txBase b)
  w.testBit 21 && (d.obn (K.BUS_FD_MODE p) == 0 || w.testBit 22)

/-- SEND of a buffer (R214). -/
def Dev.sendBuf (d : Dev) (p b : Nat) : Dev :=
  if d.txBusy p b then d
  else if d.refusedTx p b then
    let d := d.bset p (txBase b + 25) (putBit (d.bw p (txBase b + 25)) 19 true)
    (d.abortBuf p b).bump (K.BUS_TX_INVALID p)
  else d.event.bset p (txBase b + 25) (2 ^ 21)

/-- ABORT of a buffer (R217). -/
def Dev.abortTx (d : Dev) (p b : Nat) : Dev :=
  match d.txState p b with
  | 1 => (d.abortBuf p b).bump (K.BUS_TX_ABORTS p)
  | 3 => (d.abortBuf p b).bump (K.BUS_TX_ABORTS p)
  | 2 => d.modBus p fun x => { x with abortActive := true }
  | _ => d

/-- The urgency key (R215). -/
def urgency (w0 w1 : Nat) : Nat :=
  let id := bits w0 4 0 * 2 ^ 24 + w1
  let rtr := if w0.testBit 21 then 0 else b2n (w0.testBit 22)
  if w0.testBit 23 then bits id 28 18 * 2 ^ 21 + 2 ^ 20 + 2 ^ 19 + bits id 17 0 * 2 + rtr else bits id 28 18 * 2 ^ 21 + rtr * 2 ^ 20

/-- The PENDING buffer with the lowest key; equal keys go to the lower number (R215). A buffer that holds an FD frame is not sent while FD_MODE is 0,
and stays PENDING (R204; DEDUCED, log entry 45). -/
def Dev.urgent (d : Dev) (p : Nat) : Option Nat :=
  ((List.range 32).filter fun b => d.txState p b == 1 && !((d.bw p (txBase b)).testBit 21 && d.obn (K.BUS_FD_MODE p) == 0)).foldl (fun a b => match a with
    | none => some b
    | some x => if urgency (d.bw p (txBase b)) (d.bw p (txBase b + 1)) < urgency (d.bw p (txBase x)) (d.bw p (txBase x + 1)) then some b else some x) none

/-- n nominal bit times of a port in ns, rounded up (R205). -/
def Dev.bitsNs (d : Dev) (p n : Nat) : Nat := (n * d.nomProduct p * 1000 + 59) / 60

/-- From the sample point of a nominal bit to its end, in ns, rounded up (R205). -/
def Dev.afterSample (d : Dev) (p : Nat) : Nat := (d.obn (K.BUS_N_TSEG2 p) * d.obn (K.BUS_N_BRP p) * 1000 + 59) / 60

/-- Selection: the most urgent buffer becomes ACTIVE at the sample point, and its start-of-frame edge follows with the next bit, after the
suspend-transmission delay where that runs (R215, R221, R222, R224). A port in Probing whose integration is over selects as well (log entry 45, DEDUCED). -/
def Dev.busSelect (d : Dev) (p : Nat) : Dev :=
  let st := d.obn (K.BUS_STATE p)
  if !d.busOn p || 1 < st || (d.bus p).active.isSome || (d.bus p).listen || d.sump.hardHold || d.lineBusy p then d else
  match d.urgent p with
  | none => d
  | some b =>
    let d := (d.setTxState p b 2).upTo (max (d.bus p).suspendEnds (d.now + d.afterSample p))
    d.modBus p fun x =>
      { x with active := some b, abortActive := false,
               sof := adjNs (d.tbAgo (d.obn (K.BUS_TS_BASE p)) 0 p) (d.ob (K.BUS_TS_ADJ p)) }

/-- Add to ERR_COUNT of a BUS port (R134). -/
def Dev.busErr (d : Dev) (p : Nat) : Dev := d.errCount p 1

/-- Bus-off: every PENDING or ACTIVE buffer is STRANDED at one event (R225). -/
def Dev.busOff (d : Dev) (p : Nat) : Dev :=
  let l := (List.range 32).filter fun b => d.txState p b == 1 || d.txState p b == 2
  let d := d.event.each l fun d b => d.setTxState p b 3
  let d := (d.modBus p fun x => { x with active := none, abortActive := false }).bumpBy (K.BUS_STRANDED p) l.length
  (((d.setOb (K.BUS_STATE p) 2).logE 0x3300 p).bump (K.BUS_OFFS p)).raise (0x184 + p)

/-- The state of R223 that TEC and REC give; entering error-passive logs E:3301, bus-off acts as R225. -/
def Dev.confine (d : Dev) (p : Nat) : Dev :=
  let st := d.obn (K.BUS_STATE p)
  let tec := d.obn (K.BUS_TEC p)
  if 1 < st then d
  else if 255 < tec then d.busOff p
  else if 127 < tec || 127 < d.obn (K.BUS_REC p) then
    if st = 0 then (d.setOb (K.BUS_STATE p) 1).logE 0x3301 p else d
  else if st = 1 then d.setOb (K.BUS_STATE p) 0 else d

/-- Twin detection at the end of an attempt (R228). -/
def Dev.twin (d : Dev) (p b : Nat) (bitErr : Bool) : Dev :=
  let n := if bitErr then mget (d.bus p).twin b 0 + 1 else 0
  let d := d.modBus p fun x => { x with twin := if n = 0 then mdel x.twin b else mput x.twin b n }
  let w := d.bw p (txBase b + 25)
  if !bitErr then d else
  let d := d.iff (w.testBit 20) fun d => d.bset p (txBase b + 25) (putBits w 7 0 (min 255 (bits w 7 0 + 1)))
  d.iff (n == 3) fun d =>
    (((d.bset p (txBase b + 25) (putBit (d.bw p (txBase b + 25)) 20 true)).bump (K.BUS_TWIN_EVENTS p)).logE 0x3310 p).raise (0x1E4 + p)

/-- A buffer returns to PENDING, or to ABORTED under an ABORT, with one more retry (R216, R217). -/
def Dev.retryBuf (d : Dev) (p b : Nat) : Dev :=
  let w := d.bw p (txBase b + 25)
  let d := d.bset p (txBase b + 25) (putBits w 15 8 (min 255 (bits w 15 8 + 1)))
  if (d.bus p).abortActive then (d.abortBuf p b).bump (K.BUS_TX_ABORTS p) else d.setTxState p b 1

/-- The frame that a buffer puts on the bus: BRS in FD frames only, the controller's own ESI, no lower identifier in the base format, and the DLC as
written (R210, R224). -/
def Dev.busSent (d : Dev) (p b : Nat) : Nat × Nat × List Byte :=
  let w := d.bw p (txBase b)
  let w1 := d.bw p (txBase b + 1)
  let fd := w.testBit 21
  let w0 := putBit (putBit w 19 (fd && d.obn (K.BUS_STATE p) == 1)) 20 (fd && w.testBit 20)
  (w0, if w.testBit 23 then w1 else w1 / 2 ^ 18 * 2 ^ 18,
   (bytesOf ((List.range 22).map fun i => d.bw p (txBase b + 2 + i))).take (dlcBytes w))

/-- The controller sends an error flag, passive while it is error-passive (R224, R230). -/
def Dev.busFlagSent (d : Dev) (p : Nat) : Dev := (d.bump (K.BUS_ERRF_TX p)).onWire p (.busFlag p (d.obn (K.BUS_STATE p) == 1))

/-- An attempt ends (R216, R223, R228). `tdc` is the loop delay measured in an FD frame that reached the edge between FDF and res (R207).
Error-passive, it waits out the intermission of 3 bits and the suspension of 8, after an error also the delimiter of 8 and the error flags, which superpose to a
length of 6 to 12 bits that the nodes of the bus decide (R224; a free value, log entry 45).
TEC stays in the two cases of ISO 11898-1: an ACK error in error-passive, and a stuff error in the arbitration field on a recessive stuff bit. -/
def Dev.attemptEnd (d : Dev) (p : Nat) (res : BusEnd) (tdc : Option Nat) : Dev :=
  match (d.bus p).active with
  | none => d
  | some b =>
    let fd := (d.bw p (txBase b)).testBit 21
    let d := match tdc with
      | some t => if fd && d.obn (K.BUS_TDC_MODE p) = 1 && res != BusEnd.lost then d.setOb (K.BUS_TDC_MEAS p) (t : Nat) else d
      | none => d
    let d := d.iff (d.obn (K.BUS_STATE p) == 1 && res != BusEnd.lost) fun d =>
      if res == .success then d.modBus p fun x => { x with suspendEnds := d.now + d.bitsNs p 11 }
      else { d.modBus p fun x => { x with suspendEnds := d.now + d.bitsNs p (25 + Config.freeNat d.free % 7) } with free := d.free + 1 }
    let clear := fun (d : Dev) => d.modBus p fun x => { x with active := none, abortActive := false }
    match res with
    | .success =>
      let (w0, w1, data) := d.busSent p b
      let d := ((d.onWire p (.busFrame p w0 w1 data)).event.setTxState p b 4).bump (K.BUS_TX_FRAMES p)
      let d := d.bsetAll p (txBase b + 26) (t80Words (d.bus p).sof)
      let d := ((d.bset p (txBase b + 31) d.seq).setDone p b).twin p b false
      let d := match mget? (d.bus p).tsTag b with
        | some t => (d.modBus p fun x => { x with tsTag := mdel x.tsTag b }).postTs p (tsRec t (d.bus p).sof)
        | none => d
      (clear (d.setOb (K.BUS_TEC p) (d.obn (K.BUS_TEC p) - 1 : Nat))).confine p
    | .lost => clear (((d.retryBuf p b).bump (K.BUS_ARB_LOST p)).twin p b false)
    | .error code place =>
      let stays := (code.val = 3 && d.obn (K.BUS_STATE p) == 1) || (code.val = 1 && place.val = 2)
      let d := (((d.retryBuf p b).busFlagSent p).busErr p).twin p b ((code.val = 4 || code.val = 5) && place.val = 1)
      let d := d.setOb (K.BUS_LAST_ERR p) (code.val : Nat)
      let d := if stays then d else d.setOb (K.BUS_TEC p) (min 263 (d.obn (K.BUS_TEC p) + 8) : Nat)
      (clear d).confine p

/-- Fill a fabric-fed buffer from a fabric frame and SEND it (R218). -/
def Dev.fillBuf (d : Dev) (p b : Nat) (f : QFrame) : Dev :=
  let raw := wordsOf (f.data.take 6)
  let w := raw.set 0 (raw.getD 0 0 / 2 ^ 15 * 2 ^ 15 + raw.getD 0 0 % 32)  -- [14:5] is reserved (R210)
  let data := (f.data.drop 6).take (dlcBytes (w.getD 0 0))
  let words := w ++ List.replicate (2 - w.length) 0 ++ wordsOf data
  let d := d.bsetAll p (txBase b) (words ++ List.replicate (24 - words.length) 0)
  let d := if f.env.tsReq || f.env.oneStep then d.modBus p fun x => { x with tsTag := mput x.tsTag b f.env.tsTag } else d
  d.sendBuf p b

/-- A free fabric-fed buffer takes the next queued frame (R218, R225). -/
def Dev.busRefill (d : Dev) (p : Nat) : Dev :=
  let st := d.obn (K.BUS_STATE p)
  if !d.busOn p || (st != 0 && st != 1) || (d.bus p).listen || !d.portUp p || d.lineBusy p then d else
  match (List.range 32).find? (fun b => d.fabricFed p b && !d.txBusy p b) with
  | none => d
  | some b =>
    let d := d.badHeads p
    let qb := lineQueue p
    let head := fun c => (d.queue (qb + c)).head?
    let ready := fun c => match head c with
      | some f => f.tail.isSome && (decide (4 ≤ c) || d.lowOk p)
      | none => false
    match d.pick qb p ready (fun c => (head c).isSome) with
    | (d, none) => d
    | (d, some c) =>
      match (d.queue (qb + c)).head? with
      | none => d
      | some f => ((d.modQueue (qb + c) fun l => l.drop 1).chargeEnd p (some p) c f.len).fillBuf p b f

/-! ### Reception (R219 to R221) -/

/-- Does filter o match a frame (R213)? -/
def Dev.filterHit (d : Dev) (p o w0 w1 : Nat) : Bool :=
  let f := fun i => d.bw p (0x40 + 4 * o + i)
  let ide := w0.testBit 23
  let id := bits w0 4 0 * 2 ^ 24 + w1
  let fid := bits (f 0) 4 0 * 2 ^ 24 + f 1
  let mask := (bits (f 2) 4 0 * 2 ^ 24 + f 3) &&& (if ide then 2 ^ 29 - 1 else 0x7FF * 2 ^ 18)
  (f 0).testBit 23 && ((f 0).testBit 21 || (f 0).testBit 22 == ide) && (!w0.testBit 22 || (f 0).testBit 20) &&
    (bits (f 0) 19 18 != 1 || !w0.testBit 21) && (bits (f 0) 19 18 != 2 || w0.testBit 21) && (id &&& mask) == (fid &&& mask)

/-- The words of a stored frame: words 0 to 23, 26 to 29 and 31 (R212). -/
def Dev.frontWords (d : Dev) (p o : Nat) (l : List Nat) : Dev :=
  ((d.bsetAll p (rxBase o) (l.take 24)).bsetAll p (rxBase o + 26) ((l.drop 24).take 4)).bset p (rxBase o + 31) (l.getD 28 0)

/-- Store a frame into an object at one event (R220). -/
def Dev.storeRx (d : Dev) (p o : Nat) (ovr : Bool) (words : List Nat) : Dev :=
  d.withFull p fun d =>
    let d := d.event
    let rec_ := words ++ [d.seq]
    let w := d.bw p (rxBase o + 24)
    let lost := fun (d : Dev) =>
      (d.bset p (rxBase o + 24) (putBit (putBits w 7 0 (min 255 (bits w 7 0 + 1))) 20 true)).bump (K.BUS_RX_LOST p)
    if !w.testBit 23 then (d.frontWords p o rec_).bset p (rxBase o + 24) (putBit w 23 true)
    else if !w.testBit 21 then
      (d.modBus p fun x => { x with shadow := mput x.shadow o rec_, shadowFull := insNat o x.shadowFull }).bset p (rxBase o + 24) (putBit w 21 true)
    else if ovr then lost (d.modBus p fun x => { x with shadow := mput x.shadow o rec_ })
    else lost d

/-- Integration is complete; LISTEN_ONLY takes effect (R222). -/
def Dev.busIntegrated (d : Dev) (p : Nat) : Dev :=
  let d := d.modBus p fun x => { x with listen := d.obb (K.BUS_LISTEN_ONLY p) }
  if d.obn (K.BUS_STATE p) = 4 then
    d.setOb (K.BUS_STATE p) (if 127 < d.obn (K.BUS_TEC p) || 127 < d.obn (K.BUS_REC p) then 1 else 0)
  else d

/-- A valid frame is delivered; `ago` ns have passed since its start-of-frame edge (R219, R221). A frame in Probing shows that integration is complete
before the port is Up: it goes to receive objects only (DEDUCED, log entry 45). -/
def Dev.busRx (d : Dev) (p w0 w1 : Nat) (data : List Byte) (ago : Nat) : Dev :=
  let d := d.iff (d.busOn p && d.portState p == 1) fun d => d.busIntegrated p
  let st := d.obn (K.BUS_STATE p)
  if !d.busOn p || 1 < st || (w0.testBit 21 && d.obn (K.BUS_FD_MODE p) == 0) then d
  else if d.lineBusy p then d.bump (K.P_RECAL_DROPS p)
  else
    let w0 := bits w0 23 15 * 2 ^ 15 + bits w0 4 0
    let w1 := if w0.testBit 23 then w1 else w1 / 2 ^ 18 * 2 ^ 18
    let data := data.take (dlcBytes w0) ++ List.replicate (dlcBytes w0 - data.length) 0
    let ts := adjNs (d.tbAgo (d.obn (K.BUS_TS_BASE p)) ago p) (d.ob (K.BUS_TS_ADJ p))
    let body := [w0, w1] ++ wordsOf data
    let words := body ++ List.replicate (24 - body.length) 0 ++ t80Words ts
    let d := d.bump (K.BUS_RX_FRAMES p)
    let rec_ := d.obn (K.BUS_REC p)
    let d := if (d.bus p).listen then d
      else if 127 < rec_ then { d.setOb (K.BUS_REC p) (119 + Config.freeNat d.free % 9 : Nat) with free := d.free + 1 }
      else d.setOb (K.BUS_REC p) (rec_ - 1 : Nat)
    let d := d.confine p
    let hit := (List.range 64).find? fun o => d.filterHit p o w0 w1
    let d := match hit with
      | some o => d.storeRx p o ((d.bw p (0x40 + 4 * o)).testBit 17) words
      | none => d
    let pass := match hit with
      | some o => (d.bw p (0x40 + 4 * o)).testBit 16
      | none => true
    if pass && d.portUp p then
      d.toParser p { bytes := beBytes 3 w0 ++ beBytes 3 w1 ++ data, bad := false, cause := 0, vid := 0, cls := 0,
                     ingTb := d.obn (K.BUS_TS_BASE p), ingTime := ts, est := false, rate := 0 }
    else d

/-- A frame destroyed by an error as the controller receives it; unless it only listens, it sends an error flag (R219, R222, R223, R230). -/
def Dev.busRxError (d : Dev) (p code : Nat) : Dev :=
  if !d.busOn p || 1 < d.obn (K.BUS_STATE p) then d else
  let d := ((d.bump (K.BUS_ERRF_RX p)).busErr p).setOb (K.BUS_LAST_ERR p) (code : Nat)
  if (d.bus p).listen then d else
  (((d.busFlagSent p).busErr p).setOb (K.BUS_REC p) (min 255 (d.obn (K.BUS_REC p) + 1) : Nat)).confine p

/-- An error beside the one that ended a frame, for which REC or TEC rises by 8 (R223). -/
def Dev.busMore (d : Dev) (p code : Nat) (tx : Bool) : Dev :=
  if !d.busOn p || 1 < d.obn (K.BUS_STATE p) || (d.bus p).listen then d else
  let d := d.setOb (K.BUS_LAST_ERR p) (code : Nat)
  (if tx then d.setOb (K.BUS_TEC p) (min 263 (d.obn (K.BUS_TEC p) + 8) : Nat)
   else d.setOb (K.BUS_REC p) (min 255 (d.obn (K.BUS_REC p) + 8) : Nat)).confine p

/-- RELEASE of an object's front buffer at one event (R220). -/
def Dev.releaseRx (d : Dev) (p o : Nat) : Dev :=
  d.withFull p fun d =>
    let w := d.bw p (rxBase o + 24)
    let d := d.event.bset p (rxBase o + 24) (bits w 7 0)
    if w.testBit 21 then
      ((d.frontWords p o (mget (d.bus p).shadow o [])).bset p (rxBase o + 24) (2 ^ 23 + bits w 7 0)).modBus p fun x =>
        { x with shadow := mdel x.shadow o, shadowFull := x.shadowFull.erase o }
    else d

/-! ### Service and modes (R206, R222, R226, R227) -/

/-- Integration begins: the counters stay unless the controller was held in reset, and the attempt on the bus ends (R216, R217, R228). -/
def Dev.busIntegrate (d : Dev) (p : Nat) : Dev :=
  let d := if d.obn (K.BUS_STATE p) = 5 then (d.setOb (K.BUS_TEC p) 0).setOb (K.BUS_REC p) 0 else d
  let d := match (d.bus p).active with
    | some b => ((d.retryBuf p b).twin p b false).modBus p fun x => { x with active := none, abortActive := false }
    | none => d
  if d.obn (K.BUS_STATE p) = 2 || d.obn (K.BUS_STATE p) = 3 then d else d.setOb (K.BUS_STATE p) 4

/-- The port goes Off, Fault or Quarantined: waiting buffers are aborted and the controller is held in reset (R227). -/
def Dev.busReset (d : Dev) (p : Nat) : Dev :=
  let d := d.each ((List.range 32).filter (d.txBusy p)) fun d b => d.abortBuf p b
  (d.modBus p fun x => { x with active := none, abortActive := false, twin := [] }).setOb (K.BUS_STATE p) 5

/-- Leaving BUS mode clears the whole controller space (R227). -/
def Dev.busClear (d : Dev) (p : Nat) : Dev :=
  ((d.busReset p).modBus p fun _ => {}).zero [K.BUS_TEC p, K.BUS_REC p, K.BUS_LAST_ERR p]

/-- Recovery begins (R226). -/
def Dev.busRecover (d : Dev) (p : Nat) : Dev := d.setOb (K.BUS_STATE p) 3

/-- Recovery ends (R226). -/
def Dev.busRecovered (d : Dev) (p : Nat) : Dev :=
  if d.obn (K.BUS_STATE p) != 3 then d else
  let l := (List.range 32).filter fun b => d.txState p b == 3
  let d := d.event.each l fun d b => d.setTxState p b 1
  ((((d.setOb (K.BUS_TEC p) 0).setOb (K.BUS_REC p) 0).setOb (K.BUS_STATE p) 0).logE 0x3302 p)

/-! ### The controller space (R209 to R213, R229) -/

/-- A read of the controller space; `own` says that the reader is the bound core, which locks an object (R209, R220). -/
def Dev.busRead (d : Dev) (p ofs : Nat) (own : Bool) : Dev × Nat :=
  if d.portMode p != 3 then (d, 0) else
  let pend := (List.range 32).foldl (fun a b => if d.txBusy p b then a + 2 ^ b else a) 0
  let full := (List.range 64).foldl (fun a o => if d.rxFull p o then a + 2 ^ o else a) 0
  let ob := fun (k : Nat) => d.obn k
  match ofs with
  | 0 => (d, ob (K.BUS_STATE p) * 2 ^ 21 + ob (K.BUS_TEC p) * 2 ^ 12 + min 255 (ob (K.BUS_REC p)) * 16 + ob (K.BUS_LAST_ERR p))
  | 1 => (d, 0)
  | 2 => (d, bits pend 23 0)
  | 3 => (d, bits pend 31 24)
  | 6 => (d, bits full 23 0)
  | 7 => (d, bits full 47 24)
  | 8 => (d, bits full 63 48)
  | _ =>
    let v := d.bw p ofs
    if 0x800 ≤ ofs && ofs % 32 = 24 then
      (if own then d.bset p ofs (putBit v 22 true) else d, v)
    else (d, v)

/-- A write of the controller space by the bound core; the offset's command or content (R209, R214, R217, R220, R226, R229). -/
def Dev.busWrite (d : Dev) (p ofs v : Nat) : Dev :=
  if d.portMode p != 3 then d else
  if ofs = 1 then (if v.testBit 0 && d.obn (K.BUS_STATE p) = 2 then d.busRecover p else d)
  else if ofs = 4 || ofs = 5 then d.bset p ofs (d.bw p ofs &&& (v ^^^ 0xFFFFFF))
  else if ofs < 0x40 then d
  else if ofs < 0x140 then
    d.bset p ofs (match (ofs - 0x40) % 4 with
      | 0 => v / 2 ^ 16 * 2 ^ 16 + v % 32
      | 2 => v % 32
      | _ => v)
  else if ofs < 0x400 then d
  else if ofs < 0x800 then
    let b := (ofs - 0x400) / 32
    let w := ofs % 32
    if d.fabricFed p b then d
    else if w = 24 then (if v % 4 = 1 then d.sendBuf p b else if v % 4 = 2 then d.abortTx p b else d)
    else if w < 24 then (if d.txBusy p b then d else d.bset p ofs (if w = 0 then v / 2 ^ 15 * 2 ^ 15 + v % 32 else v))
    else if w = 30 then (if d.txBusy p b then d else d.bset p ofs v)
    else d
  else if ofs % 32 = 25 && v.testBit 0 then d.releaseRx p ((ofs - 0x800) / 32)
  else d

/-- A reset of the bound core clears LOCK of its ports' receive objects (R220). -/
def Dev.rxUnlock (d : Dev) (core : Nat) : Dev :=
  d.each ((List.range 96).filter fun p => d.boundCore p == some core) fun d p =>
    d.each ((List.range 64).map fun o => 0x800 + 32 * o + 24) fun d w => d.iff ((d.bw p w).testBit 22) fun d => d.bset p w (putBit (d.bw p w) 22 false)

/-! ### Timing (R205, R207) -/

/-- Do the timing settings keep the limits of R205 and R207? -/
def Dev.busTimingOk (d : Dev) (p : Nat) : Bool :=
  let n := d.nomProduct p
  let h := if d.obn (K.BUS_D_BRP p) = 0 then 1 else 2 * d.obn (K.BUS_D_BRP p)
  let bit := h * (1 + d.obn (K.BUS_D_TSEG1 p) + d.obn (K.BUS_D_TSEG2 p))
  decide (60 ≤ n) && decide (15 ≤ bit) && decide (bit ≤ 2 * n) && decide (d.obn (K.BUS_N_SJW p) ≤ d.obn (K.BUS_N_TSEG2 p)) &&
    decide (d.obn (K.BUS_D_SJW p) ≤ d.obn (K.BUS_D_TSEG2 p)) && (d.obn (K.BUS_TDC_MODE p) == 1 || decide (120 ≤ bit))

end Sys2Proof.Machine
end

