-- ==== Sys2Proof/Machine/Runnel.lean ====
section
/-! DEFINITION. Runnel engines: channels, shifters, FIFOs, windows and swaps (spec 09). Channel ch is channel ch % 8 of engine ch / 8. -/
namespace Sys2Proof.Machine

/-! ### Input words (R174) -/

/-- Flags of the five inputs as bits. -/
def dinBits (l : List DinIn) (f : DinIn → Bool) : Nat := (l.zip (List.range 5)).foldl (fun a x => if f x.1 then a + 2 ^ x.2 else a) 0

/-- Word w of a port's input words (R170, R174). -/
def Dev.inputWord (d : Dev) (p w : Nat) : Nat :=
  let x := d.port p
  match d.portMode p with
  | 7 =>
    let valid := let s := d.portState p; s == 1 || s == 2 || s == 3
    if w = 0 then b2n valid * 2 ^ 23 + dinBits x.din (·.stuck) * 2 ^ 15 + dinBits x.din (·.flutter) * 2 ^ 10 +
      dinBits x.din (·.raw) * 32 + dinBits x.din (·.filt)
    else if w = 1 then b2n (d.obb (K.TILE_SUPPLY_LOW (p / 24))) * 32 + (if (d.tile (p / 24)).vtfPresent then dinBits x.din (·.wirebreak) else 0)
    else if w < 7 then d.obn (K.P_EDGE_COUNT p (w - 2)) else 0
  | 6 =>
    let c := wrapN 48 (d.ob (K.P_ENC_COUNT p))
    let i := wrapN 48 (d.ob (K.P_ENC_INDEX p))
    match w with
    | 0 => c / 2 ^ 24
    | 1 => c % 2 ^ 24
    | 2 => i / 2 ^ 24
    | 3 => i % 2 ^ 24
    | 4 => d.obn (K.P_ENC_ERR p)
    | 5 => b2n (x.encA != (d.obn (K.P_POL_SWAP p)).testBit 0) * 4 + b2n (x.encB != (d.obn (K.P_POL_SWAP p)).testBit 1) * 2 + b2n x.encIdx
    | _ => 0
  | _ => 0

/-- The other word of a pair that is read in one access: words 0 and 1, and in ENC also 2 and 3 (R174). -/
def Dev.inputPair (d : Dev) (p w : Nat) : Bool := (d.portMode p == 7 && w == 0) || (d.portMode p == 6 && (w == 0 || w == 2))

/-- A reader's access to an input word: the first word of a pair latches the second, so that both belong to one sample (R174). Readers 0 to 19 are the
cores, 20 the host and 21 the port's own runnel channel. -/
def Dev.inputRead (d : Dev) (reader p w : Nat) : Dev × Nat :=
  if d.inputPair p w then (d.modPort p fun x => { x with inLatch := mput x.inLatch (8 * reader + w + 1) (d.inputWord p (w + 1)) }, d.inputWord p w)
  else match mget? (d.port p).inLatch (8 * reader + w) with
    | some v => (d.modPort p fun x => { x with inLatch := mdel x.inLatch (8 * reader + w) }, v)
    | none => (d, d.inputWord p w)

/-! ### A channel's parts -/

def Dev.chState (d : Dev) (c : Nat) : Nat := d.obn (K.CH_STATE c)
def Dev.running (d : Dev) (c : Nat) : Bool := d.chState c == 2

/-- Entries of the RX and TX FIFOs by CH_JOIN (R253). -/
def rxCap : Nat → Nat
  | 0 => 4
  | 1 => 8
  | 2 => 0
  | _ => 6

def txCap (j : Nat) : Nat := 8 - rxCap j

/-- TIME of a channel (R251). -/
def Dev.chTime (d : Dev) (c : Nat) : Nat := d.tbNs (d.obn (K.CH_TB c)) / 8 % 2 ^ 24

/-- TMATCH (R252). -/
def Dev.tmatch (d : Dev) (c : Nat) : Bool := decide ((d.chTime c + 2 ^ 24 - (d.chan c).tcmp) % 2 ^ 24 < 2 ^ 23)

/-- One bit time and one symbol time in ns (R244, R245). -/
def Dev.bitNs (d : Dev) (c : Nat) : Nat := (d.obn (K.CH_BIT_DIV c) + 95) / 96
def Dev.symNs (d : Dev) (c : Nat) : Nat :=
  let async := if d.obn (K.CH_SYM_MODE c) = 1 then 1 + (if d.obn (K.CH_PARITY c) = 0 then 0 else 1) + d.obn (K.CH_STOP_BITS c) else 0
  (d.obn (K.CH_BIT_DIV c) * (d.obn (K.CH_SYM_BITS c) + async) + 95) / 96

/-- The symbol format and bit clock that the channel's objects give (R244, R245). -/
def Dev.symFmt (d : Dev) (c : Nat) : SymFmt :=
  { async := d.obn (K.CH_SYM_MODE c) == 1, bits := d.obn (K.CH_SYM_BITS c), parity := d.obn (K.CH_PARITY c), stop := d.obn (K.CH_STOP_BITS c),
    msb := d.obb (K.CH_MSB_FIRST c), div := d.obn (K.CH_BIT_DIV c) }

/-- From the start edge of a symbol to the instant at which the receiver completes it: the sample of its first stop bit, or its last bit in RAW, in ns (R246). -/
def SymFmt.rxNs (f : SymFmt) : Nat :=
  if f.async then (f.div * (2 * (1 + f.bits + (if f.parity = 0 then 0 else 1)) + 1) + 191) / 192 else (f.div * f.bits + 95) / 96

/-- Keep the format in force before a change: a symbol that the receive shifter began before it goes on under it (R245). -/
def Dev.fmtKeep (d : Dev) (c : Nat) : Dev :=
  if !(d.chan c).rxOn then d
  else d.modChan c fun x => { x with fmtWas := (x.fmtWas.filter fun y => decide (d.now < y.1 + y.2.rxNs)) ++ [(d.now, d.symFmt c)] }

/-- The format of a symbol that began `since` ns ago: that before the first change made after its start edge (R245). -/
def Dev.rxFmt (d : Dev) (c since : Nat) : SymFmt :=
  match (d.chan c).fmtWas.find? fun y => decide (d.now < y.1 + since) with
  | some y => y.2
  | none => d.symFmt c

/-- The parity bit of a symbol: PARITY 1 even, 2 odd (R245). -/
def SymFmt.parityBit (f : SymFmt) (sym : Nat) : Bool := (popBits sym f.bits + f.parity) % 2 == 0

/-- The bits of a symbol as the line carries them, in order (R245). -/
def SymFmt.line (f : SymFmt) (sym : Nat) : List Bool :=
  let data := (List.range f.bits).map fun i => sym.testBit (if f.msb then f.bits - 1 - i else i)
  if f.async then [false] ++ data ++ (if f.parity = 0 then [] else [f.parityBit sym]) ++ List.replicate f.stop true else data

/-- One bit of the receiver from its samples: the majority of three in ASYNC, a free sample in RAW (R246). -/
def SymFmt.sampled (f : SymFmt) (s : BitVec 3) : Bool := if f.async then decide (2 ≤ popBits s.toNat 3) else s.getLsbD 1

/-- Data bit `k` on stands at its place in the symbol (R245). -/
def SymFmt.dataOf (f : SymFmt) (l : List Bool) : Nat :=
  ((l.take f.bits).zip (List.range f.bits)).foldl (fun a x => a + b2n x.1 * 2 ^ (if f.msb then f.bits - 1 - x.2 else x.2)) 0

/-- The symbol that the receiver reads from the samples of its bits, with FERR and PERR; none at a false start (R246). -/
def SymFmt.read (f : SymFmt) (samples : List (BitVec 3)) : Option (Nat × Bool × Bool) :=
  let l := samples.map f.sampled
  if !f.async then some (f.dataOf l, false, false)
  else if l.getD 0 true then none
  else
    let sym := f.dataOf (l.drop 1)
    let rest := l.drop (1 + f.bits)
    let stop := rest.getD (if f.parity = 0 then 0 else 1) false
    some (sym, !stop, f.parity != 0 && rest.getD 0 false != f.parityBit sym)

/-- The end of the next symbol of a RAW receiver in 1/96 ns of T0, where the one before it ended at `t`: a whole number of symbols on, so that no rounding
adds up (R244). -/
def SymFmt.rawEnd (f : SymFmt) (t now : Nat) : Nat :=
  let n := max (f.div * f.bits) 1
  t + n * max 1 ((96 * now - t) / n)

/-- IV IDLE: the line has been at its idle level for RX_IDLE bit times; `still` says that it has not left it since `idleFrom` (R243). -/
def Dev.rxIdle (d : Dev) (c : Nat) (still : Bool) : Bool :=
  still && decide ((d.chan c).idleFrom + (d.obn (K.CH_RX_IDLE c) * d.obn (K.CH_BIT_DIV c) + 95) / 96 ≤ d.now)

/-- Is the channel's line driver on (R35, R130, R161, R248)? -/
def Dev.driverOn (d : Dev) (c : Nat) : Bool :=
  let x := d.chan c
  let off := d.sump.hardHold || ((d.tile (c / 24)).sweep.elim false fun s => s.port == c && s.acquiring)
  !off && (match d.portMode c with
    | 4 => x.drv == 1 || (x.drv == 2 && (x.inRun || x.shift.isSome || decide (d.now < x.drvEnds)))
    | 5 => x.drv != 0
    | _ => false)

/-- Does the front-end invert the channel's pair between the pins and the shifters (R140, R141)? LA transmits in F422; LB receives there. M485 follows
POL_SWAP [0] while POL_AUTO = 0, and else the swap that the front-end found. -/
def Dev.linePol (d : Dev) (c : Nat) (rx : Bool) : Bool :=
  let swap := d.obn (K.P_POL_SWAP c)
  match d.portMode c with
  | 4 => if d.obb (K.P_POL_AUTO c) then (d.port c).polSwap else swap.testBit 0
  | 5 => swap.testBit (if rx then 1 else 0)
  | 6 => swap.testBit 0
  | _ => false

/-- The input vector; `lin` holds the pairs of RXD and RXD2 as the line shows them, before polarity handling, and in bit 3 whether the receive line has kept its idle level since the last
stop-bit sample or since the receiver was enabled (R243). -/
def Dev.iv (d : Dev) (c lin : Nat) : Nat :=
  let x := d.chan c
  let p := d.port c
  let f := fun i => ((p.din[i]?).elim false (·.filt))
  let low := match d.portMode c with
    | 4 => b2n (lin.testBit 0 != d.linePol c true)
    | 5 => b2n (lin.testBit 0 != d.linePol c true) + b2n (lin.testBit 1 != d.linePol c false) * 2
    | 6 => b2n (p.encA != (d.obn (K.P_POL_SWAP c)).testBit 0) + b2n (p.encB != (d.obn (K.P_POL_SWAP c)).testBit 1) * 2 + b2n p.encIdx * 4
    | 7 => b2n (f 0) + b2n (f 1) * 2 + b2n (f 4) * 4
    | _ => 0
  low + b2n (d.rxIdle c (lin.testBit 3)) * 8 + b2n (x.cyc && (d.boundCtx c).isSome) * 16 + b2n (d.tmatch c) * 32 + b2n (x.thr.isNone && x.shift.isNone) * 64 + b2n x.rhr.isSome * 128

/-- The channel sees its line. -/
def Dev.sees (d : Dev) (c lin : Nat) : Dev := d.modChan c fun x => { x with lin := lin }

/-- RSTAT (R243). -/
def Dev.rstat (d : Dev) (c lin : Nat) : Nat :=
  let x := d.chan c
  d.iv c lin * 256 + b2n x.rend * 128 + b2n x.rsof * 64 + b2n ((d.obn (K.CH_FLAGS c)).testBit 3) * 32 +
    b2n (decide (rxCap (d.obn (K.CH_JOIN c)) ≤ x.rxF.length)) * 16 + b2n x.txF.isEmpty * 8 + b2n x.rovr * 4 + b2n x.rperr * 2 + b2n x.rferr

/-- Is the channel in the middle of a shift (R240)? -/
def Chan.midShift (x : Chan) : Bool := x.inRun || x.rxOpen

/-- Is its instruction blocked for longer than a symbol time (R240)? -/
def Dev.stalled (d : Dev) (c : Nat) : Bool := (d.chan c).block != .none && decide ((d.chan c).blockedAt + d.symNs c < d.now)

/-- Set a sticky flag and count (R269, R271). -/
def Dev.chFlag (d : Dev) (c bitNo : Nat) (counter : Option Nat) : Dev :=
  let d := d.setOb (K.CH_FLAGS c) (putBit (d.obn (K.CH_FLAGS c)) bitNo true : Nat)
  match counter with
  | some k => d.bump k
  | none => d

/-! ### Toward the parser and the bound core (R254, R255) -/

/-- The parser closes the frame that it has open; a frame without a byte is none (R254). What is not passed in Probing is lost (R126). -/
def Dev.endRx (d : Dev) (c : Nat) (bad : Bool) (cause : Nat) : Dev :=
  let x := d.chan c
  let d := d.modChan c fun x => { x with parsing := false, rxBytes := [] }
  if x.rxBytes.isEmpty || !d.portUp c then d
  else d.toParser c { bytes := x.rxBytes, bad := bad, cause := cause, vid := 0, cls := 0, ingTb := d.obn (K.CH_TB c),
                      ingTime := x.rxTime, est := x.rxEst, rate := 6 }

/-- Bytes of the open frame reach the parser, up to 2,000 of them (R254). -/
def Dev.rxData (d : Dev) (c : Nat) (l : List Byte) : Dev := d.modChan c fun x => { x with rxBytes := x.rxBytes ++ l.take (2000 - x.rxBytes.length) }

/-- The bytes of an entry (R253). -/
def RxEnt.bytes (e : RxEnt) : List Byte := (beBytes 3 (e.data % 2 ^ 24)).take (e.tag % 4)

/-- Take the head entry off the RX FIFO. -/
def Chan.popRx (x : Chan) : Chan := { x with rxF := x.rxF.drop 1, rxClose := x.rxClose.map (· - 1) }

/-- A closure that stands in front of the next entry ends the open frame with a bad tail (R242). -/
def Dev.parserClose (d : Dev) (c : Nat) : Dev :=
  let x := d.chan c
  if !x.rxClose.contains 0 then d else
  let d := d.modChan c fun x => { x with rxClose := x.rxClose.filter (· != 0) }
  if x.parsing then d.endRx c true 5 else d

/-- The parser takes the head entry of a channel's RX FIFO (R254): SOF begins a frame and END ends it; while the port is not in service, and up to the
next SOF after a frame was cut, entries are discarded (R126, R129). -/
def Dev.parserTake (d : Dev) (c : Nat) : Dev :=
  let d := d.parserClose c
  match (d.chan c).rxF with
  | [] => d
  | e :: _ =>
    let sof := e.tag.testBit 3
    let d := d.modChan c Chan.popRx
    let d := d.iff (sof && (d.chan c).parsing) fun d => d.endRx c true 5
    let d := if !d.portUp c then d.modChan c fun x => { x with parsing := false, rxBytes := [] }
      else if !sof && !(d.chan c).parsing then d
      else
        let d := d.iff sof fun d => d.modChan c fun x => { x with parsing := true, rxTime := e.time, rxEst := e.est }
        let d := d.rxData c e.bytes
        if !e.tag.testBit 2 then d
        else if e.drop then d.modChan c fun x => { x with parsing := false, rxBytes := [] }
        else d.endRx c (e.cause != 0) e.cause
    d.parserClose c

/-- The parser takes n entries of a channel that feeds it. -/
def Dev.parserTakes (d : Dev) (c n : Nat) : Dev := if d.obn (K.CH_RX_SINK c) = 0 then (d.parserClose c).each (List.range n) fun d _ => d.parserTake c else d

/-- The parser has taken some of the entries: the spec does not say how fast it takes them, so that their number is free (log entry 46). -/
def Dev.parserSome (d : Dev) (c : Nat) : Dev :=
  let n := (d.chan c).rxF.length
  if n = 0 || d.obn (K.CH_RX_SINK c) != 0 then d
  else { d with free := d.free + 1 }.parserTakes c (Config.freeNat d.free % (n + 1))

/-- The parser has taken every entry. -/
def Dev.parserAll (d : Dev) (c : Nat) : Dev := d.parserTakes c (d.chan c).rxF.length

/-- A frame in reception is cut: what the parser has of it gets a bad tail (R22, R129). -/
def Dev.rxCut (d : Dev) (c cause : Nat) : Dev :=
  let d := d.parserAll c
  if (d.chan c).parsing then d.endRx c true cause else d

/-- The frame that the channel was pushing is torn: its closure waits behind its entries (R242). -/
def Dev.rxTorn (d : Dev) (c : Nat) : Dev :=
  let x := d.chan c
  let mark := x.rxOpen && d.obn (K.CH_RX_SINK c) = 0
  (d.modChan c fun x => { x with newFrame := true, rxOpen := false, pushed := [], rxLostEnt := false,
                                 rxClose := if mark then x.rxClose ++ [x.rxF.length] else x.rxClose }).iff mark fun d => d.parserClose c

/-- Does the CRC check of a received frame fail (R255)? -/
def Dev.crcFails (d : Dev) (c : Nat) (l : List Byte) : Bool :=
  let n := l.length
  d.obn (K.CH_CRC_MODE c) == 1 && !(decide (4 ≤ n) && l.drop (n - 4) == leBytes4 (crc32C ((l.take (n - 4)).drop (d.obn (K.CH_CRC_SKIP c)))))

/-- An entry goes into the RX FIFO (R250, R253 to R255): its tag, the frame's ingress time with SOF, the frame's tail and counters with END. -/
def Dev.rxPush (d : Dev) (c : Nat) (last bad : Bool) (cnt v : Nat) : Dev :=
  let x := d.chan c
  let toParser := d.obn (K.CH_RX_SINK c) == 0
  let l := beBytes cnt (v % 2 ^ (8 * cnt))
  let bytes := (if x.newFrame then [] else x.pushed) ++ l
  let tooLong := toParser && decide (2000 < bytes.length)
  let real := last && !bytes.isEmpty
  let crc := real && d.crcFails c bytes
  let cause := if !last then 0 else if bad then 2 else if tooLong then 4 else if toParser && x.rxLostEnt then 7 else if crc then 1 else 0
  let drop := real && toParser && d.lineBusy c
  let time := match x.ingTs with
    | some t => adjNs t (d.ob (K.CH_TS_ADJ c))
    | none => d.tbNs (d.obn (K.CH_TB c)) - d.symNs c
  let e : RxEnt := { data := beNat (l ++ List.replicate (3 - cnt) 0), tag := b2n (bad || crc) * 16 + b2n x.newFrame * 8 + b2n last * 4 + cnt,
                     cause := cause, drop := drop, time := if x.newFrame then time else 0, est := x.newFrame && x.ingTs.isNone }
  let d := d.modChan c fun x => { x with rxF := x.rxF ++ [e], newFrame := last, rxOpen := !last, pushed := if last then [] else bytes,
                                         rxLostEnt := x.rxLostEnt && !last, ingTs := if x.newFrame && toParser then none else x.ingTs }
  let d := d.iff (tooLong && (x.newFrame || decide (x.pushed.length ≤ 2000))) fun d => d.bump (K.CH_OVERSIZE c)
  let d := d.iff (crc && !drop) fun d => d.bump (K.CH_CRC_ERR c)
  if drop then d.bump (K.P_RECAL_DROPS c) else d.iff (real && cause == 0) fun d => d.bump (K.CH_RX_FRAMES c)

/-! ### From the fabric and the bound core (R256) -/

/-- Give the TX FIFO as much of the frame on the line as it has room for. -/
def Dev.fillTx (d : Dev) (c : Nat) : Nat → Dev
  | 0 => d
  | fuel + 1 =>
    match mget? d.sw.line c with
    | none => d
    | some o =>
      let sent := mget d.sw.txOpen c 0
      let n := o.frame.data.length
      let x := d.chan c
      if n ≤ sent || txCap (d.obn (K.CH_JOIN c)) ≤ x.txF.length then d else
      let k := min 3 (n - sent)
      let l := (o.frame.data.drop sent).take k
      let tag := b2n (sent == 0) * 8 + b2n (sent + k == n) * 4 + k
      let ask := if o.frame.env.tsReq || o.frame.env.oneStep then some o.frame.env.tsTag else none
      let d := d.modChan c fun x => { x with txF := x.txF ++ [⟨beNat (l ++ List.replicate (3 - k) 0), tag⟩],
                                             txTs := if sent = 0 then x.txTs ++ [ask] else x.txTs }
      (d.modSw fun s => { s with txOpen := mput s.txOpen c (sent + k) }).fillTx c fuel

/-- A runnel channel takes the next frame of its port's queues (R256). Without a TX FIFO whole frames are discarded at the head of their queue, those with
a bad tail as such (R356). -/
def Dev.runnelStart (d : Dev) (c : Nat) : Dev :=
  if (mget? d.sw.line c).isSome || !d.portUp c || d.lineBusy c then d else
  let d := d.badHeads c
  let qb := lineQueue c
  if txCap (d.obn (K.CH_JOIN c)) = 0 then
    d.each (List.range 8) fun d k =>
      let whole := (d.queue (qb + k)).takeWhile fun f => f.tail.isSome
      let d := whole.foldl (fun d f => (d.dropTs c f.env).bump (if f.tail.elim false (·.1) then K.Q_BAD_TAIL (qb + k) else K.CH_TX_DISCARD c)) d
      if whole.isEmpty then d else d.modQueue (qb + k) fun l => l.drop whole.length
  else if d.obn (K.CH_TX_SRC c) != 0 then d
  else
    let head := fun k => (d.queue (qb + k)).head?
    let ready := fun k => match head k with
      | some f => f.tail.isSome && (decide (4 ≤ k) || d.lowOk c)
      | none => false
    match d.pick qb c ready (fun k => (head k).isSome) with
    | (d, none) => d
    | (d, some k) =>
      match (d.queue (qb + k)).head? with
      | none => d
      | some f => (d.modSw fun s => { s with line := mput s.line c ⟨qb + k, f, d.now, 0⟩, txOpen := mdel s.txOpen c }).fillTx c 8

/-- The frame is wholly in the TX FIFO: the output has finished with it (R343, R367). -/
def Dev.runnelEnd (d : Dev) (c : Nat) : Dev :=
  match mget? d.sw.line c with
  | none => d
  | some o =>
    let d := d.fillTx c 8
    if mget d.sw.txOpen c 0 < o.frame.data.length then d else
    ((d.offLine c o).modSw fun s => { s with txOpen := mdel s.txOpen c }).chargeEnd c (some c) (o.queue % 8) o.frame.len

/-! ### The transmit shifter (R247, R250, R252) -/

/-- The shifter takes a symbol, in the format then in force, and shifts it onto the line while the driver is on (R141, R245, R247, R248). -/
def Dev.txTake (d : Dev) (c sym : Nat) (cont first : Bool) : Dev :=
  let x := d.chan c
  let t := adjNs (d.tbAgo (d.obn (K.CH_TB c)) 0 c + (if d.portMode c = 4 && x.drv = 2 && !x.inRun then d.bitNs c else 0)) (d.ob (K.CH_TS_ADJ c))
  let ask := if first then x.txTs.head?.join else none
  let d := d.modChan c fun x => { x with shift := some (sym, cont), inRun := cont || x.inRun, armOut := false, txTs := if first then x.txTs.drop 1 else x.txTs }
  let d := match ask with
    | some tag => d.postTs c (tsRec tag t)
    | none => d
  let d := if x.armOut then d.postTs c (tsRec 0 t) else d
  d.iff (d.driverOn c) fun d => d.emit (.symbol c (((d.symFmt c).line sym).map (· != d.linePol c false)))

/-- The idle shifter takes THR, unless TXAT holds the first symbol of a run (R252). -/
def Dev.txLoad (d : Dev) (c : Nat) : Dev :=
  let x := d.chan c
  match x.shift, x.thr with
  | none, some (s, cont, first) =>
    if d.obb (K.CH_TXAT c) && !x.inRun && !d.tmatch c then d
    else (d.modChan c fun x => { x with thr := none, crcLeft := x.crcNext, crcNext := [] }).txTake c s cont first
  | _, _ => d

/-- SC counts a symbol of its direction (R260). -/
def Dev.scCount (d : Dev) (c : Nat) (tx : Bool) : Dev := d.modChan c fun x => if x.scTx = tx then { x with sc := x.sc - 1 } else x

/-- T0 of the first ECK edge at which TMATCH holds, where it does not hold yet (R252). ECK's edges lie at multiples of 8/3 ns of T0 (log entry 46). -/
def Dev.matchEdge (d : Dev) (c : Nat) : Dev :=
  let t := d.tbNs (d.obn (K.CH_TB c))
  let d := d.upToOn (d.obn (K.CH_TB c)) (t - t % 8 + (((d.chan c).tcmp + 2 ^ 24 - d.chTime c) % 2 ^ 24) * 8)
  d.upTo (((3 * d.now + 7) / 8 * 8 + 2) / 3)

/-- The shifter's symbol ends (R247, R255). -/
def Dev.txSymbolEnd (d : Dev) (c : Nat) : Dev :=
  let x := d.chan c
  match x.shift with
  | none =>
    if x.thr.isSome && d.tmatch c then d.txLoad c
    else if x.thr.isSome then (d.matchEdge c).txLoad c else d
  | some (_, cont) =>
    let d := (d.modChan c fun x => { x with shift := none }).scCount c true
    if cont then
      match x.crcLeft with
      | b :: r => (d.modChan c fun x => { x with crcLeft := r }).txTake c b.toNat (!r.isEmpty) false
      | [] => if x.thr.isNone then d.chFlag c 0 (some (K.CH_TXUNDER_CNT c)) else d.txLoad c
    else (d.modChan c fun x => { x with inRun := false, drvEnds := d.now + d.bitNs c }).txLoad c

/-! ### The receive shifter (R246, R249, R250) -/

/-- The receive shifter has sampled the bits of a symbol: the start bit, the data, the parity bit and the first stop bit, or the data alone in RAW, where
symbols follow each other at the bit clock. A false start goes back to the hunt (R246). An armed capture takes a start edge that comes no earlier than its
SET TSARM (R250). -/
def Dev.rxSymbol (d : Dev) (c : Nat) (y : Sampled) : Dev :=
  let x := d.chan c
  if !(x.rxOn && decide (4 ≤ d.portMode c) && d.chState c != 0) then d else
  let f := d.rxFmt c y.since
  let bits := if d.linePol c true then y.bits.map fun b => ~~~b else y.bits
  match f.read bits with
  | none => d
  | some (sym, ferr, perr) =>
  let raw := if f.async then none else some (x.rawAt.elim (96 * d.now) fun t => f.rawEnd t d.now)
  let d := d.upTo (raw.elim 0 fun t => (t + 95) / 96)
  let ovr := x.rhr.isSome
  let took := x.armIn && decide (x.armAt + y.since ≤ d.now)
  let edge := d.tbAgo (d.obn (K.CH_TB c)) f.rxNs c
  let d := d.modChan c fun x => { x with rhr := some ⟨sym, ferr, perr, ovr⟩, armIn := x.armIn && !took, ingTs := if took then some edge else x.ingTs,
                                         idleFrom := if f.async then d.now else x.idleFrom, rawAt := raw, fmtWas := [],
                                         lin := x.lin / 2 % 4 * 2 + b2n ((y.bits.getLast?.map f.sampled).getD true) + 8 }
  (if ovr then d.chFlag c 1 (some (K.CH_RXOVER_CNT c)) else d).scCount c false

/-! ### Windows, banks and swaps (R235 to R242) -/

def winOf (e w : Nat) : Nat := 4 * e + w

/-- The channels that run window w of an engine. -/
def Dev.winChans (d : Dev) (e w : Nat) : List Nat := (List.range 8).filter fun k => d.obn (K.CH_WIN (8 * e + k)) == w

def Dev.activeBank (d : Dev) (e w : Nat) : Bool := ((d.engine e).active[w]?).getD false

/-- The memory address of word a of a bank of a window (log entry 4). -/
def runAddr (e w : Nat) (bank : Bool) (a : Nat) : Nat := 0x1200000 + e * 0x800 + w * 0x200 + b2n bank * 0x100 + a

/-- The bytes of the image in a bank of a window (R271): none before a program is written. -/
def Dev.imageLen (d : Dev) (e w : Nat) (bank : Bool) : Nat := mget (d.engine e).lens (2 * w + b2n bank) 0
def Dev.setImageLen (d : Dev) (e w : Nat) (bank : Bool) (n : Nat) : Dev := d.modEngine e fun g => { g with lens := mput g.lens (2 * w + b2n bank) n }

/-- A bank of a window takes a program; words beyond it are CTL HALT (R238). -/
def padProg (l : List Nat) : List Nat := ((l.map (· % 2 ^ 14)) ++ List.replicate 256 0x3880).take 256
def Dev.putProg (d : Dev) (e w : Nat) (bank : Bool) (l : List Nat) : Dev :=
  (d.stAll (runAddr e w bank 0) (padProg l)).setImageLen e w bank (2 * min l.length 256)

/-- The shadow image of a window as WIN_PROG reads it (R271). -/
def Dev.shadowImage (d : Dev) (e w : Nat) : List Byte :=
  let bank := !d.activeBank e w
  ((d.ldAll (runAddr e w bank 0) 256).flatMap fun v => beBytes 2 v).take (d.imageLen e w bank)

def Dev.winSwap (d : Dev) (e w : Nat) : Option WinSwap := (d.engine e).swaps.find? fun s => s.win == w

/-- Set WIN_STATE and WIN_LANDED as the swap stands. -/
def Dev.winObjects (d : Dev) (e w : Nat) : Dev :=
  match d.winSwap e w with
  | some s => (d.setOb (K.WIN_STATE (winOf e w)) 1).setOb (K.WIN_LANDED (winOf e w)) (s.flipped.foldl (fun a k => a + 2 ^ k) 0 : Nat)
  | none => (d.setOb (K.WIN_STATE (winOf e w)) 0).setOb (K.WIN_LANDED (winOf e w)) 0

/-- The banks of a window exchange roles at one event (R239). -/
def Dev.landSwap (d : Dev) (e w : Nat) : Dev :=
  let d := d.event.modEngine e fun g =>
    { g with active := g.active.modify w (!·), swaps := g.swaps.filter fun s => s.win != w }
  let a := d.ob (K.WIN_ID_ACTIVE (winOf e w))
  let s := d.ob (K.WIN_ID_SHADOW (winOf e w))
  let d := (d.setOb (K.WIN_ID_ACTIVE (winOf e w)) s).setOb (K.WIN_ID_SHADOW (winOf e w)) a
  (((d.winObjects e w).bump (K.WIN_SWAPS (winOf e w))).logE 0x4010 (winOf e w)).raise (0x424 + e)

/-- A pending swap lands once every channel of the window has flipped (R239). -/
def Dev.judgeSwap (d : Dev) (e w : Nat) : Dev :=
  match d.winSwap e w with
  | some s => if (d.winChans e w).all fun k => s.flipped.contains k then d.landSwap e w else d.winObjects e w
  | none => d

/-- Note that channel k has flipped; the last lands the swap. -/
def Dev.noteFlip (d : Dev) (e w k : Nat) : Dev :=
  let d := d.modEngine e fun g => { g with swaps := g.swaps.map fun s => if s.win = w then { s with flipped := insNat k s.flipped } else s }
  d.judgeSwap e w

/-- A channel that still has to flip: in a pending swap of its window, or to another window. -/
def Dev.flipWaits (d : Dev) (c : Nat) : Bool :=
  (d.chan c).toWin.isSome || match d.winSwap (c / 8) (d.obn (K.CH_WIN c)) with
  | some s => !s.flipped.contains (c % 8)
  | none => false

/-- The frame at the head of those that asked for a timestamp goes unsent: its record is DROPPED (R195). -/
def Dev.headTsDropped (d : Dev) (c : Nat) : Dev :=
  let ask := (d.chan c).txTs.head?.join
  let d := d.modChan c fun x => { x with txTs := x.txTs.drop 1, pulled := false }
  match ask with
  | some tag => d.postTs c ⟨true, tag, 0, 0⟩
  | none => d

/-- A channel flips and goes on at word `pc` of the new bank, in its window or in the one that a personality swap loaded for it; a blocked instruction
is abandoned (R241, R339). -/
def Dev.flip (d : Dev) (c pc : Nat) : Dev :=
  let w := d.obn (K.CH_WIN c)
  let go := fun (d : Dev) (bank : Bool) =>
    (d.modChan c fun x => { x with bank := bank, toWin := none, block := .none, waitBit := none, flipDue := false }).setOb (K.CH_PC c) (pc : Nat)
  match (d.chan c).toWin with
  | some k => ((go d (d.activeBank (c / 8) k)).setOb (K.CH_WIN c) (k : Nat)).noteFlip (c / 8) w (c % 8)
  | none => (go d (!d.activeBank (c / 8) w)).noteFlip (c / 8) w (c % 8)

/-- A channel that is halted, stopped or in reset flips at once; its next start is at word 0 (R241). -/
def Dev.flipIdle (d : Dev) (c : Nat) : Dev := if d.flipWaits c then d.flip c 0 else d

/-- A flip at a landing point of a running channel (R241). -/
def Dev.flipLand (d : Dev) (c : Nat) : Dev := if d.flipWaits c && d.running c then d.flip c 1 else d

/-- A forced flip (R242): a channel out of RESET starts at word 0. The frame that it was pushing is torn. A frame whose first byte is lost from THR posts its record as DROPPED (R195). -/
def Dev.flipForce (d : Dev) (c : Nat) : Dev :=
  let d := d.rxTorn c
  let lost := (d.chan c).pulled || ((d.chan c).thr.elim false fun y => y.2.2)
  let d := d.iff lost fun d => d.headTsDropped c
  let d := d.modChan c fun x => { x with shift := none, thr := none, inRun := false, rhr := none, crcNext := [], crcLeft := [] }
  let d := d.chFlag c 3 (some (K.CH_TORN_CNT c))
  let d := if d.chState c = 0 then d else d.setOb (K.CH_STATE c) 2
  d.flip c 0

/-! ### Channel states (R233, R234, R266, R269) -/

/-- The flushes of R234. -/
def Dev.flushChan (d : Dev) (c : Nat) : Dev :=
  let x := d.chan c
  let d := if x.parsing then d.endRx c true 5 else d
  let d := x.txTs.foldl (fun d t => match t with
    | some tag => d.postTs c ⟨true, tag, 0, 0⟩
    | none => d) d
  let d := match mget? d.sw.line c with
    | some o => if mget d.sw.txOpen c 0 = 0 then d else (d.offLine c o).modSw fun s => { s with txOpen := mdel s.txOpen c }
    | none => d
  d.modChan c fun x => { x with x := 0, y := 0, tcmp := 0, sc := 0, scTx := false, thr := none, shift := none, inRun := false,
                                rhr := none, rxF := [], rxClose := [], txF := [], txByte := 0, newFrame := true, rxOpen := false, pushed := [],
                                rxLostEnt := false, parsing := false, rxBytes := [], txOpen := false, txBytes := [], txTs := [], pulled := false, crcNext := [], crcLeft := [], block := .none, waitBit := none }

/-- The first slot of a channel from an instant on, in thirds of a ns: the one in ECK cycle n with n mod 8 = k, the cycles counted from T0 = 0 (R231; log
entry 46). -/
def slotFrom (c now : Nat) : Nat := 8 * (c % 8) + (3 * now + 63 - 8 * (c % 8)) / 64 * 64

/-- The channel starts at word 0 of the bank in use (R234, R236); its next entry carries SOF, and a frame that it left without END is torn (R254; log
entry 46). -/
def Dev.startChan (d : Dev) (c : Nat) : Dev :=
  let d := d.rxTorn c
  let d := if d.flipWaits c || (d.winSwap (c / 8) (d.obn (K.CH_WIN c))).isSome then d
    else d.modChan c fun x => { x with bank := d.activeBank (c / 8) (d.obn (K.CH_WIN c)) }
  ((d.setOb (K.CH_STATE c) 2).setOb (K.CH_PC c) 0).modChan c fun x => { x with block := .none, waitBit := none, issueAt := slotFrom c d.now }

/-- The channel enters RESET (R234). -/
def Dev.chReset (d : Dev) (c : Nat) : Dev :=
  if d.chState c = 0 then d else (((d.flushChan c).setOb (K.CH_STATE c) 0).setOb (K.CH_PC c) 0).flipIdle c

/-- The channel leaves RESET (R234). -/
def Dev.chLeaveReset (d : Dev) (c : Nat) : Dev :=
  if d.chState c != 0 then d
  else if d.obb (K.CH_HOLDSTART c) then (d.setOb (K.CH_STATE c) 1).setOb (K.CH_PC c) 0
  else d.startChan c

/-- Keep the channel in or out of reset as its port stands (R232). -/
def Dev.chFollow (d : Dev) (p : Nat) : Dev :=
  let st := d.portState p
  if 4 ≤ d.portMode p && (st == 1 || st == 2 || st == 3) then d.chLeaveReset p else d.chReset p

/-- HALTED, by CTL HALT or a command. -/
def Dev.haltChan (d : Dev) (c : Nat) : Dev :=
  ((d.setOb (K.CH_STATE c) 3).modChan c fun x => { x with block := .none, waitBit := none }).flipIdle c

/-- FAULTED at an illegal or poisoned word (R263). -/
def Dev.faultChan (d : Dev) (c : Nat) (poisoned : Bool) : Dev :=
  let d := (d.setOb (K.CH_STATE c) 4).modChan c fun x => { x with block := .none, blockedAt := d.now, waitBit := none }
  ((d.chFlag c (if poisoned then 6 else 5) none).logE (if poisoned then 0x4002 else 0x4001) c).raise (0x3C4 + c)

/-- Recovery by the stall watchdog (R266, R241). -/
def Dev.recoverChan (d : Dev) (c : Nat) : Dev :=
  let d := d.flushChan c
  let d := ((d.chFlag c 4 (some (K.CH_RECOVERIES c))).logE 0x4000 c).raise 0x546
  let d := if d.flipWaits c then d.flip c 0 else d
  d.startChan c

/-- Is the channel blocked in a way that the watchdog counts (R266)? -/
def Dev.wdogCounts (d : Dev) (c : Nat) : Bool :=
  d.chState c == 4 || (d.running c && (match (d.chan c).block with
    | .pushFull => true
    | .pullOpen => true
    | .thrFull => true
    | .sync => true
    | _ => false))

/-! ### Swap requests (R239) -/

/-- A swap request on window w of engine e: the status, DONE 0, BUSY 0x0A (the codes of R8), and the state. -/
def Dev.askSwap (d : Dev) (e w mode busy : Nat) : Dev × Nat :=
  let l := (d.winChans e w).map fun k => 8 * e + k
  let live := l.filter fun c => d.chState c != 0
  let pend := (d.winSwap e w).isSome
  if mode = 3 then
    match d.winSwap e w with
    | some s => if s.flipped.isEmpty then
        ((d.each l fun d c => d.modChan c fun x => { x with flipDue := false }).modEngine e fun g =>
          { g with swaps := g.swaps.filter fun s => s.win != w }).winObjects e w |> fun d => (d, 0) else (d, busy)
    | none => (d, busy)
  else if pend && mode != 2 then (d, busy)
  else if live.isEmpty && !pend then
    ((d.each l fun d c => d.modChan c fun x => { x with bank := !d.activeBank e w }).landSwap e w, 0)
  else
    let arm := fun (d : Dev) => if pend then d else (d.modEngine e fun g => { g with swaps := g.swaps ++ [⟨w, []⟩] }).winObjects e w
    match mode with
    | 0 =>
      let d := arm d
      (d.each l fun d c => let s := d.chState c; if s = 0 || s = 1 || s = 3 then d.flipIdle c else d, 0)
    | 1 =>
      if l.any fun c => d.running c && (d.chan c).midShift && d.stalled c then (d, busy)
      else ((arm d).each l fun d c => if d.flipWaits c then d.flip c (if d.running c then 1 else 0) else d, 0)
    | _ =>
      let d := (arm d).each l fun d c => if d.flipWaits c then d.flipForce c else d
      (((d.bump (K.WIN_FORCED (winOf e w))).logE 0x4011 (winOf e w)), 0)

/-- A cycle boundary of the bound context as a port's channel sees it (R241, R243). -/
def Dev.chBoundary (d : Dev) (p : Nat) : Dev :=
  let d := d.modChan p fun x => { x with cyc := !x.cyc }
  if d.flipWaits p && d.running p then
    if (d.chan p).midShift then d.modChan p fun x => { x with flipDue := true } else d.flipLand p
  else d

/-! ### Issuing an instruction (R231, R232) -/

/-- The slot of a channel in which it issues now, in thirds of a ns: the one at which it stands, or the last one past of its series (R231). -/
def Dev.slotAt (d : Dev) (c : Nat) : Nat :=
  let a := (d.chan c).issueAt
  a + (3 * d.now - a) / 64 * 64

/-- The instruction completes: the PC goes on and `extra` slots follow in which nothing issues. -/
def Dev.rnNext (d : Dev) (c pc extra : Nat) : Dev :=
  let d := (d.setOb (K.CH_PC c) (pc % 256 : Nat)).modChan c fun x =>
    { x with block := .none, waitBit := none, issueAt := d.slotAt c + 64 * (1 + extra) }
  if (d.chan c).flipDue && !(d.chan c).midShift then d.flipLand c else d

/-- The instruction blocks; its first slot starts the count of R266. -/
def Dev.rnBlock (d : Dev) (c : Nat) (b : Block) : Dev :=
  d.modChan c fun x => { x with block := b, blockedAt := if x.block = .none then d.now else x.blockedAt, issueAt := d.slotAt c + 64 }

/-- The PC of a channel. -/
def Dev.chPc (d : Dev) (c : Nat) : Nat := d.obn (K.CH_PC c)

/-- A channel issues: T0 is at its slot, and it is RUNNING (R231). -/
def Dev.issue (d : Dev) (c : Nat) (f : Dev → Dev) : Dev :=
  if d.running c then f (d.upTo (((d.chan c).issueAt + 2) / 3)) else d

/-- Issue an instruction that completes in its slot. -/
def Dev.rnPlain (d : Dev) (c dly : Nat) (f : Dev → Dev) : Dev := d.issue c fun d => (f d).rnNext c (d.chPc c + 1) dly

/-- Write X, or Y with `toY`. -/
def Dev.setXY (d : Dev) (c : Nat) (toY : Bool) (v : Nat) : Dev :=
  d.modChan c fun x => if toY then { x with y := v % 2 ^ 24 } else { x with x := v % 2 ^ 24 }

/-- Constant i of a channel. -/
def Dev.chK (d : Dev) (c i : Nat) : Nat := d.obn (K.CH_K c i)

/-- The TX FIFO is empty: block, or set TXSTALL while a transmit frame is open (R257). -/
def Dev.txEmpty (d : Dev) (c : Nat) : Dev :=
  if (d.chan c).txOpen then
    (if (d.chan c).block = .pullOpen then d else d.chFlag c 2 (some (K.CH_TXSTALL_CNT c))).rnBlock c .pullOpen
  else d.rnBlock c .waiting

/-- Take the head entry off the TX FIFO and let the fabric refill it. -/
def Dev.dropTxEnt (d : Dev) (c : Nat) : Dev :=
  (d.modChan c fun x => { x with txF := x.txF.drop 1, txByte := 0 }).fillTx c 8

/-- OUT: THR takes a symbol (R261). The first one after a PULL that took a frame's head carries the frame's first byte (R250; DEDUCED, log entry 46). -/
def Dev.rnOutSym (d : Dev) (c dly sym : Nat) (cont : Bool) (first : Bool) : Dev :=
  ((d.modChan c fun x => { x with thr := some (sym % 2 ^ d.obn (K.CH_SYM_BITS c), cont, first || x.pulled), pulled := false }).txLoad c).rnNext c (d.chPc c + 1) dly

/-- OUT TXF: the next byte of the TX FIFO, with the CRC bytes after the last one (R255, R261). A bare end marker holds no byte (R253): it ends its frame,
whose CRC bytes then go out, and OUT goes on to the next entry (log entry 46). -/
def Dev.rnOutTxfN (d : Dev) (c dly : Nat) (cont : Bool) : Nat → Dev
  | 0 => d.txEmpty c
  | fuel + 1 =>
    let x := d.chan c
    let crcOf := fun (l : List Byte) => leBytes4 (crc32C (l.drop (d.obn (K.CH_CRC_SKIP c))))
    match x.txF with
    | [] => d.txEmpty c
    | e :: _ =>
      let n := e.tag % 4
      let sof := e.tag.testBit 3 && x.txByte == 0
      if n = 0 then
        let d := d.dropTxEnt c
        if !e.tag.testBit 2 then d.rnOutTxfN c dly cont fuel else
        let d := (d.modChan c fun x => { x with txOpen := false, txBytes := [] }).bump (K.CH_TX_FRAMES c)
        match (if d.obn (K.CH_CRC_MODE c) = 1 && x.txOpen then crcOf x.txBytes else []) with
        | [] => d.rnOutTxfN c dly cont fuel
        | b :: l => (d.modChan c fun x => { x with crcNext := l }).rnOutSym c dly b.toNat true false
      else
        let v := bits e.data (23 - 8 * x.txByte) (16 - 8 * x.txByte)
        let last := decide (n ≤ x.txByte + 1)
        let eof := last && e.tag.testBit 2
        let bytes := (if sof then [] else x.txBytes) ++ [BitVec.ofNat 8 v]
        let crc := d.obn (K.CH_CRC_MODE c) = 1 && eof
        let d := d.modChan c fun x => { x with txByte := x.txByte + 1, txOpen := !eof && (x.txOpen || sof), txBytes := if eof then [] else bytes,
                                               crcNext := if crc then crcOf bytes else [] }
        let d := if last then d.dropTxEnt c else d
        let d := if eof then d.bump (K.CH_TX_FRAMES c) else d
        d.rnOutSym c dly v (if eof then crc else cont) sof

/-- OUT TXF; illegal without a TX FIFO (R263). -/
def Dev.rnOutTxf (d : Dev) (c dly : Nat) (cont : Bool) : Dev :=
  if txCap (d.obn (K.CH_JOIN c)) = 0 then d.faultChan c false else d.rnOutTxfN c dly cont 16

/-- PULL takes the head entry (R261). -/
def Dev.rnPullEnt (d : Dev) (c dly : Nat) (toY nb : Bool) : Dev :=
  if txCap (d.obn (K.CH_JOIN c)) = 0 then d.faultChan c false else
  let x := d.chan c
  match x.txF with
  | [] => if nb then d.rnNext c (d.chPc c + 1) dly else d.txEmpty c
  | e :: _ =>
    let eof := e.tag.testBit 2
    let d := d.iff (e.tag.testBit 3 && x.pulled) fun d => d.headTsDropped c
    let d := (d.setXY c toY e.data).modChan c fun x =>
      { x with rsof := e.tag.testBit 3, rend := eof, txOpen := if eof then false else x.txOpen || e.tag.testBit 3,
               pulled := x.pulled || e.tag.testBit 3 }
    let d := d.dropTxEnt c
    (if eof then d.bump (K.CH_TX_FRAMES c) else d).rnNext c (d.chPc c + 1) dly

/-- PUSH (R254, R261). With NB it loses its entry on a full RX FIFO. While the receive path is out of use, nothing reaches a core (R142, R161). -/
def Dev.rnPushEnt (d : Dev) (c dly : Nat) (last bad : Bool) (cnt v : Nat) (nb : Bool) : Dev :=
  let cap := rxCap (d.obn (K.CH_JOIN c))
  if cap = 0 then d.faultChan c false else
  let d := d.parserSome c
  if d.obn (K.CH_RX_SINK c) != 0 && d.lineBusy c then
    ((d.modChan c fun x => { x with newFrame := last, rxOpen := !last, pushed := [] }).iff last fun d => d.bump (K.P_RECAL_DROPS c)).rnNext c (d.chPc c + 1) dly
  else if cap ≤ (d.chan c).rxF.length then
    if nb then ((d.chFlag c 1 (some (K.CH_RXOVER_CNT c))).modChan c fun x => { x with rxLostEnt := true }).rnNext c (d.chPc c + 1) dly
    else d.rnBlock c .pushFull
  else (d.rxPush c last bad cnt v).rnNext c (d.chPc c + 1) dly

/-- CTL SYNC: the channels of the mask that wait together go on in the same round, in which channel k's slot lies k ECK cycles after the round's start,
each with its own delay (R231, R232, R265). -/
def Dev.rnSync (d : Dev) (c dly : Nat) : Dev :=
  let e := c / 8
  let mask := d.obn (K.ENG_SYNC_MASK e)
  if !mask.testBit (c % 8) then d.rnNext c (d.chPc c + 1) dly else
  let round := d.slotAt c + 56 - 8 * (c % 8)
  let w := (d.rnBlock c .sync).modChan c fun x => { x with syncDly := dly }
  let l := ((List.range 8).filter fun k => mask.testBit k).map (fun k => 8 * e + k) |>.filter w.running
  if l.all fun k => (w.chan k).block == .sync then
    w.each l fun d k => (d.modChan k fun x => { x with issueAt := round - 56 + 8 * (k % 8) }).rnNext k (d.chPc k + 1) (d.chan k).syncDly
  else w

/-! ### The engine control space (R267 to R269) -/

/-- The words of a channel. RSTAT shows the line as the channel's commands last saw it (log entry 46). -/
def Dev.chWord (d : Dev) (c w : Nat) : Nat :=
  let x := d.chan c
  let o := fun (k : Nat) => d.obn k
  match w with
  | 0 => d.chState c * 2 ^ 21 + b2n x.bank * 2 ^ 20 + o (K.CH_WIN c) * 2 ^ 18 + b2n x.midShift * 2 ^ 17 + b2n (d.stalled c) * 2 ^ 16 +
      d.chPc c * 256 + x.rxF.length * 16 + x.txF.length
  | 1 => o (K.CH_FLAGS c) % 128
  | 3 => o (K.CH_WIN c) * 2 ^ 22 + o (K.CH_JOIN c) * 2 ^ 20 + o (K.CH_RX_SINK c) * 2 ^ 19 + o (K.CH_TX_SRC c) * 2 ^ 18 + o (K.CH_HOLDSTART c) * 2 ^ 17 +
      o (K.CH_SYM_MODE c) * 2 ^ 16 + o (K.CH_SYM_BITS c) * 2 ^ 11 + o (K.CH_PARITY c) * 2 ^ 9 + (o (K.CH_STOP_BITS c) - 1) * 256 +
      o (K.CH_MSB_FIRST c) * 128 + o (K.CH_LINE_IDLE c) * 64
  | 4 => o (K.CH_BIT_DIV c)
  | 5 => o (K.CH_RX_IDLE c)
  | 6 => o (K.CH_TXAT c) * 2 ^ 19 + o (K.CH_TB c) * 2 ^ 16 + o (K.CH_CRC_SKIP c) * 2 ^ 12 + o (K.CH_CRC_MODE c) * 256 + o (K.CH_JPIN_B c) * 8 + o (K.CH_JPIN_A c)
  | 7 => wrapN 24 (d.ob (K.CH_TS_ADJ c))
  | 8 => d.chK c 0
  | 9 => d.chK c 1
  | 10 => d.chK c 2
  | 11 => d.chK c 3
  | 12 => x.x
  | 13 => x.y
  | 14 => x.tcmp
  | 15 => d.rstat c x.lin
  | 17 => x.rxTag
  | 19 => x.txTag
  | 20 => b2n x.scTx * 256 + x.sc
  | _ => 0

/-- CH_WIN: the channel uses its new window's active bank (R235, R269). A swap that is pending on the window it leaves waits for it no longer (R239). -/
def Dev.setWin (d : Dev) (c w : Nat) : Dev :=
  let old := d.obn (K.CH_WIN c)
  if old = w then d else
  let d := ((d.setOb (K.CH_WIN c) (w : Nat)).modChan c fun x => { x with bank := d.activeBank (c / 8) w }).judgeSwap (c / 8) old
  d.iff (d.chState c == 0 || d.chState c == 1 || d.chState c == 3) fun d => d.flipIdle c

/-- The frame that a channel was carrying into its TX FIFO goes with the FIFO (R256). -/
def Dev.joinDrop (d : Dev) (c : Nat) : Dev :=
  match mget? d.sw.line c with
  | none => d
  | some o =>
    let d := d.iff (mget d.sw.txOpen c 0 == 0) fun d => d.dropTs c o.frame.env
    (((d.offLine c o).modSw fun s => { s with txOpen := mdel s.txOpen c }).chargeEnd c (some c) (o.queue % 8) o.frame.len).bump (K.CH_TX_DISCARD c)

/-- A new CH_JOIN empties both FIFOs; the records that frames in the TX FIFO asked for are DROPPED (R195, R253). -/
def Dev.setJoin (d : Dev) (c v : Nat) : Dev :=
  if d.obn (K.CH_JOIN c) = v then d
  else
    let d := (d.chan c).txTs.foldl (fun d t => match t with
      | some tag => d.postTs c ⟨true, tag, 0, 0⟩
      | none => d) d
    let d := d.iff (txCap v == 0) fun d => d.joinDrop c
    (d.setOb (K.CH_JOIN c) (v : Nat)).modChan c fun x => { x with rxF := [], rxClose := [], txF := [], txByte := 0, txTs := [], pulled := false }

/-- A write of configuration word 3 by a core; one that breaks a range or R253 is ignored (R269). -/
def Dev.chCfgWrite (d : Dev) (c v : Nat) : Dev :=
  let win := bits v 23 22
  let join := bits v 21 20
  let sb := bits v 15 11
  let fixed := win != d.obn (K.CH_WIN c) || join != d.obn (K.CH_JOIN c) || bits v 19 19 != d.obn (K.CH_RX_SINK c) || bits v 18 18 != d.obn (K.CH_TX_SRC c)
  if sb = 0 || 24 < sb || bits v 10 9 = 3 || (d.obn (K.CH_CRC_MODE c) = 1 && sb != 8) || (d.running c && fixed) then d else
  let s := fun (d : Dev) (k : Nat) (v : Nat) => d.setOb k (v : Nat)
  let d := ((d.fmtKeep c).setWin c win).setJoin c join
  let d := s (s (s (s d (K.CH_RX_SINK c) (bits v 19 19)) (K.CH_TX_SRC c) (bits v 18 18)) (K.CH_HOLDSTART c) (bits v 17 17)) (K.CH_SYM_MODE c) (bits v 16 16)
  s (s (s (s (s d (K.CH_SYM_BITS c) sb) (K.CH_PARITY c) (bits v 10 9)) (K.CH_STOP_BITS c) (bits v 8 8 + 1)) (K.CH_MSB_FIRST c) (bits v 7 7)) (K.CH_LINE_IDLE c) (bits v 6 6)

/-- Start, halt or restart a channel (R269): what each state allows. -/
def Dev.chCmd (d : Dev) (c cmd : Nat) : Dev :=
  let st := d.chState c
  match cmd with
  | 1 => if st = 1 || st = 3 then d.startChan c else d
  | 2 => if st = 2 then d.haltChan c else d
  | 3 => if st = 0 then d else d.startChan c
  | _ => d

/-- A push by the bound core (R256). -/
def Dev.corePush (d : Dev) (c v : Nat) : Dev :=
  let x := d.chan c
  if d.obn (K.CH_TX_SRC c) != 1 || txCap (d.obn (K.CH_JOIN c)) ≤ x.txF.length || d.chState c = 0 then d
  else d.modChan c fun x => { x with txF := x.txF ++ [⟨v % 2 ^ 24, x.txTag⟩], txTs := if x.txTag.testBit 3 then x.txTs ++ [none] else x.txTs }

/-- A pop by the bound core: the data, 0 when empty (R269). -/
def Dev.corePop (d : Dev) (c : Nat) : Dev × Nat :=
  match (d.chan c).rxF with
  | [] => (d, 0)
  | e :: _ => (d.modChan c fun x => { x.popRx with rxTag := e.tag }, e.data)

/-- A write of word w of a channel by a keeper or its bound core (R267, R269). A running segment keeps its channel's configuration words (R433). -/
def Dev.chWrite (d : Dev) (c w v : Nat) (bound : Bool) : Dev :=
  let s := fun (k : Nat) (v : Nat) => d.setOb k (v : Nat)
  if 3 ≤ w && w ≤ 11 && d.segHolds c then d else
  match w with
  | 1 => s (K.CH_FLAGS c) (d.obn (K.CH_FLAGS c) &&& ((v % 128) ^^^ 127))
  | 2 => d.chCmd c (v % 8)
  | 3 => d.chCfgWrite c v
  | 4 => if v < 0x780 then d else (d.fmtKeep c).setOb (K.CH_BIT_DIV c) (v : Nat)
  | 5 => if v % 65536 = 0 then d else s (K.CH_RX_IDLE c) (v % 65536)
  | 6 =>
    if v.testBit 8 && d.obn (K.CH_SYM_BITS c) != 8 then d else
    (((((s (K.CH_TXAT c) (bits v 19 19)).setOb (K.CH_TB c) (bits v 18 16 : Nat)).setOb (K.CH_CRC_SKIP c) (bits v 15 12 : Nat)).setOb (K.CH_CRC_MODE c) (bits v 8 8 : Nat)).setOb
      (K.CH_JPIN_B c) (bits v 5 3 : Nat)).setOb (K.CH_JPIN_A c) (bits v 2 0 : Nat)
  | 7 => let a := sext 24 v; if a < -10000 || 10000 < a then d else d.setOb (K.CH_TS_ADJ c) a
  | 8 => s (K.CH_K c 0) v
  | 9 => s (K.CH_K c 1) v
  | 10 => s (K.CH_K c 2) v
  | 11 => s (K.CH_K c 3) v
  | 12 => if d.running c then d else d.modChan c fun x => { x with x := v }
  | 13 => if d.running c then d else d.modChan c fun x => { x with y := v }
  | 14 => d.modChan c fun x => { x with tcmp := v }
  | 18 => if bound then d.corePush c v else d
  | 19 => d.modChan c fun x => { x with txTag := v % 16 }
  | _ => d

/-! ### Engine actions (R264, R268) -/

/-- Start the STOPPED or HALTED channels of a mask in one round, the next whole one: channel k issues in its cycle k (R231). -/
def Dev.engStart (d : Dev) (e mask : Nat) : Dev :=
  d.event.each ((setBits mask 8).map fun k => 8 * e + k) fun d c =>
    if d.chState c = 1 || d.chState c = 3 then (d.startChan c).modChan c fun x => { x with issueAt := (3 * d.now + 63) / 64 * 64 + 8 * (c % 8) } else d

/-- Restart the bit clocks of the RUNNING channels of a mask at one edge. -/
def Dev.engBitsync (d : Dev) (e mask : Nat) : Dev :=
  d.event.each ((setBits mask 8).map fun k => 8 * e + k) fun d c => if d.running c then d.modChan c fun x => { x with bitAt := d.now, rawAt := none } else d

/-- ARM_TIME in ns of its base. -/
def Dev.armTime (d : Dev) (e : Nat) : Nat := d.obn (K.ENG_ARM_TIME e)

/-- Arm the action, unless its time is already past. -/
def Dev.armEng (d : Dev) (e : Nat) : Option Dev :=
  if d.armTime e < d.tbNs (d.obn (K.ENG_ARM_BASE e)) then none else some ((d.modEngine e fun g => { g with armed := true }).setOb (K.ENG_ARM_CMD e) 1)

def Dev.disarmEng (d : Dev) (e : Nat) : Dev := (d.modEngine e fun g => { g with armed := false }).setOb (K.ENG_ARM_CMD e) 0

/-- The armed action lands. -/
def Dev.armLand (d : Dev) (e : Nat) : Dev :=
  if !(d.engine e).armed then d else
  let d := (d.upToOn (d.obn (K.ENG_ARM_BASE e)) (d.armTime e)).disarmEng e
  let m := d.obn (K.ENG_ARM_MASK e)
  if m.testBit 8 then d.engBitsync e (m % 256) else d.engStart e (m % 256)

/-- The words of ARM_TIME: those that a core wrote, while they spell the time that the object holds (R268). -/
def Dev.armWordsOf (d : Dev) (e : Nat) : List Nat :=
  let l := (d.engine e).armWords
  if l.length = 4 && t80Ns l == d.armTime e then l else t80Words (d.armTime e)

/-- A read of the engine space, which has no side effect (R267, R268). -/
def Dev.engRead (d : Dev) (e ofs : Nat) : Nat :=
  if ofs < 16 then
    match ofs with
    | 2 => d.obn (K.ENG_SYNC_MASK e)
    | 3 => bits (d.obn (K.ENG_ARM_MASK e)) 8 8 * 2048 + d.obn (K.ENG_ARM_BASE e) * 256 + d.obn (K.ENG_ARM_MASK e) % 256
    | 4 => b2n (d.engine e).armed
    | 5 => (d.armWordsOf e).getD 0 0
    | 6 => (d.armWordsOf e).getD 1 0
    | 7 => (d.armWordsOf e).getD 2 0
    | 8 => (d.armWordsOf e).getD 3 0
    | 10 => (d.engine e).swapStatus * 2 ^ 16 + (d.engine e).swaps.foldl (fun a s => a + 2 ^ s.win) 0
    | _ => 0
  else if 0x100 ≤ ofs && ofs < 0x200 then d.chWord (8 * e + (ofs - 0x100) / 32) (ofs % 32)
  else if 0x800 ≤ ofs && ofs < 0xC00 then let w := (ofs - 0x800) / 256; d.ld (runAddr e w (!d.activeBank e w) (ofs % 256)) % 2 ^ 14
  else if 0xC00 ≤ ofs then let w := (ofs - 0xC00) / 256; d.ld (runAddr e w (d.activeBank e w) (ofs % 256)) % 2 ^ 14
  else 0

/-- One word of ARM_TIME, in the T80 layout; the other words stand. -/
def Dev.setArmWord (d : Dev) (e i v : Nat) : Dev :=
  let l := (d.armWordsOf e).set i (if i = 2 then v % 256 else v % 2 ^ 24)
  (d.modEngine e fun g => { g with armWords := l }).setOb (K.ENG_ARM_TIME e) ((t80Ns l : Nat) : Int)

/-- A write of an engine word or a shadow bank by a keeper or a core of the engine (R238, R267, R268). -/
def Dev.engWrite (d : Dev) (e ofs v busy : Nat) : Dev :=
  match ofs with
  | 0 => d.engStart e (v % 256)
  | 1 => d.engBitsync e (v % 256)
  | 2 => d.setOb (K.ENG_SYNC_MASK e) (v % 256 : Nat)
  | 3 => (d.setOb (K.ENG_ARM_MASK e) (bits v 11 11 * 256 + v % 256 : Nat)).setOb (K.ENG_ARM_BASE e) (bits v 10 8 : Nat)
  | 4 => if v % 4 = 1 then (d.armEng e).getD d else if v % 4 = 2 then d.disarmEng e else d
  | 5 => d.setArmWord e 0 v
  | 6 => d.setArmWord e 1 v
  | 7 => d.setArmWord e 2 v
  | 8 => d.setArmWord e 3 v
  | 9 =>
    let (d, s) := d.askSwap e (v % 4) (bits v 3 2) busy
    d.modEngine e fun g => { g with swapStatus := s }
  | _ =>
    if 0x800 ≤ ofs && ofs < 0xC00 then
      let w := (ofs - 0x800) / 256
      if (d.winSwap e w).isSome then d
      else (d.st (runAddr e w (!d.activeBank e w) (ofs % 256)) (v % 2 ^ 14)).setImageLen e w (!d.activeBank e w)
        (max (d.imageLen e w (!d.activeBank e w)) (2 * (ofs % 256) + 2))
    else d

end Sys2Proof.Machine
end

