-- ==== Sys2Proof/Machine/Rillnet.lean ====
section
/-! DEFINITION. Rillnet segments: tables, schedule, slots, synchronisation and start-up (spec 16).
Instants are in units of 2^-32 ns of SEG_TB, the rate correction in units of 2^-64. -/
namespace Sys2Proof.Machine

/-! ### Settings (R435, R439) -/

def Dev.segState (d : Dev) (s : Nat) : Nat := d.obn (K.SEG_STATE s)
def Dev.segTb (d : Dev) (s : Nat) : Nat := d.obn (K.SEG_TB s)
def Dev.segBit (d : Dev) (s : Nat) : Nat := [200, 80, 40].getD (d.obn (K.SEG_RATE s)) 40
def Dev.segPi (d : Dev) (s : Nat) : Nat := let v := d.obn (K.SEG_PI s); if v = 0 then 25 * d.segBit s else v
def Dev.segPiMax (d : Dev) (s : Nat) : Nat := let v := d.obn (K.SEG_PI_MAX s); if v = 0 then d.segPi s / 2 else v
def Dev.segAct (d : Dev) (s : Nat) : Nat := let v := d.obn (K.SEG_ACT_OFS s); if v = 0 then 2 * d.segPi s else v
def Dev.segMax (d : Dev) (s : Nat) : Nat := d.obn (K.SEG_MAX_PAYLOAD s)

/-- T_f (R435). -/
def Dev.segFrameNs (d : Dev) (s p : Nat) : Nat := (10 + p) * 10 * d.segBit s

/-- The least slot length of limit 3 (R439). -/
def Dev.slotNeed (d : Dev) (s : Nat) : Nat := d.segAct s + d.segPi s + d.segFrameNs s (d.segMax s) + 2 * d.segBit s
def Dev.slotNs (d : Dev) (s : Nat) : Nat := let v := d.obn (K.SEG_SLOT_LEN s); if v = 0 then (d.slotNeed s + 99) / 100 * 100 else v
def Dev.segSlots (d : Dev) (s : Nat) : Nat := d.obn (K.SEG_SLOTS s)
def Dev.cycleNs (d : Dev) (s : Nat) : Nat := d.obn (K.SEG_CYCLE_LEN s) * 1000
def Dev.segRank (d : Dev) (s : Nat) : Option Nat := let r := d.obn (K.SEG_RANK s); if r < 4 then some r else none
def Dev.anchored (d : Dev) (s : Nat) : Bool := d.obn (K.SEG_SYNC_MODE s) == 1

/-- The limits of R439. -/
def Dev.timingOk (d : Dev) (s : Nat) : Bool :=
  decide (250000 ≤ d.cycleNs s) && decide (d.cycleNs s ≤ 100000000) && decide (d.segPi s < d.segAct s) && decide (d.segPiMax s ≤ d.segPi s) &&
    decide (d.slotNeed s ≤ d.slotNs s) && decide (d.segSlots s * d.slotNs s + 2 * d.segPi s + 1000 ≤ d.cycleNs s)

/-! ### The slot map (R434) -/

structure SlotMap where
  dir : Nat
  node : Nat
  plen : Nat
  first : Nat
deriving DecidableEq, Repr

/-- Entry n, from 1, of a SLOT_MAP. -/
def slotOf (img : List Byte) (n : Nat) : SlotMap :=
  let w := wordsOf ((img.drop (6 * (n - 1))).take 6)
  if n = 0 then ⟨0, 0, 0, 0⟩ else ⟨bits (w.getD 0 0) 23 22, bits (w.getD 0 0) 21 13, bits (w.getD 0 0) 12 6, bits (w.getD 1 0) 19 0⟩

def Dev.slotMap (d : Dev) (s n : Nat) : SlotMap := if n ≤ d.segSlots s then slotOf (d.dom (K.SEG_SLOT_MAP s)) n else ⟨0, 0, 0, 0⟩

/-- The slots with a direction. -/
def slotsWith (img : List Byte) (slots dir : Nat) : List Nat := (List.range' 1 slots).filter fun n => (slotOf img n).dir == dir

/-- Is an image free of the values that R434 refuses? -/
def slotMapOk (img : List Byte) : Bool :=
  decide (img.length ≤ 1530) && img.length % 6 == 0 && (List.range' 1 (img.length / 6)).all fun n =>
    (slotOf img n).dir != 3 && decide ((slotOf img n).plen ≤ 64)

/-- Do two images differ in NODE and FIRST only (R449)? -/
def sameSlots (a b : List Byte) : Bool :=
  a.length == b.length && (List.range' 1 (a.length / 6)).all fun n =>
    (slotOf a n).dir == (slotOf b n).dir && (slotOf a n).plen == (slotOf b n).plen

/-- Lies every mapped signal in a region that the context owns (R449)? -/
def Dev.mapOwned (d : Dev) (s : Nat) (img : List Byte) : Bool :=
  (List.range' 1 (d.segSlots s)).all fun n =>
    let m := slotOf img n
    m.dir == 0 || (List.range (((if m.dir = 2 then m.plen else d.segMax s) + 2) / 3)).all fun i =>
      match d.regionOf ((m.first + i) % 2 ^ 20) with
      | some r => d.obn (K.REG_OWNER r) == d.obn (K.SEG_CTX s)
      | none => false

/-- At most 64 nodes (R449)? -/
def nodesOk (img : List Byte) (slots : Nat) : Bool :=
  decide ((((List.range' 1 slots).filter fun n => (slotOf img n).dir != 0).map fun n => (slotOf img n).node).eraseDups.length ≤ 64)

/-! ### The sets of a segment (R434; log entry 20) -/

/-- The scatter lists: one header a receive slot, all on one body of 22 fields from byte 3. -/
def rxImage (img : List Byte) (l : List Nat) : List Nat :=
  [l.length] ++ (l.flatMap fun n => let m := slotOf img n; [2 ^ 22 + m.node * 2 ^ 13, m.first, 1 + 4 * l.length, 0]) ++
    [22] ++ (List.range 22).flatMap fun i => [(3 + 3 * i) * 2 ^ 13 + 23 * 16, i]

/-- Signals of a payload. -/
def payloadSigs (plen : Nat) : Nat := (plen + 2) / 3

/-- One slot template without its body; the body's place is `body`. Its last field carries the high bytes of its signal where PLEN is no multiple of 3
(R434). -/
def tplImage (n pix body : Nat) (m : SlotMap) : List Nat :=
  let k := payloadSigs m.plen
  [2 ^ 22 + 7 * 2 ^ 17 + (if k = 0 then 0 else 2 ^ 9), pix, 3 + m.plen, 0, 0, 0, 0, 0] ++ (if k = 0 then [] else [m.first, 0, body]) ++
    [n * 65536] ++ List.replicate k 0

/-- The gather body of a payload. -/
def txBody (plen : Nat) : List Nat :=
  let k := payloadSigs plen
  if k = 0 then [] else [2 ^ 23 + k] ++ (List.range k).flatMap fun i => [(3 + 3 * i) * 2 ^ 13 + 23 * 16, i, 0, 0]

/-- The slot templates with their bodies behind them. -/
def txImage (img : List Byte) (pix : Nat) (l : List Nat) : List Nat :=
  let size := fun n => (tplImage n pix 0 (slotOf img n)).length
  let heads := 1 + (l.map size).foldl (· + ·) 0
  let go := l.foldl (fun (x : Nat × List Nat × List Nat) n =>
    let m := slotOf img n
    (x.1 + (txBody m.plen).length, x.2.1 ++ tplImage n pix x.1 m, x.2.2 ++ txBody m.plen)) (heads, [], [])
  [l.length] ++ go.2.1 ++ go.2.2

/-- The segment profile: SRC and frame byte 0 (R433). -/
def segProfile : List Nat := [0, 0x001000, 0, 0, 0, 0xFF0000, 0, 0, 0, 0]

/-- The parser entry of a receive slot, to list j. -/
def segEntry (p c n j : Nat) : List Byte :=
  [BitVec.ofNat 8 (0x80 + p), 0, 0, BitVec.ofNat 8 n] ++ List.replicate 12 0 ++
    [BitVec.ofNat 8 (37 * 16 / 256), BitVec.ofNat 8 (37 * 16), 0, BitVec.ofNat 8 (128 + c), 0, 0, BitVec.ofNat 8 (j / 256), BitVec.ofNat 8 j] ++ List.replicate 8 0

def Dev.segPort (d : Dev) (s : Nat) : Option Nat :=
  let c := d.obn (K.SEG_CTX s)
  if c < 128 then (d.ctx c).ports[d.obn (K.SEG_PIX s)]? else none

/-- Build and install the segment's sets for a map; none for want of room. -/
def Dev.addSegSets (d : Dev) (s p : Nat) (img : List Byte) : Option Dev := do
  let slots := d.segSlots s
  let rx := slotsWith img slots 1
  let tx := slotsWith img slots 2
  let (d1, j) ← d.addLists (.seg s) (if rx.isEmpty then [] else rxImage img rx)
  let (d2, n) ← d1.addTpls (.seg s) true (if tx.isEmpty then [] else txImage img (d.obn (K.SEG_PIX s)) tx)
  let ents := (rx.zip (List.range rx.length)).map fun x => segEntry p (d.obn (K.SEG_CTX s)) x.1 (j + x.2)
  let m ← addEntries d2.sw.mstore (.seg s) ents
  let d3 := (d2.modSw fun w => { w with mstore := m, profiles := mput w.profiles p segProfile }).entriesUsed
  some (d3.modSeg s fun x => { x with tpls := (tx.zip (List.range tx.length)).map fun e => (e.1, n + e.2),
                                      lists := (rx.zip (List.range rx.length)).map fun e => (e.1, j + e.2) })

/-- Remove the segment's sets. -/
def Dev.dropSegSets (d : Dev) (s : Nat) : Dev :=
  (((d.dropSets (.seg s)).modSw fun w => { w with mstore := dropEntries w.mstore (.seg s) }).entriesUsed).modSeg s fun x => { x with tpls := [], lists := [] }

/-! ### Instants (R438, R446) -/

/-- The rate correction that the schedule runs with. -/
def Dev.segRho (d : Dev) (s : Nat) : Int := if d.anchored s then 0 else (d.seg s).rho

/-- A length in ns at the segment's rate, in units of 2^-32 ns. -/
def Dev.stretch (d : Dev) (s ns : Nat) : Nat := (((ns * 2 ^ 32 : Nat) : Int) + (ns : Int) * d.segRho s / 2 ^ 32).toNat

/-- The first whole ns at or after an instant. -/
def ceilNs (t : Nat) : Nat := (t + 2 ^ 32 - 1) / 2 ^ 32

/-- Start of slot n + 1, that is the end of slot n, and the action point of slot n, in the current cycle. -/
def Dev.slotEndAt (d : Dev) (s n : Nat) : Nat := (d.seg s).start + d.stretch s (n * d.slotNs s)
def Dev.actionPoint (d : Dev) (s n : Nat) : Nat := (d.seg s).start + d.stretch s ((n - 1) * d.slotNs s + d.segAct s)

/-- The k-th anchored start in ns. -/
def Dev.anchorAt (d : Dev) (s k : Nat) : Nat := k * d.cycleNs s + d.obn (K.SEG_PHASE s) * 1000

/-- The number of the first anchored start at or after an instant in ns. -/
def Dev.anchorAfter (d : Dev) (s ns : Nat) : Nat := (ns - d.obn (K.SEG_PHASE s) * 1000 + d.cycleNs s - 1) / d.cycleNs s

/-- S of the cycle after the one held, as the corrections stand (R445, R446). -/
def Dev.nextStart (d : Dev) (s : Nat) : Nat :=
  let x := d.seg s
  if d.anchored s then d.anchorAt s (d.anchorAfter s (x.start / 2 ^ 32 + 1)) * 2 ^ 32
  else ((x.start + d.stretch s (d.cycleNs s) : Nat) + x.applied * 2 ^ 32 : Int).toNat

/-! ### State changes (R447) -/

def Dev.segFlags (d : Dev) (s : Nat) : Dev := d.setOb (K.SEG_FLAGS s) (b2n (d.seg s).csFault + 2 * b2n (d.seg s).held : Nat)

/-- Enter a state; one that sends no slot fires no template (R443, R447). -/
def Dev.segTo (d : Dev) (s st : Nat) : Dev :=
  let d := d.iff (!([2, 4, 6].contains st)) fun d => d.modSeg s fun x => { x with fireNext := [] }
  ((d.setOb (K.SEG_STATE s) st).raise (0x490 + s)).segFlags s

/-- Start or restart the listen timer of a sync node from an instant of SEG_TB in ns (R448). -/
def Dev.listenFrom (d : Dev) (s ns : Nat) : Dev :=
  d.modSeg s fun x => { x with listenEnds := (d.segRank s).map fun r => ns + (2 + r) * d.cycleNs s }

/-- Go to LISTEN and restart the timer. -/
def Dev.toListen (d : Dev) (s : Nat) : Dev :=
  ((d.modSeg s fun x => { x with backoffEnds := none, sent := 0, obs := [], prev := [], ownSent := [] }).listenFrom s (d.tbNs (d.segTb s))).segTo s 1

/-- The port was lost, a hard hold began or a role move landed: stop sending and hold the timer (R447). -/
def Dev.segLost (d : Dev) (s : Nat) : Dev :=
  if 2 ≤ d.segState s then (d.toListen s).modSeg s (fun x => { x with listenEnds := none, held := true }) |>.segFlags s else d

/-- The segments that run on a port. -/
def Dev.segsOn (d : Dev) (p : Nat) : List Nat :=
  d.segs.filterMap fun e => if d.segState e.1 != 0 && e.2.port == p then some e.1 else none

/-- Restart held timers where the port is Up or Degraded and HOLD# is high. -/
def Dev.segsResume (d : Dev) : Dev :=
  d.each (d.segs.map (·.1)) fun d s =>
    let x := d.seg s
    if x.held && d.portUp x.port && !d.sump.hardHold then
      ((d.modSeg s fun x => { x with held := false }).listenFrom s (d.tbNs (d.segTb s))).segFlags s
    else d

/-! ### SEG_CMD (R433, R449) -/

/-- The shortest cycle of a mode in µs (R37). -/
def shortestCycle : Nat → Nat
  | 4 => 250
  | 5 => 500
  | _ => 1000

/-- The status of SEG_CMD = 1 before its permit (R449). -/
def Dev.segStartStatus (d : Dev) (s : Nat) : Nat :=
  let c := d.obn (K.SEG_CTX s)
  let st := d.obn (K.CTX_STATE c)
  match d.segPort s with
  | none => Stat.noKey
  | some p =>
    let img := d.dom (K.SEG_SLOT_MAP s)
    let slots := d.segSlots s
    let rank := (d.segRank s).isSome
    let e := p / 8
    if !(decide (c < 128) && (st == 1 || st == 2)) then Stat.noKey
    else if d.portMode p ≠ 4 || d.obn (K.SEG_CYCLE_LEN s) < shortestCycle d.limits then Stat.mode
    else if !d.timingOk s || (rank && (d.slotMap s (d.obn (K.SEG_SYNC_SLOT s))).dir != 2) || (d.anchored s && !rank) || !nodesOk img slots ||
        !d.mapOwned s img || (d.obb (K.SEG_CTX_SYNC s) && d.ctxPeriod c != d.obn (K.SEG_CYCLE_LEN s)) then Stat.range
    else if d.segState s ≠ 0 || !(d.segsOn p).isEmpty ||
        ((List.range 8).any fun k => 8 * e + k != p && d.obn (K.CH_STATE (8 * e + k)) != 0 && d.obn (K.CH_WIN (8 * e + k)) == d.obn (K.SEG_WIN s)) ||
        (d.obb (K.SEG_CTX_SYNC s) && d.segs.any fun x => d.segState x.1 != 0 && d.obb (K.SEG_CTX_SYNC x.1) && d.obn (K.SEG_CTX x.1) == c) then Stat.busy
    else Stat.done

/-- Configure the port's channel (R433). -/
def Dev.segChannel (d : Dev) (s p w : Nat) : Dev :=
  let div := [0x004B00, 0x001E00, 0x000F00].getD (d.obn (K.SEG_RATE s)) 0x000F00
  [(K.CH_JOIN p, 0), (K.CH_RX_SINK p, 0), (K.CH_TX_SRC p, 0), (K.CH_SYM_MODE p, 1), (K.CH_SYM_BITS p, 8),
   (K.CH_PARITY p, 0), (K.CH_STOP_BITS p, 1), (K.CH_LINE_IDLE p, 1), (K.CH_BIT_DIV p, div), (K.CH_CRC_MODE p, 1), (K.CH_CRC_SKIP p, 0),
   (K.CH_TB p, d.segTb s), (K.CH_TXAT p, 1)].foldl (fun d x => d.setOb x.1 (x.2 : Nat)) ((d.setWin p w).modChan p fun x => { x with drv := 2 })

/-- SEG_CMD = 1 with its permit: BUSY for want of room for the sets (R404). -/
def Dev.segBegin (d : Dev) (s : Nat) : Dev × Nat :=
  match d.segPort s with
  | none => (d, Stat.noKey)
  | some p =>
    match d.addSegSets s p (d.dom (K.SEG_SLOT_MAP s)) with
    | none => (d, Stat.busy)
    | some d =>
      let d := (d.event.segChannel s p (d.obn (K.SEG_WIN s))).modSeg s fun x => { tpls := x.tpls, lists := x.lists, port := p, slots := x.slots }
      let d := d.listenFrom s (d.tbNs (d.segTb s))
      let d := (([K.SEG_CYCLE s, K.SEG_OFFSET s, K.SEG_RATE_CORR s, K.SEG_SYNC_SEEN s] : List Nat).foldl (fun d k => d.setOb k 0) d)
      ((d.segTo s 1).logE 0x9100 s, Stat.done)

/-- SEG_CMD = 2: the sets go, the profile of the port's context is back, and a SLOT_MAP that waited for a cycle start is in place. -/
def Dev.segStop (d : Dev) (s : Nat) : Dev :=
  if d.segState s = 0 then d else
  let p := (d.seg s).port
  let j := d.obn (K.CTX_PERS (d.obn (K.SEG_CTX s)))
  let w := d.persProfile j
  let bound := d.ctxState (d.obn (K.SEG_CTX s)) != 0 && (d.ctx (d.obn (K.SEG_CTX s))).ports.contains p
  let d := (d.dropSegSets s).modSw fun x => { x with profiles := if bound && profileOk w then mput x.profiles p w else mdel x.profiles p }
  let d := match (d.seg s).newMap with
    | some img => d.setDom (K.SEG_SLOT_MAP s) img
    | none => d
  let d := d.modSeg s fun x => { slots := x.slots }
  d.segTo s 0

/-! ### Starting (R448) -/

/-- A SLOT_MAP that waits for a cycle start replaces the sets, at one event (R404, R449). -/
def Dev.takeMap (d : Dev) (s : Nat) : Dev :=
  match (d.seg s).newMap with
  | none => d
  | some img =>
    let e := d.event.modSeg s fun x => { x with newMap := none }
    (((e.dropSegSets s).addSegSets s (d.seg s).port img).getD e).setDom (K.SEG_SLOT_MAP s) img

/-- Is the start held that of a cycle which has not begun, so that the cycle before it still runs its idle time (R438, R452)? -/
def Dev.segAhead (d : Dev) (s : Nat) : Bool := decide ((d.seg s).startWas < (d.seg s).start) && decide (d.pubRaw (d.segTb s) < (d.seg s).start)

/-- S, the own cycle count and SEG_CYCLE of the cycle that runs now. -/
def Dev.segNow (d : Dev) (s : Nat) : Nat × Nat × Nat :=
  let x := d.seg s
  if d.segAhead s then (x.startWas, (x.cyc + 63) % 64, (x.cycles + 2 ^ 24 - 1) % 2 ^ 24) else (x.start, x.cyc, x.cycles)

/-- Enter COLDSTART with a cycle that starts at an instant of SEG_TB in ns. -/
def Dev.coldStart (d : Dev) (s ns cyc : Nat) : Dev :=
  let k := d.anchorAfter s ns
  let (st, c) := if d.anchored s then (d.anchorAt s k, k % 64) else (ns, cyc % 64)
  let d := d.modSeg s fun x => { x with attempts := min (x.attempts + 1) 255, start := st * 2 ^ 32, startWas := st * 2 ^ 32, cyc := c, rho := 0, applied := 0, off := 0, obs := [], prev := [],
                                        sent := 0, listenEnds := none, backoffEnds := none, carry := false, ownSent := [], heard := 0, missed := 0 }
  ((d.logE 0x9101 s).segTo s 2).takeMap s

/-- The listen timer expires (R447). -/
def Dev.listenExpires (d : Dev) (s : Nat) : Dev :=
  match (d.seg s).listenEnds with
  | some t =>
    if d.segState s ≠ 1 then d else
    let d := d.upToOn (d.segTb s) t
    if (d.seg s).csFault then d.listenFrom s t else d.coldStart s t (d.seg s).cyc
  | none => d

/-- Back-off ends. -/
def Dev.backoffEnds (d : Dev) (s : Nat) : Dev :=
  match (d.seg s).backoffEnds with
  | some t => if d.segState s = 3 then (d.upToOn (d.segTb s) t).coldStart s t (d.seg s).cyc else d
  | none => d

/-! ### Frames (R436, R437, R440) -/

/-- A received frame's header, and what is wrong with it: 0 nothing, 1 header, 2 CRC. -/
structure SegHdr where
  slot : Nat
  cyc : Nat
  sync : Bool
  cstart : Bool
  len : Nat
  wrong : Nat

def Dev.readHdr (d : Dev) (s : Nat) (f : List Byte) : SegHdr :=
  let h := beNat ((f.drop 3).take 3)
  let len := bits h 7 1
  let bad := f.take 3 != [0x55, 0x55, 0xC3] || bits h 23 16 == 0 || decide (64 < len) || (h.testBit 8 && !h.testBit 9) ||
    decide (d.segMax s < len) || f.length != 10 + len
  let crc := f.drop (6 + len) != leBytes4 (crc32C ((f.take (6 + len)).drop 3))
  ⟨bits h 23 16, bits h 15 10, h.testBit 9, h.testBit 8, len, if bad then 1 else if crc then 2 else 0⟩

/-- A frame that is not passed on ends with a bad tail of cause LINE (R441). -/
def Dev.segBad (d : Dev) (s : Nat) (f : List Byte) : Dev :=
  let p := (d.seg s).port
  if f.length ≤ 3 || !d.portUp p then d else
  d.toParser p { bytes := f.drop 3, bad := true, cause := 2, vid := 0, cls := 0, ingTb := d.segTb s, ingTime := d.tbNs (d.segTb s), est := true, rate := 6 }

/-- Adopt the schedule of a frame whose start instant is `st` in ns (R448); an anchored node only one near its own. -/
def Dev.adopt (d : Dev) (s st : Nat) (h : SegHdr) : Dev :=
  let sNs : Int := (st : Int) - (((h.slot - 1) * d.slotNs s + d.segAct s : Nat) : Int)
  let c : Int := d.cycleNs s
  let ph : Int := (d.obn (K.SEG_PHASE s) * 1000 : Nat)
  let k := (sNs - ph + c / 2) / c
  let gap := sNs - (k * c + ph)
  if d.anchored s && decide (d.segPi s < gap.natAbs) then (d.bump (K.SEG_SCHED_CONFLICT s)).logE 0x9113 s
  else
    let (s0, cyc) := if d.anchored s then ((k * c + ph).toNat, (k % 64).toNat) else (sNs.toNat, h.cyc)
    let d := d.modSeg s fun x => { x with start := s0 * 2 ^ 32, startWas := s0 * 2 ^ 32, cyc := cyc, rho := 0, applied := 0, off := 0, obs := [], prev := [], adopted := h.slot, adoptCycle := true,
                                          counted := 0, waiting := false, listenEnds := none, backoffEnds := none, ownSent := [], carry := false, heard := 0, missed := 0 }
    d.segTo s 5

/-- Is the cycle one in which slots are classified (R440)? -/
def Dev.classifies (d : Dev) (s : Nat) : Bool :=
  match d.segState s with
  | 2 => true
  | 4 => true
  | 5 => !(d.seg s).adoptCycle && !(d.seg s).waiting
  | 6 => true
  | 7 => true
  | _ => false

/-- Does the network idle time of a classified cycle hold an instant of SEG_TB, in units of 2^-32 ns: that of the cycle before the start held, or of the
cycle that has it (R438, R440)? -/
def Dev.inNit (d : Dev) (s : Nat) (t : Int) : Bool :=
  let x := d.seg s
  let slots := d.segSlots s * d.slotNs s
  let was : Int := (x.startWas : Int) + (slots * 2 ^ 32 : Nat) + (slots : Int) * x.rhoWas / 2 ^ 32
  if t < x.start then x.countedWas && decide (x.startWas < x.start) && decide (was ≤ t)
  else d.classifies s && decide ((d.slotEndAt s (d.segSlots s) : Int) ≤ t)

/-- A start instant `ago` ns ago counts EDGE for the last slot where it lies in the idle time (R440). -/
def Dev.nitEdge (d : Dev) (s ago : Nat) : Dev :=
  if !([2, 4, 5, 6, 7].contains (d.segState s) && d.inNit s ((d.pubAt (d.segTb s) (d.now - ago) : Nat) : Int)) then d else
  ((d.modSeg s fun x =>
    let c := mget x.slots (d.segSlots s) {}
    { x with slots := mput x.slots (d.segSlots s) { c with edge := min (c.edge + 1) (2 ^ 24 - 1) } }).bump (K.SEG_EDGE s)).logSec 0x9110 s

/-- A frame is received in LISTEN or BACKOFF (R447, R448), or is no slot's candidate in a cycle; `ago` is the time in ns since its start edge. Such a
frame ends with a bad tail (R441). -/
def Dev.listenFrame (d : Dev) (s ago : Nat) (f : List Byte) : Dev :=
  let st := d.segState s
  if st ≠ 1 && st ≠ 3 then (d.nitEdge s ago).segBad s f else
  let at_ := d.tbAgo (d.segTb s) ago (d.seg s).port
  let d := if st = 1 && !(d.seg s).held then d.listenFrom s at_ else d
  let h := d.readHdr s f
  let d := d.segBad s f
  if h.wrong = 0 && h.slot ≤ d.segSlots s && h.sync then d.adopt s at_ h else d

/-! ### Slots (R440 to R444) -/

/-- Does the state in force send a slot (R443)? -/
def Dev.sendsSlot (d : Dev) (s n : Nat) : Bool :=
  (d.slotMap s n).dir == 2 && match d.segState s with
    | 2 => n == d.obn (K.SEG_SYNC_SLOT s)
    | 4 => true
    | 6 => true
    | _ => false

/-- SEG_LEAD in units of 2^-32 ns. -/
def Dev.segLead (d : Dev) (s : Nat) : Nat := d.obn (K.SEG_LEAD s) * 1000 * 2 ^ 32

/-- The action point of a slot k cycles after the current one, as the schedule stands. -/
def Dev.actionIn (d : Dev) (s n k : Nat) : Nat := d.actionPoint s n + k * d.stretch s (d.cycleNs s)

/-- The cycle, counted from the current one, that the slot's next firing is for: the last whose firing is due, or the next to fall due; none whose
action point has passed, and none twice (R403, R442). -/
def Dev.nextFiring (d : Dev) (s n : Nat) : Nat :=
  let here := d.pubRaw (d.segTb s)
  let ap := d.actionPoint s n
  let per := d.stretch s (d.cycleNs s)
  let ahead := if here < ap then 0 else (here - ap) / per + 1
  max (max ahead ((here + d.segLead s - ap) / per)) (mget (d.seg s).fireNext n 0).toNat

/-- The slot's template fires SEG_LEAD before its action point (R442); late and skipped firings count as R403 says. -/
def Dev.slotFire (d : Dev) (s n : Nat) : Dev :=
  if !d.sendsSlot s n then d else
  match (mget? (d.seg s).tpls n).bind fun t => mget? d.cellar.tpls t with
  | none => d
  | some t =>
    let k := d.nextFiring s n
    let due := ceilNs (d.actionIn s n k - d.segLead s)
    let d := d.upToOn (d.segTb s) due
    let d := match mget? (d.seg s).fireNext n with
      | none => d
      | some m => d.iff (decide (m < k)) fun d => (d.bumpBy K.SKIPPED (k - m).toNat).logSec 0x8030 0
    let d := d.iff (decide (due + 2000 < d.tbNs (d.segTb s))) fun d => d.bump K.LATE
    (d.modSeg s fun x => { x with fireNext := mput x.fireNext n (k + 1) }).gatherNow t

/-- Discard the head of a queue of the segment's port, and count it. -/
def Dev.segDiscard (d : Dev) (p q key : Nat) (f : QFrame) : Dev := ((d.modQueue q fun l => l.drop 1).dropTs p f.env).bump key

/-- What the head frame of the channel is at the action point of slot n: for this slot now, for a later one, late, or bad. A frame is for the cycle in
whose firing span it was composed: from SEG_LEAD before that cycle's action point to SEG_LEAD before the next, a quarter of a cycle earlier allowed for
a schedule that has moved since (R403, R442, R444; log entry 20). -/
def Dev.headFor (d : Dev) (s n : Nat) (f : QFrame) : Nat :=
  let m := byteAt f.data 0
  if (d.slotMap s m).dir ≠ 2 || f.data.length < 3 || d.segMax s + 3 < f.data.length then 3 else
  let here : Int := d.pubRaw (d.segTb s)
  let made : Int := here - ((d.now - f.dep) * 2 ^ 32 : Nat)
  let ap : Int := d.actionPoint s m
  let per : Int := d.stretch s (d.cycleNs s)
  let due := ap + (made + d.segLead s + per / 4 - ap) / per * per
  if due = ap && m = n then 0 else if here ≤ due then 1 else 2

/-- Take the frame of slot n from the head of the port's queues, discarding late and bad ones (R444). -/
def Dev.takeSlot (d : Dev) (s n : Nat) : Nat → Dev × Option QFrame
  | 0 => (d, none)
  | fuel + 1 =>
    let p := (d.seg s).port
    let d := d.badHeads p
    let q := lineQueue p
    let head := fun k => (d.queue (q + k)).head?
    match [7, 6, 5, 4, 3, 2, 1, 0].find? fun k => match head k with
      | some f => f.tail.isSome
      | none => false with
    | none => (d, none)
    | some k =>
      match head k with
      | none => (d, none)
      | some f =>
        match d.headFor s n f with
        | 0 => (d.modQueue (q + k) fun l => l.drop 1, some f)
        | 1 => (d, none)
        | 2 => (d.segDiscard p (q + k) (K.SEG_TX_LATE s) f).takeSlot s n fuel
        | _ => (d.segDiscard p (q + k) (K.SEG_TX_BAD s) f).takeSlot s n fuel

/-- The frame as it goes out on the line (R436, R444). -/
def Dev.segFrame (d : Dev) (s n : Nat) (data : List Byte) : List Byte :=
  let plen := data.length - 3
  let sync := n == d.obn (K.SEG_SYNC_SLOT s) && (d.segRank s).isSome
  let cs := d.segState s == 2
  let h := n * 65536 + (d.seg s).cyc * 1024 + b2n (sync || cs) * 512 + b2n cs * 256 + plen * 2
  let body := beBytes 3 h ++ data.drop 3
  [0x55, 0x55, 0xC3] ++ body ++ leBytes4 (crc32C body)

/-- The device sends in slot n at its action point (R443, R444). While the port is being measured its frames wait (R161). -/
def Dev.slotSend (d : Dev) (s n : Nat) : Dev :=
  let ap := d.actionPoint s n
  if !d.sendsSlot s n || decide (ap + 2 ^ 32 ≤ d.pubRaw (d.segTb s)) then d else
  let d := d.upToOn (d.segTb s) (ceilNs ap)
  let p := (d.seg s).port
  if !d.portUp p || d.sump.hardHold || d.lineBusy p then d else
  match d.takeSlot s n 64 with
  | (d, none) => d
  | (d, some f) =>
    let d := if f.env.tsReq || f.env.oneStep then d.postTs p (tsRec f.env.tsTag (adjNs (d.tbAgo (d.segTb s) 0 p) (d.ob (K.CH_TS_ADJ p)))) else d
    (d.emit (.frame p (d.segFrame s n f.data) false)).modSeg s fun x => { x with ownSent := insNat n x.ownSent }

/-- The outcome of a slot (R440): 1 VALID, 2 EMPTY, 3 EDGE, 4 COLLIDED, 5 BAD, and what a BAD one counts. -/
def Dev.slotOutcome (d : Dev) (s n : Nat) (collided own : Bool) (starts : List Int) (f : List Byte) : Nat × Nat :=
  let h := d.readHdr s f
  let raw : Nat × Nat :=
    if collided then (4, 0) else match starts with
      | [] => (2, 0)
      | x :: _ =>
        if d.segPi s < x.natAbs then (3, 0)
        else if h.wrong = 1 || h.slot ≠ n then (5, K.SEG_HDR_ERR s)
        else if h.wrong = 2 then (5, K.SEG_CRC_ERR s)
        else if [4, 6, 7].contains (d.segState s) && h.cyc != (d.seg s).cyc then (5, K.SEG_CYC_ERR s)
        else (1, 0)
  if own && raw.1 ≠ 1 then (4, 0) else raw

/-- Count an outcome of a slot and of the segment. -/
def Dev.countSlot (d : Dev) (s n out : Nat) (edges : Nat) : Dev :=
  let c := mget (d.seg s).slots n {}
  let sat := fun v k => min (v + k) (2 ^ 24 - 1)
  let c := { c with last := out, cyc := (d.seg s).cyc, empty := sat c.empty (b2n (out == 2)), edge := sat c.edge edges, collided := sat c.collided (b2n (out == 4)) }
  let d := d.modSeg s fun x => { x with slots := mput x.slots n c }
  let d := d.bumpBy (K.SEG_EDGE s) edges
  let d := if out = 2 then d.bump (K.SEG_EMPTY s) else if out = 4 then d.bump (K.SEG_COLLIDED s) else if out = 1 then d.bump (K.SEG_VALID_FRAMES s) else d
  let d := if edges = 0 then d else d.logSec 0x9110 s
  if out = 4 then d.logSec 0x9111 s else d

/-- A cold-start collision (R447). -/
def Dev.coldCollision (d : Dev) (s : Nat) : Dev :=
  let x := d.seg s
  if 8 ≤ x.attempts then
    ((d.modSeg s fun x => { x with csFault := true }).logE 0x9103 s).toListen s
  else
    let n := 2 + 8 * (d.segRank s).getD 0
    (((d.bump (K.SEG_COLLISIONS s)).modSeg s fun x => { x with backoffEnds := some (ceilNs (x.start + (1 + n) * d.stretch s (d.cycleNs s))), cyc := (x.cyc + 1 + n) % 64, ownSent := [], obs := [] }).logE 0x9102 s).segTo s 3

/-- A slot ends (R440, R441). `starts` are the start instants in it against its action point, in ns; `f` is what was received of
the first, from its first sync byte. In a cycle whose slots are not classified that frame only ends with a bad tail; the adopted one has had it. -/
def Dev.slotEnds (d : Dev) (s n : Nat) (atStart atEnd : Bool) (starts : List Int) (f : List Byte) : Dev :=
  let x := d.seg s
  if !(([2, 4, 5, 6, 7] : List Nat).contains (d.segState s)) || n = 0 || d.segSlots s < n || x.obs.any (fun o => decide (n ≤ o.slot)) then d else
  let ap := d.actionPoint s n
  let d := d.upToOn (d.segTb s) (ceilNs (d.slotEndAt s n))
  if !d.classifies s then (if x.adoptCycle && n == x.adopted then d else d.segBad s f) else
  let own := x.ownSent.contains n
  let (out, key) := d.slotOutcome s n (atStart || atEnd || x.carry) own starts f
  let h := d.readHdr s f
  let edges := (if out = 3 then 1 else 0) + (starts.length - 1)
  let dev := (starts.head?).getD 0
  let d := (d.modSeg s fun x => { x with carry := atEnd, obs := x.obs ++ [⟨n, out, h.sync, h.cstart, own, dev⟩] }).countSlot s n out edges
  let d := if key = 0 then d else d.bump key
  let pass := out == 1 && !own && (d.slotMap s n).dir != 2
  let d := if own then d
    else if pass then
      d.toParser x.port { bytes := f.drop 3, bad := false, cause := 0, vid := 0, cls := 0, ingTb := d.segTb s,
                          ingTime := ((ap / 2 ^ 32 : Nat) + dev).toNat, est := false, rate := 6 }
    else d.segBad s f
  if d.segState s = 2 && ((own && out ≠ 1) || (!own && out = 1 && h.cstart)) then d.coldCollision s else d

/-! ### The end of a cycle (R445 to R447) -/

/-- Sort, by insertion. -/
def insInt (v : Int) : List Int → List Int
  | [] => [v]
  | x :: l => if v ≤ x then v :: x :: l else x :: insInt v l

/-- Fault-tolerant average: with three or more values the lowest and the highest are dropped. -/
def fta (l : List Int) : Rat :=
  let x := l.foldr insInt []
  let x := if 3 ≤ x.length then (x.drop 1).dropLast else x
  if x.isEmpty then 0 else mkRat (x.foldl (· + ·) 0) x.length

/-- 500 ppm in units of 2^-64. -/
def rhoLimit : Int := 2 ^ 64 / 2000

/-- The corrections at the end of the last slot (R445). A cycle whose slots are not classified has no valid frame, so that its offset is 0; it does not
count among the cycles of R447 without a sync frame. -/
def Dev.correct (d : Dev) (s : Nat) (counts : Bool) : Dev :=
  let x := d.seg s
  let good := x.obs.filter fun o => o.outcome == 1 && o.sync
  let others := good.filter fun o => !o.own
  let v := (others.take 4).map (·.dev)
  let d := d.bumpBy (K.SEG_SYNC_EXCESS s) (others.length - 4)
  let d := d.setOb (K.SEG_SYNC_SEEN s) (v.length : Nat)
  let v := if (d.segRank s).isSome && good.any (·.own) then 0 :: v else v
  let off := ratTrunc (fta v)
  let r := others.filterMap fun o =>
    (x.prev.find? fun q => q.slot == o.slot && q.outcome == 1 && q.sync && !q.own).map fun q => o.dev - q.dev + x.applied
  let rho := if r.isEmpty then x.rho else x.rho + ratTrunc (fta r * (2 ^ 64 : Nat) / (2 * d.cycleNs s : Nat))
  let tooMuch := decide (rhoLimit < rho.natAbs)
  let rho := if tooMuch then (if 0 ≤ rho then rhoLimit else -rhoLimit) else rho
  let d := d.iff tooMuch fun d => (d.bump (K.SEG_RATE_CLAMPS s)).logE 0x9112 s
  let d := (d.setOb (K.SEG_OFFSET s) off).setOb (K.SEG_RATE_CORR s) (ratTrunc (mkRat (rho * 1000000000) (2 ^ 64)))
  d.modSeg s fun x => { x with off := off, rho := rho, applied := if d.anchored s then 0 else off,
                               heard := if !counts then x.heard else if others.isEmpty then 0 else x.heard + 1,
                               missed := if !counts then x.missed else if others.isEmpty then x.missed + 1 else 0 }

/-- Go on to the next cycle: its start and count, and a SLOT_MAP that waits for it (R438, R445, R446, R449). -/
def Dev.nextCycle (d : Dev) (s : Nat) : Dev :=
  let next := d.nextStart s
  let d := d.modSeg s fun x => { x with start := next, startWas := x.start, cyc := (x.cyc + 1) % 64, cycles := (x.cycles + 1) % 2 ^ 24, prev := x.obs, obs := [],
                                        ownSent := [], carry := false, fireNext := x.fireNext.map fun e => (e.1, e.2 - 1) }
  (d.setOb (K.SEG_CYCLE s) (d.seg s).cycles).takeMap s

/-- The state after the cycle's last slot (R447). -/
def Dev.cycleState (d : Dev) (s : Nat) : Dev :=
  let x := d.seg s
  let sync := (d.segRank s).isSome
  match d.segState s with
  | 2 =>
    let n := x.sent + b2n (x.obs.any fun o => o.own && o.outcome == 1)
    let d := d.modSeg s fun x => { x with sent := n }
    if 4 ≤ n then ((d.modSeg s fun x => { x with attempts := 0 }).logE 0x9104 s).segTo s 4 else d
  | 4 => if 2 ≤ x.heard then (d.logE 0x9105 s).segTo s 6 else d
  | 5 =>
    if x.adoptCycle then d.modSeg s fun x => { x with adoptCycle := false }
    else if x.waiting then
      ((d.modSeg s fun x => { x with attempts := 0, csFault := false, waiting := false }).logE 0x9105 s).segTo s 6
    else if x.obs.any fun o => o.slot == x.adopted && o.outcome == 1 then
      d.modSeg s fun x => { x with counted := x.counted + 1, waiting := decide (1 ≤ x.counted) }
    else (d.logE 0x9107 s).toListen s
  | 6 =>
    if !d.anchored s && decide (d.segPiMax s < x.off.natAbs) || (!sync && decide (2 ≤ x.missed)) then
      (((d.modSeg s fun x => { x with good := 0, waiting := false }).bump (K.SEG_PASSIVES s)).logE 0x9106 s).segTo s 7
    else if sync && decide (2 ≤ x.missed) then (d.logE 0x9104 s).segTo s 4
    else d
  | 7 =>
    if x.waiting then ((d.modSeg s fun x => { x with waiting := false }).logE 0x9105 s).segTo s 6
    else if 8 ≤ x.missed then (d.logE 0x9107 s).toListen s
    else
      let g := if x.missed = 0 && decide (x.off.natAbs ≤ d.segPiMax s) then x.good + 1 else 0
      d.modSeg s fun x => { x with good := g, waiting := decide (2 ≤ g) }
  | _ => d

/-- The end of the last slot of a cycle. -/
def Dev.cycleEnds (d : Dev) (s : Nat) : Dev :=
  if ! [2, 4, 5, 6, 7].contains (d.segState s) then d else
  let d := d.upToOn (d.segTb s) (ceilNs (d.slotEndAt s (d.segSlots s)))
  let counts := d.classifies s
  let d := (d.modSeg s fun x => { x with rhoWas := d.segRho s, countedWas := counts }).correct s counts
  let d := d.cycleState s
  if 2 ≤ d.segState s then d.nextCycle s else d

/-! ### Objects and control words (R449, R452, R453) -/

/-- A write of SLOT_MAP (R434, R449). -/
def Dev.slotMapWrite (d : Dev) (s : Nat) (img : List Byte) : Dev × Nat :=
  if !slotMapOk img then (d, Stat.range)
  else if d.segState s = 0 then ((d.event.setDom (K.SEG_SLOT_MAP s) img), Stat.done)
  else if sameSlots (d.dom (K.SEG_SLOT_MAP s)) img then
    (d.event.modSeg s fun x => { x with newMap := some img }, Stat.done)
  else (d, Stat.busy)

/-- Words 1 to 8 of a segment's control words now. -/
def Dev.segWords (d : Dev) (s : Nat) : List Nat :=
  let x := d.seg s
  [(d.segNow s).2.2, wrapN 24 x.off, wrapN 24 (d.ob (K.SEG_RATE_CORR s)), x.attempts * 256 + d.obn (K.SEG_SYNC_SEEN s)] ++ t80Words ((d.segNow s).1 / 2 ^ 32)

/-- Read control word w; word 0 latches the others. -/
def Dev.segRead (d : Dev) (s w : Nat) : Dev × Nat :=
  let x := d.seg s
  if w = 0 then
    (d.modSeg s fun x => { x with latched := d.segWords s },
     d.segState s * 2 ^ 20 + b2n x.csFault * 2 ^ 19 + b2n x.held * 2 ^ 18 + (d.segNow s).2.1 * 4096)
  else (d, if w ≤ 8 then x.latched.getD (w - 1) 0 else 0)

/-- Read word w of slot n. -/
def Dev.slotRead (d : Dev) (s n w : Nat) : Nat :=
  let c := mget (d.seg s).slots n {}
  [c.last * 2 ^ 21 + c.cyc * 2 ^ 15, c.empty, c.edge, c.collided].getD w 0

/-- SLOT_COUNTS: words 1 to 3 of each slot. -/
def Dev.slotCounts (d : Dev) (s : Nat) : List Byte :=
  bytesOf ((List.range' 1 (d.segSlots s)).flatMap fun n => [d.slotRead s n 1, d.slotRead s n 2, d.slotRead s n 3])

end Sys2Proof.Machine
end

