-- ==== Sys2Proof/Machine/Ports.lean ====
section
/-! DEFINITION. Line ports and tiles: states, reservations, retries, TDR, inputs, role moves (spec 05, 06). Port p lies on tile p / 24.
A function that carries out a dictionary write answers with its status, or with none while the write still waits. -/
namespace Sys2Proof.Machine

def tileOf (p : Nat) : Nat := p / 24
def Dev.tileRuns (d : Dev) (t : Nat) : Bool := d.obn (K.TILE_STATE t) == 2

/-- Set or clear a bit of PORT_FLAGS (R152). -/
def Dev.portFlag (d : Dev) (p n : Nat) (v : Bool) : Dev := d.setOb (K.PORT_FLAGS p) (putBit (d.obn (K.PORT_FLAGS p)) n v : Nat)
def Dev.hasFlag (d : Dev) (p n : Nat) : Bool := (d.obn (K.PORT_FLAGS p)).testBit n

/-! ### Sweeps that end early (R162) -/

/-- The sweep of a tile ends early. TDR_EVENT and TDR_SAMPLES keep what the sweep before it left (log entry 56, DESIGN CHOICE). -/
def Dev.sweepAbort (d : Dev) (t : Nat) : Dev :=
  match (d.tile t).sweep with
  | none => d
  | some s =>
    let d := if s.acquiring then d.release s.permit else d
    let d := (d.modTile t fun x => { x with sweep := none }).setOb (K.TILE_TDR_PORT t) 0xFF
    ((d.setOb (K.P_TDR_STATUS s.port) Stat.aborted).bump (K.TILE_TDR_ABORTS t)).logE 0x2131 s.port

def Dev.sweepsPort (d : Dev) (p : Nat) : Bool :=
  match (d.tile (tileOf p)).sweep with
  | some s => s.port == p
  | none => false

def Dev.sweepAbortPort (d : Dev) (p : Nat) : Dev := if d.sweepsPort p then d.sweepAbort (tileOf p) else d

/-! ### Role moves that are cancelled (R145) -/

def Dev.rolePending (d : Dev) (p : Nat) : Option Nat := let v := d.obn (K.P_ROLE_PENDING p); if v % 128 = 0x7F then none else some v

/-- Cancel the pending move of a port: E:2121. -/
def Dev.moveCancel (d : Dev) (p : Nat) : Dev :=
  if (d.rolePending p).isSome then ((d.setOb (K.P_ROLE_PENDING p) 0x7F).portFlag p 8 false).logE 0x2121 p else d

/-- The ports with a pending move to q. -/
def Dev.movesTo (d : Dev) (q : Nat) : List Nat := (List.range 96).filter fun p => (d.rolePending p).map (· % 128) == some q

/-! ### Recalibration (R142, R149) -/

/-- Does the tile's calibration engine work? -/
def Dev.calBusy (d : Dev) (t : Nat) : Bool :=
  (d.tile t).calPort.isSome || (List.range' (24 * t) 24).any fun p => (d.port p).recalEnds.isSome

def Dev.recalStart (d : Dev) (p : Nat) : Dev := (d.modPort p fun x => { x with recalEnds := some (d.now + 2000000) }).portFlag p 6 true

/-- The Sump measures a tile's timestamp alignment at its start or its recalibration and compensates it: what remains is free within the 500 ps of the
rule, and the next check is 1 ms later (R422; log entry 57). -/
def Dev.tileMeasured (d : Dev) (t : Nat) : Dev :=
  let (v, d) := d.fresh 16
  { d.setOb (K.TSA_TS_SKEW t) ((v % 1001 : Nat) - 500 : Int) with time := { d.time with alignAt := d.time.alignAt.set t (d.now + 1000000) } }

/-- The next port of a tile recalibration at or after p: ports in a sweep are skipped and the skip logged (log entry 22). -/
def Dev.calNext (d : Dev) (t : Nat) : Nat → Nat → Dev
  | 0, _ => d
  | fuel + 1, p =>
    if 24 * t + 24 ≤ p then
      (((d.release (d.tile t).calPermit).modTile t fun x => { x with calPort := none, calPermit := 0 }).tileMeasured t).logE 0x2C02 t
    else
      let st := d.portState p
      if d.sweepsPort p then (d.logE 0x2C02 (0x100 + p)).calNext t fuel (p + 1)
      else if st = 1 || st = 2 || st = 3 then (d.recalStart p).modTile t fun x => { x with calPort := some p }
      else d.calNext t fuel (p + 1)

/-! ### State changes (R127 to R129) -/

/-- The end of a frame in reception as a port leaves service (R129). -/
def Dev.endReception (d : Dev) (p : Nat) : Dev := if 4 ≤ d.portMode p then d.rxCut p 2 else d

/-- MDIX_CROSSED while the link is not up: forced MDI-X receives on LA in Probing; elsewhere LA does not receive (R137). -/
def Dev.mdixFlag (d : Dev) (p : Nat) : Dev :=
  if d.portUp p then d else d.portFlag p 2 (d.portMode p == 1 && d.portState p == 1 && d.obn (K.P_MDIX p) == 2)

/-- A port enters a state: one event, its event source, and what goes with the change (R127 to R129). -/
def Dev.portTo (d : Dev) (p st : Nat) (cause : Option Nat) : Dev :=
  let old := d.portState p
  if old = st then d else
  let up := fun s => s == 2 || s == 3
  let d := d.iff (up old && !up st) fun d => (d.bump (K.P_DOWN_COUNT p)).endReception p
  let d := (d.event.setOb (K.PORT_STATE p) st).modPort p fun x =>
    { x with since := d.now, upSince := if st = 2 then d.now else x.upSince, serviceSince := if up st && !up old then d.now else x.serviceSince,
             goodWins := 0, winErr := 0, idleQuiet := x.idleQuiet && st != 1, winAt := d.now / 1000000000 * 1000000000, retry := if st = 4 then x.retry else .idle, dinFirst := st == 1 || x.dinFirst,
             recalEnds := if st = 1 || up st then x.recalEnds else none, integrating := false, degrading := x.degrading && up st,
             attempts := if old = 5 then 1 else x.attempts }
  let d := match cause with
    | some c => if st = 2 then d else d.setOb (K.PORT_CAUSE p) c
    | none => d
  let d := if st = 2 then d.setOb (K.PORT_CAUSE p) 0 else d
  let d := (d.portFlag p 5 false).mdixFlag p
  let d := d.iff (!(st == 1 || up st)) fun d => d.portFlag p 6 false
  let d := d.iff (up old && !up st) fun d => ((d.flushLine p).portFlag p 3 false).each (d.segsOn p) fun d s => d.segLost s
  let d := if d.portMode p = 3 then (if st = 1 then d.busIntegrate p else if up st then d else d.busReset p) else d
  let d := d.chFollow p
  let d := d.iff (!(st == 1 || up st) && (mget? d.macs p).isSome) fun d => d.modMac p fun x => { x with paused := none, pauseNext := none, gapEnds := 0, cut := false }
  let d := d.iff (st == 4) fun d => d.sweepAbortPort p
  let d := d.iff (st == 0 || st == 5) fun d => d.each (d.movesTo p) fun d q => d.moveCancel q
  let d := if !(st == 1 || up st) && (d.tile (tileOf p)).calPort = some p then d.calNext (tileOf p) 25 (p + 1) else d
  (d.raise p).segsResume

/-- Release a port's reservation. -/
def Dev.dropRes (d : Dev) (p : Nat) : Dev :=
  let n := (d.port p).res
  if n = 0 then d else (d.modPort p fun x => { x with res := 0 }).release n

/-- A port goes Off with a cause: E:2104. -/
def Dev.portOff (d : Dev) (p cause : Nat) (keep : Bool) : Dev :=
  let d := if keep then d else d.dropRes p
  if d.portState p = 0 then d else (d.portTo p 0 (some cause)).logE 0x2104 p

/-- A port is quarantined with a cause: E:2103. -/
def Dev.portQuarantine (d : Dev) (p cause : Nat) : Dev := ((d.dropRes p).portTo p 5 (some cause)).logE 0x2103 p

/-! ### Leaving Off (R131, R132, R135) -/

/-- What a mode's reservation asks for, 0 for none. -/
def Dev.resNeed (d : Dev) (p mode : Nat) : Nat := if mode = 1 then 150 else if mode = 2 && d.obn (K.P_T1L_LEVEL p) != 0 then 180 else 0

/-- Enter Probing; from Probing itself the timer starts anew. -/
def Dev.probe (d : Dev) (p : Nat) (cause : Option Nat) : Dev :=
  let d := d.modPort p fun x => { x with since := d.now, dinFirst := true, idleQuiet := false }
  let d := if d.portState p = 1 then ((d.portFlag p 5 false).mdixFlag p).chFollow p else d.portTo p 1 cause
  d.iff (d.portMode p == 3) fun d => d.busIntegrate p

/-- The old mode ends and a new one stands (R135). The mode-owned flags of PORT_FLAGS, POL_LA and T1L_HIGH among them, clear here: the manual names no event that
clears those two (log entry 44, DESIGN CHOICE). -/
def Dev.putMode (d : Dev) (p v : Nat) : Dev :=
  let old := d.portMode p
  if old = v then d else
  let d := d.sweepAbortPort p
  let d := d.iff (old == 3) fun d => d.busClear p
  let d := d.iff (old == 1 || old == 2) fun d => { d with macs := mdel d.macs p }
  let d := d.iff (d.portUp p) fun d => d.endReception p
  let d := d.setOb (K.PORT_FLAGS p) (d.obn (K.PORT_FLAGS p) / 32 % 4 * 32 + d.obn (K.PORT_FLAGS p) / 256 * 256 : Nat)
  let d := (d.event.setOb (K.PORT_MODE p) v).modPort p fun x => { x with lowOnly := false, degrading := false, inLatch := [], idleQuiet := false, polSwap := false }
  d.chFollow p

/-- A retry in hand ends at once (R159). -/
def Dev.retryStop (d : Dev) (p : Nat) : Dev :=
  let d := d.releaseAll (.retry p)
  d.modPort p fun x => { x with retry := .idle }

/-- Fault's next wait (R159). -/
def Dev.retryWait (d : Dev) (p : Nat) : Dev :=
  let n := (d.port p).attempts
  let ms := min (d.obn (K.P_RETRY_BASE p) * 2 ^ (min n 40 - 1)) (d.obn (K.P_RETRY_CAP p))
  d.modPort p fun x => { x with retry := .delay (d.now + ms * 1000000) }

/-- Finish an enabling or mode write whose reservation is answered: `num` is the permit, none a refusal. A port that probes in the same mode, and
asks for its 2.4 Vpp anew, goes on probing; one in Fault whose retry asked waits again (log entry 21). A write of PORT_MODE that takes a port out of Up or
Degraded leaves the cause COMMAND, since the manual names none (log entry 44, DESIGN CHOICE). -/
def Dev.portGo (d : Dev) (p mode : Nat) (modeWrite : Bool) (num : Option Nat) : Dev × Nat :=
  let low := mode == 2 && d.obn (K.P_T1L_LEVEL p) == 2
  let cause := if d.portUp p then some 4 else none
  if modeWrite && d.portState p = 5 then ((d.release (num.getD 0)).putMode p mode, Stat.done) else
  let go := fun (d : Dev) (low : Bool) (n : Nat) =>
    let d := d.iff (d.portState p == 4) fun d => d.retryStop p
    let d := if (d.port p).res = n then d else d.dropRes p
    let stays := d.portState p == 1 && d.portMode p == mode
    let d := d.putMode p mode
    let d := d.modPort p fun x => { x with res := n, lowOnly := low }
    let d := d.iff (!modeWrite) fun d => d.event.setOb (K.PORT_ADMIN p) 1
    let d := d.iff (d.portState p == 5) fun d => (d.modPort p fun x => { x with attempts := 1 }).setOb (K.PORT_CAUSE p) 0
    let d := d.iff low fun d => d.logE 0x2114 p
    if stays then d else d.probe p cause
  match num with
  | some n => (go d false n, Stat.done)
  | none =>
    if low then (go d true 0, Stat.done)
    else if d.portState p = 4 && mode == d.portMode p then (d.iff ((d.port p).retry == .idle) fun d => d.retryWait p, Stat.permit)
    else (d.iff (d.portState p == 0) fun d => d.setOb (K.PORT_CAUSE p) 11, Stat.permit)

/-- Bring a port up in a mode, taking its reservation first: the status, or none while the Tap has not answered. -/
def Dev.bringUp (d : Dev) (p mode : Nat) (modeWrite : Bool) (r : Option Src) : Dev × Option Nat :=
  let need := d.resNeed p mode
  let held := (d.port p).res
  let done := fun (x : Dev × Nat) => (x.1, some x.2)
  if need = 0 then done ((d.dropRes p).portGo p mode modeWrite (some 0))
  else if held != 0 && mode == d.portMode p then done (d.portGo p mode modeWrite (some held))
  else
    match d.ask (.port p) need 0xFFFFFF (d.obn (K.PORT_TAP_PRIO p)) 50 0 with
    | (d, .granted n) => done (d.portGo p mode modeWrite (some n))
    | (d, .queued) => (d.modPort p fun x => { x with req := some { src := r, mode := mode, isModeWrite := modeWrite } }, none)
    | (d, _) => done (d.portGo p mode modeWrite none)

/-- Where PORT_ADMIN is 1, a mode is set and the tile runs, an Off port is brought up. -/
def Dev.autoUp (d : Dev) (p : Nat) : Dev :=
  if d.portState p = 0 && d.obn (K.PORT_ADMIN p) = 1 && d.portMode p != 0 && d.tileRuns (tileOf p) && (d.port p).req.isNone then
    (d.bringUp p (d.portMode p) true none).1
  else d

/-- The Tap's answer is acted on (R131, R132, R135); a mode that has ceased to need a reservation meanwhile goes on without one (R138). -/
def Dev.portAnswered (d : Dev) (p : Nat) : Dev :=
  match (d.port p).req with
  | some q =>
    match q.answer with
    | some a =>
      let d := d.modPort p fun x => { x with req := none }
      let needs := d.resNeed p q.mode != 0
      let d := d.iff (!needs) fun d => d.release ((a.getD 0))
      let (d, st) := d.portGo p q.mode q.isModeWrite (if needs then a else some 0)
      d.complete q.src st
    | none => d
  | none => d

/-- Cancel a waiting write: it completes with ABORTED (R135). -/
def Dev.cancelReq (d : Dev) (p : Nat) : Dev :=
  match (d.port p).req with
  | some q =>
    let d := match q.answer with
      | some (some n) => d.release n
      | _ => d
    let d := d.modTap fun t => { t with queue := t.queue.filter fun x => x.holder != .port p }
    (d.modPort p fun x => { x with req := none }).complete q.src Stat.aborted
  | none => d

/-- PORT_ADMIN (R127, R135). A write of 1 in Fault ends the retry and begins a new retry delay (log entry 21, DESIGN CHOICE).
A write of 1 is BUSY too while a request that the port made of itself waits for its reservation (log entry 44, DESIGN CHOICE). -/
def Dev.adminWrite (d : Dev) (p v : Nat) (r : Option Src) : Dev × Option Nat :=
  if 2 < v then (d, some Stat.range)
  else if (d.port p).req.isSome && v = 1 then (d, some Stat.busy)
  else
    let d := d.cancelReq p
    let st := d.portState p
    let fault := st == 4
    let d := d.iff fault fun d => d.retryStop p
    if v = 2 then
      let d := d.event.setOb (K.PORT_ADMIN p) 2
      (if st = 5 then d else d.portQuarantine p 4, some Stat.done)
    else if v = 0 then
      let d := d.event.setOb (K.PORT_ADMIN p) 0
      (if st = 0 || st = 5 then d.dropRes p else d.portOff p 1 false, some Stat.done)
    else if (st = 0 || st = 5) && d.portMode p != 0 && d.tileRuns (tileOf p) then d.bringUp p (d.portMode p) false r
    else if st = 5 then
      let d := ((d.event.setOb (K.PORT_ADMIN p) 1).modPort p fun x => { x with attempts := 1 }).setOb (K.PORT_CAUSE p) 0
      (d.portTo p 0 none, some Stat.done)
    else
      let d := d.event.setOb (K.PORT_ADMIN p) 1
      (d.iff (fault && d.obn (K.P_RETRY_POLICY p) == 1) fun d => d.retryWait p, some Stat.done)

/-- PORT_MODE (R135). It is BUSY too while a request that the port made of itself waits for its reservation (log entry 44, DESIGN CHOICE). -/
def Dev.modeWrite (d : Dev) (p v : Nat) (r : Option Src) : Dev × Option Nat :=
  let st := d.portState p
  if 7 < v then (d, some Stat.range)
  else if d.obn (K.P_ROLE_CONTEXT p) < 128 || (d.port p).req.isSome then (d, some Stat.busy)
  else if v = d.portMode p then (d, some Stat.done)
  else if st = 5 || !d.tileRuns (tileOf p) then ((d.dropRes p).putMode p v, some Stat.done)
  else if v = 0 then
    let d := d.iff (st == 4) fun d => d.retryStop p
    ((d.portOff p 1 false).putMode p 0, some Stat.done)
  else if st = 0 && d.obn (K.PORT_ADMIN p) ≠ 1 then ((d.dropRes p).putMode p v, some Stat.done)
  else d.bringUp p v true r

/-! ### Events on the line (R127, R133, R136 to R141) -/

/-- Does a degrading condition of R133 hold? -/
def Dev.degrades (d : Dev) (p : Nat) : Bool :=
  match d.portMode p with
  | 1 => d.hasFlag p 3
  | 2 => (d.port p).degrading
  | 3 => [1, 2, 3].contains (d.obn (K.BUS_STATE p))
  | 4 => d.hasFlag p 7
  | 5 => d.hasFlag p 7
  | 6 => (d.port p).degrading && d.obn (K.P_ENC_INPUT p) == 0
  | 7 => (d.port p).din.any fun x => x.flutter || x.stuck
  | _ => false

/-- Error counts of the last second. -/
def Dev.recentErrs (d : Dev) (p : Nat) : Nat :=
  ((d.port p).errs.filter fun e => decide (d.now < e.1 + 1000000000)).foldl (fun a e => a + e.2) 0

/-- Up to Degraded, where a limit is passed or a condition holds (R127). -/
def Dev.degCheck (d : Dev) (p : Nat) : Dev :=
  if d.portState p = 2 && (decide (d.obn (K.P_DEG_LIMIT p) < d.recentErrs p) || d.degrades p) then (d.portTo p 3 none).logE 0x2101 p else d

/-- How long after configuration the Up condition of a mode is met at the earliest (R133), in ns. -/
def upAfter (mode : Nat) : Nat := if mode = 6 || mode = 7 then 1000000 else if mode = 4 || mode = 5 then 100000 else 0

/-- The Up condition is met (R127, R133). There is parallel detection only where the port negotiates (R136). A port whose idle level lies within ±200 mV
stays in Probing (R140). -/
def Dev.portUpEvent (d : Dev) (p : Nat) (parallel crossed : Bool) : Dev :=
  let eth := d.portMode p == 1
  if d.portState p = 1 && d.portMode p ≠ 0 && !d.sump.hardHold && !((d.portMode p == 4 || d.portMode p == 5) && (d.port p).idleQuiet) then
    let d := d.upTo ((d.port p).since + upAfter (d.portMode p))
    let mdix := d.obn (K.P_MDIX p)
    let par := parallel && d.obb (K.P_ETX_AN p)
    let d := d.iff eth fun d => ((d.portFlag p 2 (mdix == 2 || (mdix == 0 && crossed))).portFlag p 3 par).iff par fun d => d.logE 0x2112 p
    let d := d.iff (d.portMode p == 3) fun d => d.busIntegrated p
    (((d.portTo p 2 none).bump (K.P_UP_COUNT p)).logE 0x2100 p).degCheck p
  else if d.portUp p && (d.port p).integrating then (d.busIntegrated p).modPort p fun x => { x with integrating := false }
  else d

/-- The port's own request for 2.4 Vpp is withdrawn. -/
def Dev.t1lUnask (d : Dev) (p : Nat) : Dev :=
  let mine := match (d.port p).req with
    | some q => q.src.isNone && q.mode == 2
    | none => false
  d.iff mine fun d => d.cancelReq p

/-- A port that runs ET1L holds a reservation while it can use 2.4 Vpp, and none otherwise (R125, R131, R138): it asks anew where it negotiates again
after its link resolved to 1.0 Vpp, but not where R132 applied. In Fault it asks when its retry probes. -/
def Dev.t1lReserve (d : Dev) (p : Nat) : Dev :=
  if d.portMode p ≠ 2 then d
  else if d.obn (K.P_T1L_LEVEL p) = 0 then
    (d.t1lUnask p).dropRes p
  else if d.portState p = 1 && (d.port p).res = 0 && (d.port p).req.isNone && !(d.port p).lowOnly then (d.bringUp p 2 true none).1
  else d

/-- The Up condition is lost (R127). -/
def Dev.portDown (d : Dev) (p : Nat) : Dev := if d.portUp p then (d.portTo p 1 (some 3)).t1lReserve p else d

/-- A whole 1 s window of T0 ends on a Degraded port (R127). -/
def Dev.degWindow (d : Dev) (p : Nat) : Dev :=
  if d.portState p ≠ 3 then d else
  let x := d.port p
  let d := d.upTo (x.winAt + 1000000000)
  let n := x.winErr
  let whole := decide (x.since ≤ x.winAt)
  let good := if whole then (if n ≤ d.obn (K.P_DEG_LIMIT p) then x.goodWins + 1 else 0) else 0
  let d := d.modPort p fun x => { x with winErr := 0, goodWins := good, winAt := x.winAt + 1000000000 }
  if 5 ≤ good && !d.degrades p then (d.portTo p 2 none).logE 0x2100 p else d

/-- PROBE_TIMEOUT runs out (R127). -/
def Dev.probeTimeout (d : Dev) (p : Nat) : Dev :=
  if d.portState p ≠ 1 || d.hasFlag p 5 then d else
  let d := d.upTo ((d.port p).since + d.obn (K.P_PROBE_TIMEOUT p) * 1000000)
  (d.portFlag p 5 true).logE 0x2113 p

/-- A port option (R123, R135): element 3 + opt of the port's object. New encoder receivers begin with no degrading condition (R133). -/
def Dev.optionWrite (d : Dev) (p opt v : Nat) : Dev × Nat :=
  let same := d.obn (K.P_ETX_AN p + opt) == v
  let d := d.event.setOb (K.P_ETX_AN p + opt) v
  let again := !same && ((d.portMode p == 1 && (opt == 0 || opt == 6)) || (d.portMode p == 2 && (opt == 1 || opt == 2)))
  let d := if again && d.portUp p then d.portTo p 1 (some 4) else d
  let d := d.iff again fun d => d.mdixFlag p
  let d := d.iff (!same && opt == 7) fun d => d.modPort p fun x => { x with degrading := false }
  let d := d.iff (!same && opt == 1) fun d => d.modPort p fun x => { x with lowOnly := false }
  (d.iff (again && d.portMode p == 2) fun d => d.t1lReserve p, Stat.done)

/-- A round of negotiation in ETX that found no common ability (R136). -/
def Dev.anRound (d : Dev) (p : Nat) : Dev := if d.portState p = 1 && d.portMode p = 1 && d.obb (K.P_ETX_AN p) then d.errCount p 1 else d

/-- The level of an ET1L link resolves (R138): partner [0] offers 1.0 Vpp, [1] 2.4 Vpp. With level 2 the port offers both, unless R132 applied; it
resolves nothing while its reservation is still to come (log entry 21). -/
def Dev.t1lLevel (d : Dev) (p partner : Nat) : Dev :=
  if d.portState p ≠ 1 || d.portMode p ≠ 2 then d else
  let lv := d.obn (K.P_T1L_LEVEL p)
  let an := d.obb (K.P_T1L_AN p)
  let d := d.t1lReserve p
  let x := d.port p
  let canHigh := lv != 0 && x.res != 0
  let canLow := lv != 1
  let high := canHigh && (!an || partner.testBit 1)
  let low := !high && canLow && (!an || partner.testBit 0)
  if !high && !low then d.errCount p 1 else
  let d := d.portFlag p 4 high
  if low && lv = 2 then (d.t1lUnask p).dropRes p else d

/-- A crossed bus pair is found and swapped, in every state in which the receivers are on; a frame that the device was sending is lost
and counts as a bus error (R126, R139). -/
def Dev.busSwap (d : Dev) (p : Nat) : Dev :=
  let st := d.portState p
  if d.portMode p ≠ 3 || !d.obb (K.P_POL_AUTO p) || !(st == 1 || st == 2 || st == 3 || st == 4) then d else
  let d := ((d.portFlag p 0 true).bump (K.P_POL_EVENTS p)).logE 0x2110 p
  let d := d.iff (d.bus p).active.isSome fun d => d.errCount p 1
  if d.portUp p then (d.busIntegrate p).modPort p fun x => { x with integrating := true } else d

/-- The idle level is evaluated (R140), as it stands behind the front-end's own swap: a reversal found after a swap swaps the pair back (log entry 44,
DESIGN CHOICE). -/
def Dev.idleEval (d : Dev) (p : Nat) (mv : Int) : Dev :=
  let m := d.portMode p
  let st := d.portState p
  if !(m == 4 || m == 5) || !(st == 1 || st == 2 || st == 3) then d
  else
  let d := d.modPort p fun x => { x with idleQuiet := decide (-200 ≤ mv) && decide (mv ≤ 200) }
  if mv < -200 then
    if m = 4 && d.obb (K.P_POL_AUTO p) then
      (((d.portFlag p 0 true).modPort p fun x => { x with polSwap := !x.polSwap }).bump (K.P_POL_EVENTS p)).logE 0x2110 p
    else if d.hasFlag p 7 then d
    else (((d.portFlag p 7 true).bump (K.P_POL_EVENTS p)).logE 0x2111 p).degCheck p
  else if 200 < mv then d.portFlag p 7 false
  else d

/-! ### RECAL (R142) -/

/-- RECAL = 1. -/
def Dev.recalWrite (d : Dev) (p v : Nat) : Dev × Nat :=
  let st := d.portState p
  if v ≠ 1 then (d, Stat.range)
  else if !(st == 1 || st == 2 || st == 3) then (d, Stat.mode)
  else if d.sweepsPort p || d.calBusy (tileOf p) then (d, Stat.busy)
  else (d.event.recalStart p, Stat.done)

/-- A port's recalibration ends. -/
def Dev.recalEnd (d : Dev) (p : Nat) : Dev :=
  match (d.port p).recalEnds with
  | none => d
  | some t =>
    let d := ((d.upTo t).modPort p fun x => { x with recalEnds := none }).portFlag p 6 false
    let d := d.iff (d.portMode p == 3) fun d => (d.busIntegrate p).modPort p fun x => { x with integrating := d.portUp p }
    if (d.tile (tileOf p)).calPort = some p then d.calNext (tileOf p) 25 (p + 1) else d

/-! ### Faults and retries (R156 to R159) -/

/-- Is a pin used in the port's mode (R122)? -/
def Dev.pinUsed (d : Dev) (p pin : Nat) : Bool :=
  match d.portMode p with
  | 0 => false
  | 1 => decide (pin < 4)
  | 2 => decide (pin < 2)
  | 3 => decide (pin < 2)
  | 4 => decide (pin < 2)
  | 5 => decide (pin < 4)
  | 6 => d.obn (K.P_ENC_INPUT p) == 0 || pin == 0 || pin == 2 || pin == 4
  | _ => decide (pin < 5)

/-- A failed attempt of a retry (R159). RETRY_POLICY is looked at as a port enters Fault, and a write of 0 afterwards lets the retries go on (log entry 44,
DESIGN CHOICE). -/
def Dev.failAttempt (d : Dev) (p : Nat) : Dev :=
  let d := (d.modPort p fun x => { x with attempts := x.attempts + 1, retry := .idle }).bump (K.P_RETRY_COUNT p)
  let d := d.logE 0x2105 p
  let lim := d.obn (K.P_RETRY_MAX p)
  if lim ≠ 0 && lim < (d.port p).attempts then d.portQuarantine p 5 else d.retryWait p

/-- The working range of a port's used pins in 0.01 V (R155). -/
def Dev.pinRange (d : Dev) (p : Nat) : Int × Int :=
  match d.portMode p with
  | 1 | 2 => (-600, 600)
  | 3 => (-1200, 1200)
  | 4 | 5 => (-700, 1200)
  | 6 => if d.obn (K.P_ENC_INPUT p) = 2 then (-300, 3200) else (-700, 1200)
  | _ => (-300, 3200)

/-- Is a voltage at a used pin outside its working range (R155)? -/
def Dev.pinOut (d : Dev) (p : Nat) (cv : Int) : Bool := decide (cv < (d.pinRange p).1) || decide ((d.pinRange p).2 < cv)

/-- An overvoltage in the sample in which the port went to Fault by OVERCURRENT: the cause is OVERVOLTAGE, and the fault counts as one; with
RETRY_POLICY 0 the port is Quarantined by then, with cause RETRIES (R157, R159). -/
def Dev.overBoth (d : Dev) (p pin : Nat) : Dev :=
  if (d.port p).overAt = some d.now then
    let d := (d.iff (d.portState p == 4) fun d => d.setOb (K.PORT_CAUSE p) 10).modPort p fun x => { x with overAt := none }
    ((d.setOb (K.P_FAULT_PIN p) pin).setOb (K.P_OC_EVENTS p) ((d.port p).ocWas : Nat)).bump (K.P_OV_EVENTS p)
  else d

/-- A short circuit or an overvoltage at a pin (R127, R156, R157). In a retry's window it fails the attempt, which is no
new fault of the counters. -/
def Dev.lineFault (d : Dev) (p pin cause counter : Nat) : Dev :=
  let st := d.portState p
  if !d.pinUsed p pin then d else
  match st, (d.port p).retry with
  | 4, .window n _ => ((d.setOb (K.P_FAULT_PIN p) pin).release n).failAttempt p
  | 4, _ => if cause = 10 then d.overBoth p pin else d
  | 5, _ => if cause = 10 then d.overBoth p pin else d
  | _, _ =>
    if !(st == 1 || st == 2 || st == 3) then d else
    let was := d.obn (K.P_OC_EVENTS p)
    let d := (d.setOb (K.P_FAULT_PIN p) pin).bump counter
    let d := ((d.portTo p 4 (some cause)).logE 0x2102 p).modPort p fun x => { x with overAt := if cause = 9 then some d.now else none, ocWas := was }
    if d.obn (K.P_RETRY_POLICY p) = 0 then d.portQuarantine p 5 else d.retryWait p

/-- The retry delay ends: the permit is asked for (R159). -/
def Dev.retryAsk (d : Dev) (p : Nat) : Dev :=
  match (d.port p).retry with
  | .delay t =>
    if d.portState p ≠ 4 then d else
    match (d.upTo t).ask (.retry p) 250 5000 1 100 0 with
    | (d, .granted n) => d.modPort p fun x => { x with retry := .answered (some n) }
    | (d, .queued) => d.modPort p fun x => { x with retry := .asked }
    | (d, _) => d.modPort p fun x => { x with retry := .answered none }
  | _ => d

/-- OVERVOLTAGE: a used pin has stood at a voltage (0.01 V) for 5 µs (R155, R157). -/
def Dev.overVolt (d : Dev) (p pin : Nat) (cv : Int) : Dev := if d.pinOut p cv then d.lineFault p pin 10 (K.P_OV_EVENTS p) else d

/-- Are all used pins of a port within their working range, at the voltages (0.01 V) that they have kept for 5 µs (R159)? -/
def Dev.pinsIn (d : Dev) (p : Nat) (cv : Vector Int 5) : Bool := (List.range 5).all fun i => !(d.pinUsed p i && d.pinOut p ((cv.toList[i]?).getD 0))

/-- The answer to a retry's request is acted on, and the pins are checked (R159). -/
def Dev.retryGo (d : Dev) (p : Nat) (cv : Vector Int 5) : Dev :=
  match (d.port p).retry with
  | .answered none => d.retryWait p
  | .answered (some n) => if d.pinsIn p cv then d.modPort p fun x => { x with retry := .window n (d.now + 5000000) } else (d.release n).failAttempt p
  | _ => d

/-- The 5 ms of a retry pass without a fault: the port probes (R159). Where T1L_LEVEL has come to need a reservation meanwhile, the port takes it first
(R131; log entry 21). -/
def Dev.retryEnd (d : Dev) (p : Nat) : Dev :=
  match (d.port p).retry with
  | .window n t =>
    let d := (d.upTo t).release n
    if d.portMode p = 2 && d.obn (K.P_T1L_LEVEL p) != 0 && (d.port p).res = 0 && !(d.port p).lowOnly then
      ((d.modPort p fun x => { x with retry := .idle }).bringUp p 2 true none).1
    else d.probe p none
  | _ => d

/-- The attempt counter after 10 s in service (R159). -/
def Dev.retryReset (d : Dev) (p : Nat) : Dev :=
  if d.portUp p then (d.upTo ((d.port p).serviceSince + 10000000000)).modPort p fun x => { x with attempts := 1 } else d

/-! ### Reflectometry (R160 to R165) -/

/-- The status of TDR_START before any resource is taken (R160). -/
def Dev.tdrStatus (d : Dev) (p : Nat) : Nat :=
  let st := d.portState p
  let any := d.mode == 2 || d.mode == 7
  if d.obn (K.P_TDR_PAIRS p) % 16 = 0 then Stat.range
  else if d.mode = 6 || !(any || st == 0 || st == 4 || st == 5) then Stat.mode
  else if !d.tileRuns (tileOf p) then Stat.asleep
  else if d.sweepsPort p then Stat.busy
  else Stat.done

/-- Take the engine and the port under a permit (R160). The engine is held until the keeper's processing ends (log entry 56, DESIGN CHOICE). A frame on
the port's line is cut as the drivers go off (R161). -/
def Dev.tdrBegin (d : Dev) (p num : Nat) : Dev × Nat :=
  let t := tileOf p
  let st := d.tdrStatus p
  if st ≠ 0 then (d.release num, st) else
  if (d.tile t).sweep.isSome || (d.port p).recalEnds.isSome then (d.release num, Stat.busy) else
  let pairs := d.obn (K.P_TDR_PAIRS p) % 16
  let d := d.event.modTile t fun x => { x with sweep := some ⟨p, num, true, pairs, d.now + popBits pairs 4 * 4180000⟩ }
  let d := d.iff (d.isMac p && (mget? d.sw.line p).isSome) fun d => d.modMac p fun m => { m with cut := true }
  ((d.setOb (K.TILE_TDR_PORT t) p).setOb (K.P_TDR_STATUS p) Stat.busy, Stat.done)

/-- TDR_START = 1. -/
def Dev.tdrWrite (d : Dev) (p v : Nat) (r : Option Src) : Dev × Option Nat :=
  if v ≠ 1 then (d, some Stat.range) else
  let st := d.tdrStatus p
  if st ≠ 0 then (d, some st) else
  match d.ask (.tdr p) 900 20000 (d.obn (K.P_TDR_PRIO p)) (d.waitLeft r) 0 with
  | (d, .granted n) => let (d, s) := d.tdrBegin p n; (d, some s)
  | (d, .queued) => (d, none)
  | (d, .busy) => (d, some Stat.busy)
  | (d, .refused) => (d, some Stat.permit)

/-- Acquisition ends: the permit goes back (R163). -/
def Dev.tdrAcquired (d : Dev) (p : Nat) : Dev :=
  match (d.tile (tileOf p)).sweep with
  | some s =>
    if s.port = p && s.acquiring then
      let d := (d.upTo s.ends).modTile (tileOf p) fun x => { x with sweep := some { s with acquiring := false } }
      d.release s.permit
    else d
  | none => d

/-- 10 to a power in [0, 2), by the square roots of 10 (log entry 16). -/
def pow10Pos (x : Rat) : Rat :=
  let n := (x * (2 ^ 20 : Nat)).floor.toNat
  let go := (List.range 20).foldl (fun (s : Rat × Rat) i =>
    let root := ratSqrt s.2
    (if n.testBit (19 - i) then s.1 * root else s.1, root)) ((10 : Rat) ^ (n / 2 ^ 20), 10)
  go.1

/-- 10 to a power below 2, negative ones included (log entry 16). -/
def pow10 (x : Rat) : Rat := if x < 0 then 1 / pow10Pos (-x) else pow10Pos x

/-- Sample k of a trace, or of its correlation output, as a signed number (R163, R164). -/
def ampl (y : List Word) (k : Nat) : Int := sext 16 ((y[k]?).getD 0).toNat

/-- A trace correlated with the stimulus (R164): y_k is the sum over the 255 chips of the samples from k on, each with its chip's sign, over 255, so that
the peak of the stimulus's own correlation is 1. A sample past the trace's end counts as 0; CLIP of sample k stays in bit 23 (log entry 56). -/
def tdrCorrelate (l : List Word) : List Word :=
  (List.range 4096).map fun k =>
    let sum : Int := (List.range 255).foldl (fun a j => let x := ampl l (k + j); if Config.tdrChip j then a + x else a - x) 0
    BitVec.ofNat 24 (b2n (((l[k]?).getD 0).getLsbD 23) * 2 ^ 23 + wrapN 16 (max (-32768) (min 32767 (ratNear (mkRat sum 255)))))

/-- A TDR event: distance in 0.1 m, kind, trace, and rho as S16 (R165). -/
structure TdrEvent where
  dist : Rat
  kind : Nat
  trace : Nat
  rho : Int

/-- The events of one trace (R165). -/
def Dev.tdrEvents (d : Dev) (p t : Nat) (y : List Word) : List TdrEvent :=
  let step : Rat := mkRat (d.obn (K.P_TDR_VF p)) 1000 * mkRat 749481 100000
  let dist := fun (k : Rat) => k * step - (d.ob (K.P_TDR_ZERO p) : Rat)
  let reach : Rat := min 20000 (dist 4095)
  (List.range' 2 (min y.length 4096 - 2)).filterMap fun k =>
    let a := ampl y k
    let prev := (ampl y (k - 1)).natAbs
    let next := (ampl y (k + 1)).natAbs
    if a.natAbs < prev || a.natAbs ≤ next then none else
    let loss := mkRat (d.obn (K.P_TDR_LOSS p)) 10
    let ex := 2 * loss * (dist k / 10) / 100 / 20
    let g : Rat := if 2 ≤ ex then 100 else min 100 (pow10 ex)
    let rho : Rat := mkRat a 32767 * g
    let mag := ratAbs rho
    if mag < mkRat (d.obn (K.P_TDR_THRESH p)) 100 then none else
    let curve : Int := (prev : Int) - 2 * a.natAbs + next
    let shift : Rat := if curve = 0 then 0 else mkRat ((prev : Int) - next) 2 / (curve : Rat)
    let x := dist (k + shift)
    if reach < x then none else
    let kind := if t = 2 then (if 3 / 10 ≤ mag then 5 else 0) else if 6 / 10 ≤ rho then 1 else if rho ≤ -6 / 10 then 2 else if 0 < rho then 3 else 4
    some ⟨x, kind, t, max (-32768) (min 32767 (ratNear (rho * 32767)))⟩

/-- Insert by distance. -/
def tdrInsert (e : TdrEvent) : List TdrEvent → List TdrEvent
  | [] => [e]
  | x :: l => if e.dist < x.dist then e :: x :: l else x :: tdrInsert e l

/-- An event as its object holds it (R175). -/
def TdrEvent.value (e : TdrEvent) : Nat := wrapN 24 (ratNear e.dist) * 2 ^ 24 + e.kind * 2 ^ 20 + e.trace * 2 ^ 16 + wrapN 16 e.rho

/-- Processing ends (R164, R165), from the averaged samples of each trace taken: AMPL's unit is the stimulus, CLIP in bit 23. -/
def Dev.tdrProcessed (d : Dev) (p : Nat) (traces : List (List Word)) : Dev :=
  match (d.tile (tileOf p)).sweep with
  | some s =>
    if s.port ≠ p || s.acquiring then d else
    let t := tileOf p
    let taken := setBits s.pairs 4
    let traces := (List.range taken.length).map fun i => tdrCorrelate ((traces[i]?).getD [])
    let evs := (taken.zip traces).flatMap fun x => d.tdrEvents p x.1 x.2
    let l := evs.foldl (fun a e => tdrInsert e a) []
    let d := d.event.setDom (K.P_TDR_SAMPLES p) (bytesOf (traces.flatMap fun y => y.map (·.toNat)))
    let d := d.each (List.range 8) fun d i => d.setOb (K.P_TDR_EVENT p i) ((l[i]?).map (·.value) |>.getD 0xFFFFFF000000 : Nat)
    let d := (d.setOb (K.P_TDR_DROPPED p) (min (l.length - 8) 255 : Nat)).setOb (K.P_TDR_SEQ p) d.seq
    let d := (d.setOb (K.P_TDR_STATUS p) 0).setOb (K.TILE_TDR_PORT t) 0xFF
    let d := (d.modTile t fun x => { x with sweep := none }).bump (K.TILE_TDR_SWEEPS t)
    (d.logE 0x2130 p).raise (0x430 + p)
  | none => d

/-! ### Discrete inputs (R166 to R172) -/

def Dev.modDin (d : Dev) (p i : Nat) (f : DinIn → DinIn) : Dev := d.modPort p fun x => { x with din := x.din.modify i f }
def Dev.dinIn (d : Dev) (p i : Nat) : DinIn := ((d.port p).din[i]?).getD {}

/-- The thresholds of DIN_TYPE in 0.01 V: low at or below the first, high at or above the second (R125; spec 20, R558). -/
def Dev.dinLimits (d : Dev) (p : Nat) : Int × Int := if d.obn (K.P_DIN_TYPE p) = 1 then (500, 1500) else (500, 1100)

/-- The level that a pin's voltage (0.01 V) gives; inside the threshold band the sample keeps its previous level (R166). -/
def Dev.dinLevel (d : Dev) (p i : Nat) (cv : Int) : Bool :=
  if (d.dinLimits p).2 ≤ cv then true else if cv ≤ (d.dinLimits p).1 then false else (d.dinIn p i).lvl

/-- One sample of one input. -/
def Dev.dinStep (d : Dev) (p i : Nat) (raw : Bool) : Dev :=
  let x := d.dinIn p i
  let d := d.modDin p i fun x => { x with raw := raw }
  if (d.port p).dinFirst then d.modDin p i fun x => { x with filt := raw, cnt := 0, highSince := d.now, stuck := x.stuck && raw }
  else if raw = x.filt then
    if x.cnt = 0 then d else
    let n := x.rejected + 1
    let d := d.modDin p i fun x => { x with rejected := n, cnt := 0 }
    let lim := d.obn (K.P_FLUTTER_N p)
    if lim ≠ 0 && lim < n && !x.flutter then ((d.modDin p i fun x => { x with flutter := true }).bump (K.P_FLUTTER_EVENTS p)).logE 0x2140 p else d
  else if x.cnt + 1 ≤ d.obn (K.P_DEBOUNCE p i) then d.modDin p i fun x => { x with cnt := x.cnt + 1 }
  else
    let d := d.modDin p i fun x => { x with filt := raw, cnt := 0, highSince := if raw then d.now else x.highSince, stuck := x.stuck && raw }
    let m := d.obn (K.P_EDGE_MODE p) / 4 ^ i % 4
    if m.testBit (if raw then 0 else 1) then (d.modDin p i fun x => { x with edgeAt := some d.now }).bump (K.P_EDGE_COUNT p i) else d

/-- Do a port's inputs report: DIN in Probing, Up or Degraded (R170)? -/
def Dev.dinOn (d : Dev) (p : Nat) : Bool := d.portMode p == 7 && (let st := d.portState p; st == 1 || st == 2 || st == 3)

/-- A sample of a DIN port's five inputs, once a µs, from the voltages at its pins in 0.01 V (R166); a sample within a wire-break test is replaced by the
previous one (R171). -/
def Dev.dinSample (d : Dev) (p : Nat) (cv : Vector Int 5) : Dev :=
  if !d.dinOn p then d else
  let d := d.upTo (d.port p).dinAt
  let d := d.modPort p fun x => { x with dinAt := d.now + 1000 }
  let d := d.each (List.range 5) fun d i =>
    if d.now < (d.dinIn p i).testEnds then d.dinStep p i (d.dinIn p i).raw else
    let v := d.dinLevel p i ((cv.toList[i]?).getD 0)
    (d.modDin p i fun x => { x with lvl := v }).dinStep p i (v != (d.obn (K.P_DIN_INVERT p)).testBit i)
  (d.modPort p fun x => { x with dinFirst := false }).degCheck p

/-- FLUTTER_N; 0 clears every FLUTTER of the port (R167). -/
def Dev.flutterWrite (d : Dev) (p key : Nat) (v : Int) : Dev :=
  let d := d.event.setOb key v
  d.iff (v == 0) fun d => d.modPort p fun x => { x with din := x.din.map fun i => { i with flutter := false } }

/-- STUCK_T of an input; 0 clears its STUCK (R168). -/
def Dev.stuckWrite (d : Dev) (p i key : Nat) (v : Int) : Dev :=
  let d := d.event.setOb key v
  d.iff (v == 0) fun d => d.modDin p i fun x => { x with stuck := false }

/-- A flutter window ends (R167). -/
def Dev.flutterEnd (d : Dev) (p i : Nat) : Dev :=
  let x := d.dinIn p i
  let stop := x.winAt + d.obn (K.P_FLUTTER_W p) * 1000000
  let d := d.upTo stop
  let keep := x.flutter && (!d.dinOn p || (decide (d.obn (K.P_FLUTTER_N p) < x.rejected) && d.obn (K.P_FLUTTER_N p) != 0))
  d.modDin p i fun x => { x with flutter := keep, rejected := 0, winAt := d.now }

/-- An input has been 1 for STUCK_T (R168). -/
def Dev.stuckEnd (d : Dev) (p i : Nat) : Dev :=
  let x := d.dinIn p i
  let t := d.obn (K.P_STUCK_T p i)
  if t = 0 || !x.filt || x.stuck || !d.dinOn p then d
  else (((d.upTo (x.highSince + t * 1000000 + 1)).modDin p i fun x => { x with stuck := true }).logE 0x2141 p).degCheck p

/-- The sample of a wire-break test at a pin's voltage (0.01 V): open where it rises to within 2 V of VTF_t, which TILE_VTF holds in 0.1 V (R171). -/
def Dev.wbOpens (d : Dev) (p : Nat) (cv : Int) : Bool := decide (10 * d.ob (K.TILE_VTF (tileOf p)) ≤ cv + 200)

/-- A wire-break test: the 20 µs from now on are its own (R171; log entry 44). -/
def Dev.wbTest (d : Dev) (p i : Nat) (cv : Int) : Dev :=
  let st := d.portState p
  if d.portMode p ≠ 7 || !(st == 1 || st == 2 || st == 3) || !(d.obn (K.P_WB_ENABLE p)).testBit i || !(d.tile (tileOf p)).vtfPresent then d else
  let x := d.dinIn p i
  let d := d.modDin p i fun x => { x with testEnds := d.now + 20000 }
  if !d.wbOpens p cv then d.modDin p i fun x => { x with wbOpen := 0, wirebreak := false }
  else
    let n := min (x.wbOpen + 1) 10
    let d := d.modDin p i fun x => { x with wbOpen := n, wirebreak := x.wirebreak || n == 10 }
    if n = 10 && !x.wirebreak then d.logE 0x2142 p else d

/-- VTF_t has held on one side of its limit (R172); dv in 0.1 V. -/
def Dev.supplyTimer (d : Dev) (t dv : Nat) : Dev :=
  if !(d.tile t).vtfPresent || !d.tileRuns t then d else
  let d := d.setOb (K.TILE_VTF t) (dv : Nat)
  let lim := d.obn (K.TILE_VTF_LOW_LIMIT t)
  if dv < lim && !d.obb (K.TILE_SUPPLY_LOW t) then ((d.setOb (K.TILE_SUPPLY_LOW t) 1).bump (K.TILE_SUPPLY_LOW_EVENTS t)).logE 0x2C10 t
  else if lim + 5 < dv then d.setOb (K.TILE_SUPPLY_LOW t) 0 else d

/-- VTF_t comes or goes (R171). -/
def Dev.vtfChange (d : Dev) (t : Nat) (present : Bool) (dv : Nat) : Dev :=
  let d := (d.modTile t fun x => { x with vtfPresent := present }).setOb (K.TILE_VTF t) ((if present then dv else 0 : Nat) : Int)
  if present then d else
  d.each (d.ports.map (·.1)) fun d p =>
    if tileOf p = t then d.modPort p fun x => { x with din := x.din.map fun i => { i with wirebreak := false, wbOpen := 0 } } else d

/-! ### Encoders (R173) -/

def Dev.encOn (d : Dev) (p : Nat) : Bool := d.portMode p == 6 && (let s := d.portState p; s == 1 || s == 2 || s == 3)

/-- Has a new level held for ENC_FILTER ECK cycles (R173)? -/
def Dev.encTaken (d : Dev) (p held : Nat) : Bool := d.encOn p && decide (d.obn (K.P_ENC_FILTER p) ≤ held)

/-- The level that an encoder receiver reads from its input in 0.01 V, the differential of the pair in DIFF; between the thresholds of ENC_INPUT it keeps
its level (R125; log entry 44). -/
def Dev.encLevel (d : Dev) (p : Nat) (cv : Int) (was : Bool) : Bool :=
  let lim : Int × Int := match d.obn (K.P_ENC_INPUT p) with
    | 0 => (-20, 20)
    | 1 => (80, 200)
    | _ => (500, 1100)
  if lim.2 < cv then true else if cv < lim.1 then false else was

/-- The level that the index receiver reads, single-ended in every mode: 1.5 V is its threshold in DIFF (R125). -/
def Dev.encIndexLevel (d : Dev) (p : Nat) (cv : Int) (was : Bool) : Bool := if d.obn (K.P_ENC_INPUT p) = 0 then decide (150 < cv) else d.encLevel p cv was

/-- An illegal transition: A and B have both changed, and the count stands. -/
def Dev.encIllegal (d : Dev) (p : Nat) : Dev :=
  if d.encOn p then ((d.modPort p fun x => { x with encA := !x.encA, encB := !x.encB }).bump (K.P_ENC_ERR p)).logSec 0x2150 p else d

/-- Place of (A, B) in the quadrature sequence in which A leads B. -/
def quadOf (a b : Bool) : Int := match a, b with
  | false, false => 0
  | true, false => 1
  | true, true => 2
  | false, true => 3

/-- The filtered inputs take new levels (R173, R141). -/
def Dev.encLevels (d : Dev) (p : Nat) (a b : Bool) : Dev :=
  if !d.encOn p then d else
  let x := d.port p
  let sw := d.obn (K.P_POL_SWAP p)
  let v := fun (a b : Bool) => quadOf (a != sw.testBit 0) (b != sw.testBit 1)
  let step := (v a b - v x.encA x.encB) % 4
  if step = 2 then d.encIllegal p else
  let d := d.modPort p fun x => { x with encA := a, encB := b }
  let add := fun (k : Int) => d.setOb (K.P_ENC_COUNT p) (sext 48 (wrapN 48 (d.ob (K.P_ENC_COUNT p) + k)))
  if step = 1 then add 1 else if step = 3 then add (-1) else d

/-- The filtered index changes: a rising edge latches the count and T0 (R173, R174). -/
def Dev.encIndex (d : Dev) (p : Nat) (rise : Bool) : Dev :=
  if !rise then (if d.encOn p then d.modPort p fun x => { x with encIdx := false } else d)
  else if d.encOn p then ((d.setOb (K.P_ENC_INDEX p) (d.ob (K.P_ENC_COUNT p))).setOb (K.P_ENC_INDEX_TIME p) (d.now : Nat)).modPort p fun x => { x with encIdx := true } else d

/-! ### Tiles (R146 to R150) -/

/-- Turn a power domain on or off. -/
def Dev.power (d : Dev) (n : Nat) (v : Bool) : Dev := { d with doms := putBit d.doms n v }

def tilePorts (t : Nat) : List Nat := List.range' (24 * t) 24

/-- The tiles powered in Limp: LIMP_TILES, a lost one replaced by the lowest-numbered working tile outside it (R49). -/
def Dev.limpTiles (d : Dev) : List Nat :=
  let want := [0, 1, 2, 3].filter fun t => (d.obn K.LIMP_TILES).testBit t
  let gone := want.filter fun t => d.obn (K.TILE_STATE t) == 3
  let spare := [0, 1, 2, 3].filter fun t => !want.contains t && d.obb (K.TILE_USE t) && d.obn (K.TILE_STATE t) != 3
  want ++ spare.take gone.length

/-- Does the mode in force keep the tile off (R40, R148)? -/
def Dev.tileModeOff (d : Dev) (t : Nat) : Bool := decide (d.limits < 2) || (d.limits == 6 && !d.limpTiles.contains t)

/-- Is the tile kept off (R148)? -/
def Dev.tileKept (d : Dev) (t : Nat) : Bool :=
  !d.obb (K.TILE_USE t) || d.tileModeOff t

/-- The ports of a tile go Off (R127). -/
def Dev.tilePortsOff (d : Dev) (t cause : Nat) (keep : Bool) : Dev :=
  let d := (d.modTile t fun x => { x with calPort := none, calPermit := 0 }).release (d.tile t).calPermit
  let d := d.each (tilePorts t) fun d p =>
    let d := d.iff (d.portState p == 4) fun d => d.retryStop p
    let d := d.cancelReq p
    let d := d.each (d.movesTo p) fun d q => d.moveCancel q
    if d.portState p = 5 then d else d.portOff p cause keep
  d.sweepAbort t

/-- What the memories of a tile's domain held, its MACs and bus controllers, is gone (R18). -/
def Dev.tileCleared (d : Dev) (t : Nat) : Dev :=
  { d with macs := d.macs.filter fun e => tileOf e.1 != t, buses := d.buses.filter fun e => tileOf e.1 != t }

/-- The tile is powered off in good order (R40, R46, R150). -/
def Dev.tileOff (d : Dev) (t cause : Nat) : Dev :=
  let d := d.tilePortsOff t cause false
  let d := (d.releaseAll (.tileStart t)).tileCleared t
  ((d.power (36 + t) false).setOb (K.TILE_STATE t) 0).modTile t fun x => { x with startEnds := none, asked := false, startPermit := none }

/-- A cold start has failed; after three the tile stays Lost (R148). -/
def Dev.startFailed (d : Dev) (t : Nat) : Dev :=
  let n := (d.tile t).fails + 1
  let d := d.modTile t fun x => { x with fails := n, autoAt := if 3 ≤ n then none else x.autoAt }
  if n = 3 then d.logE 0x2C03 t else d

/-- The tile is declared lost (R147). A loss in Starting is a failed cold start of the series that asked for it; any other begins a series. -/
def Dev.tileLost (d : Dev) (t : Nat) : Dev :=
  let st := d.obn (K.TILE_STATE t)
  if st ≠ 1 && st ≠ 2 then d else
  let x := d.tile t
  let goesOn := st = 1 && (x.auto || x.autoLeft != 0 || x.fails != 0)
  let d := d.tilePortsOff t 6 false
  let d := (((d.power (36 + t) false).tileCleared t).setOb (K.TILE_STATE t) 3).bump (K.TILE_LOSSES t)
  let d := (d.modTile t fun x => { x with startEnds := none, permit := 0 }).release x.permit
  let d := d.logE 0x2C00 t
  let d := if goesOn then d.startFailed t else
    d.modTile t fun x => { x with lostAt := d.now, fails := 0, autoLeft := 3, autoAt := some (d.now + 1000000000) }
  d.todo (.limp 4)

/-- A cold start begins under its permit (R148). -/
def Dev.tileBegin (d : Dev) (t num : Nat) : Dev :=
  let x := d.tile t
  let left := if x.auto then x.autoLeft - 1 else x.autoLeft
  let next := if x.auto && left != 0 then some (d.now + (if left = 2 then 9000000000 else 50000000000)) else if x.auto then none else x.autoAt
  let d := d.tilePortsOff t 6 true
  let d := (d.event.power (36 + t) true).setOb (K.TILE_STATE t) 1
  let d := d.iff (d.limits == 6) fun d => d.each [3 * t, 3 * t + 1, 3 * t + 2] fun d e => d.power (24 + e) true
  d.modTile t fun x => { x with startEnds := some (d.now + 50000000), permit := num, asked := false, startPermit := none, autoLeft := left, autoAt := next }

/-- Ask for a cold start's permit; `auto` says whose attempt it is. -/
def Dev.tileAsk (d : Dev) (t waitMs : Nat) (r : Option Src) (auto : Bool) : Dev × Option Nat :=
  let d := d.modTile t fun x => { x with auto := auto, askSrc := r }
  match d.ask (.tileStart t) 2500 50000 5 waitMs 0 with
  | (d, .granted n) => (d.tileBegin t n, some Stat.done)
  | (d, .queued) => (d.modTile t fun x => { x with asked := true, startPermit := none }, none)
  | (d, _) => (d.modTile t fun x => { x with autoAt := if auto then some (d.now + 1000000000) else x.autoAt }, some Stat.permit)

/-- The answer to a cold start's request is acted on. -/
def Dev.tileAnswered (d : Dev) (t : Nat) : Dev :=
  let x := d.tile t
  match x.startPermit with
  | some (some n) =>
    if d.tileKept t then ((d.release n).modTile t fun x => { x with asked := false, startPermit := none }).complete x.askSrc Stat.mode
    else (d.tileBegin t n).complete x.askSrc Stat.done
  | some none =>
    (d.modTile t fun x => { x with asked := false, startPermit := none, autoAt := if x.auto then some (d.now + 1000000000) else x.autoAt }).complete x.askSrc Stat.permit
  | none => d

/-- TILE_CMD (R148, R149). -/
def Dev.tileCmd (d : Dev) (t v : Nat) (r : Option Src) : Dev × Option Nat :=
  let x := d.tile t
  let st := d.obn (K.TILE_STATE t)
  let calling := x.calPort.isSome || x.asked
  if v = 1 then
    if d.tileModeOff t then (d, some Stat.mode)
    else if st = 1 || calling || !d.obb (K.TILE_USE t) then (d, some Stat.busy)
    else d.tileAsk t (d.waitLeft r) r false
  else if v = 2 then
    if st = 0 || st = 3 then (d, some Stat.asleep)
    else if st = 1 || calling || d.calBusy t then (d, some Stat.busy)
    else match d.ask (.tileCal t) 2500 50000 5 (d.waitLeft r) 0 with
      | (d, .granted n) => ((d.event.modTile t fun x => { x with calPermit := n }).calNext t 25 (24 * t), some Stat.done)
      | (d, .queued) => (d, none)
      | (d, .busy) => (d, some Stat.busy)
      | (d, .refused) => (d, some Stat.permit)
  else (d, some Stat.range)

/-- A cold start ends (R148). -/
def Dev.tileStarted (d : Dev) (t : Nat) (ok : Bool) : Dev :=
  let x := d.tile t
  match x.startEnds with
  | none => d
  | some e =>
    let ok := ok && decide (d.now ≤ e)
    let d := if ok then d else d.upTo e
    let d := (d.modTile t fun x => { x with startEnds := none, permit := 0 }).release x.permit
    if ok then
      let d := (d.setOb (K.TILE_STATE t) 2).tileMeasured t
      let d := d.modTile t fun x => { x with fails := 0, autoLeft := 0, autoAt := none }
      let d := d.logE 0x2C01 t
      let d := d.iff ([0, 1, 2, 3].all fun u => d.obn (K.TILE_STATE u) != 3) fun d => d.setOb K.LIMP_CAUSE (putBit (d.obn K.LIMP_CAUSE) 2 false : Nat)
      d.each (tilePorts t) fun d p => d.autoUp p
    else
      let d := ((d.power (36 + t) false).tileCleared t).setOb (K.TILE_STATE t) 3
      (d.each (tilePorts t) fun d p => d.dropRes p).startFailed t

/-- An automatic attempt falls due (R148). -/
def Dev.tileAuto (d : Dev) (t : Nat) : Dev :=
  match (d.tile t).autoAt with
  | none => d
  | some at_ =>
    if d.obn (K.TILE_STATE t) ≠ 3 || (d.tile t).asked || !d.obb (K.TILE_AUTO_RESTART t) then d else
    let d := d.upTo at_
    if d.tileKept t then
      let left := (d.tile t).autoLeft - 1
      d.modTile t fun x => { x with autoLeft := left, autoAt := if left = 0 then none else some (at_ + (if left = 2 then 9000000000 else 50000000000)) }
    else (d.tileAsk t 50 none true).1

/-- The tile is powered on by a mode change; one that is Lost waits for its own attempts (R148). -/
def Dev.tileOn (d : Dev) (t : Nat) : Dev :=
  if d.obn (K.TILE_STATE t) = 0 && !(d.tile t).asked && !d.tileKept t then (d.tileAsk t 50 none false).1 else d

/-- Lost tiles that cease to be kept off are cold-started as for a mode change, unless three starts have failed (R148). -/
def Dev.tilesFreed (d : Dev) (kept : List Nat) : Dev :=
  d.each kept fun d t =>
    if d.obn (K.TILE_STATE t) = 3 && decide ((d.tile t).fails < 3) && !(d.tile t).asked && !d.tileKept t then (d.tileAsk t 50 none false).1 else d

/-- The tiles kept off now. -/
def Dev.tilesKept (d : Dev) : List Nat := [0, 1, 2, 3].filter d.tileKept

/-- TILE_USE (R150). -/
def Dev.tileUse (d : Dev) (t v : Nat) : Dev × Nat :=
  if v = 0 then
    if (tilePorts t).any fun p => decide (d.obn (K.P_ROLE_CONTEXT p) < 128) then (d, Stat.busy)
    else ((d.event.setOb (K.TILE_USE t) 0).tileOff t 6, Stat.done)
  else ((d.event.setOb (K.TILE_USE t) 1).tileOn t, Stat.done)

/-! ### Role moves (R143, R144) -/

/-- Does a window hold a program of a personality swap that no channel runs yet (R339)? -/
def Dev.winHeld (d : Dev) (e w : Nat) : Bool :=
  (d.ctxs.any fun x => x.2.swapWins.any fun y => y.1 / 8 == e && y.2.1 == w && !y.2.2) || (List.range 8).any fun k => (d.chan (8 * e + k)).toWin == some w

/-- The windows of an engine that hold the program that channel p runs, and those free. -/
def Dev.progWindow (d : Dev) (e p : Nat) : Option Nat :=
  let mine := d.ldAll (runAddr (p / 8) (d.obn (K.CH_WIN p)) (d.chan p).bank 0) 256
  (List.range 4).find? fun w => d.ldAll (runAddr e w (d.activeBank e w) 0) 256 == mine

def Dev.freeWindow (d : Dev) (e : Nat) : Option Nat :=
  (List.range 4).find? fun w => !d.winHeld e w && (d.winChans e w).all fun k => d.obn (K.CH_STATE (8 * e + k)) == 0

/-- The move is accepted: the target's channel takes the window. -/
def Dev.moveAccept (d : Dev) (p v : Nat) (w : Option Nat) : Dev :=
  let q := v % 128
  let d := match w with
    | some w =>
      let d := d.setWin q w
      if d.running q then d.startChan q else d
    | none => d
  (d.event.setOb (K.P_ROLE_PENDING p) (v % 512 : Nat)).portFlag p 8 true

/-- The keeper loads the program into a free window of the target's engine. -/
def Dev.moveLoad (d : Dev) (p q : Nat) : Dev × Option Nat :=
  match d.freeWindow (q / 8) with
  | none => (d, none)
  | some w =>
    let mine := d.ldAll (runAddr (p / 8) (d.obn (K.CH_WIN p)) (d.chan p).bank 0) 256
    ((d.putProg (q / 8) w (d.activeBank (q / 8) w) mine).setImageLen (q / 8) w (d.activeBank (q / 8) w)
      (d.imageLen (p / 8) (d.obn (K.CH_WIN p)) (d.chan p).bank), some w)

/-- A parser entry of a context as a move from port p to q changes it (R144, R350). -/
def moveEntry (p q : Nat) (b : List Byte) : List Byte :=
  let b := if byteAt b 0 % 128 = p then setByte b 0 (byteAt b 0 / 128 * 128 + q) else b
  if byteAt b 16 * 256 + byteAt b 17 = portDest p then setByte (setByte b 16 (portDest q / 256)) 17 (portDest q) else b

/-- The conditions under which ROLE_MOVE is refused (R143), and a table that its buckets cannot hold (R350). A value with a bit that its layout does not
name, [7] or [15:9], is RANGE (log entry 44, DESIGN CHOICE). -/
def Dev.moveStatus (d : Dev) (p v : Nat) : Nat :=
  let q := v % 128
  if 128 ≤ d.obn (K.P_ROLE_CONTEXT p) then Stat.noKey
  else if q = p || 95 < q || 512 ≤ v || v.testBit 7 then Stat.range
  else if d.portMode q ≠ d.portMode p then Stat.mode
  else if d.obn (K.P_ROLE_CONTEXT q) < 128 || !(d.movesTo q).isEmpty then Stat.busy
  else if d.portState q = 5 then Stat.quarantined
  else if !d.tileRuns (tileOf q) then Stat.asleep
  else if (d.rolePending p).isSome || (!v.testBit 8 && !d.portUp q) then Stat.busy
  else if (d.reEntries (d.obn (K.P_ROLE_CONTEXT p)) (moveEntry p q)).isNone then Stat.busy
  else Stat.done

/-- ROLE_MOVE with a target (R143). -/
def Dev.moveWrite (d : Dev) (p v : Nat) (r : Option Src) : Dev × Option Nat :=
  let q := v % 128
  let st := d.moveStatus p v
  if st ≠ Stat.done then (d, some st)
  else if d.portMode p < 4 then (d.moveAccept p v none, some Stat.done)
  else match d.progWindow (q / 8) p with
    | some w => (d.moveAccept p v (some w), some Stat.done)
    | none =>
      if (d.freeWindow (q / 8)).isNone then (d, some Stat.busy) else
      match d.ask (.roleMove p) 300 1000 4 (d.waitLeft r) v with
      | (d, .granted n) =>
        let (d, w) := d.moveLoad p q
        ((d.moveAccept p v w).release n, some Stat.done)
      | (d, .queued) => (d, none)
      | (d, .busy) => (d, some Stat.busy)
      | (d, .refused) => (d, some Stat.permit)

/-- ROLE_MOVE with 0x7F. The move that it cancels logs E:2121, which R145 does not list for it (log entry 44, DESIGN CHOICE). -/
def Dev.moveCancelWrite (d : Dev) (p : Nat) : Dev × Nat :=
  if 128 ≤ d.obn (K.P_ROLE_CONTEXT p) then (d, Stat.noKey) else (d.event.moveCancel p, Stat.done)

/-- A move lands, at one event (R144). -/
def Dev.moveLand (d : Dev) (p q : Nat) : Dev :=
  let c := d.obn (K.P_ROLE_CONTEXT p)
  let d := d.event
  let d := d.modCtx c fun x => { x with ports := x.ports.map fun y => if y = p then q else y }
  let d := d.reEntry c (moveEntry p q)
  let d := d.each (d.cellar.tpls.map (·.2.hdr)) fun d h =>
    let w := d.ld (h + 1)
    if !(d.ld h).testBit 22 && bits w 15 0 = portDest p then d.st (h + 1) (w / 65536 * 65536 + portDest q) else d
  let d := d.modSw fun s => { s with profiles := match mget? s.profiles p with
    | some w => mput (mdel s.profiles p) q w
    | none => s.profiles }
  let d := ((d.setOb (K.P_ROLE_CONTEXT p) 0xFF).setOb (K.P_ROLE_CONTEXT q) c).setOb (K.P_ROLE_PENDING p) 0x7F
  let d := (((d.portFlag p 8 false).modPort p fun x => { x with standFor := some c }).modPort q fun x => { x with standFor := none }).bump (K.P_ROLE_MOVES q)
  let d := d.each (d.segsOn p) fun d s =>
    let d := d.dropSegSets s
    let d := (d.addSegSets s q (d.dom (K.SEG_SLOT_MAP s))).getD d
    ((d.segChannel s q (d.obn (K.CH_WIN q))).modSeg s fun x => { x with port := q }).segLost s
  ((d.portOff p 8 false).logE 0x2120 p).segsResume

/-- Land the moves of a context that are due at its boundary. One whose table no longer fits is cancelled (R350; log entry 11). -/
def Dev.movesDue (d : Dev) (c : Nat) : Dev :=
  (d.ctx c).ports.foldl (fun d p =>
    match d.rolePending p with
    | some v =>
      let q := v % 128
      if v.testBit 8 && !d.portUp q then d
      else if (d.reEntries c (moveEntry p q)).isNone then d.moveCancel p else d.moveLand p q
    | none => d) d

/-! ### The hard hold and revoked reservations (R35, R60, R130) -/

/-- A hard hold begins: sweeps end, frames on field lines are cut off, segments stop sending. -/
def Dev.holdLines (d : Dev) : Dev :=
  let d := d.each [0, 1, 2, 3] fun d t => d.sweepAbort t
  let d := d.each ((d.sw.line.map (·.1)).filter fun o => decide (o < 96) && d.isMac o) fun d o => d.modMac o fun m => { m with cut := true }
  d.each (d.segs.map (·.1)) fun d s => d.segLost s

/-- A port's reservation was revoked (R60, R127). -/
def Dev.portRevoked (d : Dev) (p num : Nat) : Dev :=
  if (d.port p).res ≠ num then d else
  let d := d.modPort p fun x => { x with res := 0 }
  if d.portState p = 0 then d else (d.iff (d.portState p == 4) fun d => d.retryStop p).portOff p 2 true

end Sys2Proof.Machine
end

