-- ==== Sys2Proof/Machine/Contexts.lean ====
section
/-! DEFINITION. Contexts: binding, the cycle, checkpoints, migration and personality swaps (spec 12, R319 to R340). -/
namespace Sys2Proof.Machine

/-! ### Contexts and their windows -/

/-- The contexts that are not FREE, and those on a core. -/
def Dev.ctxsBound (d : Dev) : List Nat := (List.range 128).filter fun c => d.ctxState c != 0
def Dev.ctxsOn (d : Dev) (core : Nat) : List Nat := d.ctxsBound.filter fun c => d.ctxCore c == core

/-- The window of a context: the address of its first word (R319, R320). -/
def Dev.winBase (d : Dev) (c : Nat) : Nat := localAddr (d.ctxCore c) (0xC00 * d.ctxSlot c)

/-- The address of a checkpoint copy (R332). -/
def Dev.copyBase (d : Dev) (c : Nat) (second : Bool) : Nat := d.ctxDesc c 10 + b2n second * (d.ctxWords c + 256)

/-- The segment that a context's cycle follows (R451). -/
def Dev.followed (d : Dev) (c : Nat) : Option Nat :=
  (d.segs.map (·.1)).find? fun s => d.obb (K.SEG_CTX_SYNC s) && d.obn (K.SEG_CTX s) == c && [2, 4, 5, 6, 7].contains (d.segState s)

/-- The time base of a context's cycle. -/
def Dev.ctxTb (d : Dev) (c : Nat) : Nat :=
  match d.followed c with
  | some s => d.segTb s
  | none => d.ctxHeld c 3 (d.obn (K.CTX_TB c))

/-- The parameters in force (R330). -/
def Dev.ctxEff (d : Dev) (c : Nat) : CtxEff :=
  ((d.ctx c).eff).getD ⟨d.obn (K.CTX_DEADLINE c), (List.range 7).map fun j => d.obn (K.CTX_CP_OFFSET c j), d.obn (K.CTX_CKPT_EVERY c),
    d.obn (K.CTX_MGMT_LEVEL c), d.obn (K.CTX_RESTART_MAX c)⟩

/-- The deadline in ns after the boundary. -/
def Dev.deadlineNs (d : Dev) (c : Nat) : Nat :=
  let v := d.ctxDesc c 6
  (if v = 0 then d.ctxPeriod c else v) * 1000

/-- The first boundary on a context's base at or after an instant, ns (R328). -/
def Dev.boundaryFrom (d : Dev) (c t : Nat) : Nat :=
  let per := max (d.ctxPeriod c) 1 * 1000
  let ph := d.ctxPhase c * 1000
  if t ≤ ph then ph else ph + (t - ph + per - 1) / per * per

/-! ### Quarantine, restart and restore (R323, R332, R333) -/

/-- An armed migration is cancelled. -/
def Dev.migCancel (d : Dev) (c : Nat) : Dev :=
  let d := d.modCtx c fun x => { x with migTarget := none, migSlot := 0, migHeld := false }
  { d with mm := { d.mm with migrating := d.mm.migrating.filter fun x => x != c } }

/-- A weir core on which no context is left goes off (R40). -/
def Dev.coreIdle (d : Dev) (core : Nat) : Dev :=
  if core < 16 && (d.ctxsOn core).isEmpty && !(d.ctxsBound.any fun c => (d.ctx c).migTarget == some core) then d.corePowerOff core else d

/-- A checkpoint ends with ABORTED (R332). -/
def Dev.ckptAbort (d : Dev) (c : Nat) : Dev :=
  if (d.ctx c).copying.isNone then d else
  let d := d.modCtx c fun x => { x with copying := none, ckptStatus := Stat.aborted }
  (d.bump (K.CTX_CKPT_ABORTS c)).logSec 0x6020 c

/-- The context stops after failure. -/
def Dev.quarantine (d : Dev) (c : Nat) : Dev :=
  let d := ((d.ckptAbort c).migCancel c).modCtx c fun x => { x with open_ := false }
  let d := d.each (d.ctx c).ports fun d p => d.moveCancel p
  (d.event.setCtxState c 5).logE 0x6003 c

/-- A restart: RESTARTING, or QUARANTINED after too many. `guard` says that a guard level recovers (R33). -/
def Dev.ctxRestart (d : Dev) (c : Nat) (guard : Bool) : Dev :=
  if d.ctxState c ≠ 2 && d.ctxState c ≠ 3 then d else
  let target := (d.ctx c).migTarget
  let d := (d.ckptAbort c).migCancel c
  let hist := d.now :: (d.ctx c).restarts.filter fun t => decide (d.now < t + 60000000000)
  let d := (d.event.setCtxState c 4).modCtx c fun x => { x with restarts := hist, open_ := false, misses := 0 }
  let d := ((d.bump (K.CTX_RESTARTS c)).logE 0x6002 c).iff guard fun d => d.raise 0x546
  let d := if (d.ctxEff c).restartMax < hist.length then d.quarantine c else d
  match target with
  | some t => d.coreIdle t
  | none => d

/-- The newer valid copy, by the generations noted; they wrap (R332). -/
def Ctx.newest (x : Ctx) : Option Bool :=
  match x.copies.1.valid, x.copies.2.valid with
  | true, true => some (let n := (x.copies.2.gen + 2 ^ 24 - x.copies.1.gen) % 2 ^ 24; decide (0 < n) && decide (n < 2 ^ 23))
  | true, false => some false
  | false, true => some true
  | _, _ => none

/-- A context with the generations that the headers of its copies hold now: a store into the pool changes what the device keeps there (R104). -/
def Dev.copiesNow (d : Dev) (c : Nat) : Ctx :=
  let x := d.ctx c
  { x with copies := ({ x.copies.1 with gen := d.ld (d.copyBase c false) }, { x.copies.2 with gen := d.ld (d.copyBase c true) }) }

/-- The newer valid copy of a context. -/
def Dev.newestCopy (d : Dev) (c : Nat) : Option Bool := (d.copiesNow c).newest

/-- The restore completes: the window is written, and the next boundary is to be delivered (R332). -/
def Dev.ctxRestored (d : Dev) (c : Nat) : Dev :=
  if d.ctxState c ≠ 4 then d else
  let w := d.ctxWords c
  let base := d.winBase c
  let (d, res) := match d.newestCopy c with
    | some k => (d.stAll base (d.ldAll (d.copyBase c k + 256) w), true)
    | none => (d.clearMem base (base + w), false)
  let d := d.event.setCtxState c 2
  let t := d.tbNs (d.ctxTb c)
  d.modCtx c fun x => { x with resumed := res, migrated := false, swapped := false, open_ := false, nextAt := d.boundaryFrom c t,
                               notBefore := if (d.followed c).isSome then t else 0 }

/-! ### The cycle (R328 to R331) -/

/-- The cycle's deadline passes without DONE (R329). -/
def Dev.ctxMiss (d : Dev) (c : Nat) : Dev :=
  let d := d.modCtx c fun x => { x with open_ := false, misses := x.misses + 1 }
  let d := (d.bump (K.CTX_MISSED c)).logSec 0x6001 c
  if 3 ≤ (d.ctx c).misses then d.ctxRestart c true else d

/-- The migration aborts (R335). One asked for by the entry to Limp is armed again (R49). -/
def Dev.migAbort (d : Dev) (c : Nat) : Dev :=
  let x := d.ctx c
  if d.ctxState c ≠ 3 || !x.migHeld then d else
  let d := if x.open_ && decide (x.boundaryAt + d.deadlineNs c ≤ d.tbNs (d.ctxTb c)) then d.ctxMiss c else d
  if d.ctxState c ≠ 3 then d.logE 0x6011 c else
  let d := d.ckptAbort c
  let d := d.pulse (d.ctxCore c) (16 + 2 * d.ctxSlot c)
  let d := d.logE 0x6011 c
  if d.mm.migrating.contains c then d.modCtx c fun x => { x with migHeld := false }
  else
    let t := x.migTarget.getD 0
    ((d.event.setCtxState c 2).migCancel c).coreIdle t

/-- The deadline of the cycle in hand; a migration that has not landed by then aborts (R335). -/
def Dev.deadlineMiss (d : Dev) (c : Nat) : Dev :=
  if !(d.ctx c).open_ then d else
  let d := d.upToOn (d.ctxTb c) ((d.ctx c).boundaryAt + d.deadlineNs c)
  if d.ctxState c = 3 && (d.ctx c).migHeld then d.migAbort c else d.ctxMiss c

/-- A checkpoint copy starts, into the older copy, which is not valid again before its last word (R332). -/
def Dev.ckptStart (d : Dev) (c : Nat) : Dev :=
  if (d.ctx c).copying.isSome || d.ctxState c = 0 then d else
  let k := d.newestCopy c == some false
  d.modCtx c fun x =>
    { x with copying := some k, ckptStatus := Stat.busy,
             copies := if k then (x.copies.1, { x.copies.2 with valid := false }) else ({ x.copies.1 with valid := false }, x.copies.2) }

/-- The copy's last word is written: it is valid, unless the window holds a poisoned word (R332). -/
def Dev.ckptEnd (d : Dev) (c : Nat) : Dev :=
  match (d.ctx c).copying with
  | none => d
  | some k =>
    let w := d.ctxWords c
    let base := d.winBase c
    if d.poison.any fun a => decide (base ≤ a) && decide (a < base + w) then d.ckptAbort c else
    let gen := (d.obn (K.CTX_CKPT_GEN c) + 1) % 2 ^ 24
    let dst_ := d.copyBase c k
    let d := ((d.clearMem dst_ (dst_ + 256)).stAll dst_ [gen, d.obn (K.CTX_CYCLE c)]).stAll (dst_ + 256) (d.ldAll base w)
    let d := d.modCtx c fun x =>
      { x with copying := none, ckptStatus := Stat.done, copies := if k then (x.copies.1, ⟨true, gen⟩) else (⟨true, gen⟩, x.copies.2) }
    (d.setOb (K.CTX_CKPT_GEN c) (gen : Nat)).bump (K.CTX_CKPTS c)

/-- DONE (R329, R331). -/
def Dev.ctxDone (d : Dev) (c : Nat) : Dev :=
  let d := if (d.ctx c).open_ && decide ((d.ctx c).boundaryAt + d.deadlineNs c < d.tbNs (d.ctxTb c)) then d.ctxMiss c else d
  let x := d.ctx c
  if x.doneSeen || (d.ctxState c ≠ 2 && d.ctxState c ≠ 3) then d else
  let d := d.modCtx c fun x =>
    { x with doneSeen := true, misses := if x.open_ then 0 else x.misses, open_ := false, resumed := false, migrated := false, swapped := false }
  let e := (d.ctxEff c).ckptEvery
  if e != 0 && d.obn (K.CTX_CYCLE c) % e == 0 then d.ckptStart c else d

/-- The time of the next boundary (R328, R451). The start that a segment reckons back to as it adopts a schedule is no boundary: the next one is. -/
def Dev.boundaryDue (d : Dev) (c : Nat) : Nat :=
  match d.followed c with
  | some s => (if (d.seg s).adoptCycle then d.nextStart s else (d.seg s).start) / 2 ^ 32
  | none => (d.ctx c).nextAt

/-- A boundary happens, at one event (R328, R335 step 1). -/
def Dev.ctxBoundary (d : Dev) (c : Nat) : Dev :=
  if d.ctxState c ≠ 2 && d.ctxState c ≠ 3 then d else
  let at_ := d.boundaryDue c
  if (d.followed c).isSome && (at_ = (d.ctx c).boundaryAt || decide (at_ < (d.ctx c).notBefore)) then d else
  let d := d.upToOn (d.ctxTb c) at_
  let d := if d.ctxState c = 3 && (d.ctx c).migHeld then d.migAbort c else if (d.ctx c).open_ then d.ctxMiss c else d
  if d.ctxState c ≠ 2 && d.ctxState c ≠ 3 then d else
  let d := d.ckptAbort c
  let x := d.ctx c
  let d := d.event.setOb (K.CTX_CYCLE c) ((d.obn (K.CTX_CYCLE c) + 1) % 2 ^ 24 : Nat)
  let d := d.modCtx c fun x =>
    { x with pending := putBit x.pending 0 true, open_ := true, doneSeen := false, boundaryAt := at_, nextAt := at_ + d.ctxPeriod c * 1000,
             cpFired := 0, eff := none }
  let d := (d.modCtx c fun x => { x with eff := some (d.ctxEff c) }).descPut c 6 [(d.ctxEff c).deadline]
  let d := if x.migTarget.isSome && !x.migHeld then
      (d.modCtx c fun x => { x with migHeld := true }).ckptStart c
    else d.pulse (d.ctxCore c) (16 + 2 * d.ctxSlot c)
  let d := d.each (d.ctx c).ports fun d p => d.chBoundary p
  d.movesDue c

/-- A cycle point happens: every point with its offset fires at one event (R328, R451). A stopped context still gets those of the cycle in which it
was stopped (R323). -/
def Dev.ctxPoint (d : Dev) (c j : Nat) : Dev :=
  let x := d.ctx c
  let cps := (d.ctxEff c).cps
  let ofs := if j = 0 then 0 else cps.getD (j - 1) 0
  let runs := d.ctxState c == 2 || d.ctxState c == 3 || (d.ctxState c == 1 && decide (d.tbNs (d.ctxTb c) < x.boundaryAt + d.ctxPeriod c * 1000))
  if !runs || ofs = 0 || x.eff.isNone || x.cpFired.testBit j then d else
  let rho : Int := match d.followed c with
    | some s => if d.segAhead s then (d.seg s).rhoWas else d.segRho s
    | none => 0
  let ns := ((ofs * 1000 : Nat) : Int) + (ofs * 1000 : Nat) * rho / 2 ^ 64
  let d := d.upToOn (d.ctxTb c) (x.boundaryAt + ns.toNat)
  let l := (List.range' 1 7).filter fun i => cps.getD (i - 1) 0 == ofs
  let d := d.event.modCtx c fun x =>
    { x with pending := l.foldl (fun v i => putBit v i true) x.pending, cpFired := l.foldl (fun v i => putBit v i true) x.cpFired }
  d.pulse (d.ctxCore c) (17 + 2 * d.ctxSlot c)

/-! ### Control words (R331) -/

/-- May an agent write the control words of a context? -/
def Dev.ctxAgent (d : Dev) (agent c : Nat) : Bool := (decide (16 ≤ agent) && decide (agent < 20)) || (d.ctxState c != 0 && d.ctxCore c == agent)

/-- A control word as read; a FREE context has no core and no slot, and those fields read 0 (log entry 49). -/
def Dev.ctxWord (d : Dev) (c w : Nat) : Nat :=
  let x := d.ctx c
  match w with
  | 0 => d.ctxState c * 2 ^ 20 + (if d.ctxState c = 0 then 0 else d.ctxCore c * 2 ^ 15 + d.ctxSlot c * 4096) + b2n x.resumed * 2048 + b2n x.migrated * 1024 + b2n x.swapped * 512
  | 1 => d.obn (K.CTX_CYCLE c)
  | 2 => x.pending
  | 3 => min x.misses 255
  | 4 => x.ckptStatus * 65536
  | 5 => if d.ctxState c = 0 then 0 else 0xC00 * d.ctxSlot c
  | 6 => d.obn (K.CTX_NODE_BASE c)
  | 7 => d.ctxNodes c
  | _ => 0

/-- A write of CP_PENDING: ones clear. -/
def Dev.cpClear (d : Dev) (c v : Nat) : Dev := d.modCtx c fun x => { x with pending := x.pending &&& (255 ^^^ (v % 256)) }

/-- A write of a control word by an agent. -/
def Dev.ctxWrite (d : Dev) (agent c w v : Nat) : Dev :=
  if !d.ctxAgent agent c then d else
  match w with
  | 2 => d.cpClear c v
  | 3 => d.ctxDone c
  | 4 => if v.testBit 0 then d.ckptStart c else d
  | _ => d

/-! ### Binding (R319, R323 to R326, R337) -/

/-- The ports that PORT_MASK names, rising. -/
def Dev.maskPorts (d : Dev) (c : Nat) : List Nat :=
  (List.range 4).flatMap fun t => (setBits (d.obn (K.CTX_PORT_MASK c t)) 24).map fun b => 24 * t + b

/-- The lowest free slot of a core, slots promised to migrations left out. -/
def Dev.freeSlot (d : Dev) (core : Nat) : Option Nat :=
  (List.range 8).find? fun s => d.ctxsBound.all fun c =>
    !(d.ctxCore c == core && d.ctxSlot c == s) && !((d.ctx c).migTarget == some core && (d.ctx c).migSlot == s)

/-- Is a weir core off by mode (R40)? -/
def Dev.coreBarred (d : Dev) (core : Nat) : Bool := decide (d.limits < 2) || (d.limits == 6 && !(d.obn K.LIMP_CORES).testBit core)

/-- Can a core take one more context of a catalogue entry: every context on it names that entry, and so does a swap armed there (R321)? -/
def Dev.coreTakes (d : Dev) (core j : Nat) : Bool :=
  (d.freeSlot core).isSome && d.ctxsBound.all fun c =>
    !(d.ctxCore c == core || (d.ctx c).migTarget == some core) || (d.obn (K.CTX_PERS c) == j && ((d.ctx c).swapEntry.getD j) == j)

/-- The first free run of node slots, in blocks of 32 (R326). -/
def Dev.nodeRun (d : Dev) (n : Nat) : Option Nat :=
  let up := fun (k : Nat) => (k + 31) / 32 * 32
  firstFit (d.ctxsBound.map fun c => (d.obn (K.CTX_NODE_BASE c), up (d.ctxNodes c))) 0 49152 (up n)

/-- Room for two copies in the checkpoint pool (R104, R332). -/
def Dev.ckptRun (d : Dev) (words : Nat) : Option Nat :=
  firstFit (d.ctxsBound.map fun c => (d.ctxDesc c 10, 2 * (d.ctxWords c + 256))) 0x100000 0x160000 (2 * (words + 256))

/-- The checks of R324 in their order, but for room. -/
def Dev.bindCheck (d : Dev) (c : Nat) : Nat :=
  let j := d.obn (K.CTX_PERS c)
  let core := d.obn (K.CTX_CORE c)
  let l := d.maskPorts c
  let modes := d.ctxDefault j 0
  if !d.hasBundle j then Stat.noKey
  else if l.isEmpty || 16 < l.length || d.ctxWords c % 256 ≠ 0 || d.ctxWords c < 256 || 3072 < d.ctxWords c || d.ctxNodes c = 0 || 512 < d.ctxNodes c then Stat.range
  else if l.any fun p => !modes.testBit (d.portMode p) then Stat.mode
  else if d.setsBarred j then Stat.range
  else if d.coreBarred core || (!d.epOn core && !(d.ctxsOn core).isEmpty) then Stat.asleep
  else if l.any fun p => decide (d.obn (K.P_ROLE_CONTEXT p) < 128) || !(d.movesTo p).isEmpty then Stat.busy
  else if !d.coreTakes core j then Stat.busy
  else if (d.nodeRun (d.ctxNodes c)).isNone || (d.ckptRun (d.ctxWords c)).isNone then Stat.busy
  else Stat.done

/-- Set up the channel of port index i of a context from the CHANNEL section (R337): its window and words 3 to 7. -/
def Dev.bindChannel (d : Dev) (c j i : Nat) : Option Dev :=
  let p := (d.ctx c).ports.getD i 0
  let w := ((d.chanWords j).drop (5 * i)).take 5
  if w.length < 5 || d.portMode p < 4 then some d else
  let mine := d.progSect j (bits (w.getD 0 0) 23 22)
  let prog := padProg mine
  let e := p / 8
  let has := (List.range 4).find? fun k => d.ldAll (runAddr e k (d.activeBank e k) 0) 256 == prog
  let win := match has with
    | some k => some k
    | none => (List.range 4).find? fun k => !d.winHeld e k && (d.winChans e k).all fun ch => 8 * e + ch == p || d.chState (8 * e + ch) == 0
  win.map fun k =>
    let d := if has.isSome then d else d.putProg e k (d.activeBank e k) mine
    let d := d.chCfgWrite p (k * 2 ^ 22 + w.getD 0 0 % 2 ^ 22)
    [4, 5, 6, 7].foldl (fun d n => d.chWrite p n (w.getD (n - 3) 0) false) d

/-- The channels of all ports of a context. -/
def Dev.bindChannels (d : Dev) (c j : Nat) : Option Dev :=
  (List.range (d.ctx c).ports.length).foldl (fun a i => a.bind fun d => d.bindChannel c j i) (some d)

/-- Allocate everything and enter BOUND, none for want of room for the tables. -/
def Dev.bindNow (d : Dev) (c : Nat) : Option Dev := do
  let j := d.obn (K.CTX_PERS c)
  let core := d.obn (K.CTX_CORE c)
  let slot ← d.freeSlot core
  let node ← d.nodeRun (d.ctxNodes c)
  let pool ← d.ckptRun (d.ctxWords c)
  let words := d.ctxWords c
  let nodes := d.ctxNodes c
  let d := (d.modCtx c fun _ => { ports := d.maskPorts c }).descPut c 0 [j, core, slot]
  let d := (d.descTiming c).descPut c 6 [d.obn (K.CTX_DEADLINE c), node, nodes, words, pool]
  let d := ((d.setOb (K.CTX_CORE_NOW c) (core : Nat)).setOb (K.CTX_SLOT c) (slot : Nat)).setOb (K.CTX_NODE_BASE c) (node : Nat)
  let d := (d.zero [K.CTX_CYCLE c, K.CTX_CKPT_GEN c]).setCtxState c 1
  let d := d.clearMem (0x200000 + 8 * node) (0x200000 + 8 * (node + (nodes + 31) / 32 * 32))
  let d := (d.clearMem (d.winBase c) (d.winBase c + words)).clearMem pool (pool + 2 * (words + 256))
  let d := (d.ctx c).ports.foldl (fun d p => (d.setOb (K.P_ROLE_CONTEXT p) (c : Nat)).modPort p fun x => { x with standFor := none }) d
  let d ← d.resolveSets c j (.ctx c)
  let d ← (d.setProfiles c (d.persProfile j)).bindChannels c j
  return (d.event.setCtxState c 1).logE 0x6000 c

/-- The identifier of a catalogue entry, and its weir image. -/
def Dev.weirImage (d : Dev) (j : Nat) : List Nat := (d.sect j 1).take 32768

/-- Power a core on with a personality's image in its active bank (R324). -/
def Dev.coreForPers (d : Dev) (core j : Nat) : Dev := (d.corePowerOn core).loadBank core false (d.weirImage j) (d.obn (K.PERS_ID j))

/-- The bind goes on once its permit, if it needed one, is there. -/
def Dev.bindGo (d : Dev) (c num : Nat) : Dev × Nat :=
  let core := d.obn (K.CTX_CORE c)
  let s := if d.ctxState c = 0 then d.bindCheck c else Stat.busy
  if s ≠ 0 then (d.release num, s) else
  let on := if (d.ctxsOn core).isEmpty then d.coreForPers core (d.obn (K.CTX_PERS c)) else d
  match on.bindNow c with
  | some x => (x.release num, Stat.done)
  | none => (d.release num, Stat.busy)

/-- CTX_CMD 1 (R323, R324). -/
def Dev.ctxBind (d : Dev) (c : Nat) (r : Option Src) : Dev × Option Nat :=
  if d.ctxState c ≠ 0 then (d, some Stat.busy)
  else if d.bindCheck c ≠ 0 then (d, some (d.bindCheck c))
  else if !(d.ctxsOn (d.obn (K.CTX_CORE c))).isEmpty then let (d, s) := d.bindGo c 0; (d, some s)
  else match d.ask (.migrate c) 300 1000 4 (d.waitLeft r) 1 with
    | (d, .granted n) => let (d, s) := d.bindGo c n; (d, some s)
    | (d, .queued) => (d, none)
    | (d, .busy) => (d, some Stat.busy)
    | (d, .refused) => (d, some Stat.permit)

/-- The context's cycle interrupts are to begin: first boundary at least 100 µs from now (R323); that of a segment's cycle is its first start from then
on (R451). -/
def Dev.ctxBegin (d : Dev) (c : Nat) : Dev :=
  let t := d.tbNs (d.ctxTb c) + 100000
  d.modCtx c fun x => { x with resumed := false, migrated := false, swapped := false, misses := 0, open_ := false, doneSeen := false, eff := none,
                               boundaryAt := 0, nextAt := d.boundaryFrom c t, notBefore := if (d.followed c).isSome then t else 0 }

/-- CTX_CMD 2. -/
def Dev.ctxStart (d : Dev) (c : Nat) : Dev × Nat :=
  match d.ctxState c with
  | 1 => (((d.event.descTiming c).setCtxState c 2).ctxBegin c, Stat.done)
  | 5 => (((d.event.descTiming c).setCtxState c 4).modCtx c fun x => { x with restarts := [] }, Stat.done)
  | _ => (d, Stat.busy)

/-- CTX_CMD 3. -/
def Dev.ctxStop (d : Dev) (c : Nat) : Dev × Nat :=
  if d.ctxState c = 2 || d.ctxState c = 3 then
    let t := (d.ctx c).migTarget
    let d := ((d.iff (d.ctx c).migHeld fun d => d.ckptAbort c).migCancel c).modCtx c fun x => { x with open_ := false }
    let d := d.each (d.ctx c).ports fun d p => d.moveCancel p
    let d := d.event.setCtxState c 1
    (match t with
      | some t => d.coreIdle t
      | none => d, Stat.done)
  else (d, Stat.busy)

/-- Everything a context holds is freed. -/
def Dev.ctxFree (d : Dev) (c : Nat) : Dev :=
  let core := d.ctxCore c
  let d := (d.ctx c).ports.foldl (fun d p => ((d.moveCancel p).setOb (K.P_ROLE_CONTEXT p) 0xFF).modChan p fun x => { x with cyc := false }) (d.event.dropCtxSets c)
  let mine := fun (v : Via) => match v with
    | .mgmt k => k.val == c
    | _ => false
  let d := { d.clearMem (0x1E9000 + 16 * c) (0x1E9010 + 16 * c) with ctxs := mdel d.ctxs c, dict := { d.dict with subs := d.dict.subs.filter fun s => !mine s.via } }
  let d := ((d.setCtxState c 0).setOb (K.CTX_CORE_NOW c) 0xFF).setOb (K.CTX_SLOT c) 0xFF
  (d.zero [K.CTX_CYCLE c, K.CTX_NODE_BASE c, K.CTX_CKPT_GEN c]).coreIdle core

/-- CTX_CMD 4. -/
def Dev.ctxUnbind (d : Dev) (c : Nat) : Dev × Nat :=
  if d.ctxState c = 1 || d.ctxState c = 5 then (d.ctxFree c, Stat.done) else (d, Stat.busy)

/-- CTX_CMD 5. -/
def Dev.ctxRestartCmd (d : Dev) (c : Nat) : Dev × Nat :=
  if d.ctxState c = 2 || d.ctxState c = 3 then (d.ctxRestart c false, Stat.done) else (d, Stat.busy)

/-! ### Migration (R334, R335) -/

/-- Arm a migration to a core that is on. -/
def Dev.migArm (d : Dev) (c t : Nat) : Dev :=
  let slot := (d.freeSlot t).getD 0
  (d.event.setCtxState c 3).modCtx c fun x => { x with migTarget := some t, migSlot := slot, migHeld := false }

/-- The checks of R334 in their order. A context with a swap of its own armed is BUSY, since its entry is about to change (R321; log entry 49). -/
def Dev.migCheck (d : Dev) (c t : Nat) : Nat :=
  if 15 < t || t = d.ctxCore c then Stat.range
  else if d.ctxState c ≠ 2 || (d.ctx c).swapEntry.isSome then Stat.busy
  else if d.coreBarred t then Stat.asleep
  else if !d.coreTakes t (d.obn (K.CTX_PERS c)) then Stat.busy
  else Stat.done

/-- The migration goes on once the permit for loading its target is there. -/
def Dev.migGo (d : Dev) (c t num : Nat) : Dev × Nat :=
  let s := d.migCheck c t
  if s ≠ 0 then (d.release num, s)
  else (((if (d.ctxsOn t).isEmpty then d.coreForPers t (d.obn (K.CTX_PERS c)) else d).migArm c t).release num, Stat.done)

/-- CTX_MIGRATE; the request's tag is the target plus 256. -/
def Dev.ctxMigrate (d : Dev) (c t : Nat) (r : Option Src) : Dev × Option Nat :=
  if d.migCheck c t ≠ 0 then (d, some (d.migCheck c t))
  else if !(d.ctxsOn t).isEmpty then let (d, s) := d.migGo c t 0; (d, some s)
  else match d.ask (.migrate c) 300 1000 4 (d.waitLeft r) (256 + t) with
    | (d, .granted n) => let (d, s) := d.migGo c t n; (d, some s)
    | (d, .queued) => (d, none)
    | (d, .busy) => (d, some Stat.busy)
    | (d, .refused) => (d, some Stat.permit)

/-- Discard everything that a swap has resolved. -/
def Dev.swapDrop (d : Dev) (l : List Nat) : Dev :=
  d.each l fun d c =>
    let d := d.dropSets (.coming c)
    ((d.modSw fun s => { s with mstore := dropEntries s.mstore (.coming c) }).entriesUsed).modCtx c fun x => { x with swapEntry := none, swapProfile := [], swapWins := [] }

/-- A context leaves a core with a swap armed there: what the swap resolved for it goes, and with the last such context the bank swap (R339; log
entry 49). -/
def Dev.swapLeft (d : Dev) (c core : Nat) : Dev :=
  if (d.ctx c).swapEntry.isNone then d else
  let d := (d.swapDrop [c]).logE 0x6013 c
  if (d.ctxsOn core).any fun x => x != c && (d.ctx x).swapEntry.isSome then d else d.bankCancel core

/-- Change the core of a context: slot, forwarding entries, and the core left behind. -/
def Dev.ctxMoveTo (d : Dev) (c t slot : Nat) : Dev :=
  let old := d.ctxCore c
  let d := d.swapLeft c old
  let d := ((d.setOb (K.CTX_CORE_NOW c) (t : Nat)).setOb (K.CTX_SLOT c) (slot : Nat)).descPut c 1 [t, slot]
  let d := d.reEntry c fun b =>
    if byteAt b 16 * 256 + byteAt b 17 = coreDest old then setByte (setByte b 16 (coreDest t / 256)) 17 (coreDest t) else b
  (d.migCancel c).coreIdle old

/-- A checkpoint copy is done (R332). One of a held migration that ends with ABORTED ends the migration at once (R335). -/
def Dev.ckptDone (d : Dev) (c : Nat) : Dev :=
  if (d.ctx c).copying.isNone then d else
  let d := d.ckptEnd c
  if (d.ctx c).ckptStatus = Stat.done then d else d.migAbort c

/-- The landing has not happened by the cycle's deadline; a migration whose checkpoint aborted ends at once. -/
def Dev.migLate (d : Dev) (c : Nat) : Dev :=
  let x := d.ctx c
  if d.ctxState c ≠ 3 || !x.migHeld then d else
  (if x.copying.isNone && x.ckptStatus != Stat.done then d else d.upToOn (d.ctxTb c) (x.boundaryAt + d.deadlineNs c)).migAbort c

/-- Copy, restore and land, at one event (R335 steps 2 to 4). -/
def Dev.migLand (d : Dev) (c : Nat) : Dev :=
  let x := d.ctx c
  match x.migTarget with
  | none => d
  | some t =>
    if d.ctxState c ≠ 3 || !x.migHeld then d else
    if x.boundaryAt + d.deadlineNs c < d.tbNs (d.ctxTb c) || !d.epOn t then d.migAbort c else
    let d := d.ckptEnd c
    if (d.ctx c).ckptStatus ≠ Stat.done then d.migAbort c else
    let slot := x.migSlot
    let words := d.ctxWords c
    let img := match d.newestCopy c with
      | some k => d.ldAll (d.copyBase c k + 256) words
      | none => []
    let d := (d.event.stAll (localAddr t (0xC00 * slot)) img).setCtxState c 2
    let d := d.ctxMoveTo c t slot
    let d := d.modCtx c fun x => { x with migrated := true, resumed := true }
    let d := d.pulse t (16 + 2 * slot)
    (d.logE 0x6010 c).bump (K.CTX_MIGRATIONS c)

/-- A core's store at one of its local words ends a checkpoint copy of that window (R332), and with it a migration. -/
def Dev.winTouched (d : Dev) (core a : Nat) : Dev :=
  d.each ((d.ctxs.filter fun e => e.2.copying.isSome).map (·.1)) fun d c =>
    let base := 0xC00 * d.ctxSlot c
    if d.ctxCore c == core && decide (base ≤ a) && decide (a < base + d.ctxWords c) then
      (d.ckptAbort c).iff (d.ctx c).migHeld fun d => d.migAbort c
    else d

/-! ### Personality swaps (R339) -/

/-- The contexts that a swap changes. -/
def Dev.swapCtxs (d : Dev) (c : Nat) (whole : Bool) : List Nat := if whole then d.ctxsOn (d.ctxCore c) else [c]

/-- Where the new program of port p goes, given what the swap has placed so far: the shadow bank of its own window, where no swap of
that window is pending, every channel on it out of RESET is one of `chans`, and no other program of this swap stands there; else a free window, or one
of this swap's that holds the same program (R339 step 3). -/
def Dev.swapPlace (d : Dev) (chans : List Nat) (placed : List (Nat × Nat × Bool)) (p : Nat) (prog : List Nat) : Option (Dev × Nat × Bool) :=
  let e := p / 8
  let k := d.obn (K.CH_WIN p)
  let sh := !d.activeBank e k
  let mine := padProg prog
  let there := placed.any fun x => x.1 / 8 == e && x.2.1 == k && x.2.2
  let can := (d.winSwap e k).isNone && (d.winChans e k).all fun ch => chans.contains (8 * e + ch) || d.chState (8 * e + ch) == 0
  if can && (!there || d.ldAll (runAddr e k sh 0) 256 == mine) then some (d.putProg e k sh prog, k, true) else
  let used := (placed.filter fun x => x.1 / 8 == e && !x.2.2).map (·.2.1)
  match used.find? fun w => d.ldAll (runAddr e w (d.activeBank e w) 0) 256 == mine with
  | some w => some (d, w, false)
  | none =>
    ((List.range 4).find? fun w => !used.contains w && !d.winHeld e w && (d.winChans e w).all fun ch => d.chState (8 * e + ch) == 0).map
      fun w => (d.putProg e w (d.activeBank e w) prog, w, false)

/-- Load the new channel programs of contexts, and note their windows: none when one finds no room. A port that runs a segment keeps its program (R433). -/
def Dev.swapProgs (d : Dev) (l : List Nat) (j : Nat) : Option Dev :=
  let free := fun (d : Dev) (p : Nat) => decide (4 ≤ d.portMode p) && !d.segHolds p
  let chans := l.flatMap fun c => (d.ctx c).ports.filter fun p => free d p
  l.foldl (fun a c => (List.range (d.ctx c).ports.length).foldl (fun a i => a.bind fun (d : Dev) =>
    let p := (d.ctx c).ports.getD i 0
    let w := (d.chanWords j).getD (5 * i) 0
    if !free d p || (d.chanWords j).length < 5 * i + 5 then some d else
    let placed := l.flatMap fun x => (d.ctx x).swapWins
    (d.swapPlace chans placed p (d.progSect j (bits w 23 22))).map fun r => r.1.modCtx c fun x => { x with swapWins := x.swapWins ++ [(p, r.2)] }) a) (some d)

/-- Is a swap refused with BUSY: a context that is FREE, others on the core unless all of them change, one on its way there, or a swap armed there
(R339 step 1; log entry 49)? -/
def Dev.swapShut (d : Dev) (c v : Nat) : Bool :=
  let core := d.ctxCore c
  d.ctxState c == 0 || (!v.testBit 8 && decide (1 < (d.ctxsOn core).length)) || (d.core core).swapPending ||
    d.ctxsBound.any fun x => (d.ctx x).migTarget == some core || (d.ctxCore x == core && (d.ctx x).migTarget.isSome)

/-- Steps 3 and 4: load, resolve, arm; BUSY when no room is found. -/
def Dev.swapLoad (d : Dev) (c v num : Nat) : Dev × Nat :=
  let j := v % 256
  let l := d.swapCtxs c (v.testBit 8)
  let core := d.ctxCore c
  let busy := (d.swapShut c v) || !d.hasBundle j
  if !busy && d.setsBarred j then (d.release num, Stat.range) else
  let sets := l.foldl (fun a x => a.bind fun d => Dev.resolveSets d x j (.coming x)) (some d)
  match (if busy then none else sets).bind fun d => Dev.swapProgs d l j with
  | none => (d.release num, Stat.busy)
  | some d =>
    let d := (d.event.loadBank core true (d.weirImage j) (d.obn (K.PERS_ID j))).each l fun d x =>
      d.modCtx x fun y => { y with swapEntry := some j, swapAt := d.now, swapProfile := d.persProfile j }
    let mask := l.foldl (fun m x => putBit m (2 * d.ctxSlot x) true) 0
    (d.bankGranted core num false mask, Stat.done)

/-- CTX_PERS_SWAP. -/
def Dev.ctxPersSwap (d : Dev) (c v : Nat) (r : Option Src) : Dev × Option Nat :=
  if 512 ≤ v then (d, some Stat.range)
  else if !d.hasBundle (v % 256) then (d, some Stat.noKey)
  else if d.swapShut c v then (d, some Stat.busy)
  else match d.ask (.pers c) 300 1000 4 (d.waitLeft r) v with
    | (d, .granted n) => let (d, s) := d.swapLoad c v n; (d, some s)
    | (d, .queued) => (d, none)
    | (d, .busy) => (d, some Stat.busy)
    | (d, .refused) => (d, some Stat.permit)

/-- What the core's landing event does for the contexts swapped (R339 step 5). -/
def Dev.swapLanded (d : Dev) (core : Nat) : Dev :=
  let l := (d.ctxsOn core).filter fun c => (d.ctx c).swapEntry.isSome
  d.each l fun d c =>
    let j := ((d.ctx c).swapEntry).getD 0
    let d := (((d.adoptSets c).adoptEntries c).setOb (K.CTX_PERS c) (j : Nat)).descPut c 0 [j]
    let wins := (d.ctx c).swapWins
    let d := (d.setProfiles c (d.ctx c).swapProfile).modCtx c fun x => { x with swapped := true, swapEntry := none, swapProfile := [], swapWins := [] }
    let d := (d.logE 0x6012 c).bump (K.CTX_SWAPS c)
    wins.foldl (fun (d : Dev) y =>
      if y.2.2 then (if (d.winSwap (y.1 / 8) y.2.1).isSome then d else (d.askSwap (y.1 / 8) y.2.1 0 Stat.busy).1)
      else
        let d := d.modChan y.1 fun x => { x with toWin := some y.2.1 }
        if [0, 1, 3].contains (d.chState y.1) then d.flipIdle y.1 else d) d

/-- 1 s after arming without a landing: the keeper cancels (R339 step 6). -/
def Dev.swapCancel (d : Dev) (c : Nat) : Dev :=
  if (d.ctx c).swapEntry.isNone then d else
  let d := d.upTo ((d.ctx c).swapAt + 1000000000)
  let core := d.ctxCore c
  let l := (d.ctxsOn core).filter fun x => (d.ctx x).swapEntry.isSome
  let d := (d.bankCancel core).swapDrop l
  d.each l fun d x => d.logE 0x6013 x

/-! ### Cores that go or are reset (R333, R323) -/

/-- Every context on a core restarts (R333). -/
def Dev.coreCtxsRestart (d : Dev) (core : Nat) : Dev := d.each (d.ctxsOn core) fun d c => d.ctxRestart c true

/-- A core is powered off: its contexts are quarantined (R323). -/
def Dev.coreOff (d : Dev) (core : Nat) : Dev :=
  ((d.each (d.ctxsOn core) fun d c => if d.ctxState c = 5 then d else d.quarantine c).rxUnlock core).corePowerOff core

/-- A watchdog expires (R295, R333, R532). -/
def Dev.wdogExpiry (d : Dev) (c : Nat) : Dev :=
  if !d.epOn c then d else
  let d := d.upTo ((d.core c).wdogAt + wdogPeriod c)
  let d := ((d.logE 0x5000 c).bump (K.CORE_WDOG_RESETS c)).raise 0x546
  let d := d.rxUnlock c
  if c < 16 then (d.coreReset c).coreCtxsRestart c else d.keeperReset c true

/-- CORE_CMD 3: source 63, and 100 µs later the reset as on watchdog expiry (R302, R507). -/
def Dev.coreResetCmd (d : Dev) (c : Nat) : Dev :=
  let d := ((d.raise63 c).upTo (d.now + 100000)).rxUnlock c
  if c < 16 then (d.coreReset c).coreCtxsRestart c else d.keeperReset c false

/-- The core's automatic starts: contexts with CTX_AUTOSTART are bound and started (R325). -/
def Dev.ctxAuto (d : Dev) : Dev :=
  d.each ((List.range 128).filter fun c => d.obb (K.CTX_AUTOSTART c)) fun d c =>
    match d.ctxBind c none with
    | (d, some 0) => (d.ctxStart c).1
    | (d, some s) => if d.ctxState c = 0 then d.logE 0x6004 s else d
    | (d, none) => d

end Sys2Proof.Machine
end

