-- ==== Sys2Proof/Machine/Segments.lean ====
section
/-! DEFINITION. Window loads under their permit: WIN_PROG (spec 09, R238) and the start of a Rillnet segment (16, R433, R449). -/
namespace Sys2Proof.Machine

/-- The bank-swap permit of a window load; tag 0 is WIN_PROG, 1 + s the start of segment s. -/
def Dev.winPermit (d : Dev) (ew tag : Nat) (r : Option Src) : Dev × TapAns := d.ask (.window ew) 300 1000 4 (d.waitLeft r) tag

/-! ### WIN_PROG (R238) -/

/-- Whole 14-bit words, 1 to 256 of them. -/
def progOk (img : List Byte) : Bool :=
  decide (2 ≤ img.length) && decide (img.length ≤ 512) && (List.range (img.length / 2)).all fun i => decide (byteAt img (2 * i) < 64)

/-- The words of a program image. -/
def progWords (img : List Byte) : List Nat := (List.range (img.length / 2)).map fun i => byteAt img (2 * i) * 256 + byteAt img (2 * i + 1)

/-- The shadow bank takes an image, under its permit. -/
def Dev.winLoad (d : Dev) (e w : Nat) (img : List Byte) (num : Nat) : Dev × Nat :=
  if (d.winSwap e w).isSome then (d.release num, Stat.busy) else
  (((d.putProg e w (!d.activeBank e w) (progWords img)).event).release num, Stat.done)

/-- A WIN_PROG write; none while it waits for its permit. -/
def Dev.winProg (d : Dev) (e w : Nat) (img : List Byte) (r : Option Src) : Dev × Option Nat :=
  if img.length % 2 ≠ 0 then (d, some Stat.type)
  else if !progOk img then (d, some Stat.range)
  else if (d.winSwap e w).isSome then (d, some Stat.busy)
  else match d.winPermit (winOf e w) 0 r with
    | (d, .granted n) => let (d, s) := d.winLoad e w img n; (d, some s)
    | (d, .queued) => (d, none)
    | (d, .busy) => (d, some Stat.busy)
    | (d, .refused) => (d, some Stat.permit)

/-! ### SEG_CMD = 1 (R433, R449) -/

/-- The start of a segment under its permit: its program goes into window SEG_WIN, and the status is judged again. -/
def Dev.segGo (d : Dev) (s num : Nat) : Dev × Nat :=
  let st := d.segStartStatus s
  if st ≠ Stat.done then (d.release num, st) else
  match d.segPort s with
  | none => (d.release num, Stat.noKey)
  | some p =>
    match d.segBegin s with
    | (d, 0) =>
      let e := p / 8
      let w := d.obn (K.SEG_WIN s)
      ((d.putProg e w (d.activeBank e w) d.sump.rillProg).release num, Stat.done)
    | (d, st) => (d.release num, st)

/-- SEG_CMD = 1; none while it waits for its permit. -/
def Dev.segCmdStart (d : Dev) (s : Nat) (r : Option Src) : Dev × Option Nat :=
  let st := d.segStartStatus s
  if st ≠ Stat.done then (d, some st) else
  match d.segPort s with
  | none => (d, some Stat.noKey)
  | some p =>
    match d.winPermit (winOf (p / 8) (d.obn (K.SEG_WIN s))) (1 + s) r with
    | (d, .granted n) => let (d, st) := d.segGo s n; (d, some st)
    | (d, .queued) => (d, none)
    | (d, .busy) => (d, some Stat.busy)
    | (d, .refused) => (d, some Stat.permit)

/-- SEG_AUTOSTART after the automatic start of the contexts that `which` picks (R325, R454). -/
def Dev.segAuto (d : Dev) (which : Nat → Bool) : Dev :=
  d.each ((List.range 96).filter fun s => d.obb (K.SEG_AUTOSTART s)) fun d s =>
    let c := d.obn (K.SEG_CTX s)
    if c < 128 && which c && d.obb (K.CTX_AUTOSTART c) && d.ctxState c == 2 then (d.segCmdStart s none).1 else d

end Sys2Proof.Machine
end

