-- ==== Sys2Proof/Machine/Motion.lean ====
section
/-! DEFINITION. The profile unit: masters, axes, commands, group updates and homing (spec 17). -/
namespace Sys2Proof.Machine

def Dev.modMotion (d : Dev) (f : Motion → Motion) : Dev := { d with motion := f d.motion }

/-! ### Axes, groups and the load (R455 to R457, R39) -/

/-- The axes in use, in ascending number. -/
def Dev.axesInUse (d : Dev) : List Nat :=
  d.od.filterMap fun e =>
    if 0xA00000 ≤ e.1 && e.1 < 0xB00000 && e.1 % 256 == 0 && e.2 != 0 then some ((e.1 - 0xA00000) / 256) else none

def Dev.groupOf (d : Dev) (a : Nat) : Nat := d.obn (K.AX_GROUP a)
def Dev.groupAxes (d : Dev) (g : Nat) : List Nat := d.axesInUse.filter fun a => d.groupOf a == g

/-- A period code in µs. -/
def periodUs (code : Nat) : Nat := [125, 250, 500, 1000, 2000, 4000].getD code 1000
def Dev.periodNs (d : Dev) (g : Nat) : Nat := periodUs (d.obn (K.GRP_PERIOD g)) * 1000

/-- The sample instant k of a group, in ns of its base (R456). -/
def Dev.sampleAt (d : Dev) (g k : Nat) : Nat := k * d.periodNs g + d.obn (K.GRP_PHASE g) * 1000

/-- The motion load in axis-updates per second (R39). -/
def Dev.motionLoad (d : Dev) : Nat :=
  (List.range 4).foldl (fun s g => if d.obb (K.GRP_EN g) then s + (d.groupAxes g).length * 1000000 / periodUs (d.obn (K.GRP_PERIOD g)) else s) 0

/-- The profile unit's capacity in a mode (R457). -/
def capacityOf : Nat → Nat
  | 2 => 1000000
  | 3 => 4100000
  | 4 => 4100000
  | 5 => 16400000
  | 6 => 500000
  | _ => 0

/-- The capacity of the mode in force; in Hold that of the prior mode, or Limp's under its constraints. -/
def Dev.motionCap (d : Dev) : Nat := capacityOf d.limits

/-- The load with some objects changed (R457). -/
def Dev.loadWith (d : Dev) (key : Nat) (v : Int) : Nat := (d.setOb key v).motionLoad

/-- Does a write raise the load above the capacity (R457)? -/
def Dev.overloads (d : Dev) (key : Nat) (v : Int) : Bool :=
  decide (d.motionLoad < d.loadWith key v) && decide (d.motionCap < d.loadWith key v)

/-- The group's time base now, in ns. -/
def Dev.groupNow (d : Dev) (a : Nat) : Nat := d.tbNs (d.obn (K.GRP_TB (d.groupOf a)))

def Dev.masterOf (d : Dev) (a : Nat) : Option Nat := let m := d.obn (K.AX_MASTER a); if m < 16 then some m else none
def Dev.modLen (d : Dev) (a : Nat) : Nat := d.obn (K.AX_MOD_LEN a)

/-- The axis's limits in increments and seconds (R460). -/
def Dev.limitsOf (d : Dev) (a : Nat) : Limits :=
  ⟨mkRat (d.ob (K.AX_VMAX a)) 65536, mkRat (d.ob (K.AX_AMAX a)) 256, mkRat (d.ob (K.AX_DMAX a)) 256, d.obn (K.AX_JMAX a),
   mkRat (d.ob (K.AX_D_STOP a)) 256, mkRat (d.ob (K.AX_D_FAULT a)) 256⟩

/-- An axis at rest, for R43 and R48 (R465). -/
def Dev.axisRests (d : Dev) (a : Nat) : Bool := let s := (d.axis a).state; s == 0 || s == 1 || s == 7
def Dev.allAtRest (d : Dev) : Bool := d.axesInUse.all d.axisRests

/-- The position set-point in increments (R460, R473). -/
def Dev.setPoint (d : Dev) (a : Nat) (x : Axis) : Int :=
  let p := ratNear x.pos
  if d.modLen a = 0 then p else p % (d.modLen a : Int)

/-- The velocity set-point as a word pair value (R460). -/
def Axis.velWord (x : Axis) : Int := ratNear (x.vel * 65536)

/-! ### The record in memory (R487, R488) -/

def recAddr (a : Nat) : Nat := 0x280000 + 64 * a

/-- Two words of a 48-bit value. -/
def pairOf (v : Int) : List Nat := let n := wrapN 48 v; [n / 2 ^ 24, n % 2 ^ 24]

/-- Three words of a position: 48 bits, then 24 fractional bits. -/
def tripleOf (q : Rat) : List Nat := let n := wrapN 72 (ratNear (q * 16777216)); [n / 2 ^ 48, n / 2 ^ 24 % 2 ^ 24, n % 2 ^ 24]

/-- Words 0 to 31: the axis's objects. -/
def Dev.recObjects (d : Dev) (a : Nat) : List Nat :=
  let m := d.obn (K.AX_MASTER a)
  [b2n (d.obb (K.AX_USE a)) * 2 ^ 23 + d.groupOf a * 2 ^ 21 + b2n (decide (m < 16)) * 2 ^ 20 + (if m < 16 then m else 0) * 2 ^ 16 +
     d.obn (K.AX_REVERSAL a) * 2 ^ 14 + d.obn (K.AX_STANDSTILL a) * 2 ^ 12 + b2n (d.obb (K.AX_SOFT_EN a)) * 2 ^ 11 +
     b2n (d.obb (K.AX_FE_EN a)) * 2 ^ 10 + d.obn (K.AX_HOME_METHOD a) * 64,
   d.obn (K.AX_SIG a)] ++
  ([K.AX_VMAX a, K.AX_AMAX a, K.AX_DMAX a, K.AX_JMAX a, K.AX_D_STOP a, K.AX_D_FAULT a, K.AX_SOFT_MIN a, K.AX_SOFT_MAX a,
    K.AX_MOD_LEN a, K.AX_FE_LIMIT a, K.AX_HOME_OFFSET a, K.AX_V_SEARCH a, K.AX_V_CREEP a].flatMap fun k => pairOf (d.ob k)) ++
  [d.obn (K.AX_REDUCE_PCT a) * 65536 + d.obn (K.AX_REST_MS a),
   d.obn (K.AX_HOME_TABLE a) * 65536 + d.obn (K.AX_FE_TIME a) * 256, d.obn (K.AX_WAKE_MS a), 0]

/-- The plan segment at an instant, the ns left in it, and the cruise velocity of a plan (words 53 to 57). -/
def Plan.segAt (pl : Plan) (t : Rat) : Nat × Nat × Rat :=
  let go := pl.segs.foldl (fun (x : Nat × Rat × Rat × Option (Nat × Rat)) s =>
    let (i, begun, v, found) := x
    let stop := begun + s.dur
    (i + 1, stop, v, match found with
      | some f => some f
      | none => if pl.secs t < stop then some (i, stop - pl.secs t) else none)) (0, 0, 0, none)
  let vc := (pl.segs.foldl (fun (x : Rat × Rat) s =>
    let v := x.1 + s.acc * s.dur + s.jerk * s.dur * s.dur / 2
    (v, if ratAbs x.2 < ratAbs v then v else x.2)) (pl.v, 0)).2
  match go.2.2.2 with
  | some (i, left) => (i % 8, (left * 1000000000).floor.toNat % 2 ^ 48, vc)
  | none => (0, 0, vc)

/-- Words 32 to 62: the working state. -/
def Dev.recWork (d : Dev) (a : Nat) (x : Axis) : List Nat :=
  let (sg, left, vc) := match x.plan with
    | some pl => pl.segAt (d.groupNow a)
    | none => (0, 0, 0)
  let ms := fun t0 : Nat => min ((d.now - t0) / 1000000) 65535
  let timer := if x.state = 4 then ms x.homing.phaseAt else match x.restAt with
    | some t => ms t
    | none => 0
  [x.state * 2 ^ 20 + x.fault * 2 ^ 16 + x.profile * 2 ^ 12 + b2n x.atRest * 2 ^ 11 + b2n x.blending * 2 ^ 10 + b2n x.homed * 2 ^ 9 +
     x.steps.length * 16 + x.homeResult] ++ tripleOf x.pos ++ pairOf x.velWord ++ pairOf (ratNear (x.acc * 256)) ++ pairOf x.target ++
  x.ratio ++ pairOf x.x ++ tripleOf x.pref ++ [x.blend, (x.steps.head?.map (·.idx)).getD 0xFFF,
   sg * 2 ^ 20 + x.homing.phase * 2 ^ 16 + min x.homing.chatter 255 * 256, left / 2 ^ 24, left % 2 ^ 24] ++
  pairOf (ratNear (vc * 65536)) ++ pairOf x.prevPos ++ [min x.feCount 255 * 65536 + timer] ++
  (match x.homing.latch with
    | some l => pairOf (ratNear l)
    | none => [x.homing.lastCount, 0])

/-- CHECK over words 0 to 62. -/
def checkOf (l : List Nat) : Nat := (l.foldl (· + ·) 0 % 2 ^ 24) ^^^ 0xA5A5A5

/-- The whole record as the unit keeps it. -/
def Dev.recWords (d : Dev) (a : Nat) : List Nat :=
  let l := d.recObjects a ++ d.recWork a (d.axis a)
  l ++ [checkOf l]

/-- Is the record lost: a wrong CHECK or a poisoned word (R488)? -/
def Dev.recLost (d : Dev) (a : Nat) : Bool :=
  let l := d.ldAll (recAddr a) 63
  (checkOf l != d.ld (recAddr a + 63)) || (List.range 64).any fun i => d.poisoned (recAddr a + i)

/-- Write the record. -/
def Dev.writeRec (d : Dev) (a : Nat) : Dev := d.stAll (recAddr a) (d.recWords a)

/-- Keep AX_STATE and its companions, and the record unless it is lost. -/
def Dev.syncAxis (d : Dev) (a : Nat) (lost : Bool) : Dev :=
  let x := d.axis a
  let d := d.setOb (K.AX_STATE a) x.state
  let d := d.setOb (K.AX_FAULT a) x.fault
  let d := d.setOb (K.AX_POS a) (d.setPoint a x)
  let d := d.setOb (K.AX_VEL a) x.velWord
  let d := d.setOb (K.AX_FE a) x.fe
  let d := d.setOb (K.AX_STEPS_QUEUED a) x.steps.length
  let d := d.setOb (K.AX_HOME_RESULT a) x.homeResult
  if lost then d else d.writeRec a

/-- Change an axis, keeping its objects and record. -/
def Dev.setAxis (d : Dev) (a : Nat) (f : Axis → Axis) : Dev :=
  let lost := d.recLost a
  (d.modAxis a f).syncAxis a lost

/-- Build an axis's record: DISABLED at a position (R488). -/
def Dev.buildAxis (d : Dev) (a : Nat) (p : Rat) : Dev :=
  let d := d.modAxis a fun _ => { pos := p, prevPos := ratNear p }
  d.syncAxis a false

/-! ### Gear steps (R476) -/

def stepAddr (i : Nat) : Nat := 0x1F0000 + 8 * i

/-- The pool entries in use. -/
def Dev.poolUsed (d : Dev) : List Nat := d.motion.axes.flatMap fun e => e.2.steps.map (·.idx)
/-- A queued step as its pool entry holds it now: a store into the pool changes what the unit keeps there (R104). -/
def Dev.stepNow (d : Dev) (h : GStep) : GStep :=
  let w := d.ldAll (stepAddr h.idx) 7
  ⟨h.idx, bits (w.getD 0 0) 22 21, sext 48 (w.getD 1 0 * 2 ^ 24 + w.getD 2 0), sext 24 (w.getD 3 0), w.getD 4 0, w.getD 5 0, w.getD 6 0⟩
def Dev.poolFree (d : Dev) : Nat := 4096 - d.poolUsed.length

/-- Steps accepted and not yet in the pool. -/
def Dev.poolDue (d : Dev) : Nat := d.motion.axes.foldl (fun n e => n + (e.2.cmds.filter fun c => c.op == 9).length) 0

/-- Return pool entries. -/
def Dev.freeSteps (d : Dev) (l : List GStep) : Dev := l.foldl (fun d h => d.st (stepAddr h.idx) 0) d

/-- Remove an axis's queued steps. -/
def Dev.dropSteps (d : Dev) (a : Nat) : Dev := (d.freeSteps (d.axis a).steps).modAxis a fun x => { x with steps := [] }

/-- Queue a gear step. -/
def Dev.queueStep (d : Dev) (a : Nat) (w : List Nat) : Dev :=
  let used := d.poolUsed
  match (List.range 4096).find? fun i => !used.contains i with
  | none => d
  | some i =>
    let h : GStep := ⟨i, bits (w.getD 6 0) 1 0, sext 48 (w.getD 1 0 * 2 ^ 24 + w.getD 2 0), sext 24 (w.getD 3 0), w.getD 4 0, w.getD 5 0, w.getD 0 0⟩
    let d := match (d.axis a).steps.getLast? with
      | some t => d.st (stepAddr t.idx) (d.ld (stepAddr t.idx) / 4096 * 4096 + i)
      | none => d
    let d := d.stAll (stepAddr i) [2 ^ 23 + h.dir * 2 ^ 21 + 0xFFF, w.getD 1 0, w.getD 2 0, w.getD 3 0, h.den, h.blend, h.tag, a]
    let d := d.modAxis a fun x => { x with steps := x.steps ++ [h] }
    if used.length + 1 = 4096 then d.logE 0xC004 0 else d

/-! ### Stops and faults (R469, R472, R478, R479) -/

/-- A motion to be planned: at once, or with JMAX once the running plan's acceleration is 0 (R471; log entry 18). -/
def Dev.plan (d : Dev) (a : Nat) (p v t : Rat) : Want → Plan
  | .speed w dec => (d.limitsOf a).toSpeed p v w dec (d.limitsOf a).jmax t
  | .target pt vl rel =>
    let c := d.limitsOf a
    let len := d.modLen a
    if len = 0 || rel then c.plan p v pt vl t else
    let back := v < 0
    let f := ratMod (if back then p - (pt : Rat) else (pt : Rat) - p) len
    let ds := phaseDist (ratAbs v) 0 c.dmax c.jmax
    let trip := moduloTravel (if d.obn (K.AX_REVERSAL a) = 1 then 1 else 2) (v != 0) f ds len
    c.plan p v (if back then p - trip else p + trip) vl t

/-- Where an axis is at an instant of its group's base at or after its last update, and how fast: on its plan, or else going on as it went. -/
def Dev.stateAt (d : Dev) (a : Nat) (t : Rat) : Rat × Rat × Rat :=
  let x := d.axis a
  match x.plan with
  | some pl => let (p, v, ac, _) := pl.eval t; (ratMod (roundTo 24 p) (d.modLen a), roundTo 16 v, ac)
  | none => (ratMod (roundTo 24 (x.pos + x.vel * (t - x.posAt) / 1000000000)) (d.modLen a), x.vel, 0)

/-- A held relative target, counted from the wrapped set-point, as a position of the running plan, which counts a modulo axis's laps (R471, R473). -/
def Dev.onPlan (d : Dev) (a : Nat) (t : Rat) : Want → Want
  | .target pt vl true =>
    let len := d.modLen a
    match (d.axis a).plan with
    | some pl => if len = 0 then .target pt vl true else .target (pt + (roundTo 24 (pl.eval t).1 / (len : Rat)).floor * (len : Int)) vl true
    | none => .target pt vl true
  | w => w

/-- Start a motion at an instant of the group's base. -/
def Dev.begin_ (d : Dev) (a t : Nat) (w : Want) : Dev :=
  let start : Rat := match (d.axis a).plan with
    | some pl => if (t : Rat) < pl.t then pl.t else (t : Rat)
    | none => t
  let (p, v, ac) := d.stateAt a start
  if (d.limitsOf a).jmax ≠ 0 && ac ≠ 0 then d.modAxis a fun x => { x with nextMove := some (d.onPlan a start w) }
  else d.modAxis a fun x => { x with nextMove := none, plan := some (d.plan a p v start w) }

/-- Homing ends without a home: its result, E:A003 and 0xC3 (R485, R486). -/
def Dev.homeEnds (d : Dev) (a res : Nat) : Dev :=
  (d.modAxis a fun x => { x with homeResult := res, notes := x.notes ++ [(0xC3, x.tag, none)] }).logSec 0xA003 a

/-- Enter STOPPING at D_STOP: gearing and homing are left, queued steps removed (R469, R472, R478). -/
def Dev.stopAxis (d : Dev) (a t : Nat) : Dev :=
  let s := (d.axis a).state
  let d := d.iff (s == 4 && !(d.axis a).homing.ended) fun d => d.homeEnds a 5
  let d := d.dropSteps a
  let d := d.modAxis a fun x => { x with state := 5, profile := 6, jogEnds := none, homing := {} }
  d.begin_ a t (.speed 0 (d.limitsOf a).dstop)

/-- Enter FAULT_STOP; a fault in FAULT_STOP or FAULT keeps the first cause, and a disabled axis has none (R479). -/
def Dev.faultAxis (d : Dev) (a cause t : Nat) : Dev :=
  let s := (d.axis a).state
  if s = 0 || s = 6 || s = 7 then d else
  let d := d.dropSteps a
  let (p, v, _) := d.stateAt a t
  let d := d.modAxis a fun x =>
    { x with state := 6, fault := cause, profile := 6, jogEnds := none, homing := {}, nextMove := none, acc := 0,
             plan := some ((d.limitsOf a).toSpeed p v 0 (d.limitsOf a).dfault 0 t), notes := x.notes ++ [(0xC4, 0, none)] }
  (d.bump (K.AX_FAULTS a)).logSec 0xA001 a

/-- The value of a signal, read as applied. -/
def Dev.sigValue (d : Dev) (n : Nat) : Int := sext 48 (d.entry n).value

/-- An update or command finds the record lost: E:A004, and an enabled axis brakes from its own signals (R488). -/
def Dev.lostRecord (d : Dev) (a t : Nat) : Dev :=
  let d := d.logSec 0xA004 a
  let s := (d.axis a).state
  if s = 0 || s = 6 || s = 7 then d else
  let sig := d.obn (K.AX_SIG a)
  let d := d.modAxis a fun x => { x with pos := d.sigValue sig, vel := mkRat (d.sigValue (sig + 1)) 65536, plan := none, posAt := t }
  d.faultAxis a 7 t

/-! ### Commands (R459, R466, R482) -/

/-- The state that an accepted command gives. -/
def stateAfter (s : Nat) (c : AxCmd) : Nat :=
  match c.op with
  | 1 => if s = 0 then 1 else s
  | 2 => 0
  | 3 => 2
  | 4 => 2
  | 5 => 2
  | 6 => 2
  | 7 => if s = 2 || s = 3 || s = 4 then 5 else s
  | 8 => 3
  | 11 => 1
  | 12 => 4
  | 14 => 1
  | _ => s

/-- The axis that an axis's master follows, when it is an AXIS master (R463). -/
def Dev.axisMaster (d : Dev) (a : Nat) : Option Nat :=
  match d.masterOf a with
  | some m => if d.obn (K.M_KIND m) = 4 then some (d.obn (K.M_SOURCE m)) else none
  | none => none

/-- Is an axis geared, or will it be once the commands it holds have taken effect (R459)? -/
def Dev.gearsSoon (d : Dev) (a : Nat) : Bool := (d.axis a).state == 3 || (d.axis a).cmds.foldl stateAfter (d.axis a).state == 3

/-- Does an axis serve as an AXIS master: is some axis geared to it, or about to be at its next update (R458, R463)? -/
def Dev.servesAsMaster (d : Dev) (a : Nat) : Bool :=
  d.axesInUse.any fun c => d.gearsSoon c && d.axisMaster c == some a

/-- Are both rules for AXIS masters met when axis a gears to its master, a's own gear counted (R463)? -/
def Dev.gearRuleOk (d : Dev) (a : Nat) : Bool :=
  match d.axisMaster a with
  | none => true
  | some b => a != b && d.groupOf b == d.groupOf a && !(d.gearsSoon b && (d.axisMaster b).isSome) &&
      !(d.axesInUse.any fun c => d.gearsSoon c && d.axisMaster c == some a)

/-- The inputs that a homing method needs, from the axis's table (R483, R484). -/
def Dev.homeTable (d : Dev) (a : Nat) : Nat := d.obn (K.AX_HOME_TABLE a)

def Dev.homeInputsOk (d : Dev) (a : Nat) : Bool :=
  let h := d.homeTable a
  match d.obn (K.AX_HOME_METHOD a) with
  | 1 => (d.obn (K.H_LIM_NEG h)).testBit 15
  | 2 => (d.obn (K.H_LIM_POS h)).testBit 15
  | 3 => (d.obn (K.H_HOME h)).testBit 15
  | 4 => (d.obn (K.H_HOME h)).testBit 15
  | 5 => (d.obn (K.H_HOME h)).testBit 15 && (d.obn (K.H_INDEX h)).testBit 7
  | 6 => (d.obn (K.H_HOME h)).testBit 15 && (d.obn (K.H_INDEX h)).testBit 7
  | 7 => (d.obn (K.H_INDEX h)).testBit 7
  | _ => true

/-- Does the mode allow a command (R466)? -/
def Dev.opInMode (d : Dev) (op : Nat) : Bool :=
  let always := [1, 2, 7, 10, 13, 14].contains op
  match d.mode with
  | 2 => always || op == 6
  | 7 => always
  | _ => true

/-- Is a target outside the soft limits of a linear axis that has them (R474)? -/
def Dev.softBroken (d : Dev) (a : Nat) (t : Int) : Bool :=
  d.obb (K.AX_SOFT_EN a) && d.modLen a == 0 && (decide (t < d.ob (K.AX_SOFT_MIN a)) || decide (d.ob (K.AX_SOFT_MAX a) < t))

/-- The RANGE checks of a command (R466). `w` lists words 1 to 7. -/
def Dev.cmdRange (d : Dev) (a op : Nat) (w : List Nat) : Bool :=
  let v48 := fun i => sext 48 (w.getD i 0 * 2 ^ 24 + w.getD (i + 1) 0)
  let vmax := d.ob (K.AX_VMAX a)
  match op with
  | 3 => decide (v48 3 < 0) || decide (vmax < v48 3) || d.softBroken a (v48 1)
  | 4 => decide (v48 3 < 0) || decide (vmax < v48 3) || d.softBroken a (d.setPoint a (d.axis a) + v48 1)
  | 5 => decide (vmax < (v48 1).natAbs)
  | 6 => decide (vmax < (v48 1).natAbs)
  | 8 => w.getD 2 0 == 0 || d.obn (K.AX_STANDSTILL a) == 1 || d.obn (K.AX_STANDSTILL a) == 2 || !d.gearRuleOk a
  | 9 =>
    let l := match d.masterOf a with
      | some m => d.obn (K.M_MODULO m)
      | none => 0
    bits (w.getD 6 0) 1 0 == 3 || w.getD 4 0 == 0 || (l != 0 && decide (l ≤ w.getD 1 0 * 2 ^ 24 + w.getD 2 0))
  | 12 => d.obn (K.AX_HOME_METHOD a) != 0 && !d.homeInputsOk a
  | _ => op == 0 || decide (14 < op)

/-- Does RESET_FAULT's cause hold it back (R482)? -/
def Dev.causeHolds (d : Dev) (a : Nat) : Bool :=
  match (d.axis a).fault with
  | 4 => match d.masterOf a with
    | some m => d.obn (K.M_STATE m) == 1
    | none => false
  | 5 => let e := d.entry (d.obn (K.AX_SIG a) + 3); d.obb (K.AX_FE_EN a) && (!e.valid || e.stale)
  | 7 => true
  | _ => false

/-- Is a command accepted in the state that the commands before it give (R466, R459)? -/
def Dev.cmdAccepts (d : Dev) (a op : Nat) : Bool :=
  let x := d.axis a
  let s := x.cmds.foldl stateAfter x.state
  match op with
  | 1 => true
  | 2 => s == 0 || s == 1 || s == 7
  | 3 => s == 1 || s == 2
  | 4 => s == 1 || s == 2
  | 5 => s == 1 || s == 2
  | 6 => s == 1 || s == 2
  | 7 => true
  | 8 => s == 1 && (d.masterOf a).isSome
  | 9 => s == 3 && decide (x.steps.length + (x.cmds.filter fun c => c.op == 9).length < 16) && decide (d.poolDue < d.poolFree)
  | 10 => true
  | 11 => s == 3 && x.state == 3 && decide (x.rEff x.x = 0) && !x.blending
  | 12 => s == 1 && d.obn (K.AX_HOME_METHOD a) != 0
  | 13 => s == 1
  | 14 => s == 7 && !d.causeHolds a
  | _ => false

/-- Decide a command on an axis: accepted, it waits for the axis's next update (R459, R466). `w` lists words 1 to 7. A JOG received while one runs puts the
end of the jog off (R472). -/
def Dev.axCommand (d : Dev) (a op : Nat) (w : List Nat) : Dev × Nat :=
  if !d.obb (K.AX_USE a) then (d, Stat.noKey)
  else
    let lost := d.recLost a
    let d := d.iff lost fun d => (d.lostRecord a (d.groupNow a)).syncAxis a true
    if lost && (d.axis a).state == 0 then (d, Stat.internal)
    else if !d.opInMode op then (d, Stat.mode)
    else if d.cmdRange a op w then (d, Stat.range)
    else if !d.cmdAccepts a op then (d, Stat.busy)
    else ((d.event).modAxis a fun x =>
      { x with cmds := x.cmds ++ [⟨op, w, d.now⟩], jogEnds := if op = 6 && x.jogEnds.isSome then some (d.now + d.obn K.JOG_TIMEOUT * 1000000) else x.jogEnds }, Stat.done)

/-- Is the axis released: at rest under policy 1 or 2 (R481)? -/
def Dev.released (d : Dev) (a : Nat) : Bool := (d.axis a).rested && [1, 2].contains (d.obn (K.AX_STANDSTILL a))

/-- A command starts motion at an instant: a released axis has CTRL restored at once and starts WAKE_MS later (R481). -/
def Dev.unrest (d : Dev) (a t : Nat) : Dev × Nat :=
  if d.released a then (d.modAxis a fun x => { x with rested := false, restAt := none }, t + d.obn (K.AX_WAKE_MS a) * 1000000) else (d, t)

/-- A motion starts on an axis. -/
def Dev.launch (d : Dev) (a t : Nat) (w : Want) : Dev := let (d, t) := d.unrest a t; d.begin_ a t w

/-- An accepted command takes effect at an update; one whose state has gone meanwhile does nothing. -/
def Dev.takeCmd (d : Dev) (a t : Nat) (c : AxCmd) : Dev :=
  let x := d.axis a
  let w := c.words
  let v48 := fun i => sext 48 (w.getD i 0 * 2 ^ 24 + w.getD (i + 1) 0)
  let vl := fun i => if v48 i = 0 then (d.limitsOf a).vmax else mkRat (v48 i) 65536
  let moves := x.state == 1 || x.state == 2
  let note := fun (d : Dev) => d.modAxis a fun x => { x with tag := w.getD 0 0 }
  let go := fun (d : Dev) (prof : Nat) (tgt : Int) (want : Want) =>
    (d.modAxis a fun x => { x with state := 2, profile := prof, target := tgt, jogEnds := none }).launch a t want
  match c.op with
  | 1 => if x.state = 0 then d.modAxis a fun x => { x with state := 1, profile := 0, fault := 0 } else d
  | 2 => if x.state = 0 || x.state = 1 || x.state = 7 then d.modAxis a fun x => { x with state := 0, profile := 0, plan := none, nextMove := none } else d
  | 3 => if moves then go (note d) 1 (v48 1) (.target (v48 1) (vl 3) false) else d
  | 4 => if moves then let p := d.setPoint a x + v48 1; go (note d) 1 p (.target p (vl 3) true) else d
  | 5 => if moves then go (note d) 2 x.target (.speed (mkRat (v48 1) 65536) (d.limitsOf a).dmax) else d
  | 6 => if moves then
      (go (note d) 3 x.target (.speed (mkRat (v48 1) 65536) (d.limitsOf a).dmax)).modAxis a fun x =>
        { x with jogEnds := some (c.at_ + d.obn K.JOG_TIMEOUT * 1000000) }
    else d
  | 7 => if x.state = 2 || x.state = 3 || x.state = 4 then ((note d).stopAxis a t) else d
  | 8 => if x.state = 1 then
      (note d).modAxis a fun x =>
        { x with state := 3, profile := 4, plan := none, nextMove := none, acc := 0, pref := roundTo 24 x.pos, r0 := 0, r1 := mkRat (sext 24 (w.getD 1 0)) (w.getD 2 0),
                 ratio := [w.getD 1 0, w.getD 2 0, 0, 1], blend := w.getD 3 0, x := 0, fresh := true }
    else d
  | 9 => if x.state = 3 then d.queueStep a w else d
  | 10 => d.dropSteps a
  | 11 => if x.state = 3 && x.rEff x.x = 0 && !x.blending then d.modAxis a fun x => { x with state := 1, profile := 0, vel := 0, acc := 0 } else d
  | 12 => if x.state = 1 then
      let (d, start) := (note d).unrest a t
      d.modAxis a fun x => { x with state := 4, profile := 5, homeResult := 0, plan := none, homing := { startAt := start, phaseAt := d.now, winAt := d.now } }
    else d
  | 13 => if x.state = 1 then d.modAxis a fun x => { x with pos := ratMod (v48 1) (d.modLen a), homed := false, plan := none } else d
  | 14 => if x.state = 7 then d.modAxis a fun x => { x with state := 1, fault := 0, profile := 0, plan := none } else d
  | _ => d

/-! ### Masters (R463, R464) -/

/-- A master's position before M_MODULO, and whether its source is faulted. -/
def Dev.masterRaw (d : Dev) (m : Nat) : Int × Bool :=
  let src := d.obn (K.M_SOURCE m)
  match d.obn (K.M_KIND m) with
  | 1 => (d.ob (K.P_ENC_COUNT src), !(d.portMode src == 6 && d.portUp src))
  | 2 => let e := d.entry src; (sext 48 e.value, !e.valid || e.stale)
  | 3 =>
    let x := mget d.motion.masters m {}
    (ratNear (x.velPos + mkRat (d.ob (K.M_VEL m)) 65536 * mkRat (d.now - x.velAt : Nat) 1000000000), false)
  | 4 => let x := d.axis src; (d.setPoint src x, x.state == 6 || x.state == 7)
  | _ => (0, false)

/-- Sample a master for a group: its travel, and the axes geared to it fault at its first faulted sample (R464). The fault of a modulo master looks at the
source's own travel, a modulo axis's laps taken out (DESIGN CHOICE, log entry 61); a VIRTUAL master never faults. -/
def Dev.sampleMaster (d : Dev) (g m t : Nat) : Dev × Int :=
  let (raw, bad) := d.masterRaw m
  let l := d.obn (K.M_MODULO m)
  let was := mget? (mget d.motion.masters m {}).prev g
  let diff := match was with
    | some p => wrapHalf (sext 48 (wrapN 48 (raw - p))) (if d.obn (K.M_KIND m) = 4 then d.modLen (d.obn (K.M_SOURCE m)) else 0)
    | none => 0
  let bad := bad || (l != 0 && d.obn (K.M_KIND m) != 3 && decide (l ≤ 2 * diff.natAbs))
  let dm := if bad then 0 else wrapHalf diff l
  let d := d.modMotion fun mo => { mo with masters := mmod mo.masters m {} fun x => { x with prev := mput x.prev g raw } }
  let d := d.setOb (K.M_POS m) (if l = 0 then raw else raw % (l : Int))
  let d := d.setOb (K.M_VEL_EST m) (ratNear (mkRat (dm * 1000000000) (d.periodNs g) * 65536))
  if bad && d.obn (K.M_STATE m) == 0 then
    let d := ((d.setOb (K.M_STATE m) 1).bump (K.M_FAULTS m)).logE 0xC001 m
    (d.each (d.axesInUse.filter fun a => (d.axis a).state == 3 && d.masterOf a == some m) fun d a =>
      if d.groupOf a = g then d.faultAxis a 4 t else (d.faultAxis a 4 (d.groupNow a)).syncAxis a (d.recLost a), 0)
  else if !bad && d.obn (K.M_STATE m) == 1 then (d.setOb (K.M_STATE m) 0, dm)
  else (d, dm)

/-! ### Homing (R483 to R486) -/

/-- The level of a table input, VALID and INVERT applied. -/
def Dev.homeLevel (d : Dev) (field : Nat) : Bool :=
  field.testBit 15 && ((d.inputWord (bits field 13 7) 0).testBit (bits field 2 0) != field.testBit 14)

/-- Is the limit in the direction of a velocity active? -/
def Dev.limitAhead (d : Dev) (a : Nat) (v : Rat) : Bool :=
  let h := d.homeTable a
  (0 < v && d.homeLevel (d.obn (K.H_LIM_POS h))) || (v < 0 && d.homeLevel (d.obn (K.H_LIM_NEG h)))

/-- The direction of a method's search. -/
def searchDir (m : Nat) : Rat := if m = 1 || m = 4 || m = 6 then -1 else 1

/-- The input field whose edge is the home edge, 0 for the methods without one. -/
def Dev.homeField (d : Dev) (a : Nat) : Nat :=
  let h := d.homeTable a
  match d.obn (K.AX_HOME_METHOD a) with
  | 1 => d.obn (K.H_LIM_NEG h)
  | 2 => d.obn (K.H_LIM_POS h)
  | 7 => 0
  | 8 => 0
  | _ => d.obn (K.H_HOME h)

/-- The latch of the index port: count and time. -/
def Dev.indexLatch (d : Dev) (a : Nat) : Nat × Nat :=
  let p := bits (d.obn (K.H_INDEX (d.homeTable a))) 6 0
  (wrapN 48 (d.ob (K.P_ENC_INDEX p)), d.obn (K.P_ENC_INDEX_TIME p))

def Dev.edgesOf (d : Dev) (field : Nat) : Nat := d.obn (K.P_EDGE_COUNT (bits field 13 7) (bits field 2 0))

/-- The velocity that a phase runs at; 0 where it only waits for rest. -/
def Dev.phaseSpeed (d : Dev) (a : Nat) (x : Axis) : Rat :=
  let m := d.obn (K.AX_HOME_METHOD a)
  let s := searchDir m
  let h := d.homeTable a
  let vs := mkRat (d.ob (K.AX_V_SEARCH a)) 65536
  let vc := mkRat (d.ob (K.AX_V_CREEP a)) 65536
  match x.homing.phase with
  | 0 => if d.homeLevel (d.obn (K.H_LIM_NEG h)) then vc else if d.homeLevel (d.obn (K.H_LIM_POS h)) then -vc else -(s * vc)
  | 1 => s * vs
  | 2 => -(s * vc)
  | 3 => s * vc
  | 4 => s * vc
  | 6 => -(s * vs)
  | _ => 0

/-- A homing motion to a velocity under a deceleration and jerk j. Under JMAX it waits until the acceleration of the running plan is 0, as a new target
does (R471, R484; log entry 18, DEDUCED). -/
def Dev.homeMove (d : Dev) (a t : Nat) (v dec j : Rat) : Dev :=
  d.modAxis a fun x =>
    if j ≠ 0 && x.plan.isSome && x.acc ≠ 0 then { x with nextMove := some (.speed v dec) }
    else { x with nextMove := none, plan := some ((d.limitsOf a).toSpeed x.pos x.vel v dec j t) }

/-- Start a homing phase: its motion, the chatter windows and the stuck timer begin anew. -/
def Dev.homePhase (d : Dev) (a t ph : Nat) : Dev :=
  let h := (d.axis a).homing
  let h := { h with phase := ph, braking := false, quick := false, seen := false, phaseAt := d.now, winAt := d.now, chatter := 0, lastCount := d.edgesOf (d.homeField a) }
  let d := d.modAxis a fun x => { x with homing := { h with idx := d.indexLatch a } }
  let x := d.axis a
  let c := d.limitsOf a
  d.homeMove a t (d.phaseSpeed a x) c.dmax c.jmax

/-- Brake to rest with a deceleration, then go on with a phase. -/
def Dev.homeBrake (d : Dev) (a t ph : Nat) (dec j : Rat) (quick : Bool := false) : Dev :=
  (d.modAxis a fun x => { x with homing := { x.homing with phase := ph, braking := true, quick := quick } }).homeMove a t 0 dec j

/-- Homing ends without a home, after braking with a deceleration. -/
def Dev.homeFail (d : Dev) (a t res : Nat) (dec j : Rat) (quick : Bool := false) : Dev :=
  ((d.homeEnds a res).modAxis a fun x => { x with homing := { x.homing with ended := true, braking := true, quick := quick } }).homeMove a t 0 dec j

/-- Take the home edge at a set-point: brake to the final rest. -/
def Dev.homeLatch (d : Dev) (a t : Nat) (p : Rat) : Dev :=
  (d.homeBrake a t 5 (d.limitsOf a).dstop (d.limitsOf a).jmax).modAxis a fun x => { x with homing := { x.homing with latch := some p } }

/-- Which phase follows the move-off (R484, R485). -/
def firstPhase (m : Nat) : Nat := if m = 7 then 4 else if m = 8 then 5 else 1

/-- Is an input that the method must first move off still active? -/
def Dev.offNeeded (d : Dev) (a : Nat) : Bool :=
  let h := d.homeTable a
  let m := d.obn (K.AX_HOME_METHOD a)
  m != 8 && (d.homeLevel (d.obn (K.H_LIM_NEG h)) || d.homeLevel (d.obn (K.H_LIM_POS h)) ||
    (decide (3 ≤ m) && decide (m ≤ 6) && d.homeLevel (d.obn (K.H_HOME h))))

/-- The set-point at the time of an axis's index edge, between those of the last update and of this one, the short way round on a modulo axis (R486). The
edge's time has its phase inside the tick (R421). -/
def Dev.indexPos (d : Dev) (a g : Nat) (p0 p1 : Int) : Rat :=
  let at_ := (d.indexLatch a).2
  let ago := mkRat (8 * (d.now - at_ : Nat) - (Config.subTick (bits (d.obn (K.H_INDEX (d.homeTable a))) 6 0) at_).toNat) (8 * d.periodNs g)
  let ago : Rat := if 1 < ago then 1 else ago
  p1 - wrapHalf (p1 - p0) (d.modLen a) * ago

/-- The success of homing: the frame shifts so that the latch reads HOME_OFFSET (R486). -/
def Dev.homeDone (d : Dev) (a : Nat) : Dev :=
  let x := d.axis a
  let shift : Rat := (d.ob (K.AX_HOME_OFFSET a) : Rat) - x.homing.latch.getD x.pos
  (d.modAxis a fun x => { x with state := 1, profile := 0, homed := true, homeResult := 1, plan := none, pos := ratMod (roundTo 24 (x.pos + shift)) (d.modLen a),
                                 notes := x.notes ++ [(0xC3, x.tag, none)] }).logSec 0xA002 a

/-- Count the edges of the home input in the windows of the phase (R485). An EDGE_CLEAR sets the port's counter back to 0. -/
def Dev.homeEdges (d : Dev) (a : Nat) : Dev :=
  let h := (d.axis a).homing
  let cnt := d.edgesOf (d.homeField a)
  let fresh := if cnt < h.lastCount then cnt else cnt - h.lastCount
  let win := d.obn (K.H_CHATTER_W (d.homeTable a)) * 1000000
  let n := if h.winAt + win ≤ d.now then fresh else h.chatter + fresh
  d.modAxis a fun x => { x with homing := { x.homing with lastCount := cnt, chatter := n, winAt := h.winAt + (d.now - h.winAt) / win * win } }

/-- One step of homing after the axis has been moved to S_k: `p0` is the set-point of the update before (R484, R485). -/
def Dev.homeStep (d : Dev) (a g t : Nat) (p0 : Int) (atRest : Bool) : Dev :=
  let d := d.iff ((d.axis a).plan.isSome && !(d.axis a).homing.ended) fun d => d.homeEdges a
  let x := d.axis a
  let h := x.homing
  let m := d.obn (K.AX_HOME_METHOD a)
  let c := d.limitsOf a
  let home := d.homeLevel (d.obn (K.H_HOME (d.homeTable a)))
  let lim := d.homeLevel (d.homeField a)
  if h.ended then (if atRest then d.modAxis a fun x => { x with state := 1, profile := 0, plan := none } else d)
  else if x.plan.isNone then
    (if t < h.startAt then d
     else if m = 8 then (d.modAxis a fun x => { x with homing := { x.homing with latch := some x.pos } }).homeDone a
     else if d.offNeeded a then d.homePhase a t 0 else d.homePhase a t (firstPhase m))
  else if d.homeField a != 0 && decide (d.obn (K.H_CHATTER_N (d.homeTable a)) < h.chatter) then d.homeFail a t 3 c.dstop c.jmax
  else if h.braking then
    (if atRest then (if h.phase = 5 then d.homeDone a else d.homePhase a t h.phase)
     else if d.limitAhead a x.vel && !h.quick && !((m == 1 || m == 2) && decide (0 < x.vel * searchDir m)) then d.homeFail a t 2 c.dfault 0 true
     else d)
  else if d.limitAhead a x.vel && !(h.phase == 1 && (m == 1 || m == 2) && decide (0 < x.vel * searchDir m)) then
    (if 3 ≤ m && m ≤ 7 && (h.phase == 1 || (h.phase == 4 && m == 7)) && decide (0 < x.vel * searchDir m) then d.homeBrake a t 6 c.dfault 0 true
     else d.homeFail a t 2 c.dfault 0 true)
  else
    let here := d.setPoint a x
    let late := decide (h.phaseAt + d.obn (K.H_STUCK_MS (d.homeTable a)) * 1000000 < d.now)
    match h.phase with
    | 0 => if !d.offNeeded a then d.homeBrake a t (firstPhase m) c.dmax c.jmax else if late then d.homeFail a t 4 c.dstop c.jmax else d
    | 1 => if lim then d.homeBrake a t 2 c.dmax c.jmax else d
    | 2 =>
      if lim then (if late then d.homeFail a t 4 c.dstop c.jmax else d)
      else if m = 1 || m = 2 then d.homeLatch a t here else d.homeBrake a t 3 c.dmax c.jmax
    | 3 => if !lim then d else if m = 3 || m = 4 then d.homeLatch a t here else d.homePhase a t 4
    | 4 => if d.indexLatch a != h.idx then d.homeLatch a t (d.indexPos a g p0 here) else d
    | 6 =>
      if m = 7 then (if d.indexLatch a != h.idx then d.homeBrake a t 4 c.dmax c.jmax else d)
      else if home then d.modAxis a fun x => { x with homing := { x.homing with seen := true } }
      else if h.seen then d.homeBrake a t 3 c.dmax c.jmax else d
    | _ => d

/-! ### The axis update (R458, R461, R474, R480, R481) -/

/-- Move the axis along its plan to S_k, replanning where a held target may start (R471). -/
def Dev.runPlan (d : Dev) (a t : Nat) : Dev :=
  let x := d.axis a
  match x.plan with
  | none => d.modAxis a fun x => { x with vel := 0, acc := 0 }
  | some pl =>
    let z := pl.zeroAt (x.posAt : Rat)
    let (pl, held) := match x.nextMove with
      | some w => if z ≤ (t : Rat) then (d.plan a (pl.eval z).1 (pl.eval z).2.1 z w, none) else (pl, some w)
      | none => (pl, none)
    let (p, v, ac, _) := pl.eval t
    d.modAxis a fun x => { x with plan := some pl, nextMove := held, acc := ac, pos := ratMod (roundTo 24 p) (d.modLen a), vel := roundTo 16 v }

/-- The checks on limits ahead (R474). -/
def Dev.checkAhead (d : Dev) (a g t : Nat) : Dev :=
  let x := d.axis a
  let v := x.vel
  let per := mkRat (d.periodNs g) 1000000000
  let stop := x.pos + v * per + (if 0 < v then v * v else -(v * v)) / (2 * (d.limitsOf a).dmax)
  if v = 0 then d
  else if d.obb (K.AX_SOFT_EN a) && d.modLen a == 0 &&
      ((0 < v && decide ((d.ob (K.AX_SOFT_MAX a) : Rat) < stop)) || (v < 0 && decide (stop < (d.ob (K.AX_SOFT_MIN a) : Rat)))) then d.faultAxis a 1 t
  else if x.state != 4 && d.limitAhead a v then d.faultAxis a 2 t
  else d

/-- The following error (R480). -/
def Dev.checkFollow (d : Dev) (a t : Nat) : Dev :=
  let x := d.axis a
  if !d.obb (K.AX_FE_EN a) || x.state = 0 || x.state = 7 then d.modAxis a fun x => { x with feCount := 0, fbCount := 0 } else
  let e := d.entry (d.obn (K.AX_SIG a) + 3)
  let n := d.obn (K.AX_FE_TIME a)
  if !e.valid || e.stale then
    let d := d.modAxis a fun x => { x with fbCount := x.fbCount + 1, feCount := 0 }
    if n ≤ x.fbCount + 1 then d.faultAxis a 5 t else d
  else
    let fe := wrapHalf (x.prevPos - sext 48 e.value) (d.modLen a)
    let k := if d.obn (K.AX_FE_LIMIT a) < fe.natAbs then x.feCount + 1 else 0
    let d := d.modAxis a fun x => { x with fe := fe, feCount := k, fbCount := 0 }
    if n ≤ k then d.faultAxis a 3 t else d

/-- The control word (R461, R481). -/
def Dev.ctrlWord (d : Dev) (a : Nat) (x : Axis) : Nat :=
  let pol := d.obn (K.AX_STANDSTILL a)
  let (cur, short, red, en) :=
    if x.state = 0 then (0, false, false, false)
    else if x.rested && pol = 0 then (d.obn (K.AX_REDUCE_PCT a), false, true, true)
    else if x.rested && pol = 1 then (0, false, false, false)
    else if x.rested && pol = 2 then (0, true, false, false)
    else (100, false, false, true)
  cur * 256 + b2n (x.state == 6 || (x.state == 4 && x.homing.quick)) * 64 + b2n x.atRest * 32 + b2n x.homed * 16 + b2n (x.state == 6 || x.state == 7) * 8 +
    b2n short * 4 + b2n red * 2 + b2n en

/-- AT_REST and the standstill policy (R461, R481); a plan that still waits for WAKE_MS keeps the policy off. -/
def Dev.restStep (d : Dev) (a t : Nat) : Dev :=
  let x := d.axis a
  let zero := x.velWord == 0
  let rest := zero && x.zeroOnce
  let waking := match x.plan with
    | some pl => x.state == 2 && decide ((t : Rat) < pl.t)
    | none => x.state == 4 && decide (t < x.homing.startAt)
  let since := if rest && !waking then (match x.restAt with
    | some s => some s
    | none => some d.now) else none
  let held := match since with
    | some s => x.state != 0 && decide (s + d.obn (K.AX_REST_MS a) * 1000000 ≤ d.now)
    | none => false
  let x := { x with atRest := rest, zeroOnce := zero, restAt := since, rested := held }
  d.modAxis a fun _ => { x with ctrl := d.ctrlWord a x }

/-- One record of a report (R468). A fault's own event leaves the axis in FAULT_STOP, even where the same update ends the stop. -/
def Dev.noteWords (d : Dev) (a code tag status seq time : Nat) : List Nat :=
  let x := d.axis a
  [code * 65536 + a, tag, status * 65536 + x.fault * 4096 + x.homeResult * 256 + (if code = 0xC4 then 6 else x.state) * 16, seq] ++ pairOf (d.setPoint a x) ++ pairOf time

/-- Commit the axis's set-points as one event, and collect its notifications (R458, R462, R468). -/
def Dev.commitAxis (d : Dev) (a g t : Nat) : Dev × List (List Nat) :=
  let d := d.event
  let x := d.axis a
  let sig := d.obn (K.AX_SIG a)
  let tb := d.obn (K.GRP_TB g)
  let put := fun (d : Dev) n (v : Int) => d.update .profile none 121 g n (wrapN 48 v) fun b => if b = tb then t else d.tbNs b - (d.tbNs tb - t)
  let seq := d.seq
  let d := put (put (put d sig (d.setPoint a x)) (sig + 1) x.velWord) (sig + 2) x.ctrl
  let notes := x.notes.map fun n => d.noteWords a n.1 n.2.1 0 seq (n.2.2.getD t)
  (d.modAxis a fun x => { x with notes := [], prevPos := d.setPoint a x, posAt := t }, notes)

/-- The geared part of an update (R475 to R477). -/
def Dev.gearStep (d : Dev) (a g m t : Nat) (dm : Int) : Dev :=
  let x := d.axis a
  let per := d.periodNs g
  let l := d.obn (K.M_MODULO m)
  let dm := if x.fresh then 0 else dm
  let here := d.ob (K.M_POS m)
  let c := if l = 0 then here - dm else (here - dm) % (l : Int)
  let (y, hits) := walkSteps l dm (t - per) per 17 { x with fresh := false, steps := x.steps.map d.stepNow } c dm []
  let vel := roundTo 16 (y.rEff y.x * mkRat (dm * 1000000000) per)
  let d := d.freeSteps (hits.map (·.step))
  let d := d.modAxis a fun _ => { y with pos := ratMod (roundTo 24 (y.pref + y.slave y.x)) (d.modLen a), posAt := t, vel := vel, acc := 0,
                                         notes := y.notes ++ hits.map fun h => (0xC2, h.step.tag, some h.at_) }
  d.bumpBy (K.AX_STEPS_TAKEN a) hits.length

/-- One axis's update at S_k = t; `travel` lists the travel of the masters sampled so far (R458). An axis that a command takes out of GEARED follows its master
to S_k first, and brakes from there (R478). -/
def Dev.updateAxis (d : Dev) (a g t : Nat) (travel : List (Nat × Int)) : Dev × List (List Nat) :=
  let lost := d.recLost a
  let d := d.iff lost fun d => d.lostRecord a t
  let cmds := (d.axis a).cmds
  let d := d.modAxis a fun x => { x with cmds := [] }
  let late := match d.motion.limpAt with
    | some s => d.mode == 7 && decide (s + 2000000000 ≤ d.now)
    | none => false
  let d := d.iff (late && !d.axisRests a) fun d => d.faultAxis a 6 t
  let p0 := (d.axis a).prevPos
  let follow := fun d : Dev => match d.masterOf a with
    | some m => d.gearStep a g m t ((travel.find? fun e => e.1 == m).map (·.2) |>.getD 0)
    | none => d
  let leaves := (d.axis a).state == 3 && cmds.foldl stateAfter 3 != 3
  let d := if (d.axis a).state = 3 then d.iff leaves follow else d.runPlan a t
  let d := cmds.foldl (fun d c => d.takeCmd a t c) d
  let d := d.iff ((d.axis a).state == 3 && !leaves) follow
  let x := d.axis a
  let expired := match x.jogEnds with
    | some e => x.state == 2 && decide (e < d.now)
    | none => false
  let d := d.iff expired fun d => d.stopAxis a t
  let done := match (d.axis a).plan with
    | some pl => (pl.eval t).2.2.2
    | none => false
  let x := d.axis a
  let d := if done && x.nextMove.isNone && x.state = 2 && x.profile = 1 then
      d.modAxis a fun x => { x with state := 1, profile := 0, plan := none, notes := x.notes ++ [(0xC1, x.tag, none)] }
    else if done && x.nextMove.isNone && x.state = 5 then
      d.modAxis a fun x => { x with state := 1, profile := 0, plan := none, vel := 0, notes := x.notes ++ [(0xC1, x.tag, none)] }
    else if done && x.state = 6 then d.modAxis a fun x => { x with state := 7, profile := 0, plan := none, vel := 0 }
    else if x.state = 4 then d.homeStep a g t p0 (done && x.nextMove.isNone)
    else d
  let d := ((d.checkAhead a g t).checkFollow a t).restStep a t
  let (d, notes) := d.commitAxis a g t
  (d.syncAxis a lost, notes)

/-- Send records into the fabric from port 39 (R467, R468). A frame holds at most 83 records, the 2,000 bytes of R344: more go in several frames, in order
(DESIGN CHOICE, log entry 61). -/
def Dev.motionSend (d : Dev) (dest : Nat) (recs : List (List Nat)) : Dev :=
  let e : Env := { dest := dest, cls := d.obn K.REPORT_CLASS % 8, src := 121 }
  d.each (List.range ((recs.length + 82) / 83)) fun d i =>
    let data := bytesOf ((recs.drop (83 * i)).take 83).flatten
    d.sendFrame e (data ++ List.replicate (24 * ((64 - data.length + 23) / 24)) 0) false 0

/-! ### The group update (R456, R458) -/

/-- Sample the masters that the group's axes use, of the kinds wanted. -/
def Dev.sampleAll (d : Dev) (g t : Nat) (axisKind : Bool) : Dev × List (Nat × Int) :=
  let used := (List.range 16).filter fun m => (d.obn (K.M_KIND m) == 4) == axisKind && (d.groupAxes g).any fun a => d.masterOf a == some m
  used.foldl (fun (x : Dev × List (Nat × Int)) m => let (d, v) := x.1.sampleMaster g m t; (d, x.2 ++ [(m, v)])) (d, [])

/-- The order of a group's updates: axes that serve as AXIS masters first (R458). -/
def Dev.updateOrder (d : Dev) (g : Nat) : List Nat × List Nat :=
  (d.groupAxes g).partition d.servesAsMaster

/-- How far a group's next update is from its deadline, in ns, once it is due: the deadline of update k is the next sample instant (R458). -/
def Dev.groupDue (d : Dev) (g : Nat) : Option Int :=
  let k := (mget d.motion.groups g {}).next
  let now := d.tbNs (d.obn (K.GRP_TB g))
  if d.obb (K.GRP_EN g) && decide (d.sampleAt g k ≤ now) then some ((d.sampleAt g (k + 1) : Int) - now) else none

/-- The next update of a group: `reached` axes when the load exceeds the capacity, else all. It starts at the first axis that the update before it did not
reach and wraps, the AXIS masters among them still before the others, whose samples need them (R458, R463; log entry 17, DEDUCED). -/
def Dev.groupRun (d : Dev) (g reached : Nat) : Dev :=
  let gr := mget d.motion.groups g {}
  let t := d.sampleAt g gr.next
  let d := d.upToOn (d.obn (K.GRP_TB g)) t
  let (first, rest) := d.updateOrder g
  let all := first ++ rest
  let tooMuch := decide (d.motionCap < d.motionLoad) && decide (reached < all.length)
  let turned := all.drop (gr.resume % max all.length 1) ++ all.take (gr.resume % max all.length 1)
  let order := if tooMuch then turned.take reached else turned
  let skipped := if tooMuch then all.length - reached else 0
  let (d, tr) := d.sampleAll g t false
  let upd := fun (tr : List (Nat × Int)) (x : Dev × List (List Nat)) a => let (d, n) := x.1.updateAxis a g t tr; (d, x.2 ++ n)
  let (d, n1) := (order.filter fun a => first.contains a).foldl (upd tr) (d, [])
  let (d, tr2) := d.sampleAll g t true
  let (d, n2) := (order.filter fun a => !first.contains a).foldl (upd (tr ++ tr2)) (d, n1)
  let d := d.modMotion fun m => { m with groups := mput m.groups g ⟨gr.next + 1, if tooMuch then (gr.resume + reached) % max all.length 1 else 0⟩ }
  let d := d.iff (skipped != 0) fun d => (d.bumpBy (K.GRP_SKIPS g) skipped).logSec 0xC003 g
  let d := d.iff (!n2.isEmpty && d.obn K.NOTIFY_DEST != 0xFF) fun d => d.motionSend (d.obn K.NOTIFY_DEST * 16) n2
  d.modMotion fun m => { m with allRest := d.allAtRest }

/-- Does group h's due update go before group g's: the earlier deadline first, equal ones to the lower group number (R458)? -/
def Dev.goesBefore (d : Dev) (h g : Nat) : Bool :=
  match d.groupDue h, d.groupDue g with
  | some x, some y => decide (x < y) || (x == y && decide (h < g))
  | _, _ => false

/-- The other groups whose due updates the unit serves before group g's, in order. -/
def Dev.groupsBefore (d : Dev) (g : Nat) : List Nat :=
  let l := [0, 1, 2, 3].filter fun h => d.goesBefore h g
  (List.range l.length).filterMap fun i => l.find? fun h => (l.countP fun q => d.goesBefore q h) == i

/-- The next update of group g, after those that the unit serves before it (R456, R458). -/
def Dev.groupUpdate (d : Dev) (g reached : Nat) : Dev :=
  if !d.domOn 3 || !d.obb (K.GRP_EN g) then d else
  let d := d.upToOn (d.obn (K.GRP_TB g)) (d.sampleAt g (mget d.motion.groups g {}).next)
  (d.each (d.groupsBefore g) fun d h => d.groupRun h (d.groupAxes h).length).groupRun g reached

/-- An enabled group starts: its next sample instant is the first not yet passed (R456). -/
def Dev.groupStart (d : Dev) (g : Nat) : Dev :=
  let now := d.tbNs (d.obn (K.GRP_TB g))
  let ph := d.obn (K.GRP_PHASE g) * 1000
  let k := (now - ph + d.periodNs g - 1) / d.periodNs g
  d.modMotion fun m => { m with groups := mput m.groups g ⟨k, 0⟩, masters := m.masters.map fun e => (e.1, { e.2 with prev := mdel e.2.prev g }) }

/-- A group is enabled. -/
def Dev.groupEnable (d : Dev) (g : Nat) : Dev := (d.setOb (K.GRP_EN g) 1).groupStart g

/-- What an axis reports, AX_STATE to AX_HOME_RESULT. -/
def isAxisReport (key : Nat) : Bool := decide (0xA00000 ≤ key) && decide (key < 0xB00000) && decide (0x20 ≤ key % 256) && decide (key % 256 ≤ 0x26)

/-- PD3 powers on: every record is built, DISABLED, unhomed and at 0 (R488); the words of those of axes not in use are built with their first AX_USE or
access (log entry 17). Groups that are enabled go on from their next sample instant (R456). -/
def Dev.motionPowerOn (d : Dev) : Dev :=
  let d := { d with motion := {}, od := d.od.filter fun e => !isAxisReport e.1 }
  d.each [0, 1, 2, 3] (fun d g => d.iff (d.obb (K.GRP_EN g)) fun d => d.groupStart g) |>.each d.axesInUse fun d a => d.buildAxis a 0

/-! ### Command frames (R467) -/

/-- The records of a frame. -/
def cmdRecords (data : List Byte) : List (List Nat) :=
  ((List.range (data.length / 24)).map fun i => wordsOf ((data.drop (24 * i)).take 24)).takeWhile fun w => w.getD 0 0 / 65536 != 0

/-- Decide one record, and answer its reply (R467, R468). -/
def Dev.cmdRecord (d : Dev) (w : List Nat) : Dev × List Nat :=
  let a := bits (w.getD 0 0) 11 0
  let op := w.getD 0 0 / 65536
  let (d, st) := d.axCommand a op (w.drop 1)
  (d, d.noteWords a ((0x80 + op) % 256) (w.getD 1 0) st (if st = 0 then d.seq else 0) (d.groupNow a))

/-- Take the next frame of fabric port 39. -/
def Dev.commandFrame (d : Dev) : Dev :=
  if !d.domOn 3 then d else
  match d.takeWhole 39 (fun _ => true) with
  | (d, none) => d
  | (d, some (q, f)) =>
    let src := f.env.src
    let ok := (decide (100 ≤ src) && decide (src < 120)) || src == 127
    if f.tail != some (false, 0) then d.bump (K.Q_BAD_TAIL q) else
    if !ok then (d.bump K.CMD_BAD).logSec 0xC002 0 else
    let (d, recs) := (cmdRecords f.data).foldl (fun (x : Dev × List (List Nat)) w => let (d, r) := x.1.cmdRecord w; (d, x.2 ++ [r])) (d, [])
    if recs.isEmpty then d else d.motionSend (if src = 127 then 36 * 16 else coreDest (src - 100)) recs

/-! ### Objects with an effect (R460, R473, R474, R488, R490) -/

/-- May AX_SIG start at a signal (R462)? -/
def Dev.sigStartOk (d : Dev) (n : Nat) : Bool :=
  decide (n + 3 ≤ 0xFFFFF) && [0, 1, 2].all fun i =>
    match d.regionOf (n + i) with
    | some r => d.obn (K.REG_OWNER r) == 0xFE || (d.obn (K.REG_RIGHTS r)).testBit 4
    | none => false

/-- Do the objects of an axis break a limit between them that a write of element el is refused for (R460, R473, R474, R489)? -/
def Dev.axCross (d : Dev) (a el : Nat) : Bool :=
  match el with
  | 5 => (d.ob (K.AX_REVERSAL a) == 0) != (d.modLen a == 0)
  | 8 => decide (d.ob (K.AX_D_FAULT a) < d.ob (K.AX_DMAX a))
  | 10 => decide (d.ob (K.AX_D_FAULT a) < d.ob (K.AX_D_STOP a))
  | 11 => decide (d.ob (K.AX_D_FAULT a) < d.ob (K.AX_DMAX a)) || decide (d.ob (K.AX_D_FAULT a) < d.ob (K.AX_D_STOP a))
  | 12 => d.modLen a != 0
  | 13 => decide (d.ob (K.AX_SOFT_MAX a) ≤ d.ob (K.AX_SOFT_MIN a))
  | 14 => decide (d.ob (K.AX_SOFT_MAX a) ≤ d.ob (K.AX_SOFT_MIN a))
  | _ => false

/-- The status of a write of element el of an axis. With `judged` false the limits between objects are left to WRITE_MULTI (R76). -/
def Dev.axParamStatus (d : Dev) (a el : Nat) (v : Int) (judged : Bool) : Nat :=
  let s := (d.axis a).state
  let range := (judged && (d.setOb (K.AX_USE a + el) v).axCross a el) || match el with
    | 0 => d.overloads (K.AX_USE a) v
    | 1 => d.overloads (K.AX_GROUP a) v
    | 2 => !d.sigStartOk v.toNat
    | 6 => decide (v ≤ 0)
    | 7 => decide (v ≤ 0)
    | 8 => decide (v ≤ 0)
    | 10 => decide (v ≤ 0)
    | 11 => decide (v ≤ 0)
    | 25 => decide (v ≤ 0)
    | 26 => decide (v ≤ 0)
    | _ => false
  let busy := ([0, 1, 2, 4].contains el && s != 0) || (el == 3 && s == 3) || (decide (22 ≤ el) && s == 4)
  if range then Stat.range else if busy then Stat.busy else Stat.done

/-- Write an axis object and its record words (R488). A new MOD_LEN brings the position into its range (R473). -/
def Dev.axParamWrite (d : Dev) (a el : Nat) (v : Int) (judged : Bool) : Dev × Nat :=
  let st := d.axParamStatus a el v judged
  if st ≠ 0 then (d, st) else
  let lost := d.recLost a
  let key := K.AX_USE a + el
  let d := d.event.setOb key v
  if el = 0 then (d.buildAxis a (d.setPoint a (d.axis a) : Int), Stat.done)
  else if lost then ((if d.obb (K.AX_USE a) then d.logSec 0xA004 a else d), Stat.done)
  else if el = 4 then ((d.modAxis a fun x => { x with pos := ratMod x.pos (d.modLen a) }).syncAxis a false, Stat.done)
  else (d.writeRec a, Stat.done)

/-- M_VEL: the VIRTUAL position goes on from where it stands (R463). -/
def Dev.mVelWrite (d : Dev) (m : Nat) (v : Int) : Dev :=
  let x := mget d.motion.masters m {}
  let here := x.velPos + mkRat (d.ob (K.M_VEL m)) 65536 * mkRat (d.now - x.velAt : Nat) 1000000000
  let d := d.event.setOb (K.M_VEL m) v
  d.modMotion fun mo => { mo with masters := mput mo.masters m { x with velAt := d.now, velPos := here } }

/-- Is an axis geared to a master (R490)? -/
def Dev.masterBusy (d : Dev) (m : Nat) : Bool := d.axesInUse.any fun a => (d.axis a).state == 3 && d.masterOf a == some m

/-- Entry to Hold: moving, geared and homing axes stop; waiting commands that Hold does not accept go (R469). -/
def Dev.holdAxes (d : Dev) : Dev :=
  d.each d.axesInUse fun d a =>
    let d := d.modAxis a fun x => { x with cmds := x.cmds.filter fun c => [1, 2, 7, 10, 13, 14].contains c.op }
    let s := (d.axis a).state
    if s = 2 || s = 3 || s = 4 then (d.stopAxis a (d.groupNow a)).syncAxis a (d.recLost a) else d

/-- The next jog deadline of an axis runs out (R472). -/
def Dev.jogTimeout (d : Dev) (a : Nat) : Dev :=
  match (d.axis a).jogEnds with
  | some e => if (d.axis a).state = 2 then let d := d.upTo (e + 1); (d.stopAxis a (d.groupNow a)).syncAxis a (d.recLost a) else d
  | none => d

end Sys2Proof.Machine
end

