-- ==== Sys2Proof/Machine/Bases.lean ====
section
/-! DEFINITION. The time-base unit's commands: writes, reserve pairs, alignment, PPS and control words (spec 15, R410 to R430, R563). -/
namespace Sys2Proof.Machine

/-! ### Schedules (R415) -/

/-- The schedules that run on a base. -/
def Dev.schedules (d : Dev) (n : Nat) : Nat :=
  let ctxs := d.ctxsBound.countP fun c => (d.ctxState c == 2 || d.ctxState c == 3) && d.ctxTb c == n
  let tpls := d.cellar.tpls.countP fun e => e.2.owner.live && bits (d.ld e.2.hdr) 16 14 == n
  let gcls := (List.range 4).foldl (fun a u =>
    if d.obn (K.UP_GCL_TB u) = n then a + b2n (d.up u).armed.isSome + b2n (d.up u).oper.isSome else a) 0
  let arms := (List.range 12).countP fun e => (d.engine e).armed && d.obn (K.ENG_ARM_BASE e) == n
  let groups := (List.range 4).countP fun g => d.obn (K.GRP_TB g) == n && d.obb (K.GRP_EN g)
  let segs := d.segs.countP fun e => d.segState e.1 != 0 && d.segTb e.1 == n
  let pps := (List.range 4).countP fun i => d.obb (K.PPS_OUT_EN i) && d.obn (K.PPS_OUT_TB i) == n
  ctxs + tpls + gcls + arms + groups + segs + pps

/-! ### Rate, offset, step and sync flag (R411 to R418, R426) -/

/-- The agents that name a base, by the settings as they stand (R563). -/
def Dev.disciplines (d : Dev) (n : Nat) : Nat :=
  b2n (d.obb K.AS_ENABLE && d.obn K.AS_TB == n) + ((List.range 4).countP fun i => d.obn (K.PPS_IN_DISC i) == n) +
    b2n (decide (d.obn (K.TB_DISC_CTX n) < 128))

/-- TB_INCR. -/
def Dev.tbIncr (d : Dev) (n v : Nat) : Dev × Nat :=
  if incrOk v then (d.event.modTb n fun b => { b with incr := v }, Stat.done) else (d, Stat.range)

/-- TB_OFFSET. -/
def Dev.tbOffset (d : Dev) (n : Nat) (ofs : Int) : Dev × Nat :=
  if d.offsetOk n ofs then (d.startSlew n ofs, Stat.done) else (d, Stat.range)

/-- TB_SET, with the value in ns. -/
def Dev.tbSet (d : Dev) (n ns : Nat) : Dev × Nat :=
  if (d.tb n).state = 0 && d.schedules n != 0 then (d, Stat.busy) else (d.stepTb n ns, Stat.done)

/-- A dictionary write of TB_INCR, TB_OFFSET, TB_SET or TB_SYNCED: T0's DENIED (R428) comes first, and RANGE before
the BUSY of R426 (R73). -/
def Dev.tbDict (d : Dev) (n : Nat) (f : Dev → Dev × Nat) : Dev × Nat :=
  if n = 0 then (d, Stat.denied)
  else if d.disciplines n != 0 then (d, if (f d).2 = Stat.range then Stat.range else Stat.busy)
  else f d

/-! ### Reserves (R417, R419, R420) -/

/-- Does a chain of reserves from m lead to n? -/
def Dev.chainTo (d : Dev) (n : Nat) : Nat → Nat → Bool
  | 0, _ => false
  | fuel + 1, m => if m = n then true else if m = 0 || 7 < m then false else d.chainTo n fuel (d.obn (K.TB_RESERVE m))

/-- TB_RESERVE. -/
def Dev.tbReserve (d : Dev) (n v : Nat) : Dev × Nat :=
  if n = 0 then (d, Stat.denied)
  else if 7 < v && v ≠ 0xFF then (d, Stat.range)
  else if v ≤ 7 && d.chainTo n 9 v then (d, Stat.range)
  else if (d.tb n).state = 1 || (d.tb n).state = 2 then (d, Stat.busy)
  else (((d.event.setOb (K.TB_RESERVE n) (v : Nat)).noteBases.watchReserves d), Stat.done)

/-- TB_SWITCH. -/
def Dev.tbSwitch (d : Dev) (n v : Nat) : Dev × Nat :=
  if n = 0 then (d, Stat.denied)
  else if v = 1 then
    if !d.reserveUsable n then (d, Stat.range)
    else if (d.tb n).state = 0 || (d.tb n).state = 3 then (d.event.tbToReserve n, Stat.done) else (d, Stat.busy)
  else if v = 2 then
    if (d.tb n).state = 1 || (d.tb n).state = 2 then (d.event.tbToOwn n, Stat.done) else (d, Stat.busy)
  else (d, Stat.range)

/-- The sync flag has been 1 for REVERT_HOLD (R419). -/
def Dev.revertHold (d : Dev) (n : Nat) : Dev :=
  let b := d.tb n
  if !d.obb (K.TB_REVERT n) || !b.synced || (b.state ≠ 1 && b.state ≠ 2) then d else
  (d.upTo (b.syncedAt + d.obn (K.TB_REVERT_HOLD n) * 1000000000)).tbToOwn n

/-- Ticks that close a difference at a step per tick. -/
def closeTicks (diff : Int) (s : Nat) : Nat := if s = 0 then 0 else (diff.natAbs + s - 1) / s

/-- The published value reaches the reserve's: ON_RESERVE. -/
def Dev.onReserve (d : Dev) (n : Nat) : Dev :=
  if (d.tb n).state ≠ 1 then d else
  let diff := (d.pubRaw (d.obn (K.TB_RESERVE n)) : Int) - (d.tb n).pub
  let k := closeTicks diff (d.slewStep n)
  let d := if k = 0 then d else d.advance k
  (d.tbState n 2 0x9003).watchReserves d

/-- The published value reaches the source: OWN. -/
def Dev.onOwn (d : Dev) (n : Nat) : Dev :=
  if (d.tb n).state ≠ 3 then d else
  let k := closeTicks ((d.tb n).src - (d.tb n).pub : Int) (d.slewStep n)
  (if k = 0 then d else d.advance k).tbState n 0 0x9005

/-- The loss timer expires. -/
def Dev.syncTimeout (d : Dev) (n : Nat) : Dev :=
  if !(d.tb n).synced then d else (d.upTo (d.tb n).syncEnds).syncLoss n

/-! ### Who disciplines (R563) -/

/-- The base that a write names, with its range check: none when it is out of range. -/
def discBase (which : Discipline) (v : Nat) : Option Nat :=
  match which with
  | .asEnable => if v ≤ 1 then some v else none
  | .asTb => if 1 ≤ v && v ≤ 7 then some v else none
  | .ppsInDisc _ => if (1 ≤ v && v ≤ 7) || v = 0xFF then some v else none
  | .tbDiscCtx _ => if v < 128 || v = 0xFF then some v else none

/-- Put the setting in place. -/
def Dev.discPut (d : Dev) (which : Discipline) (v : Nat) : Dev :=
  match which with
  | .asEnable => (d.setOb K.AS_ENABLE (v : Nat)).setOb K.AS_STATE (v : Nat)
  | .asTb => d.setOb K.AS_TB (v : Nat)
  | .ppsInDisc i => d.setOb (K.PPS_IN_DISC i.val) (v : Nat)
  | .tbDiscCtx n => d.setOb (K.TB_DISC_CTX n.val) (v : Nat)

/-- The base that a setting makes its agent name. -/
def Dev.discNames (d : Dev) (which : Discipline) (v : Nat) : Option Nat :=
  match which with
  | .asEnable => if v = 1 then some (d.obn K.AS_TB) else none
  | .asTb => if d.obb K.AS_ENABLE then some v else none
  | .ppsInDisc _ => if v ≤ 7 then some v else none
  | .tbDiscCtx n => if v < 128 then some n.val else none

/-- No base has two agents. -/
def Dev.discOk (d : Dev) : Bool := [1, 2, 3, 4, 5, 6, 7].all fun n => decide (d.disciplines n ≤ 1)

/-- A write that can name a disciplining agent; with `judged` false R563's check is left to WRITE_MULTI. -/
def Dev.discWrite (d : Dev) (which : Discipline) (v : Nat) (judged : Bool) : Dev × Nat :=
  match which, discBase which v with
  | .tbDiscCtx ⟨0, _⟩, _ => (d, Stat.denied)
  | _, none => (d, Stat.range)
  | w, some v =>
    let d' := d.event.discPut w v
    match d.discNames w v with
    | some n => if judged && 1 < d'.disciplines n then (d, Stat.busy) else (d', Stat.done)
    | none => (d', Stat.done)

/-! ### Tile alignment (R422) -/

/-- A tile's alignment check: the residual measured, in ps. A corrected residual is a free value within ±500 ps (log entry 6). -/
def Dev.tileAlign (d : Dev) (t : Nat) (ps : Int) : Dev :=
  if !d.tileRuns t then d else
  let d := d.upTo ((d.time.alignAt[t]?).getD 0)
  let d := { d with time := { d.time with alignAt := d.time.alignAt.set t (d.now + 1000000) } }
  if 1500 < ps.natAbs then
    let (v, d) := d.fresh 16
    ((d.setOb (K.TSA_TS_SKEW t) ((v % 1001 : Nat) - 500 : Int)).logE 0x9020 t).bump (K.TSA_TS_REALIGN t)
  else d.setOb (K.TSA_TS_SKEW t) ps

/-- The CRC errors that a running tile's link has met in the millisecond that ends: counted, and more than 16 lose the tile (R147, R153). -/
def Dev.linkErrors (d : Dev) (t n : Nat) : Dev :=
  if !d.tileRuns t then d else
  (d.bumpBy (K.TILE_LINK_ERR t) n).iff (decide (16 < n)) fun d => d.tileLost t

/-! ### PPS (R423, R424) -/

def Dev.modPps (d : Dev) (i : Nat) (f : PpsIn → PpsIn) : Dev := { d with time := { d.time with ppsIn := d.time.ppsIn.modify i f } }
def Dev.ppsIn (d : Dev) (i : Nat) : PpsIn := (d.time.ppsIn[i]?).getD {}

/-- A capture now on a base with a sub-tick phase in eighths (R421), in ns. -/
def Dev.captureNs (d : Dev) (n phase : Nat) : Nat := d.captureAt n d.now phase

/-- A capture now as the base's own source would date it (R408, R420). -/
def Dev.sourceNs (d : Dev) (n phase : Nat) : Nat := ((d.tb n).src + phase * (d.tb n).incr / 8) / 2 ^ 32

/-- The time role on an edge that disciplines a base: it steers the base, and TB_SYNCED follows an edge within PPS_SYNC_LIMIT. The error is that of the
source, which is what discipline acts on while the base runs on its reserve; in OWN the two are one (R420). -/
def Dev.ppsSync (d : Dev) (i phase : Nat) : Dev :=
  let n := d.obn (K.PPS_IN_DISC i)
  if n = 0 || 7 < n || !d.served 3 then d else
  let e := (((d.sourceNs n phase : Nat) : Int) - d.ob (K.PPS_IN_PHASE i)) % 1000000000
  let err := min e (1000000000 - e)
  let d := d.servo n
  if err ≤ d.ob (K.PPS_SYNC_LIMIT i) then d.setSynced n true else d

/-- An edge at a PPS input. -/
def Dev.ppsEdge (d : Dev) (i : Nat) (rising : Bool) (phase : Nat) : Dev :=
  let near := match (d.ppsIn i).lastAt with
    | some t => decide (d.now < t + 1000)
    | none => false
  if !d.domOn 2 || rising == d.obb (K.PPS_IN_EDGE i) || near then d else
  let ns := d.captureNs (d.obn (K.PPS_IN_TB i)) phase
  let d := ((d.setOb (K.PPS_IN_LAST i) (ns : Nat)).setOb (K.PPS_IN_COUNT i) ((d.obn (K.PPS_IN_COUNT i) + 1) % 2 ^ 24 : Nat)).modPps i fun p => { p with lastAt := some d.now }
  let was := (d.ppsIn i).fifo.length
  let d := if 4 ≤ was then (d.bump (K.PPS_IN_LOST i)).logSec 0x9010 i
    else (d.modPps i fun p => { p with fifo := p.fifo ++ [(ns, d.now)] }).iff (was == 0) fun d => d.raise (0x528 + i)
  d.ppsSync i phase

/-- An enabled PPS output's next edge. -/
def Dev.ppsOut (d : Dev) (i : Nat) : Dev :=
  if !d.domOn 2 || !d.obb (K.PPS_OUT_EN i) then d else
  let n := d.obn (K.PPS_OUT_TB i)
  let per := max (d.obn (K.PPS_OUT_PERIOD i)) 1
  let ph := d.obn (K.PPS_OUT_PHASE i)
  let t := d.tbNs n
  let high := (d.time.ppsHigh[i]?).getD false
  let at_ := if high then (if t < ph then ph else ph + (t - ph) / per * per) + d.obn (K.PPS_OUT_WIDTH i)
    else if t ≤ ph then ph else ph + (t - ph + per - 1) / per * per
  let d := d.upToOn n at_
  ({ d with time := { d.time with ppsHigh := d.time.ppsHigh.set i (!high) } }).emit (.pps i (!high))

/-- PPS_OUT_EN: a disabled output is low. -/
def Dev.ppsEnable (d : Dev) (i v : Nat) : Dev :=
  let high := (d.time.ppsHigh[i]?).getD false
  let d := d.event.setOb (K.PPS_OUT_EN i) (v : Nat)
  if v = 0 && high then ({ d with time := { d.time with ppsHigh := d.time.ppsHigh.set i false } }).emit (.pps i false) else d

/-- A read of word 0 of a PPS input by the time keeper pops a record (R427, R194). -/
def Dev.ppsPop (d : Dev) (i : Nat) : Dev × Nat :=
  match (d.ppsIn i).fifo with
  | [] => (d.modPps i fun p => { p with latched := [] }, 0)
  | (a, b) :: r => (d.modPps i fun p => { p with fifo := r, latched := t80Words a ++ t80Words b }, 2 ^ 23 + r.length)

/-! ### Control words (R427) -/

/-- A read of word w of base n. The staged words 6 and 10 to 12 read as they were staged, the words that start something as 0, and words 4 and 5 as the
rate in force (DESIGN CHOICE: R427 gives fields and no read of them; log entry 61). -/
def Dev.tbRead (d : Dev) (n w : Nat) : Dev × Nat :=
  let b := d.tb n
  let now := t80Words (d.tbNs n)
  match w with
  | 0 => (if n = 0 then { d with time := { d.time with t0Latched := now.drop 1 } } else d.modTb n fun b => { b with latched := now.drop 1 }, now.getD 0 0)
  | 1 => (d, (if n = 0 then d.time.t0Latched else b.latched).getD 0 0)
  | 2 => (d, (if n = 0 then d.time.t0Latched else b.latched).getD 1 0)
  | 3 => (d, (if n = 0 then d.time.t0Latched else b.latched).getD 2 0)
  | _ => if n = 0 then (d, if w = 4 then 256 else 0) else
    (d, match w with
      | 4 => bits b.incr 39 24
      | 5 => bits b.incr 23 0
      | 6 => b.ofsHi
      | 8 => b2n b.synced
      | 9 => b.state
      | 10 => b.setStage.getD 0 0
      | 11 => b.setStage.getD 1 0
      | 12 => b.setStage.getD 2 0
      | _ => 0)

/-- May an agent write the words of base n? -/
def Dev.tbAgent (d : Dev) (n agent : Nat) : Bool :=
  (decide (16 ≤ agent) && decide (agent < 20)) ||
    (let c := d.obn (K.TB_DISC_CTX n); decide (c < 128) && d.ctxState c != 0 && d.ctxCore c == agent)

/-- A write of word w of base n by an agent; what R427 refuses is ignored. -/
def Dev.tbWrite (d : Dev) (agent n w v : Nat) : Dev :=
  if n = 0 || !d.tbAgent n agent then d else
  let b := d.tb n
  match w with
  | 4 => d.modTb n fun b => { b with incrHi := v % 65536 }
  | 5 => (d.tbIncr n (b.incrHi * 2 ^ 24 + v)).1
  | 6 => d.modTb n fun b => { b with ofsHi := v }
  | 7 => (d.tbOffset n (sext 48 (b.ofsHi * 2 ^ 24 + v))).1
  | 8 => d.setSynced n (v.testBit 0)
  | 10 => d.modTb n fun b => { b with setStage := b.setStage.set 0 v }
  | 11 => d.modTb n fun b => { b with setStage := b.setStage.set 1 v }
  | 12 => d.modTb n fun b => { b with setStage := b.setStage.set 2 v }
  | 13 =>
    let ns := bits (b.setStage.getD 2 0) 7 0 * 2 ^ 24 + v
    if 1000000000 ≤ ns then d else
    match d.tbSet n (t80Ns (b.setStage ++ [v])) with
    | (d, 0) => d
    | (d, _) => d.logE 0x9007 n
  | _ => d

/-- A read of word w of PPS input i by an agent. -/
def Dev.ppsRead (d : Dev) (agent i w : Nat) : Dev × Nat :=
  if w = 0 then (if agent = d.roleOf 3 then d.ppsPop i else (d, 0))
  else (d, if w ≤ 8 then (d.ppsIn i).latched.getD (w - 1) 0 else 0)

end Sys2Proof.Machine
end

