-- ==== Sys2Proof/Machine/Tables.lean ====
section
/-! DEFINITION. The saved tables that live in memories of PD2: forwarding, multicast, profiles, device lists and templates
(spec 13 R346 R350 R371, 14 R404, 19 R527). -/
namespace Sys2Proof.Machine

/-- MC_TABLE: whole groups whose destinations keep R21 (R371). -/
def mcOk (l : List Byte) : Bool :=
  (List.range (l.length / 2)).all fun i =>
    let p := byteAt l (2 * i) % 64
    p == 0x3F || (p != 38 && decide (p < 40))

/-- Install one of the tables from its bytes, under its own rule. -/
def Dev.installTable (d : Dev) (key : Nat) (l : List Byte) : Dev × Nat :=
  let kept := fun (d : Dev) => d.modSw fun s => { s with notLoaded := s.notLoaded.filter fun k => k != key }
  if key = K.MC_TABLE then
    if l.length % 16 ≠ 0 then (d, Stat.type) else if !mcOk l then (d, Stat.range) else (kept d.event, Stat.done)
  else if key = K.FWD_TABLE then
    if l.length % 32 ≠ 0 then (d, Stat.type) else
    if (entriesOf l).any fun b => entryValid b && !destOk (byteAt b 16 * 256 + byteAt b 17) then (d, Stat.range) else
    match addEntries (dropEntries d.sw.mstore .dev) .dev (entriesOf l) with
    | none => (d, Stat.busy)
    | some m => (kept ((d.event.modSw fun s => { s with mstore := m }).entriesUsed), Stat.done)
  else if key = K.UPLINK_PROFILE || key = K.HOST_PROFILE then
    if l.length ≠ 30 then (d, Stat.type) else if !profileOk (wordsOf l) then (d, Stat.range) else (kept d.event, Stat.done)
  else if key = K.DEV_SCATTER then
    if l.length % 3 ≠ 0 then (d, Stat.type) else
    match d.setDevLists (wordsOf l) with
    | some d => (kept d, Stat.done)
    | none => (d, Stat.busy)
  else if key = K.DEV_GATHER then
    if l.length % 3 ≠ 0 then (d, Stat.type) else
    let img := wordsOf l
    if (tplList img).any fun i => !((img.getD i 0).testBit 22) && !destOk (bits (img.getD (i + 1) 0) 15 0) then (d, Stat.range) else
    match d.setDevTpls img with
    | some d => (kept d, Stat.done)
    | none => (d, Stat.busy)
  else (d, Stat.done)

/-- The tables in the order in which R527 names them. -/
def savedTables : List Nat := [K.FWD_TABLE, K.MC_TABLE, K.UPLINK_PROFILE, K.HOST_PROFILE, K.DEV_SCATTER, K.DEV_GATHER]

/-- At boot: install each saved table that is set; one that fails leaves the memory empty (R527). -/
def Dev.bootTables (d : Dev) : Dev :=
  d.each savedTables fun d key =>
    if (d.dom key).isEmpty then d else
    match d.installTable key (d.dom key) with
    | (d, 0) => d
    | _ => (d.modSw fun s => { s with notLoaded := key :: s.notLoaded }).logE 0x0023 0

end Sys2Proof.Machine
end

