-- ==== Sys2Proof/Machine/Uplinks.lean ====
section
/-! DEFINITION. Uplinks and their gate control lists (spec 07, R196 to R202). -/
namespace Sys2Proof.Machine

/-- UPLINK_STATE takes a value; leaving Up discards the queued frames (R129, R197). -/
def Dev.upSet (d : Dev) (u st : Nat) : Dev :=
  let old := d.obn (K.UPLINK_STATE u)
  let d := d.setOb (K.UPLINK_STATE u) (st : Nat)
  if old = 2 && st != 2 then d.flushLine (96 + u) else d

/-- What an uplink's MAC sends changes (R197). -/
def Dev.upSending (d : Dev) (u what : Nat) : Dev :=
  if (d.up u).sends = what then d else (d.modUp u fun x => { x with sends := what }).emit (.upSends u what)

/-- An uplink's domain goes on, and its link starts (R40, R196). -/
def Dev.upPowerOn (d : Dev) (u : Nat) : Dev :=
  if d.obn (K.UPLINK_MODE u) = 0 || d.domOn (40 + u) then d else
  ({ d with doms := putBit d.doms (40 + u) true }).upSet u 1

/-- An uplink's domain goes off. -/
def Dev.upPowerOff (d : Dev) (u : Nat) : Dev :=
  if !d.domOn (40 + u) then d else
  let d := (d.upSet u 0).zero [K.UP_GCL_STATE u, K.UP_GCL_CHANGE_TIME u]
  { d with doms := putBit d.doms (40 + u) false, ups := mdel d.ups u, macs := mdel d.macs (96 + u) }

/-- UPLINK_MODE: a change restarts the link, mode 0 powers the domain off (R196). -/
def Dev.upMode (d : Dev) (u v : Nat) : Dev :=
  if d.obn (K.UPLINK_MODE u) = v then d else
  let d := d.setOb (K.UPLINK_MODE u) (v : Nat)
  if v = 0 then d.upPowerOff u
  else if d.domOn (40 + u) then (d.upSet u 1).upSending u 0
  else if d.mode < 2 then d else d.upPowerOn u

/-- Lock, training and negotiation are complete (R197). -/
def Dev.upLink (d : Dev) (u : Nat) : Dev := if d.obn (K.UPLINK_STATE u) = 1 then d.upSet u 2 else d

/-- A fault is seen in 10GBASE-R: on loss of block lock, a local fault, the MAC sends remote-fault ordered sets, and on a received remote fault idle
only. In 2.5GBASE-X and 1000BASE-X lost synchronisation is Training again (R197). -/
def Dev.upFaulted (d : Dev) (u : Nat) (remote : Bool) : Dev :=
  let st := d.obn (K.UPLINK_STATE u)
  if !d.clause49 (96 + u) then (if st = 2 && !remote then d.upSet u 1 else d) else
  let sends := if remote then 2 else 1
  if st = 2 then
    ((((d.upSet u 3).modUp u fun x => { x with faultSeen := d.now }).upSending u sends).bump (K.UP_LINK_FAULTS u)).logE 0x3200 u
  else if st = 3 then (d.modUp u fun x => { x with faultSeen := d.now }).upSending u sends
  else d

/-- No fault has been seen for 1 ms (R197). -/
def Dev.upCleared (d : Dev) (u : Nat) : Dev :=
  if d.obn (K.UPLINK_STATE u) = 3 then ((d.upTo ((d.up u).faultSeen + 1000000)).upSet u 2).upSending u 0 else d

/-! ### Gate control lists -/

/-- The entries of a GCL_ADMIN image. -/
def gclEntries (l : List Byte) : List (Nat × Nat) :=
  (List.range (l.length / 6)).map fun i => (byteAt l (6 * i), byteAt l (6 * i + 2) * 2 ^ 24 + beNat ((l.drop (6 * i + 3)).take 3))

/-- Does an administrative list keep the limits of R200? -/
def gclOk (l : List Byte) (cycle : Nat) : Bool :=
  let e := gclEntries l
  let sum := e.foldl (fun a x => a + x.2) 0
  decide (1 ≤ e.length) && decide (e.length ≤ 256) && l.length % 6 == 0 &&
    e.all (fun x => decide (100 ≤ x.2) && decide (x.2 ≤ 1000000000)) && decide (sum ≤ cycle) && decide (cycle ≤ 1000000000)

/-- GCL_APPLY: check the list and arm it with its change time (R200, R201). -/
def Dev.gclArm (d : Dev) (u : Nat) : Dev × Nat :=
  let l := d.dom (K.UP_GCL_ADMIN u)
  let cycle := d.obn (K.UP_GCL_ADMIN_CYCLE u)
  if !gclOk l cycle then (d, Stat.range) else
  let d := d.event
  let least := d.gclNow u + 100000
  let base := d.obn (K.UP_GCL_ADMIN_BASE u)
  let at_ := if least ≤ base then base else base + (least - base + cycle - 1) / cycle * cycle
  ((((d.modUp u fun x => { x with armed := some ⟨gclEntries l, at_, cycle⟩ }).setOb (K.UP_GCL_STATE u) 1).setOb
    (K.UP_GCL_CHANGE_TIME u) (at_ : Nat)), Stat.done)

/-- The change time is reached: the armed list becomes operative at its entry 0 (R201). -/
def Dev.gclTake (d : Dev) (u : Nat) : Dev :=
  match (d.up u).armed with
  | none => d
  | some g =>
    let d := d.upToOn (d.obn (K.UP_GCL_TB u)) g.base
    (d.modUp u fun x => { x with armed := none, oper := some g, idx := 0, entryEnds := g.base + g.len 0 }).setOb (K.UP_GCL_STATE u) 2

/-- The entry in force ends, and the next one takes over (R199). -/
def Dev.gclNext (d : Dev) (u : Nat) : Dev :=
  match (d.up u).oper with
  | none => d
  | some g =>
    let d := d.upToOn (d.obn (K.UP_GCL_TB u)) (d.up u).entryEnds
    d.modUp u fun x => let i := (x.idx + 1) % g.entries.length; { x with idx := i, entryEnds := x.entryEnds + g.len i }

end Sys2Proof.Machine
end

