-- ==== Sys2Proof/Machine/Domains.lean ====
section
/-! DEFINITION. Power domains: what each power-off discards, the order of R19, the hard hold, and the domains of each mode (spec 01, 02). -/
namespace Sys2Proof.Machine

/-! ### Single domains (R16 to R19, R40) -/

/-- An engine's domain goes off: its programs and channels are gone. -/
def Dev.engOff (d : Dev) (e : Nat) : Dev :=
  if !d.domOn (24 + e) then d else
  let d := d.each (List.range 8) fun d k => (d.chReset (8 * e + k)).modChan (8 * e + k) fun _ => {}
  let d := (d.clearMem (runAddr e 0 false 0) (runAddr e 4 false 0)).modEngine e fun _ => {}
  let d := d.zero (K.ENG_ARM_CMD e :: [0, 1, 2, 3].flatMap fun w => [K.WIN_ID_ACTIVE (winOf e w), K.WIN_ID_SHADOW (winOf e w)] ++ [K.ENG_ARM_CMD e])
  (d.each [0, 1, 2, 3] fun d w => d.winObjects e w).power (24 + e) false

def Dev.engOn (d : Dev) (e : Nat) : Dev := if d.domOn (24 + e) then d else d.power (24 + e) true

/-- The profile unit's domain. -/
def Dev.motionOff (d : Dev) : Dev :=
  if !d.domOn 3 then d else
  ({ d.clearMem 0x280000 0x2C0000 with motion := {} }).power 3 false

def Dev.motionOn (d : Dev) : Dev := if d.domOn 3 then d else (d.power 3 true).motionPowerOn

/-- Objects that outlive PD2: saved ones, area F, doorbells, epochs and WAKE, JTAG_LOCK, and what the Attic's load left (R97, R517, R527). -/
def outlives (key : Nat) : Bool :=
  bits key 23 20 == 0xF || bits key 23 20 == 14 || key == K.JTAG_LOCK || key == K.ATTIC_SOURCE || key == K.ATTIC_GEN || key == K.MODE ||
    (bits key 23 20 == 0xB && decide (bits key 19 8 < 21) && bits key 7 0 != 9) ||
    (match descOf key with
      | some r => r.saved
      | none => false)

/-- Transactions in flight end with the service; the Sump's own request ends with TIMEOUT (R32). -/
def Dev.dictLost (d : Dev) : Dev :=
  match d.dict.inflight.find? fun t => t.src.via == .smbus with
  | some t => d.deliverCompl ⟨t.src, t.op, Stat.timeout, 0, 0, []⟩
  | none => d

/-- PPS outputs that are high fall (R424). -/
def Dev.ppsFall (d : Dev) : Dev := d.each [0, 1, 2, 3] fun d i => d.iff ((d.time.ppsHigh[i]?).getD false) fun d => d.emit (.pps i false)

/-- The domains that need the spine go off before it, in the order of R19, each as when it goes off alone. What waits for a permit is
dropped first, and the keepers' roles go with them (log entry 58). -/
def Dev.spineUsersOff (d : Dev) : Dev :=
  let d := (d.modTap fun t => { t with queue := [] }).motionOff
  let d := d.each (List.range 20) fun d c => (d.rxUnlock c).corePowerOff c
  let d := d.each (List.range 12) fun d e => d.engOff e
  let d := d.each ([0, 1, 2, 3].filter fun t => d.domOn (36 + t)) fun d t => d.tileOff t 6
  let d := d.each [0, 1, 2, 3] fun d u => d.upPowerOff u
  d.ppsFall

/-- Every domain but PD0 and PD1 goes off, in the order of R19; what their memories held is gone (R18). -/
def Dev.allOff (d : Dev) : Dev :=
  let d := d.dictLost.spineUsersOff
  let attic := fun (a : Nat) => decide (0x2C0000 ≤ a) && decide (a < 0x2E0000)
  let store := match d.store.saving with
    | none => d.store
    | some (_, b, _) => if b then { d.store with saving := none, atticB := none } else { d.store with saving := none, atticA := none }
  let od := d.od.filter fun e => outlives e.1
  let hold := b2n d.sump.holdLow + 2 * b2n d.sump.sumpHold
  let base : Dev := { now := d.now, seq := d.seq, doms := 1 + 2 * b2n (d.domOn 1), free := d.free, blob := d.blob.filter fun e => outlives e.1,
                      sump := { d.sump with booting := false, startDue := false, hostWindow := false, waitRef := false, wakeLow := false }, store := store, out := d.out }
  { base with mem := d.mem.filter fun e => attic e.1, poison := d.poison.filter attic,
              od := if hold = 0 then od else mput od K.HOLD_CAUSE (hold : Nat),
              mm := { sumpTemp := d.mm.sumpTemp },
              host := if d.sump.endpointSaved then d.host.config else {} }

/-- Power one domain off, as the Sump's DOMAIN_OFF does (R16, R19, R538). -/
def Dev.domainOff (d : Dev) (n : Nat) : Dev :=
  if !d.domOn n then d
  else if n = 1 then d.power 1 false
  else if n = 2 then d.allOff
  else if n = 3 then d.motionOff
  else if n < 20 then d.coreOff (n - 4)
  else if n < 24 then ((d.passRoles (n - 4)).rxUnlock (n - 4)).corePowerOff (n - 4)
  else if n < 36 then d.engOff (n - 24)
  else if n < 40 then d.tileOff (n - 36) 6
  else d.upPowerOff (n - 40)

/-- The hard hold: every line driver stops at its front-end (R35). -/
def Dev.hardHold (d : Dev) : Dev := ({ d with sump := { d.sump with hardHold := true } }).holdLines

/-! ### Domains by mode (R40, R49) -/

/-- A weir core that is kept off and on which every context has stopped goes off (R49). -/
def Dev.coresBarred (d : Dev) : Dev :=
  if d.limits ≠ 6 then d else
  d.each ((List.range 16).filter fun c => d.epOn c && d.coreBarred c) fun d c =>
    if (d.ctxsOn c).all fun x => d.ctxState x == 5 then (d.rxUnlock c).corePowerOff c else d

/-- A weir core that the mode does not keep off and to which a context is bound is powered on, with the image of its personality (R40). -/
def Dev.coresBound (d : Dev) : Dev :=
  d.each ((List.range 16).filter fun c => !d.epOn c && !d.coreBarred c) fun d c =>
    match d.ctxsOn c with
    | [] => d
    | x :: _ => d.coreForPers c (d.obn (K.CTX_PERS x))

/-- The powered core outside the mode's bar that has a free slot for a context (R49). -/
def Dev.limpCore (d : Dev) (c : Nat) : Option Nat :=
  let l := (List.range 16).filter fun k => !d.coreBarred k && d.coreTakes k (d.obn (K.CTX_PERS c))
  (l.find? fun k => !(d.ctxsOn k).isEmpty).or l.head?

/-- A context that does not run is moved to a core at once, its window with it (log entry 25). -/
def Dev.ctxCarry (d : Dev) (c t : Nat) : Dev :=
  match d.freeSlot t with
  | none => d
  | some slot =>
    let img := d.ldAll (d.winBase c) (d.ctxWords c)
    (d.event.stAll (localAddr t (0xC00 * slot)) img).ctxMoveTo c t slot

/-- Contexts on entry to Limp: stop, migrate or stay (R49). -/
def Dev.limpCtxs (d : Dev) : Dev :=
  d.each d.ctxsBound fun d c =>
    if d.ctxState c = 5 then d
    else if (d.ctx c).ports.any fun p => !d.domOn (36 + tileOf p) then d.quarantine c
    else if !d.coreBarred (d.ctxCore c) then
      (if ((d.ctx c).migTarget.map d.coreBarred).getD false then (d.setCtxState c 2).migCancel c else d)
    else
      let d := if d.ctxState c = 3 then (d.setCtxState c 2).migCancel c else d
      match d.limpCore c with
      | none => d.quarantine c
      | some t =>
        let d := if d.epOn t then d else d.coreForPers t (d.obn (K.CTX_PERS c))
        if d.ctxState c = 2 then
          let d := d.swapLeft c (d.ctxCore c)
          { d.migArm c t with mm := { d.mm with migrating := c :: d.mm.migrating } } else d.ctxCarry c t

/-- Power the domains of Commission and the run modes (R40). -/
def Dev.powerRun (d : Dev) : Dev :=
  let d := d.motionOn
  let d := d.each (List.range 12) fun d e => d.engOn e
  let d := d.each [0, 1, 2, 3] fun d u => d.upPowerOn u
  (d.each [0, 1, 2, 3] fun d t => d.tileOn t).coresBound

/-- Power the domains under Limp constraints (R40, R49). -/
def Dev.powerLimp (d : Dev) : Dev :=
  let d := d.each [0, 1, 2, 3] fun d u => d.upPowerOn u
  let d := d.motionOn
  let d := d.each ([0, 1, 2, 3].filter fun t => d.tileKept t) fun d t => if d.obn (K.TILE_STATE t) = 1 || d.obn (K.TILE_STATE t) = 2 then d.tileOff t 7 else d
  let d := d.each [0, 1, 2, 3] fun d t => if d.tileKept t || d.obn (K.TILE_STATE t) = 3 then d.each [3 * t, 3 * t + 1, 3 * t + 2] fun d e => d.engOff e
    else d.each [3 * t, 3 * t + 1, 3 * t + 2] fun d e => d.engOn e
  let d := d.each ([0, 1, 2, 3].filter fun t => !d.tileKept t && d.obn (K.TILE_STATE t) != 3) fun d t => d.tileOn t
  d.limpCtxs.coresBarred.coresBound

/-- Under Limp constraints, a change of LIMP_TILES or LIMP_CORES powers the domains anew; tiles that cease to be kept off start (R40, R148). -/
def Dev.limpMembers (d : Dev) (key : Nat) (v : Int) : Dev :=
  let kept := d.tilesKept
  let d := d.event.setOb key v
  d.iff (d.limits == 6) fun d => (d.powerLimp).tilesFreed kept

end Sys2Proof.Machine
end

