-- ==== Sys2Proof/Machine/Modes.lean ====
section
/-! DEFINITION. The mode manager: requests, Hold and Limp, the thermal supervision (spec 02, R37 to R53). -/
namespace Sys2Proof.Machine

def Dev.modMm (d : Dev) (f : ModeMgr → ModeMgr) : Dev := { d with mm := f d.mm }

/-! ### Conditions (R39, R44, R46) -/

/-- Is a segment configured with a shorter cycle (R44)? -/
def Dev.cycleTooShort (d : Dev) (m : Nat) : Bool :=
  (List.range 96).any fun s => decide (d.obn (K.SEG_CTX s) < 128) && decide (d.obn (K.SEG_CYCLE_LEN s) < shortestCycle m)

/-- Does a weir core lie outside LIMP_CORES (R40)? -/
def Dev.outsideLimp (d : Dev) (e : Nat) : Bool := decide (e < 16) && !(d.obn K.LIMP_CORES).testBit e

/-- Would the budget of a mode carry its base allowance, every revocable reservation and those of the blocks it powers off gone (R46)? -/
def Dev.modeFits (d : Dev) (m : Nat) : Bool :=
  let off := fun (h : Holder) => match h with
    | .geared => m != 5
    | .port p | .retry p | .tdr p => m == 6 && !d.limpTiles.contains (tileOf p)
    | .tileStart t | .tileCal t => m == 6 && !d.limpTiles.contains t
    | .core e => m == 6 && d.outsideLimp e
    | _ => false
  let l := d.tap.permits.filter fun p => !p.revocable && !(off p.holder && (p.isRes || p.holder.ofLine))
  decide (baseOf m + permitSum l ≤ effOf m d.budget)

/-- Is a transition one of R43? -/
def modeAllows (a b : Nat) : Bool :=
  match b with
  | 0 => a == 2 || a == 7
  | 2 => decide (3 ≤ a) && decide (a ≤ 7)
  | 3 | 4 | 5 => decide (2 ≤ a) && decide (a ≤ 7)
  | 6 => (decide (2 ≤ a) && decide (a ≤ 5)) || a == 7
  | 7 => decide (2 ≤ a) && decide (a ≤ 6)
  | _ => false

/-- R39 step 4, the row's conditions and R44 for a mode from 2 to 5. -/
def Dev.targetStatus (d : Dev) (v : Nat) : Nat :=
  let m := d.mode
  if capacityOf v < d.motionLoad then Stat.range
  else if m = 7 && (d.sump.holdLow || d.sump.sumpHold) then Stat.busy
  else if 6 ≤ m && d.obn K.LIMP_CAUSE ≠ 0 then Stat.mode
  else if v = 2 && 3 ≤ m && m ≤ 5 && !d.motion.allRest then Stat.busy
  else if 3 ≤ v && d.cycleTooShort v then Stat.mode
  else Stat.done

/-! ### The change (R45, R46) -/

/-- MODE takes a value at one event (R45); on entry to Limp TDR sweeps end (R162). -/
def Dev.modeEvent (d : Dev) (m : Nat) : Dev :=
  let d := ((d.event.setOb K.MODE (m : Nat)).setOb K.MODE_CHANGES ((d.obn K.MODE_CHANGES + 1) % 2 ^ 24 : Nat)).tookEffect
  (d.iff (m == 6) fun d => d.each [0, 1, 2, 3] fun d t => d.sweepAbort t).raise 0x545

/-- After a change: the Geared reservation goes unless Geared's limits hold, and the Tap revokes down to the budget (R44, R46). -/
def Dev.settleBudget (d : Dev) : Dev :=
  let d := d.iff (d.mode != 5) fun d => (d.releaseAll .geared).modMm fun x => { x with gearedNum := 0 }
  d.revokeToBudget

/-- A mode request that waited ends without the change: MODE_REQUEST reads again what it read before it (R73). -/
def Dev.requestUndone (d : Dev) : Dev :=
  match d.mm.reqBefore with
  | some v => (d.setOb K.MODE_REQUEST (v : Nat)).modMm fun x => { x with reqBefore := none }
  | none => d

/-- The reservations of cores that Limp powers off end at the change's event (R46). -/
def Dev.limpRelease (d : Dev) : Dev :=
  d.modTap fun t => { t with permits := t.permits.filter fun p => !(p.isRes && (match p.holder with
    | .core e => d.outsideLimp e
    | _ => false)) }

/-- A pending change ends: its request completes with ABORTED (R41). -/
def Dev.abortChange (d : Dev) : Dev :=
  match d.mm.waiting with
  | none => d
  | some (_, r, _) => (((d.modMm fun x => { x with waiting := none }).requestUndone).releaseAll .geared).complete r Stat.aborted

/-- Enter Commission or a run mode. -/
def Dev.enterRun (d : Dev) (m : Nat) : Dev :=
  let kept := d.tilesKept
  let d := (d.modeEvent m).modMm fun x => { x with waiting := none, limpWait := none, limpInHold := false, limpClear := none, migrating := [] }
  let d := { d with sump := { d.sump with startDue := d.sump.startDue && m != d.obn K.START_MODE } }
  let d := { d.setOb K.HOLD_CAUSE (b2n d.sump.holdLow + 2 * b2n d.sump.sumpHold : Nat) with motion := { d.motion with limpAt := none } }
  (d.powerRun.tilesFreed kept).settleBudget

/-- MODE_PRIOR on entry to Hold or Limp: kept when coming from Limp or Hold (R37, R68; log entry 26). -/
def Dev.notePrior (d : Dev) : Dev :=
  let m := d.mode
  if m = 1 then d.setOb K.MODE_PRIOR (d.ob K.START_MODE)
  else if 2 ≤ m && m ≤ 5 then d.setOb K.MODE_PRIOR (m : Nat) else d

/-- Enter Hold with causes (R47, R507). -/
def Dev.enterHold (d : Dev) (causes : Nat) : Dev :=
  let old := d.mode
  let d := d.notePrior.abortChange
  let d := d.setOb K.HOLD_CAUSE (d.obn K.HOLD_CAUSE ||| causes : Nat)
  let d := (d.modeEvent 7).modMm fun x => { x with limpWait := none, limpInHold := old == 6, limpClear := none }
  let d := d.each ((List.range 20).filter d.coreRuns) fun d c => d.raise63 c
  let d := d.holdAxes
  (if old = 1 then d.powerRun else d).settleBudget

/-- Enter Limp (R49). -/
def Dev.enterLimp (d : Dev) : Dev :=
  let d := d.notePrior.abortChange
  let d := (d.modeEvent 6).modMm fun x => { x with limpWait := none, limpInHold := false, limpClear := none, migrating := [] }
  let d := { d.setOb K.HOLD_CAUSE 0 with motion := { d.motion with limpAt := none } }
  (d.limpRelease.powerLimp).settleBudget

/-- The Limp constraints apply while the device stays in Hold (R48). -/
def Dev.applyLimp (d : Dev) : Dev :=
  ((d.modMm fun x => { x with limpWait := none, limpInHold := true, migrating := [] }).limpRelease.powerLimp).settleBudget

/-- Everything but PD0 and PD1 off, in Dormant (R40). -/
def Dev.enterDormant (d : Dev) : Dev := (d.abortChange.modeEvent 0).allOff

/-- Hold causes (R43, R48): any of them places the device in Hold. -/
def Dev.holdCause (d : Dev) (causes : Nat) : Dev :=
  let d := d.setOb K.HOLD_CAUSE (d.obn K.HOLD_CAUSE ||| causes : Nat)
  if 2 ≤ d.mode && d.mode ≤ 6 then d.enterHold causes
  else if d.mode = 7 then d.abortChange else d

/-- Limp causes (R48, R49). Limp constraints applied in Hold stay until Hold is left, also when every cause has cleared: R48 does not
say when they lift (DESIGN CHOICE, log entry 58). -/
def Dev.limpCause (d : Dev) (causes : Nat) : Dev :=
  let old := d.obn K.LIMP_CAUSE
  let d := d.setOb K.LIMP_CAUSE (old ||| causes : Nat)
  let m := d.mode
  if m < 2 then d
  else if m = 6 then (if causes.testBit 2 then d.powerLimp else d)
  else if m = 7 then
    if d.mm.limpInHold then (if causes.testBit 2 then d.powerLimp else d)
    else if old ||| causes = old || d.mm.limpWait.isSome then d
    else (({ d with motion := { d.motion with limpAt := some d.now } }).abortChange).applyLimp
  else if d.motionLoad ≤ 500000 then d.enterLimp
  else
    let d := d.enterHold 8
    { d.modMm fun x => { x with limpWait := some (d.now + 2000000000) } with motion := { d.motion with limpAt := some d.now } }

/-- R48 step 2 ends early: every axis is at rest. -/
def Dev.limpRest (d : Dev) : Dev :=
  if d.mode = 7 && d.mm.limpWait.isSome && d.motion.allRest then d.applyLimp else d

/-- R48 step 2 ends at 2 s; axes still moving fault at their next update (R469). -/
def Dev.limpWaitEnds (d : Dev) : Dev :=
  match d.mm.limpWait with
  | some t => if d.mode = 7 then (d.upTo t).applyLimp else d
  | none =>
    match d.motion.limpAt with
    | some t => if d.mode = 7 then d.upTo (t + 2000000000) else d
    | none => d

/-- Keep account of when every Limp cause became clear (R49). -/
def Dev.limpClock (d : Dev) : Dev :=
  let clear := d.mode == 6 && d.obn K.LIMP_CAUSE == 0
  if clear && d.mm.limpClear.isNone then d.modMm fun x => { x with limpClear := some d.now }
  else if !clear && d.mm.limpClear.isSome then d.modMm fun x => { x with limpClear := none }
  else d

/-! ### Requests (R39, R41 to R44) -/

/-- The change to a mode from 2 to 5 once its permit is there: the last checks again, then the event. -/
def Dev.changeTo (d : Dev) (v : Nat) : Dev × Nat :=
  let s := d.targetStatus v
  let s := if s = Stat.done && !d.modeFits v then Stat.range else s
  if s = Stat.done then (d.enterRun v, s)
  else (d.iff (v == 5 && d.mode != 5) fun d => (d.releaseAll .geared).modMm fun x => { x with gearedNum := 0 }, s)

/-- A request for a mode, checked in the order of R39; none while it waits for the Geared permit. The RANGE of R46 comes before the PERMIT of Geared
(log entry 58, DESIGN CHOICE). -/
def Dev.modeRequest (d : Dev) (v : Nat) (r : Option Src) : Dev × Option Nat :=
  let m := d.mode
  if v = 1 || 7 < v then (d, some Stat.range)
  else if v = m then (d, some Stat.done)
  else if d.mm.waiting.isSome && v ≠ 6 && v ≠ 7 then (d, some Stat.busy)
  else if !modeAllows m v then (d, some Stat.mode)
  else
    let d := d.iff (v != 6) fun d => d.setOb K.LIMP_CAUSE (putBit (d.obn K.LIMP_CAUSE) 3 false : Nat)
    if v = 7 then (d.enterHold 4, some Stat.done)
    else if v = 0 then (d.enterDormant, some Stat.done)
    else if v = 6 then
      if m = 7 then
        if d.sump.holdLow || d.sump.sumpHold then (d, some Stat.busy)
        else if !d.modeFits 6 then (d, some Stat.range)
        else if 500000 < d.motionLoad then ((d.setOb K.HOLD_CAUSE (putBit (d.obn K.HOLD_CAUSE) 3 true : Nat)).limpCause 8, some Stat.done)
        else ((d.setOb K.LIMP_CAUSE (putBit (d.obn K.LIMP_CAUSE) 3 true : Nat)).enterLimp, some Stat.done)
      else if d.motionLoad ≤ 500000 && !d.modeFits 6 then (d, some Stat.range)
      else (d.limpCause 8, some Stat.done)
    else
      let s := d.targetStatus v
      if s ≠ Stat.done then (d, some s)
      else if v = 5 && d.mm.gearedNum = 0 then
        if !d.modeFits 5 then (d, some Stat.range) else match d.ask .geared 1800 0xFFFFFF 7 50 0 with
          | (d, .granted n) => let (d, s) := (d.modMm fun x => { x with gearedNum := n }).changeTo 5; (d, some s)
          | (d, .queued) => (d.modMm fun x => { x with waiting := some (v, r, d.now) }, none)
          | (d, _) => (d, some Stat.permit)
      else let (d, s) := d.changeTo v; (d, some s)

/-- The Geared permit of a waiting change was granted. -/
def Dev.gearedGranted (d : Dev) (num : Nat) : Dev :=
  match d.mm.waiting with
  | none => d.release num
  | some (v, r, _) =>
    let (d, s) := (d.modMm fun x => { x with waiting := none, gearedNum := num }).changeTo v
    (if s = Stat.done then d.modMm fun x => { x with reqBefore := none } else d.requestUndone).complete r s

/-- It was refused: PERMIT, and the mode is unchanged (R44). -/
def Dev.gearedRefused (d : Dev) : Dev :=
  match d.mm.waiting with
  | none => d
  | some (_, r, _) => ((d.modMm fun x => { x with waiting := none }).requestUndone).complete r Stat.permit

/-- The automatic return: LIMP_RETURN_DELAY after every cause is clear (R49). -/
def Dev.limpReturn (d : Dev) : Dev :=
  match d.mm.limpClear with
  | some t =>
    if d.mode = 6 && d.obb K.LIMP_RETURN && d.served 1 then
      ((d.upTo (t + d.obn K.LIMP_RETURN_DELAY * 1000000)).modeRequest (d.obn K.MODE_PRIOR) none).1
    else d
  | none => d

/-! ### Thermal supervision (R50 to R53) -/

/-- The 1 ms mean of each of the eight sensors, 0.1 °C. -/
def Dev.sensorMeans (d : Dev) : List Int :=
  let n := max d.mm.sensors.length 1
  (List.range 8).map fun i => (d.mm.sensors.foldl (fun a l => a + l.getD i 0) 0) / (n : Int)

/-- Tj: the highest of the means. -/
def Dev.tj (d : Dev) : Int :=
  match d.sensorMeans with
  | [] => 0
  | x :: l => l.foldl max x

/-- The shutdown (R53, R517). -/
def Dev.thermalShutdown (d : Dev) : Dev :=
  let d := d.abortChange.hardHold
  let d := ((d.setOb K.RESET_CAUSE 6).modeEvent 0).allOff
  d.logE 0x1012 0

/-- One sample of the eight sensors and of the Sump's own. In Dormant the Sump's own sensor alone is watched: nothing is left to power off there, and
E:1012 is logged as it reaches 125 °C (R53). -/
def Dev.tjSample (d : Dev) (temps : List Int) (sump : Int) : Dev :=
  let reached := decide (d.mm.sumpTemp < 1250) && decide (1250 ≤ sump)
  let d := d.modMm fun x => { x with sumpTemp := sump, sensors := if d.mode = 0 then [] else (temps :: x.sensors).take 10 }
  if d.mode = 0 then d.iff reached fun d => d.logE 0x1012 0 else
  let t := d.tj
  if 1250 ≤ t || 1250 ≤ sump then d.thermalShutdown else
  if !d.served 1 then d else
  let d := d.iff (decide ((mget? d.od K.TJ_MAX).getD (-100000) < t)) fun d => d.setOb K.TJ_MAX t
  let warn := d.ob K.TJ_WARN
  let d :=
    if !d.mm.warn && decide (warn ≤ t) then ((d.modMm fun x => { x with warn := true }).logE 0x1010 0).raise 0x544
    else if d.mm.warn && decide (t ≤ warn - 30) then d.modMm fun x => { x with warn := false } else d
  if !d.mm.thermCause && decide (1120 ≤ t) then ((d.modMm fun x => { x with thermCause := true }).logE 0x1011 0).limpCause 2
  else if d.mm.thermCause && decide (t < 1070) then
    (d.modMm fun x => { x with thermCause := false }).setOb K.LIMP_CAUSE (putBit (d.obn K.LIMP_CAUSE) 1 false : Nat)
  else d

/-- An overrun cause clears after 1 s below 90 % of MODE_PRIOR's budget (R49). -/
def Dev.overClock (d : Dev) : Dev :=
  if !(d.obn K.LIMP_CAUSE).testBit 0 then d.modMm fun x => { x with overClear := none }
  else if effOf (d.obn K.MODE_PRIOR) d.budget * 9 ≤ d.measured * 10 then d.modMm fun x => { x with overClear := none }
  else match d.mm.overClear with
    | none => d.modMm fun x => { x with overClear := some d.now }
    | some t =>
      if t + 1000000000 ≤ d.now then
        (d.modMm fun x => { x with overClear := none }).setOb K.LIMP_CAUSE (putBit (d.obn K.LIMP_CAUSE) 0 false : Nat)
      else d

/-- One rail sample: the Tap's measurement, the queue's head, the overrun count (R56 to R61). Voltages and currents come in mV and mA, and each
product is cut to whole mW before the 20 are summed: R56 states no rounding (DESIGN CHOICE, log entry 58). -/
def Dev.railStep (d : Dev) (rails : List (Nat × Nat)) : Dev :=
  if d.mode < 2 then d else ((d.railSample (rails.map fun r => r.1 * r.2 / 1000)).overrun).overClock

/-- R62: 10 ms above the Limp budget after R59 was applied. -/
def Dev.limpDraw (d : Dev) : Dev :=
  match d.tap.limpOver with
  | some t =>
    if d.limits = 6 then
      let d := (d.upTo (t + 10000000)).abortChange.hardHold
      ((d.logE 0x1020 0).modeEvent 0).allOff
    else d
  | none => d

end Sys2Proof.Machine
end

