-- ==== Sys2Proof/Machine/Boot.lean ====
section
/-! DEFINITION. Resets, wake and boot (spec 19, R517 to R527, R536; 20, R551, R556). -/
namespace Sys2Proof.Machine

def Dev.modSump (d : Dev) (f : Sump → Sump) : Dev := { d with sump := f d.sump }

/-- A latched cause of ALERT_CAUSE (R539). -/
def Dev.alert (d : Dev) (bit : Nat) : Dev := d.setOb K.ALERT_CAUSE (putBit (d.obn K.ALERT_CAUSE) bit true : Nat)

/-! ### Firmware copies (R522, R525, R529) -/

def copyAddr (b : Nat) : Nat := 0x100000 * b

/-- The words of copy A or B, as far as its TOTAL says. -/
def Store.fwBundle (s : Store) (b : Nat) : List Nat := s.bundle (copyAddr b) 65582

/-- The activation generation; an erased one reads 0. -/
def Store.fwGen (s : Store) (b : Nat) : Nat :=
  let g := beNat (s.bytes (copyAddr b + 0x0FFFFD) 3)
  if g = 0xFFFFFF then 0 else g

/-- The checks of R525 on a firmware bundle: layout, CRC, signature. -/
def Dev.fwCheck (d : Dev) (w : List Nat) : Nat :=
  if !fwLayout w || !bundleCrcOk w then Stat.range else if !d.sigOk w then Stat.auth else Stat.done

/-- FW_VERSION_AB and FW_GEN_AB of a copy. -/
def Dev.showCopy (d : Dev) (b : Nat) : Dev :=
  let w := d.store.fwBundle b
  (d.setOb (K.FW_VERSION_AB b) (if d.fwCheck w = 0 then w.getD 3 0 else 0 : Nat)).setOb (K.FW_GEN_AB b) (d.store.fwGen b : Nat)

/-- FW_STATE from the copy not in use (R529). -/
def Dev.fwStateAtBoot (d : Dev) : Nat :=
  let b := 1 - d.sump.bootCopy
  if d.sump.bootCopy = 2 || !d.sump.flashOk then 0
  else if d.store.erased (copyAddr b) (copyAddr b + 0x100000) then 2
  else if d.fwCheck (d.store.fwBundle b) = 0 then 4 else 5

/-- The host boot window opens (R526). -/
def Dev.openWindow (d : Dev) : Dev :=
  let d := d.modSump fun s => { s with hostWindow := true, hostWords := 0, bootCopy := 2 }
  ((d.st 0x048900 0x424F54).st 0x048901 0).st 0x048903 0

/-- Step 2 of R521: the copy to boot, 3 when there is none. -/
def Dev.selectCopy (d : Dev) : Dev :=
  let both := if d.sump.flashOk then [0, 1] else []
  let good := both.filter fun b => d.fwCheck (d.store.fwBundle b) == 0
  let d := d.each both fun d b => d.showCopy b
  if d.sump.straps = 1 then d.openWindow else
  let d := d.each (both.filter fun b => !good.contains b) fun d b => d.logE 0x5040 b
  let ok := good.filter fun b => !(d.obn K.COPY_FAIL).testBit b
  let gen := fun b => d.store.fwGen b
  let top := if gen 0 < gen 1 then 1 else 0
  let pick := if ok.contains top then some top else ok.head?
  match pick with
  | some b =>
    let d := d.modSump fun s => { s with bootCopy := b }
    if gen b < gen (1 - b) then (d.logE 0x5041 0).alert 4 else d
  | none =>
    let d := (d.modSump fun s => { s with bootCopy := 3 }).alert 4
    if d.sump.straps = 2 then d.logE 0x5042 0 else d.openWindow

/-! ### The boot (R520, R521) -/

/-- The change from Boot (R43): Hold or Limp for a cause, else START_MODE, else Hold with HOLD_CAUSE [4]. -/
def Dev.enterStart (d : Dev) : Dev :=
  let v := d.obn K.START_MODE
  let hold := b2n d.sump.holdLow + 2 * b2n d.sump.sumpHold
  if hold ≠ 0 then d.enterHold hold
  else if d.obn K.LIMP_CAUSE ≠ 0 then
    if d.motionLoad ≤ 500000 then d.enterLimp
    else
      let d := d.enterHold 8
      { d.modMm fun x => { x with limpWait := some (d.now + 2000000000) } with motion := { d.motion with limpAt := some d.now } }
  else
    let need := if v = 5 then 1800 else 0
    let s := d.targetStatus v
    let s := if s = Stat.done && !d.modeFits v then Stat.range else s
    let s := if s = Stat.done && !decide (baseOf v + need + permitSum d.tap.permits ≤ effOf v d.budget) then Stat.permit else s
    if s ≠ Stat.done then (d.logE 0x1013 s).enterHold 16
    else
      let d := if v = 5 then (d.grant .geared 1800 0xFFFFFF 7 0 1).modMm fun x => { x with gearedNum := 1 } else d
      d.enterRun v

/-- The bundle being booted. -/
def Dev.bootBundle (d : Dev) : List Nat :=
  if d.sump.bootCopy = 2 then d.ldAll 0x100000 d.sump.hostWords else d.store.fwBundle d.sump.bootCopy

/-- Steps 3 to 6 of R521. -/
def Dev.bootRest (d : Dev) : Dev :=
  if !d.sump.booting || d.sump.hostWindow || 2 < d.sump.bootCopy then d else
  let w := d.bootBundle
  let img := sectionIn w 0x10
  let d := { d with store := { d.store with signer := keySlotOf w } }
  let d := (d.setOb K.FW_VERSION (w.getD 3 0 : Nat)).setOb K.IMAGE_COPY (d.sump.bootCopy : Nat)
  let d := d.each [16, 17, 18, 19] fun d k => ((d.corePowerOn k).loadBank k false img (w.getD 2 0)).coreGo k
  let d := (d.modCore 16 fun c => { c with pc := 0 })
  let d := d.prepareAttic (itemsOf descOf (sectionIn w 0x12).length (sectionIn w 0x12))
  let d := d.bootTables.reinstall
  let d := if d.obb K.JTAG_LOCK_AT_BOOT then d.setOb K.JTAG_LOCK 1 else d
  let d := (d.setOb K.FW_STATE (d.fwStateAtBoot : Nat)).iff (d.obb K.AS_ENABLE) fun d => d.setOb K.AS_STATE 1
  let d := (d.modSump fun s => { s with booting := false, rillProg := sectionIn w 0x11 }).showKeeper
  let d := d.enterStart
  d.iff (d.mode == d.obn K.START_MODE) fun d => d.ctxAuto.segAuto fun _ => true

/-- The event that the Sump logs of a reset (R518): E:F001 of a warm restart, E:F002 of RESET#, none of a wake (`code` 0). -/
def Dev.logReset (d : Dev) (code inst : Nat) : Dev := if code = 0 then d else d.logE code inst

/-- The link trains: one of the three rates and one of the three widths of R556, which of them being free (log entry 55). -/
def Dev.linkTrain (d : Dev) (up : Bool) : Dev :=
  if !up then { d with host := { d.host with linkUp := false, rate := 0, lanes := 0 } } else
  let (r, d) := d.fresh 24
  let (w, d) := d.fresh 24
  { d with host := { d.host with linkUp := true, rate := [25, 50, 80].getD (r % 3) 25, lanes := [1, 2, 4].getD (w % 3) 1 } }

/-- A boot: PD1, PD2 and PD20 on, K0 in the boot ROM, and its steps; in test mode the device stays in Dormant (R546), and without REFCLK25 it waits
there (R520). `code` is the event of the reset, 0 none, which the Sump logs in each case (R518). -/
def Dev.bootStart (d : Dev) (code inst : Nat) : Dev :=
  if d.sump.testMode then d.logReset code inst
  else if d.sump.refAbsent then ((d.modSump fun s => { s with waitRef := true, bootWhy := inst }).logReset code inst).logE 0xF010 0 else
  let d := (((d.power 1 true).power 2 true).tbPowerOn).modSump fun s =>
    { s with waitRef := false, booting := true, startDue := true, bootAt := d.now, kickAt := d.now, hardHold := s.holdLow, hostWindow := false, bootCopy := 3, endpointSaved := false }
  let d := ((d.epochInc 20).corePowerOn 16).coreGo 16
  let d := (d.event.setOb K.MODE 1).setOb K.MODE_CHANGES ((d.obn K.MODE_CHANGES + 1) % 2 ^ 24 : Nat)
  let d := (d.linkTrain (!d.sump.perstLow)).logReset code inst
  let d := d.iff (inst == 2) fun d => d.raise 0x546
  d.selectCopy.bootRest

/-- A chunk of a host boot (R526). -/
def Dev.hostChunk (d : Dev) : Dev :=
  let ctrl := d.ld 0x048903
  if !d.sump.booting || !d.sump.hostWindow || !(d.bell 16).testBit 0 || !ctrl.testBit 0 then d else
  let d := d.readBell 16
  let len := d.ld 0x048902
  let ofs := d.ld 0x048904
  let n := d.ld 0x048901 % 65536
  let ended := fun (d : Dev) (st n : Nat) => (d.st 0x048901 (st * 65536 + n)).st 0x048903 0
  let tooMuch := fun (d : Dev) (st : Nat) => ended (d.modSump fun s => { s with hostWords := 0 }) st 0
  if len = 0 || 30208 < len || ofs ≠ d.sump.hostWords || 65582 < ofs + len then tooMuch d Stat.range else
  let d := (d.stAll (0x100000 + ofs) (d.ldAll 0x048A00 len)).modSump fun s => { s with hostWords := ofs + len }
  if !ctrl.testBit 1 then ended d Stat.done (n + 1) else
  let s := d.fwCheck (d.ldAll 0x100000 d.sump.hostWords)
  if s ≠ Stat.done then tooMuch d s
  else (((ended d Stat.done (n + 1)).st 0x048900 0).modSump fun s => { s with hostWindow := false }).bootRest

/-! ### Resets (R517, R518, R536) -/

/-- VAON rises: everything restarts; flash and the levels of the pins are kept, RESET# being held low (R518, R551). -/
def Dev.powerOn (d : Dev) : Dev :=
  let lost := match d.store.saving with
    | none => d.store
    | some (_, b, _) => { d.store with saving := none }.setCopy b none
  { free := d.free, out := d.ppsFall.out, store := lost,
    sump := { holdLow := d.sump.holdLow, perstLow := d.sump.perstLow } }

/-- RESET# low: a hard hold, then everything but PD0 and PD1 off (R517). -/
def Dev.resetLow (d : Dev) : Dev :=
  if d.sump.resetLow then d else
  let d := (d.abortChange.hardHold.setOb K.MODE 0).allOff
  (d.setOb K.RESET_CAUSE 1).modSump fun s => { s with resetLow := true, hardHold := true, endpointSaved := false }

/-- RESET# rises: BOOTSEL is latched, and the boot starts unless the straps or the Sump's temperature keep the device in Dormant
(R43, R519, R520). -/
def Dev.resetRelease (d : Dev) (straps : Nat) (test : Bool) (flash : Flash) : Dev :=
  if !d.sump.resetLow then d else
  let d := (d.setOb K.BOOTSEL (straps : Nat)).modSump fun s => { s with resetLow := false, straps := straps, testMode := test }
  let d : Dev := match flash with
    | .absent => d.modSump fun s => { s with flashOk := false }
    | .asIs => d.modSump fun s => { s with flashOk := true }
    | .image l =>
      let m : SMap Byte := l.foldl (fun m e => if e.2 = 0xFF then mdel m e.1 else mput m e.1 e.2) []
      { d.modSump fun s => { s with flashOk := true } with store := { d.store with flash := m, atticA := none, atticB := none } }
  let code : Nat := if d.obn K.RESET_CAUSE = 1 then 0xF002 else 0
  let noted := d.logReset code 0
  if straps = 3 then noted else if 1000 ≤ d.mm.sumpTemp then noted.logE 0x1012 0 else d.bootStart code 0

/-- A warm restart: source 63, 100 µs, the endpoint's configuration saved, a hard hold, domains off, the epoch of every core (R491), and a boot 1 ms
after the cause (R536). -/
def Dev.warmRestart (d : Dev) (cause : Nat) : Dev :=
  if d.sump.resetLow then d else
  let t := d.now
  let d := (d.each ((List.range 20).filter d.coreRuns) fun d c => d.raise63 c).upTo (t + 100000)
  let on := d.domOn 2
  let d := d.modSump fun s => { s with endpointSaved := on }
  let d := (d.abortChange.hardHold.setOb K.MODE 0).allOff
  let d := d.each (List.range 20) fun d e => d.epochInc e
  let d := ((d.setOb K.RESET_CAUSE (cause : Nat)).bump K.WARM_RESTARTS).alert 3
  (d.upTo (t + 1000000)).bootStart 0xF001 cause

/-- A wake from Dormant (R43). -/
def Dev.wake (d : Dev) : Dev :=
  if d.mode ≠ 0 || d.sump.resetLow || d.sump.waitRef || d.sump.testMode then d
  else if 1000 ≤ d.mm.sumpTemp then d.logE 0x1012 0
  else (d.modSump fun s => { s with straps := s.straps % 3, wakeLow := true }).bootStart 0 0

/-- START_MODE was not entered within BOOT_LIMIT (R525): the boot ended in Hold or Limp, and START_MODE has not followed since (log entry 50).
RESET_CAUSE has no code for it: a free value (log entry 27). -/
def Dev.bootLimit (d : Dev) : Dev :=
  if !d.sump.startDue || d.sump.hostWindow || 1 < d.sump.bootCopy then d else
  let d := d.upTo (d.sump.bootAt + d.obn K.BOOT_LIMIT * 1000000)
  let d := (d.setOb K.COPY_FAIL (putBit (d.obn K.COPY_FAIL) d.sump.bootCopy true : Nat)).logE 0x5045 0
  let (c, d) := d.fresh 3
  d.warmRestart c

/-- PERST# low: the endpoint and its link only (R517). -/
def Dev.perst (d : Dev) : Dev :=
  { d.modSump fun s => { s with perstLow := true, endpointSaved := false } with host := {} }

/-- PERST# deasserts (R491, R556). -/
def Dev.perstRelease (d : Dev) : Dev :=
  if !d.sump.perstLow then d else
  let d := (d.hostLevels fun d => d.epochInc 20).modSump fun s => { s with perstLow := false, wakeLow := false }
  d.linkTrain (d.domOn 2)

/-- A rail leaves its range; rails in the order of R56 (R551). -/
def Dev.brownOut (d : Dev) (rail : Nat) : Dev :=
  if rail = 7 then d.powerOn
  else if d.sump.resetLow then d
  else if 8 ≤ rail then (if (rail - 8) % 3 = 2 then d else d.tileLost ((rail - 8) / 3))
  else d.modSump fun s => { s with railsOut := insNat rail s.railsOut }

/-- It returns (R551). -/
def Dev.brownOutReturn (d : Dev) (rail : Nat) : Dev :=
  if !d.sump.railsOut.contains rail then d else
  let d := d.modSump fun s => { s with railsOut := s.railsOut.filter fun r => r != rail }
  if d.sump.resetLow then d else d.warmRestart 7

/-- REFCLK25 is declared absent (R13). -/
def Dev.refAbsent (d : Dev) : Dev :=
  if d.sump.refAbsent then d else
  let d := d.modSump fun s => { s with refAbsent := true }
  if d.mode = 0 then d else d.hardHold.logE 0xF010 0

/-- REFCLK25 is declared present again (R13, R520). Where it was already in Dormant, or waits in a boot, no warm restart follows: a boot that waits goes on, and
Dormant stays (log entry 58, DESIGN CHOICE). -/
def Dev.refPresent (d : Dev) : Dev :=
  if !d.sump.refAbsent then d else
  let d := (d.modSump fun s => { s with refAbsent := false, oscFrac := 0 }).logE 0xF011 0
  if d.sump.waitRef then d.bootStart 0 d.sump.bootWhy
  else if d.mode = 0 then d else d.warmRestart 5

/-- HOLD# low: the hard hold, and the Hold cause (R35, R47). -/
def Dev.holdPinLow (d : Dev) : Dev :=
  if d.sump.holdLow then d else
  ((d.modSump fun s => { s with holdLow := true }).hardHold).holdCause 1

/-- HOLD# high: the tiles resume (R47). -/
def Dev.holdPinHigh (d : Dev) : Dev :=
  if !d.sump.holdLow then d else
  let d := d.modSump fun s => { s with holdLow := false, hardHold := s.refAbsent && s.hardHold }
  (d.setOb K.HOLD_CAUSE (putBit (d.obn K.HOLD_CAUSE) 0 false : Nat)).segsResume

/-- The Sump hold, set and released (R538). -/
def Dev.sumpHold (d : Dev) (on : Bool) : Dev :=
  if on then (d.modSump fun s => { s with sumpHold := true }).holdCause 2
  else (d.modSump fun s => { s with sumpHold := false }).setOb K.HOLD_CAUSE (putBit (d.obn K.HOLD_CAUSE) 1 false : Nat)

/-- The device watchdog (R534). -/
def Dev.sumpWatchdog (d : Dev) : Dev :=
  if d.mode = 0 then d else (d.upTo (d.sump.kickAt + 2000000000)).warmRestart 2

/-- The T0 wake alarm (R43, R539): it clears as it fires. -/
def Dev.wakeAlarm (d : Dev) : Dev :=
  let t := (d.ob K.WAKE_AT).toNat
  if t = 0 then d else
  let d := (d.upTo t).setOb K.WAKE_AT 0
  if d.mode = 0 then d.wake else d

end Sys2Proof.Machine
end

