-- ==== Sys2Proof/Machine/Firmware.lean ====
section
/-! DEFINITION. Firmware update, live activation, keeper roles and keys (spec 19, R529, R530, R533; 03, R102). -/
namespace Sys2Proof.Machine

/-! ### Flash activity under permits (R529) -/

/-- The permit of flash activity: true when one is held after this. Tags: 0 erase, 1 chunk, 2 activation by restart, 3 end of a live one, 4 an erase
that goes on. -/
def Dev.fwPermit (d : Dev) (waitMs tag : Nat) : Dev × Option Nat :=
  if d.tap.permits.any fun p => p.holder == .firmware then (d, some Stat.done) else
  match d.ask .firmware 400 2000000 3 waitMs tag with
  | (d, .granted _) => (d, some Stat.done)
  | (d, .queued) => (d, none)
  | (d, .busy) => (d, some Stat.busy)
  | (d, .refused) => (d, some Stat.permit)

/-- The copy that is not in use. -/
def Dev.otherCopy (d : Dev) : Nat := 1 - d.sump.bootCopy

/-! ### FW_PREPARE and FW_BUNDLE (R529) -/

/-- The erase starts. -/
def Dev.eraseStart (d : Dev) : Dev :=
  let b := d.otherCopy
  let d := { d with store := d.store.erase (copyAddr b) (copyAddr b + 0x100000) }
  ((d.event.setOb K.FW_STATE 1).zero [K.FW_VERSION_AB b, K.FW_GEN_AB b]).tookEffect

/-- A write of FW_PREPARE. -/
def Dev.fwPrepare (d : Dev) (v : Nat) (r : Src) : Dev × Option Nat :=
  let s := d.obn K.FW_STATE
  if v ≠ 1 then (d, some Stat.range)
  else if s = 1 || s = 3 || d.obn K.IMAGE_COPY = 2 then (d, some Stat.busy)
  else match d.fwPermit (d.waitLeft (some r)) 0 with
    | (d, some 0) => (d.eraseStart, some Stat.done)
    | r => r

/-- An erase takes another permit each time its 2 s have used up the one before (R529). -/
def Dev.eraseRenew (d : Dev) : Dev :=
  if d.obn K.FW_STATE ≠ 1 || d.tap.queue.any (fun q => q.holder == .firmware) then d else (d.fwPermit 1000 4).1

/-- The erase ends, which takes a permit too: without one it goes on. -/
def Dev.eraseEnd (d : Dev) : Dev :=
  if d.obn K.FW_STATE ≠ 1 then d else
  let d := d.eraseRenew
  if !(d.tap.permits.any fun p => p.holder == .firmware) then d else
  let d := d.releaseAll .firmware
  (d.event.setOb K.FW_STATE 2).setOb K.COPY_FAIL (putBit (d.obn K.COPY_FAIL) d.otherCopy false : Nat)

/-- Bytes of FW_BUNDLE so far. -/
def Dev.fwSoFar (d : Dev) : Nat :=
  match d.dict.puts.find? fun p => p.key == K.FW_BUNDLE with
  | some p => p.data.length
  | none => 0

/-- A chunk goes into the erased copy; with FINAL the copy is checked (R529). -/
def Dev.chunkGo (d : Dev) (final : Bool) (l : List Byte) : Dev × Nat :=
  let b := d.otherCopy
  let n := d.fwSoFar
  let d := { d with store := d.store.program (copyAddr b + n) l }
  let d := (d.event.setOb K.FW_STATE 3).tookEffect
  let d := d.modDict fun x => { x with fwChunk := none, puts := x.puts.map fun p => if p.key = K.FW_BUNDLE then { p with data := p.data ++ l, at_ := d.now } else p }
  if !final then (d, Stat.done) else
  let d := { d with store := d.store.program (copyAddr b + 0x0FFFFD) [0, 0, 0] }
  let s : Nat := d.fwCheck (d.store.fwBundle b)
  let d := ((d.modDict fun x => { x with puts := x.puts.filter fun p => p.key != K.FW_BUNDLE }).showCopy b).releaseAll .firmware
  let d : Dev := d.setOb K.FW_STATE (if s = 0 then 4 else 5)
  ((if s = 0 then d.logE 0x5043 b else d), s)

/-- A chunk of FW_BUNDLE whose offset fits. -/
def Dev.fwChunk (d : Dev) (final : Bool) (l : List Byte) (r : Src) : Dev × Option Nat :=
  let s := d.obn K.FW_STATE
  if (s ≠ 2 && s ≠ 3) || d.dict.fwChunk.isSome then (d, some Stat.busy) else
  match d.fwPermit (d.waitLeft (some r)) 1 with
  | (d, some 0) => let (d, s) := d.chunkGo final l; (d, some s)
  | (d, none) => (d.modDict fun x => { x with fwChunk := some (final, l) }, none)
  | r => r

/-! ### FW_ACTIVATE (R530) -/

/-- The copy's generation becomes the other copy's plus 1. -/
def Dev.raiseGen (d : Dev) (b : Nat) : Dev :=
  let g := (d.store.fwGen (1 - b) + 1) % 2 ^ 24
  (({ d with store := d.store.program (copyAddr b + 0x0FFFFD) (beBytes 3 g) }).showCopy b).releaseAll .firmware

/-- Activation by restart, under its permit; RESET_CAUSE has no code for it: a free value (log entry 27). -/
def Dev.actRestart (d : Dev) : Dev :=
  let (c, d) := (d.raiseGen d.otherCopy).event.tookEffect.fresh 3
  d.todo (.restart c)

/-- A keeper goes on in its other bank, from word 0. -/
def Dev.keeperFlip (d : Dev) (k : Nat) : Dev :=
  ((d.bankFlip k).modCore k fun x => { x with rsd := 0, hw := [], pc := 0, wait := .none }).setCoreState k 2

/-- Step 2 and 3 for a keeper, under its bank-swap permit. -/
def Dev.actSwap (d : Dev) (k num : Nat) : Dev :=
  match d.mm.act with
  | none => d.release num
  | some a =>
    if a.keeper ≠ k || a.swapped then d.release num else
    let w := d.store.fwBundle a.copy
    let d := (d.loadBank k true (sectionIn w 0x10) (w.getD 2 0)).modCore k fun x => { x with swapPermit := num }
    (d.keeperFlip k).modMm fun x => { x with act := some { a with swapped := true } }

/-- The steps for a keeper: its roles pass, then it takes the permit. -/
def Dev.actKeeper (d : Dev) (a : FwAct) (k : Nat) : Dev :=
  let d := d.modMm fun x => { x with act := some { a with keeper := k, since := d.now, swapped := false } }
  let d := match d.nextKeeper k with
    | some n => d.each ((List.range 9).filter fun r => d.roleOf r == k) fun d r => d.roleMoveTo r n
    | none => d
  match d.ask (.bank k) 300 1000 4 1000 2 with
  | (d, .granted n) => d.actSwap k n
  | (d, _) => d

/-- The roles go back to the holders of before. -/
def Dev.rolesBack (d : Dev) (l : List Nat) : Dev :=
  d.each (List.range 9) fun d r => if d.coreRuns (l.getD r 16) && d.roleOf r != l.getD r 16 then d.roleMoveTo r (l.getD r 16) else d

/-- The end of a live activation, under its permit. -/
def Dev.actEnd (d : Dev) : Dev :=
  match d.mm.act with
  | none => d.releaseAll .firmware
  | some a =>
    let w := d.store.fwBundle a.copy
    let d := (d.raiseGen a.copy).modMm fun x => { x with act := none }
    let d := { d.modSump fun s => { s with bootCopy := a.copy } with store := { d.store with signer := keySlotOf w } }
    ((d.setOb K.FW_VERSION (w.getD 3 0 : Nat)).setOb K.IMAGE_COPY (a.copy : Nat)).event.setOb K.FW_ACT_STATE 2

/-- A keeper posts ready in its doorbell bit 8. -/
def Dev.keeperReady (d : Dev) (k : Nat) : Dev :=
  match d.mm.act with
  | none => d
  | some a =>
    if a.keeper ≠ k || !a.swapped then d else
    let a := { a with finished := k :: a.finished }
    if k ≠ 16 then d.actKeeper a (k - 1)
    else
      let d := (d.modMm fun x => { x with act := some { a with keeper := 20 } }).rolesBack a.holders
      match d.fwPermit 1000 3 with
      | (d, some 0) => d.actEnd
      | (d, _) => d

/-- FW_ACTIVATE, in the order of R530. A live activation that runs makes another BUSY (log entry 61); one by restart goes on beside it. -/
def Dev.fwActivate (d : Dev) (v : Nat) (r : Src) : Dev × Option Nat :=
  let b := d.otherCopy
  if v ≠ 1 && v ≠ 2 then (d, some Stat.range)
  else if d.obn K.FW_STATE ≠ 4 then (d, some Stat.busy)
  else if v = 1 && d.obn (K.FW_VERSION_AB b) / 65536 ≠ d.obn K.FW_VERSION / 65536 then (d, some Stat.range)
  else if v = 2 then
    match d.fwPermit (d.waitLeft (some r)) 2 with
    | (d, some 0) => (d.actRestart, some Stat.done)
    | r => r
  else if d.mm.act.isSome || !([16, 17, 18, 19].all d.coreRuns) then (d, some Stat.busy)
  else
    let d := (d.event.setOb K.FW_ACT_STATE 1).tookEffect
    (d.actKeeper ⟨19, d.now, b, false, [], (List.range 9).map d.roleOf⟩ 19, some Stat.done)

/-- A keeper was not ready within 1 s: everything goes back (R530). -/
def Dev.actTimeout (d : Dev) : Dev :=
  match d.mm.act with
  | none => d
  | some a =>
    if 20 ≤ a.keeper then d else
    let d := d.upTo (a.since + 1000000000)
    let d := d.each ((if a.swapped then [a.keeper] else []) ++ a.finished) fun d k => d.keeperFlip k
    let d := (d.modMm fun x => { x with act := none }).rolesBack a.holders
    (d.setOb K.FW_ACT_STATE 3).logE 0x5044 0

/-! ### Roles (R533) and keys (R102) -/

/-- ROLE_HOLDER. -/
def Dev.roleWrite (d : Dev) (role v : Nat) : Dev × Nat :=
  if v < 16 || 19 < v then (d, Stat.range)
  else if !d.coreRuns v then (d, Stat.asleep)
  else if d.mm.act.isSome then (d, Stat.busy)
  else ((d.roleMoveTo role v).tookEffect, Stat.done)

/-- REVOKE_KEY. -/
def Dev.revokeKey (d : Dev) (v : Nat) : Dev × Nat :=
  let st := d.store.keyState
  let live := (List.range 4).filter fun k => st.testBit k && !st.testBit (4 + k)
  if 3 < v then (d, Stat.range)
  else if live == [v] || v = d.store.signer then (d, Stat.denied)
  else ({ d.event with store := { d.store with keyState := putBit st (4 + v) true } }, Stat.done)

/-- JTAG_LOCK. -/
def Dev.jtagLock (d : Dev) (v : Nat) : Dev × Nat :=
  if v = 0 && d.obb K.JTAG_LOCK then (d, Stat.denied) else (d.event.setOb K.JTAG_LOCK (v : Nat), Stat.done)

end Sys2Proof.Machine
end

