-- ==== Sys2Proof/Machine/Flags.lean ====
section
/-! DEFINITION. The flags of the Uluen-24 and what each operation gives them (spec 11, R308 to R312). -/
namespace Sys2Proof.Machine

/-- The flags an operation writes; an absent one keeps its value. -/
structure FlagUpd where
  z : Option Bool := none
  n : Option Bool := none
  c : Option Bool := none
  v : Option Bool := none
  d : Option Bool := none
deriving DecidableEq, Repr

/-- FLAGS bits (R273). -/
abbrev Flags := BitVec 5
def flagZ (f : Flags) : Bool := f.getLsbD 4
def flagN (f : Flags) : Bool := f.getLsbD 3
def flagC (f : Flags) : Bool := f.getLsbD 2
def flagV (f : Flags) : Bool := f.getLsbD 1
def flagD (f : Flags) : Bool := f.getLsbD 0

/-- FLAGS from its five bits. -/
def flagsOf (z n c v d : Bool) : Flags := BitVec.ofNat 5 (b2n z * 16 + b2n n * 8 + b2n c * 4 + b2n v * 2 + b2n d)

/-- Write the flags an operation names. -/
def FlagUpd.on (u : FlagUpd) (f : Flags) : Flags :=
  flagsOf (u.z.getD (flagZ f)) (u.n.getD (flagN f)) (u.c.getD (flagC f)) (u.v.getD (flagV f)) (u.d.getD (flagD f))

/-- Z and N of a result. -/
def znOf (r : Word) : FlagUpd := { z := some (r == 0), n := some r.msb }

/-- The add family (R308). -/
def addFlags (a b : Word) (cin : Bool) : Word × FlagUpd :=
  let s := a.toNat + b.toNat + b2n cin
  let r := word s
  (r, { znOf r with c := some (decide (2 ^ 24 ≤ s)), v := some (a.msb == b.msb && r.msb != a.msb) })

/-- The subtract family (R308). -/
def subFlags (a b : Word) (bin : Bool) : Word × FlagUpd :=
  let r := a - b - word (b2n bin)
  (r, { znOf r with c := some (decide (a.toNat < b.toNat + b2n bin)), v := some (a.msb != b.msb && r.msb != a.msb) })

/-- Logic: Z and N. -/
def logicFlags (r : Word) : Word × FlagUpd := (r, znOf r)

/-- The shifts by 0 to 31 (R308). -/
def shlFlags (a : Word) (n : Nat) : Word × FlagUpd :=
  let r := a <<< n
  (r, { znOf r with c := some (if n = 0 then false else if n ≤ 24 then a.getLsbD (24 - n) else false) })

def shrFlags (a : Word) (n : Nat) : Word × FlagUpd :=
  let r := a >>> n
  (r, { znOf r with c := some (if n = 0 then false else if n ≤ 24 then a.getLsbD (n - 1) else false) })

def sarFlags (a : Word) (n : Nat) : Word × FlagUpd :=
  let r := a.sshiftRight n
  (r, { znOf r with c := some (if n = 0 then false else if n ≤ 24 then a.getLsbD (n - 1) else a.msb) })

/-! ### Decimal (R309 to R311) -/

/-- Nibble k. -/
def nib (v : Nat) (k : Nat) : Int := ((v / 16 ^ k % 16 : Nat) : Int)

/-- Put digit k into a result, [3:0] of it. -/
def putDigit (r : Nat) (k : Nat) (s : Int) : Nat := r + wrapN 4 s * 16 ^ k

/-- Digit by digit from digit 0: `f k c` is digit k's sum or difference and its decimal carry. -/
def digits (f : Nat → Int → Int × Int) (c : Int) : Nat × Int :=
  (List.range 6).foldl (fun (x : Nat × Int) k => let (s, c) := f k x.2; (putDigit x.1 k s, c)) (0, c)

/-- The result of a decimal operation with Z and D. -/
def bcdResult (x : Nat × Int) : Word × FlagUpd := (word x.1, { z := some (word x.1 == 0), d := some (x.2 != 0) })

def adddFlags (x y : Word) (d : Bool) : Word × FlagUpd :=
  bcdResult (digits (fun k c => let s := nib x.toNat k + nib y.toNat k + c; if 9 < s then (s - 10, 1) else (s, 0)) (b2n d))

def subdFlags (x y : Word) (d : Bool) : Word × FlagUpd :=
  bcdResult (digits (fun k c => let s := nib x.toNat k - nib y.toNat k - c; if s < 0 then (s + 10, 1) else (s, 0)) (b2n d))

def dajFlags (x y : Word) (cy : Bool) : Word × FlagUpd :=
  let e := x ^^^ y
  let bit := fun (i : Nat) => (b2n (e.getLsbD i) : Int)
  bcdResult (digits (fun k c =>
    let cin : Int := if k = 0 then 0 else bit (4 * k)
    let cout : Int := if k = 5 then b2n cy else bit (4 * k + 4)
    let s := nib x.toNat k + 16 * cout - cin + c
    if 9 < s then (s - 10, 1) else (s, 0)) 0)

/-- CVBD and CVDB (R311). -/
def cvbdFlags (a : Word) : Word × FlagUpd :=
  let v := a.toNat % 1000000
  let r := word ((List.range 6).foldl (fun x k => x + v / 10 ^ k % 10 * 16 ^ k) 0)
  (r, { z := some (r == 0), v := some (decide (999999 < a.toNat)) })

def cvdbFlags (a : Word) : Word × FlagUpd :=
  let r := word ((List.range 6).foldl (fun x k => x + (nib a.toNat k).toNat * 10 ^ k) 0)
  (r, { z := some (r == 0), v := some ((List.range 6).any fun k => decide (9 < nib a.toNat k)) })

/-! ### Conditions (R312) -/

/-- Does condition 0 to 15 hold? -/
def condHolds (k : Nat) (f : Flags) : Bool :=
  let z := flagZ f
  let n := flagN f
  let c := flagC f
  let v := flagV f
  match k with
  | 0 => z
  | 1 => !z
  | 2 => c
  | 3 => !c
  | 4 => n
  | 5 => !n
  | 6 => v
  | 7 => !v
  | 8 => n != v
  | 9 => n == v
  | 10 => z || n != v
  | 11 => !z && n == v
  | 12 => c || z
  | 13 => !c && !z
  | 14 => flagD f
  | _ => true

end Sys2Proof.Machine
end

