-- ==== Sys2Proof/Machine/Operands.lean ====
section
/-! DEFINITION. Operands of the Uluen-24: general and address registers, immediates, address modes, the multiplier (spec 10, 11). -/
namespace Sys2Proof.Machine

/-- A general register; g0 reads 0 (R272). -/
def Core.reg (x : Core) (r : Fin 16) : Word := if r = 0 then 0 else x.g[r]

/-- Write a general register; g0 ignores writes (R272). -/
def Core.setReg (x : Core) (r : Fin 16) (v : Word) : Core := if r = 0 then x else { x with g := x.g.set r v }

/-- A register of a short operation (R303). -/
def shortReg (r : BitVec 3) : Fin 16 := ⟨r.toNat, by have := r.isLt; omega⟩

/-- A 9-bit immediate, sign-extended (R304). -/
def immWord (i : BitVec 9) : Word := i.signExtend 24

/-- The amount of a shift immediate (R314). -/
def shiftAmt (i : BitVec 9) : Nat := i.toNat % 32

/-- The low n bits of a number reversed. -/
def revBits (n v : Nat) : Nat := (List.range n).foldl (fun r i => r + b2n (v.testBit i) * 2 ^ (n - 1 - i)) 0

/-- The value of address register n after a step (R281, R282). -/
def Core.stepped (x : Core) (n : Fin 4) (s : Word) : Word :=
  let a := x.a[n]
  let field := x.amode.toNat / 64 ^ n.val % 64
  let mlen := x.mlen[n].toNat
  match field % 4 with
  | 1 =>
    if mlen = 0 then a + s else
    let off : Int := ((a - x.base[n]).toNat : Int) + sext 24 s.toNat
    x.base[n] + word (off % mlen).toNat
  | 2 =>
    let k := field / 4 + 1
    let r := (revBits k (a.toNat % 2 ^ k) + wrapN k (sext 24 s.toNat)) % 2 ^ k
    word (a.toNat / 2 ^ k * 2 ^ k + revBits k r)
  | _ => a + s

def Core.setA (x : Core) (n : Fin 4) (v : Word) : Core := { x with a := x.a.set n v }

/-! ### The multiplier (R283, R284) -/

/-- MH:ML as a 48-bit number. -/
def Core.acc (x : Core) : Nat := x.mh.toNat * 2 ^ 24 + x.ml.toNat

/-- One operation lands. -/
def Core.landMul (x : Core) (o : MulOp) : Core :=
  let p : Int := if o.kind = 1 then ((o.a.toNat * o.b.toNat : Nat) : Int) else o.a.toInt * o.b.toInt
  let sum : Int := if o.kind = 2 then sext 48 x.acc + p else p
  let r := wrapN 48 sum
  { x with mh := word (r / 2 ^ 24), ml := word r, ov := x.ov || (o.kind == 2 && (decide (sum < -(2 ^ 47)) || decide (2 ^ 47 ≤ sum))) }

/-- GIE at an instruction boundary in cycle n: a store to CORE_CTRL acts once its access has completed (R317). -/
def Core.gieAt (x : Core) (n : Nat) : Bool := if x.accEnds ≤ n then x.gieDue.getD x.gie else x.gie

/-- An outstanding store to CORE_CTRL, in cycle n. -/
def Core.landGie (x : Core) (n : Nat) : Core := { x with gie := x.gieAt n, gieDue := if x.accEnds ≤ n then none else x.gieDue }

/-- Every multiplication that lands before cycle n lands, in issue order, and so does a store to CORE_CTRL. -/
def Core.landBefore (x : Core) (n : Nat) : Core :=
  let due := x.mulq.filter fun o => decide (o.lands < n)
  due.foldl Core.landMul { x.landGie n with mulq := x.mulq.filter fun o => !decide (o.lands < n) }

/-- Issue an operation in cycle n. -/
def Core.issueMul (x : Core) (kind : Nat) (a b : Word) (n : Nat) : Core := { x with mulq := x.mulq ++ [⟨kind, a, b, n + 2⟩] }

end Sys2Proof.Machine
end

