-- ==== Sys2Proof/Machine/Space.lean ====
section
/-! DEFINITION. What cores and the host reach by address: the block control spaces, private I/O, special registers and memories
(spec 04 R103 to R110; 10 R273, R300, R301; 18 R494 to R514). -/
namespace Sys2Proof.Machine

/-! ### Port words and timestamp FIFOs (R151, R193, R194) -/

/-- PORT_FLAGS, VTF_MISSING among them. -/
def Dev.portFlags (d : Dev) (p : Nat) : Nat :=
  putBit (d.obn (K.PORT_FLAGS p)) 9 (d.portMode p == 7 && d.obn (K.P_WB_ENABLE p) != 0 && !(d.tile (tileOf p)).vtfPresent)

/-- May an agent pop a timestamp FIFO? -/
def Dev.tsAgent (d : Dev) (agent idx : Nat) : Bool :=
  if idx < 96 then d.boundCore idx == some agent else agent == d.roleOf 3

/-- Word 0 of a latched record. -/
def tsWord0 (r : TsRec) (left : Nat) : Nat := 2 ^ 23 + b2n r.dropped * 2 ^ 22 + r.tag * 256 + left

/-- Pop a record, or clear the latch. -/
def Dev.tsPop (d : Dev) (idx : Nat) : Dev × Nat :=
  match (d.mac idx).fifo with
  | [] => (d.modMac idx fun x => { x with latch := none }, 0)
  | r :: l => (d.modMac idx fun x => { x with fifo := l, latch := some r }, tsWord0 r l.length)

/-- A read of a word of a timestamp FIFO. -/
def Dev.tsRead (d : Dev) (agent idx w : Nat) : Dev × Nat :=
  if !d.tsAgent agent idx then (d, 0) else
  if w = 0 then d.tsPop idx else
  match (d.mac idx).latch with
  | none => (d, 0)
  | some r => (d, [0, r.secs / 2 ^ 24, r.secs % 2 ^ 24, r.ns / 2 ^ 24, r.ns % 2 ^ 24].getD w 0)

/-- ERR_REPORT by the bound core, in the runnel modes. -/
def Dev.errReport (d : Dev) (agent p v : Nat) : Dev :=
  if d.boundCore p == some agent && decide (4 ≤ d.portMode p) then d.errCount p (v % 256) else d

/-! ### Gather words (R510) -/

/-- 24 bits of a bit set. -/
def setWord (v w : Nat) : Nat := v / 2 ^ (24 * w) % 2 ^ 24

/-- The core that may write a gather word. -/
def Dev.gcOwner (d : Dev) (w : Nat) : Nat := let o := d.obn (K.GC_OWNER w); if o = 31 then d.roleOf 0 else o

/-- A new route: the lines that it leaves and joins follow. -/
def Dev.setRoute (d : Dev) (s v : Nat) : Dev :=
  let ep := bits v 23 19
  if 20 < ep || (ep < 20 && bits v 18 14 = 31) then d else
  let old := d.routeOf s
  let d := d.setOb (K.GC_ROUTE s) (bits v 23 13 * 2 ^ 13 : Nat)
  (d.postLine old.1 old.2).postLine ep (bits v 18 14)

/-! ### The block control spaces -/

/-- The power domain of a MAC: its tile's, or its uplink's (R16). -/
def macDomain (idx : Nat) : Nat := if idx < 96 then 36 + tileOf idx else 40 + (idx - 96)

/-- The program word that an offset of the engine space names (R267). -/
def Dev.progAddr (d : Dev) (e ofs : Nat) : Nat := let w := (ofs - 0x800) / 256 % 4; runAddr e w (if ofs < 0xC00 then !d.activeBank e w else d.activeBank e w) (ofs % 256)

/-- The status and value of a read by an agent (0 to 19 cores, 20 host). -/
def Dev.blockRead (d : Dev) (agent a : Nat) : Dev × Nat × Nat :=
  let ok := fun (x : Dev × Nat) => (x.1, x.2, Stat.done)
  let o := a - 0x300000
  if o < 0x180 then
    let p := o / 4
    (d, if o % 4 = 0 then d.portState p * 2 ^ 21 + d.obn (K.PORT_CAUSE p) % 32 * 2 ^ 16 + d.portFlags p % 2 ^ 16 else 0, Stat.done)
  else if 0x1000 ≤ o && o < 0x1300 then ok (d.inputRead agent ((o - 0x1000) / 8) (o % 8))
  else if 0x2000 ≤ o && o < 0x2320 then
    if !d.domOn (macDomain ((o - 0x2000) / 8)) then (d, 0, Stat.asleep) else ok (d.tsRead agent ((o - 0x2000) / 8) (o % 8))
  else if 0x3000 ≤ o && o < 0x3800 then (d, d.ctxWord ((o - 0x3000) / 16) (o % 16), Stat.done)
  else if 0x4000 ≤ o && o < 0x4080 then ok (d.tbRead ((o - 0x4000) / 16) (o % 16))
  else if 0x4080 ≤ o && o < 0x40C0 then ok (d.ppsRead agent ((o - 0x4080) / 16) (o % 16))
  else if 0x5000 ≤ o && o < 0x5600 then ok (d.segRead ((o - 0x5000) / 16) (o % 16))
  else if 0x6000 ≤ o && o < 0x6800 then (d, d.obn (K.GC_ROUTE (o - 0x6000)), Stat.done)
  else if 0x6800 ≤ o && o < 0x6856 then (d, setWord d.gather.en (o - 0x6800), Stat.done)
  else if 0x6880 ≤ o && o < 0x68D6 then (d, setWord d.gather.fired (o - 0x6880), Stat.done)
  else if 0x6900 ≤ o && o < 0x6956 then (d, setWord d.gather.pend (o - 0x6900), Stat.done)
  else if (0x6980 ≤ o && o < 0x69D6) || (0x6A00 ≤ o && o < 0x6A56) then (d, 0, Stat.done)
  else if 0x6B00 ≤ o && o < 0x6B56 then (d, d.obn (K.GC_OWNER (o - 0x6B00)), Stat.done)
  else if o = 0x7000 || o = 0x8000 then (d, 0, Stat.done)
  else if 0x10000 ≤ o && o < 0x28000 && 4 ≤ o % 0x400 then (d, d.slotRead ((o - 0x10000) / 0x400) (o % 0x400 / 4) (o % 4), Stat.done)
  else if 0x40000 ≤ o && o < 0xA0000 then
    let p := (o - 0x40000) / 0x1000
    if !d.domOn (36 + tileOf p) then (d, 0, Stat.asleep) else ok (d.busRead p (o % 0x1000) (d.boundCore p == some agent))
  else if 0xA0000 ≤ o && o < 0xAC000 then
    let e := (o - 0xA0000) / 0x1000
    let ofs := o % 0x1000
    if !d.domOn (24 + e) then (d, 0, Stat.asleep)
    else if 0x100 ≤ ofs && ofs < 0x200 && ofs % 32 = 16 then
      let c := 8 * e + (ofs - 0x100) / 32
      if d.boundCore c == some agent then ok (d.corePop c) else (d, 0, Stat.done)
    else if 0x800 ≤ ofs && d.poisoned (d.progAddr e ofs) then (d, 0, Stat.poison)
    else (d, d.engRead e ofs, Stat.done)
  else (d, 0, Stat.internal)

/-- LOG_POST by a core (R514). -/
def Dev.logPost (d : Dev) (agent v : Nat) : Dev :=
  if 20 ≤ agent || (agent < 16 && bits v 15 12 < 14) then d else d.logE (bits v 15 0) (bits v 23 16)

/-- The kick of the device watchdog (R534). -/
def Dev.kick (d : Dev) (agent : Nat) : Dev :=
  if agent = d.roleOf 1 && d.mode != 0 then { d with sump := { d.sump with kickAt := d.now } } else d

/-- Does an agent have a context on a port of an engine, or hold a keeper (R267)? -/
def Dev.engAgent (d : Dev) (agent e : Nat) : Bool :=
  (decide (16 ≤ agent) && decide (agent < 20)) || (List.range 8).any fun k => d.boundCore (8 * e + k) == some agent

/-- The status of a write by an agent. -/
def Dev.blockWrite (d : Dev) (agent a v : Nat) : Dev × Nat :=
  let o := a - 0x300000
  let keeper := decide (16 ≤ agent) && decide (agent < 20)
  if o < 0x180 then (if o % 4 = 1 then d.errReport agent (o / 4) v else d, Stat.done)
  else if 0x1000 ≤ o && o < 0x1300 then (d, Stat.done)
  else if 0x2000 ≤ o && o < 0x2320 then (d, if d.domOn (macDomain ((o - 0x2000) / 8)) then Stat.done else Stat.asleep)
  else if 0x3000 ≤ o && o < 0x3800 then (d.ctxWrite agent ((o - 0x3000) / 16) (o % 16) v, Stat.done)
  else if 0x4000 ≤ o && o < 0x4080 then (d.tbWrite agent ((o - 0x4000) / 16) (o % 16) v, Stat.done)
  else if 0x4080 ≤ o && o < 0x40C0 then (d, Stat.done)
  else if 0x5000 ≤ o && o < 0x5600 then (d, Stat.done)
  else if 0x6000 ≤ o && o < 0x6800 then
    let s := o - 0x6000
    (if agent = d.gcOwner (s / 24) then d.setRoute s v else d, Stat.done)
  else if 0x6800 ≤ o && o < 0x6856 then
    (if agent = d.gcOwner (o - 0x6800) then d.gcEnWrite (o - 0x6800) v else d, Stat.done)
  else if (0x6880 ≤ o && o < 0x68D6) || (0x6900 ≤ o && o < 0x6956) then (d, Stat.done)
  else if 0x6980 ≤ o && o < 0x69D6 then (d.gcClear (gatherSet (o - 0x6980) v), Stat.done)
  else if 0x6A00 ≤ o && o < 0x6A56 then (d.each (gatherSet (o - 0x6A00) v) fun d s => d.raise s, Stat.done)
  else if 0x6B00 ≤ o && o < 0x6B56 then
    (if keeper && (v % 32 ≤ 20 || v % 32 = 31) then d.setOb (K.GC_OWNER (o - 0x6B00)) (v % 32 : Nat) else d, Stat.done)
  else if o = 0x7000 then (d.logPost agent v, Stat.done)
  else if o = 0x8000 then (d.kick agent, Stat.done)
  else if 0x10000 ≤ o && o < 0x28000 && 4 ≤ o % 0x400 then (d, Stat.done)
  else if 0x40000 ≤ o && o < 0xA0000 then
    let p := (o - 0x40000) / 0x1000
    if !d.domOn (36 + tileOf p) then (d, Stat.asleep)
    else (if d.boundCore p == some agent then d.busWrite p (o % 0x1000) v else d, Stat.done)
  else if 0xA0000 ≤ o && o < 0xAC000 then
    let e := (o - 0xA0000) / 0x1000
    let ofs := o % 0x1000
    if !d.domOn (24 + e) then (d, Stat.asleep)
    else if 0x100 ≤ ofs && ofs < 0x200 then
      let c := 8 * e + (ofs - 0x100) / 32
      let bound := d.boundCore c == some agent
      (if keeper || bound then d.chWrite c (ofs % 32) v bound else d, Stat.done)
    else (if d.engAgent agent e then d.engWrite e ofs v Stat.busy else d, Stat.done)
  else (d, Stat.internal)

/-! ### Mailbox words (R492 to R498) -/

/-- A mailbox status word. -/
def Dev.mbStatus (d : Dev) (e m : Nat) : Nat :=
  b2n ((d.ep e).full.contains m) * 2 ^ 23 + b2n ((d.ep e).collide.contains m) * 2 ^ 22 + b2n (d.obb (K.EP_MB_WAKE e m)) * 2 ^ 21 +
    bits (d.ld (mailAddr e m 0)) 23 19 * 2 ^ 15 + d.obn (K.EP_EPOCH e) % 4096

/-- A write of a mailbox status word. -/
def Dev.mbStatusWrite (d : Dev) (e m v : Nat) : Dev :=
  let d := if v.testBit 22 then d.modEp e fun x => { x with collide := x.collide.erase m } else d
  let d := d.hostLevels fun d => d.setOb (K.EP_MB_WAKE e m) (bits v 21 21 : Nat)
  if v.testBit 20 then d.ackMail e m else d

/-- A read of word w of an own mailbox; the last word of the message acknowledges it (R497). -/
def Dev.mbRead (d : Dev) (e m w : Nat) : Dev × Nat :=
  let v := d.ld (mailAddr e m w)
  (if (d.ep e).full.contains m && w = bits (d.ld (mailAddr e m 0)) 18 15 then d.ackMail e m else d, v)

/-- A write into a send window. -/
def Dev.mbSend (d : Dev) (src dst m w v : Nat) : Dev × Nat :=
  if !d.epOn dst then (d, Stat.asleep) else (if w = 0 then d.post src dst m v else d.mbBody dst m w v, Stat.done)

/-! ### Special registers (R273, R286, R295, R297) -/

/-- The cycle in which a core's next instruction issues. -/
def Dev.cycleOf (d : Dev) (c : Nat) : Nat := max (d.core c).cyc ((d.now - (d.core c).resetAt) / 2)

/-- TAGFREE and TAGDONE. -/
def Core.tagFree (x : Core) : Nat :=
  match (List.range 32).find? fun t => x.far.all fun r => r.tag != t with
  | some t => (32 - x.far.length) * 256 + t
  | none => 32

def Core.tagDone (x : Core) : Nat :=
  let l := x.far.filter fun r => r.done.isSome
  match l with
  | [] => 0
  | _ => 2 ^ 23 + l.length * 256 + l.foldl (fun a r => min a r.tag) 31

/-- Read a special register, with its latching. -/
def Dev.srRead (d : Dev) (c n : Nat) : Dev × Nat :=
  let x := d.core c
  match n with
  | 0 => (d, x.flags.toNat)
  | 1 => (d, x.dsp.toNat)
  | 2 => (d, x.dsl.toNat)
  | 3 => (d, x.rsd)
  | 4 => (d, x.rsb.toNat)
  | 5 => (d, x.mh.toNat)
  | 6 => (d, x.ml.toNat)
  | 7 => (d, b2n x.ov * 2 + b2n (!x.mulq.isEmpty))
  | 8 => (d, x.amode.toNat)
  | 17 => (d, x.ctx.toNat)
  | 18 => (d, d.obn (K.EP_EPOCH c))
  | 19 => (d.modCore c fun x => { x with cycHi := word (d.cycleOf c / 2 ^ 24) }, d.cycleOf c % 2 ^ 24)
  | 20 => (d, x.cycHi.toNat)
  | 21 => (d, x.tagFree)
  | 22 => (d, x.tagDone)
  | 23 => (d, x.ivbase.toNat)
  | 24 => (d, x.imod)
  | 25 => (d, c)
  | 26 => (d.modCore c fun x => { x with t0mid := word (d.now / 2 ^ 24), t0hi := word (d.now / 2 ^ 48) }, d.now % 2 ^ 24)
  | 27 => (d, x.t0mid.toNat)
  | 28 => (d, x.t0hi.toNat)
  | 29 => (d, x.faultWord)
  | 30 => (d, d.bankWord c)
  | 31 => (d, (x.wdogAt + wdogPeriod c - d.now) / 1000)
  | _ => if n < 13 then (d, (x.base.toList.getD (n - 9) 0).toNat) else if n < 17 then (d, (x.mlen.toList.getD (n - 13) 0).toNat) else (d, 0)

/-- Write a special register. -/
def Dev.srWrite (d : Dev) (c n v : Nat) : Dev :=
  let w := word v
  let m := fun (f : Core → Core) => d.modCore c f
  match n with
  | 0 => m fun x => { x with flags := BitVec.ofNat 5 v }
  | 1 => m fun x => { x with dsp := w }
  | 2 => m fun x => { x with dsl := w }
  | 3 => if v = 0 then m fun x => { x with rsd := 0, hw := [] } else d.otherFault c 6
  | 4 => if 32 < (d.core c).rsd then d.otherFault c 6 else m fun x => { x with rsb := w }
  | 5 => m fun x => { x with mh := w }
  | 6 => m fun x => { x with ml := w }
  | 7 => if v.testBit 1 then d else m fun x => { x with ov := false }
  | 8 => m fun x => { x with amode := w }
  | 9 => m fun x => { x with base := x.base.set 0 w }
  | 10 => m fun x => { x with base := x.base.set 1 w }
  | 11 => m fun x => { x with base := x.base.set 2 w }
  | 12 => m fun x => { x with base := x.base.set 3 w }
  | 13 => m fun x => { x with mlen := x.mlen.set 0 w }
  | 14 => m fun x => { x with mlen := x.mlen.set 1 w }
  | 15 => m fun x => { x with mlen := x.mlen.set 2 w }
  | 16 => m fun x => { x with mlen := x.mlen.set 3 w }
  | 17 => m fun x => { x with ctx := word (v % 256) }
  | 23 => m fun x => { x with ivbase := word (bits v 14 9 * 512) }
  | 24 => m fun x => { x with imod := v % 256 }
  | 29 => m fun x => { x with faultKind := 0, faultCount := 0, faultStatus := 0 }
  | 30 => d.bankWrite c v
  | 31 => d.feedWdog c
  | _ => d

/-! ### The local interrupt unit (R505 to R508) -/

/-- Sources of word i of a three-word set. -/
def lanes64 (i v : Nat) : List Nat := (laneBits i v).filter fun s => decide (s < 64)

/-- Is a source's pending state latched at an edge, and can it be raised at all? -/
def Core.edgeSensed (x : Core) (s : Nat) : Bool := 2 ≤ x.senseOf s && s != 14 && s != 15

def Dev.pendSet (d : Dev) (c i v : Nat) : Dev :=
  d.modCore c fun x => { x with pend := ((lanes64 i v).filter x.edgeSensed).foldl (fun p s => putBit p s true) x.pend }

def Dev.pendClr (d : Dev) (c i v : Nat) : Dev :=
  d.modCore c fun x => { x with pend := ((lanes64 i v).filter x.edgeSensed).foldl (fun p s => putBit p s false) x.pend }

def Dev.maskSet (d : Dev) (c i v : Nat) : Dev := d.modCore c fun x => { x with mask := (lanes64 i v).foldl (fun p s => putBit p s true) x.mask }
def Dev.maskClr (d : Dev) (c i v : Nat) : Dev := d.modCore c fun x => { x with mask := (lanes64 i v).foldl (fun p s => putBit p s false) x.mask }

/-- A read of the unit: value, or none at an address that is not listed. -/
def Dev.unitRead (d : Dev) (c o : Nat) : Option Nat :=
  let x := d.core c
  if o = 0 then some ((d.winner c (d.heldOff c)).getD 0xFFFFFF)
  else if 4 ≤ o && o < 7 then some (setWord ((List.range 64).foldl (fun v s => putBit v s (d.srcPending c s)) 0) (o - 4))
  else if (8 ≤ o && o < 11) || (12 ≤ o && o < 15) || (0x14 ≤ o && o < 0x17) || (0x18 ≤ o && o < 0x1B) then some 0
  else if 0x10 ≤ o && o < 0x13 then some (setWord x.mask (o - 0x10))
  else if 0x1C ≤ o && o < 0x1F then some (setWord x.moder (o - 0x1C))
  else if 0x40 ≤ o && o < 0x80 then some (x.senseOf (o - 0x40))
  else if o = 0x80 then some (match x.imodEnds with
    | some t => (t - d.now + 999) / 1000
    | none => 0)
  else none

/-- A write of the unit, none at an address that is not listed. -/
def Dev.unitWrite (d : Dev) (c o v : Nat) : Option Dev :=
  if o = 0 || (4 ≤ o && o < 7) || (0x10 ≤ o && o < 0x13) || o = 0x80 then some d
  else if 8 ≤ o && o < 11 then some (d.pendSet c (o - 8) v)
  else if 12 ≤ o && o < 15 then some (d.pendClr c (o - 12) v)
  else if 0x14 ≤ o && o < 0x17 then some (d.maskSet c (o - 0x14) v)
  else if 0x18 ≤ o && o < 0x1B then some (d.maskClr c (o - 0x18) v)
  else if 0x1C ≤ o && o < 0x1F then
    let put := fun (m s : Nat) => if 16 ≤ s && s < 63 then putBit m s (v.testBit (s % 24)) else m
    some (d.modCore c fun x => { x with moder := ((List.range 24).map fun b => 24 * (o - 0x1C) + b).foldl put x.moder })
  else if 0x40 ≤ o && o < 0x80 then
    let s := o - 0x40
    some (if 16 ≤ s && s < 63 && v % 8 < 5 then d.modCore c fun x => { x with sense := mput x.sense s (v % 8) } else d)
  else none

/-! ### Private I/O (R300, R301) -/

/-- A load from private I/O: value and status. -/
def Dev.privRead (d : Dev) (c o : Nat) : Dev × Nat × Nat :=
  if o < 0x80 then
    if d.poisoned (mailAddr c (o / 16) (o % 16)) then (d, 0, Stat.poison)
    else let (d, v) := d.mbRead c (o / 16) (o % 16); (d, v, Stat.done)
  else if o < 0x88 then (d, d.mbStatus c (o - 0x80), Stat.done)
  else if 0x100 ≤ o && o < 0xB80 then
    let e := (o - 0x100) / 128
    let m := o % 128 / 16
    if o % 16 = 0 then (d, d.sendStatus c e m, Stat.done) else let (v, d) := d.fresh 24; (d, v, Stat.done)
  else if 0xC00 ≤ o && o < 0xC15 then
    let e := o - 0xC00
    (if e = c then d.readBell e else d, d.bell e, Stat.done)
  else if 0x1000 ≤ o && o < 0x1100 then
    match d.unitRead c (o - 0x1000) with
    | some v => (d, v, Stat.done)
    | none => (d, 0, Stat.internal)
  else if o = 0x2000 then (d, b2n ((d.core c).gieAt (d.cycleOf c)), Stat.done)
  else if o = 0x2001 then (d, (d.core c).tmrPeriod, Stat.done)
  else if o = 0x2002 then (d, (d.core c).mbto, Stat.done)
  else if o = 0x2003 then (d, (d.core c).faultAddr.toNat, Stat.done)
  else if 0xF000 ≤ o && o < 0xF020 then let (d, v) := d.srRead c (o - 0xF000); (d, v, Stat.done)
  else (d, 0, Stat.internal)

/-- A store to private I/O: status. -/
def Dev.privWrite (d : Dev) (c o v : Nat) : Dev × Nat :=
  if o < 0x80 then (d.st (mailAddr c (o / 16) (o % 16)) v, Stat.done)
  else if o < 0x88 then (d.mbStatusWrite c (o - 0x80) v, Stat.done)
  else if 0x100 ≤ o && o < 0xB80 then d.mbSend c ((o - 0x100) / 128) (o % 128 / 16) (o % 16) v
  else if 0xC00 ≤ o && o < 0xC15 then (d.ring (o - 0xC00) v, Stat.done)
  else if 0x1000 ≤ o && o < 0x1100 then
    match d.unitWrite c (o - 0x1000) v with
    | some d => (d, Stat.done)
    | none => (d, Stat.internal)
  else if o = 0x2000 then (d.modCore c fun x => { x with gieDue := some (v.testBit 0) }, Stat.done)
  else if o = 0x2001 then (d.setTimer c v, Stat.done)
  else if o = 0x2002 then (if v = 0 then d else d.modCore c fun x => { x with mbto := v }, Stat.done)
  else if o = 0x2003 then (d, Stat.done)
  else if 0xF000 ≤ o && o < 0xF020 then (d.srWrite c (o - 0xF000) v, Stat.done)
  else (d, Stat.internal)

/-! ### Shared memories (R103, R105) -/

/-- Is an address in a shared memory that is read and written by words: Hatch, Larder, Pantry, motion store, Attic? -/
def isShared (a : Nat) : Bool :=
  (decide (0x40000 ≤ a) && decide (a < 0x50000)) || (decide (0x100000 ≤ a) && decide (a < 0x2E0000))

def isMotion (a : Nat) : Bool := decide (0x280000 ≤ a) && decide (a < 0x2C0000)
def isAttic (a : Nat) : Bool := decide (0x2C0000 ≤ a) && decide (a < 0x2E0000)
def isBlock (a : Nat) : Bool := decide (0x300000 ≤ a) && decide (a < 0x400000)
def isCellar (a : Nat) : Bool := decide (0x400000 ≤ a) && decide (a < 0x800000)

/-- The record of an axis that has not been built yet is built before its words are reached (R488; log entry 17). -/
def Dev.recReady (d : Dev) (a : Nat) : Dev :=
  let ax := (a - 0x280000) / 64
  if isMotion a && d.domOn 3 && (mget? d.motion.axes ax).isNone then d.buildAxis ax 0 else d

/-- Is the domain of a shared memory off (R17)? -/
def Dev.sharedOff (d : Dev) (a : Nat) : Bool := (isMotion a && !d.domOn 3) || (isAttic a && !d.domOn 1)

/-- A reserved word of the Hatch: it reads 0, and ignores a write (R3, R84). -/
def hatchReserved (a : Nat) : Bool := decide (0x4000A ≤ a) && decide (a < 0x40100)

/-- Read a word of a shared memory. -/
def Dev.sharedRead (d : Dev) (a : Nat) : Dev × Nat × Nat :=
  if d.sharedOff a then (d, 0, Stat.asleep) else
  let d := d.recReady a
  if d.poisoned a then (d, 0, Stat.poison) else (d, d.ld a, Stat.done)

/-- What the Pantry keeps of a word written to a node slot or a list header: reserved bits stay 0 (R3, R327, R384). -/
def pantryKeep (a v : Nat) : Nat :=
  if 0x200000 ≤ a && a < 0x260000 then (if a % 8 = 0 then v &&& 0x9EFFFF else v)
  else if 0x260000 ≤ a && a < 0x270000 then (if a % 4 = 1 then v % 2 ^ 20 else listKeep (a % 4) v)
  else v

/-- Word k of a body whose word 0 is h, without its reserved bits (R3, R385). -/
def bodyKeep (h k v : Nat) : Nat :=
  let n := if h.testBit 23 then 4 else 2
  if k = 0 then bits v 23 23 * 2 ^ 23 + v % 256 else if (k - 1) % n = 0 then v / 4 * 4 else if (k - 1) % n = 1 then v % 2 ^ 20 else v

/-- The bodies in the body area: those of the lists and of the templates' segments (R384, R397). -/
def Dev.bodyBases (d : Dev) : List Nat :=
  (d.cellar.lists.map fun e => 0x260000 + bits (d.ld (0x260002 + 4 * e.1)) 16 0) ++
  d.cellar.tpls.flatMap fun e => (List.range (bits (d.ld e.2.hdr) 12 9)).map fun s => 0x260000 + bits (d.ld (e.2.hdr + 10 + 3 * s)) 16 0

/-- What the body area keeps of a word written to a template's header or segment, or to a body: reserved bits stay 0 (R3, R385, R397). -/
def Dev.areaKeep (d : Dev) (a v : Nat) : Nat :=
  match d.cellar.tpls.find? fun e => decide (e.2.hdr ≤ a) && decide (a < e.2.hdr + 8 + 3 * bits (d.ld e.2.hdr) 12 9) with
  | some e =>
    let k := a - e.2.hdr
    let w := tplKeep (d.ld e.2.hdr) k v
    if 8 ≤ k && (k - 8) % 3 = 0 then w % 2 ^ 20 else w
  | none =>
    match d.bodyBases.find? fun b => decide (b ≤ a) && decide (a ≤ b + bits (d.ld b) 7 0 * (if (d.ld b).testBit 23 then 4 else 2)) with
    | some b => bodyKeep (d.ld b) (a - b) v
    | none => v

/-- What an endpoint area keeps of a word 0 of a ring's descriptor: [17:12] are reserved (R3, R366). -/
def Dev.ringKeep (d : Dev) (a v : Nat) : Nat :=
  let at_ := fun (e base size : Nat) => decide (ringAddr e base ≤ a) && decide (a < ringAddr e base + 2 * size) && (a - ringAddr e base) % 2 == 0
  if (List.range 21).any fun e => at_ e (d.obn (K.RING_RX_BASE e)) (d.obn (K.RING_RX_SIZE e)) || at_ e (d.obn (K.RING_TX_BASE e)) (d.obn (K.RING_TX_SIZE e))
  then v / 2 ^ 18 * 2 ^ 18 + v % 2 ^ 12 else v

/-- What a shared memory keeps of a word written to it. -/
def Dev.sharedKeep (d : Dev) (a v : Nat) : Nat :=
  if 0x270000 ≤ a && a < 0x280000 then d.areaKeep a v
  else if (0x1C0000 ≤ a && a < 0x1E0000) || (0x48900 ≤ a && a < 0x50000) then d.ringKeep a v
  else pantryKeep a v

/-- Write a word of a shared memory. -/
def Dev.sharedWrite (d : Dev) (a v : Nat) : Dev × Nat :=
  if d.sharedOff a then (d, Stat.asleep) else if hatchReserved a then (d, Stat.done) else ((d.recReady a).st a (d.sharedKeep a v), Stat.done)

/-- The agent's last store to a shared memory is kept, until the interconnect has served it (R32). -/
def Dev.noteStore (d : Dev) (agent a v : Nat) : Dev := { d with stores := mput d.stores agent ⟨a, d.ld a, v, d.poisoned a⟩ }

/-- A store by a core, or a write by the host (agent 20), to a shared memory. -/
def Dev.sharedStore (d : Dev) (agent a v : Nat) : Dev × Nat := (d.noteStore agent a (d.sharedKeep a v)).sharedWrite a v

/-- A store that the interconnect has not served is dropped: the word holds what it held before (R32, R275). -/
def Dev.storeDropped (d : Dev) (agent a : Nat) : Dev :=
  match mget? d.stores agent with
  | none => d
  | some x =>
    if x.addr ≠ a || d.ld a ≠ x.new then d else
    let d := { d.st a x.old with stores := mdel d.stores agent }
    if x.bad then { d with poison := insNat a d.poison } else d

/-! ### Loads and stores of a core (R105, R106, R119) -/

/-- The peer windows: the core and the word, with whether the window exists at that address. -/
def peerLocal (a : Nat) : Option (Nat × Nat) :=
  if 0x800000 ≤ a && a < 0xA00000 then some ((a - 0x800000) / 0x10000, a % 0x10000) else none

def peerShadow (a : Nat) : Option (Nat × Nat) :=
  if 0xA00000 ≤ a && a < 0xC00000 then some ((a - 0xA00000) / 0x10000, a % 0x10000) else none

/-- Does a peer window word exist? -/
def peerExists (a : Nat) : Bool :=
  match peerLocal a, peerShadow a with
  | some (k, o), _ => decide (k < 20) && decide (o < localWords k)
  | _, some (k, o) => decide (k < 20) && decide (o < 0x8000)
  | _, _ => false

/-- A load: value and status. A plain access to a part of a peer window that holds nothing is named by both lists of R106: it answers INTERNAL
(DESIGN CHOICE, log entry 60). -/
def Dev.loadWord (d : Dev) (c a : Nat) : Dev × Nat × Nat :=
  if a < 0x10000 then
    if localWords c ≤ a then (d, 0, Stat.internal)
    else if d.poisoned (localAddr c a) then (d, 0, Stat.poison) else (d, d.ld (localAddr c a), Stat.done)
  else if a < 0x20000 then d.privRead c (a - 0x10000)
  else if isShared a then d.sharedRead a
  else if isBlock a then d.blockRead c a
  else if isCellar a then
    let (d, v, bad) := d.gateLoad c ((a - 0x400000) / 4) (a % 4)
    if bad then (d, 0, Stat.poison) else (d, v, Stat.done)
  else (d, 0, if peerExists a then Stat.denied else Stat.internal)

/-- A store: status. -/
def Dev.storeWord (d : Dev) (c a v : Nat) : Dev × Nat :=
  if a < 0x10000 then
    if localWords c ≤ a then (d, Stat.internal) else ((d.st (localAddr c a) v).winTouched c a, Stat.done)
  else if a < 0x20000 then d.privWrite c (a - 0x10000) v
  else if isAttic a && c < 16 then (d, Stat.denied)
  else if isShared a then d.sharedStore c a v
  else if isBlock a then d.blockWrite c a v
  else if isCellar a then d.gateStore c ((a - 0x400000) / 4) (a % 4) v
  else (d, if peerExists a then Stat.denied else Stat.internal)

/-! ### Far words (R107, R285, R393, R298) -/

/-- The end of the far range that holds an address, 0 where none does. -/
def farEnd (a : Nat) : Nat :=
  if 0x40000 ≤ a && a < 0x50000 then 0x50000
  else if 0x100000 ≤ a && a < 0x200000 then 0x200000
  else if 0x200000 ≤ a && a < 0x280000 then 0x280000
  else if isMotion a then 0x2C0000
  else if isAttic a then 0x2E0000
  else if isBlock a then 0x400000
  else if isCellar a then 0x800000
  else if peerExists a then
    match peerLocal a with
    | some (k, _) => 0x800000 + 0x10000 * k + localWords k
    | none => a / 0x10000 * 0x10000 + 0x8000
  else 0

/-- What R106 answers a far address with at once. A weir's far request to its own local words above 0x007FFF is named by both lists: it answers DENIED
(DESIGN CHOICE, log entry 60). -/
def farRefused (c a : Nat) (writes : Bool) : Nat :=
  if a < 0x20000 then Stat.denied
  else if farEnd a = 0 then Stat.internal
  else if writes && isAttic a && c < 16 then Stat.denied
  else Stat.done

/-- Read one far word. -/
def Dev.farRead (d : Dev) (c a : Nat) : Dev × Nat × Nat :=
  match peerLocal a, peerShadow a with
  | some (k, o), _ =>
    if !d.epOn k then (d, 0, Stat.asleep) else
    if d.poisoned (localAddr k o) then (d, 0, Stat.poison) else (d, d.ld (localAddr k o), Stat.done)
  | _, some (k, o) =>
    let w := bankAddr k (1 - d.activeOf k) o
    if !d.epOn k then (d, 0, Stat.asleep) else if d.poisoned w then (d, 0, Stat.poison) else (d, d.ld w, Stat.done)
  | _, _ =>
    if isShared a then d.sharedRead a
    else if isBlock a then d.blockRead c a
    else
      let d := d.modCellar fun x => { x with latch := mdel x.latch c }
      if d.poisoned a then (d, 0, Stat.poison) else (d, d.ld a, Stat.done)

/-- Write one far word. -/
def Dev.farWrite (d : Dev) (c a v : Nat) : Dev × Nat :=
  match peerLocal a, peerShadow a with
  | some (k, o), _ => if !d.epOn k then (d, Stat.asleep) else ((d.st (localAddr k o) v).winTouched k o, Stat.done)
  | _, some (k, o) =>
    if !d.epOn k then (d, Stat.asleep) else if (d.core k).swapPending then (d, Stat.busy)
    else (d.st (bankAddr k (1 - d.activeOf k) o) v, Stat.done)
  | _, _ =>
    if isShared a then d.sharedWrite a v
    else if isBlock a then d.blockWrite c a v
    else d.gateStore c ((a - 0x400000) / 4) (a % 4) v

end Sys2Proof.Machine
end

