-- ==== Sys2Proof/Machine/Reads.lean ====
section
/-! DEFINITION. What objects read: the stored value, or the one that the block computes (the object tables of every chapter). -/
namespace Sys2Proof.Machine

/-- The bytes of a text. -/
def textBytes (s : String) : List Byte := s.toList.map fun c => BitVec.ofNat 8 c.toNat

/-- The identity strings (R101). -/
def Dev.textOf (d : Dev) (key : Nat) : String :=
  match key with
  | 0x000000 => "HORXEL"
  | 0x000001 => "NOASKAY"
  | 0x000002 => "NK9616"
  | 0x000003 => if d.store.grade = 1 then "NK9616-B1681-XT" else "NK9616-B1681-IT"
  | _ => "A2"

/-- A rising list of keys computed from the mode manager, the Tap and the thermal supervision (R68). Hold has no base of its own: MODE_BASE element 7
reads the base of the limits in force (DESIGN CHOICE, log entry 60). -/
def Dev.readArea1 (d : Dev) (key : Nat) : Int :=
  let el := bits key 7 0
  if key = K.TAP_BUDGET then d.budget
  else if key = K.TAP_EFFECTIVE then d.effective
  else if key = K.TAP_DECLARED then d.declared
  else if key = K.TAP_MEASURED then d.measured
  else if key = K.PERMITS then d.tap.permits.length
  else if key = K.QUEUE_DEPTH then d.tap.queue.length
  else if key = K.TAP_KEEPER then d.roleOf 2
  else if key = K.TJ then d.tj
  else if key = K.TJ_MAX then (mget? d.od key).getD d.tj
  else if bits key 19 8 = 0x11 then (baseOf (if el = 7 then d.limits else el) : Nat)
  else if bits key 19 8 = 0x20 then d.railMean el
  else if bits key 19 8 = 0x30 && 3 ≤ el then d.sensorMeans.getD (el - 3) 0
  else d.ob key

/-- Ports and tiles (R152, R175, R177). PIN_VOLT is what the outside holds on the pin: a free value while the tile runs. -/
def Dev.readArea2 (d : Dev) (key : Nat) : Int :=
  let obj := bits key 19 8
  let el := bits key 7 0
  if 0xC00 ≤ obj then
    (if obj % 16 = 0 && el = 7 then ((List.range' (24 * ((obj - 0xC00) / 16)) 24).countP d.portUp : Nat) else d.ob key)
  else
    let p := obj / 32
    match obj % 32 with
    | 1 =>
      if el = 2 then d.portFlags p
      else if el = 3 then (let x := d.port p; if x.upSince = 0 then 0 else min ((d.now - x.upSince) / 1000000000) (2 ^ 24 - 1) : Nat)
      else d.ob key
    | 17 => if 2 ≤ el then (if d.tileRuns (tileOf p) then sext 24 (Config.freeValue 24 (d.free + 5 * p + (el - 2))).toNat else 0) else d.ob key
    | 24 => if el = 0 then (if d.portMode p = 7 then d.inputWord p 0 else 0 : Nat) else if el = 1 then (if d.portMode p = 7 then d.inputWord p 1 % 64 else 0 : Nat) else d.ob key
    | _ => d.ob key

/-- MACs and uplinks (R203, R204). -/
def Dev.readArea3 (d : Dev) (key : Nat) : Int :=
  let obj := bits key 19 8
  let el := bits key 7 0
  if key = K.TS_KEEPER then d.roleOf 3
  else if key = K.MAC_BASE then d.store.macBase
  else if obj < 0x600 && obj % 16 = 0 && el = 0 then (d.macAddr (obj / 16) : Nat)
  else if 0xC00 ≤ obj && obj < 0xC80 && (obj - 0xC00) % 32 = 0 && el = 3 then (d.macAddr (96 + (obj - 0xC00) / 32) : Nat)
  else d.ob key

/-- Contexts and the catalogue (R340, R341). -/
def Dev.readArea6 (d : Dev) (key : Nat) : Int :=
  let obj := bits key 19 8
  let el := bits key 7 0
  let c := obj / 16
  if obj < 0x800 then
    (if obj % 16 ≠ 0 then d.ob key
     else if el = 3 then (d.ctxParam c (K.CTX_PERIOD c) 1 : Nat)
     else if el = 6 then (d.ctxParam c (K.CTX_NODES c) 2 : Nat)
     else if el = 7 then (d.ctxParam c (K.CTX_WORDS c) 3 : Nat)
     else d.ob key)
  else if el = 4 then ((d.persUsers (obj - 0x800)).length : Nat)
  else d.ob key

/-- Time bases (R428). -/
def Dev.readArea9 (d : Dev) (key : Nat) : Int :=
  let obj := bits key 19 8
  let el := bits key 7 0
  if 0x80 ≤ obj then (if 0x100 ≤ obj && obj % 16 = 2 && el = 2 then ((d.segNow ((obj - 0x100) / 16)).2.2 : Nat) else d.ob key) else
  let n := obj / 16
  let b := d.tb n
  if obj % 16 = 0 then
    match el with
    | 0 => (d.tbNs n : Nat)
    | 1 => if n = 0 then 2 ^ 32 else (b.incr : Nat)
    | 5 => if n = 0 then 0 else (b.state : Nat)
    | 9 => if n = 0 then 0 else (b2n b.synced : Nat)
    | 13 => (d.schedules n : Nat)
    | _ => if n = 0 then dfltOf key else d.ob key
  else if n = 0 then 0 else
    match el with
    | 2 => ((b.pub : Int) - b.src) / 2 ^ 32
    | 3 => b.slewLeft / 2 ^ 32
    | _ => d.ob key

/-- Interrupts (R516). -/
def Dev.readAreaB (d : Dev) (key : Nat) : Int :=
  let obj := bits key 19 8
  if 0x100 ≤ obj && obj < 0x900 then
    match bits key 7 0 with
    | 1 => (b2n (d.gather.en.testBit (obj - 0x100)) : Nat)
    | 2 => (b2n (d.gather.fired.testBit (obj - 0x100)) : Nat)
    | _ => d.ob key
  else d.ob key

/-- ALERT_CAUSE (R539). -/
def Dev.alertCause (d : Dev) : Nat :=
  b2n d.sump.refAbsent + 2 * b2n d.sump.sumpHold + 4 * b2n d.mm.warn + (d.obn K.ALERT_CAUSE) / 8 * 8

/-! ### Pins that follow from the state (R545, R546, R556) -/

/-- ALERT# is low: a cause of ALERT_CAUSE stands (R539), or the device is in test mode (R546). -/
def Dev.alertLow (d : Dev) : Bool := d.alertCause != 0 || d.sump.testMode

/-- The state column of R545 applies to the pins of PD2's functions: RESET# is low, the device is in Dormant, or PD2 is off. -/
def Dev.pinsIdle (d : Dev) : Bool := d.sump.resetLow || d.mode == 0 || !d.domOn 2

/-- CLKREQ# is held low whenever PD2 is on (R556). -/
def Dev.clkreqLow (d : Dev) : Bool := !d.pinsIdle

/-- WAKE# is low from a wake out of Dormant until PERST# deasserts (R556); it is released while RESET# is low and in Dormant (R545). -/
def Dev.wakeLow (d : Dev) : Bool := d.sump.wakeLow && !d.sump.resetLow && d.mode != 0

/-- XSPI_RESET# is low in the state column of R545, and high while the flash can be used. -/
def Dev.xspiResetLow (d : Dev) : Bool := d.pinsIdle

/-- The levels of the 33 pins that the boundary-scan chain covers (R546), in the order of R545's table, an order that the manual does not give (DESIGN
CHOICE, log entry 55): PERST#, CLKREQ#, WAKE#; XSPI_CK, CS#, DQS, DQ0 to DQ7 and RESET#; SMB_SCL, SMB_SDA, ALERT#; HOLD#, RESET#; BOOTSEL0 and 1;
TEST_MODE; PPS_IN0 to 3, PPS_OUT0 to 3; CON_TX, CON_RX. A level that no state holds is absent. -/
def Dev.scanPins (d : Dev) : List (Option Bool) :=
  [some (!d.sump.perstLow), some (!d.clkreqLow), some (!d.wakeLow)] ++ List.replicate 11 none ++ [some (!d.xspiResetLow)] ++
  [none, none, some (!d.alertLow)] ++ [some (!d.sump.holdLow), some (!d.sump.resetLow)] ++ List.replicate 7 none ++
  d.time.ppsHigh.map some ++ [none, none]

/-- What the chain captures: the level of each pin in its bit, and a free bit where the state holds none. -/
def Dev.scanWord (d : Dev) (free : Nat) : Nat :=
  (d.scanPins.zipIdx.foldl (fun n e => putBit n e.2 (e.1.getD (free.testBit e.2))) 0)

/-- The keys under which the poison of memory m stands (R121; log entry 4): words, and for the Cistern and the match store cells and
8-byte groups. -/
def poisonRange (m : Nat) : Nat × Nat :=
  match m with
  | 0 => (0x1000000, 0x1100000)
  | 1 => (0x800000, 0x900000)
  | 2 => (0x1100000, 0x1140000)
  | 3 => (0x900000, 0x940000)
  | 4 => (0x400000, 0x800000)
  | 5 => (0x100000, 0x200000)
  | 6 => (0x200000, 0x280000)
  | 7 => (0x280000, 0x2C0000)
  | 8 => (0x2C0000, 0x2E0000)
  | 9 => (0x040000, 0x050000)
  | 10 => (0x1500000, 0x1600000)
  | 11 => (0x1400000, 0x1408000)
  | 12 => (0x1200000, 0x1206000)
  | _ => (0x1300000, 0x1300A80)

/-- Words of memory m that are poisoned now (R121). -/
def Dev.poisonedOf (d : Dev) (m : Nat) : Nat :=
  let r := poisonRange m
  let l := d.poison.filter fun a => decide (r.1 ≤ a) && decide (a < r.2)
  l.length + (if m = 11 then d.sw.mstore.foldl (fun n e => n + e.2.poison.length) 0 else 0)

/-- The value of an object of one to four words. -/
def Dev.readOb (d : Dev) (key : Nat) : Int :=
  let obj := bits key 19 8
  let el := bits key 7 0
  match bits key 23 20 with
  | 0 => if key = K.GRADE then d.store.grade else if key = K.SERIAL then d.store.serial else if key = K.DICT_KEEPER then d.roleOf 0 else d.ob key
  | 1 => d.readArea1 key
  | 2 => d.readArea2 key
  | 3 => d.readArea3 key
  | 4 => if 0x10 ≤ obj % 256 && obj % 256 < 0x14 && el = 3 then ((d.winChans (obj / 256) (obj % 16)).foldl (fun a k => a + 2 ^ (k % 8)) 0 : Nat) else d.ob key
  | 5 => if 0x500 ≤ obj && obj < 0x50E && el = 2 then (d.poisonedOf (obj - 0x500) : Nat) else d.ob key
  | 6 => d.readArea6 key
  | 7 => if key = K.FREE_CELLS then d.freeCells else if 0x800 ≤ obj && obj < 0xC20 && el = 3 then (d.qDepth (obj - 0x800) : Nat) else d.ob key
  | 8 => if key = K.LIST_WORDS_FREE then d.listWordsFree else if key = K.TEMPLATES then (d.cellar.tpls.countP fun e => e.2.owner.live) else d.ob key
  | 9 => d.readArea9 key
  | 11 => d.readAreaB key
  | 12 =>
    if 0x100 ≤ obj && obj < 0x104 && el = 4 then ((d.groupAxes (obj - 0x100)).length : Nat)
    else if key = K.MOTION_LOAD then d.motionLoad
    else if key = K.MOTION_CAP then d.motionCap
    else if key = K.POOL_FREE then d.poolFree
    else d.ob key
  | 13 => if key = K.KEY_STATE then d.store.keyState else if key = K.AAP_SESSIONS then (d.dict.sess.countP (·.opened) : Nat) else d.ob key
  | 15 => if key = K.T0_NOW then d.now else if key = K.ALERT_CAUSE then d.alertCause else d.ob key
  | _ => d.ob key

/-- The words of an object that is no DOM. -/
def Dev.readWords (d : Dev) (r : Desc) (key : Nat) : List Nat :=
  match r.ty with
  | .str n => wordsOf (((textBytes (d.textOf key)) ++ List.replicate n 0).take n)
  | t => t.encode (d.readOb key)

/-- The bytes of the event-log mirror, newest first (R514, R516). -/
def Dev.mirrorBytes (d : Dev) : List Byte :=
  let l := d.sump.mirror.flatMap fun e => bytesOf e.words
  l ++ List.replicate (768 - l.length) 0

/-- The bytes of a DOM object that can be read. WIN_PROG is the shadow image as it stands (R271). The grandmaster's identity is the
announced one, and with none the manual gives no value. -/
def Dev.readDom (d : Dev) (key : Nat) : List Byte :=
  if key = K.LOG_MIRROR then d.mirrorBytes
  else if key = K.AS_GM_ID then d.time.gmId.getD (beBytes 8 (Config.freeValue 64 d.free).toNat)
  else if bits key 23 20 = 4 && bits key 15 12 = 1 && bits key 7 0 = 0 then d.shadowImage (bits key 19 16) (bits key 11 8)
  else if bits key 23 20 = 9 && bits key 19 8 % 16 = 4 then d.slotCounts ((bits key 19 8 - 0x100) / 16)
  else d.dom key

end Sys2Proof.Machine
end

