-- ==== Sys2Proof/Machine/Writes.lean ====
section
/-! DEFINITION. What a write of each object does beside storing its value (the object tables of every chapter; spec 03, R71 to R73). -/
namespace Sys2Proof.Machine

/-- The value is stored, at one event. -/
def Dev.put (d : Dev) (key : Nat) (v : Int) : Dev × Nat := (d.event.setOb key v, Stat.done)

/-- Stored when a check holds, else refused with a status. -/
def Dev.putIf (d : Dev) (ok : Bool) (st key : Nat) (v : Int) : Dev × Nat := if ok then d.put key v else (d, st)

/-- A clear object: at one event, elements lo to hi of its object read 0. -/
def Dev.clearEls (d : Dev) (key lo hi : Nat) : Dev × Nat :=
  let base := key / 256 * 256
  (d.event.zero ((List.range' lo (hi + 1 - lo)).map fun e => base + e), Stat.done)

/-! ### Areas 1 to 3 -/

/-- TAP_BUDGET (R55). -/
def Dev.budgetWrite (d : Dev) (v : Nat) : Dev × Nat :=
  let fixed := permitSum (d.tap.permits.filter fun p => !p.revocable)
  let base := if d.limits = 7 then 0 else baseOf d.limits
  if d.gradeLimit < v || effOf d.limits v < base + fixed then (d, Stat.range)
  else
    (((d.event.setOb K.TAP_BUDGET (v : Nat)).tookEffect).revokeToBudget, Stat.done)

/-- EDGE_CLEAR (R169): an edge of the same sample is counted after the clear. -/
def Dev.edgeClear (d : Dev) (p v : Nat) : Dev × Nat :=
  let now := (setBits v 5).filter fun i => (d.dinIn p i).edgeAt == some d.now
  ((d.event.zero ((setBits v 5).map fun i => K.P_EDGE_COUNT p i)).each now fun d i => d.setOb (K.P_EDGE_COUNT p i) 1, Stat.done)

/-- A setting of a bus controller; a port in Up or Degraded probes again (R206, R222). With `judged` the limits of R205 are checked. -/
def Dev.busSetting (d : Dev) (p key : Nat) (v : Int) (judged : Bool) : Dev × Nat :=
  let d' := d.event.setOb key v
  if judged && !d'.busTimingOk p then (d, Stat.range)
  else (if d.portMode p = 3 && d.portUp p then d'.probe p (some 4) else d', Stat.done)

/-- ROLE_MOVE (R143). -/
def Dev.roleMoveWrite (d : Dev) (p v : Nat) (r : Option Src) : Dev × Option Nat :=
  if v % 128 = 0x7F && v < 512 && !v.testBit 7 then let (d, s) := d.moveCancelWrite p; (d, some s) else d.moveWrite p v r

/-- BUS_RECOVER (R226). -/
def Dev.recoverWrite (d : Dev) (p : Nat) : Dev × Nat := if d.obn (K.BUS_STATE p) = 2 then (d.event.busRecover p, Stat.done) else (d, Stat.busy)

/-- TXQ_BUFS. -/
def Dev.txqWrite (d : Dev) (p : Nat) (v : Int) : Dev × Nat := d.putIf (!d.anyTxBusy p) Stat.busy (K.BUS_TXQ_BUFS p) v

/-! ### Areas 4 to 6 -/

/-- A write of a channel object: BUSY while a segment holds the channel (R433). -/
def Dev.unlessSeg (d : Dev) (c : Nat) (x : Dev × Nat) : Dev × Nat := if d.segHolds c && x.2 != Stat.range then (d, Stat.busy) else x

/-- CH_WIN, CH_JOIN, RX_SINK and TX_SRC: not while the channel is RUNNING (R253). -/
def Dev.chFixed (d : Dev) (c key : Nat) (v : Int) : Dev × Nat :=
  if d.running c then (d, Stat.busy)
  else if key = K.CH_JOIN c then ((d.event.setJoin c v.toNat), Stat.done)
  else if key = K.CH_WIN c then ((d.event.setWin c v.toNat), Stat.done)
  else d.put key v

/-- CH_FLAGS: ones clear (R269). -/
def Dev.chFlagsClear (d : Dev) (c v : Nat) : Dev × Nat :=
  (d.event.setOb (K.CH_FLAGS c) ((setBits v 8).foldl (fun a b => putBit a b false) (d.obn (K.CH_FLAGS c)) : Nat), Stat.done)

/-- ARM_CMD (R264, R268). -/
def Dev.armWrite (d : Dev) (e v : Nat) : Dev × Nat :=
  if v = 2 then (d.event.disarmEng e, Stat.done)
  else match d.armEng e with
    | some d => (d.event, Stat.done)
    | none => (d, Stat.range)

/-- CORE_CMD (R302). -/
def Dev.coreCmd (d : Dev) (c v : Nat) : Dev × Nat :=
  if d.coreState c = 0 then (d, Stat.asleep)
  else match v with
    | 1 => (d.event.coreGo c, Stat.done)
    | 2 => (d.event.coreStop c, Stat.done)
    | _ => ((d.event.tookEffect).coreResetCmd c, Stat.done)

/-- An object that is fixed while the context holds resources (R340). -/
def Dev.ctxFixed (d : Dev) (c key : Nat) (v : Int) : Dev × Nat := d.putIf (d.ctxState c = 0) Stat.busy key v

/-- CTX_TB, CTX_PERIOD and CTX_PHASE (R330). -/
def Dev.ctxTiming (d : Dev) (c key : Nat) (v : Int) (ok : Bool) : Dev × Nat :=
  let free := d.ctxState c != 2 && d.ctxState c != 3
  if !ok then (d, Stat.range) else
  let (d, s) := d.putIf free Stat.busy key v
  (d.iff (free && d.ctxState c != 0) fun d => d.descTiming c, s)

/-- CTX_CMD (R323). -/
def Dev.ctxCmd (d : Dev) (c v : Nat) (r : Option Src) : Dev × Option Nat :=
  match v with
  | 1 => d.ctxBind c r
  | 2 => let (d, s) := d.ctxStart c; (d, some s)
  | 3 => let (d, s) := d.ctxStop c; (d, some s)
  | 4 => let (d, s) := d.ctxUnbind c; (d, some s)
  | _ => let (d, s) := d.ctxRestartCmd c; (d, some s)

/-! ### Area 7 -/

/-- A ring's base or size (R366, R371). -/
def Dev.ringWrite (d : Dev) (key : Nat) (v : Nat) : Dev × Nat :=
  let e := bits key 19 8 - 0xC50
  let el := bits key 7 0
  let size := key / 256 * 256 + (el ||| 1)
  let base := size - 1
  let (lo, hi) := ringArea e
  let old := d.obn size
  if el % 2 = 0 then
    if v < lo || hi < v + 2 * old then (d, Stat.range) else if old ≠ 0 then (d, Stat.busy) else d.put key v
  else if v = 0 then (if old ≠ 0 then (d, Stat.busy) else d.put key 0)
  else if v < 16 || 1024 < v || 2 ^ (Nat.log2 v) ≠ v then (d, Stat.range)
  else if d.obn base < lo || hi < d.obn base + 2 * v then (d, Stat.range)
  else if old ≠ 0 then (d, Stat.busy)
  else ((d.event.setOb key (v : Nat)).setOb (if el = 1 then K.RING_RX_PTR e else K.RING_TX_PTR e) 0, Stat.done)

/-! ### Area 8 -/

/-- Do two runs of entries meet? -/
def runsMeet (a n b m : Nat) : Bool := decide (0 < n) && decide (0 < m) && decide (a < b + m) && decide (b < a + n)

/-- REG_BASE, REG_SIZE and REG_OWNER (R374). With `judged` false the overlap is left to WRITE_MULTI. -/
def Dev.regionWrite (d : Dev) (reg key : Nat) (v : Nat) (judged : Bool) : Dev × Nat :=
  let el := bits key 7 0
  let d' := d.event.setOb key (v : Nat)
  let b := d'.obn (K.REG_BASE reg)
  let n := d'.obn (K.REG_SIZE reg)
  let owner := d.obn (K.REG_OWNER reg)
  let bad := if el = 2 then decide (128 ≤ v) && v != 0xFE && v != 0xFF
    else v % 16 != 0 || (el == 0 && decide (2 ^ 20 ≤ v)) || (judged && (decide (2 ^ 20 < b + n) || d.regions.any fun q => q != reg && runsMeet b n (d.obn (K.REG_BASE q)) (d.obn (K.REG_SIZE q))))
  if bad then (d, Stat.range)
  else if d.ob key = v then (d', Stat.done)
  else if d.devNames reg || (decide (owner < 128) && d.ctxState owner != 0) then (d, Stat.busy)
  else (d', Stat.done)

/-- Do the signals of an axis in use of an enabled group lie in a region (R396)? -/
def Dev.regionMoves (d : Dev) (reg : Nat) : Bool :=
  d.axesInUse.any fun a => d.obb (K.GRP_EN (d.groupOf a)) && [0, 1, 2].any fun i => d.inRegion reg (d.obn (K.AX_SIG a) + i)

/-- The clear of a region begins under its permit (R396). -/
def Dev.regClearGo (d : Dev) (reg : Nat) (r : Option Src) : Dev :=
  ((d.clearRegion reg).modCellar fun c => { c with clearing := reg :: c.clearing }).txTook r

/-- REG_CLEAR; none while it waits or runs. -/
def Dev.regClearWrite (d : Dev) (reg : Nat) (r : Option Src) : Dev × Option Nat :=
  let owner := d.obn (K.REG_OWNER reg)
  let runs := d.cellar.clearing.contains reg || d.tap.queue.any fun q => q.holder == .region reg
  let st := if owner < 128 then d.ctxState owner else 0
  let moves := (owner == 0xFE || (owner != 0xFF && (d.obn (K.REG_RIGHTS reg)).testBit 4)) && d.regionMoves reg
  if runs || st = 2 || st = 3 || moves then (d, some Stat.busy) else
  match d.ask (.region reg) 1200 (1 + (d.obn (K.REG_SIZE reg) + 249) / 250) 3 (d.waitLeft r) 0 with
  | (d, .granted _) => (d.regClearGo reg r, none)
  | (d, .queued) => (d, none)
  | (d, .busy) => (d, some Stat.busy)
  | (d, .refused) => (d, some Stat.permit)

/-- The last entry is cleared (R396). -/
def Dev.regClearEnd (d : Dev) (reg : Nat) : Dev :=
  if !d.cellar.clearing.contains reg then d else
  let d := (d.modCellar fun c => { c with clearing := c.clearing.filter fun q => q != reg }).releaseAll (.region reg)
  let d := match d.dict.inflight.find? fun t => t.wait == .clearing reg with
    | some t => d.complete (some t.src) Stat.done
    | none => d
  d.logE 0x8040 reg

/-- CONTEST_CLEAR (R383): the sweeper clears the entries on its next pass. -/
def Dev.contestClear (d : Dev) (reg : Nat) : Dev × Nat :=
  (d.event.modCellar fun c => { c with contestPend := mput c.contestPend reg (d.obn (K.REG_SIZE reg)), contested1 := c.contested1.filter fun q => q != reg }, Stat.done)

/-- CELLAR_CNT_CLEAR. -/
def Dev.cellarClear (d : Dev) : Dev × Nat :=
  (d.event.zero ([2, 3, 4, 5].flatMap fun e => [0x840000 + e, 0x840100 + e]), Stat.done)

/-! ### Areas 9, A and C -/

/-- An object of a time base that T0 does not have (R428). -/
def Dev.tbPut (d : Dev) (key : Nat) (v : Int) : Dev × Nat :=
  let (d, st) := d.putIf (bits key 19 8 / 16 != 0) Stat.denied key v
  (d.noteBases, st)

/-- PPS_OUT_PERIOD, PHASE and WIDTH (R424). With `judged` false the limits between them are left to WRITE_MULTI. -/
def Dev.ppsOutWrite (d : Dev) (i key : Nat) (v : Int) (judged : Bool) : Dev × Nat :=
  let d' := d.event.setOb key v
  let per := d'.obn (K.PPS_OUT_PERIOD i)
  let wd := d'.obn (K.PPS_OUT_WIDTH i)
  if judged && !(decide (d'.obn (K.PPS_OUT_PHASE i) < per) && decide (100 ≤ wd) && decide (wd + 100 ≤ per)) then (d, Stat.range)
  else if d.obb (K.PPS_OUT_EN i) then (d, Stat.busy)
  else (d', Stat.done)

/-- An object of a segment (R449, R454). -/
def Dev.segWrite (d : Dev) (s key : Nat) (v : Int) (judged : Bool) : Dev × Nat :=
  let d' := d.event.setOb key v
  if judged && d'.obn (K.SEG_CYCLE_LEN s) ≤ d'.obn (K.SEG_PHASE s) then (d, Stat.range)
  else if d.segState s ≠ 0 then (d, Stat.busy)
  else (d', Stat.done)

/-- SEG_CNT_CLEAR (R454): the slots' last outcomes are no counters. -/
def Dev.segClear (d : Dev) (s : Nat) : Dev × Nat :=
  let (d, st) := d.clearEls (K.SEG_CNT_CLEAR s) 0 0xD
  (d.modSeg s fun x => { x with slots := x.slots.map fun e => (e.1, { e.2 with empty := 0, edge := 0, collided := 0 }) }, st)

/-- Does a master's M_SOURCE lie outside what its kind names: a port, a signal or an axis (R4, R463)? -/
def Dev.sourceBad (d : Dev) (m : Nat) : Bool :=
  let src := d.obn (K.M_SOURCE m)
  match d.obn (K.M_KIND m) with
  | 1 => decide (96 ≤ src)
  | 4 => decide (4096 ≤ src)
  | _ => false

/-- M_KIND and M_SOURCE (R490): another source starts with no travel (R464). With `judged` false the limit between them is left to WRITE_MULTI. -/
def Dev.masterWrite (d : Dev) (m key : Nat) (v : Int) (judged : Bool) : Dev × Nat :=
  if judged && (d.setOb key v).sourceBad m then (d, Stat.range) else
  let (d, st) := d.putIf (!d.masterBusy m) Stat.busy key v
  (d.iff (st == Stat.done) fun d => d.modMotion fun mo => { mo with masters := mmod mo.masters m {} fun x => { x with prev := [] } }, st)

/-- An input field of a homing table: reserved [6:3] read 0, and port and input have their ranges (R3, R4, R483). -/
def Dev.homeInputWrite (d : Dev) (key v : Nat) : Dev × Nat := d.putIf (decide (bits v 13 7 < 96) && decide (v % 8 < 5)) Stat.range key ((v - v % 128 / 8 * 8 : Nat) : Int)

/-- GRP_EN (R456, R457, R490). -/
def Dev.groupEnWrite (d : Dev) (g v : Nat) : Dev × Nat :=
  let now := d.obn (K.GRP_EN g)
  if v = now then (d.event, Stat.done)
  else if v = 0 then
    if (d.groupAxes g).all d.axisRests then d.put (K.GRP_EN g) 0 else (d, Stat.busy)
  else if d.overloads (K.GRP_EN g) 1 then (d, Stat.range)
  else (d.event.groupEnable g, Stat.done)

/-- GRP_TB, GRP_PERIOD and GRP_PHASE (R456, R490). -/
def Dev.groupWrite (d : Dev) (g key : Nat) (v : Int) (judged : Bool) : Dev × Nat :=
  let d' := d.event.setOb key v
  if (judged && periodUs (d'.obn (K.GRP_PERIOD g)) ≤ d'.obn (K.GRP_PHASE g)) || d.overloads key v then (d, Stat.range)
  else if d.obb (K.GRP_EN g) then (d, Stat.busy)
  else (d', Stat.done)

/-! ### Area F -/

/-- WAKE_AT and the others store their value; ALERT_CLEAR and CLEAR_FAIL clear bits (R539). -/
def Dev.alertClear (d : Dev) (v : Nat) : Dev :=
  d.setOb K.ALERT_CAUSE ((setBits (v % 64 / 8 * 8) 6).foldl (fun a b => putBit a b false) (d.obn K.ALERT_CAUSE) : Nat)

def Dev.clearFail (d : Dev) (v : Nat) : Dev :=
  d.setOb K.COPY_FAIL ((setBits (v % 4) 2).foldl (fun a b => putBit a b false) (d.obn K.COPY_FAIL) : Nat)

end Sys2Proof.Machine
end

