-- ==== Sys2Proof/Machine/Effects.lean ====
section
/-! DEFINITION. The effect of a dictionary write of each object (the object tables of every chapter; spec 03, R71 to R77). -/
namespace Sys2Proof.Machine

/-! ### Area E (R69; log entry 28) -/

/-- The items of the installed bundles' AREA_E sections: one word each. -/
def itemPairs : List Nat → List (Nat × Nat)
  | k :: v :: l => (k, v) :: itemPairs l
  | _ => []

/-- The default of an object that a loaded personality defines. -/
def Dev.areaE (d : Dev) (key : Nat) : Option Nat :=
  if bits key 23 20 ≠ 14 then none
  else d.bundles.findSome? fun b => (((d.sects b.1 6).flatMap itemPairs).find? fun e => e.1 == key).map (·.2)

/-- The row of a key, those of area E included. -/
def Dev.desc (d : Dev) (key : Nat) : Option Desc :=
  match descOf key with
  | some r => some r
  | none => (d.areaE key).map fun v => ⟨bits key 19 8, 1, 1, 1, bits key 7 0, 1, .u24, .rw, v, 0, 2 ^ 24 - 1, none, false, .plain⟩

/-- The words of an object that is no DOM, area E included. -/
def Dev.wordsAt (d : Dev) (r : Desc) (key : Nat) : List Nat :=
  if bits key 23 20 = 14 then r.ty.encode ((mget? d.od key).getD r.dflt) else d.readWords r key

/-! ### Limits between objects -/

/-- Does a region's run leave the directory or meet another region's (R374)? -/
def Dev.regionBad (d : Dev) (reg : Nat) : Bool :=
  let b := d.obn (K.REG_BASE reg)
  let n := d.obn (K.REG_SIZE reg)
  decide (2 ^ 20 < b + n) || d.regions.any fun q => q != reg && runsMeet b n (d.obn (K.REG_BASE q)) (d.obn (K.REG_SIZE q))

/-- The status of a limit between objects that the values now in force break, as seen from one key; 0 none. -/
def Dev.crossBad (d : Dev) (r : Desc) (key : Nat) : Nat :=
  let i := r.index key
  let el := bits key 7 0
  let range := fun (bad : Bool) => if bad then Stat.range else Stat.done
  match r.eff with
  | .retryCap => range (decide (d.obn (K.P_RETRY_CAP i) < d.obn (K.P_RETRY_BASE i)))
  | .busTiming => range (!d.busTimingOk i)
  | .redMin => range (decide (d.ob (key + 3) ≤ d.ob key))
  | .redMax => range (decide (d.ob key ≤ d.ob (key - 3)))
  | .meterRate =>
    range ((el == 1 && decide (d.ob key < d.ob (K.METER_CIR i))) || (el == 3 && decide (d.ob key < d.ob (K.METER_CBS i))))
  | .region => range (el != 2 && d.regionBad i)
  | .ppsOut =>
    let per := d.obn (K.PPS_OUT_PERIOD i)
    let wd := d.obn (K.PPS_OUT_WIDTH i)
    range (!(decide (d.obn (K.PPS_OUT_PHASE i) < per) && decide (100 ≤ wd) && decide (wd + 100 ≤ per)))
  | .segCfg => range (decide (d.obn (K.SEG_CYCLE_LEN i) ≤ d.obn (K.SEG_PHASE i)))
  | .grpCfg => range (decide (periodUs (d.obn (K.GRP_PERIOD i)) ≤ d.obn (K.GRP_PHASE i)))
  | .ctxPhase => range (decide (d.ctxParam i (K.CTX_PERIOD i) 1 ≤ d.obn key))
  | .mKind => range (d.sourceBad i)
  | .axUse | .axParam => range (d.axCross i el)
  | .discCtx | .ppsInDisc | .asAgent => if d.discOk then Stat.done else Stat.busy
  | .plain =>
    if bits key 23 20 = 6 && r.base < 0x800 && (key = K.CTX_DEADLINE i || r.base % 16 = 3) then range (decide (d.ctxParam i (K.CTX_PERIOD i) 1 < d.obn key))
    else Stat.done
  | .chPlain => range (el = 0xF && d.obn (K.CH_CRC_MODE i) == 1 && d.obn (K.CH_SYM_BITS i) != 8)
  | .chFormat => range (el = 6 && d.obn (K.CH_CRC_MODE i) == 1 && d.obn (K.CH_SYM_BITS i) != 8)
  | _ => Stat.done

/-- Stored, when the limits between objects allow it. -/
def Dev.putJudged (d : Dev) (r : Desc) (key : Nat) (v : Int) (judged : Bool) : Dev × Nat :=
  let d' := d.event.setOb key v
  let st := if judged then d'.crossBad r key else Stat.done
  if st = Stat.done then (d', st) else (d, st)

/-- CIR, PIR, CBS and PBS (R369): the buckets are brought up to now at the old rates and limits first (R363). -/
def Dev.meterWrite (d : Dev) (r : Desc) (key : Nat) (v : Int) (judged : Bool) : Dev × Nat :=
  let m := r.index key
  let x := d.putJudged r key v judged
  if x.2 = Stat.done then (d.modSw fun s => { s with buckets := mput s.buckets m (d.buckets m) }).putJudged r key v judged else x

/-- An operation that answers at once. -/
def atOnce (x : Dev × Nat) : Dev × Option Nat := (x.1, some x.2)

/-- An operation that takes one event and cannot be refused. -/
def did (d : Dev) : Dev × Option Nat := (d, some Stat.done)

/-! ### The effect of a value (all area tables) -/

/-- MODE_REQUEST reads the last request that was not refused (R68, R73); while one waits it reads that one. -/
def Dev.modeWrite_ (d : Dev) (v : Nat) (r : Option Src) : Dev × Option Nat :=
  match d.modeRequest v r with
  | (d, some 0) => (d.setOb K.MODE_REQUEST (v : Nat), some Stat.done)
  | (d, some st) => (d, some st)
  | (d, none) => ((d.modMm fun x => { x with reqBefore := some (d.obn K.MODE_REQUEST) }).setOb K.MODE_REQUEST (v : Nat), none)

/-- WIN_SWAP. -/
def Dev.winSwapWrite (d : Dev) (i v : Nat) : Dev × Nat :=
  let (d', st) := d.event.askSwap (i / 4) (i % 4) v Stat.busy
  if st = 0 then (d', st) else (d, st)

/-- GC_ENABLE of one source (R516). -/
def Dev.gcEnableWrite (d : Dev) (s : Nat) (v : Nat) : Dev × Nat :=
  let w := s / 24
  if d.obn (K.GC_OWNER w) ≠ 31 then (d, Stat.busy) else
  (d.event.gcEnWrite w (putBit (setWord d.gather.en w) (s % 24) (v != 0)), Stat.done)

/-- GC_ROUTE (R510). -/
def Dev.gcRouteWrite (d : Dev) (s v : Nat) : Dev × Nat :=
  let ep := bits v 23 19
  if 20 < ep || (ep < 20 && bits v 18 14 = 31) then (d, Stat.range)
  else if d.obn (K.GC_OWNER (s / 24)) ≠ 31 then (d, Stat.busy) else (d.event.setRoute s v, Stat.done)

/-- The effect of an allowed value on an object that is no DOM; none while it waits.
With `judged` false the limits between objects are left to WRITE_MULTI (R76). -/
def Dev.effect (d : Dev) (r : Desc) (key : Nat) (v : Int) (src : Option Src) (judged : Bool) : Dev × Option Nat :=
  let i := r.index key
  let el := bits key 7 0
  let n := v.toNat
  match r.eff with
  | .plain =>
    if bits key 23 20 = 6 && r.base = 0 && el = 2 then atOnce (d.ctxTiming i key v true) else atOnce (d.putJudged r key v judged)
  | .modeRequest => d.modeWrite_ n src
  | .limpTiles => if n < 16 && popBits n 4 = 2 then did (d.limpMembers key v) else (d, some Stat.range)
  | .limpCores => if n < 65536 && popBits n 16 ≤ 8 then did (d.limpMembers key v) else (d, some Stat.range)
  | .tapBudget => atOnce (d.budgetWrite n)
  | .tapPeak => did (d.event.setOb key 0)
  | .tjMax => did (d.event.setOb key d.tj)
  | .revokeKey => atOnce (d.revokeKey n)
  | .jtagLock => atOnce (d.jtagLock n)
  | .eccClear => did (d.event.zero [K.ECC_CORRECTED i, K.ECC_UNCORRECTED i])
  | .portMode => d.modeWrite i n src
  | .portAdmin => d.adminWrite i n src
  | .portOption => if el = 11 && n ≠ 1 && n ≠ 3 then (d, some Stat.range) else atOnce (d.optionWrite i (el - 3) n)
  | .recal => atOnce (d.recalWrite i n)
  | .portCntClear => atOnce (d.clearEls key 0 4)
  | .roleMove => d.roleMoveWrite i n src
  | .tileCmd => d.tileCmd i n src
  | .tileUse => atOnce (d.tileUse i n)
  | .retryBase => atOnce (d.put key v)
  | .retryCap => atOnce (d.putJudged r key v judged)
  | .tdrStart => d.tdrWrite i n src
  | .flutterN => did (d.flutterWrite i key v)
  | .stuckT => did (d.stuckWrite i el key v)
  | .edgeClear => atOnce (d.edgeClear i n)
  | .encPreset => did (d.event.setOb (K.P_ENC_COUNT i) v)
  | .macAddr | .upMacAddr => atOnce (d.put key v)
  | .macCntClear => atOnce (d.clearEls key 0 0xE)
  | .uplinkMode => did (d.event.upMode i n)
  | .gclEnable => atOnce (d.put key v)
  | .gclApply => atOnce (d.gclArm i)
  | .upCntClear => atOnce (d.clearEls key 0 0x11)
  | .busTiming | .listenOnly => atOnce (d.busSetting i key v judged)
  | .txqBufs => atOnce (d.txqWrite i v)
  | .busRecover => atOnce (d.recoverWrite i)
  | .busCntClear => atOnce (d.clearEls key 0 0xB)
  | .engStart => did (d.event.engStart i n)
  | .engBitsync => did (d.event.engBitsync i n)
  | .armCmd => atOnce (d.armWrite i n)
  | .winSwap => atOnce (d.winSwapWrite i n)
  | .chIdle | .chJoin => atOnce (d.unlessSeg i (d.chFixed i key v))
  | .chFormat => atOnce (d.unlessSeg i (match (d.fmtKeep i).putJudged r key v judged with
    | (d', 0) => (d', Stat.done)
    | (_, st) => (d, st)))
  | .chPlain => atOnce (d.unlessSeg i (d.putJudged r key v judged))
  | .chFlags => atOnce (d.unlessSeg i (d.chFlagsClear i n))
  | .chCmd => atOnce (d.unlessSeg i (d.event.chCmd i n, Stat.done))
  | .runCntClear => atOnce (d.unlessSeg i (d.clearEls key 4 0xD))
  | .coreCmd => atOnce (d.coreCmd i n)
  | .ctxLocked => if el = 7 && n % 256 ≠ 0 then (d, some Stat.range) else atOnce (d.ctxFixed i key v)
  | .ctxPeriod => atOnce (d.ctxTiming i key v true)
  | .ctxPhase => atOnce (d.ctxTiming i key v (!judged || (d.setOb key v).crossBad r key == Stat.done))
  | .ctxCmd => d.ctxCmd i n src
  | .ctxMigrate => d.ctxMigrate i n src
  | .ctxPersSwap => d.ctxPersSwap i n src
  | .ctxCntClear => atOnce (d.clearEls key 0 6)
  | .persDelete => atOnce (d.deleteBundle i n)
  | .meterRate => atOnce (d.meterWrite r key v judged)
  | .meterClear => atOnce (d.clearEls key 5 8)
  | .qPeak => did (d.event.setOb key 0)
  | .qCntClear => atOnce (d.clearEls key 4 0xB)
  | .freeMin => did (d.event.setOb key (d.freeCells : Nat))
  | .redMin | .redMax => atOnce (d.putJudged r key v judged)
  | .ringBase | .ringSize => atOnce (d.ringWrite key n)
  | .region => atOnce (d.regionWrite i key n judged)
  | .regPlain => atOnce (d.put key v)
  | .contestClear => atOnce (d.contestClear i)
  | .regClear => d.regClearWrite i src
  | .regCntClear => atOnce (d.clearEls key 0xB 0xE)
  | .cellarCntClear => atOnce d.cellarClear
  | .tbIncr => atOnce (d.tbDict i fun d => d.tbIncr i n)
  | .tbOffset => atOnce (d.tbDict i fun d => d.tbOffset i v)
  | .tbPlain => atOnce (d.tbPut key v)
  | .tbSet => atOnce (d.tbDict i fun d => d.tbSet i n)
  | .tbReserve => atOnce (d.tbReserve i n)
  | .tbSynced => atOnce (d.tbDict i fun d => (d.setSynced i (n != 0), Stat.done))
  | .tbSwitch => atOnce (d.tbSwitch i n)
  | .discCtx => atOnce (if h : i < 8 then d.discWrite (.tbDiscCtx ⟨i, h⟩) n judged else (d, Stat.noKey))
  | .tbCntClear => atOnce (if i = 0 then (d, Stat.denied) else d.clearEls key 0 1)
  | .ppsInDisc => atOnce (if h : i < 4 then d.discWrite (.ppsInDisc ⟨i, h⟩) n judged else (d, Stat.noKey))
  | .ppsOutEn => did (d.ppsEnable i n)
  | .ppsOut => atOnce (d.ppsOutWrite i key v judged)
  | .asAgent => atOnce (d.discWrite (if el = 0 then .asEnable else .asTb) n judged)
  | .segCfg => atOnce (d.segWrite i key v judged)
  | .segCmd => if n = 1 then d.segCmdStart i src else did (d.event.segStop i)  -- the sets go at the write's event (R404)
  | .segCntClear => atOnce (d.segClear i)
  | .axUse | .axParam => atOnce (d.axParamWrite i el v judged)
  | .axCntClear => atOnce (d.clearEls key 0x28 0x29)
  | .mKind => atOnce (d.masterWrite i key v judged)
  | .homeInput => atOnce (d.homeInputWrite key n)
  | .homeIndex => atOnce (d.putIf (decide (n % 128 < 96)) Stat.range key v)
  | .regRights => atOnce (d.put key ((n % 32 : Nat) : Int))
  | .mVel => did (d.mVelWrite i v)
  | .grpEn => atOnce (d.groupEnWrite i n)
  | .grpCfg => atOnce (d.groupWrite i key v judged)
  | .mbWake => did (d.hostLevels fun d => d.event.setOb key v)
  | .epRing => did (d.ring i n)
  | .gcRoute => atOnce (d.gcRouteWrite i n)
  | .gcEnable => atOnce (d.gcEnableWrite i n)
  | .sumpRestart => did (d.event.tookEffect.todo (.restart 4))
  | .alertClear => did (d.event.alertClear n)
  | .clearFail => did (d.event.clearFail n)
  | .roleHolder => atOnce (d.roleWrite el n)
  | .fwPrepare => match src with
    | some s => d.fwPrepare n s
    | none => (d, some Stat.internal)
  | .fwActivate => match src with
    | some s => d.fwActivate n s
    | none => (d, some Stat.internal)
  | .aapKey | .gclAdmin | .winProg | .persBundle | .mcTable | .fwdTable | .profile | .devScatter | .devGather | .slotMap | .axCmd
  | .fwBundle => (d, some Stat.type)

/-! ### The effect of a whole DOM (R77) -/

/-- Every `step`-th word from `i`, `n` of them, without [23:20]: outside a bundle SIG_BASE has no region there (R384, R397). -/
def noRegions (i step n : Nat) (img : List Nat) : List Nat :=
  (List.range n).foldl (fun img k => img.set (i + step * k) (img.getD (i + step * k) 0 % 2 ^ 20)) img

/-- An image of whole words, cleaned as words. -/
def cleanWords (f : List Nat → List Nat) (img : List Byte) : List Byte := if img.length % 3 = 0 then bytesOf (f (wordsOf img)) else img

/-- The image of an object whose layout has reserved fields, with those read as 0 (R199, R346, R348, R371, R434). -/
def imageOf (r : Desc) (key : Nat) (img : List Byte) : List Byte :=
  match r.eff with
  | .gclAdmin => maskImage 6 [255, 0] img
  | .slotMap => maskImage 6 [255, 255, 0xC0, 0x0F] img
  | .mcTable => maskImage 2 [0x3F] img
  | .fwdTable => cleanEntries img
  | .profile =>
    maskImage 30 ([0xFC, 0, 0] ++ [255, 0xF0, 0, 255, 0xF0, 0, 255, 0xF0, 0, 255, 0xF0, 0] ++ List.replicate 13 255 ++ [0, 0]) img
  | .devScatter => cleanWords (fun w => noRegions 2 4 (listCount w) (cleanLists w)) img
  | .devGather => cleanWords (fun w => (tplList w).foldl (fun v i => noRegions (i + 8) 3 (bits (w.getD i 0) 12 9) v) (cleanTpls w)) img
  | _ => img

/-- The most bytes that a DOM object takes. -/
def Ty.most : Ty → Nat
  | .dom m => m
  | _ => 0

/-- A whole DOM replaces its object; none while it waits. -/
def Dev.domEffect (d : Dev) (r : Desc) (key : Nat) (image : List Byte) (src : Option Src) : Dev × Option Nat :=
  let i := r.index key
  let img := imageOf r key image
  match r.eff with
  | .gclAdmin => if img.length % 6 ≠ 0 then (d, some Stat.type) else did (d.event.setDom key img)
  | .winProg => d.winProg (i / 4) (i % 4) img src
  | .persBundle => atOnce (d.installBundle i img)
  | .mcTable | .fwdTable | .profile | .devScatter | .devGather =>
    match d.installTable key img with
    | (d, 0) => did (d.setDom key img)
    | w => atOnce w
  | .slotMap => atOnce (d.slotMapWrite i img)
  | .aapKey => if img.length ≠ 32 then (d, some Stat.type) else did (d.event.setDom (K.AAP_KEY (bits key 7 0)) img)
  | .axCmd =>
    let w := wordsOf img
    if img.length ≠ 24 then (d, some Stat.type) else atOnce (d.axCommand i (w.getD 0 0 / 65536) (w.drop 1))
  | _ =>
    if (key = K.UP_IPV6_ADDR i || key = K.UP_IPV6_GW i) && img.length ≠ 16 then (d, some Stat.type)
    else did (d.event.setDom key img)

end Sys2Proof.Machine
end

