-- ==== Sys2Proof/Machine/Dict.lean ====
section
/-! DEFINITION. The dictionary service: checks, operations, transactions, transfers and subscriptions (spec 03, R69 to R83; 14, R394, R395). -/
namespace Sys2Proof.Machine

/-- What an operation answers. `reads` says that it takes no event of its own; `took` that it took effect whatever its status. -/
structure Ans where
  status : Nat
  index : Nat := 0
  data : List Nat := []
  reads : Bool := false
  took : Bool := false
deriving DecidableEq, Repr

/-- A refusal, and a plain status. -/
def ans (st : Nat) : Ans := { status := st }

/-- The status of an effect as an answer. -/
def answered (x : Dev × Option Nat) : Dev × Option Ans := (x.1, x.2.map ans)

/-! ### Paths (R72, R78, R96) -/

/-- The level a path runs at. What a closed session still has in flight runs at the level that it had (R95). -/
def Dev.pathLevel (d : Dev) : Via → Nat
  | .hatch | .quick => d.obn K.HOST_LEVEL
  | .aap s => match d.dict.sess.find? fun x => x.sess == s.val && x.opened with
    | some x => x.level
    | none => mget d.dict.closedLevels s.val 0
  | .aapOpen _ _ => 0
  | .smbus => 1
  | .mgmt c => min (d.ctxEff c.val).mgmt (d.obn K.MGMT_LEVEL_MAX)

/-- The port that a key of areas 2 to 4 names. -/
def portOfKey (key : Nat) : Option Nat :=
  let obj := bits key 19 8
  match bits key 23 20 with
  | 2 => if obj < 0xC00 then some (obj / 32) else none
  | 3 => if obj < 0x600 then some (obj / 16) else none
  | 4 => if obj / 256 < 12 && 0x20 ≤ obj % 256 && obj % 16 < 8 then some (8 * (obj / 256) + obj % 16) else none
  | _ => none

/-- A quarantined context's management service, and its operations on its quarantined ports, end with QUARANTINED (spec 12, R323). -/
def Dev.barred (d : Dev) (via : Via) (key : Nat) : Bool :=
  match via with
  | .mgmt c =>
    d.ctxState c.val == 5 || (match portOfKey key with
      | some p => d.obn (K.P_ROLE_CONTEXT p) == c.val && d.portState p == 5
      | none => false)
  | _ => false

/-! ### The checks of R73 -/

/-- The level a read, and a write, of a key needs (R72). The table names no level for a write of a W object outside areas 5 and D:
the model takes that of an RW object (DESIGN CHOICE, log entry 59). -/
def readLevel (key : Nat) : Nat := if bits key 23 20 = 13 then 2 else 0
def writeLevel (r : Desc) (key : Nat) : Nat :=
  if bits key 23 20 = 5 || bits key 23 20 = 13 then 3 else match r.acc with
    | .rwc | .rwh => 2
    | _ => 1

/-- DENIED of a read. -/
def Dev.readCheck (d : Dev) (via : Via) (r : Desc) (key : Nat) : Nat :=
  if r.acc = .w || d.pathLevel via < readLevel key then Stat.denied else Stat.done

/-- DENIED and MODE of a write (R71, R72); every object of T0 is read only (R428). -/
def Dev.writeCheck (d : Dev) (via : Via) (r : Desc) (key : Nat) : Nat :=
  if r.acc = .r || d.pathLevel via < writeLevel r key || (bits key 23 20 = 9 && bits key 19 8 < 0x10) then Stat.denied
  else if (r.acc = .rwc && d.mode ≠ 2) || (r.acc = .rwh && d.mode ≠ 2 && d.mode ≠ 7) then Stat.mode
  else Stat.done

/-- NO_KEY, DENIED or MODE of an object's own rule, whatever the value written: R73 puts them before TYPE and RANGE (R102, R142, R143, R160, R466). -/
def Dev.effectFirst (d : Dev) (r : Desc) (key : Nat) (w : List Nat) : Nat :=
  let i := r.index key
  let st := d.portState i
  let first := fun (c : Bool) (s : Nat) => if c then s else Stat.done
  match r.eff with
  | .roleMove => first (decide (128 ≤ d.obn (K.P_ROLE_CONTEXT i))) Stat.noKey
  | .axCmd => first (!d.obb (K.AX_USE i)) Stat.noKey
  | .ctxPersSwap => first (w.length == 1 && !d.hasBundle (w.getD 0 0 % 256)) Stat.noKey
  | .jtagLock => first (w == [0] && d.obb K.JTAG_LOCK) Stat.denied
  | .recal => first (!(st == 1 || st == 2 || st == 3)) Stat.mode
  | .tdrStart => first (d.tdrStatus i == Stat.mode) Stat.mode
  | _ => Stat.done

/-- The place of a status in the order of R73. -/
def rank73 (st : Nat) : Nat := ([Stat.noKey, Stat.denied, Stat.mode, Stat.type, Stat.range].findIdx? (· == st)).getD 5

/-- The status of a refused write: that of the object's own rule where it comes first. -/
def Dev.firstOf (d : Dev) (r : Desc) (key : Nat) (w : List Nat) (st : Nat) : Nat :=
  let own := d.effectFirst r key w
  if own ≠ Stat.done && rank73 own < rank73 st then own else st

/-- Every check of a write but those of its effect: the value, or the first status. -/
def Dev.valueOf (d : Dev) (via : Via) (key : Nat) (w : List Nat) : Desc × Int × Nat :=
  match d.desc key with
  | none => (⟨0, 1, 0, 0, 0, 0, .u24, .r, 0, 0, 0, none, false, .plain⟩, 0, Stat.noKey)
  | some r =>
    let st := d.writeCheck via r key
    if st ≠ Stat.done then (r, 0, d.firstOf r key w st)
    else if w.length ≠ r.ty.words || r.ty.words = 0 then (r, 0, d.firstOf r key w Stat.type)
    else match r.ty.decode w with
      | some v => if r.allows v then (r, v, Stat.done) else (r, 0, d.firstOf r key w Stat.range)
      | none => (r, 0, d.firstOf r key w Stat.range)

/-! ### READ and WRITE (R75, R76) -/

/-- The value of a key, or the status that refuses the read. -/
def Dev.readKey (d : Dev) (via : Via) (key : Nat) : Nat × List Nat :=
  if d.barred via key then (Stat.quarantined, []) else
  match d.desc key with
  | none => (Stat.noKey, [])
  | some r =>
    let st := d.readCheck via r key
    if st ≠ Stat.done then (st, []) else if d.atticPoisoned key then (Stat.poison, []) else if r.ty.words = 0 then (Stat.type, []) else (Stat.done, d.wordsAt r key)

/-- READ; the quick window carries at most two words (R90). -/
def Dev.opRead (d : Dev) (r : Src) (key : Nat) : Ans :=
  match d.readKey r.via key with
  | (0, w) => if r.via = .quick && 2 < w.length then ans Stat.type else { status := Stat.done, data := w, reads := true }
  | (st, _) => ans st

/-- READ_MULTI: the values in order, up to the first item that fails. -/
def Dev.multiRead (d : Dev) (via : Via) : List Nat → Nat → List Nat → Ans
  | [], _, acc => { status := Stat.done, data := acc, reads := true }
  | k :: l, i, acc =>
    match d.readKey via k with
    | (0, w) => d.multiRead via l (i + 1) (acc ++ w)
    | (st, _) => { status := st, index := i, data := acc, reads := true }

def Dev.opReadMulti (d : Dev) (r : Src) (keys : List Nat) : Ans :=
  if keys.isEmpty then ans Stat.type else
  let a := d.multiRead r.via keys 0 []
  if 61 < a.data.length then ans Stat.type else a

/-- WRITE. -/
def Dev.opWrite (d : Dev) (r : Src) (key : Nat) (w : List Nat) : Dev × Option Ans :=
  if d.barred r.via key then (d, some (ans Stat.quarantined)) else
  match d.valueOf r.via key w with
  | (x, v, 0) =>
    let y := d.effect x key v (some r) true
    answered (if y.2 = some Stat.done then y.1.atticWritten key else y.1, y.2)
  | (_, _, st) => (d, some (ans st))

/-- The items of a WRITE_MULTI, each with its value or its first status; the list ends at an item whose length is not known. -/
def Dev.multiItems (d : Dev) (via : Via) : Nat → List Nat → List (Nat × Desc × Int × Nat)
  | 0, _ => []
  | _, [] => []
  | fuel + 1, k :: l =>
    let st := fun (n : Nat) => (k, (d.valueOf via k (l.take n)).1, (d.valueOf via k (l.take n)).2)
    if d.barred via k then [(k, (d.valueOf via k []).1, 0, Stat.quarantined)] else
    match d.desc k with
    | none => [st 0]
    | some r => st r.ty.words :: (if r.ty.words = 0 then [] else d.multiItems via fuel (l.drop r.ty.words))

/-- One item after the first takes its effect at the number already taken. -/
def Dev.atSameNumber (d : Dev) (f : Dev → Dev × Option Nat) : Dev × Option Nat :=
  let prev := (d.seq + 2 ^ 24 - 1) % 2 ^ 24
  let (d', st) := f { d with seq := prev }
  (if d'.seq = prev then { d' with seq := d.seq } else d', st)

/-- The request that an item has put into the Tap's queue. -/
def newWait (before after : Dev) : Option TapReq := after.tap.queue.find? fun q => !before.tap.queue.contains q

/-- How the items of a WRITE_MULTI end: all applied, one refused, or one that waits for a permit. -/
inductive MultiEnd where
  | all
  | refused (index status : Nat)
  | waits (index : Nat) (q : TapReq)
deriving DecidableEq, Repr

/-- Apply the items in order, each checked against the state that the earlier ones leave. An item that goes on after its event has taken effect;
one that waits for a permit makes the whole wait. -/
def Dev.multiApply (d : Dev) (r : Src) : List (Nat × Desc × Int × Nat) → Nat → Dev × MultiEnd
  | [], _ => (d, .all)
  | (k, x, v, _) :: l, i =>
    let go := fun (d : Dev) => d.effect x k v (some r) false
    match (if i = 0 then go d else d.atSameNumber go) with
    | (d', some 0) => d'.multiApply r l (i + 1)
    | (d', some st) => (d', .refused i st)
    | (d', none) => match newWait d d' with
      | some q => (d', .waits i q)
      | none => d'.multiApply r l (i + 1)

/-- WRITE_MULTI: all or nothing (R76). An item that needs a queued permit keeps the whole waiting, in that request's place of the Tap's queue and for the
rest of the 100 ms (R82): nothing is written until the permit comes, and then every item is judged again. -/
def Dev.opWriteMulti (d : Dev) (r : Src) (w : List Nat) : Dev × Option Ans :=
  let items := d.multiItems r.via 61 w
  if items.isEmpty then (d, some (ans Stat.type)) else
  match items.findIdx? fun e => e.2.2.2 != Stat.done with
  | some i => (d, some { status := (items[i]?.map fun e => e.2.2.2).getD Stat.internal, index := i })
  | none =>
    match d.multiApply r items 0 with
    | (_, .refused i st) => (d, some { status := st, index := i })
    | (_, .waits i q) =>
      let q := { q with holder := .multi r, waitEnds := d.now + d.waitLeft (some r) * 1000000, tag := i }
      (d.modTap fun t => { t with queue := tapInsert q t.queue }, none)
    | (d', .all) =>
      match items.findIdx? fun e => d'.crossBad e.2.1 e.1 != Stat.done with
      | some i => (d, some { status := (items[i]?.map fun e => d'.crossBad e.2.1 e.1).getD Stat.internal, index := i })
      | none => (d', some (ans Stat.done))

/-! ### Signals (R394, R395) -/

/-- SIG_READ: up to 15 entries at one point. -/
def Dev.sigEntries (d : Dev) (n : Nat) : Nat → Nat → List Nat → Ans
  | 0, _, acc => { status := Stat.done, data := acc, reads := true }
  | k + 1, i, acc =>
    if d.entryPoisoned (n + i) then { status := Stat.poison, index := i, data := acc, reads := true }
    else d.sigEntries n k (i + 1) (acc ++ d.ldAll (sigAddr (n + i) 0) 4)

def Dev.opSigRead (d : Dev) (r : Src) (sig count : Nat) : Ans :=
  if d.barred r.via 0 then ans Stat.quarantined
  else if count = 0 || 15 < count || 2 ^ 20 < sig + count then ans Stat.range
  else d.sigEntries sig count 0 []

/-- SIG_WRITE, SIG_FORCE and SIG_UNFORCE. A TARGET from 2^20 on is RANGE (log entry 59, DESIGN CHOICE). -/
def Dev.opSig (d : Dev) (r : Src) (op : WOp) (sig : Nat) (w : List Nat) : Dev × Ans :=
  if d.barred r.via 0 then (d, ans Stat.quarantined) else
  match d.regionOf (sig % 2 ^ 20) with
  | none => (d, ans Stat.noKey)
  | some reg =>
    let level := if op = .write then 1 else 2
    if d.pathLevel r.via < level then (d, ans Stat.denied)
    else if op = .force && d.mode ≠ 2 && d.mode ≠ 7 then (d, ans Stat.mode)
    else if (op ≠ .unforce && w.length ≠ 2) || 61 < w.length then (d, ans Stat.type)
    else if 2 ^ 20 ≤ sig then (d, ans Stat.range)
    else if !d.mayWrite reg (if op = .write then .dictWrite else .dictForce) false then (d, ans Stat.denied)
    else
      let (d, ok) := d.event.applyWrite reg
        ⟨sig, w.getD 0 0 * 2 ^ 24 + w.getD 1 0, 127, viaNode r.via, op, d.tbNs (d.obn (K.REG_TB reg))⟩
      (d, { status := if ok then Stat.done else Stat.aborted, took := true })

/-! ### DOMAIN_PUT and DOMAIN_GET (R75, R77) -/

/-- Transfers without a chunk for 1 s are gone. -/
def Dev.freshPuts (d : Dev) : Dev := d.modDict fun x => { x with puts := x.puts.filter fun p => decide (d.now < p.at_ + 1000000000) }

def Dev.dropPut (d : Dev) (key : Nat) : Dev := d.modDict fun x => { x with puts := x.puts.filter fun p => p.key != key }

def Dev.setPut (d : Dev) (key : Nat) (via : Via) (data : List Byte) : Dev :=
  (d.dropPut key).modDict fun x => { x with puts := ⟨key, via, data, d.now⟩ :: x.puts }

/-- A whole image goes to its object; while it waits for a permit the image stays in the transfer. -/
def Dev.putWhole (d : Dev) (r : Src) (x : Desc) (key : Nat) (img : List Byte) : Dev × Option Ans :=
  if x.ty.most < img.length then (d.dropPut key, some (ans Stat.range)) else
  match d.domEffect x key img (some r) with
  | (d, some 0) => (d.dropPut key, some (ans Stat.done))
  | (d, some st) => (d, some (ans st))
  | (d, none) => (d.setPut key r.via img, none)

/-- The status of a whole image while another path's transfer of the object is open: a TYPE or RANGE of its own goes before BUSY (R73). -/
def Dev.putAhead (d : Dev) (r : Src) (x : Desc) (key : Nat) (img : List Byte) : Nat :=
  if x.eff = .fwBundle then (if x.ty.most < img.length then Stat.range else Stat.busy) else
  match (d.dropPut key).putWhole r x key img with
  | (_, some a) => if rank73 a.status < 5 then a.status else Stat.busy
  | (_, none) => Stat.busy

/-- One chunk of a transfer. -/
def Dev.putChunk (d : Dev) (r : Src) (x : Desc) (key ofs : Nat) (final : Bool) (l : List Byte) : Dev × Option Ans :=
  let d := d.freshPuts
  let open_ := d.dict.puts.find? fun p => p.key == key
  let other := match open_ with
    | some p => p.via != r.via
    | none => false
  if (x.eff = .aapKey && (!final || ofs ≠ 0 || l.length ≠ 32)) || (x.eff = .axCmd && (!final || ofs ≠ 0 || l.length ≠ 24)) then
    (d, some (ans (d.firstOf x key [] Stat.type)))
  else if ofs = 0 && other then (d, some (ans (if final then d.putAhead r x key l else if x.ty.most < l.length then Stat.range else Stat.busy)))
  else
    let soFar := match open_ with
      | some p => p.data
      | none => []
    if ofs ≠ 0 && (open_.isNone || other) then (d, some (ans Stat.range))
    else if ofs ≠ soFar.length || x.ty.most < ofs + l.length then (d.dropPut key, some (ans Stat.range))
    else if x.eff = .fwBundle then
      let d' := if ofs = 0 then d.setPut key r.via [] else d
      match d'.fwChunk final l r with
      | (d', some st) => if st = Stat.busy || st = Stat.permit then (d, some (ans st)) else (d', some (ans st))
      | (d', none) => (d', none)
    else if final then d.putWhole r x key (soFar ++ l)
    else (d.setPut key r.via (soFar ++ l), some (ans Stat.done))

/-- DOMAIN_PUT. -/
def Dev.opPut (d : Dev) (r : Src) (key ofs : Nat) (w : List Nat) : Dev × Option Ans :=
  if d.barred r.via key then (d, some (ans Stat.quarantined)) else
  match d.desc key with
  | none => (d, some (ans Stat.noKey))
  | some x =>
    let st := d.writeCheck r.via x key
    let n := bits (w.getD 0 0) 7 0
    let bad := fun (s : Nat) => (d, some (ans (d.firstOf x key [] s)))
    if st ≠ Stat.done then bad st
    else if x.ty.words ≠ 0 || w.length ≠ 1 + (n + 2) / 3 then bad Stat.type
    else if n = 0 || 174 < n then bad (if x.eff = .aapKey || x.eff = .axCmd then Stat.type else Stat.range)
    else d.putChunk r x key ofs ((w.getD 0 0).testBit 23) ((bytesOf (w.drop 1)).take n)

/-- A whole transfer in one: its chunks in order, from one path, until one is refused; the last one sent answers. -/
def Dev.opPutAll (d : Dev) (r : Src) (key : Nat) (img : List Byte) : Dev × Option Ans :=
  if d.barred r.via key then (d, some (ans Stat.quarantined)) else
  match d.desc key with
  | none => (d, some (ans Stat.noKey))
  | some x =>
    let st := d.writeCheck r.via x key
    let d' := d.freshPuts
    if st ≠ Stat.done then (d, some (ans (d.firstOf x key [] st)))
    else if x.ty.words ≠ 0 || img.isEmpty then (d, some (ans (d.firstOf x key [] Stat.type)))
    else if d'.dict.puts.any fun p => p.key == key && p.via != r.via then (d', some (ans (d'.putAhead r x key img)))
    else if d'.dict.puts.any fun p => p.key == key && !p.data.isEmpty then (d'.dropPut key, some (ans Stat.range))
    else (d'.dropPut key).putWhole r x key img

/-- DOMAIN_GET. -/
def Dev.opGet (d : Dev) (r : Src) (key ofs : Nat) (w : List Nat) : Ans :=
  if d.barred r.via key then ans Stat.quarantined else
  match d.desc key with
  | none => ans Stat.noKey
  | some x =>
    let st := d.readCheck r.via x key
    let n := bits (w.getD 0 0) 7 0
    let isDom := match x.ty with
      | .dom _ => true
      | _ => false
    if st ≠ Stat.done then ans st
    else if !isDom || w.length ≠ 1 then ans Stat.type
    else
      let all := d.readDom key
      if n = 0 || 174 < n || all.length < ofs then ans Stat.range
      else
        let l := (all.drop ofs).take n
        { status := Stat.done, data := ((if all.length ≤ ofs + n then 2 ^ 23 else 0) + l.length) :: wordsOf l, reads := true }

/-! ### SUBSCRIBE (R79) and RESTORE_DEFAULTS (R100) -/

def Dev.opSubscribe (d : Dev) (r : Src) (key arg : Nat) : Dev × Ans :=
  if d.barred r.via key then (d, ans Stat.quarantined) else
  match d.desc key with
  | none => (d, ans Stat.noKey)
  | some x =>
    if x.acc = .w then (d, ans Stat.denied)
    else if 13 < x.ty.words || x.ty.words = 0 then (d, ans Stat.type)
    else
      let mine := d.dict.subs.filter fun s => s.via == r.via
      let old := mine.find? fun s => s.key == key
      let rest := d.dict.subs.filter fun s => !(s.via == r.via && s.key == key)
      let num := match old with
        | some s => some s.num
        | none => (List.range 64).find? fun n => mine.all fun s => s.num != n
      if !arg.testBit 23 && arg % 65536 = 0 then
        (d.modDict fun y => { y with subs := rest }, { status := Stat.done, data := [(old.map (·.num)).getD 0], reads := true })
      else match num with
        | none => (d, ans Stat.busy)
        | some n =>
          (d.modDict fun y => { y with subs := ⟨r.via, n, key, arg.testBit 23, arg % 65536, d.now, d.wordsAt x key⟩ :: rest },
            { status := Stat.done, data := [n], reads := true })

/-- A base that runs on its reserve goes back toward its own source before its TB_RESERVE takes the default, so that its published value does not jump
(R100, R420; log entry 43, DEDUCED). -/
def Dev.offReserve (d : Dev) (key : Nat) : Dev :=
  (List.range 7).foldl (fun d i => d.iff (key == K.TB_RESERVE (i + 1) && ((d.tb (i + 1)).state == 1 || (d.tb (i + 1)).state == 2)) fun d => d.tbToOwn (i + 1)) d

/-- One saved object takes its default, as a write of it would; whatever refuses the write, the object reads its default. -/
def Dev.restoreOne (d : Dev) (r : Src) (key : Nat) : Dev :=
  match descOf key with
  | none => d
  | some x =>
    let v : Int := if key = K.TAP_BUDGET then (d.gradeLimit : Nat) else x.dflt
    let (d', st) := (d.offReserve key).atSameNumber fun d => d.effect x key v (some r) false
    let d := if st = some Stat.done then d' else d
    { d with od := mdel d.od key }

def Dev.opRestore (d : Dev) (r : Src) : Dev × Ans :=
  if d.barred r.via 0 then (d, ans Stat.quarantined)
  else if d.pathLevel r.via < 3 then (d, ans Stat.denied)
  else if d.mode ≠ 2 && d.mode ≠ 7 then (d, ans Stat.mode)
  else
    let keys := (d.od.map (·.1)).filter isSaved
    let doms := (d.blob.map (·.1)).filter isSaved
    let d := keys.foldl (fun d k => d.restoreOne r k) d.event
    let d := doms.foldl (fun d k => { (d.installTable k []).1 with blob := mdel d.blob k }) d
    (d, ans Stat.done)

/-! ### Requests (R74, R80 to R82) -/

/-- What a write of an object waits for, when it waits. -/
def waitOf (d : Dev) (op key : Nat) (v : Nat) : Wait :=
  if op = 11 then .permit .save else
  match d.desc key with
  | none => .flash
  | some r =>
    let i := r.index key
    match r.eff with
    | .modeRequest => .mode
    | .portMode | .portAdmin => .portAnswer i
    | .regClear => .clearing i
    | .roleMove => .permit (.roleMove i)
    | .tdrStart => .permit (.tdr i)
    | .tileCmd => .permit (if v = 2 then .tileCal i else .tileStart i)
    | .ctxCmd | .ctxMigrate => .permit (.migrate i)
    | .ctxPersSwap => .permit (.pers i)
    | .winProg => .permit (.window i)
    | .segCmd => match d.segPort i with
      | some p => .permit (.window (winOf (p / 8) (d.obn (K.SEG_WIN i))))
      | none => .flash
    | _ => .permit .firmware

/-- What a request waits for, when it waits: a WRITE_MULTI waits for a permit as one (R82). -/
def waitFor (d : Dev) (r : Src) (op key v : Nat) : Wait := if op = 4 then .permit (.multi r) else waitOf d op key v

/-- R96: what the Sump passes or serves for SMBus. Of its own area it serves READ and WRITE: the rule names no other operation of it
(DESIGN CHOICE, log entry 59). -/
def smbAllows (op key : Nat) (w : List Nat) : Bool :=
  let area := bits key 23 20
  (op == 1 && (area == 15 || area ≤ 1)) || (op == 2 && (area == 15 || (key == K.MODE_REQUEST && (w == [0] || w == [7]))))

/-- R94: what AAP carries without a session. -/
def openAllows (op key : Nat) (w : List Nat) : Bool :=
  match op with
  | 1 | 10 => readLevel key == 0
  | 3 => w.all fun k => readLevel k == 0
  | 5 | 13 => true
  | _ => false

/-- The effect of an operation that its path admits. -/
def Dev.perform (d : Dev) (r : Src) (op key arg : Nat) (w : List Nat) : Dev × Option Ans :=
  let at1 := fun (x : Dev × Ans) => (x.1, some x.2)
  match op with
  | 1 => (d, some (d.opRead r key))
  | 2 => d.opWrite r key w
  | 3 => (d, some (d.opReadMulti r w))
  | 4 => d.opWriteMulti r w
  | 5 => (d, some (d.opSigRead r key arg))
  | 6 => at1 (d.opSig r .write key w)
  | 7 => at1 (d.opSig r .force key w)
  | 8 => at1 (d.opSig r .unforce key w)
  | 9 => d.opPut r key arg w
  | 10 => (d, some (d.opGet r key arg w))
  | 11 => if d.barred r.via 0 then (d, some (ans Stat.quarantined)) else if d.pathLevel r.via < 3 then (d, some (ans Stat.denied)) else answered (d.saveReq r)
  | 12 => at1 (d.opRestore r)
  | 13 => at1 (d.opSubscribe r key arg)
  | _ => (d, some (ans Stat.range))

/-- The effect of a request's operation. A payload above 61 words is refused with TYPE, after the checks that come before it (R73, R74). -/
def Dev.operate (d : Dev) (r : Src) (op key arg : Nat) (w : List Nat) : Dev × Option Ans :=
  let bad := match r.via with
    | .smbus => if smbAllows op key w then Stat.done else Stat.denied
    | .aapOpen _ _ => if openAllows op key w then Stat.done else Stat.auth
    | _ => Stat.done
  if bad ≠ Stat.done then (d, some (ans bad))
  else if 61 < w.length then
    let st := if op = 3 || op = 4 then Stat.type else match (d.perform r op key arg w).2 with
      | some a => if [Stat.quarantined, Stat.noKey, Stat.denied, Stat.mode].contains a.status then a.status else Stat.type
      | none => Stat.type
    (d, some (ans st))
  else d.perform r op key arg w

/-- The keys a transaction is on (R81). -/
def Tx.keys (d : Dev) (t : Tx) : List Nat :=
  match t.op with
  | 1 | 2 | 9 | 10 | 13 => [t.key]
  | 3 => t.args.drop 1
  | 4 => (d.multiItems t.src.via 61 (t.args.drop 1)).map (·.1)
  | _ => []

/-- Does an earlier transaction on the same key stand in the way (R81)? Before a later write, a waiting mode request or port write does not: the later
one ends it (R41, R135). -/
def Dev.blocked (d : Dev) (t : Tx) : Bool :=
  let keys := t.keys d
  let writes := t.op == 2 || t.op == 4
  (d.dict.inflight.takeWhile fun u => u.src != t.src).any fun u =>
    u.took.isNone && !(writes && (u.wait == .mode || (match u.wait with
      | .portAnswer _ => true
      | _ => false))) && (u.keys d).any keys.contains

/-- A transaction has its answer: SEQ, its entry in the journal when it has taken effect, its end, and the completion on its path. From here on it is no
longer in flight, also while it waits for a slot of the completion ring (R80, R87; DESIGN CHOICE, log entry 59).
A request that powered the dictionary service off is answered on the Sump's path only. -/
def Dev.finish (d : Dev) (t : Tx) (s0 : Nat) (a : Ans) : Dev :=
  let took := a.status = Stat.done || a.took
  let d := if took && !a.reads && d.seq = s0 then d.event else d
  let seq := if a.reads then (if took then s0 else 0) else if took then d.dict.took.getD ((s0 + 1) % 2 ^ 24) else 0
  let d := d.iff (took && !a.reads) fun d => d.journal t a.status seq
  if !d.domOn 2 && t.src.via ≠ .smbus then d
  else (d.endTx t.src).deliverCompl ⟨t.src, t.op, a.status, a.index, seq, a.data⟩

/-- Carry out a transaction kept in flight. `f` is its operation. -/
def Dev.carry (d : Dev) (t : Tx) (f : Dev → Dev × Option Ans) : Dev :=
  let s0 := d.seq
  match f (d.modDict fun x => { x with took := none }) with
  | (d, some a) => (d.finish t s0 a).modDict fun x => { x with took := none }
  | (d, none) => d

/-- A request is taken by the dictionary keeper, with `f` its operation (R80). -/
def Dev.take (d : Dev) (r : Src) (op key : Nat) (args : List Nat) (f : Dev → Dev × Option Ans) : Dev :=
  if 256 ≤ d.dict.inflight.length || d.dict.inflight.any fun t => t.src == r then
    (d.bump K.DICT_BUSY).deliverCompl ⟨r, op, Stat.busy, 0, 0, []⟩
  else
    let t : Tx := { src := r, op := op, key := key, started := d.now, wait := waitFor d r op key (args.getD 1 0), args := args }
    let d := { d with free := d.free + 512 }
    if d.blocked t then d.keepTx { t with wait := .behind } else (d.keepTx t).carry t f

/-- The Sump serves its own area, and refuses or passes the rest (R96). -/
def Dev.smbServe (d : Dev) (r : Src) (op key arg : Nat) (w : List Nat) : Dev :=
  let t : Tx := { src := r, op := op, key := key, started := d.now, wait := .flash }
  if smbAllows op key w && op = 2 && key = K.MODE_REQUEST && w = [7] then
    d.carry t fun d => (d.sumpHold true, some (ans Stat.done))
  else if smbAllows op key w && bits key 23 20 ≠ 15 then d.deliverCompl ⟨r, op, Stat.asleep, 0, 0, []⟩
  else d.carry t fun d => d.operate r op key arg w

/-- One request of R74 on its path. While no keeper holds the role it is not taken, but for what the Sump answers. -/
def Dev.request (d : Dev) (r : Src) (op key arg : Nat) (w : List Nat) : Dev :=
  if r.via = .smbus && (!d.served 0 || !smbAllows op key w || bits key 23 20 = 15) then d.smbServe r op key arg w
  else if !d.served 0 then d
  else d.take r op key (arg :: w) fun d => d.operate r op key arg w

/-- A request from its words (R74): LEN above 61 is refused with TYPE. -/
def Dev.requestWords (d : Dev) (via : Via) (w : List Nat) : Dev :=
  let w0 := w.getD 0 0
  let n := bits w0 7 0
  d.request ⟨via, BitVec.ofNat 8 (bits w0 15 8)⟩ (bits w0 23 16) (w.getD 1 0) (w.getD 2 0)
    (if n ≤ 61 then (w.drop 3).take n ++ List.replicate (n - (w.drop 3).length) 0 else List.replicate 62 0)

/-- A WRITE, and a whole DOMAIN_PUT, as one request. -/
def Dev.writeReq (d : Dev) (r : Src) (key : Nat) (w : List Nat) : Dev := d.request r 2 key 0 w
def Dev.putReq (d : Dev) (r : Src) (key : Nat) (img : List Byte) : Dev :=
  if !d.served 0 then d else d.take r 9 key [0] fun d => d.opPutAll r key img

/-- Transactions whose turn on their key has come (R81). -/
def Dev.unblock (d : Dev) : Nat → Dev
  | 0 => d
  | fuel + 1 =>
    if !d.served 0 then d else
    match d.dict.inflight.find? fun t => t.wait == .behind && !d.blocked t with
    | none => d
    | some t =>
      let w := t.args.drop 1
      let t' := { t with wait := waitFor d t.src t.op t.key (w.getD 0 0) }
      let d := d.modDict fun x => { x with inflight := x.inflight.map fun u => if u.src = t.src then t' else u }
      (d.carry t' fun d => d.operate t.src t.op t.key (t.args.getD 0 0) w).unblock fuel

/-! ### The Hatch rings and the quick window (R85 to R90) -/

/-- Take every posted slot of the request ring. -/
def Dev.takeSlots (d : Dev) : Nat → Dev
  | 0 => d
  | fuel + 1 =>
    if d.ringFill 1 2 = 0 || !d.served 0 || !d.domOn 2 then d else
    let h := d.ld (hatch 2)
    let w := d.ldAll (hatch (0x100 + 64 * (h % 256))) 64
    ((d.st (hatch 2) ((h + 1) % 2 ^ 24)).requestWords .hatch w).takeSlots fuel

/-- The request ring is served after a doorbell. -/
def Dev.serveRing (d : Dev) : Dev :=
  if d.dict.rung && d.served 0 && d.domOn 2 then
    (d.modDict fun x => { x with rung := false }).takeSlots (min 256 (d.ringFill 1 2))
  else d

/-- The quick window's operation, once a keeper takes it. -/
def Dev.serveQuick (d : Dev) : Dev :=
  let q := d.dict.quick
  if q.op = 0 || !d.served 0 then d else
  let d := d.modDict fun x => { x with quick := { x.quick with op := 0 } }
  d.request ⟨.quick, 0⟩ (if q.op = 1 then 1 else 2) q.key 0 (if q.op = 1 then [] else if q.op = 2 then [q.data0] else [q.data0, q.data1])

/-- A notification ring entry, or one more lost (R87). -/
def Dev.postNote (d : Dev) (w : List Nat) : Dev :=
  if 128 ≤ d.ringFill 5 6 then d.st (hatch 7) (min (d.ld (hatch 7) + 1) (2 ^ 24 - 1))
  else
    let t := d.ld (hatch 5)
    (d.stAll (hatch (0x8100 + 16 * (t % 128))) w).st (hatch 5) ((t + 1) % 2 ^ 24)

/-- A subscription falls due (R79): a period passes, or the value has changed.
While AAP_OPEN_READ is 0 the subscriptions of the path without a session are mute and stay (log entry 59, DESIGN CHOICE). -/
def Dev.subscribeSend (d : Dev) (via : Via) (num : Nat) : Dev :=
  match d.dict.subs.find? fun s => s.via == via && s.num == num with
  | none => d
  | some s =>
    if !d.served 0 then d else
    let d := d.upTo (s.sentAt + (if s.period = 0 then 1 else s.period) * 1000000)
    match d.desc s.key with
    | none => d
    | some x =>
      let v := d.wordsAt x s.key
      if s.onChange && v == s.last then d else
      let w := [0xC0 * 65536 + num * 256 + v.length, 0, d.seq] ++ v
      let d := d.modDict fun y => { y with subs := y.subs.map fun u => if u.via = via && u.num = num then { u with sentAt := d.now, last := v } else u }
      let d := { d with free := d.free + 512 }
      match via with
      | .hatch => d.postNote w
      | .aap k => (d.aapSend k.val 0x12 (bytesOf w)).1
      | .mgmt c => d.emit (.notify c.val w)
      | .aapOpen u addr =>
        if d.obb K.AAP_OPEN_READ then let (n, d) := d.fresh 32; d.emit (.aap u.val addr (aapDgram 0x12 0xFFFF n (bytesOf w) none)) else d
      | _ => d

end Sys2Proof.Machine
end

