-- ==== Sys2Proof/Machine/Uluen.lean ====
section
/-! DEFINITION. How a core issues an instruction: stalls, accesses, stacks, pairs, far requests, waiting and interrupt entry (spec 10, 11). -/
namespace Sys2Proof.Machine

/-! ### Issue and stalls (R274, R318) -/

/-- What an instruction reads or uses that may still be outstanding (R274). -/
structure Needs where
  regs : List (Fin 16) := []
  srs : List Nat := []
  mem : Bool := false
deriving DecidableEq, Repr

/-- The cycle in which an instruction that could issue in cycle n does issue (R274). -/
def Core.issueAt (x : Core) (n : Nat) (u : Needs) : Nat :=
  let waits := u.mem || u.regs.any (fun r => r.val != 0 && r.val == x.accReg) || u.srs.any (fun s => x.accSr == some s)
  if n < x.accEnds && waits then x.accEnds else n

/-- A plain special register keeps an outstanding store's value (log entry 24). -/
def Core.keepSr (old new : Core) (s : Nat) : Core :=
  match s with
  | 0 => { new with flags := old.flags }
  | 1 => { new with dsp := old.dsp }
  | 2 => { new with dsl := old.dsl }
  | 5 => { new with mh := old.mh }
  | 6 => { new with ml := old.ml }
  | 8 => { new with amode := old.amode }
  | 17 => { new with ctx := old.ctx }
  | 23 => { new with ivbase := old.ivbase }
  | 24 => { new with imod := old.imod }
  | _ =>
    if h : s - 9 < 4 then (if 9 ≤ s then { new with base := new.base.set (s - 9) old.base[s - 9] } else new)
    else if h : s - 13 < 4 then { new with mlen := new.mlen.set (s - 13) old.mlen[s - 13] } else new

/-- Data of an access that is still outstanding lands after an instruction issued in cycle n wrote the same register (R274; log entry 24). -/
def Core.outstanding (old : Core) (n : Nat) (new : Core) : Core :=
  if old.accEnds ≤ n then new else
  let new := if h : old.accReg < 16 then new.setReg ⟨old.accReg, h⟩ (old.reg ⟨old.accReg, h⟩) else new
  match old.accSr with
  | some s => old.keepSr new s
  | none => new

/-- Issue one instruction: `f n` is its effect in cycle n with its issue cycles. A core that does not run, that waits or
that has a trap to take issues nothing. -/
def Dev.instr (d : Dev) (c : Nat) (u : Needs) (f : Nat → Dev → Dev × Nat) : Dev :=
  if !d.issues c then d else
  let n := (d.core c).issueAt (d.cycleOf c) u
  let d := d.modCore c fun x => { x.landBefore n with cyc := n }
  let x := d.core c
  let (d, k) := f n d
  d.modCore c fun y => { x.outstanding n y with cyc := n + k }

/-- An instruction of registers alone. -/
def Dev.regInstr (d : Dev) (c : Nat) (regs : List (Fin 16)) (srs : List Nat) (cost : Nat) (f : Nat → Core → Core) : Dev :=
  d.instr c { regs := regs, srs := srs } fun n d => (d.modCore c (f n), cost)

/-- The next word. -/
def Core.next (x : Core) : Core := { x with pc := x.pc + 1 }

/-- Write a result and its flags, and go on. -/
def Core.result (x : Core) (rd : Fin 16) (r : Word × FlagUpd) : Core :=
  { (x.setReg rd r.1) with flags := r.2.on x.flags, pc := x.pc + 1 }

/-- Write flags alone, and go on. -/
def Core.flagResult (x : Core) (r : Word × FlagUpd) : Core := { x with flags := r.2.on x.flags, pc := x.pc + 1 }

/-! ### Far requests (R285 to R289) -/

/-- The completion word of a request (R288). -/
def FarReq.word (r : FarReq) : Word := Machine.word (r.words * 65536 + r.done.getD 0)

/-- What a request completes with at once, DONE where it is issued (R106, R285, R393). -/
def farAtOnce (c a op cnt loc : Nat) : Nat :=
  if 2 < op || (op = 2 && cnt ≠ 0) then Stat.range
  else if localWords c ≤ loc + cnt then Stat.internal
  else
    let st := farRefused c a (op != 0)
    if st ≠ Stat.done then st
    else if farEnd a ≤ a + cnt then Stat.internal
    else if op = 2 && isCellar a then Stat.denied else Stat.done

/-- FREQ: the lowest free tag, or 0xFFFFFF (R285, R286). -/
def Dev.farIssue (d : Dev) (c a ctl : Nat) : Dev × Word :=
  match (List.range 32).find? fun t => (d.core c).far.all fun r => r.tag != t with
  | none => (d, 0xFFFFFF)
  | some t =>
    let op := bits ctl 23 20
    let cnt := bits ctl 19 16
    let loc := bits ctl 15 0
    let st := farAtOnce c a op cnt loc
    let r : FarReq := { tag := t, addr := a, op := op, cnt := cnt, loc := loc, issued := d.now,
                        done := if st = Stat.done then none else some st }
    (d.modCore c fun x => { x with far := x.far ++ [r] }, word t)

/-- One word of a request (R285, R287): its status. -/
def Dev.farOne (d : Dev) (c : Nat) (r : FarReq) (i : Nat) : Dev × Nat :=
  let a := r.addr + i
  let l := localAddr c (r.loc + i)
  let mine := d.ld l
  let bad := d.poisoned l
  match r.op with
  | 0 =>
    let (d, v, st) := d.farRead c a
    if st = Stat.done then ((d.st l v).winTouched c (r.loc + i), st) else (d, st)
  | 1 => if bad then (d, Stat.poison) else d.farWrite c a mine
  | _ =>
    if bad then (d, Stat.poison) else
    let (d, v, st) := d.farRead c a
    if st ≠ Stat.done then (d, st) else
    let (d, st) := d.farWrite c a mine
    if st ≠ Stat.done then (d, st) else ((d.st l v).winTouched c (r.loc + i), st)

/-- Change the request of a tag. -/
def Dev.modFar (d : Dev) (c t : Nat) (f : FarReq → FarReq) : Dev :=
  d.modCore c fun x => { x with far := x.far.map fun r => if r.tag = t then f r else r }

/-- Perform a request's words up to number m, stopping at the first that fails. -/
def Dev.farRun (d : Dev) (c : Nat) (r : FarReq) (m : Nat) : Dev :=
  if r.ended.isSome || r.done.isSome then d else
  let x := ((List.range (m - r.words)).map (· + r.words)).foldl
    (fun (x : Dev × Nat × Nat) i =>
      if x.2.2 ≠ Stat.done then x else
      let (d, st) := x.1.farOne c r i
      (d, if st = Stat.done then x.2.1 + 1 else x.2.1, st)) (d, r.words, Stat.done)
  x.1.modFar c r.tag fun q =>
    { q with words := x.2.1, ended := if x.2.2 ≠ Stat.done then some x.2.2 else if x.2.1 = r.cnt + 1 then some Stat.done else none }

/-- Do two requests touch a common far word? -/
def FarReq.meets (r q : FarReq) : Bool := decide (r.addr ≤ q.addr + q.cnt) && decide (q.addr ≤ r.addr + r.cnt)

/-- Free a tag that an FWAIT or FPOLL collects. -/
def Core.freeTag (x : Core) (t : Nat) : Core := { x with far := x.far.filter fun r => r.tag != t }

/-- The completed request of a tag. -/
def Core.farDoneAt (x : Core) (t : Nat) : Option FarReq := x.far.find? fun r => r.tag == t && r.done.isSome

/-- The tags of a core's undecided requests that are performed before a tag's: the earlier ones that share a word with it, or with one of those (R289). -/
def Core.farBefore (x : Core) (t : Nat) : List Nat :=
  match x.far.find? fun r => r.tag == t with
  | none => []
  | some r =>
    let open_ := (x.far.takeWhile fun q => q.tag != t).filter fun q => q.ended.isNone && q.done.isNone
    ((open_.foldr (fun q l => if l.any q.meets then q :: l else l) [r]).dropLast).map (·.tag)

/-- Perform the words of a tag's request: all up to 20 µs after its issue; later, or where it is `late`, a free number of them, and its status is
TIMEOUT (R287; log entry 6). -/
def Dev.farWords (d : Dev) (c t : Nat) (late : Bool) : Dev :=
  match (d.core c).far.find? fun r => r.tag == t && r.ended.isNone && r.done.isNone with
  | none => d
  | some r =>
    if !late && decide (d.now ≤ r.issued + 20000) then d.farRun c r (r.cnt + 1) else
    let (v, d) := d.fresh 8
    (d.farRun c r (r.words + v % (r.cnt + 1 - r.words))).modFar c t fun q => { q with ended := some (q.ended.getD Stat.timeout) }

/-- A tag's request is performed, after those that go first. -/
def Dev.farInOrder (d : Dev) (c t : Nat) (late : Bool) : Dev :=
  (d.each ((d.core c).farBefore t) fun d q => d.farWords c q false).farWords c t late

/-- A post or a ring by a core takes its number after its earlier far writes have been applied (R276). -/
def Dev.farFirst (d : Dev) (c a : Nat) : Dev :=
  if (0x10100 ≤ a && a < 0x10B80 && a % 16 = 0) || (0x10C00 ≤ a && a < 0x10C15) then
    d.each (((d.core c).far.filter fun r => r.op != 0 && r.ended.isNone && r.done.isNone).map (·.tag)) fun d t => d.farInOrder c t false
  else d

/-! ### Accesses (R274, R275, R318) -/

/-- The cycles an access stays outstanding (R107, R318); the choice within the region's range is free (log entry 6). -/
def Dev.accCost (d : Dev) (a status : Nat) : Nat × Dev :=
  if status = Stat.internal || status = Stat.denied then (0, d)
  else if a < 0x20000 then (2, d)
  else if isCellar a then let (v, d) := d.fresh 8; (8 + v, d)
  else let (v, d) := d.fresh 24; (6 + v % 15, d)

/-- A load in cycle n: the destination receives the data, or 0 and a fault. -/
def Dev.coreLoad (d : Dev) (c n : Nat) (rd : Fin 16) (a : Nat) : Dev :=
  let (d, v, st) := (d.modCore c fun x => x.landGie n).loadWord c a
  let (cost, d) := d.accCost a st
  let d := if st = Stat.done then d else d.accessFault c 1 st a
  d.modCore c fun x =>
    { (x.setReg rd (if st = Stat.done then word v else 0)) with accEnds := n + cost, accReg := rd.val, accSr := none }

/-- The special register that a store writes through the mirror. -/
def srOfAddr (a : Nat) : Option Nat := if 0x1F000 ≤ a && a < 0x1F020 then some (a - 0x1F000) else none

/-- A store in cycle n: a failed one is dropped and recorded. -/
def Dev.coreStore (d : Dev) (c n : Nat) (a : Nat) (v : Word) : Dev :=
  let (d, st) := ((d.modCore c fun x => x.landGie n).farFirst c a).storeWord c a v.toNat
  let (cost, d) := d.accCost a st
  let d := if st = Stat.done then d else d.accessFault c 2 st a
  d.modCore c fun x => { x with accEnds := n + cost, accReg := 0, accSr := srOfAddr a }

/-- One load or store as an instruction: address, data and register steps from the state before it. -/
def Dev.memInstr (d : Dev) (c : Nat) (regs : List (Fin 16)) (srs : List Nat) (store : Bool) (r : Fin 16)
    (addr : Core → Word) (step : Core → Core) : Dev :=
  d.instr c { regs := regs, srs := srs, mem := true } fun n d =>
    let x := d.core c
    let d := d.modCore c fun x => (step x).next
    (if store then d.coreStore c n (addr x).toNat (x.reg r) else d.coreLoad c n r (addr x).toNat, 1)

/-- The special registers that address arithmetic through address register n reads: AMODE, BASEn and MLENn. -/
def stepSrs (n : Fin 4) : List Nat := [8, 9 + n.val, 13 + n.val]

/-! ### The stacks (R277 to R280) -/

/-- A return-stack entry (R280). -/
def Core.entry (x : Core) (ra : Nat) : Word := word (x.flags.toNat * 2 ^ 19 + b2n x.gie * 2 ^ 18 + ra % 2 ^ 15)

/-- Push a return entry in cycle n; also the added cycles of a spill (R278, R279). -/
def Dev.pushEntry (d : Dev) (c n ra : Nat) : Dev × Nat :=
  let x := d.core c
  if 1024 ≤ x.rsd then (d.haltCore c, 0) else
  let spills := decide (32 ≤ x.rsd)
  let d := if spills then d.coreStore c n (x.rsb + word (x.rsd - 32)).toNat (x.hw.getLastD 0) else d
  let d := d.modCore c fun y => { y with hw := x.entry ra :: (if spills then x.hw.dropLast else x.hw), rsd := x.rsd + 1 }
  let d := if x.rsd = 1008 then (d.otherFault c 4).raiseTrap c 10 else d
  (d, b2n spills)

/-- Pop a return entry in cycle n: the entry and the added cycles of a refill, or none at depth 0 (R278, R316). -/
def Dev.popEntry (d : Dev) (c n : Nat) : Option (Dev × Word × Nat) :=
  let x := d.core c
  if x.rsd = 0 then none else
  let e := x.hw.headD 0
  let d := d.modCore c fun y => { y with hw := y.hw.drop 1, rsd := y.rsd - 1 }
  if x.rsd ≤ 32 then some (d, e, 0) else
  let a := (x.rsb + word (x.rsd - 33)).toNat
  let (d, v, st) := d.loadWord c a
  let (cost, d) := d.accCost a st
  let d := if st = Stat.done then d else d.accessFault c 1 st a
  some (d.modCore c fun y =>
    { y with hw := y.hw ++ [if st = Stat.done then word v else 0], accEnds := n + cost, accReg := 0, accSr := none }, e, 2)

/-- RSD = 0 at RET or RETI (R316). -/
def Dev.popNothing (d : Dev) (c : Nat) : Dev := ((d.modCore c Core.next).otherFault c 4).raiseTrap c 10

/-- The special registers of the return stack. -/
def rsSrs : List Nat := [3, 4]

/-- Call: push the next address, then go to the target (R314). -/
def Dev.callTo (d : Dev) (c : Nat) (regs : List (Fin 16)) (target : Core → BitVec 15) : Dev :=
  d.instr c { regs := regs, srs := 0 :: rsSrs, mem := decide (32 ≤ (d.core c).rsd) } fun n d =>
    let x := d.core c
    let (d, k) := d.pushEntry c n (x.pc + 1).toNat
    (if x.rsd < 1024 then d.modCore c fun y => { y with pc := target x } else d, 2 + k)

/-- Return: RET, or RETI when `full` (R280, R316). -/
def Dev.retFrom (d : Dev) (c : Nat) (full : Bool) : Dev :=
  d.instr c { srs := rsSrs, mem := decide (32 < (d.core c).rsd) } fun n d =>
    match d.popEntry c n with
    | none => (d.popNothing c, 2)
    | some (d, e, k) =>
      (d.modCore c fun x =>
        let x := { x with pc := BitVec.ofNat 15 e.toNat }
        if full then { x with flags := BitVec.ofNat 5 (bits e.toNat 23 19), gie := e.getLsbD 18, trapHeld := false, in63 := false } else x, 2 + k)

/-- Push of the data stack (R277). -/
def Dev.dataPush (d : Dev) (c : Nat) (r : Fin 16) : Dev :=
  d.instr c { regs := [r], srs := [1, 2], mem := true } fun n d =>
    let x := d.core c
    let p := x.dsp - 1
    if p < x.dsl then (((d.modCore c Core.next).otherFault c 4).raiseTrap c 10, 1)
    else ((d.modCore c fun y => { y.next with dsp := p }).coreStore c n p.toNat (x.reg r), 1)

/-- Pop of the data stack (R277). -/
def Dev.dataPop (d : Dev) (c : Nat) (r : Fin 16) : Dev :=
  d.memInstr c [] [1] false r (fun x => x.dsp) fun x => { x with dsp := x.dsp + 1 }

/-! ### Illegal words (R305) -/

/-- An illegal or poisoned word at pc; `literal` where the poisoned word is the literal of a LIT form. -/
def Dev.illegal (d : Dev) (c : Nat) (literal : Bool) : Dev :=
  (((d.modCore c fun x => { x with pc := x.pc + (if literal then 2 else 1) }).otherFault c 5).logSec 0x5001 c).raiseTrap c 11

/-! ### Pairs (R306, R307, R313) -/

/-- What one short operation does, worked out from the registers before the word. -/
structure Slot where
  put : Option (Fin 16 × Word) := none
  upd : FlagUpd := {}
  load : Option (Fin 16 × Word) := none       -- register and address
  store : Option (Word × Word) := none        -- address and data
  step : Option (Fin 4 × Word) := none
  mul : Option (Nat × Word × Word) := none
deriving DecidableEq, Repr

/-- A result with its flags. -/
def Slot.of (r : Fin 16) (v : Word × FlagUpd) : Slot := { put := some (r, v.1), upd := v.2 }

/-- The step of LDP and STP: +1 or −1. -/
def pairStep (y : BitVec 3) : Word := if y.getLsbD 2 then -1 else 1

/-- The address register of LDP and STP. -/
def pairReg (y : BitVec 3) : Fin 4 := ⟨y.toNat % 4, Nat.mod_lt _ (by decide)⟩

/-- A short operation on the registers before the word (R313). -/
def Core.slot (x : Core) (op : BitVec 5) (xr yr : BitVec 3) : Slot :=
  let r := shortReg xr
  let a := x.reg r
  let b := x.reg (shortReg yr)
  let k := yr.toNat + 1
  let sh := b.toNat % 32
  match op.toNat with
  | 1 => { put := some (r, b) }
  | 2 => .of r (addFlags a b false)
  | 3 => .of r (subFlags a b false)
  | 4 => .of r (logicFlags (a &&& b))
  | 5 => .of r (logicFlags (a ||| b))
  | 6 => .of r (logicFlags (a ^^^ b))
  | 7 => { upd := (subFlags a b false).2 }
  | 8 => { upd := (logicFlags (a &&& b)).2 }
  | 9 => .of r (addFlags a (word k) false)
  | 10 => .of r (subFlags a (word k) false)
  | 11 => .of r (shlFlags a sh)
  | 12 => .of r (shrFlags a sh)
  | 13 => .of r (sarFlags a sh)
  | 14 => .of r (shlFlags a k)
  | 15 => .of r (shrFlags a k)
  | 16 => .of r (sarFlags a k)
  | 17 => .of r (subFlags 0 b false)
  | 18 => .of r (logicFlags (~~~b))
  | 19 => { mul := some (0, a, b) }
  | 20 => { mul := some (1, a, b) }
  | 21 => { mul := some (2, a, b) }
  | 22 => { put := some (r, x.mh) }
  | 23 => { put := some (r, x.ml) }
  | 24 => .of r (adddFlags a b (flagD x.flags))
  | 25 => .of r (subdFlags a b (flagD x.flags))
  | 26 => .of r (dajFlags a b (flagC x.flags))
  | 27 => { load := some (r, x.a[pairReg yr]), step := some (pairReg yr, pairStep yr) }
  | 28 => { store := some (x.a[pairReg yr], a), step := some (pairReg yr, pairStep yr) }
  | 29 => { load := some (r, b) }
  | 30 => { store := some (b, a) }
  | _ => {}

/-- What a short operation reads. -/
def slotNeeds (op : BitVec 5) (xr yr : BitVec 3) : Needs :=
  let r := shortReg xr
  let y := shortReg yr
  match op.toNat with
  | 1 | 17 | 18 => { regs := [y] }
  | 9 | 10 | 14 | 15 | 16 => { regs := [r] }
  | 22 => { srs := [5] }
  | 23 => { srs := [6] }
  | 24 | 25 | 26 => { regs := [r, y], srs := [0] }
  | 27 => { srs := stepSrs (pairReg yr), mem := true }
  | 28 => { regs := [r], srs := stepSrs (pairReg yr), mem := true }
  | 29 => { regs := [y], mem := true }
  | 30 => { regs := [r, y], mem := true }
  | 0 | 31 => {}
  | _ => { regs := [r, y] }

/-- Does a slot access memory? -/
def Slot.accesses (t : Slot) : Bool := t.load.isSome || t.store.isSome

/-- The register a slot writes. -/
def Slot.dest (t : Slot) : Option (Fin 16) :=
  match t.put, t.load with
  | some (r, _), _ => some r
  | _, some (r, _) => some r
  | _, _ => none

/-- A slot's registers, flags, steps and multiplier operation. -/
def Core.apply (x old : Core) (t : Slot) (n : Nat) : Core :=
  let x := { x with flags := t.upd.on x.flags }
  let x := match t.put with
    | some (r, v) => x.setReg r v
    | none => x
  let x := match t.step with
    | some (a, s) => x.setA a (old.stepped a s)
    | none => x
  match t.mul with
  | some (k, a, b) => x.issueMul k a b n
  | none => x

/-- A slot's access in cycle n; a load's data goes to g0 where it is `discarded`. -/
def Dev.slotAccess (d : Dev) (c n : Nat) (t : Slot) (discarded : Bool) : Dev :=
  match t.load, t.store with
  | some (r, a), _ => d.coreLoad c n (if discarded then 0 else r) a.toNat
  | _, some (a, v) => d.coreStore c n a.toNat v
  | _, _ => d

/-- A pair that R305 calls illegal. -/
def pairIllegal (opa opb : BitVec 5) (z0 : Bool) : Bool :=
  let m := fun (o : BitVec 5) => decide (19 ≤ o.toNat) && decide (o.toNat ≤ 21)
  z0 || opa.toNat == 31 || opb.toNat == 31 || (m opa && m opb)

/-- A pair word (R306, R307). -/
def Dev.pairWord (d : Dev) (c : Nat) (opa : BitVec 5) (xa ya : BitVec 3) (opb : BitVec 5) (xb yb : BitVec 3) (z0 : Bool) : Dev :=
  if pairIllegal opa opb z0 then d.instr c {} fun _ d => (d.illegal c false, 1) else
  let ua := slotNeeds opa xa ya
  let ub := slotNeeds opb xb yb
  d.instr c { regs := ua.regs ++ ub.regs, srs := ua.srs ++ ub.srs, mem := ua.mem || ub.mem } fun n d =>
    let x := d.core c
    let ta := x.slot opa xa ya
    let tb := x.slot opb xb yb
    let d := d.modCore c fun y => ((y.apply x ta n).apply x tb n).next
    let d := d.slotAccess c n ta (ta.dest == tb.dest)
    let m := if ta.accesses && tb.accesses then max n (d.core c).accEnds else n
    (d.slotAccess c m tb false, m - n + 1)

/-! ### The end of far requests (R287 to R289) -/

/-- A blocked FWAIT whose tag has completed ends (R288). -/
def Dev.farWake (d : Dev) (c : Nat) : Dev :=
  match (d.core c).wait with
  | .far rd t =>
    match (d.core c).farDoneAt t with
    | some r =>
      if d.coreState c ≠ 2 then d else
      let n := d.cycleOf c
      if h : rd < 16 then
        d.modCore c fun x => { x.outstanding n ((x.setReg ⟨rd, h⟩ r.word).freeTag t).next with wait := .none, cyc := n + 1 }
      else d
    | none => d
  | _ => d

/-- The words of a tag's request are all decided: completion becomes visible (R287). -/
def Dev.farEnd (d : Dev) (c t st : Nat) : Dev := (d.modFar c t fun r => { r with done := some st }).farWake c

/-- FAR_TIMEOUT: 20 µs after issue; how many words were performed by then is free (R287; log entry 6). -/
def Dev.farLate (d : Dev) (c t : Nat) : Dev :=
  match (d.core c).far.find? fun r => r.tag == t && r.done.isNone with
  | none => d
  | some r =>
    let d := d.upTo (r.issued + 20000)
    match r.ended with
    | some st => d.farEnd c t st
    | none =>
      let d := d.farInOrder c t true
      match (d.core c).far.find? fun q => q.tag == t with
      | some q => d.farEnd c t (q.ended.getD Stat.timeout)
      | none => d

/-- FAR_DONE: earlier requests on the same words go first (R287, R289). -/
def Dev.farComplete (d : Dev) (c t : Nat) : Dev :=
  match (d.core c).far.find? fun r => r.tag == t && r.done.isNone with
  | none => d
  | some r =>
    if r.issued + 20000 < d.now then d.farLate c t else
    let d := d.farInOrder c t false
    match (d.core c).far.find? fun q => q.tag == t with
    | some q => d.farEnd c t (q.ended.getD Stat.done)
    | none => d

/-- FWAIT and FPOLL (R288). -/
def Dev.farCollect (d : Dev) (c : Nat) (rd rs : Fin 16) (blocks : Bool) : Dev :=
  d.instr c { regs := [rs] } fun _ d =>
    let x := d.core c
    let t := (x.reg rs).toNat
    if x.far.all fun r => r.tag != t then (d.modCore c fun x => (x.setReg rd (word Stat.range)).next, 1) else
    match x.farDoneAt t with
    | some r => (d.modCore c fun x => ((x.setReg rd r.word).freeTag t).next, 1)
    | none =>
      if blocks then (d.modCore c fun x => { x with wait := .far rd.val t }, 1)
      else (d.modCore c fun x => (x.setReg rd 0xFFFFFF).next, 1)

/-! ### Waiting (R293, R294, R503) -/

/-- The result of a WAITMB whose wait ends now: conditions 1 to 5 of R503. -/
def Dev.mbReleased (d : Dev) (c operand : Nat) (atIssue : Bool) : Option Nat :=
  let e := bits operand 12 8
  let m := bits operand 2 0
  let st := d.sendStatus c e m
  let from_ := (List.range 8).find? fun i => (d.ep c).full.contains i && bits (d.ld (mailAddr c i 0)) 23 19 == e
  if 20 < e then some (0xFF00 + Stat.range)
  else if st.testBit 23 || !st.testBit 22 then some (0xFF00 + Stat.done)
  else if atIssue && st.testBit 20 then some (0xFF00 + Stat.epoch)
  else if !d.epOn e then some (0xFF00 + Stat.asleep)
  else match from_ with
    | some i => some (i * 256 + Stat.aborted)
    | none => none

/-- WAITMB (R294). -/
def Dev.mbWait (d : Dev) (c : Nat) (rd rs : Fin 16) : Dev :=
  d.instr c { regs := [rs] } fun _ d =>
    let v := ((d.core c).reg rs).toNat
    match d.mbReleased c v true with
    | some r => (d.modCore c fun x => (x.setReg rd (word r)).next, 1)
    | none => ((d.modCore c fun x => { x with wait := .mailbox rd.val v d.now }).setCoreState c 3, 1)

/-- A WAITMB ends: by a condition that holds, else by its timeout (R503). -/
def Dev.mbEnd (d : Dev) (c : Nat) : Dev :=
  match (d.core c).wait with
  | .mailbox rd v since =>
    if d.coreState c ≠ 3 then d else
    let (d, r) := match d.mbReleased c v false with
      | some r => (d, r)
      | none => (d.upTo (since + (d.core c).mbto * 1000), 0xFF00 + Stat.timeout)
    if h : rd < 16 then
      let n := d.cycleOf c
      (d.modCore c fun x => { x.outstanding n (x.setReg ⟨rd, h⟩ (word r)).next with wait := .none, cyc := n + 1 }).setCoreState c 2
    else d
  | _ => d

/-- WAIT (R293, R508). -/
def Dev.waitWord (d : Dev) (c : Nat) : Dev :=
  d.instr c {} fun _ d =>
    let d := d.modCore c fun x => { x.next with imodEnds := none }
    match d.winner c false with
    | some _ => (d, 1)
    | none => ((d.modCore c fun x => { x with wait := .wait }).setCoreState c 3, 1)

/-- A core in WAIT with GIE 0 goes on when WINNER names a source (R293). -/
def Dev.waitWake (d : Dev) (c : Nat) : Dev :=
  if d.coreState c ≠ 3 || (d.core c).wait ≠ .wait || (d.core c).gieAt (d.cycleOf c) then d else
  match d.winner c false with
  | some _ =>
    let n := d.cycleOf c
    (d.modCore c fun x => { x with wait := .none, cyc := n }).setCoreState c 2
  | none => d

/-- What a core does of itself at a boundary: a wait that is over ends, and a now command lands (R288, R293, R299). -/
def Dev.boundary (d : Dev) (c : Nat) : Dev :=
  let d := (d.farWake c).waitWake c
  if d.coreState c == 2 && (d.core c).wait == .none then d.bankNow c else d

/-! ### Interrupt entry (R291, R292, R299, R508) -/

/-- The source that is taken at this boundary: a trap first, else the highest that may be taken. -/
def Dev.takes (d : Dev) (c : Nat) : Option Nat :=
  let x := d.core c
  match x.trap with
  | some s => some s
  | none =>
    ((List.range 64).reverse).find? fun s =>
      d.qualifies c (d.heldOff c) s && (x.gieAt (d.cycleOf c) || s == 10 || s == 11 || s == 63) && !(s == 63 && x.in63)

/-- Does an armed swap land at the entry of source s, taken in WAIT (R299)? -/
def Core.lands (x : Core) (s : Nat) : Bool :=
  x.swapPending && !x.swapNow && x.wait == .wait && decide (16 ≤ s) && decide (s < 32) && x.cpMask.getLsbD (s - 16)

/-- An interrupt entry (R292). -/
def Dev.enter (d : Dev) (c : Nat) : Dev :=
  if d.coreState c ≠ 2 && d.coreState c ≠ 3 then d else
  match d.takes c with
  | none => d
  | some s =>
    let x := d.core c
    let trap := x.trap.isSome
    let lands := x.lands s
    let n := if 32 ≤ x.rsd then max (d.cycleOf c) x.accEnds else d.cycleOf c
    let d := (d.modCore c fun x => { x with wait := .none, trap := none }).setCoreState c 2
    let d := d.bankNow c
    let d := if lands then (d.bankFlip c).swapLanded c else d
    let d := d.modCore c fun x => { x.landBefore n with cyc := n, trapHeld := x.trapHeld || trap, in63 := x.in63 || s == 63 }
    let (d, k) := d.pushEntry c n ((d.core c).pc).toNat
    if d.coreState c ≠ 2 then d else
    let d := d.modCore c fun x =>
      { (x.landBefore (n + 4 + k)) with
        gie := false, pc := BitVec.ofNat 15 (x.ivbase.toNat + 8 * s), cyc := n + 4 + k,
        pend := if x.edgeSensed s then putBit x.pend s false else x.pend }
    d.modCore c fun x =>
      if x.moder.testBit s && x.imod ≠ 0 then { x with imodEnds := some (d.now + x.imod * 1000) } else x

/-- MUL_LAND: the oldest operation in flight lands, and with it the core's time reaches the cycle after (R284). -/
def Dev.mulLands (d : Dev) (c : Nat) : Dev :=
  match (d.core c).mulq with
  | [] => d
  | o :: r => d.modCore c fun x => { ({ x with mulq := r }.landMul o) with cyc := max x.cyc (o.lands + 1) }

end Sys2Proof.Machine
end

