-- ==== Sys2Proof/Machine/Settle.lean ====
section
/-! DEFINITION. What follows within a command: answers of the Tap, rings, causes, waiting transactions, and the completions
that leave (spec 02, R57 to R67; 03, R80 to R95; 18, R500, R501). -/
namespace Sys2Proof.Machine

/-! ### Permit messages (R66, R67) -/

/-- Post a reply of the Tap to a requester's mailbox 7. -/
def Dev.tapReply (d : Dev) (ep op status num amount tag : Nat) : Dev :=
  if !d.epOn ep then d else
  let k := d.roleOf 2
  let d := ((d.mbBody ep 7 1 (op * 65536 + status * 256 + num)).mbBody ep 7 2 amount).mbBody ep 7 3 tag
  d.post k ep 7 (3 * 2 ^ 15)

/-- The Tap keeper takes the message in its mailbox 7, when its OP is (or is not) RELEASE. -/
def Dev.tapMessage (d : Dev) (release : Bool) : Dev :=
  let k := d.roleOf 2
  if !d.served 2 || !(d.ep k).full.contains 7 then d else
  let hdr := d.ld (mailAddr k 7 0)
  let src := bits hdr 23 19
  let len := bits hdr 18 15
  let w := d.ldAll (mailAddr k 7 1) 4
  let op := if len = 0 then 0 else bits (w.getD 0 0) 23 16
  if (op == 2) != release then d else
  let d := d.ackMail k 7
  let code := if op = 1 then 0x81 else if op = 2 then 0x82 else 0x80
  let tag := if 4 ≤ len then w.getD 3 0 else 0
  let amount := w.getD 1 0
  let refuse := fun (d : Dev) (st : Nat) => d.tapReply src code st 0 0 tag
  if len ≠ 4 then refuse d Stat.type
  else if (op ≠ 1 && op ≠ 2) || 1000 < bits (w.getD 0 0) 9 0 || w.getD 2 0 = 0 then refuse d Stat.range
  else if op = 2 then
    match d.tap.permits.find? fun p => p.num == amount && p.holder == .core src with
    | some _ => (d.release amount).tapReply src code Stat.done 0 0 tag
    | none => refuse d Stat.range
  else if amount = 0 || 38000 < amount then refuse d Stat.range
  else match d.ask (.core src) amount (w.getD 2 0) (bits (w.getD 0 0) 15 13) (bits (w.getD 0 0) 9 0) tag with
    | (d, .granted n) => d.tapReply src code Stat.done n amount tag
    | (d, .queued) => d
    | (d, .busy) => refuse d Stat.busy
    | (d, .refused) => refuse d Stat.permit

/-! ### Answers to queued requests -/

/-- The request that waits for something. -/
def Dev.waiter (d : Dev) (w : Wait) : Option Src := (d.dict.inflight.find? fun t => t.wait == w).map (·.src)

/-- Complete the request that waits for a holder's permit. -/
def Dev.ended (d : Dev) (h : Holder) (x : Dev × Nat) : Dev := x.1.complete (d.waiter (.permit h)) x.2

/-- The permit of a bind, or of a migration (R324, R334). -/
def Dev.ctxGranted (d : Dev) (c num tag : Nat) : Dev :=
  let who := d.waiter (.permit (.migrate c))
  let x := if tag = 1 then d.bindGo c num else d.migGo c (tag - 256) num
  if tag = 1 && who.isNone then
    (if x.2 = Stat.done then (x.1.ctxStart c).1.segAuto (· == c) else x.1.logE 0x6004 x.2)
  else x.1.complete who x.2

/-- The permit of a window load: WIN_PROG or the start of a segment. -/
def Dev.windowGranted (d : Dev) (ew num tag : Nat) : Dev :=
  if tag ≠ 0 then d.ended (.window ew) (d.segGo (tag - 1) num) else
  match d.dict.puts.find? fun p => p.key == K.WIN_PROG ew with
  | some p =>
    let (x, st) := d.winLoad (ew / 4) (ew % 4) p.data num
    (x.dropPut (K.WIN_PROG ew)).complete (d.waiter (.permit (.window ew))) st
  | none => d.release num

/-- The permit of a tile recalibration. -/
def Dev.calGranted (d : Dev) (t num : Nat) : Dev :=
  if d.obn (K.TILE_STATE t) = 2 && !d.calBusy t then
    d.ended (.tileCal t) ((d.event.modTile t fun x => { x with calPermit := num }).calNext t 25 (24 * t), Stat.done)
  else d.ended (.tileCal t) (d.release num, if d.obn (K.TILE_STATE t) = 0 || d.obn (K.TILE_STATE t) = 3 then Stat.asleep else Stat.busy)

/-- The permit of a role move's load: the conditions of R143 are judged again, as they may have changed while it was queued. -/
def Dev.moveGranted (d : Dev) (p num v : Nat) : Dev :=
  let q := v % 128
  let st := d.moveStatus p v
  match (if st = Stat.done then d.moveLoad p q else (d, none)) with
  | (x, some w) => d.ended (.roleMove p) ((x.moveAccept p v (some w)).release num, Stat.done)
  | (_, none) => d.ended (.roleMove p) (d.release num, if st = Stat.done then Stat.busy else st)

/-- The permit of a WRITE_MULTI that waits: the whole runs again with the amount free for it, ahead of what else is queued. -/
def Dev.multiGranted (d : Dev) (r : Src) (num : Nat) : Dev :=
  match d.dict.inflight.find? fun t => t.src == r with
  | none => d.release num
  | some t =>
    let others := d.tap.queue
    let d := d.modTap fun x => { x with permits := x.permits.filter (fun p => p.num != num), queue := [] }
    let d := d.carry t fun d => d.operate r t.op t.key (t.args.getD 0 0) (t.args.drop 1)
    (d.modTap fun x => { x with queue := x.queue.foldl (fun l q => tapInsert q l) others }).recheck

/-- The permit of flash activity. -/
def Dev.flashGranted (d : Dev) (tag : Nat) : Dev :=
  match tag with
  | 0 => d.ended .firmware (d.eraseStart, Stat.done)
  | 1 => match d.dict.fwChunk with
    | some (final, l) => d.ended .firmware (d.chunkGo final l)
    | none => d.releaseAll .firmware
  | 2 => d.ended .firmware (d.actRestart, Stat.done)
  | 3 => d.actEnd
  | _ => d

/-- The Tap granted a queued request. -/
def Dev.onGrant (d : Dev) (h : Holder) (num amount tag : Nat) : Dev :=
  match h with
  | .core e => d.tapReply e 0x81 Stat.done num amount tag
  | .port p => match (d.port p).req with
    | some q => d.modPort p fun x => { x with req := some { q with answer := some (some num) } }
    | none => d.release num
  | .retry p => if (d.port p).retry = .asked then d.modPort p fun x => { x with retry := .answered (some num) } else d.release num
  | .tileStart t => if (d.tile t).asked then d.modTile t fun x => { x with startPermit := some (some num) } else d.release num
  | .tileCal t => d.calGranted t num
  | .tdr p => d.ended h (d.tdrBegin p num)
  | .bank c => if tag = 2 then d.actSwap c num else d.bankGranted c num (tag % 4 == 1) (tag / 4)
  | .window ew => d.windowGranted ew num tag
  | .region r => d.regClearGo r (d.waiter (.clearing r))
  | .save => d.saveGo num (d.waiter (.permit .save))
  | .firmware => d.flashGranted tag
  | .geared => d.gearedGranted num
  | .pers c => d.ended h (d.swapLoad c tag num)
  | .roleMove p => d.moveGranted p num tag
  | .migrate c => d.ctxGranted c num tag
  | .multi r => d.multiGranted r num

/-- The Tap refused a queued request. -/
def Dev.onRefusal (d : Dev) (h : Holder) (tag : Nat) : Dev :=
  let tooMuch := fun (d : Dev) => d.complete (d.waiter (.permit h)) Stat.permit
  match h with
  | .core e => d.tapReply e 0x81 Stat.permit 0 0 tag
  | .port p => d.modPort p fun x => { x with req := x.req.map fun q => { q with answer := some none } }
  | .retry p => d.modPort p fun x => { x with retry := if x.retry = .asked then .answered none else x.retry }
  | .tileStart t => d.modTile t fun x => { x with startPermit := if x.asked then some none else x.startPermit }
  | .bank c => if tag = 2 then d else d.swapStat c Stat.permit
  | .window ew => tooMuch (if tag = 0 then d.dropPut (K.WIN_PROG ew) else d)
  | .region r => d.complete (d.waiter (.clearing r)) Stat.permit
  | .firmware => tooMuch (d.modDict fun x => { x with fwChunk := none })
  | .geared => d.gearedRefused
  | .multi r => match d.dict.inflight.find? fun t => t.src == r with
    | some t => d.finish t d.seq { status := Stat.permit, index := tag }
    | none => d
  | .migrate _ => if tag = 1 && (d.waiter (.permit h)).isNone then d.logE 0x6004 Stat.permit else tooMuch d
  | _ => tooMuch d

/-- A reservation was revoked (R60). -/
def Dev.onRevoke (d : Dev) (h : Holder) (num amount tag : Nat) : Dev :=
  match h with
  | .port p =>  -- a reservation that was granted and not yet taken up is taken up first, and then lost
    (d.iff (((d.port p).req.bind (·.answer)) == some (some num)) fun d => d.portAnswered p).portRevoked p num
  | .core e => d.tapReply e 0x03 Stat.aborted num amount tag
  | _ => d

/-! ### Rings (R86, R88, R501, R530) -/

def Dev.onRing (d : Dev) (ep bits_ : Nat) : Dev :=
  let keeper := decide (16 ≤ ep) && decide (ep < 20)
  let wakes := bits_ % 256 &&& (d.ep ep).wakeWas.getD (d.wakeBits ep) != 0
  if d.mode = 0 then (if keeper then d.wake else d)
  else
    let d := d.iff (decide (2 ≤ d.mode) && decide (ep < 20) && !d.epOn ep && wakes && (keeper || (!d.coreBarred ep && !(d.ctxsOn ep).isEmpty))) fun d => d.corePowerOn ep
    let d := d.iff keeper fun d => d.modDict fun x => { x with rung := true }
    if keeper && bits_.testBit 8 then d.keeperReady ep else d

/-! ### The work of a command (log entry 9) -/

def Dev.doWork (d : Dev) : Work → Dev
  | .granted h num amount tag => d.onGrant h num amount tag
  | .refused h tag => d.onRefusal h tag
  | .revoked h num amount tag => d.onRevoke h num amount tag
  | .limp causes => d.limpCause causes
  | .hold causes => d.holdCause causes
  | .ring ep b => d.onRing ep b
  | .restart cause => d.warmRestart cause
  | .dictTaken => d.dictTaken

/-- The number that the next event takes is the one at which what follows takes effect. -/
def Dev.markNext (d : Dev) : Dev := d.modDict fun x => { x with took := some ((d.seq + 1) % 2 ^ 24) }
def Dev.unmark (d : Dev) : Dev := d.modDict fun x => { x with took := none }

def Dev.drain (d : Dev) : Nat → Dev
  | 0 => d
  | fuel + 1 =>
    match d.work with
    | [] => d
    | w :: rest => (({ d with work := rest }.markNext).doWork w).drain fuel

/-! ### Completions of AAP sessions leave in datagrams (R91, R95) -/

/-- Completions in datagram bodies of at most 1,200 bytes. -/
def bodiesOf (cur : List Byte) : List Compl → List (List Byte)
  | [] => if cur.isEmpty then [] else [cur]
  | c :: l =>
    let b := bytesOf c.words
    if cur.length + b.length ≤ 1200 then bodiesOf (cur ++ b) l else cur :: bodiesOf b l

/-- The newest number of a session whose datagram carried a transaction. -/
def AapSess.numberOf (s : AapSess) (tid : Nat) : Option Nat := (s.rx.find? fun e => e.2.1.contains tid).map (·.1)

/-- Send the completions of one session, and keep each datagram with the number it answers. -/
def Dev.flushSess (d : Dev) (k : Nat) : Dev :=
  let mine := d.dict.replies.filter fun c => match c.src.via with
    | .aap s => s.val == k
    | _ => false
  let d := d.modDict fun x => { x with replies := x.replies.filter fun c => !mine.contains c }
  match d.dict.sess.find? fun s => s.sess == k && s.opened with
  | none => d
  | some s =>
    let nums := ((s.rx.map (·.1)).reverse.map some) ++ [none]
    nums.foldl (fun d n =>
      (bodiesOf [] (mine.filter fun c => s.numberOf c.src.tid.toNat == n)).foldl (fun d b =>
        let (d, g) := d.aapSend k 0x11 b
        d.modDict fun x => { x with sess := x.sess.map fun y =>
          if y.sess = k && y.opened then { y with rx := y.rx.map fun e => if some e.1 = n then (e.1, e.2.1, e.2.2 ++ [g]) else e } else y }) d) d

/-- Send the completions of one address without a session, in datagrams with a free number (log entry 6) and a zero tag (R94). -/
def Dev.flushOpen (d : Dev) (u : Fin 4) (addr : Nat) : Dev :=
  let mine := d.dict.replies.filter fun c => c.src.via == .aapOpen u addr
  let d := d.modDict fun x => { x with replies := x.replies.filter fun c => !mine.contains c }
  (bodiesOf [] mine).foldl (fun d b => let (n, d) := d.fresh 32; d.emit (.aap u.val addr (aapDgram 0x11 0xFFFF n b none))) d

def Dev.flushAap (d : Dev) : Dev :=
  if d.dict.replies.isEmpty then d else
  let d := d.each (List.range 8) fun d k => d.flushSess k
  d.dict.replies.foldl (fun d c => match c.src.via with
    | .aapOpen u a => d.flushOpen u a
    | _ => d) d

/-! ### The end of a command -/

/-- What cores, ports and the mode manager do of themselves once the command has acted. -/
def Dev.followUp (d : Dev) : Dev :=
  let d := d.each (d.cores.map (·.1)) fun d c => d.boundary c
  let d := d.each (d.ports.map (·.1)) fun d p => d.degCheck p
  d.limpRest.limpClock.coresBarred

/-- Everything that follows within the command. -/
def Dev.settle (d : Dev) : Dev :=
  let d := ((d.drain 64).unblock 64).serveQuick.serveRing
  let d := (d.drain 64).followUp
  ((d.drain 64).unblock 64).flushAap.unmark

/-- A command and all that follows from it. -/
def run (f : Dev → Dev) (s : State) : Host.Outcome State Fault Refusal := lift (fun d => (f d.markNext).settle) s

/-! ### Idling -/

/-- The channels whose RX FIFO holds entries for the parser. -/
def Dev.parserWork (d : Dev) : List Nat := (d.chans.map (·.1)).filter fun c => d.obn (K.CH_RX_SINK c) == 0 && !(d.chan c).rxF.isEmpty

/-- No command waits: one tick passes, and the parser takes what the RX FIFOs hold (log entries 1 and 46). -/
def Dev.idle (d : Dev) : Dev :=
  match d.parserWork with
  | [] => d.tick
  | l => ((d.tick.markNext).each l fun d c => d.parserAll c).settle

/-! ### DICT_TIMEOUT (R82) -/

/-- A waiting transaction is withdrawn: what it asked for is given up. -/
def Dev.withdraw (d : Dev) (w : Wait) : Dev :=
  let unask := fun (d : Dev) (h : Holder) => d.modTap fun t => { t with queue := t.queue.filter fun q => q.holder != h }
  match w with
  | .permit h =>
    let d := unask d h
    match h with
    | .tileStart t =>
      let d := match (d.tile t).startPermit with
        | some (some n) => d.release n
        | _ => d
      d.modTile t fun x => { x with asked := false, startPermit := none }
    | .window ew => d.dropPut (K.WIN_PROG ew)
    | .firmware => d.modDict fun x => { x with fwChunk := none }
    | _ => d
  | .portAnswer p =>
    let d := match (d.port p).req.bind (·.answer) with
      | some (some n) => d.release n
      | _ => d
    (unask d (.port p)).modPort p fun x => { x with req := none }
  | .clearing r => unask d (.region r)
  | .mode => ((d.modMm fun x => { x with waiting := none }).requestUndone).releaseAll .geared
  | .role p => unask d (.roleMove p)
  | .flash | .behind => d

/-- The 100 ms of a transaction end: one that the Tap can answer ends with PERMIT, any other that has not taken effect with TIMEOUT. -/
def Dev.dictTimeout (d : Dev) (r : Src) : Dev :=
  match d.dict.inflight.find? fun t => t.src == r with
  | none => d
  | some t =>
    if !d.served 0 then d else
    let d := d.upTo (t.started + 100000000)
    let d := if d.served 2 then (d.tapWaits).drain 64 else d
    match d.dict.inflight.find? fun t => t.src == r with
    | none => d
    | some t =>
      if t.took.isSome then d
      else (((d.withdraw t.wait).bump K.DICT_TIMEOUTS).recheck).complete (some r) Stat.timeout

end Sys2Proof.Machine
end

