-- ==== Sys2Proof/Machine/Aap.lean ====
section
/-! DEFINITION. AAP: the datagrams of the object dictionary over UDP (spec 03, R91 to R95). -/
namespace Sys2Proof.Machine

/-! ### The datagram (R91) -/

/-- A datagram's header and body. -/
structure AapIn where
  kind : Nat
  sess : Nat
  seq : Nat
  body : List Byte
  signed : List Byte          -- header and body as sent
  tag : List Byte
deriving DecidableEq

/-- Read a datagram; one without MAGIC, VER or the length that BLEN gives is dropped. -/
def aapIn (l : List Byte) : Option AapIn :=
  let n := beNat ((l.drop 10).take 2)
  if l.length ≠ 32 + n || 1200 < n || beNat (l.take 2) ≠ 0x4141 || byteAt l 2 ≠ 1 then none
  else some ⟨byteAt l 3, beNat ((l.drop 4).take 2), beNat ((l.drop 6).take 4), (l.drop 16).take n, l.take (16 + n), l.drop (16 + n)⟩

/-- Before WELCOME: no session number and a zero tag. -/
def AapIn.plain (g : AapIn) : Bool := g.sess == 0xFFFF && g.tag.all (· == 0)

/-- The datagram reaches the dictionary keeper: AAP is enabled on the uplink, which is Up, and the address is not blocked (R93). -/
def Dev.aapTakes (d : Dev) (u addr : Nat) : Bool :=
  d.served 0 && (d.obn K.AAP_ENABLE).testBit u && d.macRuns (96 + u) &&
    !(d.dict.blocked.any fun b => b.1 == addr && decide (d.now < b.2))

/-- Send a datagram outside a session. Its number is not given: a free value (log entry 6). -/
def Dev.aapPlain (d : Dev) (u addr kind : Nat) (body : List Byte) : Dev :=
  let (n, d) := d.fresh 32
  d.emit (.aap u addr (aapDgram kind 0xFFFF n body none))

/-! ### The sessions -/

def Dev.modSess (d : Dev) (f : List AapSess → List AapSess) : Dev :=
  let d := d.modDict fun x => { x with sess := f x.sess }
  d.setOb K.AAP_SESSIONS ((d.dict.sess.filter (·.opened)).length : Nat)

def Dev.sessOpen (d : Dev) (k : Nat) : Option AapSess := d.dict.sess.find? fun s => s.sess == k && s.opened

/-- A session closes (R95): its subscriptions end, and what it has in flight, a transfer's image with it, goes on at the session's level and completes
unseen. -/
def Dev.sessClose (d : Dev) (k : Nat) : Dev :=
  let mine := fun (v : Via) => match v with
    | .aap s => s.val == k
    | _ => false
  let level := ((d.sessOpen k).map (·.level)).getD 0
  let waits := fun (d : Dev) (p : Put) => d.dict.inflight.any fun t => t.op == 9 && t.src.via == p.via && t.key == p.key
  (d.modSess fun l => l.filter fun s => !(s.sess == k && s.opened)).modDict fun x =>
    { x with subs := x.subs.filter (fun s => !mine s.via), puts := x.puts.filter (fun p => !mine p.via || waits d p), closedLevels := mput x.closedLevels k level }

/-- T0 at which a session lapses (R95). -/
def Dev.sessEnds (d : Dev) (s : AapSess) : Nat := s.at_ + d.obn K.AAP_IDLE * 1000000000

/-- AAP_IDLE passes. -/
def Dev.aapIdle (d : Dev) (k : Nat) : Dev :=
  match d.sessOpen k with
  | none => d
  | some s => if d.served 0 then (d.upTo (d.sessEnds s)).sessClose k else d

/-- A number for a challenge: one that no open session, no transaction and no challenge of the last second holds. -/
def Dev.sessFree (d : Dev) : Option Nat :=
  (List.range 8).find? fun k =>
    !(d.dict.sess.any fun s => s.sess == k && (s.opened || decide (d.now ≤ s.at_ + 1000000000))) &&
    !(d.dict.inflight.any fun t => match t.src.via with
      | .aap s => s.val == k
      | _ => false)

/-! ### The handshake (R92, R93) -/

/-- A handshake body of a wrong length is dropped and counted. -/
def Dev.authFail (d : Dev) : Dev := d.bump K.AUTH_FAILS

/-- HELLO: a CHALLENGE, or REJECT with BUSY. The device nonce is a free value. -/
def Dev.aapHello (d : Dev) (u addr : Nat) (l : List Byte) : Dev :=
  match aapIn l with
  | none => d
  | some g =>
    if !d.aapTakes u addr || g.kind ≠ 1 || !g.plain then d
    else if g.body.length ≠ 17 then d.authFail
    else if 3 < byteAt g.body 0 then d.aapPlain u addr 5 (beBytes 1 Stat.range)
    else if 8 ≤ d.obn K.AAP_SESSIONS then d.aapPlain u addr 5 (beBytes 1 Stat.busy)
    else match d.sessFree with
      | none => d.aapPlain u addr 5 (beBytes 1 Stat.busy)
      | some k =>
        let (n, d) := d.fresh 128
        let nonce := beBytes 16 n
        let s : AapSess := ⟨k, false, u, addr, byteAt g.body 0, g.body.drop 1, nonce, d.now, [], [], 0, 0⟩
        (d.modSess fun x => s :: x.filter fun s => s.sess != k).aapPlain u addr 2 (nonce ++ beBytes 2 k)

/-- A failed proof: counted, and the third within 10 s blocks the address (R93). -/
def Dev.proofFails (d : Dev) (u addr : Nat) : Dev :=
  let recent := (addr, d.now) :: d.dict.fails.filter fun f => decide (d.now < f.2 + 10000000000)
  let d := (d.authFail.modDict fun x => { x with fails := recent }).aapPlain u addr 5 (beBytes 1 Stat.auth)
  if (recent.filter fun f => f.1 == addr).length < 3 then d
  else d.modDict fun x => { x with fails := x.fails.filter (fun f => f.1 != addr), blocked := (addr, d.now + 10000000000) :: x.blocked.filter fun b => b.1 != addr }

/-- The proof of a challenge, or none while the level's key is unset (R92). -/
def Dev.proofOf (d : Dev) (s : AapSess) : Option (List Byte) :=
  let key := d.dom (K.AAP_KEY s.level)
  if key.isEmpty then none
  else some (hmac256 key ([0x41, 0x41, 0x50, 0x31] ++ s.cnonce ++ s.dnonce ++ beBytes 2 s.sess ++ beBytes 1 s.level))

/-- The session key (R92). -/
def Dev.keyOf (d : Dev) (s : AapSess) : List Byte := hmac256 (d.dom (K.AAP_KEY s.level)) ([0x41, 0x41, 0x50, 0x53] ++ s.cnonce ++ s.dnonce)

/-- PROVE: WELCOME, or REJECT with TIMEOUT or AUTH. -/
def Dev.aapProve (d : Dev) (u addr : Nat) (l : List Byte) : Dev :=
  match aapIn l with
  | none => d
  | some g =>
    if !d.aapTakes u addr || g.kind ≠ 3 || !g.plain then d
    else if g.body.length ≠ 34 then d.authFail
    else
      let k := beNat (g.body.take 2)
      match d.dict.sess.find? fun s => s.sess == k && !s.opened && s.up == u && s.addr == addr with
      | none => d.proofFails u addr
      | some s =>
        let drop := fun (d : Dev) => d.modSess fun x => x.filter fun s => s.sess != k
        if s.at_ + 1000000000 < d.now then (drop d).aapPlain u addr 5 (beBytes 1 Stat.timeout)
        else if d.proofOf s ≠ some (g.body.drop 2) then (drop d).proofFails u addr
        else
          let s := { s with opened := true, at_ := d.now, key := d.keyOf s }
          ((d.modSess fun x => s :: x.filter fun s => s.sess != k).aapSend k 4 (beBytes 2 k ++ beBytes 1 s.level)).1

/-- The 10 s of a blocked address pass (R93). -/
def Dev.aapUnblock (d : Dev) (addr : Nat) : Dev :=
  match d.dict.blocked.find? fun b => b.1 == addr with
  | none => d
  | some b => (d.upTo b.2).modDict fun x => { x with blocked := x.blocked.filter fun b => b.1 != addr }

/-! ### Requests (R91, R94, R95) -/

/-- The whole requests of a body (R74); words that end short of one are left. -/
def wholeRequests : Nat → List Nat → List (List Nat)
  | 0, _ => []
  | fuel + 1, w =>
    let n := 3 + bits (w.getD 0 0) 7 0
    if w.length < 3 || w.length < n then [] else w.take n :: wholeRequests fuel (w.drop n)

def AapIn.requests (g : AapIn) : List (List Nat) := wholeRequests 134 (wordsOf (g.body.take (g.body.length / 3 * 3)))

/-- A datagram of an open session with a good tag: a new number, a number of the last 32, or an older one (R95). -/
inductive Taken where
  | fresh (s : AapSess)
  | again (s : AapSess) (stored : List (List Byte))
  | no
deriving DecidableEq

/-- Judge a session datagram: a lapsed session closes, a wrong tag is counted. -/
def Dev.aapJudge (d : Dev) (g : AapIn) : Dev × Taken :=
  match d.sessOpen g.sess with
  | none => (d, .no)
  | some s =>
    if d.sessEnds s ≤ d.now then (d.sessClose s.sess, .no)
    else if g.tag ≠ (hmac256 s.key g.signed).take 16 then (d.authFail, .no)
    else
      let alive := fun (d : Dev) => d.modSess fun x => x.map fun y => if y.sess = s.sess && y.opened then { y with at_ := d.now } else y
      match s.rx.find? fun e => e.1 == g.seq with
      | some e => (alive d, .again s e.2.2)
      | none => if s.rx.isEmpty || s.rxTop < g.seq then (alive d, .fresh s) else (d, .no)

/-- Put a number among the last 32 taken, with its transactions. -/
def Dev.aapNote (d : Dev) (k seq : Nat) (tids : List Nat) : Dev :=
  d.modSess fun x => x.map fun y =>
    if y.sess = k && y.opened then { y with rxTop := seq, rx := ((seq, tids, []) :: y.rx).take 32 } else y

/-- REQUESTS of a session: carried out, or the stored replies sent again. -/
def Dev.aapRequests (d : Dev) (u addr : Nat) (l : List Byte) : Dev :=
  match aapIn l with
  | none => d
  | some g =>
    if !d.aapTakes u addr || g.kind ≠ 0x10 then d else
    match d.aapJudge g with
    | (d, .no) => d
    | (d, .again s stored) => stored.foldl (fun d b => d.emit (.aap s.up s.addr b)) d
    | (d, .fresh s) =>
      let l := g.requests
      (l.foldl (fun d w => d.requestWords (.aap (Fin.ofNat 8 s.sess)) w) (d.aapNote s.sess g.seq (l.map fun w => bits (w.getD 0 0) 15 8)))

/-- CLOSE of a session. -/
def Dev.aapClose (d : Dev) (u addr : Nat) (l : List Byte) : Dev :=
  match aapIn l with
  | none => d
  | some g =>
    if !d.aapTakes u addr || g.kind ≠ 0x13 then d else
    match d.aapJudge g with
    | (d, .fresh s) => d.sessClose s.sess
    | (d, _) => d

/-- REQUESTS without a session, taken only while AAP_OPEN_READ is 1 (R94). While it is 0 the rule gives no answer: the datagram is dropped
(DESIGN CHOICE, log entry 59). -/
def Dev.aapOpenRead (d : Dev) (u : Fin 4) (addr : Nat) (l : List Byte) : Dev :=
  match aapIn l with
  | none => d
  | some g =>
    if !d.aapTakes u.val addr || g.kind ≠ 0x10 || !g.plain || !d.obb K.AAP_OPEN_READ then d
    else g.requests.foldl (fun d w => d.requestWords (.aapOpen u addr) w) d

/-! ### Commands -/

/-- AAP_HELLO (R92): a HELLO datagram arrives on uplink u. -/
def execAapHello (u : Fin 4) (addr : Nat) (dgram : List Byte) (s : State) : Host.Outcome State Fault Refusal := run (·.aapHello u.val addr dgram) s

/-- AAP_PROVE (R92, R93). -/
def execAapProve (u : Fin 4) (addr : Nat) (dgram : List Byte) (s : State) : Host.Outcome State Fault Refusal := run (·.aapProve u.val addr dgram) s

/-- AAP_REQUESTS (R91, R95). -/
def execAapRequests (u : Fin 4) (addr : Nat) (dgram : List Byte) (s : State) : Host.Outcome State Fault Refusal := run (·.aapRequests u.val addr dgram) s

/-- AAP_OPEN_READ (R94). -/
def execAapOpenRead (u : Fin 4) (addr : Nat) (dgram : List Byte) (s : State) : Host.Outcome State Fault Refusal := run (·.aapOpenRead u addr dgram) s

/-- AAP_CLOSE (R95). -/
def execAapClose (u : Fin 4) (addr : Nat) (dgram : List Byte) (s : State) : Host.Outcome State Fault Refusal := run (·.aapClose u.val addr dgram) s

/-- AAP_IDLE_TIMEOUT (R95). -/
def execAapIdleTimeout (sess : Fin 8) (s : State) : Host.Outcome State Fault Refusal := run (·.aapIdle sess.val) s

/-- AAP_BLOCK_EXPIRY (R93). -/
def execAapBlockExpiry (addr : Nat) (s : State) : Host.Outcome State Fault Refusal := run (·.aapUnblock addr) s

end Sys2Proof.Machine
end

