-- ==== Sys2Proof/Machine/Windows.lean ====
section
/-! DEFINITION. The host's windows over PCI Express: BAR0, BAR2 and BAR4, the quick window and MSI-X
(spec 04, R108 to R112, R119; 03, R89, R90; 18, R502, R511). -/
namespace Sys2Proof.Machine

def Dev.modHost (d : Dev) (f : HostEp → HostEp) : Dev := { d with host := f d.host }

/-! ### The quick window (R89, R90) -/

def Dev.modQuick (d : Dev) (f : Quick → Quick) : Dev := d.modDict fun x => { x with quick := f x.quick }

/-- A write of QW_KEY, QW_DATA0 or QW_DATA1, which OVERLAP notes while BUSY is set. -/
def Dev.quickPut (d : Dev) (f : Quick → Quick) : Dev :=
  if d.dict.quick.busy then d.modQuick fun q => { q with overlap := true } else d.modQuick f

/-- A write of QW_CTRL. Bits 1 to 0 of 0 name no operation and do nothing (log entry 59, DESIGN CHOICE). -/
def Dev.quickCtrl (d : Dev) (op : Nat) : Dev :=
  if d.dict.quick.busy then d.modQuick fun q => { q with overlap := true }
  else if op = 0 then d
  else d.modQuick fun q => { q with op := op, busy := true }

/-- A write of QW_STAT. -/
def Dev.quickClear (d : Dev) : Dev := d.modQuick fun q => { q with overlap := false }

/-! ### MSI-X (R511) -/

/-- The four 32-bit words of a vector. -/
def Dev.vecWord (d : Dev) (v f : Nat) : Nat :=
  let e := mget d.host.vecs v (0, 0, 0, 0)
  match f with
  | 0 => e.1
  | 1 => e.2.1
  | 2 => e.2.2.1
  | _ => b2n (d.host.vmask.testBit v)

/-- A vector is unmasked: a pending message is sent. -/
def Dev.unmaskVec (d : Dev) (v : Nat) : Dev :=
  let d := d.modHost fun h => { h with vmask := putBit h.vmask v false }
  if d.host.vpend.testBit v then (d.modHost fun h => { h with vpend := putBit h.vpend v false }).emit (.msix v) else d

def Dev.vecPut (d : Dev) (v f x : Nat) : Dev :=
  let e := mget d.host.vecs v (0, 0, 0, 0)
  let put := fun (e : Nat × Nat × Nat × Nat) => d.modHost fun h => { h with vecs := mput h.vecs v e }
  match f with
  | 0 => put (x, e.2.1, e.2.2.1, e.2.2.2)
  | 1 => put (e.1, x, e.2.2.1, e.2.2.2)
  | 2 => put (e.1, e.2.1, x, e.2.2.2)
  | _ => if x.testBit 0 then d.modHost fun h => { h with vmask := putBit h.vmask v true } else d.unmaskVec v

/-! ### BAR0 (R108, R502) -/

/-- EP_STATE of an endpoint. -/
def Dev.epState (d : Dev) (e : Nat) : Nat :=
  b2n (d.epOn e) * 2 ^ 23 + (if e < 20 then d.coreState e % 16 else 0) * 2 ^ 16 + bits (d.obn (K.EP_EPOCH e)) 11 0

/-- Read a lane of BAR0. Words 1 to 15 of a send window read a free value. For a poisoned word of the host's own mailbox body the manual names no
outcome, its table having BAR2 and BAR4 only (R119): the stored word is returned (DESIGN CHOICE, log entry 60). -/
def Dev.bar0Read (d : Dev) (o : Nat) : Dev × Nat :=
  let t := d.host.target
  if o < 0x54 then (if o / 4 = 20 then (d.readBell 20, d.bell 20) else (d, d.bell (o / 4)))
  else if 0x80 ≤ o && o < 0xD4 then (d, d.epState ((o - 0x80) / 4))
  else if 0x200 ≤ o && o < 0x400 then d.mbRead 20 ((o - 0x200) / 64) ((o - 0x200) % 64 / 4)
  else if 0x400 ≤ o && o < 0x420 then (d, d.mbStatus 20 ((o - 0x400) / 4))
  else if o = 0x500 then (d, t)
  else if o = 0x540 then (d, d.sendStatus 20 (bits t 12 8) (bits t 2 0))
  else if 0x544 ≤ o && o < 0x580 then let (v, d) := d.fresh 24; (d, v)
  else
    let q := d.dict.quick
    match o with
    | 0x800 => (d, q.key)
    | 0x804 => (d, q.data0)
    | 0x808 => (d, q.data1)
    | 0x810 => (d, b2n q.busy * 2 ^ 23 + b2n q.overlap * 2 ^ 22 + q.status)
    | 0x814 => (d, q.seq)
    | _ =>
      if 0x2000 ≤ o && o < 0x2200 then (d, d.vecWord ((o - 0x2000) / 16) (o % 16 / 4))
      else if o = 0x3000 then (d, d.host.vpend)
      else (d, 0)

/-- Write a lane of BAR0. -/
def Dev.bar0Write (d : Dev) (o v : Nat) : Dev :=
  let t := d.host.target
  if o < 0x54 then d.ring (o / 4) v
  else if 0x400 ≤ o && o < 0x420 then d.mbStatusWrite 20 ((o - 0x400) / 4) v
  else if o = 0x500 then (if 20 < bits v 12 8 then d else d.modHost fun h => { h with target := v &&& 0x1F07 })
  else if 0x540 ≤ o && o < 0x580 then (d.mbSend 20 (bits t 12 8) (bits t 2 0) ((o - 0x540) / 4) v).1
  else if o = 0x580 then (if v = 1 then d.epochInc 20 else d)
  else match o with
    | 0x800 => d.quickPut fun q => { q with key := v }
    | 0x804 => d.quickPut fun q => { q with data0 := v }
    | 0x808 => d.quickPut fun q => { q with data1 := v }
    | 0x80C => d.quickCtrl (v % 4)
    | 0x810 => if v.testBit 22 then d.quickClear else d
    | _ => d

/-! ### BAR4 (R110) -/

/-- Is a host access refused, and with what? All of the peer windows is DENIED. -/
def hostRefused (a : Nat) (wr : Bool) : Nat :=
  if a < 0x40000 then Stat.denied
  else if (peerLocal a).isSome || (peerShadow a).isSome then Stat.denied
  else if (isAttic a || isCellar a) && wr then Stat.denied
  else if isShared a || isBlock a || isCellar a then Stat.done
  else Stat.internal

/-- The value and status of a word of the core data space. -/
def Dev.bar4Read (d : Dev) (a : Nat) : Dev × Nat × Nat :=
  if isShared a then d.sharedRead a
  else if isBlock a then d.blockRead 20 a
  else
    if d.poisoned a then (d, 0, Stat.poison) else (d, d.ld a, Stat.done)

/-- A write of a word of the core data space. -/
def Dev.bar4Write (d : Dev) (a v : Nat) : Dev × Nat :=
  if isShared a then d.sharedStore 20 a v else d.blockWrite 20 a v

/-! ### Accesses by lane (R109, R111) -/

/-- The word address of a lane, absent past the BAR's end. -/
def laneAddr (bar : Bar) (o : Nat) : Option Nat :=
  match bar with
  | .bar0 => if o < 0x100000 then some o else none
  | .bar2 => if o < 0x40000 then some (0x40000 + o / 4) else none
  | .bar4 => if o < 0x4000000 then some (o / 4) else none

/-- The refusal and the value of one lane of a read. -/
def Dev.laneRead (d : Dev) (bar : Bar) (o : Nat) : Dev × Nat × Bool :=
  match bar, laneAddr bar o with
  | _, none => (d, 0xFF000000 + Stat.internal, true)
  | .bar0, some a => let (d, v) := d.bar0Read a; (d, v, false)
  | _, some a =>
    let st := if bar = .bar2 then Stat.done else hostRefused a false
    if st ≠ Stat.done then (d, 0xFF000000 + st, true)
    else
      let (d, v, st) := d.bar4Read a
      (d, if st = Stat.done then v else 0xFF000000 + st, st == Stat.internal)

/-- Refusals count, and are logged. -/
def Dev.hostRefusal (d : Dev) (bad : Bool) : Dev := if bad then (d.bump K.HOST_REFUSED).logE 0x5033 0 else d

/-- A host read of n lanes from a byte offset. -/
def Dev.hostRead (d : Dev) (bar : Bar) (ofs n : Nat) : Dev :=
  if !d.host.linkUp then d else
  let x := (List.range n).foldl (fun (x : Dev × List Nat × Bool) i =>
    let (d, v, bad) := x.1.laneRead bar (ofs / 4 * 4 + 4 * i)
    (d, v :: x.2.1, x.2.2 || bad)) (d, [], false)
  (x.1.hostRefusal x.2.2).emit (.hostData x.2.1.reverse)

/-- The bytes that are enabled replace those of the old value. -/
def merge (old v en n : Nat) : Nat :=
  (List.range n).foldl (fun a i => putBits a (8 * i + 7) (8 * i) (bits (if en.testBit i then v else old) (8 * i + 7) (8 * i))) 0

/-- One lane of a write: the access, and whether it was refused. -/
def Dev.laneWrite (d : Dev) (bar : Bar) (o v en : Nat) : Dev × Bool :=
  let whole := bits en 2 0 == 7
  match bar, laneAddr bar o with
  | _, none => (d, true)
  | .bar0, some a =>
    if 0x2000 ≤ a && a < 0x2200 then
      (if en = 0 then d else d.vecPut ((a - 0x2000) / 16) (a % 16 / 4) (merge (d.vecWord ((a - 0x2000) / 16) (a % 16 / 4)) v en 4), false)
    else if bits en 2 0 = 0 then (d, false)
    else (d.bar0Write a (merge (d.bar0Read a).2 v en 3), false)
  | _, some a =>
    let st := if bar = .bar2 then Stat.done else hostRefused a true
    if st ≠ Stat.done then (d, true)
    else if bits en 2 0 = 0 then (d, false)
    else if !whole && d.poisoned a then (d, false)
    else
      let d := d.iff (isShared a && !whole) fun d => d.recReady a
      let old := if isShared a then d.ld a else (d.blockRead 20 a).2.1
      let (d, st) := d.bar4Write a (merge old v en 3)
      (d, st == Stat.internal)

/-- A host write of lanes, each a value with its byte enables. -/
def Dev.hostWrite (d : Dev) (bar : Bar) (ofs : Nat) (lanes : List (BitVec 32 × BitVec 4)) : Dev :=
  if !d.host.linkUp then d else
  let x := (lanes.zip (List.range lanes.length)).foldl (fun (x : Dev × Bool) e =>
    let (d, bad) := x.1.laneWrite bar (ofs / 4 * 4 + 4 * e.2) e.1.1.toNat e.1.2.toNat
    (d, x.2 || bad)) (d, false)
  x.1.hostRefusal x.2

end Sys2Proof.Machine
end

