-- ==== Sys2Proof/Machine/Supply.lean ====
section
/-! DEFINITION. Power-on, reset, restarts, the reference clock, the HOLD# pin, modes and temperatures (spec 01, R13, R32, R35; 02, R39 to R50, R62,
R68; 19, R517 to R551). -/
namespace Sys2Proof.Machine

/-- A command whose list operand has the length that the hardware gives it; any other length names no command. -/
def wants (ok : Bool) (what : String) (f : Dev → Dev) (s : State) : Host.Outcome State Fault Refusal :=
  if ok then run f s else .fault (.malformed what)

/-- A store by a core outside its program's own stores: a row whose command is a write by an agent. -/
def Dev.coreStoreAt (d : Dev) (c a v : Nat) : Dev :=
  if !d.coreRuns c then d else
  let (d, st) := (d.farFirst c a).storeWord c a v
  if st = Stat.done then d else d.accessFault c 2 st a

/-- A load by a core in the same sense. -/
def Dev.coreLoadAt (d : Dev) (c a : Nat) : Dev :=
  if !d.coreRuns c then d else
  let (d, v, st) := d.loadWord c a
  if st = Stat.done then d.emit (.coreRead c v) else d.accessFault c 1 st a

/-- A write, and a read, of one word by an agent: a core, or the host through BAR4 (agent 20). -/
def Dev.agentStore (d : Dev) (agent a v : Nat) : Dev :=
  if agent = 20 then d.hostWrite .bar4 (4 * a) [(BitVec.ofNat 32 v, 0xF)] else d.coreStoreAt agent a v
def Dev.agentLoad (d : Dev) (agent a : Nat) : Dev :=
  if agent = 20 then d.hostRead .bar4 (4 * a) 1 else d.coreLoadAt agent a

/-- An access that was not served within 2 µs (R32): a load or store ends with TIMEOUT, a host read with its word of R111, and a host write
is dropped. The command follows that of the access: what a store had put into a shared memory is taken back (log entry 47). -/
def Dev.busTimeout (d : Dev) (agent addr : Nat) (wr : Bool) : Dev :=
  if agent = 20 then (if !d.host.linkUp then d else if wr then d.storeDropped 20 addr else d.emit (.hostData [0xFF000007]))
  else if !d.coreRuns agent then d
  else
    let d := if wr then d.storeDropped agent addr else d.modCore agent fun x => { (if h : x.accReg < 16 then x.setReg ⟨x.accReg, h⟩ 0 else x) with accReg := 0 }
    d.accessFault agent (if wr then 2 else 1) Stat.timeout addr

/-- POWER_ON (R517, R518): everything but one-time and flash memory takes its reset value. -/
def execPowerOn (s : State) : Host.Outcome State Fault Refusal := run (·.powerOn) s

/-- RESET_LOW (R517). -/
def execResetLow (s : State) : Host.Outcome State Fault Refusal := run (·.resetLow) s

/-- RESET_RELEASE (R519, R520), with the levels of BOOTSEL and TEST_MODE (R546). -/
def execResetRelease (straps : BitVec 2) (test : Bool) (flash : Flash) (s : State) : Host.Outcome State Fault Refusal :=
  run (·.resetRelease straps.toNat test flash) s

/-- WARM_RESTART (R536): causes 0, 1 and 6 are of other restarts (R524). -/
def execWarmRestart (cause : Fin 8) (s : State) : Host.Outcome State Fault Refusal :=
  run (fun d => if cause.val = 0 || cause.val = 1 || cause.val = 6 then d else d.warmRestart cause.val) s

/-- PERST (R517). -/
def execPerst (s : State) : Host.Outcome State Fault Refusal := run (·.perst) s

/-- PERST_RELEASE (R491, R556). -/
def execPerstRelease (s : State) : Host.Outcome State Fault Refusal := run (·.perstRelease) s

/-- BROWN_OUT (R551). -/
def execBrownOut (rail : Fin 20) (s : State) : Host.Outcome State Fault Refusal := run (·.brownOut rail.val) s

/-- BROWN_OUT_RETURN (R551). -/
def execBrownOutReturn (rail : Fin 20) (s : State) : Host.Outcome State Fault Refusal := run (·.brownOutReturn rail.val) s

/-- BOOT_LIMIT_EXPIRY (R525). -/
def execBootLimitExpiry (s : State) : Host.Outcome State Fault Refusal := run (·.bootLimit) s

/-- HOST_BOOT_CHUNK (R526). -/
def execHostBootChunk (s : State) : Host.Outcome State Fault Refusal := run (·.hostChunk) s

/-- REFCLK25_ABSENT (R13). -/
def execRefclk25Absent (s : State) : Host.Outcome State Fault Refusal := run (·.refAbsent) s

/-- REFCLK25_PRESENT (R13). -/
def execRefclk25Present (s : State) : Host.Outcome State Fault Refusal := run (·.refPresent) s

/-- HOLD_PIN_LOW (R35, R47). -/
def execHoldPinLow (s : State) : Host.Outcome State Fault Refusal := run (·.holdPinLow) s

/-- HOLD_PIN_HIGH (R47). -/
def execHoldPinHigh (s : State) : Host.Outcome State Fault Refusal := run (·.holdPinHigh) s

/-- INTERCONNECT_TIMEOUT (R32). -/
def execInterconnectTimeout (agent : Fin 21) (addr : Word) (wr : Bool) (s : State) : Host.Outcome State Fault Refusal :=
  run (·.busTimeout agent.val addr.toNat wr) s

/-- SUMP_WATCHDOG_EXPIRY (R534). -/
def execSumpWatchdogExpiry (s : State) : Host.Outcome State Fault Refusal := run (·.sumpWatchdog) s

/-- WDOG_KICK (R534): a write of the kick word. -/
def execWdogKick (agent : Fin 21) (v : Word) (s : State) : Host.Outcome State Fault Refusal := run (·.agentStore agent.val 0x308000 v.toNat) s

/-- MODE_REQUEST (R39). -/
def execModeRequest (r : Src) (v : Word) (s : State) : Host.Outcome State Fault Refusal := run (·.writeReq r K.MODE_REQUEST [v.toNat]) s

/-- LIMP_WAIT_END (R48). -/
def execLimpWaitEnd (s : State) : Host.Outcome State Fault Refusal := run (·.limpWaitEnds) s

/-- LIMP_RETURN (R49). -/
def execLimpReturn (s : State) : Host.Outcome State Fault Refusal := run (·.limpReturn) s

/-- WAKE_AT_ALARM (R43). -/
def execWakeAtAlarm (s : State) : Host.Outcome State Fault Refusal := run (·.wakeAlarm) s

/-- TJ_SAMPLE (R50, R51): the eight sensors, in tenths of a degree, and the Sump's own. -/
def execTjSample (temps : List Int) (sump : Int) (s : State) : Host.Outcome State Fault Refusal :=
  wants (temps.length == 8) "TJ_SAMPLE temperatures" (·.tjSample temps sump) s

/-- TAP_RAIL_SAMPLE (R56 to R61): the voltage and current of each of the twenty rails. -/
def execTapRailSample (rails : List (Nat × Nat)) (s : State) : Host.Outcome State Fault Refusal :=
  wants (rails.length == 20) "TAP_RAIL_SAMPLE rails" (·.railStep rails) s

/-- LIMP_POWER_DORMANT (R62). -/
def execLimpPowerDormant (s : State) : Host.Outcome State Fault Refusal := run (·.limpDraw) s

/-- TAP_REQUEST (R57, R66). -/
def execTapRequest (s : State) : Host.Outcome State Fault Refusal := run (·.tapMessage false) s

/-- TAP_RELEASE (R66). -/
def execTapRelease (s : State) : Host.Outcome State Fault Refusal := run (·.tapMessage true) s

/-- The earliest end of a wait in the Tap's queue, and of a bounded permit. -/
def Dev.nextWait (d : Dev) : Option Nat := d.tap.queue.foldl (fun a q => match a with
  | none => some q.waitEnds
  | some t => some (min t q.waitEnds)) none
def Dev.nextExpiry (d : Dev) : Option Nat := d.tap.permits.foldl (fun a p => match a, p.ends with
  | none, e => e
  | some t, some e => some (min t e)
  | some t, none => some t) none

/-- The wait of the queue that ends first ends (R57). -/
def Dev.tapWaitEnds (d : Dev) : Dev :=
  if !d.served 2 then d else
  match d.nextWait with
  | some t => (d.upTo t).tapWaits
  | none => d

/-- The bounded permit that ends first expires (R58), the queue's head is judged again, and an erase that goes on takes another (R529). -/
def Dev.permitEnds (d : Dev) : Dev :=
  if !d.served 2 then d else
  match d.nextExpiry with
  | some t => (((d.upTo t).tapExpire).recheck).eraseRenew
  | none => d

/-- TAP_WAIT_EXPIRY (R57). -/
def execTapWaitExpiry (s : State) : Host.Outcome State Fault Refusal := run (·.tapWaitEnds) s

/-- PERMIT_EXPIRY (R58). -/
def execPermitExpiry (s : State) : Host.Outcome State Fault Refusal := run (·.permitEnds) s

/-- TAP_BUDGET_WRITE (R55). -/
def execTapBudgetWrite (r : Src) (v : Word) (s : State) : Host.Outcome State Fault Refusal := run (·.writeReq r K.TAP_BUDGET [v.toNat]) s

/-- TAP_PEAK_CLEAR (R68). -/
def execTapPeakClear (r : Src) (v : Word) (s : State) : Host.Outcome State Fault Refusal := run (·.writeReq r K.TAP_PEAK [v.toNat]) s

/-- TJ_MAX_RESET (R68). -/
def execTjMaxReset (r : Src) (v : Word) (s : State) : Host.Outcome State Fault Refusal := run (·.writeReq r K.TJ_MAX [v.toNat]) s

end Sys2Proof.Machine
end

