-- ==== Sys2Proof/Machine/Requests.lean ====
section
/-! DEFINITION. The dictionary commands, the quick window and the host windows (spec 03, R74 to R102; 04, R108 to R111; 14, R394, R395). -/
namespace Sys2Proof.Machine

/-- READ (R75). -/
def execRead (r : Src) (key : Word) (s : State) : Host.Outcome State Fault Refusal := run (·.request r 1 key.toNat 0 []) s

/-- WRITE (R75). -/
def execWrite (r : Src) (key : Word) (vals : List Word) (s : State) : Host.Outcome State Fault Refusal :=
  run (·.request r 2 key.toNat 0 (vals.map (·.toNat))) s

/-- READ_MULTI (R76). -/
def execReadMulti (r : Src) (keys : List Word) (s : State) : Host.Outcome State Fault Refusal := run (·.request r 3 0 0 (keys.map (·.toNat))) s

/-- WRITE_MULTI (R76). -/
def execWriteMulti (r : Src) (items : List Word) (s : State) : Host.Outcome State Fault Refusal := run (·.request r 4 0 0 (items.map (·.toNat))) s

/-- SIG_READ (R394). -/
def execSigRead (r : Src) (sig count : Word) (s : State) : Host.Outcome State Fault Refusal := run (·.request r 5 sig.toNat count.toNat []) s

/-- SIG_WRITE (R395). -/
def execSigWrite (r : Src) (sig : Word) (vals : List Word) (s : State) : Host.Outcome State Fault Refusal :=
  run (·.request r 6 sig.toNat 0 (vals.map (·.toNat))) s

/-- SIG_FORCE (R395). -/
def execSigForce (r : Src) (sig : Word) (vals : List Word) (s : State) : Host.Outcome State Fault Refusal :=
  run (·.request r 7 sig.toNat 0 (vals.map (·.toNat))) s

/-- SIG_UNFORCE (R395). -/
def execSigUnforce (r : Src) (sig : Word) (s : State) : Host.Outcome State Fault Refusal := run (·.request r 8 sig.toNat 0 []) s

/-- DOMAIN_PUT (R77): one chunk. -/
def execDomainPut (r : Src) (key ofs : Word) (payload : List Word) (s : State) : Host.Outcome State Fault Refusal :=
  run (·.request r 9 key.toNat ofs.toNat (payload.map (·.toNat))) s

/-- DOMAIN_GET (R75). -/
def execDomainGet (r : Src) (key ofs : Word) (payload : List Word) (s : State) : Host.Outcome State Fault Refusal :=
  run (·.request r 10 key.toNat ofs.toNat (payload.map (·.toNat))) s

/-- A transfer without a chunk for 1 s is dropped (R77). -/
def Dev.putIdle (d : Dev) (key : Nat) : Dev :=
  match d.dict.puts.find? fun p => p.key == key with
  | some p => if d.served 0 then (d.upTo (p.at_ + 1000000000)).dropPut key else d
  | none => d

/-- DOMAIN_PUT_IDLE (R77). -/
def execDomainPutIdle (key : Word) (s : State) : Host.Outcome State Fault Refusal := run (·.putIdle key.toNat) s

/-- SAVE (R98). -/
def execSave (r : Src) (s : State) : Host.Outcome State Fault Refusal := run (·.request r 11 0 0 []) s

/-- SAVE_DONE (R98). -/
def execSaveDone (ok : Bool) (s : State) : Host.Outcome State Fault Refusal := run (·.saveEnd ok) s

/-- RESTORE_DEFAULTS (R100). -/
def execRestoreDefaults (r : Src) (s : State) : Host.Outcome State Fault Refusal := run (·.request r 12 0 0 []) s

/-- SUBSCRIBE (R79). -/
def execSubscribe (r : Src) (key arg : Word) (s : State) : Host.Outcome State Fault Refusal := run (·.request r 13 key.toNat arg.toNat []) s

/-- SUBSCRIBE_SEND (R79). -/
def execSubscribeSend (via : Via) (num : Fin 64) (s : State) : Host.Outcome State Fault Refusal := run (·.subscribeSend via num.val) s

/-- DICT_TIMEOUT (R82). -/
def execDictTimeout (r : Src) (s : State) : Host.Outcome State Fault Refusal := run (·.dictTimeout r) s

/-- HATCH_COMPLETION_POST (R87): the oldest completion that waits, if the ring has room. -/
def execHatchCompletionPost (s : State) : Host.Outcome State Fault Refusal := run (fun d => if d.served 0 then d.postCompl else d) s

/-- The host writes one word through a BAR. -/
def Dev.hostPut (d : Dev) (bar : Bar) (ofs v : Nat) : Dev := d.hostWrite bar ofs [(BitVec.ofNat 32 v, 0xF)]

/-- QW_READ (R90). -/
def execQwRead (s : State) : Host.Outcome State Fault Refusal := run (·.hostPut .bar0 0x80C 1) s

/-- QW_WRITE1 (R90). -/
def execQwWrite1 (s : State) : Host.Outcome State Fault Refusal := run (·.hostPut .bar0 0x80C 2) s

/-- QW_WRITE2 (R90). -/
def execQwWrite2 (s : State) : Host.Outcome State Fault Refusal := run (·.hostPut .bar0 0x80C 3) s

/-- QW_OVERLAP_CLEAR (R89). -/
def execQwOverlapClear (s : State) : Host.Outcome State Fault Refusal := run (·.hostPut .bar0 0x810 0x400000) s

/-- REVOKE_KEY (R102). -/
def execRevokeKey (r : Src) (v : Word) (s : State) : Host.Outcome State Fault Refusal := run (·.writeReq r K.REVOKE_KEY [v.toNat]) s

/-- JTAG_LOCK_WRITE (R102). -/
def execJtagLockWrite (r : Src) (v : Word) (s : State) : Host.Outcome State Fault Refusal := run (·.writeReq r K.JTAG_LOCK [v.toNat]) s

/-- REGISTER_WRITE (R4, R70): an object without a row of its own; the write of a key that has one does what that row says. -/
def execRegisterWrite (r : Src) (key : Word) (vals : List Word) (s : State) : Host.Outcome State Fault Refusal :=
  run (·.writeReq r key.toNat (vals.map (·.toNat))) s

/-- HOST_READ (R111). -/
def execHostRead (bar : Bar) (ofs lanes : Nat) (s : State) : Host.Outcome State Fault Refusal := run (·.hostRead bar ofs lanes) s

/-- HOST_WRITE (R109). -/
def execHostWrite (bar : Bar) (ofs : Nat) (lanes : List (BitVec 32 × BitVec 4)) (s : State) : Host.Outcome State Fault Refusal :=
  run (·.hostWrite bar ofs lanes) s

end Sys2Proof.Machine
end

