-- ==== Sys2Proof/Machine/PortCmds.lean ====
section
/-! DEFINITION. Commands of line ports, tiles, line faults, TDR and inputs (spec 05, R127 to R152; 06, R156 to R173). -/
namespace Sys2Proof.Machine

/-- The two words of a 48-bit value, the higher first (spec 03, R70). -/
def hiLo (v : BitVec 48) : List Nat := [v.toNat / 2 ^ 24, v.toNat % 2 ^ 24]

/-- PORT_MODE_WRITE (R135). -/
def execPortModeWrite (r : Src) (p : Fin 96) (v : Word) (s : State) : Host.Outcome State Fault Refusal :=
  run (·.writeReq r (K.PORT_MODE p) [v.toNat]) s

/-- PORT_DISABLE (R127). -/
def execPortDisable (r : Src) (p : Fin 96) (s : State) : Host.Outcome State Fault Refusal := run (·.writeReq r (K.PORT_ADMIN p) [0]) s

/-- PORT_ENABLE (R127). -/
def execPortEnable (r : Src) (p : Fin 96) (s : State) : Host.Outcome State Fault Refusal := run (·.writeReq r (K.PORT_ADMIN p) [1]) s

/-- PORT_QUARANTINE (R127). -/
def execPortQuarantine (r : Src) (p : Fin 96) (s : State) : Host.Outcome State Fault Refusal := run (·.writeReq r (K.PORT_ADMIN p) [2]) s

/-- PORT_RESERVATION_DONE (R131). -/
def execPortReservationDone (p : Fin 96) (s : State) : Host.Outcome State Fault Refusal := run (·.portAnswered p) s

/-- PROBE_TIMEOUT (R127). -/
def execProbeTimeout (p : Fin 96) (s : State) : Host.Outcome State Fault Refusal := run (·.probeTimeout p) s

/-- PORT_UP (R133). -/
def execPortUp (p : Fin 96) (parallel crossed : Bool) (s : State) : Host.Outcome State Fault Refusal := run (·.portUpEvent p parallel crossed) s

/-- LINK_LOST (R127). -/
def execLinkLost (p : Fin 96) (s : State) : Host.Outcome State Fault Refusal := run (·.portDown p) s

/-- DEG_WINDOW_END (R127). -/
def execDegWindowEnd (p : Fin 96) (s : State) : Host.Outcome State Fault Refusal := run (·.degWindow p) s

/-- PORT_OPTION_WRITE (R135). -/
def execPortOptionWrite (r : Src) (p : Fin 96) (opt : Fin 9) (v : Word) (s : State) : Host.Outcome State Fault Refusal :=
  run (·.writeReq r (K.P_ETX_AN p + opt) [v.toNat]) s

/-- ETX_AN_RESTART (R136). -/
def execEtxAnRestart (p : Fin 96) (s : State) : Host.Outcome State Fault Refusal := run (·.anRound p) s

/-- T1L_RESOLVE (R138). -/
def execT1lResolve (p : Fin 96) (partner : BitVec 2) (s : State) : Host.Outcome State Fault Refusal := run (·.t1lLevel p partner.toNat) s

/-- BUS_POLARITY_SWAP (R139). -/
def execBusPolaritySwap (p : Fin 96) (s : State) : Host.Outcome State Fault Refusal := run (·.busSwap p) s

/-- IDLE_LEVEL_EVAL (R140): the idle level in millivolts. -/
def execIdleLevelEval (p : Fin 96) (mv : Int) (s : State) : Host.Outcome State Fault Refusal := run (·.idleEval p mv) s

/-- Is a line as the tile measures it poor (R133, R553)? Of ET1L the mean-square error, in tenths of a decibel relative to the symbol spacing, above the limit
of its level, which T1L_HIGH tells (R138); of ENC DIFF the differential of its weaker pair, in millivolts, below 200. -/
def Dev.poorLine (d : Dev) (p : Nat) (q : Int) : Bool :=
  if d.portMode p = 2 then decide ((if d.hasFlag p 4 then -230 else -200) < q) else decide (q.natAbs < 200)

/-- What the tile has measured of a line for the time of R133, 100 ms of ET1L and 1 ms of ENC DIFF, while the port's receivers serve its mode. -/
def Dev.lineQuality (d : Dev) (p : Nat) (q : Int) : Dev :=
  if (d.portState p == 1 || d.portUp p) && (d.portMode p == 2 || (d.portMode p == 6 && d.obn (K.P_ENC_INPUT p) == 0)) then
    (d.modPort p fun x => { x with degrading := d.poorLine p q }).degCheck p
  else d

/-- DEGRADING_CONDITION (R133, R553), with the quality that was measured. -/
def execDegradingCondition (p : Fin 96) (q : Int) (s : State) : Host.Outcome State Fault Refusal := run (·.lineQuality p q) s

/-- RECAL (R142). -/
def execRecal (r : Src) (p : Fin 96) (v : Word) (s : State) : Host.Outcome State Fault Refusal := run (·.writeReq r (K.P_RECAL p) [v.toNat]) s

/-- RECAL_DONE (R142, R149). -/
def execRecalDone (p : Fin 96) (s : State) : Host.Outcome State Fault Refusal := run (·.recalEnd p) s

/-- ROLE_MOVE (R143). -/
def execRoleMove (r : Src) (p : Fin 96) (v : Word) (s : State) : Host.Outcome State Fault Refusal := run (·.writeReq r (K.P_ROLE_MOVE p) [v.toNat]) s

/-- ROLE_MOVE_CANCEL (R143). -/
def execRoleMoveCancel (r : Src) (p : Fin 96) (s : State) : Host.Outcome State Fault Refusal := run (·.writeReq r (K.P_ROLE_MOVE p) [0x7F]) s

/-- ERR_REPORT (R151). -/
def execErrReport (core : Fin 20) (p : Fin 96) (v : Word) (s : State) : Host.Outcome State Fault Refusal :=
  run (·.coreStoreAt core (0x300001 + 4 * p) v.toNat) s

/-- PORT_CNT_CLEAR (R152). -/
def execPortCntClear (r : Src) (p : Fin 96) (v : Word) (s : State) : Host.Outcome State Fault Refusal :=
  run (·.writeReq r (K.PORT_CNT_CLEAR p) [v.toNat]) s

/-- TILE_LOSS (R147). -/
def execTileLoss (t : Fin 4) (s : State) : Host.Outcome State Fault Refusal := run (·.tileLost t) s

/-- TILE_COLD_START (R148). -/
def execTileColdStart (r : Src) (t : Fin 4) (s : State) : Host.Outcome State Fault Refusal := run (·.writeReq r (K.TILE_CMD t) [1]) s

/-- TILE_START_PERMIT (R148). -/
def execTileStartPermit (t : Fin 4) (s : State) : Host.Outcome State Fault Refusal := run (·.tileAnswered t) s

/-- TILE_START_END (R148). -/
def execTileStartEnd (t : Fin 4) (ok : Bool) (s : State) : Host.Outcome State Fault Refusal := run (·.tileStarted t ok) s

/-- TILE_AUTO_RESTART (R148). -/
def execTileAutoRestart (t : Fin 4) (s : State) : Host.Outcome State Fault Refusal := run (·.tileAuto t) s

/-- TILE_RECALIBRATE (R149). -/
def execTileRecalibrate (r : Src) (t : Fin 4) (s : State) : Host.Outcome State Fault Refusal := run (·.writeReq r (K.TILE_CMD t) [2]) s

/-- TILE_USE_WRITE (R150). -/
def execTileUseWrite (r : Src) (t : Fin 4) (v : Word) (s : State) : Host.Outcome State Fault Refusal := run (·.writeReq r (K.TILE_USE t) [v.toNat]) s

/-- OVERCURRENT (R156). -/
def execOvercurrent (p : Fin 96) (pin : Fin 5) (s : State) : Host.Outcome State Fault Refusal := run (·.lineFault p pin 9 (K.P_OC_EVENTS p)) s

/-- OVERVOLTAGE (R155, R157): the voltage at the pin in 0.01 V. -/
def execOvervoltage (p : Fin 96) (pin : Fin 5) (cv : Int) (s : State) : Host.Outcome State Fault Refusal := run (·.overVolt p pin cv) s

/-- RETRY_DELAY_END (R159). -/
def execRetryDelayEnd (p : Fin 96) (s : State) : Host.Outcome State Fault Refusal := run (·.retryAsk p) s

/-- RETRY_PERMIT (R159): the voltages in 0.01 V that the pins have kept for 5 µs. -/
def execRetryPermit (p : Fin 96) (cv : Vector Int 5) (s : State) : Host.Outcome State Fault Refusal := run (·.retryGo p cv) s

/-- RETRY_WINDOW_END (R159). -/
def execRetryWindowEnd (p : Fin 96) (s : State) : Host.Outcome State Fault Refusal := run (·.retryEnd p) s

/-- RETRY_COUNT_RESET (R159). -/
def execRetryCountReset (p : Fin 96) (s : State) : Host.Outcome State Fault Refusal := run (·.retryReset p) s

/-- TDR_START (R160). -/
def execTdrStart (r : Src) (p : Fin 96) (v : Word) (s : State) : Host.Outcome State Fault Refusal := run (·.writeReq r (K.P_TDR_START p) [v.toNat]) s

/-- TDR_ACQ_END (R163). -/
def execTdrAcqEnd (p : Fin 96) (s : State) : Host.Outcome State Fault Refusal := run (·.tdrAcquired p) s

/-- TDR_PROC_END (R164, R165): the averaged samples of the sweep's traces, one for each of the at most four pairs that it takes. -/
def execTdrProcEnd (p : Fin 96) (traces : List (List Word)) (s : State) : Host.Outcome State Fault Refusal :=
  wants (decide (traces.length ≤ 4)) "TDR_PROC_END traces" (·.tdrProcessed p traces) s

/-- FLUTTER_WINDOW_END (R167). -/
def execFlutterWindowEnd (p : Fin 96) (inp : Fin 5) (s : State) : Host.Outcome State Fault Refusal := run (·.flutterEnd p inp) s

/-- STUCK_TIMEOUT (R168). -/
def execStuckTimeout (p : Fin 96) (inp : Fin 5) (s : State) : Host.Outcome State Fault Refusal := run (·.stuckEnd p inp) s

/-- WIREBREAK_TEST (R171): the voltage at the pin in 0.01 V, which the tile judges. -/
def execWirebreakTest (p : Fin 96) (inp : Fin 5) (cv : Int) (s : State) : Host.Outcome State Fault Refusal := run (·.wbTest p inp cv) s

/-- SUPPLY_LOW_TIMER (R172): VTF in tenths of a volt. -/
def execSupplyLowTimer (t : Fin 4) (dv : Nat) (s : State) : Host.Outcome State Fault Refusal := run (·.supplyTimer t dv) s

/-- VTF_PRESENCE_CHANGE (R171). -/
def execVtfPresenceChange (t : Fin 4) (present : Bool) (dv : Nat) (s : State) : Host.Outcome State Fault Refusal := run (·.vtfChange t present dv) s

/-- EDGE_CLEAR (R169). -/
def execEdgeClear (r : Src) (p : Fin 96) (v : Word) (s : State) : Host.Outcome State Fault Refusal :=
  run (·.writeReq r (K.P_EDGE_CLEAR p) [v.toNat]) s

/-- DIN_SAMPLE (R166). -/
def execDinSample (p : Fin 96) (cv : Vector Int 5) (s : State) : Host.Outcome State Fault Refusal := run (·.dinSample p cv) s

/-- ENC_EDGE (R125, R173): the inputs in 0.01 V, held for `held` ECK cycles. -/
def execEncEdge (p : Fin 96) (a b : Int) (held : Nat) (s : State) : Host.Outcome State Fault Refusal :=
  run (fun d => d.iff (d.encTaken p held) fun d => d.encLevels p (d.encLevel p a (d.port p).encA) (d.encLevel p b (d.port p).encB)) s

/-- ENC_INDEX_EDGE (R125, R173): the index input in 0.01 V, held for `held` ECK cycles. -/
def execEncIndexEdge (p : Fin 96) (cv : Int) (held : Nat) (s : State) : Host.Outcome State Fault Refusal :=
  run (fun d => d.iff (d.encTaken p held) fun d =>
    let v := d.encIndexLevel p cv (d.port p).encIdx
    d.iff (v != (d.port p).encIdx) (·.encIndex p v)) s

/-- ENC_ILLEGAL_TRANSITION (R173). -/
def execEncIllegalTransition (p : Fin 96) (held : Nat) (s : State) : Host.Outcome State Fault Refusal :=
  run (fun d => d.iff (d.encTaken p held) (·.encIllegal p)) s

/-- ENC_PRESET (R173). -/
def execEncPreset (r : Src) (p : Fin 96) (v : BitVec 48) (s : State) : Host.Outcome State Fault Refusal :=
  run (·.writeReq r (K.P_ENC_PRESET p) (hiLo v)) s

end Sys2Proof.Machine
end

