-- ==== Sys2Proof/Machine/Lines.lean ====
section
/-! DEFINITION. Commands of Ethernet MACs, uplinks and priority-bus controllers (spec 07, R179 to R203; 08, R206 to R230). -/
namespace Sys2Proof.Machine

/-- MAC_RX_FRAME (R179): `err` has a symbol error in bit 0, an odd bit count in bit 1, in bit 2 that the source stops in the middle of the frame
(R129, R352), and in bit 3 a Clause 49 block error that ends the frame (R203). -/
def execMacRxFrame (m : Fin 100) (pre : Nat) (frame : List Byte) (err : BitVec 4) (headOut : Bool) (s : State) : Host.Outcome State Fault Refusal :=
  run (·.macRx m pre frame (err.getLsbD 0) (err.getLsbD 1) (err.getLsbD 2) (err.getLsbD 3) headOut) s

/-- PAUSE_RX (R182). -/
def execPauseRx (m : Fin 100) (quanta : BitVec 16) (s : State) : Host.Outcome State Fault Refusal :=
  run (fun d => if !d.macRuns m then d else if d.lineBusy m then d.bump (K.P_RECAL_DROPS m) else d.pauseRx m quanta.toNat d.now) s

/-- The stop time of a PAUSE ends (R182). -/
def Dev.pauseEnds (d : Dev) (m : Nat) : Dev :=
  match ((d.mac m).settled d.now).paused with
  | some t => let d := d.upTo t; d.modMac m fun x => (x.settled d.now).expired t
  | none => d

/-- PAUSE_EXPIRY (R182). -/
def execPauseExpiry (m : Fin 100) (s : State) : Host.Outcome State Fault Refusal := run (·.pauseEnds m) s

/-- TS_POP (R194): a read of word 0 of a FIFO. -/
def execTsPop (agent : Fin 21) (idx : Fin 100) (s : State) : Host.Outcome State Fault Refusal := run (·.agentLoad agent (0x302000 + 8 * idx)) s

/-- UPLINK_MODE_WRITE (R196). -/
def execUplinkModeWrite (r : Src) (u : Fin 4) (v : Word) (s : State) : Host.Outcome State Fault Refusal :=
  run (·.writeReq r (K.UPLINK_MODE u) [v.toNat]) s

/-- UPLINK_UP (R197). -/
def execUplinkUp (u : Fin 4) (s : State) : Host.Outcome State Fault Refusal := run (·.upLink u) s

/-- UPLINK_FAULT (R197). -/
def execUplinkFault (u : Fin 4) (remote : Bool) (s : State) : Host.Outcome State Fault Refusal := run (·.upFaulted u remote) s

/-- UPLINK_FAULT_CLEAR (R197). -/
def execUplinkFaultClear (u : Fin 4) (s : State) : Host.Outcome State Fault Refusal := run (·.upCleared u) s

/-- A frame without its FCS that an uplink's MAC has passed, addressed to the device (R198). -/
def Dev.deviceFrame (d : Dev) (u : Nat) (l : List Byte) : Dev :=
  let m := 96 + u
  if !d.macRuns m || !d.forDevice u l then d else
  let (vid, pcp, _) := d.vlanOf m l
  let tb := d.macOb m K.MAC_TS_BASE K.UP_TS_BASE
  let t := adjNs (d.tbAgo tb 0 m) (d.ob (macKey m K.MAC_TS_ING_ADJ K.UP_TS_ING_ADJ))
  let f : RxFrame := { bytes := l, bad := false, cause := 0, vid := vid, cls := d.classOf m pcp, ingTb := tb, ingTime := t, est := false,
                       rate := rateCode (d.lineRate m) }
  d.deviceRx u l (envOfRx m f)

/-- DEVICE_FRAME_RX (R198). -/
def execDeviceFrameRx (u : Fin 4) (frame : List Byte) (s : State) : Host.Outcome State Fault Refusal := run (·.deviceFrame u frame) s

/-- GCL_APPLY (R200). -/
def execGclApply (r : Src) (u : Fin 4) (v : Word) (s : State) : Host.Outcome State Fault Refusal := run (·.writeReq r (K.UP_GCL_APPLY u) [v.toNat]) s

/-- GCL_CHANGE (R201). -/
def execGclChange (u : Fin 4) (s : State) : Host.Outcome State Fault Refusal := run (·.gclTake u) s

/-- GCL_ENTRY_END (R199). -/
def execGclEntryEnd (u : Fin 4) (s : State) : Host.Outcome State Fault Refusal := run (·.gclNext u) s

/-- MAC_CNT_CLEAR (R203). -/
def execMacCntClear (r : Src) (p : Fin 96) (v : Word) (s : State) : Host.Outcome State Fault Refusal :=
  run (·.writeReq r (K.MAC_CNT_CLEAR p) [v.toNat]) s

/-- UP_CNT_CLEAR (R203). -/
def execUpCntClear (r : Src) (u : Fin 4) (v : Word) (s : State) : Host.Outcome State Fault Refusal :=
  run (·.writeReq r (K.UP_CNT_CLEAR u) [v.toNat]) s

/-- The address of word `ofs` of a port's controller. -/
def busWord (p ofs : Nat) : Nat := 0x340000 + 0x1000 * p + ofs

/-- TX_SEND (R214): TXCMD 1. -/
def execTxSend (core : Fin 20) (p : Fin 96) (buf : Fin 32) (s : State) : Host.Outcome State Fault Refusal :=
  run (·.coreStoreAt core (busWord p (txBase buf + 24)) 1) s

/-- TX_ABORT (R217): TXCMD 2. -/
def execTxAbort (core : Fin 20) (p : Fin 96) (buf : Fin 32) (s : State) : Host.Outcome State Fault Refusal :=
  run (·.coreStoreAt core (busWord p (txBase buf + 24)) 2) s

/-- BUS_SELECT (R215). -/
def execBusSelect (p : Fin 96) (s : State) : Host.Outcome State Fault Refusal := run (·.busSelect p) s

/-- BUS_ATTEMPT_END (R216, R223, R228): `tdc` is the loop delay where the attempt reached the edge at which it is measured (R207). -/
def execBusAttemptEnd (p : Fin 96) (res : BusEnd) (tdc : Option (BitVec 8)) (s : State) : Host.Outcome State Fault Refusal :=
  run (·.attemptEnd p res (tdc.map (·.toNat))) s

/-- BUS_RX_FRAME (R219). -/
def execBusRxFrame (p : Fin 96) (w0 w1 : Word) (data : List Byte) (ago : Nat) (s : State) : Host.Outcome State Fault Refusal :=
  run (·.busRx p w0.toNat w1.toNat data ago) s

/-- BUS_RX_ERROR (R223): `more` 0 is an error in a frame being received; 1 and 2 are what ISO 11898-1 adds 8 for beside it: a dominant bit right
after the controller's own error flag, a bit error in its active error or overload flag, or 8 more dominant bits, as receiver and as transmitter. -/
def execBusRxError (p : Fin 96) (code : Fin 8) (more : Fin 3) (s : State) : Host.Outcome State Fault Refusal :=
  run (fun d => if more = 0 then d.busRxError p code else d.busMore p code (more = 2)) s

/-- A recessive res or FDF bit (R208): with PEX 1 the controller waits for integration, sends no error flag and counts; with PEX 0 it is a form error. -/
def Dev.busException (d : Dev) (p : Nat) : Dev :=
  if !d.busOn p || 1 < d.obn (K.BUS_STATE p) then d
  else if d.obb (K.BUS_PEX p) then ((d.bump (K.BUS_PEX_COUNT p)).setOb (K.BUS_LAST_ERR p) 7).logSec 0x3311 p
  else d.busRxError p 2

/-- PROTOCOL_EXCEPTION (R208). -/
def execProtocolException (p : Fin 96) (s : State) : Host.Outcome State Fault Refusal := run (·.busException p) s

/-- BUS_RX_LOCK_READ (R220): a read of word 24 of a receive object. -/
def execBusRxLockRead (core : Fin 20) (p : Fin 96) (obj : Fin 64) (s : State) : Host.Outcome State Fault Refusal :=
  run (·.coreLoadAt core (busWord p (rxBase obj + 24))) s

/-- BUS_RX_RELEASE (R220). -/
def execBusRxRelease (core : Fin 20) (p : Fin 96) (obj : Fin 64) (v : Word) (s : State) : Host.Outcome State Fault Refusal :=
  run (·.coreStoreAt core (busWord p (rxBase obj + 25)) v.toNat) s

/-- BUS_REFILL (R218). -/
def execBusRefill (p : Fin 96) (s : State) : Host.Outcome State Fault Refusal := run (·.busRefill p) s

/-- BUS_RECOVER (R226): the object, or the controller's word. -/
def execBusRecover (by_ : By) (p : Fin 96) (v : Word) (s : State) : Host.Outcome State Fault Refusal :=
  run (fun d => match by_ with
  | .dict r => d.writeReq r (K.BUS_RECOVER p) [v.toNat]
  | .core c => d.coreStoreAt c (busWord p 1) v.toNat) s

/-- BUS_RECOVERY_DONE (R226). -/
def execBusRecoveryDone (p : Fin 96) (s : State) : Host.Outcome State Fault Refusal := run (·.busRecovered p) s

/-- BUS_DONE_CLEAR (R229). -/
def execBusDoneClear (core : Fin 20) (p : Fin 96) (hi : Bool) (v : Word) (s : State) : Host.Outcome State Fault Refusal :=
  run (·.coreStoreAt core (busWord p (if hi then 5 else 4)) v.toNat) s

/-- BUS_TIMING_WRITE (R206). -/
def execBusTimingWrite (r : Src) (p : Fin 96) (el : Fin 11) (v : Word) (s : State) : Host.Outcome State Fault Refusal :=
  run (·.writeReq r (K.BUS_FD_MODE p + el) [v.toNat]) s

/-- LISTEN_ONLY_WRITE (R222). -/
def execListenOnlyWrite (r : Src) (p : Fin 96) (v : Word) (s : State) : Host.Outcome State Fault Refusal :=
  run (·.writeReq r (K.BUS_LISTEN_ONLY p) [v.toNat]) s

/-- BUS_CNT_CLEAR (R230). -/
def execBusCntClear (r : Src) (p : Fin 96) (v : Word) (s : State) : Host.Outcome State Fault Refusal :=
  run (·.writeReq r (K.BUS_CNT_CLEAR p) [v.toNat]) s

end Sys2Proof.Machine
end

