-- ==== Sys2Proof/Machine/RunnelCmds.lean ====
section
/-! DEFINITION. The runnel instructions, symbols, swaps and engine commands (spec 09, R238 to R271). A command of an instruction is the word that
the channel fetched, with the line bits of its slot (log entry 2). -/
namespace Sys2Proof.Machine

/-- A channel's condition of R260. -/
def Dev.rnCond (d : Dev) (c cond lin : Nat) : Bool :=
  let x := d.chan c
  let v := d.iv c lin
  match cond with
  | 0 => v.testBit (d.obn (K.CH_JPIN_A c))
  | 1 => !v.testBit (d.obn (K.CH_JPIN_A c))
  | 2 => v.testBit (d.obn (K.CH_JPIN_B c))
  | 3 => !v.testBit (d.obn (K.CH_JPIN_B c))
  | 4 => x.rferr || x.rperr || x.rovr
  | 5 => x.rend
  | 6 => x.x == d.chK c 0
  | _ => x.sc == 0

/-- WAIT: modes 2 and 3 watch for a transition after the slot in which it issues first (R260). -/
def Dev.rnWaitFor (d : Dev) (c dly mode : Nat) (v : Bool) : Dev :=
  let ok := match mode, (d.chan c).waitBit with
    | 0, _ => !v
    | 1, _ => v
    | 2, some b => v != b
    | 3, some b => v && !b
    | _, none => false
    | _, some _ => false
  if ok then d.rnNext c (d.chPc c + 1) dly
  else (d.modChan c fun x => { x with waitBit := if mode = 2 then some (x.waitBit.getD v) else some v }).rnBlock c .waiting

/-- IN RHR (R261). -/
def Dev.rnTake (d : Dev) (c dly : Nat) (toY nb : Bool) : Dev :=
  match (d.chan c).rhr with
  | some y =>
    ((d.setXY c toY y.sym).modChan c fun x => { x with rhr := none, rferr := y.ferr, rperr := y.perr, rovr := y.ovr }).rnNext c (d.chPc c + 1) dly
  | none => if nb then d.rnNext c (d.chPc c + 1) dly else d.rnBlock c .waiting

/-- OUT: it blocks while THR is full; TXF without a TX FIFO is illegal (R261, R263). -/
def Dev.rnOutOf (d : Dev) (c dly : Nat) (cont : Bool) (source lit : Nat) : Dev :=
  let x := d.chan c
  if source = 2 && txCap (d.obn (K.CH_JOIN c)) = 0 then d.faultChan c false
  else if x.thr.isSome then d.rnBlock c .thrFull
  else match source with
    | 0 => d.rnOutSym c dly x.x cont false
    | 1 => d.rnOutSym c dly x.y cont false
    | 2 => d.rnOutTxf c dly cont
    | _ => d.rnOutSym c dly lit cont false

/-- The sources and destinations of MOV (R261). -/
def Dev.rnSource (d : Dev) (c source lin : Nat) : Nat :=
  match source with
  | 0 => (d.chan c).x
  | 1 => (d.chan c).y
  | 2 => 0
  | 3 => d.rstat c lin
  | n => d.chK c (n - 4)
def Dev.rnMove (d : Dev) (c dst v : Nat) : Dev :=
  d.modChan c fun x =>
    match dst with
    | 0 => { x with x := v }
    | 1 => { x with y := v }
    | 2 => { x with x := (x.x * 256 + v % 256) % 2 ^ 24 }
    | 3 => { x with x := (x.x + v) % 2 ^ 24 }
    | 4 => { x with x := (x.x + 2 ^ 24 - v % 2 ^ 24) % 2 ^ 24 }
    | 5 => { x with tcmp := v }
    | 6 => { x with y := x.y &&& v }
    | _ => { x with x := x.x &&& v }

/-- RN_JMP (R259). -/
def execRnJmp (ch : Fin 96) (dly : Fin 8) (addr : BitVec 8) (s : State) : Host.Outcome State Fault Refusal :=
  run (·.issue ch fun d => d.rnNext ch addr.toNat dly) s

/-- RN_JCOND (R259, R260). -/
def execRnJcond (ch : Fin 96) (dly : Fin 8) (cond : Fin 8) (ofs : BitVec 5) (lin : BitVec 4) (s : State) : Host.Outcome State Fault Refusal :=
  run (·.issue ch fun d => let d := d.sees ch lin.toNat; d.rnNext ch (if d.rnCond ch cond lin.toNat then wrapN 8 (d.chPc ch + ofs.toInt) else d.chPc ch + 1) dly) s

/-- RN_WAIT (R260): the first slot, or a later one of the same WAIT. -/
def execRnWait (ch : Fin 96) (dly : Fin 8) (mode : Fin 4) (ivb : Fin 8) (lin : BitVec 4) (s : State) : Host.Outcome State Fault Refusal :=
  run (·.issue ch fun d => let d := d.sees ch lin.toNat; d.rnWaitFor ch dly mode ((d.iv ch lin.toNat).testBit ivb)) s

/-- IN_RHR (R261). -/
def execInRhr (ch : Fin 96) (dly : Fin 8) (toY nb : Bool) (s : State) : Host.Outcome State Fault Refusal :=
  run (·.issue ch fun d => d.rnTake ch dly toY nb) s

/-- IN_REPORT (R174, R261): 0 in M485 and F422. -/
def execInReport (ch : Fin 96) (dly : Fin 8) (toY : Bool) (w : Fin 8) (s : State) : Host.Outcome State Fault Refusal :=
  run (·.rnPlain ch dly fun d => let (d, v) := d.inputRead 21 ch w; d.setXY ch toY v) s

/-- IN_IV (R261). -/
def execInIv (ch : Fin 96) (dly : Fin 8) (toY : Bool) (lin : BitVec 4) (s : State) : Host.Outcome State Fault Refusal :=
  run (·.rnPlain ch dly fun d => let d := d.sees ch lin.toNat; d.setXY ch toY (d.iv ch lin.toNat)) s

/-- IN_TIME (R251, R261). -/
def execInTime (ch : Fin 96) (dly : Fin 8) (toY : Bool) (s : State) : Host.Outcome State Fault Refusal :=
  run (·.rnPlain ch dly fun d => d.setXY ch toY (d.chTime ch)) s

/-- RN_OUT (R261). -/
def execRnOut (ch : Fin 96) (dly : Fin 8) (cont : Bool) (source : Fin 4) (lit : BitVec 5) (s : State) : Host.Outcome State Fault Refusal :=
  run (·.issue ch fun d => d.rnOutOf ch dly cont source lit.toNat) s

/-- RN_MOV (R261). -/
def execRnMov (ch : Fin 96) (dly : Fin 8) (dst source : Fin 8) (lin : BitVec 4) (s : State) : Host.Outcome State Fault Refusal :=
  run (·.rnPlain ch dly fun d => let d := d.sees ch lin.toNat; d.rnMove ch dst (d.rnSource ch source lin.toNat)) s

/-- RN_PUSH (R254, R261). -/
def execRnPush (ch : Fin 96) (dly : Fin 8) (last bad : Bool) (cnt : Fin 4) (fromY nb : Bool) (s : State) : Host.Outcome State Fault Refusal :=
  run (·.issue ch fun d => d.rnPushEnt ch dly last bad cnt (if fromY then (d.chan ch).y else (d.chan ch).x) nb) s

/-- RN_PULL (R257, R261). -/
def execRnPull (ch : Fin 96) (dly : Fin 8) (toY nb : Bool) (s : State) : Host.Outcome State Fault Refusal :=
  run (·.issue ch fun d => d.rnPullEnt ch dly toY nb) s

/-- SET_DRV (R248, R262): values above 2 name no state and change nothing. -/
def execSetDrv (ch : Fin 96) (dly : Fin 8) (v : BitVec 5) (s : State) : Host.Outcome State Fault Refusal :=
  run (·.rnPlain ch dly fun d => if v.toNat ≤ 2 then d.modChan ch fun x => { x with drv := v.toNat } else d) s

/-- SET_X (R262). -/
def execSetX (ch : Fin 96) (dly : Fin 8) (v : BitVec 5) (s : State) : Host.Outcome State Fault Refusal :=
  run (·.rnPlain ch dly fun d => d.setXY ch false v.toNat) s

/-- SET_Y (R262). -/
def execSetY (ch : Fin 96) (dly : Fin 8) (v : BitVec 5) (s : State) : Host.Outcome State Fault Refusal :=
  run (·.rnPlain ch dly fun d => d.setXY ch true v.toNat) s

/-- SET_LINE (R262). -/
def execSetLine (ch : Fin 96) (dly : Fin 8) (v : BitVec 5) (s : State) : Host.Outcome State Fault Refusal :=
  run (·.rnPlain ch dly fun d => d.setOb (K.CH_LINE_IDLE ch) (b2n (v.getLsbD 0) : Nat)) s

/-- SET RXCTL (R243, R246, R262): off, on, or a new hunt. A receiver that was off is enabled at T0 `now`, and takes its bit phase anew. -/
def Chan.rxctl (x : Chan) (v now : Nat) : Chan :=
  match v with
  | 0 => { x with rxOn := false }
  | 1 => if x.rxOn then x else { x with rxOn := true, idleFrom := now, rawAt := none }
  | 2 => { x with rhr := none, rawAt := none }
  | _ => x

/-- SET_RXCTL (R262). -/
def execSetRxctl (ch : Fin 96) (dly : Fin 8) (v : BitVec 5) (s : State) : Host.Outcome State Fault Refusal :=
  run (·.rnPlain ch dly fun d => d.modChan ch fun x => x.rxctl v.toNat d.now) s

/-- SET_TSARM (R250, R262). -/
def execSetTsarm (ch : Fin 96) (dly : Fin 8) (v : BitVec 5) (s : State) : Host.Outcome State Fault Refusal :=
  run (·.rnPlain ch dly fun d => d.modChan ch fun x => { x with armIn := x.armIn || v.getLsbD 0, armAt := if v.getLsbD 0 && !x.armIn then d.now else x.armAt, armOut := x.armOut || v.getLsbD 1 }) s

/-- SET_BITPH (R262). -/
def execSetBitph (ch : Fin 96) (dly : Fin 8) (_v : BitVec 5) (s : State) : Host.Outcome State Fault Refusal :=
  run (·.rnPlain ch dly fun d => d.modChan ch fun x => { x with bitAt := d.now, rawAt := none }) s

/-- SET_SC (R260, R262). -/
def execSetSc (ch : Fin 96) (dly : Fin 8) (v : BitVec 5) (s : State) : Host.Outcome State Fault Refusal :=
  run (·.rnPlain ch dly fun d => d.modChan ch fun x => { x with sc := d.chK ch (v.toNat % 4) % 256, scTx := v.getLsbD 2 }) s

/-- CTL_IRQ (R262): source RUNNEL_EVn. -/
def execCtlIrq (ch : Fin 96) (dly : Fin 8) (v : BitVec 5) (s : State) : Host.Outcome State Fault Refusal :=
  run (·.rnPlain ch dly fun d => d.raise (0x244 + 4 * ch + v.toNat % 4)) s

/-- CTL_SYNC (R265). -/
def execCtlSync (ch : Fin 96) (dly : Fin 8) (_v : BitVec 5) (s : State) : Host.Outcome State Fault Refusal :=
  run (·.issue ch fun d => d.rnSync ch dly) s

/-- CTL_DELAY (R262). -/
def execCtlDelay (ch : Fin 96) (dly : Fin 8) (v : BitVec 5) (s : State) : Host.Outcome State Fault Refusal :=
  run (·.issue ch fun d => d.rnNext ch (d.chPc ch + 1) ((v.toNat + 1) * 64 + dly)) s

/-- CTL_SAFE (R241, R262). -/
def execCtlSafe (ch : Fin 96) (dly : Fin 8) (_v : BitVec 5) (s : State) : Host.Outcome State Fault Refusal :=
  run (·.issue ch fun d => (d.rnNext ch (d.chPc ch + 1) dly).flipLand ch) s

/-- CTL_HALT (R262). -/
def execCtlHalt (ch : Fin 96) (_dly : Fin 8) (v : BitVec 5) (s : State) : Host.Outcome State Fault Refusal :=
  run (·.issue ch fun d => (d.haltChan ch).iff (v.getLsbD 0) fun d => d.raise (0x244 + 4 * ch)) s

/-- RN_ILLEGAL (R263). -/
def execRnIllegal (ch : Fin 96) (poisoned : Bool) (s : State) : Host.Outcome State Fault Refusal :=
  run (·.issue ch fun d => d.faultChan ch poisoned) s

/-- RX_SYMBOL_COMPLETE (R246, R249): the symbol's start edge, and the samples of each of its bits, three a bit. -/
def execRxSymbolComplete (ch : Fin 96) (samples : Sampled) (s : State) : Host.Outcome State Fault Refusal :=
  run (·.rxSymbol ch samples) s

/-- The word at which a channel stands, in the bank in use of its window, and the command that it spells there (R236, R258, R263). -/
def Dev.rnWordAddr (d : Dev) (c : Nat) : Nat := runAddr (c / 8) (d.obn (K.CH_WIN c)) (d.chan c).bank (d.chPc c)
def Dev.rnFetched (d : Dev) (ch : Fin 96) (lin : BitVec 4) : Instr :=
  if d.poisoned (d.rnWordAddr ch) then .rnIllegal ch true else decodeRunnel ch lin (BitVec.ofNat 14 (d.ld (d.rnWordAddr ch)))

/-- TX_SYMBOL_END (R247). -/
def execTxSymbolEnd (ch : Fin 96) (s : State) : Host.Outcome State Fault Refusal := run (·.txSymbolEnd ch) s

/-- WIN_PROG (R238): the whole image. -/
def execWinProg (r : Src) (e : Fin 12) (w : Fin 4) (image : List Byte) (s : State) : Host.Outcome State Fault Refusal :=
  run (·.putReq r (K.WIN_PROG (winOf e w)) image) s

/-- The addresses of word `w` of an engine, and of a channel (R267). -/
def engWord (e w : Nat) : Nat := 0x3A0000 + 0x1000 * e + w
def chanWord (c w : Nat) : Nat := engWord (c / 8) (0x100 + 32 * (c % 8) + w)

/-- WIN_SWAP_WAIT (R239): the object, or SWAP_MODE with SWAP_WIN of the engine. -/
def execWinSwapWait (by_ : By) (e : Fin 12) (w : Fin 4) (s : State) : Host.Outcome State Fault Refusal :=
  run (fun d => match by_ with
  | .dict r => d.writeReq r (K.WIN_SWAP (winOf e w)) [0]
  | .core c => d.coreStoreAt c (engWord e 9) (0 * 4 + w)) s

/-- WIN_SWAP_NOW (R239): the object, or SWAP_MODE with SWAP_WIN of the engine. -/
def execWinSwapNow (by_ : By) (e : Fin 12) (w : Fin 4) (s : State) : Host.Outcome State Fault Refusal :=
  run (fun d => match by_ with
  | .dict r => d.writeReq r (K.WIN_SWAP (winOf e w)) [1]
  | .core c => d.coreStoreAt c (engWord e 9) (1 * 4 + w)) s

/-- WIN_SWAP_FORCE (R239): the object, or SWAP_MODE with SWAP_WIN of the engine. -/
def execWinSwapForce (by_ : By) (e : Fin 12) (w : Fin 4) (s : State) : Host.Outcome State Fault Refusal :=
  run (fun d => match by_ with
  | .dict r => d.writeReq r (K.WIN_SWAP (winOf e w)) [2]
  | .core c => d.coreStoreAt c (engWord e 9) (2 * 4 + w)) s

/-- WIN_SWAP_CANCEL (R239): the object, or SWAP_MODE with SWAP_WIN of the engine. -/
def execWinSwapCancel (by_ : By) (e : Fin 12) (w : Fin 4) (s : State) : Host.Outcome State Fault Refusal :=
  run (fun d => match by_ with
  | .dict r => d.writeReq r (K.WIN_SWAP (winOf e w)) [3]
  | .core c => d.coreStoreAt c (engWord e 9) (3 * 4 + w)) s

/-- CHANNEL_FLIP (R241). -/
def execChannelFlip (ch : Fin 96) (s : State) : Host.Outcome State Fault Refusal :=
  run (fun d => if d.running ch then d.flipLand ch else d.flipIdle ch) s

/-- ENG_START (R264). -/
def execEngStart (by_ : By) (e : Fin 12) (mask : Byte) (s : State) : Host.Outcome State Fault Refusal :=
  run (fun d => match by_ with
  | .dict r => d.writeReq r (K.ENG_START e) [mask.toNat]
  | .core c => d.coreStoreAt c (engWord e 0) (mask.toNat)) s

/-- ENG_BITSYNC (R264). -/
def execEngBitsync (by_ : By) (e : Fin 12) (mask : Byte) (s : State) : Host.Outcome State Fault Refusal :=
  run (fun d => match by_ with
  | .dict r => d.writeReq r (K.ENG_BITSYNC e) [mask.toNat]
  | .core c => d.coreStoreAt c (engWord e 1) (mask.toNat)) s

/-- ARM_ACTION_ARM (R264, R268). -/
def execArmActionArm (by_ : By) (e : Fin 12) (s : State) : Host.Outcome State Fault Refusal :=
  run (fun d => match by_ with
  | .dict r => d.writeReq r (K.ENG_ARM_CMD e) [1]
  | .core c => d.coreStoreAt c (engWord e 4) (1)) s

/-- ARM_ACTION_CANCEL (R268). -/
def execArmActionCancel (by_ : By) (e : Fin 12) (s : State) : Host.Outcome State Fault Refusal :=
  run (fun d => match by_ with
  | .dict r => d.writeReq r (K.ENG_ARM_CMD e) [2]
  | .core c => d.coreStoreAt c (engWord e 4) (2)) s

/-- ARM_ACTION_LAND (R264). -/
def execArmActionLand (e : Fin 12) (s : State) : Host.Outcome State Fault Refusal := run (·.armLand e) s

/-- A channel has been blocked for 10 ms (R266). -/
def Dev.stallEnds (d : Dev) (c : Nat) : Dev :=
  if d.wdogCounts c then (d.upTo ((d.chan c).blockedAt + 10000000)).recoverChan c else d

/-- STALL_WATCHDOG (R266). -/
def execStallWatchdog (ch : Fin 96) (s : State) : Host.Outcome State Fault Refusal := run (·.stallEnds ch) s

/-- CH_START (R269). -/
def execChStart (by_ : By) (ch : Fin 96) (s : State) : Host.Outcome State Fault Refusal :=
  run (fun d => match by_ with
  | .dict r => d.writeReq r (K.CH_CMD ch) [1]
  | .core c => d.coreStoreAt c (chanWord ch 2) (1)) s

/-- CH_HALT (R269). -/
def execChHalt (by_ : By) (ch : Fin 96) (s : State) : Host.Outcome State Fault Refusal :=
  run (fun d => match by_ with
  | .dict r => d.writeReq r (K.CH_CMD ch) [2]
  | .core c => d.coreStoreAt c (chanWord ch 2) (2)) s

/-- CH_RESTART (R269). -/
def execChRestart (by_ : By) (ch : Fin 96) (s : State) : Host.Outcome State Fault Refusal :=
  run (fun d => match by_ with
  | .dict r => d.writeReq r (K.CH_CMD ch) [3]
  | .core c => d.coreStoreAt c (chanWord ch 2) (3)) s

/-- RX_POP (R269). -/
def execRxPop (core : Fin 20) (ch : Fin 96) (s : State) : Host.Outcome State Fault Refusal := run (·.coreLoadAt core (chanWord ch 16)) s

/-- TX_PUSH (R256). -/
def execTxPush (core : Fin 20) (ch : Fin 96) (v : Word) (s : State) : Host.Outcome State Fault Refusal :=
  run (·.coreStoreAt core (chanWord ch 18) v.toNat) s

/-- CH_FLAGS_CLEAR (R269). -/
def execChFlagsClear (by_ : By) (ch : Fin 96) (v : Word) (s : State) : Host.Outcome State Fault Refusal :=
  run (fun d => match by_ with
  | .dict r => d.writeReq r (K.CH_FLAGS ch) [v.toNat]
  | .core c => d.coreStoreAt c (chanWord ch 1) (v.toNat)) s

/-- RUN_CNT_CLEAR (R271). -/
def execRunCntClear (r : Src) (ch : Fin 96) (v : Word) (s : State) : Host.Outcome State Fault Refusal :=
  run (·.writeReq r (K.CH_RUN_CNT_CLEAR ch) [v.toNat]) s

end Sys2Proof.Machine
end

