-- ==== Sys2Proof/Machine/CtxCmds.lean ====
section
/-! DEFINITION. Commands of contexts and personalities (spec 12, R323 to R341). -/
namespace Sys2Proof.Machine

/-- CTX_BIND (R323): CTX_CMD 1. -/
def execCtxBind (r : Src) (c : Fin 128) (s : State) : Host.Outcome State Fault Refusal := run (·.writeReq r (K.CTX_CMD c) [1]) s

/-- CTX_START (R323): CTX_CMD 2. -/
def execCtxStart (r : Src) (c : Fin 128) (s : State) : Host.Outcome State Fault Refusal := run (·.writeReq r (K.CTX_CMD c) [2]) s

/-- CTX_STOP (R323): CTX_CMD 3. -/
def execCtxStop (r : Src) (c : Fin 128) (s : State) : Host.Outcome State Fault Refusal := run (·.writeReq r (K.CTX_CMD c) [3]) s

/-- CTX_UNBIND (R323): CTX_CMD 4. -/
def execCtxUnbind (r : Src) (c : Fin 128) (s : State) : Host.Outcome State Fault Refusal := run (·.writeReq r (K.CTX_CMD c) [4]) s

/-- CTX_RESTART (R323): CTX_CMD 5. -/
def execCtxRestart (r : Src) (c : Fin 128) (s : State) : Host.Outcome State Fault Refusal := run (·.writeReq r (K.CTX_CMD c) [5]) s

/-- CTX_RESTORE_DONE (R332). -/
def execCtxRestoreDone (c : Fin 128) (s : State) : Host.Outcome State Fault Refusal := run (·.ctxRestored c) s

/-- CONTEXT_BOUNDARY (R328). -/
def execContextBoundary (c : Fin 128) (s : State) : Host.Outcome State Fault Refusal := run (·.ctxBoundary c) s

/-- CYCLE_POINT (R328). -/
def execCyclePoint (c : Fin 128) (j : Fin 8) (s : State) : Host.Outcome State Fault Refusal := run (·.ctxPoint c j) s

/-- The address of a control word of a context (R331). -/
def ctxWordAt (c w : Nat) : Nat := 0x303000 + 16 * c + w

/-- CTX_DONE (R329): a write of DONE. -/
def execCtxDone (agent : Fin 21) (c : Fin 128) (s : State) : Host.Outcome State Fault Refusal := run (·.agentStore agent (ctxWordAt c 3) 1) s

/-- DEADLINE_MISS (R329). -/
def execDeadlineMiss (c : Fin 128) (s : State) : Host.Outcome State Fault Refusal := run (·.deadlineMiss c) s

/-- CP_PENDING_CLEAR (R331). -/
def execCpPendingClear (agent : Fin 21) (c : Fin 128) (v : Word) (s : State) : Host.Outcome State Fault Refusal :=
  run (·.agentStore agent (ctxWordAt c 2) v.toNat) s

/-- CKPT_REQ (R332). -/
def execCkptReq (agent : Fin 21) (c : Fin 128) (v : Word) (s : State) : Host.Outcome State Fault Refusal :=
  run (·.agentStore agent (ctxWordAt c 4) v.toNat) s

/-- CKPT_DONE (R332). -/
def execCkptDone (c : Fin 128) (s : State) : Host.Outcome State Fault Refusal := run (·.ckptDone c) s

/-- CTX_MIGRATE (R334). -/
def execCtxMigrate (r : Src) (c : Fin 128) (v : Word) (s : State) : Host.Outcome State Fault Refusal :=
  run (·.writeReq r (K.CTX_MIGRATE c) [v.toNat]) s

/-- MIGRATION_LAND (R335). -/
def execMigrationLand (c : Fin 128) (s : State) : Host.Outcome State Fault Refusal := run (·.migLand c) s

/-- MIGRATION_ABORT (R335). -/
def execMigrationAbort (c : Fin 128) (s : State) : Host.Outcome State Fault Refusal := run (·.migLate c) s

/-- CTX_PERS_SWAP (R339). -/
def execCtxPersSwap (r : Src) (c : Fin 128) (v : Word) (s : State) : Host.Outcome State Fault Refusal :=
  run (·.writeReq r (K.CTX_PERS_SWAP c) [v.toNat]) s

/-- PERS_SWAP_CANCEL (R339). -/
def execPersSwapCancel (c : Fin 128) (s : State) : Host.Outcome State Fault Refusal := run (·.swapCancel c) s

/-- PERS_DELETE (R341). -/
def execPersDelete (r : Src) (j : Fin 256) (v : Word) (s : State) : Host.Outcome State Fault Refusal :=
  run (·.writeReq r (K.PERS_DELETE j) [v.toNat]) s

/-- CTX_CNT_CLEAR (R340). -/
def execCtxCntClear (r : Src) (c : Fin 128) (v : Word) (s : State) : Host.Outcome State Fault Refusal :=
  run (·.writeReq r (K.CTX_CNT_CLEAR c) [v.toNat]) s

end Sys2Proof.Machine
end

