-- ==== Sys2Proof/Machine/SwitchCmds.lean ====
section
/-! DEFINITION. Commands of the switch and of the Cellar (spec 13, R343 to R371; 14, R374 to R407). -/
namespace Sys2Proof.Machine

/-- PARSER_LOOKUP (R349 to R352). -/
def execParserLookup (inp : Fin 101) (s : State) : Host.Outcome State Fault Refusal := run (·.parserStep inp) s

/-- CELL_ARRIVE (R360). -/
def execCellArrive (out inp : Fin 48) (cnt : BitVec 8) (s : State) : Host.Outcome State Fault Refusal := run (·.cellArrive out inp cnt.toNat) s

/-- An output starts a frame: a MAC, a priority-bus controller, or a runnel channel that no segment uses (R218, R256, R354, R443). -/
def Dev.outputStart (d : Dev) (o : Nat) : Dev :=
  if d.isMac o then d.macStart o
  else if d.portMode o = 3 then d.busRefill o
  else if (d.segsOn o).isEmpty then d.runnelStart o
  else d

/-- It has handed the frame to its line (R343). A controller's buffer ends with BUS_ATTEMPT_END. -/
def Dev.outputEnd (d : Dev) (o : Nat) : Dev := if d.isMac o then d.macEnd o else if 4 ≤ d.portMode o then d.runnelEnd o else d

/-- OUTPUT_FRAME_START (R354). -/
def execOutputFrameStart (o : Fin 100) (s : State) : Host.Outcome State Fault Refusal := run (·.outputStart o) s

/-- OUTPUT_FRAME_END (R343, R367). -/
def execOutputFrameEnd (o : Fin 100) (s : State) : Host.Outcome State Fault Refusal := run (·.outputEnd o) s

/-- OUTPUT_UNDERRUN (R355): MACs cut through, other outputs start whole frames. -/
def execOutputUnderrun (o : Fin 100) (s : State) : Host.Outcome State Fault Refusal := run (fun d => if d.isMac o then d.macUnderrun o else d) s

/-- RING_RX_DELIVER (R366). -/
def execRingRxDeliver (ep : Fin 21) (s : State) : Host.Outcome State Fault Refusal := run (·.ringDeliver ep) s

/-- RING_TX_SEND (R366). -/
def execRingTxSend (ep : Fin 21) (s : State) : Host.Outcome State Fault Refusal := run (·.ringSend ep) s

/-- METER_CLEAR (R369). -/
def execMeterClear (r : Src) (m : Fin 2048) (v : Word) (s : State) : Host.Outcome State Fault Refusal :=
  run (·.writeReq r (K.METER_CLEAR m) [v.toNat]) s

/-- Q_CNT_CLEAR (R370). -/
def execQCntClear (r : Src) (q : Fin 1056) (v : Word) (s : State) : Host.Outcome State Fault Refusal :=
  run (·.writeReq r (K.Q_CNT_CLEAR q) [v.toNat]) s

/-- PEAK_CLEAR (R370). -/
def execPeakClear (r : Src) (q : Fin 1056) (v : Word) (s : State) : Host.Outcome State Fault Refusal := run (·.writeReq r (K.Q_PEAK q) [v.toNat]) s

/-- FREE_MIN_RESET (R371). -/
def execFreeMinReset (r : Src) (v : Word) (s : State) : Host.Outcome State Fault Refusal := run (·.writeReq r (K.FREE_MIN) [v.toNat]) s

/-- SCATTER_COMMIT (R387). -/
def execScatterCommit (s : State) : Host.Outcome State Fault Refusal := run (·.scatterCommit) s

/-- SWEEP_ENTRY (R389). -/
def execSweepEntry (s : State) : Host.Outcome State Fault Refusal := run (·.sweepStep) s

/-- CONTEST_CLEAR (R383). -/
def execContestClear (r : Src) (reg : Fin 1024) (v : Word) (s : State) : Host.Outcome State Fault Refusal :=
  run (·.writeReq r (K.REG_CONTEST_CLEAR reg) [v.toNat]) s

/-- REG_CLEAR (R396). -/
def execRegClear (r : Src) (reg : Fin 1024) (v : Word) (s : State) : Host.Outcome State Fault Refusal :=
  run (·.writeReq r (K.REG_CLEAR reg) [v.toNat]) s

/-- REG_CLEAR_DONE (R396). -/
def execRegClearDone (reg : Fin 1024) (s : State) : Host.Outcome State Fault Refusal := run (·.regClearEnd reg) s

/-- REGION_WRITE (R374): REG_BASE, REG_SIZE or REG_OWNER. -/
def execRegionWrite (r : Src) (reg : Fin 1024) (el : Fin 3) (v : Word) (s : State) : Host.Outcome State Fault Refusal :=
  run (·.writeReq r (K.REG_BASE reg + el) [v.toNat]) s

/-- TEMPLATE_FIRE (R400). -/
def execTemplateFire (n : Fin 4096) (s : State) : Host.Outcome State Fault Refusal := run (·.fireTemplate n) s

/-- REG_CNT_CLEAR (R406). -/
def execRegCntClear (r : Src) (reg : Fin 1024) (v : Word) (s : State) : Host.Outcome State Fault Refusal :=
  run (·.writeReq r (K.REG_CNT_CLEAR reg) [v.toNat]) s

/-- CELLAR_CNT_CLEAR (R407). -/
def execCellarCntClear (r : Src) (v : Word) (s : State) : Host.Outcome State Fault Refusal := run (·.writeReq r (K.CELLAR_CNT_CLEAR) [v.toNat]) s

end Sys2Proof.Machine
end

