-- ==== Sys2Proof/Machine/TimeCmds.lean ====
section
/-! DEFINITION. Commands of time bases, PPS and Rillnet segments (spec 15, R411 to R428, R563; 16, R440 to R454). -/
namespace Sys2Proof.Machine

/-- TB_INCR_WRITE (R411). -/
def execTbIncrWrite (r : Src) (n : Fin 8) (v : BitVec 48) (s : State) : Host.Outcome State Fault Refusal :=
  run (·.writeReq r (K.TB_INCR n) (hiLo v)) s

/-- TB_OFFSET_WRITE (R412). -/
def execTbOffsetWrite (r : Src) (n : Fin 8) (v : BitVec 48) (s : State) : Host.Outcome State Fault Refusal :=
  run (·.writeReq r (K.TB_OFFSET n) (hiLo v)) s

/-- TB_SET_WRITE (R413). -/
def execTbSetWrite (r : Src) (n : Fin 8) (w0 w1 w2 w3 : Word) (s : State) : Host.Outcome State Fault Refusal :=
  run (·.writeReq r (K.TB_SET n) [w0.toNat, w1.toNat, w2.toNat, w3.toNat]) s

/-- TB_SYNCED_WRITE (R418). -/
def execTbSyncedWrite (r : Src) (n : Fin 8) (v : Word) (s : State) : Host.Outcome State Fault Refusal :=
  run (·.writeReq r (K.TB_SYNCED n) [v.toNat]) s

/-- SYNC_LOSS_TIMEOUT (R418). -/
def execSyncLossTimeout (n : Fin 8) (s : State) : Host.Outcome State Fault Refusal := run (·.syncTimeout n) s

/-- TB_RESERVE_WRITE (R417). -/
def execTbReserveWrite (r : Src) (n : Fin 8) (v : Word) (s : State) : Host.Outcome State Fault Refusal :=
  run (·.writeReq r (K.TB_RESERVE n) [v.toNat]) s

/-- TB_SWITCH_RESERVE (R419). -/
def execTbSwitchReserve (r : Src) (n : Fin 8) (s : State) : Host.Outcome State Fault Refusal := run (·.writeReq r (K.TB_SWITCH n) [1]) s

/-- TB_SWITCH_OWN (R419). -/
def execTbSwitchOwn (r : Src) (n : Fin 8) (s : State) : Host.Outcome State Fault Refusal := run (·.writeReq r (K.TB_SWITCH n) [2]) s

/-- REVERT_HOLD_END (R419). -/
def execRevertHoldEnd (n : Fin 8) (s : State) : Host.Outcome State Fault Refusal := run (·.revertHold n) s

/-- CONVERGED_RESERVE (R420). -/
def execConvergedReserve (n : Fin 8) (s : State) : Host.Outcome State Fault Refusal := run (·.onReserve n) s

/-- CONVERGED_OWN (R420). -/
def execConvergedOwn (n : Fin 8) (s : State) : Host.Outcome State Fault Refusal := run (·.onOwn n) s

/-- The object of a setting that can name a disciplining agent (R563). -/
def discKey : Discipline → Nat
  | .asEnable => K.AS_ENABLE
  | .asTb => K.AS_TB
  | .ppsInDisc i => K.PPS_IN_DISC i
  | .tbDiscCtx n => K.TB_DISC_CTX n

/-- DISCIPLINE_WRITE (R563). -/
def execDisciplineWrite (r : Src) (which : Discipline) (v : Word) (s : State) : Host.Outcome State Fault Refusal :=
  run (·.writeReq r (discKey which) [v.toNat]) s

/-- TILE_ALIGN_CHECK (R422). -/
def execTileAlignCheck (t : Fin 4) (ps : Int) (crcErrs : Nat) (s : State) : Host.Outcome State Fault Refusal :=
  run (fun d => (d.tileAlign t ps).linkErrors t crcErrs) s

/-- PPS_IN_EDGE (R423). -/
def execPpsInEdge (pps : Fin 4) (rising : Bool) (phase : Fin 8) (s : State) : Host.Outcome State Fault Refusal := run (·.ppsEdge pps rising phase) s

/-- PPS_OUT_EDGE (R424). -/
def execPpsOutEdge (pps : Fin 4) (s : State) : Host.Outcome State Fault Refusal := run (·.ppsOut pps) s

/-- PPS_POP (R427): a read of word 0 of a PPS input. -/
def execPpsPop (agent : Fin 21) (pps : Fin 4) (s : State) : Host.Outcome State Fault Refusal := run (·.agentLoad agent (0x304080 + 16 * pps)) s

/-- TB_CNT_CLEAR (R428). -/
def execTbCntClear (r : Src) (n : Fin 8) (v : Word) (s : State) : Host.Outcome State Fault Refusal :=
  run (·.writeReq r (K.TB_CNT_CLEAR n) [v.toNat]) s

/-- SEG_START (R449): SEG_CMD 1. -/
def execSegStart (r : Src) (s_ : Fin 96) (s : State) : Host.Outcome State Fault Refusal := run (·.writeReq r (K.SEG_CMD s_) [1]) s

/-- SEG_STOP (R447): SEG_CMD 2. -/
def execSegStop (r : Src) (s_ : Fin 96) (s : State) : Host.Outcome State Fault Refusal := run (·.writeReq r (K.SEG_CMD s_) [2]) s

/-- LISTEN_TIMEOUT (R447, R448). -/
def execListenTimeout (s_ : Fin 96) (s : State) : Host.Outcome State Fault Refusal := run (·.listenExpires s_) s

/-- BACKOFF_END (R448). -/
def execBackoffEnd (s_ : Fin 96) (s : State) : Host.Outcome State Fault Refusal := run (·.backoffEnds s_) s

/-- SLOT_TEMPLATE_FIRE (R442). -/
def execSlotTemplateFire (s_ : Fin 96) (slot : Fin 256) (s : State) : Host.Outcome State Fault Refusal := run (·.slotFire s_ slot) s

/-- SLOT_SEND (R443, R444). -/
def execSlotSend (s_ : Fin 96) (slot : Fin 256) (s : State) : Host.Outcome State Fault Refusal := run (·.slotSend s_ slot) s

/-- SLOT_END (R440, R441). -/
def execSlotEnd (s_ : Fin 96) (slot : Fin 256) (atStart atEnd : Bool) (starts : List Int) (frame : List Byte) (s : State) : Host.Outcome State Fault Refusal :=
  run (·.slotEnds s_ slot atStart atEnd starts frame) s

/-- CYCLE_END (R445 to R447). -/
def execCycleEnd (s_ : Fin 96) (s : State) : Host.Outcome State Fault Refusal := run (·.cycleEnds s_) s

/-- SLOT_MAP_WRITE (R449): the whole map. -/
def execSlotMapWrite (r : Src) (s_ : Fin 96) (image : List Byte) (s : State) : Host.Outcome State Fault Refusal :=
  run (·.putReq r (K.SEG_SLOT_MAP s_) image) s

/-- SEG_CNT_CLEAR (R454). -/
def execSegCntClear (r : Src) (s_ : Fin 96) (v : Word) (s : State) : Host.Outcome State Fault Refusal :=
  run (·.writeReq r (K.SEG_CNT_CLEAR s_) [v.toNat]) s

/-- LISTEN_FRAME_RECEIVED (R448): an empty frame is a start edge alone. -/
def execListenFrameReceived (s_ : Fin 96) (ago : Nat) (frame : List Byte) (s : State) : Host.Outcome State Fault Refusal :=
  run (·.listenFrame s_ ago frame) s

end Sys2Proof.Machine
end

