-- ==== Sys2Proof/Machine/MotionCmds.lean ====
section
/-! DEFINITION. Commands of the motion group servo and its axes (spec 17, R458 to R489). -/
namespace Sys2Proof.Machine

/-- GROUP_UPDATE (R458): the sample whose instant the base reaches, with the ns of work that it has time for. -/
def execGroupUpdate (g : Fin 4) (reached : Nat) (s : State) : Host.Outcome State Fault Refusal := run (·.groupUpdate g reached) s

/-- COMMAND_FRAME (R467). -/
def execCommandFrame (s : State) : Host.Outcome State Fault Refusal := run (·.commandFrame) s

/-- AX_CMD (R467): one record of 24 bytes. -/
def execAxCmd (r : Src) (a : Fin 4096) (rec_ : List Byte) (s : State) : Host.Outcome State Fault Refusal := run (·.putReq r (K.AX_CMD a) rec_) s

/-- JOG_TIMEOUT (R472). -/
def execJogTimeout (a : Fin 4096) (s : State) : Host.Outcome State Fault Refusal := run (·.jogTimeout a) s

/-- The words of a value for an object of area A, one or two by its type (R488). -/
def axWords (key : Nat) (v : BitVec 48) : List Nat :=
  match descOf key with
  | some x => if x.ty.words = 2 then hiLo v else [v.toNat % 2 ^ 24]
  | none => [v.toNat % 2 ^ 24]

/-- AXIS_PARAM_WRITE (R488): the parameters in the order of the object table. -/
def execAxisParamWrite (r : Src) (a : Fin 4096) (el : Fin 27) (v : BitVec 48) (s : State) : Host.Outcome State Fault Refusal :=
  run (·.writeReq r (K.AX_USE a + el) (axWords (K.AX_USE a + el) v)) s

/-- AX_USE_WRITE (R488). -/
def execAxUseWrite (r : Src) (a : Fin 4096) (v : Word) (s : State) : Host.Outcome State Fault Refusal := run (·.writeReq r (K.AX_USE a) [v.toNat]) s

/-- M_VEL_WRITE (R463). -/
def execMVelWrite (r : Src) (m : Fin 16) (v : BitVec 48) (s : State) : Host.Outcome State Fault Refusal := run (·.writeReq r (K.M_VEL m) (hiLo v)) s

/-- AX_CNT_CLEAR (R489). -/
def execAxCntClear (r : Src) (a : Fin 4096) (v : Word) (s : State) : Host.Outcome State Fault Refusal :=
  run (·.writeReq r (K.AX_CNT_CLEAR a) [v.toNat]) s

end Sys2Proof.Machine
end

