-- ==== Sys2Proof/Machine/Bells.lean ====
section
/-! DEFINITION. Commands of mailboxes, doorbells, interrupt units, the gather controller, the log, firmware and the Sump
(spec 18, R491 to R514; 19, R529 to R547). -/
namespace Sys2Proof.Machine

/-- A message is written into a send window, its body first, and posted with word 0 (R493). -/
def Dev.mailPost (d : Dev) (src dst m : Nat) (body : List Nat) (hdr : Nat) : Dev :=
  let l := (body.zip (List.range' 1 body.length)).map fun x => (x.2, x.1)
  if src = 20 then
    (l ++ [(0, hdr)]).foldl (fun (d : Dev) (x : Nat × Nat) => d.hostPut .bar0 (0x540 + 4 * x.1) x.2) (d.hostPut .bar0 0x500 (dst * 256 + m))
  else (l ++ [(0, hdr)]).foldl (fun (d : Dev) (x : Nat × Nat) => d.coreStoreAt src (0x010100 + 128 * dst + 16 * m + x.1) x.2) d

/-- MAILBOX_POST (R493, R494, R498): the body words from word 1, then the header. -/
def execMailboxPost (src : Fin 21) (dst : Fin 21) (mbx : Fin 8) (body : List Word) (hdr : Word) (s : State) : Host.Outcome State Fault Refusal :=
  wants (decide (body.length ≤ 15)) "MAILBOX_POST body" (·.mailPost src dst mbx (body.map (·.toNat)) hdr.toNat) s

/-- A read of the last word of a message by its receiver (R497). -/
def Dev.mailAck (d : Dev) (e m : Nat) : Dev :=
  let n := bits (d.ld (mailAddr e m 0)) 18 15
  if e = 20 then d.hostRead .bar0 (0x200 + 64 * m + 4 * n) 1 else d.coreLoadAt e (0x010000 + 16 * m + n)

/-- A write of a mailbox's status word by its receiver (R496). -/
def Dev.mailStatus (d : Dev) (e m v : Nat) : Dev :=
  if e = 20 then d.hostPut .bar0 (0x400 + 4 * m) v else d.coreStoreAt e (0x010080 + m) v

/-- A read of an endpoint's own doorbell (R500). -/
def Dev.bellRead (d : Dev) (e : Nat) : Dev := if e = 20 then d.hostRead .bar0 0x50 1 else d.coreLoadAt e (0x010C00 + e)

/-- MAILBOX_ACK (R497). -/
def execMailboxAck (ep : Fin 21) (mbx : Fin 8) (s : State) : Host.Outcome State Fault Refusal := run (·.mailAck ep mbx) s

/-- MAILBOX_RELEASE (R497): a write of the status word. -/
def execMailboxRelease (ep : Fin 21) (mbx : Fin 8) (v : Word) (s : State) : Host.Outcome State Fault Refusal := run (·.mailStatus ep mbx v.toNat) s

/-- COLLIDE_CLEAR (R494): a write of the status word. -/
def execCollideClear (ep : Fin 21) (mbx : Fin 8) (v : Word) (s : State) : Host.Outcome State Fault Refusal := run (·.mailStatus ep mbx v.toNat) s

/-- DOORBELL_RING (R500); a core rings by a store, after every far write that it made before (R276). -/
def execDoorbellRing (bell : Bell) (v : Word) (s : State) : Host.Outcome State Fault Refusal :=
  match bell.core with
  | none => run (·.ring bell.ep v.toNat) s
  | some c => run (·.coreStoreAt c (0x010C00 + bell.ep) v.toNat) s

/-- DOORBELL_READ (R500). -/
def execDoorbellRead (ep : Fin 21) (s : State) : Host.Outcome State Fault Refusal := run (·.bellRead ep) s

/-- HOST_RESET (R491). -/
def execHostReset (v : Word) (s : State) : Host.Outcome State Fault Refusal := run (·.hostPut .bar0 0x580 v.toNat) s

/-- PEND_SET (R505). -/
def execPendSet (core : Fin 20) (w : Fin 3) (v : Word) (s : State) : Host.Outcome State Fault Refusal :=
  run (·.coreStoreAt core (0x11008 + w) v.toNat) s

/-- PEND_CLR (R505). -/
def execPendClr (core : Fin 20) (w : Fin 3) (v : Word) (s : State) : Host.Outcome State Fault Refusal :=
  run (·.coreStoreAt core (0x1100C + w) v.toNat) s

/-- MASK_SET (R505). -/
def execMaskSet (core : Fin 20) (w : Fin 3) (v : Word) (s : State) : Host.Outcome State Fault Refusal :=
  run (·.coreStoreAt core (0x11014 + w) v.toNat) s

/-- MASK_CLR (R505). -/
def execMaskClr (core : Fin 20) (w : Fin 3) (v : Word) (s : State) : Host.Outcome State Fault Refusal :=
  run (·.coreStoreAt core (0x11018 + w) v.toNat) s

/-- The hold-off of a core's moderation ends (R508). -/
def Dev.imodEnd (d : Dev) (c : Nat) : Dev :=
  match (d.core c).imodEnds with
  | some t => (d.upTo t).modCore c fun x => { x with imodEnds := none }
  | none => d

/-- IMOD_EXPIRY (R508). -/
def execImodExpiry (core : Fin 20) (s : State) : Host.Outcome State Fault Refusal := run (·.imodEnd core) s

/-- GATHER_EDGE (R509, R511); a number that has no edge of its own is never raised. -/
def execGatherEdge (source : Fin 2048) (s : State) : Host.Outcome State Fault Refusal := run (fun d => if gatherEdged source then d.raise source else d) s

/-- GC_EN_WRITE (R511). -/
def execGcEnWrite (agent : Fin 21) (w : Fin 86) (v : Word) (s : State) : Host.Outcome State Fault Refusal :=
  run (·.agentStore agent (0x306800 + w) v.toNat) s

/-- GC_PEND_CLR (R510). -/
def execGcPendClr (w : Fin 86) (v : Word) (s : State) : Host.Outcome State Fault Refusal :=
  run (fun d => if d.domOn 2 then d.gcClear (gatherSet w v.toNat) else d) s

/-- GC_PEND_SET (R510). -/
def execGcPendSet (w : Fin 86) (v : Word) (s : State) : Host.Outcome State Fault Refusal :=
  run (fun d => d.each (gatherSet w v.toNat) fun d s => d.raise s) s

/-- MSIX_UNMASK (R511). -/
def execMsixUnmask (vec : Fin 32) (s : State) : Host.Outcome State Fault Refusal := run (fun d => if d.host.linkUp then d.unmaskVec vec else d) s

/-- LOG_POST (R514). -/
def execLogPost (core : Fin 20) (v : Word) (s : State) : Host.Outcome State Fault Refusal := run (·.coreStoreAt core 0x307000 v.toNat) s

/-- A number in `n` hex digits, and in decimal, as text. -/
def hexText : Nat → Nat → List Char
  | 0, _ => []
  | n + 1, v => hexText n (v / 16) ++ ["0123456789ABCDEF".toList.getD (v % 16) '0']
def decText : Nat → Nat → List Char
  | 0, _ => []
  | n + 1, v => (if v < 10 then [] else decText n (v / 10)) ++ ["0123456789".toList.getD (v % 10) '0']

/-- The console's line for an entry, and before it the count of the lines dropped, on a line of its own (R547; log entry 10). -/
def consoleText (e : LogEntry) (lost : Nat) : List Byte :=
  ((if lost = 0 then [] else "LOST ".toList ++ decText 16 lost ++ ['\r', '\n']) ++
    hexText 6 e.seq ++ [' '] ++ decText 16 e.t0us ++ [' '] ++ hexText 4 e.inst ++ " E:".toList ++ hexText 4 e.code ++ ['\r', '\n']).map fun c => BitVec.ofNat 8 c.toNat

/-- The console sends the line of its oldest entry; CON_TX rests while the spine is off (R545, R547). -/
def Dev.consoleSend (d : Dev) : Dev :=
  if !d.domOn 2 then d else
  match d.sump.consoleQueue with
  | [] => d
  | e :: l => (d.modSump fun s => { s with consoleQueue := l, consoleLost := 0 }).emit (.uartLine (consoleText e d.sump.consoleLost))

/-- CONSOLE_LINE (R547). -/
def execConsoleLine (s : State) : Host.Outcome State Fault Refusal := run (·.consoleSend) s

/-- FW_PREPARE (R529). -/
def execFwPrepare (r : Src) (v : Word) (s : State) : Host.Outcome State Fault Refusal := run (·.writeReq r (K.FW_PREPARE) [v.toNat]) s

/-- FW_ERASE_DONE (R529). -/
def execFwEraseDone (s : State) : Host.Outcome State Fault Refusal := run (·.eraseEnd) s

/-- FW_ACTIVATE_RESTART (R530). -/
def execFwActivateRestart (r : Src) (s : State) : Host.Outcome State Fault Refusal := run (·.writeReq r K.FW_ACTIVATE [2]) s

/-- FW_ACTIVATE_LIVE (R530). -/
def execFwActivateLive (r : Src) (s : State) : Host.Outcome State Fault Refusal := run (·.writeReq r K.FW_ACTIVATE [1]) s

/-- ACTIVATION_TIMEOUT (R530). -/
def execActivationTimeout (s : State) : Host.Outcome State Fault Refusal := run (·.actTimeout) s

/-- ROLE_HOLDER_WRITE (R533). -/
def execRoleHolderWrite (r : Src) (role : Fin 9) (v : Word) (s : State) : Host.Outcome State Fault Refusal :=
  run (·.writeReq r (K.ROLE_HOLDER role) [v.toNat]) s

/-- SUMP_RESTART (R539). -/
def execSumpRestart (r : Src) (v : Word) (s : State) : Host.Outcome State Fault Refusal := run (·.writeReq r (K.SUMP_RESTART) [v.toNat]) s

/-- ALERT_CLEAR (R539). -/
def execAlertClear (r : Src) (v : Word) (s : State) : Host.Outcome State Fault Refusal := run (·.writeReq r (K.ALERT_CLEAR) [v.toNat]) s

/-- CLEAR_FAIL (R539). -/
def execClearFail (r : Src) (v : Word) (s : State) : Host.Outcome State Fault Refusal := run (·.writeReq r (K.CLEAR_FAIL) [v.toNat]) s

/-- The test access port decodes an instruction (R102, R546): BYPASS is all ones, as IEEE 1149.1 has it; the code of IDCODE, and which codes select
the boundary-scan chain, are free (log entry 55). An instruction of the chain selects the levels of its pins, any other a free word. JTAG_TDO is at high impedance while RESET# is low and in Dormant (R545). -/
def Dev.jtag (d : Dev) (ir : BitVec 8) : Dev :=
  if !d.domOn 2 then d
  else if ir = 0xFF then d.emit (.tapDrive ir.toNat 0)
  else if ir = Config.idcodeIr then d.emit (.tapDrive ir.toNat 0x29616B47)
  else if d.obb K.JTAG_LOCK then d.emit (.tapDrive ir.toNat 0)
  else
    let (v, d) := d.fresh 256
    d.emit (.tapDrive ir.toNat (if Config.boundaryIr ir then d.scanWord v else v))

/-- JTAG_INSTRUCTION (R546). -/
def execJtagInstruction (ir : BitVec 8) (s : State) : Host.Outcome State Fault Refusal := run (·.jtag ir) s

end Sys2Proof.Machine
end

