-- ==== Sys2Proof/Machine/CoreAlu.lean ====
section
/-! DEFINITION. The Uluen-24 instructions of registers alone (spec 11, R308 to R314). -/
namespace Sys2Proof.Machine

/-- NOP (R314). -/
def execNop (core : Fin 20) (s : State) : Host.Outcome State Fault Refusal :=
  lift (fun d => d.regInstr core [] [] 1 fun _ x => x.next) s

/-- ADDI (R308, R314). -/
def execAddi (core : Fin 20) (rd rs : Fin 16) (imm : BitVec 9) (s : State) : Host.Outcome State Fault Refusal :=
  lift (fun d => d.regInstr core [rs] [] 1 fun _ x => x.result rd (addFlags (x.reg rs) (immWord imm) false)) s

/-- CMPI (R308, R314). -/
def execCmpi (core : Fin 20) (rs : Fin 16) (imm : BitVec 9) (s : State) : Host.Outcome State Fault Refusal :=
  lift (fun d => d.regInstr core [rs] [] 1 fun _ x => x.flagResult (subFlags (x.reg rs) (immWord imm) false)) s

/-- ANDI (R308, R314). -/
def execAndi (core : Fin 20) (rd rs : Fin 16) (imm : BitVec 9) (s : State) : Host.Outcome State Fault Refusal :=
  lift (fun d => d.regInstr core [rs] [] 1 fun _ x => x.result rd (logicFlags (x.reg rs &&& immWord imm))) s

/-- ORI (R308, R314). -/
def execOri (core : Fin 20) (rd rs : Fin 16) (imm : BitVec 9) (s : State) : Host.Outcome State Fault Refusal :=
  lift (fun d => d.regInstr core [rs] [] 1 fun _ x => x.result rd (logicFlags (x.reg rs ||| immWord imm))) s

/-- XORI (R308, R314). -/
def execXori (core : Fin 20) (rd rs : Fin 16) (imm : BitVec 9) (s : State) : Host.Outcome State Fault Refusal :=
  lift (fun d => d.regInstr core [rs] [] 1 fun _ x => x.result rd (logicFlags (x.reg rs ^^^ immWord imm))) s

/-- SHLI (R308, R314). -/
def execShli (core : Fin 20) (rd rs : Fin 16) (imm : BitVec 9) (s : State) : Host.Outcome State Fault Refusal :=
  lift (fun d => d.regInstr core [rs] [] 1 fun _ x => x.result rd (shlFlags (x.reg rs) (shiftAmt imm))) s

/-- SHRI (R308, R314). -/
def execShri (core : Fin 20) (rd rs : Fin 16) (imm : BitVec 9) (s : State) : Host.Outcome State Fault Refusal :=
  lift (fun d => d.regInstr core [rs] [] 1 fun _ x => x.result rd (shrFlags (x.reg rs) (shiftAmt imm))) s

/-- SARI (R308, R314). -/
def execSari (core : Fin 20) (rd rs : Fin 16) (imm : BitVec 9) (s : State) : Host.Outcome State Fault Refusal :=
  lift (fun d => d.regInstr core [rs] [] 1 fun _ x => x.result rd (sarFlags (x.reg rs) (shiftAmt imm))) s

/-- MOVA: no mode arithmetic (R314). -/
def execMova (core : Fin 20) (n : Fin 4) (rs : Fin 16) (imm : BitVec 9) (s : State) : Host.Outcome State Fault Refusal :=
  lift (fun d => d.regInstr core [rs] [] 1 fun _ x => (x.setA n (x.reg rs + immWord imm)).next) s

/-- MFA (R314). -/
def execMfa (core : Fin 20) (rd : Fin 16) (n : Fin 4) (imm : BitVec 9) (s : State) : Host.Outcome State Fault Refusal :=
  lift (fun d => d.regInstr core [] [] 1 fun _ x => (x.setReg rd (x.a[n] + immWord imm)).next) s

/-- ADD (R308, R314). -/
def execAdd (core : Fin 20) (rd rs rt : Fin 16) (s : State) : Host.Outcome State Fault Refusal :=
  lift (fun d => d.regInstr core [rs, rt] [] 1 fun _ x => x.result rd (addFlags (x.reg rs) (x.reg rt) false)) s

/-- SUB (R308, R314). -/
def execSub (core : Fin 20) (rd rs rt : Fin 16) (s : State) : Host.Outcome State Fault Refusal :=
  lift (fun d => d.regInstr core [rs, rt] [] 1 fun _ x => x.result rd (subFlags (x.reg rs) (x.reg rt) false)) s

/-- ADC (R308, R314). -/
def execAdc (core : Fin 20) (rd rs rt : Fin 16) (s : State) : Host.Outcome State Fault Refusal :=
  lift (fun d => d.regInstr core [rs, rt] [0] 1 fun _ x => x.result rd (addFlags (x.reg rs) (x.reg rt) (flagC x.flags))) s

/-- SBC (R308, R314). -/
def execSbc (core : Fin 20) (rd rs rt : Fin 16) (s : State) : Host.Outcome State Fault Refusal :=
  lift (fun d => d.regInstr core [rs, rt] [0] 1 fun _ x => x.result rd (subFlags (x.reg rs) (x.reg rt) (flagC x.flags))) s

/-- AND (R308, R314). -/
def execAnd (core : Fin 20) (rd rs rt : Fin 16) (s : State) : Host.Outcome State Fault Refusal :=
  lift (fun d => d.regInstr core [rs, rt] [] 1 fun _ x => x.result rd (logicFlags (x.reg rs &&& x.reg rt))) s

/-- OR (R308, R314). -/
def execOr (core : Fin 20) (rd rs rt : Fin 16) (s : State) : Host.Outcome State Fault Refusal :=
  lift (fun d => d.regInstr core [rs, rt] [] 1 fun _ x => x.result rd (logicFlags (x.reg rs ||| x.reg rt))) s

/-- XOR (R308, R314). -/
def execXor (core : Fin 20) (rd rs rt : Fin 16) (s : State) : Host.Outcome State Fault Refusal :=
  lift (fun d => d.regInstr core [rs, rt] [] 1 fun _ x => x.result rd (logicFlags (x.reg rs ^^^ x.reg rt))) s

/-- SHL (R308, R314). -/
def execShl (core : Fin 20) (rd rs rt : Fin 16) (s : State) : Host.Outcome State Fault Refusal :=
  lift (fun d => d.regInstr core [rs, rt] [] 1 fun _ x => x.result rd (shlFlags (x.reg rs) ((x.reg rt).toNat % 32))) s

/-- SHR (R308, R314). -/
def execShr (core : Fin 20) (rd rs rt : Fin 16) (s : State) : Host.Outcome State Fault Refusal :=
  lift (fun d => d.regInstr core [rs, rt] [] 1 fun _ x => x.result rd (shrFlags (x.reg rs) ((x.reg rt).toNat % 32))) s

/-- SAR (R308, R314). -/
def execSar (core : Fin 20) (rd rs rt : Fin 16) (s : State) : Host.Outcome State Fault Refusal :=
  lift (fun d => d.regInstr core [rs, rt] [] 1 fun _ x => x.result rd (sarFlags (x.reg rs) ((x.reg rt).toNat % 32))) s

/-- CMP (R308, R314). -/
def execCmp (core : Fin 20) (rs rt : Fin 16) (s : State) : Host.Outcome State Fault Refusal :=
  lift (fun d => d.regInstr core [rs, rt] [] 1 fun _ x => x.flagResult (subFlags (x.reg rs) (x.reg rt) false)) s

/-- MUL (R283, R314). -/
def execMul (core : Fin 20) (rs rt : Fin 16) (s : State) : Host.Outcome State Fault Refusal :=
  lift (fun d => d.regInstr core [rs, rt] [] 1 fun n x => (x.issueMul 0 (x.reg rs) (x.reg rt) n).next) s

/-- MULU (R283, R314). -/
def execMulu (core : Fin 20) (rs rt : Fin 16) (s : State) : Host.Outcome State Fault Refusal :=
  lift (fun d => d.regInstr core [rs, rt] [] 1 fun n x => (x.issueMul 1 (x.reg rs) (x.reg rt) n).next) s

/-- MAC (R283, R314). -/
def execMac (core : Fin 20) (rs rt : Fin 16) (s : State) : Host.Outcome State Fault Refusal :=
  lift (fun d => d.regInstr core [rs, rt] [] 1 fun n x => (x.issueMul 2 (x.reg rs) (x.reg rt) n).next) s

/-- MUL_LAND (R284). -/
def execMulLand (core : Fin 20) (s : State) : Host.Outcome State Fault Refusal :=
  lift (fun d => d.mulLands core) s

/-- CVBD (R311). -/
def execCvbd (core : Fin 20) (rd rs : Fin 16) (s : State) : Host.Outcome State Fault Refusal :=
  lift (fun d => d.regInstr core [rs] [] 4 fun _ x => x.result rd (cvbdFlags (x.reg rs))) s

/-- CVDB (R311). -/
def execCvdb (core : Fin 20) (rd rs : Fin 16) (s : State) : Host.Outcome State Fault Refusal :=
  lift (fun d => d.regInstr core [rs] [] 4 fun _ x => x.result rd (cvdbFlags (x.reg rs))) s

/-- ADDD (R309). -/
def execAddd (core : Fin 20) (rd rs rt : Fin 16) (s : State) : Host.Outcome State Fault Refusal :=
  lift (fun d => d.regInstr core [rs, rt] [0] 1 fun _ x => x.result rd (adddFlags (x.reg rs) (x.reg rt) (flagD x.flags))) s

/-- SUBD (R309). -/
def execSubd (core : Fin 20) (rd rs rt : Fin 16) (s : State) : Host.Outcome State Fault Refusal :=
  lift (fun d => d.regInstr core [rs, rt] [0] 1 fun _ x => x.result rd (subdFlags (x.reg rs) (x.reg rt) (flagD x.flags))) s

/-- DAJ (R310). -/
def execDaj (core : Fin 20) (rd rs rt : Fin 16) (s : State) : Host.Outcome State Fault Refusal :=
  lift (fun d => d.regInstr core [rs, rt] [0] 1 fun _ x => x.result rd (dajFlags (x.reg rs) (x.reg rt) (flagC x.flags))) s

/-- LIT (R314). -/
def execLit (core : Fin 20) (rd : Fin 16) (lit : Word) (s : State) : Host.Outcome State Fault Refusal :=
  lift (fun d => d.regInstr core [] [] 2 fun _ x => (x.setReg rd lit).next.next) s

/-- ADDL (R308, R314). -/
def execAddl (core : Fin 20) (rd rs : Fin 16) (lit : Word) (s : State) : Host.Outcome State Fault Refusal :=
  lift (fun d => d.regInstr core [rs] [] 2 fun _ x => (x.result rd (addFlags (x.reg rs) lit false)).next) s

/-- ANDL (R308, R314). -/
def execAndl (core : Fin 20) (rd rs : Fin 16) (lit : Word) (s : State) : Host.Outcome State Fault Refusal :=
  lift (fun d => d.regInstr core [rs] [] 2 fun _ x => (x.result rd (logicFlags (x.reg rs &&& lit))).next) s

/-- ORL (R308, R314). -/
def execOrl (core : Fin 20) (rd rs : Fin 16) (lit : Word) (s : State) : Host.Outcome State Fault Refusal :=
  lift (fun d => d.regInstr core [rs] [] 2 fun _ x => (x.result rd (logicFlags (x.reg rs ||| lit))).next) s

/-- XORL (R308, R314). -/
def execXorl (core : Fin 20) (rd rs : Fin 16) (lit : Word) (s : State) : Host.Outcome State Fault Refusal :=
  lift (fun d => d.regInstr core [rs] [] 2 fun _ x => (x.result rd (logicFlags (x.reg rs ^^^ lit))).next) s

/-- CMPL (R308, R314). -/
def execCmpl (core : Fin 20) (rs : Fin 16) (lit : Word) (s : State) : Host.Outcome State Fault Refusal :=
  lift (fun d => d.regInstr core [rs] [] 2 fun _ x => (x.flagResult (subFlags (x.reg rs) lit false)).next) s

end Sys2Proof.Machine
end

