-- ==== Sys2Proof/Machine/CoreFlow.lean ====
section
/-! DEFINITION. Branches, calls, returns, waiting, illegal words and interrupt entry (spec 10 R278 to R293, 11 R305, R312 to R317). -/
namespace Sys2Proof.Machine

/-- A branch: taken, to its address plus the offset, in 2 cycles; else 1 (R315, R318). -/
def Dev.branch (d : Dev) (c : Nat) (k : Nat) (ofs : BitVec 14) : Dev :=
  d.instr c { srs := [0] } fun _ d =>
    let x := d.core c
    if condHolds k x.flags then (d.modCore c fun x => { x with pc := x.pc + ofs.signExtend 15 }, 2) else (d.modCore c Core.next, 1)

/-- BCOND_LOW: conditions 0 to 7 (R312). -/
def execBcondLow (core : Fin 20) (cond : Fin 8) (ofs : BitVec 14) (s : State) : Host.Outcome State Fault Refusal :=
  lift (·.branch core cond.val ofs) s

/-- BCOND_HIGH: conditions 8 to 15 (R312). -/
def execBcondHigh (core : Fin 20) (cond : Fin 8) (ofs : BitVec 14) (s : State) : Host.Outcome State Fault Refusal :=
  lift (·.branch core (cond.val + 8) ofs) s

/-- JMP (R314). -/
def execJmp (core : Fin 20) (target : BitVec 15) (s : State) : Host.Outcome State Fault Refusal :=
  lift (·.regInstr core [] [] 2 fun _ x => { x with pc := target }) s

/-- CALL (R278, R280, R314). -/
def execCall (core : Fin 20) (target : BitVec 15) (s : State) : Host.Outcome State Fault Refusal := run (·.callTo core [] fun _ => target) s

/-- JR (R314). -/
def execJr (core : Fin 20) (rs : Fin 16) (s : State) : Host.Outcome State Fault Refusal :=
  lift (·.regInstr core [rs] [] 2 fun _ x => { x with pc := (x.reg rs).truncate 15 }) s

/-- CALLR (R314). -/
def execCallr (core : Fin 20) (rs : Fin 16) (s : State) : Host.Outcome State Fault Refusal :=
  run (·.callTo core [rs] fun x => (x.reg rs).truncate 15) s

/-- RET (R278, R316). -/
def execRet (core : Fin 20) (s : State) : Host.Outcome State Fault Refusal := run (·.retFrom core false) s

/-- RETI (R280, R316). -/
def execReti (core : Fin 20) (s : State) : Host.Outcome State Fault Refusal := run (·.retFrom core true) s

/-- WAIT (R293). -/
def execWait (core : Fin 20) (s : State) : Host.Outcome State Fault Refusal := run (·.waitWord core) s

/-- SETGIE (R317). -/
def execSetgie (core : Fin 20) (b : Bool) (s : State) : Host.Outcome State Fault Refusal :=
  lift (·.regInstr core [] [] 1 fun _ x => { x.next with gie := b }) s

/-- ILLEGAL_WORD: a word that R305 calls illegal, or a poisoned one. -/
def execIllegalWord (core : Fin 20) (literal : Bool) (s : State) : Host.Outcome State Fault Refusal :=
  run (·.instr core {} fun _ d => (d.illegal core literal, 1)) s

/-- INTERRUPT_ENTRY (R291, R292, R299). -/
def execInterruptEntry (core : Fin 20) (s : State) : Host.Outcome State Fault Refusal := run (·.enter core) s

end Sys2Proof.Machine
end

