-- ==== Sys2Proof/Machine/CoreMem.lean ====
section
/-! DEFINITION. The Uluen-24 words that access memory: loads, stores, stacks and pairs (spec 10 R274 to R282, 11 R306, R314). -/
namespace Sys2Proof.Machine

/-- PAIR (R305 to R307, R313). -/
def execPair (core : Fin 20) (opa : BitVec 5) (xa ya : BitVec 3) (opb : BitVec 5) (xb yb : BitVec 3) (z0 : Bool) (s : State) : Host.Outcome State Fault Refusal :=
  run (·.pairWord core opa xa ya opb xb yb z0) s

/-- LD (R314). -/
def execLd (core : Fin 20) (rd rs : Fin 16) (imm : BitVec 9) (s : State) : Host.Outcome State Fault Refusal :=
  run (·.memInstr core [rs] [] false rd (fun x => x.reg rs + immWord imm) id) s

/-- ST (R314). -/
def execSt (core : Fin 20) (rd rs : Fin 16) (imm : BitVec 9) (s : State) : Host.Outcome State Fault Refusal :=
  run (·.memInstr core [rs, rd] [] true rd (fun x => x.reg rs + immWord imm) id) s

/-- LDA: the address register is stepped by imm (R282, R314). -/
def execLda (core : Fin 20) (rd : Fin 16) (n : Fin 4) (imm : BitVec 9) (s : State) : Host.Outcome State Fault Refusal :=
  run (·.memInstr core [] (stepSrs n) false rd (fun x => x.a[n]) fun x => x.setA n (x.stepped n (immWord imm))) s

/-- STA (R282, R314). -/
def execSta (core : Fin 20) (rd : Fin 16) (n : Fin 4) (imm : BitVec 9) (s : State) : Host.Outcome State Fault Refusal :=
  run (·.memInstr core [rd] (stepSrs n) true rd (fun x => x.a[n]) fun x => x.setA n (x.stepped n (immWord imm))) s

/-- PUSH (R277). -/
def execPush (core : Fin 20) (rd : Fin 16) (s : State) : Host.Outcome State Fault Refusal := run (·.dataPush core rd) s

/-- POP (R277). -/
def execPop (core : Fin 20) (rd : Fin 16) (s : State) : Host.Outcome State Fault Refusal := run (·.dataPop core rd) s

/-- LDX (R314). -/
def execLdx (core : Fin 20) (rd rs rt : Fin 16) (s : State) : Host.Outcome State Fault Refusal :=
  run (·.memInstr core [rs, rt] [] false rd (fun x => x.reg rs + x.reg rt) id) s

/-- STX (R314). -/
def execStx (core : Fin 20) (rd rs rt : Fin 16) (s : State) : Host.Outcome State Fault Refusal :=
  run (·.memInstr core [rs, rt, rd] [] true rd (fun x => x.reg rs + x.reg rt) id) s

/-- LDAR: the address register is stepped by rt (R282, R314). -/
def execLdar (core : Fin 20) (rd : Fin 16) (n : Fin 4) (rt : Fin 16) (s : State) : Host.Outcome State Fault Refusal :=
  run (·.memInstr core [rt] (stepSrs n) false rd (fun x => x.a[n]) fun x => x.setA n (x.stepped n (x.reg rt))) s

/-- STAR (R282, R314). -/
def execStar (core : Fin 20) (rd : Fin 16) (n : Fin 4) (rt : Fin 16) (s : State) : Host.Outcome State Fault Refusal :=
  run (·.memInstr core [rt, rd] (stepSrs n) true rd (fun x => x.a[n]) fun x => x.setA n (x.stepped n (x.reg rt))) s

end Sys2Proof.Machine
end

