-- ==== Sys2Proof/Machine/CoreSys.lean ====
section
/-! DEFINITION. Special registers, far requests, waits for mailboxes, banks, watchdog and timer, and the core commands
(spec 10 R273, R285 to R302, 18 R503). -/
namespace Sys2Proof.Machine

/-- MFS, with the latching of R273 (R314). -/
def execMfs (core : Fin 20) (rd : Fin 16) (sr : Fin 32) (s : State) : Host.Outcome State Fault Refusal :=
  run (·.instr core { srs := [sr.val] } fun _ d => let (d, v) := d.srRead core sr.val; (d.modCore core fun x => (x.setReg rd (word v)).next, 1)) s

/-- MTS (R273, R275, R314). -/
def execMts (core : Fin 20) (sr : Fin 32) (rs : Fin 16) (s : State) : Host.Outcome State Fault Refusal :=
  run (·.instr core { regs := [rs] } fun _ d => ((d.modCore core Core.next).srWrite core sr.val ((d.core core).reg rs).toNat, 1)) s

/-- FREQ (R285, R286). -/
def execFreq (core : Fin 20) (rd rs rt : Fin 16) (s : State) : Host.Outcome State Fault Refusal :=
  run (·.instr core { regs := [rs, rt] } fun _ d => let x := d.core core; let (d, t) := d.farIssue core (x.reg rs).toNat (x.reg rt).toNat; (d.modCore core fun x => (x.setReg rd t).next, 1)) s

/-- FAR_DONE (R287, R289). -/
def execFarDone (core : Fin 20) (tag : Fin 32) (s : State) : Host.Outcome State Fault Refusal := run (·.farComplete core tag.val) s

/-- FAR_TIMEOUT (R287). -/
def execFarTimeout (core : Fin 20) (tag : Fin 32) (s : State) : Host.Outcome State Fault Refusal := run (·.farLate core tag.val) s

/-- FWAIT (R288). -/
def execFwait (core : Fin 20) (rd rs : Fin 16) (s : State) : Host.Outcome State Fault Refusal := run (·.farCollect core rd rs true) s

/-- FPOLL (R288). -/
def execFpoll (core : Fin 20) (rd rs : Fin 16) (s : State) : Host.Outcome State Fault Refusal := run (·.farCollect core rd rs false) s

/-- WAITMB (R294, R503). -/
def execWaitmb (core : Fin 20) (rd rs : Fin 16) (s : State) : Host.Outcome State Fault Refusal := run (·.mbWait core rd rs) s

/-- WAITMB_RELEASE (R503). -/
def execWaitmbRelease (core : Fin 20) (s : State) : Host.Outcome State Fault Refusal := run (·.mbEnd core) s

/-- BANK is written by a core that runs. -/
def Dev.bankCmd (d : Dev) (c v : Nat) : Dev := if d.coreRuns c then d.bankWrite c v else d

/-- BANK_ARM: an arm command with its CP_MASK (R297, R298). -/
def execBankArm (core : Fin 20) (mask : BitVec 16) (s : State) : Host.Outcome State Fault Refusal := run (·.bankCmd core (mask.toNat * 256 + 4)) s

/-- BANK_CANCEL (R298). -/
def execBankCancel (core : Fin 20) (s : State) : Host.Outcome State Fault Refusal :=
  run (fun d => d.bankCmd core ((d.core core).cpMask.toNat * 256 + 8)) s

/-- BANK_NOW: a now command; it lands at the next instruction boundary (R299). -/
def execBankNow (core : Fin 20) (s : State) : Host.Outcome State Fault Refusal :=
  run (fun d => d.bankCmd core ((d.core core).cpMask.toNat * 256 + 12)) s

/-- TIMER_EXPIRY (R296). -/
def execTimerExpiry (core : Fin 20) (s : State) : Host.Outcome State Fault Refusal := run (·.timerExpiry core) s

/-- WDOG_WARN (R295). -/
def execWdogWarn (core : Fin 20) (s : State) : Host.Outcome State Fault Refusal := run (·.wdogWarn core) s

/-- WDOG_EXPIRY (R295, R532). -/
def execWdogExpiry (core : Fin 20) (s : State) : Host.Outcome State Fault Refusal := run (·.wdogExpiry core) s

/-- CORE_START: CORE_CMD 1 (R302). -/
def execCoreStart (r : Src) (core : Fin 20) (s : State) : Host.Outcome State Fault Refusal := run (·.writeReq r (K.CORE_CMD core) [1]) s

/-- CORE_HOLD: CORE_CMD 2 (R302). -/
def execCoreHold (r : Src) (core : Fin 20) (s : State) : Host.Outcome State Fault Refusal := run (·.writeReq r (K.CORE_CMD core) [2]) s

/-- CORE_RESET: CORE_CMD 3 (R302). -/
def execCoreReset (r : Src) (core : Fin 20) (s : State) : Host.Outcome State Fault Refusal := run (·.writeReq r (K.CORE_CMD core) [3]) s

end Sys2Proof.Machine
end

