-- ==== Sys2Proof/Machine/Scrub.lean ====
section
/-! DEFINITION. The scrubber and the memory health objects (spec 04, R117 to R121). -/
namespace Sys2Proof.Machine

/-- The words of memory m that unit `u` and address `a` name, in the memory's own units; none where there is no such place (R103, R121). Every word has
its own check bits: in the Cellar, whose unit is the entry, `u` is the word of the entry, and in the Cistern the 64-bit word of the cell. -/
def placesOf (m u a : Nat) : List Nat :=
  let r := poisonRange m
  let one := fun (ok : Bool) (size base : Nat) => if ok && decide (a < size) then [base + a] else []
  match m with
  | 0 => one (decide (u < 16)) 0x10000 (bankAddr u 0 0)
  | 1 => one (decide (u < 16)) 0x8000 (localAddr u 0)
  | 2 => one (decide (16 ≤ u) && decide (u < 20)) 0x10000 (bankAddr u 0 0)
  | 3 => one (decide (16 ≤ u) && decide (u < 20)) 0x10000 (localAddr u 0)
  | 4 => if u < 4 && a < 0x100000 then [sigAddr a u] else []
  | 10 => if u < 8 && a < 0x20000 then [r.1 + 8 * a + u] else []
  | 12 => one (decide (u < 12)) 0x800 (0x1200000 + 0x800 * u)
  | 13 => one (decide (u < 21)) 128 (mailAddr u 0 0)
  | _ => one true (r.2 - r.1) r.1

/-- Is the memory powered (R103)? -/
def Dev.memOn (d : Dev) (m u : Nat) : Bool :=
  if m < 4 || m = 13 then d.epOn u else if m = 7 then d.domOn 3 else if m = 8 then d.domOn 1 else if m = 12 then d.domOn (24 + u) else d.domOn 2

/-- A Cistern cell is poisoned: which frame it holds, if any, is free (R119; log entry 31); its tail is bad. -/
def Dev.cellPoisoned (d : Dev) : Dev :=
  let ids := d.sw.queues.flatMap fun e => e.2.map (·.id)
  let (v, d) := d.fresh 24
  match ids[v % (ids.length + 1)]? with
  | none => d
  | some id => d.modSw fun s =>
    { s with queues := s.queues.map (fun e => (e.1, e.2.map fun f => if f.id = id && f.tail.isSome then { f with tail := some (true, 6) } else f)),
             spoilt := id :: s.spoilt }

/-- Is the place poisoned already? -/
def Dev.isPoisoned (d : Dev) (m a : Nat) (l : List Nat) : Bool :=
  l.any d.poisoned || (m == 11 && ((mget? d.sw.mstore (a / 4)).map fun e => e.poison.contains (a % 4)).getD false)

/-- Poison a place (R118). -/
def Dev.poisonAt (d : Dev) (m a : Nat) (l : List Nat) : Dev :=
  if m = 11 && (mget? d.sw.mstore (a / 4)).isSome then
    d.modSw fun s => { s with mstore := s.mstore.map fun e => if e.1 = a / 4 then (e.1, { e.2 with poison := a % 4 :: e.2.poison }) else e }
  else
    let d := { d with poison := l ++ d.poison }
    if m = 10 then d.cellPoisoned else d

/-- The place and the unit of an error (R121). -/
def Dev.noteErr (d : Dev) (m u a : Nat) : Dev :=
  (d.setOb (K.ECC_LAST_ADDR m) (a : Nat)).setOb (K.ECC_LAST_UNIT m) (if m < 4 || m = 12 || m = 13 then u else 0 : Nat)

/-- The bank in which a place of memory m lies (R103): one number for each bank of each memory. -/
def bankOfPlace (m u a : Nat) : Nat :=
  let own := if m < 4 || m = 12 || m = 13 then u else 0
  m * 1024 + own * 32 + (match m with
    | 0 => a / 0x8000
    | 1 => a % 4
    | 2 => a / 0x8000
    | 3 => a % 4
    | 4 => a % 16
    | 5 => a % 16
    | 6 => a % 8
    | 7 => a % 8
    | 8 => a % 2
    | _ => 0)

/-- The write-backs that still wait: a bank writes in its next idle cycle, so none outlasts its instant. -/
def Dev.writeBacks (d : Dev) : List (Nat × Nat × Nat) := d.ecc.pending.filter fun e => e.2.2 == d.now

/-- A read has corrected a single-bit error: its bank is to write the word back, unless four wait there already (R117). -/
def Dev.writeBack (d : Dev) (bank place : Nat) : Dev :=
  let l := d.writeBacks
  if 4 ≤ (l.countP fun e => e.1 == bank) then { d with ecc := { pending := l, left := place :: d.ecc.left.filter (· != place) } }
  else { d with ecc := { d.ecc with pending := l ++ [(bank, place, d.now)] } }

/-- The scrubber has visited places: what waited for it there is repaired. -/
def Dev.repaired (d : Dev) (l : List Nat) : Dev := { d with ecc := { d.ecc with left := d.ecc.left.filter fun q => !l.contains q } }

/-- A corrected error: counted, noted, and logged once a second (R120). -/
def Dev.corrected (d : Dev) (m u a : Nat) : Dev := ((d.bump (K.ECC_CORRECTED m)).noteErr m u a).logSec 0x5030 m

/-- The scrubber visits a place: `err` is 0 none, 1 corrected, 2 uncorrectable, and 3 a single-bit error that a read met before the scrubber (R117);
`pass` ends a full pass with its duration in ms. An uncorrectable error that a read meets first is this same command with 2 in front of the read, since
poison, count, log and signal are the same (R120; DEDUCED, log entry 37). -/
def Dev.scrub (d : Dev) (m u a err : Nat) (pass : Option Nat) : Dev :=
  let l := placesOf m u a
  if l.isEmpty || !d.memOn m u then d else
  let d := d.iff (err != 3) fun d => d.repaired l
  let d :=
    if err = 0 || d.isPoisoned m a l then d
    else if err = 1 then d.corrected m u a
    else if err = 3 then (d.corrected m u a).writeBack (bankOfPlace m u a) (l.headD 0)
    else ((((d.bump (K.ECC_UNCORRECTED m)).noteErr m u a).poisonAt m a l).logE 0x5031 m).raise 0x541
  match pass with
  | none => d
  | some ms =>
    let d := d.setOb (K.ECC_SCRUB_PASS m) (min ms (2 ^ 24 - 1) : Nat)
    if 10000 < ms then d.logE 0x5032 m else d

/-- SCRUB_STEP (R117, R118, R120, R121). -/
def execScrubStep (mem : Fin 14) (unit addr : Nat) (err : Fin 4) (pass : Option Nat) (s : State) : Host.Outcome State Fault Refusal :=
  run (·.scrub mem unit addr err pass) s

/-- ECC_CLEAR (R121): the dictionary write. -/
def execEccClear (r : Src) (mem : Fin 14) (v : Word) (s : State) : Host.Outcome State Fault Refusal :=
  run (·.writeReq r (K.ECC_CLEAR mem) [v.toNat]) s

end Sys2Proof.Machine
end

