-- ==== Sys2Proof/Machine/Smb.lean ====
section
/-! DEFINITION. The Sump on SMBus (spec 19, R537, R538; 03, R96). -/
namespace Sys2Proof.Machine

def Dev.modSmb (d : Dev) (f : Smb → Smb) : Dev := { d with sump := { d.sump with smb := f d.sump.smb } }

/-- A transaction that is discarded for its length, value or PEC: the last status, and the count (R537). -/
def Dev.smbBad (d : Dev) (status : Nat) : Dev := (d.bump K.SMB_ERRORS).modSmb fun m => { m with lastStatus := status }

/-- One SMBus transaction: `fits` says that its length is right, `good` that its value is in range, `f` is its service with the
last status it leaves. SUMP_ADDR as it stood before applies from the stop condition on (R539). A wrong or missing PEC leaves TYPE or
RANGE, which of them is free (log entry 29). -/
def Dev.smbDo (d : Dev) (pec : Option Bool) (fits good : Bool) (f : Dev → Dev × Nat) : Dev :=
  let addr := d.obn K.SUMP_ADDR
  let pecBad := pec = some false || (pec = none && d.obb K.SMB_PEC_REQ)
  let d :=
    if !fits then d.smbBad Stat.type
    else if pecBad then
      let (b, d) := d.fresh 1
      d.smbBad (Stat.type + b % 2)
    else if !good then d.smbBad Stat.range
    else
      let (d, st) := f d
      d.modSmb fun m => { m with lastStatus := st }
  d.modSmb fun m => { m with addr := addr }

/-- A read: the response goes out. -/
def Dev.smbRead (d : Dev) (pec : Option Bool) (data : List Byte) : Dev :=
  d.smbDo pec true true fun d => (d.emit (.smb data), Stat.done)

/-- The six bytes of STATUS. -/
def Dev.smbStatusBytes (d : Dev) : List Byte :=
  [d.mode, d.obn K.HOLD_CAUSE, d.alertCause, d.sump.smb.lastStatus, d.obn K.RESET_CAUSE, d.obn K.BOOTSEL].flatMap (beBytes 1)

/-- A request of R74 for the Sump or, through it, for the dictionary keeper; one at a time (R538, R96). -/
def Dev.smbRequest (d : Dev) (data : List Byte) : Dev × Nat :=
  if d.sump.smb.pending then (d, Stat.busy)
  else ((d.modSmb fun m => { m with pending := true, response := [] }).requestWords .smbus (wordsOf data), Stat.done)

/-- Is a DICT_REQ one whole request of 9 to 192 bytes? -/
def smbWhole (data : List Byte) : Bool :=
  decide (9 ≤ data.length) && decide (data.length ≤ 192) && data.length == 9 + 3 * byteAt data 2

/-- The answer to DICT_RESP. -/
def Dev.smbResponse (d : Dev) : List Byte :=
  if d.sump.smb.pending then [1] else if d.sump.smb.response.isEmpty then [0] else d.sump.smb.response

/-- The twelve bytes of a mirror entry, the newest at index 0. -/
def Dev.smbEntry (d : Dev) (i : Nat) : List Byte := (d.mirrorBytes.drop (12 * i)).take 12

/-! ### Commands -/

/-- SMB_STATUS (R538, 0x01). -/
def execSmbStatus (pec : Option Bool) (s : State) : Host.Outcome State Fault Refusal := run (fun d => d.smbRead pec d.smbStatusBytes) s

/-- SMB_ALERT_CLEAR (R538, 0x02). -/
def execSmbAlertClear (data : List Byte) (pec : Option Bool) (s : State) : Host.Outcome State Fault Refusal :=
  run (·.smbDo pec (data.length == 1) true fun d => (d.event.alertClear (byteAt data 0), Stat.done)) s

/-- SMB_DICT_REQ (R96; R538, 0x10). -/
def execSmbDictReq (data : List Byte) (pec : Option Bool) (s : State) : Host.Outcome State Fault Refusal :=
  run (·.smbDo pec (smbWhole data) true fun d => d.smbRequest data) s

/-- SMB_DICT_RESP (R538, 0x11). -/
def execSmbDictResp (pec : Option Bool) (s : State) : Host.Outcome State Fault Refusal := run (fun d => d.smbRead pec d.smbResponse) s

/-- SMB_T0 (R538, 0x20; R408). -/
def execSmbT0 (pec : Option Bool) (s : State) : Host.Outcome State Fault Refusal := run (fun d => d.smbRead pec (beBytes 9 d.now)) s

/-- SMB_LOG (R538, 0x21; R515). -/
def execSmbLog (data : List Byte) (pec : Option Bool) (s : State) : Host.Outcome State Fault Refusal :=
  run (·.smbDo pec (data.length == 1) (decide (byteAt data 0 < 64)) fun d => (d.emit (.smb (d.smbEntry (byteAt data 0))), Stat.done)) s

/-- SMB_RING (R538, 0x30; R500, R501). -/
def execSmbRing (data : List Byte) (pec : Option Bool) (s : State) : Host.Outcome State Fault Refusal :=
  run (·.smbDo pec (data.length == 4) (decide (byteAt data 0 ≤ 20)) fun d => (d.ring (byteAt data 0) (beNat (data.drop 1)), Stat.done)) s

/-- SMB_HOLD (R538, 0x31; R47). -/
def execSmbHold (data : List Byte) (pec : Option Bool) (s : State) : Host.Outcome State Fault Refusal :=
  run (·.smbDo pec (data.length == 1) (decide (byteAt data 0 ≤ 1)) fun d => (d.sumpHold (byteAt data 0 == 1), Stat.done)) s

/-- SMB_RESTART (R538, 0x32; R536). -/
def execSmbRestart (data : List Byte) (pec : Option Bool) (s : State) : Host.Outcome State Fault Refusal :=
  run (·.smbDo pec (data.length == 1) (byteAt data 0 == 0xA5) fun d => (d.warmRestart 3, Stat.done)) s

/-- SMB_DOMAIN_OFF (R538, 0x33; R16, R19). -/
def execSmbDomainOff (data : List Byte) (pec : Option Bool) (s : State) : Host.Outcome State Fault Refusal :=
  run (·.smbDo pec (data.length == 1) (decide (1 ≤ byteAt data 0) && decide (byteAt data 0 ≤ 43)) fun d => (d.domainOff (byteAt data 0), Stat.done)) s

/-- SMB_WAKE (R538, 0x34; R43): a wake outside Dormant is a transition R43 does not allow. -/
def execSmbWake (data : List Byte) (pec : Option Bool) (s : State) : Host.Outcome State Fault Refusal :=
  run (·.smbDo pec (data.length == 1) (byteAt data 0 == 1) fun d => if d.mode = 0 then (d.wake, Stat.done) else (d, Stat.mode)) s

/-- SMB_CLEAR_FAIL (R538, 0x35; R539). -/
def execSmbClearFail (data : List Byte) (pec : Option Bool) (s : State) : Host.Outcome State Fault Refusal :=
  run (·.smbDo pec (data.length == 1) true fun d => (d.event.clearFail (byteAt data 0), Stat.done)) s

/-- SMB_ALERT_RESPONSE (R537): while ALERT# is low the Sump answers with its address. -/
def execSmbAlertResponse (s : State) : Host.Outcome State Fault Refusal :=
  run (fun d => if !d.alertLow then d else d.emit (.smb (beBytes 1 d.sump.smb.addr))) s

end Sys2Proof.Machine
end

