-- ==== Sys2Proof/Machine/Dispatch.lean ====
section
/-! DEFINITION. One arm for each command. -/
namespace Sys2Proof.Machine

def exec (i : Instr) (s : State) : Host.Outcome State Fault Refusal :=
  match i with
  | .powerOn => Sys2Proof.Machine.execPowerOn s
  | .resetLow => Sys2Proof.Machine.execResetLow s
  | .resetRelease straps test flash => Sys2Proof.Machine.execResetRelease straps test flash s
  | .warmRestart cause => Sys2Proof.Machine.execWarmRestart cause s
  | .perst => Sys2Proof.Machine.execPerst s
  | .brownOut rail => Sys2Proof.Machine.execBrownOut rail s
  | .bootLimitExpiry => Sys2Proof.Machine.execBootLimitExpiry s
  | .hostBootChunk => Sys2Proof.Machine.execHostBootChunk s
  | .refclk25Absent => Sys2Proof.Machine.execRefclk25Absent s
  | .refclk25Present => Sys2Proof.Machine.execRefclk25Present s
  | .holdPinLow => Sys2Proof.Machine.execHoldPinLow s
  | .holdPinHigh => Sys2Proof.Machine.execHoldPinHigh s
  | .interconnectTimeout agent addr wr => Sys2Proof.Machine.execInterconnectTimeout agent addr wr s
  | .sumpWatchdogExpiry => Sys2Proof.Machine.execSumpWatchdogExpiry s
  | .wdogKick agent v => Sys2Proof.Machine.execWdogKick agent v s
  | .modeRequest r v => Sys2Proof.Machine.execModeRequest r v s
  | .limpWaitEnd => Sys2Proof.Machine.execLimpWaitEnd s
  | .limpReturn => Sys2Proof.Machine.execLimpReturn s
  | .wakeAtAlarm => Sys2Proof.Machine.execWakeAtAlarm s
  | .tjSample temps sump => Sys2Proof.Machine.execTjSample temps sump s
  | .tapRailSample rails => Sys2Proof.Machine.execTapRailSample rails s
  | .limpPowerDormant => Sys2Proof.Machine.execLimpPowerDormant s
  | .tapRequest => Sys2Proof.Machine.execTapRequest s
  | .tapRelease => Sys2Proof.Machine.execTapRelease s
  | .tapWaitExpiry => Sys2Proof.Machine.execTapWaitExpiry s
  | .permitExpiry => Sys2Proof.Machine.execPermitExpiry s
  | .tapBudgetWrite r v => Sys2Proof.Machine.execTapBudgetWrite r v s
  | .tapPeakClear r v => Sys2Proof.Machine.execTapPeakClear r v s
  | .tjMaxReset r v => Sys2Proof.Machine.execTjMaxReset r v s
  | .read r key => Sys2Proof.Machine.execRead r key s
  | .write r key vals => Sys2Proof.Machine.execWrite r key vals s
  | .readMulti r keys => Sys2Proof.Machine.execReadMulti r keys s
  | .writeMulti r items => Sys2Proof.Machine.execWriteMulti r items s
  | .sigRead r sig count => Sys2Proof.Machine.execSigRead r sig count s
  | .sigWrite r sig vals => Sys2Proof.Machine.execSigWrite r sig vals s
  | .sigForce r sig vals => Sys2Proof.Machine.execSigForce r sig vals s
  | .sigUnforce r sig => Sys2Proof.Machine.execSigUnforce r sig s
  | .domainPut r key ofs payload => Sys2Proof.Machine.execDomainPut r key ofs payload s
  | .domainGet r key ofs payload => Sys2Proof.Machine.execDomainGet r key ofs payload s
  | .domainPutIdle key => Sys2Proof.Machine.execDomainPutIdle key s
  | .save r => Sys2Proof.Machine.execSave r s
  | .saveDone ok => Sys2Proof.Machine.execSaveDone ok s
  | .restoreDefaults r => Sys2Proof.Machine.execRestoreDefaults r s
  | .subscribe r key arg => Sys2Proof.Machine.execSubscribe r key arg s
  | .subscribeSend via num => Sys2Proof.Machine.execSubscribeSend via num s
  | .dictTimeout r => Sys2Proof.Machine.execDictTimeout r s
  | .hatchCompletionPost => Sys2Proof.Machine.execHatchCompletionPost s
  | .qwRead => Sys2Proof.Machine.execQwRead s
  | .qwWrite1 => Sys2Proof.Machine.execQwWrite1 s
  | .qwWrite2 => Sys2Proof.Machine.execQwWrite2 s
  | .qwOverlapClear => Sys2Proof.Machine.execQwOverlapClear s
  | .aapHello u addr dgram => Sys2Proof.Machine.execAapHello u addr dgram s
  | .aapProve u addr dgram => Sys2Proof.Machine.execAapProve u addr dgram s
  | .aapRequests u addr dgram => Sys2Proof.Machine.execAapRequests u addr dgram s
  | .aapOpenRead u addr dgram => Sys2Proof.Machine.execAapOpenRead u addr dgram s
  | .aapClose u addr dgram => Sys2Proof.Machine.execAapClose u addr dgram s
  | .aapIdleTimeout sess => Sys2Proof.Machine.execAapIdleTimeout sess s
  | .aapBlockExpiry addr => Sys2Proof.Machine.execAapBlockExpiry addr s
  | .revokeKey r v => Sys2Proof.Machine.execRevokeKey r v s
  | .jtagLockWrite r v => Sys2Proof.Machine.execJtagLockWrite r v s
  | .registerWrite r key vals => Sys2Proof.Machine.execRegisterWrite r key vals s
  | .hostRead bar ofs lanes => Sys2Proof.Machine.execHostRead bar ofs lanes s
  | .hostWrite bar ofs lanes => Sys2Proof.Machine.execHostWrite bar ofs lanes s
  | .scrubStep mem unit addr err pass => Sys2Proof.Machine.execScrubStep mem unit addr err pass s
  | .eccClear r mem v => Sys2Proof.Machine.execEccClear r mem v s
  | .portModeWrite r p v => Sys2Proof.Machine.execPortModeWrite r p v s
  | .portDisable r p => Sys2Proof.Machine.execPortDisable r p s
  | .portEnable r p => Sys2Proof.Machine.execPortEnable r p s
  | .portQuarantine r p => Sys2Proof.Machine.execPortQuarantine r p s
  | .portReservationDone p => Sys2Proof.Machine.execPortReservationDone p s
  | .probeTimeout p => Sys2Proof.Machine.execProbeTimeout p s
  | .portUp p parallel crossed => Sys2Proof.Machine.execPortUp p parallel crossed s
  | .linkLost p => Sys2Proof.Machine.execLinkLost p s
  | .degWindowEnd p => Sys2Proof.Machine.execDegWindowEnd p s
  | .portOptionWrite r p opt v => Sys2Proof.Machine.execPortOptionWrite r p opt v s
  | .etxAnRestart p => Sys2Proof.Machine.execEtxAnRestart p s
  | .t1lResolve p partner => Sys2Proof.Machine.execT1lResolve p partner s
  | .busPolaritySwap p => Sys2Proof.Machine.execBusPolaritySwap p s
  | .idleLevelEval p mv => Sys2Proof.Machine.execIdleLevelEval p mv s
  | .recal r p v => Sys2Proof.Machine.execRecal r p v s
  | .recalDone p => Sys2Proof.Machine.execRecalDone p s
  | .roleMove r p v => Sys2Proof.Machine.execRoleMove r p v s
  | .roleMoveCancel r p => Sys2Proof.Machine.execRoleMoveCancel r p s
  | .errReport core p v => Sys2Proof.Machine.execErrReport core p v s
  | .portCntClear r p v => Sys2Proof.Machine.execPortCntClear r p v s
  | .tileLoss t => Sys2Proof.Machine.execTileLoss t s
  | .tileColdStart r t => Sys2Proof.Machine.execTileColdStart r t s
  | .tileStartPermit t => Sys2Proof.Machine.execTileStartPermit t s
  | .tileStartEnd t ok => Sys2Proof.Machine.execTileStartEnd t ok s
  | .tileAutoRestart t => Sys2Proof.Machine.execTileAutoRestart t s
  | .tileRecalibrate r t => Sys2Proof.Machine.execTileRecalibrate r t s
  | .tileUseWrite r t v => Sys2Proof.Machine.execTileUseWrite r t v s
  | .overcurrent p pin => Sys2Proof.Machine.execOvercurrent p pin s
  | .overvoltage p pin cv => Sys2Proof.Machine.execOvervoltage p pin cv s
  | .retryDelayEnd p => Sys2Proof.Machine.execRetryDelayEnd p s
  | .retryPermit p cv => Sys2Proof.Machine.execRetryPermit p cv s
  | .retryWindowEnd p => Sys2Proof.Machine.execRetryWindowEnd p s
  | .retryCountReset p => Sys2Proof.Machine.execRetryCountReset p s
  | .tdrStart r p v => Sys2Proof.Machine.execTdrStart r p v s
  | .tdrAcqEnd p => Sys2Proof.Machine.execTdrAcqEnd p s
  | .tdrProcEnd p traces => Sys2Proof.Machine.execTdrProcEnd p traces s
  | .flutterWindowEnd p inp => Sys2Proof.Machine.execFlutterWindowEnd p inp s
  | .stuckTimeout p inp => Sys2Proof.Machine.execStuckTimeout p inp s
  | .wirebreakTest p inp cv => Sys2Proof.Machine.execWirebreakTest p inp cv s
  | .supplyLowTimer t dv => Sys2Proof.Machine.execSupplyLowTimer t dv s
  | .edgeClear r p v => Sys2Proof.Machine.execEdgeClear r p v s
  | .encIndexEdge p cv held => Sys2Proof.Machine.execEncIndexEdge p cv held s
  | .encIllegalTransition p held => Sys2Proof.Machine.execEncIllegalTransition p held s
  | .encPreset r p v => Sys2Proof.Machine.execEncPreset r p v s
  | .macRxFrame m pre frame err headOut => Sys2Proof.Machine.execMacRxFrame m pre frame err headOut s
  | .pauseRx m quanta => Sys2Proof.Machine.execPauseRx m quanta s
  | .pauseExpiry m => Sys2Proof.Machine.execPauseExpiry m s
  | .tsPop agent idx => Sys2Proof.Machine.execTsPop agent idx s
  | .uplinkModeWrite r u v => Sys2Proof.Machine.execUplinkModeWrite r u v s
  | .uplinkUp u => Sys2Proof.Machine.execUplinkUp u s
  | .uplinkFault u remote => Sys2Proof.Machine.execUplinkFault u remote s
  | .uplinkFaultClear u => Sys2Proof.Machine.execUplinkFaultClear u s
  | .deviceFrameRx u frame => Sys2Proof.Machine.execDeviceFrameRx u frame s
  | .gclApply r u v => Sys2Proof.Machine.execGclApply r u v s
  | .gclChange u => Sys2Proof.Machine.execGclChange u s
  | .gclEntryEnd u => Sys2Proof.Machine.execGclEntryEnd u s
  | .macCntClear r p v => Sys2Proof.Machine.execMacCntClear r p v s
  | .upCntClear r u v => Sys2Proof.Machine.execUpCntClear r u v s
  | .txSend core p buf => Sys2Proof.Machine.execTxSend core p buf s
  | .txAbort core p buf => Sys2Proof.Machine.execTxAbort core p buf s
  | .busSelect p => Sys2Proof.Machine.execBusSelect p s
  | .busAttemptEnd p res tdc => Sys2Proof.Machine.execBusAttemptEnd p res tdc s
  | .busRxFrame p w0 w1 data ago => Sys2Proof.Machine.execBusRxFrame p w0 w1 data ago s
  | .protocolException p => Sys2Proof.Machine.execProtocolException p s
  | .busRxLockRead core p obj => Sys2Proof.Machine.execBusRxLockRead core p obj s
  | .busRxRelease core p obj v => Sys2Proof.Machine.execBusRxRelease core p obj v s
  | .busRefill p => Sys2Proof.Machine.execBusRefill p s
  | .busRecover by_ p v => Sys2Proof.Machine.execBusRecover by_ p v s
  | .busRecoveryDone p => Sys2Proof.Machine.execBusRecoveryDone p s
  | .busDoneClear core p hi v => Sys2Proof.Machine.execBusDoneClear core p hi v s
  | .busTimingWrite r p el v => Sys2Proof.Machine.execBusTimingWrite r p el v s
  | .listenOnlyWrite r p v => Sys2Proof.Machine.execListenOnlyWrite r p v s
  | .busCntClear r p v => Sys2Proof.Machine.execBusCntClear r p v s
  | .rnJmp ch dly addr => Sys2Proof.Machine.execRnJmp ch dly addr s
  | .rnJcond ch dly cond ofs lin => Sys2Proof.Machine.execRnJcond ch dly cond ofs lin s
  | .rnWait ch dly mode ivb lin => Sys2Proof.Machine.execRnWait ch dly mode ivb lin s
  | .inRhr ch dly toY nb => Sys2Proof.Machine.execInRhr ch dly toY nb s
  | .inReport ch dly toY w => Sys2Proof.Machine.execInReport ch dly toY w s
  | .inIv ch dly toY lin => Sys2Proof.Machine.execInIv ch dly toY lin s
  | .inTime ch dly toY => Sys2Proof.Machine.execInTime ch dly toY s
  | .rnOut ch dly cont source lit => Sys2Proof.Machine.execRnOut ch dly cont source lit s
  | .rnMov ch dly dst source lin => Sys2Proof.Machine.execRnMov ch dly dst source lin s
  | .rnPush ch dly last bad cnt fromY nb => Sys2Proof.Machine.execRnPush ch dly last bad cnt fromY nb s
  | .rnPull ch dly toY nb => Sys2Proof.Machine.execRnPull ch dly toY nb s
  | .setDrv ch dly v => Sys2Proof.Machine.execSetDrv ch dly v s
  | .setX ch dly v => Sys2Proof.Machine.execSetX ch dly v s
  | .setY ch dly v => Sys2Proof.Machine.execSetY ch dly v s
  | .setLine ch dly v => Sys2Proof.Machine.execSetLine ch dly v s
  | .setRxctl ch dly v => Sys2Proof.Machine.execSetRxctl ch dly v s
  | .setTsarm ch dly v => Sys2Proof.Machine.execSetTsarm ch dly v s
  | .setBitph ch dly v => Sys2Proof.Machine.execSetBitph ch dly v s
  | .setSc ch dly v => Sys2Proof.Machine.execSetSc ch dly v s
  | .ctlIrq ch dly v => Sys2Proof.Machine.execCtlIrq ch dly v s
  | .ctlSync ch dly v => Sys2Proof.Machine.execCtlSync ch dly v s
  | .ctlDelay ch dly v => Sys2Proof.Machine.execCtlDelay ch dly v s
  | .ctlSafe ch dly v => Sys2Proof.Machine.execCtlSafe ch dly v s
  | .ctlHalt ch dly v => Sys2Proof.Machine.execCtlHalt ch dly v s
  | .rnIllegal ch poisoned => Sys2Proof.Machine.execRnIllegal ch poisoned s
  | .rxSymbolComplete ch samples => Sys2Proof.Machine.execRxSymbolComplete ch samples s
  | .txSymbolEnd ch => Sys2Proof.Machine.execTxSymbolEnd ch s
  | .winProg r e w image => Sys2Proof.Machine.execWinProg r e w image s
  | .winSwapWait by_ e w => Sys2Proof.Machine.execWinSwapWait by_ e w s
  | .winSwapNow by_ e w => Sys2Proof.Machine.execWinSwapNow by_ e w s
  | .winSwapForce by_ e w => Sys2Proof.Machine.execWinSwapForce by_ e w s
  | .winSwapCancel by_ e w => Sys2Proof.Machine.execWinSwapCancel by_ e w s
  | .channelFlip ch => Sys2Proof.Machine.execChannelFlip ch s
  | .engStart by_ e mask => Sys2Proof.Machine.execEngStart by_ e mask s
  | .engBitsync by_ e mask => Sys2Proof.Machine.execEngBitsync by_ e mask s
  | .armActionArm by_ e => Sys2Proof.Machine.execArmActionArm by_ e s
  | .armActionCancel by_ e => Sys2Proof.Machine.execArmActionCancel by_ e s
  | .armActionLand e => Sys2Proof.Machine.execArmActionLand e s
  | .stallWatchdog ch => Sys2Proof.Machine.execStallWatchdog ch s
  | .chStart by_ ch => Sys2Proof.Machine.execChStart by_ ch s
  | .chHalt by_ ch => Sys2Proof.Machine.execChHalt by_ ch s
  | .chRestart by_ ch => Sys2Proof.Machine.execChRestart by_ ch s
  | .rxPop core ch => Sys2Proof.Machine.execRxPop core ch s
  | .txPush core ch v => Sys2Proof.Machine.execTxPush core ch v s
  | .chFlagsClear by_ ch v => Sys2Proof.Machine.execChFlagsClear by_ ch v s
  | .runCntClear r ch v => Sys2Proof.Machine.execRunCntClear r ch v s
  | .pair core opa xa ya opb xb yb z0 => Sys2Proof.Machine.execPair core opa xa ya opb xb yb z0 s
  | .nop core => Sys2Proof.Machine.execNop core s
  | .addi core rd rs imm => Sys2Proof.Machine.execAddi core rd rs imm s
  | .cmpi core rs imm => Sys2Proof.Machine.execCmpi core rs imm s
  | .andi core rd rs imm => Sys2Proof.Machine.execAndi core rd rs imm s
  | .ori core rd rs imm => Sys2Proof.Machine.execOri core rd rs imm s
  | .xori core rd rs imm => Sys2Proof.Machine.execXori core rd rs imm s
  | .shli core rd rs imm => Sys2Proof.Machine.execShli core rd rs imm s
  | .shri core rd rs imm => Sys2Proof.Machine.execShri core rd rs imm s
  | .sari core rd rs imm => Sys2Proof.Machine.execSari core rd rs imm s
  | .ld core rd rs imm => Sys2Proof.Machine.execLd core rd rs imm s
  | .st core rd rs imm => Sys2Proof.Machine.execSt core rd rs imm s
  | .lda core rd n imm => Sys2Proof.Machine.execLda core rd n imm s
  | .sta core rd n imm => Sys2Proof.Machine.execSta core rd n imm s
  | .mfs core rd sr => Sys2Proof.Machine.execMfs core rd sr s
  | .mts core sr rs => Sys2Proof.Machine.execMts core sr rs s
  | .mova core n rs imm => Sys2Proof.Machine.execMova core n rs imm s
  | .mfa core rd n imm => Sys2Proof.Machine.execMfa core rd n imm s
  | .push core rd => Sys2Proof.Machine.execPush core rd s
  | .pop core rd => Sys2Proof.Machine.execPop core rd s
  | .add core rd rs rt => Sys2Proof.Machine.execAdd core rd rs rt s
  | .sub core rd rs rt => Sys2Proof.Machine.execSub core rd rs rt s
  | .adc core rd rs rt => Sys2Proof.Machine.execAdc core rd rs rt s
  | .sbc core rd rs rt => Sys2Proof.Machine.execSbc core rd rs rt s
  | .and core rd rs rt => Sys2Proof.Machine.execAnd core rd rs rt s
  | .or core rd rs rt => Sys2Proof.Machine.execOr core rd rs rt s
  | .xor core rd rs rt => Sys2Proof.Machine.execXor core rd rs rt s
  | .shl core rd rs rt => Sys2Proof.Machine.execShl core rd rs rt s
  | .shr core rd rs rt => Sys2Proof.Machine.execShr core rd rs rt s
  | .sar core rd rs rt => Sys2Proof.Machine.execSar core rd rs rt s
  | .cmp core rs rt => Sys2Proof.Machine.execCmp core rs rt s
  | .mul core rs rt => Sys2Proof.Machine.execMul core rs rt s
  | .mulu core rs rt => Sys2Proof.Machine.execMulu core rs rt s
  | .mac core rs rt => Sys2Proof.Machine.execMac core rs rt s
  | .mulLand core => Sys2Proof.Machine.execMulLand core s
  | .ldx core rd rs rt => Sys2Proof.Machine.execLdx core rd rs rt s
  | .stx core rd rs rt => Sys2Proof.Machine.execStx core rd rs rt s
  | .ldar core rd n rt => Sys2Proof.Machine.execLdar core rd n rt s
  | .star core rd n rt => Sys2Proof.Machine.execStar core rd n rt s
  | .cvbd core rd rs => Sys2Proof.Machine.execCvbd core rd rs s
  | .cvdb core rd rs => Sys2Proof.Machine.execCvdb core rd rs s
  | .freq core rd rs rt => Sys2Proof.Machine.execFreq core rd rs rt s
  | .farDone core tag => Sys2Proof.Machine.execFarDone core tag s
  | .farTimeout core tag => Sys2Proof.Machine.execFarTimeout core tag s
  | .fwait core rd rs => Sys2Proof.Machine.execFwait core rd rs s
  | .fpoll core rd rs => Sys2Proof.Machine.execFpoll core rd rs s
  | .waitmb core rd rs => Sys2Proof.Machine.execWaitmb core rd rs s
  | .waitmbRelease core => Sys2Proof.Machine.execWaitmbRelease core s
  | .addd core rd rs rt => Sys2Proof.Machine.execAddd core rd rs rt s
  | .subd core rd rs rt => Sys2Proof.Machine.execSubd core rd rs rt s
  | .daj core rd rs rt => Sys2Proof.Machine.execDaj core rd rs rt s
  | .bcondLow core cond ofs => Sys2Proof.Machine.execBcondLow core cond ofs s
  | .bcondHigh core cond ofs => Sys2Proof.Machine.execBcondHigh core cond ofs s
  | .jmp core target => Sys2Proof.Machine.execJmp core target s
  | .call core target => Sys2Proof.Machine.execCall core target s
  | .jr core rs => Sys2Proof.Machine.execJr core rs s
  | .callr core rs => Sys2Proof.Machine.execCallr core rs s
  | .ret core => Sys2Proof.Machine.execRet core s
  | .reti core => Sys2Proof.Machine.execReti core s
  | .wait core => Sys2Proof.Machine.execWait core s
  | .setgie core b => Sys2Proof.Machine.execSetgie core b s
  | .lit core rd lit => Sys2Proof.Machine.execLit core rd lit s
  | .addl core rd rs lit => Sys2Proof.Machine.execAddl core rd rs lit s
  | .andl core rd rs lit => Sys2Proof.Machine.execAndl core rd rs lit s
  | .orl core rd rs lit => Sys2Proof.Machine.execOrl core rd rs lit s
  | .xorl core rd rs lit => Sys2Proof.Machine.execXorl core rd rs lit s
  | .cmpl core rs lit => Sys2Proof.Machine.execCmpl core rs lit s
  | .illegalWord core literal => Sys2Proof.Machine.execIllegalWord core literal s
  | .interruptEntry core => Sys2Proof.Machine.execInterruptEntry core s
  | .bankArm core mask => Sys2Proof.Machine.execBankArm core mask s
  | .bankCancel core => Sys2Proof.Machine.execBankCancel core s
  | .bankNow core => Sys2Proof.Machine.execBankNow core s
  | .timerExpiry core => Sys2Proof.Machine.execTimerExpiry core s
  | .wdogWarn core => Sys2Proof.Machine.execWdogWarn core s
  | .wdogExpiry core => Sys2Proof.Machine.execWdogExpiry core s
  | .coreStart r core => Sys2Proof.Machine.execCoreStart r core s
  | .coreHold r core => Sys2Proof.Machine.execCoreHold r core s
  | .coreReset r core => Sys2Proof.Machine.execCoreReset r core s
  | .ctxBind r c => Sys2Proof.Machine.execCtxBind r c s
  | .ctxStart r c => Sys2Proof.Machine.execCtxStart r c s
  | .ctxStop r c => Sys2Proof.Machine.execCtxStop r c s
  | .ctxUnbind r c => Sys2Proof.Machine.execCtxUnbind r c s
  | .ctxRestart r c => Sys2Proof.Machine.execCtxRestart r c s
  | .ctxRestoreDone c => Sys2Proof.Machine.execCtxRestoreDone c s
  | .contextBoundary c => Sys2Proof.Machine.execContextBoundary c s
  | .cyclePoint c j => Sys2Proof.Machine.execCyclePoint c j s
  | .ctxDone agent c => Sys2Proof.Machine.execCtxDone agent c s
  | .deadlineMiss c => Sys2Proof.Machine.execDeadlineMiss c s
  | .cpPendingClear agent c v => Sys2Proof.Machine.execCpPendingClear agent c v s
  | .ckptReq agent c v => Sys2Proof.Machine.execCkptReq agent c v s
  | .ckptDone c => Sys2Proof.Machine.execCkptDone c s
  | .ctxMigrate r c v => Sys2Proof.Machine.execCtxMigrate r c v s
  | .migrationLand c => Sys2Proof.Machine.execMigrationLand c s
  | .migrationAbort c => Sys2Proof.Machine.execMigrationAbort c s
  | .ctxPersSwap r c v => Sys2Proof.Machine.execCtxPersSwap r c v s
  | .persSwapCancel c => Sys2Proof.Machine.execPersSwapCancel c s
  | .persDelete r j v => Sys2Proof.Machine.execPersDelete r j v s
  | .ctxCntClear r c v => Sys2Proof.Machine.execCtxCntClear r c v s
  | .parserLookup inp => Sys2Proof.Machine.execParserLookup inp s
  | .cellArrive out inp cnt => Sys2Proof.Machine.execCellArrive out inp cnt s
  | .outputFrameStart o => Sys2Proof.Machine.execOutputFrameStart o s
  | .outputUnderrun o => Sys2Proof.Machine.execOutputUnderrun o s
  | .ringRxDeliver ep => Sys2Proof.Machine.execRingRxDeliver ep s
  | .ringTxSend ep => Sys2Proof.Machine.execRingTxSend ep s
  | .meterClear r m v => Sys2Proof.Machine.execMeterClear r m v s
  | .qCntClear r q v => Sys2Proof.Machine.execQCntClear r q v s
  | .peakClear r q v => Sys2Proof.Machine.execPeakClear r q v s
  | .freeMinReset r v => Sys2Proof.Machine.execFreeMinReset r v s
  | .scatterCommit => Sys2Proof.Machine.execScatterCommit s
  | .sweepEntry => Sys2Proof.Machine.execSweepEntry s
  | .contestClear r reg v => Sys2Proof.Machine.execContestClear r reg v s
  | .regClear r reg v => Sys2Proof.Machine.execRegClear r reg v s
  | .regClearDone reg => Sys2Proof.Machine.execRegClearDone reg s
  | .regionWrite r reg el v => Sys2Proof.Machine.execRegionWrite r reg el v s
  | .templateFire n => Sys2Proof.Machine.execTemplateFire n s
  | .regCntClear r reg v => Sys2Proof.Machine.execRegCntClear r reg v s
  | .cellarCntClear r v => Sys2Proof.Machine.execCellarCntClear r v s
  | .tbIncrWrite r n v => Sys2Proof.Machine.execTbIncrWrite r n v s
  | .tbOffsetWrite r n v => Sys2Proof.Machine.execTbOffsetWrite r n v s
  | .tbSetWrite r n w0 w1 w2 w3 => Sys2Proof.Machine.execTbSetWrite r n w0 w1 w2 w3 s
  | .tbSyncedWrite r n v => Sys2Proof.Machine.execTbSyncedWrite r n v s
  | .syncLossTimeout n => Sys2Proof.Machine.execSyncLossTimeout n s
  | .tbReserveWrite r n v => Sys2Proof.Machine.execTbReserveWrite r n v s
  | .tbSwitchReserve r n => Sys2Proof.Machine.execTbSwitchReserve r n s
  | .tbSwitchOwn r n => Sys2Proof.Machine.execTbSwitchOwn r n s
  | .revertHoldEnd n => Sys2Proof.Machine.execRevertHoldEnd n s
  | .convergedReserve n => Sys2Proof.Machine.execConvergedReserve n s
  | .convergedOwn n => Sys2Proof.Machine.execConvergedOwn n s
  | .disciplineWrite r which v => Sys2Proof.Machine.execDisciplineWrite r which v s
  | .tileAlignCheck t ps crcErrs => Sys2Proof.Machine.execTileAlignCheck t ps crcErrs s
  | .ppsInEdge pps rising phase => Sys2Proof.Machine.execPpsInEdge pps rising phase s
  | .ppsOutEdge pps => Sys2Proof.Machine.execPpsOutEdge pps s
  | .ppsPop agent pps => Sys2Proof.Machine.execPpsPop agent pps s
  | .tbCntClear r n v => Sys2Proof.Machine.execTbCntClear r n v s
  | .segStart r s_ => Sys2Proof.Machine.execSegStart r s_ s
  | .segStop r s_ => Sys2Proof.Machine.execSegStop r s_ s
  | .listenTimeout s_ => Sys2Proof.Machine.execListenTimeout s_ s
  | .backoffEnd s_ => Sys2Proof.Machine.execBackoffEnd s_ s
  | .slotTemplateFire s_ slot => Sys2Proof.Machine.execSlotTemplateFire s_ slot s
  | .slotSend s_ slot => Sys2Proof.Machine.execSlotSend s_ slot s
  | .slotEnd s_ slot atStart atEnd starts frame => Sys2Proof.Machine.execSlotEnd s_ slot atStart atEnd starts frame s
  | .cycleEnd s_ => Sys2Proof.Machine.execCycleEnd s_ s
  | .slotMapWrite r s_ image => Sys2Proof.Machine.execSlotMapWrite r s_ image s
  | .segCntClear r s_ v => Sys2Proof.Machine.execSegCntClear r s_ v s
  | .groupUpdate g reached => Sys2Proof.Machine.execGroupUpdate g reached s
  | .commandFrame => Sys2Proof.Machine.execCommandFrame s
  | .axCmd r a rec_ => Sys2Proof.Machine.execAxCmd r a rec_ s
  | .jogTimeout a => Sys2Proof.Machine.execJogTimeout a s
  | .axisParamWrite r a el v => Sys2Proof.Machine.execAxisParamWrite r a el v s
  | .axUseWrite r a v => Sys2Proof.Machine.execAxUseWrite r a v s
  | .mVelWrite r m v => Sys2Proof.Machine.execMVelWrite r m v s
  | .axCntClear r a v => Sys2Proof.Machine.execAxCntClear r a v s
  | .mailboxPost src dst mbx body hdr => Sys2Proof.Machine.execMailboxPost src dst mbx body hdr s
  | .mailboxAck ep mbx => Sys2Proof.Machine.execMailboxAck ep mbx s
  | .mailboxRelease ep mbx v => Sys2Proof.Machine.execMailboxRelease ep mbx v s
  | .collideClear ep mbx v => Sys2Proof.Machine.execCollideClear ep mbx v s
  | .doorbellRing bell v => Sys2Proof.Machine.execDoorbellRing bell v s
  | .doorbellRead ep => Sys2Proof.Machine.execDoorbellRead ep s
  | .hostReset v => Sys2Proof.Machine.execHostReset v s
  | .pendSet core w v => Sys2Proof.Machine.execPendSet core w v s
  | .pendClr core w v => Sys2Proof.Machine.execPendClr core w v s
  | .maskSet core w v => Sys2Proof.Machine.execMaskSet core w v s
  | .maskClr core w v => Sys2Proof.Machine.execMaskClr core w v s
  | .imodExpiry core => Sys2Proof.Machine.execImodExpiry core s
  | .gatherEdge source => Sys2Proof.Machine.execGatherEdge source s
  | .gcEnWrite agent w v => Sys2Proof.Machine.execGcEnWrite agent w v s
  | .gcPendClr w v => Sys2Proof.Machine.execGcPendClr w v s
  | .gcPendSet w v => Sys2Proof.Machine.execGcPendSet w v s
  | .msixUnmask vec => Sys2Proof.Machine.execMsixUnmask vec s
  | .logPost core v => Sys2Proof.Machine.execLogPost core v s
  | .consoleLine => Sys2Proof.Machine.execConsoleLine s
  | .fwPrepare r v => Sys2Proof.Machine.execFwPrepare r v s
  | .fwEraseDone => Sys2Proof.Machine.execFwEraseDone s
  | .fwActivateRestart r => Sys2Proof.Machine.execFwActivateRestart r s
  | .fwActivateLive r => Sys2Proof.Machine.execFwActivateLive r s
  | .activationTimeout => Sys2Proof.Machine.execActivationTimeout s
  | .roleHolderWrite r role v => Sys2Proof.Machine.execRoleHolderWrite r role v s
  | .smbStatus pec => Sys2Proof.Machine.execSmbStatus pec s
  | .smbAlertClear data pec => Sys2Proof.Machine.execSmbAlertClear data pec s
  | .smbDictReq data pec => Sys2Proof.Machine.execSmbDictReq data pec s
  | .smbDictResp pec => Sys2Proof.Machine.execSmbDictResp pec s
  | .smbT0 pec => Sys2Proof.Machine.execSmbT0 pec s
  | .smbLog data pec => Sys2Proof.Machine.execSmbLog data pec s
  | .smbRing data pec => Sys2Proof.Machine.execSmbRing data pec s
  | .smbHold data pec => Sys2Proof.Machine.execSmbHold data pec s
  | .smbRestart data pec => Sys2Proof.Machine.execSmbRestart data pec s
  | .smbDomainOff data pec => Sys2Proof.Machine.execSmbDomainOff data pec s
  | .smbWake data pec => Sys2Proof.Machine.execSmbWake data pec s
  | .smbClearFail data pec => Sys2Proof.Machine.execSmbClearFail data pec s
  | .smbAlertResponse => Sys2Proof.Machine.execSmbAlertResponse s
  | .sumpRestart r v => Sys2Proof.Machine.execSumpRestart r v s
  | .alertClear r v => Sys2Proof.Machine.execAlertClear r v s
  | .clearFail r v => Sys2Proof.Machine.execClearFail r v s
  | .dinSample p cv => Sys2Proof.Machine.execDinSample p cv s
  | .encEdge p a b held => Sys2Proof.Machine.execEncEdge p a b held s
  | .degradingCondition p q => Sys2Proof.Machine.execDegradingCondition p q s
  | .busRxError p code more => Sys2Proof.Machine.execBusRxError p code more s
  | .outputFrameEnd o => Sys2Proof.Machine.execOutputFrameEnd o s
  | .listenFrameReceived s_ ago frame => Sys2Proof.Machine.execListenFrameReceived s_ ago frame s
  | .perstRelease => Sys2Proof.Machine.execPerstRelease s
  | .brownOutReturn rail => Sys2Proof.Machine.execBrownOutReturn rail s
  | .vtfPresenceChange t present dv => Sys2Proof.Machine.execVtfPresenceChange t present dv s
  | .jtagInstruction ir => Sys2Proof.Machine.execJtagInstruction ir s

end Sys2Proof.Machine
end

