-- ==== Sys2Proof/Machine/UluenWords.lean ====
section
/-! DEFINITION. The words of the Uluen-24 instruction set: which command each spells (spec 11, R303 to R305, R312 to R314). -/
namespace Sys2Proof.Machine

/-- Bits n + m - 1 to n of an Uluen-24 word, and the general registers of its fields. -/
def fld (w : Word) (n m : Nat) : Nat := w.toNat / 2 ^ n % 2 ^ m
def gReg (w : Word) (n : Nat) : Fin 16 := Fin.ofNat 16 (fld w n 4)

/-- A core runs an Uluen-24 word, the command that it spells: F in [23], a pair's fields (R303), or a long form with its opcode in [22:17] and the fields of
R304, reserved fields ignored; `lit` is the next word, the literal of a LIT form. Opcodes 0x13 and 0x2F are ILLEGAL_WORD (R305). -/
def uluenWord (core : Fin 20) (w lit : Word) (s : State) : Host.Outcome State Fault Refusal :=
  if w.getLsbD 23 then
    execPair core (w.extractLsb' 18 5) (w.extractLsb' 15 3) (w.extractLsb' 12 3) (w.extractLsb' 7 5) (w.extractLsb' 4 3) (w.extractLsb' 1 3) (w.getLsbD 0) s
  else
  let rd := gReg w 13
  let rs := gReg w 9
  let rt := gReg w 5
  let imm : BitVec 9 := w.extractLsb' 0 9
  let sr : Fin 32 := Fin.ofNat 32 (fld w 0 5)
  let an : Fin 4 := Fin.ofNat 4 (fld w 9 2)
  let cond : Fin 8 := Fin.ofNat 8 (fld w 14 3)
  let ofs : BitVec 14 := w.extractLsb' 0 14
  let target : BitVec 15 := w.extractLsb' 0 15
  match fld w 17 6 with
  | 0x00 => execNop core s
  | 0x01 => execAddi core rd rs imm s
  | 0x02 => execCmpi core rs imm s
  | 0x03 => execAndi core rd rs imm s
  | 0x04 => execOri core rd rs imm s
  | 0x05 => execXori core rd rs imm s
  | 0x06 => execShli core rd rs imm s
  | 0x07 => execShri core rd rs imm s
  | 0x08 => execSari core rd rs imm s
  | 0x09 => execLd core rd rs imm s
  | 0x0A => execSt core rd rs imm s
  | 0x0B => execLda core rd an imm s
  | 0x0C => execSta core rd an imm s
  | 0x0D => execMfs core rd sr s
  | 0x0E => execMts core sr rs s
  | 0x0F => execMova core (Fin.ofNat 4 (fld w 13 2)) rs imm s
  | 0x10 => execMfa core rd an imm s
  | 0x11 => execPush core rd s
  | 0x12 => execPop core rd s
  | 0x14 => execAdd core rd rs rt s
  | 0x15 => execSub core rd rs rt s
  | 0x16 => execAdc core rd rs rt s
  | 0x17 => execSbc core rd rs rt s
  | 0x18 => execAnd core rd rs rt s
  | 0x19 => execOr core rd rs rt s
  | 0x1A => execXor core rd rs rt s
  | 0x1B => execShl core rd rs rt s
  | 0x1C => execShr core rd rs rt s
  | 0x1D => execSar core rd rs rt s
  | 0x1E => execCmp core rs rt s
  | 0x1F => execMul core rs rt s
  | 0x20 => execMulu core rs rt s
  | 0x21 => execMac core rs rt s
  | 0x22 => execLdx core rd rs rt s
  | 0x23 => execStx core rd rs rt s
  | 0x24 => execLdar core rd an rt s
  | 0x25 => execStar core rd an rt s
  | 0x26 => execCvbd core rd rs s
  | 0x27 => execCvdb core rd rs s
  | 0x28 => execFreq core rd rs rt s
  | 0x29 => execFwait core rd rs s
  | 0x2A => execFpoll core rd rs s
  | 0x2B => execWaitmb core rd rs s
  | 0x2C => execAddd core rd rs rt s
  | 0x2D => execSubd core rd rs rt s
  | 0x2E => execDaj core rd rs rt s
  | 0x30 => execBcondLow core cond ofs s
  | 0x31 => execBcondHigh core cond ofs s
  | 0x32 => execJmp core target s
  | 0x33 => execCall core target s
  | 0x34 => execJr core rs s
  | 0x35 => execCallr core rs s
  | 0x36 => execRet core s
  | 0x37 => execReti core s
  | 0x38 => execWait core s
  | 0x39 => execSetgie core (w.getLsbD 0) s
  | 0x3A => execLit core rd lit s
  | 0x3B => execAddl core rd rs lit s
  | 0x3C => execAndl core rd rs lit s
  | 0x3D => execOrl core rd rs lit s
  | 0x3E => execXorl core rd rs lit s
  | 0x3F => execCmpl core rs lit s
  | _ => execIllegalWord core false s

/-- Does an Uluen-24 word take the next word as its literal (R304)? -/
def hasLiteral (w : Word) : Bool := !w.getLsbD 23 && decide (0x3A ≤ fld w 17 6)

/-- A core fetches and runs: the word at pc of its active bank, with the next word where it is a literal; a poisoned one of them is illegal (R305).
An idle step runs the cores' programs so; the commands that a program's words spell also come from the queue one by one (log entry 46). -/
def uluenFetch (core : Fin 20) (s : State) : Host.Outcome State Fault Refusal :=
  let d := s.dev
  let a := fun (k : Nat) => bankAddr core (d.activeOf core) (((d.core core).pc.toNat + k) % 0x8000)
  let w : Word := word (d.ld (a 0))
  if d.poisoned (a 0) then execIllegalWord core false s
  else if hasLiteral w && d.poisoned (a 1) then execIllegalWord core true s
  else uluenWord core w (word (d.ld (a 1))) s

/-- A core goes on with its program: the word at its pc, where the core issues in the cycle that T0 has reached (R10). -/
def State.coreGoes (s : State) (core : Fin 20) : State :=
  if !s.dev.issues core || (s.dev.now - (s.dev.core core).resetAt) / 2 < (s.dev.core core).cyc then s else
  match uluenFetch core s with
  | .next t => { s with dev := t.dev }
  | _ => s

/-- The cores go on with their programs, in the order of their numbers (log entry 46). -/
def State.programs (s : State) : State := (List.finRange 20).foldl State.coreGoes s

/-- A tick that no command fills: the cores go on with their programs, T0 advances, and the RX FIFOs drain. -/
def State.idle (s : State) : State := { s.programs with dev := s.programs.dev.idle }

end Sys2Proof.Machine
end

