-- ==== Sys2Proof/Machine/Step.lean ====
section
/-! DEFINITION. One step: the command at the front of the queue, or, while none waits, the words of the cores that are due and one tick (log entries 1 and 46). -/
namespace Sys2Proof.Machine

/-- Run the command at the front of the queue; with none waiting, the cores go on with their programs (spec 11, R303 to R305), T0 advances by one
tick (spec 01, R12), and RX FIFOs drain. -/
def step (s : State) : Host.Outcome State Fault Refusal :=
  match s.pending with
  | [] => .next s.idle
  | c :: rest => exec c { s with pending := rest }

/-- The command that a table word spells, in front of the queue. -/
def State.withFetchWord (s : State) (nbits w : Nat) : State :=
  match Sys2Proof.decodeTableWord nbits w with
  | some c => { s with pending := c :: s.pending }
  | none => s

end Sys2Proof.Machine
end

