-- ==== Sys2Proof/Safety.lean ====
section
/-! DEFINITION. The terms that statements use: a command's outcome, a request that the dictionary takes, a block that has nothing
left to do, and what holds of every state. -/
namespace Sys2Proof.Machine

/-! ### Commands -/

/-- The block as a command finds it: the number that its effect will take is noted (spec 03, R80). -/
def State.cmd (s : State) : Dev := s.dev.markNext

/-- The state once a command has done d and what follows within the command has happened (log entry 9). -/
def State.after (s : State) (d : Dev) : State := { s with dev := d.settle }

/-- The state with another block and the same queue: the outcome of a command from which nothing follows. -/
def State.withDev (s : State) (d : Dev) : State := { s with dev := d }

/-- Every command that waits is well formed. -/
def State.wellQueued (s : State) : Bool := s.pending.all Instr.wellFormed

/-- Some number of steps, the outcome of the last; a stop ends them. -/
def runSteps : Nat → State → Host.Outcome State Fault Refusal
  | 0, s => .next s
  | n + 1, s => match step s with
    | .next t => runSteps n t
    | o => o

/-! ### Requests of the dictionary (spec 03, R73 to R83) -/

/-- Words as the numbers of a request. -/
def natsOf (w : List Word) : List Nat := w.map fun x => x.toNat

/-- The transaction of a request. -/
def Dev.txOf (d : Dev) (r : Src) (op key arg : Nat) (w : List Nat) : Tx :=
  let d := { d with free := d.free + 512 }
  { src := r, op := op, key := key, started := d.now, wait := waitFor d r op key (w.getD 0 0), args := arg :: w }

/-- Does the dictionary service take a request at once: its keeper runs (R564), its path is one of those with a level (R72, R78), there is room and
the number is not in use (R80), no earlier transaction stands in the way (R81), and its payload has at most 61 words (R74)? -/
def State.takes (s : State) (r : Src) (op key arg : Nat) (w : List Nat) : Bool :=
  let d := s.cmd
  d.served 0 && (match r.via with
    | .smbus => false
    | .aapOpen _ _ => false
    | _ => true) &&
  decide (d.dict.inflight.length < 256) && !(d.dict.inflight.any fun t => t.src == r) &&
  !({ d with free := d.free + 512 }).blocked (d.txOf r op key arg w) && decide (w.length ≤ 61)

/-- The block with the request taken, before its operation. -/
def State.taken (s : State) (r : Src) (op key arg : Nat) (w : List Nat) : Dev :=
  let d := s.cmd
  (({ d with free := d.free + 512 }).keepTx (d.txOf r op key arg w)).modDict fun x => { x with took := none }

/-- The state once the operation of a request has left the block d and answered a (R80, R83): its completion goes out on its path. -/
def State.answers (s : State) (r : Src) (op key arg : Nat) (w : List Nat) (d : Dev) (a : Ans) : State :=
  s.after ((d.finish (s.cmd.txOf r op key arg w) s.dev.seq a).modDict fun x => { x with took := none })

/-- The state once a WRITE has had its effect d: DONE, and the poison of its saved copy is gone (R119). -/
def State.wrote (s : State) (r : Src) (key : Nat) (w : List Nat) (d : Dev) : State :=
  s.answers r 2 key 0 w (d.atticWritten key) (ans Stat.done)

/-- A WRITE of a key that the service takes, from a path that holds the level that the object needs (R72) and whose context is not
quarantined (R323). -/
def State.opens (s : State) (r : Src) (key : Nat) (w : List Nat) (level : Nat) : Bool :=
  s.takes r 2 key 0 w && !(s.taken r 2 key 0 w).barred r.via key && decide (level ≤ (s.taken r 2 key 0 w).pathLevel r.via)

/-- A whole DOM in one request (R77) that the service takes, from a path that holds the level that the object needs, while no transfer of it is open (R77). -/
def State.puts (s : State) (r : Src) (key level : Nat) : Bool :=
  let d := s.taken r 9 key 0 []
  s.takes r 9 key 0 [] && !d.barred r.via key && decide (level ≤ d.pathLevel r.via) &&
    !(d.freshPuts.dict.puts.any fun p => p.key == key && (p.via != r.via || !p.data.isEmpty))

/-- The block before the effect of a whole DOM. -/
def State.putting (s : State) (r : Src) (key : Nat) : Dev := ((s.taken r 9 key 0 []).freshPuts).dropPut key

/-- The state once a whole DOM has had its effect d. -/
def State.placed (s : State) (r : Src) (key : Nat) (d : Dev) : State := s.answers r 9 key 0 [] (d.dropPut key) (ans Stat.done)

/-! ### Instructions of a core (spec 10, R274, R303, R318) -/

/-- Core c issues its next instruction, which reads these registers, in cycle n, and no access is outstanding then. -/
def State.issuesIn (s : State) (c n : Nat) (regs : List (Fin 16)) (srs : List Nat) : Bool :=
  let x := s.dev.core c
  s.dev.issues c && n == x.issueAt (s.dev.cycleOf c) { regs := regs, srs := srs } && decide (x.accEnds ≤ n)

/-- Core c issues an instruction that accesses memory in cycle n, after any outstanding access. -/
def State.accessIn (s : State) (c n : Nat) : Bool :=
  s.dev.issues c && n == (s.dev.core c).issueAt (s.dev.cycleOf c) { mem := true }

/-- The registers of a core in cycle n, before the instruction that issues in it: the multiplications due have landed (R284). -/
def Core.atCycle (x : Core) (n : Nat) : Core := { x.landBefore n with cyc := n }

/-- The state once core c has changed its registers by an instruction that issued in cycle n for `cost` cycles: nothing else changes. -/
def State.ran (s : State) (c n cost : Nat) (f : Core → Core) : State :=
  s.withDev (s.dev.modCore c fun x => { f (x.atCycle n) with cyc := n + cost })

/-- The block with the registers of core c as they stand in cycle n. -/
def State.inCycle (s : State) (c n : Nat) : Dev := s.cmd.modCore c fun x => x.atCycle n

/-- The next instruction of core c may issue in cycle n. -/
def Dev.goesOn (d : Dev) (c n : Nat) : Dev := d.modCore c fun x => { x with cyc := n }

/-- The block once a load of a local data word in cycle n has had its effect, with the step of an address register (R274, R282). -/
def Dev.loaded (d : Dev) (c n : Nat) (rd : Fin 16) (a : Nat) (step : Core → Core) : Dev :=
  let v := word (d.ld (localAddr c a))
  d.modCore c fun x => { (step (x.atCycle n)).next.setReg rd v with accEnds := n + 2, accReg := rd.val, accSr := none, cyc := n + 1 }

/-- The block once a store to a local data word in cycle n has had its effect. -/
def Dev.stored (d : Dev) (c n a : Nat) (v : Word) (step : Core → Core) : Dev :=
  (((d.modCore c fun x => (step (x.atCycle n)).next).st (localAddr c a) v.toNat).winTouched c a).modCore c fun x =>
    { x with accEnds := n + 2, accReg := 0, accSr := none, cyc := n + 1 }

/-! ### Slots of a runnel channel (spec 09, R231) -/

/-- The block at the slot in which a channel issues. -/
def State.slot (s : State) (ch : Nat) : Dev := s.cmd.upTo (((s.cmd.chan ch).issueAt + 2) / 3)

/-! ### A block with nothing left to do -/

/-- A core that does nothing of itself at its boundary: the far request it waits for is not done, it is not in WAIT with GIE 0, and no bank swap is due (R288,
R293, R299). -/
def Dev.coreQuiet (d : Dev) (c : Nat) : Bool :=
  let x := d.core c
  match x.wait with
  | .none => !(x.swapPending && x.swapNow)
  | .far _ t => (x.farDoneAt t).isNone
  | .wait => x.gieAt (d.cycleOf c)
  | .mailbox _ _ _ => true

/-- A port that no error count and no condition degrades (R127). -/
def Dev.portQuiet (d : Dev) (p : Nat) : Bool :=
  d.portState p != 2 || (decide (d.recentErrs p ≤ d.obn (K.P_DEG_LIMIT p)) && !d.degrades p)

/-- No work is left, no request waits for another or for a keeper, no answer of a session is held back, and no core, port or clock of the mode manager
acts of itself. -/
def Dev.quiet (d : Dev) : Bool :=
  d.work.isEmpty && (d.dict.inflight.all fun t => t.wait != .behind) && d.dict.quick.op == 0 && !d.dict.rung && d.dict.replies.isEmpty &&
  (d.cores.all fun e => d.coreQuiet e.1) && (d.ports.all fun e => d.portQuiet e.1) &&
  d.mm.limpWait.isNone && (d.mode == 6 && d.obn K.LIMP_CAUSE == 0) == d.mm.limpClear.isSome && d.limits != 6

end Sys2Proof.Machine
end

