-- ==== Sys2Proof/Certificates/Slice0/Obligations.lean ====
section
/-! DEFINITION. Statements about the block, from the numbered rules of the spec. A command's clause says what state it leaves, in the terms of Safety:
`s.cmd` is the block as the command finds it, and `s.after d` the state once d and all that follows from it within the command has happened. -/
open Sys2Proof Sys2Proof.Machine

/-- What the power, reset and restart commands do. RESET# comes back after power on or after RESET#, with any flash and straps: with TEST_MODE high
nothing boots, a Sump at 100 °C or above waits, and an absent REFCLK25 is waited for. From R517, R518, R519, R520, R536, R546, R551, R556. Where the
spec is silent the clauses rest on the model's choices of log entries 3, 5, 50 and 55. -/
def Obligations.PowerAndResetCommands : Prop :=
  (∀ s : State, s.dev.store.saving = none → exec .powerOn s =
    .next (s.after { free := s.dev.free, out := s.cmd.ppsFall.out, store := s.dev.store,
                     sump := { holdLow := s.dev.sump.holdLow, perstLow := s.dev.sump.perstLow } })) ∧
  (∀ s : State, s.dev.sump.resetLow = false → exec .resetLow s =
    .next (s.after ((((s.cmd.abortChange.hardHold.setOb K.MODE 0).allOff).setOb K.RESET_CAUSE 1).modSump fun x =>
      { x with resetLow := true, hardHold := true, endpointSaved := false }))) ∧
  (∀ (s : State) (straps : BitVec 2) (test : Bool) (flash : Flash), s.dev.sump.resetLow = true →
    let d := (s.cmd.setOb K.BOOTSEL (straps.toNat : Nat)).modSump fun x =>
      { x with resetLow := false, straps := straps.toNat, testMode := test, flashOk := flash != .absent }
    let d := match flash with
      | .image l => { d with store := { d.store with
          flash := l.foldl (fun m e => if e.2 = 0xFF then mdel m e.1 else mput m e.1 e.2) [], atticA := none, atticB := none } }
      | _ => d
    let logged := if s.dev.obn K.RESET_CAUSE = 1 then d.logE 0xF002 0 else d
    (straps = 3 → exec (.resetRelease straps test flash) s = .next (s.after logged)) ∧
    (straps ≠ 3 → 1000 ≤ s.dev.mm.sumpTemp → exec (.resetRelease straps test flash) s = .next (s.after (logged.logE 0x1012 0))) ∧
    (straps ≠ 3 → s.dev.mm.sumpTemp < 1000 → test = true → exec (.resetRelease straps test flash) s = .next (s.after logged)) ∧
    (straps ≠ 3 → s.dev.mm.sumpTemp < 1000 → test = false → s.dev.sump.refAbsent = true →
      exec (.resetRelease straps test flash) s = .next (s.after
        ((if s.dev.obn K.RESET_CAUSE = 1 then (d.modSump fun x => { x with waitRef := true, bootWhy := 0 }).logE 0xF002 0
          else d.modSump fun x => { x with waitRef := true, bootWhy := 0 }).logE 0xF010 0))) ∧
    (straps ≠ 3 → s.dev.mm.sumpTemp < 1000 → test = false → s.dev.sump.refAbsent = false →
      exec (.resetRelease straps test flash) s = .next (s.after (d.bootStart (if s.dev.obn K.RESET_CAUSE = 1 then 0xF002 else 0) 0)))) ∧
  (∀ (s : State) (cause : Fin 8), s.dev.sump.resetLow = false → cause ≠ 0 → cause ≠ 1 → cause ≠ 6 →
    let d := (s.cmd.each ((List.range 20).filter s.cmd.coreRuns) fun d c => d.raise63 c).upTo (s.dev.now + 100000)
    let d := ((d.modSump fun x => { x with endpointSaved := d.domOn 2 }).abortChange.hardHold.setOb K.MODE 0).allOff
    exec (.warmRestart cause) s = .next (s.after
      ((((((d.each (List.range 20) fun d e => d.epochInc e).setOb K.RESET_CAUSE (cause.val : Nat)).bump K.WARM_RESTARTS).alert 3).upTo
        (s.dev.now + 1000000)).bootStart 0xF001 cause.val))) ∧
  (∀ s : State, exec .perst s =
    .next (s.after { s.cmd with host := {}, sump := { s.cmd.sump with perstLow := true, endpointSaved := false } })) ∧
  (∀ s : State, s.dev.sump.perstLow = true →
    let d := (s.cmd.hostLevels fun d => d.epochInc 20).modSump fun x => { x with perstLow := false, wakeLow := false }
    let r := (Config.freeValue 24 d.free).toNat
    let w := (Config.freeValue 24 (d.free + 1)).toNat
    (d.domOn 2 = false → exec .perstRelease s = .next (s.after { d with host := { d.host with linkUp := false, rate := 0, lanes := 0 } })) ∧
    (d.domOn 2 = true → exec .perstRelease s = .next (s.after { d with free := d.free + 2, host := { d.host with
      linkUp := true, rate := [25, 50, 80].getD (r % 3) 25, lanes := [1, 2, 4].getD (w % 3) 1 } }))) ∧
  (∀ s : State, exec (.brownOut 7) s = exec .powerOn s) ∧
  (∀ (s : State) (rail : Fin 20), rail < 7 → s.dev.sump.resetLow = false →
    exec (.brownOut rail) s = .next (s.after { s.cmd with sump := { s.cmd.sump with railsOut := insNat rail s.dev.sump.railsOut } })) ∧
  (∀ (s : State) (rail : Fin 20), 8 ≤ rail.val → (rail.val - 8) % 3 ≠ 2 → s.dev.sump.resetLow = false →
    exec (.brownOut rail) s = .next (s.after (s.cmd.tileLost ((rail.val - 8) / 3)))) ∧
  (∀ (s : State) (rail : Fin 20), s.dev.sump.railsOut.contains rail.val = true → s.dev.sump.resetLow = false →
    exec (.brownOutReturn rail) s = .next (s.after ((s.cmd.modSump fun x =>
      { x with railsOut := x.railsOut.filter fun r => r != rail.val }).warmRestart 7)))

/-- The Tap's commands; an erase that its permit's end leaves unfinished asks for another. From R55 to R58, R66, R68, R529. Where the spec is silent
the clauses rest on the model's choices of log entry 53. -/
def Obligations.TapCommands : Prop :=
  (∀ (s : State) (r : Src) (v : Word), s.opens r K.TAP_BUDGET [v.toNat] 2 = true →
    let d := s.taken r 2 K.TAP_BUDGET 0 [v.toNat]
    d.mode = 2 ∨ d.mode = 7 → v.toNat ≤ d.gradeLimit →
    (if d.limits = 7 then 0 else baseOf d.limits) + permitSum (d.tap.permits.filter fun p => !p.revocable) ≤ effOf d.limits v.toNat →
    exec (.tapBudgetWrite r v) s = .next (s.wrote r K.TAP_BUDGET [v.toNat]
      ((d.event.setOb K.TAP_BUDGET (v.toNat : Nat)).tookEffect).revokeToBudget)) ∧
  (∀ (s : State) (r : Src) (v : Word), s.opens r K.TAP_PEAK [v.toNat] 1 = true →
    exec (.tapPeakClear r v) s = .next (s.wrote r K.TAP_PEAK [v.toNat] ((s.taken r 2 K.TAP_PEAK 0 [v.toNat]).event.setOb K.TAP_PEAK 0))) ∧
  (∀ (s : State) (rails : List (Nat × Nat)), rails.length = 20 → 2 ≤ s.cmd.mode →
    exec (.tapRailSample rails) s = .next (s.after (((s.cmd.railSample (rails.map fun r => r.1 * r.2 / 1000)).overrun).overClock))) ∧
  (∀ (s : State) (rails : List (Nat × Nat)), rails.length ≠ 20 → exec (.tapRailSample rails) s = .fault (.malformed "TAP_RAIL_SAMPLE rails")) ∧
  (∀ (s : State) (t : Nat), s.cmd.served 2 = true → s.cmd.nextWait = some t → exec .tapWaitExpiry s = .next (s.after (s.cmd.upTo t).tapWaits)) ∧
  (∀ (s : State) (t : Nat), s.cmd.served 2 = true → s.cmd.nextExpiry = some t →
    exec .permitExpiry s = .next (s.after (((s.cmd.upTo t).tapExpire).recheck).eraseRenew)) ∧
  (∀ (s : State) (d' : Dev) (n : Nat), s.cmd.served 2 = true → (s.cmd.ep (s.cmd.roleOf 2)).full.contains 7 = true →
    let k := s.cmd.roleOf 2
    let src := bits (s.cmd.ld (mailAddr k 7 0)) 23 19
    let w := fun i => s.cmd.ld (mailAddr k 7 1 + i)
    bits (s.cmd.ld (mailAddr k 7 0)) 18 15 = 4 → bits (w 0) 23 16 = 1 → bits (w 0) 9 0 ≤ 1000 → w 1 ≠ 0 → w 1 ≤ 38000 → w 2 ≠ 0 →
    (s.cmd.ackMail k 7).ask (.core src) (w 1) (w 2) (bits (w 0) 15 13) (bits (w 0) 9 0) (w 3) = (d', .granted n) →
    exec .tapRequest s = .next (s.after (d'.tapReply src 0x81 Stat.done n (w 1) (w 3)))) ∧
  (∀ (s : State) (p : Permit), s.cmd.served 2 = true → (s.cmd.ep (s.cmd.roleOf 2)).full.contains 7 = true →
    let k := s.cmd.roleOf 2
    let src := bits (s.cmd.ld (mailAddr k 7 0)) 23 19
    let w := fun i => s.cmd.ld (mailAddr k 7 1 + i)
    bits (s.cmd.ld (mailAddr k 7 0)) 18 15 = 4 → bits (w 0) 23 16 = 2 → bits (w 0) 9 0 ≤ 1000 → w 2 ≠ 0 →
    ((s.cmd.ackMail k 7).tap.permits.find? fun p => p.num == w 1 && p.holder == .core src) = some p →
    exec .tapRelease s = .next (s.after (((s.cmd.ackMail k 7).release (w 1)).tapReply src 0x82 Stat.done 0 0 (w 3))))

/-- The commands of the mode manager and of the thermal supervision; in Dormant a Sump at 125 °C logs. From R39, R43, R48 to R53, R62, R68. Where
the spec is silent the clauses rest on the model's choices of log entries 1, 25, 26 and 35. -/
def Obligations.ModeCommands : Prop :=
  (∀ (s : State) (r : Src), s.opens r K.MODE_REQUEST [7] 1 = true →
    let d := s.taken r 2 K.MODE_REQUEST 0 [7]
    2 ≤ d.mode → d.mode ≤ 6 →
    exec (.modeRequest r 7) s = .next (s.wrote r K.MODE_REQUEST [7]
      (((d.setOb K.LIMP_CAUSE (putBit (d.obn K.LIMP_CAUSE) 3 false : Nat)).enterHold 4).setOb K.MODE_REQUEST 7))) ∧
  (∀ (s : State) (r : Src) (v : Word), s.opens r K.MODE_REQUEST [v.toNat] 1 = true → 2 ≤ v.toNat → v.toNat ≤ 4 →
    let d := s.taken r 2 K.MODE_REQUEST 0 [v.toNat]
    let d' := d.setOb K.LIMP_CAUSE (putBit (d.obn K.LIMP_CAUSE) 3 false : Nat)
    v.toNat ≠ d.mode → d.mm.waiting = none → modeAllows d.mode v.toNat = true → d'.targetStatus v.toNat = Stat.done → d'.modeFits v.toNat = true →
    exec (.modeRequest r v) s = .next (s.wrote r K.MODE_REQUEST [v.toNat] ((d'.enterRun v.toNat).setOb K.MODE_REQUEST (v.toNat : Nat)))) ∧
  (∀ (s : State) (t : Nat), s.cmd.mm.limpWait = some t → s.cmd.mode = 7 → exec .limpWaitEnd s = .next (s.after (s.cmd.upTo t).applyLimp)) ∧
  (∀ (s : State) (t : Nat), s.cmd.mm.limpClear = some t → s.cmd.mode = 6 → s.cmd.obb K.LIMP_RETURN = true → s.cmd.served 1 = true →
    exec .limpReturn s = .next (s.after
      ((s.cmd.upTo (t + s.cmd.obn K.LIMP_RETURN_DELAY * 1000000)).modeRequest (s.cmd.obn K.MODE_PRIOR) none).1)) ∧
  (∀ (s : State) (t : Nat), (s.cmd.ob K.WAKE_AT).toNat = t → t ≠ 0 →
    let d := (s.cmd.upTo t).setOb K.WAKE_AT 0
    exec .wakeAtAlarm s = .next (s.after (if d.mode = 0 then d.wake else d))) ∧
  (∀ (s : State) (temps : List Int) (sump : Int), temps.length = 8 → s.cmd.mode = 0 →
    let d := s.cmd.modMm fun x => { x with sumpTemp := sump, sensors := [] }
    (sump < 1250 ∨ 1250 ≤ s.cmd.mm.sumpTemp → exec (.tjSample temps sump) s = .next (s.after d)) ∧
    (1250 ≤ sump → s.cmd.mm.sumpTemp < 1250 → exec (.tjSample temps sump) s = .next (s.after (d.logE 0x1012 0)))) ∧
  (∀ (s : State) (temps : List Int) (sump : Int), temps.length = 8 → s.cmd.mode ≠ 0 →
    let d := s.cmd.modMm fun x => { x with sumpTemp := sump, sensors := (temps :: x.sensors).take 10 }
    (1250 ≤ d.tj ∨ 1250 ≤ sump → exec (.tjSample temps sump) s = .next (s.after d.thermalShutdown)) ∧
    (d.tj < 1120 → sump < 1250 → d.served 1 = true → d.tj ≤ (mget? d.od K.TJ_MAX).getD (-100000) → d.tj < d.ob K.TJ_WARN → d.mm.warn = false →
      d.mm.thermCause = false → exec (.tjSample temps sump) s = .next (s.after d))) ∧
  (∀ (s : State) (temps : List Int) (sump : Int), temps.length ≠ 8 →
    exec (.tjSample temps sump) s = .fault (.malformed "TJ_SAMPLE temperatures")) ∧
  (∀ (s : State) (t : Nat), s.cmd.tap.limpOver = some t → s.cmd.limits = 6 →
    exec .limpPowerDormant s = .next (s.after
      ((((s.cmd.upTo (t + 10000000)).abortChange.hardHold.logE 0x1020 0).modeEvent 0).allOff))) ∧
  (∀ (s : State) (r : Src) (v : Word), s.opens r K.TJ_MAX [v.toNat] 1 = true →
    let d := s.taken r 2 K.TJ_MAX 0 [v.toNat]
    exec (.tjMaxReset r v) s = .next (s.wrote r K.TJ_MAX [v.toNat] (d.event.setOb K.TJ_MAX d.tj)))

/-- The reads of the dictionary. From R75, R76, R394. Where the spec is silent the clauses rest on the model's choices of log entry 43. -/
def Obligations.DictionaryReads : Prop :=
  (∀ (s : State) (r : Src) (key : Word) (x : Desc), s.takes r 1 key.toNat 0 [] = true →
    let d := s.taken r 1 key.toNat 0 []
    d.barred r.via key.toNat = false → d.desc key.toNat = some x → d.readCheck r.via x key.toNat = Stat.done → d.atticPoisoned key.toNat = false →
    x.ty.words ≠ 0 → (r.via = .quick → (d.wordsAt x key.toNat).length ≤ 2) →
    exec (.read r key) s = .next (s.answers r 1 key.toNat 0 [] d { status := Stat.done, data := d.wordsAt x key.toNat, reads := true })) ∧
  (∀ (s : State) (r : Src) (keys : List Word) (f : Nat → List Nat), keys ≠ [] → s.takes r 3 0 0 (natsOf keys) = true →
    let d := s.taken r 3 0 0 (natsOf keys)
    (∀ k ∈ keys, d.readKey r.via k.toNat = (Stat.done, f k.toNat)) → (keys.flatMap fun k => f k.toNat).length ≤ 61 →
    exec (.readMulti r keys) s = .next (s.answers r 3 0 0 (natsOf keys) d
      { status := Stat.done, data := keys.flatMap fun k => f k.toNat, reads := true })) ∧
  (∀ (s : State) (r : Src) (sig count : Word), s.takes r 5 sig.toNat count.toNat [] = true →
    let d := s.taken r 5 sig.toNat count.toNat []
    d.barred r.via 0 = false → 1 ≤ count.toNat → count.toNat ≤ 15 → sig.toNat + count.toNat ≤ 2 ^ 20 →
    (∀ i < count.toNat, d.entryPoisoned (sig.toNat + i) = false) →
    exec (.sigRead r sig count) s = .next (s.answers r 5 sig.toNat count.toNat [] d
      { status := Stat.done, data := (List.range count.toNat).flatMap fun i => d.ldAll (sigAddr (sig.toNat + i) 0) 4, reads := true })) ∧
  (∀ (s : State) (r : Src) (key ofs : Word) (n : Word) (x : Desc) (m : Nat), s.takes r 10 key.toNat ofs.toNat [n.toNat] = true →
    let d := s.taken r 10 key.toNat ofs.toNat [n.toNat]
    let len := bits n.toNat 7 0
    d.barred r.via key.toNat = false → d.desc key.toNat = some x → d.readCheck r.via x key.toNat = Stat.done → x.ty = .dom m →
    1 ≤ len → len ≤ 174 → ofs.toNat ≤ (d.readDom key.toNat).length →
    let l := ((d.readDom key.toNat).drop ofs.toNat).take len
    exec (.domainGet r key ofs [n]) s = .next (s.answers r 10 key.toNat ofs.toNat [n.toNat] d
      { status := Stat.done, reads := true,
        data := ((if (d.readDom key.toNat).length ≤ ofs.toNat + len then 2 ^ 23 else 0) + l.length) :: wordsOf l }))

/-- The writes, transfers and subscriptions of the dictionary. From R75, R76, R77, R79, R395. Where the spec is silent the clauses rest on the
model's choices of log entries 43, 52 and 59. -/
def Obligations.DictionaryWrites : Prop :=
  (∀ (s : State) (r : Src) (key : Word) (vals : List Word) (x : Desc) (v : Int) (d' : Dev), s.takes r 2 key.toNat 0 (natsOf vals) = true →
    let d := s.taken r 2 key.toNat 0 (natsOf vals)
    d.barred r.via key.toNat = false → d.valueOf r.via key.toNat (natsOf vals) = (x, v, Stat.done) →
    d.effect x key.toNat v (some r) true = (d', some Stat.done) →
    exec (.write r key vals) s = .next (s.wrote r key.toNat (natsOf vals) d') ∧
    exec (.registerWrite r key vals) s = .next (s.wrote r key.toNat (natsOf vals) d')) ∧
  (∀ (s : State) (r : Src) (items : List Word) (l : List (Nat × Desc × Int × Nat)) (d' : Dev), s.takes r 4 0 0 (natsOf items) = true →
    let d := s.taken r 4 0 0 (natsOf items)
    d.multiItems r.via 61 (natsOf items) = l → l ≠ [] → (∀ e ∈ l, e.2.2.2 = Stat.done) → d.multiApply r l 0 = (d', .all) →
    (∀ e ∈ l, d'.crossBad e.2.1 e.1 = Stat.done) →
    exec (.writeMulti r items) s = .next (s.answers r 4 0 0 (natsOf items) d' (ans Stat.done))) ∧
  (∀ (s : State) (r : Src) (key ofs : Word) (w : List Word) (x : Desc) (m : Nat), s.takes r 9 key.toNat ofs.toNat (natsOf w) = true →
    let d := s.taken r 9 key.toNat ofs.toNat (natsOf w)
    let len := bits ((natsOf w).getD 0 0) 7 0
    d.barred r.via key.toNat = false → d.desc key.toNat = some x → d.writeCheck r.via x key.toNat = Stat.done → x.ty = .dom m →
    x.eff ≠ .aapKey → x.eff ≠ .axCmd → x.eff ≠ .fwBundle → 1 ≤ len → len ≤ 174 → len ≤ m → w.length = 1 + (len + 2) / 3 →
    ((natsOf w).getD 0 0).testBit 23 = false → ofs = 0 → (d.freshPuts.dict.puts.find? fun p => p.key == key.toNat) = none →
    exec (.domainPut r key ofs w) s = .next (s.answers r 9 key.toNat ofs.toNat (natsOf w)
      (d.freshPuts.setPut key.toNat r.via ((bytesOf ((natsOf w).drop 1)).take len)) (ans Stat.done))) ∧
  (∀ (s : State) (key : Word) (p : Put), (s.cmd.dict.puts.find? fun p => p.key == key.toNat) = some p → s.cmd.served 0 = true →
    exec (.domainPutIdle key) s = .next (s.after ((s.cmd.upTo (p.at_ + 1000000000)).dropPut key.toNat))) ∧
  (∀ (s : State) (r : Src) (sig : Word) (hi lo : Word) (reg : Nat), s.takes r 6 sig.toNat 0 [hi.toNat, lo.toNat] = true →
    let d := s.taken r 6 sig.toNat 0 [hi.toNat, lo.toNat]
    d.barred r.via 0 = false → sig.toNat < 2 ^ 20 → d.regionOf sig.toNat = some reg → 1 ≤ d.pathLevel r.via → d.mayWrite reg .dictWrite false = true →
    let y := d.event.applyWrite reg ⟨sig.toNat, hi.toNat * 2 ^ 24 + lo.toNat, 127, viaNode r.via, .write, d.tbNs (d.obn (K.REG_TB reg))⟩
    exec (.sigWrite r sig [hi, lo]) s = .next (s.answers r 6 sig.toNat 0 [hi.toNat, lo.toNat] y.1
      { status := if y.2 then Stat.done else Stat.aborted, took := true })) ∧
  (∀ (s : State) (r : Src) (sig : Word) (hi lo : Word) (reg : Nat), s.takes r 7 sig.toNat 0 [hi.toNat, lo.toNat] = true →
    let d := s.taken r 7 sig.toNat 0 [hi.toNat, lo.toNat]
    d.barred r.via 0 = false → sig.toNat < 2 ^ 20 → d.regionOf sig.toNat = some reg → 2 ≤ d.pathLevel r.via → d.mode = 2 ∨ d.mode = 7 →
    d.mayWrite reg .dictForce false = true →
    let y := d.event.applyWrite reg ⟨sig.toNat, hi.toNat * 2 ^ 24 + lo.toNat, 127, viaNode r.via, .force, d.tbNs (d.obn (K.REG_TB reg))⟩
    exec (.sigForce r sig [hi, lo]) s = .next (s.answers r 7 sig.toNat 0 [hi.toNat, lo.toNat] y.1
      { status := if y.2 then Stat.done else Stat.aborted, took := true })) ∧
  (∀ (s : State) (r : Src) (sig : Word) (reg : Nat), s.takes r 8 sig.toNat 0 [] = true →
    let d := s.taken r 8 sig.toNat 0 []
    d.barred r.via 0 = false → sig.toNat < 2 ^ 20 → d.regionOf sig.toNat = some reg → 2 ≤ d.pathLevel r.via → d.mayWrite reg .dictForce false = true →
    let y := d.event.applyWrite reg ⟨sig.toNat, 0, 127, viaNode r.via, .unforce, d.tbNs (d.obn (K.REG_TB reg))⟩
    exec (.sigUnforce r sig) s = .next (s.answers r 8 sig.toNat 0 [] y.1 { status := if y.2 then Stat.done else Stat.aborted, took := true })) ∧
  (∀ (s : State) (r : Src) (key arg : Word) (x : Desc) (n : Nat), s.takes r 13 key.toNat arg.toNat [] = true →
    let d := s.taken r 13 key.toNat arg.toNat []
    d.barred r.via key.toNat = false → d.desc key.toNat = some x → x.acc ≠ .w → x.ty.words ≤ 13 → x.ty.words ≠ 0 →
    (d.dict.subs.find? fun s => s.via == r.via && s.key == key.toNat) = none → (arg.toNat.testBit 23 = true ∨ arg.toNat % 65536 ≠ 0) →
    ((List.range 64).find? fun n => (d.dict.subs.filter fun s => s.via == r.via).all fun s => s.num != n) = some n →
    exec (.subscribe r key arg) s = .next (s.answers r 13 key.toNat arg.toNat []
      (d.modDict fun y => { y with subs := ⟨r.via, n, key.toNat, arg.toNat.testBit 23, arg.toNat % 65536, d.now, d.wordsAt x key.toNat⟩ ::
        (d.dict.subs.filter fun s => !(s.via == r.via && s.key == key.toNat)) })
      { status := Stat.done, data := [n], reads := true }))

/-- The dictionary's own services; SAVE and RESTORE_DEFAULTS are barred to a quarantined context. From R79, R82, R87, R98, R100, R102, R323. Where
the spec is silent the clauses rest on the model's choices of log entries 8 and 43. -/
def Obligations.DictionaryServices : Prop :=
  (∀ (s : State) (r : Src) (n : Nat) (d' : Dev), s.takes r 11 0 0 [] = true →
    let d := s.taken r 11 0 0 []
    d.barred r.via 0 = false → 3 ≤ d.pathLevel r.via → d.saveBusy = false → d.ask .save 400 2000000 3 (d.waitLeft (some r)) 0 = (d', .granted n) →
    exec (.save r) s = .next (s.after (d'.saveGo n (some r)))) ∧
  (∀ (s : State) (r : Option Src) (b : Bool) (img : AtticImage) (num q : Nat), s.cmd.store.saving = some (r, b, img, num, q) →
    (s.cmd.sump.flashOk = true → exec (.saveDone true) s = .next (s.after
      ((((({ s.cmd with store := { s.cmd.store with saving := none }.setCopy b (some img) }).setOb K.ATTIC_GEN (img.gen : Nat)).saveBundles).release num).complete r
        Stat.done))) ∧
    exec (.saveDone false) s = .next (s.after
      (((({ s.cmd with store := { s.cmd.store with saving := none } }).logE 0x0020 0).release num).complete r Stat.internal))) ∧
  (∀ (s : State) (r : Src), s.takes r 12 0 0 [] = true →
    let d := s.taken r 12 0 0 []
    d.barred r.via 0 = false → 3 ≤ d.pathLevel r.via → d.mode = 2 ∨ d.mode = 7 →
    let keys := (d.od.map (·.1)).filter isSaved
    let doms := (d.blob.map (·.1)).filter isSaved
    exec (.restoreDefaults r) s = .next (s.answers r 12 0 0 []
      (doms.foldl (fun d k => { (d.installTable k []).1 with blob := mdel d.blob k }) (keys.foldl (fun d k => d.restoreOne r k) d.event)) (ans Stat.done))) ∧
  (∀ (s : State) (num : Fin 64) (u : Sub) (x : Desc), (s.cmd.dict.subs.find? fun u => u.via == .hatch && u.num == num.val) = some u →
    s.cmd.served 0 = true →
    let d := s.cmd.upTo (u.sentAt + (if u.period = 0 then 1 else u.period) * 1000000)
    d.desc u.key = some x →
    let v := d.wordsAt x u.key
    (u.onChange = true → v ≠ u.last) →
    let d' := d.modDict fun y => { y with subs := y.subs.map fun w => if w.via = .hatch && w.num = num.val then { w with sentAt := d.now, last := v } else w }
    exec (.subscribeSend .hatch num) s =
      .next (s.after (({ d' with free := d'.free + 512 }).postNote ([0xC0 * 65536 + num.val * 256 + v.length, 0, d.seq] ++ v)))) ∧
  (∀ (s : State) (r : Src) (t t' : Tx), (s.cmd.dict.inflight.find? fun t => t.src == r) = some t → s.cmd.served 0 = true →
    let d := s.cmd.upTo (t.started + 100000000)
    let d := if d.served 2 then (d.tapWaits).drain 64 else d
    (d.dict.inflight.find? fun t => t.src == r) = some t' → t'.took = none →
    exec (.dictTimeout r) s = .next (s.after ((((d.withdraw t'.wait).bump K.DICT_TIMEOUTS).recheck).complete (some r) Stat.timeout))) ∧
  (∀ (s : State) (c : Compl) (rest : List Compl), s.cmd.served 0 = true → s.cmd.dict.finished = c :: rest → s.cmd.ringFill 3 4 < 256 →
    let t := s.cmd.ld (hatch 3)
    exec .hatchCompletionPost s = .next (s.after
      ((((s.cmd.stAll (hatch (0x4100 + 64 * (t % 256))) c.words).st (hatch 3) ((t + 1) % 2 ^ 24)).modDict fun x =>
        { x with finished := rest }).raise 0x540))) ∧
  (∀ (s : State) (r : Src) (v : Word), s.opens r K.REVOKE_KEY [v.toNat] 3 = true → v.toNat ≤ 3 →
    let d := s.taken r 2 K.REVOKE_KEY 0 [v.toNat]
    ((List.range 4).filter fun k => d.store.keyState.testBit k && !d.store.keyState.testBit (4 + k)) ≠ [v.toNat] → v.toNat ≠ d.store.signer →
    exec (.revokeKey r v) s = .next (s.wrote r K.REVOKE_KEY [v.toNat]
      { d.event with store := { d.store with keyState := putBit d.store.keyState (4 + v.toNat) true } })) ∧
  (∀ (s : State) (r : Src), s.opens r K.JTAG_LOCK [1] 3 = true → (s.taken r 2 K.JTAG_LOCK 0 [1]).mode = 2 →
    exec (.jtagLockWrite r 1) s = .next (s.wrote r K.JTAG_LOCK [1] ((s.taken r 2 K.JTAG_LOCK 0 [1]).event.setOb K.JTAG_LOCK 1)))

/-- What the host's accesses do while the link is up. From R89, R90, R109 to R111, R491. Where the spec is silent the clauses rest on the model's
choices of log entry 54. -/
def Obligations.HostAccesses : Prop :=
  (∀ s : State, s.cmd.host.linkUp = true → s.cmd.dict.quick.busy = false →
    exec .qwRead s = .next (s.after (s.cmd.modQuick fun q => { q with op := 1, busy := true })) ∧
    exec .qwWrite1 s = .next (s.after (s.cmd.modQuick fun q => { q with op := 2, busy := true })) ∧
    exec .qwWrite2 s = .next (s.after (s.cmd.modQuick fun q => { q with op := 3, busy := true }))) ∧
  (∀ s : State, s.cmd.host.linkUp = true → s.cmd.dict.quick.busy = true →
    exec .qwRead s = .next (s.after (s.cmd.modQuick fun q => { q with overlap := true }))) ∧
  (∀ s : State, s.cmd.host.linkUp = true →
    exec .qwOverlapClear s = .next (s.after (s.cmd.modQuick fun q => { q with overlap := false })) ∧
    exec (.hostReset 1) s = .next (s.after (s.cmd.epochInc 20))) ∧
  (∀ (s : State) (a : Nat) (d' : Dev) (v : Nat), s.cmd.host.linkUp = true → a < 0x10000 → s.cmd.bar4Read (0x40000 + a) = (d', v, Stat.done) →
    exec (.hostRead .bar2 (4 * a) 1) s = .next (s.after (d'.emit (.hostData [v])))) ∧
  (∀ (s : State) (a : Nat) (v : BitVec 32) (d' : Dev), s.cmd.host.linkUp = true → a < 0x10000 → v.toNat < 2 ^ 24 →
    s.cmd.bar4Write (0x40000 + a) v.toNat = (d', Stat.done) →
    exec (.hostWrite .bar2 (4 * a) [(v, 0xF)]) s = .next (s.after d')) ∧
  (∀ (s : State) (bar : Bar) (ofs n : Nat) (l : List (BitVec 32 × BitVec 4)), s.cmd.host.linkUp = false →
    exec (.hostRead bar ofs n) s = .next (s.after s.cmd) ∧ exec (.hostWrite bar ofs l) s = .next (s.after s.cmd))

/-- The scrubber and ECC_CLEAR. From R117 to R121. Where the spec is silent the clauses rest on the model's choices of log entries 31 and 37. -/
def Obligations.MemoryHealth : Prop :=
  (∀ (s : State) (mem : Fin 14) (unit addr : Nat), placesOf mem unit addr ≠ [] → s.cmd.memOn mem unit = true →
    let d := s.cmd.repaired (placesOf mem unit addr)
    exec (.scrubStep mem unit addr 0 none) s = .next (s.after d) ∧
    (s.cmd.isPoisoned mem addr (placesOf mem unit addr) = false →
      exec (.scrubStep mem unit addr 1 none) s =
        .next (s.after (((d.bump (K.ECC_CORRECTED mem)).noteErr mem unit addr).logSec 0x5030 mem)) ∧
      exec (.scrubStep mem unit addr 2 none) s =
        .next (s.after (((((d.bump (K.ECC_UNCORRECTED mem)).noteErr mem unit addr).poisonAt mem addr (placesOf mem unit addr)).logE 0x5031 mem).raise
          0x541)) ∧
      exec (.scrubStep mem unit addr 3 none) s =
        .next (s.after ((((s.cmd.bump (K.ECC_CORRECTED mem)).noteErr mem unit addr).logSec 0x5030 mem).writeBack (bankOfPlace mem unit addr)
          ((placesOf mem unit addr).headD 0))))) ∧
  (∀ (s : State) (mem : Fin 14) (unit addr ms : Nat), placesOf mem unit addr ≠ [] → s.cmd.memOn mem unit = true → ms ≤ 10000 →
    exec (.scrubStep mem unit addr 0 (some ms)) s =
      .next (s.after ((s.cmd.repaired (placesOf mem unit addr)).setOb (K.ECC_SCRUB_PASS mem) (ms : Nat)))) ∧
  (∀ (s : State) (r : Src) (mem : Fin 14), s.opens r (K.ECC_CLEAR mem) [1] 3 = true →
    exec (.eccClear r mem 1) s = .next (s.wrote r (K.ECC_CLEAR mem) [1]
      ((s.taken r 2 (K.ECC_CLEAR mem) 0 [1]).event.zero [K.ECC_CORRECTED mem, K.ECC_UNCORRECTED mem])))

/-- The datagrams of AAP. From R91 to R95. Where the spec is silent the clauses rest on the model's choices of log entries 6 and 30. -/
def Obligations.AapCommands : Prop :=
  (∀ (s : State) (u : Fin 4) (addr : Nat) (l : List Byte) (g : AapIn) (k : Nat), aapIn l = some g → s.cmd.aapTakes u.val addr = true → g.kind = 1 →
    g.plain = true → g.body.length = 17 → byteAt g.body 0 ≤ 3 → s.cmd.obn K.AAP_SESSIONS < 8 → s.cmd.sessFree = some k →
    let n := (s.cmd.fresh 128).1
    let d := (s.cmd.fresh 128).2
    exec (.aapHello u addr l) s = .next (s.after
      ((d.modSess fun x => ⟨k, false, u, addr, byteAt g.body 0, g.body.drop 1, beBytes 16 n, d.now, [], [], 0, 0⟩ :: (x.filter fun s => s.sess != k)).aapPlain
        u addr 2 (beBytes 16 n ++ beBytes 2 k)))) ∧
  (∀ (s : State) (u : Fin 4) (addr : Nat) (l : List Byte) (g : AapIn) (e : AapSess), aapIn l = some g → s.cmd.aapTakes u.val addr = true → g.kind = 3 →
    g.plain = true → g.body.length = 34 →
    let k := beNat (g.body.take 2)
    (s.cmd.dict.sess.find? fun s => s.sess == k && !s.opened && s.up == u.val && s.addr == addr) = some e → s.cmd.now ≤ e.at_ + 1000000000 →
    (s.cmd.proofOf e = some (g.body.drop 2) →
      let e' : AapSess := { e with opened := true, at_ := s.cmd.now, key := s.cmd.keyOf e }
      exec (.aapProve u addr l) s = .next (s.after
        (((s.cmd.modSess fun x => e' :: (x.filter fun s => s.sess != k)).aapSend k 4 (beBytes 2 k ++ beBytes 1 e.level)).1))) ∧
    (s.cmd.proofOf e ≠ some (g.body.drop 2) → exec (.aapProve u addr l) s =
      .next (s.after ((s.cmd.modSess fun x => x.filter fun s => s.sess != k).proofFails u addr)))) ∧
  (∀ (s : State) (u : Fin 4) (addr : Nat) (l : List Byte) (g : AapIn) (e : AapSess) (d : Dev), aapIn l = some g → s.cmd.aapTakes u.val addr = true →
    g.kind = 0x10 → s.cmd.aapJudge g = (d, .fresh e) →
    exec (.aapRequests u addr l) s = .next (s.after
      (g.requests.foldl (fun d w => d.requestWords (.aap (Fin.ofNat 8 e.sess)) w)
        (d.aapNote e.sess g.seq (g.requests.map fun w => bits (w.getD 0 0) 15 8))))) ∧
  (∀ (s : State) (u : Fin 4) (addr : Nat) (l : List Byte) (g : AapIn) (e : AapSess) (d : Dev) (stored : List (List Byte)), aapIn l = some g →
    s.cmd.aapTakes u.val addr = true → g.kind = 0x10 → s.cmd.aapJudge g = (d, .again e stored) →
    exec (.aapRequests u addr l) s = .next (s.after (stored.foldl (fun d b => d.emit (.aap e.up e.addr b)) d))) ∧
  (∀ (s : State) (u : Fin 4) (addr : Nat) (l : List Byte) (g : AapIn), aapIn l = some g → s.cmd.aapTakes u.val addr = true → g.kind = 0x10 →
    g.plain = true → s.cmd.obb K.AAP_OPEN_READ = true →
    exec (.aapOpenRead u addr l) s = .next (s.after (g.requests.foldl (fun d w => d.requestWords (.aapOpen u addr) w) s.cmd))) ∧
  (∀ (s : State) (u : Fin 4) (addr : Nat) (l : List Byte) (g : AapIn) (e : AapSess) (d : Dev), aapIn l = some g → s.cmd.aapTakes u.val addr = true →
    g.kind = 0x13 → s.cmd.aapJudge g = (d, .fresh e) → exec (.aapClose u addr l) s = .next (s.after (d.sessClose e.sess))) ∧
  (∀ (s : State) (k : Fin 8) (e : AapSess), s.cmd.sessOpen k.val = some e → s.cmd.served 0 = true →
    exec (.aapIdleTimeout k) s = .next (s.after ((s.cmd.upTo (s.cmd.sessEnds e)).sessClose k.val))) ∧
  (∀ (s : State) (addr : Nat) (b : Nat × Nat), (s.cmd.dict.blocked.find? fun b => b.1 == addr) = some b →
    exec (.aapBlockExpiry addr) s = .next (s.after ((s.cmd.upTo b.2).modDict fun x => { x with blocked := x.blocked.filter fun b => b.1 != addr })))

/-- The counter clears of every area: at one event the counters of the unit read 0, and nothing else of the block changes (R152, R203, R230, R271,
R340, R369 to R371, R406, R407, R428, R454, R489). -/
def Obligations.CounterClears : Prop :=
  (∀ (s : State) (r : Src) (p : Fin 96), s.opens r (K.PORT_CNT_CLEAR p) [1] 1 = true →
    exec (.portCntClear r p 1) s = .next (s.wrote r (K.PORT_CNT_CLEAR p) [1]
      ((s.taken r 2 (K.PORT_CNT_CLEAR p) 0 [1]).event.zero ((List.range 5).map fun e => K.P_UP_COUNT p + e)))) ∧
  (∀ (s : State) (r : Src) (p : Fin 96), s.opens r (K.MAC_CNT_CLEAR p) [1] 1 = true →
    exec (.macCntClear r p 1) s = .next (s.wrote r (K.MAC_CNT_CLEAR p) [1]
      ((s.taken r 2 (K.MAC_CNT_CLEAR p) 0 [1]).event.zero ((List.range 15).map fun e => K.MAC_RX_FRAMES p + e)))) ∧
  (∀ (s : State) (r : Src) (u : Fin 4), s.opens r (K.UP_CNT_CLEAR u) [1] 1 = true →
    exec (.upCntClear r u 1) s = .next (s.wrote r (K.UP_CNT_CLEAR u) [1]
      ((s.taken r 2 (K.UP_CNT_CLEAR u) 0 [1]).event.zero ((List.range 18).map fun e => K.UP_RX_FRAMES u + e)))) ∧
  (∀ (s : State) (r : Src) (p : Fin 96), s.opens r (K.BUS_CNT_CLEAR p) [1] 1 = true →
    exec (.busCntClear r p 1) s = .next (s.wrote r (K.BUS_CNT_CLEAR p) [1]
      ((s.taken r 2 (K.BUS_CNT_CLEAR p) 0 [1]).event.zero ((List.range 12).map fun e => K.BUS_RX_FRAMES p + e)))) ∧
  (∀ (s : State) (r : Src) (ch : Fin 96), s.opens r (K.CH_RUN_CNT_CLEAR ch) [1] 1 = true →
    (s.taken r 2 (K.CH_RUN_CNT_CLEAR ch) 0 [1]).segHolds ch = false →
    exec (.runCntClear r ch 1) s = .next (s.wrote r (K.CH_RUN_CNT_CLEAR ch) [1]
      ((s.taken r 2 (K.CH_RUN_CNT_CLEAR ch) 0 [1]).event.zero ((List.range 10).map fun e => K.CH_RECOVERIES ch + e)))) ∧
  (∀ (s : State) (r : Src) (c : Fin 128), s.opens r (K.CTX_CNT_CLEAR c) [1] 1 = true →
    exec (.ctxCntClear r c 1) s = .next (s.wrote r (K.CTX_CNT_CLEAR c) [1]
      ((s.taken r 2 (K.CTX_CNT_CLEAR c) 0 [1]).event.zero ((List.range 7).map fun e => K.CTX_MISSED c + e)))) ∧
  (∀ (s : State) (r : Src) (m : Fin 2048), s.opens r (K.METER_CLEAR m) [1] 1 = true →
    exec (.meterClear r m 1) s = .next (s.wrote r (K.METER_CLEAR m) [1]
      ((s.taken r 2 (K.METER_CLEAR m) 0 [1]).event.zero ((List.range 4).map fun e => K.METER_GREEN m + e)))) ∧
  (∀ (s : State) (r : Src) (q : Fin 1056), s.opens r (K.Q_CNT_CLEAR q) [1] 1 = true →
    exec (.qCntClear r q 1) s = .next (s.wrote r (K.Q_CNT_CLEAR q) [1]
      ((s.taken r 2 (K.Q_CNT_CLEAR q) 0 [1]).event.zero ((List.range 8).map fun e => K.Q_PEAK q + e)))) ∧
  (∀ (s : State) (r : Src) (q : Fin 1056) (v : Word), s.opens r (K.Q_PEAK q) [v.toNat] 1 = true →
    exec (.peakClear r q v) s = .next (s.wrote r (K.Q_PEAK q) [v.toNat] ((s.taken r 2 (K.Q_PEAK q) 0 [v.toNat]).event.setOb (K.Q_PEAK q) 0))) ∧
  (∀ (s : State) (r : Src) (v : Word), s.opens r K.FREE_MIN [v.toNat] 1 = true →
    let d := s.taken r 2 K.FREE_MIN 0 [v.toNat]
    exec (.freeMinReset r v) s = .next (s.wrote r K.FREE_MIN [v.toNat] (d.event.setOb K.FREE_MIN (d.freeCells : Nat)))) ∧
  (∀ (s : State) (r : Src) (reg : Fin 1024), s.opens r (K.REG_CNT_CLEAR reg) [1] 1 = true →
    exec (.regCntClear r reg 1) s = .next (s.wrote r (K.REG_CNT_CLEAR reg) [1]
      ((s.taken r 2 (K.REG_CNT_CLEAR reg) 0 [1]).event.zero ((List.range 4).map fun e => K.REG_CONTESTS reg + e)))) ∧
  (∀ (s : State) (r : Src), s.opens r K.CELLAR_CNT_CLEAR [1] 1 = true →
    exec (.cellarCntClear r 1) s = .next (s.wrote r K.CELLAR_CNT_CLEAR [1]
      ((s.taken r 2 K.CELLAR_CNT_CLEAR 0 [1]).event.zero [0x840002, 0x840102, 0x840003, 0x840103, 0x840004, 0x840104, 0x840005, 0x840105]))) ∧
  (∀ (s : State) (r : Src) (n : Fin 8), n ≠ 0 → s.opens r (K.TB_CNT_CLEAR n) [1] 1 = true →
    exec (.tbCntClear r n 1) s = .next (s.wrote r (K.TB_CNT_CLEAR n) [1]
      ((s.taken r 2 (K.TB_CNT_CLEAR n) 0 [1]).event.zero [K.TB_SWITCHES n, K.TB_SYNC_LOSSES n]))) ∧
  (∀ (s : State) (r : Src) (g : Fin 96), s.opens r (K.SEG_CNT_CLEAR g) [1] 1 = true →
    exec (.segCntClear r g 1) s = .next (s.wrote r (K.SEG_CNT_CLEAR g) [1]
      (((s.taken r 2 (K.SEG_CNT_CLEAR g) 0 [1]).event.zero ((List.range 14).map fun e => K.SEG_VALID_FRAMES g + e)).modSeg g fun x => { x with slots := [] }))) ∧
  (∀ (s : State) (r : Src) (a : Fin 4096), s.opens r (K.AX_CNT_CLEAR a) [1] 1 = true →
    exec (.axCntClear r a 1) s = .next (s.wrote r (K.AX_CNT_CLEAR a) [1]
      ((s.taken r 2 (K.AX_CNT_CLEAR a) 0 [1]).event.zero [K.AX_FAULTS a, K.AX_STEPS_TAKEN a])))

/-- Writes of a port's objects, and the answers that they wait for. From R123, R127 to R129, R131 to R133, R135, R136, R142, R143, R151. Where the
spec is silent the clauses rest on the model's choices of log entry 44. -/
def Obligations.PortWrites : Prop :=
  (∀ (s : State) (r : Src) (p : Fin 96) (v : Word), s.opens r (K.PORT_MODE p) [v.toNat] 1 = true → v.toNat ≤ 7 →
    let d := s.taken r 2 (K.PORT_MODE p) 0 [v.toNat]
    128 ≤ d.obn (K.P_ROLE_CONTEXT p) → (d.port p).req = none →
    (v.toNat = d.portMode p → exec (.portModeWrite r p v) s = .next (s.wrote r (K.PORT_MODE p) [v.toNat] d)) ∧
    (v.toNat ≠ d.portMode p → d.portState p = 5 ∨ d.tileRuns (p.val / 24) = false →
      exec (.portModeWrite r p v) s = .next (s.wrote r (K.PORT_MODE p) [v.toNat] ((d.dropRes p).putMode p v.toNat))) ∧
    (v.toNat = 0 → d.portMode p ≠ 0 → d.portState p ≠ 4 → d.portState p ≠ 5 → d.tileRuns (p.val / 24) = true →
      exec (.portModeWrite r p v) s = .next (s.wrote r (K.PORT_MODE p) [v.toNat] ((d.portOff p 1 false).putMode p 0)))) ∧
  (∀ (s : State) (r : Src) (p : Fin 96), s.opens r (K.PORT_ADMIN p) [0] 1 = true →
    let d := (s.taken r 2 (K.PORT_ADMIN p) 0 [0]).cancelReq p
    d.portState p ≠ 4 →
    exec (.portDisable r p) s = .next (s.wrote r (K.PORT_ADMIN p) [0]
      (if d.portState p = 0 ∨ d.portState p = 5 then (d.event.setOb (K.PORT_ADMIN p) 0).dropRes p else (d.event.setOb (K.PORT_ADMIN p) 0).portOff p 1 false))) ∧
  (∀ (s : State) (r : Src) (p : Fin 96), s.opens r (K.PORT_ADMIN p) [1] 1 = true →
    let d := s.taken r 2 (K.PORT_ADMIN p) 0 [1]
    (d.port p).req = none → d.portState p = 1 ∨ d.portState p = 2 ∨ d.portState p = 3 →
    exec (.portEnable r p) s = .next (s.wrote r (K.PORT_ADMIN p) [1] (d.event.setOb (K.PORT_ADMIN p) 1))) ∧
  (∀ (s : State) (r : Src) (p : Fin 96) (n : Nat) (d' : Dev), s.opens r (K.PORT_ADMIN p) [1] 1 = true →
    let d := s.taken r 2 (K.PORT_ADMIN p) 0 [1]
    (d.port p).req = none → d.portState p = 0 ∨ d.portState p = 5 → d.tileRuns (p.val / 24) = true → d.portMode p ≠ 0 → d.resNeed p (d.portMode p) ≠ 0 →
    (d.port p).res = 0 → d.ask (.port p) (d.resNeed p (d.portMode p)) 0xFFFFFF (d.obn (K.PORT_TAP_PRIO p)) 50 0 = (d', .granted n) →
    exec (.portEnable r p) s = .next (s.wrote r (K.PORT_ADMIN p) [1] (d'.portGo p (d.portMode p) false (some n)).1)) ∧
  (∀ (s : State) (r : Src) (p : Fin 96), s.opens r (K.PORT_ADMIN p) [2] 1 = true →
    let d := (s.taken r 2 (K.PORT_ADMIN p) 0 [2]).cancelReq p
    d.portState p ≠ 4 → d.portState p ≠ 5 →
    exec (.portQuarantine r p) s = .next (s.wrote r (K.PORT_ADMIN p) [2] ((d.event.setOb (K.PORT_ADMIN p) 2).portQuarantine p 4))) ∧
  (∀ (s : State) (p : Fin 96) (q : PortReq) (a : Option Nat), (s.cmd.port p).req = some q → q.answer = some a →
    let d := s.cmd.modPort p fun x => { x with req := none }
    let y := if d.resNeed p q.mode = 0 then (d.release (a.getD 0)).portGo p q.mode q.isModeWrite (some 0) else d.portGo p q.mode q.isModeWrite a
    exec (.portReservationDone p) s = .next (s.after (y.1.complete q.src y.2))) ∧
  (∀ (s : State) (r : Src) (p : Fin 96) (v : Word), s.opens r (K.P_RECAL p) [v.toNat] 1 = true → v.toNat = 1 →
    let d := s.taken r 2 (K.P_RECAL p) 0 [v.toNat]
    d.portState p = 1 ∨ d.portState p = 2 ∨ d.portState p = 3 → d.sweepsPort p = false → d.calBusy (p.val / 24) = false →
    exec (.recal r p v) s = .next (s.wrote r (K.P_RECAL p) [v.toNat]
      ((d.event.modPort p fun x => { x with recalEnds := some (d.now + 2000000) }).portFlag p 6 true))) ∧
  (∀ (s : State) (r : Src) (p q : Fin 96) (v : Word), s.opens r (K.P_ROLE_MOVE p) [v.toNat] 1 = true → v.toNat = q.val + 256 → p ≠ q →
    let d := s.taken r 2 (K.P_ROLE_MOVE p) 0 [v.toNat]
    d.obn (K.P_ROLE_CONTEXT p) < 128 → 128 ≤ d.obn (K.P_ROLE_CONTEXT q) → d.portMode q = d.portMode p → d.movesTo q = [] → d.portState q ≠ 5 →
    d.tileRuns (q.val / 24) = true → d.rolePending p = none → d.portMode p < 4 →
    (d.reEntries (d.obn (K.P_ROLE_CONTEXT p)) (moveEntry p q)).isSome = true →
    exec (.roleMove r p v) s = .next (s.wrote r (K.P_ROLE_MOVE p) [v.toNat] ((d.event.setOb (K.P_ROLE_PENDING p) (v.toNat : Nat)).portFlag p 8 true))) ∧
  (∀ (s : State) (r : Src) (p : Fin 96), s.opens r (K.P_ROLE_MOVE p) [0x7F] 1 = true →
    let d := s.taken r 2 (K.P_ROLE_MOVE p) 0 [0x7F]
    d.obn (K.P_ROLE_CONTEXT p) < 128 → (d.rolePending p).isSome = true →
    exec (.roleMoveCancel r p) s = .next (s.wrote r (K.P_ROLE_MOVE p) [0x7F] (((d.event.setOb (K.P_ROLE_PENDING p) 0x7F).portFlag p 8 false).logE 0x2121 p)))

/-- A port option takes its new value; on a port in service in the mode whose line it sets, the port probes again, and the T1L level moves the
port's reservation. From R123, R125, R135. Where the spec is silent the clauses rest on the model's choices of log entries 21 and 44. -/
def Obligations.PortOptions : Prop :=
  ∀ (s : State) (r : Src) (p : Fin 96) (opt : Fin 9) (v : Word), s.opens r (K.P_ETX_AN p + opt) [v.toNat] 1 = true →
    v.toNat ≤ [1, 2, 1, 3, 1, 3, 2, 2, 3].getD opt.val 0 → (opt.val = 8 → v.toNat = 1 ∨ v.toNat = 3) →
    let new := (s.taken r 2 (K.P_ETX_AN p + opt) 0 [v.toNat]).obn (K.P_ETX_AN p + opt) != v.toNat
    let d := (s.taken r 2 (K.P_ETX_AN p + opt) 0 [v.toNat]).event.setOb (K.P_ETX_AN p + opt) (v.toNat : Nat)
    let again := new && ((d.portMode p == 1 && (opt.val == 0 || opt.val == 6)) || (d.portMode p == 2 && (opt.val == 1 || opt.val == 2)))
    let d := if again && d.portUp p then d.portTo p 1 (some 4) else d
    let d := if again then d.mdixFlag p else d
    let d := if new && opt.val == 7 then d.modPort p fun x => { x with degrading := false } else d
    let d := if new && opt.val == 1 then d.modPort p fun x => { x with lowOnly := false } else d
    exec (.portOptionWrite r p opt v) s = .next (s.wrote r (K.P_ETX_AN p + opt) [v.toNat] (if again && d.portMode p == 2 then d.t1lReserve p else d))

/-- What happens on a port's line, where the port is in a state that it concerns. A level within ±200 mV holds a port in Probing, a good window
counts towards the return to service, a reversal swaps the pair each time, and an error report counts in ERR_COUNT. From R127, R133, R136, R138 to
R142, R151, R553. Where the spec is silent the clauses rest on the model's choices of log entries 1, 21, 44 and 56. -/
def Obligations.PortEvents : Prop :=
  (∀ (s : State) (p : Fin 96), s.cmd.portState p = 1 → s.cmd.hasFlag p 5 = false →
    let d := s.cmd.upTo ((s.cmd.port p).since + s.cmd.obn (K.P_PROBE_TIMEOUT p) * 1000000)
    exec (.probeTimeout p) s = .next (s.after ((d.portFlag p 5 true).logE 0x2113 p))) ∧
  (∀ (s : State) (p : Fin 96) (par cr : Bool), s.cmd.portState p = 1 → s.cmd.portMode p ≠ 0 → s.cmd.portMode p ≠ 1 → s.cmd.portMode p ≠ 3 →
    s.cmd.sump.hardHold = false →
    let held := (s.cmd.portMode p == 4 || s.cmd.portMode p == 5) && (s.cmd.port p).idleQuiet
    let d := s.cmd.upTo ((s.cmd.port p).since + upAfter (s.cmd.portMode p))
    (held = false → exec (.portUp p par cr) s = .next (s.after ((((d.portTo p 2 none).bump (K.P_UP_COUNT p)).logE 0x2100 p).degCheck p))) ∧
    (held = true → exec (.portUp p par cr) s = .next (s.after s.cmd))) ∧
  (∀ (s : State) (p : Fin 96) (cr : Bool), s.cmd.portState p = 1 → s.cmd.portMode p = 1 → s.cmd.sump.hardHold = false →
    let d := s.cmd.upTo (s.cmd.port p).since
    let d := (d.portFlag p 2 (d.obn (K.P_MDIX p) == 2 || (d.obn (K.P_MDIX p) == 0 && cr))).portFlag p 3 false
    d.portMode p ≠ 3 → exec (.portUp p false cr) s = .next (s.after ((((d.portTo p 2 none).bump (K.P_UP_COUNT p)).logE 0x2100 p).degCheck p))) ∧
  (∀ (s : State) (p : Fin 96), s.cmd.portUp p = true → exec (.linkLost p) s = .next (s.after ((s.cmd.portTo p 1 (some 3)).t1lReserve p))) ∧
  (∀ (s : State) (p : Fin 96), s.cmd.portState p = 3 →
    let x := s.cmd.port p
    let d := s.cmd.upTo (x.winAt + 1000000000)
    let good := if x.since ≤ x.winAt ∧ x.winErr ≤ s.cmd.obn (K.P_DEG_LIMIT p) then x.goodWins + 1 else 0
    let d := d.modPort p fun x => { x with winErr := 0, goodWins := good, winAt := x.winAt + 1000000000 }
    (good < 5 ∨ d.degrades p = true → exec (.degWindowEnd p) s = .next (s.after d)) ∧
    (5 ≤ good → d.degrades p = false → exec (.degWindowEnd p) s = .next (s.after ((d.portTo p 2 none).logE 0x2100 p)))) ∧
  (∀ (s : State) (p : Fin 96), s.cmd.portState p = 1 → s.cmd.portMode p = 1 → s.cmd.obb (K.P_ETX_AN p) = true →
    exec (.etxAnRestart p) s = .next (s.after (s.cmd.errCount p 1))) ∧
  (∀ (s : State) (p : Fin 96) (b : BitVec 2), s.cmd.portState p = 1 → s.cmd.portMode p = 2 →
    (s.cmd.obn (K.P_T1L_LEVEL p) = 1 → (s.cmd.port p).res ≠ 0 → s.cmd.obb (K.P_T1L_AN p) = false →
      exec (.t1lResolve p b) s = .next (s.after (s.cmd.portFlag p 4 true))) ∧
    (s.cmd.obn (K.P_T1L_LEVEL p) = 0 → s.cmd.obb (K.P_T1L_AN p) = true →
      exec (.t1lResolve p b) s = .next (s.after (if b.toNat.testBit 0 then s.cmd.portFlag p 4 false else s.cmd.errCount p 1)))) ∧
  (∀ (s : State) (p : Fin 96), s.cmd.portMode p = 3 → s.cmd.obb (K.P_POL_AUTO p) = true → s.cmd.portState p = 1 →
    let d := ((s.cmd.portFlag p 0 true).bump (K.P_POL_EVENTS p)).logE 0x2110 p
    let d := if (d.bus p).active.isSome then d.errCount p 1 else d
    d.portUp p = false → exec (.busPolaritySwap p) s = .next (s.after d)) ∧
  (∀ (s : State) (p : Fin 96) (mv : Int), s.cmd.portMode p = 4 ∨ s.cmd.portMode p = 5 → s.cmd.portState p = 1 ∨ s.cmd.portState p = 2 ∨ s.cmd.portState p = 3 →
    let d := s.cmd.modPort p fun x => { x with idleQuiet := false }
    (200 < mv → exec (.idleLevelEval p mv) s = .next (s.after (d.portFlag p 7 false))) ∧
    (-200 ≤ mv → mv ≤ 200 → exec (.idleLevelEval p mv) s = .next (s.after (s.cmd.modPort p fun x => { x with idleQuiet := true }))) ∧
    (mv < -200 → s.cmd.portMode p = 4 → s.cmd.obb (K.P_POL_AUTO p) = true →
      exec (.idleLevelEval p mv) s = .next (s.after
        ((((d.portFlag p 0 true).modPort p fun x => { x with polSwap := !x.polSwap }).bump (K.P_POL_EVENTS p)).logE 0x2110 p))) ∧
    (mv < -200 → s.cmd.portMode p = 5 → s.cmd.hasFlag p 7 = false →
      exec (.idleLevelEval p mv) s = .next (s.after ((((d.portFlag p 7 true).bump (K.P_POL_EVENTS p)).logE 0x2111 p).degCheck p)))) ∧
  (∀ (s : State) (p : Fin 96) (q : Int), s.cmd.portUp p = true →
    (s.cmd.portMode p = 2 → exec (.degradingCondition p q) s = .next (s.after
      ((s.cmd.modPort p fun x => { x with degrading := decide ((if s.cmd.hasFlag p 4 then -230 else -200) < q) }).degCheck p))) ∧
    (s.cmd.portMode p = 6 → s.cmd.obn (K.P_ENC_INPUT p) = 0 → exec (.degradingCondition p q) s = .next (s.after
      ((s.cmd.modPort p fun x => { x with degrading := decide (-200 < q) && decide (q < 200) }).degCheck p)))) ∧
  (∀ (s : State) (p : Fin 96) (t : Nat), (s.cmd.port p).recalEnds = some t →
    let d := ((s.cmd.upTo t).modPort p fun x => { x with recalEnds := none }).portFlag p 6 false
    d.portMode p ≠ 3 → (d.tile (p.val / 24)).calPort ≠ some p.val → exec (.recalDone p) s = .next (s.after d)) ∧
  (∀ (s : State) (c : Fin 20) (p : Fin 96) (v : Word), exec (.errReport c p v) s = .next (s.after (s.cmd.coreStoreAt c (0x300001 + 4 * p) v.toNat))) ∧
  (∀ (s : State) (c : Fin 20) (p : Fin 96) (v : Word), s.cmd.coreRuns c = true →
    let n := v.toNat % 256
    (s.cmd.boundCore p = some c.val → 4 ≤ s.cmd.portMode p →
      exec (.errReport c p v) s = .next (s.after ((s.cmd.setOb (K.P_ERR_COUNT p) ((s.cmd.obn (K.P_ERR_COUNT p) + n) % 2 ^ 24 : Nat)).modPort p fun x =>
        { x with winErr := x.winErr + n, errs := (s.cmd.now, n) :: x.errs.filter fun e => decide (s.cmd.now < e.1 + 1000000000) }))) ∧
    (s.cmd.boundCore p ≠ some c.val ∨ s.cmd.portMode p < 4 → exec (.errReport c p v) s = .next (s.after s.cmd)))

/-- Tiles: a start under its permit unless the tile is kept off, its end with a measurement, calibration and faults. From R147 to R150, R422. Where
the spec is silent the clauses rest on the model's choices of log entries 42, 44 and 57. -/
def Obligations.TileCommands : Prop :=
  (∀ (s : State) (t : Fin 4), s.cmd.obn (K.TILE_STATE t) = 2 →
    let x := s.cmd.tile t
    let d := s.cmd.tilePortsOff t 6 false
    let d := (((d.power (36 + t) false).tileCleared t).setOb (K.TILE_STATE t) 3).bump (K.TILE_LOSSES t)
    let d := ((d.modTile t fun x => { x with startEnds := none, permit := 0 }).release x.permit).logE 0x2C00 t
    exec (.tileLoss t) s = .next (s.after ((d.modTile t fun x => { x with
      lostAt := d.now, fails := 0, autoLeft := 3, autoAt := some (d.now + 1000000000) }).todo (.limp 4)))) ∧
  (∀ (s : State) (r : Src) (t : Fin 4) (d' : Dev) (n : Nat), s.opens r (K.TILE_CMD t) [1] 1 = true →
    let d := s.taken r 2 (K.TILE_CMD t) 0 [1]
    d.obn (K.TILE_STATE t) ≠ 1 → (d.tile t).calPort = none → (d.tile t).asked = false → d.obb (K.TILE_USE t) = true → d.tileKept t = false →
    (d.modTile t fun x => { x with auto := false, askSrc := some r }).ask (.tileStart t) 2500 50000 5 (d.waitLeft (some r)) 0 = (d', .granted n) →
    exec (.tileColdStart r t) s = .next (s.wrote r (K.TILE_CMD t) [1] (d'.tileBegin t n))) ∧
  (∀ (s : State) (t : Fin 4) (n : Nat), (s.cmd.tile t).startPermit = some (some n) → s.cmd.tileKept t = false →
    exec (.tileStartPermit t) s = .next (s.after ((s.cmd.tileBegin t n).complete (s.cmd.tile t).askSrc Stat.done))) ∧
  (∀ (s : State) (t : Fin 4) (e : Nat), (s.cmd.tile t).startEnds = some e →
    let x := s.cmd.tile t
    let d := ((s.cmd.modTile t fun x => { x with startEnds := none, permit := 0 }).release x.permit).setOb (K.TILE_STATE t) 2
    let d := ((d.tileMeasured t).modTile t fun x => { x with fails := 0, autoLeft := 0, autoAt := none }).logE 0x2C01 t
    (∃ u : Fin 4, d.obn (K.TILE_STATE u) = 3) →
    exec (.tileStartEnd t true) s = .next (s.after (d.each (tilePorts t) fun d p => d.autoUp p))) ∧
  (∀ (s : State) (t : Fin 4) (e : Nat), (s.cmd.tile t).startEnds = some e →
    let x := s.cmd.tile t
    let d := (((s.cmd.upTo e).modTile t fun x => { x with startEnds := none, permit := 0 }).release x.permit).power (36 + t) false
    exec (.tileStartEnd t false) s = .next (s.after ((((d.tileCleared t).setOb (K.TILE_STATE t) 3).each (tilePorts t) fun d p => d.dropRes p).startFailed t))) ∧
  (∀ (s : State) (t : Fin 4) (e : Nat), (s.cmd.tile t).autoAt = some e → s.cmd.obn (K.TILE_STATE t) = 3 → (s.cmd.tile t).asked = false →
    s.cmd.obb (K.TILE_AUTO_RESTART t) = true → (s.cmd.upTo e).tileKept t = false →
    exec (.tileAutoRestart t) s = .next (s.after ((s.cmd.upTo e).tileAsk t 50 none true).1)) ∧
  (∀ (s : State) (r : Src) (t : Fin 4) (d' : Dev) (n : Nat), s.opens r (K.TILE_CMD t) [2] 1 = true →
    let d := s.taken r 2 (K.TILE_CMD t) 0 [2]
    d.obn (K.TILE_STATE t) = 2 → (d.tile t).asked = false → d.calBusy t = false →
    d.ask (.tileCal t) 2500 50000 5 (d.waitLeft (some r)) 0 = (d', .granted n) →
    exec (.tileRecalibrate r t) s = .next (s.wrote r (K.TILE_CMD t) [2] ((d'.event.modTile t fun x => { x with calPermit := n }).calNext t 25 (24 * t)))) ∧
  (∀ (s : State) (r : Src) (t : Fin 4), s.opens r (K.TILE_USE t) [0] 2 = true →
    let d := s.taken r 2 (K.TILE_USE t) 0 [0]
    d.mode = 2 → (∀ p ∈ tilePorts t, 128 ≤ d.obn (K.P_ROLE_CONTEXT p)) →
    exec (.tileUseWrite r t 0) s = .next (s.wrote r (K.TILE_USE t) [0] ((d.event.setOb (K.TILE_USE t) 0).tileOff t 6))) ∧
  (∀ (s : State) (r : Src) (t : Fin 4), s.opens r (K.TILE_USE t) [1] 2 = true → (s.taken r 2 (K.TILE_USE t) 0 [1]).mode = 2 →
    exec (.tileUseWrite r t 1) s = .next (s.wrote r (K.TILE_USE t) [1] (((s.taken r 2 (K.TILE_USE t) 0 [1]).event.setOb (K.TILE_USE t) 1).tileOn t)))

/-- Faults of a line, retries and sweeps; a voltage is an OVERVOLTAGE when it is outside the working range of the mode, one of the same instant as
an OVERCURRENT becomes the cause, and a retry is granted only with every used pin in range; a sweep leaves its traces, its events in order, the
number dropped and its sequence number. From R155 to R165. Where the spec is silent the clauses rest on the model's choices of log entries 2, 21, 36
and 56. -/
def Obligations.LineFaults : Prop :=
  (∀ (s : State) (p : Fin 96) (pin : Fin 5) (cv : Int), s.cmd.pinUsed p pin = true → s.cmd.portState p = 1 ∨ s.cmd.portState p = 2 ∨ s.cmd.portState p = 3 →
    let was := s.cmd.obn (K.P_OC_EVENTS p)
    let d := (((s.cmd.setOb (K.P_FAULT_PIN p) (pin.val : Nat)).bump (K.P_OC_EVENTS p)).portTo p 4 (some 9)).logE 0x2102 p
    let d := d.modPort p fun x => { x with overAt := some d.now, ocWas := was }
    let e := ((((s.cmd.setOb (K.P_FAULT_PIN p) (pin.val : Nat)).bump (K.P_OV_EVENTS p)).portTo p 4 (some 10)).logE 0x2102 p).modPort p fun x =>
      { x with overAt := none, ocWas := was }
    exec (.overcurrent p pin) s = .next (s.after (if d.obn (K.P_RETRY_POLICY p) = 0 then d.portQuarantine p 5 else d.retryWait p)) ∧
    (s.cmd.pinOut p cv = true → exec (.overvoltage p pin cv) s = .next (s.after (if e.obn (K.P_RETRY_POLICY p) = 0 then e.portQuarantine p 5 else e.retryWait p))) ∧
    (s.cmd.pinOut p cv = false → exec (.overvoltage p pin cv) s = .next (s.after s.cmd))) ∧
  (∀ (s : State) (p : Fin 96) (pin : Fin 5) (cv : Int), s.cmd.pinUsed p pin = true → s.cmd.pinOut p cv = true → s.cmd.portState p = 4 ∨ s.cmd.portState p = 5 →
    (∀ n t, (s.cmd.port p).retry ≠ .window n t) → (s.cmd.port p).overAt = some s.cmd.now →
    let d := if s.cmd.portState p = 4 then s.cmd.setOb (K.PORT_CAUSE p) 10 else s.cmd
    let d := (d.modPort p fun x => { x with overAt := none }).setOb (K.P_FAULT_PIN p) (pin.val : Nat)
    exec (.overvoltage p pin cv) s = .next (s.after ((d.setOb (K.P_OC_EVENTS p) ((s.cmd.port p).ocWas : Nat)).bump (K.P_OV_EVENTS p)))) ∧
  (∀ (s : State) (p : Fin 96) (t n : Nat) (d' : Dev), (s.cmd.port p).retry = .delay t → s.cmd.portState p = 4 →
    (s.cmd.upTo t).ask (.retry p) 250 5000 1 100 0 = (d', .granted n) →
    exec (.retryDelayEnd p) s = .next (s.after (d'.modPort p fun x => { x with retry := .answered (some n) }))) ∧
  (∀ (s : State) (p : Fin 96), (s.cmd.port p).retry = .answered none → ∀ b, exec (.retryPermit p b) s = .next (s.after (s.cmd.retryWait p))) ∧
  (∀ (s : State) (p : Fin 96) (n : Nat) (cv : Vector Int 5), (s.cmd.port p).retry = .answered (some n) →
    ((∀ i : Fin 5, s.cmd.pinUsed p i = true → s.cmd.pinOut p cv[i] = false) →
      exec (.retryPermit p cv) s = .next (s.after (s.cmd.modPort p fun x => { x with retry := .window n (s.cmd.now + 5000000) }))) ∧
    ((∃ i : Fin 5, s.cmd.pinUsed p i = true ∧ s.cmd.pinOut p cv[i] = true) →
      exec (.retryPermit p cv) s = .next (s.after ((s.cmd.release n).failAttempt p)))) ∧
  (∀ (s : State) (p : Fin 96) (n t : Nat), (s.cmd.port p).retry = .window n t →
    let d := (s.cmd.upTo t).release n
    let asks := d.portMode p == 2 && d.obn (K.P_T1L_LEVEL p) != 0 && (d.port p).res == 0 && !(d.port p).lowOnly
    exec (.retryWindowEnd p) s = .next (s.after
      (if asks then ((d.modPort p fun x => { x with retry := .idle }).bringUp p 2 true none).1 else d.probe p none))) ∧
  (∀ (s : State) (p : Fin 96), s.cmd.portUp p = true →
    exec (.retryCountReset p) s = .next (s.after ((s.cmd.upTo ((s.cmd.port p).serviceSince + 10000000000)).modPort p fun x => { x with attempts := 1 }))) ∧
  (∀ (s : State) (r : Src) (p : Fin 96) (d' : Dev) (n : Nat), s.opens r (K.P_TDR_START p) [1] 1 = true →
    let d := s.taken r 2 (K.P_TDR_START p) 0 [1]
    d.tdrStatus p = Stat.done → d.ask (.tdr p) 900 20000 (d.obn (K.P_TDR_PRIO p)) (d.waitLeft (some r)) 0 = (d', .granted n) →
    (d'.tile (p.val / 24)).sweep = none → (d'.port p).recalEnds = none →
    let pairs := d'.obn (K.P_TDR_PAIRS p) % 16
    let e := d'.event.modTile (p.val / 24) fun x => { x with sweep := some ⟨p, n, true, pairs, d'.now + popBits pairs 4 * 4180000⟩ }
    let e := if d'.isMac p ∧ (mget? d'.sw.line p).isSome then e.modMac p fun m => { m with cut := true } else e
    exec (.tdrStart r p 1) s = .next (s.wrote r (K.P_TDR_START p) [1]
      ((e.setOb (K.TILE_TDR_PORT (p.val / 24)) (p.val : Nat)).setOb (K.P_TDR_STATUS p) (Stat.busy : Nat)))) ∧
  (∀ (s : State) (p : Fin 96) (w : Sweep), (s.cmd.tile (p.val / 24)).sweep = some w → w.port = p.val → w.acquiring = true →
    exec (.tdrAcqEnd p) s = .next (s.after
      (((s.cmd.upTo w.ends).modTile (p.val / 24) fun x => { x with sweep := some { w with acquiring := false } }).release w.permit))) ∧
  (∀ (s : State) (p : Fin 96) (y : List (List Word)), 4 < y.length → exec (.tdrProcEnd p y) s = .fault (.malformed "TDR_PROC_END traces")) ∧
  (∀ (s : State) (p : Fin 96) (y : List (List Word)) (w : Sweep), y.length ≤ 4 → (s.cmd.tile (p.val / 24)).sweep = some w → w.port = p.val → w.acquiring = false →
    let taken := setBits w.pairs 4
    let z := (List.range taken.length).map fun i => tdrCorrelate ((y[i]?).getD [])
    let l := ((taken.zip z).flatMap fun x => s.cmd.tdrEvents p x.1 x.2).foldl (fun a e => tdrInsert e a) []
    let d := s.cmd.event.setDom (K.P_TDR_SAMPLES p) (bytesOf (z.flatMap fun t => t.map fun v => v.toNat))
    let d := d.each (List.range 8) fun d i => d.setOb (K.P_TDR_EVENT p i) (((l[i]?).map TdrEvent.value).getD 0xFFFFFF000000 : Nat)
    let d := (d.setOb (K.P_TDR_DROPPED p) (min (l.length - 8) 255 : Nat)).setOb (K.P_TDR_SEQ p) ((s.cmd.seq + 1) % 2 ^ 24 : Nat)
    let d := ((d.setOb (K.P_TDR_STATUS p) 0).setOb (K.TILE_TDR_PORT (p.val / 24)) 0xFF).modTile (p.val / 24) fun x => { x with sweep := none }
    exec (.tdrProcEnd p y) s = .next (s.after (((d.bump (K.TILE_TDR_SWEEPS (p.val / 24))).logE 0x2130 p).raise (0x430 + p))))

/-- The discrete inputs and the encoder of a port. A voltage in the band of its type keeps the sample; a wire-break test judges the voltage that its
input reaches; encoder levels are judged with the thresholds of their input and those held for less than ENC_FILTER are not taken. From R125, R166
to R173. Where the spec is silent the clauses rest on the model's choices of log entries 2 and 44. -/
def Obligations.InputCommands : Prop :=
  (∀ (s : State) (p : Fin 96) (cv : Vector Int 5), s.cmd.portMode p = 7 → s.cmd.portState p = 1 ∨ s.cmd.portState p = 2 ∨ s.cmd.portState p = 3 →
    let d := s.cmd.upTo (s.cmd.port p).dinAt
    let d := d.modPort p fun x => { x with dinAt := d.now + 1000 }
    exec (.dinSample p cv) s = .next (s.after (((d.each (List.range 5) fun d i =>
      if d.now < (d.dinIn p i).testEnds then d.dinStep p i (d.dinIn p i).raw else
      let v := d.dinLevel p i ((cv.toList[i]?).getD 0)
      (d.modDin p i fun x => { x with lvl := v }).dinStep p i (v != (d.obn (K.P_DIN_INVERT p)).testBit i)).modPort p fun x =>
        { x with dinFirst := false }).degCheck p))) ∧
  (∀ (s : State) (p : Fin 96) (i : Fin 5),
    let x := s.cmd.dinIn p i
    let d := s.cmd.upTo (x.winAt + s.cmd.obn (K.P_FLUTTER_W p) * 1000000)
    let keep := x.flutter && (!d.dinOn p || (decide (d.obn (K.P_FLUTTER_N p) < x.rejected) && d.obn (K.P_FLUTTER_N p) != 0))
    exec (.flutterWindowEnd p i) s = .next (s.after (d.modDin p i fun x => { x with flutter := keep, rejected := 0, winAt := d.now }))) ∧
  (∀ (s : State) (p : Fin 96) (i : Fin 5), s.cmd.obn (K.P_STUCK_T p i) ≠ 0 → (s.cmd.dinIn p i).filt = true → (s.cmd.dinIn p i).stuck = false →
    s.cmd.dinOn p = true →
    exec (.stuckTimeout p i) s = .next (s.after ((((s.cmd.upTo ((s.cmd.dinIn p i).highSince + s.cmd.obn (K.P_STUCK_T p i) * 1000000 + 1)).modDin p i fun x =>
      { x with stuck := true }).logE 0x2141 p).degCheck p))) ∧
  (∀ (s : State) (p : Fin 96) (i : Fin 5) (cv : Int), s.cmd.portMode p = 7 → s.cmd.portState p = 1 ∨ s.cmd.portState p = 2 ∨ s.cmd.portState p = 3 →
    (s.cmd.obn (K.P_WB_ENABLE p)).testBit i = true → (s.cmd.tile (p.val / 24)).vtfPresent = true →
    let d := s.cmd.modDin p i fun x => { x with testEnds := s.cmd.now + 20000 }
    (cv + 200 < 10 * s.cmd.ob (K.TILE_VTF (p.val / 24)) →
      exec (.wirebreakTest p i cv) s = .next (s.after (d.modDin p i fun x => { x with wbOpen := 0, wirebreak := false }))) ∧
    (10 * s.cmd.ob (K.TILE_VTF (p.val / 24)) ≤ cv + 200 → (s.cmd.dinIn p i).wbOpen = 9 → (s.cmd.dinIn p i).wirebreak = false →
      exec (.wirebreakTest p i cv) s = .next (s.after ((d.modDin p i fun x => { x with wbOpen := 10, wirebreak := true }).logE 0x2142 p)))) ∧
  (∀ (s : State) (t : Fin 4) (dv : Nat), (s.cmd.tile t).vtfPresent = true → s.cmd.tileRuns t = true →
    let d := s.cmd.setOb (K.TILE_VTF t) (dv : Nat)
    (dv < d.obn (K.TILE_VTF_LOW_LIMIT t) → d.obb (K.TILE_SUPPLY_LOW t) = false →
      exec (.supplyLowTimer t dv) s = .next (s.after (((d.setOb (K.TILE_SUPPLY_LOW t) 1).bump (K.TILE_SUPPLY_LOW_EVENTS t)).logE 0x2C10 t))) ∧
    (d.obn (K.TILE_VTF_LOW_LIMIT t) + 5 < dv → exec (.supplyLowTimer t dv) s = .next (s.after (d.setOb (K.TILE_SUPPLY_LOW t) 0))) ∧
    (d.obn (K.TILE_VTF_LOW_LIMIT t) ≤ dv → dv ≤ d.obn (K.TILE_VTF_LOW_LIMIT t) + 5 → exec (.supplyLowTimer t dv) s = .next (s.after d))) ∧
  (∀ (s : State) (t : Fin 4) (dv : Nat),
    exec (.vtfPresenceChange t true dv) s = .next (s.after ((s.cmd.modTile t fun x => { x with vtfPresent := true }).setOb (K.TILE_VTF t) (dv : Nat)))) ∧
  (∀ (s : State) (r : Src) (p : Fin 96) (v : Word), s.opens r (K.P_EDGE_CLEAR p) [v.toNat] 1 = true → v.toNat < 32 →
    let d := s.taken r 2 (K.P_EDGE_CLEAR p) 0 [v.toNat]
    let counted := (setBits v.toNat 5).filter fun i => (d.dinIn p i).edgeAt == some d.now
    exec (.edgeClear r p v) s = .next (s.wrote r (K.P_EDGE_CLEAR p) [v.toNat]
      ((d.event.zero ((setBits v.toNat 5).map fun i => K.P_EDGE_COUNT p i)).each counted fun d i => d.setOb (K.P_EDGE_COUNT p i) 1))) ∧
  (∀ (s : State) (p : Fin 96) (cva cvb : Int) (held : Nat), s.cmd.encTaken p held = true → s.cmd.obn (K.P_POL_SWAP p) = 0 →
    let x := s.cmd.port p
    let a := s.cmd.encLevel p cva x.encA
    let b := s.cmd.encLevel p cvb x.encB
    let d := s.cmd.modPort p fun x => { x with encA := a, encB := b }
    let count (k : Int) := d.setOb (K.P_ENC_COUNT p) (sext 48 (wrapN 48 (d.ob (K.P_ENC_COUNT p) + k)))
    ((a, b) = (x.encA, x.encB) → exec (.encEdge p cva cvb held) s = .next (s.after d)) ∧
    ((a, b) = (!x.encB, x.encA) → exec (.encEdge p cva cvb held) s = .next (s.after (count 1))) ∧
    ((a, b) = (x.encB, !x.encA) → exec (.encEdge p cva cvb held) s = .next (s.after (count (-1)))) ∧
    ((a, b) = (!x.encA, !x.encB) → exec (.encEdge p cva cvb held) s = .next (s.after (((s.cmd.modPort p fun x => { x with encA := !x.encA, encB := !x.encB }).bump (K.P_ENC_ERR p)).logSec 0x2150 p)))) ∧
  (∀ (s : State) (p : Fin 96) (cv : Int) (held : Nat), s.cmd.encTaken p held = true →
    let v := s.cmd.encIndexLevel p cv (s.cmd.port p).encIdx
    (v = (s.cmd.port p).encIdx → exec (.encIndexEdge p cv held) s = .next (s.after s.cmd)) ∧
    (v = false → (s.cmd.port p).encIdx = true → exec (.encIndexEdge p cv held) s = .next (s.after (s.cmd.modPort p fun x => { x with encIdx := false }))) ∧
    (v = true → (s.cmd.port p).encIdx = false → exec (.encIndexEdge p cv held) s = .next (s.after (((s.cmd.setOb (K.P_ENC_INDEX p) (s.cmd.ob (K.P_ENC_COUNT p))).setOb (K.P_ENC_INDEX_TIME p)
      (s.cmd.now : Nat)).modPort p fun x => { x with encIdx := true }))) ∧
    exec (.encIllegalTransition p held) s = .next (s.after
      (((s.cmd.modPort p fun x => { x with encA := !x.encA, encB := !x.encB }).bump (K.P_ENC_ERR p)).logSec 0x2150 p))) ∧
  (∀ (s : State) (p : Fin 96) (a b : Int) (held : Nat), held < s.cmd.obn (K.P_ENC_FILTER p) →
    exec (.encEdge p a b held) s = .next (s.after s.cmd) ∧ exec (.encIndexEdge p a held) s = .next (s.after s.cmd) ∧
    exec (.encIllegalTransition p held) s = .next (s.after s.cmd)) ∧
  (∀ (s : State) (r : Src) (p : Fin 96) (v : BitVec 48), s.opens r (K.P_ENC_PRESET p) (hiLo v) 1 = true →
    exec (.encPreset r p v) s = .next (s.wrote r (K.P_ENC_PRESET p) (hiLo v)
      ((s.taken r 2 (K.P_ENC_PRESET p) 0 (hiLo v)).event.setOb (K.P_ENC_COUNT p) v.toInt)))

/-- Frames at a MAC, PAUSE, uplinks and their gate control lists. A frame for a service of the device that a running keeper serves is answered or
goes to that keeper. From R134, R178 to R203, R425. Where the spec is silent the clauses rest on the model's choices of log entries 13, 14, 32, 33,
41 and 57. -/
def Obligations.MacCommands : Prop :=
  (∀ (s : State) (m : Fin 100) (pre : Nat) (l : List Byte), s.cmd.macRuns m = true → s.cmd.lineBusy m = false → 1 ≤ pre → pre ≤ 7 → 64 ≤ l.length →
    l.length ≤ 2000 → fcsGood l = true → etherType l ≠ 0x8808 → etherType l ≠ 0x88F7 → (s.cmd.vlanOf m l).2.2 = true → m.val < 96 →
    let d := (s.cmd.macBump m K.MAC_RX_FRAMES K.UP_RX_FRAMES).bumpBy (macKey m K.MAC_RX_OCTETS K.UP_RX_OCTETS) l.length
    let tb := d.macOb m K.MAC_TS_BASE K.UP_TS_BASE
    let t := adjNs (d.tbAgo tb 0 m) (d.ob (macKey m K.MAC_TS_ING_ADJ K.UP_TS_ING_ADJ))
    exec (.macRxFrame m pre l 0 false) s = .next (s.after (d.toParser m
      { bytes := l, fcsIn := true, bad := false, cause := 0, vid := (s.cmd.vlanOf m l).1, cls := d.classOf m (s.cmd.vlanOf m l).2.1, ingTb := tb, ingTime := t,
        est := false, rate := rateCode (d.lineRate m) }))) ∧
  (∀ (s : State) (m : Fin 100) (pre : Nat) (l : List Byte) (e : BitVec 4), s.cmd.macRuns m = true → s.cmd.lineBusy m = false → 1 ≤ pre → pre ≤ 7 →
    l.length < 64 → e.getLsbD 2 = false → e.getLsbD 3 = false →
    exec (.macRxFrame m pre l e false) s = .next (s.after (s.cmd.macBump m K.MAC_RUNTS K.UP_RUNTS))) ∧
  (∀ (s : State) (m : Fin 100) (q : BitVec 16), s.cmd.macRuns m = true → s.cmd.lineBusy m = false →
    let d := s.cmd.macBump m K.MAC_PAUSE_RX K.UP_PAUSE_RX
    (d.macOb m K.MAC_PAUSE_MODE K.UP_PAUSE_MODE ≠ 1 → exec (.pauseRx m q) s = .next (s.after d)) ∧
    (d.macOb m K.MAC_PAUSE_MODE K.UP_PAUSE_MODE = 1 → q ≠ 0 → exec (.pauseRx m q) s = .next (s.after (d.modMac m fun x =>
      { x with pauseNext := none, paused := some (d.now + (q.toNat * 512 * 1000000000 + d.lineRate m - 1) / max (d.lineRate m) 1) }))) ∧
    (d.macOb m K.MAC_PAUSE_MODE K.UP_PAUSE_MODE = 1 → exec (.pauseRx m 0) s = .next (s.after (d.modMac m fun x => { x with pauseNext := none, paused := none })))) ∧
  (∀ (s : State) (m : Fin 100) (t : Nat), (s.cmd.mac m).paused = some t → (s.cmd.mac m).pauseNext = none →
    exec (.pauseExpiry m) s = .next (s.after ((s.cmd.upTo t).modMac m fun x => { x with paused := none }))) ∧
  (∀ (s : State) (c : Fin 20) (i : Fin 96) (x : TsRec) (l : List TsRec), s.cmd.coreRuns c = true → s.cmd.boundCore i = some c.val → (s.cmd.mac i).fifo = x :: l →
    exec (.tsPop (c.castLE (by omega)) (i.castLE (by omega))) s = .next (s.after
      ((s.cmd.modMac i fun m => { m with fifo := l, latch := some x }).emit (.coreRead c (tsWord0 x l.length))))) ∧
  (∀ (s : State) (r : Src) (u : Fin 4) (v : Word), s.opens r (K.UPLINK_MODE u) [v.toNat] 1 = true → v.toNat ≤ 4 →
    exec (.uplinkModeWrite r u v) s = .next (s.wrote r (K.UPLINK_MODE u) [v.toNat] ((s.taken r 2 (K.UPLINK_MODE u) 0 [v.toNat]).event.upMode u v.toNat))) ∧
  (∀ (s : State) (u : Fin 4), s.cmd.obn (K.UPLINK_STATE u) = 1 → exec (.uplinkUp u) s = .next (s.after (s.cmd.setOb (K.UPLINK_STATE u) 2))) ∧
  (∀ (s : State) (u : Fin 4) (remote : Bool), s.cmd.obn (K.UPLINK_STATE u) = 2 → s.cmd.clause49 (96 + u) = true →
    exec (.uplinkFault u remote) s = .next (s.after
      (((((s.cmd.upSet u 3).modUp u fun x => { x with faultSeen := s.cmd.now }).upSending u (if remote then 2 else 1)).bump (K.UP_LINK_FAULTS u)).logE
        0x3200 u))) ∧
  (∀ (s : State) (u : Fin 4), s.cmd.obn (K.UPLINK_STATE u) = 2 → s.cmd.clause49 (96 + u) = false →
    exec (.uplinkFault u false) s = .next (s.after (s.cmd.upSet u 1)) ∧ exec (.uplinkFault u true) s = .next (s.after s.cmd)) ∧
  (∀ (s : State) (u : Fin 4), s.cmd.obn (K.UPLINK_STATE u) = 3 →
    exec (.uplinkFaultClear u) s = .next (s.after (((s.cmd.upTo ((s.cmd.up u).faultSeen + 1000000)).upSet u 2).upSending u 0))) ∧
  (∀ (s : State) (u : Fin 4) (l : List Byte), s.cmd.macRuns (96 + u) = true → s.cmd.forDevice u l = true → s.cmd.service u l = none → (byteAt l 0).testBit 0 = false →
    exec (.deviceFrameRx u l) s = .next (s.after (s.cmd.bump (K.UP_NOT_LOCAL u)))) ∧
  (∀ (s : State) (u : Fin 4) (l : List Byte), s.cmd.macRuns (96 + u) = true → s.cmd.forDevice u l = true →
    let d := s.cmd
    let m := 96 + u.val
    let tb := d.macOb m K.MAC_TS_BASE K.UP_TS_BASE
    let e := envOfRx m { bytes := l, bad := false, cause := 0, vid := (d.vlanOf m l).1, cls := d.classOf m (d.vlanOf m l).2.1, ingTb := tb,
                         ingTime := adjNs (d.tbAgo tb 0 m) (d.ob (macKey m K.MAC_TS_ING_ADJ K.UP_TS_ING_ADJ)), est := false, rate := rateCode (d.lineRate m) }
    (∀ f, d.service u l = some (.answer f) → d.served 0 = true →
      exec (.deviceFrameRx u l) s = .next (s.after (d.sendFrame { src := 100 + d.roleOf 0, dest := (12 + u) * 16 } f false 0))) ∧
    (d.service u l = some .aap → d.served 0 = true →
      exec (.deviceFrameRx u l) s = .next (s.after (d.sendFrame { e with dest := coreDest (d.roleOf 0) } l false 0))) ∧
    (d.service u l = some .timeKeeper → d.served 3 = true →
      exec (.deviceFrameRx u l) s = .next (s.after
        ((d.sendFrame { e with dest := coreDest (d.roleOf 3) } l false 0).asFrame ((d.obn K.AS_UPLINKS).testBit u) m
          (fullSeconds (d.tbNs tb / 1000000000) e.ingS * 1000000000 + e.ingNs) l)))) ∧
  (∀ (s : State) (r : Src) (u : Fin 4), s.opens r (K.UP_GCL_APPLY u) [1] 1 = true →
    let d := s.taken r 2 (K.UP_GCL_APPLY u) 0 [1]
    let e := d.event
    let cycle := e.obn (K.UP_GCL_ADMIN_CYCLE u)
    let l := d.dom (K.UP_GCL_ADMIN u)
    let least := e.gclNow u + 100000
    let base := e.obn (K.UP_GCL_ADMIN_BASE u)
    let at_ := if least ≤ base then base else base + (least - base + cycle - 1) / cycle * cycle
    gclOk l cycle = true →
    exec (.gclApply r u 1) s = .next (s.wrote r (K.UP_GCL_APPLY u) [1] (((e.modUp u fun x => { x with armed := some ⟨gclEntries l, at_, cycle⟩ }).setOb
      (K.UP_GCL_STATE u) 1).setOb (K.UP_GCL_CHANGE_TIME u) (at_ : Nat)))) ∧
  (∀ (s : State) (u : Fin 4) (g : Gcl), (s.cmd.up u).armed = some g →
    exec (.gclChange u) s = .next (s.after (((s.cmd.upToOn (s.cmd.obn (K.UP_GCL_TB u)) g.base).modUp u fun x =>
      { x with armed := none, oper := some g, idx := 0, entryEnds := g.base + g.len 0 }).setOb (K.UP_GCL_STATE u) 2))) ∧
  (∀ (s : State) (u : Fin 4) (g : Gcl), (s.cmd.up u).oper = some g →
    exec (.gclEntryEnd u) s = .next (s.after ((s.cmd.upToOn (s.cmd.obn (K.UP_GCL_TB u)) (s.cmd.up u).entryEnds).modUp u fun x =>
      let i := (x.idx + 1) % g.entries.length; { x with idx := i, entryEnds := x.entryEnds + g.len i })))

/-- The priority-bus controllers. A received frame is stored by the lowest filter that takes it and goes to the fabric where nothing stops it; a
refill moves the oldest frame of the queues into the first free buffer of the fabric. From R206, R208, R210, R214 to R230. Where the spec is silent
the clauses rest on the model's choices of log entries 15 and 45. -/
def Obligations.BusCommands : Prop :=
  (∀ (s : State) (c : Fin 20) (p : Fin 96) (b : Fin 32), s.cmd.coreRuns c = true → s.cmd.boundCore p = some c.val → s.cmd.domOn (36 + p / 24) = true →
    s.cmd.portMode p = 3 → s.cmd.fabricFed p b = false →
    exec (.txSend c p b) s = .next (s.after (s.cmd.sendBuf p b)) ∧ exec (.txAbort c p b) s = .next (s.after (s.cmd.abortTx p b))) ∧
  (∀ (s : State) (c : Fin 20) (p : Fin 96) (o : Fin 64) (v : Word), s.cmd.coreRuns c = true → s.cmd.boundCore p = some c.val → s.cmd.domOn (36 + p / 24) = true →
    s.cmd.portMode p = 3 → v.toNat.testBit 0 = true →
    exec (.busRxRelease c p o v) s = .next (s.after (s.cmd.releaseRx p o))) ∧
  (∀ (s : State) (c : Fin 20) (p : Fin 96) (o : Fin 64), s.cmd.coreRuns c = true → s.cmd.boundCore p = some c.val → s.cmd.domOn (36 + p / 24) = true →
    s.cmd.portMode p = 3 →
    let w := s.cmd.bw p (rxBase o + 24)
    exec (.busRxLockRead c p o) s = .next (s.after ((s.cmd.bset p (rxBase o + 24) (putBit w 22 true)).emit (.coreRead c w)))) ∧
  (∀ (s : State) (c : Fin 20) (p : Fin 96) (v : Word), s.cmd.coreRuns c = true → s.cmd.boundCore p = some c.val → s.cmd.domOn (36 + p / 24) = true →
    s.cmd.portMode p = 3 →
    exec (.busDoneClear c p true v) s = .next (s.after (s.cmd.bset p 5 (s.cmd.bw p 5 &&& (v.toNat ^^^ 0xFFFFFF)))) ∧
    exec (.busDoneClear c p false v) s = .next (s.after (s.cmd.bset p 4 (s.cmd.bw p 4 &&& (v.toNat ^^^ 0xFFFFFF)))) ∧
    (v.toNat.testBit 0 = true → s.cmd.obn (K.BUS_STATE p) = 2 →
      exec (.busRecover (.core c) p v) s = .next (s.after (s.cmd.setOb (K.BUS_STATE p) 3)))) ∧
  (∀ (s : State) (r : Src) (p : Fin 96), s.opens r (K.BUS_RECOVER p) [1] 1 = true →
    let d := s.taken r 2 (K.BUS_RECOVER p) 0 [1]
    d.obn (K.BUS_STATE p) = 2 → exec (.busRecover (.dict r) p 1) s = .next (s.wrote r (K.BUS_RECOVER p) [1] (d.event.setOb (K.BUS_STATE p) 3))) ∧
  (∀ (s : State) (p : Fin 96) (b : Nat), s.cmd.portMode p = 3 → s.cmd.obn (K.BUS_STATE p) ≤ 1 → (s.cmd.bus p).active = none → (s.cmd.bus p).listen = false →
    s.cmd.sump.hardHold = false → s.cmd.lineBusy p = false → s.cmd.urgent p = some b →
    let d := (s.cmd.setTxState p b 2).upTo (max (s.cmd.bus p).suspendEnds (s.cmd.now + s.cmd.afterSample p))
    exec (.busSelect p) s = .next (s.after (d.modBus p fun x =>
      { x with active := some b, abortActive := false, sof := adjNs (d.tbAgo (d.obn (K.BUS_TS_BASE p)) 0 p) (d.ob (K.BUS_TS_ADJ p)) }))) ∧
  (∀ (s : State) (p : Fin 96) (b : Nat) (t : Option (BitVec 8)), (s.cmd.bus p).active = some b → (s.cmd.bw p (txBase b)).testBit 21 = false →
    exec (.busAttemptEnd p .lost t) s = .next (s.after ((((s.cmd.retryBuf p b).bump (K.BUS_ARB_LOST p)).twin p b false).modBus p fun x =>
      { x with active := none, abortActive := false }))) ∧
  (∀ (s : State) (p : Fin 96) (b : Nat) (t : Option (BitVec 8)), (s.cmd.bus p).active = some b → (s.cmd.bw p (txBase b)).testBit 21 = false →
    let d := if s.cmd.obn (K.BUS_STATE p) = 1 then s.cmd.modBus p fun x => { x with suspendEnds := s.cmd.now + s.cmd.bitsNs p 11 } else s.cmd
    let d := ((d.onWire p (.busFrame p (d.busSent p b).1 (d.busSent p b).2.1 (d.busSent p b).2.2)).event.setTxState p b 4).bump (K.BUS_TX_FRAMES p)
    let d := d.bsetAll p (txBase b + 26) (t80Words (d.bus p).sof)
    let d := ((d.bset p (txBase b + 31) d.seq).setDone p b).twin p b false
    (d.bus p).tsTag = [] →
    exec (.busAttemptEnd p .success t) s = .next (s.after (((d.setOb (K.BUS_TEC p) (d.obn (K.BUS_TEC p) - 1 : Nat)).modBus p fun x =>
      { x with active := none, abortActive := false }).confine p))) ∧
  (∀ (s : State) (p : Fin 96) (b : Nat) (t : Option (BitVec 8)) (i : Fin 3), (s.cmd.bus p).active = some b → (s.cmd.bw p (txBase b)).testBit 21 = false →
    let d := if s.cmd.obn (K.BUS_STATE p) = 1 then
      { s.cmd.modBus p fun x => { x with suspendEnds := s.cmd.now + s.cmd.bitsNs p (25 + Config.freeNat s.cmd.free % 7) } with free := s.cmd.free + 1 } else s.cmd
    let d := (((d.retryBuf p b).busFlagSent p).busErr p).twin p b false
    let d := d.setOb (K.BUS_LAST_ERR p) 2
    exec (.busAttemptEnd p (.error 2 i) t) s = .next (s.after (((d.setOb (K.BUS_TEC p) (min 263 (d.obn (K.BUS_TEC p) + 8) : Nat)).modBus p fun x =>
      { x with active := none, abortActive := false }).confine p))) ∧
  (∀ (s : State) (p : Fin 96) (w0 w1 : Word) (data : List Byte) (ago : Nat), s.cmd.portMode p = 3 → s.cmd.obn (K.BUS_STATE p) ≤ 1 →
    s.cmd.portState p ≠ 1 → s.cmd.lineBusy p = true → w0.toNat.testBit 21 = false →
    exec (.busRxFrame p w0 w1 data ago) s = .next (s.after (s.cmd.bump (K.P_RECAL_DROPS p)))) ∧
  (∀ (s : State) (p : Fin 96) (w0 w1 : Word) (data : List Byte) (ago : Nat), s.cmd.portMode p = 3 → s.cmd.obn (K.BUS_STATE p) ≤ 1 →
    s.cmd.portState p ≠ 1 → s.cmd.lineBusy p = false → w0.toNat.testBit 21 = false → w0.toNat.testBit 23 = true → data.length = dlcBytes w0.toNat →
    w0.toNat % 2 ^ 15 < 32 →
    let ts := adjNs (s.cmd.tbAgo (s.cmd.obn (K.BUS_TS_BASE p)) ago p) (s.cmd.ob (K.BUS_TS_ADJ p))
    let body := [w0.toNat, w1.toNat] ++ wordsOf data
    let words := body ++ List.replicate (24 - body.length) 0 ++ t80Words ts
    let d := s.cmd.bump (K.BUS_RX_FRAMES p)
    let rec_ := d.obn (K.BUS_REC p)
    let d := if (d.bus p).listen then d
      else if 127 < rec_ then { d.setOb (K.BUS_REC p) (119 + Config.freeNat d.free % 9 : Nat) with free := d.free + 1 }
      else d.setOb (K.BUS_REC p) (rec_ - 1 : Nat)
    let e := d.confine p
    let onward (d : Dev) := if d.portUp p = true then d.toParser p
      { bytes := beBytes 3 w0.toNat ++ beBytes 3 w1.toNat ++ data, bad := false, cause := 0, vid := 0, cls := 0,
        ingTb := d.obn (K.BUS_TS_BASE p), ingTime := ts, est := false, rate := 0 } else d
    ((∀ o : Fin 64, e.filterHit p o w0.toNat w1.toNat = false) → exec (.busRxFrame p w0 w1 data ago) s = .next (s.after (onward e))) ∧
    (∀ o : Fin 64, e.filterHit p o w0.toNat w1.toNat = true → (∀ q < o, e.filterHit p q w0.toNat w1.toNat = false) →
      let f := e.storeRx p o ((e.bw p (0x40 + 4 * o)).testBit 17) words
      exec (.busRxFrame p w0 w1 data ago) s = .next (s.after (if (f.bw p (0x40 + 4 * o)).testBit 16 then onward f else f)))) ∧
  (∀ (s : State) (p : Fin 96) (k : Fin 8), s.cmd.portMode p = 3 → s.cmd.obn (K.BUS_STATE p) ≤ 1 →
    let d := ((s.cmd.bump (K.BUS_ERRF_RX p)).busErr p).setOb (K.BUS_LAST_ERR p) (k.val : Nat)
    ((d.bus p).listen = true → exec (.busRxError p k 0) s = .next (s.after d)) ∧
    ((d.bus p).listen = false →
      let e := (d.busFlagSent p).busErr p
      exec (.busRxError p k 0) s = .next (s.after ((e.setOb (K.BUS_REC p) (min 255 (e.obn (K.BUS_REC p) + 1) : Nat)).confine p)))) ∧
  (∀ (s : State) (p : Fin 96) (k : Fin 8), s.cmd.portMode p = 3 → s.cmd.obn (K.BUS_STATE p) ≤ 1 → (s.cmd.bus p).listen = false →
    let d := s.cmd.setOb (K.BUS_LAST_ERR p) (k.val : Nat)
    exec (.busRxError p k 1) s = .next (s.after ((d.setOb (K.BUS_REC p) (min 255 (d.obn (K.BUS_REC p) + 8) : Nat)).confine p)) ∧
    exec (.busRxError p k 2) s = .next (s.after ((d.setOb (K.BUS_TEC p) (min 263 (d.obn (K.BUS_TEC p) + 8) : Nat)).confine p))) ∧
  (∀ (s : State) (p : Fin 96), s.cmd.portMode p = 3 → s.cmd.obn (K.BUS_STATE p) ≤ 1 →
    (s.cmd.obb (K.BUS_PEX p) = true → exec (.protocolException p) s = .next (s.after
      (((s.cmd.bump (K.BUS_PEX_COUNT p)).setOb (K.BUS_LAST_ERR p) 7).logSec 0x3311 p))) ∧
    (s.cmd.obb (K.BUS_PEX p) = false → exec (.protocolException p) s = exec (.busRxError p 2 0) s)) ∧
  (∀ (s : State) (p : Fin 96) (b : Nat), s.cmd.portMode p = 3 → s.cmd.obn (K.BUS_STATE p) ≤ 1 → (s.cmd.bus p).listen = false → s.cmd.portUp p = true →
    s.cmd.lineBusy p = false → ((List.range 32).find? fun b => s.cmd.fabricFed p b && !s.cmd.txBusy p b) = some b →
    (∀ (c : Fin 8) (f : QFrame) (l : List QFrame) (cause : Nat), 4 ≤ c.val → s.cmd.queue (lineQueue p + c) = f :: l → f.tail = some (false, cause) →
      (∀ k : Fin 8, k ≠ c → s.cmd.queue (lineQueue p + k) = []) →
      let w0 := (wordsOf (f.data.take 6)).getD 0 0 / 2 ^ 15 * 2 ^ 15 + (wordsOf (f.data.take 6)).getD 0 0 % 32
      let w := (wordsOf (f.data.take 6)).set 0 w0
      let words := w ++ List.replicate (2 - w.length) 0 ++ wordsOf ((f.data.drop 6).take (dlcBytes (w.getD 0 0)))
      let d := (s.cmd.modQueue (lineQueue p + c) fun q => q.drop 1).bsetAll p (txBase b) (words ++ List.replicate (24 - words.length) 0)
      let d := if f.env.tsReq || f.env.oneStep then d.modBus p fun x => { x with tsTag := mput x.tsTag b f.env.tsTag } else d
      (d.refusedTx p b = false → exec (.busRefill p) s = .next (s.after (d.event.bset p (txBase b + 25) (2 ^ 21)))) ∧
      (d.refusedTx p b = true → exec (.busRefill p) s = .next (s.after
        (((d.bset p (txBase b + 25) (putBit (d.bw p (txBase b + 25)) 19 true)).abortBuf p b).bump (K.BUS_TX_INVALID p))))) ∧
    ((∀ k : Fin 8, s.cmd.queue (lineQueue p + k) = []) → exec (.busRefill p) s = .next (s.after
      (s.cmd.modSw fun x => { x with deficit := x.deficit.filter fun e => e.1 / 4 != p.val })))) ∧
  (∀ (s : State) (p : Fin 96), s.cmd.obn (K.BUS_STATE p) ≠ 3 → exec (.busRecoveryDone p) s = .next (s.after s.cmd)) ∧
  (∀ (s : State) (p : Fin 96), s.cmd.obn (K.BUS_STATE p) = 3 →
    let l := (List.range 32).filter fun b => s.cmd.txState p b == 3
    let d := s.cmd.event.each l fun d b => d.setTxState p b 1
    exec (.busRecoveryDone p) s = .next (s.after ((((d.setOb (K.BUS_TEC p) 0).setOb (K.BUS_REC p) 0).setOb (K.BUS_STATE p) 0).logE 0x3302 p))) ∧
  (∀ (s : State) (r : Src) (p : Fin 96) (el : Fin 11) (v : Word), s.opens r (K.BUS_FD_MODE p + el) [v.toNat] 1 = true →
    [0, 1, 2, 1, 1, 0, 1, 1, 1, 0, 0].getD el.val 0 ≤ v.toNat → v.toNat ≤ [1, 256, 256, 128, 128, 32, 32, 16, 16, 1, 127].getD el.val 0 →
    let d := s.taken r 2 (K.BUS_FD_MODE p + el) 0 [v.toNat]
    let e := d.event.setOb (K.BUS_FD_MODE p + el) (v.toNat : Nat)
    e.busTimingOk p = true →
    exec (.busTimingWrite r p el v) s = .next (s.wrote r (K.BUS_FD_MODE p + el) [v.toNat]
      (if d.portMode p = 3 ∧ d.portUp p = true then e.probe p (some 4) else e))) ∧
  (∀ (s : State) (r : Src) (p : Fin 96) (v : Word), s.opens r (K.BUS_LISTEN_ONLY p) [v.toNat] 1 = true → v.toNat ≤ 1 →
    let d := s.taken r 2 (K.BUS_LISTEN_ONLY p) 0 [v.toNat]
    let e := d.event.setOb (K.BUS_LISTEN_ONLY p) (v.toNat : Nat)
    e.busTimingOk p = true →
    exec (.listenOnlyWrite r p v) s = .next (s.wrote r (K.BUS_LISTEN_ONLY p) [v.toNat]
      (if d.portMode p = 3 ∧ d.portUp p = true then e.probe p (some 4) else e)))

/-- What each runnel instruction does in its slot on a channel that runs, with PUSH into the RX FIFO, PULL of an entry and SYNC of channels that all
wait among them. From R231, R232, R241, R243, R251, R253, R257 to R265. Where the spec is silent the clauses rest on the model's choices of log
entry 46. -/
def Obligations.RunnelInstructions : Prop :=
  ∀ (s : State) (ch : Fin 96) (dly : Fin 8), s.cmd.running ch = true →
    let d := s.slot ch
    let next (d' : Dev) := d'.rnNext ch (d.chPc ch + 1) dly
    (∀ a, exec (.rnJmp ch dly a) s = .next (s.after (d.rnNext ch a.toNat dly))) ∧
    (∀ cond ofs lin, let d := d.sees ch lin.toNat; exec (.rnJcond ch dly cond ofs lin) s = .next (s.after
      (if d.rnCond ch cond lin.toNat = true then d.rnNext ch (wrapN 8 (d.chPc ch + ofs.toInt)) dly else next d))) ∧
    (∀ ivb lin, let d := d.sees ch lin.toNat; let v := (d.iv ch lin.toNat).testBit ivb.val
      (v = false → exec (.rnWait ch dly 0 ivb lin) s = .next (s.after (next d))) ∧
      (v = true → exec (.rnWait ch dly 1 ivb lin) s = .next (s.after (next d))) ∧
      ((d.chan ch).waitBit = some (!v) → exec (.rnWait ch dly 2 ivb lin) s = .next (s.after (next d))) ∧
      ((d.chan ch).waitBit = some false → v = true → exec (.rnWait ch dly 3 ivb lin) s = .next (s.after (next d))) ∧
      ((d.chan ch).waitBit = none → exec (.rnWait ch dly 3 ivb lin) s = .next (s.after
        ((d.modChan ch fun x => { x with waitBit := some v }).rnBlock ch .waiting)))) ∧
    (∀ toY nb, ((d.chan ch).rhr = none → exec (.inRhr ch dly toY nb) s = .next (s.after (if nb = true then next d else d.rnBlock ch .waiting))) ∧
      (∀ y, (d.chan ch).rhr = some y → exec (.inRhr ch dly toY nb) s = .next (s.after (next
        ((d.setXY ch toY y.sym).modChan ch fun x => { x with rhr := none, rferr := y.ferr, rperr := y.perr, rovr := y.ovr }))))) ∧
    (∀ toY w, exec (.inReport ch dly toY w) s = .next (s.after (next ((d.inputRead 21 ch w).1.setXY ch toY (d.inputRead 21 ch w).2)))) ∧
    (∀ toY lin, let d := d.sees ch lin.toNat; exec (.inIv ch dly toY lin) s = .next (s.after (next (d.setXY ch toY (d.iv ch lin.toNat))))) ∧
    (∀ toY, exec (.inTime ch dly toY) s = .next (s.after (next (d.setXY ch toY (d.chTime ch))))) ∧
    (∀ cont lit, (d.chan ch).thr = none →
      exec (.rnOut ch dly cont 0 lit) s = .next (s.after (d.rnOutSym ch dly (d.chan ch).x cont false)) ∧
      exec (.rnOut ch dly cont 1 lit) s = .next (s.after (d.rnOutSym ch dly (d.chan ch).y cont false)) ∧
      (txCap (d.obn (K.CH_JOIN ch)) ≠ 0 → exec (.rnOut ch dly cont 2 lit) s = .next (s.after (d.rnOutTxf ch dly cont))) ∧
      exec (.rnOut ch dly cont 3 lit) s = .next (s.after (d.rnOutSym ch dly lit.toNat cont false))) ∧
    (∀ cont source lit, (d.chan ch).thr ≠ none → source ≠ 2 → exec (.rnOut ch dly cont source lit) s = .next (s.after (d.rnBlock ch .thrFull))) ∧
    (∀ dst source lin, let d := d.sees ch lin.toNat; exec (.rnMov ch dly dst source lin) s = .next (s.after (next (d.rnMove ch dst (d.rnSource ch source lin.toNat))))) ∧
    (∀ last bad cnt fromY nb, rxCap (d.obn (K.CH_JOIN ch)) = 0 → exec (.rnPush ch dly last bad cnt fromY nb) s = .next (s.after (d.faultChan ch false))) ∧
    (∀ (last bad : Bool) (cnt : Fin 4) (fromY nb : Bool),
      let cap := rxCap (d.obn (K.CH_JOIN ch))
      let v := if fromY = true then (d.chan ch).y else (d.chan ch).x
      let d := d.parserSome ch
      cap ≠ 0 → d.obn (K.CH_RX_SINK ch) = 0 ∨ d.lineBusy ch = false →
      ((d.chan ch).rxF.length < cap →
        exec (.rnPush ch dly last bad cnt fromY nb) s = .next (s.after ((d.rxPush ch last bad cnt v).rnNext ch (d.chPc ch + 1) dly))) ∧
      (cap ≤ (d.chan ch).rxF.length → nb = true → exec (.rnPush ch dly last bad cnt fromY nb) s = .next (s.after
        (((d.chFlag ch 1 (some (K.CH_RXOVER_CNT ch))).modChan ch fun x => { x with rxLostEnt := true }).rnNext ch (d.chPc ch + 1) dly))) ∧
      (cap ≤ (d.chan ch).rxF.length → nb = false → exec (.rnPush ch dly last bad cnt fromY nb) s = .next (s.after (d.rnBlock ch .pushFull)))) ∧
    (∀ toY, txCap (d.obn (K.CH_JOIN ch)) ≠ 0 → (d.chan ch).txF = [] →
      exec (.rnPull ch dly toY true) s = .next (s.after (next d)) ∧ exec (.rnPull ch dly toY false) s = .next (s.after (d.txEmpty ch))) ∧
    (∀ toY nb (e : FifoEnt) l, txCap (d.obn (K.CH_JOIN ch)) ≠ 0 → (d.chan ch).txF = e :: l → (e.tag.testBit 3 && (d.chan ch).pulled) = false →
      let d' := ((d.setXY ch toY e.data).modChan ch fun x => { x with
        rsof := e.tag.testBit 3, rend := e.tag.testBit 2, txOpen := if e.tag.testBit 2 then false else x.txOpen || e.tag.testBit 3,
        pulled := x.pulled || e.tag.testBit 3 }).dropTxEnt ch
      exec (.rnPull ch dly toY nb) s = .next (s.after ((if e.tag.testBit 2 then d'.bump (K.CH_TX_FRAMES ch) else d').rnNext ch (d'.chPc ch + 1) dly))) ∧
    (∀ v, exec (.setDrv ch dly v) s = .next (s.after (next (if v.toNat ≤ 2 then d.modChan ch fun x => { x with drv := v.toNat } else d)))) ∧
    (∀ v, exec (.setX ch dly v) s = .next (s.after (next (d.modChan ch fun x => { x with x := v.toNat })))) ∧
    (∀ v, exec (.setY ch dly v) s = .next (s.after (next (d.modChan ch fun x => { x with y := v.toNat })))) ∧
    (∀ v, exec (.setLine ch dly v) s = .next (s.after (next (d.setOb (K.CH_LINE_IDLE ch) (b2n (v.getLsbD 0) : Nat))))) ∧
    (exec (.setRxctl ch dly 0) s = .next (s.after (next (d.modChan ch fun x => { x with rxOn := false }))) ∧
      exec (.setRxctl ch dly 1) s = .next (s.after (next (d.modChan ch fun x => if x.rxOn then x else { x with rxOn := true, idleFrom := d.now, rawAt := none }))) ∧
      exec (.setRxctl ch dly 2) s = .next (s.after (next (d.modChan ch fun x => { x with rhr := none, rawAt := none })))) ∧
    (∀ v, exec (.setTsarm ch dly v) s = .next (s.after (next (d.modChan ch fun x =>
      { x with armIn := x.armIn || v.getLsbD 0, armAt := if v.getLsbD 0 && !x.armIn then d.now else x.armAt, armOut := x.armOut || v.getLsbD 1 })))) ∧
    (∀ v, exec (.setBitph ch dly v) s = .next (s.after (next (d.modChan ch fun x => { x with bitAt := d.now, rawAt := none })))) ∧
    (∀ v, exec (.setSc ch dly v) s = .next (s.after (next (d.modChan ch fun x => { x with sc := d.chK ch (v.toNat % 4) % 256, scTx := v.getLsbD 2 })))) ∧
    (∀ v, exec (.ctlIrq ch dly v) s = .next (s.after (next (d.raise (0x244 + 4 * ch + v.toNat % 4))))) ∧
    (∀ v, (d.obn (K.ENG_SYNC_MASK (ch.val / 8))).testBit (ch.val % 8) = false → exec (.ctlSync ch dly v) s = .next (s.after (next d))) ∧
    (∀ v, (d.obn (K.ENG_SYNC_MASK (ch.val / 8))).testBit (ch.val % 8) = true →
      let d' := (d.rnBlock ch .sync).modChan ch fun x => { x with syncDly := dly }
      let l := (((List.range 8).filter fun k => (d.obn (K.ENG_SYNC_MASK (ch.val / 8))).testBit k).map fun k => 8 * (ch.val / 8) + k).filter d'.running
      ((∀ k ∈ l, (d'.chan k).block = .sync) →
        exec (.ctlSync ch dly v) s = .next (s.after (d'.each l fun x k =>
          (x.modChan k fun y => { y with issueAt := d.slotAt ch + 56 - 8 * (ch.val % 8) - 56 + 8 * (k % 8) }).rnNext k (x.chPc k + 1) (x.chan k).syncDly))) ∧
      ((∃ k ∈ l, (d'.chan k).block ≠ .sync) → exec (.ctlSync ch dly v) s = .next (s.after d'))) ∧
    (∀ v, exec (.ctlDelay ch dly v) s = .next (s.after (d.rnNext ch (d.chPc ch + 1) ((v.toNat + 1) * 64 + dly)))) ∧
    (∀ v, exec (.ctlSafe ch dly v) s = .next (s.after ((next d).flipLand ch))) ∧
    (exec (.ctlHalt ch dly 0) s = .next (s.after (d.haltChan ch)) ∧ exec (.ctlHalt ch dly 1) s = .next (s.after ((d.haltChan ch).raise (0x244 + 4 * ch)))) ∧
    (∀ b, exec (.rnIllegal ch b) s = .next (s.after (d.faultChan ch b)))

/-- An instruction that completes goes on at the given word after its delay; an illegal or poisoned word stops the channel, sets its flag and logs;
a PUSH puts one entry of R253's layout at the end of the RX FIFO; a word spells the instruction that its OP, DLY and OPND encode. From R231, R232,
R253, R254, R257 to R263. Where the spec is silent the clauses rest on the model's choices of log entry 46. -/
def Obligations.RunnelAdvance : Prop :=
  (∀ (d : Dev) (c pc extra : Nat), (d.chan c).flipDue = false →
    let d' := d.rnNext c pc extra
    d'.chPc c = pc % 256 ∧ (d'.chan c).block = .none ∧ (d'.chan c).issueAt = d.slotAt c + 64 * (1 + extra) ∧
    d'.mem = d.mem ∧ d'.cores = d.cores ∧ d'.now = d.now ∧ ∀ k, k ≠ c → d'.chan k = d.chan k) ∧
  (∀ (d : Dev) (c : Fin 96) (b : Bool), (d.faultChan c b).chState c = 4) ∧
  (∀ (d : Dev) (c v : Nat) (last bad : Bool) (cnt : Fin 4), ∃ e : RxEnt, ((d.rxPush c last bad cnt v).chan c).rxF = (d.chan c).rxF ++ [e] ∧
    e.tag % 16 = b2n (d.chan c).newFrame * 8 + b2n last * 4 + cnt ∧ (bad = true → e.tag.testBit 4 = true) ∧
    e.data = beNat (beBytes cnt (v % 2 ^ (8 * cnt.val)) ++ List.replicate (3 - cnt) 0)) ∧
  (∀ (ch : Fin 96) (lin : BitVec 4) (dly : Fin 8),
    let spelt (op v : Nat) := decodeRunnel ch lin (BitVec.ofNat 14 (2048 * op + 256 * dly + v))
    (∀ a : BitVec 8, spelt 0 a.toNat = .rnJmp ch dly a) ∧
    (∀ (k : Fin 8) (v : BitVec 5), spelt 1 (32 * k + v.toNat) = .rnJcond ch dly k v lin) ∧
    (∀ (m : Fin 4) (k x : Fin 8), spelt 2 (64 * m + 8 * k + x) = .rnWait ch dly m k lin) ∧
    (∀ (toY nb : Bool) (x : Fin 16), spelt 3 (32 * b2n toY + 16 * b2n nb + x) = .inRhr ch dly toY nb) ∧
    (∀ (toY : Bool) (x : Fin 4) (w : Fin 8), spelt 3 (64 + 32 * b2n toY + 8 * x + w) = .inReport ch dly toY w) ∧
    (∀ (toY : Bool) (x : Fin 32), spelt 3 (128 + 32 * b2n toY + x) = .inIv ch dly toY lin ∧ spelt 3 (192 + 32 * b2n toY + x) = .inTime ch dly toY) ∧
    (∀ (cont : Bool) (source : Fin 4) (v : BitVec 5), spelt 4 (128 * b2n cont + 32 * source + v.toNat) = .rnOut ch dly cont source v) ∧
    (∀ dst source : Fin 8, spelt 5 (8 * dst + source) = .rnMov ch dly dst source lin) ∧
    (∀ (last bad fromY nb : Bool) (n : Fin 4),
      spelt 5 (64 + 32 * b2n last + 16 * b2n bad + 4 * n + 2 * b2n fromY + b2n nb) = .rnPush ch dly last bad n fromY nb) ∧
    (∀ (x : Fin 16) (toY nb : Bool), spelt 5 (128 + 4 * x + 2 * b2n toY + b2n nb) = .rnPull ch dly toY nb) ∧
    (∀ x : Fin 64, spelt 5 (192 + x) = .rnIllegal ch false) ∧
    (∀ v : BitVec 5, spelt 6 v.toNat = .setDrv ch dly v ∧ spelt 6 (32 + v.toNat) = .setX ch dly v ∧ spelt 6 (64 + v.toNat) = .setY ch dly v ∧
      spelt 6 (96 + v.toNat) = .setLine ch dly v ∧ spelt 6 (128 + v.toNat) = .setRxctl ch dly v ∧ spelt 6 (160 + v.toNat) = .setTsarm ch dly v ∧
      spelt 6 (192 + v.toNat) = .setBitph ch dly v ∧ spelt 6 (224 + v.toNat) = .setSc ch dly v) ∧
    (∀ v : BitVec 5, spelt 7 v.toNat = .ctlIrq ch dly v ∧ spelt 7 (32 + v.toNat) = .ctlSync ch dly v ∧ spelt 7 (64 + v.toNat) = .ctlDelay ch dly v ∧
      spelt 7 (96 + v.toNat) = .ctlSafe ch dly v ∧ spelt 7 (128 + v.toNat) = .ctlHalt ch dly v) ∧
    (∀ x : Fin 96, spelt 7 (160 + x) = .rnIllegal ch false))

/-- Commands on windows, engines, channels and their FIFOs, from the dictionary and from a core; a receiver reads a symbol out of its samples. From
R238 to R242, R246 to R249, R264 to R269. Where the spec is silent the clauses rest on the model's choices of log entry 46. -/
def Obligations.RunnelCommands : Prop :=
  (∀ (s : State) (r : Src) (e : Fin 12) (w : Fin 4) (img : List Byte) (d' : Dev) (n : Nat), s.puts r (K.WIN_PROG (winOf e w)) 1 = true →
    let d := s.putting r (K.WIN_PROG (winOf e w))
    img.length % 2 = 0 → progOk img = true → d.winSwap e w = none →
    d.ask (.window (winOf e w)) 300 1000 4 (d.waitLeft (some r)) 0 = (d', .granted n) → d'.winSwap e w = none →
    exec (.winProg r e w img) s = .next (s.placed r (K.WIN_PROG (winOf e w))
      ((d'.putProg e w (!d'.activeBank e w) (progWords img)).event.release n))) ∧
  (∀ (s : State) (r : Src) (e : Fin 12) (w : Fin 4) (m : Fin 4) (i : Instr) (d' : Dev), s.opens r (K.WIN_SWAP (winOf e w)) [m.val] 1 = true →
    i = [Instr.winSwapWait (.dict r) e w, .winSwapNow (.dict r) e w, .winSwapForce (.dict r) e w, .winSwapCancel (.dict r) e w].getD m.val (.winSwapWait (.dict r) e w) →
    (s.taken r 2 (K.WIN_SWAP (winOf e w)) 0 [m.val]).event.askSwap e w m Stat.busy = (d', Stat.done) →
    exec i s = .next (s.wrote r (K.WIN_SWAP (winOf e w)) [m.val] d')) ∧
  (∀ (s : State) (c : Fin 20) (e : Fin 12) (w : Fin 4) (m : Fin 4) (i : Instr), s.cmd.coreRuns c = true → s.cmd.domOn (24 + e) = true → s.cmd.engAgent c e = true →
    i = [Instr.winSwapWait (.core c) e w, .winSwapNow (.core c) e w, .winSwapForce (.core c) e w, .winSwapCancel (.core c) e w].getD m.val (.winSwapWait (.core c) e w) →
    let y := s.cmd.askSwap e w m Stat.busy
    exec i s = .next (s.after (y.1.modEngine e fun g => { g with swapStatus := y.2 }))) ∧
  (∀ (s : State) (ch : Fin 96), (s.cmd.running ch = true → exec (.channelFlip ch) s = .next (s.after (s.cmd.flipLand ch))) ∧
    (s.cmd.running ch = false → exec (.channelFlip ch) s = .next (s.after (s.cmd.flipIdle ch)))) ∧
  (∀ (s : State) (r : Src) (e : Fin 12) (m : Byte),
    (s.opens r (K.ENG_START e) [m.toNat] 1 = true →
      exec (.engStart (.dict r) e m) s = .next (s.wrote r (K.ENG_START e) [m.toNat] ((s.taken r 2 (K.ENG_START e) 0 [m.toNat]).event.engStart e m.toNat))) ∧
    (s.opens r (K.ENG_BITSYNC e) [m.toNat] 1 = true →
      exec (.engBitsync (.dict r) e m) s = .next (s.wrote r (K.ENG_BITSYNC e) [m.toNat] ((s.taken r 2 (K.ENG_BITSYNC e) 0 [m.toNat]).event.engBitsync e m.toNat)))) ∧
  (∀ (s : State) (c : Fin 20) (e : Fin 12) (m : Byte), s.cmd.coreRuns c = true → s.cmd.domOn (24 + e) = true → s.cmd.engAgent c e = true →
    exec (.engStart (.core c) e m) s = .next (s.after (s.cmd.engStart e m.toNat)) ∧
    exec (.engBitsync (.core c) e m) s = .next (s.after (s.cmd.engBitsync e m.toNat)) ∧
    (s.cmd.tbNs (s.cmd.obn (K.ENG_ARM_BASE e)) ≤ s.cmd.armTime e → exec (.armActionArm (.core c) e) s = .next (s.after
      ((s.cmd.modEngine e fun g => { g with armed := true }).setOb (K.ENG_ARM_CMD e) 1))) ∧
    exec (.armActionCancel (.core c) e) s = .next (s.after ((s.cmd.modEngine e fun g => { g with armed := false }).setOb (K.ENG_ARM_CMD e) 0))) ∧
  (∀ (s : State) (r : Src) (e : Fin 12),
    (s.opens r (K.ENG_ARM_CMD e) [1] 1 = true →
      let d := s.taken r 2 (K.ENG_ARM_CMD e) 0 [1]
      d.tbNs (d.obn (K.ENG_ARM_BASE e)) ≤ d.armTime e →
      exec (.armActionArm (.dict r) e) s = .next (s.wrote r (K.ENG_ARM_CMD e) [1]
        ((d.modEngine e fun g => { g with armed := true }).setOb (K.ENG_ARM_CMD e) 1).event)) ∧
    (s.opens r (K.ENG_ARM_CMD e) [2] 1 = true →
      exec (.armActionCancel (.dict r) e) s = .next (s.wrote r (K.ENG_ARM_CMD e) [2]
        (((s.taken r 2 (K.ENG_ARM_CMD e) 0 [2]).event.modEngine e fun g => { g with armed := false }).setOb (K.ENG_ARM_CMD e) 0)))) ∧
  (∀ (s : State) (e : Fin 12), (s.cmd.engine e).armed = true →
    let d := (s.cmd.upToOn (s.cmd.obn (K.ENG_ARM_BASE e)) (s.cmd.armTime e)).disarmEng e
    let m := d.obn (K.ENG_ARM_MASK e)
    exec (.armActionLand e) s = .next (s.after (if m.testBit 8 = true then d.engBitsync e (m % 256) else d.engStart e (m % 256)))) ∧
  (∀ (s : State) (ch : Fin 96), s.cmd.wdogCounts ch = true →
    exec (.stallWatchdog ch) s = .next (s.after ((s.cmd.upTo ((s.cmd.chan ch).blockedAt + 10000000)).recoverChan ch))) ∧
  (∀ (s : State) (r : Src) (ch : Fin 96),
    (s.opens r (K.CH_CMD ch) [1] 1 = true → (s.taken r 2 (K.CH_CMD ch) 0 [1]).segHolds ch = false → exec (.chStart (.dict r) ch) s = .next (s.wrote r (K.CH_CMD ch) [1] ((s.taken r 2 (K.CH_CMD ch) 0 [1]).event.chCmd ch 1))) ∧
    (s.opens r (K.CH_CMD ch) [2] 1 = true → (s.taken r 2 (K.CH_CMD ch) 0 [2]).segHolds ch = false → exec (.chHalt (.dict r) ch) s = .next (s.wrote r (K.CH_CMD ch) [2] ((s.taken r 2 (K.CH_CMD ch) 0 [2]).event.chCmd ch 2))) ∧
    (s.opens r (K.CH_CMD ch) [3] 1 = true → (s.taken r 2 (K.CH_CMD ch) 0 [3]).segHolds ch = false → exec (.chRestart (.dict r) ch) s = .next (s.wrote r (K.CH_CMD ch) [3] ((s.taken r 2 (K.CH_CMD ch) 0 [3]).event.chCmd ch 3)))) ∧
  (∀ (s : State) (c : Fin 20) (ch : Fin 96), s.cmd.coreRuns c = true → s.cmd.domOn (24 + ch / 8) = true → s.cmd.boundCore ch = some c.val →
    (s.cmd.chState ch = 3 → exec (.chStart (.core c) ch) s = .next (s.after (s.cmd.startChan ch))) ∧
    (s.cmd.chState ch = 2 → exec (.chHalt (.core c) ch) s = .next (s.after (s.cmd.haltChan ch))) ∧
    (s.cmd.chState ch ≠ 0 → exec (.chRestart (.core c) ch) s = .next (s.after (s.cmd.startChan ch))) ∧
    (∀ (x : RxEnt) (l : List RxEnt), (s.cmd.chan ch).rxF = x :: l →
      exec (.rxPop c ch) s = .next (s.after ((s.cmd.modChan ch fun y => { y with rxF := l, rxClose := y.rxClose.map (· - 1), rxTag := x.tag }).emit
        (.coreRead c x.data)))) ∧
    (∀ v : Word, s.cmd.obn (K.CH_TX_SRC ch) = 1 → s.cmd.chState ch ≠ 0 → (s.cmd.chan ch).txF.length < txCap (s.cmd.obn (K.CH_JOIN ch)) →
      exec (.txPush c ch v) s = .next (s.after (s.cmd.modChan ch fun x =>
        { x with txF := x.txF ++ [⟨v.toNat, x.txTag⟩], txTs := if x.txTag.testBit 3 then x.txTs ++ [none] else x.txTs }))) ∧
    (∀ v : Word, exec (.chFlagsClear (.core c) ch v) s = .next (s.after
      (s.cmd.setOb (K.CH_FLAGS ch) (s.cmd.obn (K.CH_FLAGS ch) &&& ((v.toNat % 128) ^^^ 127) : Nat))))) ∧
  (∀ (s : State) (r : Src) (ch : Fin 96) (v : Word), s.opens r (K.CH_FLAGS ch) [v.toNat] 1 = true → v.toNat ≤ 255 →
    let d := s.taken r 2 (K.CH_FLAGS ch) 0 [v.toNat]
    d.segHolds ch = false →
    exec (.chFlagsClear (.dict r) ch v) s = .next (s.wrote r (K.CH_FLAGS ch) [v.toNat]
      (d.event.setOb (K.CH_FLAGS ch) ((setBits v.toNat 8).foldl (fun a b => putBit a b false) (d.obn (K.CH_FLAGS ch)) : Nat)))) ∧
  (∀ (s : State) (ch : Fin 96) (y : Sampled), (s.cmd.chan ch).rxOn = true → 4 ≤ s.cmd.portMode ch → s.cmd.chState ch ≠ 0 →
    let f := s.cmd.rxFmt ch y.since
    let bits := if s.cmd.linePol ch true then y.bits.map fun b => ~~~b else y.bits
    (f.read bits = none → exec (.rxSymbolComplete ch y) s = .next (s.after s.cmd)) ∧
    (∀ sym fe pe, f.read bits = some (sym, fe, pe) → (s.cmd.chan ch).rhr = none →
      let raw := if f.async then none else some ((s.cmd.chan ch).rawAt.elim (96 * s.cmd.now) fun t => f.rawEnd t s.cmd.now)
      let d := s.cmd.upTo (raw.elim 0 fun t => (t + 95) / 96)
      let took := (s.cmd.chan ch).armIn && decide ((s.cmd.chan ch).armAt + y.since ≤ d.now)
      let edge := d.tbAgo (d.obn (K.CH_TB ch)) f.rxNs ch
      exec (.rxSymbolComplete ch y) s = .next (s.after ((d.modChan ch fun x =>
        { x with rhr := some ⟨sym, fe, pe, false⟩, armIn := x.armIn && !took, ingTs := if took then some edge else x.ingTs,
                 idleFrom := if f.async then d.now else x.idleFrom, rawAt := raw, fmtWas := [],
                 lin := x.lin / 2 % 4 * 2 + b2n ((y.bits.getLast?.map f.sampled).getD true) + 8 }).scCount ch false)))) ∧
  (∀ (s : State) (ch : Fin 96) (y : Nat), (s.cmd.chan ch).shift = some (y, false) →
    let d := (s.cmd.modChan ch fun x => { x with shift := none }).scCount ch true
    exec (.txSymbolEnd ch) s = .next (s.after ((d.modChan ch fun x => { x with inRun := false, drvEnds := d.now + d.bitNs ch }).txLoad ch)))

/-- The arithmetic, logic, shift and move instructions write their register and their flags in one cycle and change nothing else; what they compute
of the registers is said by the flag statements below; a word with F 0, its opcode and its fields spells its instruction. From R272, R304, R308,
R314, R318. -/
def Obligations.RegisterInstructions : Prop :=
  (∀ (s : State) (c : Fin 20) (n : Nat) (rd rs rt : Fin 16) (imm : BitVec 9),
    (s.issuesIn c n [] [] = true → exec (.nop c) s = .next (s.ran c n 1 Core.next) ∧
      (∀ k : Fin 4, exec (.mfa c rd k imm) s = .next (s.ran c n 1 fun x => (x.setReg rd (x.a[k] + imm.signExtend 24)).next))) ∧
    (s.issuesIn c n [rs] [] = true →
      exec (.addi c rd rs imm) s = .next (s.ran c n 1 fun x => x.result rd (addFlags (x.reg rs) (imm.signExtend 24) false)) ∧
      exec (.cmpi c rs imm) s = .next (s.ran c n 1 fun x => x.flagResult (subFlags (x.reg rs) (imm.signExtend 24) false)) ∧
      exec (.andi c rd rs imm) s = .next (s.ran c n 1 fun x => x.result rd (logicFlags (x.reg rs &&& imm.signExtend 24))) ∧
      exec (.ori c rd rs imm) s = .next (s.ran c n 1 fun x => x.result rd (logicFlags (x.reg rs ||| imm.signExtend 24))) ∧
      exec (.xori c rd rs imm) s = .next (s.ran c n 1 fun x => x.result rd (logicFlags (x.reg rs ^^^ imm.signExtend 24))) ∧
      exec (.shli c rd rs imm) s = .next (s.ran c n 1 fun x => x.result rd (shlFlags (x.reg rs) (imm.toNat % 32))) ∧
      exec (.shri c rd rs imm) s = .next (s.ran c n 1 fun x => x.result rd (shrFlags (x.reg rs) (imm.toNat % 32))) ∧
      exec (.sari c rd rs imm) s = .next (s.ran c n 1 fun x => x.result rd (sarFlags (x.reg rs) (imm.toNat % 32))) ∧
      (∀ k : Fin 4, exec (.mova c k rs imm) s = .next (s.ran c n 1 fun x => (x.setA k (x.reg rs + imm.signExtend 24)).next))) ∧
    (s.issuesIn c n [rs, rt] [] = true →
      exec (.add c rd rs rt) s = .next (s.ran c n 1 fun x => x.result rd (addFlags (x.reg rs) (x.reg rt) false)) ∧
      exec (.sub c rd rs rt) s = .next (s.ran c n 1 fun x => x.result rd (subFlags (x.reg rs) (x.reg rt) false)) ∧
      exec (.and c rd rs rt) s = .next (s.ran c n 1 fun x => x.result rd (logicFlags (x.reg rs &&& x.reg rt))) ∧
      exec (.or c rd rs rt) s = .next (s.ran c n 1 fun x => x.result rd (logicFlags (x.reg rs ||| x.reg rt))) ∧
      exec (.xor c rd rs rt) s = .next (s.ran c n 1 fun x => x.result rd (logicFlags (x.reg rs ^^^ x.reg rt))) ∧
      exec (.shl c rd rs rt) s = .next (s.ran c n 1 fun x => x.result rd (shlFlags (x.reg rs) ((x.reg rt).toNat % 32))) ∧
      exec (.shr c rd rs rt) s = .next (s.ran c n 1 fun x => x.result rd (shrFlags (x.reg rs) ((x.reg rt).toNat % 32))) ∧
      exec (.sar c rd rs rt) s = .next (s.ran c n 1 fun x => x.result rd (sarFlags (x.reg rs) ((x.reg rt).toNat % 32))) ∧
      exec (.cmp c rs rt) s = .next (s.ran c n 1 fun x => x.flagResult (subFlags (x.reg rs) (x.reg rt) false)) ∧
      exec (.mul c rs rt) s = .next (s.ran c n 1 fun x => { x.next with mulq := x.mulq ++ [⟨0, x.reg rs, x.reg rt, n + 2⟩] }) ∧
      exec (.mulu c rs rt) s = .next (s.ran c n 1 fun x => { x.next with mulq := x.mulq ++ [⟨1, x.reg rs, x.reg rt, n + 2⟩] }) ∧
      exec (.mac c rs rt) s = .next (s.ran c n 1 fun x => { x.next with mulq := x.mulq ++ [⟨2, x.reg rs, x.reg rt, n + 2⟩] })) ∧
    (s.issuesIn c n [rs, rt] [0] = true →
      exec (.adc c rd rs rt) s = .next (s.ran c n 1 fun x => x.result rd (addFlags (x.reg rs) (x.reg rt) (x.flags.getLsbD 2))) ∧
      exec (.sbc c rd rs rt) s = .next (s.ran c n 1 fun x => x.result rd (subFlags (x.reg rs) (x.reg rt) (x.flags.getLsbD 2))) ∧
      exec (.addd c rd rs rt) s = .next (s.ran c n 1 fun x => x.result rd (adddFlags (x.reg rs) (x.reg rt) (x.flags.getLsbD 0))) ∧
      exec (.subd c rd rs rt) s = .next (s.ran c n 1 fun x => x.result rd (subdFlags (x.reg rs) (x.reg rt) (x.flags.getLsbD 0))) ∧
      exec (.daj c rd rs rt) s = .next (s.ran c n 1 fun x => x.result rd (dajFlags (x.reg rs) (x.reg rt) (x.flags.getLsbD 2)))) ∧
    (s.issuesIn c n [rs] [] = true →
      exec (.cvbd c rd rs) s = .next (s.ran c n 4 fun x => x.result rd (cvbdFlags (x.reg rs))) ∧
      exec (.cvdb c rd rs) s = .next (s.ran c n 4 fun x => x.result rd (cvdbFlags (x.reg rs))))) ∧
  (∀ (s : State) (c : Fin 20) (rd rs rt : Fin 16) (x : BitVec 5) (lit : Word),
    let w (op : BitVec 7) := uluenWord c (op ++ (.ofFin rd : BitVec 4) ++ (.ofFin rs : BitVec 4) ++ (.ofFin rt : BitVec 4) ++ x) lit s
    w 0x14 = exec (.add c rd rs rt) s ∧ w 0x15 = exec (.sub c rd rs rt) s ∧ w 0x16 = exec (.adc c rd rs rt) s ∧ w 0x17 = exec (.sbc c rd rs rt) s ∧
    w 0x18 = exec (.and c rd rs rt) s ∧ w 0x19 = exec (.or c rd rs rt) s ∧ w 0x1A = exec (.xor c rd rs rt) s ∧ w 0x1B = exec (.shl c rd rs rt) s ∧
    w 0x1C = exec (.shr c rd rs rt) s ∧ w 0x1D = exec (.sar c rd rs rt) s ∧ w 0x2C = exec (.addd c rd rs rt) s ∧ w 0x2D = exec (.subd c rd rs rt) s ∧
    w 0x2E = exec (.daj c rd rs rt) s ∧ w 0x1E = exec (.cmp c rs rt) s ∧ w 0x1F = exec (.mul c rs rt) s ∧ w 0x20 = exec (.mulu c rs rt) s ∧
    w 0x21 = exec (.mac c rs rt) s ∧ w 0x26 = exec (.cvbd c rd rs) s ∧ w 0x27 = exec (.cvdb c rd rs) s) ∧
  (∀ (s : State) (c : Fin 20) (rd rs : Fin 16) (imm : BitVec 9) (lit : Word),
    let w (op : BitVec 7) := uluenWord c (op ++ (.ofFin rd : BitVec 4) ++ (.ofFin rs : BitVec 4) ++ imm) lit s
    w 0 = exec (.nop c) s ∧ w 1 = exec (.addi c rd rs imm) s ∧ w 3 = exec (.andi c rd rs imm) s ∧ w 4 = exec (.ori c rd rs imm) s ∧
    w 5 = exec (.xori c rd rs imm) s ∧ w 6 = exec (.shli c rd rs imm) s ∧ w 7 = exec (.shri c rd rs imm) s ∧ w 8 = exec (.sari c rd rs imm) s ∧
    w 2 = exec (.cmpi c rs imm) s)

/-- The literal forms take two words and two cycles; the words with opcodes 0x3A to 0x3F are those that a literal follows. From R304, R308, R314,
R318. -/
def Obligations.LiteralInstructions : Prop :=
  (∀ (s : State) (c : Fin 20) (n : Nat) (rd rs : Fin 16) (lit : Word),
    (s.issuesIn c n [] [] = true → exec (.lit c rd lit) s = .next (s.ran c n 2 fun x => { x.setReg rd lit with pc := x.pc + 2 })) ∧
    (s.issuesIn c n [rs] [] = true →
      exec (.addl c rd rs lit) s = .next (s.ran c n 2 fun x => { x.result rd (addFlags (x.reg rs) lit false) with pc := x.pc + 2 }) ∧
      exec (.andl c rd rs lit) s = .next (s.ran c n 2 fun x => { x.result rd (logicFlags (x.reg rs &&& lit)) with pc := x.pc + 2 }) ∧
      exec (.orl c rd rs lit) s = .next (s.ran c n 2 fun x => { x.result rd (logicFlags (x.reg rs ||| lit)) with pc := x.pc + 2 }) ∧
      exec (.xorl c rd rs lit) s = .next (s.ran c n 2 fun x => { x.result rd (logicFlags (x.reg rs ^^^ lit)) with pc := x.pc + 2 }) ∧
      exec (.cmpl c rs lit) s = .next (s.ran c n 2 fun x => { x.flagResult (subFlags (x.reg rs) lit false) with pc := x.pc + 2 }))) ∧
  (∀ (s : State) (c : Fin 20) (rd rs : Fin 16) (x : BitVec 9) (lit : Word),
    let w (op : BitVec 7) := uluenWord c (op ++ (.ofFin rd : BitVec 4) ++ (.ofFin rs : BitVec 4) ++ x) lit s
    w 0x3A = exec (.lit c rd lit) s ∧ w 0x3B = exec (.addl c rd rs lit) s ∧ w 0x3C = exec (.andl c rd rs lit) s ∧
    w 0x3D = exec (.orl c rd rs lit) s ∧ w 0x3E = exec (.xorl c rd rs lit) s ∧ w 0x3F = exec (.cmpl c rs lit) s) ∧
  (∀ (op : BitVec 7) (x : BitVec 17), hasLiteral (op ++ x) = true ↔ 0x3A ≤ op.toNat ∧ op.toNat ≤ 0x3F)

/-- What an instruction of registers leaves: its destination and the flags it names change, every other register, the address registers, the stacks,
the accumulator of the multiplier and the interrupt state stay, and so do every other core and all of memory; g0 stays 0. From R272, R273, R308. -/
def Obligations.RegisterFrame : Prop :=
  (∀ (x : Core) (rd r : Fin 16) (v : Word) (u : FlagUpd),
    let y := x.result rd (v, u)
    y.reg 0 = 0 ∧ (rd ≠ 0 → y.reg rd = v) ∧ (r ≠ rd → y.reg r = x.reg r) ∧ y.pc = x.pc + 1 ∧
    { y with g := x.g, flags := x.flags, pc := x.pc } = x ∧
    flagZ y.flags = u.z.getD (flagZ x.flags) ∧ flagN y.flags = u.n.getD (flagN x.flags) ∧ flagC y.flags = u.c.getD (flagC x.flags) ∧
    flagV y.flags = u.v.getD (flagV x.flags) ∧ flagD y.flags = u.d.getD (flagD x.flags)) ∧
  (∀ (s : State) (c n cost : Nat) (f : Core → Core),
    let t := s.ran c n cost f
    t.pending = s.pending ∧ t.dev.mem = s.dev.mem ∧ t.dev.od = s.dev.od ∧ t.dev.now = s.dev.now ∧ ∀ k, k ≠ c → t.dev.core k = s.dev.core k)

/-- The add and subtract families, in whole numbers: the result is the sum or difference modulo 2^24, Z and N are of it, C says that the unsigned
result does not fit, V that the signed one does not; a shift multiplies or divides by a power of 2 and C is the last bit shifted out, and logic has
Z and N alone. From R308. -/
def Obligations.AddSubtractFlags : Prop :=
  (∀ (a b : Word) (k : Bool), let r := (addFlags a b k).1
    r = a + b + word (b2n k) ∧ (addFlags a b k).2 =
      { z := some (decide (r = 0)), n := some r.msb, c := some (decide (2 ^ 24 ≤ a.toNat + b.toNat + b2n k)),
        v := some (decide (r.toInt ≠ a.toInt + b.toInt + b2n k)) }) ∧
  (∀ (a b : Word) (k : Bool), let r := (subFlags a b k).1
    r = a - b - word (b2n k) ∧ (subFlags a b k).2 =
      { z := some (decide (r = 0)), n := some r.msb, c := some (decide ((a.toNat : Int) - b.toNat - b2n k < 0)),
        v := some (decide (r.toInt ≠ a.toInt - b.toInt - b2n k)) }) ∧
  (∀ (a : Word) (n : Nat), n < 32 →
    (shlFlags a n).1 = word (a.toNat * 2 ^ n) ∧ (shrFlags a n).1.toNat = a.toNat / 2 ^ n ∧ (sarFlags a n).1.toInt = a.toInt / 2 ^ n ∧
    (24 ≤ n → (shlFlags a n).1 = 0 ∧ (shrFlags a n).1 = 0 ∧ (sarFlags a n).1 = if a.msb then 0xFFFFFF else 0) ∧
    (shlFlags a n).2 = { z := some (decide ((shlFlags a n).1 = 0)), n := some (shlFlags a n).1.msb,
                         c := some (decide (1 ≤ n ∧ n ≤ 24) && a.getLsbD (24 - n)) } ∧
    (shrFlags a n).2 = { z := some (decide ((shrFlags a n).1 = 0)), n := some (shrFlags a n).1.msb,
                         c := some (decide (1 ≤ n ∧ n ≤ 24) && a.getLsbD (n - 1)) } ∧
    (sarFlags a n).2 = { z := some (decide ((sarFlags a n).1 = 0)), n := some (sarFlags a n).1.msb,
                         c := some (decide (1 ≤ n) && a.getLsbD (min n 24 - 1)) }) ∧
  (∀ r : Word, logicFlags r = (r, { z := some (decide (r = 0)), n := some r.msb }))

/-- On words that hold six decimal digits, ADDD and SUBD add and subtract the numbers that they write, with the decimal carry in D, DAJ adjusts a
binary sum of two such words into the decimal one, digit by digit, and CVDB and CVBD carry a number to its digits and back. Rules R309, R310 and
R311. -/
def Obligations.DecimalArithmetic : Prop :=
  (∀ (x y : Word) (d : Bool), ∃ c : Nat → Bool, c 0 = d ∧
    (∀ k < 6, let v := nib x.toNat k + nib y.toNat k + b2n (c k)
      c (k + 1) = decide (9 < v) ∧ nib (adddFlags x y d).1.toNat k = (v - 10 * b2n (c (k + 1))) % 16) ∧
    (adddFlags x y d).2 = { z := some ((adddFlags x y d).1 == 0), d := some (c 6) }) ∧
  (∀ (x y : Word) (d : Bool), ∃ c : Nat → Bool, c 0 = d ∧
    (∀ k < 6, let v := nib x.toNat k - nib y.toNat k - b2n (c k)
      c (k + 1) = decide (v < 0) ∧ nib (subdFlags x y d).1.toNat k = (v + 10 * b2n (c (k + 1))) % 16) ∧
    (subdFlags x y d).2 = { z := some ((subdFlags x y d).1 == 0), d := some (c 6) }) ∧
  (∀ (x y : Word) (cy : Bool), ∃ c : Nat → Bool, c 0 = false ∧
    (∀ k < 6,
      let v := nib x.toNat k + 16 * (b2n (if k = 5 then cy else (x ^^^ y).getLsbD (4 * k + 4)) : Int) -
        b2n (decide (0 < k) && (x ^^^ y).getLsbD (4 * k)) + b2n (c k)
      c (k + 1) = decide (9 < v) ∧ nib (dajFlags x y cy).1.toNat k = (v - 10 * b2n (c (k + 1))) % 16) ∧
    (dajFlags x y cy).2 = { z := some ((dajFlags x y cy).1 == 0), d := some (c 6) }) ∧
  (∀ a b : Word, (∀ k < 6, nib a.toNat k ≤ 9) → (∀ k < 6, nib b.toNat k ≤ 9) →
    dajFlags (a + b) (a ^^^ b) (decide (2 ^ 24 ≤ a.toNat + b.toNat)) = adddFlags a b false) ∧
  (∀ a : Word,
    (∀ k < 6, nib (cvbdFlags a).1.toNat k = (a.toNat % 1000000 / 10 ^ k % 10 : Nat)) ∧
    (cvbdFlags a).2 = { z := some ((cvbdFlags a).1 == 0), v := some (decide (999999 < a.toNat)) } ∧
    ((cvdbFlags a).1.toNat : Int) = nib a.toNat 0 + nib a.toNat 1 * 10 + nib a.toNat 2 * 100 + nib a.toNat 3 * 1000 + nib a.toNat 4 * 10000 + nib a.toNat 5 * 100000 ∧
    (cvdbFlags a).2.z = some ((cvdbFlags a).1 == 0) ∧ ((cvdbFlags a).2.v = some true ↔ ∃ k < 6, 9 < nib a.toNat k) ∧
    (cvdbFlags a).2.n = none ∧ (cvdbFlags a).2.c = none ∧ (cvdbFlags a).2.d = none) ∧
  (∀ (s : State) (c : Fin 20) (n : Nat) (rd rs : Fin 16), s.issuesIn c n [rs] [] = true →
    exec (.cvbd c rd rs) s = .next (s.ran c n 4 fun x => x.result rd (cvbdFlags (x.reg rs))) ∧
    exec (.cvdb c rd rs) s = .next (s.ran c n 4 fun x => x.result rd (cvdbFlags (x.reg rs)))) ∧
  (∀ (a b : Nat) (k : Bool), a < 1000000 → b < 1000000 →
    (adddFlags (cvbdFlags (word a)).1 (cvbdFlags (word b)).1 k).1 = (cvbdFlags (word ((a + b + b2n k) % 1000000))).1 ∧
    (adddFlags (cvbdFlags (word a)).1 (cvbdFlags (word b)).1 k).2.d = some (decide (1000000 ≤ a + b + b2n k))) ∧
  (∀ (a b : Nat) (k : Bool), a < 1000000 → b < 1000000 →
    (subdFlags (cvbdFlags (word a)).1 (cvbdFlags (word b)).1 k).1 = (cvbdFlags (word ((a + 1000000 - b - b2n k) % 1000000))).1 ∧
    (subdFlags (cvbdFlags (word a)).1 (cvbdFlags (word b)).1 k).2.d = some (decide (a < b + b2n k))) ∧
  (∀ a : Nat, a < 1000000 → cvdbFlags (cvbdFlags (word a)).1 = (word a, { z := some (decide (a = 0)), v := some false }) ∧ (cvbdFlags (word a)).2.v = some false)

/-- A product of the multiplier lands two cycles after its issue, and MUL_LAND lands the oldest one: the signed, unsigned or accumulated 48-bit
result, with MSTAT OV where the signed sum of a MAC does not fit. From R283, R284. -/
def Obligations.Multiplier : Prop :=
  (∀ (x : Core) (a b : Word) (n : Nat), x.mulq = [] → ∀ k ≤ 2,
    (({ x with mulq := [⟨k, a, b, n + 2⟩] } : Core).landBefore (n + 2)).mulq = [⟨k, a, b, n + 2⟩] ∧
    (({ x with mulq := [⟨k, a, b, n + 2⟩] } : Core).landBefore (n + 3)) = (x.landGie (n + 3)).landMul ⟨k, a, b, n + 2⟩) ∧
  (∀ (x : Core) (a b : Word) (n : Nat),
    sext 48 (x.landMul ⟨0, a, b, n⟩).acc = a.toInt * b.toInt ∧ ((x.landMul ⟨1, a, b, n⟩).acc : Int) = a.toNat * b.toNat ∧
    ((x.landMul ⟨2, a, b, n⟩).acc : Int) = (sext 48 x.acc + a.toInt * b.toInt) % 2 ^ 48 ∧
    (x.landMul ⟨2, a, b, n⟩).ov = (x.ov || decide (sext 48 (x.landMul ⟨2, a, b, n⟩).acc ≠ sext 48 x.acc + a.toInt * b.toInt)) ∧
    (x.landMul ⟨0, a, b, n⟩).ov = x.ov ∧ (x.landMul ⟨1, a, b, n⟩).ov = x.ov) ∧
  (∀ (s : State) (c : Fin 20) (o : MulOp) (l : List MulOp), (s.dev.core c).mulq = o :: l →
    exec (.mulLand c) s = .next (s.withDev (s.dev.modCore c fun x => { ({ x with mulq := l } : Core).landMul o with cyc := max x.cyc (o.lands + 1) })))

/-- Loads and stores of a core's own data words, with the step of an address register; a word with the opcode and its fields spells its instruction.
From R274, R277, R282, R304, R305, R314. Where the spec is silent the clauses rest on the model's choices of log entry 24. -/
def Obligations.LocalAccesses : Prop :=
  (∀ (s : State) (c : Fin 20) (n : Nat) (rd rs rt : Fin 16) (k : Fin 4) (imm : BitVec 9), s.accessIn c n = true →
    let x := s.dev.core c
    let here (a : Word) : Prop := a.toNat < localWords c ∧ s.dev.poisoned (localAddr c a.toNat) = false
    (here (x.reg rs + imm.signExtend 24) → exec (.ld c rd rs imm) s = .next (s.after (s.cmd.loaded c n rd (x.reg rs + imm.signExtend 24).toNat id))) ∧
    (here (x.reg rs + x.reg rt) → exec (.ldx c rd rs rt) s = .next (s.after (s.cmd.loaded c n rd (x.reg rs + x.reg rt).toNat id))) ∧
    (here x.a[k] → exec (.lda c rd k imm) s = .next (s.after (s.cmd.loaded c n rd x.a[k].toNat fun x => x.setA k (x.stepped k (imm.signExtend 24)))) ∧
      exec (.ldar c rd k rt) s = .next (s.after (s.cmd.loaded c n rd x.a[k].toNat fun x => x.setA k (x.stepped k (x.reg rt))))) ∧
    (here x.dsp → exec (.pop c rd) s = .next (s.after (s.cmd.loaded c n rd x.dsp.toNat fun x => { x with dsp := x.dsp + 1 }))) ∧
    ((x.reg rs + imm.signExtend 24).toNat < localWords c →
      exec (.st c rd rs imm) s = .next (s.after (s.cmd.stored c n (x.reg rs + imm.signExtend 24).toNat (x.reg rd) id))) ∧
    ((x.reg rs + x.reg rt).toNat < localWords c → exec (.stx c rd rs rt) s = .next (s.after (s.cmd.stored c n (x.reg rs + x.reg rt).toNat (x.reg rd) id))) ∧
    (x.a[k].toNat < localWords c →
      exec (.sta c rd k imm) s = .next (s.after (s.cmd.stored c n x.a[k].toNat (x.reg rd) fun x => x.setA k (x.stepped k (imm.signExtend 24)))) ∧
      exec (.star c rd k rt) s = .next (s.after (s.cmd.stored c n x.a[k].toNat (x.reg rd) fun x => x.setA k (x.stepped k (x.reg rt))))) ∧
    ((x.dsp - 1).toNat < localWords c → x.dsl ≤ x.dsp - 1 →
      exec (.push c rd) s = .next (s.after (s.cmd.stored c n (x.dsp - 1).toNat (x.reg rd) fun x => { x with dsp := x.dsp - 1 })))) ∧
  (∀ (s : State) (c : Fin 20) (rd rs rt : Fin 16) (k : Fin 4) (imm : BitVec 9) (lit : Word) (r : BitVec 2) (x : BitVec 5),
    let ri (op : BitVec 7) := uluenWord c (op ++ (.ofFin rd : BitVec 4) ++ (.ofFin rs : BitVec 4) ++ imm) lit s
    let an (op : BitVec 7) := uluenWord c (op ++ (.ofFin rd : BitVec 4) ++ r ++ (.ofFin k : BitVec 2) ++ imm) lit s
    let rrr (op : BitVec 7) := uluenWord c (op ++ (.ofFin rd : BitVec 4) ++ (.ofFin rs : BitVec 4) ++ (.ofFin rt : BitVec 4) ++ x) lit s
    let art (op : BitVec 7) := uluenWord c (op ++ (.ofFin rd : BitVec 4) ++ r ++ (.ofFin k : BitVec 2) ++ (.ofFin rt : BitVec 4) ++ x) lit s
    ri 0x09 = exec (.ld c rd rs imm) s ∧ ri 0x0A = exec (.st c rd rs imm) s ∧ an 0x0B = exec (.lda c rd k imm) s ∧ an 0x0C = exec (.sta c rd k imm) s ∧
    an 0x10 = exec (.mfa c rd k imm) s ∧ ri 0x11 = exec (.push c rd) s ∧ ri 0x12 = exec (.pop c rd) s ∧
    uluenWord c ((0x0F : BitVec 7) ++ r ++ (.ofFin k : BitVec 2) ++ (.ofFin rs : BitVec 4) ++ imm) lit s = exec (.mova c k rs imm) s ∧
    rrr 0x22 = exec (.ldx c rd rs rt) s ∧ rrr 0x23 = exec (.stx c rd rs rt) s ∧ art 0x24 = exec (.ldar c rd k rt) s ∧ art 0x25 = exec (.star c rd k rt) s)

/-- A load changes its register and the address register that it steps, and no word of memory; a store to a core's own data changes that one word and
nothing else of memory. From R105, R272, R274, R314. Where the spec is silent the clauses rest on the model's choices of log entry 4. -/
def Obligations.AccessFrame : Prop :=
  (∀ (d : Dev) (c n a : Nat) (rd r : Fin 16) (step : Core → Core), (∀ x r, (step x).reg r = x.reg r ∧ (step x).flags = x.flags) →
    let t := d.loaded c n rd a step
    (rd ≠ 0 → (t.core c).reg rd = word (d.ld (localAddr c a))) ∧ (r ≠ rd → (t.core c).reg r = (d.core c).reg r) ∧ (t.core c).flags = (d.core c).flags ∧
    (∀ b, t.ld b = d.ld b) ∧ ∀ k, k ≠ c → t.core k = d.core k) ∧
  (∀ (d : Dev) (c n a b : Nat) (v : Word) (step : Core → Core), (d.ctxs.all fun e => e.2.copying.isNone) = true →
    let t := d.stored c n a v step
    t.ld (localAddr c a) = v.toNat ∧ (b ≠ localAddr c a → t.ld b = d.ld b) ∧ ∀ k, k ≠ c → t.core k = d.core k)

/-- The words that change the flow of a core. A call pushes the next address, a return takes it, RETI takes the flags and GIE of the entry as well;
the effect of a push or pop that spills or refills is stated by `ReturnStack`; a word with the opcode and its fields spells its instruction, and
opcodes 0x13 and 0x2F none. From R273, R280, R291, R293, R304, R305, R312, R314 to R318. Where the spec is silent the clauses rest on the model's
choices of log entry 47. -/
def Obligations.FlowInstructions : Prop :=
  (∀ (s : State) (c : Fin 20) (n : Nat) (rs : Fin 16) (k : Fin 8) (ofs : BitVec 14) (target : BitVec 15) (b lit : Bool),
    let x := s.dev.core c
    let took (p : BitVec 15) := s.ran c n 2 fun x => { x with pc := p }
    let d := s.inCycle c n
    let pushed (p : BitVec 15) := d.modCore c fun y => { y with hw := y.entry (x.pc + 1).toNat :: y.hw, rsd := y.rsd + 1, pc := p, cyc := n + 2 }
    let q := d.pushEntry c n (x.pc + 1).toNat
    let spilt (p : BitVec 15) := (if x.rsd < 1024 then q.1.modCore c fun y => { y with pc := p } else q.1).goesOn c (n + 2 + q.2)
    let back (all : Bool) (e : Word) (x : Core) : Core :=
      let y := { x with pc := BitVec.ofNat 15 e.toNat }
      if all then { y with flags := BitVec.ofNat 5 (e.toNat / 2 ^ 19 % 2 ^ 5), gie := e.getLsbD 18, trapHeld := false, in63 := false } else y
    (s.issuesIn c n [] [0] = true →
      exec (.bcondLow c k ofs) s = .next (if condHolds k x.flags then took (x.pc + ofs.signExtend 15) else s.ran c n 1 Core.next) ∧
      exec (.bcondHigh c k ofs) s = .next (if condHolds (k + 8) x.flags then took (x.pc + ofs.signExtend 15) else s.ran c n 1 Core.next)) ∧
    (s.issuesIn c n [] [] = true →
      exec (.jmp c target) s = .next (took target) ∧ exec (.setgie c b) s = .next (s.ran c n 1 fun x => { x.next with gie := b }) ∧
      exec (.illegalWord c lit) s = .next (s.after (((((d.modCore c fun x => { x with pc := x.pc + if lit then 2 else 1 }).otherFault c 5).logSec
        0x5001 c).raiseTrap c 11).goesOn c (n + 1))) ∧
      ∀ src, d.winner c false = some src → exec (.wait c) s = .next (s.after (d.modCore c fun x => { x.next with imodEnds := none, cyc := n + 1 }))) ∧
    (s.issuesIn c n [] [] = true → d.winner c false = none →
      exec (.wait c) s = .next (s.after ((d.modCore c fun x => { x.next with imodEnds := none, wait := .wait, cyc := n + 1 }).setCoreState c 3))) ∧
    (s.issuesIn c n [rs] [] = true → exec (.jr c rs) s = .next (took ((x.reg rs).truncate 15))) ∧
    (s.issuesIn c n [] [0, 3, 4] = true → x.rsd < 32 → exec (.call c target) s = .next (s.after (pushed target))) ∧
    (s.issuesIn c n [rs] [0, 3, 4] = true → x.rsd < 32 → exec (.callr c rs) s = .next (s.after (pushed ((x.reg rs).truncate 15)))) ∧
    (s.accessIn c n = true → 32 ≤ x.rsd →
      exec (.call c target) s = .next (s.after (spilt target)) ∧ exec (.callr c rs) s = .next (s.after (spilt ((x.reg rs).truncate 15)))) ∧
    (s.issuesIn c n [] [3, 4] = true → x.rsd = 0 → let t := ((d.modCore c Core.next).otherFault c 4).raiseTrap c 10
      exec (.ret c) s = .next (s.after (t.goesOn c (n + 2))) ∧ exec (.reti c) s = .next (s.after (t.goesOn c (n + 2)))) ∧
    (s.issuesIn c n [] [3, 4] = true → 0 < x.rsd → x.rsd ≤ 32 → ∀ all : Bool, exec (if all then .reti c else .ret c) s =
      .next (s.after (d.modCore c fun y => { back all (x.hw.headD 0) { y with hw := y.hw.drop 1, rsd := y.rsd - 1 } with cyc := n + 2 }))) ∧
    (s.accessIn c n = true → 32 < x.rsd → ∀ (all : Bool) (d' : Dev) (e : Word) (j : Nat), d.popEntry c n = some (d', e, j) →
      exec (if all then .reti c else .ret c) s = .next (s.after ((d'.modCore c (back all e)).goesOn c (n + 2 + j))))) ∧
  (∀ (s : State) (c : Fin 20) (rd rs : Fin 16) (k : Fin 8) (ofs : BitVec 14) (target : BitVec 15) (b : Bool) (lit : Word) (r : BitVec 2) (imm : BitVec 9)
      (x : BitVec 16) (y : BitVec 17),
    let br (op : BitVec 7) := uluenWord c (op ++ (.ofFin k : BitVec 3) ++ ofs) lit s
    let jt (op : BitVec 7) := uluenWord c (op ++ r ++ target) lit s
    let ri (op : BitVec 7) := uluenWord c (op ++ (.ofFin rd : BitVec 4) ++ (.ofFin rs : BitVec 4) ++ imm) lit s
    let plain (op : BitVec 7) := uluenWord c (op ++ y) lit s
    br 0x30 = exec (.bcondLow c k ofs) s ∧ br 0x31 = exec (.bcondHigh c k ofs) s ∧ jt 0x32 = exec (.jmp c target) s ∧ jt 0x33 = exec (.call c target) s ∧
    ri 0x34 = exec (.jr c rs) s ∧ ri 0x35 = exec (.callr c rs) s ∧ plain 0x36 = exec (.ret c) s ∧ plain 0x37 = exec (.reti c) s ∧
    plain 0x38 = exec (.wait c) s ∧ uluenWord c ((0x39 : BitVec 7) ++ x ++ BitVec.ofBool b) lit s = exec (.setgie c b) s ∧
    plain 0x13 = exec (.illegalWord c false) s ∧ plain 0x2F = exec (.illegalWord c false) s)

/-- Pushes and pops of a return stack. The hardware holds the top 32 entries; entry i below them is the word RSB + i of local data; a push at depth
1,008 faults and raises trap source 10, one at depth 1,024 halts the core; an entry holds the address, the flags and GIE as they stand. From R278 to
R280, R316. Where the spec is silent the clauses rest on the model's choices of log entry 47. -/
def Obligations.ReturnStack : Prop :=
  (∀ (d : Dev) (c n ra a : Nat), let x := d.core c
    (x.rsd < 32 → d.pushEntry c n ra = (d.modCore c fun y => { y with hw := y.entry ra :: y.hw, rsd := y.rsd + 1 }, 0)) ∧
    (32 ≤ x.rsd → x.rsd < 1024 → a = (x.rsb + word (x.rsd - 32)).toNat → a < localWords c → c < 20 →
      let e := (((d.modCore c fun y => y.landGie n).st (localAddr c a) (x.hw.getLastD 0).toNat).winTouched c a).modCore c fun y =>
        { y with accEnds := n + 2, accReg := 0, accSr := none, hw := x.entry ra :: x.hw.dropLast, rsd := x.rsd + 1 }
      (x.rsd ≠ 1008 → d.pushEntry c n ra = (e, 1)) ∧
      (x.rsd = 1008 → d.pushEntry c n ra = ((e.otherFault c 4).raiseTrap c 10, 1))) ∧
    (x.rsd = 1024 → d.pushEntry c n ra = (d.haltCore c, 0)) ∧
    (x.rsd = 0 → d.popEntry c n = none) ∧
    (0 < x.rsd → x.rsd ≤ 32 → d.popEntry c n = some (d.modCore c fun y => { y with hw := y.hw.drop 1, rsd := y.rsd - 1 }, x.hw.headD 0, 0)) ∧
    (32 < x.rsd → a = (x.rsb + word (x.rsd - 33)).toNat → a < localWords c → c < 20 → d.poisoned (localAddr c a) = false →
      d.popEntry c n = some (d.modCore c fun y =>
        { y with hw := y.hw.drop 1 ++ [word (d.ld (localAddr c a))], rsd := y.rsd - 1, accEnds := n + 2, accReg := 0, accSr := none }, x.hw.headD 0, 2))) ∧
  (∀ (x : Core) (ra : Nat), ra < 2 ^ 15 → let e := x.entry ra
    BitVec.ofNat 15 e.toNat = BitVec.ofNat 15 ra ∧ BitVec.ofNat 5 (e.toNat / 2 ^ 19 % 2 ^ 5) = x.flags ∧ e.getLsbD 18 = x.gie)

/-- An interrupt entry at a boundary: the core runs, the entry with the next address, the flags and GIE is pushed, GIE falls, and issue goes on four
cycles later at the vector of the source; an edge-sensed source is no longer pending, and a moderated one starts the hold-off. From R291, R292. Where
the spec is silent the clauses rest on the model's choices of log entry 47. -/
def Obligations.InterruptEntry : Prop :=
  ∀ (s : State) (c : Fin 20) (n src : Nat), let x := s.dev.core c
    (s.dev.coreState c = 2 ∨ s.dev.coreState c = 3) → s.dev.takes c = some src → x.rsd < 32 → x.swapPending = false → n = s.dev.cycleOf c →
      exec (.interruptEntry c) s = .next (s.after ((s.cmd.setCoreState c 2).modCore c fun x =>
        let now := x.landBefore n
        let y := now.landBefore (n + 4)
        let traps := x.trapHeld || x.trap.isSome
        let stack := now.entry x.pc.toNat :: x.hw
        let edge := if x.edgeSensed src then putBit x.pend src false else x.pend
        let ends := if x.moder.testBit src && x.imod ≠ 0 then some (s.dev.now + x.imod * 1000) else x.imodEnds
        { y with wait := .none, trap := none, trapHeld := traps, in63 := x.in63 || src == 63, hw := stack, rsd := x.rsd + 1, gie := false,
                 pc := BitVec.ofNat 15 (x.ivbase.toNat + 8 * src), cyc := n + 4, pend := edge, imodEnds := ends }))

/-- A pair word. Both slots work on the registers as they stand before the word, slot B wins where both write one register or flag, and two accesses
go one after the other; an illegal pair records its fault and raises the trap; a word with F 1 spells the pair of its fields. From R273, R303, R305
to R307, R313, R314. Where the spec is silent the clauses rest on the model's choices of log entry 47. -/
def Obligations.PairInstructions : Prop :=
  (∀ (s : State) (c : Fin 20) (n : Nat) (opa opb : BitVec 5) (xa ya xb yb : BitVec 3) (z : Bool),
    let x := (s.dev.core c).atCycle n
    let ta := x.slot opa xa ya
    let tb := x.slot opb xb yb
    let ua := slotNeeds opa xa ya
    let ub := slotNeeds opb xb yb
    let d := (s.inCycle c n).modCore c fun y => ((y.apply x ta n).apply x tb n).next
    let d1 := d.slotAccess c n ta (ta.dest == tb.dest)
    let m := if ta.accesses && tb.accesses then max n (d1.core c).accEnds else n
    (pairIllegal opa opb z = true → s.issuesIn c n [] [] = true → exec (.pair c opa xa ya opb xb yb z) s =
      .next (s.after ((((((s.inCycle c n).modCore c Core.next).otherFault c 5).logSec 0x5001 c).raiseTrap c 11).goesOn c (n + 1)))) ∧
    (pairIllegal opa opb z = false → ua.mem = false → ub.mem = false → s.issuesIn c n (ua.regs ++ ub.regs) (ua.srs ++ ub.srs) = true →
      exec (.pair c opa xa ya opb xb yb z) s = .next (s.after (d.goesOn c (n + 1)))) ∧
    (pairIllegal opa opb z = false → (ua.mem || ub.mem) = true → s.accessIn c n = true →
      exec (.pair c opa xa ya opb xb yb z) s = .next (s.after ((d1.slotAccess c m tb false).goesOn c (m + 1))))) ∧
  (∀ (x : Core) (r q : Fin 16) (v w : Word) (u t : FlagUpd) (n : Nat),
    let y := (x.apply x (Slot.of r (v, u)) n).apply x (Slot.of q (w, t)) n
    (q ≠ 0 → y.reg q = w) ∧ (r ≠ q → r ≠ 0 → y.reg r = v) ∧ (∀ o, o ≠ r → o ≠ q → y.reg o = x.reg o) ∧
    flagZ y.flags = t.z.getD (u.z.getD (flagZ x.flags)) ∧ flagC y.flags = t.c.getD (u.c.getD (flagC x.flags))) ∧
  (∀ (s : State) (c : Fin 20) (opa opb : BitVec 5) (xa ya xb yb : BitVec 3) (z : Bool) (lit : Word),
    uluenWord c (1#1 ++ opa ++ xa ++ ya ++ opb ++ xb ++ yb ++ BitVec.ofBool z) lit s = exec (.pair c opa xa ya opb xb yb z) s)

/-- What stalls. An access waits for the one that is outstanding, as does an instruction that reads the register that it loads or writes; no other
does. From R274. Where the spec is silent the clauses rest on the model's choices of log entry 24. -/
def Obligations.Stalls : Prop :=
  ∀ (x : Core) (n : Nat) (regs : List (Fin 16)) (srs : List Nat) (acc : Bool), let u : Needs := { regs := regs, srs := srs, mem := acc }
    (x.accEnds ≤ n → x.issueAt n u = n) ∧
    (n < x.accEnds → acc = true → x.issueAt n u = x.accEnds) ∧
    (∀ r ∈ regs, n < x.accEnds → r ≠ 0 → r.val = x.accReg → x.issueAt n u = x.accEnds) ∧
    (∀ r ∈ srs, n < x.accEnds → x.accSr = some r → x.issueAt n u = x.accEnds) ∧
    (acc = false → (∀ r ∈ regs, r ≠ 0 → r.val ≠ x.accReg) → (∀ r ∈ srs, x.accSr ≠ some r) → x.issueAt n u = n)

/-- The instructions of special registers, far requests and mailbox waits; a word with the opcode and its fields spells its instruction. From R273,
R285 to R288, R294, R304, R305, R314, R503. Where the spec is silent the clauses rest on the model's choices of log entry 47. -/
def Obligations.SystemInstructions : Prop :=
  (∀ (s : State) (c : Fin 20) (n : Nat) (rd rs rt : Fin 16) (sr : Fin 32),
    let x := s.dev.core c
    let d := s.inCycle c n
    let put (d : Dev) (v : Word) := (d.modCore c fun x => (x.setReg rd v).next).goesOn c (n + 1)
    (s.issuesIn c n [] [sr.val] = true → exec (.mfs c rd sr) s = .next (s.after (put (d.srRead c sr).1 (word (d.srRead c sr).2)))) ∧
    (s.issuesIn c n [rs] [] = true →
      exec (.mts c sr rs) s = .next (s.after (((d.modCore c Core.next).srWrite c sr (x.reg rs).toNat).goesOn c (n + 1)))) ∧
    (s.issuesIn c n [rs, rt] [] = true →
      let q := d.farIssue c (x.reg rs).toNat (x.reg rt).toNat
      exec (.freq c rd rs rt) s = .next (s.after (put q.1 q.2))) ∧
    (s.issuesIn c n [rs] [] = true → (x.far.all fun q => q.tag != (x.reg rs).toNat) = true →
      exec (.fwait c rd rs) s = .next (s.after (put d (word Stat.range))) ∧ exec (.fpoll c rd rs) s = .next (s.after (put d (word Stat.range)))) ∧
    (∀ q, s.issuesIn c n [rs] [] = true → x.farDoneAt (x.reg rs).toNat = some q →
      let t := (d.modCore c fun x => ((x.setReg rd q.word).freeTag (s.dev.core c |>.reg rs).toNat).next).goesOn c (n + 1)
      exec (.fwait c rd rs) s = .next (s.after t) ∧ exec (.fpoll c rd rs) s = .next (s.after t)) ∧
    (s.issuesIn c n [rs] [] = true → (x.far.any fun q => q.tag == (x.reg rs).toNat) = true → x.farDoneAt (x.reg rs).toNat = none →
      exec (.fwait c rd rs) s = .next (s.after ((d.modCore c fun x => { x with wait := .far rd.val (s.dev.core c |>.reg rs).toNat }).goesOn c (n + 1))) ∧
      exec (.fpoll c rd rs) s = .next (s.after (put d 0xFFFFFF))) ∧
    (s.issuesIn c n [rs] [] = true → ∀ v, d.mbReleased c (x.reg rs).toNat true = some v → exec (.waitmb c rd rs) s = .next (s.after (put d (word v)))) ∧
    (s.issuesIn c n [rs] [] = true → d.mbReleased c (x.reg rs).toNat true = none → exec (.waitmb c rd rs) s = .next (s.after
      (((d.modCore c fun x => { x with wait := .mailbox rd.val (s.dev.core c |>.reg rs).toNat s.dev.now }).setCoreState c 3).goesOn c (n + 1))))) ∧
  (∀ (s : State) (c : Fin 20) (rd rs rt : Fin 16) (sr : Fin 32) (lit : Word) (q : BitVec 4) (x : BitVec 5),
    let rrr (op : BitVec 7) := uluenWord c (op ++ (.ofFin rd : BitVec 4) ++ (.ofFin rs : BitVec 4) ++ (.ofFin rt : BitVec 4) ++ x) lit s
    let sys (op : BitVec 7) := uluenWord c (op ++ (.ofFin rd : BitVec 4) ++ (.ofFin rs : BitVec 4) ++ q ++ (.ofFin sr : BitVec 5)) lit s
    sys 0x0D = exec (.mfs c rd sr) s ∧ sys 0x0E = exec (.mts c sr rs) s ∧ rrr 0x28 = exec (.freq c rd rs rt) s ∧ rrr 0x29 = exec (.fwait c rd rs) s ∧
    rrr 0x2A = exec (.fpoll c rd rs) s ∧ rrr 0x2B = exec (.waitmb c rd rs) s)

/-- The special registers: what is written to a register that holds its value is read back, and a write of a register marked R changes nothing. From
R273, R277, R283, R295. Where the spec is silent the clauses rest on the model's choices of log entry 47. -/
def Obligations.SpecialRegisters : Prop :=
  (∀ (d : Dev) (c v : Nat), v < 2 ^ 24 →
    (∀ sr ∈ [1, 2, 5, 6, 8, 9, 10, 11, 12, 13, 14, 15, 16], (((d.srWrite c sr v).srRead c sr).2 = v ∧ (d.srWrite c sr v).mem = d.mem ∧ (d.srWrite c sr v).od = d.od)) ∧
    ((d.srWrite c 0 v).srRead c 0).2 = v % 32 ∧ ((d.srWrite c 17 v).srRead c 17).2 = v % 256 ∧
    ((d.srWrite c 23 v).srRead c 23).2 = v % 0x8000 / 512 * 512 ∧ ((d.srWrite c 24 v).srRead c 24).2 = v % 256 ∧
    ((d.core c).rsd ≤ 32 → ((d.srWrite c 4 v).srRead c 4).2 = v) ∧ ((d.srWrite c 3 0).srRead c 3).2 = 0 ∧
    (v ≠ 0 → d.srWrite c 3 v = d.otherFault c 6) ∧ (32 < (d.core c).rsd → d.srWrite c 4 v = d.otherFault c 6)) ∧
  (∀ (d : Dev) (c v : Nat), ∀ sr ∈ [18, 19, 20, 21, 22, 25, 26, 27, 28], d.srWrite c sr v = d) ∧
  (∀ (d : Dev) (c : Nat), (d.srRead c 25).2 = c ∧ (d.srRead c 18).2 = d.obn (K.EP_EPOCH c) ∧
    ((d.srRead c 26).2 + 2 ^ 24 * ((d.srRead c 26).1.srRead c 27).2 + 2 ^ 48 * ((d.srRead c 26).1.srRead c 28).2) = d.now % 2 ^ 72)

/-- A far request takes the lowest free tag; its words go in order, a READ's into local data, and it completes with the first status that is not
DONE or, after 20 µs, with TIMEOUT; the earlier open requests that share a word with it, directly or through one that does, go first. A request of
one word to another core's local data completes with ASLEEP where that core is off and else reads, writes or swaps the word. From R285 to R287,
R289. Where the spec is silent the clauses rest on the model's choices of log entries 6 and 47. -/
def Obligations.FarRequests : Prop :=
  (∀ (d : Dev) (c a ctl t : Nat), t < 32 → (∀ r ∈ (d.core c).far, r.tag ≠ t) → (∀ u, u < t → ∃ r ∈ (d.core c).far, r.tag = u) →
    (d.farIssue c a ctl).2 = word t ∧ ((d.farIssue c a ctl).1.core c).far.length = (d.core c).far.length + 1) ∧
  (∀ (d : Dev) (c a ctl : Nat), (∀ u, u < 32 → ∃ r ∈ (d.core c).far, r.tag = u) → d.farIssue c a ctl = (d, 0xFFFFFF)) ∧
  (∀ (s : State) (c : Fin 20) (tag : Fin 32) (r q : FarReq),
    (s.dev.core c).far.find? (fun r => r.tag == tag.val) = some r → r.done = none → r.ended = none → s.dev.now ≤ r.issued + 20000 →
    (∀ u ∈ (s.dev.core c).far.takeWhile (fun u => u.tag != tag.val), u.meets r = false) →
    let d := s.cmd.farRun c r (r.cnt + 1)
    (d.core c).far.find? (fun q => q.tag == tag.val) = some q →
    exec (.farDone c tag) s = .next (s.after (d.farEnd c tag (q.ended.getD Stat.done)))) ∧
  (∀ (s : State) (c : Fin 20) (tag : Fin 32) (r : FarReq) (st : Nat),
    (s.dev.core c).far.find? (fun r => r.tag == tag.val && r.done.isNone) = some r → r.ended = some st →
    exec (.farTimeout c tag) s = .next (s.after ((s.cmd.upTo (r.issued + 20000)).farEnd c tag st))) ∧
  (∀ (s : State) (c : Fin 20) (tag : Fin 32) (r : FarReq) (k o : Nat), (s.dev.core c).far.find? (fun r => r.tag == tag.val) = some r →
    r.done = none → r.ended = none → r.words = 0 → r.cnt = 0 → s.dev.now ≤ r.issued + 20000 →
    (∀ u ∈ (s.dev.core c).far.takeWhile (fun u => u.tag != tag.val), u.meets r = false) → peerLocal r.addr = some (k, o) →
    (∀ e ∈ s.dev.ctxs, e.2.copying = none) →
    let d := s.cmd
    let mine := localAddr c r.loc
    let far := localAddr k o
    let ends (d : Dev) (n st : Nat) := (d.modFar c tag fun q => { q with words := n, ended := some st }).farEnd c tag st
    (d.epOn k = false → d.poisoned mine = false → exec (.farDone c tag) s = .next (s.after (ends d 0 Stat.asleep))) ∧
    (d.epOn k = true → r.op = 0 → d.poisoned far = false →
      exec (.farDone c tag) s = .next (s.after (ends (d.st mine (d.ld far)) 1 Stat.done))) ∧
    (d.epOn k = true → r.op = 1 → d.poisoned mine = false →
      exec (.farDone c tag) s = .next (s.after (ends (d.st far (d.ld mine)) 1 Stat.done))) ∧
    (d.epOn k = true → r.op = 2 → d.poisoned mine = false → d.poisoned far = false →
      exec (.farDone c tag) s = .next (s.after (ends ((d.st far (d.ld mine)).st mine (d.ld far)) 1 Stat.done)))) ∧
  (∀ (s : State) (c : Fin 20) (tag : Fin 32) (r : FarReq), (s.dev.core c).far.find? (fun r => r.tag == tag.val) = some r →
    r.done = none → r.ended = none → r.words = r.cnt → (∀ u ∈ (s.dev.core c).far.takeWhile (fun u => u.tag != tag.val), u.meets r = false) →
    exec (.farTimeout c tag) s = .next (s.after ((((s.cmd.upTo (r.issued + 20000)).fresh 8).2.modFar c tag fun q =>
      { q with words := r.words, ended := some Stat.timeout }).farEnd c tag Stat.timeout))) ∧
  (∀ (x : Core) (p q r : FarReq), x.far = [p, q, r] → (∀ u ∈ [p, q, r], u.ended = none ∧ u.done = none) → p.tag ≠ r.tag → q.tag ≠ r.tag →
    (q.meets r = true → p.meets q = true → x.farBefore r.tag = [p.tag, q.tag]) ∧
    (q.meets r = false → x.farBefore r.tag = if p.meets r then [p.tag] else [])) ∧
  (∀ (d d1 : Dev) (c v st : Nat) (r : FarReq), r.ended = none → r.done = none → r.words = 0 → r.cnt = 0 → r.op = 0 → d.farRead c r.addr = (d1, v, st) →
    d.farRun c r 1 = if st = Stat.done then ((d1.st (localAddr c r.loc) v).winTouched c r.loc).modFar c r.tag fun q => { q with words := 1, ended := some Stat.done }
      else d1.modFar c r.tag fun q => { q with words := 0, ended := some st })

/-- The bank swaps, with a command refused by the Tap or by one pending, the timer, the watchdog and the dictionary's commands of a core, and the
end of a wait for a mailbox. From R274, R295 to R299, R302, R503. Where the spec is silent the clauses rest on the model's choices of log entries
46, 47 and 48. -/
def Obligations.CoreEvents : Prop :=
  (∀ (s : State) (c : Fin 20) (m : BitVec 16), s.cmd.coreRuns c = true →
    let d := s.cmd
    let x := s.dev.core c
    let stat (d : Dev) (k : Nat) := d.modCore c fun y => { y with swapStatus := k }
    (x.swapPending = true →
      exec (.bankArm c m) s = .next (s.after (stat d Stat.busy)) ∧ exec (.bankNow c) s = .next (s.after (stat d Stat.busy)) ∧
      exec (.bankCancel c) s = .next (s.after (stat (((d.modCore c fun y => { y with cpMask := x.cpMask }).modCore c fun y =>
        { y with swapPending := false, swapNow := false, swapPermit := 0 }).release x.swapPermit) Stat.done))) ∧
    (x.swapPending = false →
      exec (.bankCancel c) s = .next (s.after (stat (d.modCore c fun y => { y with cpMask := x.cpMask }) Stat.range)) ∧
      (∀ d', d.ask (.bank c) 300 1000 4 0 (m.toNat * 4) = (d', .refused) → exec (.bankArm c m) s = .next (s.after (stat d' Stat.permit))) ∧
      (∀ d', d.ask (.bank c) 300 1000 4 0 (x.cpMask.toNat * 4 + 1) = (d', .refused) → exec (.bankNow c) s = .next (s.after (stat d' Stat.permit))) ∧
      (∀ d' k, d.ask (.bank c) 300 1000 4 0 (m.toNat * 4) = (d', .granted k) → exec (.bankArm c m) s = .next (s.after
        (stat (d'.modCore c fun y => { y with swapPending := true, swapNow := false, swapPermit := k, cpMask := m }) Stat.done))) ∧
      (∀ d' k, d.ask (.bank c) 300 1000 4 0 (x.cpMask.toNat * 4 + 1) = (d', .granted k) → exec (.bankNow c) s = .next (s.after
        (stat (d'.modCore c fun y => { y with swapPending := true, swapNow := true, swapPermit := k, cpMask := x.cpMask }) Stat.done))))) ∧
  (∀ (s : State) (c : Fin 20), s.cmd.epOn c = true → (s.dev.core c).tmrPeriod ≠ 0 →
    let t := (s.dev.core c).tmrAt + (s.dev.core c).tmrPeriod * 1000
    exec (.timerExpiry c) s = .next (s.after (((s.cmd.upTo t).modCore c fun x => { x with tmrAt := t }).pulse c 0))) ∧
  (∀ (s : State) (c : Fin 20), s.cmd.epOn c = true → (s.dev.core c).wdogWarned = false →
    exec (.wdogWarn c) s = .next (s.after (((s.cmd.upTo ((s.dev.core c).wdogAt + (if c < 16 then 5000000 else 50000000) * 3 / 4)).modCore c fun x =>
      { x with wdogWarned := true }).pulse c 12))) ∧
  (∀ (s : State) (c : Fin 20), s.cmd.epOn c = true →
    let d := ((((s.cmd.upTo ((s.dev.core c).wdogAt + if c < 16 then 5000000 else 50000000)).logE 0x5000 c).bump (K.CORE_WDOG_RESETS c)).raise 0x546).rxUnlock c
    exec (.wdogExpiry c) s = .next (s.after (if c.val < 16 then (d.coreReset c).coreCtxsRestart c else d.keeperReset c true))) ∧
  (∀ (s : State) (r : Src) (c : Fin 20), s.opens r (K.CORE_CMD c) [1] 3 = true → let d := s.taken r 2 (K.CORE_CMD c) 0 [1]
    d.coreState c = 1 → (d.core c).wait = .none → exec (.coreStart r c) s = .next (s.wrote r (K.CORE_CMD c) [1] (d.event.setCoreState c 2))) ∧
  (∀ (s : State) (r : Src) (c : Fin 20), s.opens r (K.CORE_CMD c) [2] 3 = true → let d := s.taken r 2 (K.CORE_CMD c) 0 [2]
    d.coreState c ≠ 0 → exec (.coreHold r c) s = .next (s.wrote r (K.CORE_CMD c) [2] (d.event.setCoreState c 1))) ∧
  (∀ (s : State) (r : Src) (c : Fin 20), s.opens r (K.CORE_CMD c) [3] 3 = true → let d := s.taken r 2 (K.CORE_CMD c) 0 [3]
    d.coreState c ≠ 0 → let e := d.event.tookEffect.raise63 c
    let t := (e.upTo (e.now + 100000)).rxUnlock c
    exec (.coreReset r c) s = .next (s.wrote r (K.CORE_CMD c) [3] (if c.val < 16 then (t.coreReset c).coreCtxsRestart c else t.keeperReset c false))) ∧
  (∀ (s : State) (c : Fin 20) (rd v since k : Nat) (h : rd < 16), s.dev.coreState c = 3 → (s.dev.core c).wait = .mailbox rd v since →
    s.cmd.mbReleased c v false = some k → exec (.waitmbRelease c) s = .next (s.after ((s.cmd.modCore c fun x =>
      { x.outstanding (s.cmd.cycleOf c) (x.setReg ⟨rd, h⟩ (word k)).next with wait := .none, cyc := s.cmd.cycleOf c + 1 }).setCoreState c 2))) ∧
  (∀ (s : State) (c : Fin 20) (rd v since : Nat) (h : rd < 16), s.dev.coreState c = 3 → (s.dev.core c).wait = .mailbox rd v since →
    s.cmd.mbReleased c v false = none →
    let d := s.cmd.upTo (since + (s.dev.core c).mbto * 1000)
    exec (.waitmbRelease c) s = .next (s.after ((d.modCore c fun x =>
      { x.outstanding (d.cycleOf c) (x.setReg ⟨rd, h⟩ (word (0xFF00 + Stat.timeout))).next with wait := .none, cyc := d.cycleOf c + 1 }).setCoreState c 2)))

/-- The dictionary's commands of contexts and personalities. A bind, a migration or a swap that needs a permit goes on with the one that the Tap
grants; a check that fails is the answer. From R323, R324, R334, R339, R341. Where the spec is silent the clauses rest on the model's choices of log
entries 49 and 60. -/
def Obligations.ContextRequests : Prop :=
  (∀ (s : State) (r : Src) (c : Fin 128), s.opens r (K.CTX_CMD c) [1] 1 = true → let d := s.taken r 2 (K.CTX_CMD c) 0 [1]
    d.ctxState c = 0 → d.bindCheck c = 0 → (d.ctxsOn (d.obn (K.CTX_CORE c))).isEmpty = false → (d.bindGo c 0).2 = 0 →
    exec (.ctxBind r c) s = .next (s.wrote r (K.CTX_CMD c) [1] (d.bindGo c 0).1)) ∧
  (∀ (s : State) (r : Src) (c : Fin 128), s.opens r (K.CTX_CMD c) [2] 1 = true → let d := s.taken r 2 (K.CTX_CMD c) 0 [2]
    let e := (d.event.descTiming c).setOb (K.CTX_STATE c) 2
    let soon := e.tbNs (e.ctxTb c) + 100000
    let open_ := if (e.followed c).isSome then soon else 0
    (d.ctxState c = 1 → exec (.ctxStart r c) s = .next (s.wrote r (K.CTX_CMD c) [2] (e.modCtx c fun x =>
      { x with resumed := false, migrated := false, swapped := false, misses := 0, open_ := false, doneSeen := false, eff := none, boundaryAt := 0, nextAt := e.boundaryFrom c soon, notBefore := open_ }))) ∧
    (d.ctxState c = 5 → exec (.ctxStart r c) s = .next (s.wrote r (K.CTX_CMD c) [2] (((d.event.descTiming c).setOb (K.CTX_STATE c) 4).modCtx c fun x => { x with restarts := [] })))) ∧
  (∀ (s : State) (r : Src) (c : Fin 128), s.opens r (K.CTX_CMD c) [3] 1 = true → let d := s.taken r 2 (K.CTX_CMD c) 0 [3]
    d.ctxState c = 2 → (d.ctx c).migTarget = none → (d.ctx c).migHeld = false →
    let e := (d.migCancel c).modCtx c fun x => { x with open_ := false }
    exec (.ctxStop r c) s = .next (s.wrote r (K.CTX_CMD c) [3] ((e.each (e.ctx c).ports fun d p => d.moveCancel p).event.setOb (K.CTX_STATE c) 1))) ∧
  (∀ (s : State) (r : Src) (c : Fin 128), s.opens r (K.CTX_CMD c) [4] 1 = true → let d := s.taken r 2 (K.CTX_CMD c) 0 [4]
    (d.ctxState c = 1 ∨ d.ctxState c = 5) → exec (.ctxUnbind r c) s = .next (s.wrote r (K.CTX_CMD c) [4] (d.ctxFree c))) ∧
  (∀ (s : State) (r : Src) (c : Fin 128), s.opens r (K.CTX_CMD c) [5] 1 = true → let d := s.taken r 2 (K.CTX_CMD c) 0 [5]
    (d.ctxState c = 2 ∨ d.ctxState c = 3) → exec (.ctxRestart r c) s = .next (s.wrote r (K.CTX_CMD c) [5] (d.ctxRestart c false))) ∧
  (∀ (s : State) (r : Src) (c : Fin 128) (v : Word), s.opens r (K.CTX_MIGRATE c) [v.toNat] 1 = true → let d := s.taken r 2 (K.CTX_MIGRATE c) 0 [v.toNat]
    v.toNat ≤ 15 → v.toNat ≠ d.ctxCore c → d.ctxState c = 2 → (d.ctx c).swapEntry = none → d.coreBarred v.toNat = false → d.coreTakes v.toNat (d.obn (K.CTX_PERS c)) = true →
    (d.ctxsOn v.toNat).isEmpty = false →
    let slot := (d.freeSlot v.toNat).getD 0
    exec (.ctxMigrate r c v) s = .next (s.wrote r (K.CTX_MIGRATE c) [v.toNat] (((d.event.setOb (K.CTX_STATE c) 3).modCtx c fun x =>
      { x with migTarget := some v.toNat, migSlot := slot, migHeld := false }).release 0))) ∧
  (∀ (s : State) (r : Src) (c : Fin 128) (v : Word) (k : Nat) (d1 : Dev), s.opens r (K.CTX_PERS_SWAP c) [v.toNat] 1 = true →
    let d := s.taken r 2 (K.CTX_PERS_SWAP c) 0 [v.toNat]
    v.toNat < 512 → d.hasBundle (v.toNat % 256) = true → d.swapShut c v.toNat = false → d.ask (.pers c) 300 1000 4 (d.waitLeft (some r)) v.toNat = (d1, .granted k) → (d1.swapLoad c v.toNat k).2 = 0 →
    exec (.ctxPersSwap r c v) s = .next (s.wrote r (K.CTX_PERS_SWAP c) [v.toNat] (d1.swapLoad c v.toNat k).1)) ∧
  (∀ (s : State) (r : Src) (j : Fin 256), s.opens r (K.PERS_DELETE j) [1] 1 = true → let d := s.taken r 2 (K.PERS_DELETE j) 0 [1]
    (d.persUsers j).isEmpty = true → exec (.persDelete r j 1) s = .next (s.wrote r (K.PERS_DELETE j) [1]
      ((({ d with bundles := mdel d.bundles j } : Dev).event.zero [K.PERS_STATE j, K.PERS_ID j, K.PERS_VERSION j]).setOb (K.PERS_SIGNER j) 0xFF)))

/-- A context's cycle. A boundary counts the cycle, raises its interrupt and opens the cycle; DONE ends it; a deadline that passes is a miss, or
aborts a migration that is held; a checkpoint is a copy of the window with its generation, and one of a poisoned window is aborted with the
migration that waits for it; a restored window is the newest copy; a migration that lands by its deadline on a target that is on runs there. From
R328, R329, R331, R332, R335, R339. Where the spec is silent the clauses rest on the model's choices of log entries 49 and 60. -/
def Obligations.ContextEvents : Prop :=
  (∀ (s : State) (c : Fin 128), s.dev.ctxState c = 2 → s.dev.followed c = none → (s.dev.ctx c).open_ = false → (s.dev.ctx c).copying = none →
    (s.dev.ctx c).migTarget = none →
    let at_ := (s.dev.ctx c).nextAt
    let d := (s.cmd.upToOn (s.cmd.ctxTb c) at_)
    d.ctxState c = 2 → (d.ctx c).open_ = false → (d.ctx c).copying = none → (d.ctx c).migTarget = none →
    let e := d.event.setOb (K.CTX_CYCLE c) ((d.obn (K.CTX_CYCLE c) + 1) % 2 ^ 24 : Nat)
    let f := e.modCtx c fun x =>
      let pending := putBit x.pending 0 true
      let next := at_ + e.ctxPeriod c * 1000
      { x with pending := pending, open_ := true, doneSeen := false, boundaryAt := at_, nextAt := next, cpFired := 0, eff := none }
    let g := (f.modCtx c fun x => { x with eff := some (f.ctxEff c) }).descPut c 6 [(f.ctxEff c).deadline]
    exec (.contextBoundary c) s = .next (s.after (((g.pulse (g.ctxCore c) (16 + 2 * g.ctxSlot c)).each
      ((g.pulse (g.ctxCore c) (16 + 2 * g.ctxSlot c)).ctx c).ports fun d p => d.chBoundary p).movesDue c))) ∧
  (∀ (s : State) (c : Fin 128) (j : Fin 8), let x := s.dev.ctx c
    let ofs := (s.cmd.ctxEff c).cps.getD (j - 1) 0
    s.dev.ctxState c = 2 → s.dev.followed c = none → j.val ≠ 0 → ofs ≠ 0 → x.eff.isSome = true → x.cpFired.testBit j = false →
    let l := (List.range' 1 7).filter fun i => (s.cmd.ctxEff c).cps.getD (i - 1) 0 == ofs
    let d := (s.cmd.upToOn (s.cmd.ctxTb c) (x.boundaryAt + ofs * 1000)).event.modCtx c fun x =>
      let pending := l.foldl (fun v i => putBit v i true) x.pending
      let fired := l.foldl (fun v i => putBit v i true) x.cpFired
      { x with pending := pending, cpFired := fired }
    exec (.cyclePoint c j) s = .next (s.after (d.pulse (d.ctxCore c) (17 + 2 * d.ctxSlot c)))) ∧
  (∀ (s : State) (k : Fin 20) (c : Fin 128) (v : Word), s.cmd.coreRuns k = true → s.cmd.ctxAgent k c = true →
    exec (.ctxDone (k.castLE (by omega)) c) s = .next (s.after (s.cmd.ctxDone c)) ∧
    exec (.cpPendingClear (k.castLE (by omega)) c v) s = .next (s.after (s.cmd.modCtx c fun x =>
      let pending := x.pending &&& (255 ^^^ (v.toNat % 256)); { x with pending := pending })) ∧
    exec (.ckptReq (k.castLE (by omega)) c v) s = .next (s.after (if v.toNat.testBit 0 then s.cmd.ckptStart c else s.cmd))) ∧
  (∀ (d : Dev) (c : Nat), (d.ctxState c = 2 ∨ d.ctxState c = 3) → (d.ctx c).doneSeen = false → (d.ctx c).open_ = false ∨
    d.tbNs (d.ctxTb c) ≤ (d.ctx c).boundaryAt + d.deadlineNs c → (d.ctxEff c).ckptEvery = 0 →
    d.ctxDone c = d.modCtx c fun x =>
      let missed := if x.open_ then 0 else x.misses
      { x with doneSeen := true, misses := missed, open_ := false, resumed := false, migrated := false, swapped := false }) ∧
  (∀ (s : State) (c : Fin 128), (s.dev.ctx c).open_ = true →
    let d := s.cmd.upToOn (s.cmd.ctxTb c) ((s.cmd.ctx c).boundaryAt + s.cmd.deadlineNs c)
    (¬ (d.ctxState c = 3 ∧ (d.ctx c).migHeld = true) → exec (.deadlineMiss c) s = .next (s.after (d.ctxMiss c))) ∧
    (d.ctxState c = 3 → (d.ctx c).migHeld = true → exec (.deadlineMiss c) s = .next (s.after (d.migAbort c)))) ∧
  (∀ (s : State) (c : Fin 128) (k : Bool), (s.dev.ctx c).copying = some k →
    (s.dev.poison.any fun a => decide (s.dev.winBase c ≤ a) && decide (a < s.dev.winBase c + s.dev.ctxWords c)) = false →
    let d := s.cmd
    let gen := (d.obn (K.CTX_CKPT_GEN c) + 1) % 2 ^ 24
    let at_ := d.copyBase c k
    let e := ((d.clearMem at_ (at_ + 256)).stAll at_ [gen, d.obn (K.CTX_CYCLE c)]).stAll (at_ + 256) (d.ldAll (d.winBase c) (d.ctxWords c))
    exec (.ckptDone c) s = .next (s.after (((e.modCtx c fun x =>
      let both := if k then (x.copies.1, ⟨true, gen⟩) else (⟨true, gen⟩, x.copies.2)
      { x with copying := none, ckptStatus := Stat.done, copies := both }).setOb (K.CTX_CKPT_GEN c) (gen : Nat)).bump (K.CTX_CKPTS c)))) ∧
  (∀ (s : State) (c : Fin 128) (k : Bool), (s.dev.ctx c).copying = some k →
    (s.dev.poison.any fun a => decide (s.dev.winBase c ≤ a) && decide (a < s.dev.winBase c + s.dev.ctxWords c)) = true →
    exec (.ckptDone c) s = .next (s.after ((s.cmd.ckptAbort c).migAbort c))) ∧
  (∀ (s : State) (c : Fin 128) (k : Bool), s.dev.ctxState c = 4 → s.cmd.newestCopy c = some k →
    let d := (s.cmd.stAll (s.cmd.winBase c) (s.cmd.ldAll (s.cmd.copyBase c k + 256) (s.cmd.ctxWords c))).event.setOb (K.CTX_STATE c) 2
    exec (.ctxRestoreDone c) s = .next (s.after (d.modCtx c fun x =>
      let t := d.tbNs (d.ctxTb c)
      let next := d.boundaryFrom c t
      let open_ := if (d.followed c).isSome then t else 0
      { x with resumed := true, migrated := false, swapped := false, open_ := false, nextAt := next, notBefore := open_ }))) ∧
  (∀ (s : State) (c : Fin 128) (t : Nat), s.dev.ctxState c = 3 → (s.dev.ctx c).migTarget = some t → (s.dev.ctx c).migHeld = true →
    (s.cmd.epOn t = false → exec (.migrationLand c) s = .next (s.after (s.cmd.migAbort c))) ∧
    (s.cmd.tbNs (s.cmd.ctxTb c) ≤ (s.dev.ctx c).boundaryAt + s.cmd.deadlineNs c → s.cmd.epOn t = true →
    let d := s.cmd.ckptEnd c
    (d.ctx c).ckptStatus = Stat.done → ∀ k, d.newestCopy c = some k →
    let slot := (s.dev.ctx c).migSlot
    let e := ((d.event.stAll (localAddr t (0xC00 * slot)) (d.ldAll (d.copyBase c k + 256) (d.ctxWords c))).setOb (K.CTX_STATE c) 2).ctxMoveTo c t slot
    let f := (e.modCtx c fun x => { x with migrated := true, resumed := true }).pulse t (16 + 2 * slot)
    exec (.migrationLand c) s = .next (s.after ((f.logE 0x6010 c).bump (K.CTX_MIGRATIONS c))))) ∧
  (∀ (s : State) (c : Fin 128), s.dev.ctxState c = 3 → (s.dev.ctx c).migHeld = true →
    let d := if (s.dev.ctx c).copying = none ∧ (s.dev.ctx c).ckptStatus ≠ Stat.done then s.cmd else s.cmd.upToOn (s.cmd.ctxTb c) ((s.dev.ctx c).boundaryAt + s.dev.deadlineNs c)
    exec (.migrationAbort c) s = .next (s.after (d.migAbort c))) ∧
  (∀ (s : State) (c : Fin 128), (s.dev.ctx c).swapEntry.isSome = true →
    let d := s.cmd.upTo ((s.dev.ctx c).swapAt + 1000000000)
    let l := (d.ctxsOn (d.ctxCore c)).filter fun x => (d.ctx x).swapEntry.isSome
    exec (.persSwapCancel c) s = .next (s.after (((d.bankCancel (d.ctxCore c)).swapDrop l).each l fun d x => d.logE 0x6013 x)))

/-- The switch. A parser takes its oldest frame; cells link in count order, one that arrives early is held in the Cistern; an output serves classes
7 to 4 strictly; a frame that ends leaves its queue, its line and its counts; the rings move one frame a descriptor; in its slot an input sends from
its multicast stage, else from the first stage that its pointer finds free to go, else it counts what it holds. From R343, R349, R351, R354, R355,
R358, R360, R365 to R367. Where the spec is silent the clauses rest on the model's choices of log entries 11, 12 and 40. -/
def Obligations.SwitchCommands : Prop :=
  (∀ (s : State) (i : Fin 101) (f : RxFrame) (l : List RxFrame), mget s.dev.sw.rx i [] = f :: l →
    let d := s.cmd.modSw fun w => { w with rx := if l.isEmpty then mdel w.rx i else mput w.rx i l }
    let prof := d.profileOf i
    exec (.parserLookup i) s = .next (s.after (d.parse i f)) ∧
    (d.lookup (lookupKey prof (srcOf i) f.vid f.bytes) = none → prof.getD 0 0 / 2 ^ 21 % 4 = 0 → d.parse i f = d.bump K.PARSE_MISS) ∧
    (d.lookup (lookupKey prof (srcOf i) f.vid f.bytes) = none → prof.getD 0 0 / 2 ^ 21 % 4 = 2 →
      d.parse i f = d.sendFrame { envOfRx i f with cls := prof.getD 0 0 / 2 ^ 18 % 8, dest := 36 * 16 } f.bytes f.bad f.cause)) ∧
  (∀ (s : State) (o i : Fin 48) (n : BitVec 8) (c : FCell), s.dev.sw.transit.find? (fun c => c.inp == i.val && c.out == o.val && c.seq == n.toNat) = some c →
    let others (x : FCell) : Bool := !(x.inp == i.val && x.out == o.val && x.seq % 128 == c.seq % 128)
    let d := (s.cmd.modSw fun w => { w with transit := w.transit.erase c, held := w.held.filter others ++ [c] })
    let want := mget s.dev.sw.expect (48 * o + i) 0
    (∀ e ∈ s.dev.sw.held, ¬ (e.inp = i ∧ e.out = o ∧ e.seq % 128 = want % 128)) →
    (n.toNat % 128 ≠ want % 128 → exec (.cellArrive o i n) s = .next (s.after d.freeMin)) ∧
    (n.toNat % 128 = want % 128 → exec (.cellArrive o i n) s = .next (s.after (((d.modSw fun w =>
      { w with held := w.held.erase c, expect := mput w.expect (48 * o + i) ((want + 1) % 256) }).linkCell c).linkAll i o 255).freeMin))) ∧
  (∀ (s : State) (o : Fin 100) (c : Nat) (f : QFrame), s.cmd.isMac o = true → mget? s.dev.sw.line o = none → s.cmd.macRuns o = true → 4 ≤ c → c ≤ 7 →
    let d := ((s.cmd.upTo (s.cmd.mac o).gapEnds).badHeads o).macHeads o 4096
    let ready (k : Nat) : Bool := match (d.queue (lineQueue o + k)).head? with
      | some f => d.canStart o f && !d.macStopped o (d.cutStart o f) && d.gateOk o k f
      | none => false
    d.macHeld o = false → (d.queue (lineQueue o + c)).head? = some f → ready c = true → (∀ k, c < k → k ≤ 7 → ready k = false) →
    let start := d.upTo (d.cutStart o f)
    let e := start.upTo (start.now + bytesNs 8 (start.lineRate o))
    let ts := adjNs (e.tbAgo (e.macOb o K.MAC_TS_BASE K.UP_TS_BASE) 0 o) (e.ob (macKey o K.MAC_TS_EGR_ADJ K.UP_TS_EGR_ADJ))
    exec (.outputFrameStart o) s = .next (s.after (e.modSw fun w => let line := mput w.line o ⟨lineQueue o + c, f, start.now, ts⟩; { w with line := line }))) ∧
  (∀ (s : State) (o : Fin 100), s.cmd.isMac o = false → s.cmd.portMode o = 3 → exec (.outputFrameStart o) s = .next (s.after (s.cmd.busRefill o))) ∧
  (∀ (s : State) (o : Fin 100), s.cmd.isMac o = false → 4 ≤ s.cmd.portMode o → (s.cmd.segsOn o).isEmpty = true →
    exec (.outputFrameStart o) s = .next (s.after (s.cmd.runnelStart o))) ∧
  (∀ (s : State) (o : Fin 100) (x : OnLine) (k : Nat), s.cmd.isMac o = true → mget? s.dev.sw.line o = some x → (s.cmd.onLine x).tail = some (false, k) →
    let f := s.cmd.onLine x
    let l := s.cmd.macBytes o f.env f.data x.ts
    let d := s.cmd.upTo (x.started + s.cmd.frameNs o l.length)
    let e := ((d.offLine o x).modMac o fun m => let gap := (d.offLine o x).now + bytesNs 12 ((d.offLine o x).lineRate o); { m with gapEnds := gap }).onWire o (.frame o (preamble ++ l) false)
    let g := (e.macBump o K.MAC_TX_FRAMES K.UP_TX_FRAMES).bumpBy (macKey o K.MAC_TX_OCTETS K.UP_TX_OCTETS) l.length
    let stamped := if o.val < 96 then f.env.tsReq || f.env.oneStep else f.env.tsReq && !f.env.oneStep
    exec (.outputFrameEnd o) s = .next (s.after ((if stamped then g.postTs o (tsRec f.env.tsTag x.ts) else g).chargeEnd o (some o.val) (x.queue % 8) f.len))) ∧
  (∀ (s : State) (o : Fin 100) (x : OnLine), s.cmd.isMac o = true → mget? s.dev.sw.line o = some x → (s.cmd.onLine x).tail = none →
    let f := s.cmd.onLine x
    let d := (s.cmd.offLine o x).onWire o (.frame o (preamble ++ spoiled (s.cmd.macEdit o f.env f.data x.ts)) true)
    let e := d.modMac o fun m => let gap := d.now + bytesNs 12 (d.lineRate o); { m with gapEnds := gap }
    exec (.outputUnderrun o) s = .next (s.after ((((e.bump (K.Q_UNDERRUNS x.queue)).logSecAny 0x7002 x.queue).dropTs o f.env).chargeEnd o (some o.val)
      (x.queue % 8) f.data.length))) ∧
  (∀ (s : State) (e : Fin 21) (d g : Dev) (a q : Nat) (f : QFrame), s.cmd.accepting (16 + e) 0 = true →
    (s.cmd.takeWhole (16 + e) fun _ => true).2.isSome = true → s.cmd.rxDesc e 1024 = (d, some a) →
    d.takeWhole (16 + e) (fun _ => true) = (g, some (q, f)) → ¬ (e.val < 20 ∧ f.env.ctxV = true ∧ g.holdsCtx e f.env.ctx = false) →
    let bad := (f.tail.getD (true, 5)).1
    let cause := (f.tail.getD (true, 5)).2
    let bytes := f.env.bytes ++ f.data
    let h := (g.stAll (ringAddr e (g.ld (a + 1))) (wordsOf bytes)).st a (b2n bad * 2 ^ 22 + cause * 2 ^ 18 + bytes.length % 4096)
    exec (.ringRxDeliver e) s = .next (s.after (((h.setOb (K.RING_RX_PTR e) ((h.obn (K.RING_RX_PTR e) + 1) % h.obn (K.RING_RX_SIZE e) : Nat)).bump
      (K.RING_RX_FRAMES e)).raise (0x4F0 + e)))) ∧
  (∀ (s : State) (e : Fin 21), let n := s.cmd.obn (K.RING_TX_SIZE e)
    let i := s.cmd.obn (K.RING_TX_PTR e)
    let a := ringAddr e (s.cmd.obn (K.RING_TX_BASE e) + 2 * i)
    let w := s.cmd.ld a
    n ≠ 0 → w.testBit 23 = true → bufOk e (s.cmd.ld (a + 1)) = true →
    let d := (s.cmd.st a (bits w 22 18 * 2 ^ 18 + bits w 11 0)).setOb (K.RING_TX_PTR e) ((i + 1) % n : Nat)
    let bytes := (bytesOf (d.ldAll (ringAddr e (s.cmd.ld (a + 1))) 683)).take (w % 4096)
    let env := { envOf bytes with src := if e.val = 20 then 127 else 100 + e.val, rate := 0 }
    envDestOk env = true → 88 ≤ w % 4096 → w % 4096 ≤ 2024 →
    exec (.ringTxSend e) s = .next (s.after (((d.sendFrame env (bytes.drop 24) false 0).bump (K.RING_TX_FRAMES e)).raise (0x508 + e)))) ∧
  (∀ (d : Dev) (i : Fin 48),
    let m := (i + d.sw.slot) % 48
    let ready (lane : Nat) : Bool := !(d.staged i lane).isEmpty && (mget d.sw.mids (49 * m + lane) []).isEmpty
    let o (k : Nat) := (mget d.sw.ptr i 0 + k) % 48
    (ready 48 = true → d.inputSlot i = d.inputSends i 48 m) ∧
    (∀ k < 48, ready 48 = false → ready (o k) = true → (∀ j < k, ready (o j) = false) →
      d.inputSlot i = (d.inputSends i (o k) m).modSw fun s => { s with ptr := mput s.ptr i ((o k + 1) % 48) }) ∧
    ((∀ lane < 49, ready lane = false) →
      d.inputSlot i = d.bumpBy (K.STAGED i) ((List.range 49).countP fun lane => !(d.staged i lane).isEmpty)))

/-- The Cellar's units. A template fires after the firings that are due before its own. From R374, R383, R387 to R389, R396, R398, R400, R403. Where
the spec is silent the clauses rest on the model's choices of log entries 11, 37 and 61. -/
def Obligations.CellarCommands : Prop :=
  (∀ (s : State) (d : Dev) (q : Nat) (f : QFrame), s.cmd.takeWhole 37 (fun _ => true) = (d, some (q, f)) → let j := f.env.aux % 2 ^ 15
    ((d.ld (0x260000 + 4 * j)).testBit 23 = false → exec .scatterCommit s = .next (s.after ((d.bump K.LIST_MISSING).logSec 0x8003 0))) ∧
    (∀ k, (d.ld (0x260000 + 4 * j)).testBit 23 = true → f.tail = some (false, k) → exec .scatterCommit s = .next (s.after (d.scatter j f.env f.data)))) ∧
  (∀ (s : State) (n r : Nat), s.cmd.nextSwept s.dev.cellar.sweepAt = some (n, r) →
    exec .sweepEntry s = .next (s.after ((s.cmd.sweepEntry n r).modCellar fun c => { c with sweepAt := n + 1 }))) ∧
  (∀ (d : Dev) (n r : Nat), let e := d.entry n
    mget? d.cellar.contestPend r = none → d.obn (K.REG_FRESH_LIMIT r) ≠ 0 → e.valid = true → e.forced = false → e.stale = false → d.obn (K.REG_STALE_NOW r) ≠ 0 →
    d.obn (K.REG_FRESH_LIMIT r) < ageOf (d.stampOf r (d.tbNs (d.obn (K.REG_TB r)))) e.stamp →
    d.sweepEntry n r = (d.putEntry n { e with stale := true }).setOb (K.REG_STALE_NOW r) (d.obn (K.REG_STALE_NOW r) + 1 : Nat)) ∧
  (∀ (s : State) (r : Src) (g : Fin 1024), s.opens r (K.REG_CONTEST_CLEAR g) [1] 1 = true → let d := s.taken r 2 (K.REG_CONTEST_CLEAR g) 0 [1]
    exec (.contestClear r g 1) s = .next (s.wrote r (K.REG_CONTEST_CLEAR g) [1] (d.event.modCellar fun c =>
      { c with contestPend := mput c.contestPend g (d.obn (K.REG_SIZE g)), contested1 := c.contested1.filter fun q => q != g.val }))) ∧
  (∀ (s : State) (r : Src) (g : Fin 1024) (d1 : Dev) (k : Nat), s.opens r (K.REG_CLEAR g) [1] 1 = true → let d := s.taken r 2 (K.REG_CLEAR g) 0 [1]
    d.obn (K.REG_OWNER g) = 0xFF → d.cellar.clearing.contains g.val = false → (d.tap.queue.any fun q => q.holder == .region g) = false →
    d.ask (.region g) 1200 (1 + (d.obn (K.REG_SIZE g) + 249) / 250) 3 (d.waitLeft (some r)) 0 = (d1, .granted k) →
    exec (.regClear r g 1) s = .next (s.after (((d1.clearRegion g).modCellar fun c => { c with clearing := g.val :: c.clearing }).txTook (some r)))) ∧
  (∀ (s : State) (g : Fin 1024) (t : Tx), s.dev.cellar.clearing.contains g.val = true →
    let d := (s.cmd.modCellar fun c => { c with clearing := c.clearing.filter fun q => q != g.val }).releaseAll (.region g)
    d.dict.inflight.find? (fun t => t.wait == .clearing g) = some t →
    exec (.regClearDone g) s = .next (s.after ((d.complete (some t.src) Stat.done).logE 0x8040 g))) ∧
  (∀ (s : State) (r : Src) (g : Fin 1024) (v : Word), s.opens r (K.REG_OWNER g) [v.toNat] 2 = true → let d := s.taken r 2 (K.REG_OWNER g) 0 [v.toNat]
    (d.mode = 2 ∨ d.mode = 7) →
    (v.toNat < 128 ∨ v.toNat = 0xFE ∨ v.toNat = 0xFF) → d.devNames g = false → 128 ≤ d.obn (K.REG_OWNER g) →
    exec (.regionWrite r g 2 v) s = .next (s.wrote r (K.REG_OWNER g) [v.toNat] (d.event.setOb (K.REG_OWNER g) (v.toNat : Nat)))) ∧
  (∀ (s : State) (r : Src) (g : Fin 1024) (v : Word) (el : Fin 2), let key := K.REG_BASE g + el
    s.opens r key [v.toNat] 2 = true → let d := s.taken r 2 key 0 [v.toNat]
    (d.mode = 2 ∨ d.mode = 7) →
    let e := d.event.setOb key (v.toNat : Nat)
    v.toNat % 16 = 0 → (el = 0 → v.toNat < 2 ^ 20) → e.obn (K.REG_BASE g) + e.obn (K.REG_SIZE g) ≤ 2 ^ 20 →
    (d.regions.any fun q => q != g.val && runsMeet (e.obn (K.REG_BASE g)) (e.obn (K.REG_SIZE g)) (d.obn (K.REG_BASE q)) (d.obn (K.REG_SIZE q))) = false →
    d.devNames g = false → 128 ≤ d.obn (K.REG_OWNER g) → exec (.regionWrite r g (el.castLE (by omega)) v) s = .next (s.wrote r key [v.toNat] e)) ∧
  (∀ (s : State) (n : Fin 4096) (t : Tpl) (at_ : Nat), mget? s.dev.cellar.tpls n = some t → t.nextAt = some at_ →
    let tb := s.dev.ld t.hdr / 2 ^ 14 % 8
    let per := s.dev.ld (t.hdr + 3) * 1000
    let b := s.cmd.upToOn tb at_
    let d := b.each (b.firesFirst n ((b.tplLate t).getD 0)) Dev.fireOne
    mget? d.cellar.tpls n = some t → d.ld t.hdr = s.dev.ld t.hdr → d.ld (t.hdr + 3) = s.dev.ld (t.hdr + 3) →
    d.tbNs tb - at_ ≤ 2000 → d.tbNs tb - at_ < per →
    exec (.templateFire n) s = .next (s.after ((d.modCellar fun c => let tpls := mput c.tpls n { t with nextAt := some (at_ + per) }; { c with tpls := tpls }).gatherNow t)))

/-- A write, a force or an unforce of a signal entry. A forced entry refuses a write; a write of a fresh entry by another identity is a contest, and
with policy 0 one that is not the owner's is dropped; an accepted write makes the entry valid and not stale, with its own source, node and stamp. From
R381. Where the spec is silent the clauses rest on the model's choices of log entry 37. -/
def Obligations.EntryWrites : Prop :=
  ∀ (d : Dev) (r : Nat) (w : CWrite), let e := d.entry w.sig
    (w.op = .unforce → e.forced = false → d.applyWrite r w = (d, true)) ∧
    (w.op = .unforce → e.forced = true →
      d.applyWrite r w = ((d.putEntry w.sig { e with forced := false }).setOb K.FORCED_COUNT (d.obn K.FORCED_COUNT - 1 : Nat), true)) ∧
    (w.op = .write → e.forced = true → d.applyWrite r w = (d.bump (K.REG_FORCED_DROPS r), false)) ∧
    (w.op = .write → e.forced = false → (d.isFresh r e (d.stampOf r w.ns) = false ∨ (d.sourceId w.src w.node = d.sourceId e.source e.node ∧ w.node = e.node)) →
      e.stale = false → d.applyWrite r w = (d.putEntry w.sig { e with value := w.value % 2 ^ 48, stamp := d.stampOf r w.ns, source := w.src, node := w.node, valid := true,
                                                                      stale := false, count := (e.count + 1) % 16 }, true)) ∧
    (w.op = .write → e.forced = false → d.isFresh r e (d.stampOf r w.ns) = true → d.sourceId w.src w.node ≠ d.sourceId e.source e.node →
      (d.contest r).obn (K.REG_POLICY r) = 0 → (d.contest r).ownerWrite r w.src w.node = false →
      d.applyWrite r w = (((d.contest r).putEntry w.sig { e with contested := true }).bump (K.REG_FOREIGN_DROPS r), false)) ∧
    (w.op = .force → e.forced = false → e.stale = false → (d.applyWrite r w).2 = true ∧
      (d.applyWrite r w).1.obn K.FORCED_COUNT = (d.putEntry w.sig (d.landed r w e)).obn K.FORCED_COUNT + 1)

/-- The four words of an entry hold its fields: the words have the layout of the rule, what is stored is read back, and no word outside the entry
changes. From R372. Where the spec is silent the clauses rest on the model's choices of log entry 4. -/
def Obligations.EntryWords : Prop :=
  ∀ (d : Dev) (n : Nat) (e : Entry), e.value < 2 ^ 48 → e.stamp < 2 ^ 24 → e.source < 2 ^ 7 → e.node < 2 ^ 9 → e.count < 2 ^ 4 →
    (d.putEntry n e).entry n = e ∧ (d.putEntry n e).entryPoisoned n = false ∧
    (d.putEntry n e).ld (sigAddr n 0) = e.value / 2 ^ 24 ∧ (d.putEntry n e).ld (sigAddr n 1) = e.value % 2 ^ 24 ∧
    (d.putEntry n e).ld (sigAddr n 2) = e.stamp ∧
    (d.putEntry n e).ld (sigAddr n 3) = e.source * 2 ^ 17 + e.node * 2 ^ 8 + b2n e.contested * 2 ^ 7 + b2n e.stale * 2 ^ 6 + b2n e.valid * 2 ^ 5 +
      b2n e.forced * 2 ^ 4 + e.count ∧
    (∀ a, (a < sigAddr n 0 ∨ sigAddr n 4 ≤ a) → (d.putEntry n e).ld a = d.ld a)

/-- The 24 bytes of an envelope hold its fields: what a sender lays out is what a receiver reads, bit 3 of a destination that is no group being
reserved. From R345. -/
def Obligations.EnvelopeBytes : Prop :=
  ∀ e : Env, e.dest < 2 ^ 10 → e.cls < 8 → e.colour < 4 → e.src < 2 ^ 7 → e.rate < 16 → e.vid < 2 ^ 12 → e.tsTb < 8 → e.tsTag < 256 → e.tsOff < 256 →
    e.csumOff < 256 → e.ctx < 2 ^ 7 → e.ingS < 2 ^ 16 → e.ingNs < 2 ^ 32 → e.mat < 2 ^ 13 → e.meter < 2 ^ 11 → e.aux < 2 ^ 16 →
    (e.mc = true ∨ e.dest.testBit 3 = false) →
    let b (i : Nat) := byteAt e.bytes i
    e.bytes.length = 24 ∧ envOf e.bytes = e ∧
    b 0 * 256 + b 1 = b2n e.mc * 2 ^ 15 + e.dest ∧ b 2 = e.cls * 2 ^ 5 + e.colour * 2 ^ 3 + b2n e.ct * 2 ^ 2 + b2n e.fcsIn * 2 ∧ b 3 = e.src ∧
    b 4 * 256 + b 5 = e.rate * 2 ^ 12 + e.vid ∧ b 6 = b2n e.tsReq * 2 ^ 7 + b2n e.oneStep * 2 ^ 6 + b2n e.tsEst * 2 ^ 5 + e.tsTb ∧
    b 7 = e.tsTag ∧ b 8 = e.tsOff ∧ b 9 = e.csumOff ∧ b 10 = b2n e.ctxV * 2 ^ 7 + e.ctx ∧ b 11 = 0 ∧ b 12 * 256 + b 13 = e.ingS ∧
    ((b 14 * 256 + b 15) * 256 + b 16) * 256 + b 17 = e.ingNs ∧ b 18 * 256 + b 19 = b2n e.hit * 2 ^ 15 + e.mat ∧
    b 20 * 256 + b 21 = b2n e.mv * 2 ^ 15 + e.meter ∧ b 22 * 256 + b 23 = e.aux

/-- Writes of a time base from the dictionary: a rate in range, an offset that starts a slew, a step, the sync flag and the agent that disciplines it.
T0 has none of them, and a base that an agent disciplines refuses them. From R411 to R413, R418, R426, R428, R563. Where the spec is silent the
clauses rest on the model's choices of log entry 34. -/
def Obligations.TimeBaseWrites : Prop :=
  (∀ (s : State) (r : Src) (n : Fin 8) (v : BitVec 48), n ≠ 0 → s.opens r (K.TB_INCR n) (hiLo v) 1 = true →
    let d := s.taken r 2 (K.TB_INCR n) 0 (hiLo v)
    d.disciplines n = 0 → 0x00FFBE76C9 ≤ v.toNat → v.toNat ≤ 0x0100418937 →
    exec (.tbIncrWrite r n v) s = .next (s.wrote r (K.TB_INCR n) (hiLo v) (d.event.modTb n fun b => { b with incr := v.toNat }))) ∧
  (∀ (s : State) (r : Src) (n : Fin 8) (v : BitVec 48), n ≠ 0 → s.opens r (K.TB_OFFSET n) (hiLo v) 1 = true →
    let d := s.taken r 2 (K.TB_OFFSET n) 0 (hiLo v)
    let sum := (d.tb n).slewLeft + v.toInt * 2 ^ 32
    let k := d.obn (K.TB_SLEW_TICKS n)
    d.disciplines n = 0 → 2 * sum.natAbs ≤ k * 2 ^ 32 →
    exec (.tbOffsetWrite r n v) s = .next (s.wrote r (K.TB_OFFSET n) (hiLo v) (d.event.modTb n fun b =>
      { b with slewLeft := sum, slewTicks := k, slewPart := sum.tdiv k }))) ∧
  (∀ (s : State) (r : Src) (n : Fin 8) (w0 w1 w2 w3 : Word), n ≠ 0 →
    let w := [w0.toNat, w1.toNat, w2.toNat, w3.toNat]
    s.opens r (K.TB_SET n) w 1 = true → w2.toNat < 256 → w2.toNat * 2 ^ 24 + w3.toNat < 1000000000 →
    let d := s.taken r 2 (K.TB_SET n) 0 w
    let ns := (w0.toNat * 2 ^ 24 + w1.toNat) * 1000000000 + (w2.toNat * 2 ^ 24 + w3.toNat)
    d.disciplines n = 0 →
    ((d.tb n).state ≠ 0 ∨ d.schedules n = 0 → exec (.tbSetWrite r n w0 w1 w2 w3) s = .next (s.wrote r (K.TB_SET n) w (d.stepTb n ns))) ∧
    ((d.tb n).state = 0 → d.schedules n ≠ 0 →
      exec (.tbSetWrite r n w0 w1 w2 w3) s = .next (s.answers r 2 (K.TB_SET n) 0 w d (ans Stat.busy)))) ∧
  (∀ (s : State) (r : Src) (n : Fin 8) (v : Word), v.toNat ≤ 1 → s.opens r (K.TB_SYNCED n) [v.toNat] 1 = true →
    let d := s.taken r 2 (K.TB_SYNCED n) 0 [v.toNat]
    (n = 0 → exec (.tbSyncedWrite r n v) s = .next (s.answers r 2 (K.TB_SYNCED n) 0 [v.toNat] d (ans Stat.denied))) ∧
    (n ≠ 0 → d.disciplines n ≠ 0 → exec (.tbSyncedWrite r n v) s = .next (s.answers r 2 (K.TB_SYNCED n) 0 [v.toNat] d (ans Stat.busy))) ∧
    (n ≠ 0 → d.disciplines n = 0 → v = 1 → exec (.tbSyncedWrite r n v) s = .next (s.wrote r (K.TB_SYNCED n) [v.toNat] ((d.event.modTb n fun b =>
      { b with synced := true, lost := false, syncedAt := if b.synced then b.syncedAt else d.now,
               syncEnds := d.now + d.obn (K.TB_SYNC_LOSS_TIMEOUT n) * 1000000 }).watchReserves d))) ∧
    (n ≠ 0 → d.disciplines n = 0 → v = 0 → exec (.tbSyncedWrite r n v) s = .next (s.wrote r (K.TB_SYNCED n) [v.toNat]
      (if (d.tb n).synced then d.event.syncLoss n else d.event)))) ∧
  (∀ (s : State) (r : Src) (which : Discipline) (v : Word), which ≠ .tbDiscCtx 0 → discBase which v.toNat = some v.toNat →
    s.opens r (discKey which) [v.toNat] 2 = true →
    let d := s.taken r 2 (discKey which) 0 [v.toNat]
    let d' := d.event.discPut which v.toNat
    d.mode = 2 ∨ d.mode = 7 →
    ((∀ n, d.discNames which v.toNat = some n → d'.disciplines n ≤ 1) →
      exec (.disciplineWrite r which v) s = .next (s.wrote r (discKey which) [v.toNat] d')) ∧
    (∀ n, d.discNames which v.toNat = some n → 1 < d'.disciplines n →
      exec (.disciplineWrite r which v) s = .next (s.answers r 2 (discKey which) 0 [v.toNat] d (ans Stat.busy))))

/-- A reserve pair: the write that names a reserve, the two switches, the loss of sync, the return, the ends of convergence, a reserve that becomes
usable, and the check of a tile's alignment and link. From R417 to R420, R422. Where the spec is silent the clauses rest on the model's choices of
log entry 1. -/
def Obligations.ReservePairs : Prop :=
  (∀ (s : State) (r : Src) (n : Fin 8) (v : Word), n ≠ 0 → v.toNat ≤ 7 ∨ v.toNat = 0xFF → s.opens r (K.TB_RESERVE n) [v.toNat] 2 = true →
    let d := s.taken r 2 (K.TB_RESERVE n) 0 [v.toNat]
    d.mode = 2 ∨ d.mode = 7 →
    ((v.toNat ≤ 7 → d.chainTo n 9 v.toNat = false) → (d.tb n).state ≠ 1 → (d.tb n).state ≠ 2 →
      exec (.tbReserveWrite r n v) s = .next (s.wrote r (K.TB_RESERVE n) [v.toNat] ((d.event.setOb (K.TB_RESERVE n) (v.toNat : Nat)).noteBases.watchReserves d))) ∧
    (v.toNat ≤ 7 → d.chainTo n 9 v.toNat = true →
      exec (.tbReserveWrite r n v) s = .next (s.answers r 2 (K.TB_RESERVE n) 0 [v.toNat] d (ans Stat.range)))) ∧
  (∀ (s : State) (r : Src) (n : Fin 8), n ≠ 0 → s.opens r (K.TB_SWITCH n) [1] 1 = true → let d := s.taken r 2 (K.TB_SWITCH n) 0 [1]
    d.reserveUsable n = true → (d.tb n).state = 0 ∨ (d.tb n).state = 3 →
    exec (.tbSwitchReserve r n) s = .next (s.wrote r (K.TB_SWITCH n) [1]
      ((((d.event.bump (K.TB_SWITCHES n)).modTb n fun b => { b with state := 1 }).logE 0x9001 n).raise (0x520 + n)))) ∧
  (∀ (s : State) (r : Src) (n : Fin 8), n ≠ 0 → s.opens r (K.TB_SWITCH n) [2] 1 = true → let d := s.taken r 2 (K.TB_SWITCH n) 0 [2]
    (d.tb n).state = 1 ∨ (d.tb n).state = 2 →
    exec (.tbSwitchOwn r n) s = .next (s.wrote r (K.TB_SWITCH n) [2]
      (((d.event.modTb n fun b => { b with state := 3 }).logE 0x9004 n).raise (0x520 + n)))) ∧
  (∀ (s : State) (n : Fin 8), (s.cmd.tb n).synced = true →
    exec (.syncLossTimeout n) s = .next (s.after ((s.cmd.upTo (s.cmd.tb n).syncEnds).syncLoss n))) ∧
  (∀ (d : Dev) (n : Nat),
    let e := (((d.modTb n fun b => { b with synced := false, lost := true }).logE 0x9000 n).bump (K.TB_SYNC_LOSSES n)).raise (0x520 + n)
    ((e.tb n).state = 1 ∨ (e.tb n).state = 2 → d.syncLoss n = e) ∧
    (e.reserveUsable n = true → (e.tb n).state = 0 ∨ (e.tb n).state = 3 → d.syncLoss n = e.tbToReserve n) ∧
    (e.reserveUsable n = false → (e.tb n).state = 0 → d.syncLoss n = e.logE 0x9002 n) ∧
    (e.reserveUsable n = false → (e.tb n).state = 3 → d.syncLoss n = e)) ∧
  (∀ (s : State) (n : Fin 8), s.cmd.obb (K.TB_REVERT n) = true → (s.cmd.tb n).synced = true → (s.cmd.tb n).state = 1 ∨ (s.cmd.tb n).state = 2 →
    exec (.revertHoldEnd n) s = .next (s.after
      ((s.cmd.upTo ((s.cmd.tb n).syncedAt + s.cmd.obn (K.TB_REVERT_HOLD n) * 1000000000)).tbToOwn n))) ∧
  (∀ (s : State) (n : Fin 8), (s.cmd.tb n).state = 1 → (s.cmd.tb n).pub = s.cmd.pubRaw (s.cmd.obn (K.TB_RESERVE n)) → s.cmd.slewStep n ≠ 0 →
    exec (.convergedReserve n) s = .next (s.after ((s.cmd.tbState n 2 0x9003).watchReserves s.cmd))) ∧
  (∀ (s : State) (n : Fin 8), (s.cmd.tb n).state = 3 → (s.cmd.tb n).src ≠ (s.cmd.tb n).pub → s.cmd.slewStep n ≠ 0 →
    let gap := (((s.cmd.tb n).src : Int) - (s.cmd.tb n).pub).natAbs
    exec (.convergedOwn n) s = .next (s.after
      ((s.cmd.advance ((gap + s.cmd.slewStep n - 1) / s.cmd.slewStep n)).tbState n 0 0x9005))) ∧
  (∀ (d : Dev) (n : Nat), (∀ k ∈ List.range' 1 7, k ≠ n → (d.tb k).lost = false) → n ∈ List.range' 1 7 → ∀ was : Dev,
    (was.reserveUsable n = true → d.watchReserves was = d) ∧
    (was.reserveUsable n = false → d.reserveUsable n = true → (d.tb n).state = 0 → (d.tb n).synced = false → (d.tb n).lost = true →
      d.watchReserves was = d.tbToReserve n)) ∧
  (∀ (s : State) (t : Fin 4) (ps : Int) (errs : Nat), s.cmd.tileRuns t = true → ps.natAbs ≤ 1500 →
    let d := s.cmd.upTo ((s.cmd.time.alignAt[t.val]?).getD 0)
    let d := { d with time := { d.time with alignAt := d.time.alignAt.set t (d.now + 1000000) } }
    let e := (d.setOb (K.TSA_TS_SKEW t) ps).bumpBy (K.TILE_LINK_ERR t) errs
    exec (.tileAlignCheck t ps errs) s = .next (s.after (if 16 < errs then e.tileLost t else e)))

/-- PPS. An edge of the chosen sense is captured in the input's queue and counted; an enabled output turns over at its instant; the time keeper's read
of word 0 takes the oldest capture. From R421, R423, R424, R427. Where the spec is silent the clauses rest on the model's choices of log entries 1 and
7. -/
def Obligations.PpsCommands : Prop :=
  (∀ (s : State) (i : Fin 4) (rising : Bool) (phase : Fin 8), s.cmd.domOn 2 = true → rising ≠ s.cmd.obb (K.PPS_IN_EDGE i) →
    (∀ t, (s.cmd.ppsIn i).lastAt = some t → t + 1000 ≤ s.cmd.now) → s.cmd.obn (K.PPS_IN_DISC i) = 0xFF → (s.cmd.ppsIn i).fifo.length < 4 → (s.cmd.ppsIn i).fifo ≠ [] →
    let ns := s.cmd.captureNs (s.cmd.obn (K.PPS_IN_TB i)) phase
    let d := (s.cmd.setOb (K.PPS_IN_LAST i) (ns : Nat)).setOb (K.PPS_IN_COUNT i) (((s.cmd.setOb (K.PPS_IN_LAST i) (ns : Nat)).obn (K.PPS_IN_COUNT i) + 1) % 2 ^ 24 : Nat)
    i.val < s.cmd.time.ppsIn.length → d.obn (K.PPS_IN_DISC i) = 0xFF →
    exec (.ppsInEdge i rising phase) s = .next (s.after
      (d.modPps i fun p => { p with lastAt := some s.cmd.now, fifo := p.fifo ++ [(ns, s.cmd.now)] }))) ∧
  (∀ (s : State) (i : Fin 4), s.cmd.domOn 2 = true → s.cmd.obb (K.PPS_OUT_EN i) = true → (s.cmd.time.ppsHigh[i.val]?).getD false = true →
    let per := max (s.cmd.obn (K.PPS_OUT_PERIOD i)) 1
    let ph := s.cmd.obn (K.PPS_OUT_PHASE i)
    let t := s.cmd.tbNs (s.cmd.obn (K.PPS_OUT_TB i))
    ph ≤ t →
    let d := s.cmd.upToOn (s.cmd.obn (K.PPS_OUT_TB i)) (ph + (t - ph) / per * per + s.cmd.obn (K.PPS_OUT_WIDTH i))
    exec (.ppsOutEdge i) s = .next (s.after (({ d with time := { d.time with ppsHigh := d.time.ppsHigh.set i false } }).emit (.pps i false)))) ∧
  (∀ (s : State) (c : Fin 21) (i : Fin 4) (a b : Nat) (l : List (Nat × Nat)), c.val < 20 → s.cmd.coreRuns c = true → s.cmd.domOn 2 = true → c.val = s.cmd.roleOf 3 →
    (s.cmd.ppsIn i).fifo = (a, b) :: l →
    exec (.ppsPop c i) s = .next (s.after ((s.cmd.modPps i fun p =>
      { p with fifo := l, latched := t80Words a ++ t80Words b }).emit (.coreRead c (2 ^ 23 + l.length)))))

/-- A Rillnet segment: its start under a permit, its stop, its timers, its slots and its cycle. From R433, R434, R442 to R449. Where the spec is
silent the clauses rest on the model's choices of log entries 1, 19 and 20. -/
def Obligations.SegmentCommands : Prop :=
  (∀ (s : State) (r : Src) (g : Fin 96) (p k : Nat) (d' e : Dev), s.opens r (K.SEG_CMD g) [1] 1 = true → let d := s.taken r 2 (K.SEG_CMD g) 0 [1]
    d.segStartStatus g = Stat.done → d.segPort g = some p → d.winPermit (winOf (p / 8) (d.obn (K.SEG_WIN g))) (1 + g) (some r) = (d', .granted k) →
    d'.segStartStatus g = Stat.done → d'.segPort g = some p → d'.segBegin g = (e, Stat.done) →
    exec (.segStart r g) s = .next (s.wrote r (K.SEG_CMD g) [1]
      ((e.putProg (p / 8) (e.obn (K.SEG_WIN g)) (e.activeBank (p / 8) (e.obn (K.SEG_WIN g))) e.sump.rillProg).release k))) ∧
  (∀ (s : State) (r : Src) (g : Fin 96), s.opens r (K.SEG_CMD g) [2] 1 = true →
    exec (.segStop r g) s = .next (s.wrote r (K.SEG_CMD g) [2] ((s.taken r 2 (K.SEG_CMD g) 0 [2]).event.segStop g))) ∧
  (∀ (s : State) (g : Fin 96) (t : Nat), (s.cmd.seg g).listenEnds = some t → s.cmd.segState g = 1 →
    let d := s.cmd.upToOn (s.cmd.segTb g) t
    ((d.seg g).csFault = false → exec (.listenTimeout g) s = .next (s.after (d.coldStart g t (d.seg g).cyc))) ∧
    ((d.seg g).csFault = true → exec (.listenTimeout g) s = .next (s.after (d.listenFrom g t)))) ∧
  (∀ (s : State) (g : Fin 96) (t : Nat), (s.cmd.seg g).backoffEnds = some t → s.cmd.segState g = 3 →
    exec (.backoffEnd g) s = .next (s.after ((s.cmd.upToOn (s.cmd.segTb g) t).coldStart g t (s.dev.seg g).cyc))) ∧
  (∀ (s : State) (g : Fin 96) (n : Fin 256) (i : Nat) (t : Tpl), s.cmd.sendsSlot g n = true → mget? (s.cmd.seg g).tpls n = some i →
    mget? s.cmd.cellar.tpls i = some t →
    let k := s.cmd.nextFiring g n
    let due := ceilNs (s.cmd.actionIn g n k - s.cmd.obn (K.SEG_LEAD g) * 1000 * 2 ^ 32)
    let d := s.cmd.upToOn (s.cmd.segTb g) due
    (∀ m, mget? (d.seg g).fireNext n = some m → (k : Int) ≤ m) →
    let e := if due + 2000 < d.tbNs (d.segTb g) then d.bump K.LATE else d
    exec (.slotTemplateFire g n) s = .next (s.after ((e.modSeg g fun x => let next := mput x.fireNext n (k + 1 : Int); { x with fireNext := next }).gatherNow t))) ∧
  (∀ (s : State) (g : Fin 96) (n : Fin 256) (f : QFrame) (e : Dev), s.cmd.sendsSlot g n = true →
    s.cmd.pubRaw (s.cmd.segTb g) < s.cmd.actionPoint g n + 2 ^ 32 →
    let d := s.cmd.upToOn (s.cmd.segTb g) (ceilNs (s.cmd.actionPoint g n))
    d.portUp (d.seg g).port = true → d.sump.hardHold = false → d.lineBusy (d.seg g).port = false → d.takeSlot g n 64 = (e, some f) → f.env.tsReq = false → f.env.oneStep = false →
    exec (.slotSend g n) s = .next (s.after ((e.emit (.frame (d.seg g).port (e.segFrame g n f.data) false)).modSeg g fun x =>
      { x with ownSent := insNat n x.ownSent }))) ∧
  (∀ (s : State) (g : Fin 96) (n : Fin 256), s.cmd.classifies g = true → n.val ≠ 0 → n.val ≤ s.cmd.segSlots g →
    (∀ o ∈ (s.cmd.seg g).obs, o.slot < n.val) → n.val ∉ (s.cmd.seg g).ownSent → (s.cmd.seg g).carry = false →
    let d := s.cmd.upToOn (s.cmd.segTb g) (ceilNs (s.cmd.slotEndAt g n))
    let h := d.readHdr g []
    exec (.slotEnd g n false false [] []) s = .next (s.after
      ((d.modSeg g fun x => { x with carry := false, obs := (s.cmd.seg g).obs ++ [⟨n, 2, h.sync, h.cstart, false, 0⟩] }).countSlot g n 2 0))) ∧
  (∀ (s : State) (g : Fin 96), [2, 4, 5, 6, 7].contains (s.cmd.segState g) = true →
    let c := s.cmd.upToOn (s.cmd.segTb g) (ceilNs (s.cmd.slotEndAt g (s.cmd.segSlots g)))
    let e := ((c.modSeg g fun x => { x with rhoWas := c.segRho g, countedWas := c.classifies g }).correct g (c.classifies g)).cycleState g
    exec (.cycleEnd g) s = .next (s.after (if 2 ≤ e.segState g then e.nextCycle g else e))) ∧
  (∀ (s : State) (r : Src) (g : Fin 96) (img : List Byte), s.puts r (K.SEG_SLOT_MAP g) 1 = true → slotMapOk img = true → img ≠ [] →
    let d := s.putting r (K.SEG_SLOT_MAP g)
    (d.segState g = 0 → exec (.slotMapWrite r g img) s = .next (s.placed r (K.SEG_SLOT_MAP g) (d.event.setDom (K.SEG_SLOT_MAP g) img))) ∧
    (d.segState g ≠ 0 → sameSlots (d.dom (K.SEG_SLOT_MAP g)) img = true →
      exec (.slotMapWrite r g img) s = .next (s.placed r (K.SEG_SLOT_MAP g) (d.event.modSeg g fun x => { x with newMap := some img })))) ∧
  (∀ (s : State) (g : Fin 96) (ago : Nat) (f : List Byte), s.cmd.segState g = 1 → (s.cmd.seg g).held = false →
    let at_ := s.cmd.tbAgo (s.cmd.segTb g) ago (s.cmd.seg g).port
    let d := s.cmd.listenFrom g at_
    let h := d.readHdr g f
    exec (.listenFrameReceived g ago f) s = .next (s.after
      (if h.wrong = 0 ∧ h.slot ≤ (d.segBad g f).segSlots g ∧ h.sync = true then (d.segBad g f).adopt g at_ h else d.segBad g f)))

/-- Motion. A group's sample runs after those of the groups that are due before it and updates its axes in their order, a frame of commands is
decided record by record, a command waits on its axis, a jog that is not repeated stops, a jog that waits renews its end, and a parameter is stored
and the axis's record takes it in, or its status is not DONE and nothing changes. From R455 to R458, R460, R463, R467, R468, R472 to R474, R488.
Where the spec is silent the clauses rest on the model's choices of log entries 16, 17, 18, 38, 39 and 61. -/
def Obligations.MotionCommands : Prop :=
  (∀ (s : State) (g : Fin 4) (reached : Nat), s.cmd.domOn 3 = true → s.cmd.obb (K.GRP_EN g) = true →
    let due (d : Dev) := (mget d.motion.groups g {}).next * d.periodNs g + d.obn (K.GRP_PHASE g) * 1000
    let b := s.cmd.upToOn (s.cmd.obn (K.GRP_TB g)) (due s.cmd)
    let c := b.each (b.groupsBefore g) fun d h => d.groupRun h (d.groupAxes h).length
    let gr := mget c.motion.groups g {}
    let t := due c
    let d := c.upToOn (c.obn (K.GRP_TB g)) t
    d.motionLoad ≤ d.motionCap →
    let first := (d.updateOrder g).1
    let all := first ++ (d.updateOrder g).2
    let upd (tr : List (Nat × Int)) (x : Dev × List (List Nat)) (a : Nat) := ((x.1.updateAxis a g t tr).1, x.2 ++ (x.1.updateAxis a g t tr).2)
    let order := all.drop (gr.resume % max all.length 1) ++ all.take (gr.resume % max all.length 1)
    let x := d.sampleAll g t false
    let y := (order.filter fun a => first.contains a).foldl (upd x.2) (x.1, [])
    let z := y.1.sampleAll g t true
    let u := (order.filter fun a => !first.contains a).foldl (upd (x.2 ++ z.2)) (z.1, y.2)
    let e := u.1.modMotion fun m => { m with groups := mput m.groups g ⟨gr.next + 1, 0⟩ }
    let e := if u.2 ≠ [] ∧ e.obn K.NOTIFY_DEST ≠ 0xFF then e.motionSend (e.obn K.NOTIFY_DEST * 16) u.2 else e
    exec (.groupUpdate g reached) s = .next (s.after (e.modMotion fun m => { m with allRest := e.allAtRest }))) ∧
  (∀ (s : State) (d : Dev) (q : Nat) (f : QFrame), s.cmd.domOn 3 = true → s.cmd.takeWhole 39 (fun _ => true) = (d, some (q, f)) →
    (f.tail ≠ some (false, 0) → exec .commandFrame s = .next (s.after (d.bump (K.Q_BAD_TAIL q)))) ∧
    (f.tail = some (false, 0) → f.env.src < 100 → exec .commandFrame s = .next (s.after ((d.bump K.CMD_BAD).logSec 0xC002 0))) ∧
    (f.tail = some (false, 0) → 100 ≤ f.env.src → f.env.src < 120 → cmdRecords f.data ≠ [] →
      let x := (cmdRecords f.data).foldl (fun (x : Dev × List (List Nat)) w => ((x.1.cmdRecord w).1, x.2 ++ [(x.1.cmdRecord w).2])) (d, [])
      exec .commandFrame s = .next (s.after (x.1.motionSend (coreDest (f.env.src - 100)) x.2)))) ∧
  (∀ (s : State) (r : Src) (a : Fin 4096) (rec_ : List Byte), s.puts r (K.AX_CMD a) 1 = true → rec_.length = 24 →
    let d := s.putting r (K.AX_CMD a)
    let op := (wordsOf rec_).getD 0 0 / 65536
    let w := (wordsOf rec_).drop 1
    d.obb (K.AX_USE a) = true → d.recLost a = false → d.opInMode op = true → d.cmdRange a op w = false → d.cmdAccepts a op = true →
    let ends := if op = 6 ∧ (d.axis a).jogEnds.isSome then some (d.now + d.obn K.JOG_TIMEOUT * 1000000) else (d.axis a).jogEnds
    exec (.axCmd r a rec_) s = .next (s.placed r (K.AX_CMD a) (d.event.modAxis a fun x => { x with cmds := x.cmds ++ [⟨op, w, d.now⟩], jogEnds := ends }))) ∧
  (∀ (d : Dev) (a op : Nat) (w : List Nat),
    (d.obb (K.AX_USE a) = false → d.axCommand a op w = (d, Stat.noKey)) ∧
    (d.obb (K.AX_USE a) = true → d.recLost a = false →
      (d.opInMode op = false → d.axCommand a op w = (d, Stat.mode)) ∧
      (d.opInMode op = true → d.cmdRange a op w = true → d.axCommand a op w = (d, Stat.range)) ∧
      (d.opInMode op = true → d.cmdRange a op w = false → d.cmdAccepts a op = false → d.axCommand a op w = (d, Stat.busy)))) ∧
  (∀ (s : State) (a : Fin 4096) (e : Nat), (s.cmd.axis a).jogEnds = some e → (s.cmd.axis a).state = 2 →
    let d := s.cmd.upTo (e + 1)
    exec (.jogTimeout a) s = .next (s.after ((d.stopAxis a (d.groupNow a)).syncAxis a (d.recLost a)))) ∧
  (∀ (s : State) (r : Src) (a : Fin 4096) (v : Word), v.toNat ≤ 1 → s.opens r (K.AX_USE a) [v.toNat] 1 = true →
    let d := s.taken r 2 (K.AX_USE a) 0 [v.toNat]
    d.axParamStatus a 0 (v.toNat : Nat) true = Stat.done →
    let e := d.event.setOb (K.AX_USE a) (v.toNat : Nat)
    exec (.axUseWrite r a v) s = .next (s.wrote r (K.AX_USE a) [v.toNat] (e.buildAxis a (e.setPoint a (e.axis a) : Int)))) ∧
  (∀ (s : State) (r : Src) (m : Fin 16) (v : BitVec 48), s.opens r (K.M_VEL m) (hiLo v) 1 = true →
    let d := s.taken r 2 (K.M_VEL m) 0 (hiLo v)
    let x := mget d.motion.masters m {}
    let here := x.velPos + mkRat (d.ob (K.M_VEL m)) 65536 * mkRat (d.now - x.velAt : Nat) 1000000000
    exec (.mVelWrite r m v) s = .next (s.wrote r (K.M_VEL m) (hiLo v) ((d.event.setOb (K.M_VEL m) v.toInt).modMotion fun mo =>
      { mo with masters := mput mo.masters m { x with velAt := d.now, velPos := here } }))) ∧
  (∀ (s : State) (r : Src) (a : Fin 4096) (el : Fin 27) (v : BitVec 48) (x : Desc) (n : Int),
    let key := K.AX_USE a + el.val
    let w := axWords key v
    descOf key = some x → x.ty.decode w = some n → x.allows n = true → s.opens r key w 1 = true →
    let d := s.taken r 2 key 0 w
    (el.val ≠ 0 → el.val ≠ 4 → d.axParamStatus a el n true = Stat.done → d.recLost a = false →
      exec (.axisParamWrite r a el v) s = .next (s.wrote r key w ((d.event.setOb key n).writeRec a))) ∧
    (el.val = 4 → d.axParamStatus a el n true = Stat.done → d.recLost a = false →
      let e := d.event.setOb key n
      exec (.axisParamWrite r a el v) s = .next (s.wrote r key w ((e.modAxis a fun x => let pos := ratMod x.pos (e.modLen a); { x with pos := pos }).syncAxis a false))) ∧
    (d.axParamStatus a el n true ≠ Stat.done →
      exec (.axisParamWrite r a el v) s = .next (s.answers r 2 key 0 w d (ans (d.axParamStatus a el n true)))))

/-- Mailboxes. A message's body and header go into the receiver's memory, after the sender's earlier far writes, and its mailbox is full; the
receiver's read of the last word, or a one in the status word, takes it away; a post to an endpoint whose domain is off faults. From R276, R493 to
R498. Where the spec is silent the clauses rest on the model's choices of log entries 4 and 6. -/
def Obligations.MailboxCommands : Prop :=
  (∀ (s : State) (src dst : Fin 21) (m : Fin 8) (body : List Word) (hdr : Word), src.val < 20 → s.cmd.coreRuns src = true → s.cmd.epOn dst = true → body.length ≤ 15 →
    let d := ((body.zip (List.range' 1 body.length)).foldl (fun d x => d.mbBody dst m x.2 x.1.toNat) s.cmd).farFirst src (0x10100 + 128 * dst + 16 * m)
    d.epOn dst = true → exec (.mailboxPost src dst m body hdr) s = .next (s.after (d.post src dst m hdr.toNat))) ∧
  (∀ (s : State) (dst : Fin 21) (m : Fin 8) (hdr : Word), s.cmd.host.linkUp = true → s.cmd.epOn dst = true →
    exec (.mailboxPost 20 dst m [] hdr) s = .next (s.after
      ((s.cmd.modHost fun h => { h with target := dst.val * 256 + m.val }).post 20 dst m hdr.toNat))) ∧
  (∀ (s : State) (src dst : Fin 21) (m : Fin 8) (hdr : Word), src.val < 20 → s.cmd.coreRuns src = true →
    let d := s.cmd.farFirst src (0x10100 + 128 * dst + 16 * m)
    d.epOn dst = false → exec (.mailboxPost src dst m [] hdr) s = .next (s.after (d.accessFault src 2 Stat.asleep (0x10100 + 128 * dst + 16 * m)))) ∧
  (∀ (d : Dev) (src dst m hdr : Nat), dst < 20 → src ≤ 20 → m < 8 → (d.ep dst).full.contains m = false →
    let e := (d.st (mailAddr dst m 0) (src * 2 ^ 19 + bits hdr 18 15 * 2 ^ 15 + bits (d.obn (K.EP_EPOCH src)) 11 0)).event
    let e := e.modEp dst fun x => { x with full := insNat m x.full }
    d.post src dst m hdr = e.modEp src fun x => { x with send := mput x.send (8 * dst + m) ⟨false, false, bits (d.obn (K.EP_EPOCH dst)) 11 0⟩ }) ∧
  (∀ (s : State) (ep : Fin 21) (m : Fin 8), ep.val < 20 → s.cmd.coreRuns ep = true → (s.cmd.ep ep).full.contains m.val = true →
    let n := bits (s.cmd.ld (mailAddr ep m 0)) 18 15
    s.cmd.poisoned (mailAddr ep m n) = false →
    exec (.mailboxAck ep m) s = .next (s.after ((s.cmd.ackMail ep m).emit (.coreRead ep (s.cmd.ld (mailAddr ep m n)))))) ∧
  (∀ (s : State) (ep : Fin 21) (m : Fin 8) (v : Word), ep.val < 20 → s.cmd.coreRuns ep = true →
    exec (.mailboxRelease ep m v) s = .next (s.after (s.cmd.mbStatusWrite ep m v.toNat)) ∧
    exec (.collideClear ep m v) s = .next (s.after (s.cmd.mbStatusWrite ep m v.toNat))) ∧
  (∀ (s : State) (m : Fin 8) (v : Word), s.cmd.host.linkUp = true →
    exec (.mailboxRelease 20 m v) s = .next (s.after (s.cmd.mbStatusWrite 20 m v.toNat)) ∧
    exec (.collideClear 20 m v) s = .next (s.after (s.cmd.mbStatusWrite 20 m v.toNat))) ∧
  (∀ (d : Dev) (e m v : Nat),
    let c := if v.testBit 22 then d.modEp e fun x => { x with collide := x.collide.erase m } else d
    let c := c.hostLevels fun d => d.setOb (K.EP_MB_WAKE e m) (bits v 21 21 : Nat)
    d.mbStatusWrite e m v = if v.testBit 20 then c.ackMail e m else c)

/-- Doorbells, a core's interrupt unit, the gather controller, MSI-X and the log. A core's ring comes after its earlier far writes; a write of an
enable word sets all its bits at once, and the dictionary's write of a word that 31 does not own is BUSY; WINNER names the highest source that
qualifies. From R276, R500, R504 to R511, R514, R516, R547. Where the spec is silent the clauses rest on the model's choices of log entries 10 and
55. -/
def Obligations.InterruptCommands : Prop :=
  (∀ (s : State) (ep : Fin 21) (c : Fin 20) (v : Word),
    let rung (d : Dev) := (d.hostLevels fun d => d.event.setOb (K.EP_DOORBELL ep) ((d.bell ep ||| v.toNat) % 2 ^ 24 : Nat)).todo (.ring ep v.toNat)
    exec (.doorbellRing ⟨ep, none⟩ v) s = .next (s.after (rung s.cmd)) ∧
    (s.cmd.coreRuns c = true → exec (.doorbellRing ⟨ep, some c⟩ v) s = .next (s.after (rung (s.cmd.farFirst c (0x010C00 + ep)))))) ∧
  (∀ (s : State) (ep : Fin 21), ep.val < 20 → s.cmd.coreRuns ep = true →
    exec (.doorbellRead ep) s = .next (s.after ((s.cmd.event.setOb (K.EP_DOORBELL ep) 0).emit (.coreRead ep (s.cmd.bell ep))))) ∧
  (∀ s : State, s.cmd.host.linkUp = true →
    exec (.doorbellRead 20) s = .next (s.after ((s.cmd.event.setOb (K.EP_DOORBELL 20) 0).emit (.hostData [s.cmd.bell 20])))) ∧
  (∀ (s : State) (c : Fin 20) (w : Fin 3) (v : Word), s.cmd.coreRuns c = true →
    exec (.pendSet c w v) s = .next (s.after (s.cmd.modCore c fun x =>
      { x with pend := ((lanes64 w v.toNat).filter x.edgeSensed).foldl (fun p n => putBit p n true) x.pend })) ∧
    exec (.pendClr c w v) s = .next (s.after (s.cmd.modCore c fun x =>
      { x with pend := ((lanes64 w v.toNat).filter x.edgeSensed).foldl (fun p n => putBit p n false) x.pend })) ∧
    exec (.maskSet c w v) s = .next (s.after (s.cmd.modCore c fun x => { x with mask := (lanes64 w v.toNat).foldl (fun p n => putBit p n true) x.mask })) ∧
    exec (.maskClr c w v) s = .next (s.after (s.cmd.modCore c fun x => { x with mask := (lanes64 w v.toNat).foldl (fun p n => putBit p n false) x.mask }))) ∧
  (∀ (s : State) (c : Fin 20) (t : Nat), (s.cmd.core c).imodEnds = some t →
    exec (.imodExpiry c) s = .next (s.after ((s.cmd.upTo t).modCore c fun x => { x with imodEnds := none }))) ∧
  (∀ (s : State) (n : Fin 2048), gatherEdged n = false → exec (.gatherEdge n) s = .next (s.after s.cmd)) ∧
  (∀ (s : State) (n : Fin 2048), s.cmd.domOn 2 = true → gatherEdged n = true →
    let d := s.cmd.event.modGather fun g => { g with pend := putBit g.pend n true }
    (s.cmd.gather.en.testBit n = true → s.cmd.gather.pend.testBit n = false → exec (.gatherEdge n) s = .next (s.after (d.deliver n))) ∧
    (s.cmd.gather.en.testBit n = false ∨ s.cmd.gather.pend.testBit n = true → exec (.gatherEdge n) s = .next (s.after d))) ∧
  (∀ (s : State) (c : Fin 21) (w : Fin 86) (v : Word), c.val < 20 → s.cmd.coreRuns c = true → s.cmd.gcOwner w = c.val →
    exec (.gcEnWrite c w v) s = .next (s.after (s.cmd.gcEnWrite w v.toNat))) ∧
  (∀ (d : Dev) (w v n : Nat), w < 86 → n < 2048 →
    (d.gcEnWrite w v).gather.en.testBit n = if n / 24 = w then v.testBit (n % 24) else d.gather.en.testBit n) ∧
  (∀ (s : State) (r : Src) (n : Fin 2048) (key v : Word), key.toNat = K.GC_ENABLE n → v.toNat ≤ 1 → s.opens r (K.GC_ENABLE n) [v.toNat] 1 = true →
    let d := s.taken r 2 (K.GC_ENABLE n) 0 [v.toNat]
    (d.obn (K.GC_OWNER (n.val / 24)) ≠ 31 →
      exec (.registerWrite r key [v]) s = .next (s.answers r 2 (K.GC_ENABLE n) 0 [v.toNat] d (ans Stat.busy))) ∧
    (d.obn (K.GC_OWNER (n.val / 24)) = 31 → exec (.registerWrite r key [v]) s = .next (s.wrote r (K.GC_ENABLE n) [v.toNat]
      (d.event.gcEnWrite (n / 24) (putBit (setWord d.gather.en (n / 24)) (n % 24) (v.toNat != 0)))))) ∧
  (∀ (s : State) (w : Fin 86) (v : Word), s.cmd.domOn 2 = true →
    exec (.gcPendClr w v) s = .next (s.after (s.cmd.gcClear (gatherSet w v.toNat))) ∧
    exec (.gcPendSet w v) s = .next (s.after (s.cmd.each (gatherSet w v.toNat) fun d n => d.raise n))) ∧
  (∀ (s : State) (n : Fin 32), s.cmd.host.linkUp = true →
    let d := s.cmd.modHost fun h => { h with vmask := putBit h.vmask n false }
    (s.cmd.host.vpend.testBit n = false → exec (.msixUnmask n) s = .next (s.after d)) ∧
    (s.cmd.host.vpend.testBit n = true → exec (.msixUnmask n) s = .next (s.after
      ((d.modHost fun h => { h with vpend := putBit h.vpend n false }).emit (.msix n))))) ∧
  (∀ (s : State) (c : Fin 20) (v : Word), s.cmd.coreRuns c = true → 16 ≤ c.val ∨ 14 ≤ bits v.toNat 15 12 →
    exec (.logPost c v) s = .next (s.after (s.cmd.logE (bits v.toNat 15 0) (bits v.toNat 23 16)))) ∧
  (∀ (s : State) (e : LogEntry) (l : List LogEntry), s.cmd.domOn 2 = true → s.cmd.sump.consoleQueue = e :: l →
    exec .consoleLine s = .next (s.after ((s.cmd.modSump fun x => { x with consoleQueue := l, consoleLost := 0 }).emit (.uartLine (consoleText e s.cmd.sump.consoleLost))))) ∧
  (∀ (d : Dev) (c n : Nat) (held : Bool), d.winner c held = some n ↔
    n < 64 ∧ d.qualifies c held n = true ∧ ∀ k, n < k → k < 64 → d.qualifies c held k = false)

/-- Firmware, keeper roles, the device watchdog's kick, the Sump's objects and the test access port. An erase ends with a permit in hand; FW_STATE
is judged before the versions; a boundary scan shows the pins that the block drives. From R102, R529, R530, R533, R534, R539, R546. Where the spec
is silent the clauses rest on the model's choices of log entries 6, 27, 48, 51 and 55. -/
def Obligations.FirmwareCommands : Prop :=
  (∀ (s : State) (r : Src) (d' : Dev), s.opens r K.FW_PREPARE [1] 3 = true → let d := s.taken r 2 K.FW_PREPARE 0 [1]
    d.obn K.FW_STATE ≠ 1 → d.obn K.FW_STATE ≠ 3 → d.obn K.IMAGE_COPY ≠ 2 → d.fwPermit (d.waitLeft (some r)) 0 = (d', some 0) →
    exec (.fwPrepare r 1) s = .next (s.wrote r K.FW_PREPARE [1] d'.eraseStart)) ∧
  (∀ s : State, s.cmd.obn K.FW_STATE = 1 → let d := s.cmd.releaseAll .firmware
    ((s.cmd.tap.permits.any fun p => p.holder == .firmware) = true →
      exec .fwEraseDone s = .next (s.after ((d.event.setOb K.FW_STATE 2).setOb K.COPY_FAIL (putBit (d.obn K.COPY_FAIL) d.otherCopy false : Nat)))) ∧
    ((s.cmd.eraseRenew.tap.permits.any fun p => p.holder == .firmware) = false → exec .fwEraseDone s = .next (s.after s.cmd.eraseRenew))) ∧
  (∀ d : Dev, (d.tap.permits.any fun p => p.holder == .firmware) = false → (d.tap.queue.any fun q => q.holder == .firmware) = false →
    d.obn K.FW_STATE = 1 → d.eraseRenew = (d.ask .firmware 400 2000000 3 1000 4).1) ∧
  (∀ (s : State) (r : Src), s.opens r K.FW_ACTIVATE [1] 3 = true → let d := s.taken r 2 K.FW_ACTIVATE 0 [1]
    let answer (st : Nat) := s.answers r 2 K.FW_ACTIVATE 0 [1] d (ans st)
    (d.obn K.FW_STATE ≠ 4 → exec (.fwActivateLive r) s = .next (answer Stat.busy)) ∧
    (d.obn K.FW_STATE = 4 → d.obn (K.FW_VERSION_AB d.otherCopy) / 65536 ≠ d.obn K.FW_VERSION / 65536 → exec (.fwActivateLive r) s = .next (answer Stat.range))) ∧
  (∀ (s : State) (r : Src) (d' : Dev), s.opens r K.FW_ACTIVATE [2] 3 = true → let d := s.taken r 2 K.FW_ACTIVATE 0 [2]
    d.obn K.FW_STATE = 4 → d.mm.act = none → d.fwPermit (d.waitLeft (some r)) 2 = (d', some 0) →
    let x := (d'.raiseGen d'.otherCopy).event.tookEffect.fresh 3
    exec (.fwActivateRestart r) s = .next (s.wrote r K.FW_ACTIVATE [2] (x.2.todo (.restart x.1)))) ∧
  (∀ (s : State) (r : Src), s.opens r K.FW_ACTIVATE [1] 3 = true → let d := s.taken r 2 K.FW_ACTIVATE 0 [1]
    d.obn (K.FW_VERSION_AB d.otherCopy) / 65536 = d.obn K.FW_VERSION / 65536 → d.obn K.FW_STATE = 4 → d.mm.act = none →
    ([16, 17, 18, 19].all d.coreRuns) = true →
    let e := (d.event.setOb K.FW_ACT_STATE 1).tookEffect
    exec (.fwActivateLive r) s = .next (s.wrote r K.FW_ACTIVATE [1]
      (e.actKeeper ⟨19, e.now, d.otherCopy, false, [], (List.range 9).map e.roleOf⟩ 19))) ∧
  (∀ (s : State) (a : FwAct), s.cmd.mm.act = some a → a.keeper < 20 →
    let d := s.cmd.upTo (a.since + 1000000000)
    let d := d.each ((if a.swapped then [a.keeper] else []) ++ a.finished) fun d k => d.keeperFlip k
    exec .activationTimeout s = .next (s.after
      ((((d.modMm fun x => { x with act := none }).rolesBack a.holders).setOb K.FW_ACT_STATE 3).logE 0x5044 0))) ∧
  (∀ (s : State) (r : Src) (role : Fin 9) (v : Word), s.opens r (K.ROLE_HOLDER role) [v.toNat] 3 = true → 16 ≤ v.toNat → v.toNat ≤ 19 →
    let d := s.taken r 2 (K.ROLE_HOLDER role) 0 [v.toNat]
    d.coreRuns v.toNat = true → d.mm.act = none →
    exec (.roleHolderWrite r role v) s = .next (s.wrote r (K.ROLE_HOLDER role) [v.toNat]
      (((d.event.setOb (K.ROLE_HOLDER role) (v.toNat : Nat)).roleTaken role).tookEffect))) ∧
  (∀ (s : State) (c : Fin 21) (v : Word), c.val < 20 → s.cmd.coreRuns c = true → c.val = s.cmd.roleOf 1 → s.cmd.mode ≠ 0 →
    exec (.wdogKick c v) s = .next (s.after { s.cmd with sump := { s.cmd.sump with kickAt := s.cmd.now } })) ∧
  (∀ (s : State) (r : Src), s.opens r K.SUMP_RESTART [0xA5] 1 = true →
    exec (.sumpRestart r 0xA5) s = .next (s.wrote r K.SUMP_RESTART [0xA5] ((s.taken r 2 K.SUMP_RESTART 0 [0xA5]).event.tookEffect.todo (.restart 4)))) ∧
  (∀ (s : State) (r : Src) (v : Word), v.toNat < 256 →
    (s.opens r K.ALERT_CLEAR [v.toNat] 1 = true →
      exec (.alertClear r v) s = .next (s.wrote r K.ALERT_CLEAR [v.toNat] ((s.taken r 2 K.ALERT_CLEAR 0 [v.toNat]).event.alertClear v.toNat))) ∧
    (s.opens r K.CLEAR_FAIL [v.toNat] 1 = true →
      exec (.clearFail r v) s = .next (s.wrote r K.CLEAR_FAIL [v.toNat] ((s.taken r 2 K.CLEAR_FAIL 0 [v.toNat]).event.clearFail v.toNat)))) ∧
  (∀ (s : State) (ir : BitVec 8), s.cmd.domOn 2 = true → exec (.jtagInstruction ir) s = .next (s.after
    (if ir = 0xFF then s.cmd.emit (.tapDrive 0xFF 0) else if ir = Config.idcodeIr then s.cmd.emit (.tapDrive ir.toNat 0x29616B47)
     else if s.cmd.obb K.JTAG_LOCK = true then s.cmd.emit (.tapDrive ir.toNat 0)
     else (s.cmd.fresh 256).2.emit (.tapDrive ir.toNat (if Config.boundaryIr ir = true then s.cmd.scanWord (s.cmd.fresh 256).1 else (s.cmd.fresh 256).1))))) ∧
  (∀ (d : Dev) (free i : Nat), i < d.scanPins.length → (d.scanWord free).testBit i = ((d.scanPins[i]?).join).getD (free.testBit i))

/-- The Sump on SMBus. With a right length, a right PEC (or none where none is needed) and a value in range a transaction does what its command says
and its status is kept; a wrong length is TYPE and a value out of range is RANGE. From R96, R537, R538. Where the spec is silent the clauses rest on
the model's choices of log entries 7, 29, 30 and 55. -/
def Obligations.SmbusCommands : Prop :=
  let served (s : State) (d : Dev) (st : Nat) : Host.Outcome State Fault Refusal :=
    .next (s.after ((d.modSmb fun m => { m with lastStatus := st }).modSmb fun m => { m with addr := s.dev.obn K.SUMP_ADDR }))
  let spoiled (s : State) (st : Nat) : Host.Outcome State Fault Refusal := served s (s.cmd.bump K.SMB_ERRORS) st
  let pecOk (s : State) (pec : Option Bool) : Prop := pec = some true ∨ (pec = none ∧ s.dev.obb K.SMB_PEC_REQ = false)
  (∀ (s : State) (pec : Option Bool), pecOk s pec →
    exec (.smbStatus pec) s = served s (s.cmd.emit (.smb
      ([s.cmd.mode, s.cmd.obn K.HOLD_CAUSE, s.cmd.alertCause, s.cmd.sump.smb.lastStatus, s.cmd.obn K.RESET_CAUSE, s.cmd.obn K.BOOTSEL].flatMap (beBytes 1)))) 0 ∧
    exec (.smbDictResp pec) s = served s (s.cmd.emit (.smb
      (if s.cmd.sump.smb.pending then [1] else if s.cmd.sump.smb.response.isEmpty then [0] else s.cmd.sump.smb.response))) 0 ∧
    exec (.smbT0 pec) s = served s (s.cmd.emit (.smb (beBytes 9 s.cmd.now))) 0) ∧
  (∀ (s : State) (pec : Option Bool) (b : Byte), pecOk s pec →
    exec (.smbAlertClear [b] pec) s = served s (s.cmd.event.alertClear b.toNat) 0 ∧
    exec (.smbClearFail [b] pec) s = served s (s.cmd.event.clearFail b.toNat) 0 ∧
    exec (.smbLog [b] pec) s = (if b.toNat < 64 then served s (s.cmd.emit (.smb ((s.cmd.mirrorBytes.drop (12 * b.toNat)).take 12))) 0 else spoiled s Stat.range) ∧
    exec (.smbHold [b] pec) s = (if b.toNat ≤ 1 then served s (s.cmd.sumpHold (b == 1)) 0 else spoiled s Stat.range) ∧
    exec (.smbRestart [b] pec) s = (if b.toNat = 0xA5 then served s (s.cmd.warmRestart 3) 0 else spoiled s Stat.range) ∧
    exec (.smbDomainOff [b] pec) s = (if 1 ≤ b.toNat ∧ b.toNat ≤ 43 then served s (s.cmd.domainOff b.toNat) 0 else spoiled s Stat.range) ∧
    exec (.smbWake [b] pec) s = (if b.toNat ≠ 1 then spoiled s Stat.range else if s.cmd.mode = 0 then served s s.cmd.wake 0 else served s s.cmd Stat.mode)) ∧
  (∀ (s : State) (pec : Option Bool) (e b2 b1 b0 : Byte), pecOk s pec →
    exec (.smbRing [e, b2, b1, b0] pec) s = (if e.toNat ≤ 20 then served s (s.cmd.ring e.toNat (b2.toNat * 65536 + b1.toNat * 256 + b0.toNat)) 0
      else spoiled s Stat.range)) ∧
  (∀ (s : State) (pec : Option Bool) (data : List Byte), pecOk s pec → 9 ≤ data.length → data.length ≤ 192 → data.length = 9 + 3 * (data.getD 2 0).toNat →
    exec (.smbDictReq data pec) s =
      if s.cmd.sump.smb.pending then served s s.cmd Stat.busy
      else served s ((s.cmd.modSmb fun m => { m with pending := true, response := [] }).requestWords .smbus (wordsOf data)) 0) ∧
  (∀ (s : State) (pec : Option Bool) (data : List Byte), data.length ≠ 1 →
    exec (.smbAlertClear data pec) s = spoiled s Stat.type ∧ exec (.smbClearFail data pec) s = spoiled s Stat.type ∧
    exec (.smbLog data pec) s = spoiled s Stat.type ∧ exec (.smbHold data pec) s = spoiled s Stat.type ∧ exec (.smbRestart data pec) s = spoiled s Stat.type ∧
    exec (.smbDomainOff data pec) s = spoiled s Stat.type ∧ exec (.smbWake data pec) s = spoiled s Stat.type) ∧
  (∀ s : State, (s.cmd.alertCause ≠ 0 ∨ s.cmd.sump.testMode = true → exec .smbAlertResponse s = .next (s.after (s.cmd.emit (.smb (beBytes 1 s.cmd.sump.smb.addr))))) ∧
    (s.cmd.alertCause = 0 → s.cmd.sump.testMode = false → exec .smbAlertResponse s = .next (s.after s.cmd)))

/-- What the supply, the reference clock, the HOLD# pin, the boot's limits and the interconnect's limit do; a store that is not served leaves the
word as it was. From R13, R32, R33, R35, R47, R275, R525, R526, R534. Where the spec is silent the clauses rest on the model's choices of log
entries 1, 27, 47, 50 and 54. -/
def Obligations.SupplyEvents : Prop :=
  (∀ s : State, s.cmd.sump.startDue = true → s.cmd.sump.hostWindow = false → s.cmd.sump.bootCopy ≤ 1 →
    let d := s.cmd.upTo (s.cmd.sump.bootAt + s.cmd.obn K.BOOT_LIMIT * 1000000)
    let x := ((d.setOb K.COPY_FAIL (putBit (d.obn K.COPY_FAIL) d.sump.bootCopy true : Nat)).logE 0x5045 0).fresh 3
    exec .bootLimitExpiry s = .next (s.after (x.2.warmRestart x.1))) ∧
  (∀ s : State, s.cmd.sump.booting = true → s.cmd.sump.hostWindow = true → (s.cmd.bell 16).testBit 0 = true →
    let d := s.cmd.readBell 16
    let len := d.ld 0x048902
    let ofs := d.ld 0x048904
    let n := d.ld 0x048901 % 65536
    s.cmd.ld 0x048903 = 1 → len ≠ 0 → len ≤ 30208 → ofs = d.sump.hostWords → ofs + len ≤ 65582 →
    let e := (d.stAll (0x100000 + ofs) (d.ldAll 0x048A00 len)).modSump fun x => { x with hostWords := ofs + len }
    exec .hostBootChunk s = .next (s.after ((e.st 0x048901 (n + 1)).st 0x048903 0))) ∧
  (∀ s : State, s.cmd.sump.refAbsent = false →
    let d := s.cmd.modSump fun x => { x with refAbsent := true }
    exec .refclk25Absent s = .next (s.after (if s.cmd.mode = 0 then d else d.hardHold.logE 0xF010 0))) ∧
  (∀ s : State, s.cmd.sump.refAbsent = true →
    let d := (s.cmd.modSump fun x => { x with refAbsent := false, oscFrac := 0 }).logE 0xF011 0
    (d.sump.waitRef = true → exec .refclk25Present s = .next (s.after (d.bootStart 0 d.sump.bootWhy))) ∧
    (d.sump.waitRef = false → d.mode = 0 → exec .refclk25Present s = .next (s.after d)) ∧
    (d.sump.waitRef = false → d.mode ≠ 0 → exec .refclk25Present s = .next (s.after (d.warmRestart 5)))) ∧
  (∀ s : State, s.cmd.sump.holdLow = false →
    exec .holdPinLow s = .next (s.after (((s.cmd.modSump fun x => { x with holdLow := true }).hardHold).holdCause 1))) ∧
  (∀ s : State, s.cmd.sump.holdLow = true →
    let d := s.cmd.modSump fun x => { x with holdLow := false, hardHold := x.refAbsent && x.hardHold }
    exec .holdPinHigh s = .next (s.after ((d.setOb K.HOLD_CAUSE (putBit (d.obn K.HOLD_CAUSE) 0 false : Nat)).segsResume))) ∧
  (∀ (s : State) (c : Fin 21) (a : Word), c.val < 20 → s.cmd.coreRuns c = true →
    exec (.interconnectTimeout c a false) s = .next (s.after ((s.cmd.modCore c fun x =>
      { (if h : x.accReg < 16 then x.setReg ⟨x.accReg, h⟩ 0 else x) with accReg := 0 }).accessFault c 1 Stat.timeout a.toNat)) ∧
    (mget? s.dev.stores c.val = none → exec (.interconnectTimeout c a true) s = .next (s.after (s.cmd.accessFault c 2 Stat.timeout a.toNat))) ∧
    (∀ x : LastStore, mget? s.dev.stores c.val = some x → x.addr = a.toNat → s.cmd.ld a.toNat = x.new → x.bad = false →
      let d : Dev := s.cmd.st a.toNat x.old
      let e : Dev := { d with stores := mdel d.stores c.val }
      exec (.interconnectTimeout c a true) s = .next (s.after (e.accessFault c 2 Stat.timeout a.toNat)))) ∧
  (∀ (s : State) (a : Word), s.cmd.host.linkUp = true →
    exec (.interconnectTimeout 20 a false) s = .next (s.after (s.cmd.emit (.hostData [0xFF000007]))) ∧
    (mget? s.dev.stores 20 = none → exec (.interconnectTimeout 20 a true) s = .next (s.after s.cmd))) ∧
  (∀ s : State, s.cmd.mode ≠ 0 → exec .sumpWatchdogExpiry s = .next (s.after ((s.cmd.upTo (s.cmd.sump.kickAt + 2000000000)).warmRestart 2)))

/-- The queue is first in, first out (spec 03, R80). A step runs the command at its front on the block with the rest of the queue; with none
waiting, each core that is due runs the word at its pc, one tick passes and the RX FIFOs that feed parsers drain. From R303, R304. Where the spec is
silent the clauses rest on the model's choices of log entries 1, 9 and 46. -/
def Obligations.FrontCommandRuns : Prop :=
  (∀ (s : State) (c : Instr), step { s with pending := c :: s.pending } = exec c s) ∧
  (∀ (s : State) (c : Instr) (rest : List Instr), s.pending = c :: rest → step s = exec c { s with pending := rest }) ∧
  (∀ s : State, s.pending = [] → step s = .next s.idle) ∧
  (∀ s : State, (∀ c : Fin 20, s.dev.issues c = false) → s.idle = s.withDev s.dev.idle) ∧
  (∀ (s t : State) (c : Fin 20),
    let at_ (k : Nat) := bankAddr c (s.dev.activeOf c) (((s.dev.core c).pc.toNat + k) % 0x8000)
    let w : Word := word (s.dev.ld (at_ 0))
    let due := (s.dev.core c).cyc ≤ (s.dev.now - (s.dev.core c).resetAt) / 2
    (s.dev.issues c = false ∨ ¬ due → s.coreGoes c = s) ∧
    (s.dev.issues c = true → due → s.dev.poisoned (at_ 0) = true → exec (.illegalWord c false) s = .next t → s.coreGoes c = s.withDev t.dev) ∧
    (s.dev.issues c = true → due → s.dev.poisoned (at_ 0) = false → hasLiteral w = true → s.dev.poisoned (at_ 1) = true →
      exec (.illegalWord c true) s = .next t → s.coreGoes c = s.withDev t.dev) ∧
    (s.dev.issues c = true → due → s.dev.poisoned (at_ 0) = false → (hasLiteral w = true → s.dev.poisoned (at_ 1) = false) →
      uluenWord c w (word (s.dev.ld (at_ 1))) s = .next t → s.coreGoes c = s.withDev t.dev)) ∧
  (∀ d : Dev, (d.parserWork = [] → d.idle = d.tick) ∧ (d.parserWork ≠ [] → d.idle = ((d.tick.markNext).each d.parserWork fun d c => d.parserAll c).settle))

/-- The block after reset (R15, R16, R105, R517): no command waits, T0 is 0, the device is in Dormant with its supply's domains PD0 and PD1 alone
on, and its memory lists nothing. And what every step keeps, from any state: memory stays in its canonical form, PD0 stays on, and T0 does not
decrease but at a power on. Where the spec is silent the clauses rest on the model's choices of log entries 3 and 5. -/
def Obligations.ResetState : Prop :=
  State.reset.pending = [] ∧ State.reset.wellQueued = true ∧ State.reset.dev.now = 0 ∧ State.reset.dev.mode = 0 ∧ State.reset.dev.mem = [] ∧
  State.reset.dev.mem.wf = true ∧ State.reset.dev.quiet = true ∧ State.reset.dev.sump.resetLow = true ∧ (∀ n, State.reset.dev.domOn n = true ↔ n < 2) ∧
  (∀ s t : State, step s = .next t → s.dev.mem.wf = true → t.dev.mem.wf = true) ∧
  (∀ s t : State, step s = .next t → s.dev.domOn 0 = true → t.dev.domOn 0 = true) ∧
  (∀ s t : State, step s = .next t → s.pending.head? ≠ some .powerOn → s.pending.head? ≠ some (.brownOut 7) → s.dev.now ≤ t.dev.now)

/-- No well-formed command stops the block, whatever its state, and none touches the queue; the only stop is a list operand of a length that the
hardware does not give it. So a queue of well-formed commands stays one and runs to its end, one command a step. Where the spec is silent the clauses
rest on the model's choices of log entries 2 and 9. -/
def Obligations.EveryCommandCompletes : Prop :=
  (∀ (c : Instr) (s : State), c.wellFormed = true → ∃ t, exec c s = .next t ∧ t.pending = s.pending) ∧
  (∀ (c : Instr) (s : State), c.wellFormed = false → ∃ w, exec c s = .fault (.malformed w)) ∧
  (∀ s : State, s.wellQueued = true → ∃ t, step s = .next t ∧ t.wellQueued = true ∧ t.pending = s.pending.tail) ∧
  (∀ (n : Nat) (s : State), s.wellQueued = true → ∃ t, runSteps n s = .next t ∧ t.pending = s.pending.drop n)

/-- What follows from a command once its own effect leaves a block with no work, nothing waiting for another request and nothing that acts of itself:
nothing but the end of the command (log entry 9). `s.after d` is then the state with d. Where the spec is silent the clauses rest on the model's
choices of log entry 9. -/
def Obligations.QuietSettles : Prop :=
  (∀ d : Dev, d.quiet = true → d.settle = d.unmark) ∧
  (∀ (s : State) (d : Dev), d.quiet = true → d.dict.took = none → s.after d = s.withDev d)

/-- The words of a value. A value in its type's range goes into words and back, signed ones in two's complement; the reserved bits of a time's
nanoseconds are not read. From R3, R70. -/
def Obligations.ValueEncoding : Prop :=
  (∀ v : Int, 0 ≤ v →
    (v < 2 → Ty.bool.decode (Ty.bool.encode v) = some v) ∧ (v < 2 ^ 8 → Ty.u8.decode (Ty.u8.encode v) = some v) ∧
    (v < 2 ^ 16 → Ty.u16.decode (Ty.u16.encode v) = some v) ∧ (v < 2 ^ 24 → Ty.u24.decode (Ty.u24.encode v) = some v) ∧
    (v < 2 ^ 48 → Ty.u48.decode (Ty.u48.encode v) = some v) ∧ (v < 2 ^ 48 * 10 ^ 9 → Ty.t80.decode (Ty.t80.encode v) = some v)) ∧
  (∀ v : Int, (-(2 ^ 23) ≤ v → v < 2 ^ 23 → Ty.s24.decode (Ty.s24.encode v) = some v) ∧ (-(2 ^ 47) ≤ v → v < 2 ^ 47 → Ty.s48.decode (Ty.s48.encode v) = some v)) ∧
  (∀ w0 w1 w2 w3 : Word, Ty.s24.decode [w0.toNat] = some w0.toInt ∧ Ty.u48.decode [w0.toNat, w1.toNat] = some ((w0 ++ w1).toNat : Int) ∧
    Ty.s48.decode [w0.toNat, w1.toNat] = some (w0 ++ w1).toInt ∧
    (w2.toNat % 256 * 2 ^ 24 + w3.toNat < 10 ^ 9 → Ty.t80.decode [w0.toNat, w1.toNat, w2.toNat, w3.toNat] =
      some (((w0 ++ w1).toNat * 10 ^ 9 + (w2.toNat % 256 * 2 ^ 24 + w3.toNat) : Nat) : Int)) ∧
    (10 ^ 9 ≤ w2.toNat % 256 * 2 ^ 24 + w3.toNat → Ty.t80.decode [w0.toNat, w1.toNat, w2.toNat, w3.toNat] = none))
end

