-- ==== Sys2Proof/Laws/Keys.lean ====
section
/-! SUPPORT. The rows of the dictionary that the commands write: a key's row, its unit's number, its area and its element (spec 00, R5, and the object
tables). -/
namespace Sys2Proof.Machine

theorem bits_key (a o e : Nat) (ho : o < 4096) (he : e < 256) (ha : a < 16) :
    bits (a * 2 ^ 20 + o * 2 ^ 8 + e) 23 20 = a ∧ bits (a * 2 ^ 20 + o * 2 ^ 8 + e) 19 8 = o ∧ bits (a * 2 ^ 20 + o * 2 ^ 8 + e) 7 0 = e := by
  simp only [bits, Nat.shiftRight_eq_div_pow]
  refine ⟨?_, ?_, ?_⟩ <;> omega

theorem descOf_parts (a o e : Nat) (ho : o < 4096) (he : e < 256) (ha : a < 16) :
    descOf (a * 2 ^ 20 + o * 2 ^ 8 + e) = (objTable a).find? (fun r => r.holds o e) := by
  obtain ⟨h1, h2, h3⟩ := bits_key a o e ho he ha
  simp only [descOf, h1, h2, h3]

/-- A key's row, the unit that it names there, its area, object and element. -/
def isRow (key : Nat) (r : Desc) (i a o e : Nat) : Prop :=
  descOf key = some r ∧ r.index key = i ∧ bits key 23 20 = a ∧ bits key 19 8 = o ∧ bits key 7 0 = e

theorem isRow_of (key a o e : Nat) (r : Desc) (i : Nat) (hk : key = a * 2 ^ 20 + o * 2 ^ 8 + e) (ho : o < 4096) (he : e < 256) (ha : a < 16)
    (hf : (objTable a).find? (fun r => r.holds o e) = some r) (hi : (o - r.base) / r.stride * r.sub + (o - r.base) % r.stride = i) :
    isRow key r i a o e := by
  subst hk
  obtain ⟨h1, h2, h3⟩ := bits_key a o e ho he ha
  exact ⟨by rw [descOf_parts a o e ho he ha, hf], by rw [Desc.index, h2, hi], h1, h2, h3⟩

/-- The search for a row passes one that does not hold the object and element. -/
theorem find_skip (r : Desc) (l : List Desc) (o e : Nat) (x : Option Desc) (h : r.holds o e = false) (hl : l.find? (fun r => r.holds o e) = x) :
    (r :: l).find? (fun r => r.holds o e) = x := by
  rw [List.find?_cons, h]; exact hl

theorem find_here (r : Desc) (l : List Desc) (o e : Nat) (h : r.holds o e = true) : (r :: l).find? (fun r => r.holds o e) = some r := by
  rw [List.find?_cons, h]

/-- Does a row have the element? -/
def Desc.covers (r : Desc) (e : Nat) : Bool := decide (r.el ≤ e) && decide (e < r.el + r.els)

/-- The search for a row needs only the rows that have the element. -/
theorem find_covers (l : List Desc) (o e : Nat) : l.find? (fun r => r.holds o e) = (l.filter (fun r => r.covers e)).find? (fun r => r.holds o e) := by
  induction l with
  | nil => rfl
  | cons r l ih =>
    cases hc : r.covers e with
    | true => simp [List.filter, hc, List.find?_cons, ih]
    | false =>
      have : r.holds o e = false := by
        rcases Bool.and_eq_false_iff.mp hc with h | h <;> simp only [Desc.holds, h, Bool.and_false, Bool.false_and]
      simp [List.filter, hc, this, ih]

theorem key_ALERT_CLEAR : isRow (K.ALERT_CLEAR) ⟨0x0, 0x1, 1, 1, 0x7, 1, .u8, .w, 0, 0, 255, none, false, .alertClear⟩ 0 0xF 0x0 0x7 := by
  unfold isRow K.ALERT_CLEAR; decide

theorem key_AX_CMD (i : Nat) (h : i < 4096) : isRow (K.AX_CMD i) ⟨0x0, 0x1, 4096, 1, 0x27, 1, (.dom 24), .w, 0, 0, 0, none, false, .axCmd⟩ i 0xA (0x0 + 0x1 * i) 0x27 := by
  refine isRow_of _ _ _ _ _ _ (by unfold K.AX_CMD; omega) (by omega) (by omega) (by omega) ?_ (by simp; try omega)
  simp only [find_covers, objTable, tabA1, tabA2, List.filter, List.cons_append, List.nil_append, Desc.covers, Nat.reduceLeDiff, Nat.reduceLT, Nat.reduceAdd, decide_true, decide_false, Bool.and_true, Bool.and_false]
  repeat first
    | exact find_here _ _ _ _ (by simp only [Desc.holds, Bool.and_eq_true, decide_eq_true_eq]; omega)
    | refine find_skip _ _ _ _ _ (by simp only [Desc.holds, Bool.and_eq_false_iff, decide_eq_false_iff_not]; omega) ?_

theorem key_AX_CNT_CLEAR (i : Nat) (h : i < 4096) : isRow (K.AX_CNT_CLEAR i) ⟨0x0, 0x1, 4096, 1, 0x2A, 1, .u8, .w, 0, 1, 1, none, false, .axCntClear⟩ i 0xA (0x0 + 0x1 * i) 0x2A := by
  refine isRow_of _ _ _ _ _ _ (by unfold K.AX_CNT_CLEAR; omega) (by omega) (by omega) (by omega) ?_ (by simp; try omega)
  simp only [find_covers, objTable, tabA1, tabA2, List.filter, List.cons_append, List.nil_append, Desc.covers, Nat.reduceLeDiff, Nat.reduceLT, Nat.reduceAdd, decide_true, decide_false, Bool.and_true, Bool.and_false]
  repeat first
    | exact find_here _ _ _ _ (by simp only [Desc.holds, Bool.and_eq_true, decide_eq_true_eq]; omega)
    | refine find_skip _ _ _ _ _ (by simp only [Desc.holds, Bool.and_eq_false_iff, decide_eq_false_iff_not]; omega) ?_

theorem key_BUS_CNT_CLEAR (i : Nat) (h : i < 96) : isRow (K.BUS_CNT_CLEAR i) ⟨0xA, 0x10, 96, 1, 0xC, 1, .u8, .w, 0, 1, 1, none, false, .busCntClear⟩ i 0x3 (0xA + 0x10 * i) 0xC := by
  refine isRow_of _ _ _ _ _ _ (by unfold K.BUS_CNT_CLEAR; omega) (by omega) (by omega) (by omega) ?_ (by simp; try omega)
  simp only [find_covers, objTable, tab31, tab32, tab33, tab34, List.filter, List.cons_append, List.nil_append, Desc.covers, Nat.reduceLeDiff, Nat.reduceLT, Nat.reduceAdd, decide_true, decide_false, Bool.and_true, Bool.and_false]
  repeat first
    | exact find_here _ _ _ _ (by simp only [Desc.holds, Bool.and_eq_true, decide_eq_true_eq]; omega)
    | refine find_skip _ _ _ _ _ (by simp only [Desc.holds, Bool.and_eq_false_iff, decide_eq_false_iff_not]; omega) ?_

theorem key_BUS_LISTEN_ONLY (i : Nat) (h : i < 96) : isRow (K.BUS_LISTEN_ONLY i) ⟨0x8, 0x10, 96, 1, 0xB, 1, .bool, .rw, 0, 0, 1, none, true, .listenOnly⟩ i 0x3 (0x8 + 0x10 * i) 0xB := by
  refine isRow_of _ _ _ _ _ _ (by unfold K.BUS_LISTEN_ONLY; omega) (by omega) (by omega) (by omega) ?_ (by simp; try omega)
  simp only [find_covers, objTable, tab31, tab32, tab33, tab34, List.filter, List.cons_append, List.nil_append, Desc.covers, Nat.reduceLeDiff, Nat.reduceLT, Nat.reduceAdd, decide_true, decide_false, Bool.and_true, Bool.and_false]
  repeat first
    | exact find_here _ _ _ _ (by simp only [Desc.holds, Bool.and_eq_true, decide_eq_true_eq]; omega)
    | refine find_skip _ _ _ _ _ (by simp only [Desc.holds, Bool.and_eq_false_iff, decide_eq_false_iff_not]; omega) ?_

theorem key_BUS_RECOVER (i : Nat) (h : i < 96) : isRow (K.BUS_RECOVER i) ⟨0x9, 0x10, 96, 1, 0x5, 1, .u8, .w, 0, 1, 1, none, false, .busRecover⟩ i 0x3 (0x9 + 0x10 * i) 0x5 := by
  refine isRow_of _ _ _ _ _ _ (by unfold K.BUS_RECOVER; omega) (by omega) (by omega) (by omega) ?_ (by simp; try omega)
  simp only [find_covers, objTable, tab31, tab32, tab33, tab34, List.filter, List.cons_append, List.nil_append, Desc.covers, Nat.reduceLeDiff, Nat.reduceLT, Nat.reduceAdd, decide_true, decide_false, Bool.and_true, Bool.and_false]
  repeat first
    | exact find_here _ _ _ _ (by simp only [Desc.holds, Bool.and_eq_true, decide_eq_true_eq]; omega)
    | refine find_skip _ _ _ _ _ (by simp only [Desc.holds, Bool.and_eq_false_iff, decide_eq_false_iff_not]; omega) ?_

theorem key_CELLAR_CNT_CLEAR : isRow (K.CELLAR_CNT_CLEAR) ⟨0x401, 0x1, 1, 1, 0x6, 1, .u8, .w, 0, 1, 1, none, false, .cellarCntClear⟩ 0 0x8 0x401 0x6 := by
  unfold isRow K.CELLAR_CNT_CLEAR; decide

theorem key_CH_CMD (i : Nat) (h : i < 96) : isRow (K.CH_CMD i) ⟨0x30, 0x100, 12, 8, 0x3, 1, .u8, .w, 0, 1, 3, none, false, .chCmd⟩ i 0x4 (0x30 + 0x100 * (i / 8) + 0x1 * (i % 8)) 0x3 := by
  refine isRow_of _ _ _ _ _ _ (by unfold K.CH_CMD; omega) (by omega) (by omega) (by omega) ?_ (by simp; try omega)
  simp only [find_covers, objTable, tab41, tab42, List.filter, List.cons_append, List.nil_append, Desc.covers, Nat.reduceLeDiff, Nat.reduceLT, Nat.reduceAdd, decide_true, decide_false, Bool.and_true, Bool.and_false]
  repeat first
    | exact find_here _ _ _ _ (by simp only [Desc.holds, Bool.and_eq_true, decide_eq_true_eq]; omega)
    | refine find_skip _ _ _ _ _ (by simp only [Desc.holds, Bool.and_eq_false_iff, decide_eq_false_iff_not]; omega) ?_

theorem key_CH_FLAGS (i : Nat) (h : i < 96) : isRow (K.CH_FLAGS i) ⟨0x30, 0x100, 12, 8, 0x2, 1, .u8, .rw, 0, 0, 255, none, false, .chFlags⟩ i 0x4 (0x30 + 0x100 * (i / 8) + 0x1 * (i % 8)) 0x2 := by
  refine isRow_of _ _ _ _ _ _ (by unfold K.CH_FLAGS; omega) (by omega) (by omega) (by omega) ?_ (by simp; try omega)
  simp only [find_covers, objTable, tab41, tab42, List.filter, List.cons_append, List.nil_append, Desc.covers, Nat.reduceLeDiff, Nat.reduceLT, Nat.reduceAdd, decide_true, decide_false, Bool.and_true, Bool.and_false]
  repeat first
    | exact find_here _ _ _ _ (by simp only [Desc.holds, Bool.and_eq_true, decide_eq_true_eq]; omega)
    | refine find_skip _ _ _ _ _ (by simp only [Desc.holds, Bool.and_eq_false_iff, decide_eq_false_iff_not]; omega) ?_

theorem key_CH_RUN_CNT_CLEAR (i : Nat) (h : i < 96) : isRow (K.CH_RUN_CNT_CLEAR i) ⟨0x30, 0x100, 12, 8, 0xE, 1, .u8, .w, 0, 1, 1, none, false, .runCntClear⟩ i 0x4 (0x30 + 0x100 * (i / 8) + 0x1 * (i % 8)) 0xE := by
  refine isRow_of _ _ _ _ _ _ (by unfold K.CH_RUN_CNT_CLEAR; omega) (by omega) (by omega) (by omega) ?_ (by simp; try omega)
  simp only [find_covers, objTable, tab41, tab42, List.filter, List.cons_append, List.nil_append, Desc.covers, Nat.reduceLeDiff, Nat.reduceLT, Nat.reduceAdd, decide_true, decide_false, Bool.and_true, Bool.and_false]
  repeat first
    | exact find_here _ _ _ _ (by simp only [Desc.holds, Bool.and_eq_true, decide_eq_true_eq]; omega)
    | refine find_skip _ _ _ _ _ (by simp only [Desc.holds, Bool.and_eq_false_iff, decide_eq_false_iff_not]; omega) ?_

theorem key_CLEAR_FAIL : isRow (K.CLEAR_FAIL) ⟨0x2, 0x1, 1, 1, 0x1, 1, .u8, .w, 0, 0, 255, none, false, .clearFail⟩ 0 0xF 0x2 0x1 := by
  unfold isRow K.CLEAR_FAIL; decide

theorem key_CORE_CMD (i : Nat) (h : i < 20) : isRow (K.CORE_CMD i) ⟨0x0, 0x10, 20, 1, 0x1, 1, .u8, .w, 0, 1, 3, none, false, .coreCmd⟩ i 0x5 (0x0 + 0x10 * i) 0x1 := by
  refine isRow_of _ _ _ _ _ _ (by unfold K.CORE_CMD; omega) (by omega) (by omega) (by omega) ?_ (by simp; try omega)
  simp only [find_covers, objTable, tab51, List.filter, List.cons_append, List.nil_append, Desc.covers, Nat.reduceLeDiff, Nat.reduceLT, Nat.reduceAdd, decide_true, decide_false, Bool.and_true, Bool.and_false]
  repeat first
    | exact find_here _ _ _ _ (by simp only [Desc.holds, Bool.and_eq_true, decide_eq_true_eq]; omega)
    | refine find_skip _ _ _ _ _ (by simp only [Desc.holds, Bool.and_eq_false_iff, decide_eq_false_iff_not]; omega) ?_

theorem key_CTX_CMD (i : Nat) (h : i < 128) : isRow (K.CTX_CMD i) ⟨0x1, 0x10, 128, 1, 0x0, 1, .u8, .w, 0, 1, 5, none, false, .ctxCmd⟩ i 0x6 (0x1 + 0x10 * i) 0x0 := by
  refine isRow_of _ _ _ _ _ _ (by unfold K.CTX_CMD; omega) (by omega) (by omega) (by omega) ?_ (by simp; try omega)
  simp only [find_covers, objTable, tab61, tab62, List.filter, List.cons_append, List.nil_append, Desc.covers, Nat.reduceLeDiff, Nat.reduceLT, Nat.reduceAdd, decide_true, decide_false, Bool.and_true, Bool.and_false]
  repeat first
    | exact find_here _ _ _ _ (by simp only [Desc.holds, Bool.and_eq_true, decide_eq_true_eq]; omega)
    | refine find_skip _ _ _ _ _ (by simp only [Desc.holds, Bool.and_eq_false_iff, decide_eq_false_iff_not]; omega) ?_

theorem key_CTX_CNT_CLEAR (i : Nat) (h : i < 128) : isRow (K.CTX_CNT_CLEAR i) ⟨0x2, 0x10, 128, 1, 0x7, 1, .u8, .w, 0, 1, 1, none, false, .ctxCntClear⟩ i 0x6 (0x2 + 0x10 * i) 0x7 := by
  refine isRow_of _ _ _ _ _ _ (by unfold K.CTX_CNT_CLEAR; omega) (by omega) (by omega) (by omega) ?_ (by simp; try omega)
  simp only [find_covers, objTable, tab61, tab62, List.filter, List.cons_append, List.nil_append, Desc.covers, Nat.reduceLeDiff, Nat.reduceLT, Nat.reduceAdd, decide_true, decide_false, Bool.and_true, Bool.and_false]
  repeat first
    | exact find_here _ _ _ _ (by simp only [Desc.holds, Bool.and_eq_true, decide_eq_true_eq]; omega)
    | refine find_skip _ _ _ _ _ (by simp only [Desc.holds, Bool.and_eq_false_iff, decide_eq_false_iff_not]; omega) ?_

theorem key_CTX_MIGRATE (i : Nat) (h : i < 128) : isRow (K.CTX_MIGRATE i) ⟨0x1, 0x10, 128, 1, 0x1, 1, .u8, .w, 0, 0, 15, none, false, .ctxMigrate⟩ i 0x6 (0x1 + 0x10 * i) 0x1 := by
  refine isRow_of _ _ _ _ _ _ (by unfold K.CTX_MIGRATE; omega) (by omega) (by omega) (by omega) ?_ (by simp; try omega)
  simp only [find_covers, objTable, tab61, tab62, List.filter, List.cons_append, List.nil_append, Desc.covers, Nat.reduceLeDiff, Nat.reduceLT, Nat.reduceAdd, decide_true, decide_false, Bool.and_true, Bool.and_false]
  repeat first
    | exact find_here _ _ _ _ (by simp only [Desc.holds, Bool.and_eq_true, decide_eq_true_eq]; omega)
    | refine find_skip _ _ _ _ _ (by simp only [Desc.holds, Bool.and_eq_false_iff, decide_eq_false_iff_not]; omega) ?_

theorem key_CTX_PERS_SWAP (i : Nat) (h : i < 128) : isRow (K.CTX_PERS_SWAP i) ⟨0x1, 0x10, 128, 1, 0x2, 1, .u16, .w, 0, 0, 511, none, false, .ctxPersSwap⟩ i 0x6 (0x1 + 0x10 * i) 0x2 := by
  refine isRow_of _ _ _ _ _ _ (by unfold K.CTX_PERS_SWAP; omega) (by omega) (by omega) (by omega) ?_ (by simp; try omega)
  simp only [find_covers, objTable, tab61, tab62, List.filter, List.cons_append, List.nil_append, Desc.covers, Nat.reduceLeDiff, Nat.reduceLT, Nat.reduceAdd, decide_true, decide_false, Bool.and_true, Bool.and_false]
  repeat first
    | exact find_here _ _ _ _ (by simp only [Desc.holds, Bool.and_eq_true, decide_eq_true_eq]; omega)
    | refine find_skip _ _ _ _ _ (by simp only [Desc.holds, Bool.and_eq_false_iff, decide_eq_false_iff_not]; omega) ?_

theorem key_ECC_CLEAR (i : Nat) (h : i < 14) : isRow (K.ECC_CLEAR i) ⟨0x500, 0x1, 14, 1, 0x6, 1, .u8, .w, 0, 1, 1, none, false, .eccClear⟩ i 0x5 (0x500 + 0x1 * i) 0x6 := by
  refine isRow_of _ _ _ _ _ _ (by unfold K.ECC_CLEAR; omega) (by omega) (by omega) (by omega) ?_ (by simp; try omega)
  simp only [find_covers, objTable, tab51, List.filter, List.cons_append, List.nil_append, Desc.covers, Nat.reduceLeDiff, Nat.reduceLT, Nat.reduceAdd, decide_true, decide_false, Bool.and_true, Bool.and_false]
  repeat first
    | exact find_here _ _ _ _ (by simp only [Desc.holds, Bool.and_eq_true, decide_eq_true_eq]; omega)
    | refine find_skip _ _ _ _ _ (by simp only [Desc.holds, Bool.and_eq_false_iff, decide_eq_false_iff_not]; omega) ?_

theorem key_ENG_ARM_CMD (i : Nat) (h : i < 12) : isRow (K.ENG_ARM_CMD i) ⟨0x0, 0x100, 12, 1, 0x6, 1, .u8, .rw, 0, 1, 2, none, false, .armCmd⟩ i 0x4 (0x0 + 0x100 * i) 0x6 := by
  refine isRow_of _ _ _ _ _ _ (by unfold K.ENG_ARM_CMD; omega) (by omega) (by omega) (by omega) ?_ (by simp; try omega)
  simp only [find_covers, objTable, tab41, tab42, List.filter, List.cons_append, List.nil_append, Desc.covers, Nat.reduceLeDiff, Nat.reduceLT, Nat.reduceAdd, decide_true, decide_false, Bool.and_true, Bool.and_false]
  repeat first
    | exact find_here _ _ _ _ (by simp only [Desc.holds, Bool.and_eq_true, decide_eq_true_eq]; omega)
    | refine find_skip _ _ _ _ _ (by simp only [Desc.holds, Bool.and_eq_false_iff, decide_eq_false_iff_not]; omega) ?_

theorem key_ENG_BITSYNC (i : Nat) (h : i < 12) : isRow (K.ENG_BITSYNC i) ⟨0x0, 0x100, 12, 1, 0x1, 1, .u8, .w, 0, 0, 255, none, false, .engBitsync⟩ i 0x4 (0x0 + 0x100 * i) 0x1 := by
  refine isRow_of _ _ _ _ _ _ (by unfold K.ENG_BITSYNC; omega) (by omega) (by omega) (by omega) ?_ (by simp; try omega)
  simp only [find_covers, objTable, tab41, tab42, List.filter, List.cons_append, List.nil_append, Desc.covers, Nat.reduceLeDiff, Nat.reduceLT, Nat.reduceAdd, decide_true, decide_false, Bool.and_true, Bool.and_false]
  repeat first
    | exact find_here _ _ _ _ (by simp only [Desc.holds, Bool.and_eq_true, decide_eq_true_eq]; omega)
    | refine find_skip _ _ _ _ _ (by simp only [Desc.holds, Bool.and_eq_false_iff, decide_eq_false_iff_not]; omega) ?_

theorem key_ENG_START (i : Nat) (h : i < 12) : isRow (K.ENG_START i) ⟨0x0, 0x100, 12, 1, 0x0, 1, .u8, .w, 0, 0, 255, none, false, .engStart⟩ i 0x4 (0x0 + 0x100 * i) 0x0 := by
  refine isRow_of _ _ _ _ _ _ (by unfold K.ENG_START; omega) (by omega) (by omega) (by omega) ?_ (by simp; try omega)
  simp only [find_covers, objTable, tab41, tab42, List.filter, List.cons_append, List.nil_append, Desc.covers, Nat.reduceLeDiff, Nat.reduceLT, Nat.reduceAdd, decide_true, decide_false, Bool.and_true, Bool.and_false]
  repeat first
    | exact find_here _ _ _ _ (by simp only [Desc.holds, Bool.and_eq_true, decide_eq_true_eq]; omega)
    | refine find_skip _ _ _ _ _ (by simp only [Desc.holds, Bool.and_eq_false_iff, decide_eq_false_iff_not]; omega) ?_

theorem key_FREE_MIN : isRow (K.FREE_MIN) ⟨0xC20, 0x1, 1, 1, 0x2, 1, .u24, .rw, 131072, 0, 16777215, none, false, .freeMin⟩ 0 0x7 0xC20 0x2 := by
  unfold isRow K.FREE_MIN; decide

theorem key_FW_ACTIVATE : isRow (K.FW_ACTIVATE) ⟨0x210, 0x1, 1, 1, 0x3, 1, .u8, .w, 0, 1, 2, none, false, .fwActivate⟩ 0 0x5 0x210 0x3 := by
  unfold isRow K.FW_ACTIVATE; decide

theorem key_FW_PREPARE : isRow (K.FW_PREPARE) ⟨0x210, 0x1, 1, 1, 0x0, 1, .u8, .w, 0, 1, 1, none, false, .fwPrepare⟩ 0 0x5 0x210 0x0 := by
  unfold isRow K.FW_PREPARE; decide

theorem key_JTAG_LOCK : isRow (K.JTAG_LOCK) ⟨0x0, 0x1, 1, 1, 0x2, 1, .bool, .rwc, 0, 0, 1, none, false, .jtagLock⟩ 0 0xD 0x0 0x2 := by
  unfold isRow K.JTAG_LOCK; decide

theorem key_MAC_CNT_CLEAR (i : Nat) (h : i < 96) : isRow (K.MAC_CNT_CLEAR i) ⟨0x1, 0x10, 96, 1, 0xF, 1, .u8, .w, 0, 1, 1, none, false, .macCntClear⟩ i 0x3 (0x1 + 0x10 * i) 0xF := by
  refine isRow_of _ _ _ _ _ _ (by unfold K.MAC_CNT_CLEAR; omega) (by omega) (by omega) (by omega) ?_ (by simp; try omega)
  simp only [find_covers, objTable, tab31, tab32, tab33, tab34, List.filter, List.cons_append, List.nil_append, Desc.covers, Nat.reduceLeDiff, Nat.reduceLT, Nat.reduceAdd, decide_true, decide_false, Bool.and_true, Bool.and_false]
  repeat first
    | exact find_here _ _ _ _ (by simp only [Desc.holds, Bool.and_eq_true, decide_eq_true_eq]; omega)
    | refine find_skip _ _ _ _ _ (by simp only [Desc.holds, Bool.and_eq_false_iff, decide_eq_false_iff_not]; omega) ?_

theorem key_METER_CLEAR (i : Nat) (h : i < 2048) : isRow (K.METER_CLEAR i) ⟨0x0, 0x1, 2048, 1, 0x9, 1, .u8, .w, 0, 1, 1, none, false, .meterClear⟩ i 0x7 (0x0 + 0x1 * i) 0x9 := by
  refine isRow_of _ _ _ _ _ _ (by unfold K.METER_CLEAR; omega) (by omega) (by omega) (by omega) ?_ (by simp; try omega)
  simp only [find_covers, objTable, tab71, tab72, List.filter, List.cons_append, List.nil_append, Desc.covers, Nat.reduceLeDiff, Nat.reduceLT, Nat.reduceAdd, decide_true, decide_false, Bool.and_true, Bool.and_false]
  repeat first
    | exact find_here _ _ _ _ (by simp only [Desc.holds, Bool.and_eq_true, decide_eq_true_eq]; omega)
    | refine find_skip _ _ _ _ _ (by simp only [Desc.holds, Bool.and_eq_false_iff, decide_eq_false_iff_not]; omega) ?_

theorem key_MODE_REQUEST : isRow (K.MODE_REQUEST) ⟨0x0, 0x1, 1, 1, 0x1, 1, .u8, .rw, 0, 0, 255, none, false, .modeRequest⟩ 0 0x1 0x0 0x1 := by
  unfold isRow K.MODE_REQUEST; decide

theorem key_M_VEL (i : Nat) (h : i < 16) : isRow (K.M_VEL i) ⟨0x0, 0x1, 16, 1, 0x3, 1, .s48, .rw, 0, (-140737488355328), 140737488355327, none, true, .mVel⟩ i 0xC (0x0 + 0x1 * i) 0x3 := by
  refine isRow_of _ _ _ _ _ _ (by unfold K.M_VEL; omega) (by omega) (by omega) (by omega) ?_ (by simp; try omega)
  simp only [find_covers, objTable, tabC1, List.filter, List.cons_append, List.nil_append, Desc.covers, Nat.reduceLeDiff, Nat.reduceLT, Nat.reduceAdd, decide_true, decide_false, Bool.and_true, Bool.and_false]
  repeat first
    | exact find_here _ _ _ _ (by simp only [Desc.holds, Bool.and_eq_true, decide_eq_true_eq]; omega)
    | refine find_skip _ _ _ _ _ (by simp only [Desc.holds, Bool.and_eq_false_iff, decide_eq_false_iff_not]; omega) ?_

theorem key_PERS_DELETE (i : Nat) (h : i < 256) : isRow (K.PERS_DELETE i) ⟨0x800, 0x1, 256, 1, 0x5, 1, .u8, .w, 0, 1, 1, none, false, .persDelete⟩ i 0x6 (0x800 + 0x1 * i) 0x5 := by
  refine isRow_of _ _ _ _ _ _ (by unfold K.PERS_DELETE; omega) (by omega) (by omega) (by omega) ?_ (by simp; try omega)
  simp only [find_covers, objTable, tab61, tab62, List.filter, List.cons_append, List.nil_append, Desc.covers, Nat.reduceLeDiff, Nat.reduceLT, Nat.reduceAdd, decide_true, decide_false, Bool.and_true, Bool.and_false]
  repeat first
    | exact find_here _ _ _ _ (by simp only [Desc.holds, Bool.and_eq_true, decide_eq_true_eq]; omega)
    | refine find_skip _ _ _ _ _ (by simp only [Desc.holds, Bool.and_eq_false_iff, decide_eq_false_iff_not]; omega) ?_

theorem key_PORT_ADMIN (i : Nat) (h : i < 96) : isRow (K.PORT_ADMIN i) ⟨0x0, 0x20, 96, 1, 0x1, 1, .u8, .rw, 1, 0, 2, none, true, .portAdmin⟩ i 0x2 (0x0 + 0x20 * i) 0x1 := by
  refine isRow_of _ _ _ _ _ _ (by unfold K.PORT_ADMIN; omega) (by omega) (by omega) (by omega) ?_ (by simp; try omega)
  simp only [find_covers, objTable, tab21, tab22, tab23, List.filter, List.cons_append, List.nil_append, Desc.covers, Nat.reduceLeDiff, Nat.reduceLT, Nat.reduceAdd, decide_true, decide_false, Bool.and_true, Bool.and_false]
  repeat first
    | exact find_here _ _ _ _ (by simp only [Desc.holds, Bool.and_eq_true, decide_eq_true_eq]; omega)
    | refine find_skip _ _ _ _ _ (by simp only [Desc.holds, Bool.and_eq_false_iff, decide_eq_false_iff_not]; omega) ?_

theorem key_PORT_CNT_CLEAR (i : Nat) (h : i < 96) : isRow (K.PORT_CNT_CLEAR i) ⟨0x2, 0x20, 96, 1, 0x5, 1, .u8, .w, 0, 1, 1, none, false, .portCntClear⟩ i 0x2 (0x2 + 0x20 * i) 0x5 := by
  refine isRow_of _ _ _ _ _ _ (by unfold K.PORT_CNT_CLEAR; omega) (by omega) (by omega) (by omega) ?_ (by simp; try omega)
  simp only [find_covers, objTable, tab21, tab22, tab23, List.filter, List.cons_append, List.nil_append, Desc.covers, Nat.reduceLeDiff, Nat.reduceLT, Nat.reduceAdd, decide_true, decide_false, Bool.and_true, Bool.and_false]
  repeat first
    | exact find_here _ _ _ _ (by simp only [Desc.holds, Bool.and_eq_true, decide_eq_true_eq]; omega)
    | refine find_skip _ _ _ _ _ (by simp only [Desc.holds, Bool.and_eq_false_iff, decide_eq_false_iff_not]; omega) ?_

theorem key_PORT_MODE (i : Nat) (h : i < 96) : isRow (K.PORT_MODE i) ⟨0x0, 0x20, 96, 1, 0x0, 1, .u8, .rw, 0, 0, 7, none, true, .portMode⟩ i 0x2 (0x0 + 0x20 * i) 0x0 := by
  refine isRow_of _ _ _ _ _ _ (by unfold K.PORT_MODE; omega) (by omega) (by omega) (by omega) ?_ (by simp; try omega)
  simp only [find_covers, objTable, tab21, tab22, tab23, List.filter, List.cons_append, List.nil_append, Desc.covers, Nat.reduceLeDiff, Nat.reduceLT, Nat.reduceAdd, decide_true, decide_false, Bool.and_true, Bool.and_false]
  repeat first
    | exact find_here _ _ _ _ (by simp only [Desc.holds, Bool.and_eq_true, decide_eq_true_eq]; omega)
    | refine find_skip _ _ _ _ _ (by simp only [Desc.holds, Bool.and_eq_false_iff, decide_eq_false_iff_not]; omega) ?_

theorem key_P_EDGE_CLEAR (i : Nat) (h : i < 96) : isRow (K.P_EDGE_CLEAR i) ⟨0x18, 0x20, 96, 1, 0x7, 1, .u8, .w, 0, 0, 31, none, false, .edgeClear⟩ i 0x2 (0x18 + 0x20 * i) 0x7 := by
  refine isRow_of _ _ _ _ _ _ (by unfold K.P_EDGE_CLEAR; omega) (by omega) (by omega) (by omega) ?_ (by simp; try omega)
  simp only [find_covers, objTable, tab21, tab22, tab23, List.filter, List.cons_append, List.nil_append, Desc.covers, Nat.reduceLeDiff, Nat.reduceLT, Nat.reduceAdd, decide_true, decide_false, Bool.and_true, Bool.and_false]
  repeat first
    | exact find_here _ _ _ _ (by simp only [Desc.holds, Bool.and_eq_true, decide_eq_true_eq]; omega)
    | refine find_skip _ _ _ _ _ (by simp only [Desc.holds, Bool.and_eq_false_iff, decide_eq_false_iff_not]; omega) ?_

theorem key_P_ENC_PRESET (i : Nat) (h : i < 96) : isRow (K.P_ENC_PRESET i) ⟨0x19, 0x20, 96, 1, 0x2, 1, .s48, .w, 0, (-140737488355328), 140737488355327, none, false, .encPreset⟩ i 0x2 (0x19 + 0x20 * i) 0x2 := by
  refine isRow_of _ _ _ _ _ _ (by unfold K.P_ENC_PRESET; omega) (by omega) (by omega) (by omega) ?_ (by simp; try omega)
  simp only [find_covers, objTable, tab21, tab22, tab23, List.filter, List.cons_append, List.nil_append, Desc.covers, Nat.reduceLeDiff, Nat.reduceLT, Nat.reduceAdd, decide_true, decide_false, Bool.and_true, Bool.and_false]
  repeat first
    | exact find_here _ _ _ _ (by simp only [Desc.holds, Bool.and_eq_true, decide_eq_true_eq]; omega)
    | refine find_skip _ _ _ _ _ (by simp only [Desc.holds, Bool.and_eq_false_iff, decide_eq_false_iff_not]; omega) ?_

theorem key_P_RECAL (i : Nat) (h : i < 96) : isRow (K.P_RECAL i) ⟨0x1, 0x20, 96, 1, 0x4, 1, .u8, .w, 0, 1, 1, none, false, .recal⟩ i 0x2 (0x1 + 0x20 * i) 0x4 := by
  refine isRow_of _ _ _ _ _ _ (by unfold K.P_RECAL; omega) (by omega) (by omega) (by omega) ?_ (by simp; try omega)
  simp only [find_covers, objTable, tab21, tab22, tab23, List.filter, List.cons_append, List.nil_append, Desc.covers, Nat.reduceLeDiff, Nat.reduceLT, Nat.reduceAdd, decide_true, decide_false, Bool.and_true, Bool.and_false]
  repeat first
    | exact find_here _ _ _ _ (by simp only [Desc.holds, Bool.and_eq_true, decide_eq_true_eq]; omega)
    | refine find_skip _ _ _ _ _ (by simp only [Desc.holds, Bool.and_eq_false_iff, decide_eq_false_iff_not]; omega) ?_

theorem key_P_ROLE_MOVE (i : Nat) (h : i < 96) : isRow (K.P_ROLE_MOVE i) ⟨0x3, 0x20, 96, 1, 0x1, 1, .u16, .w, 0, 0, 65535, none, false, .roleMove⟩ i 0x2 (0x3 + 0x20 * i) 0x1 := by
  refine isRow_of _ _ _ _ _ _ (by unfold K.P_ROLE_MOVE; omega) (by omega) (by omega) (by omega) ?_ (by simp; try omega)
  simp only [find_covers, objTable, tab21, tab22, tab23, List.filter, List.cons_append, List.nil_append, Desc.covers, Nat.reduceLeDiff, Nat.reduceLT, Nat.reduceAdd, decide_true, decide_false, Bool.and_true, Bool.and_false]
  repeat first
    | exact find_here _ _ _ _ (by simp only [Desc.holds, Bool.and_eq_true, decide_eq_true_eq]; omega)
    | refine find_skip _ _ _ _ _ (by simp only [Desc.holds, Bool.and_eq_false_iff, decide_eq_false_iff_not]; omega) ?_

theorem key_P_TDR_START (i : Nat) (h : i < 96) : isRow (K.P_TDR_START i) ⟨0x12, 0x20, 96, 1, 0x0, 1, .u8, .w, 0, 1, 1, none, false, .tdrStart⟩ i 0x2 (0x12 + 0x20 * i) 0x0 := by
  refine isRow_of _ _ _ _ _ _ (by unfold K.P_TDR_START; omega) (by omega) (by omega) (by omega) ?_ (by simp; try omega)
  simp only [find_covers, objTable, tab21, tab22, tab23, List.filter, List.cons_append, List.nil_append, Desc.covers, Nat.reduceLeDiff, Nat.reduceLT, Nat.reduceAdd, decide_true, decide_false, Bool.and_true, Bool.and_false]
  repeat first
    | exact find_here _ _ _ _ (by simp only [Desc.holds, Bool.and_eq_true, decide_eq_true_eq]; omega)
    | refine find_skip _ _ _ _ _ (by simp only [Desc.holds, Bool.and_eq_false_iff, decide_eq_false_iff_not]; omega) ?_

theorem key_Q_CNT_CLEAR (i : Nat) (h : i < 1056) : isRow (K.Q_CNT_CLEAR i) ⟨0x800, 0x1, 1056, 1, 0xC, 1, .u8, .w, 0, 1, 1, none, false, .qCntClear⟩ i 0x7 (0x800 + 0x1 * i) 0xC := by
  refine isRow_of _ _ _ _ _ _ (by unfold K.Q_CNT_CLEAR; omega) (by omega) (by omega) (by omega) ?_ (by simp; try omega)
  simp only [find_covers, objTable, tab71, tab72, List.filter, List.cons_append, List.nil_append, Desc.covers, Nat.reduceLeDiff, Nat.reduceLT, Nat.reduceAdd, decide_true, decide_false, Bool.and_true, Bool.and_false]
  repeat first
    | exact find_here _ _ _ _ (by simp only [Desc.holds, Bool.and_eq_true, decide_eq_true_eq]; omega)
    | refine find_skip _ _ _ _ _ (by simp only [Desc.holds, Bool.and_eq_false_iff, decide_eq_false_iff_not]; omega) ?_

theorem key_Q_PEAK (i : Nat) (h : i < 1056) : isRow (K.Q_PEAK i) ⟨0x800, 0x1, 1056, 1, 0x4, 1, .u24, .rw, 0, 0, 16777215, none, false, .qPeak⟩ i 0x7 (0x800 + 0x1 * i) 0x4 := by
  refine isRow_of _ _ _ _ _ _ (by unfold K.Q_PEAK; omega) (by omega) (by omega) (by omega) ?_ (by simp; try omega)
  simp only [find_covers, objTable, tab71, tab72, List.filter, List.cons_append, List.nil_append, Desc.covers, Nat.reduceLeDiff, Nat.reduceLT, Nat.reduceAdd, decide_true, decide_false, Bool.and_true, Bool.and_false]
  repeat first
    | exact find_here _ _ _ _ (by simp only [Desc.holds, Bool.and_eq_true, decide_eq_true_eq]; omega)
    | refine find_skip _ _ _ _ _ (by simp only [Desc.holds, Bool.and_eq_false_iff, decide_eq_false_iff_not]; omega) ?_

theorem key_REG_CLEAR (i : Nat) (h : i < 1024) : isRow (K.REG_CLEAR i) ⟨0x0, 0x1, 1024, 1, 0x9, 1, .u8, .w, 0, 1, 1, none, false, .regClear⟩ i 0x8 (0x0 + 0x1 * i) 0x9 := by
  refine isRow_of _ _ _ _ _ _ (by unfold K.REG_CLEAR; omega) (by omega) (by omega) (by omega) ?_ (by simp; try omega)
  simp only [find_covers, objTable, tab81, tab82, List.filter, List.cons_append, List.nil_append, Desc.covers, Nat.reduceLeDiff, Nat.reduceLT, Nat.reduceAdd, decide_true, decide_false, Bool.and_true, Bool.and_false]
  repeat first
    | exact find_here _ _ _ _ (by simp only [Desc.holds, Bool.and_eq_true, decide_eq_true_eq]; omega)
    | refine find_skip _ _ _ _ _ (by simp only [Desc.holds, Bool.and_eq_false_iff, decide_eq_false_iff_not]; omega) ?_

theorem key_REG_CNT_CLEAR (i : Nat) (h : i < 1024) : isRow (K.REG_CNT_CLEAR i) ⟨0x0, 0x1, 1024, 1, 0xF, 1, .u8, .w, 0, 1, 1, none, false, .regCntClear⟩ i 0x8 (0x0 + 0x1 * i) 0xF := by
  refine isRow_of _ _ _ _ _ _ (by unfold K.REG_CNT_CLEAR; omega) (by omega) (by omega) (by omega) ?_ (by simp; try omega)
  simp only [find_covers, objTable, tab81, tab82, List.filter, List.cons_append, List.nil_append, Desc.covers, Nat.reduceLeDiff, Nat.reduceLT, Nat.reduceAdd, decide_true, decide_false, Bool.and_true, Bool.and_false]
  repeat first
    | exact find_here _ _ _ _ (by simp only [Desc.holds, Bool.and_eq_true, decide_eq_true_eq]; omega)
    | refine find_skip _ _ _ _ _ (by simp only [Desc.holds, Bool.and_eq_false_iff, decide_eq_false_iff_not]; omega) ?_

theorem key_REG_CONTEST_CLEAR (i : Nat) (h : i < 1024) : isRow (K.REG_CONTEST_CLEAR i) ⟨0x0, 0x1, 1024, 1, 0x8, 1, .u8, .w, 0, 1, 1, none, false, .contestClear⟩ i 0x8 (0x0 + 0x1 * i) 0x8 := by
  refine isRow_of _ _ _ _ _ _ (by unfold K.REG_CONTEST_CLEAR; omega) (by omega) (by omega) (by omega) ?_ (by simp; try omega)
  simp only [find_covers, objTable, tab81, tab82, List.filter, List.cons_append, List.nil_append, Desc.covers, Nat.reduceLeDiff, Nat.reduceLT, Nat.reduceAdd, decide_true, decide_false, Bool.and_true, Bool.and_false]
  repeat first
    | exact find_here _ _ _ _ (by simp only [Desc.holds, Bool.and_eq_true, decide_eq_true_eq]; omega)
    | refine find_skip _ _ _ _ _ (by simp only [Desc.holds, Bool.and_eq_false_iff, decide_eq_false_iff_not]; omega) ?_

theorem key_REVOKE_KEY : isRow (K.REVOKE_KEY) ⟨0x0, 0x1, 1, 1, 0x1, 1, .u8, .w, 0, 0, 3, none, false, .revokeKey⟩ 0 0xD 0x0 0x1 := by
  unfold isRow K.REVOKE_KEY; decide

theorem key_SEG_CMD (i : Nat) (h : i < 96) : isRow (K.SEG_CMD i) ⟨0x101, 0x10, 96, 1, 0x4, 1, .u8, .w, 0, 1, 2, none, false, .segCmd⟩ i 0x9 (0x101 + 0x10 * i) 0x4 := by
  refine isRow_of _ _ _ _ _ _ (by unfold K.SEG_CMD; omega) (by omega) (by omega) (by omega) ?_ (by simp; try omega)
  simp only [find_covers, objTable, tab91, tab92, tab93, List.filter, List.cons_append, List.nil_append, Desc.covers, Nat.reduceLeDiff, Nat.reduceLT, Nat.reduceAdd, decide_true, decide_false, Bool.and_true, Bool.and_false]
  repeat first
    | exact find_here _ _ _ _ (by simp only [Desc.holds, Bool.and_eq_true, decide_eq_true_eq]; omega)
    | refine find_skip _ _ _ _ _ (by simp only [Desc.holds, Bool.and_eq_false_iff, decide_eq_false_iff_not]; omega) ?_

theorem key_SEG_CNT_CLEAR (i : Nat) (h : i < 96) : isRow (K.SEG_CNT_CLEAR i) ⟨0x103, 0x10, 96, 1, 0xE, 1, .u8, .w, 0, 1, 1, none, false, .segCntClear⟩ i 0x9 (0x103 + 0x10 * i) 0xE := by
  refine isRow_of _ _ _ _ _ _ (by unfold K.SEG_CNT_CLEAR; omega) (by omega) (by omega) (by omega) ?_ (by simp; try omega)
  simp only [find_covers, objTable, tab91, tab92, tab93, List.filter, List.cons_append, List.nil_append, Desc.covers, Nat.reduceLeDiff, Nat.reduceLT, Nat.reduceAdd, decide_true, decide_false, Bool.and_true, Bool.and_false]
  repeat first
    | exact find_here _ _ _ _ (by simp only [Desc.holds, Bool.and_eq_true, decide_eq_true_eq]; omega)
    | refine find_skip _ _ _ _ _ (by simp only [Desc.holds, Bool.and_eq_false_iff, decide_eq_false_iff_not]; omega) ?_

theorem key_SEG_SLOT_MAP (i : Nat) (h : i < 96) : isRow (K.SEG_SLOT_MAP i) ⟨0x101, 0x10, 96, 1, 0x0, 1, (.dom 1530), .rw, 0, 0, 0, none, true, .slotMap⟩ i 0x9 (0x101 + 0x10 * i) 0x0 := by
  refine isRow_of _ _ _ _ _ _ (by unfold K.SEG_SLOT_MAP; omega) (by omega) (by omega) (by omega) ?_ (by simp; try omega)
  simp only [find_covers, objTable, tab91, tab92, tab93, List.filter, List.cons_append, List.nil_append, Desc.covers, Nat.reduceLeDiff, Nat.reduceLT, Nat.reduceAdd, decide_true, decide_false, Bool.and_true, Bool.and_false]
  repeat first
    | exact find_here _ _ _ _ (by simp only [Desc.holds, Bool.and_eq_true, decide_eq_true_eq]; omega)
    | refine find_skip _ _ _ _ _ (by simp only [Desc.holds, Bool.and_eq_false_iff, decide_eq_false_iff_not]; omega) ?_

theorem key_SUMP_RESTART : isRow (K.SUMP_RESTART) ⟨0x0, 0x1, 1, 1, 0x5, 1, .u8, .w, 0, 165, 165, none, false, .sumpRestart⟩ 0 0xF 0x0 0x5 := by
  unfold isRow K.SUMP_RESTART; decide

theorem key_TAP_BUDGET : isRow (K.TAP_BUDGET) ⟨0x10, 0x1, 1, 1, 0x0, 1, .u24, .rwh, 36000, 0, 16777215, none, true, .tapBudget⟩ 0 0x1 0x10 0x0 := by
  unfold isRow K.TAP_BUDGET; decide

theorem key_TAP_PEAK : isRow (K.TAP_PEAK) ⟨0x10, 0x1, 1, 1, 0x4, 1, .u24, .rw, 0, 0, 16777215, none, false, .tapPeak⟩ 0 0x1 0x10 0x4 := by
  unfold isRow K.TAP_PEAK; decide

theorem key_TB_CNT_CLEAR (i : Nat) (h : i < 8) : isRow (K.TB_CNT_CLEAR i) ⟨0x1, 0x10, 8, 1, 0x4, 1, .u8, .w, 0, 1, 1, none, false, .tbCntClear⟩ i 0x9 (0x1 + 0x10 * i) 0x4 := by
  refine isRow_of _ _ _ _ _ _ (by unfold K.TB_CNT_CLEAR; omega) (by omega) (by omega) (by omega) ?_ (by simp; try omega)
  simp only [find_covers, objTable, tab91, tab92, tab93, List.filter, List.cons_append, List.nil_append, Desc.covers, Nat.reduceLeDiff, Nat.reduceLT, Nat.reduceAdd, decide_true, decide_false, Bool.and_true, Bool.and_false]
  repeat first
    | exact find_here _ _ _ _ (by simp only [Desc.holds, Bool.and_eq_true, decide_eq_true_eq]; omega)
    | refine find_skip _ _ _ _ _ (by simp only [Desc.holds, Bool.and_eq_false_iff, decide_eq_false_iff_not]; omega) ?_

theorem key_TB_INCR (i : Nat) (h : i < 8) : isRow (K.TB_INCR i) ⟨0x0, 0x10, 8, 1, 0x1, 1, .u48, .rw, 4294967296, 0, 1099511627775, none, false, .tbIncr⟩ i 0x9 (0x0 + 0x10 * i) 0x1 := by
  refine isRow_of _ _ _ _ _ _ (by unfold K.TB_INCR; omega) (by omega) (by omega) (by omega) ?_ (by simp; try omega)
  simp only [find_covers, objTable, tab91, tab92, tab93, List.filter, List.cons_append, List.nil_append, Desc.covers, Nat.reduceLeDiff, Nat.reduceLT, Nat.reduceAdd, decide_true, decide_false, Bool.and_true, Bool.and_false]
  repeat first
    | exact find_here _ _ _ _ (by simp only [Desc.holds, Bool.and_eq_true, decide_eq_true_eq]; omega)
    | refine find_skip _ _ _ _ _ (by simp only [Desc.holds, Bool.and_eq_false_iff, decide_eq_false_iff_not]; omega) ?_

theorem key_TB_OFFSET (i : Nat) (h : i < 8) : isRow (K.TB_OFFSET i) ⟨0x0, 0x10, 8, 1, 0x2, 1, .s48, .w, 0, (-140737488355328), 140737488355327, none, false, .tbOffset⟩ i 0x9 (0x0 + 0x10 * i) 0x2 := by
  refine isRow_of _ _ _ _ _ _ (by unfold K.TB_OFFSET; omega) (by omega) (by omega) (by omega) ?_ (by simp; try omega)
  simp only [find_covers, objTable, tab91, tab92, tab93, List.filter, List.cons_append, List.nil_append, Desc.covers, Nat.reduceLeDiff, Nat.reduceLT, Nat.reduceAdd, decide_true, decide_false, Bool.and_true, Bool.and_false]
  repeat first
    | exact find_here _ _ _ _ (by simp only [Desc.holds, Bool.and_eq_true, decide_eq_true_eq]; omega)
    | refine find_skip _ _ _ _ _ (by simp only [Desc.holds, Bool.and_eq_false_iff, decide_eq_false_iff_not]; omega) ?_

theorem key_TB_RESERVE (i : Nat) (h : i < 8) : isRow (K.TB_RESERVE i) ⟨0x0, 0x10, 8, 1, 0x6, 1, .u8, .rwh, 255, 0, 7, some 255, true, .tbReserve⟩ i 0x9 (0x0 + 0x10 * i) 0x6 := by
  refine isRow_of _ _ _ _ _ _ (by unfold K.TB_RESERVE; omega) (by omega) (by omega) (by omega) ?_ (by simp; try omega)
  simp only [find_covers, objTable, tab91, tab92, tab93, List.filter, List.cons_append, List.nil_append, Desc.covers, Nat.reduceLeDiff, Nat.reduceLT, Nat.reduceAdd, decide_true, decide_false, Bool.and_true, Bool.and_false]
  repeat first
    | exact find_here _ _ _ _ (by simp only [Desc.holds, Bool.and_eq_true, decide_eq_true_eq]; omega)
    | refine find_skip _ _ _ _ _ (by simp only [Desc.holds, Bool.and_eq_false_iff, decide_eq_false_iff_not]; omega) ?_

theorem key_TB_SET (i : Nat) (h : i < 8) : isRow (K.TB_SET i) ⟨0x0, 0x10, 8, 1, 0x4, 1, .t80, .w, 0, 0, 1208925819614629174706175, none, false, .tbSet⟩ i 0x9 (0x0 + 0x10 * i) 0x4 := by
  refine isRow_of _ _ _ _ _ _ (by unfold K.TB_SET; omega) (by omega) (by omega) (by omega) ?_ (by simp; try omega)
  simp only [find_covers, objTable, tab91, tab92, tab93, List.filter, List.cons_append, List.nil_append, Desc.covers, Nat.reduceLeDiff, Nat.reduceLT, Nat.reduceAdd, decide_true, decide_false, Bool.and_true, Bool.and_false]
  repeat first
    | exact find_here _ _ _ _ (by simp only [Desc.holds, Bool.and_eq_true, decide_eq_true_eq]; omega)
    | refine find_skip _ _ _ _ _ (by simp only [Desc.holds, Bool.and_eq_false_iff, decide_eq_false_iff_not]; omega) ?_

theorem key_TB_SWITCH (i : Nat) (h : i < 8) : isRow (K.TB_SWITCH i) ⟨0x0, 0x10, 8, 1, 0xA, 1, .u8, .w, 0, 1, 2, none, false, .tbSwitch⟩ i 0x9 (0x0 + 0x10 * i) 0xA := by
  refine isRow_of _ _ _ _ _ _ (by unfold K.TB_SWITCH; omega) (by omega) (by omega) (by omega) ?_ (by simp; try omega)
  simp only [find_covers, objTable, tab91, tab92, tab93, List.filter, List.cons_append, List.nil_append, Desc.covers, Nat.reduceLeDiff, Nat.reduceLT, Nat.reduceAdd, decide_true, decide_false, Bool.and_true, Bool.and_false]
  repeat first
    | exact find_here _ _ _ _ (by simp only [Desc.holds, Bool.and_eq_true, decide_eq_true_eq]; omega)
    | refine find_skip _ _ _ _ _ (by simp only [Desc.holds, Bool.and_eq_false_iff, decide_eq_false_iff_not]; omega) ?_

theorem key_TB_SYNCED (i : Nat) (h : i < 8) : isRow (K.TB_SYNCED i) ⟨0x0, 0x10, 8, 1, 0x9, 1, .bool, .rw, 0, 0, 1, none, false, .tbSynced⟩ i 0x9 (0x0 + 0x10 * i) 0x9 := by
  refine isRow_of _ _ _ _ _ _ (by unfold K.TB_SYNCED; omega) (by omega) (by omega) (by omega) ?_ (by simp; try omega)
  simp only [find_covers, objTable, tab91, tab92, tab93, List.filter, List.cons_append, List.nil_append, Desc.covers, Nat.reduceLeDiff, Nat.reduceLT, Nat.reduceAdd, decide_true, decide_false, Bool.and_true, Bool.and_false]
  repeat first
    | exact find_here _ _ _ _ (by simp only [Desc.holds, Bool.and_eq_true, decide_eq_true_eq]; omega)
    | refine find_skip _ _ _ _ _ (by simp only [Desc.holds, Bool.and_eq_false_iff, decide_eq_false_iff_not]; omega) ?_

theorem key_TILE_CMD (i : Nat) (h : i < 4) : isRow (K.TILE_CMD i) ⟨0xC00, 0x10, 4, 1, 0x1, 1, .u8, .w, 0, 1, 2, none, false, .tileCmd⟩ i 0x2 (0xC00 + 0x10 * i) 0x1 := by
  refine isRow_of _ _ _ _ _ _ (by unfold K.TILE_CMD; omega) (by omega) (by omega) (by omega) ?_ (by simp; try omega)
  simp only [find_covers, objTable, tab21, tab22, tab23, List.filter, List.cons_append, List.nil_append, Desc.covers, Nat.reduceLeDiff, Nat.reduceLT, Nat.reduceAdd, decide_true, decide_false, Bool.and_true, Bool.and_false]
  repeat first
    | exact find_here _ _ _ _ (by simp only [Desc.holds, Bool.and_eq_true, decide_eq_true_eq]; omega)
    | refine find_skip _ _ _ _ _ (by simp only [Desc.holds, Bool.and_eq_false_iff, decide_eq_false_iff_not]; omega) ?_

theorem key_TILE_USE (i : Nat) (h : i < 4) : isRow (K.TILE_USE i) ⟨0xC00, 0x10, 4, 1, 0x3, 1, .bool, .rwc, 1, 0, 1, none, true, .tileUse⟩ i 0x2 (0xC00 + 0x10 * i) 0x3 := by
  refine isRow_of _ _ _ _ _ _ (by unfold K.TILE_USE; omega) (by omega) (by omega) (by omega) ?_ (by simp; try omega)
  simp only [find_covers, objTable, tab21, tab22, tab23, List.filter, List.cons_append, List.nil_append, Desc.covers, Nat.reduceLeDiff, Nat.reduceLT, Nat.reduceAdd, decide_true, decide_false, Bool.and_true, Bool.and_false]
  repeat first
    | exact find_here _ _ _ _ (by simp only [Desc.holds, Bool.and_eq_true, decide_eq_true_eq]; omega)
    | refine find_skip _ _ _ _ _ (by simp only [Desc.holds, Bool.and_eq_false_iff, decide_eq_false_iff_not]; omega) ?_

theorem key_TJ_MAX : isRow (K.TJ_MAX) ⟨0x30, 0x1, 1, 1, 0x1, 1, .s24, .rw, 0, (-8388608), 8388607, none, false, .tjMax⟩ 0 0x1 0x30 0x1 := by
  unfold isRow K.TJ_MAX; decide

theorem key_UPLINK_MODE (i : Nat) (h : i < 4) : isRow (K.UPLINK_MODE i) ⟨0xC00, 0x20, 4, 1, 0x0, 1, .u8, .rw, 0, 0, 4, none, true, .uplinkMode⟩ i 0x3 (0xC00 + 0x20 * i) 0x0 := by
  refine isRow_of _ _ _ _ _ _ (by unfold K.UPLINK_MODE; omega) (by omega) (by omega) (by omega) ?_ (by simp; try omega)
  simp only [find_covers, objTable, tab31, tab32, tab33, tab34, List.filter, List.cons_append, List.nil_append, Desc.covers, Nat.reduceLeDiff, Nat.reduceLT, Nat.reduceAdd, decide_true, decide_false, Bool.and_true, Bool.and_false]
  repeat first
    | exact find_here _ _ _ _ (by simp only [Desc.holds, Bool.and_eq_true, decide_eq_true_eq]; omega)
    | refine find_skip _ _ _ _ _ (by simp only [Desc.holds, Bool.and_eq_false_iff, decide_eq_false_iff_not]; omega) ?_

theorem key_UP_CNT_CLEAR (i : Nat) (h : i < 4) : isRow (K.UP_CNT_CLEAR i) ⟨0xC03, 0x20, 4, 1, 0x12, 1, .u8, .w, 0, 1, 1, none, false, .upCntClear⟩ i 0x3 (0xC03 + 0x20 * i) 0x12 := by
  refine isRow_of _ _ _ _ _ _ (by unfold K.UP_CNT_CLEAR; omega) (by omega) (by omega) (by omega) ?_ (by simp; try omega)
  simp only [find_covers, objTable, tab31, tab32, tab33, tab34, List.filter, List.cons_append, List.nil_append, Desc.covers, Nat.reduceLeDiff, Nat.reduceLT, Nat.reduceAdd, decide_true, decide_false, Bool.and_true, Bool.and_false]
  repeat first
    | exact find_here _ _ _ _ (by simp only [Desc.holds, Bool.and_eq_true, decide_eq_true_eq]; omega)
    | refine find_skip _ _ _ _ _ (by simp only [Desc.holds, Bool.and_eq_false_iff, decide_eq_false_iff_not]; omega) ?_

theorem key_UP_GCL_APPLY (i : Nat) (h : i < 4) : isRow (K.UP_GCL_APPLY i) ⟨0xC02, 0x20, 4, 1, 0x5, 1, .u8, .w, 0, 1, 1, none, false, .gclApply⟩ i 0x3 (0xC02 + 0x20 * i) 0x5 := by
  refine isRow_of _ _ _ _ _ _ (by unfold K.UP_GCL_APPLY; omega) (by omega) (by omega) (by omega) ?_ (by simp; try omega)
  simp only [find_covers, objTable, tab31, tab32, tab33, tab34, List.filter, List.cons_append, List.nil_append, Desc.covers, Nat.reduceLeDiff, Nat.reduceLT, Nat.reduceAdd, decide_true, decide_false, Bool.and_true, Bool.and_false]
  repeat first
    | exact find_here _ _ _ _ (by simp only [Desc.holds, Bool.and_eq_true, decide_eq_true_eq]; omega)
    | refine find_skip _ _ _ _ _ (by simp only [Desc.holds, Bool.and_eq_false_iff, decide_eq_false_iff_not]; omega) ?_

theorem key_WIN_PROG (i : Nat) (h : i < 48) : isRow (K.WIN_PROG i) ⟨0x10, 0x100, 12, 4, 0x0, 1, (.dom 512), .rw, 0, 0, 0, none, false, .winProg⟩ i 0x4 (0x10 + 0x100 * (i / 4) + 0x1 * (i % 4)) 0x0 := by
  refine isRow_of _ _ _ _ _ _ (by unfold K.WIN_PROG; omega) (by omega) (by omega) (by omega) ?_ (by simp; try omega)
  simp only [find_covers, objTable, tab41, tab42, List.filter, List.cons_append, List.nil_append, Desc.covers, Nat.reduceLeDiff, Nat.reduceLT, Nat.reduceAdd, decide_true, decide_false, Bool.and_true, Bool.and_false]
  repeat first
    | exact find_here _ _ _ _ (by simp only [Desc.holds, Bool.and_eq_true, decide_eq_true_eq]; omega)
    | refine find_skip _ _ _ _ _ (by simp only [Desc.holds, Bool.and_eq_false_iff, decide_eq_false_iff_not]; omega) ?_

theorem key_WIN_SWAP (i : Nat) (h : i < 48) : isRow (K.WIN_SWAP i) ⟨0x10, 0x100, 12, 4, 0x1, 1, .u8, .w, 0, 0, 3, none, false, .winSwap⟩ i 0x4 (0x10 + 0x100 * (i / 4) + 0x1 * (i % 4)) 0x1 := by
  refine isRow_of _ _ _ _ _ _ (by unfold K.WIN_SWAP; omega) (by omega) (by omega) (by omega) ?_ (by simp; try omega)
  simp only [find_covers, objTable, tab41, tab42, List.filter, List.cons_append, List.nil_append, Desc.covers, Nat.reduceLeDiff, Nat.reduceLT, Nat.reduceAdd, decide_true, decide_false, Bool.and_true, Bool.and_false]
  repeat first
    | exact find_here _ _ _ _ (by simp only [Desc.holds, Bool.and_eq_true, decide_eq_true_eq]; omega)
    | refine find_skip _ _ _ _ _ (by simp only [Desc.holds, Bool.and_eq_false_iff, decide_eq_false_iff_not]; omega) ?_

theorem key_AS_ENABLE : isRow (K.AS_ENABLE) ⟨0xC0, 0x1, 1, 1, 0x0, 1, .bool, .rwh, 0, 0, 1, none, true, .asAgent⟩ 0 0x9 0xC0 0x0 := by
  unfold isRow K.AS_ENABLE; decide

theorem key_AS_TB : isRow (K.AS_TB) ⟨0xC0, 0x1, 1, 1, 0x1, 1, .u8, .rwh, 1, 1, 7, none, true, .asAgent⟩ 0 0x9 0xC0 0x1 := by
  unfold isRow K.AS_TB; decide

theorem key_PPS_IN_DISC (i : Nat) (h : i < 4) : isRow (K.PPS_IN_DISC i) ⟨0x80, 0x1, 4, 1, 0x2, 1, .u8, .rwh, 255, 1, 7, some 255, true, .ppsInDisc⟩ i 0x9 (0x80 + 0x1 * i) 0x2 := by
  refine isRow_of _ _ _ _ _ _ (by unfold K.PPS_IN_DISC; omega) (by omega) (by omega) (by omega) ?_ (by simp; try omega)
  simp only [find_covers, objTable, tab91, tab92, tab93, List.filter, List.cons_append, List.nil_append, Desc.covers, Nat.reduceLeDiff, Nat.reduceLT, Nat.reduceAdd, decide_true, decide_false, Bool.and_true, Bool.and_false]
  repeat first
    | exact find_here _ _ _ _ (by simp only [Desc.holds, Bool.and_eq_true, decide_eq_true_eq]; omega)
    | refine find_skip _ _ _ _ _ (by simp only [Desc.holds, Bool.and_eq_false_iff, decide_eq_false_iff_not]; omega) ?_

theorem key_TB_DISC_CTX (i : Nat) (h : i < 8) : isRow (K.TB_DISC_CTX i) ⟨0x0, 0x10, 8, 1, 0xE, 1, .u8, .rwh, 255, 0, 127, some 255, true, .discCtx⟩ i 0x9 (0x0 + 0x10 * i) 0xE := by
  refine isRow_of _ _ _ _ _ _ (by unfold K.TB_DISC_CTX; omega) (by omega) (by omega) (by omega) ?_ (by simp; try omega)
  simp only [find_covers, objTable, tab91, tab92, tab93, List.filter, List.cons_append, List.nil_append, Desc.covers, Nat.reduceLeDiff, Nat.reduceLT, Nat.reduceAdd, decide_true, decide_false, Bool.and_true, Bool.and_false]
  repeat first
    | exact find_here _ _ _ _ (by simp only [Desc.holds, Bool.and_eq_true, decide_eq_true_eq]; omega)
    | refine find_skip _ _ _ _ _ (by simp only [Desc.holds, Bool.and_eq_false_iff, decide_eq_false_iff_not]; omega) ?_

theorem key_P_ETX_AN (i : Nat) (h : i < 96) : isRow (K.P_ETX_AN i) ⟨0x0, 0x20, 96, 1, 0x3, 1, .bool, .rw, 1, 0, 1, none, true, .portOption⟩ i 0x2 (0x0 + 0x20 * i) 0x3 := by
  refine isRow_of _ _ _ _ _ _ (by unfold K.P_ETX_AN; omega) (by omega) (by omega) (by omega) ?_ (by simp; try omega)
  simp only [find_covers, objTable, tab21, tab22, tab23, List.filter, List.cons_append, List.nil_append, Desc.covers, Nat.reduceLeDiff, Nat.reduceLT, Nat.reduceAdd, decide_true, decide_false, Bool.and_true, Bool.and_false]
  repeat first
    | exact find_here _ _ _ _ (by simp only [Desc.holds, Bool.and_eq_true, decide_eq_true_eq]; omega)
    | refine find_skip _ _ _ _ _ (by simp only [Desc.holds, Bool.and_eq_false_iff, decide_eq_false_iff_not]; omega) ?_

theorem key_P_ETX_AN_1 (i : Nat) (h : i < 96) : isRow (K.P_ETX_AN i + 1) ⟨0x0, 0x20, 96, 1, 0x4, 1, .u8, .rw, 2, 0, 2, none, true, .portOption⟩ i 0x2 (0x0 + 0x20 * i) 0x4 := by
  refine isRow_of _ _ _ _ _ _ (by unfold K.P_ETX_AN; omega) (by omega) (by omega) (by omega) ?_ (by simp; try omega)
  simp only [find_covers, objTable, tab21, tab22, tab23, List.filter, List.cons_append, List.nil_append, Desc.covers, Nat.reduceLeDiff, Nat.reduceLT, Nat.reduceAdd, decide_true, decide_false, Bool.and_true, Bool.and_false]
  repeat first
    | exact find_here _ _ _ _ (by simp only [Desc.holds, Bool.and_eq_true, decide_eq_true_eq]; omega)
    | refine find_skip _ _ _ _ _ (by simp only [Desc.holds, Bool.and_eq_false_iff, decide_eq_false_iff_not]; omega) ?_

theorem key_P_ETX_AN_2 (i : Nat) (h : i < 96) : isRow (K.P_ETX_AN i + 2) ⟨0x0, 0x20, 96, 1, 0x5, 1, .bool, .rw, 1, 0, 1, none, true, .portOption⟩ i 0x2 (0x0 + 0x20 * i) 0x5 := by
  refine isRow_of _ _ _ _ _ _ (by unfold K.P_ETX_AN; omega) (by omega) (by omega) (by omega) ?_ (by simp; try omega)
  simp only [find_covers, objTable, tab21, tab22, tab23, List.filter, List.cons_append, List.nil_append, Desc.covers, Nat.reduceLeDiff, Nat.reduceLT, Nat.reduceAdd, decide_true, decide_false, Bool.and_true, Bool.and_false]
  repeat first
    | exact find_here _ _ _ _ (by simp only [Desc.holds, Bool.and_eq_true, decide_eq_true_eq]; omega)
    | refine find_skip _ _ _ _ _ (by simp only [Desc.holds, Bool.and_eq_false_iff, decide_eq_false_iff_not]; omega) ?_

theorem key_P_ETX_AN_3 (i : Nat) (h : i < 96) : isRow (K.P_ETX_AN i + 3) ⟨0x0, 0x20, 96, 1, 0x6, 1, .u8, .rw, 0, 0, 3, none, true, .portOption⟩ i 0x2 (0x0 + 0x20 * i) 0x6 := by
  refine isRow_of _ _ _ _ _ _ (by unfold K.P_ETX_AN; omega) (by omega) (by omega) (by omega) ?_ (by simp; try omega)
  simp only [find_covers, objTable, tab21, tab22, tab23, List.filter, List.cons_append, List.nil_append, Desc.covers, Nat.reduceLeDiff, Nat.reduceLT, Nat.reduceAdd, decide_true, decide_false, Bool.and_true, Bool.and_false]
  repeat first
    | exact find_here _ _ _ _ (by simp only [Desc.holds, Bool.and_eq_true, decide_eq_true_eq]; omega)
    | refine find_skip _ _ _ _ _ (by simp only [Desc.holds, Bool.and_eq_false_iff, decide_eq_false_iff_not]; omega) ?_

theorem key_P_ETX_AN_4 (i : Nat) (h : i < 96) : isRow (K.P_ETX_AN i + 4) ⟨0x0, 0x20, 96, 1, 0x7, 1, .bool, .rw, 1, 0, 1, none, true, .portOption⟩ i 0x2 (0x0 + 0x20 * i) 0x7 := by
  refine isRow_of _ _ _ _ _ _ (by unfold K.P_ETX_AN; omega) (by omega) (by omega) (by omega) ?_ (by simp; try omega)
  simp only [find_covers, objTable, tab21, tab22, tab23, List.filter, List.cons_append, List.nil_append, Desc.covers, Nat.reduceLeDiff, Nat.reduceLT, Nat.reduceAdd, decide_true, decide_false, Bool.and_true, Bool.and_false]
  repeat first
    | exact find_here _ _ _ _ (by simp only [Desc.holds, Bool.and_eq_true, decide_eq_true_eq]; omega)
    | refine find_skip _ _ _ _ _ (by simp only [Desc.holds, Bool.and_eq_false_iff, decide_eq_false_iff_not]; omega) ?_

theorem key_P_ETX_AN_5 (i : Nat) (h : i < 96) : isRow (K.P_ETX_AN i + 5) ⟨0x0, 0x20, 96, 1, 0x8, 1, .u8, .rw, 0, 0, 3, none, true, .portOption⟩ i 0x2 (0x0 + 0x20 * i) 0x8 := by
  refine isRow_of _ _ _ _ _ _ (by unfold K.P_ETX_AN; omega) (by omega) (by omega) (by omega) ?_ (by simp; try omega)
  simp only [find_covers, objTable, tab21, tab22, tab23, List.filter, List.cons_append, List.nil_append, Desc.covers, Nat.reduceLeDiff, Nat.reduceLT, Nat.reduceAdd, decide_true, decide_false, Bool.and_true, Bool.and_false]
  repeat first
    | exact find_here _ _ _ _ (by simp only [Desc.holds, Bool.and_eq_true, decide_eq_true_eq]; omega)
    | refine find_skip _ _ _ _ _ (by simp only [Desc.holds, Bool.and_eq_false_iff, decide_eq_false_iff_not]; omega) ?_

theorem key_P_ETX_AN_6 (i : Nat) (h : i < 96) : isRow (K.P_ETX_AN i + 6) ⟨0x0, 0x20, 96, 1, 0x9, 1, .u8, .rw, 0, 0, 2, none, true, .portOption⟩ i 0x2 (0x0 + 0x20 * i) 0x9 := by
  refine isRow_of _ _ _ _ _ _ (by unfold K.P_ETX_AN; omega) (by omega) (by omega) (by omega) ?_ (by simp; try omega)
  simp only [find_covers, objTable, tab21, tab22, tab23, List.filter, List.cons_append, List.nil_append, Desc.covers, Nat.reduceLeDiff, Nat.reduceLT, Nat.reduceAdd, decide_true, decide_false, Bool.and_true, Bool.and_false]
  repeat first
    | exact find_here _ _ _ _ (by simp only [Desc.holds, Bool.and_eq_true, decide_eq_true_eq]; omega)
    | refine find_skip _ _ _ _ _ (by simp only [Desc.holds, Bool.and_eq_false_iff, decide_eq_false_iff_not]; omega) ?_

theorem key_P_ETX_AN_7 (i : Nat) (h : i < 96) : isRow (K.P_ETX_AN i + 7) ⟨0x0, 0x20, 96, 1, 0xA, 1, .u8, .rw, 0, 0, 2, none, true, .portOption⟩ i 0x2 (0x0 + 0x20 * i) 0xA := by
  refine isRow_of _ _ _ _ _ _ (by unfold K.P_ETX_AN; omega) (by omega) (by omega) (by omega) ?_ (by simp; try omega)
  simp only [find_covers, objTable, tab21, tab22, tab23, List.filter, List.cons_append, List.nil_append, Desc.covers, Nat.reduceLeDiff, Nat.reduceLT, Nat.reduceAdd, decide_true, decide_false, Bool.and_true, Bool.and_false]
  repeat first
    | exact find_here _ _ _ _ (by simp only [Desc.holds, Bool.and_eq_true, decide_eq_true_eq]; omega)
    | refine find_skip _ _ _ _ _ (by simp only [Desc.holds, Bool.and_eq_false_iff, decide_eq_false_iff_not]; omega) ?_

theorem key_P_ETX_AN_8 (i : Nat) (h : i < 96) : isRow (K.P_ETX_AN i + 8) ⟨0x0, 0x20, 96, 1, 0xB, 1, .u8, .rw, 3, 0, 255, none, true, .portOption⟩ i 0x2 (0x0 + 0x20 * i) 0xB := by
  refine isRow_of _ _ _ _ _ _ (by unfold K.P_ETX_AN; omega) (by omega) (by omega) (by omega) ?_ (by simp; try omega)
  simp only [find_covers, objTable, tab21, tab22, tab23, List.filter, List.cons_append, List.nil_append, Desc.covers, Nat.reduceLeDiff, Nat.reduceLT, Nat.reduceAdd, decide_true, decide_false, Bool.and_true, Bool.and_false]
  repeat first
    | exact find_here _ _ _ _ (by simp only [Desc.holds, Bool.and_eq_true, decide_eq_true_eq]; omega)
    | refine find_skip _ _ _ _ _ (by simp only [Desc.holds, Bool.and_eq_false_iff, decide_eq_false_iff_not]; omega) ?_

theorem key_BUS_FD_MODE (i : Nat) (h : i < 96) : isRow (K.BUS_FD_MODE i) ⟨0x8, 0x10, 96, 1, 0x0, 1, .u8, .rw, 1, 0, 1, none, true, .busTiming⟩ i 0x3 (0x8 + 0x10 * i) 0x0 := by
  refine isRow_of _ _ _ _ _ _ (by unfold K.BUS_FD_MODE; omega) (by omega) (by omega) (by omega) ?_ (by simp; try omega)
  simp only [find_covers, objTable, tab31, tab32, tab33, tab34, List.filter, List.cons_append, List.nil_append, Desc.covers, Nat.reduceLeDiff, Nat.reduceLT, Nat.reduceAdd, decide_true, decide_false, Bool.and_true, Bool.and_false]
  repeat first
    | exact find_here _ _ _ _ (by simp only [Desc.holds, Bool.and_eq_true, decide_eq_true_eq]; omega)
    | refine find_skip _ _ _ _ _ (by simp only [Desc.holds, Bool.and_eq_false_iff, decide_eq_false_iff_not]; omega) ?_

theorem key_BUS_FD_MODE_1 (i : Nat) (h : i < 96) : isRow (K.BUS_FD_MODE i + 1) ⟨0x8, 0x10, 96, 1, 0x1, 1, .u16, .rw, 4, 1, 256, none, true, .busTiming⟩ i 0x3 (0x8 + 0x10 * i) 0x1 := by
  refine isRow_of _ _ _ _ _ _ (by unfold K.BUS_FD_MODE; omega) (by omega) (by omega) (by omega) ?_ (by simp; try omega)
  simp only [find_covers, objTable, tab31, tab32, tab33, tab34, List.filter, List.cons_append, List.nil_append, Desc.covers, Nat.reduceLeDiff, Nat.reduceLT, Nat.reduceAdd, decide_true, decide_false, Bool.and_true, Bool.and_false]
  repeat first
    | exact find_here _ _ _ _ (by simp only [Desc.holds, Bool.and_eq_true, decide_eq_true_eq]; omega)
    | refine find_skip _ _ _ _ _ (by simp only [Desc.holds, Bool.and_eq_false_iff, decide_eq_false_iff_not]; omega) ?_

theorem key_BUS_FD_MODE_2 (i : Nat) (h : i < 96) : isRow (K.BUS_FD_MODE i + 2) ⟨0x8, 0x10, 96, 1, 0x2, 1, .u16, .rw, 23, 2, 256, none, true, .busTiming⟩ i 0x3 (0x8 + 0x10 * i) 0x2 := by
  refine isRow_of _ _ _ _ _ _ (by unfold K.BUS_FD_MODE; omega) (by omega) (by omega) (by omega) ?_ (by simp; try omega)
  simp only [find_covers, objTable, tab31, tab32, tab33, tab34, List.filter, List.cons_append, List.nil_append, Desc.covers, Nat.reduceLeDiff, Nat.reduceLT, Nat.reduceAdd, decide_true, decide_false, Bool.and_true, Bool.and_false]
  repeat first
    | exact find_here _ _ _ _ (by simp only [Desc.holds, Bool.and_eq_true, decide_eq_true_eq]; omega)
    | refine find_skip _ _ _ _ _ (by simp only [Desc.holds, Bool.and_eq_false_iff, decide_eq_false_iff_not]; omega) ?_

theorem key_BUS_FD_MODE_3 (i : Nat) (h : i < 96) : isRow (K.BUS_FD_MODE i + 3) ⟨0x8, 0x10, 96, 1, 0x3, 1, .u8, .rw, 6, 1, 128, none, true, .busTiming⟩ i 0x3 (0x8 + 0x10 * i) 0x3 := by
  refine isRow_of _ _ _ _ _ _ (by unfold K.BUS_FD_MODE; omega) (by omega) (by omega) (by omega) ?_ (by simp; try omega)
  simp only [find_covers, objTable, tab31, tab32, tab33, tab34, List.filter, List.cons_append, List.nil_append, Desc.covers, Nat.reduceLeDiff, Nat.reduceLT, Nat.reduceAdd, decide_true, decide_false, Bool.and_true, Bool.and_false]
  repeat first
    | exact find_here _ _ _ _ (by simp only [Desc.holds, Bool.and_eq_true, decide_eq_true_eq]; omega)
    | refine find_skip _ _ _ _ _ (by simp only [Desc.holds, Bool.and_eq_false_iff, decide_eq_false_iff_not]; omega) ?_

theorem key_BUS_FD_MODE_4 (i : Nat) (h : i < 96) : isRow (K.BUS_FD_MODE i + 4) ⟨0x8, 0x10, 96, 1, 0x4, 1, .u8, .rw, 6, 1, 128, none, true, .busTiming⟩ i 0x3 (0x8 + 0x10 * i) 0x4 := by
  refine isRow_of _ _ _ _ _ _ (by unfold K.BUS_FD_MODE; omega) (by omega) (by omega) (by omega) ?_ (by simp; try omega)
  simp only [find_covers, objTable, tab31, tab32, tab33, tab34, List.filter, List.cons_append, List.nil_append, Desc.covers, Nat.reduceLeDiff, Nat.reduceLT, Nat.reduceAdd, decide_true, decide_false, Bool.and_true, Bool.and_false]
  repeat first
    | exact find_here _ _ _ _ (by simp only [Desc.holds, Bool.and_eq_true, decide_eq_true_eq]; omega)
    | refine find_skip _ _ _ _ _ (by simp only [Desc.holds, Bool.and_eq_false_iff, decide_eq_false_iff_not]; omega) ?_

theorem key_BUS_FD_MODE_5 (i : Nat) (h : i < 96) : isRow (K.BUS_FD_MODE i + 5) ⟨0x8, 0x10, 96, 1, 0x5, 1, .u8, .rw, 1, 0, 32, none, true, .busTiming⟩ i 0x3 (0x8 + 0x10 * i) 0x5 := by
  refine isRow_of _ _ _ _ _ _ (by unfold K.BUS_FD_MODE; omega) (by omega) (by omega) (by omega) ?_ (by simp; try omega)
  simp only [find_covers, objTable, tab31, tab32, tab33, tab34, List.filter, List.cons_append, List.nil_append, Desc.covers, Nat.reduceLeDiff, Nat.reduceLT, Nat.reduceAdd, decide_true, decide_false, Bool.and_true, Bool.and_false]
  repeat first
    | exact find_here _ _ _ _ (by simp only [Desc.holds, Bool.and_eq_true, decide_eq_true_eq]; omega)
    | refine find_skip _ _ _ _ _ (by simp only [Desc.holds, Bool.and_eq_false_iff, decide_eq_false_iff_not]; omega) ?_

theorem key_BUS_FD_MODE_6 (i : Nat) (h : i < 96) : isRow (K.BUS_FD_MODE i + 6) ⟨0x8, 0x10, 96, 1, 0x6, 1, .u8, .rw, 22, 1, 32, none, true, .busTiming⟩ i 0x3 (0x8 + 0x10 * i) 0x6 := by
  refine isRow_of _ _ _ _ _ _ (by unfold K.BUS_FD_MODE; omega) (by omega) (by omega) (by omega) ?_ (by simp; try omega)
  simp only [find_covers, objTable, tab31, tab32, tab33, tab34, List.filter, List.cons_append, List.nil_append, Desc.covers, Nat.reduceLeDiff, Nat.reduceLT, Nat.reduceAdd, decide_true, decide_false, Bool.and_true, Bool.and_false]
  repeat first
    | exact find_here _ _ _ _ (by simp only [Desc.holds, Bool.and_eq_true, decide_eq_true_eq]; omega)
    | refine find_skip _ _ _ _ _ (by simp only [Desc.holds, Bool.and_eq_false_iff, decide_eq_false_iff_not]; omega) ?_

theorem key_BUS_FD_MODE_7 (i : Nat) (h : i < 96) : isRow (K.BUS_FD_MODE i + 7) ⟨0x8, 0x10, 96, 1, 0x7, 1, .u8, .rw, 7, 1, 16, none, true, .busTiming⟩ i 0x3 (0x8 + 0x10 * i) 0x7 := by
  refine isRow_of _ _ _ _ _ _ (by unfold K.BUS_FD_MODE; omega) (by omega) (by omega) (by omega) ?_ (by simp; try omega)
  simp only [find_covers, objTable, tab31, tab32, tab33, tab34, List.filter, List.cons_append, List.nil_append, Desc.covers, Nat.reduceLeDiff, Nat.reduceLT, Nat.reduceAdd, decide_true, decide_false, Bool.and_true, Bool.and_false]
  repeat first
    | exact find_here _ _ _ _ (by simp only [Desc.holds, Bool.and_eq_true, decide_eq_true_eq]; omega)
    | refine find_skip _ _ _ _ _ (by simp only [Desc.holds, Bool.and_eq_false_iff, decide_eq_false_iff_not]; omega) ?_

theorem key_BUS_FD_MODE_8 (i : Nat) (h : i < 96) : isRow (K.BUS_FD_MODE i + 8) ⟨0x8, 0x10, 96, 1, 0x8, 1, .u8, .rw, 7, 1, 16, none, true, .busTiming⟩ i 0x3 (0x8 + 0x10 * i) 0x8 := by
  refine isRow_of _ _ _ _ _ _ (by unfold K.BUS_FD_MODE; omega) (by omega) (by omega) (by omega) ?_ (by simp; try omega)
  simp only [find_covers, objTable, tab31, tab32, tab33, tab34, List.filter, List.cons_append, List.nil_append, Desc.covers, Nat.reduceLeDiff, Nat.reduceLT, Nat.reduceAdd, decide_true, decide_false, Bool.and_true, Bool.and_false]
  repeat first
    | exact find_here _ _ _ _ (by simp only [Desc.holds, Bool.and_eq_true, decide_eq_true_eq]; omega)
    | refine find_skip _ _ _ _ _ (by simp only [Desc.holds, Bool.and_eq_false_iff, decide_eq_false_iff_not]; omega) ?_

theorem key_BUS_FD_MODE_9 (i : Nat) (h : i < 96) : isRow (K.BUS_FD_MODE i + 9) ⟨0x8, 0x10, 96, 1, 0x9, 1, .u8, .rw, 1, 0, 1, none, true, .busTiming⟩ i 0x3 (0x8 + 0x10 * i) 0x9 := by
  refine isRow_of _ _ _ _ _ _ (by unfold K.BUS_FD_MODE; omega) (by omega) (by omega) (by omega) ?_ (by simp; try omega)
  simp only [find_covers, objTable, tab31, tab32, tab33, tab34, List.filter, List.cons_append, List.nil_append, Desc.covers, Nat.reduceLeDiff, Nat.reduceLT, Nat.reduceAdd, decide_true, decide_false, Bool.and_true, Bool.and_false]
  repeat first
    | exact find_here _ _ _ _ (by simp only [Desc.holds, Bool.and_eq_true, decide_eq_true_eq]; omega)
    | refine find_skip _ _ _ _ _ (by simp only [Desc.holds, Bool.and_eq_false_iff, decide_eq_false_iff_not]; omega) ?_

theorem key_BUS_FD_MODE_10 (i : Nat) (h : i < 96) : isRow (K.BUS_FD_MODE i + 10) ⟨0x8, 0x10, 96, 1, 0xA, 1, .u8, .rw, 0, 0, 127, none, true, .busTiming⟩ i 0x3 (0x8 + 0x10 * i) 0xA := by
  refine isRow_of _ _ _ _ _ _ (by unfold K.BUS_FD_MODE; omega) (by omega) (by omega) (by omega) ?_ (by simp; try omega)
  simp only [find_covers, objTable, tab31, tab32, tab33, tab34, List.filter, List.cons_append, List.nil_append, Desc.covers, Nat.reduceLeDiff, Nat.reduceLT, Nat.reduceAdd, decide_true, decide_false, Bool.and_true, Bool.and_false]
  repeat first
    | exact find_here _ _ _ _ (by simp only [Desc.holds, Bool.and_eq_true, decide_eq_true_eq]; omega)
    | refine find_skip _ _ _ _ _ (by simp only [Desc.holds, Bool.and_eq_false_iff, decide_eq_false_iff_not]; omega) ?_

theorem key_REG_BASE (i : Nat) (h : i < 1024) : isRow (K.REG_BASE i) ⟨0x0, 0x1, 1024, 1, 0x0, 1, .u24, .rwh, 0, 0, 16777215, none, true, .region⟩ i 0x8 (0x0 + 0x1 * i) 0x0 := by
  refine isRow_of _ _ _ _ _ _ (by unfold K.REG_BASE; omega) (by omega) (by omega) (by omega) ?_ (by simp; try omega)
  simp only [find_covers, objTable, tab81, tab82, List.filter, List.cons_append, List.nil_append, Desc.covers, Nat.reduceLeDiff, Nat.reduceLT, Nat.reduceAdd, decide_true, decide_false, Bool.and_true, Bool.and_false]
  repeat first
    | exact find_here _ _ _ _ (by simp only [Desc.holds, Bool.and_eq_true, decide_eq_true_eq]; omega)
    | refine find_skip _ _ _ _ _ (by simp only [Desc.holds, Bool.and_eq_false_iff, decide_eq_false_iff_not]; omega) ?_

theorem key_REG_BASE_1 (i : Nat) (h : i < 1024) : isRow (K.REG_BASE i + 1) ⟨0x0, 0x1, 1024, 1, 0x1, 1, .u24, .rwh, 0, 0, 16777215, none, true, .region⟩ i 0x8 (0x0 + 0x1 * i) 0x1 := by
  refine isRow_of _ _ _ _ _ _ (by unfold K.REG_BASE; omega) (by omega) (by omega) (by omega) ?_ (by simp; try omega)
  simp only [find_covers, objTable, tab81, tab82, List.filter, List.cons_append, List.nil_append, Desc.covers, Nat.reduceLeDiff, Nat.reduceLT, Nat.reduceAdd, decide_true, decide_false, Bool.and_true, Bool.and_false]
  repeat first
    | exact find_here _ _ _ _ (by simp only [Desc.holds, Bool.and_eq_true, decide_eq_true_eq]; omega)
    | refine find_skip _ _ _ _ _ (by simp only [Desc.holds, Bool.and_eq_false_iff, decide_eq_false_iff_not]; omega) ?_

theorem key_REG_BASE_2 (i : Nat) (h : i < 1024) : isRow (K.REG_BASE i + 2) ⟨0x0, 0x1, 1024, 1, 0x2, 1, .u8, .rwh, 255, 0, 255, none, true, .region⟩ i 0x8 (0x0 + 0x1 * i) 0x2 := by
  refine isRow_of _ _ _ _ _ _ (by unfold K.REG_BASE; omega) (by omega) (by omega) (by omega) ?_ (by simp; try omega)
  simp only [find_covers, objTable, tab81, tab82, List.filter, List.cons_append, List.nil_append, Desc.covers, Nat.reduceLeDiff, Nat.reduceLT, Nat.reduceAdd, decide_true, decide_false, Bool.and_true, Bool.and_false]
  repeat first
    | exact find_here _ _ _ _ (by simp only [Desc.holds, Bool.and_eq_true, decide_eq_true_eq]; omega)
    | refine find_skip _ _ _ _ _ (by simp only [Desc.holds, Bool.and_eq_false_iff, decide_eq_false_iff_not]; omega) ?_

theorem key_AX_USE (i : Nat) (h : i < 4096) : isRow (K.AX_USE i) ⟨0x0, 0x1, 4096, 1, 0x0, 1, .bool, .rw, 0, 0, 1, none, true, .axUse⟩ i 0xA (0x0 + 0x1 * i) 0x0 := by
  refine isRow_of _ _ _ _ _ _ (by unfold K.AX_USE; omega) (by omega) (by omega) (by omega) ?_ (by simp; try omega)
  simp only [find_covers, objTable, tabA1, tabA2, List.filter, List.cons_append, List.nil_append, Desc.covers, Nat.reduceLeDiff, Nat.reduceLT, Nat.reduceAdd, decide_true, decide_false, Bool.and_true, Bool.and_false]
  repeat first
    | exact find_here _ _ _ _ (by simp only [Desc.holds, Bool.and_eq_true, decide_eq_true_eq]; omega)
    | refine find_skip _ _ _ _ _ (by simp only [Desc.holds, Bool.and_eq_false_iff, decide_eq_false_iff_not]; omega) ?_

theorem key_AX_USE_1 (i : Nat) (h : i < 4096) : isRow (K.AX_USE i + 1) ⟨0x0, 0x1, 4096, 1, 0x1, 1, .u8, .rw, 0, 0, 3, none, true, .axParam⟩ i 0xA (0x0 + 0x1 * i) 0x1 := by
  refine isRow_of _ _ _ _ _ _ (by unfold K.AX_USE; omega) (by omega) (by omega) (by omega) ?_ (by simp; try omega)
  simp only [find_covers, objTable, tabA1, tabA2, List.filter, List.cons_append, List.nil_append, Desc.covers, Nat.reduceLeDiff, Nat.reduceLT, Nat.reduceAdd, decide_true, decide_false, Bool.and_true, Bool.and_false]
  repeat first
    | exact find_here _ _ _ _ (by simp only [Desc.holds, Bool.and_eq_true, decide_eq_true_eq]; omega)
    | refine find_skip _ _ _ _ _ (by simp only [Desc.holds, Bool.and_eq_false_iff, decide_eq_false_iff_not]; omega) ?_

theorem key_AX_USE_2 (i : Nat) (h : i < 4096) : isRow (K.AX_USE i + 2) ⟨0x0, 0x1, 4096, 1, 0x2, 1, .u24, .rw, 0, 0, 16777215, none, true, .axParam⟩ i 0xA (0x0 + 0x1 * i) 0x2 := by
  refine isRow_of _ _ _ _ _ _ (by unfold K.AX_USE; omega) (by omega) (by omega) (by omega) ?_ (by simp; try omega)
  simp only [find_covers, objTable, tabA1, tabA2, List.filter, List.cons_append, List.nil_append, Desc.covers, Nat.reduceLeDiff, Nat.reduceLT, Nat.reduceAdd, decide_true, decide_false, Bool.and_true, Bool.and_false]
  repeat first
    | exact find_here _ _ _ _ (by simp only [Desc.holds, Bool.and_eq_true, decide_eq_true_eq]; omega)
    | refine find_skip _ _ _ _ _ (by simp only [Desc.holds, Bool.and_eq_false_iff, decide_eq_false_iff_not]; omega) ?_

theorem key_AX_USE_3 (i : Nat) (h : i < 4096) : isRow (K.AX_USE i + 3) ⟨0x0, 0x1, 4096, 1, 0x3, 1, .u8, .rw, 255, 0, 15, some 255, true, .axParam⟩ i 0xA (0x0 + 0x1 * i) 0x3 := by
  refine isRow_of _ _ _ _ _ _ (by unfold K.AX_USE; omega) (by omega) (by omega) (by omega) ?_ (by simp; try omega)
  simp only [find_covers, objTable, tabA1, tabA2, List.filter, List.cons_append, List.nil_append, Desc.covers, Nat.reduceLeDiff, Nat.reduceLT, Nat.reduceAdd, decide_true, decide_false, Bool.and_true, Bool.and_false]
  repeat first
    | exact find_here _ _ _ _ (by simp only [Desc.holds, Bool.and_eq_true, decide_eq_true_eq]; omega)
    | refine find_skip _ _ _ _ _ (by simp only [Desc.holds, Bool.and_eq_false_iff, decide_eq_false_iff_not]; omega) ?_

theorem key_AX_USE_4 (i : Nat) (h : i < 4096) : isRow (K.AX_USE i + 4) ⟨0x0, 0x1, 4096, 1, 0x4, 1, .u48, .rw, 0, 0, 281474976710655, none, true, .axParam⟩ i 0xA (0x0 + 0x1 * i) 0x4 := by
  refine isRow_of _ _ _ _ _ _ (by unfold K.AX_USE; omega) (by omega) (by omega) (by omega) ?_ (by simp; try omega)
  simp only [find_covers, objTable, tabA1, tabA2, List.filter, List.cons_append, List.nil_append, Desc.covers, Nat.reduceLeDiff, Nat.reduceLT, Nat.reduceAdd, decide_true, decide_false, Bool.and_true, Bool.and_false]
  repeat first
    | exact find_here _ _ _ _ (by simp only [Desc.holds, Bool.and_eq_true, decide_eq_true_eq]; omega)
    | refine find_skip _ _ _ _ _ (by simp only [Desc.holds, Bool.and_eq_false_iff, decide_eq_false_iff_not]; omega) ?_

theorem key_AX_USE_5 (i : Nat) (h : i < 4096) : isRow (K.AX_USE i + 5) ⟨0x0, 0x1, 4096, 1, 0x5, 1, .u8, .rw, 0, 0, 2, none, true, .axParam⟩ i 0xA (0x0 + 0x1 * i) 0x5 := by
  refine isRow_of _ _ _ _ _ _ (by unfold K.AX_USE; omega) (by omega) (by omega) (by omega) ?_ (by simp; try omega)
  simp only [find_covers, objTable, tabA1, tabA2, List.filter, List.cons_append, List.nil_append, Desc.covers, Nat.reduceLeDiff, Nat.reduceLT, Nat.reduceAdd, decide_true, decide_false, Bool.and_true, Bool.and_false]
  repeat first
    | exact find_here _ _ _ _ (by simp only [Desc.holds, Bool.and_eq_true, decide_eq_true_eq]; omega)
    | refine find_skip _ _ _ _ _ (by simp only [Desc.holds, Bool.and_eq_false_iff, decide_eq_false_iff_not]; omega) ?_

theorem key_AX_USE_6 (i : Nat) (h : i < 4096) : isRow (K.AX_USE i + 6) ⟨0x0, 0x1, 4096, 1, 0x6, 1, .s48, .rw, 65536000000, (-140737488355328), 140737488355327, none, true, .axParam⟩ i 0xA (0x0 + 0x1 * i) 0x6 := by
  refine isRow_of _ _ _ _ _ _ (by unfold K.AX_USE; omega) (by omega) (by omega) (by omega) ?_ (by simp; try omega)
  simp only [find_covers, objTable, tabA1, tabA2, List.filter, List.cons_append, List.nil_append, Desc.covers, Nat.reduceLeDiff, Nat.reduceLT, Nat.reduceAdd, decide_true, decide_false, Bool.and_true, Bool.and_false]
  repeat first
    | exact find_here _ _ _ _ (by simp only [Desc.holds, Bool.and_eq_true, decide_eq_true_eq]; omega)
    | refine find_skip _ _ _ _ _ (by simp only [Desc.holds, Bool.and_eq_false_iff, decide_eq_false_iff_not]; omega) ?_

theorem key_AX_USE_7 (i : Nat) (h : i < 4096) : isRow (K.AX_USE i + 7) ⟨0x0, 0x1, 4096, 1, 0x7, 1, .s48, .rw, 2560000000, (-140737488355328), 140737488355327, none, true, .axParam⟩ i 0xA (0x0 + 0x1 * i) 0x7 := by
  refine isRow_of _ _ _ _ _ _ (by unfold K.AX_USE; omega) (by omega) (by omega) (by omega) ?_ (by simp; try omega)
  simp only [find_covers, objTable, tabA1, tabA2, List.filter, List.cons_append, List.nil_append, Desc.covers, Nat.reduceLeDiff, Nat.reduceLT, Nat.reduceAdd, decide_true, decide_false, Bool.and_true, Bool.and_false]
  repeat first
    | exact find_here _ _ _ _ (by simp only [Desc.holds, Bool.and_eq_true, decide_eq_true_eq]; omega)
    | refine find_skip _ _ _ _ _ (by simp only [Desc.holds, Bool.and_eq_false_iff, decide_eq_false_iff_not]; omega) ?_

theorem key_AX_USE_8 (i : Nat) (h : i < 4096) : isRow (K.AX_USE i + 8) ⟨0x0, 0x1, 4096, 1, 0x8, 1, .s48, .rw, 2560000000, (-140737488355328), 140737488355327, none, true, .axParam⟩ i 0xA (0x0 + 0x1 * i) 0x8 := by
  refine isRow_of _ _ _ _ _ _ (by unfold K.AX_USE; omega) (by omega) (by omega) (by omega) ?_ (by simp; try omega)
  simp only [find_covers, objTable, tabA1, tabA2, List.filter, List.cons_append, List.nil_append, Desc.covers, Nat.reduceLeDiff, Nat.reduceLT, Nat.reduceAdd, decide_true, decide_false, Bool.and_true, Bool.and_false]
  repeat first
    | exact find_here _ _ _ _ (by simp only [Desc.holds, Bool.and_eq_true, decide_eq_true_eq]; omega)
    | refine find_skip _ _ _ _ _ (by simp only [Desc.holds, Bool.and_eq_false_iff, decide_eq_false_iff_not]; omega) ?_

theorem key_AX_USE_9 (i : Nat) (h : i < 4096) : isRow (K.AX_USE i + 9) ⟨0x0, 0x1, 4096, 1, 0x9, 1, .u48, .rw, 0, 0, 281474976710655, none, true, .axParam⟩ i 0xA (0x0 + 0x1 * i) 0x9 := by
  refine isRow_of _ _ _ _ _ _ (by unfold K.AX_USE; omega) (by omega) (by omega) (by omega) ?_ (by simp; try omega)
  simp only [find_covers, objTable, tabA1, tabA2, List.filter, List.cons_append, List.nil_append, Desc.covers, Nat.reduceLeDiff, Nat.reduceLT, Nat.reduceAdd, decide_true, decide_false, Bool.and_true, Bool.and_false]
  repeat first
    | exact find_here _ _ _ _ (by simp only [Desc.holds, Bool.and_eq_true, decide_eq_true_eq]; omega)
    | refine find_skip _ _ _ _ _ (by simp only [Desc.holds, Bool.and_eq_false_iff, decide_eq_false_iff_not]; omega) ?_

theorem key_AX_USE_10 (i : Nat) (h : i < 4096) : isRow (K.AX_USE i + 10) ⟨0x0, 0x1, 4096, 1, 0xA, 1, .s48, .rw, 2560000000, (-140737488355328), 140737488355327, none, true, .axParam⟩ i 0xA (0x0 + 0x1 * i) 0xA := by
  refine isRow_of _ _ _ _ _ _ (by unfold K.AX_USE; omega) (by omega) (by omega) (by omega) ?_ (by simp; try omega)
  simp only [find_covers, objTable, tabA1, tabA2, List.filter, List.cons_append, List.nil_append, Desc.covers, Nat.reduceLeDiff, Nat.reduceLT, Nat.reduceAdd, decide_true, decide_false, Bool.and_true, Bool.and_false]
  repeat first
    | exact find_here _ _ _ _ (by simp only [Desc.holds, Bool.and_eq_true, decide_eq_true_eq]; omega)
    | refine find_skip _ _ _ _ _ (by simp only [Desc.holds, Bool.and_eq_false_iff, decide_eq_false_iff_not]; omega) ?_

theorem key_AX_USE_11 (i : Nat) (h : i < 4096) : isRow (K.AX_USE i + 11) ⟨0x0, 0x1, 4096, 1, 0xB, 1, .s48, .rw, 10240000000, (-140737488355328), 140737488355327, none, true, .axParam⟩ i 0xA (0x0 + 0x1 * i) 0xB := by
  refine isRow_of _ _ _ _ _ _ (by unfold K.AX_USE; omega) (by omega) (by omega) (by omega) ?_ (by simp; try omega)
  simp only [find_covers, objTable, tabA1, tabA2, List.filter, List.cons_append, List.nil_append, Desc.covers, Nat.reduceLeDiff, Nat.reduceLT, Nat.reduceAdd, decide_true, decide_false, Bool.and_true, Bool.and_false]
  repeat first
    | exact find_here _ _ _ _ (by simp only [Desc.holds, Bool.and_eq_true, decide_eq_true_eq]; omega)
    | refine find_skip _ _ _ _ _ (by simp only [Desc.holds, Bool.and_eq_false_iff, decide_eq_false_iff_not]; omega) ?_

theorem key_AX_USE_12 (i : Nat) (h : i < 4096) : isRow (K.AX_USE i + 12) ⟨0x0, 0x1, 4096, 1, 0xC, 1, .bool, .rw, 0, 0, 1, none, true, .axParam⟩ i 0xA (0x0 + 0x1 * i) 0xC := by
  refine isRow_of _ _ _ _ _ _ (by unfold K.AX_USE; omega) (by omega) (by omega) (by omega) ?_ (by simp; try omega)
  simp only [find_covers, objTable, tabA1, tabA2, List.filter, List.cons_append, List.nil_append, Desc.covers, Nat.reduceLeDiff, Nat.reduceLT, Nat.reduceAdd, decide_true, decide_false, Bool.and_true, Bool.and_false]
  repeat first
    | exact find_here _ _ _ _ (by simp only [Desc.holds, Bool.and_eq_true, decide_eq_true_eq]; omega)
    | refine find_skip _ _ _ _ _ (by simp only [Desc.holds, Bool.and_eq_false_iff, decide_eq_false_iff_not]; omega) ?_

theorem key_AX_USE_13 (i : Nat) (h : i < 4096) : isRow (K.AX_USE i + 13) ⟨0x0, 0x1, 4096, 1, 0xD, 1, .s48, .rw, 0, (-140737488355328), 140737488355327, none, true, .axParam⟩ i 0xA (0x0 + 0x1 * i) 0xD := by
  refine isRow_of _ _ _ _ _ _ (by unfold K.AX_USE; omega) (by omega) (by omega) (by omega) ?_ (by simp; try omega)
  simp only [find_covers, objTable, tabA1, tabA2, List.filter, List.cons_append, List.nil_append, Desc.covers, Nat.reduceLeDiff, Nat.reduceLT, Nat.reduceAdd, decide_true, decide_false, Bool.and_true, Bool.and_false]
  repeat first
    | exact find_here _ _ _ _ (by simp only [Desc.holds, Bool.and_eq_true, decide_eq_true_eq]; omega)
    | refine find_skip _ _ _ _ _ (by simp only [Desc.holds, Bool.and_eq_false_iff, decide_eq_false_iff_not]; omega) ?_

theorem key_AX_USE_14 (i : Nat) (h : i < 4096) : isRow (K.AX_USE i + 14) ⟨0x0, 0x1, 4096, 1, 0xE, 1, .s48, .rw, 0, (-140737488355328), 140737488355327, none, true, .axParam⟩ i 0xA (0x0 + 0x1 * i) 0xE := by
  refine isRow_of _ _ _ _ _ _ (by unfold K.AX_USE; omega) (by omega) (by omega) (by omega) ?_ (by simp; try omega)
  simp only [find_covers, objTable, tabA1, tabA2, List.filter, List.cons_append, List.nil_append, Desc.covers, Nat.reduceLeDiff, Nat.reduceLT, Nat.reduceAdd, decide_true, decide_false, Bool.and_true, Bool.and_false]
  repeat first
    | exact find_here _ _ _ _ (by simp only [Desc.holds, Bool.and_eq_true, decide_eq_true_eq]; omega)
    | refine find_skip _ _ _ _ _ (by simp only [Desc.holds, Bool.and_eq_false_iff, decide_eq_false_iff_not]; omega) ?_

theorem key_AX_USE_15 (i : Nat) (h : i < 4096) : isRow (K.AX_USE i + 15) ⟨0x0, 0x1, 4096, 1, 0xF, 1, .bool, .rw, 0, 0, 1, none, true, .axParam⟩ i 0xA (0x0 + 0x1 * i) 0xF := by
  refine isRow_of _ _ _ _ _ _ (by unfold K.AX_USE; omega) (by omega) (by omega) (by omega) ?_ (by simp; try omega)
  simp only [find_covers, objTable, tabA1, tabA2, List.filter, List.cons_append, List.nil_append, Desc.covers, Nat.reduceLeDiff, Nat.reduceLT, Nat.reduceAdd, decide_true, decide_false, Bool.and_true, Bool.and_false]
  repeat first
    | exact find_here _ _ _ _ (by simp only [Desc.holds, Bool.and_eq_true, decide_eq_true_eq]; omega)
    | refine find_skip _ _ _ _ _ (by simp only [Desc.holds, Bool.and_eq_false_iff, decide_eq_false_iff_not]; omega) ?_

theorem key_AX_USE_16 (i : Nat) (h : i < 4096) : isRow (K.AX_USE i + 16) ⟨0x0, 0x1, 4096, 1, 0x10, 1, .u48, .rw, 10000, 0, 281474976710655, none, true, .axParam⟩ i 0xA (0x0 + 0x1 * i) 0x10 := by
  refine isRow_of _ _ _ _ _ _ (by unfold K.AX_USE; omega) (by omega) (by omega) (by omega) ?_ (by simp; try omega)
  simp only [find_covers, objTable, tabA1, tabA2, List.filter, List.cons_append, List.nil_append, Desc.covers, Nat.reduceLeDiff, Nat.reduceLT, Nat.reduceAdd, decide_true, decide_false, Bool.and_true, Bool.and_false]
  repeat first
    | exact find_here _ _ _ _ (by simp only [Desc.holds, Bool.and_eq_true, decide_eq_true_eq]; omega)
    | refine find_skip _ _ _ _ _ (by simp only [Desc.holds, Bool.and_eq_false_iff, decide_eq_false_iff_not]; omega) ?_

theorem key_AX_USE_17 (i : Nat) (h : i < 4096) : isRow (K.AX_USE i + 17) ⟨0x0, 0x1, 4096, 1, 0x11, 1, .u8, .rw, 3, 1, 255, none, true, .axParam⟩ i 0xA (0x0 + 0x1 * i) 0x11 := by
  refine isRow_of _ _ _ _ _ _ (by unfold K.AX_USE; omega) (by omega) (by omega) (by omega) ?_ (by simp; try omega)
  simp only [find_covers, objTable, tabA1, tabA2, List.filter, List.cons_append, List.nil_append, Desc.covers, Nat.reduceLeDiff, Nat.reduceLT, Nat.reduceAdd, decide_true, decide_false, Bool.and_true, Bool.and_false]
  repeat first
    | exact find_here _ _ _ _ (by simp only [Desc.holds, Bool.and_eq_true, decide_eq_true_eq]; omega)
    | refine find_skip _ _ _ _ _ (by simp only [Desc.holds, Bool.and_eq_false_iff, decide_eq_false_iff_not]; omega) ?_

theorem key_AX_USE_18 (i : Nat) (h : i < 4096) : isRow (K.AX_USE i + 18) ⟨0x0, 0x1, 4096, 1, 0x12, 1, .u8, .rw, 0, 0, 3, none, true, .axParam⟩ i 0xA (0x0 + 0x1 * i) 0x12 := by
  refine isRow_of _ _ _ _ _ _ (by unfold K.AX_USE; omega) (by omega) (by omega) (by omega) ?_ (by simp; try omega)
  simp only [find_covers, objTable, tabA1, tabA2, List.filter, List.cons_append, List.nil_append, Desc.covers, Nat.reduceLeDiff, Nat.reduceLT, Nat.reduceAdd, decide_true, decide_false, Bool.and_true, Bool.and_false]
  repeat first
    | exact find_here _ _ _ _ (by simp only [Desc.holds, Bool.and_eq_true, decide_eq_true_eq]; omega)
    | refine find_skip _ _ _ _ _ (by simp only [Desc.holds, Bool.and_eq_false_iff, decide_eq_false_iff_not]; omega) ?_

theorem key_AX_USE_19 (i : Nat) (h : i < 4096) : isRow (K.AX_USE i + 19) ⟨0x0, 0x1, 4096, 1, 0x13, 1, .u16, .rw, 500, 0, 65535, none, true, .axParam⟩ i 0xA (0x0 + 0x1 * i) 0x13 := by
  refine isRow_of _ _ _ _ _ _ (by unfold K.AX_USE; omega) (by omega) (by omega) (by omega) ?_ (by simp; try omega)
  simp only [find_covers, objTable, tabA1, tabA2, List.filter, List.cons_append, List.nil_append, Desc.covers, Nat.reduceLeDiff, Nat.reduceLT, Nat.reduceAdd, decide_true, decide_false, Bool.and_true, Bool.and_false]
  repeat first
    | exact find_here _ _ _ _ (by simp only [Desc.holds, Bool.and_eq_true, decide_eq_true_eq]; omega)
    | refine find_skip _ _ _ _ _ (by simp only [Desc.holds, Bool.and_eq_false_iff, decide_eq_false_iff_not]; omega) ?_

theorem key_AX_USE_20 (i : Nat) (h : i < 4096) : isRow (K.AX_USE i + 20) ⟨0x0, 0x1, 4096, 1, 0x14, 1, .u8, .rw, 40, 0, 100, none, true, .axParam⟩ i 0xA (0x0 + 0x1 * i) 0x14 := by
  refine isRow_of _ _ _ _ _ _ (by unfold K.AX_USE; omega) (by omega) (by omega) (by omega) ?_ (by simp; try omega)
  simp only [find_covers, objTable, tabA1, tabA2, List.filter, List.cons_append, List.nil_append, Desc.covers, Nat.reduceLeDiff, Nat.reduceLT, Nat.reduceAdd, decide_true, decide_false, Bool.and_true, Bool.and_false]
  repeat first
    | exact find_here _ _ _ _ (by simp only [Desc.holds, Bool.and_eq_true, decide_eq_true_eq]; omega)
    | refine find_skip _ _ _ _ _ (by simp only [Desc.holds, Bool.and_eq_false_iff, decide_eq_false_iff_not]; omega) ?_

theorem key_AX_USE_21 (i : Nat) (h : i < 4096) : isRow (K.AX_USE i + 21) ⟨0x0, 0x1, 4096, 1, 0x15, 1, .u16, .rw, 20, 0, 65535, none, true, .axParam⟩ i 0xA (0x0 + 0x1 * i) 0x15 := by
  refine isRow_of _ _ _ _ _ _ (by unfold K.AX_USE; omega) (by omega) (by omega) (by omega) ?_ (by simp; try omega)
  simp only [find_covers, objTable, tabA1, tabA2, List.filter, List.cons_append, List.nil_append, Desc.covers, Nat.reduceLeDiff, Nat.reduceLT, Nat.reduceAdd, decide_true, decide_false, Bool.and_true, Bool.and_false]
  repeat first
    | exact find_here _ _ _ _ (by simp only [Desc.holds, Bool.and_eq_true, decide_eq_true_eq]; omega)
    | refine find_skip _ _ _ _ _ (by simp only [Desc.holds, Bool.and_eq_false_iff, decide_eq_false_iff_not]; omega) ?_

theorem key_AX_USE_22 (i : Nat) (h : i < 4096) : isRow (K.AX_USE i + 22) ⟨0x0, 0x1, 4096, 1, 0x16, 1, .u8, .rw, 0, 0, 8, none, true, .axParam⟩ i 0xA (0x0 + 0x1 * i) 0x16 := by
  refine isRow_of _ _ _ _ _ _ (by unfold K.AX_USE; omega) (by omega) (by omega) (by omega) ?_ (by simp; try omega)
  simp only [find_covers, objTable, tabA1, tabA2, List.filter, List.cons_append, List.nil_append, Desc.covers, Nat.reduceLeDiff, Nat.reduceLT, Nat.reduceAdd, decide_true, decide_false, Bool.and_true, Bool.and_false]
  repeat first
    | exact find_here _ _ _ _ (by simp only [Desc.holds, Bool.and_eq_true, decide_eq_true_eq]; omega)
    | refine find_skip _ _ _ _ _ (by simp only [Desc.holds, Bool.and_eq_false_iff, decide_eq_false_iff_not]; omega) ?_

theorem key_AX_USE_23 (i : Nat) (h : i < 4096) : isRow (K.AX_USE i + 23) ⟨0x0, 0x1, 4096, 1, 0x17, 1, .u8, .rw, 0, 0, 255, none, true, .axParam⟩ i 0xA (0x0 + 0x1 * i) 0x17 := by
  refine isRow_of _ _ _ _ _ _ (by unfold K.AX_USE; omega) (by omega) (by omega) (by omega) ?_ (by simp; try omega)
  simp only [find_covers, objTable, tabA1, tabA2, List.filter, List.cons_append, List.nil_append, Desc.covers, Nat.reduceLeDiff, Nat.reduceLT, Nat.reduceAdd, decide_true, decide_false, Bool.and_true, Bool.and_false]
  repeat first
    | exact find_here _ _ _ _ (by simp only [Desc.holds, Bool.and_eq_true, decide_eq_true_eq]; omega)
    | refine find_skip _ _ _ _ _ (by simp only [Desc.holds, Bool.and_eq_false_iff, decide_eq_false_iff_not]; omega) ?_

theorem key_AX_USE_24 (i : Nat) (h : i < 4096) : isRow (K.AX_USE i + 24) ⟨0x0, 0x1, 4096, 1, 0x18, 1, .s48, .rw, 0, (-140737488355328), 140737488355327, none, true, .axParam⟩ i 0xA (0x0 + 0x1 * i) 0x18 := by
  refine isRow_of _ _ _ _ _ _ (by unfold K.AX_USE; omega) (by omega) (by omega) (by omega) ?_ (by simp; try omega)
  simp only [find_covers, objTable, tabA1, tabA2, List.filter, List.cons_append, List.nil_append, Desc.covers, Nat.reduceLeDiff, Nat.reduceLT, Nat.reduceAdd, decide_true, decide_false, Bool.and_true, Bool.and_false]
  repeat first
    | exact find_here _ _ _ _ (by simp only [Desc.holds, Bool.and_eq_true, decide_eq_true_eq]; omega)
    | refine find_skip _ _ _ _ _ (by simp only [Desc.holds, Bool.and_eq_false_iff, decide_eq_false_iff_not]; omega) ?_

theorem key_AX_USE_25 (i : Nat) (h : i < 4096) : isRow (K.AX_USE i + 25) ⟨0x0, 0x1, 4096, 1, 0x19, 1, .s48, .rw, 6553600000, (-140737488355328), 140737488355327, none, true, .axParam⟩ i 0xA (0x0 + 0x1 * i) 0x19 := by
  refine isRow_of _ _ _ _ _ _ (by unfold K.AX_USE; omega) (by omega) (by omega) (by omega) ?_ (by simp; try omega)
  simp only [find_covers, objTable, tabA1, tabA2, List.filter, List.cons_append, List.nil_append, Desc.covers, Nat.reduceLeDiff, Nat.reduceLT, Nat.reduceAdd, decide_true, decide_false, Bool.and_true, Bool.and_false]
  repeat first
    | exact find_here _ _ _ _ (by simp only [Desc.holds, Bool.and_eq_true, decide_eq_true_eq]; omega)
    | refine find_skip _ _ _ _ _ (by simp only [Desc.holds, Bool.and_eq_false_iff, decide_eq_false_iff_not]; omega) ?_

theorem key_AX_USE_26 (i : Nat) (h : i < 4096) : isRow (K.AX_USE i + 26) ⟨0x0, 0x1, 4096, 1, 0x1A, 1, .s48, .rw, 655360000, (-140737488355328), 140737488355327, none, true, .axParam⟩ i 0xA (0x0 + 0x1 * i) 0x1A := by
  refine isRow_of _ _ _ _ _ _ (by unfold K.AX_USE; omega) (by omega) (by omega) (by omega) ?_ (by simp; try omega)
  simp only [find_covers, objTable, tabA1, tabA2, List.filter, List.cons_append, List.nil_append, Desc.covers, Nat.reduceLeDiff, Nat.reduceLT, Nat.reduceAdd, decide_true, decide_false, Bool.and_true, Bool.and_false]
  repeat first
    | exact find_here _ _ _ _ (by simp only [Desc.holds, Bool.and_eq_true, decide_eq_true_eq]; omega)
    | refine find_skip _ _ _ _ _ (by simp only [Desc.holds, Bool.and_eq_false_iff, decide_eq_false_iff_not]; omega) ?_

theorem key_ROLE_HOLDER (i : Nat) (h : i < 9) : ∃ el els m,
    isRow (K.ROLE_HOLDER i) ⟨0x200, 0x1, 1, 1, el, els, .u8, .rw, m, 16, 19, none, false, .roleHolder⟩ 0 0x5 0x200 i := by
  rcases (by omega : i = 0 ∨ i = 1 ∨ i = 2 ∨ i = 3 ∨ i = 4 ∨ i = 5 ∨ i = 6 ∨ i = 7 ∨ i = 8) with rfl | rfl | rfl | rfl | rfl | rfl | rfl | rfl | rfl
  · exact ⟨0, 4, 16, by unfold isRow; decide⟩
  · exact ⟨0, 4, 16, by unfold isRow; decide⟩
  · exact ⟨0, 4, 16, by unfold isRow; decide⟩
  · exact ⟨0, 4, 16, by unfold isRow; decide⟩
  · exact ⟨4, 2, 17, by unfold isRow; decide⟩
  · exact ⟨4, 2, 17, by unfold isRow; decide⟩
  · exact ⟨6, 2, 18, by unfold isRow; decide⟩
  · exact ⟨6, 2, 18, by unfold isRow; decide⟩
  · exact ⟨8, 1, 19, by unfold isRow; decide⟩

end Sys2Proof.Machine
end

