-- ==== Sys2Proof/Laws/State.lean ====
section
/-! SUPPORT. One lemma per field of the block for each of its updates: what the update writes, and that every other field
stays. All hold by definition and are simp rules, so that no proof unfolds a record update. -/
namespace Sys2Proof.Machine

/-! ### setOb -/

@[simp] theorem Dev.setOb_now (d : Dev) (k : Nat) (v : Int) : (d.setOb k v).now = d.now := rfl
@[simp] theorem Dev.setOb_seq (d : Dev) (k : Nat) (v : Int) : (d.setOb k v).seq = d.seq := rfl
@[simp] theorem Dev.setOb_doms (d : Dev) (k : Nat) (v : Int) : (d.setOb k v).doms = d.doms := rfl
@[simp] theorem Dev.setOb_free (d : Dev) (k : Nat) (v : Int) : (d.setOb k v).free = d.free := rfl
@[simp] theorem Dev.setOb_od (d : Dev) (k : Nat) (v : Int) : (d.setOb k v).od = mput d.od k v := rfl
@[simp] theorem Dev.setOb_blob (d : Dev) (k : Nat) (v : Int) : (d.setOb k v).blob = d.blob := rfl
@[simp] theorem Dev.setOb_mem (d : Dev) (k : Nat) (v : Int) : (d.setOb k v).mem = d.mem := rfl
@[simp] theorem Dev.setOb_poison (d : Dev) (k : Nat) (v : Int) : (d.setOb k v).poison = d.poison := rfl
@[simp] theorem Dev.setOb_ecc (d : Dev) (k : Nat) (v : Int) : (d.setOb k v).ecc = d.ecc := rfl
@[simp] theorem Dev.setOb_sump (d : Dev) (k : Nat) (v : Int) : (d.setOb k v).sump = d.sump := rfl
@[simp] theorem Dev.setOb_store (d : Dev) (k : Nat) (v : Int) : (d.setOb k v).store = d.store := rfl
@[simp] theorem Dev.setOb_tap (d : Dev) (k : Nat) (v : Int) : (d.setOb k v).tap = d.tap := rfl
@[simp] theorem Dev.setOb_mm (d : Dev) (k : Nat) (v : Int) : (d.setOb k v).mm = d.mm := rfl
@[simp] theorem Dev.setOb_dict (d : Dev) (k : Nat) (v : Int) : (d.setOb k v).dict = d.dict := rfl
@[simp] theorem Dev.setOb_eps (d : Dev) (k : Nat) (v : Int) : (d.setOb k v).eps = d.eps := rfl
@[simp] theorem Dev.setOb_host (d : Dev) (k : Nat) (v : Int) : (d.setOb k v).host = d.host := rfl
@[simp] theorem Dev.setOb_gather (d : Dev) (k : Nat) (v : Int) : (d.setOb k v).gather = d.gather := rfl
@[simp] theorem Dev.setOb_ports (d : Dev) (k : Nat) (v : Int) : (d.setOb k v).ports = d.ports := rfl
@[simp] theorem Dev.setOb_tiles (d : Dev) (k : Nat) (v : Int) : (d.setOb k v).tiles = d.tiles := rfl
@[simp] theorem Dev.setOb_macs (d : Dev) (k : Nat) (v : Int) : (d.setOb k v).macs = d.macs := rfl
@[simp] theorem Dev.setOb_ups (d : Dev) (k : Nat) (v : Int) : (d.setOb k v).ups = d.ups := rfl
@[simp] theorem Dev.setOb_buses (d : Dev) (k : Nat) (v : Int) : (d.setOb k v).buses = d.buses := rfl
@[simp] theorem Dev.setOb_engines (d : Dev) (k : Nat) (v : Int) : (d.setOb k v).engines = d.engines := rfl
@[simp] theorem Dev.setOb_chans (d : Dev) (k : Nat) (v : Int) : (d.setOb k v).chans = d.chans := rfl
@[simp] theorem Dev.setOb_cores (d : Dev) (k : Nat) (v : Int) : (d.setOb k v).cores = d.cores := rfl
@[simp] theorem Dev.setOb_ctxs (d : Dev) (k : Nat) (v : Int) : (d.setOb k v).ctxs = d.ctxs := rfl
@[simp] theorem Dev.setOb_bundles (d : Dev) (k : Nat) (v : Int) : (d.setOb k v).bundles = d.bundles := rfl
@[simp] theorem Dev.setOb_sw (d : Dev) (k : Nat) (v : Int) : (d.setOb k v).sw = d.sw := rfl
@[simp] theorem Dev.setOb_cellar (d : Dev) (k : Nat) (v : Int) : (d.setOb k v).cellar = d.cellar := rfl
@[simp] theorem Dev.setOb_time (d : Dev) (k : Nat) (v : Int) : (d.setOb k v).time = d.time := rfl
@[simp] theorem Dev.setOb_segs (d : Dev) (k : Nat) (v : Int) : (d.setOb k v).segs = d.segs := rfl
@[simp] theorem Dev.setOb_motion (d : Dev) (k : Nat) (v : Int) : (d.setOb k v).motion = d.motion := rfl
@[simp] theorem Dev.setOb_logAt (d : Dev) (k : Nat) (v : Int) : (d.setOb k v).logAt = d.logAt := rfl
@[simp] theorem Dev.setOb_stores (d : Dev) (k : Nat) (v : Int) : (d.setOb k v).stores = d.stores := rfl
@[simp] theorem Dev.setOb_out (d : Dev) (k : Nat) (v : Int) : (d.setOb k v).out = d.out := rfl
@[simp] theorem Dev.setOb_work (d : Dev) (k : Nat) (v : Int) : (d.setOb k v).work = d.work := rfl

/-! ### setDom -/

@[simp] theorem Dev.setDom_now (d : Dev) (k : Nat) (v : List Byte) : (d.setDom k v).now = d.now := rfl
@[simp] theorem Dev.setDom_seq (d : Dev) (k : Nat) (v : List Byte) : (d.setDom k v).seq = d.seq := rfl
@[simp] theorem Dev.setDom_doms (d : Dev) (k : Nat) (v : List Byte) : (d.setDom k v).doms = d.doms := rfl
@[simp] theorem Dev.setDom_free (d : Dev) (k : Nat) (v : List Byte) : (d.setDom k v).free = d.free := rfl
@[simp] theorem Dev.setDom_od (d : Dev) (k : Nat) (v : List Byte) : (d.setDom k v).od = d.od := rfl
@[simp] theorem Dev.setDom_blob (d : Dev) (k : Nat) (v : List Byte) : (d.setDom k v).blob = mput d.blob k v := rfl
@[simp] theorem Dev.setDom_mem (d : Dev) (k : Nat) (v : List Byte) : (d.setDom k v).mem = d.mem := rfl
@[simp] theorem Dev.setDom_poison (d : Dev) (k : Nat) (v : List Byte) : (d.setDom k v).poison = d.poison := rfl
@[simp] theorem Dev.setDom_ecc (d : Dev) (k : Nat) (v : List Byte) : (d.setDom k v).ecc = d.ecc := rfl
@[simp] theorem Dev.setDom_sump (d : Dev) (k : Nat) (v : List Byte) : (d.setDom k v).sump = d.sump := rfl
@[simp] theorem Dev.setDom_store (d : Dev) (k : Nat) (v : List Byte) : (d.setDom k v).store = d.store := rfl
@[simp] theorem Dev.setDom_tap (d : Dev) (k : Nat) (v : List Byte) : (d.setDom k v).tap = d.tap := rfl
@[simp] theorem Dev.setDom_mm (d : Dev) (k : Nat) (v : List Byte) : (d.setDom k v).mm = d.mm := rfl
@[simp] theorem Dev.setDom_dict (d : Dev) (k : Nat) (v : List Byte) : (d.setDom k v).dict = d.dict := rfl
@[simp] theorem Dev.setDom_eps (d : Dev) (k : Nat) (v : List Byte) : (d.setDom k v).eps = d.eps := rfl
@[simp] theorem Dev.setDom_host (d : Dev) (k : Nat) (v : List Byte) : (d.setDom k v).host = d.host := rfl
@[simp] theorem Dev.setDom_gather (d : Dev) (k : Nat) (v : List Byte) : (d.setDom k v).gather = d.gather := rfl
@[simp] theorem Dev.setDom_ports (d : Dev) (k : Nat) (v : List Byte) : (d.setDom k v).ports = d.ports := rfl
@[simp] theorem Dev.setDom_tiles (d : Dev) (k : Nat) (v : List Byte) : (d.setDom k v).tiles = d.tiles := rfl
@[simp] theorem Dev.setDom_macs (d : Dev) (k : Nat) (v : List Byte) : (d.setDom k v).macs = d.macs := rfl
@[simp] theorem Dev.setDom_ups (d : Dev) (k : Nat) (v : List Byte) : (d.setDom k v).ups = d.ups := rfl
@[simp] theorem Dev.setDom_buses (d : Dev) (k : Nat) (v : List Byte) : (d.setDom k v).buses = d.buses := rfl
@[simp] theorem Dev.setDom_engines (d : Dev) (k : Nat) (v : List Byte) : (d.setDom k v).engines = d.engines := rfl
@[simp] theorem Dev.setDom_chans (d : Dev) (k : Nat) (v : List Byte) : (d.setDom k v).chans = d.chans := rfl
@[simp] theorem Dev.setDom_cores (d : Dev) (k : Nat) (v : List Byte) : (d.setDom k v).cores = d.cores := rfl
@[simp] theorem Dev.setDom_ctxs (d : Dev) (k : Nat) (v : List Byte) : (d.setDom k v).ctxs = d.ctxs := rfl
@[simp] theorem Dev.setDom_bundles (d : Dev) (k : Nat) (v : List Byte) : (d.setDom k v).bundles = d.bundles := rfl
@[simp] theorem Dev.setDom_sw (d : Dev) (k : Nat) (v : List Byte) : (d.setDom k v).sw = d.sw := rfl
@[simp] theorem Dev.setDom_cellar (d : Dev) (k : Nat) (v : List Byte) : (d.setDom k v).cellar = d.cellar := rfl
@[simp] theorem Dev.setDom_time (d : Dev) (k : Nat) (v : List Byte) : (d.setDom k v).time = d.time := rfl
@[simp] theorem Dev.setDom_segs (d : Dev) (k : Nat) (v : List Byte) : (d.setDom k v).segs = d.segs := rfl
@[simp] theorem Dev.setDom_motion (d : Dev) (k : Nat) (v : List Byte) : (d.setDom k v).motion = d.motion := rfl
@[simp] theorem Dev.setDom_logAt (d : Dev) (k : Nat) (v : List Byte) : (d.setDom k v).logAt = d.logAt := rfl
@[simp] theorem Dev.setDom_stores (d : Dev) (k : Nat) (v : List Byte) : (d.setDom k v).stores = d.stores := rfl
@[simp] theorem Dev.setDom_out (d : Dev) (k : Nat) (v : List Byte) : (d.setDom k v).out = d.out := rfl
@[simp] theorem Dev.setDom_work (d : Dev) (k : Nat) (v : List Byte) : (d.setDom k v).work = d.work := rfl

/-! ### event -/

@[simp] theorem Dev.event_now (d : Dev) : d.event.now = d.now := rfl
@[simp] theorem Dev.event_seq (d : Dev) : d.event.seq = (d.seq + 1) % 2 ^ 24 := rfl
@[simp] theorem Dev.event_doms (d : Dev) : d.event.doms = d.doms := rfl
@[simp] theorem Dev.event_free (d : Dev) : d.event.free = d.free := rfl
@[simp] theorem Dev.event_od (d : Dev) : d.event.od = d.od := rfl
@[simp] theorem Dev.event_blob (d : Dev) : d.event.blob = d.blob := rfl
@[simp] theorem Dev.event_mem (d : Dev) : d.event.mem = d.mem := rfl
@[simp] theorem Dev.event_poison (d : Dev) : d.event.poison = d.poison := rfl
@[simp] theorem Dev.event_ecc (d : Dev) : d.event.ecc = d.ecc := rfl
@[simp] theorem Dev.event_sump (d : Dev) : d.event.sump = d.sump := rfl
@[simp] theorem Dev.event_store (d : Dev) : d.event.store = d.store := rfl
@[simp] theorem Dev.event_tap (d : Dev) : d.event.tap = d.tap := rfl
@[simp] theorem Dev.event_mm (d : Dev) : d.event.mm = d.mm := rfl
@[simp] theorem Dev.event_dict (d : Dev) : d.event.dict = d.dict := rfl
@[simp] theorem Dev.event_eps (d : Dev) : d.event.eps = d.eps := rfl
@[simp] theorem Dev.event_host (d : Dev) : d.event.host = d.host := rfl
@[simp] theorem Dev.event_gather (d : Dev) : d.event.gather = d.gather := rfl
@[simp] theorem Dev.event_ports (d : Dev) : d.event.ports = d.ports := rfl
@[simp] theorem Dev.event_tiles (d : Dev) : d.event.tiles = d.tiles := rfl
@[simp] theorem Dev.event_macs (d : Dev) : d.event.macs = d.macs := rfl
@[simp] theorem Dev.event_ups (d : Dev) : d.event.ups = d.ups := rfl
@[simp] theorem Dev.event_buses (d : Dev) : d.event.buses = d.buses := rfl
@[simp] theorem Dev.event_engines (d : Dev) : d.event.engines = d.engines := rfl
@[simp] theorem Dev.event_chans (d : Dev) : d.event.chans = d.chans := rfl
@[simp] theorem Dev.event_cores (d : Dev) : d.event.cores = d.cores := rfl
@[simp] theorem Dev.event_ctxs (d : Dev) : d.event.ctxs = d.ctxs := rfl
@[simp] theorem Dev.event_bundles (d : Dev) : d.event.bundles = d.bundles := rfl
@[simp] theorem Dev.event_sw (d : Dev) : d.event.sw = d.sw := rfl
@[simp] theorem Dev.event_cellar (d : Dev) : d.event.cellar = d.cellar := rfl
@[simp] theorem Dev.event_time (d : Dev) : d.event.time = d.time := rfl
@[simp] theorem Dev.event_segs (d : Dev) : d.event.segs = d.segs := rfl
@[simp] theorem Dev.event_motion (d : Dev) : d.event.motion = d.motion := rfl
@[simp] theorem Dev.event_logAt (d : Dev) : d.event.logAt = d.logAt := rfl
@[simp] theorem Dev.event_stores (d : Dev) : d.event.stores = d.stores := rfl
@[simp] theorem Dev.event_out (d : Dev) : d.event.out = d.out := rfl
@[simp] theorem Dev.event_work (d : Dev) : d.event.work = d.work := rfl

/-! ### st -/

@[simp] theorem Dev.st_now (d : Dev) (a v : Nat) : (d.st a v).now = d.now := rfl
@[simp] theorem Dev.st_seq (d : Dev) (a v : Nat) : (d.st a v).seq = d.seq := rfl
@[simp] theorem Dev.st_doms (d : Dev) (a v : Nat) : (d.st a v).doms = d.doms := rfl
@[simp] theorem Dev.st_free (d : Dev) (a v : Nat) : (d.st a v).free = d.free := rfl
@[simp] theorem Dev.st_od (d : Dev) (a v : Nat) : (d.st a v).od = d.od := rfl
@[simp] theorem Dev.st_blob (d : Dev) (a v : Nat) : (d.st a v).blob = d.blob := rfl
@[simp] theorem Dev.st_mem (d : Dev) (a v : Nat) : (d.st a v).mem = d.mem.write a (word v) := rfl
@[simp] theorem Dev.st_sump (d : Dev) (a v : Nat) : (d.st a v).sump = d.sump := rfl
@[simp] theorem Dev.st_store (d : Dev) (a v : Nat) : (d.st a v).store = d.store := rfl
@[simp] theorem Dev.st_tap (d : Dev) (a v : Nat) : (d.st a v).tap = d.tap := rfl
@[simp] theorem Dev.st_mm (d : Dev) (a v : Nat) : (d.st a v).mm = d.mm := rfl
@[simp] theorem Dev.st_dict (d : Dev) (a v : Nat) : (d.st a v).dict = d.dict := rfl
@[simp] theorem Dev.st_eps (d : Dev) (a v : Nat) : (d.st a v).eps = d.eps := rfl
@[simp] theorem Dev.st_host (d : Dev) (a v : Nat) : (d.st a v).host = d.host := rfl
@[simp] theorem Dev.st_gather (d : Dev) (a v : Nat) : (d.st a v).gather = d.gather := rfl
@[simp] theorem Dev.st_ports (d : Dev) (a v : Nat) : (d.st a v).ports = d.ports := rfl
@[simp] theorem Dev.st_tiles (d : Dev) (a v : Nat) : (d.st a v).tiles = d.tiles := rfl
@[simp] theorem Dev.st_macs (d : Dev) (a v : Nat) : (d.st a v).macs = d.macs := rfl
@[simp] theorem Dev.st_ups (d : Dev) (a v : Nat) : (d.st a v).ups = d.ups := rfl
@[simp] theorem Dev.st_buses (d : Dev) (a v : Nat) : (d.st a v).buses = d.buses := rfl
@[simp] theorem Dev.st_engines (d : Dev) (a v : Nat) : (d.st a v).engines = d.engines := rfl
@[simp] theorem Dev.st_chans (d : Dev) (a v : Nat) : (d.st a v).chans = d.chans := rfl
@[simp] theorem Dev.st_cores (d : Dev) (a v : Nat) : (d.st a v).cores = d.cores := rfl
@[simp] theorem Dev.st_ctxs (d : Dev) (a v : Nat) : (d.st a v).ctxs = d.ctxs := rfl
@[simp] theorem Dev.st_bundles (d : Dev) (a v : Nat) : (d.st a v).bundles = d.bundles := rfl
@[simp] theorem Dev.st_sw (d : Dev) (a v : Nat) : (d.st a v).sw = d.sw := rfl
@[simp] theorem Dev.st_cellar (d : Dev) (a v : Nat) : (d.st a v).cellar = d.cellar := rfl
@[simp] theorem Dev.st_time (d : Dev) (a v : Nat) : (d.st a v).time = d.time := rfl
@[simp] theorem Dev.st_segs (d : Dev) (a v : Nat) : (d.st a v).segs = d.segs := rfl
@[simp] theorem Dev.st_motion (d : Dev) (a v : Nat) : (d.st a v).motion = d.motion := rfl
@[simp] theorem Dev.st_logAt (d : Dev) (a v : Nat) : (d.st a v).logAt = d.logAt := rfl
@[simp] theorem Dev.st_stores (d : Dev) (a v : Nat) : (d.st a v).stores = d.stores := rfl
@[simp] theorem Dev.st_ecc (d : Dev) (a v : Nat) : (d.st a v).ecc = d.ecc := rfl
@[simp] theorem Dev.st_out (d : Dev) (a v : Nat) : (d.st a v).out = d.out := rfl
@[simp] theorem Dev.st_work (d : Dev) (a v : Nat) : (d.st a v).work = d.work := rfl

/-! ### clearMem -/

@[simp] theorem Dev.clearMem_now (d : Dev) (lo hi : Nat) : (d.clearMem lo hi).now = d.now := rfl
@[simp] theorem Dev.clearMem_seq (d : Dev) (lo hi : Nat) : (d.clearMem lo hi).seq = d.seq := rfl
@[simp] theorem Dev.clearMem_doms (d : Dev) (lo hi : Nat) : (d.clearMem lo hi).doms = d.doms := rfl
@[simp] theorem Dev.clearMem_free (d : Dev) (lo hi : Nat) : (d.clearMem lo hi).free = d.free := rfl
@[simp] theorem Dev.clearMem_od (d : Dev) (lo hi : Nat) : (d.clearMem lo hi).od = d.od := rfl
@[simp] theorem Dev.clearMem_blob (d : Dev) (lo hi : Nat) : (d.clearMem lo hi).blob = d.blob := rfl
@[simp] theorem Dev.clearMem_mem (d : Dev) (lo hi : Nat) : (d.clearMem lo hi).mem = d.mem.clear lo hi := rfl
@[simp] theorem Dev.clearMem_sump (d : Dev) (lo hi : Nat) : (d.clearMem lo hi).sump = d.sump := rfl
@[simp] theorem Dev.clearMem_store (d : Dev) (lo hi : Nat) : (d.clearMem lo hi).store = d.store := rfl
@[simp] theorem Dev.clearMem_tap (d : Dev) (lo hi : Nat) : (d.clearMem lo hi).tap = d.tap := rfl
@[simp] theorem Dev.clearMem_mm (d : Dev) (lo hi : Nat) : (d.clearMem lo hi).mm = d.mm := rfl
@[simp] theorem Dev.clearMem_dict (d : Dev) (lo hi : Nat) : (d.clearMem lo hi).dict = d.dict := rfl
@[simp] theorem Dev.clearMem_eps (d : Dev) (lo hi : Nat) : (d.clearMem lo hi).eps = d.eps := rfl
@[simp] theorem Dev.clearMem_host (d : Dev) (lo hi : Nat) : (d.clearMem lo hi).host = d.host := rfl
@[simp] theorem Dev.clearMem_gather (d : Dev) (lo hi : Nat) : (d.clearMem lo hi).gather = d.gather := rfl
@[simp] theorem Dev.clearMem_ports (d : Dev) (lo hi : Nat) : (d.clearMem lo hi).ports = d.ports := rfl
@[simp] theorem Dev.clearMem_tiles (d : Dev) (lo hi : Nat) : (d.clearMem lo hi).tiles = d.tiles := rfl
@[simp] theorem Dev.clearMem_macs (d : Dev) (lo hi : Nat) : (d.clearMem lo hi).macs = d.macs := rfl
@[simp] theorem Dev.clearMem_ups (d : Dev) (lo hi : Nat) : (d.clearMem lo hi).ups = d.ups := rfl
@[simp] theorem Dev.clearMem_buses (d : Dev) (lo hi : Nat) : (d.clearMem lo hi).buses = d.buses := rfl
@[simp] theorem Dev.clearMem_engines (d : Dev) (lo hi : Nat) : (d.clearMem lo hi).engines = d.engines := rfl
@[simp] theorem Dev.clearMem_chans (d : Dev) (lo hi : Nat) : (d.clearMem lo hi).chans = d.chans := rfl
@[simp] theorem Dev.clearMem_cores (d : Dev) (lo hi : Nat) : (d.clearMem lo hi).cores = d.cores := rfl
@[simp] theorem Dev.clearMem_ctxs (d : Dev) (lo hi : Nat) : (d.clearMem lo hi).ctxs = d.ctxs := rfl
@[simp] theorem Dev.clearMem_bundles (d : Dev) (lo hi : Nat) : (d.clearMem lo hi).bundles = d.bundles := rfl
@[simp] theorem Dev.clearMem_sw (d : Dev) (lo hi : Nat) : (d.clearMem lo hi).sw = d.sw := rfl
@[simp] theorem Dev.clearMem_cellar (d : Dev) (lo hi : Nat) : (d.clearMem lo hi).cellar = d.cellar := rfl
@[simp] theorem Dev.clearMem_time (d : Dev) (lo hi : Nat) : (d.clearMem lo hi).time = d.time := rfl
@[simp] theorem Dev.clearMem_segs (d : Dev) (lo hi : Nat) : (d.clearMem lo hi).segs = d.segs := rfl
@[simp] theorem Dev.clearMem_motion (d : Dev) (lo hi : Nat) : (d.clearMem lo hi).motion = d.motion := rfl
@[simp] theorem Dev.clearMem_logAt (d : Dev) (lo hi : Nat) : (d.clearMem lo hi).logAt = d.logAt := rfl
@[simp] theorem Dev.clearMem_stores (d : Dev) (lo hi : Nat) : (d.clearMem lo hi).stores = d.stores := rfl
@[simp] theorem Dev.clearMem_ecc (d : Dev) (lo hi : Nat) : (d.clearMem lo hi).ecc = d.ecc := rfl
@[simp] theorem Dev.clearMem_out (d : Dev) (lo hi : Nat) : (d.clearMem lo hi).out = d.out := rfl
@[simp] theorem Dev.clearMem_work (d : Dev) (lo hi : Nat) : (d.clearMem lo hi).work = d.work := rfl

/-! ### emit -/

@[simp] theorem Dev.emit_now (d : Dev) (o : Out) : (d.emit o).now = d.now := rfl
@[simp] theorem Dev.emit_seq (d : Dev) (o : Out) : (d.emit o).seq = d.seq := rfl
@[simp] theorem Dev.emit_doms (d : Dev) (o : Out) : (d.emit o).doms = d.doms := rfl
@[simp] theorem Dev.emit_free (d : Dev) (o : Out) : (d.emit o).free = d.free := rfl
@[simp] theorem Dev.emit_od (d : Dev) (o : Out) : (d.emit o).od = d.od := rfl
@[simp] theorem Dev.emit_blob (d : Dev) (o : Out) : (d.emit o).blob = d.blob := rfl
@[simp] theorem Dev.emit_mem (d : Dev) (o : Out) : (d.emit o).mem = d.mem := rfl
@[simp] theorem Dev.emit_poison (d : Dev) (o : Out) : (d.emit o).poison = d.poison := rfl
@[simp] theorem Dev.emit_ecc (d : Dev) (o : Out) : (d.emit o).ecc = d.ecc := rfl
@[simp] theorem Dev.emit_sump (d : Dev) (o : Out) : (d.emit o).sump = d.sump := rfl
@[simp] theorem Dev.emit_store (d : Dev) (o : Out) : (d.emit o).store = d.store := rfl
@[simp] theorem Dev.emit_tap (d : Dev) (o : Out) : (d.emit o).tap = d.tap := rfl
@[simp] theorem Dev.emit_mm (d : Dev) (o : Out) : (d.emit o).mm = d.mm := rfl
@[simp] theorem Dev.emit_dict (d : Dev) (o : Out) : (d.emit o).dict = d.dict := rfl
@[simp] theorem Dev.emit_eps (d : Dev) (o : Out) : (d.emit o).eps = d.eps := rfl
@[simp] theorem Dev.emit_host (d : Dev) (o : Out) : (d.emit o).host = d.host := rfl
@[simp] theorem Dev.emit_gather (d : Dev) (o : Out) : (d.emit o).gather = d.gather := rfl
@[simp] theorem Dev.emit_ports (d : Dev) (o : Out) : (d.emit o).ports = d.ports := rfl
@[simp] theorem Dev.emit_tiles (d : Dev) (o : Out) : (d.emit o).tiles = d.tiles := rfl
@[simp] theorem Dev.emit_macs (d : Dev) (o : Out) : (d.emit o).macs = d.macs := rfl
@[simp] theorem Dev.emit_ups (d : Dev) (o : Out) : (d.emit o).ups = d.ups := rfl
@[simp] theorem Dev.emit_buses (d : Dev) (o : Out) : (d.emit o).buses = d.buses := rfl
@[simp] theorem Dev.emit_engines (d : Dev) (o : Out) : (d.emit o).engines = d.engines := rfl
@[simp] theorem Dev.emit_chans (d : Dev) (o : Out) : (d.emit o).chans = d.chans := rfl
@[simp] theorem Dev.emit_cores (d : Dev) (o : Out) : (d.emit o).cores = d.cores := rfl
@[simp] theorem Dev.emit_ctxs (d : Dev) (o : Out) : (d.emit o).ctxs = d.ctxs := rfl
@[simp] theorem Dev.emit_bundles (d : Dev) (o : Out) : (d.emit o).bundles = d.bundles := rfl
@[simp] theorem Dev.emit_sw (d : Dev) (o : Out) : (d.emit o).sw = d.sw := rfl
@[simp] theorem Dev.emit_cellar (d : Dev) (o : Out) : (d.emit o).cellar = d.cellar := rfl
@[simp] theorem Dev.emit_time (d : Dev) (o : Out) : (d.emit o).time = d.time := rfl
@[simp] theorem Dev.emit_segs (d : Dev) (o : Out) : (d.emit o).segs = d.segs := rfl
@[simp] theorem Dev.emit_motion (d : Dev) (o : Out) : (d.emit o).motion = d.motion := rfl
@[simp] theorem Dev.emit_logAt (d : Dev) (o : Out) : (d.emit o).logAt = d.logAt := rfl
@[simp] theorem Dev.emit_stores (d : Dev) (o : Out) : (d.emit o).stores = d.stores := rfl
@[simp] theorem Dev.emit_out (d : Dev) (o : Out) : (d.emit o).out = o :: d.out := rfl
@[simp] theorem Dev.emit_work (d : Dev) (o : Out) : (d.emit o).work = d.work := rfl

/-! ### todo -/

@[simp] theorem Dev.todo_now (d : Dev) (w : Work) : (d.todo w).now = d.now := rfl
@[simp] theorem Dev.todo_seq (d : Dev) (w : Work) : (d.todo w).seq = d.seq := rfl
@[simp] theorem Dev.todo_doms (d : Dev) (w : Work) : (d.todo w).doms = d.doms := rfl
@[simp] theorem Dev.todo_free (d : Dev) (w : Work) : (d.todo w).free = d.free := rfl
@[simp] theorem Dev.todo_od (d : Dev) (w : Work) : (d.todo w).od = d.od := rfl
@[simp] theorem Dev.todo_blob (d : Dev) (w : Work) : (d.todo w).blob = d.blob := rfl
@[simp] theorem Dev.todo_mem (d : Dev) (w : Work) : (d.todo w).mem = d.mem := rfl
@[simp] theorem Dev.todo_poison (d : Dev) (w : Work) : (d.todo w).poison = d.poison := rfl
@[simp] theorem Dev.todo_ecc (d : Dev) (w : Work) : (d.todo w).ecc = d.ecc := rfl
@[simp] theorem Dev.todo_sump (d : Dev) (w : Work) : (d.todo w).sump = d.sump := rfl
@[simp] theorem Dev.todo_store (d : Dev) (w : Work) : (d.todo w).store = d.store := rfl
@[simp] theorem Dev.todo_tap (d : Dev) (w : Work) : (d.todo w).tap = d.tap := rfl
@[simp] theorem Dev.todo_mm (d : Dev) (w : Work) : (d.todo w).mm = d.mm := rfl
@[simp] theorem Dev.todo_dict (d : Dev) (w : Work) : (d.todo w).dict = d.dict := rfl
@[simp] theorem Dev.todo_eps (d : Dev) (w : Work) : (d.todo w).eps = d.eps := rfl
@[simp] theorem Dev.todo_host (d : Dev) (w : Work) : (d.todo w).host = d.host := rfl
@[simp] theorem Dev.todo_gather (d : Dev) (w : Work) : (d.todo w).gather = d.gather := rfl
@[simp] theorem Dev.todo_ports (d : Dev) (w : Work) : (d.todo w).ports = d.ports := rfl
@[simp] theorem Dev.todo_tiles (d : Dev) (w : Work) : (d.todo w).tiles = d.tiles := rfl
@[simp] theorem Dev.todo_macs (d : Dev) (w : Work) : (d.todo w).macs = d.macs := rfl
@[simp] theorem Dev.todo_ups (d : Dev) (w : Work) : (d.todo w).ups = d.ups := rfl
@[simp] theorem Dev.todo_buses (d : Dev) (w : Work) : (d.todo w).buses = d.buses := rfl
@[simp] theorem Dev.todo_engines (d : Dev) (w : Work) : (d.todo w).engines = d.engines := rfl
@[simp] theorem Dev.todo_chans (d : Dev) (w : Work) : (d.todo w).chans = d.chans := rfl
@[simp] theorem Dev.todo_cores (d : Dev) (w : Work) : (d.todo w).cores = d.cores := rfl
@[simp] theorem Dev.todo_ctxs (d : Dev) (w : Work) : (d.todo w).ctxs = d.ctxs := rfl
@[simp] theorem Dev.todo_bundles (d : Dev) (w : Work) : (d.todo w).bundles = d.bundles := rfl
@[simp] theorem Dev.todo_sw (d : Dev) (w : Work) : (d.todo w).sw = d.sw := rfl
@[simp] theorem Dev.todo_cellar (d : Dev) (w : Work) : (d.todo w).cellar = d.cellar := rfl
@[simp] theorem Dev.todo_time (d : Dev) (w : Work) : (d.todo w).time = d.time := rfl
@[simp] theorem Dev.todo_segs (d : Dev) (w : Work) : (d.todo w).segs = d.segs := rfl
@[simp] theorem Dev.todo_motion (d : Dev) (w : Work) : (d.todo w).motion = d.motion := rfl
@[simp] theorem Dev.todo_logAt (d : Dev) (w : Work) : (d.todo w).logAt = d.logAt := rfl
@[simp] theorem Dev.todo_stores (d : Dev) (w : Work) : (d.todo w).stores = d.stores := rfl
@[simp] theorem Dev.todo_out (d : Dev) (w : Work) : (d.todo w).out = d.out := rfl
@[simp] theorem Dev.todo_work (d : Dev) (w : Work) : (d.todo w).work = d.work ++ [w] := rfl

/-! ### power -/

@[simp] theorem Dev.power_now (d : Dev) (n : Nat) (v : Bool) : (d.power n v).now = d.now := rfl
@[simp] theorem Dev.power_seq (d : Dev) (n : Nat) (v : Bool) : (d.power n v).seq = d.seq := rfl
@[simp] theorem Dev.power_doms (d : Dev) (n : Nat) (v : Bool) : (d.power n v).doms = putBit d.doms n v := rfl
@[simp] theorem Dev.power_free (d : Dev) (n : Nat) (v : Bool) : (d.power n v).free = d.free := rfl
@[simp] theorem Dev.power_od (d : Dev) (n : Nat) (v : Bool) : (d.power n v).od = d.od := rfl
@[simp] theorem Dev.power_blob (d : Dev) (n : Nat) (v : Bool) : (d.power n v).blob = d.blob := rfl
@[simp] theorem Dev.power_mem (d : Dev) (n : Nat) (v : Bool) : (d.power n v).mem = d.mem := rfl
@[simp] theorem Dev.power_poison (d : Dev) (n : Nat) (v : Bool) : (d.power n v).poison = d.poison := rfl
@[simp] theorem Dev.power_ecc (d : Dev) (n : Nat) (v : Bool) : (d.power n v).ecc = d.ecc := rfl
@[simp] theorem Dev.power_sump (d : Dev) (n : Nat) (v : Bool) : (d.power n v).sump = d.sump := rfl
@[simp] theorem Dev.power_store (d : Dev) (n : Nat) (v : Bool) : (d.power n v).store = d.store := rfl
@[simp] theorem Dev.power_tap (d : Dev) (n : Nat) (v : Bool) : (d.power n v).tap = d.tap := rfl
@[simp] theorem Dev.power_mm (d : Dev) (n : Nat) (v : Bool) : (d.power n v).mm = d.mm := rfl
@[simp] theorem Dev.power_dict (d : Dev) (n : Nat) (v : Bool) : (d.power n v).dict = d.dict := rfl
@[simp] theorem Dev.power_eps (d : Dev) (n : Nat) (v : Bool) : (d.power n v).eps = d.eps := rfl
@[simp] theorem Dev.power_host (d : Dev) (n : Nat) (v : Bool) : (d.power n v).host = d.host := rfl
@[simp] theorem Dev.power_gather (d : Dev) (n : Nat) (v : Bool) : (d.power n v).gather = d.gather := rfl
@[simp] theorem Dev.power_ports (d : Dev) (n : Nat) (v : Bool) : (d.power n v).ports = d.ports := rfl
@[simp] theorem Dev.power_tiles (d : Dev) (n : Nat) (v : Bool) : (d.power n v).tiles = d.tiles := rfl
@[simp] theorem Dev.power_macs (d : Dev) (n : Nat) (v : Bool) : (d.power n v).macs = d.macs := rfl
@[simp] theorem Dev.power_ups (d : Dev) (n : Nat) (v : Bool) : (d.power n v).ups = d.ups := rfl
@[simp] theorem Dev.power_buses (d : Dev) (n : Nat) (v : Bool) : (d.power n v).buses = d.buses := rfl
@[simp] theorem Dev.power_engines (d : Dev) (n : Nat) (v : Bool) : (d.power n v).engines = d.engines := rfl
@[simp] theorem Dev.power_chans (d : Dev) (n : Nat) (v : Bool) : (d.power n v).chans = d.chans := rfl
@[simp] theorem Dev.power_cores (d : Dev) (n : Nat) (v : Bool) : (d.power n v).cores = d.cores := rfl
@[simp] theorem Dev.power_ctxs (d : Dev) (n : Nat) (v : Bool) : (d.power n v).ctxs = d.ctxs := rfl
@[simp] theorem Dev.power_bundles (d : Dev) (n : Nat) (v : Bool) : (d.power n v).bundles = d.bundles := rfl
@[simp] theorem Dev.power_sw (d : Dev) (n : Nat) (v : Bool) : (d.power n v).sw = d.sw := rfl
@[simp] theorem Dev.power_cellar (d : Dev) (n : Nat) (v : Bool) : (d.power n v).cellar = d.cellar := rfl
@[simp] theorem Dev.power_time (d : Dev) (n : Nat) (v : Bool) : (d.power n v).time = d.time := rfl
@[simp] theorem Dev.power_segs (d : Dev) (n : Nat) (v : Bool) : (d.power n v).segs = d.segs := rfl
@[simp] theorem Dev.power_motion (d : Dev) (n : Nat) (v : Bool) : (d.power n v).motion = d.motion := rfl
@[simp] theorem Dev.power_logAt (d : Dev) (n : Nat) (v : Bool) : (d.power n v).logAt = d.logAt := rfl
@[simp] theorem Dev.power_stores (d : Dev) (n : Nat) (v : Bool) : (d.power n v).stores = d.stores := rfl
@[simp] theorem Dev.power_out (d : Dev) (n : Nat) (v : Bool) : (d.power n v).out = d.out := rfl
@[simp] theorem Dev.power_work (d : Dev) (n : Nat) (v : Bool) : (d.power n v).work = d.work := rfl

/-! ### markLog -/

@[simp] theorem Dev.markLog_now (d : Dev) (code inst : Nat) : (d.markLog code inst).now = d.now := rfl
@[simp] theorem Dev.markLog_seq (d : Dev) (code inst : Nat) : (d.markLog code inst).seq = d.seq := rfl
@[simp] theorem Dev.markLog_doms (d : Dev) (code inst : Nat) : (d.markLog code inst).doms = d.doms := rfl
@[simp] theorem Dev.markLog_free (d : Dev) (code inst : Nat) : (d.markLog code inst).free = d.free := rfl
@[simp] theorem Dev.markLog_od (d : Dev) (code inst : Nat) : (d.markLog code inst).od = d.od := rfl
@[simp] theorem Dev.markLog_blob (d : Dev) (code inst : Nat) : (d.markLog code inst).blob = d.blob := rfl
@[simp] theorem Dev.markLog_mem (d : Dev) (code inst : Nat) : (d.markLog code inst).mem = d.mem := rfl
@[simp] theorem Dev.markLog_poison (d : Dev) (code inst : Nat) : (d.markLog code inst).poison = d.poison := rfl
@[simp] theorem Dev.markLog_ecc (d : Dev) (code inst : Nat) : (d.markLog code inst).ecc = d.ecc := rfl
@[simp] theorem Dev.markLog_sump (d : Dev) (code inst : Nat) : (d.markLog code inst).sump = d.sump := rfl
@[simp] theorem Dev.markLog_store (d : Dev) (code inst : Nat) : (d.markLog code inst).store = d.store := rfl
@[simp] theorem Dev.markLog_tap (d : Dev) (code inst : Nat) : (d.markLog code inst).tap = d.tap := rfl
@[simp] theorem Dev.markLog_mm (d : Dev) (code inst : Nat) : (d.markLog code inst).mm = d.mm := rfl
@[simp] theorem Dev.markLog_dict (d : Dev) (code inst : Nat) : (d.markLog code inst).dict = d.dict := rfl
@[simp] theorem Dev.markLog_eps (d : Dev) (code inst : Nat) : (d.markLog code inst).eps = d.eps := rfl
@[simp] theorem Dev.markLog_host (d : Dev) (code inst : Nat) : (d.markLog code inst).host = d.host := rfl
@[simp] theorem Dev.markLog_gather (d : Dev) (code inst : Nat) : (d.markLog code inst).gather = d.gather := rfl
@[simp] theorem Dev.markLog_ports (d : Dev) (code inst : Nat) : (d.markLog code inst).ports = d.ports := rfl
@[simp] theorem Dev.markLog_tiles (d : Dev) (code inst : Nat) : (d.markLog code inst).tiles = d.tiles := rfl
@[simp] theorem Dev.markLog_macs (d : Dev) (code inst : Nat) : (d.markLog code inst).macs = d.macs := rfl
@[simp] theorem Dev.markLog_ups (d : Dev) (code inst : Nat) : (d.markLog code inst).ups = d.ups := rfl
@[simp] theorem Dev.markLog_buses (d : Dev) (code inst : Nat) : (d.markLog code inst).buses = d.buses := rfl
@[simp] theorem Dev.markLog_engines (d : Dev) (code inst : Nat) : (d.markLog code inst).engines = d.engines := rfl
@[simp] theorem Dev.markLog_chans (d : Dev) (code inst : Nat) : (d.markLog code inst).chans = d.chans := rfl
@[simp] theorem Dev.markLog_cores (d : Dev) (code inst : Nat) : (d.markLog code inst).cores = d.cores := rfl
@[simp] theorem Dev.markLog_ctxs (d : Dev) (code inst : Nat) : (d.markLog code inst).ctxs = d.ctxs := rfl
@[simp] theorem Dev.markLog_bundles (d : Dev) (code inst : Nat) : (d.markLog code inst).bundles = d.bundles := rfl
@[simp] theorem Dev.markLog_sw (d : Dev) (code inst : Nat) : (d.markLog code inst).sw = d.sw := rfl
@[simp] theorem Dev.markLog_cellar (d : Dev) (code inst : Nat) : (d.markLog code inst).cellar = d.cellar := rfl
@[simp] theorem Dev.markLog_time (d : Dev) (code inst : Nat) : (d.markLog code inst).time = d.time := rfl
@[simp] theorem Dev.markLog_segs (d : Dev) (code inst : Nat) : (d.markLog code inst).segs = d.segs := rfl
@[simp] theorem Dev.markLog_motion (d : Dev) (code inst : Nat) : (d.markLog code inst).motion = d.motion := rfl
@[simp] theorem Dev.markLog_logAt (d : Dev) (code inst : Nat) : (d.markLog code inst).logAt = mput d.logAt (code * 65536 + inst) d.now := rfl
@[simp] theorem Dev.markLog_stores (d : Dev) (code inst : Nat) : (d.markLog code inst).stores = d.stores := rfl
@[simp] theorem Dev.markLog_out (d : Dev) (code inst : Nat) : (d.markLog code inst).out = d.out := rfl
@[simp] theorem Dev.markLog_work (d : Dev) (code inst : Nat) : (d.markLog code inst).work = d.work := rfl

/-! ### modPort -/

@[simp] theorem Dev.modPort_now (d : Dev) (p : Nat) (f : Port → Port) : (d.modPort p f).now = d.now := rfl
@[simp] theorem Dev.modPort_seq (d : Dev) (p : Nat) (f : Port → Port) : (d.modPort p f).seq = d.seq := rfl
@[simp] theorem Dev.modPort_doms (d : Dev) (p : Nat) (f : Port → Port) : (d.modPort p f).doms = d.doms := rfl
@[simp] theorem Dev.modPort_free (d : Dev) (p : Nat) (f : Port → Port) : (d.modPort p f).free = d.free := rfl
@[simp] theorem Dev.modPort_od (d : Dev) (p : Nat) (f : Port → Port) : (d.modPort p f).od = d.od := rfl
@[simp] theorem Dev.modPort_blob (d : Dev) (p : Nat) (f : Port → Port) : (d.modPort p f).blob = d.blob := rfl
@[simp] theorem Dev.modPort_mem (d : Dev) (p : Nat) (f : Port → Port) : (d.modPort p f).mem = d.mem := rfl
@[simp] theorem Dev.modPort_poison (d : Dev) (p : Nat) (f : Port → Port) : (d.modPort p f).poison = d.poison := rfl
@[simp] theorem Dev.modPort_ecc (d : Dev) (p : Nat) (f : Port → Port) : (d.modPort p f).ecc = d.ecc := rfl
@[simp] theorem Dev.modPort_sump (d : Dev) (p : Nat) (f : Port → Port) : (d.modPort p f).sump = d.sump := rfl
@[simp] theorem Dev.modPort_store (d : Dev) (p : Nat) (f : Port → Port) : (d.modPort p f).store = d.store := rfl
@[simp] theorem Dev.modPort_tap (d : Dev) (p : Nat) (f : Port → Port) : (d.modPort p f).tap = d.tap := rfl
@[simp] theorem Dev.modPort_mm (d : Dev) (p : Nat) (f : Port → Port) : (d.modPort p f).mm = d.mm := rfl
@[simp] theorem Dev.modPort_dict (d : Dev) (p : Nat) (f : Port → Port) : (d.modPort p f).dict = d.dict := rfl
@[simp] theorem Dev.modPort_eps (d : Dev) (p : Nat) (f : Port → Port) : (d.modPort p f).eps = d.eps := rfl
@[simp] theorem Dev.modPort_host (d : Dev) (p : Nat) (f : Port → Port) : (d.modPort p f).host = d.host := rfl
@[simp] theorem Dev.modPort_gather (d : Dev) (p : Nat) (f : Port → Port) : (d.modPort p f).gather = d.gather := rfl
@[simp] theorem Dev.modPort_ports (d : Dev) (p : Nat) (f : Port → Port) : (d.modPort p f).ports = mmod d.ports p {} f := rfl
@[simp] theorem Dev.modPort_tiles (d : Dev) (p : Nat) (f : Port → Port) : (d.modPort p f).tiles = d.tiles := rfl
@[simp] theorem Dev.modPort_macs (d : Dev) (p : Nat) (f : Port → Port) : (d.modPort p f).macs = d.macs := rfl
@[simp] theorem Dev.modPort_ups (d : Dev) (p : Nat) (f : Port → Port) : (d.modPort p f).ups = d.ups := rfl
@[simp] theorem Dev.modPort_buses (d : Dev) (p : Nat) (f : Port → Port) : (d.modPort p f).buses = d.buses := rfl
@[simp] theorem Dev.modPort_engines (d : Dev) (p : Nat) (f : Port → Port) : (d.modPort p f).engines = d.engines := rfl
@[simp] theorem Dev.modPort_chans (d : Dev) (p : Nat) (f : Port → Port) : (d.modPort p f).chans = d.chans := rfl
@[simp] theorem Dev.modPort_cores (d : Dev) (p : Nat) (f : Port → Port) : (d.modPort p f).cores = d.cores := rfl
@[simp] theorem Dev.modPort_ctxs (d : Dev) (p : Nat) (f : Port → Port) : (d.modPort p f).ctxs = d.ctxs := rfl
@[simp] theorem Dev.modPort_bundles (d : Dev) (p : Nat) (f : Port → Port) : (d.modPort p f).bundles = d.bundles := rfl
@[simp] theorem Dev.modPort_sw (d : Dev) (p : Nat) (f : Port → Port) : (d.modPort p f).sw = d.sw := rfl
@[simp] theorem Dev.modPort_cellar (d : Dev) (p : Nat) (f : Port → Port) : (d.modPort p f).cellar = d.cellar := rfl
@[simp] theorem Dev.modPort_time (d : Dev) (p : Nat) (f : Port → Port) : (d.modPort p f).time = d.time := rfl
@[simp] theorem Dev.modPort_segs (d : Dev) (p : Nat) (f : Port → Port) : (d.modPort p f).segs = d.segs := rfl
@[simp] theorem Dev.modPort_motion (d : Dev) (p : Nat) (f : Port → Port) : (d.modPort p f).motion = d.motion := rfl
@[simp] theorem Dev.modPort_logAt (d : Dev) (p : Nat) (f : Port → Port) : (d.modPort p f).logAt = d.logAt := rfl
@[simp] theorem Dev.modPort_stores (d : Dev) (p : Nat) (f : Port → Port) : (d.modPort p f).stores = d.stores := rfl
@[simp] theorem Dev.modPort_out (d : Dev) (p : Nat) (f : Port → Port) : (d.modPort p f).out = d.out := rfl
@[simp] theorem Dev.modPort_work (d : Dev) (p : Nat) (f : Port → Port) : (d.modPort p f).work = d.work := rfl

/-! ### modTile -/

@[simp] theorem Dev.modTile_now (d : Dev) (p : Nat) (f : Tile → Tile) : (d.modTile p f).now = d.now := rfl
@[simp] theorem Dev.modTile_seq (d : Dev) (p : Nat) (f : Tile → Tile) : (d.modTile p f).seq = d.seq := rfl
@[simp] theorem Dev.modTile_doms (d : Dev) (p : Nat) (f : Tile → Tile) : (d.modTile p f).doms = d.doms := rfl
@[simp] theorem Dev.modTile_free (d : Dev) (p : Nat) (f : Tile → Tile) : (d.modTile p f).free = d.free := rfl
@[simp] theorem Dev.modTile_od (d : Dev) (p : Nat) (f : Tile → Tile) : (d.modTile p f).od = d.od := rfl
@[simp] theorem Dev.modTile_blob (d : Dev) (p : Nat) (f : Tile → Tile) : (d.modTile p f).blob = d.blob := rfl
@[simp] theorem Dev.modTile_mem (d : Dev) (p : Nat) (f : Tile → Tile) : (d.modTile p f).mem = d.mem := rfl
@[simp] theorem Dev.modTile_poison (d : Dev) (p : Nat) (f : Tile → Tile) : (d.modTile p f).poison = d.poison := rfl
@[simp] theorem Dev.modTile_ecc (d : Dev) (p : Nat) (f : Tile → Tile) : (d.modTile p f).ecc = d.ecc := rfl
@[simp] theorem Dev.modTile_sump (d : Dev) (p : Nat) (f : Tile → Tile) : (d.modTile p f).sump = d.sump := rfl
@[simp] theorem Dev.modTile_store (d : Dev) (p : Nat) (f : Tile → Tile) : (d.modTile p f).store = d.store := rfl
@[simp] theorem Dev.modTile_tap (d : Dev) (p : Nat) (f : Tile → Tile) : (d.modTile p f).tap = d.tap := rfl
@[simp] theorem Dev.modTile_mm (d : Dev) (p : Nat) (f : Tile → Tile) : (d.modTile p f).mm = d.mm := rfl
@[simp] theorem Dev.modTile_dict (d : Dev) (p : Nat) (f : Tile → Tile) : (d.modTile p f).dict = d.dict := rfl
@[simp] theorem Dev.modTile_eps (d : Dev) (p : Nat) (f : Tile → Tile) : (d.modTile p f).eps = d.eps := rfl
@[simp] theorem Dev.modTile_host (d : Dev) (p : Nat) (f : Tile → Tile) : (d.modTile p f).host = d.host := rfl
@[simp] theorem Dev.modTile_gather (d : Dev) (p : Nat) (f : Tile → Tile) : (d.modTile p f).gather = d.gather := rfl
@[simp] theorem Dev.modTile_ports (d : Dev) (p : Nat) (f : Tile → Tile) : (d.modTile p f).ports = d.ports := rfl
@[simp] theorem Dev.modTile_tiles (d : Dev) (p : Nat) (f : Tile → Tile) : (d.modTile p f).tiles = mmod d.tiles p {} f := rfl
@[simp] theorem Dev.modTile_macs (d : Dev) (p : Nat) (f : Tile → Tile) : (d.modTile p f).macs = d.macs := rfl
@[simp] theorem Dev.modTile_ups (d : Dev) (p : Nat) (f : Tile → Tile) : (d.modTile p f).ups = d.ups := rfl
@[simp] theorem Dev.modTile_buses (d : Dev) (p : Nat) (f : Tile → Tile) : (d.modTile p f).buses = d.buses := rfl
@[simp] theorem Dev.modTile_engines (d : Dev) (p : Nat) (f : Tile → Tile) : (d.modTile p f).engines = d.engines := rfl
@[simp] theorem Dev.modTile_chans (d : Dev) (p : Nat) (f : Tile → Tile) : (d.modTile p f).chans = d.chans := rfl
@[simp] theorem Dev.modTile_cores (d : Dev) (p : Nat) (f : Tile → Tile) : (d.modTile p f).cores = d.cores := rfl
@[simp] theorem Dev.modTile_ctxs (d : Dev) (p : Nat) (f : Tile → Tile) : (d.modTile p f).ctxs = d.ctxs := rfl
@[simp] theorem Dev.modTile_bundles (d : Dev) (p : Nat) (f : Tile → Tile) : (d.modTile p f).bundles = d.bundles := rfl
@[simp] theorem Dev.modTile_sw (d : Dev) (p : Nat) (f : Tile → Tile) : (d.modTile p f).sw = d.sw := rfl
@[simp] theorem Dev.modTile_cellar (d : Dev) (p : Nat) (f : Tile → Tile) : (d.modTile p f).cellar = d.cellar := rfl
@[simp] theorem Dev.modTile_time (d : Dev) (p : Nat) (f : Tile → Tile) : (d.modTile p f).time = d.time := rfl
@[simp] theorem Dev.modTile_segs (d : Dev) (p : Nat) (f : Tile → Tile) : (d.modTile p f).segs = d.segs := rfl
@[simp] theorem Dev.modTile_motion (d : Dev) (p : Nat) (f : Tile → Tile) : (d.modTile p f).motion = d.motion := rfl
@[simp] theorem Dev.modTile_logAt (d : Dev) (p : Nat) (f : Tile → Tile) : (d.modTile p f).logAt = d.logAt := rfl
@[simp] theorem Dev.modTile_stores (d : Dev) (p : Nat) (f : Tile → Tile) : (d.modTile p f).stores = d.stores := rfl
@[simp] theorem Dev.modTile_out (d : Dev) (p : Nat) (f : Tile → Tile) : (d.modTile p f).out = d.out := rfl
@[simp] theorem Dev.modTile_work (d : Dev) (p : Nat) (f : Tile → Tile) : (d.modTile p f).work = d.work := rfl

/-! ### modMac -/

@[simp] theorem Dev.modMac_now (d : Dev) (p : Nat) (f : Mac → Mac) : (d.modMac p f).now = d.now := rfl
@[simp] theorem Dev.modMac_seq (d : Dev) (p : Nat) (f : Mac → Mac) : (d.modMac p f).seq = d.seq := rfl
@[simp] theorem Dev.modMac_doms (d : Dev) (p : Nat) (f : Mac → Mac) : (d.modMac p f).doms = d.doms := rfl
@[simp] theorem Dev.modMac_free (d : Dev) (p : Nat) (f : Mac → Mac) : (d.modMac p f).free = d.free := rfl
@[simp] theorem Dev.modMac_od (d : Dev) (p : Nat) (f : Mac → Mac) : (d.modMac p f).od = d.od := rfl
@[simp] theorem Dev.modMac_blob (d : Dev) (p : Nat) (f : Mac → Mac) : (d.modMac p f).blob = d.blob := rfl
@[simp] theorem Dev.modMac_mem (d : Dev) (p : Nat) (f : Mac → Mac) : (d.modMac p f).mem = d.mem := rfl
@[simp] theorem Dev.modMac_poison (d : Dev) (p : Nat) (f : Mac → Mac) : (d.modMac p f).poison = d.poison := rfl
@[simp] theorem Dev.modMac_ecc (d : Dev) (p : Nat) (f : Mac → Mac) : (d.modMac p f).ecc = d.ecc := rfl
@[simp] theorem Dev.modMac_sump (d : Dev) (p : Nat) (f : Mac → Mac) : (d.modMac p f).sump = d.sump := rfl
@[simp] theorem Dev.modMac_store (d : Dev) (p : Nat) (f : Mac → Mac) : (d.modMac p f).store = d.store := rfl
@[simp] theorem Dev.modMac_tap (d : Dev) (p : Nat) (f : Mac → Mac) : (d.modMac p f).tap = d.tap := rfl
@[simp] theorem Dev.modMac_mm (d : Dev) (p : Nat) (f : Mac → Mac) : (d.modMac p f).mm = d.mm := rfl
@[simp] theorem Dev.modMac_dict (d : Dev) (p : Nat) (f : Mac → Mac) : (d.modMac p f).dict = d.dict := rfl
@[simp] theorem Dev.modMac_eps (d : Dev) (p : Nat) (f : Mac → Mac) : (d.modMac p f).eps = d.eps := rfl
@[simp] theorem Dev.modMac_host (d : Dev) (p : Nat) (f : Mac → Mac) : (d.modMac p f).host = d.host := rfl
@[simp] theorem Dev.modMac_gather (d : Dev) (p : Nat) (f : Mac → Mac) : (d.modMac p f).gather = d.gather := rfl
@[simp] theorem Dev.modMac_ports (d : Dev) (p : Nat) (f : Mac → Mac) : (d.modMac p f).ports = d.ports := rfl
@[simp] theorem Dev.modMac_tiles (d : Dev) (p : Nat) (f : Mac → Mac) : (d.modMac p f).tiles = d.tiles := rfl
@[simp] theorem Dev.modMac_macs (d : Dev) (p : Nat) (f : Mac → Mac) : (d.modMac p f).macs = mmod d.macs p {} f := rfl
@[simp] theorem Dev.modMac_ups (d : Dev) (p : Nat) (f : Mac → Mac) : (d.modMac p f).ups = d.ups := rfl
@[simp] theorem Dev.modMac_buses (d : Dev) (p : Nat) (f : Mac → Mac) : (d.modMac p f).buses = d.buses := rfl
@[simp] theorem Dev.modMac_engines (d : Dev) (p : Nat) (f : Mac → Mac) : (d.modMac p f).engines = d.engines := rfl
@[simp] theorem Dev.modMac_chans (d : Dev) (p : Nat) (f : Mac → Mac) : (d.modMac p f).chans = d.chans := rfl
@[simp] theorem Dev.modMac_cores (d : Dev) (p : Nat) (f : Mac → Mac) : (d.modMac p f).cores = d.cores := rfl
@[simp] theorem Dev.modMac_ctxs (d : Dev) (p : Nat) (f : Mac → Mac) : (d.modMac p f).ctxs = d.ctxs := rfl
@[simp] theorem Dev.modMac_bundles (d : Dev) (p : Nat) (f : Mac → Mac) : (d.modMac p f).bundles = d.bundles := rfl
@[simp] theorem Dev.modMac_sw (d : Dev) (p : Nat) (f : Mac → Mac) : (d.modMac p f).sw = d.sw := rfl
@[simp] theorem Dev.modMac_cellar (d : Dev) (p : Nat) (f : Mac → Mac) : (d.modMac p f).cellar = d.cellar := rfl
@[simp] theorem Dev.modMac_time (d : Dev) (p : Nat) (f : Mac → Mac) : (d.modMac p f).time = d.time := rfl
@[simp] theorem Dev.modMac_segs (d : Dev) (p : Nat) (f : Mac → Mac) : (d.modMac p f).segs = d.segs := rfl
@[simp] theorem Dev.modMac_motion (d : Dev) (p : Nat) (f : Mac → Mac) : (d.modMac p f).motion = d.motion := rfl
@[simp] theorem Dev.modMac_logAt (d : Dev) (p : Nat) (f : Mac → Mac) : (d.modMac p f).logAt = d.logAt := rfl
@[simp] theorem Dev.modMac_stores (d : Dev) (p : Nat) (f : Mac → Mac) : (d.modMac p f).stores = d.stores := rfl
@[simp] theorem Dev.modMac_out (d : Dev) (p : Nat) (f : Mac → Mac) : (d.modMac p f).out = d.out := rfl
@[simp] theorem Dev.modMac_work (d : Dev) (p : Nat) (f : Mac → Mac) : (d.modMac p f).work = d.work := rfl

/-! ### modUp -/

@[simp] theorem Dev.modUp_now (d : Dev) (p : Nat) (f : Uplink → Uplink) : (d.modUp p f).now = d.now := rfl
@[simp] theorem Dev.modUp_seq (d : Dev) (p : Nat) (f : Uplink → Uplink) : (d.modUp p f).seq = d.seq := rfl
@[simp] theorem Dev.modUp_doms (d : Dev) (p : Nat) (f : Uplink → Uplink) : (d.modUp p f).doms = d.doms := rfl
@[simp] theorem Dev.modUp_free (d : Dev) (p : Nat) (f : Uplink → Uplink) : (d.modUp p f).free = d.free := rfl
@[simp] theorem Dev.modUp_od (d : Dev) (p : Nat) (f : Uplink → Uplink) : (d.modUp p f).od = d.od := rfl
@[simp] theorem Dev.modUp_blob (d : Dev) (p : Nat) (f : Uplink → Uplink) : (d.modUp p f).blob = d.blob := rfl
@[simp] theorem Dev.modUp_mem (d : Dev) (p : Nat) (f : Uplink → Uplink) : (d.modUp p f).mem = d.mem := rfl
@[simp] theorem Dev.modUp_poison (d : Dev) (p : Nat) (f : Uplink → Uplink) : (d.modUp p f).poison = d.poison := rfl
@[simp] theorem Dev.modUp_ecc (d : Dev) (p : Nat) (f : Uplink → Uplink) : (d.modUp p f).ecc = d.ecc := rfl
@[simp] theorem Dev.modUp_sump (d : Dev) (p : Nat) (f : Uplink → Uplink) : (d.modUp p f).sump = d.sump := rfl
@[simp] theorem Dev.modUp_store (d : Dev) (p : Nat) (f : Uplink → Uplink) : (d.modUp p f).store = d.store := rfl
@[simp] theorem Dev.modUp_tap (d : Dev) (p : Nat) (f : Uplink → Uplink) : (d.modUp p f).tap = d.tap := rfl
@[simp] theorem Dev.modUp_mm (d : Dev) (p : Nat) (f : Uplink → Uplink) : (d.modUp p f).mm = d.mm := rfl
@[simp] theorem Dev.modUp_dict (d : Dev) (p : Nat) (f : Uplink → Uplink) : (d.modUp p f).dict = d.dict := rfl
@[simp] theorem Dev.modUp_eps (d : Dev) (p : Nat) (f : Uplink → Uplink) : (d.modUp p f).eps = d.eps := rfl
@[simp] theorem Dev.modUp_host (d : Dev) (p : Nat) (f : Uplink → Uplink) : (d.modUp p f).host = d.host := rfl
@[simp] theorem Dev.modUp_gather (d : Dev) (p : Nat) (f : Uplink → Uplink) : (d.modUp p f).gather = d.gather := rfl
@[simp] theorem Dev.modUp_ports (d : Dev) (p : Nat) (f : Uplink → Uplink) : (d.modUp p f).ports = d.ports := rfl
@[simp] theorem Dev.modUp_tiles (d : Dev) (p : Nat) (f : Uplink → Uplink) : (d.modUp p f).tiles = d.tiles := rfl
@[simp] theorem Dev.modUp_macs (d : Dev) (p : Nat) (f : Uplink → Uplink) : (d.modUp p f).macs = d.macs := rfl
@[simp] theorem Dev.modUp_ups (d : Dev) (p : Nat) (f : Uplink → Uplink) : (d.modUp p f).ups = mmod d.ups p {} f := rfl
@[simp] theorem Dev.modUp_buses (d : Dev) (p : Nat) (f : Uplink → Uplink) : (d.modUp p f).buses = d.buses := rfl
@[simp] theorem Dev.modUp_engines (d : Dev) (p : Nat) (f : Uplink → Uplink) : (d.modUp p f).engines = d.engines := rfl
@[simp] theorem Dev.modUp_chans (d : Dev) (p : Nat) (f : Uplink → Uplink) : (d.modUp p f).chans = d.chans := rfl
@[simp] theorem Dev.modUp_cores (d : Dev) (p : Nat) (f : Uplink → Uplink) : (d.modUp p f).cores = d.cores := rfl
@[simp] theorem Dev.modUp_ctxs (d : Dev) (p : Nat) (f : Uplink → Uplink) : (d.modUp p f).ctxs = d.ctxs := rfl
@[simp] theorem Dev.modUp_bundles (d : Dev) (p : Nat) (f : Uplink → Uplink) : (d.modUp p f).bundles = d.bundles := rfl
@[simp] theorem Dev.modUp_sw (d : Dev) (p : Nat) (f : Uplink → Uplink) : (d.modUp p f).sw = d.sw := rfl
@[simp] theorem Dev.modUp_cellar (d : Dev) (p : Nat) (f : Uplink → Uplink) : (d.modUp p f).cellar = d.cellar := rfl
@[simp] theorem Dev.modUp_time (d : Dev) (p : Nat) (f : Uplink → Uplink) : (d.modUp p f).time = d.time := rfl
@[simp] theorem Dev.modUp_segs (d : Dev) (p : Nat) (f : Uplink → Uplink) : (d.modUp p f).segs = d.segs := rfl
@[simp] theorem Dev.modUp_motion (d : Dev) (p : Nat) (f : Uplink → Uplink) : (d.modUp p f).motion = d.motion := rfl
@[simp] theorem Dev.modUp_logAt (d : Dev) (p : Nat) (f : Uplink → Uplink) : (d.modUp p f).logAt = d.logAt := rfl
@[simp] theorem Dev.modUp_stores (d : Dev) (p : Nat) (f : Uplink → Uplink) : (d.modUp p f).stores = d.stores := rfl
@[simp] theorem Dev.modUp_out (d : Dev) (p : Nat) (f : Uplink → Uplink) : (d.modUp p f).out = d.out := rfl
@[simp] theorem Dev.modUp_work (d : Dev) (p : Nat) (f : Uplink → Uplink) : (d.modUp p f).work = d.work := rfl

/-! ### modBus -/

@[simp] theorem Dev.modBus_now (d : Dev) (p : Nat) (f : BusCtl → BusCtl) : (d.modBus p f).now = d.now := rfl
@[simp] theorem Dev.modBus_seq (d : Dev) (p : Nat) (f : BusCtl → BusCtl) : (d.modBus p f).seq = d.seq := rfl
@[simp] theorem Dev.modBus_doms (d : Dev) (p : Nat) (f : BusCtl → BusCtl) : (d.modBus p f).doms = d.doms := rfl
@[simp] theorem Dev.modBus_free (d : Dev) (p : Nat) (f : BusCtl → BusCtl) : (d.modBus p f).free = d.free := rfl
@[simp] theorem Dev.modBus_od (d : Dev) (p : Nat) (f : BusCtl → BusCtl) : (d.modBus p f).od = d.od := rfl
@[simp] theorem Dev.modBus_blob (d : Dev) (p : Nat) (f : BusCtl → BusCtl) : (d.modBus p f).blob = d.blob := rfl
@[simp] theorem Dev.modBus_mem (d : Dev) (p : Nat) (f : BusCtl → BusCtl) : (d.modBus p f).mem = d.mem := rfl
@[simp] theorem Dev.modBus_poison (d : Dev) (p : Nat) (f : BusCtl → BusCtl) : (d.modBus p f).poison = d.poison := rfl
@[simp] theorem Dev.modBus_ecc (d : Dev) (p : Nat) (f : BusCtl → BusCtl) : (d.modBus p f).ecc = d.ecc := rfl
@[simp] theorem Dev.modBus_sump (d : Dev) (p : Nat) (f : BusCtl → BusCtl) : (d.modBus p f).sump = d.sump := rfl
@[simp] theorem Dev.modBus_store (d : Dev) (p : Nat) (f : BusCtl → BusCtl) : (d.modBus p f).store = d.store := rfl
@[simp] theorem Dev.modBus_tap (d : Dev) (p : Nat) (f : BusCtl → BusCtl) : (d.modBus p f).tap = d.tap := rfl
@[simp] theorem Dev.modBus_mm (d : Dev) (p : Nat) (f : BusCtl → BusCtl) : (d.modBus p f).mm = d.mm := rfl
@[simp] theorem Dev.modBus_dict (d : Dev) (p : Nat) (f : BusCtl → BusCtl) : (d.modBus p f).dict = d.dict := rfl
@[simp] theorem Dev.modBus_eps (d : Dev) (p : Nat) (f : BusCtl → BusCtl) : (d.modBus p f).eps = d.eps := rfl
@[simp] theorem Dev.modBus_host (d : Dev) (p : Nat) (f : BusCtl → BusCtl) : (d.modBus p f).host = d.host := rfl
@[simp] theorem Dev.modBus_gather (d : Dev) (p : Nat) (f : BusCtl → BusCtl) : (d.modBus p f).gather = d.gather := rfl
@[simp] theorem Dev.modBus_ports (d : Dev) (p : Nat) (f : BusCtl → BusCtl) : (d.modBus p f).ports = d.ports := rfl
@[simp] theorem Dev.modBus_tiles (d : Dev) (p : Nat) (f : BusCtl → BusCtl) : (d.modBus p f).tiles = d.tiles := rfl
@[simp] theorem Dev.modBus_macs (d : Dev) (p : Nat) (f : BusCtl → BusCtl) : (d.modBus p f).macs = d.macs := rfl
@[simp] theorem Dev.modBus_ups (d : Dev) (p : Nat) (f : BusCtl → BusCtl) : (d.modBus p f).ups = d.ups := rfl
@[simp] theorem Dev.modBus_buses (d : Dev) (p : Nat) (f : BusCtl → BusCtl) : (d.modBus p f).buses = mmod d.buses p {} f := rfl
@[simp] theorem Dev.modBus_engines (d : Dev) (p : Nat) (f : BusCtl → BusCtl) : (d.modBus p f).engines = d.engines := rfl
@[simp] theorem Dev.modBus_chans (d : Dev) (p : Nat) (f : BusCtl → BusCtl) : (d.modBus p f).chans = d.chans := rfl
@[simp] theorem Dev.modBus_cores (d : Dev) (p : Nat) (f : BusCtl → BusCtl) : (d.modBus p f).cores = d.cores := rfl
@[simp] theorem Dev.modBus_ctxs (d : Dev) (p : Nat) (f : BusCtl → BusCtl) : (d.modBus p f).ctxs = d.ctxs := rfl
@[simp] theorem Dev.modBus_bundles (d : Dev) (p : Nat) (f : BusCtl → BusCtl) : (d.modBus p f).bundles = d.bundles := rfl
@[simp] theorem Dev.modBus_sw (d : Dev) (p : Nat) (f : BusCtl → BusCtl) : (d.modBus p f).sw = d.sw := rfl
@[simp] theorem Dev.modBus_cellar (d : Dev) (p : Nat) (f : BusCtl → BusCtl) : (d.modBus p f).cellar = d.cellar := rfl
@[simp] theorem Dev.modBus_time (d : Dev) (p : Nat) (f : BusCtl → BusCtl) : (d.modBus p f).time = d.time := rfl
@[simp] theorem Dev.modBus_segs (d : Dev) (p : Nat) (f : BusCtl → BusCtl) : (d.modBus p f).segs = d.segs := rfl
@[simp] theorem Dev.modBus_motion (d : Dev) (p : Nat) (f : BusCtl → BusCtl) : (d.modBus p f).motion = d.motion := rfl
@[simp] theorem Dev.modBus_logAt (d : Dev) (p : Nat) (f : BusCtl → BusCtl) : (d.modBus p f).logAt = d.logAt := rfl
@[simp] theorem Dev.modBus_stores (d : Dev) (p : Nat) (f : BusCtl → BusCtl) : (d.modBus p f).stores = d.stores := rfl
@[simp] theorem Dev.modBus_out (d : Dev) (p : Nat) (f : BusCtl → BusCtl) : (d.modBus p f).out = d.out := rfl
@[simp] theorem Dev.modBus_work (d : Dev) (p : Nat) (f : BusCtl → BusCtl) : (d.modBus p f).work = d.work := rfl

/-! ### modEngine -/

@[simp] theorem Dev.modEngine_now (d : Dev) (p : Nat) (f : Engine → Engine) : (d.modEngine p f).now = d.now := rfl
@[simp] theorem Dev.modEngine_seq (d : Dev) (p : Nat) (f : Engine → Engine) : (d.modEngine p f).seq = d.seq := rfl
@[simp] theorem Dev.modEngine_doms (d : Dev) (p : Nat) (f : Engine → Engine) : (d.modEngine p f).doms = d.doms := rfl
@[simp] theorem Dev.modEngine_free (d : Dev) (p : Nat) (f : Engine → Engine) : (d.modEngine p f).free = d.free := rfl
@[simp] theorem Dev.modEngine_od (d : Dev) (p : Nat) (f : Engine → Engine) : (d.modEngine p f).od = d.od := rfl
@[simp] theorem Dev.modEngine_blob (d : Dev) (p : Nat) (f : Engine → Engine) : (d.modEngine p f).blob = d.blob := rfl
@[simp] theorem Dev.modEngine_mem (d : Dev) (p : Nat) (f : Engine → Engine) : (d.modEngine p f).mem = d.mem := rfl
@[simp] theorem Dev.modEngine_poison (d : Dev) (p : Nat) (f : Engine → Engine) : (d.modEngine p f).poison = d.poison := rfl
@[simp] theorem Dev.modEngine_ecc (d : Dev) (p : Nat) (f : Engine → Engine) : (d.modEngine p f).ecc = d.ecc := rfl
@[simp] theorem Dev.modEngine_sump (d : Dev) (p : Nat) (f : Engine → Engine) : (d.modEngine p f).sump = d.sump := rfl
@[simp] theorem Dev.modEngine_store (d : Dev) (p : Nat) (f : Engine → Engine) : (d.modEngine p f).store = d.store := rfl
@[simp] theorem Dev.modEngine_tap (d : Dev) (p : Nat) (f : Engine → Engine) : (d.modEngine p f).tap = d.tap := rfl
@[simp] theorem Dev.modEngine_mm (d : Dev) (p : Nat) (f : Engine → Engine) : (d.modEngine p f).mm = d.mm := rfl
@[simp] theorem Dev.modEngine_dict (d : Dev) (p : Nat) (f : Engine → Engine) : (d.modEngine p f).dict = d.dict := rfl
@[simp] theorem Dev.modEngine_eps (d : Dev) (p : Nat) (f : Engine → Engine) : (d.modEngine p f).eps = d.eps := rfl
@[simp] theorem Dev.modEngine_host (d : Dev) (p : Nat) (f : Engine → Engine) : (d.modEngine p f).host = d.host := rfl
@[simp] theorem Dev.modEngine_gather (d : Dev) (p : Nat) (f : Engine → Engine) : (d.modEngine p f).gather = d.gather := rfl
@[simp] theorem Dev.modEngine_ports (d : Dev) (p : Nat) (f : Engine → Engine) : (d.modEngine p f).ports = d.ports := rfl
@[simp] theorem Dev.modEngine_tiles (d : Dev) (p : Nat) (f : Engine → Engine) : (d.modEngine p f).tiles = d.tiles := rfl
@[simp] theorem Dev.modEngine_macs (d : Dev) (p : Nat) (f : Engine → Engine) : (d.modEngine p f).macs = d.macs := rfl
@[simp] theorem Dev.modEngine_ups (d : Dev) (p : Nat) (f : Engine → Engine) : (d.modEngine p f).ups = d.ups := rfl
@[simp] theorem Dev.modEngine_buses (d : Dev) (p : Nat) (f : Engine → Engine) : (d.modEngine p f).buses = d.buses := rfl
@[simp] theorem Dev.modEngine_engines (d : Dev) (p : Nat) (f : Engine → Engine) : (d.modEngine p f).engines = mmod d.engines p {} f := rfl
@[simp] theorem Dev.modEngine_chans (d : Dev) (p : Nat) (f : Engine → Engine) : (d.modEngine p f).chans = d.chans := rfl
@[simp] theorem Dev.modEngine_cores (d : Dev) (p : Nat) (f : Engine → Engine) : (d.modEngine p f).cores = d.cores := rfl
@[simp] theorem Dev.modEngine_ctxs (d : Dev) (p : Nat) (f : Engine → Engine) : (d.modEngine p f).ctxs = d.ctxs := rfl
@[simp] theorem Dev.modEngine_bundles (d : Dev) (p : Nat) (f : Engine → Engine) : (d.modEngine p f).bundles = d.bundles := rfl
@[simp] theorem Dev.modEngine_sw (d : Dev) (p : Nat) (f : Engine → Engine) : (d.modEngine p f).sw = d.sw := rfl
@[simp] theorem Dev.modEngine_cellar (d : Dev) (p : Nat) (f : Engine → Engine) : (d.modEngine p f).cellar = d.cellar := rfl
@[simp] theorem Dev.modEngine_time (d : Dev) (p : Nat) (f : Engine → Engine) : (d.modEngine p f).time = d.time := rfl
@[simp] theorem Dev.modEngine_segs (d : Dev) (p : Nat) (f : Engine → Engine) : (d.modEngine p f).segs = d.segs := rfl
@[simp] theorem Dev.modEngine_motion (d : Dev) (p : Nat) (f : Engine → Engine) : (d.modEngine p f).motion = d.motion := rfl
@[simp] theorem Dev.modEngine_logAt (d : Dev) (p : Nat) (f : Engine → Engine) : (d.modEngine p f).logAt = d.logAt := rfl
@[simp] theorem Dev.modEngine_stores (d : Dev) (p : Nat) (f : Engine → Engine) : (d.modEngine p f).stores = d.stores := rfl
@[simp] theorem Dev.modEngine_out (d : Dev) (p : Nat) (f : Engine → Engine) : (d.modEngine p f).out = d.out := rfl
@[simp] theorem Dev.modEngine_work (d : Dev) (p : Nat) (f : Engine → Engine) : (d.modEngine p f).work = d.work := rfl

/-! ### modChan -/

@[simp] theorem Dev.modChan_now (d : Dev) (p : Nat) (f : Chan → Chan) : (d.modChan p f).now = d.now := rfl
@[simp] theorem Dev.modChan_seq (d : Dev) (p : Nat) (f : Chan → Chan) : (d.modChan p f).seq = d.seq := rfl
@[simp] theorem Dev.modChan_doms (d : Dev) (p : Nat) (f : Chan → Chan) : (d.modChan p f).doms = d.doms := rfl
@[simp] theorem Dev.modChan_free (d : Dev) (p : Nat) (f : Chan → Chan) : (d.modChan p f).free = d.free := rfl
@[simp] theorem Dev.modChan_od (d : Dev) (p : Nat) (f : Chan → Chan) : (d.modChan p f).od = d.od := rfl
@[simp] theorem Dev.modChan_blob (d : Dev) (p : Nat) (f : Chan → Chan) : (d.modChan p f).blob = d.blob := rfl
@[simp] theorem Dev.modChan_mem (d : Dev) (p : Nat) (f : Chan → Chan) : (d.modChan p f).mem = d.mem := rfl
@[simp] theorem Dev.modChan_poison (d : Dev) (p : Nat) (f : Chan → Chan) : (d.modChan p f).poison = d.poison := rfl
@[simp] theorem Dev.modChan_ecc (d : Dev) (p : Nat) (f : Chan → Chan) : (d.modChan p f).ecc = d.ecc := rfl
@[simp] theorem Dev.modChan_sump (d : Dev) (p : Nat) (f : Chan → Chan) : (d.modChan p f).sump = d.sump := rfl
@[simp] theorem Dev.modChan_store (d : Dev) (p : Nat) (f : Chan → Chan) : (d.modChan p f).store = d.store := rfl
@[simp] theorem Dev.modChan_tap (d : Dev) (p : Nat) (f : Chan → Chan) : (d.modChan p f).tap = d.tap := rfl
@[simp] theorem Dev.modChan_mm (d : Dev) (p : Nat) (f : Chan → Chan) : (d.modChan p f).mm = d.mm := rfl
@[simp] theorem Dev.modChan_dict (d : Dev) (p : Nat) (f : Chan → Chan) : (d.modChan p f).dict = d.dict := rfl
@[simp] theorem Dev.modChan_eps (d : Dev) (p : Nat) (f : Chan → Chan) : (d.modChan p f).eps = d.eps := rfl
@[simp] theorem Dev.modChan_host (d : Dev) (p : Nat) (f : Chan → Chan) : (d.modChan p f).host = d.host := rfl
@[simp] theorem Dev.modChan_gather (d : Dev) (p : Nat) (f : Chan → Chan) : (d.modChan p f).gather = d.gather := rfl
@[simp] theorem Dev.modChan_ports (d : Dev) (p : Nat) (f : Chan → Chan) : (d.modChan p f).ports = d.ports := rfl
@[simp] theorem Dev.modChan_tiles (d : Dev) (p : Nat) (f : Chan → Chan) : (d.modChan p f).tiles = d.tiles := rfl
@[simp] theorem Dev.modChan_macs (d : Dev) (p : Nat) (f : Chan → Chan) : (d.modChan p f).macs = d.macs := rfl
@[simp] theorem Dev.modChan_ups (d : Dev) (p : Nat) (f : Chan → Chan) : (d.modChan p f).ups = d.ups := rfl
@[simp] theorem Dev.modChan_buses (d : Dev) (p : Nat) (f : Chan → Chan) : (d.modChan p f).buses = d.buses := rfl
@[simp] theorem Dev.modChan_engines (d : Dev) (p : Nat) (f : Chan → Chan) : (d.modChan p f).engines = d.engines := rfl
@[simp] theorem Dev.modChan_chans (d : Dev) (p : Nat) (f : Chan → Chan) : (d.modChan p f).chans = mmod d.chans p {} f := rfl
@[simp] theorem Dev.modChan_cores (d : Dev) (p : Nat) (f : Chan → Chan) : (d.modChan p f).cores = d.cores := rfl
@[simp] theorem Dev.modChan_ctxs (d : Dev) (p : Nat) (f : Chan → Chan) : (d.modChan p f).ctxs = d.ctxs := rfl
@[simp] theorem Dev.modChan_bundles (d : Dev) (p : Nat) (f : Chan → Chan) : (d.modChan p f).bundles = d.bundles := rfl
@[simp] theorem Dev.modChan_sw (d : Dev) (p : Nat) (f : Chan → Chan) : (d.modChan p f).sw = d.sw := rfl
@[simp] theorem Dev.modChan_cellar (d : Dev) (p : Nat) (f : Chan → Chan) : (d.modChan p f).cellar = d.cellar := rfl
@[simp] theorem Dev.modChan_time (d : Dev) (p : Nat) (f : Chan → Chan) : (d.modChan p f).time = d.time := rfl
@[simp] theorem Dev.modChan_segs (d : Dev) (p : Nat) (f : Chan → Chan) : (d.modChan p f).segs = d.segs := rfl
@[simp] theorem Dev.modChan_motion (d : Dev) (p : Nat) (f : Chan → Chan) : (d.modChan p f).motion = d.motion := rfl
@[simp] theorem Dev.modChan_logAt (d : Dev) (p : Nat) (f : Chan → Chan) : (d.modChan p f).logAt = d.logAt := rfl
@[simp] theorem Dev.modChan_stores (d : Dev) (p : Nat) (f : Chan → Chan) : (d.modChan p f).stores = d.stores := rfl
@[simp] theorem Dev.modChan_out (d : Dev) (p : Nat) (f : Chan → Chan) : (d.modChan p f).out = d.out := rfl
@[simp] theorem Dev.modChan_work (d : Dev) (p : Nat) (f : Chan → Chan) : (d.modChan p f).work = d.work := rfl

/-! ### modCore -/

@[simp] theorem Dev.modCore_now (d : Dev) (p : Nat) (f : Core → Core) : (d.modCore p f).now = d.now := rfl
@[simp] theorem Dev.modCore_seq (d : Dev) (p : Nat) (f : Core → Core) : (d.modCore p f).seq = d.seq := rfl
@[simp] theorem Dev.modCore_doms (d : Dev) (p : Nat) (f : Core → Core) : (d.modCore p f).doms = d.doms := rfl
@[simp] theorem Dev.modCore_free (d : Dev) (p : Nat) (f : Core → Core) : (d.modCore p f).free = d.free := rfl
@[simp] theorem Dev.modCore_od (d : Dev) (p : Nat) (f : Core → Core) : (d.modCore p f).od = d.od := rfl
@[simp] theorem Dev.modCore_blob (d : Dev) (p : Nat) (f : Core → Core) : (d.modCore p f).blob = d.blob := rfl
@[simp] theorem Dev.modCore_mem (d : Dev) (p : Nat) (f : Core → Core) : (d.modCore p f).mem = d.mem := rfl
@[simp] theorem Dev.modCore_poison (d : Dev) (p : Nat) (f : Core → Core) : (d.modCore p f).poison = d.poison := rfl
@[simp] theorem Dev.modCore_ecc (d : Dev) (p : Nat) (f : Core → Core) : (d.modCore p f).ecc = d.ecc := rfl
@[simp] theorem Dev.modCore_sump (d : Dev) (p : Nat) (f : Core → Core) : (d.modCore p f).sump = d.sump := rfl
@[simp] theorem Dev.modCore_store (d : Dev) (p : Nat) (f : Core → Core) : (d.modCore p f).store = d.store := rfl
@[simp] theorem Dev.modCore_tap (d : Dev) (p : Nat) (f : Core → Core) : (d.modCore p f).tap = d.tap := rfl
@[simp] theorem Dev.modCore_mm (d : Dev) (p : Nat) (f : Core → Core) : (d.modCore p f).mm = d.mm := rfl
@[simp] theorem Dev.modCore_dict (d : Dev) (p : Nat) (f : Core → Core) : (d.modCore p f).dict = d.dict := rfl
@[simp] theorem Dev.modCore_eps (d : Dev) (p : Nat) (f : Core → Core) : (d.modCore p f).eps = d.eps := rfl
@[simp] theorem Dev.modCore_host (d : Dev) (p : Nat) (f : Core → Core) : (d.modCore p f).host = d.host := rfl
@[simp] theorem Dev.modCore_gather (d : Dev) (p : Nat) (f : Core → Core) : (d.modCore p f).gather = d.gather := rfl
@[simp] theorem Dev.modCore_ports (d : Dev) (p : Nat) (f : Core → Core) : (d.modCore p f).ports = d.ports := rfl
@[simp] theorem Dev.modCore_tiles (d : Dev) (p : Nat) (f : Core → Core) : (d.modCore p f).tiles = d.tiles := rfl
@[simp] theorem Dev.modCore_macs (d : Dev) (p : Nat) (f : Core → Core) : (d.modCore p f).macs = d.macs := rfl
@[simp] theorem Dev.modCore_ups (d : Dev) (p : Nat) (f : Core → Core) : (d.modCore p f).ups = d.ups := rfl
@[simp] theorem Dev.modCore_buses (d : Dev) (p : Nat) (f : Core → Core) : (d.modCore p f).buses = d.buses := rfl
@[simp] theorem Dev.modCore_engines (d : Dev) (p : Nat) (f : Core → Core) : (d.modCore p f).engines = d.engines := rfl
@[simp] theorem Dev.modCore_chans (d : Dev) (p : Nat) (f : Core → Core) : (d.modCore p f).chans = d.chans := rfl
@[simp] theorem Dev.modCore_cores (d : Dev) (p : Nat) (f : Core → Core) : (d.modCore p f).cores = mmod d.cores p {} f := rfl
@[simp] theorem Dev.modCore_ctxs (d : Dev) (p : Nat) (f : Core → Core) : (d.modCore p f).ctxs = d.ctxs := rfl
@[simp] theorem Dev.modCore_bundles (d : Dev) (p : Nat) (f : Core → Core) : (d.modCore p f).bundles = d.bundles := rfl
@[simp] theorem Dev.modCore_sw (d : Dev) (p : Nat) (f : Core → Core) : (d.modCore p f).sw = d.sw := rfl
@[simp] theorem Dev.modCore_cellar (d : Dev) (p : Nat) (f : Core → Core) : (d.modCore p f).cellar = d.cellar := rfl
@[simp] theorem Dev.modCore_time (d : Dev) (p : Nat) (f : Core → Core) : (d.modCore p f).time = d.time := rfl
@[simp] theorem Dev.modCore_segs (d : Dev) (p : Nat) (f : Core → Core) : (d.modCore p f).segs = d.segs := rfl
@[simp] theorem Dev.modCore_motion (d : Dev) (p : Nat) (f : Core → Core) : (d.modCore p f).motion = d.motion := rfl
@[simp] theorem Dev.modCore_logAt (d : Dev) (p : Nat) (f : Core → Core) : (d.modCore p f).logAt = d.logAt := rfl
@[simp] theorem Dev.modCore_stores (d : Dev) (p : Nat) (f : Core → Core) : (d.modCore p f).stores = d.stores := rfl
@[simp] theorem Dev.modCore_out (d : Dev) (p : Nat) (f : Core → Core) : (d.modCore p f).out = d.out := rfl
@[simp] theorem Dev.modCore_work (d : Dev) (p : Nat) (f : Core → Core) : (d.modCore p f).work = d.work := rfl

/-! ### modCtx -/

@[simp] theorem Dev.modCtx_now (d : Dev) (p : Nat) (f : Ctx → Ctx) : (d.modCtx p f).now = d.now := rfl
@[simp] theorem Dev.modCtx_seq (d : Dev) (p : Nat) (f : Ctx → Ctx) : (d.modCtx p f).seq = d.seq := rfl
@[simp] theorem Dev.modCtx_doms (d : Dev) (p : Nat) (f : Ctx → Ctx) : (d.modCtx p f).doms = d.doms := rfl
@[simp] theorem Dev.modCtx_free (d : Dev) (p : Nat) (f : Ctx → Ctx) : (d.modCtx p f).free = d.free := rfl
@[simp] theorem Dev.modCtx_od (d : Dev) (p : Nat) (f : Ctx → Ctx) : (d.modCtx p f).od = d.od := rfl
@[simp] theorem Dev.modCtx_blob (d : Dev) (p : Nat) (f : Ctx → Ctx) : (d.modCtx p f).blob = d.blob := rfl
@[simp] theorem Dev.modCtx_mem (d : Dev) (p : Nat) (f : Ctx → Ctx) : (d.modCtx p f).mem = d.mem := rfl
@[simp] theorem Dev.modCtx_poison (d : Dev) (p : Nat) (f : Ctx → Ctx) : (d.modCtx p f).poison = d.poison := rfl
@[simp] theorem Dev.modCtx_ecc (d : Dev) (p : Nat) (f : Ctx → Ctx) : (d.modCtx p f).ecc = d.ecc := rfl
@[simp] theorem Dev.modCtx_sump (d : Dev) (p : Nat) (f : Ctx → Ctx) : (d.modCtx p f).sump = d.sump := rfl
@[simp] theorem Dev.modCtx_store (d : Dev) (p : Nat) (f : Ctx → Ctx) : (d.modCtx p f).store = d.store := rfl
@[simp] theorem Dev.modCtx_tap (d : Dev) (p : Nat) (f : Ctx → Ctx) : (d.modCtx p f).tap = d.tap := rfl
@[simp] theorem Dev.modCtx_mm (d : Dev) (p : Nat) (f : Ctx → Ctx) : (d.modCtx p f).mm = d.mm := rfl
@[simp] theorem Dev.modCtx_dict (d : Dev) (p : Nat) (f : Ctx → Ctx) : (d.modCtx p f).dict = d.dict := rfl
@[simp] theorem Dev.modCtx_eps (d : Dev) (p : Nat) (f : Ctx → Ctx) : (d.modCtx p f).eps = d.eps := rfl
@[simp] theorem Dev.modCtx_host (d : Dev) (p : Nat) (f : Ctx → Ctx) : (d.modCtx p f).host = d.host := rfl
@[simp] theorem Dev.modCtx_gather (d : Dev) (p : Nat) (f : Ctx → Ctx) : (d.modCtx p f).gather = d.gather := rfl
@[simp] theorem Dev.modCtx_ports (d : Dev) (p : Nat) (f : Ctx → Ctx) : (d.modCtx p f).ports = d.ports := rfl
@[simp] theorem Dev.modCtx_tiles (d : Dev) (p : Nat) (f : Ctx → Ctx) : (d.modCtx p f).tiles = d.tiles := rfl
@[simp] theorem Dev.modCtx_macs (d : Dev) (p : Nat) (f : Ctx → Ctx) : (d.modCtx p f).macs = d.macs := rfl
@[simp] theorem Dev.modCtx_ups (d : Dev) (p : Nat) (f : Ctx → Ctx) : (d.modCtx p f).ups = d.ups := rfl
@[simp] theorem Dev.modCtx_buses (d : Dev) (p : Nat) (f : Ctx → Ctx) : (d.modCtx p f).buses = d.buses := rfl
@[simp] theorem Dev.modCtx_engines (d : Dev) (p : Nat) (f : Ctx → Ctx) : (d.modCtx p f).engines = d.engines := rfl
@[simp] theorem Dev.modCtx_chans (d : Dev) (p : Nat) (f : Ctx → Ctx) : (d.modCtx p f).chans = d.chans := rfl
@[simp] theorem Dev.modCtx_cores (d : Dev) (p : Nat) (f : Ctx → Ctx) : (d.modCtx p f).cores = d.cores := rfl
@[simp] theorem Dev.modCtx_ctxs (d : Dev) (p : Nat) (f : Ctx → Ctx) : (d.modCtx p f).ctxs = mmod d.ctxs p {} f := rfl
@[simp] theorem Dev.modCtx_bundles (d : Dev) (p : Nat) (f : Ctx → Ctx) : (d.modCtx p f).bundles = d.bundles := rfl
@[simp] theorem Dev.modCtx_sw (d : Dev) (p : Nat) (f : Ctx → Ctx) : (d.modCtx p f).sw = d.sw := rfl
@[simp] theorem Dev.modCtx_cellar (d : Dev) (p : Nat) (f : Ctx → Ctx) : (d.modCtx p f).cellar = d.cellar := rfl
@[simp] theorem Dev.modCtx_time (d : Dev) (p : Nat) (f : Ctx → Ctx) : (d.modCtx p f).time = d.time := rfl
@[simp] theorem Dev.modCtx_segs (d : Dev) (p : Nat) (f : Ctx → Ctx) : (d.modCtx p f).segs = d.segs := rfl
@[simp] theorem Dev.modCtx_motion (d : Dev) (p : Nat) (f : Ctx → Ctx) : (d.modCtx p f).motion = d.motion := rfl
@[simp] theorem Dev.modCtx_logAt (d : Dev) (p : Nat) (f : Ctx → Ctx) : (d.modCtx p f).logAt = d.logAt := rfl
@[simp] theorem Dev.modCtx_stores (d : Dev) (p : Nat) (f : Ctx → Ctx) : (d.modCtx p f).stores = d.stores := rfl
@[simp] theorem Dev.modCtx_out (d : Dev) (p : Nat) (f : Ctx → Ctx) : (d.modCtx p f).out = d.out := rfl
@[simp] theorem Dev.modCtx_work (d : Dev) (p : Nat) (f : Ctx → Ctx) : (d.modCtx p f).work = d.work := rfl

/-! ### modEp -/

@[simp] theorem Dev.modEp_now (d : Dev) (p : Nat) (f : Endpoint → Endpoint) : (d.modEp p f).now = d.now := rfl
@[simp] theorem Dev.modEp_seq (d : Dev) (p : Nat) (f : Endpoint → Endpoint) : (d.modEp p f).seq = d.seq := rfl
@[simp] theorem Dev.modEp_doms (d : Dev) (p : Nat) (f : Endpoint → Endpoint) : (d.modEp p f).doms = d.doms := rfl
@[simp] theorem Dev.modEp_free (d : Dev) (p : Nat) (f : Endpoint → Endpoint) : (d.modEp p f).free = d.free := rfl
@[simp] theorem Dev.modEp_od (d : Dev) (p : Nat) (f : Endpoint → Endpoint) : (d.modEp p f).od = d.od := rfl
@[simp] theorem Dev.modEp_blob (d : Dev) (p : Nat) (f : Endpoint → Endpoint) : (d.modEp p f).blob = d.blob := rfl
@[simp] theorem Dev.modEp_mem (d : Dev) (p : Nat) (f : Endpoint → Endpoint) : (d.modEp p f).mem = d.mem := rfl
@[simp] theorem Dev.modEp_poison (d : Dev) (p : Nat) (f : Endpoint → Endpoint) : (d.modEp p f).poison = d.poison := rfl
@[simp] theorem Dev.modEp_ecc (d : Dev) (p : Nat) (f : Endpoint → Endpoint) : (d.modEp p f).ecc = d.ecc := rfl
@[simp] theorem Dev.modEp_sump (d : Dev) (p : Nat) (f : Endpoint → Endpoint) : (d.modEp p f).sump = d.sump := rfl
@[simp] theorem Dev.modEp_store (d : Dev) (p : Nat) (f : Endpoint → Endpoint) : (d.modEp p f).store = d.store := rfl
@[simp] theorem Dev.modEp_tap (d : Dev) (p : Nat) (f : Endpoint → Endpoint) : (d.modEp p f).tap = d.tap := rfl
@[simp] theorem Dev.modEp_mm (d : Dev) (p : Nat) (f : Endpoint → Endpoint) : (d.modEp p f).mm = d.mm := rfl
@[simp] theorem Dev.modEp_dict (d : Dev) (p : Nat) (f : Endpoint → Endpoint) : (d.modEp p f).dict = d.dict := rfl
@[simp] theorem Dev.modEp_eps (d : Dev) (p : Nat) (f : Endpoint → Endpoint) : (d.modEp p f).eps = mmod d.eps p {} f := rfl
@[simp] theorem Dev.modEp_host (d : Dev) (p : Nat) (f : Endpoint → Endpoint) : (d.modEp p f).host = d.host := rfl
@[simp] theorem Dev.modEp_gather (d : Dev) (p : Nat) (f : Endpoint → Endpoint) : (d.modEp p f).gather = d.gather := rfl
@[simp] theorem Dev.modEp_ports (d : Dev) (p : Nat) (f : Endpoint → Endpoint) : (d.modEp p f).ports = d.ports := rfl
@[simp] theorem Dev.modEp_tiles (d : Dev) (p : Nat) (f : Endpoint → Endpoint) : (d.modEp p f).tiles = d.tiles := rfl
@[simp] theorem Dev.modEp_macs (d : Dev) (p : Nat) (f : Endpoint → Endpoint) : (d.modEp p f).macs = d.macs := rfl
@[simp] theorem Dev.modEp_ups (d : Dev) (p : Nat) (f : Endpoint → Endpoint) : (d.modEp p f).ups = d.ups := rfl
@[simp] theorem Dev.modEp_buses (d : Dev) (p : Nat) (f : Endpoint → Endpoint) : (d.modEp p f).buses = d.buses := rfl
@[simp] theorem Dev.modEp_engines (d : Dev) (p : Nat) (f : Endpoint → Endpoint) : (d.modEp p f).engines = d.engines := rfl
@[simp] theorem Dev.modEp_chans (d : Dev) (p : Nat) (f : Endpoint → Endpoint) : (d.modEp p f).chans = d.chans := rfl
@[simp] theorem Dev.modEp_cores (d : Dev) (p : Nat) (f : Endpoint → Endpoint) : (d.modEp p f).cores = d.cores := rfl
@[simp] theorem Dev.modEp_ctxs (d : Dev) (p : Nat) (f : Endpoint → Endpoint) : (d.modEp p f).ctxs = d.ctxs := rfl
@[simp] theorem Dev.modEp_bundles (d : Dev) (p : Nat) (f : Endpoint → Endpoint) : (d.modEp p f).bundles = d.bundles := rfl
@[simp] theorem Dev.modEp_sw (d : Dev) (p : Nat) (f : Endpoint → Endpoint) : (d.modEp p f).sw = d.sw := rfl
@[simp] theorem Dev.modEp_cellar (d : Dev) (p : Nat) (f : Endpoint → Endpoint) : (d.modEp p f).cellar = d.cellar := rfl
@[simp] theorem Dev.modEp_time (d : Dev) (p : Nat) (f : Endpoint → Endpoint) : (d.modEp p f).time = d.time := rfl
@[simp] theorem Dev.modEp_segs (d : Dev) (p : Nat) (f : Endpoint → Endpoint) : (d.modEp p f).segs = d.segs := rfl
@[simp] theorem Dev.modEp_motion (d : Dev) (p : Nat) (f : Endpoint → Endpoint) : (d.modEp p f).motion = d.motion := rfl
@[simp] theorem Dev.modEp_logAt (d : Dev) (p : Nat) (f : Endpoint → Endpoint) : (d.modEp p f).logAt = d.logAt := rfl
@[simp] theorem Dev.modEp_stores (d : Dev) (p : Nat) (f : Endpoint → Endpoint) : (d.modEp p f).stores = d.stores := rfl
@[simp] theorem Dev.modEp_out (d : Dev) (p : Nat) (f : Endpoint → Endpoint) : (d.modEp p f).out = d.out := rfl
@[simp] theorem Dev.modEp_work (d : Dev) (p : Nat) (f : Endpoint → Endpoint) : (d.modEp p f).work = d.work := rfl

/-! ### modSeg -/

@[simp] theorem Dev.modSeg_now (d : Dev) (p : Nat) (f : Segment → Segment) : (d.modSeg p f).now = d.now := rfl
@[simp] theorem Dev.modSeg_seq (d : Dev) (p : Nat) (f : Segment → Segment) : (d.modSeg p f).seq = d.seq := rfl
@[simp] theorem Dev.modSeg_doms (d : Dev) (p : Nat) (f : Segment → Segment) : (d.modSeg p f).doms = d.doms := rfl
@[simp] theorem Dev.modSeg_free (d : Dev) (p : Nat) (f : Segment → Segment) : (d.modSeg p f).free = d.free := rfl
@[simp] theorem Dev.modSeg_od (d : Dev) (p : Nat) (f : Segment → Segment) : (d.modSeg p f).od = d.od := rfl
@[simp] theorem Dev.modSeg_blob (d : Dev) (p : Nat) (f : Segment → Segment) : (d.modSeg p f).blob = d.blob := rfl
@[simp] theorem Dev.modSeg_mem (d : Dev) (p : Nat) (f : Segment → Segment) : (d.modSeg p f).mem = d.mem := rfl
@[simp] theorem Dev.modSeg_poison (d : Dev) (p : Nat) (f : Segment → Segment) : (d.modSeg p f).poison = d.poison := rfl
@[simp] theorem Dev.modSeg_ecc (d : Dev) (p : Nat) (f : Segment → Segment) : (d.modSeg p f).ecc = d.ecc := rfl
@[simp] theorem Dev.modSeg_sump (d : Dev) (p : Nat) (f : Segment → Segment) : (d.modSeg p f).sump = d.sump := rfl
@[simp] theorem Dev.modSeg_store (d : Dev) (p : Nat) (f : Segment → Segment) : (d.modSeg p f).store = d.store := rfl
@[simp] theorem Dev.modSeg_tap (d : Dev) (p : Nat) (f : Segment → Segment) : (d.modSeg p f).tap = d.tap := rfl
@[simp] theorem Dev.modSeg_mm (d : Dev) (p : Nat) (f : Segment → Segment) : (d.modSeg p f).mm = d.mm := rfl
@[simp] theorem Dev.modSeg_dict (d : Dev) (p : Nat) (f : Segment → Segment) : (d.modSeg p f).dict = d.dict := rfl
@[simp] theorem Dev.modSeg_eps (d : Dev) (p : Nat) (f : Segment → Segment) : (d.modSeg p f).eps = d.eps := rfl
@[simp] theorem Dev.modSeg_host (d : Dev) (p : Nat) (f : Segment → Segment) : (d.modSeg p f).host = d.host := rfl
@[simp] theorem Dev.modSeg_gather (d : Dev) (p : Nat) (f : Segment → Segment) : (d.modSeg p f).gather = d.gather := rfl
@[simp] theorem Dev.modSeg_ports (d : Dev) (p : Nat) (f : Segment → Segment) : (d.modSeg p f).ports = d.ports := rfl
@[simp] theorem Dev.modSeg_tiles (d : Dev) (p : Nat) (f : Segment → Segment) : (d.modSeg p f).tiles = d.tiles := rfl
@[simp] theorem Dev.modSeg_macs (d : Dev) (p : Nat) (f : Segment → Segment) : (d.modSeg p f).macs = d.macs := rfl
@[simp] theorem Dev.modSeg_ups (d : Dev) (p : Nat) (f : Segment → Segment) : (d.modSeg p f).ups = d.ups := rfl
@[simp] theorem Dev.modSeg_buses (d : Dev) (p : Nat) (f : Segment → Segment) : (d.modSeg p f).buses = d.buses := rfl
@[simp] theorem Dev.modSeg_engines (d : Dev) (p : Nat) (f : Segment → Segment) : (d.modSeg p f).engines = d.engines := rfl
@[simp] theorem Dev.modSeg_chans (d : Dev) (p : Nat) (f : Segment → Segment) : (d.modSeg p f).chans = d.chans := rfl
@[simp] theorem Dev.modSeg_cores (d : Dev) (p : Nat) (f : Segment → Segment) : (d.modSeg p f).cores = d.cores := rfl
@[simp] theorem Dev.modSeg_ctxs (d : Dev) (p : Nat) (f : Segment → Segment) : (d.modSeg p f).ctxs = d.ctxs := rfl
@[simp] theorem Dev.modSeg_bundles (d : Dev) (p : Nat) (f : Segment → Segment) : (d.modSeg p f).bundles = d.bundles := rfl
@[simp] theorem Dev.modSeg_sw (d : Dev) (p : Nat) (f : Segment → Segment) : (d.modSeg p f).sw = d.sw := rfl
@[simp] theorem Dev.modSeg_cellar (d : Dev) (p : Nat) (f : Segment → Segment) : (d.modSeg p f).cellar = d.cellar := rfl
@[simp] theorem Dev.modSeg_time (d : Dev) (p : Nat) (f : Segment → Segment) : (d.modSeg p f).time = d.time := rfl
@[simp] theorem Dev.modSeg_segs (d : Dev) (p : Nat) (f : Segment → Segment) : (d.modSeg p f).segs = mmod d.segs p {} f := rfl
@[simp] theorem Dev.modSeg_motion (d : Dev) (p : Nat) (f : Segment → Segment) : (d.modSeg p f).motion = d.motion := rfl
@[simp] theorem Dev.modSeg_logAt (d : Dev) (p : Nat) (f : Segment → Segment) : (d.modSeg p f).logAt = d.logAt := rfl
@[simp] theorem Dev.modSeg_stores (d : Dev) (p : Nat) (f : Segment → Segment) : (d.modSeg p f).stores = d.stores := rfl
@[simp] theorem Dev.modSeg_out (d : Dev) (p : Nat) (f : Segment → Segment) : (d.modSeg p f).out = d.out := rfl
@[simp] theorem Dev.modSeg_work (d : Dev) (p : Nat) (f : Segment → Segment) : (d.modSeg p f).work = d.work := rfl

/-! ### modSump -/

@[simp] theorem Dev.modSump_now (d : Dev) (f : Sump → Sump) : (d.modSump f).now = d.now := rfl
@[simp] theorem Dev.modSump_seq (d : Dev) (f : Sump → Sump) : (d.modSump f).seq = d.seq := rfl
@[simp] theorem Dev.modSump_doms (d : Dev) (f : Sump → Sump) : (d.modSump f).doms = d.doms := rfl
@[simp] theorem Dev.modSump_free (d : Dev) (f : Sump → Sump) : (d.modSump f).free = d.free := rfl
@[simp] theorem Dev.modSump_od (d : Dev) (f : Sump → Sump) : (d.modSump f).od = d.od := rfl
@[simp] theorem Dev.modSump_blob (d : Dev) (f : Sump → Sump) : (d.modSump f).blob = d.blob := rfl
@[simp] theorem Dev.modSump_mem (d : Dev) (f : Sump → Sump) : (d.modSump f).mem = d.mem := rfl
@[simp] theorem Dev.modSump_poison (d : Dev) (f : Sump → Sump) : (d.modSump f).poison = d.poison := rfl
@[simp] theorem Dev.modSump_ecc (d : Dev) (f : Sump → Sump) : (d.modSump f).ecc = d.ecc := rfl
@[simp] theorem Dev.modSump_sump (d : Dev) (f : Sump → Sump) : (d.modSump f).sump = f d.sump := rfl
@[simp] theorem Dev.modSump_store (d : Dev) (f : Sump → Sump) : (d.modSump f).store = d.store := rfl
@[simp] theorem Dev.modSump_tap (d : Dev) (f : Sump → Sump) : (d.modSump f).tap = d.tap := rfl
@[simp] theorem Dev.modSump_mm (d : Dev) (f : Sump → Sump) : (d.modSump f).mm = d.mm := rfl
@[simp] theorem Dev.modSump_dict (d : Dev) (f : Sump → Sump) : (d.modSump f).dict = d.dict := rfl
@[simp] theorem Dev.modSump_eps (d : Dev) (f : Sump → Sump) : (d.modSump f).eps = d.eps := rfl
@[simp] theorem Dev.modSump_host (d : Dev) (f : Sump → Sump) : (d.modSump f).host = d.host := rfl
@[simp] theorem Dev.modSump_gather (d : Dev) (f : Sump → Sump) : (d.modSump f).gather = d.gather := rfl
@[simp] theorem Dev.modSump_ports (d : Dev) (f : Sump → Sump) : (d.modSump f).ports = d.ports := rfl
@[simp] theorem Dev.modSump_tiles (d : Dev) (f : Sump → Sump) : (d.modSump f).tiles = d.tiles := rfl
@[simp] theorem Dev.modSump_macs (d : Dev) (f : Sump → Sump) : (d.modSump f).macs = d.macs := rfl
@[simp] theorem Dev.modSump_ups (d : Dev) (f : Sump → Sump) : (d.modSump f).ups = d.ups := rfl
@[simp] theorem Dev.modSump_buses (d : Dev) (f : Sump → Sump) : (d.modSump f).buses = d.buses := rfl
@[simp] theorem Dev.modSump_engines (d : Dev) (f : Sump → Sump) : (d.modSump f).engines = d.engines := rfl
@[simp] theorem Dev.modSump_chans (d : Dev) (f : Sump → Sump) : (d.modSump f).chans = d.chans := rfl
@[simp] theorem Dev.modSump_cores (d : Dev) (f : Sump → Sump) : (d.modSump f).cores = d.cores := rfl
@[simp] theorem Dev.modSump_ctxs (d : Dev) (f : Sump → Sump) : (d.modSump f).ctxs = d.ctxs := rfl
@[simp] theorem Dev.modSump_bundles (d : Dev) (f : Sump → Sump) : (d.modSump f).bundles = d.bundles := rfl
@[simp] theorem Dev.modSump_sw (d : Dev) (f : Sump → Sump) : (d.modSump f).sw = d.sw := rfl
@[simp] theorem Dev.modSump_cellar (d : Dev) (f : Sump → Sump) : (d.modSump f).cellar = d.cellar := rfl
@[simp] theorem Dev.modSump_time (d : Dev) (f : Sump → Sump) : (d.modSump f).time = d.time := rfl
@[simp] theorem Dev.modSump_segs (d : Dev) (f : Sump → Sump) : (d.modSump f).segs = d.segs := rfl
@[simp] theorem Dev.modSump_motion (d : Dev) (f : Sump → Sump) : (d.modSump f).motion = d.motion := rfl
@[simp] theorem Dev.modSump_logAt (d : Dev) (f : Sump → Sump) : (d.modSump f).logAt = d.logAt := rfl
@[simp] theorem Dev.modSump_stores (d : Dev) (f : Sump → Sump) : (d.modSump f).stores = d.stores := rfl
@[simp] theorem Dev.modSump_out (d : Dev) (f : Sump → Sump) : (d.modSump f).out = d.out := rfl
@[simp] theorem Dev.modSump_work (d : Dev) (f : Sump → Sump) : (d.modSump f).work = d.work := rfl

/-! ### modMm -/

@[simp] theorem Dev.modMm_now (d : Dev) (f : ModeMgr → ModeMgr) : (d.modMm f).now = d.now := rfl
@[simp] theorem Dev.modMm_seq (d : Dev) (f : ModeMgr → ModeMgr) : (d.modMm f).seq = d.seq := rfl
@[simp] theorem Dev.modMm_doms (d : Dev) (f : ModeMgr → ModeMgr) : (d.modMm f).doms = d.doms := rfl
@[simp] theorem Dev.modMm_free (d : Dev) (f : ModeMgr → ModeMgr) : (d.modMm f).free = d.free := rfl
@[simp] theorem Dev.modMm_od (d : Dev) (f : ModeMgr → ModeMgr) : (d.modMm f).od = d.od := rfl
@[simp] theorem Dev.modMm_blob (d : Dev) (f : ModeMgr → ModeMgr) : (d.modMm f).blob = d.blob := rfl
@[simp] theorem Dev.modMm_mem (d : Dev) (f : ModeMgr → ModeMgr) : (d.modMm f).mem = d.mem := rfl
@[simp] theorem Dev.modMm_poison (d : Dev) (f : ModeMgr → ModeMgr) : (d.modMm f).poison = d.poison := rfl
@[simp] theorem Dev.modMm_ecc (d : Dev) (f : ModeMgr → ModeMgr) : (d.modMm f).ecc = d.ecc := rfl
@[simp] theorem Dev.modMm_sump (d : Dev) (f : ModeMgr → ModeMgr) : (d.modMm f).sump = d.sump := rfl
@[simp] theorem Dev.modMm_store (d : Dev) (f : ModeMgr → ModeMgr) : (d.modMm f).store = d.store := rfl
@[simp] theorem Dev.modMm_tap (d : Dev) (f : ModeMgr → ModeMgr) : (d.modMm f).tap = d.tap := rfl
@[simp] theorem Dev.modMm_mm (d : Dev) (f : ModeMgr → ModeMgr) : (d.modMm f).mm = f d.mm := rfl
@[simp] theorem Dev.modMm_dict (d : Dev) (f : ModeMgr → ModeMgr) : (d.modMm f).dict = d.dict := rfl
@[simp] theorem Dev.modMm_eps (d : Dev) (f : ModeMgr → ModeMgr) : (d.modMm f).eps = d.eps := rfl
@[simp] theorem Dev.modMm_host (d : Dev) (f : ModeMgr → ModeMgr) : (d.modMm f).host = d.host := rfl
@[simp] theorem Dev.modMm_gather (d : Dev) (f : ModeMgr → ModeMgr) : (d.modMm f).gather = d.gather := rfl
@[simp] theorem Dev.modMm_ports (d : Dev) (f : ModeMgr → ModeMgr) : (d.modMm f).ports = d.ports := rfl
@[simp] theorem Dev.modMm_tiles (d : Dev) (f : ModeMgr → ModeMgr) : (d.modMm f).tiles = d.tiles := rfl
@[simp] theorem Dev.modMm_macs (d : Dev) (f : ModeMgr → ModeMgr) : (d.modMm f).macs = d.macs := rfl
@[simp] theorem Dev.modMm_ups (d : Dev) (f : ModeMgr → ModeMgr) : (d.modMm f).ups = d.ups := rfl
@[simp] theorem Dev.modMm_buses (d : Dev) (f : ModeMgr → ModeMgr) : (d.modMm f).buses = d.buses := rfl
@[simp] theorem Dev.modMm_engines (d : Dev) (f : ModeMgr → ModeMgr) : (d.modMm f).engines = d.engines := rfl
@[simp] theorem Dev.modMm_chans (d : Dev) (f : ModeMgr → ModeMgr) : (d.modMm f).chans = d.chans := rfl
@[simp] theorem Dev.modMm_cores (d : Dev) (f : ModeMgr → ModeMgr) : (d.modMm f).cores = d.cores := rfl
@[simp] theorem Dev.modMm_ctxs (d : Dev) (f : ModeMgr → ModeMgr) : (d.modMm f).ctxs = d.ctxs := rfl
@[simp] theorem Dev.modMm_bundles (d : Dev) (f : ModeMgr → ModeMgr) : (d.modMm f).bundles = d.bundles := rfl
@[simp] theorem Dev.modMm_sw (d : Dev) (f : ModeMgr → ModeMgr) : (d.modMm f).sw = d.sw := rfl
@[simp] theorem Dev.modMm_cellar (d : Dev) (f : ModeMgr → ModeMgr) : (d.modMm f).cellar = d.cellar := rfl
@[simp] theorem Dev.modMm_time (d : Dev) (f : ModeMgr → ModeMgr) : (d.modMm f).time = d.time := rfl
@[simp] theorem Dev.modMm_segs (d : Dev) (f : ModeMgr → ModeMgr) : (d.modMm f).segs = d.segs := rfl
@[simp] theorem Dev.modMm_motion (d : Dev) (f : ModeMgr → ModeMgr) : (d.modMm f).motion = d.motion := rfl
@[simp] theorem Dev.modMm_logAt (d : Dev) (f : ModeMgr → ModeMgr) : (d.modMm f).logAt = d.logAt := rfl
@[simp] theorem Dev.modMm_stores (d : Dev) (f : ModeMgr → ModeMgr) : (d.modMm f).stores = d.stores := rfl
@[simp] theorem Dev.modMm_out (d : Dev) (f : ModeMgr → ModeMgr) : (d.modMm f).out = d.out := rfl
@[simp] theorem Dev.modMm_work (d : Dev) (f : ModeMgr → ModeMgr) : (d.modMm f).work = d.work := rfl

/-! ### modTap -/

@[simp] theorem Dev.modTap_now (d : Dev) (f : Tap → Tap) : (d.modTap f).now = d.now := rfl
@[simp] theorem Dev.modTap_seq (d : Dev) (f : Tap → Tap) : (d.modTap f).seq = d.seq := rfl
@[simp] theorem Dev.modTap_doms (d : Dev) (f : Tap → Tap) : (d.modTap f).doms = d.doms := rfl
@[simp] theorem Dev.modTap_free (d : Dev) (f : Tap → Tap) : (d.modTap f).free = d.free := rfl
@[simp] theorem Dev.modTap_od (d : Dev) (f : Tap → Tap) : (d.modTap f).od = d.od := rfl
@[simp] theorem Dev.modTap_blob (d : Dev) (f : Tap → Tap) : (d.modTap f).blob = d.blob := rfl
@[simp] theorem Dev.modTap_mem (d : Dev) (f : Tap → Tap) : (d.modTap f).mem = d.mem := rfl
@[simp] theorem Dev.modTap_poison (d : Dev) (f : Tap → Tap) : (d.modTap f).poison = d.poison := rfl
@[simp] theorem Dev.modTap_ecc (d : Dev) (f : Tap → Tap) : (d.modTap f).ecc = d.ecc := rfl
@[simp] theorem Dev.modTap_sump (d : Dev) (f : Tap → Tap) : (d.modTap f).sump = d.sump := rfl
@[simp] theorem Dev.modTap_store (d : Dev) (f : Tap → Tap) : (d.modTap f).store = d.store := rfl
@[simp] theorem Dev.modTap_tap (d : Dev) (f : Tap → Tap) : (d.modTap f).tap = f d.tap := rfl
@[simp] theorem Dev.modTap_mm (d : Dev) (f : Tap → Tap) : (d.modTap f).mm = d.mm := rfl
@[simp] theorem Dev.modTap_dict (d : Dev) (f : Tap → Tap) : (d.modTap f).dict = d.dict := rfl
@[simp] theorem Dev.modTap_eps (d : Dev) (f : Tap → Tap) : (d.modTap f).eps = d.eps := rfl
@[simp] theorem Dev.modTap_host (d : Dev) (f : Tap → Tap) : (d.modTap f).host = d.host := rfl
@[simp] theorem Dev.modTap_gather (d : Dev) (f : Tap → Tap) : (d.modTap f).gather = d.gather := rfl
@[simp] theorem Dev.modTap_ports (d : Dev) (f : Tap → Tap) : (d.modTap f).ports = d.ports := rfl
@[simp] theorem Dev.modTap_tiles (d : Dev) (f : Tap → Tap) : (d.modTap f).tiles = d.tiles := rfl
@[simp] theorem Dev.modTap_macs (d : Dev) (f : Tap → Tap) : (d.modTap f).macs = d.macs := rfl
@[simp] theorem Dev.modTap_ups (d : Dev) (f : Tap → Tap) : (d.modTap f).ups = d.ups := rfl
@[simp] theorem Dev.modTap_buses (d : Dev) (f : Tap → Tap) : (d.modTap f).buses = d.buses := rfl
@[simp] theorem Dev.modTap_engines (d : Dev) (f : Tap → Tap) : (d.modTap f).engines = d.engines := rfl
@[simp] theorem Dev.modTap_chans (d : Dev) (f : Tap → Tap) : (d.modTap f).chans = d.chans := rfl
@[simp] theorem Dev.modTap_cores (d : Dev) (f : Tap → Tap) : (d.modTap f).cores = d.cores := rfl
@[simp] theorem Dev.modTap_ctxs (d : Dev) (f : Tap → Tap) : (d.modTap f).ctxs = d.ctxs := rfl
@[simp] theorem Dev.modTap_bundles (d : Dev) (f : Tap → Tap) : (d.modTap f).bundles = d.bundles := rfl
@[simp] theorem Dev.modTap_sw (d : Dev) (f : Tap → Tap) : (d.modTap f).sw = d.sw := rfl
@[simp] theorem Dev.modTap_cellar (d : Dev) (f : Tap → Tap) : (d.modTap f).cellar = d.cellar := rfl
@[simp] theorem Dev.modTap_time (d : Dev) (f : Tap → Tap) : (d.modTap f).time = d.time := rfl
@[simp] theorem Dev.modTap_segs (d : Dev) (f : Tap → Tap) : (d.modTap f).segs = d.segs := rfl
@[simp] theorem Dev.modTap_motion (d : Dev) (f : Tap → Tap) : (d.modTap f).motion = d.motion := rfl
@[simp] theorem Dev.modTap_logAt (d : Dev) (f : Tap → Tap) : (d.modTap f).logAt = d.logAt := rfl
@[simp] theorem Dev.modTap_stores (d : Dev) (f : Tap → Tap) : (d.modTap f).stores = d.stores := rfl
@[simp] theorem Dev.modTap_out (d : Dev) (f : Tap → Tap) : (d.modTap f).out = d.out := rfl
@[simp] theorem Dev.modTap_work (d : Dev) (f : Tap → Tap) : (d.modTap f).work = d.work := rfl

/-! ### modDict -/

@[simp] theorem Dev.modDict_now (d : Dev) (f : Dict → Dict) : (d.modDict f).now = d.now := rfl
@[simp] theorem Dev.modDict_seq (d : Dev) (f : Dict → Dict) : (d.modDict f).seq = d.seq := rfl
@[simp] theorem Dev.modDict_doms (d : Dev) (f : Dict → Dict) : (d.modDict f).doms = d.doms := rfl
@[simp] theorem Dev.modDict_free (d : Dev) (f : Dict → Dict) : (d.modDict f).free = d.free := rfl
@[simp] theorem Dev.modDict_od (d : Dev) (f : Dict → Dict) : (d.modDict f).od = d.od := rfl
@[simp] theorem Dev.modDict_blob (d : Dev) (f : Dict → Dict) : (d.modDict f).blob = d.blob := rfl
@[simp] theorem Dev.modDict_mem (d : Dev) (f : Dict → Dict) : (d.modDict f).mem = d.mem := rfl
@[simp] theorem Dev.modDict_poison (d : Dev) (f : Dict → Dict) : (d.modDict f).poison = d.poison := rfl
@[simp] theorem Dev.modDict_ecc (d : Dev) (f : Dict → Dict) : (d.modDict f).ecc = d.ecc := rfl
@[simp] theorem Dev.modDict_sump (d : Dev) (f : Dict → Dict) : (d.modDict f).sump = d.sump := rfl
@[simp] theorem Dev.modDict_store (d : Dev) (f : Dict → Dict) : (d.modDict f).store = d.store := rfl
@[simp] theorem Dev.modDict_tap (d : Dev) (f : Dict → Dict) : (d.modDict f).tap = d.tap := rfl
@[simp] theorem Dev.modDict_mm (d : Dev) (f : Dict → Dict) : (d.modDict f).mm = d.mm := rfl
@[simp] theorem Dev.modDict_dict (d : Dev) (f : Dict → Dict) : (d.modDict f).dict = f d.dict := rfl
@[simp] theorem Dev.modDict_eps (d : Dev) (f : Dict → Dict) : (d.modDict f).eps = d.eps := rfl
@[simp] theorem Dev.modDict_host (d : Dev) (f : Dict → Dict) : (d.modDict f).host = d.host := rfl
@[simp] theorem Dev.modDict_gather (d : Dev) (f : Dict → Dict) : (d.modDict f).gather = d.gather := rfl
@[simp] theorem Dev.modDict_ports (d : Dev) (f : Dict → Dict) : (d.modDict f).ports = d.ports := rfl
@[simp] theorem Dev.modDict_tiles (d : Dev) (f : Dict → Dict) : (d.modDict f).tiles = d.tiles := rfl
@[simp] theorem Dev.modDict_macs (d : Dev) (f : Dict → Dict) : (d.modDict f).macs = d.macs := rfl
@[simp] theorem Dev.modDict_ups (d : Dev) (f : Dict → Dict) : (d.modDict f).ups = d.ups := rfl
@[simp] theorem Dev.modDict_buses (d : Dev) (f : Dict → Dict) : (d.modDict f).buses = d.buses := rfl
@[simp] theorem Dev.modDict_engines (d : Dev) (f : Dict → Dict) : (d.modDict f).engines = d.engines := rfl
@[simp] theorem Dev.modDict_chans (d : Dev) (f : Dict → Dict) : (d.modDict f).chans = d.chans := rfl
@[simp] theorem Dev.modDict_cores (d : Dev) (f : Dict → Dict) : (d.modDict f).cores = d.cores := rfl
@[simp] theorem Dev.modDict_ctxs (d : Dev) (f : Dict → Dict) : (d.modDict f).ctxs = d.ctxs := rfl
@[simp] theorem Dev.modDict_bundles (d : Dev) (f : Dict → Dict) : (d.modDict f).bundles = d.bundles := rfl
@[simp] theorem Dev.modDict_sw (d : Dev) (f : Dict → Dict) : (d.modDict f).sw = d.sw := rfl
@[simp] theorem Dev.modDict_cellar (d : Dev) (f : Dict → Dict) : (d.modDict f).cellar = d.cellar := rfl
@[simp] theorem Dev.modDict_time (d : Dev) (f : Dict → Dict) : (d.modDict f).time = d.time := rfl
@[simp] theorem Dev.modDict_segs (d : Dev) (f : Dict → Dict) : (d.modDict f).segs = d.segs := rfl
@[simp] theorem Dev.modDict_motion (d : Dev) (f : Dict → Dict) : (d.modDict f).motion = d.motion := rfl
@[simp] theorem Dev.modDict_logAt (d : Dev) (f : Dict → Dict) : (d.modDict f).logAt = d.logAt := rfl
@[simp] theorem Dev.modDict_stores (d : Dev) (f : Dict → Dict) : (d.modDict f).stores = d.stores := rfl
@[simp] theorem Dev.modDict_out (d : Dev) (f : Dict → Dict) : (d.modDict f).out = d.out := rfl
@[simp] theorem Dev.modDict_work (d : Dev) (f : Dict → Dict) : (d.modDict f).work = d.work := rfl

/-! ### modHost -/

@[simp] theorem Dev.modHost_now (d : Dev) (f : HostEp → HostEp) : (d.modHost f).now = d.now := rfl
@[simp] theorem Dev.modHost_seq (d : Dev) (f : HostEp → HostEp) : (d.modHost f).seq = d.seq := rfl
@[simp] theorem Dev.modHost_doms (d : Dev) (f : HostEp → HostEp) : (d.modHost f).doms = d.doms := rfl
@[simp] theorem Dev.modHost_free (d : Dev) (f : HostEp → HostEp) : (d.modHost f).free = d.free := rfl
@[simp] theorem Dev.modHost_od (d : Dev) (f : HostEp → HostEp) : (d.modHost f).od = d.od := rfl
@[simp] theorem Dev.modHost_blob (d : Dev) (f : HostEp → HostEp) : (d.modHost f).blob = d.blob := rfl
@[simp] theorem Dev.modHost_mem (d : Dev) (f : HostEp → HostEp) : (d.modHost f).mem = d.mem := rfl
@[simp] theorem Dev.modHost_poison (d : Dev) (f : HostEp → HostEp) : (d.modHost f).poison = d.poison := rfl
@[simp] theorem Dev.modHost_ecc (d : Dev) (f : HostEp → HostEp) : (d.modHost f).ecc = d.ecc := rfl
@[simp] theorem Dev.modHost_sump (d : Dev) (f : HostEp → HostEp) : (d.modHost f).sump = d.sump := rfl
@[simp] theorem Dev.modHost_store (d : Dev) (f : HostEp → HostEp) : (d.modHost f).store = d.store := rfl
@[simp] theorem Dev.modHost_tap (d : Dev) (f : HostEp → HostEp) : (d.modHost f).tap = d.tap := rfl
@[simp] theorem Dev.modHost_mm (d : Dev) (f : HostEp → HostEp) : (d.modHost f).mm = d.mm := rfl
@[simp] theorem Dev.modHost_dict (d : Dev) (f : HostEp → HostEp) : (d.modHost f).dict = d.dict := rfl
@[simp] theorem Dev.modHost_eps (d : Dev) (f : HostEp → HostEp) : (d.modHost f).eps = d.eps := rfl
@[simp] theorem Dev.modHost_host (d : Dev) (f : HostEp → HostEp) : (d.modHost f).host = f d.host := rfl
@[simp] theorem Dev.modHost_gather (d : Dev) (f : HostEp → HostEp) : (d.modHost f).gather = d.gather := rfl
@[simp] theorem Dev.modHost_ports (d : Dev) (f : HostEp → HostEp) : (d.modHost f).ports = d.ports := rfl
@[simp] theorem Dev.modHost_tiles (d : Dev) (f : HostEp → HostEp) : (d.modHost f).tiles = d.tiles := rfl
@[simp] theorem Dev.modHost_macs (d : Dev) (f : HostEp → HostEp) : (d.modHost f).macs = d.macs := rfl
@[simp] theorem Dev.modHost_ups (d : Dev) (f : HostEp → HostEp) : (d.modHost f).ups = d.ups := rfl
@[simp] theorem Dev.modHost_buses (d : Dev) (f : HostEp → HostEp) : (d.modHost f).buses = d.buses := rfl
@[simp] theorem Dev.modHost_engines (d : Dev) (f : HostEp → HostEp) : (d.modHost f).engines = d.engines := rfl
@[simp] theorem Dev.modHost_chans (d : Dev) (f : HostEp → HostEp) : (d.modHost f).chans = d.chans := rfl
@[simp] theorem Dev.modHost_cores (d : Dev) (f : HostEp → HostEp) : (d.modHost f).cores = d.cores := rfl
@[simp] theorem Dev.modHost_ctxs (d : Dev) (f : HostEp → HostEp) : (d.modHost f).ctxs = d.ctxs := rfl
@[simp] theorem Dev.modHost_bundles (d : Dev) (f : HostEp → HostEp) : (d.modHost f).bundles = d.bundles := rfl
@[simp] theorem Dev.modHost_sw (d : Dev) (f : HostEp → HostEp) : (d.modHost f).sw = d.sw := rfl
@[simp] theorem Dev.modHost_cellar (d : Dev) (f : HostEp → HostEp) : (d.modHost f).cellar = d.cellar := rfl
@[simp] theorem Dev.modHost_time (d : Dev) (f : HostEp → HostEp) : (d.modHost f).time = d.time := rfl
@[simp] theorem Dev.modHost_segs (d : Dev) (f : HostEp → HostEp) : (d.modHost f).segs = d.segs := rfl
@[simp] theorem Dev.modHost_motion (d : Dev) (f : HostEp → HostEp) : (d.modHost f).motion = d.motion := rfl
@[simp] theorem Dev.modHost_logAt (d : Dev) (f : HostEp → HostEp) : (d.modHost f).logAt = d.logAt := rfl
@[simp] theorem Dev.modHost_stores (d : Dev) (f : HostEp → HostEp) : (d.modHost f).stores = d.stores := rfl
@[simp] theorem Dev.modHost_out (d : Dev) (f : HostEp → HostEp) : (d.modHost f).out = d.out := rfl
@[simp] theorem Dev.modHost_work (d : Dev) (f : HostEp → HostEp) : (d.modHost f).work = d.work := rfl

/-! ### modGather -/

@[simp] theorem Dev.modGather_now (d : Dev) (f : Gather → Gather) : (d.modGather f).now = d.now := rfl
@[simp] theorem Dev.modGather_seq (d : Dev) (f : Gather → Gather) : (d.modGather f).seq = d.seq := rfl
@[simp] theorem Dev.modGather_doms (d : Dev) (f : Gather → Gather) : (d.modGather f).doms = d.doms := rfl
@[simp] theorem Dev.modGather_free (d : Dev) (f : Gather → Gather) : (d.modGather f).free = d.free := rfl
@[simp] theorem Dev.modGather_od (d : Dev) (f : Gather → Gather) : (d.modGather f).od = d.od := rfl
@[simp] theorem Dev.modGather_blob (d : Dev) (f : Gather → Gather) : (d.modGather f).blob = d.blob := rfl
@[simp] theorem Dev.modGather_mem (d : Dev) (f : Gather → Gather) : (d.modGather f).mem = d.mem := rfl
@[simp] theorem Dev.modGather_poison (d : Dev) (f : Gather → Gather) : (d.modGather f).poison = d.poison := rfl
@[simp] theorem Dev.modGather_ecc (d : Dev) (f : Gather → Gather) : (d.modGather f).ecc = d.ecc := rfl
@[simp] theorem Dev.modGather_sump (d : Dev) (f : Gather → Gather) : (d.modGather f).sump = d.sump := rfl
@[simp] theorem Dev.modGather_store (d : Dev) (f : Gather → Gather) : (d.modGather f).store = d.store := rfl
@[simp] theorem Dev.modGather_tap (d : Dev) (f : Gather → Gather) : (d.modGather f).tap = d.tap := rfl
@[simp] theorem Dev.modGather_mm (d : Dev) (f : Gather → Gather) : (d.modGather f).mm = d.mm := rfl
@[simp] theorem Dev.modGather_dict (d : Dev) (f : Gather → Gather) : (d.modGather f).dict = d.dict := rfl
@[simp] theorem Dev.modGather_eps (d : Dev) (f : Gather → Gather) : (d.modGather f).eps = d.eps := rfl
@[simp] theorem Dev.modGather_host (d : Dev) (f : Gather → Gather) : (d.modGather f).host = d.host := rfl
@[simp] theorem Dev.modGather_gather (d : Dev) (f : Gather → Gather) : (d.modGather f).gather = f d.gather := rfl
@[simp] theorem Dev.modGather_ports (d : Dev) (f : Gather → Gather) : (d.modGather f).ports = d.ports := rfl
@[simp] theorem Dev.modGather_tiles (d : Dev) (f : Gather → Gather) : (d.modGather f).tiles = d.tiles := rfl
@[simp] theorem Dev.modGather_macs (d : Dev) (f : Gather → Gather) : (d.modGather f).macs = d.macs := rfl
@[simp] theorem Dev.modGather_ups (d : Dev) (f : Gather → Gather) : (d.modGather f).ups = d.ups := rfl
@[simp] theorem Dev.modGather_buses (d : Dev) (f : Gather → Gather) : (d.modGather f).buses = d.buses := rfl
@[simp] theorem Dev.modGather_engines (d : Dev) (f : Gather → Gather) : (d.modGather f).engines = d.engines := rfl
@[simp] theorem Dev.modGather_chans (d : Dev) (f : Gather → Gather) : (d.modGather f).chans = d.chans := rfl
@[simp] theorem Dev.modGather_cores (d : Dev) (f : Gather → Gather) : (d.modGather f).cores = d.cores := rfl
@[simp] theorem Dev.modGather_ctxs (d : Dev) (f : Gather → Gather) : (d.modGather f).ctxs = d.ctxs := rfl
@[simp] theorem Dev.modGather_bundles (d : Dev) (f : Gather → Gather) : (d.modGather f).bundles = d.bundles := rfl
@[simp] theorem Dev.modGather_sw (d : Dev) (f : Gather → Gather) : (d.modGather f).sw = d.sw := rfl
@[simp] theorem Dev.modGather_cellar (d : Dev) (f : Gather → Gather) : (d.modGather f).cellar = d.cellar := rfl
@[simp] theorem Dev.modGather_time (d : Dev) (f : Gather → Gather) : (d.modGather f).time = d.time := rfl
@[simp] theorem Dev.modGather_segs (d : Dev) (f : Gather → Gather) : (d.modGather f).segs = d.segs := rfl
@[simp] theorem Dev.modGather_motion (d : Dev) (f : Gather → Gather) : (d.modGather f).motion = d.motion := rfl
@[simp] theorem Dev.modGather_logAt (d : Dev) (f : Gather → Gather) : (d.modGather f).logAt = d.logAt := rfl
@[simp] theorem Dev.modGather_stores (d : Dev) (f : Gather → Gather) : (d.modGather f).stores = d.stores := rfl
@[simp] theorem Dev.modGather_out (d : Dev) (f : Gather → Gather) : (d.modGather f).out = d.out := rfl
@[simp] theorem Dev.modGather_work (d : Dev) (f : Gather → Gather) : (d.modGather f).work = d.work := rfl

/-! ### modSw -/

@[simp] theorem Dev.modSw_now (d : Dev) (f : Switch → Switch) : (d.modSw f).now = d.now := rfl
@[simp] theorem Dev.modSw_seq (d : Dev) (f : Switch → Switch) : (d.modSw f).seq = d.seq := rfl
@[simp] theorem Dev.modSw_doms (d : Dev) (f : Switch → Switch) : (d.modSw f).doms = d.doms := rfl
@[simp] theorem Dev.modSw_free (d : Dev) (f : Switch → Switch) : (d.modSw f).free = d.free := rfl
@[simp] theorem Dev.modSw_od (d : Dev) (f : Switch → Switch) : (d.modSw f).od = d.od := rfl
@[simp] theorem Dev.modSw_blob (d : Dev) (f : Switch → Switch) : (d.modSw f).blob = d.blob := rfl
@[simp] theorem Dev.modSw_mem (d : Dev) (f : Switch → Switch) : (d.modSw f).mem = d.mem := rfl
@[simp] theorem Dev.modSw_poison (d : Dev) (f : Switch → Switch) : (d.modSw f).poison = d.poison := rfl
@[simp] theorem Dev.modSw_ecc (d : Dev) (f : Switch → Switch) : (d.modSw f).ecc = d.ecc := rfl
@[simp] theorem Dev.modSw_sump (d : Dev) (f : Switch → Switch) : (d.modSw f).sump = d.sump := rfl
@[simp] theorem Dev.modSw_store (d : Dev) (f : Switch → Switch) : (d.modSw f).store = d.store := rfl
@[simp] theorem Dev.modSw_tap (d : Dev) (f : Switch → Switch) : (d.modSw f).tap = d.tap := rfl
@[simp] theorem Dev.modSw_mm (d : Dev) (f : Switch → Switch) : (d.modSw f).mm = d.mm := rfl
@[simp] theorem Dev.modSw_dict (d : Dev) (f : Switch → Switch) : (d.modSw f).dict = d.dict := rfl
@[simp] theorem Dev.modSw_eps (d : Dev) (f : Switch → Switch) : (d.modSw f).eps = d.eps := rfl
@[simp] theorem Dev.modSw_host (d : Dev) (f : Switch → Switch) : (d.modSw f).host = d.host := rfl
@[simp] theorem Dev.modSw_gather (d : Dev) (f : Switch → Switch) : (d.modSw f).gather = d.gather := rfl
@[simp] theorem Dev.modSw_ports (d : Dev) (f : Switch → Switch) : (d.modSw f).ports = d.ports := rfl
@[simp] theorem Dev.modSw_tiles (d : Dev) (f : Switch → Switch) : (d.modSw f).tiles = d.tiles := rfl
@[simp] theorem Dev.modSw_macs (d : Dev) (f : Switch → Switch) : (d.modSw f).macs = d.macs := rfl
@[simp] theorem Dev.modSw_ups (d : Dev) (f : Switch → Switch) : (d.modSw f).ups = d.ups := rfl
@[simp] theorem Dev.modSw_buses (d : Dev) (f : Switch → Switch) : (d.modSw f).buses = d.buses := rfl
@[simp] theorem Dev.modSw_engines (d : Dev) (f : Switch → Switch) : (d.modSw f).engines = d.engines := rfl
@[simp] theorem Dev.modSw_chans (d : Dev) (f : Switch → Switch) : (d.modSw f).chans = d.chans := rfl
@[simp] theorem Dev.modSw_cores (d : Dev) (f : Switch → Switch) : (d.modSw f).cores = d.cores := rfl
@[simp] theorem Dev.modSw_ctxs (d : Dev) (f : Switch → Switch) : (d.modSw f).ctxs = d.ctxs := rfl
@[simp] theorem Dev.modSw_bundles (d : Dev) (f : Switch → Switch) : (d.modSw f).bundles = d.bundles := rfl
@[simp] theorem Dev.modSw_sw (d : Dev) (f : Switch → Switch) : (d.modSw f).sw = f d.sw := rfl
@[simp] theorem Dev.modSw_cellar (d : Dev) (f : Switch → Switch) : (d.modSw f).cellar = d.cellar := rfl
@[simp] theorem Dev.modSw_time (d : Dev) (f : Switch → Switch) : (d.modSw f).time = d.time := rfl
@[simp] theorem Dev.modSw_segs (d : Dev) (f : Switch → Switch) : (d.modSw f).segs = d.segs := rfl
@[simp] theorem Dev.modSw_motion (d : Dev) (f : Switch → Switch) : (d.modSw f).motion = d.motion := rfl
@[simp] theorem Dev.modSw_logAt (d : Dev) (f : Switch → Switch) : (d.modSw f).logAt = d.logAt := rfl
@[simp] theorem Dev.modSw_stores (d : Dev) (f : Switch → Switch) : (d.modSw f).stores = d.stores := rfl
@[simp] theorem Dev.modSw_out (d : Dev) (f : Switch → Switch) : (d.modSw f).out = d.out := rfl
@[simp] theorem Dev.modSw_work (d : Dev) (f : Switch → Switch) : (d.modSw f).work = d.work := rfl

/-! ### modCellar -/

@[simp] theorem Dev.modCellar_now (d : Dev) (f : Cellar → Cellar) : (d.modCellar f).now = d.now := rfl
@[simp] theorem Dev.modCellar_seq (d : Dev) (f : Cellar → Cellar) : (d.modCellar f).seq = d.seq := rfl
@[simp] theorem Dev.modCellar_doms (d : Dev) (f : Cellar → Cellar) : (d.modCellar f).doms = d.doms := rfl
@[simp] theorem Dev.modCellar_free (d : Dev) (f : Cellar → Cellar) : (d.modCellar f).free = d.free := rfl
@[simp] theorem Dev.modCellar_od (d : Dev) (f : Cellar → Cellar) : (d.modCellar f).od = d.od := rfl
@[simp] theorem Dev.modCellar_blob (d : Dev) (f : Cellar → Cellar) : (d.modCellar f).blob = d.blob := rfl
@[simp] theorem Dev.modCellar_mem (d : Dev) (f : Cellar → Cellar) : (d.modCellar f).mem = d.mem := rfl
@[simp] theorem Dev.modCellar_poison (d : Dev) (f : Cellar → Cellar) : (d.modCellar f).poison = d.poison := rfl
@[simp] theorem Dev.modCellar_ecc (d : Dev) (f : Cellar → Cellar) : (d.modCellar f).ecc = d.ecc := rfl
@[simp] theorem Dev.modCellar_sump (d : Dev) (f : Cellar → Cellar) : (d.modCellar f).sump = d.sump := rfl
@[simp] theorem Dev.modCellar_store (d : Dev) (f : Cellar → Cellar) : (d.modCellar f).store = d.store := rfl
@[simp] theorem Dev.modCellar_tap (d : Dev) (f : Cellar → Cellar) : (d.modCellar f).tap = d.tap := rfl
@[simp] theorem Dev.modCellar_mm (d : Dev) (f : Cellar → Cellar) : (d.modCellar f).mm = d.mm := rfl
@[simp] theorem Dev.modCellar_dict (d : Dev) (f : Cellar → Cellar) : (d.modCellar f).dict = d.dict := rfl
@[simp] theorem Dev.modCellar_eps (d : Dev) (f : Cellar → Cellar) : (d.modCellar f).eps = d.eps := rfl
@[simp] theorem Dev.modCellar_host (d : Dev) (f : Cellar → Cellar) : (d.modCellar f).host = d.host := rfl
@[simp] theorem Dev.modCellar_gather (d : Dev) (f : Cellar → Cellar) : (d.modCellar f).gather = d.gather := rfl
@[simp] theorem Dev.modCellar_ports (d : Dev) (f : Cellar → Cellar) : (d.modCellar f).ports = d.ports := rfl
@[simp] theorem Dev.modCellar_tiles (d : Dev) (f : Cellar → Cellar) : (d.modCellar f).tiles = d.tiles := rfl
@[simp] theorem Dev.modCellar_macs (d : Dev) (f : Cellar → Cellar) : (d.modCellar f).macs = d.macs := rfl
@[simp] theorem Dev.modCellar_ups (d : Dev) (f : Cellar → Cellar) : (d.modCellar f).ups = d.ups := rfl
@[simp] theorem Dev.modCellar_buses (d : Dev) (f : Cellar → Cellar) : (d.modCellar f).buses = d.buses := rfl
@[simp] theorem Dev.modCellar_engines (d : Dev) (f : Cellar → Cellar) : (d.modCellar f).engines = d.engines := rfl
@[simp] theorem Dev.modCellar_chans (d : Dev) (f : Cellar → Cellar) : (d.modCellar f).chans = d.chans := rfl
@[simp] theorem Dev.modCellar_cores (d : Dev) (f : Cellar → Cellar) : (d.modCellar f).cores = d.cores := rfl
@[simp] theorem Dev.modCellar_ctxs (d : Dev) (f : Cellar → Cellar) : (d.modCellar f).ctxs = d.ctxs := rfl
@[simp] theorem Dev.modCellar_bundles (d : Dev) (f : Cellar → Cellar) : (d.modCellar f).bundles = d.bundles := rfl
@[simp] theorem Dev.modCellar_sw (d : Dev) (f : Cellar → Cellar) : (d.modCellar f).sw = d.sw := rfl
@[simp] theorem Dev.modCellar_cellar (d : Dev) (f : Cellar → Cellar) : (d.modCellar f).cellar = f d.cellar := rfl
@[simp] theorem Dev.modCellar_time (d : Dev) (f : Cellar → Cellar) : (d.modCellar f).time = d.time := rfl
@[simp] theorem Dev.modCellar_segs (d : Dev) (f : Cellar → Cellar) : (d.modCellar f).segs = d.segs := rfl
@[simp] theorem Dev.modCellar_motion (d : Dev) (f : Cellar → Cellar) : (d.modCellar f).motion = d.motion := rfl
@[simp] theorem Dev.modCellar_logAt (d : Dev) (f : Cellar → Cellar) : (d.modCellar f).logAt = d.logAt := rfl
@[simp] theorem Dev.modCellar_stores (d : Dev) (f : Cellar → Cellar) : (d.modCellar f).stores = d.stores := rfl
@[simp] theorem Dev.modCellar_out (d : Dev) (f : Cellar → Cellar) : (d.modCellar f).out = d.out := rfl
@[simp] theorem Dev.modCellar_work (d : Dev) (f : Cellar → Cellar) : (d.modCellar f).work = d.work := rfl

/-! ### modMotion -/

@[simp] theorem Dev.modMotion_now (d : Dev) (f : Motion → Motion) : (d.modMotion f).now = d.now := rfl
@[simp] theorem Dev.modMotion_seq (d : Dev) (f : Motion → Motion) : (d.modMotion f).seq = d.seq := rfl
@[simp] theorem Dev.modMotion_doms (d : Dev) (f : Motion → Motion) : (d.modMotion f).doms = d.doms := rfl
@[simp] theorem Dev.modMotion_free (d : Dev) (f : Motion → Motion) : (d.modMotion f).free = d.free := rfl
@[simp] theorem Dev.modMotion_od (d : Dev) (f : Motion → Motion) : (d.modMotion f).od = d.od := rfl
@[simp] theorem Dev.modMotion_blob (d : Dev) (f : Motion → Motion) : (d.modMotion f).blob = d.blob := rfl
@[simp] theorem Dev.modMotion_mem (d : Dev) (f : Motion → Motion) : (d.modMotion f).mem = d.mem := rfl
@[simp] theorem Dev.modMotion_poison (d : Dev) (f : Motion → Motion) : (d.modMotion f).poison = d.poison := rfl
@[simp] theorem Dev.modMotion_ecc (d : Dev) (f : Motion → Motion) : (d.modMotion f).ecc = d.ecc := rfl
@[simp] theorem Dev.modMotion_sump (d : Dev) (f : Motion → Motion) : (d.modMotion f).sump = d.sump := rfl
@[simp] theorem Dev.modMotion_store (d : Dev) (f : Motion → Motion) : (d.modMotion f).store = d.store := rfl
@[simp] theorem Dev.modMotion_tap (d : Dev) (f : Motion → Motion) : (d.modMotion f).tap = d.tap := rfl
@[simp] theorem Dev.modMotion_mm (d : Dev) (f : Motion → Motion) : (d.modMotion f).mm = d.mm := rfl
@[simp] theorem Dev.modMotion_dict (d : Dev) (f : Motion → Motion) : (d.modMotion f).dict = d.dict := rfl
@[simp] theorem Dev.modMotion_eps (d : Dev) (f : Motion → Motion) : (d.modMotion f).eps = d.eps := rfl
@[simp] theorem Dev.modMotion_host (d : Dev) (f : Motion → Motion) : (d.modMotion f).host = d.host := rfl
@[simp] theorem Dev.modMotion_gather (d : Dev) (f : Motion → Motion) : (d.modMotion f).gather = d.gather := rfl
@[simp] theorem Dev.modMotion_ports (d : Dev) (f : Motion → Motion) : (d.modMotion f).ports = d.ports := rfl
@[simp] theorem Dev.modMotion_tiles (d : Dev) (f : Motion → Motion) : (d.modMotion f).tiles = d.tiles := rfl
@[simp] theorem Dev.modMotion_macs (d : Dev) (f : Motion → Motion) : (d.modMotion f).macs = d.macs := rfl
@[simp] theorem Dev.modMotion_ups (d : Dev) (f : Motion → Motion) : (d.modMotion f).ups = d.ups := rfl
@[simp] theorem Dev.modMotion_buses (d : Dev) (f : Motion → Motion) : (d.modMotion f).buses = d.buses := rfl
@[simp] theorem Dev.modMotion_engines (d : Dev) (f : Motion → Motion) : (d.modMotion f).engines = d.engines := rfl
@[simp] theorem Dev.modMotion_chans (d : Dev) (f : Motion → Motion) : (d.modMotion f).chans = d.chans := rfl
@[simp] theorem Dev.modMotion_cores (d : Dev) (f : Motion → Motion) : (d.modMotion f).cores = d.cores := rfl
@[simp] theorem Dev.modMotion_ctxs (d : Dev) (f : Motion → Motion) : (d.modMotion f).ctxs = d.ctxs := rfl
@[simp] theorem Dev.modMotion_bundles (d : Dev) (f : Motion → Motion) : (d.modMotion f).bundles = d.bundles := rfl
@[simp] theorem Dev.modMotion_sw (d : Dev) (f : Motion → Motion) : (d.modMotion f).sw = d.sw := rfl
@[simp] theorem Dev.modMotion_cellar (d : Dev) (f : Motion → Motion) : (d.modMotion f).cellar = d.cellar := rfl
@[simp] theorem Dev.modMotion_time (d : Dev) (f : Motion → Motion) : (d.modMotion f).time = d.time := rfl
@[simp] theorem Dev.modMotion_segs (d : Dev) (f : Motion → Motion) : (d.modMotion f).segs = d.segs := rfl
@[simp] theorem Dev.modMotion_motion (d : Dev) (f : Motion → Motion) : (d.modMotion f).motion = f d.motion := rfl
@[simp] theorem Dev.modMotion_logAt (d : Dev) (f : Motion → Motion) : (d.modMotion f).logAt = d.logAt := rfl
@[simp] theorem Dev.modMotion_stores (d : Dev) (f : Motion → Motion) : (d.modMotion f).stores = d.stores := rfl
@[simp] theorem Dev.modMotion_out (d : Dev) (f : Motion → Motion) : (d.modMotion f).out = d.out := rfl
@[simp] theorem Dev.modMotion_work (d : Dev) (f : Motion → Motion) : (d.modMotion f).work = d.work := rfl

/-! ### The state -/

@[simp] theorem State.dev_pending (s : State) (d : Dev) : ({ s with dev := d } : State).pending = s.pending := rfl
@[simp] theorem State.dev_dev (s : State) (d : Dev) : ({ s with dev := d } : State).dev = d := rfl
@[simp] theorem State.pending_dev (s : State) (l : List Instr) : ({ s with pending := l } : State).dev = s.dev := rfl
@[simp] theorem State.pending_pending (s : State) (l : List Instr) : ({ s with pending := l } : State).pending = l := rfl

end Sys2Proof.Machine
end

