-- ==== Sys2Proof/Laws/Memory.lean ====
section
/-! SUPPORT. Sparse maps and memory: a read after a write, other places untouched, and the canonical form kept by every
memory operation (spec 04, R103 to R105; log entry 4). -/
namespace Sys2Proof.Machine

/-! ### Sparse maps -/

theorem mget?_mput {α : Type} (m : SMap α) (k j : Nat) (v : α) : mget? (mput m k v) j = if j = k then some v else mget? m j := by
  induction m with
  | nil => simp [mput, mget?, eq_comm]
  | cons e r ih =>
    obtain ⟨i, w⟩ := e
    by_cases h1 : i = k
    · subst h1
      simp only [mput, if_pos, mget?]
      by_cases h : i = j
      · simp [h]
      · simp [h, Ne.symm h]
    · by_cases h2 : k < i
      · simp only [mput, if_neg h1, if_pos h2, mget?]
        by_cases h : k = j
        · simp [h]
        · simp [h, Ne.symm h]
      · simp only [mput, if_neg h1, if_neg h2, mget?, ih]
        by_cases h : i = j
        · simp [← h, h1]
        · simp [h]

theorem mget?_filter {α : Type} (m : SMap α) (p : Nat → Bool) (j : Nat) :
    mget? (m.filter fun e => p e.1) j = if p j then mget? m j else none := by
  induction m with
  | nil => simp [mget?]
  | cons e r ih =>
    obtain ⟨i, w⟩ := e
    by_cases h : i = j
    · subst h
      cases hp : p i <;> simp_all [mget?]
    · cases hp : p i <;> simp_all [mget?]

theorem mget?_mdel {α : Type} (m : SMap α) (k j : Nat) : mget? (mdel m k) j = if j = k then none else mget? m j := by
  have h := mget?_filter m (fun i => i != k) j
  simp only [mdel, h]
  by_cases hj : j = k <;> simp [hj]

@[simp] theorem mget_mput_same {α : Type} (m : SMap α) (k : Nat) (v d : α) : mget (mput m k v) k d = v := by
  simp [mget, mget?_mput]

theorem mget_mput_other {α : Type} (m : SMap α) (k j : Nat) (v d : α) (h : j ≠ k) : mget (mput m k v) j d = mget m j d := by
  simp [mget, mget?_mput, h]

@[simp] theorem mget_mmod_same {α : Type} (m : SMap α) (k : Nat) (d : α) (f : α → α) : mget (mmod m k d f) k d = f (mget m k d) := by
  simp [mmod]

theorem mget_mmod_other {α : Type} (m : SMap α) (k j : Nat) (d : α) (f : α → α) (h : j ≠ k) : mget (mmod m k d f) j d = mget m j d := by
  simp [mmod, mget_mput_other _ _ _ _ _ h]

/-! ### Object values -/

@[simp] theorem Dev.ob_setOb_same (d : Dev) (k : Nat) (v : Int) : (d.setOb k v).ob k = v := by
  simp [Dev.ob, mget?_mput]

theorem Dev.ob_setOb_other (d : Dev) (k j : Nat) (v : Int) (h : j ≠ k) : (d.setOb k v).ob j = d.ob j := by
  simp [Dev.ob, mget?_mput, h]

@[simp] theorem Dev.obn_setOb_same (d : Dev) (k : Nat) (v : Int) : (d.setOb k v).obn k = v.toNat := by
  simp [Dev.obn]

theorem Dev.obn_setOb_other (d : Dev) (k j : Nat) (v : Int) (h : j ≠ k) : (d.setOb k v).obn j = d.obn j := by
  simp [Dev.obn, Dev.ob_setOb_other _ _ _ _ h]

/-! ### Memory words -/

namespace Memory

theorem read_write_same (m : Memory) (a : Nat) (v : Word) : (m.write a v).read a = v := by
  by_cases h : v = unlisted <;> simp [write, read, h, mget, mget?_mdel, mget?_mput]

theorem read_write_other (m : Memory) (a b : Nat) (v : Word) (h : b ≠ a) : (m.write a v).read b = m.read b := by
  by_cases hv : v = unlisted <;> simp [write, read, hv, mget, mget?_mdel, mget?_mput, h]

theorem read_clear (m : Memory) (lo hi a : Nat) :
    (m.clear lo hi).read a = if a < lo ∨ hi ≤ a then m.read a else unlisted := by
  have h := mget?_filter m (fun i => decide (i < lo) || decide (hi ≤ i)) a
  simp only [read, clear, mget, h]
  by_cases h1 : a < lo <;> by_cases h2 : hi ≤ a <;> simp [h1, h2]

/-- Rising keys, by pairs: every key lies below all later ones. -/
theorem rising_iff (m : Memory) : rising m = true ↔ m.Pairwise (fun x y => x.1 < y.1) := by
  induction m with
  | nil => simp [rising]
  | cons e r ih =>
    cases r with
    | nil => simp [rising]
    | cons f t =>
      obtain ⟨i, w⟩ := e
      obtain ⟨j, x⟩ := f
      simp only [rising, Bool.and_eq_true, decide_eq_true_eq, ih]
      constructor
      · rintro ⟨h, ht⟩
        refine List.pairwise_cons.mpr ⟨?_, ht⟩
        intro y hy
        rcases List.mem_cons.mp hy with rfl | hy
        · exact h
        · exact Nat.lt_trans h ((List.pairwise_cons.mp ht).1 y hy)
      · intro h
        exact ⟨(List.pairwise_cons.mp h).1 (j, x) List.mem_cons_self, (List.pairwise_cons.mp h).2⟩

theorem mem_mput {m : Memory} {k : Nat} {v : Word} {e : Nat × Word} (h : e ∈ mput m k v) : e = (k, v) ∨ e ∈ m := by
  induction m with
  | nil => simp [mput] at h; exact .inl h
  | cons f r ih =>
    obtain ⟨i, w⟩ := f
    simp only [mput] at h
    split at h
    · rcases List.mem_cons.mp h with h | h
      · exact .inl h
      · exact .inr (List.mem_cons_of_mem _ h)
    · split at h
      · rcases List.mem_cons.mp h with h | h
        · exact .inl h
        · exact .inr h
      · rcases List.mem_cons.mp h with h | h
        · exact .inr (h ▸ List.mem_cons_self)
        · rcases ih h with h | h
          · exact .inl h
          · exact .inr (List.mem_cons_of_mem _ h)

theorem pairwise_mput {m : Memory} (k : Nat) (v : Word) (h : m.Pairwise (fun x y => x.1 < y.1)) :
    (mput m k v).Pairwise (fun x y => x.1 < y.1) := by
  induction m with
  | nil => simp [mput]
  | cons f r ih =>
    obtain ⟨i, w⟩ := f
    have hr := List.pairwise_cons.mp h
    simp only [mput]
    split
    · rename_i e; subst e; exact List.pairwise_cons.mpr ⟨hr.1, hr.2⟩
    · split
      · rename_i hk
        refine List.pairwise_cons.mpr ⟨?_, h⟩
        intro y hy
        rcases List.mem_cons.mp hy with rfl | hy
        · exact hk
        · exact Nat.lt_trans hk (hr.1 y hy)
      · rename_i h1 h2
        refine List.pairwise_cons.mpr ⟨?_, ih hr.2⟩
        intro y hy
        rcases mem_mput hy with rfl | hy
        · exact Nat.lt_of_le_of_ne (Nat.not_lt.mp h2) h1
        · exact hr.1 y hy

theorem wf_iff (m : Memory) : m.wf = true ↔ m.Pairwise (fun x y => x.1 < y.1) ∧ ∀ e ∈ m, e.2 ≠ unlisted := by
  simp [wf, rising_iff]

/-- A write keeps the canonical form. -/
theorem wf_write {m : Memory} (a : Nat) (v : Word) (h : m.wf = true) : (m.write a v).wf = true := by
  rw [wf_iff] at h ⊢
  by_cases hv : v = unlisted
  · simp only [write, hv, if_pos, mdel]
    exact ⟨h.1.filter _, fun e he => h.2 e (List.mem_filter.mp he).1⟩
  · simp only [write, if_neg hv]
    refine ⟨pairwise_mput a v h.1, fun e he => ?_⟩
    rcases mem_mput he with rfl | he
    · exact hv
    · exact h.2 e he

theorem wf_clear {m : Memory} (lo hi : Nat) (h : m.wf = true) : (m.clear lo hi).wf = true := by
  rw [wf_iff] at h ⊢
  exact ⟨h.1.filter _, fun e he => h.2 e (List.mem_filter.mp he).1⟩

/-- Keeping the words of some addresses only keeps the canonical form. -/
theorem wf_filter {m : Memory} (p : Nat → Bool) (h : m.wf = true) : Memory.wf (m.filter fun e => p e.1) = true := by
  rw [wf_iff] at h ⊢
  exact ⟨h.1.filter _, fun e he => h.2 e (List.mem_filter.mp he).1⟩

theorem wf_writeAll {m : Memory} (a : Nat) (l : List Word) (h : m.wf = true) : (m.writeAll a l).wf = true := by
  induction l generalizing m a with
  | nil => exact h
  | cons v r ih => exact ih (a + 1) (wf_write a v h)

end Memory

/-! ### The block's memory -/

theorem Dev.wf_st {d : Dev} (a v : Nat) (h : d.mem.wf = true) : (d.st a v).mem.wf = true := Memory.wf_write _ _ h

theorem Dev.wf_stAll {d : Dev} (a : Nat) (l : List Nat) (h : d.mem.wf = true) : (d.stAll a l).mem.wf = true := by
  induction l generalizing d a with
  | nil => exact h
  | cons v r ih => exact ih (a + 1) (Dev.wf_st a v h)

theorem Dev.wf_clearMem {d : Dev} (lo hi : Nat) (h : d.mem.wf = true) : (d.clearMem lo hi).mem.wf = true := Memory.wf_clear _ _ h

theorem reset_mem_wf : State.reset.dev.mem.wf = true := rfl

@[simp] theorem Dev.ld_st_same (d : Dev) (a v : Nat) : (d.st a v).ld a = v % 2 ^ 24 := by
  simp [Dev.ld, Memory.read_write_same, word]

theorem Dev.ld_st_other (d : Dev) (a b v : Nat) (h : b ≠ a) : (d.st a v).ld b = d.ld b := by
  simp [Dev.ld, Memory.read_write_other _ _ _ _ h]

theorem Dev.ld_stAll_other (d : Dev) (a b : Nat) (l : List Nat) (h : b < a ∨ a + l.length ≤ b) : (d.stAll a l).ld b = d.ld b := by
  induction l generalizing d a with
  | nil => rfl
  | cons v r ih =>
    simp only [List.length_cons] at h
    rw [Dev.stAll, ih (d.st a v) (a + 1) (by omega), Dev.ld_st_other _ _ _ _ (by omega)]

theorem Dev.ld_clearMem (d : Dev) (lo hi a : Nat) : (d.clearMem lo hi).ld a = if a < lo ∨ hi ≤ a then d.ld a else 0 := by
  simp only [Dev.ld, Dev.clearMem_mem, Memory.read_clear]
  split <;> simp [Memory.unlisted]

end Sys2Proof.Machine
end

