-- ==== Sys2Proof/Laws/Writes.lean ====
section
/-! SUPPORT. What a request does that the dictionary takes: its operation runs at once, and its answer goes out (spec 03, R73 to R83). -/
namespace Sys2Proof.Machine

theorem State.takes_via {s : State} {r : Src} {op key arg : Nat} {w : List Nat} (h : s.takes r op key arg w = true) :
    s.cmd.served 0 = true ∧ r.via ≠ .smbus ∧ (∀ u a, r.via ≠ .aapOpen u a) ∧ s.cmd.dict.inflight.length < 256 ∧
      (s.cmd.dict.inflight.any fun t => t.src == r) = false ∧ ({ s.cmd with free := s.cmd.free + 512 }).blocked (s.cmd.txOf r op key arg w) = false ∧
      w.length ≤ 61 := by
  simp only [State.takes, Bool.and_eq_true, decide_eq_true_eq, Bool.not_eq_true'] at h
  obtain ⟨⟨⟨⟨⟨h1, h2⟩, h3⟩, h4⟩, h5⟩, h6⟩ := h
  refine ⟨h1, ?_, ?_, h3, h4, h5, h6⟩
  · intro hv; rw [hv] at h2; exact Bool.noConfusion h2
  · intro u a hv; rw [hv] at h2; exact Bool.noConfusion h2

/-- What a request does that is taken: its operation, and the answer when there is one. -/
theorem request_carries {s : State} {r : Src} {op key arg : Nat} {w : List Nat} (h : s.takes r op key arg w = true) :
    s.cmd.request r op key arg w =
      match (s.taken r op key arg w).perform r op key arg w with
      | (d, some a) => (d.finish (s.cmd.txOf r op key arg w) s.dev.seq a).modDict fun x => { x with took := none }
      | (d, none) => d := by
  obtain ⟨h1, h2, h3, h4, h5, h6, h7⟩ := s.takes_via h
  have ho : (s.taken r op key arg w).operate r op key arg w = (s.taken r op key arg w).perform r op key arg w := by
    unfold Dev.operate
    have h8 : ¬ 61 < w.length := by omega
    cases hv : r.via with
    | smbus => exact absurd hv h2
    | aapOpen u a => exact absurd hv (h3 u a)
    | _ => simp [h8]
  unfold Dev.request
  rw [if_neg (by simp [h2]), h1, if_neg (by simp)]
  unfold Dev.take
  rw [if_neg (by simp [h5]; omega)]
  show (if ({ s.cmd with free := s.cmd.free + 512 } : Dev).blocked (s.cmd.txOf r op key arg w) then _ else _) = _
  rw [if_neg (by simp [h6])]
  show Dev.carry _ (s.cmd.txOf r op key arg w) _ = _
  unfold Dev.carry
  show (match (s.taken r op key arg w).operate r op key arg w with
    | (d, some a) => (d.finish (s.cmd.txOf r op key arg w) s.dev.seq a).modDict fun x => { x with took := none }
    | (d, none) => d) = _
  rw [ho]

/-- A request that is taken answers what its operation answers. -/
theorem request_takes {s : State} {r : Src} {op key arg : Nat} {w : List Nat} {d' : Dev} {a : Ans} (h : s.takes r op key arg w = true)
    (hp : (s.taken r op key arg w).perform r op key arg w = (d', some a)) :
    run (fun d => d.request r op key arg w) s = .next (s.answers r op key arg w d' a) := by
  show Host.Outcome.next { s with dev := (s.cmd.request r op key arg w).settle } = _
  rw [request_carries h, hp]
  rfl

/-- A request whose operation waits stays in flight. -/
theorem request_waits {s : State} {r : Src} {op key arg : Nat} {w : List Nat} {d' : Dev} (h : s.takes r op key arg w = true)
    (hp : (s.taken r op key arg w).perform r op key arg w = (d', none)) :
    run (fun d => d.request r op key arg w) s = .next (s.after d') := by
  show Host.Outcome.next { s with dev := (s.cmd.request r op key arg w).settle } = _
  rw [request_carries h, hp]
  rfl

/-- What an admitted write does: its effect, and the answer when there is one. -/
theorem write_effect {s : State} {r : Src} {key level : Nat} {w : List Nat} {x : Desc} {v : Int} (h : s.opens r key w level = true)
    (hd : descOf key = some x) (hl : writeLevel x key = level) (ha : x.acc ≠ .r) (h0 : ¬ (bits key 23 20 = 9 ∧ bits key 19 8 < 0x10))
    (hm : (x.acc = .rwc ∨ x.acc = .rwh) → (s.taken r 2 key 0 w).mode = 2 ∨ (x.acc = .rwh ∧ (s.taken r 2 key 0 w).mode = 7))
    (hw : w.length = x.ty.words) (hn : x.ty.words ≠ 0) (hv : x.ty.decode w = some v) (hr : x.allows v = true) :
    (s.taken r 2 key 0 w).perform r 2 key 0 w =
      (let y := (s.taken r 2 key 0 w).effect x key v (some r) true
       answered (if y.2 = some Stat.done then y.1.atticWritten key else y.1, y.2)) := by
  simp only [State.opens, Bool.and_eq_true, decide_eq_true_eq, Bool.not_eq_true'] at h
  obtain ⟨⟨h1, h2⟩, h3⟩ := h
  show Dev.opWrite _ _ _ _ = _
  unfold Dev.opWrite
  rw [h2, if_neg (by simp)]
  have hc : (s.taken r 2 key 0 w).writeCheck r.via x key = Stat.done := by
    unfold Dev.writeCheck
    rw [if_neg (by simp [ha, hl]; omega), if_neg]
    simp only [Bool.or_eq_true, Bool.and_eq_true, decide_eq_true_eq]
    rintro (⟨h4, h5⟩ | ⟨⟨h4, h5⟩, h6⟩)
    · rcases hm (.inl h4) with h | ⟨h, _⟩
      · exact h5 h
      · rw [h4] at h; cases h
    · rcases hm (.inr h4) with h | ⟨_, h⟩
      · exact h5 h
      · exact h6 h
  have hval : (s.taken r 2 key 0 w).valueOf r.via key w = (x, v, Stat.done) := by
    unfold Dev.valueOf Dev.desc
    simp only [hd, hc, hv, hr]
    simp [hw, hn]
  rw [hval]
  rfl

/-- The request of an admitted write is taken. -/
theorem State.opens_takes {s : State} {r : Src} {key level : Nat} {w : List Nat} (h : s.opens r key w level = true) : s.takes r 2 key 0 w = true := by
  simp only [State.opens, Bool.and_eq_true] at h
  exact h.1.1

/-- An admitted write whose effect is DONE. -/
theorem write_opens {s : State} {r : Src} {key level : Nat} {w : List Nat} {x : Desc} {v : Int} {d' : Dev} (h : s.opens r key w level = true)
    (hd : descOf key = some x) (hl : writeLevel x key = level) (ha : x.acc ≠ .r) (h0 : ¬ (bits key 23 20 = 9 ∧ bits key 19 8 < 0x10))
    (hm : (x.acc = .rwc ∨ x.acc = .rwh) → (s.taken r 2 key 0 w).mode = 2 ∨ (x.acc = .rwh ∧ (s.taken r 2 key 0 w).mode = 7))
    (hw : w.length = x.ty.words) (hn : x.ty.words ≠ 0) (hv : x.ty.decode w = some v) (hr : x.allows v = true)
    (he : (s.taken r 2 key 0 w).effect x key v (some r) true = (d', some Stat.done)) :
    run (fun d => d.writeReq r key w) s = .next (s.wrote r key w d') := by
  refine request_takes (s.opens_takes h) (d' := d'.atticWritten key) (a := ans Stat.done) ?_
  rw [write_effect h hd hl ha h0 hm hw hn hv hr, he]
  rfl

/-- The level that a row of an area needs of a write (R72). -/
def levelOf (area : Nat) (acc : Acc) : Nat :=
  if area = 5 ∨ area = 13 then 3 else match acc with
    | .rwc | .rwh => 2
    | _ => 1

theorem writeLevel_row {key i a o e : Nat} {x : Desc} (hk : isRow key x i a o e) : writeLevel x key = levelOf a x.acc := by
  simp only [writeLevel, levelOf, hk.2.2.1, Bool.or_eq_true, decide_eq_true_eq] <;> rfl

/-- An admitted write whose effect waits. -/
theorem write_waits {s : State} {r : Src} {key level i a o e n : Nat} {x : Desc} {d' : Dev} (h : s.opens r key [n] level = true)
    (hk : isRow key x i a o e) (ht : x.ty = .bool ∧ x.hi ≤ 1 ∨ x.ty = .u8 ∧ x.hi ≤ 255 ∨ x.ty = .u16 ∧ x.hi ≤ 65535 ∨ x.ty = .u24) (hl : levelOf a x.acc = level) (ha : x.acc ≠ .r)
    (h0 : ¬ (a = 9 ∧ o < 0x10))
    (hm : (x.acc = .rwc ∨ x.acc = .rwh) → (s.taken r 2 key 0 [n]).mode = 2 ∨ (x.acc = .rwh ∧ (s.taken r 2 key 0 [n]).mode = 7))
    (hr : x.lo ≤ (n : Int) ∧ (n : Int) ≤ x.hi)
    (he : (s.taken r 2 key 0 [n]).effect x key (n : Int) (some r) true = (d', none)) :
    run (fun d => d.writeReq r key [n]) s = .next (s.after d') := by
  refine request_waits (s.opens_takes h) ?_
  rw [write_effect h hk.1 (by rw [writeLevel_row hk, hl]) ha (by rw [hk.2.2.1, hk.2.2.2.1]; exact h0) hm ?_ ?_ ?_ (by simp [Desc.allows, hr] : x.allows (n : Int) = true), he]
  · rfl
  · rcases ht with h | h | h | h <;> simp [h, Ty.words]
  · rcases ht with h | h | h | h <;> simp [h, Ty.words]
  · rcases ht with ⟨h, h'⟩ | ⟨h, h'⟩ | ⟨h, h'⟩ | h <;> simp [h, Ty.decode] <;> omega

/-- An admitted write of a row of the tables. -/
theorem write_row {s : State} {r : Src} {key level i a o e : Nat} {w : List Nat} {x : Desc} {v : Int} {d' : Dev} (h : s.opens r key w level = true)
    (hk : isRow key x i a o e) (hl : levelOf a x.acc = level) (ha : x.acc ≠ .r) (h0 : ¬ (a = 9 ∧ o < 0x10))
    (hm : (x.acc = .rwc ∨ x.acc = .rwh) → (s.taken r 2 key 0 w).mode = 2 ∨ (x.acc = .rwh ∧ (s.taken r 2 key 0 w).mode = 7))
    (hw : w.length = x.ty.words) (hn : x.ty.words ≠ 0) (hv : x.ty.decode w = some v) (hr : x.lo ≤ v ∧ v ≤ x.hi)
    (he : (s.taken r 2 key 0 w).effect x key v (some r) true = (d', some Stat.done)) :
    run (fun d => d.writeReq r key w) s = .next (s.wrote r key w d') :=
  write_opens h hk.1 (by rw [writeLevel_row hk, hl]) ha (by rw [hk.2.2.1, hk.2.2.2.1]; exact h0) hm hw hn hv (by simp [Desc.allows, hr]) he

/-- An admitted write of one unsigned word. -/
theorem write_word {s : State} {r : Src} {key level i a o e n : Nat} {x : Desc} {d' : Dev} (h : s.opens r key [n] level = true)
    (hk : isRow key x i a o e) (ht : x.ty = .bool ∧ x.hi ≤ 1 ∨ x.ty = .u8 ∧ x.hi ≤ 255 ∨ x.ty = .u16 ∧ x.hi ≤ 65535 ∨ x.ty = .u24) (hl : levelOf a x.acc = level) (ha : x.acc ≠ .r)
    (h0 : ¬ (a = 9 ∧ o < 0x10))
    (hm : (x.acc = .rwc ∨ x.acc = .rwh) → (s.taken r 2 key 0 [n]).mode = 2 ∨ (x.acc = .rwh ∧ (s.taken r 2 key 0 [n]).mode = 7))
    (hr : x.lo ≤ (n : Int) ∧ (n : Int) ≤ x.hi)
    (he : (s.taken r 2 key 0 [n]).effect x key (n : Int) (some r) true = (d', some Stat.done)) :
    run (fun d => d.writeReq r key [n]) s = .next (s.wrote r key [n] d') := by
  refine write_row h hk hl ha h0 hm ?_ ?_ ?_ hr he
  · rcases ht with h | h | h | h <;> simp [h, Ty.words]
  · rcases ht with h | h | h | h <;> simp [h, Ty.words]
  · rcases ht with ⟨h, h'⟩ | ⟨h, h'⟩ | ⟨h, h'⟩ | h <;> simp [h, Ty.decode] <;> omega

/-- An admitted write of a row of the tables whose effect refuses it: the refusal is the answer. -/
theorem write_refused {s : State} {r : Src} {key level i a o e st : Nat} {w : List Nat} {x : Desc} {v : Int} {d' : Dev} (h : s.opens r key w level = true)
    (hk : isRow key x i a o e) (hl : levelOf a x.acc = level) (ha : x.acc ≠ .r) (h0 : ¬ (a = 9 ∧ o < 0x10))
    (hm : (x.acc = .rwc ∨ x.acc = .rwh) → (s.taken r 2 key 0 w).mode = 2 ∨ (x.acc = .rwh ∧ (s.taken r 2 key 0 w).mode = 7))
    (hw : w.length = x.ty.words) (hn : x.ty.words ≠ 0) (hv : x.ty.decode w = some v) (hr : x.allows v = true)
    (he : (s.taken r 2 key 0 w).effect x key v (some r) true = (d', some st)) (hs : st ≠ Stat.done) :
    run (fun d => d.writeReq r key w) s = .next (s.answers r 2 key 0 w d' (ans st)) := by
  refine request_takes (s.opens_takes h) (d' := d') (a := ans st) ?_
  rw [write_effect h hk.1 (by rw [writeLevel_row hk, hl]) ha (by rw [hk.2.2.1, hk.2.2.2.1]; exact h0) hm hw hn hv hr, he]
  simp [hs, answered]

/-- What a whole DOM does that is admitted: the effect of its object, and the answer when there is one. -/
theorem put_effect {s : State} {r : Src} {key level : Nat} {x : Desc} {img : List Byte} (h : s.puts r key level = true) (hd : descOf key = some x)
    (hl : writeLevel x key = level) (ha : x.acc = .w ∨ x.acc = .rw) (h0 : ¬ (bits key 23 20 = 9 ∧ bits key 19 8 < 0x10)) (hn : x.ty.words = 0)
    (hm : 0 < img.length ∧ img.length ≤ x.ty.most) :
    (s.taken r 9 key 0 []).opPutAll r key img = match (s.putting r key).domEffect x key img (some r) with
      | (d, some 0) => (d.dropPut key, some (ans Stat.done))
      | (d, some st) => (d, some (ans st))
      | (d, none) => (d.setPut key r.via img, none) := by
  simp only [State.puts, Bool.and_eq_true, decide_eq_true_eq, Bool.not_eq_true'] at h
  obtain ⟨⟨⟨h1, h2⟩, h3⟩, h4⟩ := h
  unfold Dev.opPutAll
  rw [h2, if_neg (by simp)]
  have hc : (s.taken r 9 key 0 []).writeCheck r.via x key = Stat.done := by
    unfold Dev.writeCheck
    rw [if_neg, if_neg]
    · rcases ha with h | h <;> simp [h]
    · simp only [Bool.or_eq_true, Bool.and_eq_true, decide_eq_true_eq, hl]
      rintro ((h | h) | h)
      · rcases ha with h' | h' <;> simp [h'] at h
      · omega
      · exact h0 h
  simp only [Dev.desc, hd, hc]
  have he : img.isEmpty = false := by cases img <;> simp_all
  simp only [List.any_eq_false, Bool.and_eq_true, Bool.or_eq_true, not_and, not_or] at h4
  have h5 : ((s.taken r 9 key 0 []).freshPuts.dict.puts.any fun p => p.key == key && p.via != r.via) = false := by
    simp only [List.any_eq_false, Bool.and_eq_true, not_and]
    exact fun p hp hk => (h4 p hp hk).1
  have h6 : ((s.taken r 9 key 0 []).freshPuts.dict.puts.any fun p => p.key == key && !p.data.isEmpty) = false := by
    simp only [List.any_eq_false, Bool.and_eq_true, not_and]
    exact fun p hp hk => (h4 p hp hk).2
  rw [if_neg (by simp), if_neg (by simp [hn, he]), h5, if_neg (by simp), h6, if_neg (by simp)]
  unfold Dev.putWhole
  rw [if_neg (by omega)]
  rfl

/-- A whole DOM that is admitted: its effect, and the answer. -/
theorem put_row {s : State} {r : Src} {key level i a o e : Nat} {x : Desc} {img : List Byte} {d' : Dev} (h : s.puts r key level = true)
    (hk : isRow key x i a o e) (hl : levelOf a x.acc = level) (ha : x.acc = .w ∨ x.acc = .rw) (h0 : ¬ (a = 9 ∧ o < 0x10)) (hn : x.ty.words = 0)
    (hm : 0 < img.length ∧ img.length ≤ x.ty.most) (he : (s.putting r key).domEffect x key img (some r) = (d', some Stat.done)) :
    run (fun d => d.putReq r key img) s = .next (s.placed r key d') := by
  have ht : s.takes r 9 key 0 [] = true := by simp only [State.puts, Bool.and_eq_true] at h; exact h.1.1.1
  obtain ⟨h1, h2, h3, h4, h5, h6, h7⟩ := s.takes_via ht
  show Host.Outcome.next { s with dev := (s.cmd.putReq r key img).settle } = _
  unfold Dev.putReq
  rw [h1, if_neg (by simp)]
  unfold Dev.take
  rw [if_neg (by simp [h5]; omega)]
  show Host.Outcome.next { s with dev := (if ({ s.cmd with free := s.cmd.free + 512 } : Dev).blocked (s.cmd.txOf r 9 key 0 []) then _ else _ : Dev).settle } = _
  rw [if_neg (by simp [h6])]
  show Host.Outcome.next { s with dev := (match (s.taken r 9 key 0 []).opPutAll r key img with
    | (d, some a) => (d.finish (s.cmd.txOf r 9 key 0 []) s.dev.seq a).modDict fun x => { x with took := none }
    | (d, none) => d : Dev).settle } = _
  rw [put_effect h hk.1 (by rw [writeLevel_row hk, hl]) ha (by rw [hk.2.2.1, hk.2.2.2.1]; exact h0) hn hm, he]
  rfl

end Sys2Proof.Machine
end

