-- ==== Sys2Proof/Laws/Cores.lean ====
section
/-! SUPPORT. What the issue of an instruction does (spec 10, R274, R284): its registers change once, and nothing else of the block does. -/
namespace Sys2Proof.Machine

theorem mput_mput {α : Type} (m : SMap α) (k : Nat) (v w : α) : mput (mput m k v) k w = mput m k w := by
  induction m with
  | nil => simp [mput]
  | cons e r ih =>
    obtain ⟨i, u⟩ := e
    by_cases h1 : i = k
    · simp [mput, h1]
    · by_cases h2 : k < i
      · simp [mput, h1, h2]
      · simp [mput, h1, h2, ih]

theorem mmod_mmod {α : Type} (m : SMap α) (k : Nat) (d : α) (f g : α → α) : mmod (mmod m k d f) k d g = mmod m k d fun x => g (f x) := by
  simp [mmod, mput_mput]

@[simp] theorem Dev.core_modCore (d : Dev) (c : Nat) (f : Core → Core) : (d.modCore c f).core c = f (d.core c) := by
  simp [Dev.core, Dev.modCore]

theorem Dev.core_modCore_other (d : Dev) (c k : Nat) (f : Core → Core) (h : k ≠ c) : (d.modCore c f).core k = d.core k := by
  simp [Dev.core, Dev.modCore, mget_mmod_other _ _ _ _ _ h]

theorem Dev.modCore_modCore (d : Dev) (c : Nat) (f g : Core → Core) : (d.modCore c f).modCore c g = d.modCore c fun x => g (f x) := by
  simp [Dev.modCore, mmod_mmod]

/-- What lands changes the accumulator, the overflow bit and the queue of the multiplier alone. -/
theorem landMul_frame (x : Core) (l : List MulOp) : ∃ h m o, l.foldl Core.landMul x = { x with mh := h, ml := m, ov := o } := by
  induction l generalizing x with
  | nil => exact ⟨x.mh, x.ml, x.ov, rfl⟩
  | cons o r ih =>
    obtain ⟨h, m, v, e⟩ := ih (x.landMul o)
    exact ⟨h, m, v, by rw [List.foldl_cons, e]; rfl⟩

/-- A store to CORE_CTRL[0] that has completed shows once (R317). -/
@[simp] theorem gieAt_landGie (x : Core) (n : Nat) : (x.landGie n).gieAt n = x.gieAt n := by
  by_cases h : x.accEnds ≤ n <;> simp [Core.gieAt, Core.landGie, h]

@[simp] theorem landGie_landGie (x : Core) (n : Nat) : (x.landGie n).landGie n = x.landGie n := by
  by_cases h : x.accEnds ≤ n <;> simp [Core.gieAt, Core.landGie, h]

theorem landGie_of_none (x : Core) (n : Nat) (h : x.gieDue = none) : x.landGie n = x := by
  cases x; simp only at h; subst h; simp [Core.landGie, Core.gieAt]

theorem landBefore_frame (x : Core) (n : Nat) : ∃ h m o q, x.landBefore n = { x.landGie n with mh := h, ml := m, ov := o, mulq := q } := by
  obtain ⟨h, m, o, e⟩ := landMul_frame { x.landGie n with mulq := x.mulq.filter fun o => !decide (o.lands < n) } (x.mulq.filter fun o => decide (o.lands < n))
  exact ⟨h, m, o, _, e⟩

/-- Registers, flags and accesses as the multiplier leaves them. -/
theorem atCycle_frame (x : Core) (n : Nat) : ∃ h m o q, x.atCycle n = { x.landGie n with mh := h, ml := m, ov := o, mulq := q, cyc := n } := by
  obtain ⟨h, m, o, q, e⟩ := landBefore_frame x n
  exact ⟨h, m, o, q, by unfold Core.atCycle; rw [e]⟩

@[simp] theorem atCycle_g (x : Core) (n : Nat) : (x.atCycle n).g = x.g := by obtain ⟨h, m, o, q, e⟩ := atCycle_frame x n; rw [e]; rfl
@[simp] theorem atCycle_a (x : Core) (n : Nat) : (x.atCycle n).a = x.a := by obtain ⟨h, m, o, q, e⟩ := atCycle_frame x n; rw [e]; rfl
@[simp] theorem atCycle_flags (x : Core) (n : Nat) : (x.atCycle n).flags = x.flags := by obtain ⟨h, m, o, q, e⟩ := atCycle_frame x n; rw [e]; rfl
@[simp] theorem atCycle_pc (x : Core) (n : Nat) : (x.atCycle n).pc = x.pc := by obtain ⟨h, m, o, q, e⟩ := atCycle_frame x n; rw [e]; rfl
@[simp] theorem atCycle_rsd (x : Core) (n : Nat) : (x.atCycle n).rsd = x.rsd := by obtain ⟨h, m, o, q, e⟩ := atCycle_frame x n; rw [e]; rfl
@[simp] theorem atCycle_hw (x : Core) (n : Nat) : (x.atCycle n).hw = x.hw := by obtain ⟨h, m, o, q, e⟩ := atCycle_frame x n; rw [e]; rfl
@[simp] theorem atCycle_dsp (x : Core) (n : Nat) : (x.atCycle n).dsp = x.dsp := by obtain ⟨h, m, o, q, e⟩ := atCycle_frame x n; rw [e]; rfl
@[simp] theorem atCycle_dsl (x : Core) (n : Nat) : (x.atCycle n).dsl = x.dsl := by obtain ⟨h, m, o, q, e⟩ := atCycle_frame x n; rw [e]; rfl
@[simp] theorem atCycle_far (x : Core) (n : Nat) : (x.atCycle n).far = x.far := by obtain ⟨h, m, o, q, e⟩ := atCycle_frame x n; rw [e]; rfl
@[simp] theorem atCycle_gie (x : Core) (n : Nat) : (x.atCycle n).gie = x.gieAt n := by obtain ⟨h, m, o, q, e⟩ := atCycle_frame x n; rw [e]; rfl
@[simp] theorem atCycle_accEnds (x : Core) (n : Nat) : (x.atCycle n).accEnds = x.accEnds := by obtain ⟨h, m, o, q, e⟩ := atCycle_frame x n; rw [e]; rfl
@[simp] theorem atCycle_reg (x : Core) (n : Nat) (r : Fin 16) : (x.atCycle n).reg r = x.reg r := by simp [Core.reg]

/-- An instruction that issues with no access outstanding: its effect in its cycle, and the cycle of the next one. -/
theorem instr_issues {d : Dev} {c n : Nat} {u : Needs} (h : d.issues c = true) (hn : n = (d.core c).issueAt (d.cycleOf c) u) (ha : (d.core c).accEnds ≤ n)
    (f : Nat → Dev → Dev × Nat) :
    d.instr c u f = let y := f n (d.modCore c fun x => x.atCycle n); y.1.modCore c fun x => { x with cyc := n + y.2 } := by
  unfold Dev.instr
  rw [if_neg (by simp [h])]
  simp only [← hn]
  show (Dev.modCore _ c fun y => { Core.outstanding (Dev.core (Dev.modCore d c fun x => x.atCycle n) c) n y with cyc := _ }) = _
  have e : (Dev.core (Dev.modCore d c fun x => x.atCycle n) c).accEnds ≤ n := by simpa using ha
  have o : ∀ y, Core.outstanding (Dev.core (Dev.modCore d c fun x => x.atCycle n) c) n y = y := by
    intro y; unfold Core.outstanding; rw [if_pos e]
  simp only [o]
  rfl

theorem regInstr_ran {d : Dev} {c n cost : Nat} {regs : List (Fin 16)} {srs : List Nat} (h : d.issues c = true)
    (hn : n = (d.core c).issueAt (d.cycleOf c) { regs := regs, srs := srs }) (ha : (d.core c).accEnds ≤ n) (f : Nat → Core → Core) :
    d.regInstr c regs srs cost f = d.modCore c fun x => { f n (x.atCycle n) with cyc := n + cost } := by
  unfold Dev.regInstr
  rw [instr_issues h hn ha]
  simp only [Dev.modCore_modCore]

/-- A register instruction runs. -/
theorem State.runs {s : State} {c n cost : Nat} {regs : List (Fin 16)} {srs : List Nat} (h : s.issuesIn c n regs srs = true) (f : Nat → Core → Core) :
    lift (fun d => d.regInstr c regs srs cost f) s = .next (s.ran c n cost (f n)) := by
  simp only [State.issuesIn, Bool.and_eq_true, beq_iff_eq, decide_eq_true_eq] at h
  show Host.Outcome.next { s with dev := s.dev.regInstr c regs srs cost f } = _
  rw [regInstr_ran h.1.1 h.1.2 h.2]
  rfl

/-- An access waits for the one that is outstanding. -/
theorem issueAt_mem (x : Core) (n : Nat) (u : Needs) (h : u.mem = true) : x.issueAt n u = x.issueAt n { mem := true } ∧ x.accEnds ≤ x.issueAt n u := by
  unfold Core.issueAt
  simp only [h, Bool.true_or, Bool.and_true, decide_eq_true_eq]
  refine ⟨trivial, ?_⟩
  split <;> omega

/-- What a change of a core does depends on the core as it stands alone. -/
theorem Dev.modCore_congr {d : Dev} {c : Nat} {f g : Core → Core} (h : f (d.core c) = g (d.core c)) : d.modCore c f = d.modCore c g := by
  simp only [Dev.core] at h
  simp only [Dev.modCore, mmod, h]

theorem State.inCycle_core (s : State) (c n : Nat) : (s.inCycle c n).core c = (s.dev.core c).atCycle n := by
  simp only [State.inCycle, Dev.core_modCore]
  rfl

/-- An instruction that reads registers alone issues in its cycle. -/
theorem State.issued {s : State} {c n : Nat} {regs : List (Fin 16)} {srs : List Nat} (h : s.issuesIn c n regs srs = true) (f : Nat → Dev → Dev × Nat) :
    s.cmd.instr c { regs := regs, srs := srs } f = let y := f n (s.inCycle c n); y.1.goesOn c (n + y.2) := by
  simp only [State.issuesIn, Bool.and_eq_true, beq_iff_eq, decide_eq_true_eq] at h
  exact instr_issues (d := s.cmd) h.1.1 h.1.2 h.2 f

/-- An instruction that accesses memory issues in its cycle. -/
theorem State.accessed {s : State} {c n : Nat} (h : s.accessIn c n = true) {u : Needs} (hu : u.mem = true) (f : Nat → Dev → Dev × Nat) :
    s.cmd.instr c u f = let y := f n (s.inCycle c n); y.1.goesOn c (n + y.2) := by
  simp only [State.accessIn, Bool.and_eq_true, beq_iff_eq] at h
  obtain ⟨h1, h2⟩ := h
  have hm := issueAt_mem (s.dev.core c) (s.dev.cycleOf c) u hu
  exact instr_issues (d := s.cmd) h1 (by rw [h2, ← hm.1]; rfl) (by rw [h2, ← hm.1]; exact hm.2) f

/-! ### Accesses to local data (spec 10, R274, R318) -/

theorem localWords_le (c : Nat) : localWords c ≤ 0x10000 := by unfold localWords; split <;> omega

theorem Dev.loadWord_local {d : Dev} {c a : Nat} (ha : a < localWords c) (hp : d.poisoned (localAddr c a) = false) :
    d.loadWord c a = (d, d.ld (localAddr c a), Stat.done) := by
  have h16 := localWords_le c
  unfold Dev.loadWord
  rw [if_pos (show a < 0x10000 by omega), if_neg (show ¬ localWords c ≤ a by omega), if_neg (by simp [hp])]

theorem Dev.storeWord_local {d : Dev} {c a v : Nat} (ha : a < localWords c) :
    d.storeWord c a v = ((d.st (localAddr c a) v).winTouched c a, Stat.done) := by
  have h16 := localWords_le c
  unfold Dev.storeWord
  rw [if_pos (show a < 0x10000 by omega), if_neg (show ¬ localWords c ≤ a by omega)]

theorem Dev.accCost_local {d : Dev} {c a : Nat} (ha : a < localWords c) : d.accCost a Stat.done = (2, d) := by
  have h16 := localWords_le c
  unfold Dev.accCost
  rw [if_neg (by decide), if_pos (show a < 0x20000 by omega)]

theorem Dev.coreLoad_local {d : Dev} {c n a : Nat} {rd : Fin 16} (ha : a < localWords c) (hp : d.poisoned (localAddr c a) = false) :
    d.coreLoad c n rd a =
      d.modCore c fun x => { (x.landGie n).setReg rd (word (d.ld (localAddr c a))) with accEnds := n + 2, accReg := rd.val, accSr := none } := by
  have e : (d.modCore c fun x => x.landGie n).poisoned (localAddr c a) = false := hp
  unfold Dev.coreLoad
  simp only [Dev.loadWord_local ha e, Dev.accCost_local ha, if_true, Dev.modCore_modCore]
  rfl

/-- A store to a core's own data waits for no far request (R276). -/
theorem Dev.farFirst_local {d : Dev} {c a : Nat} (ha : a < localWords c) : d.farFirst c a = d := by
  have h16 := localWords_le c
  unfold Dev.farFirst
  rw [if_neg (by simp; omega)]

theorem Dev.coreStore_local {d : Dev} {c n a : Nat} {v : Word} (ha : a < localWords c) :
    d.coreStore c n a v =
      (((d.modCore c fun x => x.landGie n).st (localAddr c a) v.toNat).winTouched c a).modCore c fun x => { x with accEnds := n + 2, accReg := 0, accSr := none } := by
  have h16 := localWords_le c
  have e : srOfAddr a = none := by unfold srOfAddr; rw [if_neg (by simp; omega)]
  unfold Dev.coreStore
  simp only [Dev.farFirst_local ha, Dev.storeWord_local ha, Dev.accCost_local ha, if_true, e]

end Sys2Proof.Machine
end

