-- ==== Sys2Proof/Laws/PerInstr.lean ====
section
/-! SUPPORT. What makes a command well formed, one lemma for each constructor: the length of a list operand where the hardware fixes it, and nothing else. -/
namespace Sys2Proof.Laws

/-- The lengths that the hardware gives a command's list operands: eight sensors (spec 02, R50), twenty rails (R56), at most four traces (spec 06, R160), at most
fifteen body words (spec 18, R492). A command without such an operand is well formed. -/
def Lengths.Statement (i : Instr) : Prop :=
  match i with
  | .tjSample temps _ => i.wellFormed = true ↔ temps.length = 8
  | .tapRailSample rails => i.wellFormed = true ↔ rails.length = 20
  | .tdrProcEnd _ traces => i.wellFormed = true ↔ traces.length ≤ 4
  | .mailboxPost _ _ _ body _ => i.wellFormed = true ↔ body.length ≤ 15
  | _ => i.wellFormed = true

theorem Lengths.powerOn : Lengths.Statement .powerOn := rfl
theorem Lengths.resetLow : Lengths.Statement .resetLow := rfl
theorem Lengths.resetRelease (straps : BitVec 2) (test : Bool) (flash : Flash) : Lengths.Statement (.resetRelease straps test flash) := rfl
theorem Lengths.warmRestart (cause : Fin 8) : Lengths.Statement (.warmRestart cause) := rfl
theorem Lengths.perst : Lengths.Statement .perst := rfl
theorem Lengths.brownOut (rail : Fin 20) : Lengths.Statement (.brownOut rail) := rfl
theorem Lengths.bootLimitExpiry : Lengths.Statement .bootLimitExpiry := rfl
theorem Lengths.hostBootChunk : Lengths.Statement .hostBootChunk := rfl
theorem Lengths.refclk25Absent : Lengths.Statement .refclk25Absent := rfl
theorem Lengths.refclk25Present : Lengths.Statement .refclk25Present := rfl
theorem Lengths.holdPinLow : Lengths.Statement .holdPinLow := rfl
theorem Lengths.holdPinHigh : Lengths.Statement .holdPinHigh := rfl
theorem Lengths.interconnectTimeout (agent : Fin 21) (addr : Word) (wr : Bool) : Lengths.Statement (.interconnectTimeout agent addr wr) := rfl
theorem Lengths.sumpWatchdogExpiry : Lengths.Statement .sumpWatchdogExpiry := rfl
theorem Lengths.wdogKick (agent : Fin 21) (v : Word) : Lengths.Statement (.wdogKick agent v) := rfl
theorem Lengths.modeRequest (r : Src) (v : Word) : Lengths.Statement (.modeRequest r v) := rfl
theorem Lengths.limpWaitEnd : Lengths.Statement .limpWaitEnd := rfl
theorem Lengths.limpReturn : Lengths.Statement .limpReturn := rfl
theorem Lengths.wakeAtAlarm : Lengths.Statement .wakeAtAlarm := rfl
theorem Lengths.tjSample (temps : List Int) (sump : Int) : Lengths.Statement (.tjSample temps sump) := by simp [Lengths.Statement, Instr.wellFormed]
theorem Lengths.tapRailSample (rails : List (Nat × Nat)) : Lengths.Statement (.tapRailSample rails) := by simp [Lengths.Statement, Instr.wellFormed]
theorem Lengths.limpPowerDormant : Lengths.Statement .limpPowerDormant := rfl
theorem Lengths.tapRequest : Lengths.Statement .tapRequest := rfl
theorem Lengths.tapRelease : Lengths.Statement .tapRelease := rfl
theorem Lengths.tapWaitExpiry : Lengths.Statement .tapWaitExpiry := rfl
theorem Lengths.permitExpiry : Lengths.Statement .permitExpiry := rfl
theorem Lengths.tapBudgetWrite (r : Src) (v : Word) : Lengths.Statement (.tapBudgetWrite r v) := rfl
theorem Lengths.tapPeakClear (r : Src) (v : Word) : Lengths.Statement (.tapPeakClear r v) := rfl
theorem Lengths.tjMaxReset (r : Src) (v : Word) : Lengths.Statement (.tjMaxReset r v) := rfl
theorem Lengths.read (r : Src) (key : Word) : Lengths.Statement (.read r key) := rfl
theorem Lengths.write (r : Src) (key : Word) (vals : List Word) : Lengths.Statement (.write r key vals) := rfl
theorem Lengths.readMulti (r : Src) (keys : List Word) : Lengths.Statement (.readMulti r keys) := rfl
theorem Lengths.writeMulti (r : Src) (items : List Word) : Lengths.Statement (.writeMulti r items) := rfl
theorem Lengths.sigRead (r : Src) (sig count : Word) : Lengths.Statement (.sigRead r sig count) := rfl
theorem Lengths.sigWrite (r : Src) (sig : Word) (vals : List Word) : Lengths.Statement (.sigWrite r sig vals) := rfl
theorem Lengths.sigForce (r : Src) (sig : Word) (vals : List Word) : Lengths.Statement (.sigForce r sig vals) := rfl
theorem Lengths.sigUnforce (r : Src) (sig : Word) : Lengths.Statement (.sigUnforce r sig) := rfl
theorem Lengths.domainPut (r : Src) (key ofs : Word) (payload : List Word) : Lengths.Statement (.domainPut r key ofs payload) := rfl
theorem Lengths.domainGet (r : Src) (key ofs : Word) (payload : List Word) : Lengths.Statement (.domainGet r key ofs payload) := rfl
theorem Lengths.domainPutIdle (key : Word) : Lengths.Statement (.domainPutIdle key) := rfl
theorem Lengths.save (r : Src) : Lengths.Statement (.save r) := rfl
theorem Lengths.saveDone (ok : Bool) : Lengths.Statement (.saveDone ok) := rfl
theorem Lengths.restoreDefaults (r : Src) : Lengths.Statement (.restoreDefaults r) := rfl
theorem Lengths.subscribe (r : Src) (key arg : Word) : Lengths.Statement (.subscribe r key arg) := rfl
theorem Lengths.subscribeSend (via : Via) (num : Fin 64) : Lengths.Statement (.subscribeSend via num) := rfl
theorem Lengths.dictTimeout (r : Src) : Lengths.Statement (.dictTimeout r) := rfl
theorem Lengths.hatchCompletionPost : Lengths.Statement .hatchCompletionPost := rfl
theorem Lengths.qwRead : Lengths.Statement .qwRead := rfl
theorem Lengths.qwWrite1 : Lengths.Statement .qwWrite1 := rfl
theorem Lengths.qwWrite2 : Lengths.Statement .qwWrite2 := rfl
theorem Lengths.qwOverlapClear : Lengths.Statement .qwOverlapClear := rfl
theorem Lengths.aapHello (u : Fin 4) (addr : Nat) (dgram : List Byte) : Lengths.Statement (.aapHello u addr dgram) := rfl
theorem Lengths.aapProve (u : Fin 4) (addr : Nat) (dgram : List Byte) : Lengths.Statement (.aapProve u addr dgram) := rfl
theorem Lengths.aapRequests (u : Fin 4) (addr : Nat) (dgram : List Byte) : Lengths.Statement (.aapRequests u addr dgram) := rfl
theorem Lengths.aapOpenRead (u : Fin 4) (addr : Nat) (dgram : List Byte) : Lengths.Statement (.aapOpenRead u addr dgram) := rfl
theorem Lengths.aapClose (u : Fin 4) (addr : Nat) (dgram : List Byte) : Lengths.Statement (.aapClose u addr dgram) := rfl
theorem Lengths.aapIdleTimeout (sess : Fin 8) : Lengths.Statement (.aapIdleTimeout sess) := rfl
theorem Lengths.aapBlockExpiry (addr : Nat) : Lengths.Statement (.aapBlockExpiry addr) := rfl
theorem Lengths.revokeKey (r : Src) (v : Word) : Lengths.Statement (.revokeKey r v) := rfl
theorem Lengths.jtagLockWrite (r : Src) (v : Word) : Lengths.Statement (.jtagLockWrite r v) := rfl
theorem Lengths.registerWrite (r : Src) (key : Word) (vals : List Word) : Lengths.Statement (.registerWrite r key vals) := rfl
theorem Lengths.hostRead (bar : Bar) (ofs lanes : Nat) : Lengths.Statement (.hostRead bar ofs lanes) := rfl
theorem Lengths.hostWrite (bar : Bar) (ofs : Nat) (lanes : List (BitVec 32 × BitVec 4)) : Lengths.Statement (.hostWrite bar ofs lanes) := rfl
theorem Lengths.scrubStep (mem : Fin 14) (unit addr : Nat) (err : Fin 4) (pass : Option Nat) : Lengths.Statement (.scrubStep mem unit addr err pass) := rfl
theorem Lengths.eccClear (r : Src) (mem : Fin 14) (v : Word) : Lengths.Statement (.eccClear r mem v) := rfl
theorem Lengths.portModeWrite (r : Src) (p : Fin 96) (v : Word) : Lengths.Statement (.portModeWrite r p v) := rfl
theorem Lengths.portDisable (r : Src) (p : Fin 96) : Lengths.Statement (.portDisable r p) := rfl
theorem Lengths.portEnable (r : Src) (p : Fin 96) : Lengths.Statement (.portEnable r p) := rfl
theorem Lengths.portQuarantine (r : Src) (p : Fin 96) : Lengths.Statement (.portQuarantine r p) := rfl
theorem Lengths.portReservationDone (p : Fin 96) : Lengths.Statement (.portReservationDone p) := rfl
theorem Lengths.probeTimeout (p : Fin 96) : Lengths.Statement (.probeTimeout p) := rfl
theorem Lengths.portUp (p : Fin 96) (parallel crossed : Bool) : Lengths.Statement (.portUp p parallel crossed) := rfl
theorem Lengths.linkLost (p : Fin 96) : Lengths.Statement (.linkLost p) := rfl
theorem Lengths.degWindowEnd (p : Fin 96) : Lengths.Statement (.degWindowEnd p) := rfl
theorem Lengths.portOptionWrite (r : Src) (p : Fin 96) (opt : Fin 9) (v : Word) : Lengths.Statement (.portOptionWrite r p opt v) := rfl
theorem Lengths.etxAnRestart (p : Fin 96) : Lengths.Statement (.etxAnRestart p) := rfl
theorem Lengths.t1lResolve (p : Fin 96) (partner : BitVec 2) : Lengths.Statement (.t1lResolve p partner) := rfl
theorem Lengths.busPolaritySwap (p : Fin 96) : Lengths.Statement (.busPolaritySwap p) := rfl
theorem Lengths.idleLevelEval (p : Fin 96) (mv : Int) : Lengths.Statement (.idleLevelEval p mv) := rfl
theorem Lengths.recal (r : Src) (p : Fin 96) (v : Word) : Lengths.Statement (.recal r p v) := rfl
theorem Lengths.recalDone (p : Fin 96) : Lengths.Statement (.recalDone p) := rfl
theorem Lengths.roleMove (r : Src) (p : Fin 96) (v : Word) : Lengths.Statement (.roleMove r p v) := rfl
theorem Lengths.roleMoveCancel (r : Src) (p : Fin 96) : Lengths.Statement (.roleMoveCancel r p) := rfl
theorem Lengths.errReport (core : Fin 20) (p : Fin 96) (v : Word) : Lengths.Statement (.errReport core p v) := rfl
theorem Lengths.portCntClear (r : Src) (p : Fin 96) (v : Word) : Lengths.Statement (.portCntClear r p v) := rfl
theorem Lengths.tileLoss (t : Fin 4) : Lengths.Statement (.tileLoss t) := rfl
theorem Lengths.tileColdStart (r : Src) (t : Fin 4) : Lengths.Statement (.tileColdStart r t) := rfl
theorem Lengths.tileStartPermit (t : Fin 4) : Lengths.Statement (.tileStartPermit t) := rfl
theorem Lengths.tileStartEnd (t : Fin 4) (ok : Bool) : Lengths.Statement (.tileStartEnd t ok) := rfl
theorem Lengths.tileAutoRestart (t : Fin 4) : Lengths.Statement (.tileAutoRestart t) := rfl
theorem Lengths.tileRecalibrate (r : Src) (t : Fin 4) : Lengths.Statement (.tileRecalibrate r t) := rfl
theorem Lengths.tileUseWrite (r : Src) (t : Fin 4) (v : Word) : Lengths.Statement (.tileUseWrite r t v) := rfl
theorem Lengths.overcurrent (p : Fin 96) (pin : Fin 5) : Lengths.Statement (.overcurrent p pin) := rfl
theorem Lengths.overvoltage (p : Fin 96) (pin : Fin 5) (cv : Int) : Lengths.Statement (.overvoltage p pin cv) := rfl
theorem Lengths.retryDelayEnd (p : Fin 96) : Lengths.Statement (.retryDelayEnd p) := rfl
theorem Lengths.retryPermit (p : Fin 96) (cv : Vector Int 5) : Lengths.Statement (.retryPermit p cv) := rfl
theorem Lengths.retryWindowEnd (p : Fin 96) : Lengths.Statement (.retryWindowEnd p) := rfl
theorem Lengths.retryCountReset (p : Fin 96) : Lengths.Statement (.retryCountReset p) := rfl
theorem Lengths.tdrStart (r : Src) (p : Fin 96) (v : Word) : Lengths.Statement (.tdrStart r p v) := rfl
theorem Lengths.tdrAcqEnd (p : Fin 96) : Lengths.Statement (.tdrAcqEnd p) := rfl
theorem Lengths.tdrProcEnd (p : Fin 96) (traces : List (List Word)) : Lengths.Statement (.tdrProcEnd p traces) := by simp [Lengths.Statement, Instr.wellFormed]
theorem Lengths.flutterWindowEnd (p : Fin 96) (inp : Fin 5) : Lengths.Statement (.flutterWindowEnd p inp) := rfl
theorem Lengths.stuckTimeout (p : Fin 96) (inp : Fin 5) : Lengths.Statement (.stuckTimeout p inp) := rfl
theorem Lengths.wirebreakTest (p : Fin 96) (inp : Fin 5) (cv : Int) : Lengths.Statement (.wirebreakTest p inp cv) := rfl
theorem Lengths.supplyLowTimer (t : Fin 4) (dv : Nat) : Lengths.Statement (.supplyLowTimer t dv) := rfl
theorem Lengths.edgeClear (r : Src) (p : Fin 96) (v : Word) : Lengths.Statement (.edgeClear r p v) := rfl
theorem Lengths.encIndexEdge (p : Fin 96) (cv : Int) (held : Nat) : Lengths.Statement (.encIndexEdge p cv held) := rfl
theorem Lengths.encIllegalTransition (p : Fin 96) (held : Nat) : Lengths.Statement (.encIllegalTransition p held) := rfl
theorem Lengths.encPreset (r : Src) (p : Fin 96) (v : BitVec 48) : Lengths.Statement (.encPreset r p v) := rfl
theorem Lengths.macRxFrame (m : Fin 100) (pre : Nat) (frame : List Byte) (err : BitVec 4) (headOut : Bool) : Lengths.Statement (.macRxFrame m pre frame err headOut) := rfl
theorem Lengths.pauseRx (m : Fin 100) (quanta : BitVec 16) : Lengths.Statement (.pauseRx m quanta) := rfl
theorem Lengths.pauseExpiry (m : Fin 100) : Lengths.Statement (.pauseExpiry m) := rfl
theorem Lengths.tsPop (agent : Fin 21) (idx : Fin 100) : Lengths.Statement (.tsPop agent idx) := rfl
theorem Lengths.uplinkModeWrite (r : Src) (u : Fin 4) (v : Word) : Lengths.Statement (.uplinkModeWrite r u v) := rfl
theorem Lengths.uplinkUp (u : Fin 4) : Lengths.Statement (.uplinkUp u) := rfl
theorem Lengths.uplinkFault (u : Fin 4) (remote : Bool) : Lengths.Statement (.uplinkFault u remote) := rfl
theorem Lengths.uplinkFaultClear (u : Fin 4) : Lengths.Statement (.uplinkFaultClear u) := rfl
theorem Lengths.deviceFrameRx (u : Fin 4) (frame : List Byte) : Lengths.Statement (.deviceFrameRx u frame) := rfl
theorem Lengths.gclApply (r : Src) (u : Fin 4) (v : Word) : Lengths.Statement (.gclApply r u v) := rfl
theorem Lengths.gclChange (u : Fin 4) : Lengths.Statement (.gclChange u) := rfl
theorem Lengths.gclEntryEnd (u : Fin 4) : Lengths.Statement (.gclEntryEnd u) := rfl
theorem Lengths.macCntClear (r : Src) (p : Fin 96) (v : Word) : Lengths.Statement (.macCntClear r p v) := rfl
theorem Lengths.upCntClear (r : Src) (u : Fin 4) (v : Word) : Lengths.Statement (.upCntClear r u v) := rfl
theorem Lengths.txSend (core : Fin 20) (p : Fin 96) (buf : Fin 32) : Lengths.Statement (.txSend core p buf) := rfl
theorem Lengths.txAbort (core : Fin 20) (p : Fin 96) (buf : Fin 32) : Lengths.Statement (.txAbort core p buf) := rfl
theorem Lengths.busSelect (p : Fin 96) : Lengths.Statement (.busSelect p) := rfl
theorem Lengths.busAttemptEnd (p : Fin 96) (res : BusEnd) (tdc : Option (BitVec 8)) : Lengths.Statement (.busAttemptEnd p res tdc) := rfl
theorem Lengths.busRxFrame (p : Fin 96) (w0 w1 : Word) (data : List Byte) (ago : Nat) : Lengths.Statement (.busRxFrame p w0 w1 data ago) := rfl
theorem Lengths.protocolException (p : Fin 96) : Lengths.Statement (.protocolException p) := rfl
theorem Lengths.busRxLockRead (core : Fin 20) (p : Fin 96) (obj : Fin 64) : Lengths.Statement (.busRxLockRead core p obj) := rfl
theorem Lengths.busRxRelease (core : Fin 20) (p : Fin 96) (obj : Fin 64) (v : Word) : Lengths.Statement (.busRxRelease core p obj v) := rfl
theorem Lengths.busRefill (p : Fin 96) : Lengths.Statement (.busRefill p) := rfl
theorem Lengths.busRecover (by_ : By) (p : Fin 96) (v : Word) : Lengths.Statement (.busRecover by_ p v) := rfl
theorem Lengths.busRecoveryDone (p : Fin 96) : Lengths.Statement (.busRecoveryDone p) := rfl
theorem Lengths.busDoneClear (core : Fin 20) (p : Fin 96) (hi : Bool) (v : Word) : Lengths.Statement (.busDoneClear core p hi v) := rfl
theorem Lengths.busTimingWrite (r : Src) (p : Fin 96) (el : Fin 11) (v : Word) : Lengths.Statement (.busTimingWrite r p el v) := rfl
theorem Lengths.listenOnlyWrite (r : Src) (p : Fin 96) (v : Word) : Lengths.Statement (.listenOnlyWrite r p v) := rfl
theorem Lengths.busCntClear (r : Src) (p : Fin 96) (v : Word) : Lengths.Statement (.busCntClear r p v) := rfl
theorem Lengths.rnJmp (ch : Fin 96) (dly : Fin 8) (addr : BitVec 8) : Lengths.Statement (.rnJmp ch dly addr) := rfl
theorem Lengths.rnJcond (ch : Fin 96) (dly : Fin 8) (cond : Fin 8) (ofs : BitVec 5) (lin : BitVec 4) : Lengths.Statement (.rnJcond ch dly cond ofs lin) := rfl
theorem Lengths.rnWait (ch : Fin 96) (dly : Fin 8) (mode : Fin 4) (ivb : Fin 8) (lin : BitVec 4) : Lengths.Statement (.rnWait ch dly mode ivb lin) := rfl
theorem Lengths.inRhr (ch : Fin 96) (dly : Fin 8) (toY nb : Bool) : Lengths.Statement (.inRhr ch dly toY nb) := rfl
theorem Lengths.inReport (ch : Fin 96) (dly : Fin 8) (toY : Bool) (w : Fin 8) : Lengths.Statement (.inReport ch dly toY w) := rfl
theorem Lengths.inIv (ch : Fin 96) (dly : Fin 8) (toY : Bool) (lin : BitVec 4) : Lengths.Statement (.inIv ch dly toY lin) := rfl
theorem Lengths.inTime (ch : Fin 96) (dly : Fin 8) (toY : Bool) : Lengths.Statement (.inTime ch dly toY) := rfl
theorem Lengths.rnOut (ch : Fin 96) (dly : Fin 8) (cont : Bool) (source : Fin 4) (lit : BitVec 5) : Lengths.Statement (.rnOut ch dly cont source lit) := rfl
theorem Lengths.rnMov (ch : Fin 96) (dly : Fin 8) (dst source : Fin 8) (lin : BitVec 4) : Lengths.Statement (.rnMov ch dly dst source lin) := rfl
theorem Lengths.rnPush (ch : Fin 96) (dly : Fin 8) (last bad : Bool) (cnt : Fin 4) (fromY nb : Bool) : Lengths.Statement (.rnPush ch dly last bad cnt fromY nb) := rfl
theorem Lengths.rnPull (ch : Fin 96) (dly : Fin 8) (toY nb : Bool) : Lengths.Statement (.rnPull ch dly toY nb) := rfl
theorem Lengths.setDrv (ch : Fin 96) (dly : Fin 8) (v : BitVec 5) : Lengths.Statement (.setDrv ch dly v) := rfl
theorem Lengths.setX (ch : Fin 96) (dly : Fin 8) (v : BitVec 5) : Lengths.Statement (.setX ch dly v) := rfl
theorem Lengths.setY (ch : Fin 96) (dly : Fin 8) (v : BitVec 5) : Lengths.Statement (.setY ch dly v) := rfl
theorem Lengths.setLine (ch : Fin 96) (dly : Fin 8) (v : BitVec 5) : Lengths.Statement (.setLine ch dly v) := rfl
theorem Lengths.setRxctl (ch : Fin 96) (dly : Fin 8) (v : BitVec 5) : Lengths.Statement (.setRxctl ch dly v) := rfl
theorem Lengths.setTsarm (ch : Fin 96) (dly : Fin 8) (v : BitVec 5) : Lengths.Statement (.setTsarm ch dly v) := rfl
theorem Lengths.setBitph (ch : Fin 96) (dly : Fin 8) (v : BitVec 5) : Lengths.Statement (.setBitph ch dly v) := rfl
theorem Lengths.setSc (ch : Fin 96) (dly : Fin 8) (v : BitVec 5) : Lengths.Statement (.setSc ch dly v) := rfl
theorem Lengths.ctlIrq (ch : Fin 96) (dly : Fin 8) (v : BitVec 5) : Lengths.Statement (.ctlIrq ch dly v) := rfl
theorem Lengths.ctlSync (ch : Fin 96) (dly : Fin 8) (v : BitVec 5) : Lengths.Statement (.ctlSync ch dly v) := rfl
theorem Lengths.ctlDelay (ch : Fin 96) (dly : Fin 8) (v : BitVec 5) : Lengths.Statement (.ctlDelay ch dly v) := rfl
theorem Lengths.ctlSafe (ch : Fin 96) (dly : Fin 8) (v : BitVec 5) : Lengths.Statement (.ctlSafe ch dly v) := rfl
theorem Lengths.ctlHalt (ch : Fin 96) (dly : Fin 8) (v : BitVec 5) : Lengths.Statement (.ctlHalt ch dly v) := rfl
theorem Lengths.rnIllegal (ch : Fin 96) (poisoned : Bool) : Lengths.Statement (.rnIllegal ch poisoned) := rfl
theorem Lengths.rxSymbolComplete (ch : Fin 96) (samples : Sampled) : Lengths.Statement (.rxSymbolComplete ch samples) := rfl
theorem Lengths.txSymbolEnd (ch : Fin 96) : Lengths.Statement (.txSymbolEnd ch) := rfl
theorem Lengths.winProg (r : Src) (e : Fin 12) (w : Fin 4) (image : List Byte) : Lengths.Statement (.winProg r e w image) := rfl
theorem Lengths.winSwapWait (by_ : By) (e : Fin 12) (w : Fin 4) : Lengths.Statement (.winSwapWait by_ e w) := rfl
theorem Lengths.winSwapNow (by_ : By) (e : Fin 12) (w : Fin 4) : Lengths.Statement (.winSwapNow by_ e w) := rfl
theorem Lengths.winSwapForce (by_ : By) (e : Fin 12) (w : Fin 4) : Lengths.Statement (.winSwapForce by_ e w) := rfl
theorem Lengths.winSwapCancel (by_ : By) (e : Fin 12) (w : Fin 4) : Lengths.Statement (.winSwapCancel by_ e w) := rfl
theorem Lengths.channelFlip (ch : Fin 96) : Lengths.Statement (.channelFlip ch) := rfl
theorem Lengths.engStart (by_ : By) (e : Fin 12) (mask : Byte) : Lengths.Statement (.engStart by_ e mask) := rfl
theorem Lengths.engBitsync (by_ : By) (e : Fin 12) (mask : Byte) : Lengths.Statement (.engBitsync by_ e mask) := rfl
theorem Lengths.armActionArm (by_ : By) (e : Fin 12) : Lengths.Statement (.armActionArm by_ e) := rfl
theorem Lengths.armActionCancel (by_ : By) (e : Fin 12) : Lengths.Statement (.armActionCancel by_ e) := rfl
theorem Lengths.armActionLand (e : Fin 12) : Lengths.Statement (.armActionLand e) := rfl
theorem Lengths.stallWatchdog (ch : Fin 96) : Lengths.Statement (.stallWatchdog ch) := rfl
theorem Lengths.chStart (by_ : By) (ch : Fin 96) : Lengths.Statement (.chStart by_ ch) := rfl
theorem Lengths.chHalt (by_ : By) (ch : Fin 96) : Lengths.Statement (.chHalt by_ ch) := rfl
theorem Lengths.chRestart (by_ : By) (ch : Fin 96) : Lengths.Statement (.chRestart by_ ch) := rfl
theorem Lengths.rxPop (core : Fin 20) (ch : Fin 96) : Lengths.Statement (.rxPop core ch) := rfl
theorem Lengths.txPush (core : Fin 20) (ch : Fin 96) (v : Word) : Lengths.Statement (.txPush core ch v) := rfl
theorem Lengths.chFlagsClear (by_ : By) (ch : Fin 96) (v : Word) : Lengths.Statement (.chFlagsClear by_ ch v) := rfl
theorem Lengths.runCntClear (r : Src) (ch : Fin 96) (v : Word) : Lengths.Statement (.runCntClear r ch v) := rfl
theorem Lengths.pair (core : Fin 20) (opa : BitVec 5) (xa ya : BitVec 3) (opb : BitVec 5) (xb yb : BitVec 3) (z0 : Bool) : Lengths.Statement (.pair core opa xa ya opb xb yb z0) := rfl
theorem Lengths.nop (core : Fin 20) : Lengths.Statement (.nop core) := rfl
theorem Lengths.addi (core : Fin 20) (rd rs : Fin 16) (imm : BitVec 9) : Lengths.Statement (.addi core rd rs imm) := rfl
theorem Lengths.cmpi (core : Fin 20) (rs : Fin 16) (imm : BitVec 9) : Lengths.Statement (.cmpi core rs imm) := rfl
theorem Lengths.andi (core : Fin 20) (rd rs : Fin 16) (imm : BitVec 9) : Lengths.Statement (.andi core rd rs imm) := rfl
theorem Lengths.ori (core : Fin 20) (rd rs : Fin 16) (imm : BitVec 9) : Lengths.Statement (.ori core rd rs imm) := rfl
theorem Lengths.xori (core : Fin 20) (rd rs : Fin 16) (imm : BitVec 9) : Lengths.Statement (.xori core rd rs imm) := rfl
theorem Lengths.shli (core : Fin 20) (rd rs : Fin 16) (imm : BitVec 9) : Lengths.Statement (.shli core rd rs imm) := rfl
theorem Lengths.shri (core : Fin 20) (rd rs : Fin 16) (imm : BitVec 9) : Lengths.Statement (.shri core rd rs imm) := rfl
theorem Lengths.sari (core : Fin 20) (rd rs : Fin 16) (imm : BitVec 9) : Lengths.Statement (.sari core rd rs imm) := rfl
theorem Lengths.ld (core : Fin 20) (rd rs : Fin 16) (imm : BitVec 9) : Lengths.Statement (.ld core rd rs imm) := rfl
theorem Lengths.st (core : Fin 20) (rd rs : Fin 16) (imm : BitVec 9) : Lengths.Statement (.st core rd rs imm) := rfl
theorem Lengths.lda (core : Fin 20) (rd : Fin 16) (n : Fin 4) (imm : BitVec 9) : Lengths.Statement (.lda core rd n imm) := rfl
theorem Lengths.sta (core : Fin 20) (rd : Fin 16) (n : Fin 4) (imm : BitVec 9) : Lengths.Statement (.sta core rd n imm) := rfl
theorem Lengths.mfs (core : Fin 20) (rd : Fin 16) (sr : Fin 32) : Lengths.Statement (.mfs core rd sr) := rfl
theorem Lengths.mts (core : Fin 20) (sr : Fin 32) (rs : Fin 16) : Lengths.Statement (.mts core sr rs) := rfl
theorem Lengths.mova (core : Fin 20) (n : Fin 4) (rs : Fin 16) (imm : BitVec 9) : Lengths.Statement (.mova core n rs imm) := rfl
theorem Lengths.mfa (core : Fin 20) (rd : Fin 16) (n : Fin 4) (imm : BitVec 9) : Lengths.Statement (.mfa core rd n imm) := rfl
theorem Lengths.push (core : Fin 20) (rd : Fin 16) : Lengths.Statement (.push core rd) := rfl
theorem Lengths.pop (core : Fin 20) (rd : Fin 16) : Lengths.Statement (.pop core rd) := rfl
theorem Lengths.add (core : Fin 20) (rd rs rt : Fin 16) : Lengths.Statement (.add core rd rs rt) := rfl
theorem Lengths.sub (core : Fin 20) (rd rs rt : Fin 16) : Lengths.Statement (.sub core rd rs rt) := rfl
theorem Lengths.adc (core : Fin 20) (rd rs rt : Fin 16) : Lengths.Statement (.adc core rd rs rt) := rfl
theorem Lengths.sbc (core : Fin 20) (rd rs rt : Fin 16) : Lengths.Statement (.sbc core rd rs rt) := rfl
theorem Lengths.and (core : Fin 20) (rd rs rt : Fin 16) : Lengths.Statement (.and core rd rs rt) := rfl
theorem Lengths.or (core : Fin 20) (rd rs rt : Fin 16) : Lengths.Statement (.or core rd rs rt) := rfl
theorem Lengths.xor (core : Fin 20) (rd rs rt : Fin 16) : Lengths.Statement (.xor core rd rs rt) := rfl
theorem Lengths.shl (core : Fin 20) (rd rs rt : Fin 16) : Lengths.Statement (.shl core rd rs rt) := rfl
theorem Lengths.shr (core : Fin 20) (rd rs rt : Fin 16) : Lengths.Statement (.shr core rd rs rt) := rfl
theorem Lengths.sar (core : Fin 20) (rd rs rt : Fin 16) : Lengths.Statement (.sar core rd rs rt) := rfl
theorem Lengths.cmp (core : Fin 20) (rs rt : Fin 16) : Lengths.Statement (.cmp core rs rt) := rfl
theorem Lengths.mul (core : Fin 20) (rs rt : Fin 16) : Lengths.Statement (.mul core rs rt) := rfl
theorem Lengths.mulu (core : Fin 20) (rs rt : Fin 16) : Lengths.Statement (.mulu core rs rt) := rfl
theorem Lengths.mac (core : Fin 20) (rs rt : Fin 16) : Lengths.Statement (.mac core rs rt) := rfl
theorem Lengths.mulLand (core : Fin 20) : Lengths.Statement (.mulLand core) := rfl
theorem Lengths.ldx (core : Fin 20) (rd rs rt : Fin 16) : Lengths.Statement (.ldx core rd rs rt) := rfl
theorem Lengths.stx (core : Fin 20) (rd rs rt : Fin 16) : Lengths.Statement (.stx core rd rs rt) := rfl
theorem Lengths.ldar (core : Fin 20) (rd : Fin 16) (n : Fin 4) (rt : Fin 16) : Lengths.Statement (.ldar core rd n rt) := rfl
theorem Lengths.star (core : Fin 20) (rd : Fin 16) (n : Fin 4) (rt : Fin 16) : Lengths.Statement (.star core rd n rt) := rfl
theorem Lengths.cvbd (core : Fin 20) (rd rs : Fin 16) : Lengths.Statement (.cvbd core rd rs) := rfl
theorem Lengths.cvdb (core : Fin 20) (rd rs : Fin 16) : Lengths.Statement (.cvdb core rd rs) := rfl
theorem Lengths.freq (core : Fin 20) (rd rs rt : Fin 16) : Lengths.Statement (.freq core rd rs rt) := rfl
theorem Lengths.farDone (core : Fin 20) (tag : Fin 32) : Lengths.Statement (.farDone core tag) := rfl
theorem Lengths.farTimeout (core : Fin 20) (tag : Fin 32) : Lengths.Statement (.farTimeout core tag) := rfl
theorem Lengths.fwait (core : Fin 20) (rd rs : Fin 16) : Lengths.Statement (.fwait core rd rs) := rfl
theorem Lengths.fpoll (core : Fin 20) (rd rs : Fin 16) : Lengths.Statement (.fpoll core rd rs) := rfl
theorem Lengths.waitmb (core : Fin 20) (rd rs : Fin 16) : Lengths.Statement (.waitmb core rd rs) := rfl
theorem Lengths.waitmbRelease (core : Fin 20) : Lengths.Statement (.waitmbRelease core) := rfl
theorem Lengths.addd (core : Fin 20) (rd rs rt : Fin 16) : Lengths.Statement (.addd core rd rs rt) := rfl
theorem Lengths.subd (core : Fin 20) (rd rs rt : Fin 16) : Lengths.Statement (.subd core rd rs rt) := rfl
theorem Lengths.daj (core : Fin 20) (rd rs rt : Fin 16) : Lengths.Statement (.daj core rd rs rt) := rfl
theorem Lengths.bcondLow (core : Fin 20) (cond : Fin 8) (ofs : BitVec 14) : Lengths.Statement (.bcondLow core cond ofs) := rfl
theorem Lengths.bcondHigh (core : Fin 20) (cond : Fin 8) (ofs : BitVec 14) : Lengths.Statement (.bcondHigh core cond ofs) := rfl
theorem Lengths.jmp (core : Fin 20) (target : BitVec 15) : Lengths.Statement (.jmp core target) := rfl
theorem Lengths.call (core : Fin 20) (target : BitVec 15) : Lengths.Statement (.call core target) := rfl
theorem Lengths.jr (core : Fin 20) (rs : Fin 16) : Lengths.Statement (.jr core rs) := rfl
theorem Lengths.callr (core : Fin 20) (rs : Fin 16) : Lengths.Statement (.callr core rs) := rfl
theorem Lengths.ret (core : Fin 20) : Lengths.Statement (.ret core) := rfl
theorem Lengths.reti (core : Fin 20) : Lengths.Statement (.reti core) := rfl
theorem Lengths.wait (core : Fin 20) : Lengths.Statement (.wait core) := rfl
theorem Lengths.setgie (core : Fin 20) (b : Bool) : Lengths.Statement (.setgie core b) := rfl
theorem Lengths.lit (core : Fin 20) (rd : Fin 16) (lit : Word) : Lengths.Statement (.lit core rd lit) := rfl
theorem Lengths.addl (core : Fin 20) (rd rs : Fin 16) (lit : Word) : Lengths.Statement (.addl core rd rs lit) := rfl
theorem Lengths.andl (core : Fin 20) (rd rs : Fin 16) (lit : Word) : Lengths.Statement (.andl core rd rs lit) := rfl
theorem Lengths.orl (core : Fin 20) (rd rs : Fin 16) (lit : Word) : Lengths.Statement (.orl core rd rs lit) := rfl
theorem Lengths.xorl (core : Fin 20) (rd rs : Fin 16) (lit : Word) : Lengths.Statement (.xorl core rd rs lit) := rfl
theorem Lengths.cmpl (core : Fin 20) (rs : Fin 16) (lit : Word) : Lengths.Statement (.cmpl core rs lit) := rfl
theorem Lengths.illegalWord (core : Fin 20) (literal : Bool) : Lengths.Statement (.illegalWord core literal) := rfl
theorem Lengths.interruptEntry (core : Fin 20) : Lengths.Statement (.interruptEntry core) := rfl
theorem Lengths.bankArm (core : Fin 20) (mask : BitVec 16) : Lengths.Statement (.bankArm core mask) := rfl
theorem Lengths.bankCancel (core : Fin 20) : Lengths.Statement (.bankCancel core) := rfl
theorem Lengths.bankNow (core : Fin 20) : Lengths.Statement (.bankNow core) := rfl
theorem Lengths.timerExpiry (core : Fin 20) : Lengths.Statement (.timerExpiry core) := rfl
theorem Lengths.wdogWarn (core : Fin 20) : Lengths.Statement (.wdogWarn core) := rfl
theorem Lengths.wdogExpiry (core : Fin 20) : Lengths.Statement (.wdogExpiry core) := rfl
theorem Lengths.coreStart (r : Src) (core : Fin 20) : Lengths.Statement (.coreStart r core) := rfl
theorem Lengths.coreHold (r : Src) (core : Fin 20) : Lengths.Statement (.coreHold r core) := rfl
theorem Lengths.coreReset (r : Src) (core : Fin 20) : Lengths.Statement (.coreReset r core) := rfl
theorem Lengths.ctxBind (r : Src) (c : Fin 128) : Lengths.Statement (.ctxBind r c) := rfl
theorem Lengths.ctxStart (r : Src) (c : Fin 128) : Lengths.Statement (.ctxStart r c) := rfl
theorem Lengths.ctxStop (r : Src) (c : Fin 128) : Lengths.Statement (.ctxStop r c) := rfl
theorem Lengths.ctxUnbind (r : Src) (c : Fin 128) : Lengths.Statement (.ctxUnbind r c) := rfl
theorem Lengths.ctxRestart (r : Src) (c : Fin 128) : Lengths.Statement (.ctxRestart r c) := rfl
theorem Lengths.ctxRestoreDone (c : Fin 128) : Lengths.Statement (.ctxRestoreDone c) := rfl
theorem Lengths.contextBoundary (c : Fin 128) : Lengths.Statement (.contextBoundary c) := rfl
theorem Lengths.cyclePoint (c : Fin 128) (j : Fin 8) : Lengths.Statement (.cyclePoint c j) := rfl
theorem Lengths.ctxDone (agent : Fin 21) (c : Fin 128) : Lengths.Statement (.ctxDone agent c) := rfl
theorem Lengths.deadlineMiss (c : Fin 128) : Lengths.Statement (.deadlineMiss c) := rfl
theorem Lengths.cpPendingClear (agent : Fin 21) (c : Fin 128) (v : Word) : Lengths.Statement (.cpPendingClear agent c v) := rfl
theorem Lengths.ckptReq (agent : Fin 21) (c : Fin 128) (v : Word) : Lengths.Statement (.ckptReq agent c v) := rfl
theorem Lengths.ckptDone (c : Fin 128) : Lengths.Statement (.ckptDone c) := rfl
theorem Lengths.ctxMigrate (r : Src) (c : Fin 128) (v : Word) : Lengths.Statement (.ctxMigrate r c v) := rfl
theorem Lengths.migrationLand (c : Fin 128) : Lengths.Statement (.migrationLand c) := rfl
theorem Lengths.migrationAbort (c : Fin 128) : Lengths.Statement (.migrationAbort c) := rfl
theorem Lengths.ctxPersSwap (r : Src) (c : Fin 128) (v : Word) : Lengths.Statement (.ctxPersSwap r c v) := rfl
theorem Lengths.persSwapCancel (c : Fin 128) : Lengths.Statement (.persSwapCancel c) := rfl
theorem Lengths.persDelete (r : Src) (j : Fin 256) (v : Word) : Lengths.Statement (.persDelete r j v) := rfl
theorem Lengths.ctxCntClear (r : Src) (c : Fin 128) (v : Word) : Lengths.Statement (.ctxCntClear r c v) := rfl
theorem Lengths.parserLookup (inp : Fin 101) : Lengths.Statement (.parserLookup inp) := rfl
theorem Lengths.cellArrive (out inp : Fin 48) (cnt : BitVec 8) : Lengths.Statement (.cellArrive out inp cnt) := rfl
theorem Lengths.outputFrameStart (o : Fin 100) : Lengths.Statement (.outputFrameStart o) := rfl
theorem Lengths.outputUnderrun (o : Fin 100) : Lengths.Statement (.outputUnderrun o) := rfl
theorem Lengths.ringRxDeliver (ep : Fin 21) : Lengths.Statement (.ringRxDeliver ep) := rfl
theorem Lengths.ringTxSend (ep : Fin 21) : Lengths.Statement (.ringTxSend ep) := rfl
theorem Lengths.meterClear (r : Src) (m : Fin 2048) (v : Word) : Lengths.Statement (.meterClear r m v) := rfl
theorem Lengths.qCntClear (r : Src) (q : Fin 1056) (v : Word) : Lengths.Statement (.qCntClear r q v) := rfl
theorem Lengths.peakClear (r : Src) (q : Fin 1056) (v : Word) : Lengths.Statement (.peakClear r q v) := rfl
theorem Lengths.freeMinReset (r : Src) (v : Word) : Lengths.Statement (.freeMinReset r v) := rfl
theorem Lengths.scatterCommit : Lengths.Statement .scatterCommit := rfl
theorem Lengths.sweepEntry : Lengths.Statement .sweepEntry := rfl
theorem Lengths.contestClear (r : Src) (reg : Fin 1024) (v : Word) : Lengths.Statement (.contestClear r reg v) := rfl
theorem Lengths.regClear (r : Src) (reg : Fin 1024) (v : Word) : Lengths.Statement (.regClear r reg v) := rfl
theorem Lengths.regClearDone (reg : Fin 1024) : Lengths.Statement (.regClearDone reg) := rfl
theorem Lengths.regionWrite (r : Src) (reg : Fin 1024) (el : Fin 3) (v : Word) : Lengths.Statement (.regionWrite r reg el v) := rfl
theorem Lengths.templateFire (n : Fin 4096) : Lengths.Statement (.templateFire n) := rfl
theorem Lengths.regCntClear (r : Src) (reg : Fin 1024) (v : Word) : Lengths.Statement (.regCntClear r reg v) := rfl
theorem Lengths.cellarCntClear (r : Src) (v : Word) : Lengths.Statement (.cellarCntClear r v) := rfl
theorem Lengths.tbIncrWrite (r : Src) (n : Fin 8) (v : BitVec 48) : Lengths.Statement (.tbIncrWrite r n v) := rfl
theorem Lengths.tbOffsetWrite (r : Src) (n : Fin 8) (v : BitVec 48) : Lengths.Statement (.tbOffsetWrite r n v) := rfl
theorem Lengths.tbSetWrite (r : Src) (n : Fin 8) (w0 w1 w2 w3 : Word) : Lengths.Statement (.tbSetWrite r n w0 w1 w2 w3) := rfl
theorem Lengths.tbSyncedWrite (r : Src) (n : Fin 8) (v : Word) : Lengths.Statement (.tbSyncedWrite r n v) := rfl
theorem Lengths.syncLossTimeout (n : Fin 8) : Lengths.Statement (.syncLossTimeout n) := rfl
theorem Lengths.tbReserveWrite (r : Src) (n : Fin 8) (v : Word) : Lengths.Statement (.tbReserveWrite r n v) := rfl
theorem Lengths.tbSwitchReserve (r : Src) (n : Fin 8) : Lengths.Statement (.tbSwitchReserve r n) := rfl
theorem Lengths.tbSwitchOwn (r : Src) (n : Fin 8) : Lengths.Statement (.tbSwitchOwn r n) := rfl
theorem Lengths.revertHoldEnd (n : Fin 8) : Lengths.Statement (.revertHoldEnd n) := rfl
theorem Lengths.convergedReserve (n : Fin 8) : Lengths.Statement (.convergedReserve n) := rfl
theorem Lengths.convergedOwn (n : Fin 8) : Lengths.Statement (.convergedOwn n) := rfl
theorem Lengths.disciplineWrite (r : Src) (which : Discipline) (v : Word) : Lengths.Statement (.disciplineWrite r which v) := rfl
theorem Lengths.tileAlignCheck (t : Fin 4) (ps : Int) (crcErrs : Nat) : Lengths.Statement (.tileAlignCheck t ps crcErrs) := rfl
theorem Lengths.ppsInEdge (pps : Fin 4) (rising : Bool) (phase : Fin 8) : Lengths.Statement (.ppsInEdge pps rising phase) := rfl
theorem Lengths.ppsOutEdge (pps : Fin 4) : Lengths.Statement (.ppsOutEdge pps) := rfl
theorem Lengths.ppsPop (agent : Fin 21) (pps : Fin 4) : Lengths.Statement (.ppsPop agent pps) := rfl
theorem Lengths.tbCntClear (r : Src) (n : Fin 8) (v : Word) : Lengths.Statement (.tbCntClear r n v) := rfl
theorem Lengths.segStart (r : Src) (s_ : Fin 96) : Lengths.Statement (.segStart r s_) := rfl
theorem Lengths.segStop (r : Src) (s_ : Fin 96) : Lengths.Statement (.segStop r s_) := rfl
theorem Lengths.listenTimeout (s_ : Fin 96) : Lengths.Statement (.listenTimeout s_) := rfl
theorem Lengths.backoffEnd (s_ : Fin 96) : Lengths.Statement (.backoffEnd s_) := rfl
theorem Lengths.slotTemplateFire (s_ : Fin 96) (slot : Fin 256) : Lengths.Statement (.slotTemplateFire s_ slot) := rfl
theorem Lengths.slotSend (s_ : Fin 96) (slot : Fin 256) : Lengths.Statement (.slotSend s_ slot) := rfl
theorem Lengths.slotEnd (s_ : Fin 96) (slot : Fin 256) (atStart atEnd : Bool) (starts : List Int) (frame : List Byte) : Lengths.Statement (.slotEnd s_ slot atStart atEnd starts frame) := rfl
theorem Lengths.cycleEnd (s_ : Fin 96) : Lengths.Statement (.cycleEnd s_) := rfl
theorem Lengths.slotMapWrite (r : Src) (s_ : Fin 96) (image : List Byte) : Lengths.Statement (.slotMapWrite r s_ image) := rfl
theorem Lengths.segCntClear (r : Src) (s_ : Fin 96) (v : Word) : Lengths.Statement (.segCntClear r s_ v) := rfl
theorem Lengths.groupUpdate (g : Fin 4) (reached : Nat) : Lengths.Statement (.groupUpdate g reached) := rfl
theorem Lengths.commandFrame : Lengths.Statement .commandFrame := rfl
theorem Lengths.axCmd (r : Src) (a : Fin 4096) (rec_ : List Byte) : Lengths.Statement (.axCmd r a rec_) := rfl
theorem Lengths.jogTimeout (a : Fin 4096) : Lengths.Statement (.jogTimeout a) := rfl
theorem Lengths.axisParamWrite (r : Src) (a : Fin 4096) (el : Fin 27) (v : BitVec 48) : Lengths.Statement (.axisParamWrite r a el v) := rfl
theorem Lengths.axUseWrite (r : Src) (a : Fin 4096) (v : Word) : Lengths.Statement (.axUseWrite r a v) := rfl
theorem Lengths.mVelWrite (r : Src) (m : Fin 16) (v : BitVec 48) : Lengths.Statement (.mVelWrite r m v) := rfl
theorem Lengths.axCntClear (r : Src) (a : Fin 4096) (v : Word) : Lengths.Statement (.axCntClear r a v) := rfl
theorem Lengths.mailboxPost (src : Fin 21) (dst : Fin 21) (mbx : Fin 8) (body : List Word) (hdr : Word) : Lengths.Statement (.mailboxPost src dst mbx body hdr) := by simp [Lengths.Statement, Instr.wellFormed]
theorem Lengths.mailboxAck (ep : Fin 21) (mbx : Fin 8) : Lengths.Statement (.mailboxAck ep mbx) := rfl
theorem Lengths.mailboxRelease (ep : Fin 21) (mbx : Fin 8) (v : Word) : Lengths.Statement (.mailboxRelease ep mbx v) := rfl
theorem Lengths.collideClear (ep : Fin 21) (mbx : Fin 8) (v : Word) : Lengths.Statement (.collideClear ep mbx v) := rfl
theorem Lengths.doorbellRing (bell : Bell) (v : Word) : Lengths.Statement (.doorbellRing bell v) := rfl
theorem Lengths.doorbellRead (ep : Fin 21) : Lengths.Statement (.doorbellRead ep) := rfl
theorem Lengths.hostReset (v : Word) : Lengths.Statement (.hostReset v) := rfl
theorem Lengths.pendSet (core : Fin 20) (w : Fin 3) (v : Word) : Lengths.Statement (.pendSet core w v) := rfl
theorem Lengths.pendClr (core : Fin 20) (w : Fin 3) (v : Word) : Lengths.Statement (.pendClr core w v) := rfl
theorem Lengths.maskSet (core : Fin 20) (w : Fin 3) (v : Word) : Lengths.Statement (.maskSet core w v) := rfl
theorem Lengths.maskClr (core : Fin 20) (w : Fin 3) (v : Word) : Lengths.Statement (.maskClr core w v) := rfl
theorem Lengths.imodExpiry (core : Fin 20) : Lengths.Statement (.imodExpiry core) := rfl
theorem Lengths.gatherEdge (source : Fin 2048) : Lengths.Statement (.gatherEdge source) := rfl
theorem Lengths.gcEnWrite (agent : Fin 21) (w : Fin 86) (v : Word) : Lengths.Statement (.gcEnWrite agent w v) := rfl
theorem Lengths.gcPendClr (w : Fin 86) (v : Word) : Lengths.Statement (.gcPendClr w v) := rfl
theorem Lengths.gcPendSet (w : Fin 86) (v : Word) : Lengths.Statement (.gcPendSet w v) := rfl
theorem Lengths.msixUnmask (vec : Fin 32) : Lengths.Statement (.msixUnmask vec) := rfl
theorem Lengths.logPost (core : Fin 20) (v : Word) : Lengths.Statement (.logPost core v) := rfl
theorem Lengths.consoleLine : Lengths.Statement .consoleLine := rfl
theorem Lengths.fwPrepare (r : Src) (v : Word) : Lengths.Statement (.fwPrepare r v) := rfl
theorem Lengths.fwEraseDone : Lengths.Statement .fwEraseDone := rfl
theorem Lengths.fwActivateRestart (r : Src) : Lengths.Statement (.fwActivateRestart r) := rfl
theorem Lengths.fwActivateLive (r : Src) : Lengths.Statement (.fwActivateLive r) := rfl
theorem Lengths.activationTimeout : Lengths.Statement .activationTimeout := rfl
theorem Lengths.roleHolderWrite (r : Src) (role : Fin 9) (v : Word) : Lengths.Statement (.roleHolderWrite r role v) := rfl
theorem Lengths.smbStatus (pec : Option Bool) : Lengths.Statement (.smbStatus pec) := rfl
theorem Lengths.smbAlertClear (data : List Byte) (pec : Option Bool) : Lengths.Statement (.smbAlertClear data pec) := rfl
theorem Lengths.smbDictReq (data : List Byte) (pec : Option Bool) : Lengths.Statement (.smbDictReq data pec) := rfl
theorem Lengths.smbDictResp (pec : Option Bool) : Lengths.Statement (.smbDictResp pec) := rfl
theorem Lengths.smbT0 (pec : Option Bool) : Lengths.Statement (.smbT0 pec) := rfl
theorem Lengths.smbLog (data : List Byte) (pec : Option Bool) : Lengths.Statement (.smbLog data pec) := rfl
theorem Lengths.smbRing (data : List Byte) (pec : Option Bool) : Lengths.Statement (.smbRing data pec) := rfl
theorem Lengths.smbHold (data : List Byte) (pec : Option Bool) : Lengths.Statement (.smbHold data pec) := rfl
theorem Lengths.smbRestart (data : List Byte) (pec : Option Bool) : Lengths.Statement (.smbRestart data pec) := rfl
theorem Lengths.smbDomainOff (data : List Byte) (pec : Option Bool) : Lengths.Statement (.smbDomainOff data pec) := rfl
theorem Lengths.smbWake (data : List Byte) (pec : Option Bool) : Lengths.Statement (.smbWake data pec) := rfl
theorem Lengths.smbClearFail (data : List Byte) (pec : Option Bool) : Lengths.Statement (.smbClearFail data pec) := rfl
theorem Lengths.smbAlertResponse : Lengths.Statement .smbAlertResponse := rfl
theorem Lengths.sumpRestart (r : Src) (v : Word) : Lengths.Statement (.sumpRestart r v) := rfl
theorem Lengths.alertClear (r : Src) (v : Word) : Lengths.Statement (.alertClear r v) := rfl
theorem Lengths.clearFail (r : Src) (v : Word) : Lengths.Statement (.clearFail r v) := rfl
theorem Lengths.dinSample (p : Fin 96) (cv : Vector Int 5) : Lengths.Statement (.dinSample p cv) := rfl
theorem Lengths.encEdge (p : Fin 96) (a b : Int) (held : Nat) : Lengths.Statement (.encEdge p a b held) := rfl
theorem Lengths.degradingCondition (p : Fin 96) (q : Int) : Lengths.Statement (.degradingCondition p q) := rfl
theorem Lengths.busRxError (p : Fin 96) (code : Fin 8) (more : Fin 3) : Lengths.Statement (.busRxError p code more) := rfl
theorem Lengths.outputFrameEnd (o : Fin 100) : Lengths.Statement (.outputFrameEnd o) := rfl
theorem Lengths.listenFrameReceived (s_ : Fin 96) (ago : Nat) (frame : List Byte) : Lengths.Statement (.listenFrameReceived s_ ago frame) := rfl
theorem Lengths.perstRelease : Lengths.Statement .perstRelease := rfl
theorem Lengths.brownOutReturn (rail : Fin 20) : Lengths.Statement (.brownOutReturn rail) := rfl
theorem Lengths.vtfPresenceChange (t : Fin 4) (present : Bool) (dv : Nat) : Lengths.Statement (.vtfPresenceChange t present dv) := rfl
theorem Lengths.jtagInstruction (ir : BitVec 8) : Lengths.Statement (.jtagInstruction ir) := rfl

end Sys2Proof.Laws
end

