-- ==== Sys2Proof/Laws/Settle.lean ====
section
/-! SUPPORT. A block with nothing left to do stays as it is when a command ends. -/
namespace Sys2Proof.Machine

theorem each_same (d : Dev) (l : List Nat) (f : Dev → Nat → Dev) (h : ∀ c ∈ l, f d c = d) : d.each l f = d := by
  induction l with
  | nil => rfl
  | cons a l ih =>
    have ha := h a (by simp)
    simp only [Dev.each, List.foldl_cons, ha]
    exact ih fun c hc => h c (by simp [hc])

theorem boundary_quiet (d : Dev) (c : Nat) (h : d.coreQuiet c = true) : d.boundary c = d := by
  unfold Dev.coreQuiet at h
  unfold Dev.boundary Dev.farWake Dev.waitWake
  cases hw : (d.core c).wait <;> simp_all [Dev.bankNow]
  intro _ h1 h2
  simp_all

end Sys2Proof.Machine
end

