-- ==== Sys2Proof/Laws/Time.lean ====
section
/-! SUPPORT. T0 does not run back: what an advance of time leaves of it (spec 01, R15; spec 15, R409). -/
namespace Sys2Proof.Machine

@[simp] theorem Dev.advance_now (d : Dev) (k : Nat) : (d.advance k).now = d.now + k := rfl

@[simp] theorem Dev.oscSteps_now (d : Dev) (n : Nat) : (d.oscSteps n).now = d.now + d.sump.oscAdds n := rfl

/-- T0 does not decrease where the block waits for an instant. -/
theorem Dev.now_le_upTo (d : Dev) (t : Nat) : d.now ≤ (d.upTo t).now := by
  unfold Dev.upTo; split
  · exact Nat.le_refl _
  · split
    · simp
    · split <;> simp

/-- Nor where a tick passes. -/
theorem Dev.now_le_tick (d : Dev) : d.now ≤ d.tick.now := by
  unfold Dev.tick; split
  · simp
  · split <;> simp

end Sys2Proof.Machine
end

