-- ==== Sys2Proof/Tests/Slice0.lean ====
section
/-! SUPPORT. Tests on small states: the lengths of list operands, the manual's own worked examples, and, for each obligation, states and operands
that meet the hypotheses of each of its clauses (test_hyps_<obligation>). -/
namespace Sys2Proof.Tests

-- One test at a time: a test that the kernel evaluates waits for the declarations before it, and many of them waiting at once fill the memory with threads.
set_option Elab.async false
open Sys2Proof.Machine

/-! ### States -/

/-- The block some time after a boot: every domain is on, every core runs, and the mode is Configuration. -/
def upDev : Dev :=
  (((List.range 20).foldl (fun (d : Dev) c => d.setOb (K.CORE_STATE c) 2) ({ doms := 2 ^ 45 - 1 } : Dev)).setOb K.MODE 2).setOb K.HOST_LEVEL 3

/-- The booted block, changed. -/
def on (f : Dev → Dev) : State := { dev := f upDev }
def up : State := on id

/-- Objects with given values. -/
def put (l : List (Nat × Int)) (d : Dev) : Dev := l.foldl (fun d k => d.setOb k.1 k.2) d

/-- A request of the host. -/
def rq : Src := ⟨.hatch, 0⟩

/-- A message of four words from core 0 waits in mailbox 7 of the Tap's holder. -/
def tapMail (w0 w1 w2 w3 : Nat) (d : Dev) : Dev :=
  let k := d.roleOf 2
  ([4 * 0x8000, w0, w1, w2, w3].zipIdx.foldl (fun (d : Dev) x => d.st (mailAddr k 7 x.2) x.1) d).modEp k fun e => { e with full := [7] }

/-- Region 0 of the signal directory holds entries 0 to 1,023. -/
def region0 : Dev → Dev := put [(K.REG_SIZE 0, 1024), (K.REG_RIGHTS 0, 255)]

/-- The host's link is up. -/
def linked : State := on fun d => { d with host := { d.host with linkUp := true } }

/-- AAP is enabled on uplink 3, which is Up; the key of level 1 is set; the sessions are these. -/
def aap (l : List AapSess) : State :=
  on fun d => { put [(K.AAP_ENABLE, 8), (K.AAP_OPEN_READ, 1), (K.UPLINK_STATE 3, 2)] d with blob := [(K.AAP_KEY 1, List.replicate 32 7)], dict := { d.dict with sess := l } }

/-- A session at address 9 of uplink 3, open or a challenge. -/
def sess9 (isOpen : Bool) : AapSess := ⟨7, isOpen, 3, 9, 1, [], [], 0, [1], [], 0, 0⟩

/-- Datagrams: HELLO, PROVE with a proof, and those of the session. -/
def hello : List Byte := aapDgram 1 0xFFFF 0 (3 :: List.replicate 16 0) none
def prove (p : List Byte) : List Byte := aapDgram 3 0xFFFF 0 ([0, 7] ++ p) none
def goodProof : List Byte := prove (((aap [sess9 false]).cmd.proofOf (sess9 false)).getD [])
def ofSess (kind : Nat) : List Byte := aapDgram kind 7 1 [] (some [1])
def openRead : List Byte := aapDgram 0x10 0xFFFF 0 [] none

/-- A datagram as it is read. -/
def dgram (l : List Byte) : AapIn := (aapIn l).getD ⟨0, 0, 0, [], [], []⟩

/-- Port 95 in a mode and a state, its tile running. -/
def port95 (mode st : Int) : Dev → Dev := put [(K.PORT_MODE 95, mode), (K.PORT_STATE 95, st), (K.TILE_STATE 3, 2)]

/-- The same, and more of the port. -/
def port95With (mode st : Int) (f : Port → Port) : State := on fun d => (port95 mode st d).modPort 95 f

/-- Tile 3 in a state. -/
def tile3 (st : Int) (f : Tile → Tile) : State := on fun d => (put [(K.TILE_STATE 3, st)] d).modTile 3 f

/-- What a request in hand asks of the Tap. -/
def tileAsk (d : Dev) : Dev × TapAns :=
  (d.modTile 3 fun x => { x with auto := false, askSrc := some rq }).ask (.tileStart 3) 2500 50000 5 (d.waitLeft (some rq)) 0
def calAsk (d : Dev) : Dev × TapAns := d.ask (.tileCal 3) 2500 50000 5 (d.waitLeft (some rq)) 0
def tdrAsk (d : Dev) : Dev × TapAns := d.ask (.tdr 95) 900 20000 (d.obn (K.P_TDR_PRIO 95)) (d.waitLeft (some rq)) 0

/-- Port 95 in BUS mode, its context's core 15, its controller's state and more of it. -/
def bus95 (portSt busSt : Int) (f : BusCtl → BusCtl) : State :=
  on fun d => { put [(K.P_ROLE_CONTEXT 95, 127), (K.CTX_CORE_NOW 127, 15), (K.BUS_STATE 95, busSt)] (port95 3 portSt d) with buses := [(95, f {})] }

/-- Channel 95 in a state, its context's core 15, and more of it. -/
def chan95 (st : Int) (f : Chan → Chan) : State :=
  on fun d => { put [(K.P_ROLE_CONTEXT 95, 127), (K.CTX_CORE_NOW 127, 15), (K.CH_STATE 95, st), (K.CH_RX_SINK 95, 0)] d with chans := [(95, f {})] }

/-- Core 19 with these registers. -/
def core19 (x : Core) : State := on fun d => { d with cores := [(19, x)] }

/-- A core whose return stack is this deep. -/
def deep (n : Nat) : Core := { rsd := n, hw := List.replicate (min n 32) 0 }

/-- What a pop from the local part of the stack answers. -/
def popped : Dev × Word × Nat := (((core19 (deep 33)).inCycle 19 0).popEntry 19 0).getD (upDev, 0, 0)

/-- Core 0 with registers that name the last word of its local data. -/
def lastWord : State := on fun d => { d with cores := [(0, { g := Vector.replicate 16 0x7FFF, a := Vector.replicate 4 0x7FFF, dsp := 0x7FFF })] }

/-- A request waits in the Tap's queue. -/
def tapBusy : State := on (fun d => { d with tap := { d.tap with queue := [⟨300, 1000, 4, 10 ^ 9, 0, .retry 95, 0⟩] } })

/-- A bundle of one section, CTX_DEFAULTS, in catalogue entry 255: mode 0 is allowed, and a context has 512 nodes and a window of 256 words. -/
def bundled (d : Dev) : Dev :=
  { d.stAll 0x180000 [0, 0x000100, 0, 0, 0, 0, 0, 0, 0x070000, 16, 4, 0, 0, 0, 0, 0, 1, 0, 512, 256] with bundles := [(255, { base := 0x180000, words := 32 })] }

/-- Context 0 is BOUND on core 15, and context 127 is in a state on a core. -/
def ctx127 (st core : Int) (f : Ctx → Ctx) : State :=
  on fun d => { put [(K.CTX_STATE 0, 1), (K.CTX_CORE_NOW 0, 15), (K.CTX_SLOT 0, 0), (K.CTX_PERS 0, 255), (K.CTX_STATE 127, st), (K.CTX_CORE_NOW 127, core),
    (K.CTX_SLOT 127, 1), (K.CTX_PERS 127, 255), (K.CTX_CORE 127, 15), (K.CTX_PORT_MASK 127 3, 2 ^ 23)] (bundled d) with ctxs := [(127, f {})] }

/-- A far request of one word with tag 31, one of two words, and requests with tags 0 to n − 1. -/
def far31 : FarReq := ⟨31, 0x40000, 0, 0, 0, 0, 0, none, none⟩
def farPair (t a : Nat) : FarReq := ⟨t, a, 0, 1, 0, 0, 0, none, none⟩
def farTags (n : Nat) : Core := { far := (List.range n).map fun t => ⟨t, 0x40000, 0, 0, 0, 0, 0, none, none⟩ }

/-- A whole frame, and a queue that holds it alone. -/
def frame (n : Nat) (e : Env) : QFrame := ⟨1, e, List.replicate n 0, some (false, 0), 0, 0, n⟩
def queued (q : Nat) (f : QFrame) (d : Dev) : Dev := { d with sw := { d.sw with queues := [(q, [f])] } }

/-- A bus port whose buffers the fabric feeds, with one frame in class 7 of its line queue. -/
def busFed (f : QFrame) : State := on fun d => queued (lineQueue 95 + 7) f (put [(K.BUS_TXQ_BUFS 95, 32)] (bus95 2 1 id).dev)

/-- A received frame and a cell. -/
def rxFrame : RxFrame := ⟨List.replicate 64 0, false, 0, 0, 0, 0, 0, false, 2, false⟩
def cell (seq : Nat) : FCell := ⟨true, true, false, 0, 47, 0, 0, 64, seq, 47, 0, {}, [], 0⟩

/-- The base T7 and the inputs and outputs of PPS 3. -/
def t7 (f : TimeBase → TimeBase) (l : List (Nat × Int)) : State := on fun d => (put l d).modTb 7 f

/-- A frame waits for the host, whose receive ring has one free descriptor. -/
def ringRx : State :=
  on fun d => queued (queueOf 36 0 0) (frame 64 {}) (((put [(K.RING_RX_SIZE 20, 1)] d).st (ringAddr 20 0) (2 ^ 23)).st (ringAddr 20 0 + 1) 35072)

/-- A bundle is prepared in the other copy. -/
def fwDown : State := on (put [(K.FW_STATE, 4), (K.IMAGE_COPY, 1)])

/-- The host boots the block: the last message of the window's last words waits. -/
def hostBoot : State :=
  on fun d => (((put [(K.EP_DOORBELL 16, 1)] d).modSump fun x => { x with booting := true, hostWindow := true, hostWords := 35374 }).st 0x048902 30208).stAll 0x048903 [1, 35374]

/-- Slot 1 of segment 95 sends 64 bytes from signal 0 of node 1. -/
def slotImg : List Byte := [0x80, 0x30, 0x00, 0, 0, 0]

/-- Segment 95 in a state, on context 127 and port 95, and more of it. -/
def seg95 (st : Int) (f : Segment → Segment) : State :=
  on fun d =>
    ({ put [(K.SEG_CTX 95, 127), (K.SEG_PIX 95, 0), (K.SEG_TB 95, 0), (K.CTX_STATE 127, 2), (K.SEG_RATE 95, 2), (K.SEG_CYCLE_LEN 95, 100000), (K.SEG_SLOTS 95, 255),
        (K.SEG_MAX_PAYLOAD 95, 64), (K.SEG_RANK 95, 0), (K.SEG_SYNC_SLOT 95, 1), (K.REG_OWNER 0, 127), (K.SEG_STATE 95, st)] (region0 (port95 4 2 d)) with
        ctxs := [(127, { ports := [95] })] }.setDom (K.SEG_SLOT_MAP 95) slotImg).modSeg 95 fun x => f { x with port := 95 }

/-- A frame of slot 1 at the head of the port's line queue. -/
def slotFrame : QFrame := ⟨1, {}, 1 :: List.replicate 66 0, some (false, 0), 0, 0, 67⟩

/-- The start command of segment 95 in hand, and its permit. -/
def segAsk : Dev × TapAns :=
  let d := (seg95 0 id).taken rq 2 (K.SEG_CMD 95) 0 [1]
  d.winPermit (winOf 11 (d.obn (K.SEG_WIN 95))) 96 (some rq)

/-- Slot 1 of segment 95 is due, its frame at the head of the port's line queue. -/
def slotDue : State := { dev := { queued (lineQueue 95) { slotFrame with dep := 2000 } (seg95 6 id).dev with now := 2000 } }

/-- Axis 4,095 is in use and its record whole; objects with given values. -/
def axis95 (st : Nat) (l : List (Nat × Int)) : State :=
  on fun d => ((put ((K.AX_USE 4095, 1) :: l) d).st (recAddr 4095 + 63) (checkOf (List.replicate 63 0))).modAxis 4095 fun x => { x with state := st, jogEnds := some 5 }

/-- A command frame waits for the profile unit. -/
def cmdFrame (tail : Option (Bool × Nat)) (src : Nat) : QFrame := ⟨1, { src := src }, 2 :: List.replicate 23 0, tail, 0, 0, 24⟩
def motion (f : QFrame) : State := on (queued (queueOf 39 0 0) f)
def taken39 (f : QFrame) : Dev := ((motion f).cmd.takeWhole 39 fun _ => true).1

/-- Uplink 3 is Up and has the IPv4 address 10.0.0.9. -/
def withIp : State := on (put [(K.UPLINK_STATE 3, 2), (K.UP_IPV4_ADDR 3, 0x0A000009)])

/-- The frame that the firmware's service answers. -/
def answerOf : Option Service → List Byte
  | some (.answer f) => f
  | _ => []

/-- The same, with template 4,095 fired by slot 1. -/
def slotFires : State := { dev := { (seg95 6 fun x => { x with tpls := [(1, 4095)] }).dev with cellar := { tpls := [(4095, ⟨0x260000, .dev, some 0⟩)] } } }

/-- A swap of the last window waits, and no channel has flipped. -/
def swapping : State := on fun d => { d with engines := [(11, { swaps := [⟨3, []⟩] })] }

/-- A far request with tag 31 to the last local word of core 18. -/
def toPeer (op : Nat) : FarReq := ⟨31, 0x927FFF, op, 0, 0, 0, 0, none, none⟩

/-- Core 19 is due to run the first word of its program, a LIT that puts 7 into g1. -/
def running : State := on fun d => { d.stAll (bankAddr 19 0 0) [0x742000, 7] with now := 100 }

/-! ### Lengths of list operands: a term that each check refuses -/

/-- The block after a command. -/
def outcome (o : Host.Outcome State Fault Refusal) : Dev := match o with
  | .next t => t.dev
  | _ => {}

/-- Does an outcome stop? -/
def stops (o : Host.Outcome State Fault Refusal) : Bool := match o with
  | .next _ => false
  | _ => true

/-- Eight sensors, not seven (R50). -/
theorem test_wellFormed_tjSample : (Instr.tjSample (List.replicate 7 0) 0).wellFormed = false ∧ stops (exec (.tjSample (List.replicate 7 0) 0) up) = true := by
  decide +kernel

/-- Twenty rails, not nineteen (R56). -/
theorem test_wellFormed_tapRailSample :
    (Instr.tapRailSample (List.replicate 19 (0, 0))).wellFormed = false ∧ stops (exec (.tapRailSample (List.replicate 19 (0, 0))) up) = true := by decide +kernel

/-- At most four traces (R160). -/
theorem test_wellFormed_tdrProcEnd : (Instr.tdrProcEnd 95 (List.replicate 5 [])).wellFormed = false ∧ stops (exec (.tdrProcEnd 95 (List.replicate 5 [])) up) = true := by
  decide +kernel

/-- At most fifteen body words (R492). -/
theorem test_wellFormed_mailboxPost :
    (Instr.mailboxPost 19 20 7 (List.replicate 16 0) 0).wellFormed = false ∧ stops (exec (.mailboxPost 19 20 7 (List.replicate 16 0) 0) up) = true := by decide +kernel

/-- The longest lists are well formed. -/
theorem test_wellFormed_longest :
    (Instr.tjSample (List.replicate 8 0) 0).wellFormed = true ∧ (Instr.tapRailSample (List.replicate 20 (0, 0))).wellFormed = true ∧
    (Instr.tdrProcEnd 95 (List.replicate 4 [])).wellFormed = true ∧ (Instr.mailboxPost 19 20 7 (List.replicate 15 0) 0).wellFormed = true := by decide

/-! ### Table words and the queue -/

/-- The opcode table gives no row bits, so no word spells a command. -/
theorem test_no_table_word (nbits w : Nat) (s : State) : decodeTableWord nbits w = none ∧ s.withFetchWord nbits w = s := ⟨rfl, rfl⟩

/-- With no command waiting at reset, a step leaves the queue empty. -/
theorem test_idle_step : (match step State.reset with
    | .next t => t.pending
    | _ => [.tapRequest]) = [] := by decide +kernel

/-! ### The manual's worked examples -/

/-- Element 0 of object 0 of port 95 is @2.BE0.00 (spec 00, after R5). -/
theorem test_key_of_port95 : K.PORT_MODE 95 = 0x2BE000 := by decide

/-- The status word of S:2A4F1 is read at the byte offset 0x12A4F1C as 0x00280725: source P20, node slot 7, valid, update count 5 (spec 04, "reading one signal
from the host"). -/
theorem test_host_reads_signal :
    (outcome (exec (.hostRead .bar4 0x12A4F10 4) { dev := (linked.dev.stAll 0x4A93C4 [1, 2, 3, 0x280725]) })).out.head? = some (.hostData [1, 2, 3, 0x00280725]) := by
  decide +kernel

/-- W4's send window to K1, mailbox 2, is at 0x0109A0 (spec 18, "a cross-post in Hall 3"). -/
theorem test_send_window : 0x010100 + 128 * 17 + 16 * 2 = 0x0109A0 ∧ mailAddr 17 2 0 + 16 * 5 = mailAddr 17 7 0 := by decide

/-- A core whose g registers hold these values from g1 on. -/
def holding (v1 v2 v3 : Word) : State := core19 { g := (((Vector.replicate 16 0).set 1 v1).set 2 v2).set 3 v3 }

/-- ADDD: 4,789 g and 356 g are 5,145 g (spec 11, "adding packed-decimal weights"). -/
theorem test_addd : ((outcome (exec (.addd 19 1 1 2) (holding 0x004789 0x000356 0))).core 19).g[1] = 0x005145 := by decide +kernel

/-- ADD of the same leaves 0x004ADF, and DAJ adjusts it with a ^ b (spec 11, the same example). -/
theorem test_add_then_daj :
    ((outcome (exec (.add 19 1 1 2) (holding 0x004789 0x000356 0))).core 19).g[1] = 0x004ADF ∧
    ((outcome (exec (.daj 19 1 1 3) (holding 0x004ADF 0x000356 0x0044DF))).core 19).g[1] = 0x005145 := by decide +kernel

/-- CVDB reads 5,145 (spec 11, the same example). -/
theorem test_cvdb : ((outcome (exec (.cvdb 19 9 1) (holding 0x005145 0 0))).core 19).g[9] = 0x001419 := by decide +kernel

/-- A delay line of 40 words at 0x002000 (a1) and a reorder of 16 points at 0x001230 (a0); AMODE reads 0x00004E (spec 10, "a delay line and an FFT reorder"). -/
def walking (a0 a1 : Word) : Core :=
  { amode := 0x00004E, base := (Vector.replicate 4 0).set 1 0x002000, mlen := (Vector.replicate 4 0).set 1 40, a := ((Vector.replicate 4 0).set 0 a0).set 1 a1 }

theorem test_modulo_steps : (walking 0 0x002026).stepped 1 3 = 0x002001 ∧ (walking 0 0x002001).stepped 1 (-5) = 0x002024 := by decide +kernel

theorem test_reorder_steps :
    (walking 0x001230 0).stepped 0 1 = 0x001238 ∧ (walking 0x001238 0).stepped 0 1 = 0x001234 ∧
    (walking 0x001234 0).stepped 0 1 = 0x00123C ∧ (walking 0x00123C 0).stepped 0 1 = 0x001232 := by decide +kernel

/-- A step of +4 visits offsets 0, 2, 1 and 3 (spec 10, the same example). -/
theorem test_reorder_by_four :
    (walking 0x001230 0).stepped 0 4 = 0x001232 ∧ (walking 0x001232 0).stepped 0 4 = 0x001231 ∧
    (walking 0x001231 0).stepped 0 4 = 0x001233 := by decide +kernel

/-! ### States that meet the obligations' hypotheses -/

/-- Words written out from the layouts of spec 11, R303 and R304: ADD g1, g2, g3; LIT g1 with its literal; a pair word. -/
theorem test_uluen_words (s : State) :
    uluenWord 0 0b001010000010010001100000 0 s = execAdd 0 1 2 3 s ∧ uluenWord 19 0b011101000010010000000000 0xABCDEF s = execLit 19 1 0xABCDEF s ∧
    uluenWord 0 0b110001001010111000011011 0 s = execPair 0 17 1 2 28 1 5 true s := ⟨rfl, rfl, rfl⟩

/-- The hypotheses of PowerAndResetCommands can be met, part 1. -/
theorem test_hyps_PowerAndResetCommands_1 :
    (∃ s : State, s.dev.store.saving = none) ∧
    (∃ s : State, s.dev.sump.resetLow = false) ∧
    (∃ (s : State) (straps : BitVec 2), s.dev.sump.resetLow = true ∧ straps = 3) ∧
    (∃ (s : State) (straps : BitVec 2) (test : Bool), s.dev.sump.resetLow = true ∧ straps ≠ 3 ∧ s.dev.mm.sumpTemp < 1000 ∧ test = true) ∧
    (∃ (s : State) (cause : Fin 8), s.dev.sump.resetLow = false ∧ cause ≠ 0 ∧ cause ≠ 1 ∧ cause ≠ 6) ∧
    (∃ s : State, s.dev.sump.perstLow = true) ∧
    (∃ (s : State) (rail : Fin 20), rail < 7 ∧ s.dev.sump.resetLow = false) ∧
    (∃ (s : State) (rail : Fin 20), 8 ≤ rail.val ∧ (rail.val - 8) % 3 ≠ 2 ∧ s.dev.sump.resetLow = false) :=
  ⟨⟨up, by decide +kernel⟩,
   ⟨on fun d => { d with sump := { d.sump with resetLow := false } }, by decide +kernel⟩,
   ⟨up, 3, by decide +kernel⟩,
   ⟨up, 0, true, by decide +kernel⟩,
   ⟨on (fun d => { d with sump := { d.sump with resetLow := false } }), 7, by decide +kernel⟩,
   ⟨up, by decide +kernel⟩,
   ⟨on (fun d => { d with sump := { d.sump with resetLow := false } }), 6, by decide +kernel⟩,
   ⟨on (fun d => { d with sump := { d.sump with resetLow := false } }), 8, by decide +kernel⟩⟩

/-- The hypotheses of PowerAndResetCommands can be met, part 2. -/
theorem test_hyps_PowerAndResetCommands_2 :
    (∃ (s : State) (rail : Fin 20), s.dev.sump.railsOut.contains rail.val = true ∧ s.dev.sump.resetLow = false) ∧
    (∃ (s : State) (straps : BitVec 2), s.dev.sump.resetLow = true ∧ straps ≠ 3 ∧ 1000 ≤ s.dev.mm.sumpTemp) ∧
    (∃ (s : State) (straps : BitVec 2) (test : Bool), s.dev.sump.resetLow = true ∧ straps ≠ 3 ∧ s.dev.mm.sumpTemp < 1000 ∧ test = false ∧ s.dev.sump.refAbsent = true) ∧
    (∃ (s : State) (straps : BitVec 2) (test : Bool), s.dev.sump.resetLow = true ∧ straps ≠ 3 ∧ s.dev.mm.sumpTemp < 1000 ∧ test = false ∧ s.dev.sump.refAbsent = false) ∧
    (∃ s : State, s.dev.sump.perstLow = true ∧ let d := (s.cmd.hostLevels fun d => d.epochInc 20).modSump fun x => { x with perstLow := false, wakeLow := false }; d.domOn 2 = false) ∧
    (∃ s : State, s.dev.sump.perstLow = true ∧ let d := (s.cmd.hostLevels fun d => d.epochInc 20).modSump fun x => { x with perstLow := false, wakeLow := false }; d.domOn 2 = true) :=
  ⟨⟨on (fun d => { d with sump := { d.sump with resetLow := false, railsOut := [19] } }), 19, by decide +kernel⟩,
   ⟨on (fun d => d.modMm fun m => { m with sumpTemp := 1000 }), 2, by decide +kernel⟩,
   ⟨on (fun d => d.modSump fun x => { x with refAbsent := true }), 2, false, by decide +kernel⟩,
   ⟨up, 2, false, by decide +kernel⟩,
   ⟨on (fun d => { d with doms := 3 }), by decide +kernel⟩,
   ⟨up, by decide +kernel⟩⟩

/-- The hypotheses of TapCommands can be met. -/
theorem test_hyps_TapCommands :
    (∃ (s : State) (r : Src) (v : Word), s.opens r K.TAP_BUDGET [v.toNat] 2 = true ∧ let d := s.taken r 2 K.TAP_BUDGET 0 [v.toNat]; (d.mode = 2 ∨ d.mode = 7) ∧ v.toNat ≤ d.gradeLimit ∧ (if d.limits = 7 then 0 else baseOf d.limits) + permitSum (d.tap.permits.filter fun p => !p.revocable) ≤ effOf d.limits v.toNat) ∧
    (∃ (s : State) (r : Src) (v : Word), s.opens r K.TAP_PEAK [v.toNat] 1 = true) ∧
    (∃ (s : State) (rails : List (Nat × Nat)), rails.length = 20 ∧ 2 ≤ s.cmd.mode) ∧
    (∃ (s : State) (rails : List (Nat × Nat)), rails.length ≠ 20) ∧
    (∃ (s : State) (t : Nat), s.cmd.served 2 = true ∧ s.cmd.nextWait = some t) ∧
    (∃ (s : State) (t : Nat), s.cmd.served 2 = true ∧ s.cmd.nextExpiry = some t) ∧
    (∃ (s : State) (d' : Dev) (n : Nat), s.cmd.served 2 = true ∧ (s.cmd.ep (s.cmd.roleOf 2)).full.contains 7 = true ∧ let k := s.cmd.roleOf 2; let src := bits (s.cmd.ld (mailAddr k 7 0)) 23 19; let w := fun i => s.cmd.ld (mailAddr k 7 1 + i); bits (s.cmd.ld (mailAddr k 7 0)) 18 15 = 4 ∧ bits (w 0) 23 16 = 1 ∧ bits (w 0) 9 0 ≤ 1000 ∧ w 1 ≠ 0 ∧ w 1 ≤ 38000 ∧ w 2 ≠ 0 ∧ (s.cmd.ackMail k 7).ask (.core src) (w 1) (w 2) (bits (w 0) 15 13) (bits (w 0) 9 0) (w 3) = (d', .granted n)) ∧
    (∃ (s : State) (p : Permit), s.cmd.served 2 = true ∧ (s.cmd.ep (s.cmd.roleOf 2)).full.contains 7 = true ∧ let k := s.cmd.roleOf 2; let src := bits (s.cmd.ld (mailAddr k 7 0)) 23 19; let w := fun i => s.cmd.ld (mailAddr k 7 1 + i); bits (s.cmd.ld (mailAddr k 7 0)) 18 15 = 4 ∧ bits (w 0) 23 16 = 2 ∧ bits (w 0) 9 0 ≤ 1000 ∧ w 2 ≠ 0 ∧ ((s.cmd.ackMail k 7).tap.permits.find? fun p => p.num == w 1 && p.holder == .core src) = some p) :=
  ⟨⟨up, rq, 36000, by decide +kernel⟩,
   ⟨up, rq, 0, by decide +kernel⟩,
   ⟨up, List.replicate 20 (0, 0), by decide +kernel⟩,
   ⟨up, [], by decide +kernel⟩,
   ⟨on (fun d => d.modTap fun t => { t with queue := [⟨100, 1000, 3, 5, 1, .save, 0⟩] }), 5, by decide +kernel⟩,
   ⟨on (fun d => d.modTap fun t => { t with permits := [⟨1, 100, 3, 1, some 7, .save, 0⟩] }), 7, by decide +kernel⟩,
   ⟨on (tapMail 0x0103E8 18000 0xFFFFFF 5), (((on (tapMail 0x0103E8 18000 0xFFFFFF 5)).cmd.ackMail 16 7).ask (.core 0) 18000 0xFFFFFF 0 1000 5).1, 1, by decide +kernel⟩,
   ⟨on (fun d => tapMail 0x020000 1 1 0 (d.modTap fun t => { t with permits := [⟨1, 100, 3, 1, none, .core 0, 0⟩] })), ⟨1, 100, 3, 1, none, .core 0, 0⟩, by decide +kernel⟩⟩

/-- The hypotheses of ModeCommands can be met, part 1. -/
theorem test_hyps_ModeCommands_1 :
    (∃ (s : State) (r : Src), s.opens r K.MODE_REQUEST [7] 1 = true ∧ let d := s.taken r 2 K.MODE_REQUEST 0 [7]; 2 ≤ d.mode ∧ d.mode ≤ 6) ∧
    (∃ (s : State) (r : Src) (v : Word), s.opens r K.MODE_REQUEST [v.toNat] 1 = true ∧ 2 ≤ v.toNat ∧ v.toNat ≤ 4 ∧ let d := s.taken r 2 K.MODE_REQUEST 0 [v.toNat]; let d' := d.setOb K.LIMP_CAUSE (putBit (d.obn K.LIMP_CAUSE) 3 false : Nat); v.toNat ≠ d.mode ∧ d.mm.waiting = none ∧ modeAllows d.mode v.toNat = true ∧ d'.targetStatus v.toNat = Stat.done ∧ d'.modeFits v.toNat = true) ∧
    (∃ (s : State) (t : Nat), s.cmd.mm.limpWait = some t ∧ s.cmd.mode = 7) ∧
    (∃ (s : State) (t : Nat), s.cmd.mm.limpClear = some t ∧ s.cmd.mode = 6 ∧ s.cmd.obb K.LIMP_RETURN = true ∧ s.cmd.served 1 = true) ∧
    (∃ (s : State) (t : Nat), (s.cmd.ob K.WAKE_AT).toNat = t ∧ t ≠ 0) ∧
    (∃ (s : State) (temps : List Int) (sump : Int), temps.length = 8 ∧ s.cmd.mode = 0) ∧
    (∃ (s : State) (temps : List Int) (sump : Int), temps.length = 8 ∧ s.cmd.mode ≠ 0 ∧ let d := s.cmd.modMm fun x => { x with sumpTemp := sump, sensors := (temps :: x.sensors).take 10 }; (1250 ≤ d.tj ∨ 1250 ≤ sump)) ∧
    (∃ (s : State) (temps : List Int) (sump : Int), temps.length = 8 ∧ s.cmd.mode ≠ 0 ∧ let d := s.cmd.modMm fun x => { x with sumpTemp := sump, sensors := (temps :: x.sensors).take 10 }; d.tj < 1120 ∧ sump < 1250 ∧ d.served 1 = true ∧ d.tj ≤ (mget? d.od K.TJ_MAX).getD (-100000) ∧ d.tj < d.ob K.TJ_WARN ∧ d.mm.warn = false ∧ d.mm.thermCause = false) :=
  ⟨⟨up, rq, by decide +kernel⟩,
   ⟨up, rq, 3, by decide +kernel⟩,
   ⟨on (fun d => (put [(K.MODE, 7)] d).modMm fun x => { x with limpWait := some 4 }), 4, by decide +kernel⟩,
   ⟨on (fun d => (put [(K.MODE, 6), (K.LIMP_RETURN, 1)] d).modMm fun x => { x with limpClear := some 4 }), 4, by decide +kernel⟩,
   ⟨on (put [(K.WAKE_AT, 1)]), 1, by decide +kernel⟩,
   ⟨on (put [(K.MODE, 0)]), List.replicate 8 250, 250, by decide +kernel⟩,
   ⟨up, List.replicate 8 1250, 250, by decide +kernel⟩,
   ⟨on (put [(K.TJ_MAX, 900)]), List.replicate 8 899, 1249, by decide +kernel⟩⟩

/-- The hypotheses of ModeCommands can be met, part 2. -/
theorem test_hyps_ModeCommands_2 :
    (∃ (s : State) (temps : List Int) (sump : Int), temps.length ≠ 8) ∧
    (∃ (s : State) (t : Nat), s.cmd.tap.limpOver = some t ∧ s.cmd.limits = 6) ∧
    (∃ (s : State) (r : Src) (v : Word), s.opens r K.TJ_MAX [v.toNat] 1 = true) :=
  ⟨⟨up, List.replicate 7 0, 0, by decide +kernel⟩,
   ⟨on (fun d => (put [(K.MODE, 6)] d).modTap fun t => { t with limpOver := some 2 }), 2, by decide +kernel⟩,
   ⟨up, rq, 0, by decide +kernel⟩⟩

/-- The hypotheses of DictionaryReads can be met. -/
theorem test_hyps_DictionaryReads :
    (∃ (s : State) (r : Src) (key : Word) (x : Desc), s.takes r 1 key.toNat 0 [] = true ∧ let d := s.taken r 1 key.toNat 0 []; d.barred r.via key.toNat = false ∧ d.desc key.toNat = some x ∧ d.readCheck r.via x key.toNat = Stat.done ∧ d.atticPoisoned key.toNat = false ∧ x.ty.words ≠ 0 ∧ (r.via = .quick → (d.wordsAt x key.toNat).length ≤ 2)) ∧
    (∃ (s : State) (r : Src) (keys : List Word) (f : Nat → List Nat), keys ≠ [] ∧ s.takes r 3 0 0 (natsOf keys) = true ∧ let d := s.taken r 3 0 0 (natsOf keys); (∀ k ∈ keys, d.readKey r.via k.toNat = (Stat.done, f k.toNat)) ∧ (keys.flatMap fun k => f k.toNat).length ≤ 61) ∧
    (∃ (s : State) (r : Src) (sig count : Word), s.takes r 5 sig.toNat count.toNat [] = true ∧ let d := s.taken r 5 sig.toNat count.toNat []; d.barred r.via 0 = false ∧ 1 ≤ count.toNat ∧ count.toNat ≤ 15 ∧ sig.toNat + count.toNat ≤ 2 ^ 20 ∧ (∀ i < count.toNat, d.entryPoisoned (sig.toNat + i) = false)) ∧
    (∃ (s : State) (r : Src) (key ofs : Word) (n : Word) (x : Desc) (m : Nat), s.takes r 10 key.toNat ofs.toNat [n.toNat] = true ∧ let d := s.taken r 10 key.toNat ofs.toNat [n.toNat]; let len := bits n.toNat 7 0; d.barred r.via key.toNat = false ∧ d.desc key.toNat = some x ∧ d.readCheck r.via x key.toNat = Stat.done ∧ x.ty = .dom m ∧ 1 ≤ len ∧ len ≤ 174 ∧ ofs.toNat ≤ (d.readDom key.toNat).length) :=
  ⟨⟨up, rq, word K.MODE, (descOf K.MODE).get (by decide +kernel), by decide +kernel⟩,
   ⟨up, rq, [word K.MODE, word K.TAP_BUDGET], fun k => (upDev.readKey .hatch k).2, by decide +kernel, by decide +kernel,
    fun k h => of_decide_eq_true (List.all_eq_true.mp (by decide +kernel : ([word K.MODE, word K.TAP_BUDGET].all fun k =>
      decide ((up.taken rq 3 0 0 [K.MODE, K.TAP_BUDGET]).readKey .hatch k.toNat = (Stat.done, (upDev.readKey .hatch k.toNat).2))) = true) k h), by decide +kernel⟩,
   ⟨up, rq, 0xFFFFF, 1, by decide +kernel⟩,
   ⟨up, rq, word (K.UP_GCL_ADMIN 3), 0, 174, (descOf (K.UP_GCL_ADMIN 3)).get (by decide +kernel), 1536, by decide +kernel⟩⟩

/-- The hypotheses of DictionaryWrites can be met. -/
theorem test_hyps_DictionaryWrites :
    (∃ (s : State) (r : Src) (key : Word) (vals : List Word) (x : Desc) (v : Int) (d' : Dev), s.takes r 2 key.toNat 0 (natsOf vals) = true ∧ let d := s.taken r 2 key.toNat 0 (natsOf vals); d.barred r.via key.toNat = false ∧ d.valueOf r.via key.toNat (natsOf vals) = (x, v, Stat.done) ∧ d.effect x key.toNat v (some r) true = (d', some Stat.done)) ∧
    (∃ (s : State) (r : Src) (items : List Word) (l : List (Nat × Desc × Int × Nat)) (d' : Dev), s.takes r 4 0 0 (natsOf items) = true ∧ let d := s.taken r 4 0 0 (natsOf items); d.multiItems r.via 61 (natsOf items) = l ∧ l ≠ [] ∧ (∀ e ∈ l, e.2.2.2 = Stat.done) ∧ d.multiApply r l 0 = (d', .all) ∧ (∀ e ∈ l, d'.crossBad e.2.1 e.1 = Stat.done)) ∧
    (∃ (s : State) (r : Src) (key ofs : Word) (w : List Word) (x : Desc) (m : Nat), s.takes r 9 key.toNat ofs.toNat (natsOf w) = true ∧ let d := s.taken r 9 key.toNat ofs.toNat (natsOf w); let len := bits ((natsOf w).getD 0 0) 7 0; d.barred r.via key.toNat = false ∧ d.desc key.toNat = some x ∧ d.writeCheck r.via x key.toNat = Stat.done ∧ x.ty = .dom m ∧ x.eff ≠ .aapKey ∧ x.eff ≠ .axCmd ∧ x.eff ≠ .fwBundle ∧ 1 ≤ len ∧ len ≤ 174 ∧ len ≤ m ∧ w.length = 1 + (len + 2) / 3 ∧ ((natsOf w).getD 0 0).testBit 23 = false ∧ ofs = 0 ∧ (d.freshPuts.dict.puts.find? fun p => p.key == key.toNat) = none) ∧
    (∃ (s : State) (key : Word) (p : Put), (s.cmd.dict.puts.find? fun p => p.key == key.toNat) = some p ∧ s.cmd.served 0 = true) ∧
    (∃ (s : State) (r : Src) (sig : Word) (hi lo : Word) (reg : Nat), s.takes r 6 sig.toNat 0 [hi.toNat, lo.toNat] = true ∧ let d := s.taken r 6 sig.toNat 0 [hi.toNat, lo.toNat]; d.barred r.via 0 = false ∧ sig.toNat < 2 ^ 20 ∧ d.regionOf sig.toNat = some reg ∧ 1 ≤ d.pathLevel r.via ∧ d.mayWrite reg .dictWrite false = true) ∧
    (∃ (s : State) (r : Src) (sig : Word) (hi lo : Word) (reg : Nat), s.takes r 7 sig.toNat 0 [hi.toNat, lo.toNat] = true ∧ let d := s.taken r 7 sig.toNat 0 [hi.toNat, lo.toNat]; d.barred r.via 0 = false ∧ sig.toNat < 2 ^ 20 ∧ d.regionOf sig.toNat = some reg ∧ 2 ≤ d.pathLevel r.via ∧ (d.mode = 2 ∨ d.mode = 7) ∧ d.mayWrite reg .dictForce false = true) ∧
    (∃ (s : State) (r : Src) (sig : Word) (reg : Nat), s.takes r 8 sig.toNat 0 [] = true ∧ let d := s.taken r 8 sig.toNat 0 []; d.barred r.via 0 = false ∧ sig.toNat < 2 ^ 20 ∧ d.regionOf sig.toNat = some reg ∧ 2 ≤ d.pathLevel r.via ∧ d.mayWrite reg .dictForce false = true) ∧
    (∃ (s : State) (r : Src) (key arg : Word) (x : Desc) (n : Nat), s.takes r 13 key.toNat arg.toNat [] = true ∧ let d := s.taken r 13 key.toNat arg.toNat []; d.barred r.via key.toNat = false ∧ d.desc key.toNat = some x ∧ x.acc ≠ .w ∧ x.ty.words ≤ 13 ∧ x.ty.words ≠ 0 ∧ (d.dict.subs.find? fun s => s.via == r.via && s.key == key.toNat) = none ∧ (arg.toNat.testBit 23 = true ∨ arg.toNat % 65536 ≠ 0) ∧ ((List.range 64).find? fun n => (d.dict.subs.filter fun s => s.via == r.via).all fun s => s.num != n) = some n) :=
  ⟨⟨up, rq, word K.TAP_PEAK, [0], (descOf K.TAP_PEAK).get (by decide +kernel), 0, ((up.taken rq 2 K.TAP_PEAK 0 [0]).effect ((descOf K.TAP_PEAK).get (by decide +kernel)) K.TAP_PEAK 0 (some rq) true).1, by decide +kernel⟩,
   ⟨up, rq, [word (K.P_RETRY_MAX 0), 0], (up.taken rq 4 0 0 [K.P_RETRY_MAX 0, 0]).multiItems .hatch 61 [K.P_RETRY_MAX 0, 0], ((up.taken rq 4 0 0 [K.P_RETRY_MAX 0, 0]).multiApply rq ((up.taken rq 4 0 0 [K.P_RETRY_MAX 0, 0]).multiItems .hatch 61 [K.P_RETRY_MAX 0, 0]) 0).1, by decide +kernel⟩,
   ⟨up, rq, word (K.UP_GCL_ADMIN 0), 0, [1, 0], (descOf (K.UP_GCL_ADMIN 0)).get (by decide +kernel), 1536, by decide +kernel⟩,
   ⟨on (fun d => d.modDict fun x => { x with puts := [⟨K.UP_GCL_ADMIN 0, .hatch, [], 0⟩] }), word (K.UP_GCL_ADMIN 0), ⟨K.UP_GCL_ADMIN 0, .hatch, [], 0⟩, by decide +kernel⟩,
   ⟨on region0, rq, 1023, 0, 0, 0, by decide +kernel⟩,
   ⟨on region0, rq, 1023, 0, 0, 0, by decide +kernel⟩,
   ⟨on region0, rq, 1023, 0, by decide +kernel⟩,
   ⟨up, rq, word K.MODE, 1, (descOf K.MODE).get (by decide +kernel), 0, by decide +kernel⟩⟩

/-- The hypotheses of DictionaryServices can be met. -/
theorem test_hyps_DictionaryServices :
    (∃ (s : State) (r : Src) (n : Nat) (d' : Dev), s.takes r 11 0 0 [] = true ∧ let d := s.taken r 11 0 0 []; d.barred r.via 0 = false ∧ 3 ≤ d.pathLevel r.via ∧ d.saveBusy = false ∧ d.ask .save 400 2000000 3 (d.waitLeft (some r)) 0 = (d', .granted n)) ∧
    (∃ (s : State) (r : Option Src) (b : Bool) (img : AtticImage) (num q : Nat), s.cmd.store.saving = some (r, b, img, num, q) ∧ s.cmd.sump.flashOk = true) ∧
    (∃ (s : State) (r : Src), s.takes r 12 0 0 [] = true ∧ let d := s.taken r 12 0 0 []; d.barred r.via 0 = false ∧ 3 ≤ d.pathLevel r.via ∧ (d.mode = 2 ∨ d.mode = 7)) ∧
    (∃ (s : State) (num : Fin 64) (u : Sub) (x : Desc), (s.cmd.dict.subs.find? fun u => u.via == .hatch && u.num == num.val) = some u ∧ s.cmd.served 0 = true ∧ let d := s.cmd.upTo (u.sentAt + (if u.period = 0 then 1 else u.period) * 1000000); d.desc u.key = some x ∧ let v := d.wordsAt x u.key; (u.onChange = true → v ≠ u.last)) ∧
    (∃ (s : State) (r : Src) (t t' : Tx), (s.cmd.dict.inflight.find? fun t => t.src == r) = some t ∧ s.cmd.served 0 = true ∧ let d := s.cmd.upTo (t.started + 100000000); let d := if d.served 2 then (d.tapWaits).drain 64 else d; (d.dict.inflight.find? fun t => t.src == r) = some t' ∧ t'.took = none) ∧
    (∃ (s : State) (c : Compl) (rest : List Compl), s.cmd.served 0 = true ∧ s.cmd.dict.finished = c :: rest ∧ s.cmd.ringFill 3 4 < 256) ∧
    (∃ (s : State) (r : Src) (v : Word), s.opens r K.REVOKE_KEY [v.toNat] 3 = true ∧ v.toNat ≤ 3 ∧ let d := s.taken r 2 K.REVOKE_KEY 0 [v.toNat]; ((List.range 4).filter fun k => d.store.keyState.testBit k && !d.store.keyState.testBit (4 + k)) ≠ [v.toNat] ∧ v.toNat ≠ d.store.signer) ∧
    (∃ (s : State) (r : Src), s.opens r K.JTAG_LOCK [1] 3 = true ∧ (s.taken r 2 K.JTAG_LOCK 0 [1]).mode = 2) :=
  ⟨⟨up, rq, 1, ((up.taken rq 11 0 0 []).ask .save 400 2000000 3 ((up.taken rq 11 0 0 []).waitLeft (some rq)) 0).1, by decide +kernel⟩,
   ⟨on (fun d => { d with sump := { d.sump with flashOk := true }, store := { d.store with saving := some (some rq, true, ⟨1, [], [], 0, 0⟩, 1, 5) } }), some rq, true, ⟨1, [], [], 0, 0⟩, 1, 5, by decide +kernel⟩,
   ⟨up, rq, by decide +kernel⟩,
   ⟨on (fun d => d.modDict fun x => { x with subs := [⟨.hatch, 63, K.MODE, true, 1, 0, []⟩] }), 63, ⟨.hatch, 63, K.MODE, true, 1, 0, []⟩, (descOf K.MODE).get (by decide +kernel), by decide +kernel⟩,
   ⟨on (fun d => d.modDict fun x => { x with inflight := [⟨rq, 2, K.MODE, 0, .flash, none, []⟩] }), rq, ⟨rq, 2, K.MODE, 0, .flash, none, []⟩, ⟨rq, 2, K.MODE, 0, .flash, none, []⟩, by decide +kernel⟩,
   ⟨on (fun d => d.modDict fun x => { x with finished := [⟨rq, 2, 0, 0, 1, []⟩] }), ⟨rq, 2, 0, 0, 1, []⟩, [], by decide +kernel⟩,
   ⟨on (fun d => { d with store := { d.store with keyState := 3 } }), rq, 3, by decide +kernel⟩,
   ⟨up, rq, by decide +kernel⟩⟩

/-- The hypotheses of HostAccesses can be met. -/
theorem test_hyps_HostAccesses :
    (∃ s : State, s.cmd.host.linkUp = true ∧ s.cmd.dict.quick.busy = false) ∧
    (∃ s : State, s.cmd.host.linkUp = true ∧ s.cmd.dict.quick.busy = true) ∧
    (∃ (s : State) (a : Nat) (d' : Dev) (v : Nat), s.cmd.host.linkUp = true ∧ a < 0x10000 ∧ s.cmd.bar4Read (0x40000 + a) = (d', v, Stat.done)) ∧
    (∃ (s : State) (a : Nat) (v : BitVec 32) (d' : Dev), s.cmd.host.linkUp = true ∧ a < 0x10000 ∧ v.toNat < 2 ^ 24 ∧ s.cmd.bar4Write (0x40000 + a) v.toNat = (d', Stat.done)) ∧
    (∃ (s : State) (bar : Bar) (ofs n : Nat) (l : List (BitVec 32 × BitVec 4)), s.cmd.host.linkUp = false) :=
  ⟨⟨linked, by decide +kernel⟩,
   ⟨on fun d => { linked.dev with dict := { d.dict with quick := { busy := true } } }, by decide +kernel⟩,
   ⟨linked, 0xFFFF, (linked.cmd.bar4Read 0x4FFFF).1, 0, by decide +kernel⟩,
   ⟨linked, 0xFFFF, 0xFFFFFF, (linked.cmd.bar4Write 0x4FFFF 0xFFFFFF).1, by decide +kernel⟩,
   ⟨up, .bar0, 0, 0, [], by decide +kernel⟩⟩

/-- The hypotheses of MemoryHealth can be met. -/
theorem test_hyps_MemoryHealth :
    (∃ (s : State) (mem : Fin 14) (unit addr : Nat), placesOf mem unit addr ≠ [] ∧ s.cmd.memOn mem unit = true ∧ s.cmd.isPoisoned mem addr (placesOf mem unit addr) = false) ∧
    (∃ (s : State) (mem : Fin 14) (unit addr ms : Nat), placesOf mem unit addr ≠ [] ∧ s.cmd.memOn mem unit = true ∧ ms ≤ 10000) ∧
    (∃ (s : State) (r : Src) (mem : Fin 14), s.opens r (K.ECC_CLEAR mem) [1] 3 = true) :=
  ⟨⟨up, 0, 15, 0xFFFF, by decide +kernel⟩,
   ⟨up, 13, 20, 127, 10000, by decide +kernel⟩,
   ⟨up, rq, 13, by decide +kernel⟩⟩

/-- The hypotheses of AapCommands can be met, part 1. -/
theorem test_hyps_AapCommands_1 :
    (∃ (s : State) (u : Fin 4) (addr : Nat) (l : List Byte) (g : AapIn) (k : Nat), aapIn l = some g ∧ s.cmd.aapTakes u.val addr = true ∧ g.kind = 1 ∧ g.plain = true ∧ g.body.length = 17 ∧ byteAt g.body 0 ≤ 3 ∧ s.cmd.obn K.AAP_SESSIONS < 8 ∧ s.cmd.sessFree = some k) ∧
    (∃ (s : State) (u : Fin 4) (addr : Nat) (l : List Byte) (g : AapIn) (e : AapSess), aapIn l = some g ∧ s.cmd.aapTakes u.val addr = true ∧ g.kind = 3 ∧ g.plain = true ∧ g.body.length = 34 ∧ let k := beNat (g.body.take 2); (s.cmd.dict.sess.find? fun s => s.sess == k && !s.opened && s.up == u.val && s.addr == addr) = some e ∧ s.cmd.now ≤ e.at_ + 1000000000 ∧ s.cmd.proofOf e = some (g.body.drop 2)) ∧
    (∃ (s : State) (u : Fin 4) (addr : Nat) (l : List Byte) (g : AapIn) (e : AapSess), aapIn l = some g ∧ s.cmd.aapTakes u.val addr = true ∧ g.kind = 3 ∧ g.plain = true ∧ g.body.length = 34 ∧ let k := beNat (g.body.take 2); (s.cmd.dict.sess.find? fun s => s.sess == k && !s.opened && s.up == u.val && s.addr == addr) = some e ∧ s.cmd.now ≤ e.at_ + 1000000000 ∧ s.cmd.proofOf e ≠ some (g.body.drop 2)) ∧
    (∃ (s : State) (u : Fin 4) (addr : Nat) (l : List Byte) (g : AapIn) (e : AapSess) (d : Dev), aapIn l = some g ∧ s.cmd.aapTakes u.val addr = true ∧ g.kind = 0x10 ∧ s.cmd.aapJudge g = (d, .fresh e)) ∧
    (∃ (s : State) (u : Fin 4) (addr : Nat) (l : List Byte) (g : AapIn) (e : AapSess) (d : Dev) (stored : List (List Byte)), aapIn l = some g ∧ s.cmd.aapTakes u.val addr = true ∧ g.kind = 0x10 ∧ s.cmd.aapJudge g = (d, .again e stored)) ∧
    (∃ (s : State) (u : Fin 4) (addr : Nat) (l : List Byte) (g : AapIn), aapIn l = some g ∧ s.cmd.aapTakes u.val addr = true ∧ g.kind = 0x10 ∧ g.plain = true ∧ s.cmd.obb K.AAP_OPEN_READ = true) ∧
    (∃ (s : State) (k : Fin 8) (e : AapSess), s.cmd.sessOpen k.val = some e ∧ s.cmd.served 0 = true) ∧
    (∃ (s : State) (addr : Nat) (b : Nat × Nat), (s.cmd.dict.blocked.find? fun b => b.1 == addr) = some b) :=
  ⟨⟨aap [], 3, 9, hello, dgram hello, 0, by decide +kernel⟩,
   ⟨aap [sess9 false], 3, 9, goodProof, dgram goodProof, sess9 false, by decide +kernel⟩,
   ⟨aap [sess9 false], 3, 9, prove (List.replicate 32 0), dgram (prove (List.replicate 32 0)), sess9 false, by decide +kernel⟩,
   ⟨aap [sess9 true], 3, 9, ofSess 0x10, dgram (ofSess 0x10), sess9 true, ((aap [sess9 true]).cmd.aapJudge (dgram (ofSess 0x10))).1, by decide +kernel⟩,
   ⟨aap [{ sess9 true with rx := [(1, [], [])] }], 3, 9, ofSess 0x10, dgram (ofSess 0x10), { sess9 true with rx := [(1, [], [])] }, ((aap [{ sess9 true with rx := [(1, [], [])] }]).cmd.aapJudge (dgram (ofSess 0x10))).1, [], by decide +kernel⟩,
   ⟨aap [], 3, 9, openRead, dgram openRead, by decide +kernel⟩,
   ⟨aap [sess9 true], 7, sess9 true, by decide +kernel⟩,
   ⟨on (fun d => d.modDict fun x => { x with blocked := [(9, 5)] }), 9, (9, 5), by decide +kernel⟩⟩

/-- The hypotheses of AapCommands can be met, part 2. -/
theorem test_hyps_AapCommands_2 :
    ∃ (s : State) (u : Fin 4) (addr : Nat) (l : List Byte) (g : AapIn) (e : AapSess) (d : Dev), aapIn l = some g ∧ s.cmd.aapTakes u.val addr = true ∧ g.kind = 0x13 ∧ s.cmd.aapJudge g = (d, .fresh e) :=
  ⟨aap [sess9 true], 3, 9, ofSess 0x13, dgram (ofSess 0x13), sess9 true, ((aap [sess9 true]).cmd.aapJudge (dgram (ofSess 0x13))).1, by decide +kernel⟩

/-- The hypotheses of CounterClears can be met, part 1. -/
theorem test_hyps_CounterClears_1 :
    (∃ (s : State) (r : Src) (p : Fin 96), s.opens r (K.PORT_CNT_CLEAR p) [1] 1 = true) ∧
    (∃ (s : State) (r : Src) (p : Fin 96), s.opens r (K.MAC_CNT_CLEAR p) [1] 1 = true) ∧
    (∃ (s : State) (r : Src) (u : Fin 4), s.opens r (K.UP_CNT_CLEAR u) [1] 1 = true) ∧
    (∃ (s : State) (r : Src) (p : Fin 96), s.opens r (K.BUS_CNT_CLEAR p) [1] 1 = true) ∧
    (∃ (s : State) (r : Src) (ch : Fin 96), s.opens r (K.CH_RUN_CNT_CLEAR ch) [1] 1 = true ∧ (s.taken r 2 (K.CH_RUN_CNT_CLEAR ch) 0 [1]).segHolds ch = false) ∧
    (∃ (s : State) (r : Src) (c : Fin 128), s.opens r (K.CTX_CNT_CLEAR c) [1] 1 = true) ∧
    (∃ (s : State) (r : Src) (m : Fin 2048), s.opens r (K.METER_CLEAR m) [1] 1 = true) ∧
    (∃ (s : State) (r : Src) (q : Fin 1056), s.opens r (K.Q_CNT_CLEAR q) [1] 1 = true) :=
  ⟨⟨up, rq, 95, by decide +kernel⟩,
   ⟨up, rq, 95, by decide +kernel⟩,
   ⟨up, rq, 3, by decide +kernel⟩,
   ⟨up, rq, 95, by decide +kernel⟩,
   ⟨up, rq, 95, by decide +kernel⟩,
   ⟨up, rq, 127, by decide +kernel⟩,
   ⟨up, rq, 2047, by decide +kernel⟩,
   ⟨up, rq, 1055, by decide +kernel⟩⟩

/-- The hypotheses of CounterClears can be met, part 2. -/
theorem test_hyps_CounterClears_2 :
    (∃ (s : State) (r : Src) (q : Fin 1056) (v : Word), s.opens r (K.Q_PEAK q) [v.toNat] 1 = true) ∧
    (∃ (s : State) (r : Src) (v : Word), s.opens r K.FREE_MIN [v.toNat] 1 = true) ∧
    (∃ (s : State) (r : Src) (reg : Fin 1024), s.opens r (K.REG_CNT_CLEAR reg) [1] 1 = true) ∧
    (∃ (s : State) (r : Src), s.opens r K.CELLAR_CNT_CLEAR [1] 1 = true) ∧
    (∃ (s : State) (r : Src) (n : Fin 8), n ≠ 0 ∧ s.opens r (K.TB_CNT_CLEAR n) [1] 1 = true) ∧
    (∃ (s : State) (r : Src) (g : Fin 96), s.opens r (K.SEG_CNT_CLEAR g) [1] 1 = true) ∧
    (∃ (s : State) (r : Src) (a : Fin 4096), s.opens r (K.AX_CNT_CLEAR a) [1] 1 = true) :=
  ⟨⟨up, rq, 1055, 0, by decide +kernel⟩,
   ⟨up, rq, 0, by decide +kernel⟩,
   ⟨up, rq, 1023, by decide +kernel⟩,
   ⟨up, rq, by decide +kernel⟩,
   ⟨up, rq, 7, by decide +kernel⟩,
   ⟨up, rq, 95, by decide +kernel⟩,
   ⟨up, rq, 4095, by decide +kernel⟩⟩

/-- The hypotheses of PortWrites can be met, part 1. -/
theorem test_hyps_PortWrites_1 :
    (∃ (s : State) (r : Src) (p : Fin 96) (v : Word), s.opens r (K.PORT_MODE p) [v.toNat] 1 = true ∧ v.toNat ≤ 7 ∧ let d := s.taken r 2 (K.PORT_MODE p) 0 [v.toNat]; 128 ≤ d.obn (K.P_ROLE_CONTEXT p) ∧ (d.port p).req = none ∧ v.toNat = d.portMode p) ∧
    (∃ (s : State) (r : Src) (p : Fin 96) (v : Word), s.opens r (K.PORT_MODE p) [v.toNat] 1 = true ∧ v.toNat ≤ 7 ∧ let d := s.taken r 2 (K.PORT_MODE p) 0 [v.toNat]; 128 ≤ d.obn (K.P_ROLE_CONTEXT p) ∧ (d.port p).req = none ∧ v.toNat ≠ d.portMode p ∧ (d.portState p = 5 ∨ d.tileRuns (p.val / 24) = false)) ∧
    (∃ (s : State) (r : Src) (p : Fin 96) (v : Word), s.opens r (K.PORT_MODE p) [v.toNat] 1 = true ∧ v.toNat ≤ 7 ∧ let d := s.taken r 2 (K.PORT_MODE p) 0 [v.toNat]; 128 ≤ d.obn (K.P_ROLE_CONTEXT p) ∧ (d.port p).req = none ∧ v.toNat = 0 ∧ d.portMode p ≠ 0 ∧ d.portState p ≠ 4 ∧ d.portState p ≠ 5 ∧ d.tileRuns (p.val / 24) = true) ∧
    (∃ (s : State) (r : Src) (p : Fin 96), s.opens r (K.PORT_ADMIN p) [0] 1 = true ∧ let d := (s.taken r 2 (K.PORT_ADMIN p) 0 [0]).cancelReq p; d.portState p ≠ 4) ∧
    (∃ (s : State) (r : Src) (p : Fin 96), s.opens r (K.PORT_ADMIN p) [1] 1 = true ∧ let d := s.taken r 2 (K.PORT_ADMIN p) 0 [1]; (d.port p).req = none ∧ (d.portState p = 1 ∨ d.portState p = 2 ∨ d.portState p = 3)) ∧
    (∃ (s : State) (r : Src) (p : Fin 96) (n : Nat) (d' : Dev), s.opens r (K.PORT_ADMIN p) [1] 1 = true ∧ let d := s.taken r 2 (K.PORT_ADMIN p) 0 [1]; (d.port p).req = none ∧ (d.portState p = 0 ∨ d.portState p = 5) ∧ d.tileRuns (p.val / 24) = true ∧ d.portMode p ≠ 0 ∧ d.resNeed p (d.portMode p) ≠ 0 ∧ (d.port p).res = 0 ∧ d.ask (.port p) (d.resNeed p (d.portMode p)) 0xFFFFFF (d.obn (K.PORT_TAP_PRIO p)) 50 0 = (d', .granted n)) ∧
    (∃ (s : State) (r : Src) (p : Fin 96), s.opens r (K.PORT_ADMIN p) [2] 1 = true ∧ let d := (s.taken r 2 (K.PORT_ADMIN p) 0 [2]).cancelReq p; d.portState p ≠ 4 ∧ d.portState p ≠ 5) ∧
    (∃ (s : State) (p : Fin 96) (q : PortReq) (a : Option Nat), (s.cmd.port p).req = some q ∧ q.answer = some a) :=
  ⟨⟨on (port95 7 1), rq, 95, 7, by decide +kernel⟩,
   ⟨on (put [(K.PORT_MODE 95, 1)]), rq, 95, 7, by decide +kernel⟩,
   ⟨on (port95 1 2), rq, 95, 0, by decide +kernel⟩,
   ⟨on (port95 1 2), rq, 95, by decide +kernel⟩,
   ⟨on (port95 1 3), rq, 95, by decide +kernel⟩,
   ⟨on (port95 1 0), rq, 95, 1, (((on (port95 1 0)).taken rq 2 (K.PORT_ADMIN 95) 0 [1]).ask (.port 95) 150 0xFFFFFF (upDev.obn (K.PORT_TAP_PRIO 95)) 50 0).1, by decide +kernel⟩,
   ⟨on (port95 1 2), rq, 95, by decide +kernel⟩,
   ⟨port95With 1 0 (fun x => { x with req := some ⟨none, 1, false, some none⟩ }), 95, ⟨none, 1, false, some none⟩, none, by decide +kernel⟩⟩

/-- The hypotheses of PortWrites can be met, part 2. -/
theorem test_hyps_PortWrites_2 :
    (∃ (s : State) (r : Src) (p : Fin 96) (v : Word), s.opens r (K.P_RECAL p) [v.toNat] 1 = true ∧ v.toNat = 1 ∧ let d := s.taken r 2 (K.P_RECAL p) 0 [v.toNat]; (d.portState p = 1 ∨ d.portState p = 2 ∨ d.portState p = 3) ∧ d.sweepsPort p = false ∧ d.calBusy (p.val / 24) = false) ∧
    (∃ (s : State) (r : Src) (p q : Fin 96) (v : Word), s.opens r (K.P_ROLE_MOVE p) [v.toNat] 1 = true ∧ v.toNat = q.val + 256 ∧ p ≠ q ∧ let d := s.taken r 2 (K.P_ROLE_MOVE p) 0 [v.toNat]; d.obn (K.P_ROLE_CONTEXT p) < 128 ∧ 128 ≤ d.obn (K.P_ROLE_CONTEXT q) ∧ d.portMode q = d.portMode p ∧ d.movesTo q = [] ∧ d.portState q ≠ 5 ∧ d.tileRuns (q.val / 24) = true ∧ d.rolePending p = none ∧ d.portMode p < 4 ∧ (d.reEntries (d.obn (K.P_ROLE_CONTEXT p)) (moveEntry p q)).isSome = true) ∧
    (∃ (s : State) (r : Src) (p : Fin 96), s.opens r (K.P_ROLE_MOVE p) [0x7F] 1 = true ∧ let d := s.taken r 2 (K.P_ROLE_MOVE p) 0 [0x7F]; d.obn (K.P_ROLE_CONTEXT p) < 128 ∧ (d.rolePending p).isSome = true) :=
  ⟨⟨on (port95 1 2), rq, 95, 1, by decide +kernel⟩,
   ⟨on (fun d => put [(K.P_ROLE_CONTEXT 95, 127), (K.PORT_MODE 94, 1)] (port95 1 2 d)), rq, 95, 94, 350, by decide +kernel⟩,
   ⟨on (put [(K.P_ROLE_CONTEXT 95, 127), (K.P_ROLE_PENDING 95, 94)]), rq, 95, by decide +kernel⟩⟩

/-- The hypotheses of PortOptions can be met. -/
theorem test_hyps_PortOptions :
    ∃ (s : State) (r : Src) (p : Fin 96) (opt : Fin 9) (v : Word), s.opens r (K.P_ETX_AN p + opt) [v.toNat] 1 = true ∧ v.toNat ≤ [1, 2, 1, 3, 1, 3, 2, 2, 3].getD opt.val 0 ∧ (opt.val = 8 → v.toNat = 1 ∨ v.toNat = 3) :=
  ⟨up, rq, 95, 8, 3, by decide +kernel⟩

/-- The hypotheses of PortEvents can be met, part 1. -/
theorem test_hyps_PortEvents_1 :
    (∃ (s : State) (p : Fin 96), s.cmd.portState p = 1 ∧ s.cmd.hasFlag p 5 = false) ∧
    (∃ (s : State) (p : Fin 96) (par cr : Bool), s.cmd.portState p = 1 ∧ s.cmd.portMode p ≠ 0 ∧ s.cmd.portMode p ≠ 1 ∧ s.cmd.portMode p ≠ 3 ∧ s.cmd.sump.hardHold = false ∧ let held := (s.cmd.portMode p == 4 || s.cmd.portMode p == 5) && (s.cmd.port p).idleQuiet; held = false) ∧
    (∃ (s : State) (p : Fin 96) (cr : Bool), s.cmd.portState p = 1 ∧ s.cmd.portMode p = 1 ∧ s.cmd.sump.hardHold = false ∧ let d := s.cmd.upTo (s.cmd.port p).since; let d := (d.portFlag p 2 (d.obn (K.P_MDIX p) == 2 || (d.obn (K.P_MDIX p) == 0 && cr))).portFlag p 3 false; d.portMode p ≠ 3) ∧
    (∃ (s : State) (p : Fin 96), s.cmd.portUp p = true) ∧
    (∃ (s : State) (p : Fin 96), s.cmd.portState p = 3 ∧ let x := s.cmd.port p; let d := s.cmd.upTo (x.winAt + 1000000000); let good := if x.since ≤ x.winAt ∧ x.winErr ≤ s.cmd.obn (K.P_DEG_LIMIT p) then x.goodWins + 1 else 0; let d := d.modPort p fun x => { x with winErr := 0, goodWins := good, winAt := x.winAt + 1000000000 }; (good < 5 ∨ d.degrades p = true)) ∧
    (∃ (s : State) (p : Fin 96), s.cmd.portState p = 1 ∧ s.cmd.portMode p = 1 ∧ s.cmd.obb (K.P_ETX_AN p) = true) ∧
    (∃ (s : State) (p : Fin 96) (b : BitVec 2), s.cmd.portState p = 1 ∧ s.cmd.portMode p = 2 ∧ s.cmd.obn (K.P_T1L_LEVEL p) = 1 ∧ (s.cmd.port p).res ≠ 0 ∧ s.cmd.obb (K.P_T1L_AN p) = false) ∧
    (∃ (s : State) (p : Fin 96) (b : BitVec 2), s.cmd.portState p = 1 ∧ s.cmd.portMode p = 2 ∧ s.cmd.obn (K.P_T1L_LEVEL p) = 0 ∧ s.cmd.obb (K.P_T1L_AN p) = true) :=
  ⟨⟨on (port95 1 1), 95, by decide +kernel⟩,
   ⟨on (port95 7 1), 95, true, true, by decide +kernel⟩,
   ⟨on (port95 1 1), 95, true, by decide +kernel⟩,
   ⟨on (port95 1 3), 95, by decide +kernel⟩,
   ⟨port95With 1 3 (fun x => { x with since := 1 }), 95, by decide +kernel⟩,
   ⟨on (fun d => put [(K.P_ETX_AN 95, 1)] (port95 1 1 d)), 95, by decide +kernel⟩,
   ⟨on (fun d => (put [(K.P_T1L_LEVEL 95, 1), (K.P_T1L_AN 95, 0)] (port95 2 1 d)).modPort 95 fun x => { x with res := 1 }), 95, 3, by decide +kernel⟩,
   ⟨on (fun d => put [(K.P_T1L_LEVEL 95, 0), (K.P_T1L_AN 95, 1)] (port95 2 1 d)), 95, 3, by decide +kernel⟩⟩

/-- The hypotheses of PortEvents can be met, part 2. -/
theorem test_hyps_PortEvents_2 :
    (∃ (s : State) (p : Fin 96), s.cmd.portMode p = 3 ∧ s.cmd.obb (K.P_POL_AUTO p) = true ∧ s.cmd.portState p = 1 ∧ let d := ((s.cmd.portFlag p 0 true).bump (K.P_POL_EVENTS p)).logE 0x2110 p; d.portUp p = false) ∧
    (∃ (s : State) (p : Fin 96) (mv : Int), (s.cmd.portMode p = 4 ∨ s.cmd.portMode p = 5) ∧ (s.cmd.portState p = 1 ∨ s.cmd.portState p = 2 ∨ s.cmd.portState p = 3) ∧ 200 < mv) ∧
    (∃ (s : State) (p : Fin 96) (mv : Int), (s.cmd.portMode p = 4 ∨ s.cmd.portMode p = 5) ∧ (s.cmd.portState p = 1 ∨ s.cmd.portState p = 2 ∨ s.cmd.portState p = 3) ∧ -200 ≤ mv ∧ mv ≤ 200) ∧
    (∃ (s : State) (p : Fin 96) (mv : Int), (s.cmd.portMode p = 4 ∨ s.cmd.portMode p = 5) ∧ (s.cmd.portState p = 1 ∨ s.cmd.portState p = 2 ∨ s.cmd.portState p = 3) ∧ mv < -200 ∧ s.cmd.portMode p = 4 ∧ s.cmd.obb (K.P_POL_AUTO p) = true) ∧
    (∃ (s : State) (p : Fin 96) (mv : Int), (s.cmd.portMode p = 4 ∨ s.cmd.portMode p = 5) ∧ (s.cmd.portState p = 1 ∨ s.cmd.portState p = 2 ∨ s.cmd.portState p = 3) ∧ mv < -200 ∧ s.cmd.portMode p = 5 ∧ s.cmd.hasFlag p 7 = false) ∧
    (∃ (s : State) (p : Fin 96) (q : Int), s.cmd.portUp p = true ∧ s.cmd.portMode p = 2) ∧
    (∃ (s : State) (p : Fin 96) (t : Nat), (s.cmd.port p).recalEnds = some t ∧ let d := ((s.cmd.upTo t).modPort p fun x => { x with recalEnds := none }).portFlag p 6 false; d.portMode p ≠ 3 ∧ (d.tile (p.val / 24)).calPort ≠ some p.val) :=
  ⟨⟨on (fun d => put [(K.P_POL_AUTO 95, 1)] (port95 3 1 d)), 95, by decide +kernel⟩,
   ⟨on (port95 4 1), 95, 201, by decide +kernel⟩,
   ⟨on (port95 5 3), 95, -200, by decide +kernel⟩,
   ⟨on (fun d => put [(K.P_POL_AUTO 95, 1)] (port95 4 1 d)), 95, -201, by decide +kernel⟩,
   ⟨on (port95 5 1), 95, -201, by decide +kernel⟩,
   ⟨on (port95 2 3), 95, -199, by decide +kernel⟩,
   ⟨port95With 2 2 (fun x => { x with recalEnds := some 5 }), 95, 5, by decide +kernel⟩⟩

/-- Conditions that the clauses of `PortEvents` ask for can hold together. -/
theorem test_hyps_PortEvents_3 :
    (∃ (s : State) (p : Fin 96), s.cmd.portState p = 3 ∧ let x := s.cmd.port p; let d := s.cmd.upTo (x.winAt + 1000000000); let good := if x.since ≤ x.winAt ∧ x.winErr ≤ s.cmd.obn (K.P_DEG_LIMIT p) then x.goodWins + 1 else 0; let d := d.modPort p fun x => { x with winErr := 0, goodWins := good, winAt := x.winAt + 1000000000 }; 5 ≤ good ∧ d.degrades p = false) ∧
    (∃ (s : State) (p : Fin 96) (q : Int), s.cmd.portUp p = true ∧ s.cmd.portMode p = 6 ∧ s.cmd.obn (K.P_ENC_INPUT p) = 0) ∧
    (∃ (s : State) (c : Fin 20) (p : Fin 96) (v : Word), s.cmd.coreRuns c = true ∧ let n := v.toNat % 256; s.cmd.boundCore p = some c.val ∧ 4 ≤ s.cmd.portMode p) ∧
    (∃ (s : State) (c : Fin 20) (p : Fin 96) (v : Word), s.cmd.coreRuns c = true ∧ let n := v.toNat % 256; (s.cmd.boundCore p ≠ some c.val ∨ s.cmd.portMode p < 4)) ∧
    (∃ (s : State) (p : Fin 96) (par cr : Bool), s.cmd.portState p = 1 ∧ s.cmd.portMode p ≠ 0 ∧ s.cmd.portMode p ≠ 1 ∧ s.cmd.portMode p ≠ 3 ∧ s.cmd.sump.hardHold = false ∧ let held := (s.cmd.portMode p == 4 || s.cmd.portMode p == 5) && (s.cmd.port p).idleQuiet; held = true) :=
  ⟨⟨port95With 1 3 (fun x => { x with goodWins := 4 }), 95, by decide +kernel⟩,
   ⟨on (port95 6 2), 95, 199, by decide +kernel⟩,
   ⟨on (fun d => put [(K.P_ROLE_CONTEXT 95, 127)] (port95 7 2 (ctx127 2 15 id).dev)), 15, 95, 0xFFFFFF, by decide +kernel⟩,
   ⟨up, 19, 95, 0xFFFFFF, by decide +kernel⟩,
   ⟨port95With 5 1 (fun x => { x with idleQuiet := true }), 95, true, true, by decide +kernel⟩⟩

/-- The hypotheses of TileCommands can be met. -/
theorem test_hyps_TileCommands :
    (∃ (s : State) (t : Fin 4), s.cmd.obn (K.TILE_STATE t) = 2) ∧
    (∃ (s : State) (r : Src) (t : Fin 4) (d' : Dev) (n : Nat), s.opens r (K.TILE_CMD t) [1] 1 = true ∧ let d := s.taken r 2 (K.TILE_CMD t) 0 [1]; d.obn (K.TILE_STATE t) ≠ 1 ∧ (d.tile t).calPort = none ∧ (d.tile t).asked = false ∧ d.obb (K.TILE_USE t) = true ∧ d.tileKept t = false ∧ (d.modTile t fun x => { x with auto := false, askSrc := some r }).ask (.tileStart t) 2500 50000 5 (d.waitLeft (some r)) 0 = (d', .granted n)) ∧
    (∃ (s : State) (t : Fin 4) (n : Nat), (s.cmd.tile t).startPermit = some (some n) ∧ s.cmd.tileKept t = false) ∧
    (∃ (s : State) (t : Fin 4) (e : Nat), (s.cmd.tile t).startEnds = some e ∧ let x := s.cmd.tile t; let d := ((s.cmd.modTile t fun x => { x with startEnds := none, permit := 0 }).release x.permit).setOb (K.TILE_STATE t) 2; let d := ((d.tileMeasured t).modTile t fun x => { x with fails := 0, autoLeft := 0, autoAt := none }).logE 0x2C01 t; (∃ u : Fin 4, d.obn (K.TILE_STATE u) = 3)) ∧
    (∃ (s : State) (t : Fin 4) (e : Nat), (s.cmd.tile t).autoAt = some e ∧ s.cmd.obn (K.TILE_STATE t) = 3 ∧ (s.cmd.tile t).asked = false ∧ s.cmd.obb (K.TILE_AUTO_RESTART t) = true ∧ (s.cmd.upTo e).tileKept t = false) ∧
    (∃ (s : State) (r : Src) (t : Fin 4) (d' : Dev) (n : Nat), s.opens r (K.TILE_CMD t) [2] 1 = true ∧ let d := s.taken r 2 (K.TILE_CMD t) 0 [2]; d.obn (K.TILE_STATE t) = 2 ∧ (d.tile t).asked = false ∧ d.calBusy t = false ∧ d.ask (.tileCal t) 2500 50000 5 (d.waitLeft (some r)) 0 = (d', .granted n)) ∧
    (∃ (s : State) (r : Src) (t : Fin 4), s.opens r (K.TILE_USE t) [0] 2 = true ∧ let d := s.taken r 2 (K.TILE_USE t) 0 [0]; d.mode = 2 ∧ (∀ p ∈ tilePorts t, 128 ≤ d.obn (K.P_ROLE_CONTEXT p))) ∧
    (∃ (s : State) (r : Src) (t : Fin 4), s.opens r (K.TILE_USE t) [1] 2 = true ∧ (s.taken r 2 (K.TILE_USE t) 0 [1]).mode = 2) ∧
    (∃ (s : State) (t : Fin 4) (e : Nat), (s.cmd.tile t).startEnds = some e) :=
  ⟨⟨tile3 2 id, 3, by decide +kernel⟩,
   ⟨up, rq, 3, (tileAsk (up.taken rq 2 (K.TILE_CMD 3) 0 [1])).1, 1, by decide +kernel⟩,
   ⟨tile3 1 (fun x => { x with startPermit := some (some 1) }), 3, 1, by decide +kernel⟩,
   ⟨on (fun d => (put [(K.TILE_STATE 2, 3), (K.TILE_STATE 3, 1)] d).modTile 3 fun x => { x with startEnds := some 5 }), 3, 5, by decide +kernel⟩,
   ⟨on (fun d => (put [(K.TILE_STATE 3, 3), (K.TILE_AUTO_RESTART 3, 1)] d).modTile 3 fun x => { x with autoAt := some 5 }), 3, 5, by decide +kernel⟩,
   ⟨tile3 2 id, rq, 3, (calAsk ((tile3 2 id).taken rq 2 (K.TILE_CMD 3) 0 [2])).1, 1, by decide +kernel⟩,
   ⟨up, rq, 3, by decide +kernel⟩,
   ⟨up, rq, 3, by decide +kernel⟩,
   ⟨tile3 1 (fun x => { x with startEnds := some 5 }), 3, 5, by decide +kernel⟩⟩

/-- The hypotheses of LineFaults can be met, part 1. -/
theorem test_hyps_LineFaults_1 :
    (∃ (s : State) (p : Fin 96) (pin : Fin 5) (cv : Int), s.cmd.pinUsed p pin = true ∧ (s.cmd.portState p = 1 ∨ s.cmd.portState p = 2 ∨ s.cmd.portState p = 3) ∧ s.cmd.pinOut p cv = true) ∧
    (∃ (s : State) (p : Fin 96) (t n : Nat) (d' : Dev), (s.cmd.port p).retry = .delay t ∧ s.cmd.portState p = 4 ∧ (s.cmd.upTo t).ask (.retry p) 250 5000 1 100 0 = (d', .granted n)) ∧
    (∃ (s : State) (p : Fin 96), (s.cmd.port p).retry = .answered none) ∧
    (∃ (s : State) (p : Fin 96) (n : Nat) (cv : Vector Int 5), (s.cmd.port p).retry = .answered (some n) ∧ (∀ i : Fin 5, s.cmd.pinUsed p i = true → s.cmd.pinOut p cv[i] = false)) ∧
    (∃ (s : State) (p : Fin 96) (n t : Nat), (s.cmd.port p).retry = .window n t) ∧
    (∃ (s : State) (p : Fin 96), s.cmd.portUp p = true) ∧
    (∃ (s : State) (r : Src) (p : Fin 96) (d' : Dev) (n : Nat), s.opens r (K.P_TDR_START p) [1] 1 = true ∧ let d := s.taken r 2 (K.P_TDR_START p) 0 [1]; d.tdrStatus p = Stat.done ∧ d.ask (.tdr p) 900 20000 (d.obn (K.P_TDR_PRIO p)) (d.waitLeft (some r)) 0 = (d', .granted n) ∧ (d'.tile (p.val / 24)).sweep = none ∧ (d'.port p).recalEnds = none) ∧
    (∃ (s : State) (p : Fin 96) (w : Sweep), (s.cmd.tile (p.val / 24)).sweep = some w ∧ w.port = p.val ∧ w.acquiring = true) :=
  ⟨⟨on (port95 7 1), 95, 4, 3601, by decide +kernel⟩,
   ⟨port95With 1 4 (fun x => { x with retry := .delay 5 }), 95, 5, 1, (((port95With 1 4 fun x => { x with retry := .delay 5 }).cmd.upTo 5).ask (.retry 95) 250 5000 1 100 0).1, by decide +kernel⟩,
   ⟨port95With 1 4 (fun x => { x with retry := .answered none }), 95, by decide +kernel⟩,
   ⟨port95With 7 4 (fun x => { x with retry := .answered (some 1) }), 95, 1, Vector.replicate 5 2400, by decide +kernel⟩,
   ⟨port95With 1 4 (fun x => { x with retry := .window 1 5 }), 95, 1, 5, by decide +kernel⟩,
   ⟨on (port95 1 3), 95, by decide +kernel⟩,
   ⟨on (port95 1 0), rq, 95, (tdrAsk ((on (port95 1 0)).taken rq 2 (K.P_TDR_START 95) 0 [1])).1, 1, by decide +kernel⟩,
   ⟨tile3 2 (fun x => { x with sweep := some ⟨95, 1, true, 15, 5⟩ }), 95, ⟨95, 1, true, 15, 5⟩, by decide +kernel⟩⟩

/-- The hypotheses of LineFaults can be met, part 2. -/
theorem test_hyps_LineFaults_2 :
    (∃ (s : State) (p : Fin 96) (y : List (List Word)), 4 < y.length) ∧
    (∃ (s : State) (p : Fin 96) (y : List (List Word)) (w : Sweep), y.length ≤ 4 ∧ (s.cmd.tile (p.val / 24)).sweep = some w ∧ w.port = p.val ∧ w.acquiring = false) ∧
    (∃ (s : State) (p : Fin 96) (pin : Fin 5) (cv : Int), s.cmd.pinUsed p pin = true ∧ (s.cmd.portState p = 1 ∨ s.cmd.portState p = 2 ∨ s.cmd.portState p = 3) ∧ s.cmd.pinOut p cv = false) ∧
    (∃ (s : State) (p : Fin 96) (pin : Fin 5) (cv : Int), s.cmd.pinUsed p pin = true ∧ s.cmd.pinOut p cv = true ∧ (s.cmd.portState p = 4 ∨ s.cmd.portState p = 5) ∧ (∀ n t, (s.cmd.port p).retry ≠ .window n t) ∧ (s.cmd.port p).overAt = some s.cmd.now) ∧
    (∃ (s : State) (p : Fin 96) (n : Nat) (cv : Vector Int 5), (s.cmd.port p).retry = .answered (some n) ∧ (∃ i : Fin 5, s.cmd.pinUsed p i = true ∧ s.cmd.pinOut p cv[i] = true)) :=
  ⟨⟨up, 95, List.replicate 5 [], by decide +kernel⟩,
   ⟨tile3 2 (fun x => { x with sweep := some ⟨95, 1, false, 15, 5⟩ }), 95, List.replicate 4 [], ⟨95, 1, false, 15, 5⟩, by decide +kernel⟩,
   ⟨on (port95 7 1), 95, 4, 2400, by decide +kernel⟩,
   ⟨port95With 7 5 (fun x => { x with overAt := some 0 }), 95, 4, 3601, by decide +kernel, by decide +kernel, by decide +kernel, nofun, by decide +kernel⟩,
   ⟨port95With 7 4 (fun x => { x with retry := .answered (some 1) }), 95, 1, (Vector.replicate 5 2400).set 4 3601, by decide +kernel⟩⟩

/-- The hypotheses of InputCommands can be met, part 1. -/
theorem test_hyps_InputCommands_1 :
    (∃ (s : State) (p : Fin 96) (cv : Vector Int 5), s.cmd.portMode p = 7 ∧ (s.cmd.portState p = 1 ∨ s.cmd.portState p = 2 ∨ s.cmd.portState p = 3)) ∧
    (∃ (s : State) (p : Fin 96) (i : Fin 5), s.cmd.obn (K.P_STUCK_T p i) ≠ 0 ∧ (s.cmd.dinIn p i).filt = true ∧ (s.cmd.dinIn p i).stuck = false ∧ s.cmd.dinOn p = true) ∧
    (∃ (s : State) (p : Fin 96) (i : Fin 5) (cv : Int), s.cmd.portMode p = 7 ∧ (s.cmd.portState p = 1 ∨ s.cmd.portState p = 2 ∨ s.cmd.portState p = 3) ∧ (s.cmd.obn (K.P_WB_ENABLE p)).testBit i = true ∧ (s.cmd.tile (p.val / 24)).vtfPresent = true ∧ 10 * s.cmd.ob (K.TILE_VTF (p.val / 24)) ≤ cv + 200 ∧ (s.cmd.dinIn p i).wbOpen = 9 ∧ (s.cmd.dinIn p i).wirebreak = false) ∧
    (∃ (s : State) (t : Fin 4) (dv : Nat), (s.cmd.tile t).vtfPresent = true ∧ s.cmd.tileRuns t = true ∧ let d := s.cmd.setOb (K.TILE_VTF t) (dv : Nat); dv < d.obn (K.TILE_VTF_LOW_LIMIT t) ∧ d.obb (K.TILE_SUPPLY_LOW t) = false) ∧
    (∃ (s : State) (t : Fin 4) (dv : Nat), (s.cmd.tile t).vtfPresent = true ∧ s.cmd.tileRuns t = true ∧ let d := s.cmd.setOb (K.TILE_VTF t) (dv : Nat); d.obn (K.TILE_VTF_LOW_LIMIT t) + 5 < dv) ∧
    (∃ (s : State) (t : Fin 4) (dv : Nat), (s.cmd.tile t).vtfPresent = true ∧ s.cmd.tileRuns t = true ∧ let d := s.cmd.setOb (K.TILE_VTF t) (dv : Nat); d.obn (K.TILE_VTF_LOW_LIMIT t) ≤ dv ∧ dv ≤ d.obn (K.TILE_VTF_LOW_LIMIT t) + 5) ∧
    (∃ (s : State) (r : Src) (p : Fin 96) (v : Word), s.opens r (K.P_EDGE_CLEAR p) [v.toNat] 1 = true ∧ v.toNat < 32) ∧
    (∃ (s : State) (p : Fin 96) (cva cvb : Int) (held : Nat), s.cmd.encTaken p held = true ∧ s.cmd.obn (K.P_POL_SWAP p) = 0 ∧ let x := s.cmd.port p; let a := s.cmd.encLevel p cva x.encA; let b := s.cmd.encLevel p cvb x.encB; (a, b) = (x.encA, x.encB)) :=
  ⟨⟨on (port95 7 1), 95, Vector.replicate 5 2400, by decide +kernel⟩,
   ⟨on (fun d => (put [(K.P_STUCK_T 95 4, 1)] (port95 7 2 d)).modPort 95 fun x => { x with din := List.replicate 5 { filt := true } }), 95, 4, by decide +kernel⟩,
   ⟨on (fun d => ((put [(K.P_WB_ENABLE 95, 31)] (port95 7 2 d)).modPort 95 fun x => { x with din := List.replicate 5 { wbOpen := 9 } }).modTile 3 fun x => { x with vtfPresent := true }), 95, 4, -200, by decide +kernel⟩,
   ⟨tile3 2 (fun x => { x with vtfPresent := true }), 3, 179, by decide +kernel⟩,
   ⟨tile3 2 (fun x => { x with vtfPresent := true }), 3, 186, by decide +kernel⟩,
   ⟨tile3 2 (fun x => { x with vtfPresent := true }), 3, 185, by decide +kernel⟩,
   ⟨up, rq, 95, 31, by decide +kernel⟩,
   ⟨on (port95 6 2), 95, -21, -21, 1000, by decide +kernel⟩⟩

/-- The hypotheses of InputCommands can be met, part 2. -/
theorem test_hyps_InputCommands_2 :
    (∃ (s : State) (p : Fin 96) (cva cvb : Int) (held : Nat), s.cmd.encTaken p held = true ∧ s.cmd.obn (K.P_POL_SWAP p) = 0 ∧ let x := s.cmd.port p; let a := s.cmd.encLevel p cva x.encA; let b := s.cmd.encLevel p cvb x.encB; (a, b) = (!x.encB, x.encA)) ∧
    (∃ (s : State) (p : Fin 96) (cva cvb : Int) (held : Nat), s.cmd.encTaken p held = true ∧ s.cmd.obn (K.P_POL_SWAP p) = 0 ∧ let x := s.cmd.port p; let a := s.cmd.encLevel p cva x.encA; let b := s.cmd.encLevel p cvb x.encB; (a, b) = (x.encB, !x.encA)) ∧
    (∃ (s : State) (p : Fin 96) (cva cvb : Int) (held : Nat), s.cmd.encTaken p held = true ∧ s.cmd.obn (K.P_POL_SWAP p) = 0 ∧ let x := s.cmd.port p; let a := s.cmd.encLevel p cva x.encA; let b := s.cmd.encLevel p cvb x.encB; (a, b) = (!x.encA, !x.encB)) ∧
    (∃ (s : State) (p : Fin 96) (held : Nat), s.cmd.encTaken p held = true) ∧
    (∃ (s : State) (r : Src) (p : Fin 96) (v : BitVec 48), s.opens r (K.P_ENC_PRESET p) (hiLo v) 1 = true) ∧
    (∃ (s : State) (p : Fin 96) (a b : Int) (held : Nat), held < s.cmd.obn (K.P_ENC_FILTER p)) ∧
    (∃ (s : State) (p : Fin 96) (cv : Int) (held : Nat), s.cmd.encTaken p held = true ∧ let v := s.cmd.encIndexLevel p cv (s.cmd.port p).encIdx; v = (s.cmd.port p).encIdx) ∧
    (∃ (s : State) (p : Fin 96) (cv : Int) (held : Nat), s.cmd.encTaken p held = true ∧ let v := s.cmd.encIndexLevel p cv (s.cmd.port p).encIdx; v = false ∧ (s.cmd.port p).encIdx = true) ∧
    (∃ (s : State) (p : Fin 96) (cv : Int) (held : Nat), s.cmd.encTaken p held = true ∧ let v := s.cmd.encIndexLevel p cv (s.cmd.port p).encIdx; v = true ∧ (s.cmd.port p).encIdx = false) ∧
    (∃ (s : State) (p : Fin 96) (i : Fin 5) (cv : Int), s.cmd.portMode p = 7 ∧ (s.cmd.portState p = 1 ∨ s.cmd.portState p = 2 ∨ s.cmd.portState p = 3) ∧ (s.cmd.obn (K.P_WB_ENABLE p)).testBit i = true ∧ (s.cmd.tile (p.val / 24)).vtfPresent = true ∧ cv + 200 < 10 * s.cmd.ob (K.TILE_VTF (p.val / 24))) :=
  ⟨⟨on (port95 6 2), 95, 21, -21, 1000, by decide +kernel⟩,
   ⟨on (port95 6 2), 95, -21, 21, 1000, by decide +kernel⟩,
   ⟨on (port95 6 2), 95, 21, 21, 1000, by decide +kernel⟩,
   ⟨on (port95 6 3), 95, 1000, by decide +kernel⟩,
   ⟨up, rq, 95, 0xFFFFFFFFFFFF, by decide +kernel⟩,
   ⟨on (put [(K.P_ENC_FILTER 95, 1)]), 95, 500, -500, 0, by decide +kernel⟩,
   ⟨on (port95 6 3), 95, -21, 1000, by decide +kernel⟩,
   ⟨port95With 6 3 (fun x => { x with encIdx := true }), 95, -21, 1000, by decide +kernel⟩,
   ⟨on (port95 6 3), 95, 201, 1000, by decide +kernel⟩,
   ⟨on (fun d => ((put [(K.P_WB_ENABLE 95, 31)] (port95 7 2 d)).modPort 95 fun x => { x with din := List.replicate 5 { wbOpen := 9 } }).modTile 3 fun x => { x with vtfPresent := true }), 95, 4, -201, by decide +kernel⟩⟩

/-- The hypotheses of MacCommands can be met, part 1. -/
theorem test_hyps_MacCommands_1 :
    (∃ (s : State) (m : Fin 100) (pre : Nat) (l : List Byte), s.cmd.macRuns m = true ∧ s.cmd.lineBusy m = false ∧ 1 ≤ pre ∧ pre ≤ 7 ∧ 64 ≤ l.length ∧ l.length ≤ 2000 ∧ fcsGood l = true ∧ etherType l ≠ 0x8808 ∧ etherType l ≠ 0x88F7 ∧ (s.cmd.vlanOf m l).2.2 = true ∧ m.val < 96) ∧
    (∃ (s : State) (m : Fin 100) (pre : Nat) (l : List Byte) (e : BitVec 4), s.cmd.macRuns m = true ∧ s.cmd.lineBusy m = false ∧ 1 ≤ pre ∧ pre ≤ 7 ∧ l.length < 64 ∧ e.getLsbD 2 = false ∧ e.getLsbD 3 = false) ∧
    (∃ (s : State) (m : Fin 100) (q : BitVec 16), s.cmd.macRuns m = true ∧ s.cmd.lineBusy m = false ∧ let d := s.cmd.macBump m K.MAC_PAUSE_RX K.UP_PAUSE_RX; d.macOb m K.MAC_PAUSE_MODE K.UP_PAUSE_MODE ≠ 1) ∧
    (∃ (s : State) (m : Fin 100) (q : BitVec 16), s.cmd.macRuns m = true ∧ s.cmd.lineBusy m = false ∧ let d := s.cmd.macBump m K.MAC_PAUSE_RX K.UP_PAUSE_RX; d.macOb m K.MAC_PAUSE_MODE K.UP_PAUSE_MODE = 1 ∧ q ≠ 0) ∧
    (∃ (s : State) (m : Fin 100) (t : Nat), (s.cmd.mac m).paused = some t ∧ (s.cmd.mac m).pauseNext = none) ∧
    (∃ (s : State) (c : Fin 20) (i : Fin 96) (x : TsRec) (l : List TsRec), s.cmd.coreRuns c = true ∧ s.cmd.boundCore i = some c.val ∧ (s.cmd.mac i).fifo = x :: l) ∧
    (∃ (s : State) (r : Src) (u : Fin 4) (v : Word), s.opens r (K.UPLINK_MODE u) [v.toNat] 1 = true ∧ v.toNat ≤ 4) ∧
    (∃ (s : State) (u : Fin 4), s.cmd.obn (K.UPLINK_STATE u) = 1) :=
  ⟨⟨on (port95 1 2), 95, 7, withFcs (List.replicate 60 0), by decide +kernel⟩,
   ⟨on (put [(K.UPLINK_STATE 3, 2)]), 99, 1, List.replicate 63 0, 3, by decide +kernel⟩,
   ⟨on (port95 1 2), 95, 0xFFFF, by decide +kernel⟩,
   ⟨on (put [(K.UPLINK_STATE 3, 2), (K.UP_PAUSE_MODE 3, 1)]), 99, 1, by decide +kernel⟩,
   ⟨on (fun d => { d with macs := [(95, { paused := some 5 })] }), 95, 5, by decide +kernel⟩,
   ⟨on (fun d => { put [(K.P_ROLE_CONTEXT 95, 127), (K.CTX_CORE_NOW 127, 15)] d with macs := [(95, { fifo := [⟨false, 255, 0, 0⟩] })] }), 15, 95, ⟨false, 255, 0, 0⟩, [], by decide +kernel⟩,
   ⟨up, rq, 3, 4, by decide +kernel⟩,
   ⟨on (put [(K.UPLINK_STATE 3, 1)]), 3, by decide +kernel⟩⟩

/-- The hypotheses of MacCommands can be met, part 2. -/
theorem test_hyps_MacCommands_2 :
    (∃ (s : State) (u : Fin 4) (remote : Bool), s.cmd.obn (K.UPLINK_STATE u) = 2 ∧ s.cmd.clause49 (96 + u) = true) ∧
    (∃ (s : State) (u : Fin 4), s.cmd.obn (K.UPLINK_STATE u) = 3) ∧
    (∃ (s : State) (u : Fin 4) (l : List Byte), s.cmd.macRuns (96 + u) = true ∧ s.cmd.forDevice u l = true ∧ s.cmd.service u l = none ∧ (byteAt l 0).testBit 0 = false) ∧
    (∃ (s : State) (r : Src) (u : Fin 4), s.opens r (K.UP_GCL_APPLY u) [1] 1 = true ∧ let d := s.taken r 2 (K.UP_GCL_APPLY u) 0 [1]; let e := d.event; let cycle := e.obn (K.UP_GCL_ADMIN_CYCLE u); let l := d.dom (K.UP_GCL_ADMIN u); gclOk l cycle = true) ∧
    (∃ (s : State) (u : Fin 4) (g : Gcl), (s.cmd.up u).armed = some g) ∧
    (∃ (s : State) (u : Fin 4) (g : Gcl), (s.cmd.up u).oper = some g) :=
  ⟨⟨on (put [(K.UPLINK_STATE 3, 2), (K.UPLINK_MODE 3, 2)]), 3, true, by decide +kernel⟩,
   ⟨on (put [(K.UPLINK_STATE 3, 3)]), 3, by decide +kernel⟩,
   ⟨on (put [(K.UPLINK_STATE 3, 2)]), 3, beBytes 6 (upDev.macAddr 99) ++ List.replicate 58 0, by decide +kernel⟩,
   ⟨on (fun d => { put [(K.UP_GCL_ADMIN_CYCLE 3, 100)] d with blob := [(K.UP_GCL_ADMIN 3, [1, 0, 0, 0, 0, 100])] }), rq, 3, by decide +kernel⟩,
   ⟨on (fun d => { d with ups := [(3, { armed := some ⟨[(1, 100)], 0, 100⟩ })] }), 3, ⟨[(1, 100)], 0, 100⟩, by decide +kernel⟩,
   ⟨on (fun d => { d with ups := [(3, { oper := some ⟨[(1, 100)], 0, 100⟩ })] }), 3, ⟨[(1, 100)], 0, 100⟩, by decide +kernel⟩⟩

/-- The hypotheses of MacCommands can be met, part 3. -/
theorem test_hyps_MacCommands_3 :
    (∃ (s : State) (u : Fin 4), s.cmd.obn (K.UPLINK_STATE u) = 2 ∧ s.cmd.clause49 (96 + u) = false) ∧
    (∃ (s : State) (u : Fin 4) (l : List Byte), s.cmd.macRuns (96 + u) = true ∧ s.cmd.forDevice u l = true ∧ ∃ f, s.cmd.service u l = some (.answer f) ∧ s.cmd.served 0 = true) ∧
    (∃ (s : State) (u : Fin 4) (l : List Byte), s.cmd.macRuns (96 + u) = true ∧ s.cmd.forDevice u l = true ∧ s.cmd.service u l = some .aap ∧ s.cmd.served 0 = true) ∧
    (∃ (s : State) (u : Fin 4) (l : List Byte), s.cmd.macRuns (96 + u) = true ∧ s.cmd.forDevice u l = true ∧ s.cmd.service u l = some .timeKeeper ∧ s.cmd.served 3 = true) :=
  ⟨⟨on (put [(K.UPLINK_STATE 3, 2), (K.UPLINK_MODE 3, 3)]), 3, by decide +kernel⟩,
   ⟨withIp, 3, beBytes 6 (withIp.dev.macAddr 99) ++ List.replicate 6 0 ++ [8, 6, 0, 1, 8, 0, 6, 4, 0, 1] ++ List.replicate 16 0 ++ [10, 0, 0, 9] ++ List.replicate 22 0, by decide +kernel, by decide +kernel, answerOf ((withIp.cmd.service 3 (beBytes 6 (withIp.dev.macAddr 99) ++ List.replicate 6 0 ++ [8, 6, 0, 1, 8, 0, 6, 4, 0, 1] ++ List.replicate 16 0 ++ [10, 0, 0, 9] ++ List.replicate 22 0))), by decide +kernel⟩,
   ⟨withIp, 3, beBytes 6 (withIp.dev.macAddr 99) ++ List.replicate 6 0 ++ [8, 0, 0x45] ++ List.replicate 8 0 ++ [17] ++ List.replicate 6 0 ++ [10, 0, 0, 9, 0, 0] ++ beBytes 2 (upDev.obn K.AAP_PORT) ++ List.replicate 26 0, by decide +kernel⟩,
   ⟨withIp, 3, beBytes 6 (withIp.dev.macAddr 99) ++ List.replicate 6 0 ++ [0x88, 0xF7] ++ List.replicate 50 0, by decide +kernel⟩⟩

/-- The hypotheses of BusCommands can be met, part 1. -/
theorem test_hyps_BusCommands_1 :
    (∃ (s : State) (c : Fin 20) (p : Fin 96) (b : Fin 32), s.cmd.coreRuns c = true ∧ s.cmd.boundCore p = some c.val ∧ s.cmd.domOn (36 + p / 24) = true ∧ s.cmd.portMode p = 3 ∧ s.cmd.fabricFed p b = false) ∧
    (∃ (s : State) (c : Fin 20) (p : Fin 96) (o : Fin 64) (v : Word), s.cmd.coreRuns c = true ∧ s.cmd.boundCore p = some c.val ∧ s.cmd.domOn (36 + p / 24) = true ∧ s.cmd.portMode p = 3 ∧ v.toNat.testBit 0 = true) ∧
    (∃ (s : State) (c : Fin 20) (p : Fin 96) (o : Fin 64), s.cmd.coreRuns c = true ∧ s.cmd.boundCore p = some c.val ∧ s.cmd.domOn (36 + p / 24) = true ∧ s.cmd.portMode p = 3) ∧
    (∃ (s : State) (c : Fin 20) (p : Fin 96) (v : Word), s.cmd.coreRuns c = true ∧ s.cmd.boundCore p = some c.val ∧ s.cmd.domOn (36 + p / 24) = true ∧ s.cmd.portMode p = 3 ∧ v.toNat.testBit 0 = true ∧ s.cmd.obn (K.BUS_STATE p) = 2) ∧
    (∃ (s : State) (r : Src) (p : Fin 96), s.opens r (K.BUS_RECOVER p) [1] 1 = true ∧ let d := s.taken r 2 (K.BUS_RECOVER p) 0 [1]; d.obn (K.BUS_STATE p) = 2) ∧
    (∃ (s : State) (p : Fin 96) (b : Nat), s.cmd.portMode p = 3 ∧ s.cmd.obn (K.BUS_STATE p) ≤ 1 ∧ (s.cmd.bus p).active = none ∧ (s.cmd.bus p).listen = false ∧ s.cmd.sump.hardHold = false ∧ s.cmd.lineBusy p = false ∧ s.cmd.urgent p = some b) ∧
    (∃ (s : State) (p : Fin 96) (b : Nat) (t : Option (BitVec 8)), (s.cmd.bus p).active = some b ∧ (s.cmd.bw p (txBase b)).testBit 21 = false ∧ let d := if s.cmd.obn (K.BUS_STATE p) = 1 then s.cmd.modBus p fun x => { x with suspendEnds := s.cmd.now + s.cmd.bitsNs p 11 } else s.cmd; let d := ((d.onWire p (.busFrame p (d.busSent p b).1 (d.busSent p b).2.1 (d.busSent p b).2.2)).event.setTxState p b 4).bump (K.BUS_TX_FRAMES p); let d := d.bsetAll p (txBase b + 26) (t80Words (d.bus p).sof); let d := ((d.bset p (txBase b + 31) d.seq).setDone p b).twin p b false; (d.bus p).tsTag = []) ∧
    (∃ (s : State) (p : Fin 96) (b : Nat) (t : Option (BitVec 8)) (i : Fin 3), (s.cmd.bus p).active = some b ∧ (s.cmd.bw p (txBase b)).testBit 21 = false) :=
  ⟨⟨bus95 2 0 id, 15, 95, 15, by decide +kernel⟩,
   ⟨bus95 2 0 id, 15, 95, 63, 1, by decide +kernel⟩,
   ⟨bus95 2 0 id, 15, 95, 63, by decide +kernel⟩,
   ⟨bus95 2 2 id, 15, 95, 1, by decide +kernel⟩,
   ⟨bus95 2 2 id, rq, 95, by decide +kernel⟩,
   ⟨bus95 2 1 (fun x => { x with words := [(txBase 31 + 25, 2 ^ 21)] }), 95, 31, by decide +kernel⟩,
   ⟨bus95 2 1 (fun x => { x with active := some 31 }), 95, 31, some 255, by decide +kernel⟩,
   ⟨bus95 2 1 (fun x => { x with active := some 31 }), 95, 31, some 255, 2, by decide +kernel⟩⟩

/-- The hypotheses of BusCommands can be met, part 2. -/
theorem test_hyps_BusCommands_2 :
    (∃ (s : State) (p : Fin 96) (w0 w1 : Word) (data : List Byte) (ago : Nat), s.cmd.portMode p = 3 ∧ s.cmd.obn (K.BUS_STATE p) ≤ 1 ∧ s.cmd.portState p ≠ 1 ∧ s.cmd.lineBusy p = true ∧ w0.toNat.testBit 21 = false) ∧
    (∃ (s : State) (p : Fin 96) (w0 w1 : Word) (data : List Byte) (ago : Nat), s.cmd.portMode p = 3 ∧ s.cmd.obn (K.BUS_STATE p) ≤ 1 ∧ s.cmd.portState p ≠ 1 ∧ s.cmd.lineBusy p = false ∧ w0.toNat.testBit 21 = false ∧ w0.toNat.testBit 23 = true ∧ data.length = dlcBytes w0.toNat ∧ w0.toNat % 2 ^ 15 < 32 ∧ let d := s.cmd.bump (K.BUS_RX_FRAMES p); let rec_ := d.obn (K.BUS_REC p); let d := if (d.bus p).listen then d else if 127 < rec_ then { d.setOb (K.BUS_REC p) (119 + Config.freeNat d.free % 9 : Nat) with free := d.free + 1 } else d.setOb (K.BUS_REC p) (rec_ - 1 : Nat); let e := d.confine p; (∀ o : Fin 64, e.filterHit p o w0.toNat w1.toNat = false)) ∧
    (∃ (s : State) (p : Fin 96) (k : Fin 8), s.cmd.portMode p = 3 ∧ s.cmd.obn (K.BUS_STATE p) ≤ 1 ∧ let d := ((s.cmd.bump (K.BUS_ERRF_RX p)).busErr p).setOb (K.BUS_LAST_ERR p) (k.val : Nat); (d.bus p).listen = true) ∧
    (∃ (s : State) (p : Fin 96) (k : Fin 8), s.cmd.portMode p = 3 ∧ s.cmd.obn (K.BUS_STATE p) ≤ 1 ∧ let d := ((s.cmd.bump (K.BUS_ERRF_RX p)).busErr p).setOb (K.BUS_LAST_ERR p) (k.val : Nat); (d.bus p).listen = false) ∧
    (∃ (s : State) (p : Fin 96), s.cmd.portMode p = 3 ∧ s.cmd.obn (K.BUS_STATE p) ≤ 1 ∧ s.cmd.obb (K.BUS_PEX p) = true) ∧
    (∃ (s : State) (p : Fin 96), s.cmd.portMode p = 3 ∧ s.cmd.obn (K.BUS_STATE p) ≤ 1 ∧ s.cmd.obb (K.BUS_PEX p) = false) ∧
    (∃ (s : State) (p : Fin 96) (b : Nat), s.cmd.portMode p = 3 ∧ s.cmd.obn (K.BUS_STATE p) ≤ 1 ∧ (s.cmd.bus p).listen = false ∧ s.cmd.portUp p = true ∧ s.cmd.lineBusy p = false ∧ ((List.range 32).find? fun b => s.cmd.fabricFed p b && !s.cmd.txBusy p b) = some b) ∧
    (∃ (s : State) (r : Src) (p : Fin 96) (el : Fin 11) (v : Word), s.opens r (K.BUS_FD_MODE p + el) [v.toNat] 1 = true ∧ [0, 1, 2, 1, 1, 0, 1, 1, 1, 0, 0].getD el.val 0 ≤ v.toNat ∧ v.toNat ≤ [1, 256, 256, 128, 128, 32, 32, 16, 16, 1, 127].getD el.val 0 ∧ let d := s.taken r 2 (K.BUS_FD_MODE p + el) 0 [v.toNat]; let e := d.event.setOb (K.BUS_FD_MODE p + el) (v.toNat : Nat); e.busTimingOk p = true) :=
  ⟨⟨on (fun d => put [(K.PORT_FLAGS 95, 64)] (bus95 2 1 id).dev), 95, 0, 0, [], 0, by decide +kernel⟩,
   ⟨bus95 2 1 (fun x => { x with listen := true }), 95, 0x80001F, 0xFFFFFF, [], 0, by decide +kernel⟩,
   ⟨bus95 2 1 (fun x => { x with listen := true }), 95, 7, by decide +kernel⟩,
   ⟨bus95 2 1 id, 95, 7, by decide +kernel⟩,
   ⟨on (fun d => put [(K.BUS_PEX 95, 1)] (bus95 2 1 id).dev), 95, by decide +kernel⟩,
   ⟨on (fun d => put [(K.BUS_PEX 95, 0)] (bus95 2 1 id).dev), 95, by decide +kernel⟩,
   ⟨on (fun d => put [(K.BUS_TXQ_BUFS 95, 32)] (bus95 2 1 id).dev), 95, 0, by decide +kernel⟩,
   ⟨up, rq, 95, 10, 127, by decide +kernel⟩⟩

/-- The hypotheses of BusCommands can be met, part 3. -/
theorem test_hyps_BusCommands_3 :
    ∃ (s : State) (r : Src) (p : Fin 96) (v : Word), s.opens r (K.BUS_LISTEN_ONLY p) [v.toNat] 1 = true ∧ v.toNat ≤ 1 ∧ let d := s.taken r 2 (K.BUS_LISTEN_ONLY p) 0 [v.toNat]; let e := d.event.setOb (K.BUS_LISTEN_ONLY p) (v.toNat : Nat); e.busTimingOk p = true :=
  ⟨up, rq, 95, 1, by decide +kernel⟩

/-- The hypotheses of BusCommands can be met, part 4. -/
theorem test_hyps_BusCommands_4 :
    (∃ (s : State) (p : Fin 96) (w0 w1 : Word) (data : List Byte) (ago : Nat), s.cmd.portMode p = 3 ∧ s.cmd.obn (K.BUS_STATE p) ≤ 1 ∧ s.cmd.portState p ≠ 1 ∧ s.cmd.lineBusy p = false ∧ w0.toNat.testBit 21 = false ∧ w0.toNat.testBit 23 = true ∧ data.length = dlcBytes w0.toNat ∧ w0.toNat % 2 ^ 15 < 32 ∧ let d := s.cmd.bump (K.BUS_RX_FRAMES p); let rec_ := d.obn (K.BUS_REC p); let d := if (d.bus p).listen then d else if 127 < rec_ then { d.setOb (K.BUS_REC p) (119 + Config.freeNat d.free % 9 : Nat) with free := d.free + 1 } else d.setOb (K.BUS_REC p) (rec_ - 1 : Nat); let e := d.confine p; ∃ o : Fin 64, e.filterHit p o w0.toNat w1.toNat = true ∧ (∀ q < o, e.filterHit p q w0.toNat w1.toNat = false)) ∧
    (∃ (s : State) (p : Fin 96) (k : Fin 8), s.cmd.portMode p = 3 ∧ s.cmd.obn (K.BUS_STATE p) ≤ 1 ∧ (s.cmd.bus p).listen = false) ∧
    (∃ (s : State) (p : Fin 96), s.cmd.obn (K.BUS_STATE p) ≠ 3) ∧
    (∃ (s : State) (p : Fin 96), s.cmd.obn (K.BUS_STATE p) = 3) :=
  ⟨⟨bus95 2 1 (fun x => { x with words := [(0x40, 0xB00000)] }), 95, 0x80001F, 0xFFFFFF, [], 0, by decide +kernel, by decide +kernel, by decide +kernel, by decide +kernel, by decide +kernel, by decide +kernel, by decide +kernel, by decide +kernel, 0, by decide +kernel⟩,
   ⟨bus95 2 1 id, 95, 7, by decide +kernel⟩,
   ⟨bus95 2 2 id, 95, by decide +kernel⟩,
   ⟨bus95 2 3 id, 95, by decide +kernel⟩⟩

/-- Conditions that the clauses of `BusCommands` ask for can hold together. -/
theorem test_hyps_BusCommands_5 :
    (∃ (s : State) (p : Fin 96) (b : Nat), s.cmd.portMode p = 3 ∧ s.cmd.obn (K.BUS_STATE p) ≤ 1 ∧ (s.cmd.bus p).listen = false ∧ s.cmd.portUp p = true ∧ s.cmd.lineBusy p = false ∧ ((List.range 32).find? fun b => s.cmd.fabricFed p b && !s.cmd.txBusy p b) = some b ∧ ∃ (c : Fin 8) (f : QFrame) (l : List QFrame) (cause : Nat), 4 ≤ c.val ∧ s.cmd.queue (lineQueue p + c) = f :: l ∧ f.tail = some (false, cause) ∧ (∀ k : Fin 8, k ≠ c → s.cmd.queue (lineQueue p + k) = []) ∧ let w0 := (wordsOf (f.data.take 6)).getD 0 0 / 2 ^ 15 * 2 ^ 15 + (wordsOf (f.data.take 6)).getD 0 0 % 32; let w := (wordsOf (f.data.take 6)).set 0 w0; let words := w ++ List.replicate (2 - w.length) 0 ++ wordsOf ((f.data.drop 6).take (dlcBytes (w.getD 0 0))); let d := (s.cmd.modQueue (lineQueue p + c) fun q => q.drop 1).bsetAll p (txBase b) (words ++ List.replicate (24 - words.length) 0); let d := if f.env.tsReq || f.env.oneStep then d.modBus p fun x => { x with tsTag := mput x.tsTag b f.env.tsTag } else d; d.refusedTx p b = false) ∧
    (∃ (s : State) (p : Fin 96) (b : Nat), s.cmd.portMode p = 3 ∧ s.cmd.obn (K.BUS_STATE p) ≤ 1 ∧ (s.cmd.bus p).listen = false ∧ s.cmd.portUp p = true ∧ s.cmd.lineBusy p = false ∧ ((List.range 32).find? fun b => s.cmd.fabricFed p b && !s.cmd.txBusy p b) = some b ∧ ∃ (c : Fin 8) (f : QFrame) (l : List QFrame) (cause : Nat), 4 ≤ c.val ∧ s.cmd.queue (lineQueue p + c) = f :: l ∧ f.tail = some (false, cause) ∧ (∀ k : Fin 8, k ≠ c → s.cmd.queue (lineQueue p + k) = []) ∧ let w0 := (wordsOf (f.data.take 6)).getD 0 0 / 2 ^ 15 * 2 ^ 15 + (wordsOf (f.data.take 6)).getD 0 0 % 32; let w := (wordsOf (f.data.take 6)).set 0 w0; let words := w ++ List.replicate (2 - w.length) 0 ++ wordsOf ((f.data.drop 6).take (dlcBytes (w.getD 0 0))); let d := (s.cmd.modQueue (lineQueue p + c) fun q => q.drop 1).bsetAll p (txBase b) (words ++ List.replicate (24 - words.length) 0); let d := if f.env.tsReq || f.env.oneStep then d.modBus p fun x => { x with tsTag := mput x.tsTag b f.env.tsTag } else d; d.refusedTx p b = true) ∧
    (∃ (s : State) (p : Fin 96) (b : Nat), s.cmd.portMode p = 3 ∧ s.cmd.obn (K.BUS_STATE p) ≤ 1 ∧ (s.cmd.bus p).listen = false ∧ s.cmd.portUp p = true ∧ s.cmd.lineBusy p = false ∧ ((List.range 32).find? fun b => s.cmd.fabricFed p b && !s.cmd.txBusy p b) = some b ∧ (∀ k : Fin 8, s.cmd.queue (lineQueue p + k) = [])) :=
  ⟨⟨busFed (frame 14 {}), 95, 0, by decide +kernel, by decide +kernel, by decide +kernel, by decide +kernel, by decide +kernel, by decide +kernel, 7, frame 14 {}, [], 0, by decide +kernel⟩,
   ⟨busFed { frame 14 {} with data := 0x60 :: List.replicate 13 0 }, 95, 0, by decide +kernel, by decide +kernel, by decide +kernel, by decide +kernel, by decide +kernel, by decide +kernel, 7, { frame 14 {} with data := 0x60 :: List.replicate 13 0 }, [], 0, by decide +kernel⟩,
   ⟨on (fun d => put [(K.BUS_TXQ_BUFS 95, 32)] (bus95 2 1 id).dev), 95, 0, by decide +kernel⟩⟩

/-- The hypotheses of RunnelInstructions can be met, part 1. -/
theorem test_hyps_RunnelInstructions_1 :
    (∃ (s : State) (ch : Fin 96) (dly : Fin 8), s.cmd.running ch = true ∧ let d := s.slot ch; ∃ (ivb : Fin 8) (lin : BitVec 4), let v := (d.iv ch lin.toNat).testBit ivb.val; v = false) ∧
    (∃ (s : State) (ch : Fin 96) (dly : Fin 8), s.cmd.running ch = true ∧ let d := s.slot ch; ∃ (ivb : Fin 8) (lin : BitVec 4), let v := (d.iv ch lin.toNat).testBit ivb.val; v = true) ∧
    (∃ (s : State) (ch : Fin 96) (dly : Fin 8), s.cmd.running ch = true ∧ let d := s.slot ch; ∃ (ivb : Fin 8) (lin : BitVec 4), let v := (d.iv ch lin.toNat).testBit ivb.val; (d.chan ch).waitBit = some (!v)) ∧
    (∃ (s : State) (ch : Fin 96) (dly : Fin 8), s.cmd.running ch = true ∧ let d := s.slot ch; ∃ (ivb : Fin 8) (lin : BitVec 4), let v := (d.iv ch lin.toNat).testBit ivb.val; (d.chan ch).waitBit = some false ∧ v = true) ∧
    (∃ (s : State) (ch : Fin 96) (dly : Fin 8), s.cmd.running ch = true ∧ let d := s.slot ch; ∃ (ivb : Fin 8) (lin : BitVec 4), (d.chan ch).waitBit = none) ∧
    (∃ (s : State) (ch : Fin 96) (dly : Fin 8), s.cmd.running ch = true ∧ let d := s.slot ch; ∃ (toY nb : Bool), (d.chan ch).rhr = none) ∧
    (∃ (s : State) (ch : Fin 96) (dly : Fin 8), s.cmd.running ch = true ∧ let d := s.slot ch; ∃ (toY nb : Bool), ∃ y, (d.chan ch).rhr = some y) ∧
    (∃ (s : State) (ch : Fin 96) (dly : Fin 8), s.cmd.running ch = true ∧ let d := s.slot ch; ∃ (cont : Bool) (lit : BitVec 5), (d.chan ch).thr = none ∧ txCap (d.obn (K.CH_JOIN ch)) ≠ 0) :=
  ⟨⟨chan95 2 id, 95, 7, by decide +kernel, 7, 15, by decide +kernel⟩,
   ⟨chan95 2 id, 95, 7, by decide +kernel, 6, 8, by decide +kernel⟩,
   ⟨chan95 2 (fun x => { x with waitBit := some true }), 95, 7, by decide +kernel, 3, 0, by decide +kernel⟩,
   ⟨chan95 2 (fun x => { x with waitBit := some false }), 95, 7, by decide +kernel, 6, 8, by decide +kernel⟩,
   ⟨chan95 2 id, 95, 7, by decide +kernel, 3, 8, by decide +kernel⟩,
   ⟨chan95 2 id, 95, 7, by decide +kernel, true, true, by decide +kernel⟩,
   ⟨chan95 2 (fun x => { x with rhr := some ⟨255, true, true, true⟩ }), 95, 7, by decide +kernel, true, true, ⟨255, true, true, true⟩, by decide +kernel⟩,
   ⟨chan95 2 id, 95, 7, by decide +kernel, true, 31, by decide +kernel⟩⟩

/-- The hypotheses of RunnelInstructions can be met, part 2. -/
theorem test_hyps_RunnelInstructions_2 :
    (∃ (s : State) (ch : Fin 96) (dly : Fin 8), s.cmd.running ch = true ∧ let d := s.slot ch; ∃ (cont : Bool) (source : Fin 4) (lit : BitVec 5), (d.chan ch).thr ≠ none ∧ source ≠ 2) ∧
    (∃ (s : State) (ch : Fin 96) (dly : Fin 8), s.cmd.running ch = true ∧ let d := s.slot ch; ∃ (last bad : Bool) (cnt : Fin 4) (fromY nb : Bool), rxCap (d.obn (K.CH_JOIN ch)) = 0) ∧
    (∃ (s : State) (ch : Fin 96) (dly : Fin 8), s.cmd.running ch = true ∧ let d := s.slot ch; ∃ (last bad : Bool) (cnt : Fin 4) (fromY nb : Bool), let cap := rxCap (d.obn (K.CH_JOIN ch)); let d := d.parserSome ch; cap ≠ 0 ∧ (d.obn (K.CH_RX_SINK ch) = 0 ∨ d.lineBusy ch = false) ∧ (d.chan ch).rxF.length < cap) ∧
    (∃ (s : State) (ch : Fin 96) (dly : Fin 8), s.cmd.running ch = true ∧ let d := s.slot ch; ∃ toY : Bool, txCap (d.obn (K.CH_JOIN ch)) ≠ 0 ∧ (d.chan ch).txF = []) ∧
    (∃ (s : State) (ch : Fin 96) (dly : Fin 8), s.cmd.running ch = true ∧ let d := s.slot ch; ∃ v : BitVec 5, (d.obn (K.ENG_SYNC_MASK (ch.val / 8))).testBit (ch.val % 8) = false) :=
  ⟨⟨chan95 2 (fun x => { x with thr := some (1, false, false) }), 95, 7, by decide +kernel, true, 3, 31, by decide +kernel⟩,
   ⟨on (fun d => put [(K.CH_JOIN 95, 2)] (chan95 2 id).dev), 95, 7, by decide +kernel, true, true, 3, true, true, by decide +kernel⟩,
   ⟨chan95 2 id, 95, 7, by decide +kernel, true, true, 3, true, true, by decide +kernel⟩,
   ⟨chan95 2 id, 95, 7, by decide +kernel, true, by decide +kernel⟩,
   ⟨chan95 2 id, 95, 7, by decide +kernel, 31, by decide +kernel⟩⟩

/-- The hypotheses of RunnelInstructions can be met, part 3. -/
theorem test_hyps_RunnelInstructions_3 :
    (∃ (s : State) (ch : Fin 96) (dly : Fin 8), s.cmd.running ch = true ∧ let d := s.slot ch; ∃ (e : FifoEnt) (l : List FifoEnt), txCap (d.obn (K.CH_JOIN ch)) ≠ 0 ∧ (d.chan ch).txF = e :: l ∧ (e.tag.testBit 3 && (d.chan ch).pulled) = false) ∧
    (∃ (s : State) (ch : Fin 96) (dly : Fin 8), s.cmd.running ch = true ∧ let d := s.slot ch; (d.obn (K.ENG_SYNC_MASK (ch.val / 8))).testBit (ch.val % 8) = true ∧ let d' := (d.rnBlock ch .sync).modChan ch fun x => { x with syncDly := dly }; let l := (((List.range 8).filter fun k => (d.obn (K.ENG_SYNC_MASK (ch.val / 8))).testBit k).map fun k => 8 * (ch.val / 8) + k).filter d'.running; (∀ k ∈ l, (d'.chan k).block = .sync)) ∧
    (∃ (s : State) (ch : Fin 96) (dly : Fin 8), s.cmd.running ch = true ∧ let d := s.slot ch; (d.obn (K.ENG_SYNC_MASK (ch.val / 8))).testBit (ch.val % 8) = true ∧ let d' := (d.rnBlock ch .sync).modChan ch fun x => { x with syncDly := dly }; let l := (((List.range 8).filter fun k => (d.obn (K.ENG_SYNC_MASK (ch.val / 8))).testBit k).map fun k => 8 * (ch.val / 8) + k).filter d'.running; (∃ k ∈ l, (d'.chan k).block ≠ .sync)) ∧
    (∃ (s : State) (ch : Fin 96) (dly : Fin 8), s.cmd.running ch = true ∧ let d := s.slot ch; ∃ (last bad : Bool) (cnt : Fin 4) (fromY nb : Bool), let cap := rxCap (d.obn (K.CH_JOIN ch)); let d := d.parserSome ch; cap ≠ 0 ∧ (d.obn (K.CH_RX_SINK ch) = 0 ∨ d.lineBusy ch = false) ∧ cap ≤ (d.chan ch).rxF.length ∧ nb = true) ∧
    (∃ (s : State) (ch : Fin 96) (dly : Fin 8), s.cmd.running ch = true ∧ let d := s.slot ch; ∃ (last bad : Bool) (cnt : Fin 4) (fromY nb : Bool), let cap := rxCap (d.obn (K.CH_JOIN ch)); let d := d.parserSome ch; cap ≠ 0 ∧ (d.obn (K.CH_RX_SINK ch) = 0 ∨ d.lineBusy ch = false) ∧ cap ≤ (d.chan ch).rxF.length ∧ nb = false) :=
  ⟨⟨chan95 2 (fun x => { x with txF := [⟨12, 255⟩] }), 95, 7, by decide +kernel, ⟨12, 255⟩, [], by decide +kernel⟩,
   ⟨on (fun d => put [(K.ENG_SYNC_MASK 11, 128)] (chan95 2 id).dev), 95, 7, by decide +kernel⟩,
   ⟨on (fun d => put [(K.ENG_SYNC_MASK 11, 192), (K.CH_STATE 94, 2)] (chan95 2 id).dev), 95, 7, by decide +kernel, by decide +kernel, 94, by decide +kernel⟩,
   ⟨on (fun d => put [(K.CH_RX_SINK 95, 1)] (chan95 2 fun x => { x with rxF := List.replicate 4 { data := 1, tag := 2 } }).dev), 95, 7, by decide +kernel, true, true, 3, true, true, by decide +kernel⟩,
   ⟨on (fun d => put [(K.CH_RX_SINK 95, 1)] (chan95 2 fun x => { x with rxF := List.replicate 4 { data := 1, tag := 2 } }).dev), 95, 7, by decide +kernel, true, true, 3, true, false, by decide +kernel⟩⟩

/-- The hypotheses of RunnelAdvance can be met. -/
theorem test_hyps_RunnelAdvance :
    ∃ (d : Dev) (c pc extra : Nat), (d.chan c).flipDue = false ∧ ∃ k, k ≠ c :=
  ⟨upDev, 95, 256, 519, by decide +kernel, 0, by decide +kernel⟩

/-- The hypotheses of RunnelCommands can be met, part 1. -/
theorem test_hyps_RunnelCommands_1 :
    ∃ (s : State) (r : Src) (e : Fin 12) (w : Fin 4) (img : List Byte) (d' : Dev) (n : Nat), s.puts r (K.WIN_PROG (winOf e w)) 1 = true ∧ let d := s.putting r (K.WIN_PROG (winOf e w)); img.length % 2 = 0 ∧ progOk img = true ∧ d.winSwap e w = none ∧ d.ask (.window (winOf e w)) 300 1000 4 (d.waitLeft (some r)) 0 = (d', .granted n) ∧ d'.winSwap e w = none :=
  ⟨up, rq, 11, 3, List.replicate 512 0, (((up.putting rq (K.WIN_PROG 47)).ask (.window 47) 300 1000 4 ((up.putting rq (K.WIN_PROG 47)).waitLeft (some rq)) 0)).1, 1, by decide +kernel⟩

/-- The hypotheses of RunnelCommands can be met, part 2. -/
theorem test_hyps_RunnelCommands_2 :
    (∃ (s : State) (r : Src) (e : Fin 12) (w : Fin 4) (m : Fin 4) (i : Instr) (d' : Dev), s.opens r (K.WIN_SWAP (winOf e w)) [m.val] 1 = true ∧ i = [Instr.winSwapWait (.dict r) e w, .winSwapNow (.dict r) e w, .winSwapForce (.dict r) e w, .winSwapCancel (.dict r) e w].getD m.val (.winSwapWait (.dict r) e w) ∧ (s.taken r 2 (K.WIN_SWAP (winOf e w)) 0 [m.val]).event.askSwap e w m Stat.busy = (d', Stat.done)) ∧
    (∃ (s : State) (c : Fin 20) (e : Fin 12) (w : Fin 4) (m : Fin 4) (i : Instr), s.cmd.coreRuns c = true ∧ s.cmd.domOn (24 + e) = true ∧ s.cmd.engAgent c e = true ∧ i = [Instr.winSwapWait (.core c) e w, .winSwapNow (.core c) e w, .winSwapForce (.core c) e w, .winSwapCancel (.core c) e w].getD m.val (.winSwapWait (.core c) e w)) ∧
    (∃ (s : State) (ch : Fin 96), s.cmd.running ch = true) ∧
    (∃ (s : State) (ch : Fin 96), s.cmd.running ch = false) ∧
    (∃ (s : State) (r : Src) (e : Fin 12) (m : Byte), s.opens r (K.ENG_START e) [m.toNat] 1 = true) ∧
    (∃ (s : State) (r : Src) (e : Fin 12) (m : Byte), s.opens r (K.ENG_BITSYNC e) [m.toNat] 1 = true) ∧
    (∃ (s : State) (c : Fin 20) (e : Fin 12) (m : Byte), s.cmd.coreRuns c = true ∧ s.cmd.domOn (24 + e) = true ∧ s.cmd.engAgent c e = true ∧ s.cmd.tbNs (s.cmd.obn (K.ENG_ARM_BASE e)) ≤ s.cmd.armTime e) ∧
    (∃ (s : State) (r : Src) (e : Fin 12), s.opens r (K.ENG_ARM_CMD e) [1] 1 = true ∧ let d := s.taken r 2 (K.ENG_ARM_CMD e) 0 [1]; d.tbNs (d.obn (K.ENG_ARM_BASE e)) ≤ d.armTime e) :=
  ⟨⟨swapping, rq, 11, 3, 3, .winSwapCancel (.dict rq) 11 3, ((swapping.taken rq 2 (K.WIN_SWAP 47) 0 [3]).event.askSwap 11 3 3 Stat.busy).1, by decide +kernel⟩,
   ⟨swapping, 19, 11, 3, 3, .winSwapCancel (.core 19) 11 3, by decide +kernel⟩,
   ⟨chan95 2 id, 95, by decide +kernel⟩,
   ⟨chan95 3 id, 95, by decide +kernel⟩,
   ⟨up, rq, 11, 255, by decide +kernel⟩,
   ⟨up, rq, 11, 255, by decide +kernel⟩,
   ⟨up, 19, 11, 255, by decide +kernel⟩,
   ⟨up, rq, 11, by decide +kernel⟩⟩

/-- The hypotheses of RunnelCommands can be met, part 3. -/
theorem test_hyps_RunnelCommands_3 :
    (∃ (s : State) (r : Src) (e : Fin 12), s.opens r (K.ENG_ARM_CMD e) [2] 1 = true) ∧
    (∃ (s : State) (e : Fin 12), (s.cmd.engine e).armed = true) ∧
    (∃ (s : State) (ch : Fin 96), s.cmd.wdogCounts ch = true) ∧
    (∃ (s : State) (r : Src) (ch : Fin 96), s.opens r (K.CH_CMD ch) [1] 1 = true) ∧
    (∃ (s : State) (r : Src) (ch : Fin 96), s.opens r (K.CH_CMD ch) [2] 1 = true) ∧
    (∃ (s : State) (r : Src) (ch : Fin 96), s.opens r (K.CH_CMD ch) [3] 1 = true) ∧
    (∃ (s : State) (c : Fin 20) (ch : Fin 96), s.cmd.coreRuns c = true ∧ s.cmd.domOn (24 + ch / 8) = true ∧ s.cmd.boundCore ch = some c.val ∧ s.cmd.chState ch = 3) ∧
    (∃ (s : State) (c : Fin 20) (ch : Fin 96), s.cmd.coreRuns c = true ∧ s.cmd.domOn (24 + ch / 8) = true ∧ s.cmd.boundCore ch = some c.val ∧ s.cmd.chState ch = 2) :=
  ⟨⟨up, rq, 11, by decide +kernel⟩,
   ⟨on (fun d => { d with engines := [(11, { armed := true })] }), 11, by decide +kernel⟩,
   ⟨chan95 4 id, 95, by decide +kernel⟩,
   ⟨up, rq, 95, by decide +kernel⟩,
   ⟨up, rq, 95, by decide +kernel⟩,
   ⟨up, rq, 95, by decide +kernel⟩,
   ⟨chan95 3 id, 15, 95, by decide +kernel⟩,
   ⟨chan95 2 id, 15, 95, by decide +kernel⟩⟩

/-- The hypotheses of RunnelCommands can be met, part 4. -/
theorem test_hyps_RunnelCommands_4 :
    (∃ (s : State) (c : Fin 20) (ch : Fin 96), s.cmd.coreRuns c = true ∧ s.cmd.domOn (24 + ch / 8) = true ∧ s.cmd.boundCore ch = some c.val ∧ s.cmd.chState ch ≠ 0) ∧
    (∃ (s : State) (c : Fin 20) (ch : Fin 96), s.cmd.coreRuns c = true ∧ s.cmd.domOn (24 + ch / 8) = true ∧ s.cmd.boundCore ch = some c.val ∧ ∃ (x : RxEnt) (l : List RxEnt), (s.cmd.chan ch).rxF = x :: l) ∧
    (∃ (s : State) (c : Fin 20) (ch : Fin 96), s.cmd.coreRuns c = true ∧ s.cmd.domOn (24 + ch / 8) = true ∧ s.cmd.boundCore ch = some c.val ∧ ∃ v : Word, s.cmd.obn (K.CH_TX_SRC ch) = 1 ∧ s.cmd.chState ch ≠ 0 ∧ (s.cmd.chan ch).txF.length < txCap (s.cmd.obn (K.CH_JOIN ch))) ∧
    (∃ (s : State) (r : Src) (ch : Fin 96) (v : Word), s.opens r (K.CH_FLAGS ch) [v.toNat] 1 = true ∧ v.toNat ≤ 255 ∧ let d := s.taken r 2 (K.CH_FLAGS ch) 0 [v.toNat]; d.segHolds ch = false) ∧
    (∃ (s : State) (ch : Fin 96) (y : Sampled), (s.cmd.chan ch).rxOn = true ∧ 4 ≤ s.cmd.portMode ch ∧ s.cmd.chState ch ≠ 0 ∧ let f := s.cmd.rxFmt ch y.since; let bits := if s.cmd.linePol ch true then y.bits.map fun b => ~~~b else y.bits; f.read bits = none) ∧
    (∃ (s : State) (ch : Fin 96) (y : Nat), (s.cmd.chan ch).shift = some (y, false)) ∧
    (∃ (s : State) (ch : Fin 96) (y : Sampled), (s.cmd.chan ch).rxOn = true ∧ 4 ≤ s.cmd.portMode ch ∧ s.cmd.chState ch ≠ 0 ∧ let f := s.cmd.rxFmt ch y.since; let bits := if s.cmd.linePol ch true then y.bits.map fun b => ~~~b else y.bits; ∃ (sym : Nat) (fe pe : Bool), f.read bits = some (sym, fe, pe) ∧ (s.cmd.chan ch).rhr = none) :=
  ⟨⟨chan95 1 id, 15, 95, by decide +kernel⟩,
   ⟨chan95 1 (fun x => { x with rxF := [{ data := 1, tag := 2 }] }), 15, 95, by decide +kernel, by decide +kernel, by decide +kernel, { data := 1, tag := 2 }, [], by decide +kernel⟩,
   ⟨on (fun d => put [(K.CH_TX_SRC 95, 1)] (chan95 1 id).dev), 15, 95, by decide +kernel, by decide +kernel, by decide +kernel, 0xFFFFFF, by decide +kernel⟩,
   ⟨up, rq, 95, 255, by decide +kernel⟩,
   ⟨on (fun d => put [(K.PORT_MODE 95, 5), (K.CH_SYM_MODE 95, 1)] (chan95 1 fun x => { x with rxOn := true }).dev), 95, ⟨0, [6]⟩, by decide +kernel⟩,
   ⟨chan95 1 (fun x => { x with shift := some (5, false) }), 95, 5, by decide +kernel⟩,
   ⟨on (fun d => put [(K.PORT_MODE 95, 7), (K.CH_SYM_MODE 95, 0)] (chan95 1 fun x => { x with rxOn := true }).dev), 95, ⟨0, List.replicate 8 2⟩, by decide +kernel, by decide +kernel, by decide +kernel, 255, false, false, by decide +kernel⟩⟩

/-- The hypotheses of RegisterInstructions can be met. -/
theorem test_hyps_RegisterInstructions :
    (∃ (s : State) (c : Fin 20) (n : Nat) (rd rs rt : Fin 16) (imm : BitVec 9), s.issuesIn c n [] [] = true) ∧
    (∃ (s : State) (c : Fin 20) (n : Nat) (rd rs rt : Fin 16) (imm : BitVec 9), s.issuesIn c n [rs] [] = true) ∧
    (∃ (s : State) (c : Fin 20) (n : Nat) (rd rs rt : Fin 16) (imm : BitVec 9), s.issuesIn c n [rs, rt] [] = true) ∧
    (∃ (s : State) (c : Fin 20) (n : Nat) (rd rs rt : Fin 16) (imm : BitVec 9), s.issuesIn c n [rs, rt] [0] = true) :=
  ⟨⟨up, 19, 0, 15, 15, 15, 0x1FF, by decide +kernel⟩,
   ⟨up, 19, 0, 15, 15, 15, 0x1FF, by decide +kernel⟩,
   ⟨up, 19, 0, 15, 15, 15, 0x1FF, by decide +kernel⟩,
   ⟨up, 19, 0, 15, 15, 15, 0x1FF, by decide +kernel⟩⟩

/-- The hypotheses of LiteralInstructions can be met. -/
theorem test_hyps_LiteralInstructions :
    (∃ (s : State) (c : Fin 20) (n : Nat) (rd rs : Fin 16) (lit : Word), s.issuesIn c n [] [] = true) ∧
    (∃ (s : State) (c : Fin 20) (n : Nat) (rd rs : Fin 16) (lit : Word), s.issuesIn c n [rs] [] = true) :=
  ⟨⟨up, 19, 0, 15, 15, 0xFFFFFF, by decide +kernel⟩,
   ⟨up, 19, 0, 15, 15, 0xFFFFFF, by decide +kernel⟩⟩

/-- The hypotheses of RegisterFrame can be met. -/
theorem test_hyps_RegisterFrame :
    (∃ (x : Core) (rd r : Fin 16) (v : Word) (u : FlagUpd), rd ≠ 0) ∧
    (∃ (x : Core) (rd r : Fin 16) (v : Word) (u : FlagUpd), r ≠ rd) ∧
    (∃ (s : State) (c n cost : Nat) (f : Core → Core), ∃ k, k ≠ c) :=
  ⟨⟨{}, 15, 0, 0, {}, by decide +kernel⟩,
   ⟨{}, 15, 0, 0, {}, by decide +kernel⟩,
   ⟨up, 19, 0, 4, id, 0, by decide +kernel⟩⟩

/-- The hypotheses of DecimalArithmetic can be met. -/
theorem test_hyps_DecimalArithmetic :
    (∃ (s : State) (c : Fin 20) (n : Nat) (rd rs : Fin 16), s.issuesIn c n [rs] [] = true) ∧
    (∃ (a b : Nat) (k : Bool), a < 1000000 ∧ b < 1000000) ∧
    (∃ a : Nat, a < 1000000) :=
  ⟨⟨up, 19, 0, 15, 15, by decide +kernel⟩,
   ⟨999999, 999999, true, by decide +kernel⟩,
   ⟨999999, by decide +kernel⟩⟩

/-- The hypotheses of Multiplier can be met. -/
theorem test_hyps_Multiplier :
    (∃ (x : Core) (a b : Word) (n : Nat), x.mulq = []) ∧
    (∃ (s : State) (c : Fin 20) (o : MulOp) (l : List MulOp), (s.dev.core c).mulq = o :: l) :=
  ⟨⟨{}, 0xFFFFFF, 0xFFFFFF, 5, by decide +kernel⟩,
   ⟨core19 { mulq := [⟨2, 1, 1, 4⟩] }, 19, ⟨2, 1, 1, 4⟩, [], by decide +kernel⟩⟩

/-- The hypotheses of LocalAccesses can be met. -/
theorem test_hyps_LocalAccesses :
    (∃ (s : State) (c : Fin 20) (n : Nat) (rd rs rt : Fin 16) (k : Fin 4) (imm : BitVec 9), s.accessIn c n = true ∧ let x := s.dev.core c; let here (a : Word) : Prop := a.toNat < localWords c ∧ s.dev.poisoned (localAddr c a.toNat) = false; here (x.reg rs + imm.signExtend 24)) ∧
    (∃ (s : State) (c : Fin 20) (n : Nat) (rd rs rt : Fin 16) (k : Fin 4) (imm : BitVec 9), s.accessIn c n = true ∧ let x := s.dev.core c; let here (a : Word) : Prop := a.toNat < localWords c ∧ s.dev.poisoned (localAddr c a.toNat) = false; here (x.reg rs + x.reg rt)) ∧
    (∃ (s : State) (c : Fin 20) (n : Nat) (rd rs rt : Fin 16) (k : Fin 4) (imm : BitVec 9), s.accessIn c n = true ∧ let x := s.dev.core c; let here (a : Word) : Prop := a.toNat < localWords c ∧ s.dev.poisoned (localAddr c a.toNat) = false; here x.a[k]) ∧
    (∃ (s : State) (c : Fin 20) (n : Nat) (rd rs rt : Fin 16) (k : Fin 4) (imm : BitVec 9), s.accessIn c n = true ∧ let x := s.dev.core c; let here (a : Word) : Prop := a.toNat < localWords c ∧ s.dev.poisoned (localAddr c a.toNat) = false; here x.dsp) ∧
    (∃ (s : State) (c : Fin 20) (n : Nat) (rd rs rt : Fin 16) (k : Fin 4) (imm : BitVec 9), s.accessIn c n = true ∧ let x := s.dev.core c; (x.reg rs + imm.signExtend 24).toNat < localWords c) ∧
    (∃ (s : State) (c : Fin 20) (n : Nat) (rd rs rt : Fin 16) (k : Fin 4) (imm : BitVec 9), s.accessIn c n = true ∧ let x := s.dev.core c; (x.reg rs + x.reg rt).toNat < localWords c) ∧
    (∃ (s : State) (c : Fin 20) (n : Nat) (rd rs rt : Fin 16) (k : Fin 4) (imm : BitVec 9), s.accessIn c n = true ∧ let x := s.dev.core c; x.a[k].toNat < localWords c) ∧
    (∃ (s : State) (c : Fin 20) (n : Nat) (rd rs rt : Fin 16) (k : Fin 4) (imm : BitVec 9), s.accessIn c n = true ∧ let x := s.dev.core c; (x.dsp - 1).toNat < localWords c ∧ x.dsl ≤ x.dsp - 1) :=
  ⟨⟨lastWord, 0, 0, 15, 1, 0, 3, 0, by decide +kernel⟩,
   ⟨lastWord, 0, 0, 15, 1, 0, 3, 0, by decide +kernel⟩,
   ⟨lastWord, 0, 0, 15, 1, 0, 3, 0, by decide +kernel⟩,
   ⟨lastWord, 0, 0, 15, 1, 0, 3, 0, by decide +kernel⟩,
   ⟨lastWord, 0, 0, 15, 1, 0, 3, 0, by decide +kernel⟩,
   ⟨lastWord, 0, 0, 15, 1, 0, 3, 0, by decide +kernel⟩,
   ⟨lastWord, 0, 0, 15, 1, 0, 3, 0, by decide +kernel⟩,
   ⟨lastWord, 0, 0, 15, 1, 0, 3, 0, by decide +kernel⟩⟩

/-- The hypotheses of AccessFrame can be met. -/
theorem test_hyps_AccessFrame :
    (∃ (d : Dev) (c n a : Nat) (rd r : Fin 16) (step : Core → Core), (∀ x r, (step x).reg r = x.reg r ∧ (step x).flags = x.flags) ∧ rd ≠ 0) ∧
    (∃ (d : Dev) (c n a : Nat) (rd r : Fin 16) (step : Core → Core), (∀ x r, (step x).reg r = x.reg r ∧ (step x).flags = x.flags) ∧ r ≠ rd) ∧
    (∃ (d : Dev) (c n a : Nat) (rd r : Fin 16) (step : Core → Core), (∀ x r, (step x).reg r = x.reg r ∧ (step x).flags = x.flags) ∧ ∃ k, k ≠ c) ∧
    (∃ (d : Dev) (c n a b : Nat) (v : Word) (step : Core → Core), (d.ctxs.all fun e => e.2.copying.isNone) = true ∧ b ≠ localAddr c a) ∧
    (∃ (d : Dev) (c n a b : Nat) (v : Word) (step : Core → Core), (d.ctxs.all fun e => e.2.copying.isNone) = true ∧ ∃ k, k ≠ c) :=
  ⟨⟨upDev, 19, 0, 0xFFFF, 15, 14, id, fun _ _ => ⟨rfl, rfl⟩, by decide⟩,
   ⟨upDev, 19, 0, 0xFFFF, 15, 14, id, fun _ _ => ⟨rfl, rfl⟩, by decide⟩,
   ⟨upDev, 19, 0, 0xFFFF, 15, 14, id, fun _ _ => ⟨rfl, rfl⟩, 0, by decide⟩,
   ⟨upDev, 19, 0, 0xFFFF, 0, 0xFFFFFF, id, by decide +kernel⟩,
   ⟨upDev, 19, 0, 0xFFFF, 0, 0xFFFFFF, id, by decide +kernel, 0, by decide +kernel⟩⟩

/-- The hypotheses of FlowInstructions can be met, part 1. -/
theorem test_hyps_FlowInstructions_1 :
    (∃ (s : State) (c : Fin 20) (n : Nat) (rs : Fin 16) (k : Fin 8) (ofs : BitVec 14) (target : BitVec 15) (b lit : Bool), s.issuesIn c n [] [0] = true) ∧
    (∃ (s : State) (c : Fin 20) (n : Nat) (rs : Fin 16) (k : Fin 8) (ofs : BitVec 14) (target : BitVec 15) (b lit : Bool), let d := s.inCycle c n; s.issuesIn c n [] [] = true ∧ ∃ src, d.winner c false = some src) ∧
    (∃ (s : State) (c : Fin 20) (n : Nat) (rs : Fin 16) (k : Fin 8) (ofs : BitVec 14) (target : BitVec 15) (b lit : Bool), let d := s.inCycle c n; s.issuesIn c n [] [] = true ∧ d.winner c false = none) ∧
    (∃ (s : State) (c : Fin 20) (n : Nat) (rs : Fin 16) (k : Fin 8) (ofs : BitVec 14) (target : BitVec 15) (b lit : Bool), s.issuesIn c n [rs] [] = true) ∧
    (∃ (s : State) (c : Fin 20) (n : Nat) (rs : Fin 16) (k : Fin 8) (ofs : BitVec 14) (target : BitVec 15) (b lit : Bool), let x := s.dev.core c; s.issuesIn c n [] [0, 3, 4] = true ∧ x.rsd < 32) ∧
    (∃ (s : State) (c : Fin 20) (n : Nat) (rs : Fin 16) (k : Fin 8) (ofs : BitVec 14) (target : BitVec 15) (b lit : Bool), let x := s.dev.core c; s.issuesIn c n [rs] [0, 3, 4] = true ∧ x.rsd < 32) ∧
    (∃ (s : State) (c : Fin 20) (n : Nat) (rs : Fin 16) (k : Fin 8) (ofs : BitVec 14) (target : BitVec 15) (b lit : Bool), let x := s.dev.core c; s.accessIn c n = true ∧ 32 ≤ x.rsd) ∧
    (∃ (s : State) (c : Fin 20) (n : Nat) (rs : Fin 16) (k : Fin 8) (ofs : BitVec 14) (target : BitVec 15) (b lit : Bool), let x := s.dev.core c; s.issuesIn c n [] [3, 4] = true ∧ x.rsd = 0) :=
  ⟨⟨up, 19, 0, 15, 7, 0x1FFF, 0x7FFF, true, true, by decide +kernel⟩,
   ⟨core19 { pend := 2 ^ 63 }, 19, 0, 15, 7, 0x1FFF, 0x7FFF, true, true, by decide +kernel, 63, by decide +kernel⟩,
   ⟨up, 19, 0, 15, 7, 0x1FFF, 0x7FFF, true, true, by decide +kernel⟩,
   ⟨up, 19, 0, 15, 7, 0x1FFF, 0x7FFF, true, true, by decide +kernel⟩,
   ⟨core19 (deep 31), 19, 0, 15, 7, 0x1FFF, 0x7FFF, true, true, by decide +kernel⟩,
   ⟨core19 (deep 31), 19, 0, 15, 7, 0x1FFF, 0x7FFF, true, true, by decide +kernel⟩,
   ⟨core19 (deep 32), 19, 0, 15, 7, 0x1FFF, 0x7FFF, true, true, by decide +kernel⟩,
   ⟨up, 19, 0, 15, 7, 0x1FFF, 0x7FFF, true, true, by decide +kernel⟩⟩

/-- The hypotheses of FlowInstructions can be met, part 2. -/
theorem test_hyps_FlowInstructions_2 :
    (∃ (s : State) (c : Fin 20) (n : Nat) (rs : Fin 16) (k : Fin 8) (ofs : BitVec 14) (target : BitVec 15) (b lit : Bool), let x := s.dev.core c; s.issuesIn c n [] [3, 4] = true ∧ 0 < x.rsd ∧ x.rsd ≤ 32) ∧
    (∃ (s : State) (c : Fin 20) (n : Nat) (rs : Fin 16) (k : Fin 8) (ofs : BitVec 14) (target : BitVec 15) (b lit : Bool), let x := s.dev.core c; let d := s.inCycle c n; s.accessIn c n = true ∧ 32 < x.rsd ∧ ∃ (all : Bool) (d' : Dev) (e : Word) (j : Nat), d.popEntry c n = some (d', e, j)) :=
  ⟨⟨core19 (deep 32), 19, 0, 15, 7, 0x1FFF, 0x7FFF, true, true, by decide +kernel⟩,
   ⟨core19 (deep 33), 19, 0, 15, 7, 0x1FFF, 0x7FFF, true, true, by decide +kernel, by decide +kernel, true, popped.1, popped.2.1, popped.2.2, by decide +kernel⟩⟩

/-- The hypotheses of ReturnStack can be met. -/
theorem test_hyps_ReturnStack :
    (∃ (d : Dev) (c n ra a : Nat), let x := d.core c; x.rsd < 32) ∧
    (∃ (d : Dev) (c n ra a : Nat), let x := d.core c; 32 ≤ x.rsd ∧ x.rsd < 1024 ∧ x.rsd ≠ 1008 ∧ a = (x.rsb + word (x.rsd - 32)).toNat ∧ a < localWords c ∧ c < 20) ∧
    (∃ (d : Dev) (c n ra a : Nat), let x := d.core c; x.rsd = 1024) ∧
    (∃ (d : Dev) (c n ra a : Nat), let x := d.core c; x.rsd = 0) ∧
    (∃ (d : Dev) (c n ra a : Nat), let x := d.core c; 0 < x.rsd ∧ x.rsd ≤ 32) ∧
    (∃ (d : Dev) (c n ra a : Nat), let x := d.core c; 32 < x.rsd ∧ a = (x.rsb + word (x.rsd - 33)).toNat ∧ a < localWords c ∧ c < 20 ∧ d.poisoned (localAddr c a) = false) ∧
    (∃ (x : Core) (ra : Nat), ra < 2 ^ 15) ∧
    (∃ (d : Dev) (c n ra a : Nat), let x := d.core c; 32 ≤ x.rsd ∧ x.rsd < 1024 ∧ a = (x.rsb + word (x.rsd - 32)).toNat ∧ a < localWords c ∧ c < 20 ∧ x.rsd = 1008) :=
  ⟨⟨(core19 (deep 31)).dev, 19, 0, 0x7FFF, 0, by decide +kernel⟩,
   ⟨(core19 (deep 1023)).dev, 19, 0, 0x7FFF, 0x77DF, by decide +kernel⟩,
   ⟨(core19 (deep 1024)).dev, 19, 0, 0x7FFF, 0, by decide +kernel⟩,
   ⟨upDev, 19, 0, 0x7FFF, 0, by decide +kernel⟩,
   ⟨(core19 (deep 32)).dev, 19, 0, 0x7FFF, 0, by decide +kernel⟩,
   ⟨(core19 (deep 1024)).dev, 19, 0, 0x7FFF, 0x77DF, by decide +kernel⟩,
   ⟨{}, 0x7FFF, by decide +kernel⟩,
   ⟨(core19 (deep 1008)).dev, 19, 0, 0x7FFF, 0x77D0, by decide +kernel⟩⟩

/-- The hypotheses of InterruptEntry can be met. -/
theorem test_hyps_InterruptEntry :
    ∃ (s : State) (c : Fin 20) (n src : Nat), let x := s.dev.core c; (s.dev.coreState c = 2 ∨ s.dev.coreState c = 3) ∧ s.dev.takes c = some src ∧ x.rsd < 32 ∧ x.swapPending = false ∧ n = s.dev.cycleOf c :=
  ⟨core19 { deep 31 with trap := some 11 }, 19, 0, 11, by decide +kernel⟩

/-- The hypotheses of PairInstructions can be met. -/
theorem test_hyps_PairInstructions :
    (∃ (s : State) (c : Fin 20) (n : Nat) (opa opb : BitVec 5) (xa ya xb yb : BitVec 3) (z : Bool), pairIllegal opa opb z = true ∧ s.issuesIn c n [] [] = true) ∧
    (∃ (s : State) (c : Fin 20) (n : Nat) (opa opb : BitVec 5) (xa ya xb yb : BitVec 3) (z : Bool), let ua := slotNeeds opa xa ya; let ub := slotNeeds opb xb yb; pairIllegal opa opb z = false ∧ ua.mem = false ∧ ub.mem = false ∧ s.issuesIn c n (ua.regs ++ ub.regs) (ua.srs ++ ub.srs) = true) ∧
    (∃ (s : State) (c : Fin 20) (n : Nat) (opa opb : BitVec 5) (xa ya xb yb : BitVec 3) (z : Bool), let ua := slotNeeds opa xa ya; let ub := slotNeeds opb xb yb; pairIllegal opa opb z = false ∧ (ua.mem || ub.mem) = true ∧ s.accessIn c n = true) ∧
    (∃ (x : Core) (r q : Fin 16) (v w : Word) (u t : FlagUpd) (n : Nat), q ≠ 0) ∧
    (∃ (x : Core) (r q : Fin 16) (v w : Word) (u t : FlagUpd) (n : Nat), r ≠ q ∧ r ≠ 0) ∧
    (∃ (x : Core) (r q : Fin 16) (v w : Word) (u t : FlagUpd) (n : Nat), ∃ o, o ≠ r ∧ o ≠ q) :=
  ⟨⟨up, 19, 0, 31, 0, 0, 0, 0, 0, false, by decide +kernel⟩,
   ⟨up, 19, 0, 1, 2, 7, 7, 7, 7, false, by decide +kernel⟩,
   ⟨up, 19, 0, 27, 27, 7, 7, 7, 7, false, by decide +kernel⟩,
   ⟨{}, 15, 15, 1, 2, {}, {}, 0, by decide +kernel⟩,
   ⟨{}, 15, 14, 1, 2, {}, {}, 0, by decide +kernel⟩,
   ⟨{}, 15, 14, 1, 2, {}, {}, 0, 13, by decide +kernel⟩⟩

/-- The hypotheses of Stalls can be met. -/
theorem test_hyps_Stalls :
    (∃ (x : Core) (n : Nat) (regs : List (Fin 16)) (srs : List Nat) (acc : Bool), x.accEnds ≤ n) ∧
    (∃ (x : Core) (n : Nat) (regs : List (Fin 16)) (srs : List Nat) (acc : Bool), n < x.accEnds ∧ acc = true) ∧
    (∃ (x : Core) (n : Nat) (regs : List (Fin 16)) (srs : List Nat) (acc : Bool), ∃ r ∈ regs, n < x.accEnds ∧ r ≠ 0 ∧ r.val = x.accReg) ∧
    (∃ (x : Core) (n : Nat) (regs : List (Fin 16)) (srs : List Nat) (acc : Bool), ∃ r ∈ srs, n < x.accEnds ∧ x.accSr = some r) ∧
    (∃ (x : Core) (n : Nat) (regs : List (Fin 16)) (srs : List Nat) (acc : Bool), acc = false ∧ (∀ r ∈ regs, r ≠ 0 → r.val ≠ x.accReg) ∧ (∀ r ∈ srs, x.accSr ≠ some r)) :=
  ⟨⟨{ accEnds := 4 }, 4, [15], [31], true, by decide +kernel⟩,
   ⟨{ accEnds := 4 }, 3, [], [], true, by decide +kernel⟩,
   ⟨{ accEnds := 4, accReg := 15 }, 3, [15], [], false, 15, by decide +kernel⟩,
   ⟨{ accEnds := 4, accSr := some 31 }, 3, [], [31], false, 31, by decide +kernel⟩,
   ⟨{ accEnds := 4, accReg := 14, accSr := some 30 }, 3, [15], [31], false, by decide +kernel⟩⟩

/-- The hypotheses of SystemInstructions can be met. -/
theorem test_hyps_SystemInstructions :
    (∃ (s : State) (c : Fin 20) (n : Nat) (rd rs rt : Fin 16) (sr : Fin 32), s.issuesIn c n [] [sr.val] = true) ∧
    (∃ (s : State) (c : Fin 20) (n : Nat) (rd rs rt : Fin 16) (sr : Fin 32), s.issuesIn c n [rs, rt] [] = true) ∧
    (∃ (s : State) (c : Fin 20) (n : Nat) (rd rs rt : Fin 16) (sr : Fin 32), let x := s.dev.core c; s.issuesIn c n [rs] [] = true ∧ (x.far.all fun q => q.tag != (x.reg rs).toNat) = true) ∧
    (∃ (s : State) (c : Fin 20) (n : Nat) (rd rs rt : Fin 16) (sr : Fin 32), let x := s.dev.core c; ∃ q, s.issuesIn c n [rs] [] = true ∧ x.farDoneAt (x.reg rs).toNat = some q) ∧
    (∃ (s : State) (c : Fin 20) (n : Nat) (rd rs rt : Fin 16) (sr : Fin 32), let x := s.dev.core c; s.issuesIn c n [rs] [] = true ∧ (x.far.any fun q => q.tag == (x.reg rs).toNat) = true ∧ x.farDoneAt (x.reg rs).toNat = none) ∧
    (∃ (s : State) (c : Fin 20) (n : Nat) (rd rs rt : Fin 16) (sr : Fin 32), let x := s.dev.core c; let d := s.inCycle c n; s.issuesIn c n [rs] [] = true ∧ ∃ v, d.mbReleased c (x.reg rs).toNat true = some v) ∧
    (∃ (s : State) (c : Fin 20) (n : Nat) (rd rs rt : Fin 16) (sr : Fin 32), let x := s.dev.core c; let d := s.inCycle c n; s.issuesIn c n [rs] [] = true ∧ d.mbReleased c (x.reg rs).toNat true = none) :=
  ⟨⟨up, 19, 0, 15, 15, 15, 31, by decide +kernel⟩,
   ⟨up, 19, 0, 15, 15, 15, 31, by decide +kernel⟩,
   ⟨up, 19, 0, 15, 15, 15, 31, by decide +kernel⟩,
   ⟨core19 { far := [⟨0, 0, 0, 0, 0, 0, 0, none, some 0⟩] }, 19, 0, 15, 15, 15, 31, ⟨0, 0, 0, 0, 0, 0, 0, none, some 0⟩, by decide +kernel⟩,
   ⟨core19 { far := [⟨0, 0, 0, 0, 0, 0, 0, none, none⟩] }, 19, 0, 15, 15, 15, 31, by decide +kernel⟩,
   ⟨up, 19, 0, 15, 15, 15, 31, by decide +kernel, 0xFF00, by decide +kernel⟩,
   ⟨on (fun d => { d with eps := [(19, { send := [(0, ⟨false, false, 0⟩)] })] }), 19, 0, 15, 15, 15, 31, by decide +kernel⟩⟩

/-- The hypotheses of SpecialRegisters can be met. -/
theorem test_hyps_SpecialRegisters :
    (∃ (d : Dev) (c v : Nat), v < 2 ^ 24 ∧ (d.core c).rsd ≤ 32) ∧
    (∃ (d : Dev) (c v : Nat), v < 2 ^ 24 ∧ v ≠ 0) ∧
    (∃ (d : Dev) (c v : Nat), v < 2 ^ 24 ∧ 32 < (d.core c).rsd) :=
  ⟨⟨upDev, 19, 0xFFFFFF, by decide +kernel⟩,
   ⟨upDev, 19, 0xFFFFFF, by decide +kernel⟩,
   ⟨(core19 (deep 33)).dev, 19, 0xFFFFFF, by decide +kernel⟩⟩

/-- The hypotheses of FarRequests can be met. -/
theorem test_hyps_FarRequests :
    (∃ (d : Dev) (c a ctl t : Nat), t < 32 ∧ (∀ r ∈ (d.core c).far, r.tag ≠ t) ∧ (∀ u, u < t → ∃ r ∈ (d.core c).far, r.tag = u)) ∧
    (∃ (d : Dev) (c a ctl : Nat), (∀ u, u < 32 → ∃ r ∈ (d.core c).far, r.tag = u)) ∧
    (∃ (s : State) (c : Fin 20) (tag : Fin 32) (r q : FarReq), (s.dev.core c).far.find? (fun r => r.tag == tag.val) = some r ∧ r.done = none ∧ r.ended = none ∧ s.dev.now ≤ r.issued + 20000 ∧ (∀ u ∈ (s.dev.core c).far.takeWhile (fun u => u.tag != tag.val), u.meets r = false) ∧ let d := s.cmd.farRun c r (r.cnt + 1); (d.core c).far.find? (fun q => q.tag == tag.val) = some q) ∧
    (∃ (s : State) (c : Fin 20) (tag : Fin 32) (r : FarReq) (st : Nat), (s.dev.core c).far.find? (fun r => r.tag == tag.val && r.done.isNone) = some r ∧ r.ended = some st) ∧
    (∃ (d d1 : Dev) (c v st : Nat) (r : FarReq), r.ended = none ∧ r.done = none ∧ r.words = 0 ∧ r.cnt = 0 ∧ r.op = 0 ∧ d.farRead c r.addr = (d1, v, st)) ∧
    (∃ (s : State) (c : Fin 20) (tag : Fin 32) (r : FarReq) (k o : Nat), (s.dev.core c).far.find? (fun r => r.tag == tag.val) = some r ∧ r.done = none ∧ r.ended = none ∧ r.words = 0 ∧ r.cnt = 0 ∧ s.dev.now ≤ r.issued + 20000 ∧ (∀ u ∈ (s.dev.core c).far.takeWhile (fun u => u.tag != tag.val), u.meets r = false) ∧ peerLocal r.addr = some (k, o) ∧ (∀ e ∈ s.dev.ctxs, e.2.copying = none) ∧ let d := s.cmd; let mine := localAddr c r.loc; let far := localAddr k o; d.epOn k = false ∧ d.poisoned mine = false) ∧
    (∃ (s : State) (c : Fin 20) (tag : Fin 32) (r : FarReq) (k o : Nat), (s.dev.core c).far.find? (fun r => r.tag == tag.val) = some r ∧ r.done = none ∧ r.ended = none ∧ r.words = 0 ∧ r.cnt = 0 ∧ s.dev.now ≤ r.issued + 20000 ∧ (∀ u ∈ (s.dev.core c).far.takeWhile (fun u => u.tag != tag.val), u.meets r = false) ∧ peerLocal r.addr = some (k, o) ∧ (∀ e ∈ s.dev.ctxs, e.2.copying = none) ∧ let d := s.cmd; let mine := localAddr c r.loc; let far := localAddr k o; d.epOn k = true ∧ r.op = 0 ∧ d.poisoned far = false) ∧
    (∃ (s : State) (c : Fin 20) (tag : Fin 32) (r : FarReq) (k o : Nat), (s.dev.core c).far.find? (fun r => r.tag == tag.val) = some r ∧ r.done = none ∧ r.ended = none ∧ r.words = 0 ∧ r.cnt = 0 ∧ s.dev.now ≤ r.issued + 20000 ∧ (∀ u ∈ (s.dev.core c).far.takeWhile (fun u => u.tag != tag.val), u.meets r = false) ∧ peerLocal r.addr = some (k, o) ∧ (∀ e ∈ s.dev.ctxs, e.2.copying = none) ∧ let d := s.cmd; let mine := localAddr c r.loc; let far := localAddr k o; d.epOn k = true ∧ r.op = 1 ∧ d.poisoned mine = false) ∧
    (∃ (s : State) (c : Fin 20) (tag : Fin 32) (r : FarReq) (k o : Nat), (s.dev.core c).far.find? (fun r => r.tag == tag.val) = some r ∧ r.done = none ∧ r.ended = none ∧ r.words = 0 ∧ r.cnt = 0 ∧ s.dev.now ≤ r.issued + 20000 ∧ (∀ u ∈ (s.dev.core c).far.takeWhile (fun u => u.tag != tag.val), u.meets r = false) ∧ peerLocal r.addr = some (k, o) ∧ (∀ e ∈ s.dev.ctxs, e.2.copying = none) ∧ let d := s.cmd; let mine := localAddr c r.loc; let far := localAddr k o; d.epOn k = true ∧ r.op = 2 ∧ d.poisoned mine = false ∧ d.poisoned far = false) ∧
    (∃ (s : State) (c : Fin 20) (tag : Fin 32) (r : FarReq), (s.dev.core c).far.find? (fun r => r.tag == tag.val) = some r ∧ r.done = none ∧ r.ended = none ∧ r.words = r.cnt ∧ (∀ u ∈ (s.dev.core c).far.takeWhile (fun u => u.tag != tag.val), u.meets r = false)) ∧
    (∃ (x : Core) (p q r : FarReq), x.far = [p, q, r] ∧ (∀ u ∈ [p, q, r], u.ended = none ∧ u.done = none) ∧ p.tag ≠ r.tag ∧ q.tag ≠ r.tag ∧ q.meets r = true ∧ p.meets q = true) ∧
    (∃ (x : Core) (p q r : FarReq), x.far = [p, q, r] ∧ (∀ u ∈ [p, q, r], u.ended = none ∧ u.done = none) ∧ p.tag ≠ r.tag ∧ q.tag ≠ r.tag ∧ q.meets r = false) :=
  ⟨⟨(core19 (farTags 31)).dev, 19, 0xFFFFFF, 0xFFFFFF, 31, by decide +kernel⟩,
   ⟨(core19 (farTags 32)).dev, 19, 0xFFFFFF, 0xFFFFFF, by decide +kernel⟩,
   ⟨core19 { far := [far31] }, 19, 31, far31, ((((core19 { far := [far31] }).cmd.farRun 19 far31 1).core 19).far.find? (fun q => q.tag == 31)).getD far31, by decide +kernel⟩,
   ⟨core19 { far := [{ far31 with ended := some 7 }] }, 19, 31, { far31 with ended := some 7 }, 7, by decide +kernel⟩,
   ⟨upDev, (upDev.farRead 19 0x40000).1, 19, (upDev.farRead 19 0x40000).2.1, (upDev.farRead 19 0x40000).2.2, far31, by decide +kernel⟩,
   ⟨on (fun d => { (core19 { far := [toPeer 0] }).dev with doms := 2 ^ 45 - 1 - 2 ^ 22 }), 19, 31, toPeer 0, 18, 0x7FFF, by decide +kernel⟩,
   ⟨core19 { far := [toPeer 0] }, 19, 31, toPeer 0, 18, 0x7FFF, by decide +kernel⟩,
   ⟨core19 { far := [toPeer 1] }, 19, 31, toPeer 1, 18, 0x7FFF, by decide +kernel⟩,
   ⟨core19 { far := [toPeer 2] }, 19, 31, toPeer 2, 18, 0x7FFF, by decide +kernel⟩,
   ⟨core19 { far := [far31] }, 19, 31, far31, by decide +kernel⟩,
   ⟨{ far := [farPair 29 0x40000, farPair 30 0x40001, farPair 31 0x40002] }, farPair 29 0x40000, farPair 30 0x40001, farPair 31 0x40002, by decide +kernel⟩,
   ⟨{ far := [farPair 29 0x40000, farPair 30 0x40004, farPair 31 0x40001] }, farPair 29 0x40000, farPair 30 0x40004, farPair 31 0x40001, by decide +kernel⟩⟩

/-- The hypotheses of CoreEvents can be met, part 1. -/
theorem test_hyps_CoreEvents_1 :
    (∃ (s : State) (c : Fin 20) (m : BitVec 16), s.cmd.coreRuns c = true ∧ let x := s.dev.core c; x.swapPending = true) ∧
    (∃ (s : State) (c : Fin 20) (m : BitVec 16), s.cmd.coreRuns c = true ∧ let x := s.dev.core c; x.swapPending = false) ∧
    (∃ (s : State) (c : Fin 20) (m : BitVec 16), s.cmd.coreRuns c = true ∧ let d := s.cmd; let x := s.dev.core c; ∃ d' k, x.swapPending = false ∧ d.ask (.bank c) 300 1000 4 0 (m.toNat * 4) = (d', .granted k)) ∧
    (∃ (s : State) (c : Fin 20) (m : BitVec 16), s.cmd.coreRuns c = true ∧ let d := s.cmd; let x := s.dev.core c; ∃ d' k, x.swapPending = false ∧ d.ask (.bank c) 300 1000 4 0 (x.cpMask.toNat * 4 + 1) = (d', .granted k)) ∧
    (∃ (s : State) (c : Fin 20), s.cmd.epOn c = true ∧ (s.dev.core c).tmrPeriod ≠ 0) ∧
    (∃ (s : State) (c : Fin 20), s.cmd.epOn c = true ∧ (s.dev.core c).wdogWarned = false) ∧
    (∃ (s : State) (r : Src) (c : Fin 20), s.opens r (K.CORE_CMD c) [1] 3 = true ∧ let d := s.taken r 2 (K.CORE_CMD c) 0 [1]; d.coreState c = 1 ∧ (d.core c).wait = .none) ∧
    (∃ (s : State) (r : Src) (c : Fin 20), s.opens r (K.CORE_CMD c) [2] 3 = true ∧ let d := s.taken r 2 (K.CORE_CMD c) 0 [2]; d.coreState c ≠ 0) :=
  ⟨⟨core19 { swapPending := true }, 19, 0xFFFF, by decide +kernel⟩,
   ⟨up, 19, 0xFFFF, by decide +kernel⟩,
   ⟨up, 19, 0xFFFF, by decide +kernel, (up.cmd.ask (.bank 19) 300 1000 4 0 0x3FFFC).1, 1, by decide +kernel⟩,
   ⟨up, 19, 0xFFFF, by decide +kernel, (up.cmd.ask (.bank 19) 300 1000 4 0 1).1, 1, by decide +kernel⟩,
   ⟨core19 { tmrPeriod := 1 }, 19, by decide +kernel⟩,
   ⟨up, 19, by decide +kernel⟩,
   ⟨on (put [(K.CORE_STATE 19, 1)]), rq, 19, by decide +kernel⟩,
   ⟨up, rq, 19, by decide +kernel⟩⟩

/-- The hypotheses of CoreEvents can be met, part 2. -/
theorem test_hyps_CoreEvents_2 :
    (∃ (s : State) (r : Src) (c : Fin 20), s.opens r (K.CORE_CMD c) [3] 3 = true ∧ let d := s.taken r 2 (K.CORE_CMD c) 0 [3]; d.coreState c ≠ 0) ∧
    (∃ (s : State) (c : Fin 20) (rd v since k : Nat) (h : rd < 16), s.dev.coreState c = 3 ∧ (s.dev.core c).wait = .mailbox rd v since ∧ s.cmd.mbReleased c v false = some k) ∧
    (∃ (s : State) (c : Fin 20) (rd v since : Nat) (h : rd < 16), s.dev.coreState c = 3 ∧ (s.dev.core c).wait = .mailbox rd v since ∧ s.cmd.mbReleased c v false = none) ∧
    (∃ (s : State) (c : Fin 20) (m : BitVec 16), s.cmd.coreRuns c = true ∧ let d := s.cmd; let x := s.dev.core c; x.swapPending = false ∧ ∃ d', d.ask (.bank c) 300 1000 4 0 (m.toNat * 4) = (d', .refused)) ∧
    (∃ (s : State) (c : Fin 20) (m : BitVec 16), s.cmd.coreRuns c = true ∧ let d := s.cmd; let x := s.dev.core c; x.swapPending = false ∧ ∃ d', d.ask (.bank c) 300 1000 4 0 (x.cpMask.toNat * 4 + 1) = (d', .refused)) :=
  ⟨⟨up, rq, 19, by decide +kernel⟩,
   ⟨on (fun d => put [(K.CORE_STATE 19, 3)] { d with cores := [(19, { wait := .mailbox 15 0 0 })] }), 19, 15, 0, 0, 0xFF00, (by decide), by decide +kernel⟩,
   ⟨on (fun d => put [(K.CORE_STATE 19, 3)] { d with cores := [(19, { wait := .mailbox 15 0 0 })], eps := [(19, { send := [(0, ⟨false, false, 0⟩)] })] }), 19, 15, 0, 0, (by decide), by decide +kernel⟩,
   ⟨tapBusy, 19, 0xFFFF, by decide +kernel, by decide +kernel, (tapBusy.cmd.ask (.bank 19) 300 1000 4 0 0x3FFFC).1, by decide +kernel⟩,
   ⟨tapBusy, 19, 0xFFFF, by decide +kernel, by decide +kernel, (tapBusy.cmd.ask (.bank 19) 300 1000 4 0 1).1, by decide +kernel⟩⟩

/-- The hypotheses of ContextRequests can be met, part 1. -/
theorem test_hyps_ContextRequests_1 :
    ∃ (s : State) (r : Src) (c : Fin 128), s.opens r (K.CTX_CMD c) [1] 1 = true ∧ let d := s.taken r 2 (K.CTX_CMD c) 0 [1]; d.ctxState c = 0 ∧ d.bindCheck c = 0 ∧ (d.ctxsOn (d.obn (K.CTX_CORE c))).isEmpty = false ∧ (d.bindGo c 0).2 = 0 :=
  ⟨ctx127 0 255 id, rq, 127, by decide +kernel⟩

/-- The hypotheses of ContextRequests can be met, part 2. -/
theorem test_hyps_ContextRequests_2 :
    (∃ (s : State) (r : Src) (c : Fin 128), s.opens r (K.CTX_CMD c) [2] 1 = true ∧ let d := s.taken r 2 (K.CTX_CMD c) 0 [2]; d.ctxState c = 1) ∧
    (∃ (s : State) (r : Src) (c : Fin 128), s.opens r (K.CTX_CMD c) [2] 1 = true ∧ let d := s.taken r 2 (K.CTX_CMD c) 0 [2]; d.ctxState c = 5) ∧
    (∃ (s : State) (r : Src) (c : Fin 128), s.opens r (K.CTX_CMD c) [3] 1 = true ∧ let d := s.taken r 2 (K.CTX_CMD c) 0 [3]; d.ctxState c = 2 ∧ (d.ctx c).migTarget = none ∧ (d.ctx c).migHeld = false) ∧
    (∃ (s : State) (r : Src) (c : Fin 128), s.opens r (K.CTX_CMD c) [4] 1 = true ∧ let d := s.taken r 2 (K.CTX_CMD c) 0 [4]; (d.ctxState c = 1 ∨ d.ctxState c = 5)) ∧
    (∃ (s : State) (r : Src) (c : Fin 128), s.opens r (K.CTX_CMD c) [5] 1 = true ∧ let d := s.taken r 2 (K.CTX_CMD c) 0 [5]; (d.ctxState c = 2 ∨ d.ctxState c = 3)) ∧
    (∃ (s : State) (r : Src) (c : Fin 128) (v : Word), s.opens r (K.CTX_MIGRATE c) [v.toNat] 1 = true ∧ let d := s.taken r 2 (K.CTX_MIGRATE c) 0 [v.toNat]; v.toNat ≤ 15 ∧ v.toNat ≠ d.ctxCore c ∧ d.ctxState c = 2 ∧ (d.ctx c).swapEntry = none ∧ d.coreBarred v.toNat = false ∧ d.coreTakes v.toNat (d.obn (K.CTX_PERS c)) = true ∧ (d.ctxsOn v.toNat).isEmpty = false) :=
  ⟨⟨ctx127 1 15 id, rq, 127, by decide +kernel⟩,
   ⟨ctx127 5 15 id, rq, 127, by decide +kernel⟩,
   ⟨ctx127 2 15 id, rq, 127, by decide +kernel⟩,
   ⟨ctx127 5 15 id, rq, 127, by decide +kernel⟩,
   ⟨ctx127 3 15 id, rq, 127, by decide +kernel⟩,
   ⟨ctx127 2 14 id, rq, 127, 15, by decide +kernel⟩⟩

/-- The hypotheses of ContextRequests can be met, part 3. -/
theorem test_hyps_ContextRequests_3 :
    ∃ (s : State) (r : Src) (c : Fin 128) (v : Word) (k : Nat) (d1 : Dev), s.opens r (K.CTX_PERS_SWAP c) [v.toNat] 1 = true ∧ let d := s.taken r 2 (K.CTX_PERS_SWAP c) 0 [v.toNat]; v.toNat < 512 ∧ d.hasBundle (v.toNat % 256) = true ∧ d.swapShut c v.toNat = false ∧ d.ask (.pers c) 300 1000 4 (d.waitLeft (some r)) v.toNat = (d1, .granted k) ∧ (d1.swapLoad c v.toNat k).2 = 0 :=
  ⟨ctx127 1 15 id, rq, 127, 511, 1, (((ctx127 1 15 id).taken rq 2 (K.CTX_PERS_SWAP 127) 0 [511]).ask (.pers 127) 300 1000 4 (((ctx127 1 15 id).taken rq 2 (K.CTX_PERS_SWAP 127) 0 [511]).waitLeft (some rq)) 511).1, by decide +kernel⟩

/-- The hypotheses of ContextRequests can be met, part 4. -/
theorem test_hyps_ContextRequests_4 :
    ∃ (s : State) (r : Src) (j : Fin 256), s.opens r (K.PERS_DELETE j) [1] 1 = true ∧ let d := s.taken r 2 (K.PERS_DELETE j) 0 [1]; (d.persUsers j).isEmpty = true :=
  ⟨up, rq, 255, by decide +kernel⟩

/-- The hypotheses of ContextEvents can be met, part 1. -/
theorem test_hyps_ContextEvents_1 :
    (∃ (s : State) (c : Fin 128), s.dev.ctxState c = 2 ∧ s.dev.followed c = none ∧ (s.dev.ctx c).open_ = false ∧ (s.dev.ctx c).copying = none ∧ (s.dev.ctx c).migTarget = none ∧ let at_ := (s.dev.ctx c).nextAt; let d := (s.cmd.upToOn (s.cmd.ctxTb c) at_); d.ctxState c = 2 ∧ (d.ctx c).open_ = false ∧ (d.ctx c).copying = none ∧ (d.ctx c).migTarget = none) ∧
    (∃ (s : State) (c : Fin 128) (j : Fin 8), let x := s.dev.ctx c; let ofs := (s.cmd.ctxEff c).cps.getD (j - 1) 0; s.dev.ctxState c = 2 ∧ s.dev.followed c = none ∧ j.val ≠ 0 ∧ ofs ≠ 0 ∧ x.eff.isSome = true ∧ x.cpFired.testBit j = false) ∧
    (∃ (s : State) (k : Fin 20) (c : Fin 128) (v : Word), s.cmd.coreRuns k = true ∧ s.cmd.ctxAgent k c = true) ∧
    (∃ (d : Dev) (c : Nat), (d.ctxState c = 2 ∨ d.ctxState c = 3) ∧ (d.ctx c).doneSeen = false ∧ ((d.ctx c).open_ = false ∨ d.tbNs (d.ctxTb c) ≤ (d.ctx c).boundaryAt + d.deadlineNs c) ∧ (d.ctxEff c).ckptEvery = 0) ∧
    (∃ (s : State) (c : Fin 128), (s.dev.ctx c).open_ = true ∧ let d := s.cmd.upToOn (s.cmd.ctxTb c) ((s.cmd.ctx c).boundaryAt + s.cmd.deadlineNs c); ¬ (d.ctxState c = 3 ∧ (d.ctx c).migHeld = true)) ∧
    (∃ (s : State) (c : Fin 128) (k : Bool), (s.dev.ctx c).copying = some k ∧ (s.dev.poison.any fun a => decide (s.dev.winBase c ≤ a) && decide (a < s.dev.winBase c + s.dev.ctxWords c)) = false) ∧
    (∃ (s : State) (c : Fin 128) (k : Bool), s.dev.ctxState c = 4 ∧ s.cmd.newestCopy c = some k) ∧
    (∃ (s : State) (c : Fin 128) (t : Nat), s.dev.ctxState c = 3 ∧ (s.dev.ctx c).migTarget = some t ∧ (s.dev.ctx c).migHeld = true ∧ s.cmd.tbNs (s.cmd.ctxTb c) ≤ (s.dev.ctx c).boundaryAt + s.cmd.deadlineNs c ∧ s.cmd.epOn t = true ∧ let d := s.cmd.ckptEnd c; (d.ctx c).ckptStatus = Stat.done ∧ ∃ k, d.newestCopy c = some k) :=
  ⟨⟨ctx127 2 15 id, 127, by decide +kernel⟩,
   ⟨ctx127 2 15 (fun x => { x with eff := some ⟨0, List.replicate 7 1, 0, 0, 0⟩ }), 127, 7, by decide +kernel⟩,
   ⟨up, 19, 127, 0xFFFFFF, by decide +kernel⟩,
   ⟨(ctx127 2 15 fun x => { x with eff := some ⟨0, [], 0, 0, 0⟩ }).dev, 127, by decide +kernel⟩,
   ⟨ctx127 2 15 (fun x => { x with open_ := true }), 127, by decide +kernel⟩,
   ⟨ctx127 2 15 (fun x => { x with copying := some true }), 127, true, by decide +kernel⟩,
   ⟨ctx127 4 15 (fun x => { x with copies := ({}, { valid := true }) }), 127, true, by decide +kernel⟩,
   ⟨ctx127 3 14 (fun x => { x with migTarget := some 15, migHeld := true, copies := ({}, { valid := true }) }), 127, 15, by decide +kernel, by decide +kernel, by decide +kernel, by decide +kernel, by decide +kernel, by decide +kernel, true, by decide +kernel⟩⟩

/-- The hypotheses of ContextEvents can be met, part 2. -/
theorem test_hyps_ContextEvents_2 :
    (∃ (s : State) (c : Fin 128), s.dev.ctxState c = 3 ∧ (s.dev.ctx c).migHeld = true ∧ (s.dev.ctx c).copying = none ∧ (s.dev.ctx c).ckptStatus ≠ Stat.done) ∧
    (∃ (s : State) (c : Fin 128), (s.dev.ctx c).swapEntry.isSome = true) ∧
    (∃ (s : State) (c : Fin 128), (s.dev.ctx c).open_ = true ∧ let d := s.cmd.upToOn (s.cmd.ctxTb c) ((s.cmd.ctx c).boundaryAt + s.cmd.deadlineNs c); d.ctxState c = 3 ∧ (d.ctx c).migHeld = true) ∧
    (∃ (s : State) (c : Fin 128), s.dev.ctxState c = 3 ∧ (s.dev.ctx c).migHeld = true ∧ ((s.dev.ctx c).copying ≠ none ∨ (s.dev.ctx c).ckptStatus = Stat.done)) ∧
    (∃ (s : State) (c : Fin 128) (k : Bool), (s.dev.ctx c).copying = some k ∧ (s.dev.poison.any fun a => decide (s.dev.winBase c ≤ a) && decide (a < s.dev.winBase c + s.dev.ctxWords c)) = true) ∧
    (∃ (s : State) (c : Fin 128) (t : Nat), s.dev.ctxState c = 3 ∧ (s.dev.ctx c).migTarget = some t ∧ (s.dev.ctx c).migHeld = true ∧ s.cmd.epOn t = false) :=
  ⟨⟨ctx127 3 14 (fun x => { x with migTarget := some 15, migHeld := true, ckptStatus := Stat.aborted }), 127, by decide +kernel⟩,
   ⟨ctx127 2 15 (fun x => { x with swapEntry := some 255 }), 127, by decide +kernel⟩,
   ⟨ctx127 3 14 (fun x => { x with open_ := true, migTarget := some 15, migHeld := true }), 127, by decide +kernel⟩,
   ⟨ctx127 3 14 (fun x => { x with migTarget := some 15, migHeld := true, copying := some true }), 127, by decide +kernel⟩,
   ⟨{ dev := { (ctx127 2 15 fun x => { x with copying := some true }).dev.st 0x1E97F9 256 with poison := [(ctx127 2 15 id).dev.winBase 127 + 255] } }, 127, true, by decide +kernel⟩,
   ⟨{ dev := { (ctx127 3 14 (fun x => { x with migTarget := some 15, migHeld := true })).dev with doms := 2 ^ 19 - 1 } }, 127, 15, by decide +kernel⟩⟩

/-- The hypotheses of SwitchCommands can be met, part 1. -/
theorem test_hyps_SwitchCommands_1 :
    (∃ (s : State) (i : Fin 101) (f : RxFrame) (l : List RxFrame), mget s.dev.sw.rx i [] = f :: l ∧ let d := s.cmd.modSw fun w => { w with rx := if l.isEmpty then mdel w.rx i else mput w.rx i l }; let prof := d.profileOf i; d.lookup (lookupKey prof (srcOf i) f.vid f.bytes) = none ∧ prof.getD 0 0 / 2 ^ 21 % 4 = 0) ∧
    (∃ (s : State) (i : Fin 101) (f : RxFrame) (l : List RxFrame), mget s.dev.sw.rx i [] = f :: l ∧ let d := s.cmd.modSw fun w => { w with rx := if l.isEmpty then mdel w.rx i else mput w.rx i l }; let prof := d.profileOf i; d.lookup (lookupKey prof (srcOf i) f.vid f.bytes) = none ∧ prof.getD 0 0 / 2 ^ 21 % 4 = 2) ∧
    (∃ (s : State) (o i : Fin 48) (n : BitVec 8) (c : FCell), s.dev.sw.transit.find? (fun c => c.inp == i.val && c.out == o.val && c.seq == n.toNat) = some c ∧ let want := mget s.dev.sw.expect (48 * o + i) 0; (∀ e ∈ s.dev.sw.held, ¬ (e.inp = i ∧ e.out = o ∧ e.seq % 128 = want % 128)) ∧ n.toNat % 128 ≠ want % 128) ∧
    (∃ (s : State) (o i : Fin 48) (n : BitVec 8) (c : FCell), s.dev.sw.transit.find? (fun c => c.inp == i.val && c.out == o.val && c.seq == n.toNat) = some c ∧ let want := mget s.dev.sw.expect (48 * o + i) 0; (∀ e ∈ s.dev.sw.held, ¬ (e.inp = i ∧ e.out = o ∧ e.seq % 128 = want % 128)) ∧ n.toNat % 128 = want % 128) ∧
    (∃ (s : State) (o : Fin 100) (c : Nat) (f : QFrame), s.cmd.isMac o = true ∧ mget? s.dev.sw.line o = none ∧ s.cmd.macRuns o = true ∧ 4 ≤ c ∧ c ≤ 7 ∧ let d := ((s.cmd.upTo (s.cmd.mac o).gapEnds).badHeads o).macHeads o 4096; let ready (k : Nat) : Bool := match (d.queue (lineQueue o + k)).head? with | some f => d.canStart o f && !d.macStopped o (d.cutStart o f) && d.gateOk o k f | none => false; d.macHeld o = false ∧ (d.queue (lineQueue o + c)).head? = some f ∧ ready c = true ∧ (∀ k, c < k → k ≤ 7 → ready k = false)) ∧
    (∃ (s : State) (o : Fin 100), s.cmd.isMac o = false ∧ s.cmd.portMode o = 3) ∧
    (∃ (s : State) (o : Fin 100), s.cmd.isMac o = false ∧ 4 ≤ s.cmd.portMode o ∧ (s.cmd.segsOn o).isEmpty = true) ∧
    (∃ (s : State) (o : Fin 100) (x : OnLine) (k : Nat), s.cmd.isMac o = true ∧ mget? s.dev.sw.line o = some x ∧ (s.cmd.onLine x).tail = some (false, k)) :=
  ⟨⟨on (fun d => { d with sw := { rx := [(95, [rxFrame])] } }), 95, rxFrame, [], by decide +kernel⟩,
   ⟨on (fun d => { d with sw := { rx := [(95, [rxFrame])], profiles := [(95, [2 ^ 22])] } }), 95, rxFrame, [], by decide +kernel⟩,
   ⟨on (fun d => { d with sw := { transit := [cell 255] } }), 47, 47, 255, cell 255, by decide +kernel⟩,
   ⟨on (fun d => { d with sw := { transit := [cell 0] } }), 47, 47, 0, cell 0, by decide +kernel⟩,
   ⟨on (fun d => queued (lineQueue 99 + 7) (frame 60 {}) (put [(K.UPLINK_STATE 3, 2)] d)), 99, 7, frame 60 {}, by decide +kernel, by decide +kernel, by decide +kernel,
    by decide, by decide, by decide +kernel, by decide +kernel, by decide +kernel, fun k h1 h2 => absurd h1 (by omega)⟩,
   ⟨on (put [(K.PORT_MODE 95, 3)]), 95, by decide +kernel⟩,
   ⟨on (put [(K.PORT_MODE 95, 7)]), 95, by decide +kernel⟩,
   ⟨on (fun d => { d with sw := { line := [(99, ⟨lineQueue 99, frame 60 {}, 0, 0⟩)] } }), 99, ⟨lineQueue 99, frame 60 {}, 0, 0⟩, 0, by decide +kernel⟩⟩

/-- The hypotheses of SwitchCommands can be met, part 2. -/
theorem test_hyps_SwitchCommands_2 :
    (∃ (s : State) (o : Fin 100) (x : OnLine), s.cmd.isMac o = true ∧ mget? s.dev.sw.line o = some x ∧ (s.cmd.onLine x).tail = none) ∧
    (∃ (s : State) (e : Fin 21) (d g : Dev) (a q : Nat) (f : QFrame), s.cmd.accepting (16 + e) 0 = true ∧ (s.cmd.takeWhole (16 + e) fun _ => true).2.isSome = true ∧ s.cmd.rxDesc e 1024 = (d, some a) ∧ d.takeWhole (16 + e) (fun _ => true) = (g, some (q, f)) ∧ ¬ (e.val < 20 ∧ f.env.ctxV = true ∧ g.holdsCtx e f.env.ctx = false)) ∧
    (∃ (s : State) (e : Fin 21), let n := s.cmd.obn (K.RING_TX_SIZE e); let i := s.cmd.obn (K.RING_TX_PTR e); let a := ringAddr e (s.cmd.obn (K.RING_TX_BASE e) + 2 * i); let w := s.cmd.ld a; n ≠ 0 ∧ w.testBit 23 = true ∧ bufOk e (s.cmd.ld (a + 1)) = true ∧ let d := (s.cmd.st a (bits w 22 18 * 2 ^ 18 + bits w 11 0)).setOb (K.RING_TX_PTR e) ((i + 1) % n : Nat); let bytes := (bytesOf (d.ldAll (ringAddr e (s.cmd.ld (a + 1))) 683)).take (w % 4096); let env := { envOf bytes with src := if e.val = 20 then 127 else 100 + e.val, rate := 0 }; envDestOk env = true ∧ 88 ≤ w % 4096 ∧ w % 4096 ≤ 2024) ∧
    (∃ (d : Dev) (i : Fin 48), let m := (i + d.sw.slot) % 48; let ready (lane : Nat) : Bool := !(d.staged i lane).isEmpty && (mget d.sw.mids (49 * m + lane) []).isEmpty; let o (k : Nat) := (mget d.sw.ptr i 0 + k) % 48; ready 48 = true) ∧
    (∃ (d : Dev) (i : Fin 48), let m := (i + d.sw.slot) % 48; let ready (lane : Nat) : Bool := !(d.staged i lane).isEmpty && (mget d.sw.mids (49 * m + lane) []).isEmpty; let o (k : Nat) := (mget d.sw.ptr i 0 + k) % 48; ∃ k < 48, ready 48 = false ∧ ready (o k) = true ∧ (∀ j < k, ready (o j) = false)) ∧
    (∃ (d : Dev) (i : Fin 48), let m := (i + d.sw.slot) % 48; let ready (lane : Nat) : Bool := !(d.staged i lane).isEmpty && (mget d.sw.mids (49 * m + lane) []).isEmpty; let o (k : Nat) := (mget d.sw.ptr i 0 + k) % 48; (∀ lane < 49, ready lane = false)) :=
  ⟨⟨on (fun d => { d with sw := { line := [(99, ⟨lineQueue 99, { frame 60 {} with tail := none }, 0, 0⟩)] } }), 99, ⟨lineQueue 99, { frame 60 {} with tail := none }, 0, 0⟩, by decide +kernel⟩,
   ⟨ringRx, 20, (ringRx.cmd.rxDesc 20 1024).1, ((ringRx.cmd.rxDesc 20 1024).1.takeWhole 36 (fun _ => true)).1, ringAddr 20 0, queueOf 36 0 0, frame 64 {}, by decide +kernel⟩,
   ⟨on (fun d => ((put [(K.RING_TX_SIZE 20, 1)] d).st (ringAddr 20 0) (2 ^ 23 + 2024)).st (ringAddr 20 0 + 1) 35072), 20, by decide +kernel⟩,
   ⟨{ sw := { stage := [(49 * 47 + 48, [[cell 0]])] } }, 47, by decide +kernel⟩,
   ⟨{ sw := { stage := [(49 * 47 + 47, [[cell 0]])] } }, 47, 47, by decide +kernel⟩,
   ⟨{ sw := { stage := [(49 * 47 + 46, [[cell 0]])], mids := [(49 * 47 + 46, [cell 1])] } }, 47, by decide +kernel⟩⟩

/-- The hypotheses of CellarCommands can be met, part 1. -/
theorem test_hyps_CellarCommands_1 :
    (∃ (s : State) (d : Dev) (q : Nat) (f : QFrame), s.cmd.takeWhole 37 (fun _ => true) = (d, some (q, f)) ∧ let j := f.env.aux % 2 ^ 15; (d.ld (0x260000 + 4 * j)).testBit 23 = false) ∧
    (∃ (s : State) (d : Dev) (q : Nat) (f : QFrame), s.cmd.takeWhole 37 (fun _ => true) = (d, some (q, f)) ∧ let j := f.env.aux % 2 ^ 15; ∃ k, (d.ld (0x260000 + 4 * j)).testBit 23 = true ∧ f.tail = some (false, k)) ∧
    (∃ (s : State) (n r : Nat), s.cmd.nextSwept s.dev.cellar.sweepAt = some (n, r)) ∧
    (∃ (d : Dev) (n r : Nat), let e := d.entry n; mget? d.cellar.contestPend r = none ∧ d.obn (K.REG_FRESH_LIMIT r) ≠ 0 ∧ e.valid = true ∧ e.forced = false ∧ e.stale = false ∧ d.obn (K.REG_STALE_NOW r) ≠ 0 ∧ d.obn (K.REG_FRESH_LIMIT r) < ageOf (d.stampOf r (d.tbNs (d.obn (K.REG_TB r)))) e.stamp) ∧
    (∃ (s : State) (r : Src) (g : Fin 1024), s.opens r (K.REG_CONTEST_CLEAR g) [1] 1 = true) ∧
    (∃ (s : State) (r : Src) (g : Fin 1024) (d1 : Dev) (k : Nat), s.opens r (K.REG_CLEAR g) [1] 1 = true ∧ let d := s.taken r 2 (K.REG_CLEAR g) 0 [1]; d.obn (K.REG_OWNER g) = 0xFF ∧ d.cellar.clearing.contains g.val = false ∧ (d.tap.queue.any fun q => q.holder == .region g) = false ∧ d.ask (.region g) 1200 (1 + (d.obn (K.REG_SIZE g) + 249) / 250) 3 (d.waitLeft (some r)) 0 = (d1, .granted k)) ∧
    (∃ (s : State) (g : Fin 1024) (t : Tx), s.dev.cellar.clearing.contains g.val = true ∧ let d := (s.cmd.modCellar fun c => { c with clearing := c.clearing.filter fun q => q != g.val }).releaseAll (.region g); d.dict.inflight.find? (fun t => t.wait == .clearing g) = some t) ∧
    (∃ (s : State) (r : Src) (g : Fin 1024) (v : Word), s.opens r (K.REG_OWNER g) [v.toNat] 2 = true ∧ let d := s.taken r 2 (K.REG_OWNER g) 0 [v.toNat]; (d.mode = 2 ∨ d.mode = 7) ∧ (v.toNat < 128 ∨ v.toNat = 0xFE ∨ v.toNat = 0xFF) ∧ d.devNames g = false ∧ 128 ≤ d.obn (K.REG_OWNER g)) :=
  ⟨⟨on (queued 968 (frame 64 {})), ((on (queued 968 (frame 64 {}))).cmd.takeWhole 37 (fun _ => true)).1, 968, frame 64 {}, by decide +kernel⟩,
   ⟨on (fun d => queued 968 (frame 64 { aux := 32767 }) (d.st 0x27FFFC (2 ^ 23))), ((on (fun d => queued 968 (frame 64 { aux := 32767 }) (d.st 0x27FFFC (2 ^ 23)))).cmd.takeWhole 37 (fun _ => true)).1, 968, frame 64 { aux := 32767 }, by decide +kernel, 0, by decide +kernel⟩,
   ⟨on (fun d => put [(K.REG_FRESH_LIMIT 0, 1)] (region0 d)), 0, 0, by decide +kernel⟩,
   ⟨(put [(K.REG_FRESH_LIMIT 0, 1), (K.REG_STALE_NOW 0, 1)] (region0 upDev)).putEntry 1023 ⟨0, 1, 0, 0, false, false, true, false, 0⟩, 1023, 0, by decide +kernel⟩,
   ⟨up, rq, 1023, by decide +kernel⟩,
   ⟨on region0, rq, 0, (((on region0).taken rq 2 (K.REG_CLEAR 0) 0 [1]).ask (.region 0) 1200 6 3 (((on region0).taken rq 2 (K.REG_CLEAR 0) 0 [1]).waitLeft (some rq)) 0).1, 1, by decide +kernel⟩,
   ⟨on (fun d => { d with cellar := { clearing := [1023] }, dict := { d.dict with inflight := [⟨rq, 2, K.REG_CLEAR 1023, 0, .clearing 1023, none, [0, 1]⟩] } }), 1023, ⟨rq, 2, K.REG_CLEAR 1023, 0, .clearing 1023, none, [0, 1]⟩, by decide +kernel⟩,
   ⟨up, rq, 1023, 0xFE, by decide +kernel⟩⟩

/-- The hypotheses of CellarCommands can be met, part 2. -/
theorem test_hyps_CellarCommands_2 :
    (∃ (s : State) (r : Src) (g : Fin 1024) (v : Word) (el : Fin 2), let key := K.REG_BASE g + el; s.opens r key [v.toNat] 2 = true ∧ let d := s.taken r 2 key 0 [v.toNat]; (d.mode = 2 ∨ d.mode = 7) ∧ let e := d.event.setOb key (v.toNat : Nat); v.toNat % 16 = 0 ∧ (el = 0 → v.toNat < 2 ^ 20) ∧ e.obn (K.REG_BASE g) + e.obn (K.REG_SIZE g) ≤ 2 ^ 20 ∧ (d.regions.any fun q => q != g.val && runsMeet (e.obn (K.REG_BASE g)) (e.obn (K.REG_SIZE g)) (d.obn (K.REG_BASE q)) (d.obn (K.REG_SIZE q))) = false ∧ d.devNames g = false ∧ 128 ≤ d.obn (K.REG_OWNER g)) ∧
    (∃ (s : State) (n : Fin 4096) (t : Tpl) (at_ : Nat), mget? s.dev.cellar.tpls n = some t ∧ t.nextAt = some at_ ∧ let tb := s.dev.ld t.hdr / 2 ^ 14 % 8; let per := s.dev.ld (t.hdr + 3) * 1000; let b := s.cmd.upToOn tb at_; let d := b.each (b.firesFirst n ((b.tplLate t).getD 0)) Dev.fireOne; mget? d.cellar.tpls n = some t ∧ d.ld t.hdr = s.dev.ld t.hdr ∧ d.ld (t.hdr + 3) = s.dev.ld (t.hdr + 3) ∧ d.tbNs tb - at_ ≤ 2000 ∧ d.tbNs tb - at_ < per) :=
  ⟨⟨up, rq, 1023, 0x100000, 1, by decide +kernel⟩,
   ⟨on (fun d => { d.st 0x260003 1 with cellar := { tpls := [(4095, ⟨0x260000, .dev, some 0⟩)] } }), 4095, ⟨0x260000, .dev, some 0⟩, 0, by decide +kernel⟩⟩

/-- The hypotheses of EntryWrites can be met. -/
theorem test_hyps_EntryWrites :
    (∃ (d : Dev) (r : Nat) (w : CWrite), let e := d.entry w.sig; w.op = .unforce ∧ e.forced = false) ∧
    (∃ (d : Dev) (r : Nat) (w : CWrite), let e := d.entry w.sig; w.op = .unforce ∧ e.forced = true) ∧
    (∃ (d : Dev) (r : Nat) (w : CWrite), let e := d.entry w.sig; w.op = .write ∧ e.forced = true) ∧
    (∃ (d : Dev) (r : Nat) (w : CWrite), let e := d.entry w.sig; w.op = .write ∧ e.forced = false ∧ (d.isFresh r e (d.stampOf r w.ns) = false ∨ (d.sourceId w.src w.node = d.sourceId e.source e.node ∧ w.node = e.node)) ∧ e.stale = false) ∧
    (∃ (d : Dev) (r : Nat) (w : CWrite), let e := d.entry w.sig; w.op = .write ∧ e.forced = false ∧ d.isFresh r e (d.stampOf r w.ns) = true ∧ d.sourceId w.src w.node ≠ d.sourceId e.source e.node ∧ (d.contest r).obn (K.REG_POLICY r) = 0 ∧ (d.contest r).ownerWrite r w.src w.node = false) ∧
    (∃ (d : Dev) (r : Nat) (w : CWrite), let e := d.entry w.sig; w.op = .force ∧ e.forced = false ∧ e.stale = false) :=
  ⟨⟨upDev, 0, ⟨5, 2 ^ 48 - 1, 0, 0, .unforce, 0⟩, by decide +kernel⟩,
   ⟨upDev.putEntry 5 ⟨0, 0, 0, 0, false, false, true, true, 0⟩, 0, ⟨5, 2 ^ 48 - 1, 0, 0, .unforce, 0⟩, by decide +kernel⟩,
   ⟨upDev.putEntry 5 ⟨0, 0, 0, 0, false, false, true, true, 0⟩, 0, ⟨5, 2 ^ 48 - 1, 0, 0, .write, 0⟩, by decide +kernel⟩,
   ⟨upDev, 0, ⟨5, 2 ^ 48 - 1, 0, 0, .write, 0⟩, by decide +kernel⟩,
   ⟨upDev.putEntry 5 ⟨0, 0, 0, 0, false, false, true, false, 0⟩, 0, ⟨5, 2 ^ 48 - 1, 121, 0, .write, 0⟩, by decide +kernel⟩,
   ⟨upDev, 0, ⟨5, 2 ^ 48 - 1, 0, 0, .force, 0⟩, by decide +kernel⟩⟩

/-- The hypotheses of EntryWords can be met. -/
theorem test_hyps_EntryWords :
    ∃ (d : Dev) (n : Nat) (e : Entry), e.value < 2 ^ 48 ∧ e.stamp < 2 ^ 24 ∧ e.source < 2 ^ 7 ∧ e.node < 2 ^ 9 ∧ e.count < 2 ^ 4 ∧ ∃ a, (a < sigAddr n 0 ∨ sigAddr n 4 ≤ a) :=
  ⟨upDev, 1048575, ⟨2 ^ 48 - 1, 2 ^ 24 - 1, 127, 511, true, true, true, true, 15⟩, by decide +kernel, by decide +kernel, by decide +kernel, by decide +kernel, by decide +kernel, sigAddr 1048575 4, by decide +kernel⟩

/-- The hypotheses of EnvelopeBytes can be met. -/
theorem test_hyps_EnvelopeBytes :
    ∃ e : Env, e.dest < 2 ^ 10 ∧ e.cls < 8 ∧ e.colour < 4 ∧ e.src < 2 ^ 7 ∧ e.rate < 16 ∧ e.vid < 2 ^ 12 ∧ e.tsTb < 8 ∧ e.tsTag < 256 ∧ e.tsOff < 256 ∧ e.csumOff < 256 ∧ e.ctx < 2 ^ 7 ∧ e.ingS < 2 ^ 16 ∧ e.ingNs < 2 ^ 32 ∧ e.mat < 2 ^ 13 ∧ e.meter < 2 ^ 11 ∧ e.aux < 2 ^ 16 ∧ (e.mc = true ∨ e.dest.testBit 3 = false) :=
  ⟨{ mc := true, dest := 1023, cls := 7, colour := 3, src := 127, rate := 15, vid := 4095, tsTb := 7, tsTag := 255, tsOff := 255, csumOff := 255, ctx := 127, ingS := 65535, ingNs := 2 ^ 32 - 1, mat := 8191, meter := 2047, aux := 65535 }, by decide +kernel⟩

/-- The other kind of destination. -/
theorem test_hyps_EnvelopeBytes_2 :
    ∃ e : Env, e.dest < 2 ^ 10 ∧ e.cls < 8 ∧ e.colour < 4 ∧ e.src < 2 ^ 7 ∧ e.rate < 16 ∧ e.vid < 2 ^ 12 ∧ e.tsTb < 8 ∧ e.tsTag < 256 ∧ e.tsOff < 256 ∧ e.csumOff < 256 ∧ e.ctx < 2 ^ 7 ∧ e.ingS < 2 ^ 16 ∧ e.ingNs < 2 ^ 32 ∧ e.mat < 2 ^ 13 ∧ e.meter < 2 ^ 11 ∧ e.aux < 2 ^ 16 ∧ (e.mc = true ∨ e.dest.testBit 3 = false) :=
  ⟨{ dest := 0x3F7, cls := 7, colour := 3, src := 127, rate := 15, vid := 4095, tsTb := 7, tsTag := 255, tsOff := 255, csumOff := 255, ctx := 127, ingS := 65535, ingNs := 2 ^ 32 - 1, mat := 8191, meter := 2047, aux := 65535 }, by decide +kernel⟩

/-- The hypotheses of TimeBaseWrites can be met, part 1. -/
theorem test_hyps_TimeBaseWrites_1 :
    (∃ (s : State) (r : Src) (n : Fin 8) (v : BitVec 48), n ≠ 0 ∧ s.opens r (K.TB_INCR n) (hiLo v) 1 = true ∧ let d := s.taken r 2 (K.TB_INCR n) 0 (hiLo v); d.disciplines n = 0 ∧ 0x00FFBE76C9 ≤ v.toNat ∧ v.toNat ≤ 0x0100418937) ∧
    (∃ (s : State) (r : Src) (n : Fin 8) (v : BitVec 48), n ≠ 0 ∧ s.opens r (K.TB_OFFSET n) (hiLo v) 1 = true ∧ let d := s.taken r 2 (K.TB_OFFSET n) 0 (hiLo v); let sum := (d.tb n).slewLeft + v.toInt * 2 ^ 32; let k := d.obn (K.TB_SLEW_TICKS n); d.disciplines n = 0 ∧ 2 * sum.natAbs ≤ k * 2 ^ 32) ∧
    (∃ (s : State) (r : Src) (n : Fin 8) (v : Word), v.toNat ≤ 1 ∧ s.opens r (K.TB_SYNCED n) [v.toNat] 1 = true ∧ n = 0) ∧
    (∃ (s : State) (r : Src) (n : Fin 8) (v : Word), v.toNat ≤ 1 ∧ s.opens r (K.TB_SYNCED n) [v.toNat] 1 = true ∧ let d := s.taken r 2 (K.TB_SYNCED n) 0 [v.toNat]; n ≠ 0 ∧ d.disciplines n ≠ 0) ∧
    (∃ (s : State) (r : Src) (n : Fin 8) (v : Word), v.toNat ≤ 1 ∧ s.opens r (K.TB_SYNCED n) [v.toNat] 1 = true ∧ let d := s.taken r 2 (K.TB_SYNCED n) 0 [v.toNat]; n ≠ 0 ∧ d.disciplines n = 0 ∧ v = 1) ∧
    (∃ (s : State) (r : Src) (n : Fin 8) (v : Word), v.toNat ≤ 1 ∧ s.opens r (K.TB_SYNCED n) [v.toNat] 1 = true ∧ let d := s.taken r 2 (K.TB_SYNCED n) 0 [v.toNat]; n ≠ 0 ∧ d.disciplines n = 0 ∧ v = 0) ∧
    (∃ (s : State) (r : Src) (which : Discipline) (v : Word), which ≠ .tbDiscCtx 0 ∧ discBase which v.toNat = some v.toNat ∧ s.opens r (discKey which) [v.toNat] 2 = true ∧ let d := s.taken r 2 (discKey which) 0 [v.toNat]; let d' := d.event.discPut which v.toNat; (d.mode = 2 ∨ d.mode = 7) ∧ (∀ n, d.discNames which v.toNat = some n → d'.disciplines n ≤ 1)) ∧
    (∃ (s : State) (r : Src) (which : Discipline) (v : Word), which ≠ .tbDiscCtx 0 ∧ discBase which v.toNat = some v.toNat ∧ s.opens r (discKey which) [v.toNat] 2 = true ∧ let d := s.taken r 2 (discKey which) 0 [v.toNat]; let d' := d.event.discPut which v.toNat; (d.mode = 2 ∨ d.mode = 7) ∧ ∃ n, d.discNames which v.toNat = some n ∧ 1 < d'.disciplines n) :=
  ⟨⟨up, rq, 7, 0x0100418937, by decide +kernel⟩,
   ⟨up, rq, 7, 0, by decide +kernel⟩,
   ⟨up, rq, 0, 1, by decide +kernel⟩,
   ⟨on (put [(K.TB_DISC_CTX 7, 127)]), rq, 7, 1, by decide +kernel⟩,
   ⟨up, rq, 7, 1, by decide +kernel⟩,
   ⟨up, rq, 7, 0, by decide +kernel⟩,
   ⟨up, rq, .tbDiscCtx 7, 127, by decide +kernel, by decide +kernel, by decide +kernel, by decide +kernel, fun n h => by
    have h7 : (7 : Nat) = n := Option.some.inj h
    subst h7; decide +kernel⟩,
   ⟨on (put [(K.PPS_IN_DISC 3, 7)]), rq, .tbDiscCtx 7, 127, by decide +kernel, by decide +kernel, by decide +kernel, by decide +kernel, 7, by decide +kernel⟩⟩

/-- The hypotheses of TimeBaseWrites can be met, part 2. -/
theorem test_hyps_TimeBaseWrites_2 :
    ∃ (s : State) (r : Src) (n : Fin 8) (w0 w1 w2 w3 : Word), n ≠ 0 ∧ let w := [w0.toNat, w1.toNat, w2.toNat, w3.toNat]; s.opens r (K.TB_SET n) w 1 = true ∧ w2.toNat < 256 ∧ w2.toNat * 2 ^ 24 + w3.toNat < 1000000000 ∧ let d := s.taken r 2 (K.TB_SET n) 0 w; d.disciplines n = 0 ∧ ((d.tb n).state ≠ 0 ∨ d.schedules n = 0) :=
  ⟨up, rq, 7, 0xFFFFFF, 0xFFFFFF, 59, 10144255, by decide +kernel⟩

/-- The hypotheses of TimeBaseWrites can be met, part 3. -/
theorem test_hyps_TimeBaseWrites_3 :
    ∃ (s : State) (r : Src) (n : Fin 8) (w0 w1 w2 w3 : Word), n ≠ 0 ∧ let w := [w0.toNat, w1.toNat, w2.toNat, w3.toNat]; s.opens r (K.TB_SET n) w 1 = true ∧ w2.toNat < 256 ∧ w2.toNat * 2 ^ 24 + w3.toNat < 1000000000 ∧ let d := s.taken r 2 (K.TB_SET n) 0 w; d.disciplines n = 0 ∧ (d.tb n).state = 0 ∧ d.schedules n ≠ 0 :=
  ⟨on (put [(K.PPS_OUT_EN 3, 1), (K.PPS_OUT_TB 3, 7)]), rq, 7, 0xFFFFFF, 0xFFFFFF, 59, 10144255, by decide +kernel⟩

/-- The hypotheses of ReservePairs can be met, part 1. -/
theorem test_hyps_ReservePairs_1 :
    (∃ (s : State) (r : Src) (n : Fin 8) (v : Word), n ≠ 0 ∧ (v.toNat ≤ 7 ∨ v.toNat = 0xFF) ∧ s.opens r (K.TB_RESERVE n) [v.toNat] 2 = true ∧ let d := s.taken r 2 (K.TB_RESERVE n) 0 [v.toNat]; (d.mode = 2 ∨ d.mode = 7) ∧ (v.toNat ≤ 7 → d.chainTo n 9 v.toNat = false) ∧ (d.tb n).state ≠ 1 ∧ (d.tb n).state ≠ 2) ∧
    (∃ (s : State) (r : Src) (n : Fin 8) (v : Word), n ≠ 0 ∧ (v.toNat ≤ 7 ∨ v.toNat = 0xFF) ∧ s.opens r (K.TB_RESERVE n) [v.toNat] 2 = true ∧ let d := s.taken r 2 (K.TB_RESERVE n) 0 [v.toNat]; (d.mode = 2 ∨ d.mode = 7) ∧ v.toNat ≤ 7 ∧ d.chainTo n 9 v.toNat = true) ∧
    (∃ (s : State) (r : Src) (n : Fin 8), n ≠ 0 ∧ s.opens r (K.TB_SWITCH n) [1] 1 = true ∧ let d := s.taken r 2 (K.TB_SWITCH n) 0 [1]; d.reserveUsable n = true ∧ ((d.tb n).state = 0 ∨ (d.tb n).state = 3)) ∧
    (∃ (s : State) (r : Src) (n : Fin 8), n ≠ 0 ∧ s.opens r (K.TB_SWITCH n) [2] 1 = true ∧ let d := s.taken r 2 (K.TB_SWITCH n) 0 [2]; ((d.tb n).state = 1 ∨ (d.tb n).state = 2)) ∧
    (∃ (s : State) (n : Fin 8), (s.cmd.tb n).synced = true) ∧
    (∃ (d : Dev) (n : Nat), let e := (((d.modTb n fun b => { b with synced := false, lost := true }).logE 0x9000 n).bump (K.TB_SYNC_LOSSES n)).raise (0x520 + n); ((e.tb n).state = 1 ∨ (e.tb n).state = 2)) ∧
    (∃ (d : Dev) (n : Nat), let e := (((d.modTb n fun b => { b with synced := false, lost := true }).logE 0x9000 n).bump (K.TB_SYNC_LOSSES n)).raise (0x520 + n); e.reserveUsable n = true ∧ ((e.tb n).state = 0 ∨ (e.tb n).state = 3)) ∧
    (∃ (d : Dev) (n : Nat), let e := (((d.modTb n fun b => { b with synced := false, lost := true }).logE 0x9000 n).bump (K.TB_SYNC_LOSSES n)).raise (0x520 + n); e.reserveUsable n = false ∧ (e.tb n).state = 0) :=
  ⟨⟨up, rq, 7, 0xFF, by decide +kernel⟩,
   ⟨up, rq, 7, 7, by decide +kernel⟩,
   ⟨t7 id [(K.TB_RESERVE 7, 0)], rq, 7, by decide +kernel⟩,
   ⟨t7 (fun b => { b with state := 2 }) [], rq, 7, by decide +kernel⟩,
   ⟨t7 (fun b => { b with synced := true }) [], 7, by decide +kernel⟩,
   ⟨(t7 (fun b => { b with state := 2 }) []).dev, 7, by decide +kernel⟩,
   ⟨(t7 (fun b => { b with state := 3 }) [(K.TB_RESERVE 7, 0)]).dev, 7, by decide +kernel⟩,
   ⟨(t7 id [(K.TB_RESERVE 7, 255)]).dev, 7, by decide +kernel⟩⟩

/-- The hypotheses of ReservePairs can be met, part 2. -/
theorem test_hyps_ReservePairs_2 :
    (∃ (d : Dev) (n : Nat), let e := (((d.modTb n fun b => { b with synced := false, lost := true }).logE 0x9000 n).bump (K.TB_SYNC_LOSSES n)).raise (0x520 + n); e.reserveUsable n = false ∧ (e.tb n).state = 3) ∧
    (∃ (s : State) (n : Fin 8), s.cmd.obb (K.TB_REVERT n) = true ∧ (s.cmd.tb n).synced = true ∧ ((s.cmd.tb n).state = 1 ∨ (s.cmd.tb n).state = 2)) ∧
    (∃ (s : State) (n : Fin 8), (s.cmd.tb n).state = 1 ∧ (s.cmd.tb n).pub = s.cmd.pubRaw (s.cmd.obn (K.TB_RESERVE n)) ∧ s.cmd.slewStep n ≠ 0) ∧
    (∃ (s : State) (n : Fin 8), (s.cmd.tb n).state = 3 ∧ (s.cmd.tb n).src ≠ (s.cmd.tb n).pub ∧ s.cmd.slewStep n ≠ 0) ∧
    (∃ (s : State) (t : Fin 4) (ps : Int) (errs : Nat), s.cmd.tileRuns t = true ∧ ps.natAbs ≤ 1500) ∧
    (∃ (d : Dev) (n : Nat), (∀ k ∈ List.range' 1 7, k ≠ n → (d.tb k).lost = false) ∧ n ∈ List.range' 1 7 ∧ ∃ was : Dev, was.reserveUsable n = true) ∧
    (∃ (d : Dev) (n : Nat), (∀ k ∈ List.range' 1 7, k ≠ n → (d.tb k).lost = false) ∧ n ∈ List.range' 1 7 ∧ ∃ was : Dev, was.reserveUsable n = false ∧ d.reserveUsable n = true ∧ (d.tb n).state = 0 ∧ (d.tb n).synced = false ∧ (d.tb n).lost = true) :=
  ⟨⟨(t7 (fun b => { b with state := 3 }) [(K.TB_RESERVE 7, 255)]).dev, 7, by decide +kernel⟩,
   ⟨t7 (fun b => { b with state := 2, synced := true }) [(K.TB_REVERT 7, 1)], 7, by decide +kernel⟩,
   ⟨t7 (fun b => { b with state := 1 }) [(K.TB_RESERVE 7, 0), (K.TB_SLEW_MAX 7, 1)], 7, by decide +kernel⟩,
   ⟨t7 (fun b => { b with state := 3, src := 1 }) [(K.TB_SLEW_MAX 7, 1)], 7, by decide +kernel⟩,
   ⟨on (put [(K.TILE_STATE 3, 2)]), 3, -1500, 16, by decide +kernel⟩,
   ⟨(t7 id [(K.TB_RESERVE 7, 0)]).dev, 7, by decide +kernel, by decide, (t7 id [(K.TB_RESERVE 7, 0)]).dev, by decide +kernel⟩,
   ⟨(t7 (fun b => { b with lost := true, synced := false }) [(K.TB_RESERVE 7, 0)]).dev, 7, by decide +kernel, by decide, (t7 id [(K.TB_RESERVE 7, 255)]).dev, by decide +kernel⟩⟩

/-- The hypotheses of PpsCommands can be met. -/
theorem test_hyps_PpsCommands :
    (∃ (s : State) (i : Fin 4) (rising : Bool) (phase : Fin 8), s.cmd.domOn 2 = true ∧ rising ≠ s.cmd.obb (K.PPS_IN_EDGE i) ∧ (∀ t, (s.cmd.ppsIn i).lastAt = some t → t + 1000 ≤ s.cmd.now) ∧ s.cmd.obn (K.PPS_IN_DISC i) = 0xFF ∧ (s.cmd.ppsIn i).fifo.length < 4 ∧ (s.cmd.ppsIn i).fifo ≠ [] ∧ let ns := s.cmd.captureNs (s.cmd.obn (K.PPS_IN_TB i)) phase; let d := (s.cmd.setOb (K.PPS_IN_LAST i) (ns : Nat)).setOb (K.PPS_IN_COUNT i) (((s.cmd.setOb (K.PPS_IN_LAST i) (ns : Nat)).obn (K.PPS_IN_COUNT i) + 1) % 2 ^ 24 : Nat); i.val < s.cmd.time.ppsIn.length ∧ d.obn (K.PPS_IN_DISC i) = 0xFF) ∧
    (∃ (s : State) (i : Fin 4), s.cmd.domOn 2 = true ∧ s.cmd.obb (K.PPS_OUT_EN i) = true ∧ (s.cmd.time.ppsHigh[i.val]?).getD false = true ∧ let ph := s.cmd.obn (K.PPS_OUT_PHASE i); let t := s.cmd.tbNs (s.cmd.obn (K.PPS_OUT_TB i)); ph ≤ t) ∧
    (∃ (s : State) (c : Fin 21) (i : Fin 4) (a b : Nat) (l : List (Nat × Nat)), c.val < 20 ∧ s.cmd.coreRuns c = true ∧ s.cmd.domOn 2 = true ∧ c.val = s.cmd.roleOf 3 ∧ (s.cmd.ppsIn i).fifo = (a, b) :: l) :=
  ⟨⟨on (fun d => { d with time := { d.time with ppsIn := List.replicate 4 { fifo := [(0, 0), (0, 0), (0, 0)] } } }), 3, true, 7, by decide +kernel, by decide +kernel, (fun t h => nomatch h),
    by decide +kernel, by decide +kernel, by decide +kernel, by decide +kernel⟩,
   ⟨on (fun d => { put [(K.PPS_OUT_EN 3, 1)] d with time := { d.time with ppsHigh := List.replicate 4 true } }), 3, by decide +kernel⟩,
   ⟨on (fun d => { d with time := { d.time with ppsIn := List.replicate 4 { fifo := [(1, 2)] } } }), 16, 3, 1, 2, [], by decide +kernel⟩⟩

/-- The hypotheses of SegmentCommands can be met, part 1. -/
theorem test_hyps_SegmentCommands_1 :
    ∃ (s : State) (r : Src) (g : Fin 96) (p k : Nat) (d' e : Dev), s.opens r (K.SEG_CMD g) [1] 1 = true ∧ let d := s.taken r 2 (K.SEG_CMD g) 0 [1]; d.segStartStatus g = Stat.done ∧ d.segPort g = some p ∧ d.winPermit (winOf (p / 8) (d.obn (K.SEG_WIN g))) (1 + g) (some r) = (d', .granted k) ∧ d'.segStartStatus g = Stat.done ∧ d'.segPort g = some p ∧ d'.segBegin g = (e, Stat.done) :=
  ⟨seg95 0 id, rq, 95, 95, 1, segAsk.1, (segAsk.1.segBegin 95).1, by decide +kernel⟩

/-- The hypotheses of SegmentCommands can be met, part 2. -/
theorem test_hyps_SegmentCommands_2 :
    (∃ (s : State) (r : Src) (g : Fin 96), s.opens r (K.SEG_CMD g) [2] 1 = true) ∧
    (∃ (s : State) (g : Fin 96) (t : Nat), (s.cmd.seg g).listenEnds = some t ∧ s.cmd.segState g = 1 ∧ let d := s.cmd.upToOn (s.cmd.segTb g) t; (d.seg g).csFault = false) ∧
    (∃ (s : State) (g : Fin 96) (t : Nat), (s.cmd.seg g).listenEnds = some t ∧ s.cmd.segState g = 1 ∧ let d := s.cmd.upToOn (s.cmd.segTb g) t; (d.seg g).csFault = true) ∧
    (∃ (s : State) (g : Fin 96) (t : Nat), (s.cmd.seg g).backoffEnds = some t ∧ s.cmd.segState g = 3) ∧
    (∃ (s : State) (g : Fin 96) (n : Fin 256) (i : Nat) (t : Tpl), s.cmd.sendsSlot g n = true ∧ mget? (s.cmd.seg g).tpls n = some i ∧ mget? s.cmd.cellar.tpls i = some t ∧ let k := s.cmd.nextFiring g n; let due := ceilNs (s.cmd.actionIn g n k - s.cmd.obn (K.SEG_LEAD g) * 1000 * 2 ^ 32); let d := s.cmd.upToOn (s.cmd.segTb g) due; (∀ m, mget? (d.seg g).fireNext n = some m → (k : Int) ≤ m)) ∧
    (∃ (s : State) (g : Fin 96) (n : Fin 256) (f : QFrame) (e : Dev), s.cmd.sendsSlot g n = true ∧ s.cmd.pubRaw (s.cmd.segTb g) < s.cmd.actionPoint g n + 2 ^ 32 ∧ let d := s.cmd.upToOn (s.cmd.segTb g) (ceilNs (s.cmd.actionPoint g n)); d.portUp (d.seg g).port = true ∧ d.sump.hardHold = false ∧ d.lineBusy (d.seg g).port = false ∧ d.takeSlot g n 64 = (e, some f) ∧ f.env.tsReq = false ∧ f.env.oneStep = false) ∧
    (∃ (s : State) (g : Fin 96) (n : Fin 256), s.cmd.classifies g = true ∧ n.val ≠ 0 ∧ n.val ≤ s.cmd.segSlots g ∧ (∀ o ∈ (s.cmd.seg g).obs, o.slot < n.val) ∧ n.val ∉ (s.cmd.seg g).ownSent ∧ (s.cmd.seg g).carry = false) ∧
    (∃ (s : State) (g : Fin 96), [2, 4, 5, 6, 7].contains (s.cmd.segState g) = true) :=
  ⟨⟨seg95 6 id, rq, 95, by decide +kernel⟩,
   ⟨seg95 1 (fun x => { x with listenEnds := some 5 }), 95, 5, by decide +kernel⟩,
   ⟨seg95 1 (fun x => { x with listenEnds := some 5, csFault := true }), 95, 5, by decide +kernel⟩,
   ⟨seg95 3 (fun x => { x with backoffEnds := some 5 }), 95, 5, by decide +kernel⟩,
   ⟨slotFires, 95, 1, 4095, ⟨0x260000, .dev, some 0⟩, by decide +kernel, by decide +kernel, by decide +kernel, fun m h => nomatch (by decide +kernel : mget? ((slotFires.cmd.upToOn (slotFires.cmd.segTb 95) (ceilNs (slotFires.cmd.actionIn 95 1 (slotFires.cmd.nextFiring 95 1) - slotFires.cmd.obn (K.SEG_LEAD 95) * 1000 * 2 ^ 32))).seg 95).fireNext 1 = none).symm.trans h⟩,
   ⟨slotDue, 95, 1, { slotFrame with dep := 2000 }, ((slotDue.cmd.upToOn 0 (ceilNs (slotDue.cmd.actionPoint 95 1))).takeSlot 95 1 64).1, by decide +kernel⟩,
   ⟨seg95 6 id, 95, 255, by decide +kernel⟩,
   ⟨seg95 7 id, 95, by decide +kernel⟩⟩

/-- The hypotheses of SegmentCommands can be met, part 3. -/
theorem test_hyps_SegmentCommands_3 :
    (∃ (s : State) (r : Src) (g : Fin 96) (img : List Byte), s.puts r (K.SEG_SLOT_MAP g) 1 = true ∧ slotMapOk img = true ∧ img ≠ [] ∧ let d := s.putting r (K.SEG_SLOT_MAP g); d.segState g = 0) ∧
    (∃ (s : State) (r : Src) (g : Fin 96) (img : List Byte), s.puts r (K.SEG_SLOT_MAP g) 1 = true ∧ slotMapOk img = true ∧ img ≠ [] ∧ let d := s.putting r (K.SEG_SLOT_MAP g); d.segState g ≠ 0 ∧ sameSlots (d.dom (K.SEG_SLOT_MAP g)) img = true) ∧
    (∃ (s : State) (g : Fin 96) (ago : Nat) (f : List Byte), s.cmd.segState g = 1 ∧ (s.cmd.seg g).held = false) :=
  ⟨⟨seg95 0 id, rq, 95, slotImg, by decide +kernel⟩,
   ⟨seg95 6 id, rq, 95, [0x80, 0x50, 0x00, 0, 3, 0xE0], by decide +kernel⟩,
   ⟨seg95 1 id, 95, 0, [], by decide +kernel⟩⟩

/-- The hypotheses of MotionCommands can be met, part 1. -/
theorem test_hyps_MotionCommands_1 :
    (∃ (s : State) (g : Fin 4) (reached : Nat), s.cmd.domOn 3 = true ∧ s.cmd.obb (K.GRP_EN g) = true ∧ let due (d : Dev) := (mget d.motion.groups g {}).next * d.periodNs g + d.obn (K.GRP_PHASE g) * 1000; let b := s.cmd.upToOn (s.cmd.obn (K.GRP_TB g)) (due s.cmd); let c := b.each (b.groupsBefore g) fun d h => d.groupRun h (d.groupAxes h).length; let t := due c; let d := c.upToOn (c.obn (K.GRP_TB g)) t; d.motionLoad ≤ d.motionCap) ∧
    (∃ (s : State) (d : Dev) (q : Nat) (f : QFrame), s.cmd.domOn 3 = true ∧ s.cmd.takeWhole 39 (fun _ => true) = (d, some (q, f)) ∧ f.tail ≠ some (false, 0)) ∧
    (∃ (s : State) (d : Dev) (q : Nat) (f : QFrame), s.cmd.domOn 3 = true ∧ s.cmd.takeWhole 39 (fun _ => true) = (d, some (q, f)) ∧ f.tail = some (false, 0) ∧ f.env.src < 100) ∧
    (∃ (s : State) (d : Dev) (q : Nat) (f : QFrame), s.cmd.domOn 3 = true ∧ s.cmd.takeWhole 39 (fun _ => true) = (d, some (q, f)) ∧ f.tail = some (false, 0) ∧ 100 ≤ f.env.src ∧ f.env.src < 120 ∧ cmdRecords f.data ≠ []) ∧
    (∃ (s : State) (r : Src) (a : Fin 4096) (rec_ : List Byte), s.puts r (K.AX_CMD a) 1 = true ∧ rec_.length = 24 ∧ let d := s.putting r (K.AX_CMD a); let op := (wordsOf rec_).getD 0 0 / 65536; let w := (wordsOf rec_).drop 1; d.obb (K.AX_USE a) = true ∧ d.recLost a = false ∧ d.opInMode op = true ∧ d.cmdRange a op w = false ∧ d.cmdAccepts a op = true) ∧
    (∃ (d : Dev) (a op : Nat) (w : List Nat), d.obb (K.AX_USE a) = false) ∧
    (∃ (d : Dev) (a op : Nat) (w : List Nat), d.obb (K.AX_USE a) = true ∧ d.recLost a = false ∧ d.opInMode op = false) ∧
    (∃ (d : Dev) (a op : Nat) (w : List Nat), d.obb (K.AX_USE a) = true ∧ d.recLost a = false ∧ d.opInMode op = true ∧ d.cmdRange a op w = true) :=
  ⟨⟨on (put [(K.GRP_EN 3, 1)]), 3, 5, by decide +kernel⟩,
   ⟨motion (cmdFrame (some (true, 2)) 119), taken39 (cmdFrame (some (true, 2)) 119), 984, cmdFrame (some (true, 2)) 119, by decide +kernel⟩,
   ⟨motion (cmdFrame (some (false, 0)) 99), taken39 (cmdFrame (some (false, 0)) 99), 984, cmdFrame (some (false, 0)) 99, by decide +kernel⟩,
   ⟨motion (cmdFrame (some (false, 0)) 119), taken39 (cmdFrame (some (false, 0)) 119), 984, cmdFrame (some (false, 0)) 119, by decide +kernel⟩,
   ⟨axis95 0 [], rq, 4095, 7 :: List.replicate 23 0, by decide +kernel⟩,
   ⟨upDev, 4095, 14, [], by decide +kernel⟩,
   ⟨(axis95 0 []).dev, 4095, 12, [], by decide +kernel⟩,
   ⟨(axis95 0 []).dev, 4095, 6, [0, 0x7FFFFF, 0], by decide +kernel⟩⟩

/-- The hypotheses of MotionCommands can be met, part 2. -/
theorem test_hyps_MotionCommands_2 :
    (∃ (d : Dev) (a op : Nat) (w : List Nat), d.obb (K.AX_USE a) = true ∧ d.recLost a = false ∧ d.opInMode op = true ∧ d.cmdRange a op w = false ∧ d.cmdAccepts a op = false) ∧
    (∃ (s : State) (a : Fin 4096) (e : Nat), (s.cmd.axis a).jogEnds = some e ∧ (s.cmd.axis a).state = 2) ∧
    (∃ (s : State) (r : Src) (a : Fin 4096) (v : Word), v.toNat ≤ 1 ∧ s.opens r (K.AX_USE a) [v.toNat] 1 = true ∧ let d := s.taken r 2 (K.AX_USE a) 0 [v.toNat]; d.axParamStatus a 0 (v.toNat : Nat) true = Stat.done) ∧
    (∃ (s : State) (r : Src) (m : Fin 16) (v : BitVec 48), s.opens r (K.M_VEL m) (hiLo v) 1 = true) ∧
    (∃ (s : State) (r : Src) (a : Fin 4096) (el : Fin 27) (v : BitVec 48) (x : Desc) (n : Int), let key := K.AX_USE a + el.val; let w := axWords key v; descOf key = some x ∧ x.ty.decode w = some n ∧ x.allows n = true ∧ s.opens r key w 1 = true ∧ let d := s.taken r 2 key 0 w; el.val ≠ 0 ∧ el.val ≠ 4 ∧ d.axParamStatus a el n true = Stat.done ∧ d.recLost a = false) ∧
    (∃ (s : State) (r : Src) (a : Fin 4096) (el : Fin 27) (v : BitVec 48) (x : Desc) (n : Int), let key := K.AX_USE a + el.val; let w := axWords key v; descOf key = some x ∧ x.ty.decode w = some n ∧ x.allows n = true ∧ s.opens r key w 1 = true ∧ let d := s.taken r 2 key 0 w; d.axParamStatus a el n true ≠ Stat.done) :=
  ⟨⟨(axis95 0 []).dev, 4095, 13, [], by decide +kernel⟩,
   ⟨axis95 2 [], 4095, 5, by decide +kernel⟩,
   ⟨up, rq, 4095, 1, by decide +kernel⟩,
   ⟨up, rq, 15, 2 ^ 48 - 1, by decide +kernel⟩,
   ⟨axis95 0 [], rq, 4095, 26, 1, ⟨0, 1, 4096, 1, 26, 1, .s48, .rw, 655360000, -(2 ^ 47), 2 ^ 47 - 1, none, true, .axParam⟩, 1, by decide +kernel⟩,
   ⟨axis95 0 [], rq, 4095, 26, 0, ⟨0, 1, 4096, 1, 26, 1, .s48, .rw, 655360000, -(2 ^ 47), 2 ^ 47 - 1, none, true, .axParam⟩, 0, by decide +kernel⟩⟩

/-- The hypotheses of MailboxCommands can be met. -/
theorem test_hyps_MailboxCommands :
    (∃ (s : State) (src dst : Fin 21) (m : Fin 8) (body : List Word) (hdr : Word), src.val < 20 ∧ s.cmd.coreRuns src = true ∧ s.cmd.epOn dst = true ∧ body.length ≤ 15 ∧ let d := ((body.zip (List.range' 1 body.length)).foldl (fun d x => d.mbBody dst m x.2 x.1.toNat) s.cmd).farFirst src (0x10100 + 128 * dst + 16 * m); d.epOn dst = true) ∧
    (∃ (s : State) (dst : Fin 21) (m : Fin 8) (hdr : Word), s.cmd.host.linkUp = true ∧ s.cmd.epOn dst = true) ∧
    (∃ (s : State) (src dst : Fin 21) (m : Fin 8) (hdr : Word), src.val < 20 ∧ s.cmd.coreRuns src = true ∧ let d := s.cmd.farFirst src (0x10100 + 128 * dst + 16 * m); d.epOn dst = false) ∧
    (∃ (d : Dev) (src dst m hdr : Nat), dst < 20 ∧ src ≤ 20 ∧ m < 8 ∧ (d.ep dst).full.contains m = false) ∧
    (∃ (s : State) (ep : Fin 21) (m : Fin 8), ep.val < 20 ∧ s.cmd.coreRuns ep = true ∧ (s.cmd.ep ep).full.contains m.val = true ∧ let n := bits (s.cmd.ld (mailAddr ep m 0)) 18 15; s.cmd.poisoned (mailAddr ep m n) = false) ∧
    (∃ (s : State) (ep : Fin 21) (m : Fin 8) (v : Word), ep.val < 20 ∧ s.cmd.coreRuns ep = true) ∧
    (∃ (s : State) (m : Fin 8) (v : Word), s.cmd.host.linkUp = true) :=
  ⟨⟨up, 19, 20, 7, List.replicate 15 0xFFFFFF, 0, by decide +kernel⟩,
   ⟨linked, 19, 7, 0xFFFFFF, by decide +kernel⟩,
   ⟨on (fun d => { d with doms := 2 ^ 45 - 1 - 2 ^ 23 }), 15, 19, 7, 0, by decide +kernel⟩,
   ⟨upDev, 19, 19, 7, 0xFFFFFF, by decide +kernel⟩,
   ⟨on (tapMail 0 0 0 0), 16, 7, by decide +kernel⟩,
   ⟨up, 19, 7, 0xFFFFFF, by decide +kernel⟩,
   ⟨linked, 7, 0xFFFFFF, by decide +kernel⟩⟩

/-- The hypotheses of InterruptCommands can be met, part 1. -/
theorem test_hyps_InterruptCommands_1 :
    (∃ (s : State) (ep : Fin 21), ep.val < 20 ∧ s.cmd.coreRuns ep = true) ∧
    (∃ s : State, s.cmd.host.linkUp = true) ∧
    (∃ (s : State) (c : Fin 20) (w : Fin 3) (v : Word), s.cmd.coreRuns c = true) ∧
    (∃ (s : State) (c : Fin 20) (t : Nat), (s.cmd.core c).imodEnds = some t) ∧
    (∃ (s : State) (n : Fin 2048), s.cmd.domOn 2 = true ∧ gatherEdged n = true ∧ s.cmd.gather.en.testBit n = true ∧ s.cmd.gather.pend.testBit n = false) ∧
    (∃ (s : State) (n : Fin 2048), s.cmd.domOn 2 = true ∧ gatherEdged n = true ∧ (s.cmd.gather.en.testBit n = false ∨ s.cmd.gather.pend.testBit n = true)) ∧
    (∃ (s : State) (c : Fin 21) (w : Fin 86) (v : Word), c.val < 20 ∧ s.cmd.coreRuns c = true ∧ s.cmd.gcOwner w = c.val) ∧
    (∃ (s : State) (w : Fin 86) (v : Word), s.cmd.domOn 2 = true) :=
  ⟨⟨up, 19, by decide +kernel⟩,
   ⟨linked, by decide +kernel⟩,
   ⟨up, 19, 2, 0xFFFFFF, by decide +kernel⟩,
   ⟨core19 { imodEnds := some 100 }, 19, 100, by decide +kernel⟩,
   ⟨on (fun d => { d with gather := { d.gather with en := 2 ^ 2048 - 1 } }), 0x541, by decide +kernel⟩,
   ⟨up, 0x541, by decide +kernel⟩,
   ⟨up, 16, 31, 0xFFFFFF, by decide +kernel⟩,
   ⟨up, 85, 0xFFFFFF, by decide +kernel⟩⟩

/-- The hypotheses of InterruptCommands can be met, part 2. -/
theorem test_hyps_InterruptCommands_2 :
    (∃ (s : State) (n : Fin 32), s.cmd.host.linkUp = true ∧ s.cmd.host.vpend.testBit n = false) ∧
    (∃ (s : State) (n : Fin 32), s.cmd.host.linkUp = true ∧ s.cmd.host.vpend.testBit n = true) ∧
    (∃ (s : State) (c : Fin 20) (v : Word), s.cmd.coreRuns c = true ∧ (16 ≤ c.val ∨ 14 ≤ bits v.toNat 15 12)) ∧
    (∃ (s : State) (e : LogEntry) (l : List LogEntry), s.cmd.domOn 2 = true ∧ s.cmd.sump.consoleQueue = e :: l) ∧
    (∃ (d : Dev) (c n : Nat) (held : Bool), ∃ k, n < k ∧ k < 64) ∧
    (∃ (s : State) (n : Fin 2048), gatherEdged n = false) ∧
    (∃ (s : State) (ep : Fin 21) (c : Fin 20) (v : Word), s.cmd.coreRuns c = true) ∧
    (∃ (d : Dev) (w v n : Nat), w < 86 ∧ n < 2048) :=
  ⟨⟨linked, 31, by decide +kernel⟩,
   ⟨on (fun d => { d with host := { d.host with linkUp := true, vpend := 2 ^ 32 - 1 } }), 31, by decide +kernel⟩,
   ⟨up, 15, 0xFFFFFF, by decide +kernel⟩,
   ⟨on (fun d => { d with sump := { d.sump with consoleQueue := [⟨1, 2, 3, 4⟩] } }), ⟨1, 2, 3, 4⟩, [], by decide +kernel⟩,
   ⟨upDev, 19, 62, true, 63, by decide +kernel⟩,
   ⟨up, 0x700, by decide +kernel⟩,
   ⟨up, 20, 19, 0xFFFFFF, by decide +kernel⟩,
   ⟨upDev, 85, 255, 2047, by decide⟩⟩

/-- A word that the dictionary owns, and one that it does not own. -/
theorem test_hyps_InterruptCommands_3 :
    (∃ (s : State) (r : Src) (n : Fin 2048) (key v : Word), key.toNat = K.GC_ENABLE n ∧ v.toNat ≤ 1 ∧ s.opens r (K.GC_ENABLE n) [v.toNat] 1 = true ∧ let d := s.taken r 2 (K.GC_ENABLE n) 0 [v.toNat]; d.obn (K.GC_OWNER (n.val / 24)) ≠ 31) ∧
    (∃ (s : State) (r : Src) (n : Fin 2048) (key v : Word), key.toNat = K.GC_ENABLE n ∧ v.toNat ≤ 1 ∧ s.opens r (K.GC_ENABLE n) [v.toNat] 1 = true ∧ let d := s.taken r 2 (K.GC_ENABLE n) 0 [v.toNat]; d.obn (K.GC_OWNER (n.val / 24)) = 31) :=
  ⟨⟨on (put [(K.GC_OWNER 85, 19)]), rq, 2047, 0xB8FF01, 1, by decide +kernel⟩,
   ⟨on (put [(K.GC_OWNER 85, 31)]), rq, 2047, 0xB8FF01, 1, by decide +kernel⟩⟩

/-- The hypotheses of FirmwareCommands can be met, part 1. -/
theorem test_hyps_FirmwareCommands_1 :
    (∃ (s : State) (r : Src) (d' : Dev), s.opens r K.FW_PREPARE [1] 3 = true ∧ let d := s.taken r 2 K.FW_PREPARE 0 [1]; d.obn K.FW_STATE ≠ 1 ∧ d.obn K.FW_STATE ≠ 3 ∧ d.obn K.IMAGE_COPY ≠ 2 ∧ d.fwPermit (d.waitLeft (some r)) 0 = (d', some 0)) ∧
    (∃ s : State, s.cmd.obn K.FW_STATE = 1 ∧ (s.cmd.tap.permits.any fun p => p.holder == .firmware) = true) ∧
    (∃ (s : State) (r : Src) (d' : Dev), s.opens r K.FW_ACTIVATE [2] 3 = true ∧ let d := s.taken r 2 K.FW_ACTIVATE 0 [2]; d.obn K.FW_STATE = 4 ∧ d.mm.act = none ∧ d.fwPermit (d.waitLeft (some r)) 2 = (d', some 0)) ∧
    (∃ (s : State) (r : Src), s.opens r K.FW_ACTIVATE [1] 3 = true ∧ let d := s.taken r 2 K.FW_ACTIVATE 0 [1]; d.obn (K.FW_VERSION_AB d.otherCopy) / 65536 = d.obn K.FW_VERSION / 65536 ∧ d.obn K.FW_STATE = 4 ∧ d.mm.act = none ∧ ([16, 17, 18, 19].all d.coreRuns) = true) ∧
    (∃ (s : State) (a : FwAct), s.cmd.mm.act = some a ∧ a.keeper < 20) ∧
    (∃ (s : State) (r : Src) (role : Fin 9) (v : Word), s.opens r (K.ROLE_HOLDER role) [v.toNat] 3 = true ∧ 16 ≤ v.toNat ∧ v.toNat ≤ 19 ∧ let d := s.taken r 2 (K.ROLE_HOLDER role) 0 [v.toNat]; d.coreRuns v.toNat = true ∧ d.mm.act = none) ∧
    (∃ (s : State) (c : Fin 21) (v : Word), c.val < 20 ∧ s.cmd.coreRuns c = true ∧ c.val = s.cmd.roleOf 1 ∧ s.cmd.mode ≠ 0) ∧
    (∃ (s : State) (r : Src), s.opens r K.SUMP_RESTART [0xA5] 1 = true) :=
  ⟨⟨up, rq, ((up.taken rq 2 K.FW_PREPARE 0 [1]).fwPermit ((up.taken rq 2 K.FW_PREPARE 0 [1]).waitLeft (some rq)) 0).1, by decide +kernel⟩,
   ⟨on (fun d => ((put [(K.FW_STATE, 1)] d).fwPermit 0 0).1), by decide +kernel⟩,
   ⟨fwDown, rq, ((fwDown.taken rq 2 K.FW_ACTIVATE 0 [2]).fwPermit ((fwDown.taken rq 2 K.FW_ACTIVATE 0 [2]).waitLeft (some rq)) 2).1, by decide +kernel⟩,
   ⟨fwDown, rq, by decide +kernel⟩,
   ⟨on (fun d => d.modMm fun m => { m with act := some ⟨19, 0, 1, false, [16, 17, 18], [16, 17, 18, 19]⟩ }), ⟨19, 0, 1, false, [16, 17, 18], [16, 17, 18, 19]⟩, by decide +kernel⟩,
   ⟨up, rq, 8, 19, by decide +kernel⟩,
   ⟨up, 16, 0xFFFFFF, by decide +kernel⟩,
   ⟨up, rq, by decide +kernel⟩⟩

/-- The hypotheses of FirmwareCommands can be met, part 2. -/
theorem test_hyps_FirmwareCommands_2 :
    (∃ (s : State) (r : Src) (v : Word), v.toNat < 256 ∧ s.opens r K.ALERT_CLEAR [v.toNat] 1 = true) ∧
    (∃ (s : State) (r : Src) (v : Word), v.toNat < 256 ∧ s.opens r K.CLEAR_FAIL [v.toNat] 1 = true) ∧
    (∃ (s : State) (ir : BitVec 8), s.cmd.domOn 2 = true) ∧
    (∃ s : State, s.cmd.obn K.FW_STATE = 1 ∧ (s.cmd.eraseRenew.tap.permits.any fun p => p.holder == .firmware) = false) ∧
    (∃ d : Dev, (d.tap.permits.any fun p => p.holder == .firmware) = false ∧ (d.tap.queue.any fun q => q.holder == .firmware) = false ∧ d.obn K.FW_STATE = 1) ∧
    (∃ (s : State) (r : Src), s.opens r K.FW_ACTIVATE [1] 3 = true ∧ let d := s.taken r 2 K.FW_ACTIVATE 0 [1]; d.obn K.FW_STATE ≠ 4) ∧
    (∃ (s : State) (r : Src), s.opens r K.FW_ACTIVATE [1] 3 = true ∧ let d := s.taken r 2 K.FW_ACTIVATE 0 [1]; d.obn K.FW_STATE = 4 ∧ d.obn (K.FW_VERSION_AB d.otherCopy) / 65536 ≠ d.obn K.FW_VERSION / 65536) ∧
    (∃ (d : Dev) (free i : Nat), i < d.scanPins.length) :=
  ⟨⟨up, rq, 255, by decide +kernel⟩,
   ⟨up, rq, 255, by decide +kernel⟩,
   ⟨up, 0xFF, by decide +kernel⟩,
   ⟨{ dev := put [(K.FW_STATE, 1)] tapBusy.dev }, by decide +kernel⟩,
   ⟨put [(K.FW_STATE, 1)] upDev, by decide +kernel⟩,
   ⟨up, rq, by decide +kernel⟩,
   ⟨on (put [(K.FW_STATE, 4), (K.IMAGE_COPY, 1), (K.FW_VERSION, 0x20000)]), rq, by decide +kernel⟩,
   ⟨upDev, 0, 32, by decide +kernel⟩⟩

/-- The hypotheses of SmbusCommands can be met. -/
theorem test_hyps_SmbusCommands :
    (let pecOk (s : State) (pec : Option Bool) : Prop := pec = some true ∨ (pec = none ∧ s.dev.obb K.SMB_PEC_REQ = false); ∃ (s : State) (pec : Option Bool), pecOk s pec) ∧
    (let pecOk (s : State) (pec : Option Bool) : Prop := pec = some true ∨ (pec = none ∧ s.dev.obb K.SMB_PEC_REQ = false); ∃ (s : State) (pec : Option Bool) (b : Byte), pecOk s pec) ∧
    (let pecOk (s : State) (pec : Option Bool) : Prop := pec = some true ∨ (pec = none ∧ s.dev.obb K.SMB_PEC_REQ = false); ∃ (s : State) (pec : Option Bool) (e b2 b1 b0 : Byte), pecOk s pec) ∧
    (let pecOk (s : State) (pec : Option Bool) : Prop := pec = some true ∨ (pec = none ∧ s.dev.obb K.SMB_PEC_REQ = false); ∃ (s : State) (pec : Option Bool) (data : List Byte), pecOk s pec ∧ 9 ≤ data.length ∧ data.length ≤ 192 ∧ data.length = 9 + 3 * (data.getD 2 0).toNat) ∧
    (∃ (s : State) (pec : Option Bool) (data : List Byte), data.length ≠ 1) ∧
    (∃ s : State, s.cmd.alertCause ≠ 0 ∨ s.cmd.sump.testMode = true) ∧
    (∃ s : State, s.cmd.alertCause = 0 ∧ s.cmd.sump.testMode = false) :=
  ⟨⟨up, some true, Or.inl rfl⟩,
   ⟨up, none, 0xFF, Or.inr ⟨rfl, by decide +kernel⟩⟩,
   ⟨up, some true, 0xFF, 0xFF, 0xFF, 0xFF, Or.inl rfl⟩,
   ⟨up, some true, [0, 0, 61] ++ List.replicate 189 0xFF, Or.inl rfl, by decide +kernel⟩,
   ⟨up, some true, [], by decide +kernel⟩,
   ⟨on (fun d => d.modSump fun x => { x with refAbsent := true }), by decide +kernel⟩,
   ⟨up, by decide +kernel⟩⟩

/-- The hypotheses of SupplyEvents can be met, part 1. -/
theorem test_hyps_SupplyEvents_1 :
    (∃ s : State, s.cmd.sump.startDue = true ∧ s.cmd.sump.hostWindow = false ∧ s.cmd.sump.bootCopy ≤ 1) ∧
    (∃ s : State, s.cmd.sump.booting = true ∧ s.cmd.sump.hostWindow = true ∧ (s.cmd.bell 16).testBit 0 = true ∧ let d := s.cmd.readBell 16; let len := d.ld 0x048902; let ofs := d.ld 0x048904; s.cmd.ld 0x048903 = 1 ∧ len ≠ 0 ∧ len ≤ 30208 ∧ ofs = d.sump.hostWords ∧ ofs + len ≤ 65582) ∧
    (∃ s : State, s.cmd.sump.refAbsent = false) ∧
    (∃ s : State, s.cmd.sump.refAbsent = true ∧ let d := (s.cmd.modSump fun x => { x with refAbsent := false, oscFrac := 0 }).logE 0xF011 0; d.sump.waitRef = true) ∧
    (∃ s : State, s.cmd.sump.refAbsent = true ∧ let d := (s.cmd.modSump fun x => { x with refAbsent := false, oscFrac := 0 }).logE 0xF011 0; d.sump.waitRef = false ∧ d.mode = 0) ∧
    (∃ s : State, s.cmd.sump.refAbsent = true ∧ let d := (s.cmd.modSump fun x => { x with refAbsent := false, oscFrac := 0 }).logE 0xF011 0; d.sump.waitRef = false ∧ d.mode ≠ 0) ∧
    (∃ s : State, s.cmd.sump.holdLow = false) ∧
    (∃ s : State, s.cmd.sump.holdLow = true) :=
  ⟨⟨on (fun d => d.modSump fun x => { x with startDue := true, bootCopy := 1 }), by decide +kernel⟩,
   ⟨hostBoot, by decide +kernel⟩,
   ⟨up, by decide +kernel⟩,
   ⟨on (fun d => d.modSump fun x => { x with refAbsent := true, waitRef := true }), by decide +kernel⟩,
   ⟨on (fun d => (d.setOb K.MODE 0).modSump fun x => { x with refAbsent := true }), by decide +kernel⟩,
   ⟨on (fun d => d.modSump fun x => { x with refAbsent := true }), by decide +kernel⟩,
   ⟨up, by decide +kernel⟩,
   ⟨on (fun d => d.modSump fun x => { x with holdLow := true }), by decide +kernel⟩⟩

/-- The hypotheses of SupplyEvents can be met, part 2. -/
theorem test_hyps_SupplyEvents_2 :
    (∃ (s : State) (c : Fin 21) (a : Word), c.val < 20 ∧ s.cmd.coreRuns c = true ∧ mget? s.dev.stores c.val = none) ∧
    (∃ (s : State) (a : Word), s.cmd.host.linkUp = true ∧ mget? s.dev.stores 20 = none) ∧
    (∃ s : State, s.cmd.mode ≠ 0) ∧
    (∃ (s : State) (c : Fin 21) (a : Word), c.val < 20 ∧ s.cmd.coreRuns c = true ∧ ∃ x : LastStore, mget? s.dev.stores c.val = some x ∧ x.addr = a.toNat ∧ s.cmd.ld a.toNat = x.new ∧ x.bad = false) :=
  ⟨⟨up, 19, 0xFFFFFF, by decide +kernel⟩,
   ⟨linked, 0xFFFFFF, by decide +kernel⟩,
   ⟨up, by decide +kernel⟩,
   ⟨on (fun d => { d.st 0x1FFFFF 7 with stores := [(19, ⟨0x1FFFFF, 5, 7, false⟩)] }), 19, 0x1FFFFF, by decide +kernel, by decide +kernel, ⟨0x1FFFFF, 5, 7, false⟩, by decide +kernel⟩⟩

/-- The hypotheses of FrontCommandRuns can be met. -/
theorem test_hyps_FrontCommandRuns :
    (∃ (s : State) (c : Instr) (rest : List Instr), s.pending = c :: rest) ∧
    (∃ s : State, s.pending = []) :=
  ⟨⟨{ up with pending := [.tapRequest] }, .tapRequest, [], by decide +kernel⟩,
   ⟨up, by decide +kernel⟩⟩

/-- The hypotheses of EveryCommandCompletes can be met. -/
theorem test_hyps_EveryCommandCompletes :
    (∃ (c : Instr) (s : State), c.wellFormed = true) ∧
    (∃ (c : Instr) (s : State), c.wellFormed = false) ∧
    (∃ s : State, s.wellQueued = true) ∧
    (∃ (n : Nat) (s : State), s.wellQueued = true) :=
  ⟨⟨.mailboxPost 19 20 7 (List.replicate 15 0xFFFFFF) 0, up, by decide +kernel⟩,
   ⟨.mailboxPost 19 20 7 (List.replicate 16 0xFFFFFF) 0, up, by decide +kernel⟩,
   ⟨{ up with pending := [.tapRequest] }, by decide +kernel⟩,
   ⟨7, up, by decide +kernel⟩⟩

/-- The hypotheses of QuietSettles can be met. -/
theorem test_hyps_QuietSettles :
    (∃ d : Dev, d.quiet = true) ∧
    (∃ (s : State) (d : Dev), d.quiet = true ∧ d.dict.took = none) :=
  ⟨⟨upDev, by decide +kernel⟩,
   ⟨up, upDev, by decide +kernel⟩⟩

/-- The hypotheses of ValueEncoding can be met, part 1. -/
theorem test_hyps_ValueEncoding_1 :
    (∃ v : Int, 0 ≤ v ∧ v < 2) ∧
    (∃ v : Int, 0 ≤ v ∧ v < 2 ^ 8) ∧
    (∃ v : Int, 0 ≤ v ∧ v < 2 ^ 16) ∧
    (∃ v : Int, 0 ≤ v ∧ v < 2 ^ 24) ∧
    (∃ v : Int, 0 ≤ v ∧ v < 2 ^ 48) ∧
    (∃ v : Int, 0 ≤ v ∧ v < 2 ^ 48 * 10 ^ 9) ∧
    (∃ v : Int, -(2 ^ 23) ≤ v ∧ v < 2 ^ 23) ∧
    (∃ v : Int, -(2 ^ 47) ≤ v ∧ v < 2 ^ 47) :=
  ⟨⟨1, by decide +kernel⟩,
   ⟨255, by decide +kernel⟩,
   ⟨65535, by decide +kernel⟩,
   ⟨2 ^ 24 - 1, by decide +kernel⟩,
   ⟨2 ^ 48 - 1, by decide +kernel⟩,
   ⟨2 ^ 48 * 10 ^ 9 - 1, by decide +kernel⟩,
   ⟨-(2 ^ 23), by decide +kernel⟩,
   ⟨-(2 ^ 47), by decide +kernel⟩⟩

/-- The hypotheses of ValueEncoding can be met, part 2. -/
theorem test_hyps_ValueEncoding_2 :
    (∃ w0 w1 w2 w3 : Word, w2.toNat % 256 * 2 ^ 24 + w3.toNat < 10 ^ 9) ∧
    (∃ w0 w1 w2 w3 : Word, 10 ^ 9 ≤ w2.toNat % 256 * 2 ^ 24 + w3.toNat) :=
  ⟨⟨0xFFFFFF, 0xFFFFFF, 59, 10144255, by decide +kernel⟩,
   ⟨0, 0, 59, 10144256, by decide +kernel⟩⟩

/-- A word of core 19's program runs while no command waits, and T0 goes on. -/
theorem test_idle_runs_a_word :
    (running.idle.dev.core 19).pc = 2 ∧ ((running.idle.dev.core 19).g.get 1) = 7 ∧ running.idle.dev.now = running.dev.now + 1 := by decide +kernel

/-- Conditions that the clauses of `FrontCommandRuns` ask for can hold together. -/
theorem test_hyps_FrontCommandRuns_2 :
    (∃ (s : State) (c : Fin 20), let at_ (k : Nat) := bankAddr c (s.dev.activeOf c) (((s.dev.core c).pc.toNat + k) % 0x8000); s.dev.issues c = true ∧
      (s.dev.core c).cyc ≤ (s.dev.now - (s.dev.core c).resetAt) / 2 ∧ s.dev.poisoned (at_ 0) = false ∧
      (hasLiteral (word (s.dev.ld (at_ 0))) = true → s.dev.poisoned (at_ 1) = false)) ∧
    (∃ s : State, ∀ c : Fin 20, s.dev.issues c = false) :=
  ⟨⟨running, 19, by decide +kernel⟩, ⟨.reset, by decide +kernel⟩⟩

/-- A step that the last clauses of `ResetState` speak of. -/
theorem test_hyps_ResetState :
    ∃ s t : State, step s = .next t ∧ s.dev.mem.wf = true ∧ s.dev.domOn 0 = true ∧ s.pending.head? ≠ some .powerOn ∧ s.pending.head? ≠ some (.brownOut 7) :=
  ⟨up, up.idle, rfl, by decide +kernel⟩

end Sys2Proof.Tests
end

section
/-! SUPPORT. Decimal arithmetic (spec 11, R309 to R311): the digits of a word, the carries of a sum in any radix, and the loop over six digits, from
which `Obligations.DecimalArithmetic` follows. -/
namespace Sys2Proof.Machine

/-! ### Digits and carries of numbers -/

/-- Digit k of m in radix β. -/
def digitOf (β m k : Nat) : Nat := m / β ^ k % β

/-- The number that the digits s 0 to s (n - 1) spell in radix β. -/
def digitSum (β : Nat) (s : Nat → Nat) : Nat → Nat
  | 0 => 0
  | n + 1 => digitSum β s n + s n * β ^ n

/-- The carry into digit k of A + B + d in radix β: the parts below digit k do not fit below it. -/
def radixCarry (β A B : Nat) (d : Bool) (k : Nat) : Bool := decide (β ^ k ≤ A % β ^ k + B % β ^ k + b2n d)

theorem b2n_le_one (b : Bool) : b2n b ≤ 1 := by cases b <;> decide

theorem digitOf_lt {β : Nat} (hβ : 0 < β) (m k : Nat) : digitOf β m k < β := Nat.mod_lt _ hβ

theorem nib_eq (v k : Nat) : nib v k = (digitOf 16 v k : Nat) := rfl

theorem radixCarry_zero (β A B : Nat) (d : Bool) : radixCarry β A B d 0 = d := by
  rw [radixCarry, Nat.pow_zero, Nat.mod_one, Nat.mod_one]
  cases d <;> rfl

theorem radixCarry_top {β A B n : Nat} (hA : A < β ^ n) (hB : B < β ^ n) (d : Bool) :
    radixCarry β A B d n = decide (β ^ n ≤ A + B + b2n d) := by
  simp only [radixCarry, Nat.mod_eq_of_lt hA, Nat.mod_eq_of_lt hB]

/-- Digits below the n-th are those of the number modulo β ^ n. -/
theorem digitOf_mod_pow (β m : Nat) {k n : Nat} (h : k < n) : digitOf β (m % β ^ n) k = digitOf β m k := by
  obtain ⟨j, rfl⟩ := Nat.exists_eq_add_of_lt h
  rw [digitOf, digitOf, Nat.add_assoc, Nat.pow_add, Nat.mod_mul_right_div_self, Nat.mod_mod_of_dvd _ ⟨β ^ j, Nat.pow_succ'⟩]

/-- A number depends on the digits that spell it alone. -/
theorem digitSum_congr (β : Nat) {s t : Nat → Nat} {n : Nat} (h : ∀ k < n, s k = t k) : digitSum β s n = digitSum β t n := by
  induction n with
  | zero => rfl
  | succ n ih => rw [digitSum, digitSum, ih fun k hk => h k (Nat.lt_succ_of_lt hk), h n (Nat.lt_succ_self n)]

/-- The digits below the n-th spell the number modulo β ^ n. -/
theorem digitSum_digitOf (β m n : Nat) : digitSum β (digitOf β m) n = m % β ^ n := by
  induction n with
  | zero => rw [digitSum, Nat.pow_zero, Nat.mod_one]
  | succ n ih => rw [digitSum, ih, Nat.mod_pow_succ, digitOf, Nat.mul_comm]

/-- What n digits spell is less than β ^ n. -/
theorem digitSum_lt {β : Nat} {s : Nat → Nat} {n : Nat} (hs : ∀ k < n, s k < β) : digitSum β s n < β ^ n := by
  induction n with
  | zero => exact Nat.one_pos
  | succ n ih =>
    have low := ih fun k hk => hs k (Nat.lt_succ_of_lt hk)
    have top : (s n + 1) * β ^ n ≤ β * β ^ n := Nat.mul_le_mul_right _ (hs n (Nat.lt_succ_self n))
    rw [Nat.succ_mul] at top
    rw [digitSum, Nat.pow_succ']
    omega

/-- The digits of a number are the ones that spell it. -/
theorem digitOf_digitSum {β : Nat} {s : Nat → Nat} {n : Nat} (hs : ∀ k < n, s k < β) {k : Nat} (hk : k < n) :
    digitOf β (digitSum β s n) k = s k := by
  induction n with
  | zero => omega
  | succ n ih =>
    have low := digitSum_lt fun i h => hs i (Nat.lt_succ_of_lt h)
    rw [digitSum]
    rcases Nat.lt_succ_iff_lt_or_eq.mp hk with h | rfl
    · rw [← digitOf_mod_pow β _ h, Nat.add_mul_mod_self_right, Nat.mod_eq_of_lt low, ih (fun i h => hs i (Nat.lt_succ_of_lt h)) h]
    · rw [digitOf, Nat.add_mul_div_right _ _ (Nat.zero_lt_of_lt low), Nat.div_eq_of_lt low, Nat.zero_add, Nat.mod_eq_of_lt (hs _ hk)]

/-- The carry as a quotient: two remainders and d make less than two units of digit k. -/
theorem b2n_radixCarry {β : Nat} (hβ : 0 < β) (A B : Nat) (d : Bool) (k : Nat) :
    b2n (radixCarry β A B d k) = (A % β ^ k + B % β ^ k + b2n d) / β ^ k := by
  have hM : 0 < β ^ k := Nat.pow_pos hβ
  have hA := Nat.mod_lt A hM
  have hB := Nat.mod_lt B hM
  have hd := b2n_le_one d
  unfold radixCarry
  by_cases h : β ^ k ≤ A % β ^ k + B % β ^ k + b2n d
  · rw [decide_eq_true h, Nat.div_eq_of_lt_le (k := 1) (by omega) (by omega)]
    rfl
  · rw [decide_eq_false h, Nat.div_eq_of_lt (by omega)]
    rfl

/-- The carry out of digit k, from the carry into it. -/
theorem b2n_radixCarry_succ {β : Nat} (hβ : 0 < β) (A B : Nat) (d : Bool) (k : Nat) :
    b2n (radixCarry β A B d (k + 1)) = (digitOf β A k + digitOf β B k + b2n (radixCarry β A B d k)) / β := by
  have parts : A % β ^ (k + 1) + B % β ^ (k + 1) + b2n d
      = A % β ^ k + B % β ^ k + b2n d + β ^ k * (digitOf β A k + digitOf β B k) := by
    simp only [Nat.mod_pow_succ, digitOf, Nat.mul_add]
    omega
  rw [b2n_radixCarry hβ, b2n_radixCarry hβ, parts, Nat.pow_succ, ← Nat.div_div_eq_div_mul,
    Nat.add_mul_div_left _ _ (Nat.pow_pos hβ), Nat.add_comm]

/-- The sum's digit k, from the carry into it. -/
theorem digitOf_sum_carry {β : Nat} (hβ : 0 < β) (A B : Nat) (d : Bool) (k : Nat) :
    digitOf β (A + B + b2n d) k = (digitOf β A k + digitOf β B k + b2n (radixCarry β A B d k)) % β := by
  have parts : A + B + b2n d = A % β ^ k + B % β ^ k + b2n d + β ^ k * (A / β ^ k + B / β ^ k) := by
    have hA := Nat.mod_add_div A (β ^ k)
    have hB := Nat.mod_add_div B (β ^ k)
    rw [Nat.mul_add]
    omega
  rw [b2n_radixCarry hβ, digitOf, parts, Nat.add_mul_div_left _ _ (Nat.pow_pos hβ), Nat.add_comm _ (A / β ^ k + B / β ^ k)]
  rw [digitOf, digitOf, ← Nat.mod_add_mod (_ + _), Nat.add_mod (A / β ^ k), Nat.mod_add_mod]

/-- One digit of an addition: the digits and the carry in make the sum's digit and the carry out. -/
theorem digitOf_add {β : Nat} (hβ : 0 < β) (A B : Nat) (d : Bool) (k : Nat) :
    digitOf β A k + digitOf β B k + b2n (radixCarry β A B d k) = digitOf β (A + B + b2n d) k + β * b2n (radixCarry β A B d (k + 1)) := by
  rw [digitOf_sum_carry hβ, b2n_radixCarry_succ hβ, Nat.mod_add_div]

/-! ### The loop over six digits -/

/-- One digit of a sum and its decimal carry (R309, R310). -/
def addDigit (v : Int) : Int × Int := if 9 < v then (v - 10, 1) else (v, 0)

/-- One digit of a difference and its borrow (R309). -/
def subDigit (v : Int) : Int × Int := if v < 0 then (v + 10, 1) else (v, 0)

/-- The true sum of digit k that DAJ recovers from x, from y and from the binary carry cy (R310). -/
def dajDigit (x y : Word) (cy : Bool) (k : Nat) : Int :=
  nib x.toNat k + 16 * (b2n (if k = 5 then cy else (x ^^^ y).getLsbD (4 * k + 4)) : Int) - b2n (decide (0 < k) && (x ^^^ y).getLsbD (4 * k))

theorem addDigit_eq (v : Int) : addDigit v = (v - 10 * b2n (decide (9 < v)), (b2n (decide (9 < v)) : Int)) := by
  by_cases h : 9 < v
  · rw [addDigit, if_pos h, decide_eq_true h]
    rfl
  · rw [addDigit, if_neg h, decide_eq_false h]
    exact Prod.ext (Int.sub_zero v).symm rfl

theorem subDigit_eq (v : Int) : subDigit v = (v + 10 * b2n (decide (v < 0)), (b2n (decide (v < 0)) : Int)) := by
  by_cases h : v < 0
  · rw [subDigit, if_pos h, decide_eq_true h]
    rfl
  · rw [subDigit, if_neg h, decide_eq_false h]
    exact Prod.ext (Int.add_zero v).symm rfl

/-- A decimal digit with its carry is what ADDD splits a sum into. -/
theorem addDigit_of_lt {s : Nat} (hs : s < 10) (c : Bool) : addDigit ((s + 10 * b2n c : Nat) : Int) = ((s : Int), (b2n c : Int)) := by
  cases c with
  | false => exact if_neg (show ¬ (9 : Int) < (s : Nat) by omega)
  | true => exact (if_pos (show (9 : Int) < (s + 10 : Nat) by omega)).trans (Prod.ext (show ((s + 10 : Nat) : Int) - 10 = s by omega) rfl)

/-- A decimal digit with its borrow is what SUBD splits a difference into. -/
theorem subDigit_of_lt {s : Nat} (hs : s < 10) (c : Bool) : subDigit ((s : Int) - 10 * b2n c) = ((s : Int), (b2n c : Int)) := by
  cases c with
  | false => exact (if_neg (show ¬ (s : Int) - 0 < 0 by omega)).trans (Prod.ext (Int.sub_zero _) rfl)
  | true => exact (if_pos (show (s : Int) - 10 < 0 by omega)).trans (Prod.ext (Int.sub_add_cancel _ _) rfl)

theorem adddFlags_eq (x y : Word) (d : Bool) :
    adddFlags x y d = bcdResult (digits (fun k c => addDigit (nib x.toNat k + nib y.toNat k + c)) (b2n d)) := rfl

theorem subdFlags_eq (x y : Word) (d : Bool) :
    subdFlags x y d = bcdResult (digits (fun k c => subDigit (nib x.toNat k - nib y.toNat k - c)) (b2n d)) := rfl

theorem dajFlags_eq (x y : Word) (cy : Bool) :
    dajFlags x y cy = bcdResult (digits (fun k c => addDigit (dajDigit x y cy k + c)) (b2n false)) := by
  have cin : ∀ k : Nat, (if k = 0 then 0 else (b2n ((x ^^^ y).getLsbD (4 * k)) : Int)) = b2n (decide (0 < k) && (x ^^^ y).getLsbD (4 * k)) := by
    intro k
    cases k with
    | zero => rfl
    | succ k => rw [if_neg (Nat.succ_ne_zero k), decide_eq_true (Nat.succ_pos k), Bool.true_and]
  have cout : ∀ k : Nat, (if k = 5 then (b2n cy : Int) else b2n ((x ^^^ y).getLsbD (4 * k + 4)))
      = b2n (if k = 5 then cy else (x ^^^ y).getLsbD (4 * k + 4)) := by
    intro k
    split <;> rfl
  simp only [dajFlags, cin, cout]
  rfl

theorem foldl_range_succ {α : Type} (f : α → Nat → α) (x : α) (n : Nat) :
    (List.range (n + 1)).foldl f x = f ((List.range n).foldl f x) n := by
  rw [List.range_succ, List.foldl_append, List.foldl_cons, List.foldl_nil]

/-- A loop depends on what its steps do alone. -/
theorem foldl_range_congr {α : Type} {f g : α → Nat → α} (x : α) {n : Nat} (h : ∀ k < n, ∀ x, f x k = g x k) :
    (List.range n).foldl f x = (List.range n).foldl g x := by
  induction n with
  | zero => rfl
  | succ n ih => rw [foldl_range_succ, foldl_range_succ, ih fun k hk => h k (Nat.lt_succ_of_lt hk), h n (Nat.lt_succ_self n)]

/-- The loop looks at digits 0 to 5 alone. -/
theorem digits_congr {f g : Nat → Int → Int × Int} (h : ∀ k < 6, f k = g k) (c : Int) : digits f c = digits g c :=
  foldl_range_congr _ fun k hk x => by simp only [h k hk]

/-- A number as the loops of the conversions form it. -/
theorem foldl_range_digitSum (β : Nat) (s : Nat → Nat) (n : Nat) : (List.range n).foldl (fun x k => x + s k * β ^ k) 0 = digitSum β s n := by
  induction n with
  | zero => rfl
  | succ n ih => rw [foldl_range_succ, ih, digitSum]

/-- The loop, with the carries c and the digit sums s that its steps go through. -/
theorem digits_eq {f : Nat → Int → Int × Int} {c : Nat → Bool} {s : Nat → Int}
    (h : ∀ k < 6, f k (b2n (c k)) = (s k, (b2n (c (k + 1)) : Int))) :
    digits f (b2n (c 0)) = (digitSum 16 (fun k => wrapN 4 (s k)) 6, (b2n (c 6) : Int)) := by
  have upTo : ∀ n ≤ 6, (List.range n).foldl (fun (x : Nat × Int) k => (putDigit x.1 k (f k x.2).1, (f k x.2).2)) (0, (b2n (c 0) : Int))
      = (digitSum 16 (fun k => wrapN 4 (s k)) n, (b2n (c n) : Int)) := by
    intro n
    induction n with
    | zero => intro _; rfl
    | succ n ih =>
      intro hn
      rw [foldl_range_succ, ih (by omega), digitSum]
      simp only [h n (by omega), putDigit]
  exact upTo 6 (Nat.le_refl 6)

/-- A word that six hex digits spell reads them back. -/
theorem nib_word_digitSum {s : Nat → Nat} (hs : ∀ k < 6, s k < 16) {k : Nat} (hk : k < 6) :
    nib (word (digitSum 16 s 6)).toNat k = s k := by
  have fits : digitSum 16 s 6 < 2 ^ 24 := digitSum_lt hs
  rw [word, BitVec.toNat_ofNat, Nat.mod_eq_of_lt fits, nib_eq, digitOf_digitSum hs hk]

theorem wrapN_four_lt (v : Int) : wrapN 4 v < 16 := by
  unfold wrapN
  omega

theorem cast_wrapN_four (v : Int) : (wrapN 4 v : Int) = v % 16 := by
  unfold wrapN
  omega

theorem b2n_bne_zero (b : Bool) : ((b2n b : Int) != 0) = b := by cases b <;> rfl

/-- The carries of the loop: `carry k b` is the carry out of digit k when b comes in. -/
def carryChain (carry : Nat → Bool → Bool) (d : Bool) : Nat → Bool
  | 0 => d
  | k + 1 => carry k (carryChain carry d k)

/-- The result and the flags of a decimal operation whose loop keeps `out` of each digit's sum or difference v and carries `carry`, with the carries
that it goes through. -/
theorem exists_carries {digit : Int → Int × Int} {out : Int → Bool → Int} {carry : Int → Bool}
    (h : ∀ v, digit v = (out v (carry v), (b2n (carry v) : Int))) (V : Nat → Int → Int) (d : Bool) :
    let r := bcdResult (digits (fun k c => digit (V k c)) (b2n d))
    ∃ c : Nat → Bool, c 0 = d ∧
      (∀ k < 6, let v := V k (b2n (c k)); c (k + 1) = carry v ∧ nib r.1.toNat k = out v (c (k + 1)) % 16) ∧
      r.2 = { z := some (r.1 == 0), d := some (c 6) } := by
  let c := carryChain (fun k b => carry (V k (b2n b))) d
  have run : digits (fun k c => digit (V k c)) (b2n d)
      = (digitSum 16 (fun k => wrapN 4 (out (V k (b2n (c k))) (c (k + 1)))) 6, (b2n (c 6) : Int)) :=
    digits_eq (c := c) fun k _ => h (V k (b2n (c k)))
  refine ⟨c, rfl, fun k hk => ⟨rfl, ?_⟩, ?_⟩
  · rw [run, bcdResult, nib_word_digitSum (fun _ _ => wrapN_four_lt _) hk, cast_wrapN_four]
  · rw [run, bcdResult, b2n_bne_zero]

/-! ### ADDD, SUBD and DAJ digit by digit -/

theorem adddFlags_digits (x y : Word) (d : Bool) : ∃ c : Nat → Bool, c 0 = d ∧
    (∀ k < 6, let v := nib x.toNat k + nib y.toNat k + b2n (c k)
      c (k + 1) = decide (9 < v) ∧ nib (adddFlags x y d).1.toNat k = (v - 10 * b2n (c (k + 1))) % 16) ∧
    (adddFlags x y d).2 = { z := some ((adddFlags x y d).1 == 0), d := some (c 6) } :=
  exists_carries (out := fun v b => v - 10 * b2n b) addDigit_eq (fun k c => nib x.toNat k + nib y.toNat k + c) d

theorem subdFlags_digits (x y : Word) (d : Bool) : ∃ c : Nat → Bool, c 0 = d ∧
    (∀ k < 6, let v := nib x.toNat k - nib y.toNat k - b2n (c k)
      c (k + 1) = decide (v < 0) ∧ nib (subdFlags x y d).1.toNat k = (v + 10 * b2n (c (k + 1))) % 16) ∧
    (subdFlags x y d).2 = { z := some ((subdFlags x y d).1 == 0), d := some (c 6) } :=
  exists_carries (out := fun v b => v + 10 * b2n b) subDigit_eq (fun k c => nib x.toNat k - nib y.toNat k - c) d

theorem dajFlags_digits (x y : Word) (cy : Bool) : ∃ c : Nat → Bool, c 0 = false ∧
    (∀ k < 6, let v := dajDigit x y cy k + b2n (c k)
      c (k + 1) = decide (9 < v) ∧ nib (dajFlags x y cy).1.toNat k = (v - 10 * b2n (c (k + 1))) % 16) ∧
    (dajFlags x y cy).2 = { z := some ((dajFlags x y cy).1 == 0), d := some (c 6) } := by
  rw [dajFlags_eq]
  exact exists_carries (out := fun v b => v - 10 * b2n b) addDigit_eq (fun k c => dajDigit x y cy k + c) false

/-! ### DAJ after a binary sum -/

/-- The exclusive or of a sum and of both operands holds the carries of the addition. -/
theorem getLsbD_carries (a b : Word) {i : Nat} (hi : i < 24) :
    ((a + b) ^^^ (a ^^^ b)).getLsbD i = decide (2 ^ i ≤ a.toNat % 2 ^ i + b.toNat % 2 ^ i) := by
  rw [BitVec.getLsbD_xor, BitVec.getLsbD_xor, BitVec.getLsbD_add hi, BitVec.carry]
  have cancel : ∀ p q r : Bool, ((p ^^ (q ^^ r)) ^^ (p ^^ q)) = r := by decide
  exact cancel _ _ _

theorem getLsbD_digit_carry (a b : Word) {k : Nat} (hk : k < 6) :
    ((a + b) ^^^ (a ^^^ b)).getLsbD (4 * k) = radixCarry 16 a.toNat b.toNat false k := by
  rw [getLsbD_carries a b (by omega), Nat.pow_mul]
  rfl

/-- With the exclusive or of the operands and the carry of their sum, DAJ recovers the true sum of each digit (R310). -/
theorem dajDigit_binary_sum (a b : Word) {k : Nat} (hk : k < 6) :
    dajDigit (a + b) (a ^^^ b) (decide (2 ^ 24 ≤ a.toNat + b.toNat)) k = nib a.toNat k + nib b.toNat k := by
  have out : (if k = 5 then decide (2 ^ 24 ≤ a.toNat + b.toNat) else ((a + b) ^^^ (a ^^^ b)).getLsbD (4 * k + 4))
      = radixCarry 16 a.toNat b.toNat false (k + 1) := by
    split
    case isTrue h => rw [h]; exact (radixCarry_top (β := 16) (n := 6) a.isLt b.isLt false).symm
    case isFalse h => exact getLsbD_digit_carry a b (k := k + 1) (by omega)
  have carryIn : (decide (0 < k) && ((a + b) ^^^ (a ^^^ b)).getLsbD (4 * k)) = radixCarry 16 a.toNat b.toNat false k := by
    rw [getLsbD_digit_carry a b hk]
    cases k with
    | zero => rw [radixCarry_zero]; rfl
    | succ k => rw [decide_eq_true (Nat.succ_pos k), Bool.true_and]
  have sum : nib (a + b).toNat k = (digitOf 16 (a.toNat + b.toNat) k : Nat) := by
    rw [nib_eq, BitVec.toNat_add, show (2 : Nat) ^ 24 = 16 ^ 6 from rfl, digitOf_mod_pow 16 _ hk]
  have add : digitOf 16 a.toNat k + digitOf 16 b.toNat k + b2n (radixCarry 16 a.toNat b.toNat false k)
      = digitOf 16 (a.toNat + b.toNat) k + 16 * b2n (radixCarry 16 a.toNat b.toNat false (k + 1)) :=
    digitOf_add (by omega) a.toNat b.toNat false k
  rw [dajDigit, out, carryIn, sum, nib_eq, nib_eq]
  omega

/-- DAJ of a binary sum is the decimal sum, of any two words: the digit sums are the same. -/
theorem dajFlags_binary_sum (a b : Word) :
    dajFlags (a + b) (a ^^^ b) (decide (2 ^ 24 ≤ a.toNat + b.toNat)) = adddFlags a b false := by
  rw [dajFlags_eq, adddFlags_eq]
  exact congrArg bcdResult (digits_congr (fun k hk => by simp only [dajDigit_binary_sum a b hk]) _)

/-! ### CVBD and CVDB -/

/-- The word of the last six decimal digits of m. -/
def bcdWord (m : Nat) : Word := word (digitSum 16 (digitOf 10 m) 6)

theorem nib_bcdWord (m : Nat) {k : Nat} (hk : k < 6) : nib (bcdWord m).toNat k = (digitOf 10 m k : Nat) :=
  nib_word_digitSum (fun k _ => Nat.lt_trans (digitOf_lt (by decide) m k) (by decide)) hk

theorem digitOf_bcdWord (m : Nat) {k : Nat} (hk : k < 6) : digitOf 16 (bcdWord m).toNat k = digitOf 10 m k :=
  Int.ofNat.inj (nib_bcdWord m hk)

/-- The last six digits are all that the word shows. -/
theorem bcdWord_congr {m n : Nat} (h : ∀ k < 6, digitOf 10 m k = digitOf 10 n k) : bcdWord m = bcdWord n :=
  congrArg word (digitSum_congr 16 h)

theorem digitOf_mod_million (m : Nat) {k : Nat} (hk : k < 6) : digitOf 10 (m % 1000000) k = digitOf 10 m k :=
  digitOf_mod_pow 10 m hk

theorem bcdWord_mod_million (m : Nat) : bcdWord (m % 1000000) = bcdWord m := bcdWord_congr fun _ => digitOf_mod_million m

theorem cvbdFlags_eq (a : Word) :
    cvbdFlags a = (bcdWord a.toNat, { z := some (bcdWord a.toNat == 0), v := some (decide (999999 < a.toNat)) }) := by
  have r : word ((List.range 6).foldl (fun x k => x + a.toNat % 1000000 / 10 ^ k % 10 * 16 ^ k) 0) = bcdWord a.toNat := by
    rw [foldl_range_digitSum 16 (fun k => a.toNat % 1000000 / 10 ^ k % 10)]
    exact bcdWord_mod_million a.toNat
  simp only [cvbdFlags, r]

theorem toNat_word_of_lt {m : Nat} (h : m < 2 ^ 24) : (word m).toNat = m := Nat.mod_eq_of_lt h

theorem cvbdFlags_word_fst {m : Nat} (h : m < 1000000) : (cvbdFlags (word m)).1 = bcdWord m := by
  rw [cvbdFlags_eq, toNat_word_of_lt (by omega)]

theorem cvdbFlags_fst_toNat (a : Word) : (cvdbFlags a).1.toNat = digitSum 10 (digitOf 16 a.toNat) 6 := by
  have fits : digitSum 10 (digitOf 16 a.toNat) 6 < 2 ^ 24 := by
    have hd (k : Nat) := digitOf_lt (β := 16) (by omega) a.toNat k
    have h0 := hd 0
    have h1 := hd 1
    have h2 := hd 2
    have h3 := hd 3
    have h4 := hd 4
    have h5 := hd 5
    simp only [digitSum]
    omega
  simp only [cvdbFlags, nib_eq, Int.toNat_natCast, foldl_range_digitSum, toNat_word_of_lt fits]

theorem cvdbFlags_v (a : Word) : (cvdbFlags a).2.v = some ((List.range 6).any fun k => decide (9 < nib a.toNat k)) := rfl

theorem conversions_of_word (a : Word) :
    (∀ k < 6, nib (cvbdFlags a).1.toNat k = (a.toNat % 1000000 / 10 ^ k % 10 : Nat)) ∧
    (cvbdFlags a).2 = { z := some ((cvbdFlags a).1 == 0), v := some (decide (999999 < a.toNat)) } ∧
    ((cvdbFlags a).1.toNat : Int) = nib a.toNat 0 + nib a.toNat 1 * 10 + nib a.toNat 2 * 100 + nib a.toNat 3 * 1000 +
      nib a.toNat 4 * 10000 + nib a.toNat 5 * 100000 ∧
    (cvdbFlags a).2.z = some ((cvdbFlags a).1 == 0) ∧ ((cvdbFlags a).2.v = some true ↔ ∃ k < 6, 9 < nib a.toNat k) ∧
    (cvdbFlags a).2.n = none ∧ (cvdbFlags a).2.c = none ∧ (cvdbFlags a).2.d = none := by
  refine ⟨fun k hk => ?_, by rw [cvbdFlags_eq], ?_, rfl, ?_, rfl, rfl, rfl⟩
  · rw [cvbdFlags_eq, nib_bcdWord _ hk, ← digitOf_mod_million _ hk]
    rfl
  · rw [cvdbFlags_fst_toNat]
    simp only [digitSum, nib_eq]
    omega
  · simp only [cvdbFlags_v, Option.some.injEq, List.any_eq_true, List.mem_range, decide_eq_true_eq]

/-- Back and forth between a number of six digits and its digits (R311). -/
theorem cvdbFlags_cvbdFlags {a : Nat} (ha : a < 1000000) :
    cvdbFlags (cvbdFlags (word a)).1 = (word a, { z := some (decide (a = 0)), v := some false }) := by
  have back : (cvdbFlags (bcdWord a)).1 = word a := by
    refine BitVec.eq_of_toNat_eq ?_
    rw [cvdbFlags_fst_toNat, digitSum_congr 10 fun _ => digitOf_bcdWord a, digitSum_digitOf, toNat_word_of_lt (by omega)]
    exact Nat.mod_eq_of_lt ha
  have zero : (word a == 0) = decide (a = 0) := by
    rw [Bool.eq_iff_iff, beq_iff_eq, decide_eq_true_iff, ← BitVec.toNat_inj, toNat_word_of_lt (by omega)]
    rfl
  have decimal : ((List.range 6).any fun k => decide (9 < nib (bcdWord a).toNat k)) = false := by
    refine List.any_eq_false.mpr fun k hk => ?_
    have := digitOf_lt (β := 10) (by omega) a k
    rw [nib_bcdWord a (List.mem_range.mp hk), decide_eq_true_iff]
    omega
  rw [cvbdFlags_word_fst ha, ← zero, ← decimal, ← back]
  rfl

theorem cvbdFlags_word_v {a : Nat} (ha : a < 1000000) : (cvbdFlags (word a)).2.v = some false := by
  rw [cvbdFlags_eq, toNat_word_of_lt (by omega)]
  simp only [decide_eq_false (show ¬ 999999 < a by omega)]

/-! ### Sums and differences of numbers -/

/-- A decimal operation whose digits are those of m, with the carries c. -/
theorem bcdResult_digitsOf {f : Nat → Int → Int × Int} {c : Nat → Bool} {m : Nat} {d : Bool} (hd : c 0 = d)
    (h : ∀ k < 6, f k (b2n (c k)) = ((digitOf 10 m k : Int), (b2n (c (k + 1)) : Int))) :
    (bcdResult (digits f (b2n d))).1 = bcdWord m ∧ (bcdResult (digits f (b2n d))).2.d = some (c 6) := by
  have nibble (k : Nat) : wrapN 4 (digitOf 10 m k : Int) = digitOf 10 m k := by
    have := digitOf_lt (β := 10) (by omega) m k
    unfold wrapN
    omega
  have sum : digitSum 16 (fun k => wrapN 4 (digitOf 10 m k : Int)) 6 = digitSum 16 (digitOf 10 m) 6 := by
    simp only [nibble]
  rw [← hd, digits_eq h, bcdResult, b2n_bne_zero]
  exact ⟨congrArg word sum, rfl⟩

/-- ADDD adds the numbers of its operands (R309). -/
theorem adddFlags_bcdWord (a b : Nat) (d : Bool) :
    (adddFlags (bcdWord a) (bcdWord b) d).1 = bcdWord (a + b + b2n d) ∧
    (adddFlags (bcdWord a) (bcdWord b) d).2.d = some (radixCarry 10 a b d 6) := by
  rw [adddFlags_eq]
  refine bcdResult_digitsOf (radixCarry_zero 10 a b d) fun k hk => ?_
  rw [nib_bcdWord a hk, nib_bcdWord b hk, ← addDigit_of_lt (digitOf_lt (by omega) _ k), ← digitOf_add (by omega)]
  rfl

/-- SUBD takes b and d from their sum with r and leaves r: its borrows are the carries of that sum (R309). -/
theorem subdFlags_bcdWord (r b : Nat) (d : Bool) :
    (subdFlags (bcdWord (r + b + b2n d)) (bcdWord b) d).1 = bcdWord r ∧
    (subdFlags (bcdWord (r + b + b2n d)) (bcdWord b) d).2.d = some (radixCarry 10 r b d 6) := by
  rw [subdFlags_eq]
  refine bcdResult_digitsOf (radixCarry_zero 10 r b d) fun k hk => ?_
  have add := digitOf_add (β := 10) (by omega) r b d k
  rw [nib_bcdWord _ hk, nib_bcdWord b hk, ← subDigit_of_lt (digitOf_lt (by omega) r k)]
  congr 1
  omega

theorem adddFlags_numbers {a b : Nat} (d : Bool) (ha : a < 1000000) (hb : b < 1000000) :
    (adddFlags (cvbdFlags (word a)).1 (cvbdFlags (word b)).1 d).1 = (cvbdFlags (word ((a + b + b2n d) % 1000000))).1 ∧
    (adddFlags (cvbdFlags (word a)).1 (cvbdFlags (word b)).1 d).2.d = some (decide (1000000 ≤ a + b + b2n d)) := by
  rw [cvbdFlags_word_fst ha, cvbdFlags_word_fst hb, cvbdFlags_word_fst (Nat.mod_lt _ (by omega)), bcdWord_mod_million]
  have carry : radixCarry 10 a b d 6 = decide (1000000 ≤ a + b + b2n d) := radixCarry_top ha hb d
  obtain ⟨sum, dec⟩ := adddFlags_bcdWord a b d
  exact ⟨sum, by rw [dec, carry]⟩

theorem subdFlags_numbers {a b : Nat} (d : Bool) (ha : a < 1000000) (hb : b < 1000000) :
    (subdFlags (cvbdFlags (word a)).1 (cvbdFlags (word b)).1 d).1 = (cvbdFlags (word ((a + 1000000 - b - b2n d) % 1000000))).1 ∧
    (subdFlags (cvbdFlags (word a)).1 (cvbdFlags (word b)).1 d).2.d = some (decide (a < b + b2n d)) := by
  have hd := b2n_le_one d
  obtain ⟨r, hr⟩ : ∃ r, (a + 1000000 - b - b2n d) % 1000000 = r := ⟨_, rfl⟩
  have hr_lt : r < 1000000 := by omega
  have minuend : bcdWord a = bcdWord (r + b + b2n d) := by
    rw [← bcdWord_mod_million (r + b + b2n d), show (r + b + b2n d) % 1000000 = a by omega]
  have borrow : radixCarry 10 r b d 6 = decide (a < b + b2n d) := by
    rw [radixCarry_top (β := 10) (n := 6) hr_lt hb, decide_eq_decide]
    omega
  rw [hr, cvbdFlags_word_fst ha, cvbdFlags_word_fst hb, cvbdFlags_word_fst hr_lt, minuend]
  obtain ⟨diff, dec⟩ := subdFlags_bcdWord r b d
  exact ⟨diff, by rw [dec, borrow]⟩

/-! ### CVBD and CVDB as instructions -/

theorem exec_conversions {s : State} {c : Fin 20} {n : Nat} {rs : Fin 16} (rd : Fin 16) (h : s.issuesIn c n [rs] [] = true) :
    exec (.cvbd c rd rs) s = .next (s.ran c n 4 fun x => x.result rd (cvbdFlags (x.reg rs))) ∧
    exec (.cvdb c rd rs) s = .next (s.ran c n 4 fun x => x.result rd (cvdbFlags (x.reg rs))) :=
  ⟨State.runs h _, State.runs h _⟩

/-- Settles O26: ADDD, SUBD and DAJ by their loop's carries, the conversions by the digits of a number, and sums and differences of numbers by the
carries of decimal addition. -/
theorem decimalArithmetic : Obligations.DecimalArithmetic :=
  ⟨adddFlags_digits, subdFlags_digits, dajFlags_digits, fun a b _ _ => dajFlags_binary_sum a b, conversions_of_word,
    fun _ _ _ rd _ h => exec_conversions rd h, fun _ _ d => adddFlags_numbers d, fun _ _ d => subdFlags_numbers d,
    fun _ ha => ⟨cvdbFlags_cvbdFlags ha, cvbdFlags_word_v ha⟩⟩

end Sys2Proof.Machine
end

section
/-! SUPPORT. Envelopes as bytes (spec 13, R345): the bytes of an image in parts, the table of the rule, and the envelope that the table gives back, from
which `Obligations.EnvelopeBytes` follows. -/
namespace Sys2Proof.Machine

/-! ### Images in parts -/

@[simp] theorem length_beBytes (n v : Nat) : (beBytes n v).length = n := by rw [beBytes, List.length_map, List.length_range]

theorem byteAt_lt (l : List Byte) (i : Nat) : byteAt l i < 256 := BitVec.isLt _

theorem byteAt_eq_toNat {l : List Byte} {i : Nat} (h : i < l.length) : byteAt l i = l[i].toNat := by
  rw [byteAt, List.getElem?_eq_getElem h, Option.getD_some]

theorem byteAt_append (p q : List Byte) (i : Nat) : byteAt (p ++ q) i = if i < p.length then byteAt p i else byteAt q (i - p.length) := by
  simp only [byteAt, List.getElem?_append, apply_ite fun o : Option Byte => (o.getD 0).toNat]

theorem byteAt_beBytes {n i : Nat} (v : Nat) (h : i < n) : byteAt (beBytes n v) i = v / 2 ^ (8 * (n - 1 - i)) % 256 := by
  rw [byteAt_eq_toNat (by rwa [length_beBytes])]
  simp only [beBytes, List.getElem_map, List.getElem_range, BitVec.toNat_ofNat, Nat.shiftRight_eq_div_pow]

theorem beNat_take_succ {l : List Byte} {n : Nat} (h : n < l.length) : beNat (l.take (n + 1)) = beNat (l.take n) * 256 + byteAt l n := by
  rw [← List.take_append_getElem h, byteAt_eq_toNat h, beNat, List.foldl_append]
  rfl

theorem byteAt_drop (l : List Byte) (k i : Nat) : byteAt (l.drop k) i = byteAt l (k + i) := by
  rw [byteAt, List.getElem?_drop]
  rfl

/-- The number in four bytes of an image. -/
theorem beNat_four {l : List Byte} {k : Nat} (h : k + 4 ≤ l.length) :
    beNat ((l.drop k).take 4) = ((byteAt l k * 256 + byteAt l (k + 1)) * 256 + byteAt l (k + 2)) * 256 + byteAt l (k + 3) := by
  have room : 4 ≤ (l.drop k).length := by rw [List.length_drop]; omega
  rw [beNat_take_succ (n := 3) (by omega), beNat_take_succ (n := 2) (by omega), beNat_take_succ (n := 1) (by omega), beNat_take_succ (n := 0) (by omega)]
  simp only [byteAt_drop, List.take_zero, beNat, List.foldl_nil, Nat.zero_mul, Nat.zero_add, Nat.add_zero]

theorem testBit_eq_of_div_mod {n k : Nat} {b : Bool} (h : n / 2 ^ k % 2 = b2n b) : n.testBit k = b := by
  rw [Nat.testBit_eq_decide_div_mod_eq, h]
  cases b <;> rfl

/-- Two bytes with a flag on top and a number whose upper bits are the first byte modulo m. -/
theorem flag_number_of_two_bytes {a b v m : Nat} {f : Bool} (h : a * 256 + b = b2n f * 2 ^ 15 + v) (hb : b < 256) (hv : v < m * 256) (hm : m ∣ 128) :
    a.testBit 7 = f ∧ a % m * 256 + b = v := by
  have hm_le := Nat.le_of_dvd (by decide) hm
  have hf := b2n_le_one f
  have top : a = 128 * b2n f + v / 256 := by omega
  have upper : a % m = v / 256 := by
    obtain ⟨q, hq⟩ := hm
    rw [top, hq, Nat.mul_assoc, Nat.mul_add_mod, Nat.mod_eq_of_lt (by omega)]
  have lower : b = v % 256 := by omega
  exact ⟨testBit_eq_of_div_mod (by omega), by rw [upper, lower, Nat.div_add_mod']⟩

/-! ### The table of R345 -/

/-- The fields of an envelope fit their bits, bit 3 of a destination that is no group being reserved (R345). -/
structure Env.Fits (e : Env) : Prop where
  dest : e.dest < 2 ^ 10
  cls : e.cls < 8
  colour : e.colour < 4
  src : e.src < 2 ^ 7
  rate : e.rate < 16
  vid : e.vid < 2 ^ 12
  tsTb : e.tsTb < 8
  tsTag : e.tsTag < 256
  tsOff : e.tsOff < 256
  csumOff : e.csumOff < 256
  ctx : e.ctx < 2 ^ 7
  ingS : e.ingS < 2 ^ 16
  ingNs : e.ingNs < 2 ^ 32
  mat : e.mat < 2 ^ 13
  meter : e.meter < 2 ^ 11
  aux : e.aux < 2 ^ 16
  reserved : e.mc = true ∨ e.dest.testBit 3 = false

/-- The bytes b hold the fields of an envelope where the table of R345 has them, with 0 in the reserved bits. -/
structure Env.LaidOut (e : Env) (b : Nat → Nat) : Prop where
  mc_dest : b 0 * 256 + b 1 = b2n e.mc * 2 ^ 15 + e.dest
  cls_colour_ct_fcsIn : b 2 = e.cls * 2 ^ 5 + e.colour * 2 ^ 3 + b2n e.ct * 2 ^ 2 + b2n e.fcsIn * 2
  src : b 3 = e.src
  rate_vid : b 4 * 256 + b 5 = e.rate * 2 ^ 12 + e.vid
  tsReq_oneStep_tsEst_tsTb : b 6 = b2n e.tsReq * 2 ^ 7 + b2n e.oneStep * 2 ^ 6 + b2n e.tsEst * 2 ^ 5 + e.tsTb
  tsTag : b 7 = e.tsTag
  tsOff : b 8 = e.tsOff
  csumOff : b 9 = e.csumOff
  ctxV_ctx : b 10 = b2n e.ctxV * 2 ^ 7 + e.ctx
  reserved : b 11 = 0
  ingS : b 12 * 256 + b 13 = e.ingS
  ingNs : ((b 14 * 256 + b 15) * 256 + b 16) * 256 + b 17 = e.ingNs
  hit_mat : b 18 * 256 + b 19 = b2n e.hit * 2 ^ 15 + e.mat
  mv_meter : b 20 * 256 + b 21 = b2n e.mv * 2 ^ 15 + e.meter
  aux : b 22 * 256 + b 23 = e.aux

theorem destBits_of_reserved {mc : Bool} {dest : Nat} (fits : dest < 2 ^ 10) (h : mc = true ∨ dest.testBit 3 = false) : destBits mc dest = dest := by
  cases mc with
  | true => exact Nat.mod_eq_of_lt fits
  | false =>
    have clear := h.resolve_left Bool.false_ne_true
    rw [Nat.testBit_eq_decide_div_mod_eq, decide_eq_false_iff_not] at clear
    simp only [destBits, Bool.false_eq_true, if_false]
    omega

theorem Env.length_bytes (e : Env) : e.bytes.length = 24 := by
  simp only [Env.bytes, List.length_append, length_beBytes, List.length_singleton]

theorem Env.flags_le_one (e : Env) :
    b2n e.mc ≤ 1 ∧ b2n e.ct ≤ 1 ∧ b2n e.fcsIn ≤ 1 ∧ b2n e.tsReq ≤ 1 ∧ b2n e.oneStep ≤ 1 ∧ b2n e.tsEst ≤ 1 ∧ b2n e.ctxV ≤ 1 ∧ b2n e.hit ≤ 1 ∧
    b2n e.mv ≤ 1 := by
  simp only [b2n_le_one, and_self]

/-- What a sender lays out: a byte of the image is one of the part that covers it, and fields that fit do not reach into each other. -/
theorem Env.Fits.laidOut {e : Env} (h : e.Fits) : e.LaidOut (byteAt e.bytes) := by
  have dest := destBits_of_reserved h.dest h.reserved
  have flags := e.flags_le_one
  have zero : byteAt [0] 0 = 0 := rfl
  obtain ⟨_, _, _, _, _, _, _, _, _, _, _, _, _, _, _, _, -⟩ := h
  constructor
  all_goals simp only [Env.bytes, dest, zero, byteAt_append, byteAt_beBytes, List.length_append, length_beBytes, List.length_singleton, Nat.reduceAdd,
    Nat.reduceSub, Nat.reduceMul, Nat.reducePow, Nat.reduceLT, if_true, if_false]
  all_goals omega

/-- What a receiver reads: each line of the table has one solution in fields that fit. -/
theorem Env.LaidOut.envOf_eq {e : Env} {l : List Byte} (h : e.LaidOut (byteAt l)) (fits : e.Fits) (len : l.length = 24) : envOf l = e := by
  obtain ⟨-, ct_le, fcsIn_le, tsReq_le, oneStep_le, tsEst_le, ctxV_le, -, -⟩ := e.flags_le_one
  obtain ⟨mc, dest⟩ : (byteAt l 0).testBit 7 = e.mc ∧ byteAt l 0 % 4 * 256 + byteAt l 1 = e.dest :=
    flag_number_of_two_bytes h.mc_dest (byteAt_lt l 1) fits.dest (by decide)
  obtain ⟨cls, colour, ct, fcsIn⟩ : byteAt l 2 / 32 = e.cls ∧ byteAt l 2 / 8 % 4 = e.colour ∧ (byteAt l 2).testBit 2 = e.ct ∧
      (byteAt l 2).testBit 1 = e.fcsIn := by
    have eq := h.cls_colour_ct_fcsIn
    have fit := fits.colour
    exact ⟨by omega, by omega, testBit_eq_of_div_mod (by omega), testBit_eq_of_div_mod (by omega)⟩
  have src : byteAt l 3 % 128 = e.src := (congrArg (· % 128) h.src).trans (Nat.mod_eq_of_lt fits.src)
  obtain ⟨rate, vid⟩ : byteAt l 4 / 16 = e.rate ∧ byteAt l 4 % 16 * 256 + byteAt l 5 = e.vid := by
    have eq := h.rate_vid
    have fit := fits.vid
    have low := byteAt_lt l 5
    omega
  obtain ⟨tsReq, oneStep, tsEst, tsTb⟩ : (byteAt l 6).testBit 7 = e.tsReq ∧ (byteAt l 6).testBit 6 = e.oneStep ∧ (byteAt l 6).testBit 5 = e.tsEst ∧
      byteAt l 6 % 8 = e.tsTb := by
    have eq := h.tsReq_oneStep_tsEst_tsTb
    have fit := fits.tsTb
    exact ⟨testBit_eq_of_div_mod (by omega), testBit_eq_of_div_mod (by omega), testBit_eq_of_div_mod (by omega), by omega⟩
  obtain ⟨ctxV, ctx⟩ : (byteAt l 10).testBit 7 = e.ctxV ∧ byteAt l 10 % 128 = e.ctx := by
    have eq := h.ctxV_ctx
    have fit := fits.ctx
    exact ⟨testBit_eq_of_div_mod (by omega), by omega⟩
  have ingNs : beNat ((l.drop 14).take 4) = e.ingNs := by rw [beNat_four (by omega), h.ingNs]
  obtain ⟨hit, mat⟩ : (byteAt l 18).testBit 7 = e.hit ∧ byteAt l 18 % 32 * 256 + byteAt l 19 = e.mat :=
    flag_number_of_two_bytes h.hit_mat (byteAt_lt l 19) fits.mat (by decide)
  obtain ⟨mv, meter⟩ : (byteAt l 20).testBit 7 = e.mv ∧ byteAt l 20 % 8 * 256 + byteAt l 21 = e.meter :=
    flag_number_of_two_bytes h.mv_meter (byteAt_lt l 21) fits.meter (by decide)
  simp only [envOf, mc, dest, destBits_of_reserved fits.dest fits.reserved, cls, colour, ct, fcsIn, src, rate, vid, tsReq, oneStep, tsEst, tsTb, h.tsTag,
    h.tsOff, h.csumOff, ctxV, ctx, h.ingS, ingNs, hit, mat, mv, meter, h.aux]

/-- Settles O45: the bytes lie as the table has them, and the table gives back every field. -/
theorem envelopeBytes : Obligations.EnvelopeBytes := by
  intro e dest cls colour src rate vid tsTb tsTag tsOff csumOff ctx ingS ingNs mat meter aux reserved
  have fits : e.Fits := ⟨dest, cls, colour, src, rate, vid, tsTb, tsTag, tsOff, csumOff, ctx, ingS, ingNs, mat, meter, aux, reserved⟩
  have L := fits.laidOut
  exact ⟨e.length_bytes, L.envOf_eq fits e.length_bytes, L.mc_dest, L.cls_colour_ct_fcsIn, L.src, L.rate_vid, L.tsReq_oneStep_tsEst_tsTb, L.tsTag,
    L.tsOff, L.csumOff, L.ctxV_ctx, L.reserved, L.ingS, L.ingNs, L.hit_mat, L.mv_meter, L.aux⟩

end Sys2Proof.Machine
end

section
/-! SUPPORT. The words of object values (spec 00, R3; 03, R70): numbers below a power of 2, two's complement, two words as one number, from which
`Obligations.ValueEncoding` follows. -/
namespace Sys2Proof.Machine

theorem wrapN_of_nonneg {w : Nat} {v : Int} (h : 0 ≤ v) (hv : v < 2 ^ w) : (wrapN w v : Int) = v := by
  rw [wrapN, Int.emod_eq_of_lt h hv, Int.toNat_of_nonneg h]

theorem int_two_pow_pos (w : Nat) : (0 : Int) < 2 ^ w := Int.pow_pos (by decide)

theorem wrapN_cast (w : Nat) (v : Int) : (wrapN w v : Int) = v % 2 ^ w := Int.toNat_of_nonneg (Int.emod_nonneg _ (by have := int_two_pow_pos w; omega))

theorem wrapN_lt (w : Nat) (v : Int) : wrapN w v < 2 ^ w :=
  Int.ofNat_lt.mp (by rw [wrapN_cast, Int.natCast_pow]; exact Int.emod_lt_of_pos _ (int_two_pow_pos w))

/-- The number of a word in two's complement, in the terms of `wrapN`. -/
theorem sext_eq {w n : Nat} (h : n < 2 ^ w) : sext w n = if n < 2 ^ (w - 1) then (n : Int) else n - 2 ^ w := by
  rw [sext, Nat.mod_eq_of_lt h]

theorem sext_wrapN {w : Nat} {v : Int} (lo : -(2 ^ w) ≤ v) (hi : v < 2 ^ w) : sext (w + 1) (wrapN (w + 1) v) = v := by
  have double : (2 : Int) ^ (w + 1) = 2 * 2 ^ w := (Int.pow_succ 2 w).trans (Int.mul_comm _ _)
  have below : wrapN (w + 1) v < 2 ^ (w + 1 - 1) ↔ v % 2 ^ (w + 1) < 2 ^ w := by
    rw [Nat.add_sub_cancel, ← Int.ofNat_lt, wrapN_cast, Int.natCast_pow]; rfl
  simp only [sext_eq (wrapN_lt _ _), below, wrapN_cast]
  rcases Int.lt_or_le v 0 with h | h
  · have wrapped : v % 2 ^ (w + 1) = v + 2 ^ (w + 1) := by rw [← Int.add_emod_right, Int.emod_eq_of_lt (by omega) (by omega)]
    rw [wrapped, if_neg (by omega), Int.add_sub_cancel]
  · rw [Int.emod_eq_of_lt h (by omega), if_pos hi]

theorem sext_toNat {w : Nat} (hw : 0 < w) (b : BitVec w) : sext w b.toNat = b.toInt := by
  obtain ⟨k, rfl⟩ : ∃ k, w = k + 1 := ⟨w - 1, by omega⟩
  have below : b.toNat < 2 ^ (k + 1 - 1) ↔ 2 * b.toNat < 2 ^ (k + 1) := by rw [Nat.add_sub_cancel, Nat.pow_succ]; omega
  simp only [sext_eq b.isLt, below, BitVec.toInt_eq_toNat_cond, Int.natCast_pow]
  rfl

theorem toNat_two_words (a b : Word) : (a ++ b).toNat = a.toNat * 2 ^ 24 + b.toNat := by
  rw [BitVec.toNat_append, ← Nat.shiftLeft_add_eq_or_of_lt b.isLt, Nat.shiftLeft_eq]

/-- Two words of 24 bits carry 48. -/
theorem two_words (n : Nat) : n / 2 ^ 24 * 2 ^ 24 + n % 2 ^ 24 = n := Nat.div_add_mod' n _

theorem seconds_words {n : Nat} (h : n < 2 ^ 48) : n / 2 ^ 24 % 2 ^ 24 * 2 ^ 24 + n % 2 ^ 24 = n := by omega

theorem nanos_words {n : Nat} (h : n < 1000000000) : n / 2 ^ 24 % 2 ^ 8 % 2 ^ 8 * 2 ^ 24 + n % 2 ^ 24 = n := by omega

/-- A number of one word. -/
theorem decode_encode_word {t : Ty} {v : Int} (h : 0 ≤ v) (ht : t = .bool ∧ v < 2 ∨ t = .u8 ∧ v < 2 ^ 8 ∨ t = .u16 ∧ v < 2 ^ 16 ∨ t = .u24 ∧ v < 2 ^ 24) :
    t.decode (t.encode v) = some v := by
  have fits : (wrapN 24 v : Int) = v := wrapN_of_nonneg h (by omega)
  rcases ht with ⟨rfl, h⟩ | ⟨rfl, h⟩ | ⟨rfl, h⟩ | ⟨rfl, h⟩ <;>
    simp only [Ty.encode, Ty.decode, List.getD_cons_zero, fits, ite_eq_left_iff, reduceCtorEq, imp_false, Classical.not_not] <;> omega

theorem decode_encode_u48 {v : Int} (h : 0 ≤ v) (hv : v < 2 ^ 48) : Ty.u48.decode (Ty.u48.encode v) = some v := by
  simp only [Ty.encode, Ty.decode, List.getD_cons_zero, List.getD_cons_succ, two_words, wrapN_of_nonneg h hv]

theorem decode_encode_s24 {v : Int} (lo : -(2 ^ 23) ≤ v) (hi : v < 2 ^ 23) : Ty.s24.decode (Ty.s24.encode v) = some v :=
  congrArg some (sext_wrapN lo hi)

theorem decode_encode_s48 {v : Int} (lo : -(2 ^ 47) ≤ v) (hi : v < 2 ^ 47) : Ty.s48.decode (Ty.s48.encode v) = some v := by
  simp only [Ty.encode, Ty.decode, List.getD_cons_zero, List.getD_cons_succ, two_words]
  exact congrArg some (sext_wrapN lo hi)

/-- The bits that the four words of a time hold of its nanoseconds, and of its seconds (R3). -/
theorem t80_parts (n : Nat) : bits n 31 24 = n / 2 ^ 24 % 2 ^ 8 ∧ bits n 23 0 = n % 2 ^ 24 ∧ bits n 47 24 = n / 2 ^ 24 % 2 ^ 24 ∧ bits n 7 0 = n % 2 ^ 8 := by
  simp only [bits, Nat.shiftRight_eq_div_pow, Nat.pow_zero, Nat.div_one, and_self, Nat.reduceAdd, Nat.reduceSub]

theorem decode_encode_t80 {v : Int} (h : 0 ≤ v) (hv : v < 2 ^ 48 * 10 ^ 9) : Ty.t80.decode (Ty.t80.encode v) = some v := by
  obtain ⟨n, rfl⟩ := Int.eq_ofNat_of_zero_le h
  have seconds : n / 1000000000 < 2 ^ 48 := by omega
  have nanos : n % 1000000000 < 1000000000 := Nat.mod_lt _ (by decide)
  simp only [Ty.encode, Ty.decode, t80Words, Int.toNat_natCast, List.getD_cons_zero, List.getD_cons_succ, t80_parts, nanos_words nanos, seconds_words seconds]
  rw [if_pos nanos, Nat.div_add_mod']

/-- Settles O60: each type by its range, the words of each type as they lie. -/
theorem valueEncoding : Obligations.ValueEncoding := by
  refine ⟨fun v h => ⟨fun b => decode_encode_word h (.inl ⟨rfl, b⟩), fun b => decode_encode_word h (.inr (.inl ⟨rfl, b⟩)),
    fun b => decode_encode_word h (.inr (.inr (.inl ⟨rfl, b⟩))), fun b => decode_encode_word h (.inr (.inr (.inr ⟨rfl, b⟩))),
    decode_encode_u48 h, decode_encode_t80 h⟩, fun v => ⟨decode_encode_s24, decode_encode_s48⟩, fun w0 w1 w2 w3 => ?_⟩
  refine ⟨congrArg some (sext_toNat (by decide) w0), ?_, ?_, fun h => ?_, fun h => ?_⟩
  · rw [toNat_two_words]; rfl
  · rw [← sext_toNat (by decide), toNat_two_words]; rfl
  · simp only [Ty.decode, List.getD_cons_zero, List.getD_cons_succ, t80_parts, toNat_two_words]
    exact if_pos h
  · simp only [Ty.decode, List.getD_cons_zero, List.getD_cons_succ, t80_parts]
    rw [if_neg (by omega)]

end Sys2Proof.Machine
end

section
/-! SUPPORT. The flags and registers of the Uluen-24 (spec 10, R272, R273; 11, R308): results in whole numbers, and what a register instruction leaves. -/
namespace Sys2Proof.Machine

/-! ### Flags -/

theorem flags_flagsOf (z n c v d : Bool) : flagZ (flagsOf z n c v d) = z ∧ flagN (flagsOf z n c v d) = n ∧ flagC (flagsOf z n c v d) = c ∧
    flagV (flagsOf z n c v d) = v ∧ flagD (flagsOf z n c v d) = d := by
  revert z n c v d; decide

/-! ### Registers -/

theorem Core.reg_zero (x : Core) : x.reg 0 = 0 := rfl

theorem Core.reg_setReg_same (x : Core) {r : Fin 16} (h : r ≠ 0) (v : Word) : (x.setReg r v).reg r = v := by
  simp [Core.reg, Core.setReg, h]

theorem Core.reg_setReg_other (x : Core) {r k : Fin 16} (h : k ≠ r) (v : Word) : (x.setReg r v).reg k = x.reg k := by
  have hv : r.val ≠ k.val := fun e => h (Fin.ext e.symm)
  by_cases h0 : r = 0
  · rw [Core.setReg, if_pos h0]
  · simp [Core.reg, Core.setReg, h0, Vector.getElem_set_ne, hv]

/-- Registers depend on the register file alone. -/
theorem Core.reg_congr {x y : Core} (h : x.g = y.g) (r : Fin 16) : x.reg r = y.reg r := by rw [Core.reg, Core.reg, h]

/-- A write of a register changes the register file alone. -/
theorem Core.setReg_frame (x : Core) (r : Fin 16) (v : Word) : x.setReg r v = { x with g := (x.setReg r v).g } := by
  rw [Core.setReg]; split <;> rfl

theorem Core.result_reg (x : Core) (rd : Fin 16) (p : Word × FlagUpd) (k : Fin 16) : (x.result rd p).reg k = (x.setReg rd p.1).reg k := rfl

theorem Core.result_frame (x : Core) (rd : Fin 16) (p : Word × FlagUpd) :
    { x.result rd p with g := x.g, flags := x.flags, pc := x.pc } = x ∧ (x.result rd p).pc = x.pc + 1 ∧ (x.result rd p).flags = p.2.on x.flags := by
  rw [Core.result, Core.setReg_frame]; exact ⟨rfl, rfl, rfl⟩

/-- Settles O24: a result by its register and its flags, a run by its one core. -/
theorem registerFrame : Obligations.RegisterFrame := by
  refine ⟨fun x rd r v u => ?_, fun s c n cost f => ⟨rfl, rfl, rfl, rfl, fun k hk => Dev.core_modCore_other _ _ _ _ hk⟩⟩
  obtain ⟨frame, pc, flags⟩ := x.result_frame rd (v, u)
  refine ⟨rfl, fun h => Core.reg_setReg_same x h v, fun h => Core.reg_setReg_other x h v, pc, frame, ?_⟩
  rw [flags]
  exact flags_flagsOf _ _ _ _ _

/-! ### Sums and differences -/

/-- The sign and the number of a word. -/
theorem Word.toInt_msb (a : Word) : a.msb = decide (2 ^ 23 ≤ a.toNat) ∧ a.toInt = if a.toNat < 2 ^ 23 then (a.toNat : Int) else a.toNat - 2 ^ 24 := by
  refine ⟨BitVec.msb_eq_decide a, ?_⟩
  rw [BitVec.toInt_eq_toNat_cond]
  split <;> split <;> omega

theorem toNat_word (n : Nat) : (word n).toNat = n % 2 ^ 24 := BitVec.toNat_ofNat n 24

theorem word_add_carry (a b : Word) (k : Bool) : word (a.toNat + b.toNat + b2n k) = a + b + word (b2n k) := by
  apply BitVec.eq_of_toNat_eq
  simp only [toNat_word, BitVec.toNat_add]; omega

/-- V of a sum: the operands have one sign and the result another. -/
theorem add_overflow {a b r : Word} {k : Bool} (hr : r.toNat = (a.toNat + b.toNat + b2n k) % 2 ^ 24) :
    (a.msb == b.msb && r.msb != a.msb) = decide (r.toInt ≠ a.toInt + b.toInt + b2n k) := by
  obtain ⟨sa, ia⟩ := Word.toInt_msb a
  obtain ⟨sb, ib⟩ := Word.toInt_msb b
  obtain ⟨sr, ir⟩ := Word.toInt_msb r
  have ha := a.isLt
  have hb := b.isLt
  have hk := b2n_le_one k
  rw [Bool.eq_iff_iff]
  simp only [sa, sb, sr, ia, ib, ir, Bool.and_eq_true, beq_iff_eq, bne_iff_ne, ne_eq, decide_eq_true_eq, decide_eq_decide]
  split <;> split <;> split <;> omega

theorem sub_overflow {a b r : Word} {k : Bool} (hr : r.toNat = (a.toNat + 2 ^ 25 - b.toNat - b2n k) % 2 ^ 24) :
    (a.msb != b.msb && r.msb != a.msb) = decide (r.toInt ≠ a.toInt - b.toInt - b2n k) := by
  obtain ⟨sa, ia⟩ := Word.toInt_msb a
  obtain ⟨sb, ib⟩ := Word.toInt_msb b
  obtain ⟨sr, ir⟩ := Word.toInt_msb r
  have ha := a.isLt
  have hb := b.isLt
  have hk := b2n_le_one k
  rw [Bool.eq_iff_iff]
  simp only [sa, sb, sr, ia, ib, ir, Bool.and_eq_true, bne_iff_ne, ne_eq, decide_eq_true_eq, decide_eq_decide]
  split <;> split <;> split <;> omega

theorem beq_zero_eq (r : Word) : (r == 0) = decide (r = 0) := rfl

theorem addFlags_spec (a b : Word) (k : Bool) : let r := (addFlags a b k).1
    r = a + b + word (b2n k) ∧ (addFlags a b k).2 =
      { z := some (decide (r = 0)), n := some r.msb, c := some (decide (2 ^ 24 ≤ a.toNat + b.toNat + b2n k)),
        v := some (decide (r.toInt ≠ a.toInt + b.toInt + b2n k)) } := by
  refine ⟨word_add_carry a b k, ?_⟩
  simp only [addFlags, znOf, beq_zero_eq, add_overflow (toNat_word _)]

theorem subFlags_spec (a b : Word) (k : Bool) : let r := (subFlags a b k).1
    r = a - b - word (b2n k) ∧ (subFlags a b k).2 =
      { z := some (decide (r = 0)), n := some r.msb, c := some (decide ((a.toNat : Int) - b.toNat - b2n k < 0)),
        v := some (decide (r.toInt ≠ a.toInt - b.toInt - b2n k)) } := by
  have hk := b2n_le_one k
  have diff : (a - b - word (b2n k)).toNat = (a.toNat + 2 ^ 25 - b.toNat - b2n k) % 2 ^ 24 := by
    have hb := b.isLt
    simp only [BitVec.toNat_sub, toNat_word]; omega
  have borrow : decide (a.toNat < b.toNat + b2n k) = decide ((a.toNat : Int) - b.toNat - b2n k < 0) := by
    rw [decide_eq_decide]; omega
  refine ⟨rfl, ?_⟩
  simp only [subFlags, znOf, beq_zero_eq, sub_overflow diff, borrow]

/-! ### Shifts -/

/-- C of a shift to the left or a logical one to the right. -/
theorem shift_carry (n : Nat) (x : Bool) : (if n = 0 then false else if n ≤ 24 then x else false) = (decide (1 ≤ n ∧ n ≤ 24) && x) := by
  by_cases h0 : n = 0 <;> by_cases h24 : n ≤ 24 <;> simp [h0, h24, Nat.one_le_iff_ne_zero]

/-- C of an arithmetic shift: past the width of the word it is the sign. -/
theorem sar_carry (a : Word) (n : Nat) : (if n = 0 then false else if n ≤ 24 then a.getLsbD (n - 1) else a.msb) =
    (decide (1 ≤ n) && a.getLsbD (min n 24 - 1)) := by
  by_cases h0 : n = 0
  · simp [h0]
  · by_cases h24 : n ≤ 24
    · simp [h0, h24, Nat.one_le_iff_ne_zero]
    · simp [h0, h24, Nat.one_le_iff_ne_zero, show min n 24 = 24 by omega, BitVec.msb_eq_getLsbD_last]

theorem shlFlags_spec (a : Word) (n : Nat) : (shlFlags a n).1 = word (a.toNat * 2 ^ n) ∧ (24 ≤ n → (shlFlags a n).1 = 0) ∧
    (shlFlags a n).2 = { z := some (decide ((shlFlags a n).1 = 0)), n := some (shlFlags a n).1.msb,
                         c := some (decide (1 ≤ n ∧ n ≤ 24) && a.getLsbD (24 - n)) } := by
  refine ⟨?_, fun h => BitVec.shiftLeft_eq_zero h, ?_⟩
  · apply BitVec.eq_of_toNat_eq
    simp only [shlFlags, toNat_word, BitVec.toNat_shiftLeft, Nat.shiftLeft_eq]
  · simp only [shlFlags, znOf, beq_zero_eq, shift_carry]

theorem shrFlags_spec (a : Word) (n : Nat) : (shrFlags a n).1.toNat = a.toNat / 2 ^ n ∧ (24 ≤ n → (shrFlags a n).1 = 0) ∧
    (shrFlags a n).2 = { z := some (decide ((shrFlags a n).1 = 0)), n := some (shrFlags a n).1.msb,
                         c := some (decide (1 ≤ n ∧ n ≤ 24) && a.getLsbD (n - 1)) } := by
  refine ⟨?_, fun h => BitVec.ushiftRight_eq_zero h, ?_⟩
  · simp only [shrFlags, BitVec.toNat_ushiftRight, Nat.shiftRight_eq_div_pow]
  · simp only [shrFlags, znOf, beq_zero_eq, shift_carry]

/-- A shift by the width of the word or more leaves the sign in every bit. -/
theorem sshiftRight_all {a : Word} {n : Nat} (h : 24 ≤ n) : a.sshiftRight n = if a.msb then 0xFFFFFF else 0 := by
  apply BitVec.eq_of_getLsbD_eq
  intro i hi
  have out : ¬ n + i < 24 := by omega
  rw [BitVec.getLsbD_sshiftRight, if_neg out, decide_eq_false (by omega), Bool.not_false, Bool.true_and]
  cases a.msb with
  | false => simp
  | true => rw [if_pos rfl, show (0xFFFFFF : Word) = BitVec.allOnes 24 from rfl, BitVec.getLsbD_allOnes, decide_eq_true hi]

theorem sarFlags_spec (a : Word) (n : Nat) : (sarFlags a n).1.toInt = a.toInt / 2 ^ n ∧
    (24 ≤ n → (sarFlags a n).1 = if a.msb then 0xFFFFFF else 0) ∧
    (sarFlags a n).2 = { z := some (decide ((sarFlags a n).1 = 0)), n := some (sarFlags a n).1.msb,
                         c := some (decide (1 ≤ n) && a.getLsbD (min n 24 - 1)) } := by
  refine ⟨?_, sshiftRight_all, ?_⟩
  · simp only [sarFlags, BitVec.toInt_sshiftRight, Int.shiftRight_eq_div_pow, Int.natCast_pow]
    rfl
  · simp only [sarFlags, znOf, beq_zero_eq, sar_carry]

/-- Settles O25: sums and differences, the three shifts, logic. -/
theorem addSubtractFlags : Obligations.AddSubtractFlags := by
  refine ⟨addFlags_spec, subFlags_spec, fun a n _ => ?_, fun r => by rw [logicFlags, znOf, beq_zero_eq]⟩
  obtain ⟨shl, shl_all, shl_flags⟩ := shlFlags_spec a n
  obtain ⟨shr, shr_all, shr_flags⟩ := shrFlags_spec a n
  obtain ⟨sar, sar_all, sar_flags⟩ := sarFlags_spec a n
  exact ⟨shl, shr, sar, fun h => ⟨shl_all h, shr_all h, sar_all h⟩, shl_flags, shr_flags, sar_flags⟩

end Sys2Proof.Machine
end

section
/-! SUPPORT. The multiplier (spec 10, R283, R284): what lands and when. -/
namespace Sys2Proof.Machine

theorem acc_landMul (x : Core) (o : MulOp) : (x.landMul o).acc =
    wrapN 48 (if o.kind = 2 then sext 48 x.acc + o.a.toInt * o.b.toInt else if o.kind = 1 then (o.a.toNat * o.b.toNat : Nat) else o.a.toInt * o.b.toInt) := by
  have split (r : Nat) (h : r < 2 ^ 48) : (word (r / 2 ^ 24)).toNat * 2 ^ 24 + (word r).toNat = r := by rw [toNat_word, toNat_word]; omega
  by_cases h2 : o.kind = 2
  · simp only [Core.acc, Core.landMul, h2, if_true, split _ (wrapN_lt 48 _), Nat.reduceEqDiff, if_false]
  · simp only [Core.acc, Core.landMul, h2, if_false, split _ (wrapN_lt 48 _)]

/-- What two's complement of w + 1 bits reads lies in its range. -/
theorem sext_bounds {w n : Nat} (h : n < 2 ^ (w + 1)) : -(2 ^ w) ≤ sext (w + 1) n ∧ sext (w + 1) n < 2 ^ w := by
  have double : (2 : Int) ^ (w + 1) = 2 * 2 ^ w := (Int.pow_succ 2 w).trans (Int.mul_comm _ _)
  have hi : (n : Int) < 2 * 2 ^ w := by rw [← double]; exact_mod_cast h
  rw [sext_eq h, Nat.add_sub_cancel, double]
  split
  · rename_i lt
    have : (n : Int) < 2 ^ w := by exact_mod_cast lt
    omega
  · rename_i ge
    have : (2 : Int) ^ w ≤ n := by exact_mod_cast Nat.not_lt.mp ge
    omega

theorem sext_wrapN_iff (w : Nat) (v : Int) : sext (w + 1) (wrapN (w + 1) v) ≠ v ↔ v < -(2 ^ w) ∨ 2 ^ w ≤ v := by
  obtain ⟨lo, hi⟩ := sext_bounds (wrapN_lt (w + 1) v)
  constructor
  · intro h
    exact Classical.byContradiction fun c => h (sext_wrapN (by omega) (by omega))
  · rintro h e
    omega

/-- The signed product of two words fits in 47 bits and a sign. -/
theorem Word.mul_bounds (a b : Word) : -(2 ^ 47) ≤ a.toInt * b.toInt ∧ a.toInt * b.toInt < 2 ^ 47 := by
  have magnitude (x : Word) : x.toInt.natAbs ≤ 2 ^ 23 := by
    have low := BitVec.le_toInt x
    have high := BitVec.toInt_lt (x := x)
    omega
  have product : (a.toInt * b.toInt).natAbs ≤ 2 ^ 23 * 2 ^ 23 := by
    rw [Int.natAbs_mul]; exact Nat.mul_le_mul (magnitude a) (magnitude b)
  omega

theorem Word.toNat_mul_lt (a b : Word) : a.toNat * b.toNat < 2 ^ 48 := by
  have := Nat.mul_lt_mul'' a.isLt b.isLt
  omega

theorem landMul_results (x : Core) (a b : Word) (n : Nat) :
    sext 48 (x.landMul ⟨0, a, b, n⟩).acc = a.toInt * b.toInt ∧ ((x.landMul ⟨1, a, b, n⟩).acc : Int) = a.toNat * b.toNat ∧
    ((x.landMul ⟨2, a, b, n⟩).acc : Int) = (sext 48 x.acc + a.toInt * b.toInt) % 2 ^ 48 ∧
    (x.landMul ⟨2, a, b, n⟩).ov = (x.ov || decide (sext 48 (x.landMul ⟨2, a, b, n⟩).acc ≠ sext 48 x.acc + a.toInt * b.toInt)) ∧
    (x.landMul ⟨0, a, b, n⟩).ov = x.ov ∧ (x.landMul ⟨1, a, b, n⟩).ov = x.ov := by
  obtain ⟨lo, hi⟩ := Word.mul_bounds a b
  simp only [acc_landMul, if_true, Nat.reduceEqDiff, reduceCtorEq, if_false]
  refine ⟨sext_wrapN lo hi, ?_, wrapN_cast _ _, ?_, Bool.or_false _, Bool.or_false _⟩
  · rw [wrapN_of_nonneg (Int.natCast_nonneg _) (by exact_mod_cast Word.toNat_mul_lt a b), Int.natCast_mul]
  · rw [decide_eq_decide.mpr (sext_wrapN_iff 47 _), Bool.decide_or]
    simp only [Core.landMul, if_true, beq_self_eq_true, Bool.true_and, Nat.reduceEqDiff, if_false]

theorem landBefore_one (x : Core) (o : MulOp) (n : Nat) (h : x.mulq = []) :
    (n ≤ o.lands → (({ x with mulq := [o] } : Core).landBefore n).mulq = [o]) ∧
    (o.lands < n → ({ x with mulq := [o] } : Core).landBefore n = (x.landGie n).landMul o) := by
  constructor <;> intro hn
  · have late : ¬ o.lands < n := by omega
    simp [Core.landBefore, late]
  · cases x
    subst h
    simp [Core.landBefore, hn, Core.landGie, Core.gieAt]

theorem mulLands_cons {d : Dev} {c : Nat} {o : MulOp} {l : List MulOp} (h : (d.core c).mulq = o :: l) :
    d.mulLands c = d.modCore c fun x => { ({ x with mulq := l } : Core).landMul o with cyc := max x.cyc (o.lands + 1) } := by
  rw [Dev.mulLands, h]

/-- Settles O27: an operation in flight lands in its cycle, its result, and MUL_LAND. -/
theorem multiplier : Obligations.Multiplier := by
  refine ⟨fun x a b n h k _ => ?_, landMul_results, fun s c o l h => ?_⟩
  · exact ⟨(landBefore_one x ⟨k, a, b, n + 2⟩ (n + 2) h).1 (Nat.le_refl _), (landBefore_one x ⟨k, a, b, n + 2⟩ (n + 3) h).2 (Nat.lt_succ_self _)⟩
  · exact congrArg (fun d => Host.Outcome.next { s with dev := d }) (mulLands_cons h)

end Sys2Proof.Machine
end

section
/-! SUPPORT. Loads and stores of local data (spec 10, R272, R274): the registers that they change, and the one word. -/
namespace Sys2Proof.Machine

/-- A store ends no checkpoint copy where none runs (R332). -/
theorem Dev.winTouched_quiet {d : Dev} (h : ∀ e ∈ d.ctxs, e.2.copying = none) (c a : Nat) : d.winTouched c a = d := by
  have none_copied : d.ctxs.filter (fun e => e.2.copying.isSome) = [] := List.filter_eq_nil_iff.mpr fun e he => by simp [h e he]
  rw [Dev.winTouched, none_copied]; rfl

theorem accessFrame_load (d : Dev) (c n a : Nat) (rd r : Fin 16) (step : Core → Core) (hs : ∀ x r, (step x).reg r = x.reg r ∧ (step x).flags = x.flags) :
    let t := d.loaded c n rd a step
    (rd ≠ 0 → (t.core c).reg rd = word (d.ld (localAddr c a))) ∧ (r ≠ rd → (t.core c).reg r = (d.core c).reg r) ∧
      (t.core c).flags = (d.core c).flags := by
  have core : (d.loaded c n rd a step).core c =
      { ((step ((d.core c).atCycle n)).next.setReg rd (word (d.ld (localAddr c a)))) with accEnds := n + 2, accReg := rd.val, accSr := none, cyc := n + 1 } := by
    rw [Dev.loaded, Dev.core_modCore]
  have stepped (k : Fin 16) : (step ((d.core c).atCycle n)).next.reg k = (d.core c).reg k :=
    (Core.reg_congr rfl k).trans ((hs _ k).1.trans (atCycle_reg _ _ _))
  refine ⟨fun h => ?_, fun h => ?_, ?_⟩
  · rw [core]; exact Core.reg_setReg_same _ h _
  · rw [core]; exact (Core.reg_setReg_other _ h _).trans (stepped r)
  · rw [core, Core.setReg_frame]; exact ((hs _ 0).2).trans (atCycle_flags _ _)

/-- A store with no checkpoint copy on its way is a store into memory between two changes of its core. -/
theorem Dev.stored_quiet {d : Dev} (h : ∀ e ∈ d.ctxs, e.2.copying = none) (c n a : Nat) (v : Word) (step : Core → Core) : ∃ f g : Core → Core,
    d.stored c n a v step = ((d.modCore c f).st (localAddr c a) v.toNat).modCore c g := by
  refine ⟨fun x => (step (x.atCycle n)).next, fun x => { x with accEnds := n + 2, accReg := 0, accSr := none, cyc := n + 1 }, ?_⟩
  rw [Dev.stored, Dev.winTouched_quiet (d := (d.modCore c _).st (localAddr c a) v.toNat) h]

/-- Settles O29: a load by its core, a store by its word. -/
theorem accessFrame : Obligations.AccessFrame := by
  refine ⟨fun d c n a rd r step hs => ?_, fun d c n a b v step h => ?_⟩
  · obtain ⟨dest, other, flags⟩ := accessFrame_load d c n a rd r step hs
    exact ⟨dest, other, flags, fun b => rfl, fun k hk => Dev.core_modCore_other _ _ _ _ hk⟩
  · have none_copied : ∀ e ∈ d.ctxs, e.2.copying = none := by simpa using h
    obtain ⟨f, g, eq⟩ := Dev.stored_quiet none_copied c n a v step
    refine ⟨?_, fun hb => ?_, fun k hk => ?_⟩
    · rw [eq]; exact (Dev.ld_st_same _ _ _).trans (Nat.mod_eq_of_lt v.isLt)
    · rw [eq]; exact Dev.ld_st_other (d.modCore c f) _ _ _ hb
    · rw [eq, Dev.core_modCore_other _ _ _ _ hk]; exact Dev.core_modCore_other _ _ _ _ hk

end Sys2Proof.Machine
end

section
/-! SUPPORT. A block with nothing left to do (log entry 9): no part of what follows a command acts. -/
namespace Sys2Proof.Machine

theorem Dev.drain_nil {d : Dev} (h : d.work = []) (n : Nat) : d.drain n = d := by
  cases n with
  | zero => rfl
  | succ n => rw [Dev.drain, h]

theorem Dev.unblock_none {d : Dev} (h : ∀ t ∈ d.dict.inflight, t.wait ≠ .behind) (n : Nat) : d.unblock n = d := by
  have idle : (d.dict.inflight.find? fun t => t.wait == .behind && !d.blocked t) = none :=
    List.find?_eq_none.mpr fun t ht => by simp [h t ht]
  cases n with
  | zero => rfl
  | succ n => rw [Dev.unblock, idle, ite_self]

theorem Dev.degCheck_quiet {d : Dev} {p : Nat} (h : d.portQuiet p = true) : d.degCheck p = d := by
  rw [Dev.degCheck, if_neg]
  simp only [Dev.portQuiet, Bool.or_eq_true, Bool.and_eq_true, bne_iff_ne, decide_eq_true_eq, Bool.not_eq_true'] at h ⊢
  rintro ⟨up, bad | bad⟩
  · rcases h with h | ⟨h, -⟩
    · exact h up
    · omega
  · rcases h with h | ⟨-, h⟩
    · exact h up
    · rw [bad] at h; cases h

theorem Dev.limpClock_quiet {d : Dev} (h : (d.mode == 6 && d.obn K.LIMP_CAUSE == 0) = d.mm.limpClear.isSome) : d.limpClock = d := by
  rw [Dev.limpClock]
  simp only [h]
  cases d.mm.limpClear <;> rfl

theorem Dev.followUp_quiet {d : Dev} (cores : ∀ e ∈ d.cores, d.coreQuiet e.1 = true) (ports : ∀ e ∈ d.ports, d.portQuiet e.1 = true)
    (wait : d.mm.limpWait = none) (clock : (d.mode == 6 && d.obn K.LIMP_CAUSE == 0) = d.mm.limpClear.isSome) (limits : d.limits ≠ 6) : d.followUp = d := by
  have boundaries : d.each (d.cores.map (·.1)) (fun d c => d.boundary c) = d := each_same _ _ _ fun c hc => by
    obtain ⟨e, he, rfl⟩ := List.mem_map.mp hc
    exact boundary_quiet d e.1 (cores e he)
  have checks : d.each (d.ports.map (·.1)) (fun d p => d.degCheck p) = d := each_same _ _ _ fun p hp => by
    obtain ⟨e, he, rfl⟩ := List.mem_map.mp hp
    exact Dev.degCheck_quiet (ports e he)
  have rest : d.limpRest = d := by rw [Dev.limpRest, wait]; simp
  rw [Dev.followUp, boundaries]
  simp only [checks, rest, Dev.limpClock_quiet clock, Dev.coresBarred]
  rw [if_pos limits]

theorem settle_quiet {d : Dev} (h : d.quiet = true) : d.settle = d.unmark := by
  simp only [Dev.quiet, Bool.and_eq_true, List.isEmpty_iff, List.all_eq_true, bne_iff_ne, beq_iff_eq, Bool.not_eq_true', Option.isNone_iff_eq_none] at h
  obtain ⟨⟨⟨⟨⟨⟨⟨⟨⟨work, waits⟩, quick⟩, rung⟩, replies⟩, cores⟩, ports⟩, wait⟩, clock⟩, limits⟩ := h
  have quickly : d.serveQuick = d := by rw [Dev.serveQuick]; simp [quick]
  have ring : d.serveRing = d := by rw [Dev.serveRing, rung]; rfl
  have aap : d.flushAap = d := by rw [Dev.flushAap, replies]; rfl
  rw [Dev.settle]
  simp only [Dev.drain_nil work, Dev.unblock_none waits, quickly, ring, Dev.followUp_quiet cores ports wait clock limits, aap]

/-- Settles O59: each part of what follows a command leaves a quiet block as it is, and the mark of its number goes. -/
theorem quietSettles : Obligations.QuietSettles := by
  refine ⟨fun d h => settle_quiet h, fun s d h marked => ?_⟩
  have unmarked : d.unmark = d := by
    show ({ d with dict := { d.dict with took := none } } : Dev) = d
    rw [← marked]
  rw [State.after, settle_quiet h, unmarked]; rfl

end Sys2Proof.Machine
end

section
/-! SUPPORT. The words of a signal entry (spec 14, R372), and what a write, a force or an unforce does to it (R381). -/
namespace Sys2Proof.Machine

/-! ### Poison of stored words -/

theorem Dev.poisoned_st (d : Dev) (a v b : Nat) : (d.st a v).poisoned b = (d.poisoned b && b != a) := by
  unfold Dev.poisoned Dev.st
  by_cases h : d.poison.contains a = true
  · rw [if_pos h, Bool.eq_iff_iff]; simp
  · rw [if_neg h]
    by_cases e : b = a
    · subst e; simpa using h
    · simp [e]

/-- Words stored from a on: none of them is poisoned, and each is there. -/
theorem Dev.stAll_reads (d : Dev) (a : Nat) (l : List Nat) (i : Nat) (h : i < l.length) :
    (d.stAll a l).ld (a + i) = l[i] % 2 ^ 24 ∧ (d.stAll a l).poisoned (a + i) = false := by
  induction l generalizing d a i with
  | nil => exact absurd h (Nat.not_lt_zero i)
  | cons v r ih =>
    rw [Dev.stAll]
    cases i with
    | succ i =>
      have := ih (d.st a v) (a + 1) i (Nat.lt_of_succ_lt_succ h)
      rwa [show a + 1 + i = a + (i + 1) by omega] at this
    | zero =>
      have kept (d : Dev) (b : Nat) (hb : a < b) (r : List Nat) : (d.stAll b r).ld a = d.ld a ∧ (d.poisoned a = false → (d.stAll b r).poisoned a = false) := by
        refine ⟨Dev.ld_stAll_other _ _ _ _ (.inl hb), fun clean => ?_⟩
        induction r generalizing d b with
        | nil => exact clean
        | cons w r ih => exact ih (d.st b w) (b + 1) (by omega) (by rw [Dev.poisoned_st, clean, Bool.false_and])
      obtain ⟨ld, clean⟩ := kept (d.st a v) (a + 1) (Nat.lt_succ_self a) r
      exact ⟨ld.trans (Dev.ld_st_same d a v), clean (by simp [Dev.poisoned_st])⟩

/-! ### The words of an entry -/

/-- A field of an entry that fits. -/
structure Entry.Fits (e : Entry) : Prop where
  value : e.value < 2 ^ 48
  stamp : e.stamp < 2 ^ 24
  source : e.source < 2 ^ 7
  node : e.node < 2 ^ 9
  count : e.count < 2 ^ 4

/-- The last word of an entry (R372). -/
def Entry.tail (e : Entry) : Nat :=
  e.source * 2 ^ 17 + e.node * 2 ^ 8 + b2n e.contested * 2 ^ 7 + b2n e.stale * 2 ^ 6 + b2n e.valid * 2 ^ 5 + b2n e.forced * 2 ^ 4 + e.count

theorem Entry.tail_parts {e : Entry} (h : e.Fits) : e.tail < 2 ^ 24 ∧ bits e.tail 23 17 = e.source ∧ bits e.tail 16 8 = e.node ∧
    e.tail.testBit 7 = e.contested ∧ e.tail.testBit 6 = e.stale ∧ e.tail.testBit 5 = e.valid ∧ e.tail.testBit 4 = e.forced ∧ bits e.tail 3 0 = e.count := by
  have source := h.source
  have node := h.node
  have count := h.count
  have contested := b2n_le_one e.contested
  have stale := b2n_le_one e.stale
  have valid := b2n_le_one e.valid
  have forced := b2n_le_one e.forced
  simp only [bits, Nat.shiftRight_eq_div_pow, Nat.reduceAdd, Nat.reduceSub, Nat.reducePow]
  refine ⟨?_, ?_, ?_, testBit_eq_of_div_mod ?_, testBit_eq_of_div_mod ?_, testBit_eq_of_div_mod ?_, testBit_eq_of_div_mod ?_, ?_⟩
  all_goals unfold Entry.tail; omega

theorem Entry.words_of_fits {e : Entry} (h : e.Fits) : e.words = [e.value / 2 ^ 24, e.value % 2 ^ 24, e.stamp, e.tail] := by
  obtain ⟨value, stamp, source, node, count⟩ := h
  simp only [Entry.words, Entry.tail, bits, Nat.shiftRight_eq_div_pow, Nat.reduceAdd, Nat.reduceSub, Nat.reducePow, List.cons.injEq, and_true]
  omega

theorem Dev.putEntry_words (d : Dev) (n : Nat) {e : Entry} (h : e.Fits) :
    (d.putEntry n e).ld (sigAddr n 0) = e.value / 2 ^ 24 ∧ (d.putEntry n e).ld (sigAddr n 1) = e.value % 2 ^ 24 ∧
      (d.putEntry n e).ld (sigAddr n 2) = e.stamp ∧ (d.putEntry n e).ld (sigAddr n 3) = e.tail := by
  have word (i : Nat) (hi : i < e.words.length) := (d.stAll_reads (sigAddr n 0) e.words i hi).1
  have value := h.value
  simp only [Entry.words_of_fits h, List.length_cons, List.length_nil] at word
  rw [Dev.putEntry, Entry.words_of_fits h]
  exact ⟨(word 0 (by omega)).trans (Nat.mod_eq_of_lt (by simp only [List.getElem_cons_zero]; omega)),
    (word 1 (by omega)).trans (Nat.mod_mod _ _), (word 2 (by omega)).trans (Nat.mod_eq_of_lt h.stamp),
    (word 3 (by omega)).trans (Nat.mod_eq_of_lt (Entry.tail_parts h).1)⟩

theorem Dev.putEntry_clean (d : Dev) (n : Nat) (e : Entry) : (d.putEntry n e).entryPoisoned n = false := by
  have clean (i : Nat) (hi : i < 4) := (d.stAll_reads (sigAddr n 0) e.words i hi).2
  simp only [Dev.entryPoisoned, List.any_eq_false, List.mem_range, Bool.not_eq_true]
  exact clean

theorem Dev.entry_putEntry (d : Dev) (n : Nat) {e : Entry} (h : e.Fits) : (d.putEntry n e).entry n = e := by
  obtain ⟨w0, w1, w2, w3⟩ := d.putEntry_words n h
  obtain ⟨-, source, node, contested, stale, valid, forced, count⟩ := Entry.tail_parts h
  rw [Dev.entry, d.putEntry_clean, if_neg Bool.false_ne_true]
  simp only [w0, w1, w2, w3, source, node, contested, stale, valid, forced, count, Nat.div_add_mod']

/-- Settles O44: the words as they are stored, and read back. -/
theorem entryWords : Obligations.EntryWords := by
  intro d n e value stamp source node count
  have fits : e.Fits := ⟨value, stamp, source, node, count⟩
  obtain ⟨w0, w1, w2, w3⟩ := d.putEntry_words n fits
  exact ⟨d.entry_putEntry n fits, d.putEntry_clean n e, w0, w1, w2, w3, fun a ha => Dev.ld_stAll_other _ _ _ _ ha⟩

/-! ### Writes of an entry -/

/-- The write of a fresh entry by another identity. -/
def Dev.clashes (d : Dev) (r : Nat) (w : CWrite) : Bool :=
  w.op = .write && d.isFresh r (d.entry w.sig) (d.stampOf r w.ns) &&
    !(d.sourceId w.src w.node == d.sourceId (d.entry w.sig).source (d.entry w.sig).node && w.node == (d.entry w.sig).node)

theorem Dev.applyWrite_unforce {d : Dev} {r : Nat} {w : CWrite} (h : w.op = .unforce) : d.applyWrite r w =
    if (d.entry w.sig).forced then ((d.putEntry w.sig { d.entry w.sig with forced := false }).setOb K.FORCED_COUNT (d.obn K.FORCED_COUNT - 1 : Nat), true)
    else (d, true) := by
  rw [Dev.applyWrite, if_pos h]

theorem Dev.applyWrite_forced {d : Dev} {r : Nat} {w : CWrite} (h : w.op = .write) (f : (d.entry w.sig).forced = true) :
    d.applyWrite r w = (d.bump (K.REG_FORCED_DROPS r), false) := by
  rw [Dev.applyWrite, if_neg (by rw [h]; decide), if_pos (by rw [h, f]; rfl)]

/-- A write or a force that nothing contests lands. -/
theorem Dev.applyWrite_lands {d : Dev} {r : Nat} {w : CWrite} (h : w.op ≠ .unforce) (f : (d.entry w.sig).forced = false) (c : d.clashes r w = false) :
    d.applyWrite r w = (d.land r w (d.entry w.sig), true) := by
  rw [Dev.applyWrite, if_neg h, if_neg (by simp [f])]
  exact if_neg (by rw [Dev.clashes] at c; rw [c]; decide)

/-- A contested write that is not the owner's, under policy 0, is dropped. -/
theorem Dev.applyWrite_foreign {d : Dev} {r : Nat} {w : CWrite} (f : (d.entry w.sig).forced = false) (c : d.clashes r w = true)
    (p : (d.contest r).obn (K.REG_POLICY r) = 0) (o : (d.contest r).ownerWrite r w.src w.node = false) :
    d.applyWrite r w = (((d.contest r).putEntry w.sig { d.entry w.sig with contested := true }).bump (K.REG_FOREIGN_DROPS r), false) := by
  have h : w.op = .write := by simp only [Dev.clashes, Bool.and_eq_true, decide_eq_true_eq] at c; exact c.1.1
  rw [Dev.applyWrite, if_neg (by rw [h]; decide), if_neg (by simp [f])]
  refine (if_pos (by rw [Dev.clashes] at c; exact c)).trans (if_pos ?_)
  rw [p, o]; rfl

/-- An accepted write of an entry that is not stale: its words, and one more forced entry where it is a force. -/
theorem Dev.land_fresh {d : Dev} {r : Nat} {w : CWrite} {e : Entry} (s : e.stale = false) : d.land r w e =
    if w.op = .force && !e.forced then (d.putEntry w.sig (d.landed r w e)).setOb K.FORCED_COUNT ((d.putEntry w.sig (d.landed r w e)).obn K.FORCED_COUNT + 1 : Nat)
    else d.putEntry w.sig (d.landed r w e) := by
  rw [Dev.land, s]; rfl

/-- Settles O43: an unforce, a write of a forced entry, one that lands, a foreign one, and a force. -/
theorem entryWrites : Obligations.EntryWrites := by
  intro d r w e
  refine ⟨fun h f => ?_, fun h f => ?_, Dev.applyWrite_forced, fun h f own s => ?_, fun h f fresh other p o => ?_, fun h f s => ?_⟩
  · rw [Dev.applyWrite_unforce h, if_neg (Bool.eq_false_iff.mp f)]
  · rw [Dev.applyWrite_unforce h, if_pos f]
  · have agreed : d.clashes r w = false := by
      rcases own with stale | ⟨source, node⟩
      · rw [Dev.clashes, stale, Bool.and_false, Bool.false_and]
      · rw [Dev.clashes, beq_iff_eq.mpr source, beq_iff_eq.mpr node, Bool.and_self, Bool.not_true, Bool.and_false]
    rw [Dev.applyWrite_lands (by rw [h]; decide) f agreed, Dev.land_fresh s, if_neg (by simp [h]), Dev.landed, h]
    simp only [e, f, reduceCtorEq, decide_false, Bool.or_false]
  · refine Dev.applyWrite_foreign f ?_ p o
    simp only [Dev.clashes, h, decide_true, Bool.true_and, Bool.and_eq_true, Bool.not_eq_true', Bool.and_eq_false_iff, beq_eq_false_iff_ne]
    exact ⟨fresh, .inl other⟩
  · have lone : d.clashes r w = false := by rw [Dev.clashes, h]; rfl
    rw [Dev.applyWrite_lands (by rw [h]; decide) f lone, Dev.land_fresh s, if_pos (by rw [h, f]; rfl)]
    exact ⟨rfl, by rw [Dev.obn_setOb_same, Int.toNat_natCast]⟩

end Sys2Proof.Machine
end

section
/-! SUPPORT. The special registers (spec 10, R273) and the return stack (R278 to R280). -/
namespace Sys2Proof.Machine

/-! ### Special registers -/

/-- The registers that hold a word as it is written. -/
theorem Dev.srWrite_word (d : Dev) (c : Nat) {v : Nat} (hv : v < 2 ^ 24) : ∀ sr ∈ [1, 2, 5, 6, 8, 9, 10, 11, 12, 13, 14, 15, 16],
    ((d.srWrite c sr v).srRead c sr).2 = v ∧ (d.srWrite c sr v).mem = d.mem ∧ (d.srWrite c sr v).od = d.od := by
  have held : (word v).toNat = v := toNat_word_of_lt hv
  intro sr h
  simp only [List.mem_cons, List.not_mem_nil, or_false] at h
  rcases h with rfl | rfl | rfl | rfl | rfl | rfl | rfl | rfl | rfl | rfl | rfl | rfl | rfl
  all_goals exact ⟨by simp [Dev.srWrite, Dev.srRead, held], rfl, rfl⟩

theorem Dev.srWrite_readOnly (d : Dev) (c v : Nat) : ∀ sr ∈ [18, 19, 20, 21, 22, 25, 26, 27, 28], d.srWrite c sr v = d := by
  intro sr h
  simp only [List.mem_cons, List.not_mem_nil, or_false] at h
  rcases h with rfl | rfl | rfl | rfl | rfl | rfl | rfl | rfl | rfl
  all_goals rfl

/-- Settles O36: the words, the narrower registers, the return stack's, those marked R, and T0 as it is latched. -/
theorem specialRegisters : Obligations.SpecialRegisters := by
  refine ⟨fun d c v hv => ⟨d.srWrite_word c hv, ?_, ?_, ?_, ?_, fun h => ?_, ?_, fun h => if_neg h, fun h => if_pos h⟩, fun d c v => d.srWrite_readOnly c v,
    fun d c => ⟨rfl, rfl, ?_⟩⟩
  · simp [Dev.srWrite, Dev.srRead]
  · simp [Dev.srWrite, Dev.srRead, toNat_word_of_lt (show v % 256 < 2 ^ 24 by omega)]
  · simp only [Dev.srWrite, Dev.srRead, Dev.core_modCore, bits, Nat.shiftRight_eq_div_pow, toNat_word]; omega
  · simp [Dev.srWrite, Dev.srRead]
  · simp [Dev.srWrite, Dev.srRead, Nat.not_lt.mpr h, toNat_word_of_lt hv]
  · simp [Dev.srWrite, Dev.srRead]
  · simp only [Dev.srRead, Dev.core_modCore, toNat_word]; omega

/-! ### The return stack -/

theorem Core.entry_parts (x : Core) (ra : Nat) : (x.entry ra).toNat = x.flags.toNat * 2 ^ 19 + b2n x.gie * 2 ^ 18 + ra % 2 ^ 15 := by
  have flags := x.flags.isLt
  have gie := b2n_le_one x.gie
  rw [Core.entry, toNat_word_of_lt]
  omega

theorem Dev.pushEntry_hardware {d : Dev} {c : Nat} (n ra : Nat) (h : (d.core c).rsd < 32) :
    d.pushEntry c n ra = (d.modCore c fun y => { y with hw := y.entry ra :: y.hw, rsd := y.rsd + 1 }, 0) := by
  rw [Dev.pushEntry, if_neg (by omega)]
  simp only [decide_eq_false (show ¬ 32 ≤ (d.core c).rsd by omega), if_neg (show ¬ (d.core c).rsd = 1008 by omega), Bool.false_eq_true, if_false]
  exact congrArg (·, 0) (Dev.modCore_congr rfl)

/-- A push that spills: the lowest hardware entry goes to its word of local data. -/
theorem Dev.pushEntry_spills {d : Dev} {c a : Nat} (n ra : Nat) (h : 32 ≤ (d.core c).rsd) (top : (d.core c).rsd < 1024)
    (ha : a = ((d.core c).rsb + word ((d.core c).rsd - 32)).toNat) (loc : a < localWords c) :
    let e := (((d.modCore c fun y => y.landGie n).st (localAddr c a) ((d.core c).hw.getLastD 0).toNat).winTouched c a).modCore c fun y =>
      { y with accEnds := n + 2, accReg := 0, accSr := none, hw := (d.core c).entry ra :: (d.core c).hw.dropLast, rsd := (d.core c).rsd + 1 }
    d.pushEntry c n ra = (if (d.core c).rsd = 1008 then (e.otherFault c 4).raiseTrap c 10 else e, 1) := by
  rw [Dev.pushEntry, if_neg (by omega)]
  simp only [decide_eq_true h, if_true, ← ha, Dev.coreStore_local loc, Dev.modCore_modCore, b2n]

theorem Dev.popEntry_hardware {d : Dev} {c : Nat} (n : Nat) (h0 : 0 < (d.core c).rsd) (h : (d.core c).rsd ≤ 32) :
    d.popEntry c n = some (d.modCore c fun y => { y with hw := y.hw.drop 1, rsd := y.rsd - 1 }, (d.core c).hw.headD 0, 0) := by
  rw [Dev.popEntry, if_neg (by omega), if_pos h]

/-- A pop that refills the hardware's lowest entry. -/
theorem Dev.popEntry_refills {d : Dev} {c a : Nat} (n : Nat) (h : 32 < (d.core c).rsd) (ha : a = ((d.core c).rsb + word ((d.core c).rsd - 33)).toNat)
    (loc : a < localWords c) (clean : d.poisoned (localAddr c a) = false) : d.popEntry c n = some (d.modCore c fun y =>
      { y with hw := y.hw.drop 1 ++ [word (d.ld (localAddr c a))], rsd := y.rsd - 1, accEnds := n + 2, accReg := 0, accSr := none }, (d.core c).hw.headD 0, 2) := by
  have clean' : (d.modCore c fun y => { y with hw := y.hw.drop 1, rsd := y.rsd - 1 }).poisoned (localAddr c a) = false := clean
  rw [Dev.popEntry, if_neg (by omega), if_neg (by omega)]
  simp only [← ha, Dev.loadWord_local loc clean', Dev.accCost_local loc, if_true, Dev.modCore_modCore]
  rfl

/-- Settles O31: pushes and pops within the hardware's entries and past them, and what an entry holds. -/
theorem returnStack : Obligations.ReturnStack := by
  refine ⟨fun d c n ra a => ⟨fun h => Dev.pushEntry_hardware n ra h, fun h top ha loc _ => ⟨fun depth => ?_, fun depth => ?_⟩, fun h => if_pos (by omega),
    fun h => if_pos h, fun h0 h => Dev.popEntry_hardware n h0 h, fun h ha loc _ clean => Dev.popEntry_refills n h ha loc clean⟩, fun x ra h => ?_⟩
  · exact (Dev.pushEntry_spills n ra h top ha loc).trans (by rw [if_neg depth])
  · exact (Dev.pushEntry_spills n ra h top ha loc).trans (by rw [if_pos depth])
  · have entry := x.entry_parts ra
    have flags := x.flags.isLt
    have gie := b2n_le_one x.gie
    refine ⟨?_, ?_, ?_⟩
    · apply BitVec.eq_of_toNat_eq
      simp only [BitVec.toNat_ofNat, entry]; omega
    · apply BitVec.eq_of_toNat_eq
      simp only [BitVec.toNat_ofNat, entry]; omega
    · rw [BitVec.getLsbD, entry]
      exact testBit_eq_of_div_mod (by omega)

end Sys2Proof.Machine
end

section
/-! SUPPORT. A clear of a segment's counters keeps the last outcome of each slot (spec 16, R453, R454): `Obligations.CounterClears` says that it drops the
slots whole. -/
namespace Sys2Proof.Machine

/-- A block in Configuration with every domain on, a running keeper of every role, and a segment 95 whose slot 1 has an outcome. -/
def slotSeen : State :=
  { dev := ((({ doms := 2 ^ 45 - 1 } : Dev).setOb (K.CORE_STATE 16) 2).setOb K.MODE 2).setOb K.HOST_LEVEL 3 |>.modSeg 95 fun x => { x with slots := [(1, { last := 5 })] } }

/-- How many slots a segment lists once a command has run. -/
def slotsAfter (o : Host.Outcome State Fault Refusal) (g : Nat) : Nat :=
  match o with
  | .next t => (t.dev.seg g).slots.length
  | _ => 0

theorem segCntClear_keeps_slot : slotsAfter (exec (.segCntClear ⟨.hatch, 0⟩ 95 1) slotSeen) 95 = 1 := by decide +kernel

/-- Refutes O10: SEG_CNT_CLEAR of a segment whose slot 1 has an outcome leaves that slot listed, its counts at 0 and its last outcome kept, where the clause
leaves no slot. -/
theorem not_counterClears : ¬ Obligations.CounterClears := by
  rintro ⟨-, -, -, -, -, -, -, -, -, -, -, -, -, segments, -⟩
  have claimed := segments slotSeen ⟨.hatch, 0⟩ 95 (by decide +kernel)
  have dropped := congrArg (slotsAfter · 95) claimed
  rw [segCntClear_keeps_slot] at dropped
  exact absurd dropped (by decide +kernel)

end Sys2Proof.Machine
end

section
/-! SUPPORT. Far requests (spec 10, R285 to R289): the tags, the requests that go first, the words of a request, and its end. -/
namespace Sys2Proof.Machine

/-- A command's outcome by what its effect does to the block as the command finds it. -/
theorem run_after {s : State} {f : Dev → Dev} {d : Dev} (h : f s.cmd = d) : run f s = .next (s.after d) := by
  rw [← h]; rfl

/-! ### Requests of a core -/

/-- The first request of a tag is the first of the tag that meets a condition, where it meets it. -/
theorem find_tag_and {l : List FarReq} {t : Nat} {r : FarReq} (p : FarReq → Bool) (h : l.find? (fun q => q.tag == t) = some r) (hp : p r = true) :
    l.find? (fun q => q.tag == t && p q) = some r := by
  obtain ⟨tag, before, after, eq, none_before⟩ := List.find?_eq_some_iff_append.mp h
  refine List.find?_eq_some_iff_append.mpr ⟨by simp only [tag, hp, Bool.and_self], before, after, eq, fun q hq => ?_⟩
  have := none_before q hq
  simp only [Bool.not_eq_true', Bool.and_eq_false_iff] at this ⊢
  exact .inl this

theorem tag_of_find {l : List FarReq} {t : Nat} {r : FarReq} (h : l.find? (fun q => q.tag == t) = some r) : r.tag = t := by
  simpa using List.find?_some h

/-- A change of the request of a tag that keeps its tag. -/
theorem find_tag_map {l : List FarReq} {t : Nat} {r : FarReq} {f : FarReq → FarReq} (hf : ∀ q, (f q).tag = q.tag)
    (h : l.find? (fun q => q.tag == t) = some r) : (l.map fun q => if q.tag = t then f q else q).find? (fun q => q.tag == t) = some (f r) := by
  have kept : ((fun q : FarReq => q.tag == t) ∘ fun q => if q.tag = t then f q else q) = fun q => q.tag == t := by
    funext q
    by_cases e : q.tag = t <;> simp [e, hf]
  rw [List.find?_map, kept, h, Option.map_some, if_pos (tag_of_find h)]

theorem Dev.far_modFar (d : Dev) (c t : Nat) (f : FarReq → FarReq) :
    ((d.modFar c t f).core c).far = (d.core c).far.map fun q => if q.tag = t then f q else q := by
  rw [Dev.modFar, Dev.core_modCore]

theorem Dev.modFar_modFar (d : Dev) (c t : Nat) (f g : FarReq → FarReq) (hf : ∀ q, (f q).tag = q.tag) :
    (d.modFar c t f).modFar c t g = d.modFar c t fun q => g (f q) := by
  simp only [Dev.modFar, Dev.modCore_modCore, List.map_map]
  congr 1
  funext x
  congr 1
  refine List.map_congr_left fun q _ => ?_
  by_cases e : q.tag = t <;> simp [e, hf]

/-- No earlier request shares a word with a tag's: none goes before it. -/
theorem Core.farBefore_nil {x : Core} {t : Nat} {r : FarReq} (h : x.far.find? (fun q => q.tag == t) = some r)
    (apart : ∀ u ∈ x.far.takeWhile (fun u => u.tag != t), u.meets r = false) : x.farBefore t = [] := by
  have alone (l : List FarReq) (hl : ∀ u ∈ l, u.meets r = false) :
      l.foldr (fun q (m : List FarReq) => if m.any q.meets then q :: m else m) [r] = [r] := by
    induction l with
    | nil => rfl
    | cons u l ih => rw [List.foldr_cons, ih fun v hv => hl v (List.mem_cons_of_mem _ hv)]; simp [hl u List.mem_cons_self]
  simp only [Core.farBefore, h]
  rw [alone _ fun u hu => apart u (List.mem_filter.mp hu).1]
  rfl

theorem Dev.farInOrder_alone {d : Dev} {c t : Nat} {r : FarReq} (h : (d.core c).far.find? (fun q => q.tag == t) = some r)
    (apart : ∀ u ∈ (d.core c).far.takeWhile (fun u => u.tag != t), u.meets r = false) (late : Bool) : d.farInOrder c t late = d.farWords c t late := by
  rw [Dev.farInOrder, Core.farBefore_nil h apart]; rfl

/-! ### The words of a request -/

theorem find_open {l : List FarReq} {t : Nat} {r : FarReq} (h : l.find? (fun q => q.tag == t) = some r) (done : r.done = none) (ended : r.ended = none) :
    l.find? (fun q => q.tag == t && q.ended.isNone && q.done.isNone) = some r := by
  simp only [Bool.and_assoc]
  exact find_tag_and (fun q => q.ended.isNone && q.done.isNone) h (by rw [ended, done]; rfl)

theorem Dev.farWords_inTime {d : Dev} {c t : Nat} {r : FarReq} (h : (d.core c).far.find? (fun q => q.tag == t) = some r) (done : r.done = none)
    (ended : r.ended = none) (time : d.now ≤ r.issued + 20000) : d.farWords c t false = d.farRun c r (r.cnt + 1) := by
  rw [Dev.farWords, find_open h done ended]
  simp only [Bool.not_false, Bool.true_and, decide_eq_true time, if_true]

/-- A request of one word: the word's status is the request's. -/
theorem Dev.farRun_one {d d' : Dev} {c st : Nat} {r : FarReq} (done : r.done = none) (ended : r.ended = none) (words : r.words = 0) (cnt : r.cnt = 0)
    (one : d.farOne c r 0 = (d', st)) : d.farRun c r 1 =
      d'.modFar c r.tag fun q => { q with words := if st = Stat.done then 1 else 0, ended := some st } := by
  rw [Dev.farRun, ended, done, words, cnt]
  simp only [Option.isSome_none, Bool.or_self, Bool.false_eq_true, if_false, Nat.sub_zero, List.range_one, List.map_cons, List.map_nil, Nat.add_zero,
    List.foldl_cons, List.foldl_nil, ne_eq, not_true_eq_false, one, Nat.zero_add]
  by_cases h : st = Stat.done <;> simp [h]

theorem Dev.farOne_read (d : Dev) (c : Nat) {r : FarReq} (op : r.op = 0) : d.farOne c r 0 =
    if (d.farRead c r.addr).2.2 = Stat.done then
      (((d.farRead c r.addr).1.st (localAddr c r.loc) (d.farRead c r.addr).2.1).winTouched c r.loc, (d.farRead c r.addr).2.2)
    else ((d.farRead c r.addr).1, (d.farRead c r.addr).2.2) := by
  rw [Dev.farOne, op]; rfl

/-- A word of another core's local data. -/
theorem Dev.farRead_peer {d : Dev} {c a k o : Nat} (p : peerLocal a = some (k, o)) : d.farRead c a =
    if d.epOn k = false then (d, 0, Stat.asleep) else if d.poisoned (localAddr k o) then (d, 0, Stat.poison) else (d, d.ld (localAddr k o), Stat.done) := by
  simp only [Dev.farRead, p, Bool.not_eq_true']

theorem Dev.farWrite_peer {d : Dev} {c a v k o : Nat} (p : peerLocal a = some (k, o)) (quiet : ∀ e ∈ d.ctxs, e.2.copying = none) : d.farWrite c a v =
    if d.epOn k = false then (d, Stat.asleep) else (d.st (localAddr k o) v, Stat.done) := by
  simp only [Dev.farWrite, p, Bool.not_eq_true']
  rw [Dev.winTouched_quiet (d := d.st (localAddr k o) v) quiet]

/-- One word to or from another core's local data. -/
theorem Dev.farOne_peer {d : Dev} {c k o : Nat} {r : FarReq} (p : peerLocal r.addr = some (k, o)) (quiet : ∀ e ∈ d.ctxs, e.2.copying = none) :
    let mine := localAddr c r.loc
    let far := localAddr k o
    (d.epOn k = false → d.poisoned mine = false → d.farOne c r 0 = (d, Stat.asleep)) ∧
    (d.epOn k = true → r.op = 0 → d.poisoned far = false → d.farOne c r 0 = (d.st mine (d.ld far), Stat.done)) ∧
    (d.epOn k = true → r.op = 1 → d.poisoned mine = false → d.farOne c r 0 = (d.st far (d.ld mine), Stat.done)) ∧
    (d.epOn k = true → r.op = 2 → d.poisoned mine = false → d.poisoned far = false →
      d.farOne c r 0 = ((d.st far (d.ld mine)).st mine (d.ld far), Stat.done)) := by
  have asleep (off : d.epOn k = false) (v : Nat) : d.farRead c r.addr = (d, 0, Stat.asleep) ∧ d.farWrite c r.addr v = (d, Stat.asleep) :=
    ⟨by rw [Dev.farRead_peer p, if_pos off], by rw [Dev.farWrite_peer p quiet, if_pos off]⟩
  have reads (on : d.epOn k = true) (clean : d.poisoned (localAddr k o) = false) : d.farRead c r.addr = (d, d.ld (localAddr k o), Stat.done) := by
    rw [Dev.farRead_peer p, if_neg (by simp [on]), if_neg (by simp [clean])]
  have writes (on : d.epOn k = true) (v : Nat) : d.farWrite c r.addr v = (d.st (localAddr k o) v, Stat.done) := by
    rw [Dev.farWrite_peer p quiet, if_neg (by simp [on])]
  refine ⟨fun off clean => ?_, fun on op clean => ?_, fun on op clean => ?_, fun on op clean1 clean2 => ?_⟩
  · unfold Dev.farOne
    split
    · simp [(asleep off 0).1]
    · simp [(asleep off _).2, clean]
    · simp [(asleep off 0).1, clean]
  · rw [Dev.farOne_read d c op, reads on clean, if_pos rfl, Dev.winTouched_quiet (d := d.st _ _) quiet]
  · simp [Dev.farOne, op, clean, writes on]
  · simp only [Dev.farOne, op, Nat.add_zero, clean1, reads on clean2, writes on, Bool.false_eq_true, if_false, ne_eq, not_true_eq_false]
    rw [Dev.winTouched_quiet (d := (d.st (localAddr k o) _).st _ _) quiet]

/-! ### Its end -/

/-- FAR_DONE of a request that nothing goes before. -/
theorem Dev.farComplete_alone {d d' : Dev} {c t : Nat} {r q : FarReq} (h : (d.core c).far.find? (fun q => q.tag == t) = some r) (done : r.done = none)
    (ended : r.ended = none) (time : d.now ≤ r.issued + 20000) (apart : ∀ u ∈ (d.core c).far.takeWhile (fun u => u.tag != t), u.meets r = false)
    (runs : d.farRun c r (r.cnt + 1) = d') (left : (d'.core c).far.find? (fun q => q.tag == t) = some q) :
    d.farComplete c t = d'.farEnd c t (q.ended.getD Stat.done) := by
  rw [Dev.farComplete, find_tag_and (fun q => q.done.isNone) h (by rw [done]; rfl)]
  simp only [if_neg (Nat.not_lt.mpr time), Dev.farInOrder_alone h apart, Dev.farWords_inTime h done ended time, runs, left]

/-- FAR_DONE of a request of one word. -/
theorem Dev.farComplete_one {d d' : Dev} {c t st n : Nat} {r : FarReq} (h : (d.core c).far.find? (fun q => q.tag == t) = some r) (done : r.done = none)
    (ended : r.ended = none) (words : r.words = 0) (cnt : r.cnt = 0) (time : d.now ≤ r.issued + 20000)
    (apart : ∀ u ∈ (d.core c).far.takeWhile (fun u => u.tag != t), u.meets r = false) (one : d.farOne c r 0 = (d', st)) (cores : d'.core c = d.core c)
    (performed : (if st = Stat.done then 1 else 0) = n) : d.farComplete c t = (d'.modFar c t fun q => { q with words := n, ended := some st }).farEnd c t st := by
  rw [← performed]
  have runs : d.farRun c r (r.cnt + 1) = d'.modFar c t fun q => { q with words := if st = Stat.done then 1 else 0, ended := some st } := by
    rw [cnt, Dev.farRun_one done ended words cnt one, tag_of_find h]
  have left := find_tag_map (f := fun q => { q with words := if st = Stat.done then 1 else 0, ended := some st }) (fun _ => rfl) h
  rw [← cores, ← Dev.far_modFar] at left
  exact Dev.farComplete_alone h done ended time apart runs left

theorem Dev.core_upTo (d : Dev) (t c : Nat) : (d.upTo t).core c = d.core c := by
  unfold Dev.upTo; split
  · rfl
  · split
    · rfl
    · split <;> rfl

/-- FAR_TIMEOUT of a request whose last word alone is left: the word is not performed. -/
theorem Dev.farLate_last {d : Dev} {c t : Nat} {r : FarReq} (h : (d.core c).far.find? (fun q => q.tag == t) = some r) (done : r.done = none)
    (ended : r.ended = none) (last : r.words = r.cnt) (apart : ∀ u ∈ (d.core c).far.takeWhile (fun u => u.tag != t), u.meets r = false) :
    d.farLate c t = (((d.upTo (r.issued + 20000)).fresh 8).2.modFar c t fun q =>
      { q with words := r.words, ended := some Stat.timeout }).farEnd c t Stat.timeout := by
  have later : ((d.upTo (r.issued + 20000)).core c).far = (d.core c).far := by rw [Dev.core_upTo]
  have words : (d.upTo (r.issued + 20000)).farWords c t true =
      ((d.upTo (r.issued + 20000)).fresh 8).2.modFar c t fun q => { q with words := r.words, ended := some Stat.timeout } := by
    rw [Dev.farWords, later, find_open h done ended]
    simp only [Bool.not_true, Bool.false_and, Bool.false_eq_true, if_false, Dev.farRun, done, ended, Option.isSome_none, Bool.or_self, last,
      Nat.add_sub_cancel_left, Nat.mod_one, Nat.add_zero, Nat.sub_self, List.range_zero, List.map_nil, List.foldl_nil, ne_eq, not_true_eq_false,
      show ¬ r.cnt = r.cnt + 1 by omega, tag_of_find h]
    exact Dev.modFar_modFar _ c t (fun q => { q with words := r.cnt, ended := none }) _ fun _ => rfl
  rw [Dev.farLate, find_tag_and (fun q => q.done.isNone) h (by rw [done]; rfl)]
  simp only [ended]
  rw [Dev.farInOrder_alone (by rw [later]; exact h) (by rw [later]; exact apart), words]
  have left : ((((d.upTo (r.issued + 20000)).fresh 8).2.modFar c t fun q => { q with words := r.words, ended := some Stat.timeout }).core c).far.find?
      (fun q => q.tag == t) = some { r with words := r.words, ended := some Stat.timeout } := by
    rw [Dev.far_modFar]
    exact (congrArg (fun l : List FarReq => (l.map _).find? _) later).trans
      (find_tag_map (f := fun q => { q with words := r.words, ended := some Stat.timeout }) (fun _ => rfl) h)
  rw [left]
  rfl

/-! ### Tags -/

theorem Dev.farIssue_tag {d : Dev} {c a ctl t : Nat} (h : t < 32) (free : ∀ r ∈ (d.core c).far, r.tag ≠ t) (used : ∀ u, u < t → ∃ r ∈ (d.core c).far, r.tag = u) :
    (d.farIssue c a ctl).2 = word t ∧ ((d.farIssue c a ctl).1.core c).far.length = (d.core c).far.length + 1 := by
  have lowest : ((List.range 32).find? fun t => (d.core c).far.all fun r => r.tag != t) = some t := by
    refine List.find?_range_eq_some.mpr ⟨?_, List.mem_range.mpr h, fun u hu => ?_⟩
    · simpa using free
    · obtain ⟨r, hr, e⟩ := used u hu
      simpa using ⟨r, hr, e⟩
  rw [Dev.farIssue, lowest]
  simp only [Dev.core_modCore, List.length_append, List.length_singleton, and_self]

theorem Dev.farIssue_full {d : Dev} {c : Nat} (a ctl : Nat) (used : ∀ u, u < 32 → ∃ r ∈ (d.core c).far, r.tag = u) : d.farIssue c a ctl = (d, 0xFFFFFF) := by
  have full : ((List.range 32).find? fun t => (d.core c).far.all fun r => r.tag != t) = none := by
    refine List.find?_eq_none.mpr fun u hu => ?_
    obtain ⟨r, hr, e⟩ := used u (List.mem_range.mp hu)
    simpa using ⟨r, hr, e⟩
  rw [Dev.farIssue, full]

/-- Three open requests: which of the first two go before the third. -/
theorem Core.farBefore_three {x : Core} {p q r : FarReq} (far : x.far = [p, q, r]) (all_open : ∀ u ∈ [p, q, r], u.ended = none ∧ u.done = none)
    (hp : p.tag ≠ r.tag) (hq : q.tag ≠ r.tag) :
    (q.meets r = true → p.meets q = true → x.farBefore r.tag = [p.tag, q.tag]) ∧
    (q.meets r = false → x.farBefore r.tag = if p.meets r then [p.tag] else []) := by
  simp only [List.forall_mem_cons] at all_open
  obtain ⟨⟨pe, pd⟩, ⟨qe, qd⟩, -⟩ := all_open
  have before : x.farBefore r.tag = (([p, q].foldr (fun q (m : List FarReq) => if m.any q.meets then q :: m else m) [r]).dropLast).map (·.tag) := by
    simp [Core.farBefore, far, hp, hq, pe, pd, qe, qd]
  refine ⟨fun qr pq => ?_, fun qr => ?_⟩
  · rw [before]; simp [qr, pq]
  · rw [before]
    by_cases pr : p.meets r = true <;> simp [qr, pr]

/-- Settles O37: tags as they are issued, FAR_DONE and FAR_TIMEOUT of a request that nothing goes before, and what goes before one. -/
theorem farRequests : Obligations.FarRequests := by
  refine ⟨fun d c a ctl t h free used => Dev.farIssue_tag h free used, fun d c a ctl used => Dev.farIssue_full a ctl used,
    fun s c tag r q h done ended time apart left => ?_, fun s c tag r st h ended => ?_, fun s c tag r k o h done ended words cnt time apart p quiet => ?_,
    fun s c tag r h done ended last apart => ?_, fun x p q r far all_open hp hq => Core.farBefore_three far all_open hp hq,
    fun d d1 c v st r ended done words cnt op reads => ?_⟩
  · exact run_after (f := (·.farComplete c tag)) (Dev.farComplete_alone (d := s.cmd) h done ended time apart rfl left)
  · refine run_after (f := (·.farLate c tag)) ?_
    rw [Dev.farLate, show (s.cmd.core c).far.find? (fun r => r.tag == tag.val && r.done.isNone) = some r from h]
    simp only [ended]
  · obtain ⟨asleep, read, write, swap⟩ := Dev.farOne_peer (d := s.cmd) (c := c) p quiet
    have ends {d' : Dev} {st n : Nat} (one : s.cmd.farOne c r 0 = (d', st)) (cores : d'.core c = s.cmd.core c) (performed : (if st = Stat.done then 1 else 0) = n) :=
      run_after (f := (·.farComplete c tag)) (Dev.farComplete_one (d := s.cmd) h done ended words cnt time apart one cores performed)
    exact ⟨fun off clean => ends (asleep off clean) rfl rfl, fun on op clean => ends (read on op clean) rfl rfl,
      fun on op clean => ends (write on op clean) rfl rfl, fun on op clean1 clean2 => ends (swap on op clean1 clean2) rfl rfl⟩
  · exact run_after (f := (·.farLate c tag)) (Dev.farLate_last (d := s.cmd) h done ended last apart)
  · have one := Dev.farOne_read d c op
    rw [reads] at one
    by_cases h : st = Stat.done
    · rw [if_pos h]; rw [if_pos h] at one
      rw [Dev.farRun_one done ended words cnt one, if_pos h, h]
    · rw [if_neg h]; rw [if_neg h] at one
      rw [Dev.farRun_one done ended words cnt one, if_neg h]

end Sys2Proof.Machine
end

section
/-! SUPPORT. A command that is well formed completes and leaves the queue (spec 00, 03; log entries 2 and 9), and a queue of them runs to its end. -/
namespace Sys2Proof.Machine

theorem wants_next {ok : Bool} (h : ok = true) (what : String) (f : Dev → Dev) (s : State) : wants ok what f s = .next (s.after (f s.cmd)) := if_pos h

theorem wants_fault {ok : Bool} (h : ok = false) (what : String) (f : Dev → Dev) (s : State) : wants ok what f s = .fault (.malformed what) :=
  if_neg (Bool.eq_false_iff.mp h)

/-- A well-formed command changes the block alone. -/
theorem exec_next (c : Instr) (s : State) (h : c.wellFormed = true) : ∃ d, exec c s = .next (s.withDev d) := by
  cases c
  case tjSample => exact ⟨_, wants_next h _ _ s⟩
  case tapRailSample => exact ⟨_, wants_next h _ _ s⟩
  case tdrProcEnd => exact ⟨_, wants_next h _ _ s⟩
  case mailboxPost => exact ⟨_, wants_next h _ _ s⟩
  case doorbellRing bell v =>
    obtain ⟨ep, core⟩ := bell
    cases core <;> exact ⟨_, rfl⟩
  all_goals exact ⟨_, rfl⟩

/-- A command is malformed by the length of its list operand alone, and that is its fault. -/
theorem exec_fault (c : Instr) (s : State) (h : c.wellFormed = false) : ∃ w, exec c s = .fault (.malformed w) := by
  cases c
  case tjSample => exact ⟨_, wants_fault h _ _ s⟩
  case tapRailSample => exact ⟨_, wants_fault h _ _ s⟩
  case tdrProcEnd => exact ⟨_, wants_fault h _ _ s⟩
  case mailboxPost => exact ⟨_, wants_fault h _ _ s⟩
  all_goals cases h

theorem State.coreGoes_pending (s : State) (c : Fin 20) : (s.coreGoes c).pending = s.pending := by
  rw [State.coreGoes]
  generalize uluenFetch c s = o
  split
  · rfl
  · cases o <;> rfl

theorem State.programs_pending (s : State) : s.programs.pending = s.pending := by
  have each (l : List (Fin 20)) (s : State) : (l.foldl State.coreGoes s).pending = s.pending := by
    induction l generalizing s with
    | nil => rfl
    | cons c l ih => rw [List.foldl_cons, ih, State.coreGoes_pending]
  rw [State.programs, each]

theorem State.idle_pending (s : State) : s.idle.pending = s.pending := by
  rw [State.idle, State.dev_pending, s.programs_pending]

/-- A step of well-formed commands takes the first away. -/
theorem step_next (s : State) (h : s.wellQueued = true) : ∃ t, step s = .next t ∧ t.pending = s.pending.tail := by
  unfold step
  cases e : s.pending with
  | nil => exact ⟨s.idle, rfl, s.idle_pending.trans e⟩
  | cons c rest =>
    simp only [State.wellQueued, e, List.all_cons, Bool.and_eq_true] at h
    obtain ⟨d, hd⟩ := exec_next c { s with pending := rest } h.1
    exact ⟨_, hd, rfl⟩

theorem State.wellQueued_of_tail {s t : State} (h : s.wellQueued = true) (tail : t.pending = s.pending.tail) : t.wellQueued = true := by
  unfold State.wellQueued at h ⊢
  rw [tail]
  exact List.all_eq_true.mpr fun c hc => List.all_eq_true.mp h c (List.mem_of_mem_tail hc)

theorem runSteps_next (n : Nat) (s : State) (h : s.wellQueued = true) : ∃ t, runSteps n s = .next t ∧ t.pending = s.pending.drop n := by
  induction n generalizing s with
  | zero => exact ⟨s, rfl, rfl⟩
  | succ n ih =>
    obtain ⟨t, hs, tail⟩ := step_next s h
    obtain ⟨u, ht, left⟩ := ih t (State.wellQueued_of_tail h tail)
    refine ⟨u, ?_, ?_⟩
    · rw [runSteps, hs]; exact ht
    · rw [left, tail, List.drop_tail]

/-- Settles O58: each command by its length, the steps by the command at the front, a run by its steps. -/
theorem everyCommandCompletes : Obligations.EveryCommandCompletes := by
  refine ⟨fun c s h => ?_, exec_fault, fun s h => ?_, runSteps_next⟩
  · obtain ⟨d, hd⟩ := exec_next c s h
    exact ⟨_, hd, rfl⟩
  · obtain ⟨t, hs, tail⟩ := step_next s h
    exact ⟨t, hs, State.wellQueued_of_tail h tail, tail⟩

end Sys2Proof.Machine
end

section
/-! SUPPORT. What every function of the block keeps: memory stays canonical, PD0 stays on, T0 does not run back (spec 01, R15, R16; spec 04, R105). -/
set_option Elab.async false
namespace Sys2Proof.Machine

/-- The block d, on the way from o, keeps memory canonical and PD0 on, and its T0 stands to o's as R says. -/
structure Dev.KeepsBy (o : Dev) (R : Nat → Nat → Prop) (d : Dev) : Prop where
  mem : o.mem.wf = true → d.mem.wf = true
  pd0 : o.domOn 0 = true → d.domOn 0 = true
  now : R o.now d.now

/-- The block d, on the way from o, keeps what every step keeps. -/
abbrev Dev.Keeps (o d : Dev) : Prop := o.KeepsBy (· ≤ ·) d

/-- So does every block that an answer carries. -/
def Dev.KeepsOpt {α : Type} (o : Dev) (sel : α → Dev) (r : Option α) : Prop := ∀ x, r = some x → o.Keeps (sel x)

section
variable {o d : Dev} {R : Nat → Nat → Prop}

theorem Dev.KeepsBy.refl : d.Keeps d := ⟨id, id, Nat.le_refl _⟩

theorem Dev.KeepsBy.trans {e : Dev} (h : o.Keeps d) (k : d.Keeps e) : o.Keeps e :=
  ⟨fun x => k.mem (h.mem x), fun x => k.pd0 (h.pd0 x), Nat.le_trans h.now k.now⟩

/-- A change of other fields. -/
theorem Dev.KeepsBy.same {e : Dev} (h : o.KeepsBy R d) (mem : e.mem = d.mem := by rfl) (doms : e.doms = d.doms := by rfl) (now : e.now = d.now := by rfl) :
    o.KeepsBy R e :=
  ⟨fun x => mem ▸ h.mem x, fun x => by rw [Dev.domOn, doms]; exact h.pd0 x, now ▸ h.now⟩

/-! One lemma per set of fields that the model's record updates change. -/

theorem Dev.KeepsBy.withDict {dict'} (h : o.KeepsBy R d) : o.KeepsBy R { d with dict := dict' } := h.same

theorem Dev.KeepsBy.withSeq {seq'} (h : o.KeepsBy R d) : o.KeepsBy R { d with seq := seq' } := h.same

theorem Dev.KeepsBy.withGather {gather'} (h : o.KeepsBy R d) : o.KeepsBy R { d with gather := gather' } := h.same

theorem Dev.KeepsBy.withOut {out'} (h : o.KeepsBy R d) : o.KeepsBy R { d with out := out' } := h.same

theorem Dev.KeepsBy.withHost {host'} (h : o.KeepsBy R d) : o.KeepsBy R { d with host := host' } := h.same

theorem Dev.KeepsBy.withCores {cores'} (h : o.KeepsBy R d) : o.KeepsBy R { d with cores := cores' } := h.same

theorem Dev.KeepsBy.withSump {sump'} (h : o.KeepsBy R d) : o.KeepsBy R { d with sump := sump' } := h.same

theorem Dev.KeepsBy.withOd {od'} (h : o.KeepsBy R d) : o.KeepsBy R { d with od := od' } := h.same

theorem Dev.KeepsBy.withTap {tap'} (h : o.KeepsBy R d) : o.KeepsBy R { d with tap := tap' } := h.same

theorem Dev.KeepsBy.withWork {work'} (h : o.KeepsBy R d) : o.KeepsBy R { d with work := work' } := h.same

theorem Dev.KeepsBy.withMm {mm'} (h : o.KeepsBy R d) : o.KeepsBy R { d with mm := mm' } := h.same

theorem Dev.KeepsBy.withTiles {tiles'} (h : o.KeepsBy R d) : o.KeepsBy R { d with tiles := tiles' } := h.same

theorem Dev.KeepsBy.withMotion {motion'} (h : o.KeepsBy R d) : o.KeepsBy R { d with motion := motion' } := h.same

theorem Dev.KeepsBy.withLogAt {logAt'} (h : o.KeepsBy R d) : o.KeepsBy R { d with logAt := logAt' } := h.same

theorem Dev.KeepsBy.withOdMotion {od' motion'} (h : o.KeepsBy R d) : o.KeepsBy R { d with od := od', motion := motion' } := h.same

theorem Dev.KeepsBy.withMacs {macs'} (h : o.KeepsBy R d) : o.KeepsBy R { d with macs := macs' } := h.same

theorem Dev.KeepsBy.withSw {sw'} (h : o.KeepsBy R d) : o.KeepsBy R { d with sw := sw' } := h.same

theorem Dev.KeepsBy.withEps {eps'} (h : o.KeepsBy R d) : o.KeepsBy R { d with eps := eps' } := h.same

theorem Dev.KeepsBy.withPorts {ports'} (h : o.KeepsBy R d) : o.KeepsBy R { d with ports := ports' } := h.same

theorem Dev.KeepsBy.withChans {chans'} (h : o.KeepsBy R d) : o.KeepsBy R { d with chans := chans' } := h.same

theorem Dev.KeepsBy.withSegs {segs'} (h : o.KeepsBy R d) : o.KeepsBy R { d with segs := segs' } := h.same

theorem Dev.KeepsBy.withBuses {buses'} (h : o.KeepsBy R d) : o.KeepsBy R { d with buses := buses' } := h.same

theorem Dev.KeepsBy.withEngines {engines'} (h : o.KeepsBy R d) : o.KeepsBy R { d with engines := engines' } := h.same

theorem Dev.KeepsBy.withFree {free'} (h : o.KeepsBy R d) : o.KeepsBy R { d with free := free' } := h.same

theorem Dev.KeepsBy.withTime {time'} (h : o.KeepsBy R d) : o.KeepsBy R { d with time := time' } := h.same

theorem Dev.KeepsBy.withMacsBuses {macs' buses'} (h : o.KeepsBy R d) : o.KeepsBy R { d with macs := macs', buses := buses' } := h.same

theorem Dev.KeepsBy.withCtxs {ctxs'} (h : o.KeepsBy R d) : o.KeepsBy R { d with ctxs := ctxs' } := h.same

theorem Dev.KeepsBy.withCellar {cellar'} (h : o.KeepsBy R d) : o.KeepsBy R { d with cellar := cellar' } := h.same

theorem Dev.KeepsBy.withPoison {poison'} (h : o.KeepsBy R d) : o.KeepsBy R { d with poison := poison' } := h.same

theorem Dev.KeepsBy.withStore {store'} (h : o.KeepsBy R d) : o.KeepsBy R { d with store := store' } := h.same

theorem Dev.KeepsBy.withUps {ups'} (h : o.KeepsBy R d) : o.KeepsBy R { d with ups := ups' } := h.same

theorem Dev.KeepsBy.withDictCtxs {dict' ctxs'} (h : o.KeepsBy R d) : o.KeepsBy R { d with dict := dict', ctxs := ctxs' } := h.same

theorem Dev.KeepsBy.withBundles {bundles'} (h : o.KeepsBy R d) : o.KeepsBy R { d with bundles := bundles' } := h.same

theorem Dev.KeepsBy.withBlob {blob'} (h : o.KeepsBy R d) : o.KeepsBy R { d with blob := blob' } := h.same

theorem Dev.KeepsBy.withOdBlob {od' blob'} (h : o.KeepsBy R d) : o.KeepsBy R { d with od := od', blob := blob' } := h.same

theorem Dev.KeepsBy.withStores {stores'} (h : o.KeepsBy R d) : o.KeepsBy R { d with stores := stores' } := h.same

theorem Dev.KeepsBy.withStoreBundles {store' bundles'} (h : o.KeepsBy R d) : o.KeepsBy R { d with store := store', bundles := bundles' } := h.same

theorem Dev.KeepsBy.withEcc {ecc'} (h : o.KeepsBy R d) : o.KeepsBy R { d with ecc := ecc' } := h.same

/-- A change of memory that keeps it canonical. -/
theorem Dev.KeepsBy.withMem {e : Dev} (h : o.KeepsBy R d) (mem : d.mem.wf = true → e.mem.wf = true) (doms : e.doms = d.doms := by rfl)
    (now : e.now = d.now := by rfl) : o.KeepsBy R e :=
  ⟨fun x => mem (h.mem x), fun x => by rw [Dev.domOn, doms]; exact h.pd0 x, now ▸ h.now⟩

/-! ### Branches, pairs, answers and loops -/

theorem Dev.KeepsBy.ite {c : Prop} [Decidable c] {x y : Dev} (h : o.KeepsBy R x) (k : o.KeepsBy R y) : o.KeepsBy R (if c then x else y) := by
  split
  · exact h
  · exact k

theorem Dev.KeepsBy.iteFst {α : Type} {c : Prop} [Decidable c] {x y : Dev × α} (h : o.KeepsBy R x.1) (k : o.KeepsBy R y.1) : o.KeepsBy R (if c then x else y).1 := by
  split
  · exact h
  · exact k

theorem Dev.KeepsBy.iteSnd {α : Type} {c : Prop} [Decidable c] {x y : α × Dev} (h : o.KeepsBy R x.2) (k : o.KeepsBy R y.2) : o.KeepsBy R (if c then x else y).2 := by
  split
  · exact h
  · exact k

theorem Dev.KeepsOpt.ite {α : Type} {sel : α → Dev} {c : Prop} [Decidable c] {x y : Option α} (h : o.KeepsOpt sel x) (k : o.KeepsOpt sel y) :
    o.KeepsOpt sel (if c then x else y) := by
  split
  · exact h
  · exact k

theorem Dev.KeepsBy.dite {c : Prop} [Decidable c] {x : c → Dev} {y : ¬ c → Dev} (h : ∀ k, o.KeepsBy R (x k)) (k : ∀ k, o.KeepsBy R (y k)) :
    o.KeepsBy R (if p : c then x p else y p) := by
  split
  · exact h _
  · exact k _

theorem Dev.KeepsBy.diteFst {α : Type} {c : Prop} [Decidable c] {x : c → Dev × α} {y : ¬ c → Dev × α} (h : ∀ k, o.KeepsBy R (x k).1) (k : ∀ k, o.KeepsBy R (y k).1) :
    o.KeepsBy R (if p : c then x p else y p).1 := by
  split
  · exact h _
  · exact k _

theorem Dev.KeepsBy.answer {α : Type} {a : α} (h : o.KeepsBy R d) : o.KeepsBy R (d, a).1 := h

theorem Dev.KeepsBy.answerSnd {α : Type} {a : α} (h : o.KeepsBy R d) : o.KeepsBy R (a, d).2 := h

theorem Dev.KeepsBy.ofFst {α : Type} {p : Dev × α} {a : α} (h : o.KeepsBy R p.1) (e : p = (d, a)) : o.KeepsBy R d := by
  subst e; exact h

theorem Dev.KeepsBy.ofSnd {α : Type} {p : α × Dev} {a : α} (h : o.KeepsBy R p.2) (e : p = (a, d)) : o.KeepsBy R d := by
  subst e; exact h

theorem Dev.KeepsOpt.none {α : Type} {sel : α → Dev} : o.KeepsOpt sel none := nofun

theorem Dev.KeepsOpt.some {α : Type} {sel : α → Dev} {x : α} (h : o.Keeps (sel x)) : o.KeepsOpt sel (some x) := by
  rintro _ ⟨⟩; exact h

theorem Dev.KeepsOpt.just (h : o.Keeps d) : o.KeepsOpt id (Option.some d) := Dev.KeepsOpt.some h

theorem Dev.KeepsOpt.ofSome {r : Option Dev} (h : o.KeepsOpt id r) (e : r = Option.some d) : o.Keeps d := h _ e

theorem Dev.KeepsOpt.ofSomeFst {α : Type} {a : α} {r : Option (Dev × α)} (h : o.KeepsOpt Prod.fst r) (e : r = Option.some (d, a)) : o.Keeps d := h _ e

theorem Dev.KeepsOpt.bind {α β : Type} {sel : α → Dev} {sel' : β → Dev} {r : Option α} {f : α → Option β} (h : o.KeepsOpt sel r)
    (hf : ∀ x, o.Keeps (sel x) → o.KeepsOpt sel' (f x)) : o.KeepsOpt sel' (r.bind f) := by
  cases r with
  | none => exact nofun
  | some x => exact hf x (h x rfl)

theorem Dev.KeepsOpt.map {α β : Type} {sel : α → Dev} {sel' : β → Dev} {r : Option α} {f : α → β} (h : o.KeepsOpt sel r)
    (hf : ∀ x, o.Keeps (sel x) → o.Keeps (sel' (f x))) : o.KeepsOpt sel' (r.map f) := by
  cases r with
  | none => exact nofun
  | some x => rintro _ ⟨⟩; exact hf x (h x rfl)

theorem Dev.KeepsOpt.mapDev {α : Type} {sel : α → Dev} {r : Option α} {f : α → Dev} (h : o.KeepsOpt sel r)
    (hf : ∀ x, o.Keeps (sel x) → o.Keeps (f x)) : o.KeepsOpt id (r.map f) := h.map hf

theorem Dev.KeepsOpt.bindPlain {α β : Type} {sel : β → Dev} {r : Option α} {f : α → Option β} (hf : ∀ x, o.KeepsOpt sel (f x)) :
    o.KeepsOpt sel (r.bind f) := by
  cases r with
  | none => exact nofun
  | some x => exact hf x

theorem Dev.KeepsOpt.mapPlain {α β : Type} {sel : β → Dev} {r : Option α} {f : α → β} (hf : ∀ x, o.Keeps (sel (f x))) : o.KeepsOpt sel (r.map f) := by
  cases r with
  | none => exact nofun
  | some x => rintro _ ⟨⟩; exact hf x

theorem Dev.KeepsOpt.mapPlainDev {α : Type} {r : Option α} {f : α → Dev} (hf : ∀ x, o.Keeps (f x)) : o.KeepsOpt id (r.map f) := .mapPlain hf

theorem Dev.KeepsOpt.getD {r : Option Dev} (h : o.KeepsOpt id r) (k : o.Keeps d) : o.Keeps (r.getD d) := by
  cases r with
  | none => exact k
  | some x => exact h x rfl

/-- A loop keeps what each round keeps. -/
theorem keeps_foldl {α β : Type} {P : β → Prop} {f : β → α → β} {l : List α} {b : β} (h : P b) (hf : ∀ b a, P b → P (f b a)) : P (l.foldl f b) := by
  induction l generalizing b with
  | nil => exact h
  | cons a l ih => exact ih (hf b a h)

theorem Dev.KeepsBy.foldl {α : Type} {f : Dev → α → Dev} {l : List α} (h : o.KeepsBy R d) (hf : ∀ d a, o.KeepsBy R d → o.KeepsBy R (f d a)) : o.KeepsBy R (l.foldl f d) :=
  keeps_foldl h hf

theorem Dev.KeepsBy.foldlFst {α β : Type} {f : Dev × β → α → Dev × β} {l : List α} {p : Dev × β} (h : o.KeepsBy R p.1)
    (hf : ∀ p a, o.KeepsBy R p.1 → o.KeepsBy R (f p a).1) : o.KeepsBy R (l.foldl f p).1 :=
  keeps_foldl (P := fun p : Dev × β => o.KeepsBy R p.1) h hf

theorem Dev.KeepsOpt.foldl {α β : Type} {sel : β → Dev} {f : Option β → α → Option β} {l : List α} {r : Option β} (h : o.KeepsOpt sel r)
    (hf : ∀ r a, o.KeepsOpt sel r → o.KeepsOpt sel (f r a)) : o.KeepsOpt sel (l.foldl f r) :=
  keeps_foldl h hf

/-! ### Memory, domains and T0 -/

theorem Dev.KeepsBy.st {a v : Nat} (h : o.KeepsBy R d) : o.KeepsBy R (d.st a v) := h.withMem (Dev.wf_st a v)

theorem Dev.KeepsBy.stAll {a : Nat} {l : List Nat} (h : o.KeepsBy R d) : o.KeepsBy R (d.stAll a l) := by
  induction l generalizing d a with
  | nil => exact h
  | cons v l ih => exact ih h.st

theorem Dev.KeepsBy.clearMem {lo hi : Nat} (h : o.KeepsBy R d) : o.KeepsBy R (d.clearMem lo hi) := h.withMem (Dev.wf_clearMem lo hi)

theorem Dev.KeepsBy.advance {k : Nat} (h : o.Keeps d) : o.Keeps (d.advance k) := ⟨h.mem, h.pd0, Nat.le_trans h.now (Nat.le_add_right _ _)⟩

/-- Bit 0 stays where another bit is put. -/
theorem testBit_zero_putBit {v n : Nat} {b : Bool} (hn : 0 < n) : (putBit v n b).testBit 0 = v.testBit 0 := by
  obtain ⟨m, rfl⟩ := Nat.exists_eq_succ_of_ne_zero (Nat.ne_of_gt hn)
  have even : 2 ^ (m + 1) = 2 * 2 ^ m := by rw [Nat.pow_succ, Nat.mul_comm]
  rw [putBit]
  split
  · rfl
  · next hv =>
    split
    · simp only [Nat.testBit_zero]
      congr 1
      simp only [eq_iff_iff]; omega
    · next hb =>
      have le : 2 ^ (m + 1) ≤ v := Nat.ge_two_pow_of_testBit (by simpa [hb] using hv)
      simp only [Nat.testBit_zero]
      congr 1
      simp only [eq_iff_iff]; omega

theorem domOfEp_pos {c : Nat} : 0 < domOfEp c := by
  rw [domOfEp]; split
  · omega
  · split <;> omega

/-- A change of one domain other than PD0. -/
theorem Dev.KeepsBy.putDom {e : Dev} {n : Nat} {b : Bool} (h : o.KeepsBy R d) (hn : 0 < n := by omega) (mem : e.mem = d.mem := by rfl)
    (doms : e.doms = putBit d.doms n b := by rfl) (now : e.now = d.now := by rfl) : o.KeepsBy R e :=
  ⟨fun x => mem ▸ h.mem x, fun x => by rw [Dev.domOn, doms, testBit_zero_putBit hn]; exact h.pd0 x, now ▸ h.now⟩

theorem Dev.KeepsBy.power {n : Nat} {v : Bool} (h : o.KeepsBy R d) (hn : 0 < n := by omega) : o.KeepsBy R (d.power n v) := h.putDom hn

end
end Sys2Proof.Machine
end

section
/-! SUPPORT. What every step keeps, function by function, in the order in which the model uses them (spec 01, R15, R16; spec 04, R105): each lemma
follows its function's branches, one Keeps lemma for each function that it calls. -/
set_option Elab.async false
namespace Sys2Proof.Machine
variable {o d : Dev} {R : Nat → Nat → Prop}

theorem Dev.KeepsBy.modDict {f} (h : o.Keeps d) : o.Keeps (d.modDict f) := h.withDict

theorem Dev.KeepsBy.event (h : o.KeepsBy R d) : o.KeepsBy R d.event := h.withSeq

theorem Dev.KeepsBy.iff {c f} (h : o.KeepsBy R d) (hf : ∀ d, o.KeepsBy R d → o.KeepsBy R (f d)) : o.KeepsBy R (d.iff c f) := by
  unfold Dev.iff
  exact .ite (hf _ h) h

theorem Dev.KeepsBy.journal {t status seq} (h : o.Keeps d) : o.Keeps (d.journal t status seq) := by
  unfold Dev.journal
  exact .ite h h.stAll.modDict

theorem Dev.KeepsBy.modGather {f} (h : o.KeepsBy R d) : o.KeepsBy R (d.modGather f) := h.withGather

theorem Dev.KeepsBy.emit {o'} (h : o.KeepsBy R d) : o.KeepsBy R (d.emit o') := h.withOut

theorem Dev.KeepsBy.msix {v} (h : o.KeepsBy R d) : o.KeepsBy R (d.msix v) := by
  unfold Dev.msix
  exact .ite h.withHost h.emit

theorem Dev.KeepsBy.modCore {c f} (h : o.KeepsBy R d) : o.KeepsBy R (d.modCore c f) := h.withCores

theorem Dev.KeepsBy.drive {c s v} (h : o.KeepsBy R d) : o.KeepsBy R (d.drive c s v) := by
  unfold Dev.drive
  exact h.modCore

theorem Dev.KeepsBy.postLine {c l} (h : o.KeepsBy R d) : o.KeepsBy R (d.postLine c l) := by
  unfold Dev.postLine
  exact .ite h.drive h

theorem Dev.KeepsBy.deliver {s} (h : o.KeepsBy R d) : o.KeepsBy R (d.deliver s) := by
  unfold Dev.deliver
  extract_lets _ _ _ d1
  have h1 : o.KeepsBy R d1 := .ite h.msix h.postLine
  exact .ite h (.ite h1.modGather.postLine h1)

theorem Dev.KeepsBy.raise {s} (h : o.KeepsBy R d) : o.KeepsBy R (d.raise s) := by
  unfold Dev.raise
  refine .ite ?_ h
  extract_lets d1 _ d2
  have h1 : o.KeepsBy R d1 := h.event
  have h2 : o.KeepsBy R d2 := h1.modGather
  exact .ite h2.deliver h2

theorem Dev.KeepsBy.postCompl (h : o.Keeps d) : o.Keeps d.postCompl := by
  unfold Dev.postCompl
  split
  · exact h
  · refine .ite h ?_
    extract_lets _ d1
    have h1 : o.Keeps d1 := h.stAll.st
    exact h1.modDict.raise

theorem Dev.KeepsBy.deliverCompl {c} (h : o.Keeps d) : o.Keeps (d.deliverCompl c) := by
  unfold Dev.deliverCompl
  split
  · exact h.modDict.postCompl
  · exact h.modDict
  · exact h.modDict
  · exact h.modDict
  · exact h.withSump
  · exact h.emit

theorem Dev.KeepsBy.setOb {key v} (h : o.KeepsBy R d) : o.KeepsBy R (d.setOb key v) := h.withOd

theorem Dev.KeepsBy.endTx {r} (h : o.Keeps d) : o.Keeps (d.endTx r) := by
  unfold Dev.endTx
  extract_lets d1
  have h1 : o.Keeps d1 := h.modDict
  exact h1.setOb

theorem Dev.KeepsBy.finish {t s0 a} (h : o.Keeps d) : o.Keeps (d.finish t s0 a) := by
  unfold Dev.finish
  extract_lets _ d1 _ d2
  have h1 : o.Keeps d1 := .ite h.event h
  have h2 : o.Keeps d2 := h1.iff (fun _ k3 => k3.journal)
  exact .ite h2 h2.endTx.deliverCompl

theorem Dev.KeepsBy.carry {t f} (h : o.Keeps d) (hf : ∀ d, o.Keeps d → o.Keeps (f d).1) : o.Keeps (d.carry t f) := by
  unfold Dev.carry
  extract_lets _
  split
  · have h1 := (hf _ h.modDict).ofFst ‹_›
    exact h1.finish.modDict
  · have h2 := (hf _ h.modDict).ofFst ‹_›
    exact h2

theorem Dev.KeepsBy.complete {r status} (h : o.Keeps d) : o.Keeps (d.complete r status) := by
  unfold Dev.complete
  split
  · exact h
  · split
    · exact h
    · extract_lets _
      exact ((h.iff (fun _ k1 => k1.journal)).endTx).deliverCompl

theorem Dev.KeepsBy.modTap {f} (h : o.KeepsBy R d) : o.KeepsBy R (d.modTap f) := h.withTap

theorem Dev.KeepsBy.todo {w} (h : o.KeepsBy R d) : o.KeepsBy R (d.todo w) := h.withWork

theorem Dev.KeepsBy.grant {h' amount dur prio tag num} (h : o.KeepsBy R d) : o.KeepsBy R (d.grant h' amount dur prio tag num) := by
  unfold Dev.grant
  extract_lets d1
  have h1 : o.KeepsBy R d1 := h.event
  exact h1.modTap

theorem Dev.KeepsBy.reeval {fuel} (h : o.KeepsBy R d) : o.KeepsBy R (d.reeval fuel) := by
  induction fuel generalizing d with
  | zero => exact h
  | succ fuel ih =>
    unfold Dev.reeval
    split
    · exact .ite (ih h.modTap.grant.todo) h
    · exact h

theorem Dev.KeepsBy.recheck (h : o.KeepsBy R d) : o.KeepsBy R d.recheck := by
  unfold Dev.recheck
  exact h.reeval

theorem Dev.KeepsBy.releaseAll {h'} (h : o.Keeps d) : o.Keeps (d.releaseAll h') := by
  unfold Dev.releaseAll
  exact h.modTap.recheck

theorem Dev.KeepsBy.modMm {f} (h : o.Keeps d) : o.Keeps (d.modMm f) := h.withMm

theorem Dev.KeepsBy.requestUndone (h : o.Keeps d) : o.Keeps d.requestUndone := by
  unfold Dev.requestUndone
  split
  · exact h.setOb.modMm
  · exact h

theorem Dev.KeepsBy.abortChange (h : o.Keeps d) : o.Keeps d.abortChange := by
  unfold Dev.abortChange
  split
  · exact h
  · exact h.modMm.requestUndone.releaseAll.complete

theorem Dev.KeepsBy.notePrior (h : o.Keeps d) : o.Keeps d.notePrior := by
  unfold Dev.notePrior
  extract_lets _
  exact .ite h.setOb (.ite h.setOb h)

theorem Dev.KeepsBy.tookEffect (h : o.Keeps d) : o.Keeps d.tookEffect := by
  unfold Dev.tookEffect
  exact h.modDict

theorem Dev.KeepsBy.each {l f} (h : o.KeepsBy R d) (hf : ∀ d x1, o.KeepsBy R d → o.KeepsBy R (f d x1)) : o.KeepsBy R (d.each l f) := by
  unfold Dev.each
  exact .foldl h (fun _ _ k1 => hf _ _ k1)

theorem Dev.KeepsBy.release {num} (h : o.KeepsBy R d) : o.KeepsBy R (d.release num) := by
  unfold Dev.release
  exact .ite h h.modTap.recheck

theorem Dev.KeepsBy.modTile {t f} (h : o.KeepsBy R d) : o.KeepsBy R (d.modTile t f) := h.withTiles

theorem Dev.KeepsBy.logE {code inst} (h : o.KeepsBy R d) : o.KeepsBy R (d.logE code inst) := by
  unfold Dev.logE
  extract_lets d1 _ _ d2 _ d3
  have h1 : o.KeepsBy R d1 := h.event
  have h2 : o.KeepsBy R d2 := h1.withSump
  have h3 : o.KeepsBy R d3 := h2.stAll
  exact .ite h3.setOb h2

theorem Dev.KeepsBy.bumpBy {key n} (h : o.KeepsBy R d) : o.KeepsBy R (d.bumpBy key n) := by
  unfold Dev.bumpBy
  split
  · exact .ite h.setOb h.setOb
  · exact h

theorem Dev.KeepsBy.bump {key} (h : o.KeepsBy R d) : o.KeepsBy R (d.bump key) := by
  unfold Dev.bump
  exact h.bumpBy

theorem Dev.KeepsBy.sweepAbort {t} (h : o.KeepsBy R d) : o.KeepsBy R (d.sweepAbort t) := by
  unfold Dev.sweepAbort
  split
  · exact h
  · extract_lets d1 d2
    have h1 : o.KeepsBy R d1 := .ite h.release h
    have h2 : o.KeepsBy R d2 := h1.modTile.setOb
    exact h2.setOb.bump.logE

theorem Dev.KeepsBy.modeEvent {m} (h : o.Keeps d) : o.Keeps (d.modeEvent m) := by
  unfold Dev.modeEvent
  extract_lets d1
  have h1 : o.Keeps d1 := h.event.setOb.setOb.tookEffect
  exact (h1.iff (fun _ k2 => k2.each (fun _ _ k3 => k3.sweepAbort))).raise

theorem Dev.KeepsBy.pulse {c s} (h : o.Keeps d) : o.Keeps (d.pulse c s) := by
  unfold Dev.pulse
  exact .ite h.drive.drive h

theorem Dev.KeepsBy.raise63 {c} (h : o.Keeps d) : o.Keeps (d.raise63 c) := by
  unfold Dev.raise63
  exact .ite h.pulse h

theorem Dev.KeepsBy.modAxis {a f} (h : o.Keeps d) : o.Keeps (d.modAxis a f) := h.withMotion

theorem Dev.KeepsBy.writeRec {a} (h : o.Keeps d) : o.Keeps (d.writeRec a) := by
  unfold Dev.writeRec
  exact h.stAll

theorem Dev.KeepsBy.syncAxis {a lost} (h : o.Keeps d) : o.Keeps (d.syncAxis a lost) := by
  unfold Dev.syncAxis
  extract_lets _ d1 d2 d3 d4 d5 d6 d7
  have h1 : o.Keeps d1 := h.setOb
  have h2 : o.Keeps d2 := h1.setOb
  have h3 : o.Keeps d3 := h2.setOb
  have h4 : o.Keeps d4 := h3.setOb
  have h5 : o.Keeps d5 := h4.setOb
  have h6 : o.Keeps d6 := h5.setOb
  have h7 : o.Keeps d7 := h6.setOb
  exact .ite h7 h7.writeRec

theorem Dev.KeepsBy.markLog {code inst} (h : o.Keeps d) : o.Keeps (d.markLog code inst) := h.withLogAt

theorem Dev.KeepsBy.logRate {code inst period} (h : o.Keeps d) : o.Keeps (d.logRate code inst period) := by
  unfold Dev.logRate
  split
  · exact .ite h.logE.markLog h
  · exact h.logE.markLog

theorem Dev.KeepsBy.logSec {code inst} (h : o.Keeps d) : o.Keeps (d.logSec code inst) := by
  unfold Dev.logSec
  exact h.logRate

theorem Dev.KeepsBy.homeEnds {a res} (h : o.Keeps d) : o.Keeps (d.homeEnds a res) := by
  unfold Dev.homeEnds
  exact h.modAxis.logSec

theorem Dev.KeepsBy.freeSteps {l} (h : o.Keeps d) : o.Keeps (d.freeSteps l) := by
  unfold Dev.freeSteps
  exact .foldl h (fun _ _ k1 => k1.st)

theorem Dev.KeepsBy.dropSteps {a} (h : o.Keeps d) : o.Keeps (d.dropSteps a) := by
  unfold Dev.dropSteps
  exact h.freeSteps.modAxis

theorem Dev.KeepsBy.begin_ {a t w} (h : o.Keeps d) : o.Keeps (d.begin_ a t w) := by
  unfold Dev.begin_
  extract_lets _
  split
  exact .ite h.modAxis h.modAxis

theorem Dev.KeepsBy.stopAxis {a t} (h : o.Keeps d) : o.Keeps (d.stopAxis a t) := by
  unfold Dev.stopAxis
  extract_lets _ d1 d3 d4
  have h1 : o.Keeps d1 := h.iff (fun _ k2 => k2.homeEnds)
  have h3 : o.Keeps d3 := h1.dropSteps
  have h4 : o.Keeps d4 := h3.modAxis
  exact h4.begin_

theorem Dev.KeepsBy.holdAxes (h : o.Keeps d) : o.Keeps d.holdAxes := by
  unfold Dev.holdAxes
  refine h.each (fun _ _ k1 => ?_)
  extract_lets d2 _
  have h2 : o.Keeps d2 := k1.modAxis
  exact .ite h2.stopAxis.syncAxis h2

theorem Dev.KeepsBy.revoke {p} (h : o.Keeps d) : o.Keeps (d.revoke p) := by
  unfold Dev.revoke
  exact h.modTap.event.bump.logE.todo

theorem Dev.KeepsBy.revokeWhile {more fuel sum} (h : o.Keeps d) : o.Keeps (d.revokeWhile more fuel sum) := by
  induction fuel generalizing d sum with
  | zero => exact h
  | succ fuel ih =>
    unfold Dev.revokeWhile
    refine .ite ?_ h
    split
    · exact ih h.revoke
    · exact h

theorem Dev.KeepsBy.revokeToBudget (h : o.Keeps d) : o.Keeps d.revokeToBudget := by
  unfold Dev.revokeToBudget
  exact .ite h.revokeWhile.recheck h

theorem Dev.KeepsBy.settleBudget (h : o.Keeps d) : o.Keeps d.settleBudget := by
  unfold Dev.settleBudget
  extract_lets d1
  have h1 : o.Keeps d1 := h.iff (fun _ k2 => k2.releaseAll.modMm)
  exact h1.revokeToBudget

theorem Dev.KeepsBy.modMotion {f} (h : o.Keeps d) : o.Keeps (d.modMotion f) := h.withMotion

theorem Dev.KeepsBy.groupStart {g} (h : o.Keeps d) : o.Keeps (d.groupStart g) := by
  unfold Dev.groupStart
  extract_lets _ _ _
  exact h.modMotion

theorem Dev.KeepsBy.buildAxis {a p} (h : o.Keeps d) : o.Keeps (d.buildAxis a p) := by
  unfold Dev.buildAxis
  extract_lets d1
  have h1 : o.Keeps d1 := h.modAxis
  exact h1.syncAxis

theorem Dev.KeepsBy.motionPowerOn (h : o.Keeps d) : o.Keeps d.motionPowerOn := by
  unfold Dev.motionPowerOn
  extract_lets d1
  have h1 : o.Keeps d1 := h.withOdMotion
  exact (h1.each (fun _ _ k2 => k2.iff (fun _ k3 => k3.groupStart))).each (fun _ _ k4 => k4.buildAxis)

theorem Dev.KeepsBy.motionOn (h : o.Keeps d) : o.Keeps d.motionOn := by
  unfold Dev.motionOn
  exact .ite h h.power.motionPowerOn

theorem Dev.KeepsBy.engOn {e} (h : o.Keeps d) : o.Keeps (d.engOn e) := by
  unfold Dev.engOn
  exact .ite h h.power

theorem Dev.KeepsBy.modMac {m f} (h : o.KeepsBy R d) : o.KeepsBy R (d.modMac m f) := h.withMacs

theorem Dev.KeepsBy.postTs {m r} (h : o.KeepsBy R d) : o.KeepsBy R (d.postTs m r) := by
  unfold Dev.postTs
  extract_lets _
  exact .ite h.bump (h.modMac.iff (fun _ k1 => k1.raise))

theorem Dev.KeepsBy.dropTs {m e} (h : o.KeepsBy R d) : o.KeepsBy R (d.dropTs m e) := by
  unfold Dev.dropTs
  exact .ite h.postTs h

theorem Dev.KeepsBy.modSw {f} (h : o.KeepsBy R d) : o.KeepsBy R (d.modSw f) := h.withSw

theorem Dev.KeepsBy.modQueue {q f} (h : o.KeepsBy R d) : o.KeepsBy R (d.modQueue q f) := by
  unfold Dev.modQueue
  exact h.modSw

theorem Dev.KeepsBy.flushLine {o'} (h : o.KeepsBy R d) : o.KeepsBy R (d.flushLine o') := by
  unfold Dev.flushLine
  extract_lets d1
  have h1 : o.KeepsBy R d1 := by
    refine h.each (fun _ _ k2 => ?_)
    extract_lets _ _ _ _ d3
    have h3 : o.KeepsBy R d3 := .foldl k2 (fun _ _ k4 => .ite k4 k4.dropTs)
    exact .ite k2 h3.modQueue.bumpBy
  exact h1.modSw

theorem Dev.KeepsBy.upSet {u st} (h : o.Keeps d) : o.Keeps (d.upSet u st) := by
  unfold Dev.upSet
  extract_lets _ d1
  have h1 : o.Keeps d1 := h.setOb
  exact .ite h1.flushLine h1

theorem Dev.KeepsBy.upPowerOn {u} (h : o.Keeps d) : o.Keeps (d.upPowerOn u) := by
  unfold Dev.upPowerOn
  have h1 : o.Keeps { d with doms := putBit d.doms (40 + u) true } := h.putDom (n := 40 + u)
  exact .ite h h1.upSet

theorem Dev.KeepsBy.loadBank {c shadow img id} (h : o.Keeps d) : o.Keeps (d.loadBank c shadow img id) := by
  unfold Dev.loadBank
  extract_lets _
  exact h.stAll.setOb

theorem Dev.KeepsBy.zero {keys} (h : o.Keeps d) : o.Keeps (d.zero keys) := by
  unfold Dev.zero
  exact .foldl h (fun _ _ k1 => k1.setOb)

theorem Dev.KeepsBy.showRing (h : o.Keeps d) : o.Keeps d.showRing := by
  unfold Dev.showRing
  exact h.st

theorem Dev.KeepsBy.setCoreState {c s} (h : o.Keeps d) : o.Keeps (d.setCoreState c s) := by
  unfold Dev.setCoreState
  exact h.setOb.iff (fun _ k1 => k1.showRing)

theorem Dev.KeepsBy.modEp {e f} (h : o.Keeps d) : o.Keeps (d.modEp e f) := h.withEps

theorem Dev.KeepsBy.epochInc {e} (h : o.Keeps d) : o.Keeps (d.epochInc e) := by
  unfold Dev.epochInc
  extract_lets d1 d2
  have h1 : o.Keeps d1 := h.setOb
  have h2 : o.Keeps d2 := h1.clearMem
  exact h2.modEp

theorem Dev.KeepsBy.corePowerOn {c} (h : o.Keeps d) : o.Keeps (d.corePowerOn c) := by
  unfold Dev.corePowerOn
  refine .ite h ?_
  extract_lets d1 d2 d3
  have h1 : o.Keeps d1 := h.putDom domOfEp_pos
  have h2 : o.Keeps d2 := h1.setCoreState.setOb.zero
  have h3 : o.Keeps d3 := h2.epochInc
  exact h3.each fun _ _ k => .ite k.postLine k

theorem Dev.KeepsBy.coreForPers {core j} (h : o.Keeps d) : o.Keeps (d.coreForPers core j) := by
  unfold Dev.coreForPers
  exact h.corePowerOn.loadBank

theorem Dev.KeepsBy.coresBound (h : o.Keeps d) : o.Keeps d.coresBound := by
  unfold Dev.coresBound
  refine h.each (fun _ _ k1 => ?_)
  split
  · exact k1
  · exact k1.coreForPers

theorem Dev.KeepsBy.refuse (h : o.Keeps d) : o.Keeps d.refuse := by
  unfold Dev.refuse
  exact h.event.bump

theorem Dev.KeepsBy.ask {h' amount dur prio waitMs tag} (h : o.Keeps d) : o.Keeps (d.ask h' amount dur prio waitMs tag).1 := by
  unfold Dev.ask
  extract_lets f1
  have hf1 : ∀ d, o.Keeps d → o.Keeps (f1 d) := fun _ k2 => k2.modTap
  refine .iteFst (hf1 _ h) ?_
  refine .iteFst h ?_
  split
  · exact .iteFst (.answer h.grant) (.iteFst (.answer h.refuse) (hf1 _ h))
  · exact .iteFst (.answer h.refuse) (hf1 _ h)

theorem Dev.KeepsBy.modPort {p f} (h : o.KeepsBy R d) : o.KeepsBy R (d.modPort p f) := h.withPorts

theorem Dev.KeepsBy.retryStop {p} (h : o.Keeps d) : o.Keeps (d.retryStop p) := by
  unfold Dev.retryStop
  extract_lets d1
  have h1 : o.Keeps d1 := h.releaseAll
  exact h1.modPort

theorem Dev.KeepsBy.cancelReq {p} (h : o.Keeps d) : o.Keeps (d.cancelReq p) := by
  unfold Dev.cancelReq
  split
  · extract_lets d1 d2
    have h1 : o.Keeps d1 := by
      unfold d1
      split
      · exact h.release
      · exact h
    have h2 : o.Keeps d2 := h1.modTap
    exact h2.modPort.complete
  · exact h

theorem Dev.KeepsBy.portFlag {p n v} (h : o.KeepsBy R d) : o.KeepsBy R (d.portFlag p n v) := by
  unfold Dev.portFlag
  exact h.setOb

theorem Dev.KeepsBy.moveCancel {p} (h : o.KeepsBy R d) : o.KeepsBy R (d.moveCancel p) := by
  unfold Dev.moveCancel
  exact .ite h.setOb.portFlag.logE h

theorem Dev.KeepsBy.dropRes {p} (h : o.Keeps d) : o.Keeps (d.dropRes p) := by
  unfold Dev.dropRes
  extract_lets _
  exact .ite h h.modPort.release

theorem Dev.KeepsBy.modChan {c f} (h : o.KeepsBy R d) : o.KeepsBy R (d.modChan c f) := h.withChans

theorem Dev.KeepsBy.toParser {inp f} (h : o.KeepsBy R d) : o.KeepsBy R (d.toParser inp f) := by
  unfold Dev.toParser
  exact h.modSw

theorem Dev.KeepsBy.endRx {c bad cause} (h : o.KeepsBy R d) : o.KeepsBy R (d.endRx c bad cause) := by
  unfold Dev.endRx
  extract_lets _ d1
  have h1 : o.KeepsBy R d1 := h.modChan
  exact .ite h1 h1.toParser

theorem Dev.KeepsBy.parserClose {c} (h : o.KeepsBy R d) : o.KeepsBy R (d.parserClose c) := by
  unfold Dev.parserClose
  extract_lets _ d1
  have h1 : o.KeepsBy R d1 := h.modChan
  exact .ite h (.ite h1.endRx h1)

theorem Dev.KeepsBy.rxData {c l} (h : o.KeepsBy R d) : o.KeepsBy R (d.rxData c l) := by
  unfold Dev.rxData
  exact h.modChan

theorem Dev.KeepsBy.parserTake {c} (h : o.KeepsBy R d) : o.KeepsBy R (d.parserTake c) := by
  unfold Dev.parserTake
  extract_lets d1 d2
  have h1 : o.KeepsBy R d1 := h.parserClose
  have h2 : o.KeepsBy R d2 := h1.modChan
  split
  · exact h1
  · extract_lets _ d3 d5 d7 d8
    have h3 : o.KeepsBy R d3 := h2.iff (fun _ k4 => k4.endRx)
    have h5 : o.KeepsBy R d5 := h3.iff (fun _ k6 => k6.modChan)
    have h7 : o.KeepsBy R d7 := h5.rxData
    have h8 : o.KeepsBy R d8 := .ite h3.modChan (.ite h3 (.ite h7 (.ite h7.modChan h7.endRx)))
    exact h8.parserClose

theorem Dev.KeepsBy.parserTakes {c n} (h : o.KeepsBy R d) : o.KeepsBy R (d.parserTakes c n) := by
  unfold Dev.parserTakes
  exact .ite (h.parserClose.each (fun _ _ k1 => k1.parserTake)) h

theorem Dev.KeepsBy.parserAll {c} (h : o.KeepsBy R d) : o.KeepsBy R (d.parserAll c) := by
  unfold Dev.parserAll
  exact h.parserTakes

theorem Dev.KeepsBy.rxCut {c cause} (h : o.KeepsBy R d) : o.KeepsBy R (d.rxCut c cause) := by
  unfold Dev.rxCut
  extract_lets d1
  have h1 : o.KeepsBy R d1 := h.parserAll
  exact .ite h1.endRx h1

theorem Dev.KeepsBy.endReception {p} (h : o.KeepsBy R d) : o.KeepsBy R (d.endReception p) := by
  unfold Dev.endReception
  exact .ite h.rxCut h

theorem Dev.KeepsBy.mdixFlag {p} (h : o.KeepsBy R d) : o.KeepsBy R (d.mdixFlag p) := by
  unfold Dev.mdixFlag
  exact .ite h h.portFlag

theorem Dev.KeepsBy.segFlags {s} (h : o.KeepsBy R d) : o.KeepsBy R (d.segFlags s) := by
  unfold Dev.segFlags
  exact h.setOb

theorem Dev.KeepsBy.modSeg {s f} (h : o.KeepsBy R d) : o.KeepsBy R (d.modSeg s f) := h.withSegs

theorem Dev.KeepsBy.segTo {s st} (h : o.KeepsBy R d) : o.KeepsBy R (d.segTo s st) := by
  unfold Dev.segTo
  extract_lets d1
  have h1 : o.KeepsBy R d1 := h.iff (fun _ k2 => k2.modSeg)
  exact h1.setOb.raise.segFlags

theorem Dev.KeepsBy.listenFrom {s ns} (h : o.KeepsBy R d) : o.KeepsBy R (d.listenFrom s ns) := by
  unfold Dev.listenFrom
  exact h.modSeg

theorem Dev.KeepsBy.toListen {s} (h : o.KeepsBy R d) : o.KeepsBy R (d.toListen s) := by
  unfold Dev.toListen
  exact h.modSeg.listenFrom.segTo

theorem Dev.KeepsBy.segLost {s} (h : o.KeepsBy R d) : o.KeepsBy R (d.segLost s) := by
  unfold Dev.segLost
  exact .ite h.toListen.modSeg.segFlags h

theorem Dev.KeepsBy.modBus {p f} (h : o.KeepsBy R d) : o.KeepsBy R (d.modBus p f) := h.withBuses

theorem Dev.KeepsBy.bset {p ofs v} (h : o.KeepsBy R d) : o.KeepsBy R (d.bset p ofs v) := by
  unfold Dev.bset
  exact h.modBus

theorem Dev.KeepsBy.twin {p b bitErr} (h : o.KeepsBy R d) : o.KeepsBy R (d.twin p b bitErr) := by
  unfold Dev.twin
  extract_lets _ d1 _ d2
  have h1 : o.KeepsBy R d1 := h.modBus
  have h2 : o.KeepsBy R d2 := h1.iff (fun _ k3 => k3.bset)
  exact .ite h1 (h2.iff (fun _ k4 => k4.bset.bump.logE.raise))

theorem Dev.KeepsBy.setTxState {p b s} (h : o.KeepsBy R d) : o.KeepsBy R (d.setTxState p b s) := by
  unfold Dev.setTxState
  exact h.bset

theorem Dev.KeepsBy.setDone {p b} (h : o.KeepsBy R d) : o.KeepsBy R (d.setDone p b) := by
  unfold Dev.setDone
  extract_lets _ _
  exact h.bset.bset.iff (fun _ k1 => k1.raise)

theorem Dev.KeepsBy.dropBufTs {p b} (h : o.KeepsBy R d) : o.KeepsBy R (d.dropBufTs p b) := by
  unfold Dev.dropBufTs
  split
  · exact h.modBus.postTs
  · exact h

theorem Dev.KeepsBy.abortBuf {p b} (h : o.KeepsBy R d) : o.KeepsBy R (d.abortBuf p b) := by
  unfold Dev.abortBuf
  extract_lets d1
  have h1 : o.KeepsBy R d1 := h.event.setTxState
  exact h1.bset.dropBufTs.setDone

theorem Dev.KeepsBy.retryBuf {p b} (h : o.KeepsBy R d) : o.KeepsBy R (d.retryBuf p b) := by
  unfold Dev.retryBuf
  extract_lets _ d1
  have h1 : o.KeepsBy R d1 := h.bset
  exact .ite h1.abortBuf.bump h1.setTxState

theorem Dev.KeepsBy.busIntegrate {p} (h : o.KeepsBy R d) : o.KeepsBy R (d.busIntegrate p) := by
  unfold Dev.busIntegrate
  extract_lets d1 d2
  have h1 : o.KeepsBy R d1 := .ite h.setOb.setOb h
  have h2 : o.KeepsBy R d2 := by
    unfold d2
    split
    · exact h1.retryBuf.twin.modBus
    · exact h1
  exact .ite h2 h2.setOb

theorem Dev.KeepsBy.busReset {p} (h : o.KeepsBy R d) : o.KeepsBy R (d.busReset p) := by
  unfold Dev.busReset
  extract_lets d1
  have h1 : o.KeepsBy R d1 := h.each (fun _ _ k2 => k2.abortBuf)
  exact h1.modBus.setOb

theorem Dev.KeepsBy.rxTorn {c} (h : o.KeepsBy R d) : o.KeepsBy R (d.rxTorn c) := by
  unfold Dev.rxTorn
  extract_lets _ _
  exact h.modChan.iff (fun _ k1 => k1.parserClose)

theorem Dev.KeepsBy.startChan {c} (h : o.KeepsBy R d) : o.KeepsBy R (d.startChan c) := by
  unfold Dev.startChan
  extract_lets d1 d2
  have h1 : o.KeepsBy R d1 := h.rxTorn
  have h2 : o.KeepsBy R d2 := .ite h1 h1.modChan
  exact h2.setOb.setOb.modChan

theorem Dev.KeepsBy.chLeaveReset {c} (h : o.KeepsBy R d) : o.KeepsBy R (d.chLeaveReset c) := by
  unfold Dev.chLeaveReset
  exact .ite h (.ite h.setOb.setOb h.startChan)

theorem Dev.KeepsBy.modEngine {e f} (h : o.KeepsBy R d) : o.KeepsBy R (d.modEngine e f) := h.withEngines

theorem Dev.KeepsBy.winObjects {e w} (h : o.KeepsBy R d) : o.KeepsBy R (d.winObjects e w) := by
  unfold Dev.winObjects
  split
  · exact h.setOb.setOb
  · exact h.setOb.setOb

theorem Dev.KeepsBy.landSwap {e w} (h : o.KeepsBy R d) : o.KeepsBy R (d.landSwap e w) := by
  unfold Dev.landSwap
  extract_lets d1 _ _ d2
  have h1 : o.KeepsBy R d1 := h.event.modEngine
  have h2 : o.KeepsBy R d2 := h1.setOb.setOb
  exact h2.winObjects.bump.logE.raise

theorem Dev.KeepsBy.judgeSwap {e w} (h : o.KeepsBy R d) : o.KeepsBy R (d.judgeSwap e w) := by
  unfold Dev.judgeSwap
  split
  · exact .ite h.landSwap h.winObjects
  · exact h

theorem Dev.KeepsBy.noteFlip {e w k} (h : o.KeepsBy R d) : o.KeepsBy R (d.noteFlip e w k) := by
  unfold Dev.noteFlip
  extract_lets d1
  have h1 : o.KeepsBy R d1 := h.modEngine
  exact h1.judgeSwap

theorem Dev.KeepsBy.flip {c pc} (h : o.KeepsBy R d) : o.KeepsBy R (d.flip c pc) := by
  unfold Dev.flip
  extract_lets _ f1
  have hf1 : ∀ d x1, o.KeepsBy R d → o.KeepsBy R (f1 d x1) := fun _ _ k2 => k2.modChan.setOb
  split
  · exact ((hf1 _ _ h).setOb).noteFlip
  · exact (hf1 _ _ h).noteFlip

theorem Dev.KeepsBy.flipIdle {c} (h : o.KeepsBy R d) : o.KeepsBy R (d.flipIdle c) := by
  unfold Dev.flipIdle
  exact .ite h.flip h

theorem Dev.KeepsBy.offLine {o' x} (h : o.KeepsBy R d) : o.KeepsBy R (d.offLine o' x) := by
  unfold Dev.offLine
  exact h.modQueue.modSw

theorem Dev.KeepsBy.flushChan {c} (h : o.KeepsBy R d) : o.KeepsBy R (d.flushChan c) := by
  unfold Dev.flushChan
  extract_lets _ d1 d2 d4
  have h1 : o.KeepsBy R d1 := .ite h.endRx h
  have h2 : o.KeepsBy R d2 := by
    refine .foldl h1 (fun _ _ k3 => ?_)
    split
    · exact k3.postTs
    · exact k3
  have h4 : o.KeepsBy R d4 := by
    unfold d4
    split
    · exact .ite h2 h2.offLine.modSw
    · exact h2
  exact h4.modChan

theorem Dev.KeepsBy.chReset {c} (h : o.KeepsBy R d) : o.KeepsBy R (d.chReset c) := by
  unfold Dev.chReset
  exact .ite h h.flushChan.setOb.setOb.flipIdle

theorem Dev.KeepsBy.chFollow {p} (h : o.KeepsBy R d) : o.KeepsBy R (d.chFollow p) := by
  unfold Dev.chFollow
  extract_lets _
  exact .ite h.chLeaveReset h.chReset

theorem Dev.KeepsBy.sweepAbortPort {p} (h : o.KeepsBy R d) : o.KeepsBy R (d.sweepAbortPort p) := by
  unfold Dev.sweepAbortPort
  exact .ite h.sweepAbort h

theorem Dev.KeepsBy.fresh {w} (h : o.KeepsBy R d) : o.KeepsBy R (d.fresh w).2 := by
  unfold Dev.fresh
  exact .answerSnd h.withFree

theorem Dev.KeepsBy.tileMeasured {t} (h : o.KeepsBy R d) : o.KeepsBy R (d.tileMeasured t) := by
  unfold Dev.tileMeasured
  split
  have h1 := h.fresh.ofSnd ‹_›
  extract_lets d2 _
  have h2 : o.KeepsBy R d2 := h1.setOb
  exact h2.withTime

theorem Dev.KeepsBy.recalStart {p} (h : o.KeepsBy R d) : o.KeepsBy R (d.recalStart p) := by
  unfold Dev.recalStart
  exact h.modPort.portFlag

theorem Dev.KeepsBy.calNext {t fuel p} (h : o.KeepsBy R d) : o.KeepsBy R (d.calNext t fuel p) := by
  induction fuel generalizing d p with
  | zero => exact h
  | succ fuel ih =>
    unfold Dev.calNext
    exact .ite h.release.modTile.tileMeasured.logE (.ite (ih h.logE) (.ite h.recalStart.modTile (ih h)))

theorem Dev.KeepsBy.segsResume (h : o.KeepsBy R d) : o.KeepsBy R d.segsResume := by
  unfold Dev.segsResume
  refine h.each (fun _ _ k1 => ?_)
  extract_lets _
  exact .ite k1.modSeg.listenFrom.segFlags k1

theorem Dev.KeepsBy.portTo {p st cause} (h : o.KeepsBy R d) : o.KeepsBy R (d.portTo p st cause) := by
  unfold Dev.portTo
  extract_lets _ _ d1 d3 d4 d5 d6 d7 d9 d12 d13 d14 d16 d18 d21
  have h1 : o.KeepsBy R d1 := h.iff (fun _ k2 => k2.bump.endReception)
  have h3 : o.KeepsBy R d3 := h1.event.setOb.modPort
  have h4 : o.KeepsBy R d4 := by
    unfold d4
    split
    · exact .ite h3 h3.setOb
    · exact h3
  have h5 : o.KeepsBy R d5 := .ite h4.setOb h4
  have h6 : o.KeepsBy R d6 := h5.portFlag.mdixFlag
  have h7 : o.KeepsBy R d7 := h6.iff (fun _ k8 => k8.portFlag)
  have h9 : o.KeepsBy R d9 := h7.iff (fun _ k10 => k10.flushLine.portFlag.each (fun _ _ k11 => k11.segLost))
  have h12 : o.KeepsBy R d12 := .ite (.ite h9.busIntegrate (.ite h9 h9.busReset)) h9
  have h13 : o.KeepsBy R d13 := h12.chFollow
  have h14 : o.KeepsBy R d14 := h13.iff (fun _ k15 => k15.modMac)
  have h16 : o.KeepsBy R d16 := h14.iff (fun _ k17 => k17.sweepAbortPort)
  have h18 : o.KeepsBy R d18 := h16.iff (fun _ k19 => k19.each (fun _ _ k20 => k20.moveCancel))
  have h21 : o.KeepsBy R d21 := .ite h18.calNext h18
  exact .ite h h21.raise.segsResume

theorem Dev.KeepsBy.portOff {p cause keep} (h : o.Keeps d) : o.Keeps (d.portOff p cause keep) := by
  unfold Dev.portOff
  extract_lets d1
  have h1 : o.Keeps d1 := .ite h h.dropRes
  exact .ite h1 h1.portTo.logE

theorem Dev.KeepsBy.tilePortsOff {t cause keep} (h : o.Keeps d) : o.Keeps (d.tilePortsOff t cause keep) := by
  unfold Dev.tilePortsOff
  extract_lets d1 d2
  have h1 : o.Keeps d1 := h.modTile.release
  have h2 : o.Keeps d2 := by
    refine h1.each (fun _ _ k3 => ?_)
    extract_lets d4 d6 d7
    have h4 : o.Keeps d4 := k3.iff (fun _ k5 => k5.retryStop)
    have h6 : o.Keeps d6 := h4.cancelReq
    have h7 : o.Keeps d7 := h6.each (fun _ _ k8 => k8.moveCancel)
    exact .ite h7 h7.portOff
  exact h2.sweepAbort

theorem Dev.KeepsBy.tileBegin {t num} (h : o.Keeps d) : o.Keeps (d.tileBegin t num) := by
  unfold Dev.tileBegin
  extract_lets _ _ _ d1 d2 d3
  have h1 : o.Keeps d1 := h.tilePortsOff
  have h2 : o.Keeps d2 := h1.event.power.setOb
  have h3 : o.Keeps d3 := h2.iff (fun _ k4 => k4.each (fun _ _ k5 => k5.power))
  exact h3.modTile

theorem Dev.KeepsBy.tileAsk {t waitMs r auto} (h : o.Keeps d) : o.Keeps (d.tileAsk t waitMs r auto).1 := by
  unfold Dev.tileAsk
  extract_lets d1
  have h1 : o.Keeps d1 := h.modTile
  split
  · have h2 := h1.ask.ofFst ‹_›
    exact .answer h2.tileBegin
  · have h3 := h1.ask.ofFst ‹_›
    exact .answer h3.modTile
  · have h4 := h1.ask.ofFst ‹_›
    exact .answer h4.modTile

theorem Dev.KeepsBy.tileOn {t} (h : o.Keeps d) : o.Keeps (d.tileOn t) := by
  unfold Dev.tileOn
  exact .ite h.tileAsk h

theorem Dev.KeepsBy.powerRun (h : o.Keeps d) : o.Keeps d.powerRun := by
  unfold Dev.powerRun
  extract_lets d1 d2 d4
  have h1 : o.Keeps d1 := h.motionOn
  have h2 : o.Keeps d2 := h1.each (fun _ _ k3 => k3.engOn)
  have h4 : o.Keeps d4 := h2.each (fun _ _ k5 => k5.upPowerOn)
  exact (h4.each (fun _ _ k6 => k6.tileOn)).coresBound

theorem Dev.KeepsBy.enterHold {causes} (h : o.Keeps d) : o.Keeps (d.enterHold causes) := by
  unfold Dev.enterHold
  extract_lets _ d1 d2 d3 d4 d6
  have h1 : o.Keeps d1 := h.notePrior.abortChange
  have h2 : o.Keeps d2 := h1.setOb
  have h3 : o.Keeps d3 := h2.modeEvent.modMm
  have h4 : o.Keeps d4 := h3.each (fun _ _ k5 => k5.raise63)
  have h6 : o.Keeps d6 := h4.holdAxes
  exact Dev.KeepsBy.settleBudget (.ite h6.powerRun h6)

theorem Dev.KeepsBy.holdCause {causes} (h : o.Keeps d) : o.Keeps (d.holdCause causes) := by
  unfold Dev.holdCause
  extract_lets d1
  have h1 : o.Keeps d1 := h.setOb
  exact .ite h1.enterHold (.ite h1.abortChange h1)

theorem Dev.KeepsBy.modSump {f} (h : o.Keeps d) : o.Keeps (d.modSump f) := h.withSump

theorem Dev.KeepsBy.sumpHold {on} (h : o.Keeps d) : o.Keeps (d.sumpHold on) := by
  unfold Dev.sumpHold
  exact .ite h.modSump.holdCause h.modSump.setOb

theorem Dev.KeepsBy.atOnce {x} (h : o.Keeps x.1) : o.Keeps (Machine.atOnce x).1 := by
  unfold Machine.atOnce
  exact h

theorem Dev.KeepsBy.put {key v} (h : o.Keeps d) : o.Keeps (d.put key v).1 := by
  unfold Dev.put
  exact .answer h.event.setOb

theorem Dev.KeepsBy.putIf {ok st key v} (h : o.Keeps d) : o.Keeps (d.putIf ok st key v).1 := by
  unfold Dev.putIf
  exact .iteFst h.put h

theorem Dev.KeepsBy.descPut {c i l} (h : o.Keeps d) : o.Keeps (d.descPut c i l) := by
  unfold Dev.descPut
  exact h.stAll

theorem Dev.KeepsBy.descTiming {c} (h : o.Keeps d) : o.Keeps (d.descTiming c) := by
  unfold Dev.descTiming
  exact h.descPut

theorem Dev.KeepsBy.ctxTiming {c key v ok} (h : o.Keeps d) : o.Keeps (d.ctxTiming c key v ok).1 := by
  unfold Dev.ctxTiming
  extract_lets _
  refine .iteFst h ?_
  split
  have h1 := h.putIf.ofFst ‹_›
  exact .answer (h1.iff (fun _ k2 => k2.descTiming))

theorem Dev.KeepsBy.putJudged {r key v judged} (h : o.Keeps d) : o.Keeps (d.putJudged r key v judged).1 := by
  unfold Dev.putJudged
  extract_lets d1 _
  have h1 : o.Keeps d1 := h.event.setOb
  exact .iteFst h1 h

theorem Dev.KeepsBy.motionOff (h : o.Keeps d) : o.Keeps d.motionOff := by
  unfold Dev.motionOff
  refine .ite h ?_
  refine .power ?_
  extract_lets d1
  have h1 : o.Keeps d1 := h.clearMem
  exact h1.withMotion

theorem Dev.KeepsBy.orphanFab {c} (h : o.Keeps d) : o.Keeps (d.orphanFab c) := by
  unfold Dev.orphanFab
  refine h.each (fun _ _ k1 => ?_)
  extract_lets _ _
  exact .ite k1 (.foldl k1.modQueue (fun _ _ k2 => k2.bump))

theorem Dev.KeepsBy.corePowerOff {c} (h : o.Keeps d) : o.Keeps (d.corePowerOff c) := by
  unfold Dev.corePowerOff
  refine .ite h ?_
  extract_lets d1 d2 d3 d4
  have h1 : o.Keeps d1 := h.releaseAll.releaseAll.orphanFab
  clear_value d1
  have h2 : o.Keeps d2 := h1.putDom domOfEp_pos
  have h3 : o.Keeps d3 := h2.clearMem.clearMem
  have h4 : o.Keeps d4 := h3.clearMem
  exact h4.modEp.setCoreState

theorem Dev.KeepsBy.rxUnlock {core} (h : o.Keeps d) : o.Keeps (d.rxUnlock core) := by
  unfold Dev.rxUnlock
  exact h.each (fun _ _ k1 => k1.each (fun _ _ k2 => k2.iff (fun _ k3 => k3.bset)))

theorem Dev.KeepsBy.engOff {e} (h : o.Keeps d) : o.Keeps (d.engOff e) := by
  unfold Dev.engOff
  refine .ite h ?_
  extract_lets d1 d3 d4
  have h1 : o.Keeps d1 := h.each (fun _ _ k2 => k2.chReset.modChan)
  have h3 : o.Keeps d3 := h1.clearMem.modEngine
  have h4 : o.Keeps d4 := h3.zero
  exact (h4.each (fun _ _ k5 => k5.winObjects)).power

theorem Dev.KeepsBy.tileCleared {t} (h : o.Keeps d) : o.Keeps (d.tileCleared t) := h.withMacsBuses

theorem Dev.KeepsBy.tileOff {t cause} (h : o.Keeps d) : o.Keeps (d.tileOff t cause) := by
  unfold Dev.tileOff
  extract_lets d1 d2
  have h1 : o.Keeps d1 := h.tilePortsOff
  have h2 : o.Keeps d2 := h1.releaseAll.tileCleared
  exact h2.power.setOb.modTile

theorem Dev.KeepsBy.upPowerOff {u} (h : o.Keeps d) : o.Keeps (d.upPowerOff u) := by
  unfold Dev.upPowerOff
  have h1 : o.Keeps ((d.upSet u 0).zero [K.UP_GCL_STATE u, K.UP_GCL_CHANGE_TIME u]) := h.upSet.zero
  exact .ite h (h1.putDom (n := 40 + u))

theorem Dev.KeepsBy.ppsFall (h : o.Keeps d) : o.Keeps d.ppsFall := by
  unfold Dev.ppsFall
  exact h.each (fun _ _ k1 => k1.iff (fun _ k2 => k2.emit))

theorem Dev.KeepsBy.spineUsersOff (h : o.Keeps d) : o.Keeps d.spineUsersOff := by
  unfold Dev.spineUsersOff
  extract_lets d1 d2 d4 d6 d8
  have h1 : o.Keeps d1 := h.modTap.motionOff
  have h2 : o.Keeps d2 := h1.each (fun _ _ k3 => k3.rxUnlock.corePowerOff)
  have h4 : o.Keeps d4 := h2.each (fun _ _ k5 => k5.engOff)
  have h6 : o.Keeps d6 := h4.each (fun _ _ k7 => k7.tileOff)
  have h8 : o.Keeps d8 := h6.each (fun _ _ k9 => k9.upPowerOff)
  exact h8.ppsFall

theorem Dev.KeepsBy.dictLost (h : o.Keeps d) : o.Keeps d.dictLost := by
  unfold Dev.dictLost
  split
  · exact h.deliverCompl
  · exact h

theorem Dev.KeepsBy.allOff (h : o.Keeps d) : o.Keeps d.allOff := by
  have h1 : o.Keeps d.dictLost.spineUsersOff := h.dictLost.spineUsersOff
  unfold Dev.allOff
  generalize d.dictLost.spineUsersOff = d1 at h1 ⊢
  refine ⟨fun x => Memory.wf_filter (fun a => decide (0x2C0000 ≤ a) && decide (a < 0x2E0000)) (h1.mem x), fun _ => ?_, h1.now⟩
  show (1 + 2 * b2n _).testBit 0 = true
  rw [Nat.testBit_zero, decide_eq_true_iff, Nat.add_mul_mod_self_left]

theorem Dev.KeepsBy.enterDormant (h : o.Keeps d) : o.Keeps d.enterDormant := by
  unfold Dev.enterDormant
  exact h.abortChange.modeEvent.allOff

theorem Dev.KeepsBy.coresBarred (h : o.Keeps d) : o.Keeps d.coresBarred := by
  unfold Dev.coresBarred
  exact .ite h (h.each (fun _ _ k1 => .ite k1.rxUnlock.corePowerOff k1))

theorem Dev.KeepsBy.modCtx {c f} (h : o.Keeps d) : o.Keeps (d.modCtx c f) := h.withCtxs

theorem Dev.KeepsBy.migCancel {c} (h : o.Keeps d) : o.Keeps (d.migCancel c) := by
  unfold Dev.migCancel
  extract_lets d1 _
  have h1 : o.Keeps d1 := h.modCtx
  exact h1.withMm

theorem Dev.KeepsBy.ckptAbort {c} (h : o.Keeps d) : o.Keeps (d.ckptAbort c) := by
  unfold Dev.ckptAbort
  refine .ite h ?_
  extract_lets d1
  have h1 : o.Keeps d1 := h.modCtx
  exact h1.bump.logSec

theorem Dev.KeepsBy.setCtxState {c s} (h : o.Keeps d) : o.Keeps (d.setCtxState c s) := by
  unfold Dev.setCtxState
  exact h.setOb

theorem Dev.KeepsBy.quarantine {c} (h : o.Keeps d) : o.Keeps (d.quarantine c) := by
  unfold Dev.quarantine
  extract_lets d1 d2
  have h1 : o.Keeps d1 := h.ckptAbort.migCancel.modCtx
  have h2 : o.Keeps d2 := h1.each (fun _ _ k3 => k3.moveCancel)
  exact h2.event.setCtxState.logE

theorem Dev.KeepsBy.modCellar {f} (h : o.Keeps d) : o.Keeps (d.modCellar f) := h.withCellar

theorem Dev.KeepsBy.freeRuns {l} (h : o.Keeps d) : o.Keeps (d.freeRuns l) := by
  unfold Dev.freeRuns
  extract_lets d1
  have h1 : o.Keeps d1 := .foldl h (fun _ _ k2 => k2.clearMem)
  exact h1.modCellar

theorem Dev.KeepsBy.dropTpls {nums runs} (h : o.Keeps d) : o.Keeps (d.dropTpls nums runs) := by
  unfold Dev.dropTpls
  exact h.modCellar.freeRuns

theorem Dev.KeepsBy.dropLists {idx runs} (h : o.Keeps d) : o.Keeps (d.dropLists idx runs) := by
  unfold Dev.dropLists
  extract_lets d1
  have h1 : o.Keeps d1 := h.each (fun _ _ k2 => k2.clearMem)
  exact h1.modCellar.freeRuns

theorem Dev.KeepsBy.dropSets {ow} (h : o.Keeps d) : o.Keeps (d.dropSets ow) := by
  unfold Dev.dropSets
  exact h.dropLists.dropTpls

theorem Dev.KeepsBy.entriesUsed (h : o.Keeps d) : o.Keeps d.entriesUsed := by
  unfold Dev.entriesUsed
  extract_lets d1
  have h1 : o.Keeps d1 := .ite h.withPoison h
  exact h1.setOb

theorem Dev.KeepsBy.swapDrop {l} (h : o.Keeps d) : o.Keeps (d.swapDrop l) := by
  unfold Dev.swapDrop
  refine h.each (fun _ _ k1 => ?_)
  extract_lets d2
  have h2 : o.Keeps d2 := k1.dropSets
  exact h2.modSw.entriesUsed.modCtx

theorem Dev.KeepsBy.swapStat {c st} (h : o.Keeps d) : o.Keeps (d.swapStat c st) := by
  unfold Dev.swapStat
  exact h.modCore

theorem Dev.KeepsBy.bankCancel {c} (h : o.Keeps d) : o.Keeps (d.bankCancel c) := by
  unfold Dev.bankCancel
  extract_lets _
  exact .ite h.modCore.release.swapStat h.swapStat

theorem Dev.KeepsBy.swapLeft {c core} (h : o.Keeps d) : o.Keeps (d.swapLeft c core) := by
  unfold Dev.swapLeft
  refine .ite h ?_
  extract_lets d1
  have h1 : o.Keeps d1 := h.swapDrop.logE
  exact .ite h1 h1.bankCancel

theorem Dev.KeepsBy.migArm {c t} (h : o.Keeps d) : o.Keeps (d.migArm c t) := by
  unfold Dev.migArm
  extract_lets _
  exact h.event.setCtxState.modCtx

theorem Dev.KeepsBy.reEntry {c f} (h : o.Keeps d) : o.Keeps (d.reEntry c f) := by
  unfold Dev.reEntry
  exact h.modSw.entriesUsed

theorem Dev.KeepsBy.coreIdle {core} (h : o.Keeps d) : o.Keeps (d.coreIdle core) := by
  unfold Dev.coreIdle
  exact .ite h.corePowerOff h

theorem Dev.KeepsBy.ctxMoveTo {c t slot} (h : o.Keeps d) : o.Keeps (d.ctxMoveTo c t slot) := by
  unfold Dev.ctxMoveTo
  extract_lets _ d1 d2 d3
  have h1 : o.Keeps d1 := h.swapLeft
  have h2 : o.Keeps d2 := h1.setOb.setOb.descPut
  have h3 : o.Keeps d3 := h2.reEntry
  exact h3.migCancel.coreIdle

theorem Dev.KeepsBy.ctxCarry {c t} (h : o.Keeps d) : o.Keeps (d.ctxCarry c t) := by
  unfold Dev.ctxCarry
  split
  · exact h
  · extract_lets _
    exact h.event.stAll.ctxMoveTo

theorem Dev.KeepsBy.limpCtxs (h : o.Keeps d) : o.Keeps d.limpCtxs := by
  unfold Dev.limpCtxs
  refine h.each (fun _ _ k1 => ?_)
  refine .ite k1 ?_
  refine .ite k1.quarantine ?_
  refine .ite (.ite k1.setCtxState.migCancel k1) ?_
  extract_lets d2
  have h2 : o.Keeps d2 := .ite k1.setCtxState.migCancel k1
  split
  · exact h2.quarantine
  · extract_lets d3 d4 d5 _
    have h3 : o.Keeps d3 := .ite h2 h2.coreForPers
    have h4 : o.Keeps d4 := h3.swapLeft
    have h5 : o.Keeps d5 := h4.migArm
    exact .ite h5.withMm h3.ctxCarry

theorem Dev.KeepsBy.powerLimp (h : o.Keeps d) : o.Keeps d.powerLimp := by
  unfold Dev.powerLimp
  extract_lets d1 d3 d4 d6 d10
  have h1 : o.Keeps d1 := h.each (fun _ _ k2 => k2.upPowerOn)
  have h3 : o.Keeps d3 := h1.motionOn
  have h4 : o.Keeps d4 := h3.each (fun _ _ k5 => .ite k5.tileOff k5)
  have h6 : o.Keeps d6 := h4.each (fun _ _ k7 => .ite (k7.each (fun _ _ k8 => k8.engOff)) (k7.each (fun _ _ k9 => k9.engOn)))
  have h10 : o.Keeps d10 := h6.each (fun _ _ k11 => k11.tileOn)
  exact h10.limpCtxs.coresBarred.coresBound

theorem Dev.KeepsBy.limpRelease (h : o.Keeps d) : o.Keeps d.limpRelease := by
  unfold Dev.limpRelease
  exact h.modTap

theorem Dev.KeepsBy.applyLimp (h : o.Keeps d) : o.Keeps d.applyLimp := by
  unfold Dev.applyLimp
  exact h.modMm.limpRelease.powerLimp.settleBudget

theorem Dev.KeepsBy.enterLimp (h : o.Keeps d) : o.Keeps d.enterLimp := by
  unfold Dev.enterLimp
  extract_lets d1 d2 d3 _ d4
  have h1 : o.Keeps d1 := h.notePrior.abortChange
  have h2 : o.Keeps d2 := h1.modeEvent.modMm
  have h3 : o.Keeps d3 := h2.setOb
  have h4 : o.Keeps d4 := h3.withMotion
  exact h4.limpRelease.powerLimp.settleBudget

theorem Dev.KeepsBy.limpCause {causes} (h : o.Keeps d) : o.Keeps (d.limpCause causes) := by
  unfold Dev.limpCause
  extract_lets _ d1 _ _ d2 d3 _
  have h1 : o.Keeps d1 := h.setOb
  have h2 : o.Keeps d2 := h1.enterHold
  have h3 : o.Keeps d3 := h2.modMm
  exact .ite h1 (.ite (.ite h1.powerLimp h1) (.ite (.ite (.ite h1.powerLimp h1) (.ite h1 h1.withMotion.abortChange.applyLimp)) (.ite h1.enterLimp h3.withMotion)))

theorem Dev.KeepsBy.tilesFreed {kept} (h : o.Keeps d) : o.Keeps (d.tilesFreed kept) := by
  unfold Dev.tilesFreed
  exact h.each (fun _ _ k1 => .ite k1.tileAsk k1)

theorem Dev.KeepsBy.enterRun {m} (h : o.Keeps d) : o.Keeps (d.enterRun m) := by
  unfold Dev.enterRun
  extract_lets _ d1 _ d2 d3 _ d4
  have h1 : o.Keeps d1 := h.modeEvent.modMm
  have h2 : o.Keeps d2 := h1.withSump
  have h3 : o.Keeps d3 := h2.setOb
  have h4 : o.Keeps d4 := h3.withMotion
  exact h4.powerRun.tilesFreed.settleBudget

theorem Dev.KeepsBy.changeTo {v} (h : o.Keeps d) : o.Keeps (d.changeTo v).1 := by
  unfold Dev.changeTo
  extract_lets _ _
  exact .iteFst (.answer h.enterRun) (.answer (h.iff (fun _ k1 => k1.releaseAll.modMm)))

theorem Dev.KeepsBy.modeRequest {v r} (h : o.Keeps d) : o.Keeps (d.modeRequest v r).1 := by
  unfold Dev.modeRequest
  extract_lets _ d1 _
  have h1 : o.Keeps d1 := h.iff (fun _ k2 => k2.setOb)
  refine .iteFst h ?_
  refine .iteFst h ?_
  refine .iteFst h ?_
  refine .iteFst h ?_
  refine .iteFst (.answer h1.enterHold) ?_
  refine .iteFst (.answer h1.enterDormant) ?_
  refine .iteFst (.iteFst (.iteFst h1 (.iteFst h1 (.iteFst (.answer h1.setOb.limpCause) (.answer h1.setOb.enterLimp)))) (.iteFst h1 (.answer h1.limpCause))) ?_
  refine .iteFst h1 ?_
  refine .iteFst ?_ ?_
  · refine .iteFst h1 ?_
    split
    · have h3 := h1.ask.ofFst ‹_›
      split
      have h4 := h3.modMm.changeTo.ofFst ‹_›
      exact h4
    · have h5 := h1.ask.ofFst ‹_›
      exact .answer h5.modMm
    · have h6 := h1.ask.ofFst ‹_›
      exact h6
  · split
    have h7 := h1.changeTo.ofFst ‹_›
    exact h7

theorem Dev.KeepsBy.modeWrite_ {v r} (h : o.Keeps d) : o.Keeps (d.modeWrite_ v r).1 := by
  unfold Dev.modeWrite_
  split
  · have h1 := h.modeRequest.ofFst ‹_›
    exact .answer h1.setOb
  · have h2 := h.modeRequest.ofFst ‹_›
    exact h2
  · have h3 := h.modeRequest.ofFst ‹_›
    exact .answer h3.modMm.setOb

theorem Dev.KeepsBy.did (h : o.Keeps d) : o.Keeps (Machine.did d).1 := by
  unfold Machine.did
  exact h

theorem Dev.KeepsBy.limpMembers {key v} (h : o.Keeps d) : o.Keeps (d.limpMembers key v) := by
  unfold Dev.limpMembers
  extract_lets _ d1
  have h1 : o.Keeps d1 := h.event.setOb
  exact h1.iff (fun _ k2 => k2.powerLimp.tilesFreed)

theorem Dev.KeepsBy.budgetWrite {v} (h : o.Keeps d) : o.Keeps (d.budgetWrite v).1 := by
  unfold Dev.budgetWrite
  extract_lets _ _
  exact .iteFst h (.answer h.event.setOb.tookEffect.revokeToBudget)

end Sys2Proof.Machine
end

section
/-! SUPPORT. What every step keeps, function by function, in the order in which the model uses them (spec 01, R15, R16; spec 04, R105): each lemma
follows its function's branches, one Keeps lemma for each function that it calls. -/
set_option Elab.async false
namespace Sys2Proof.Machine
variable {o d : Dev}

theorem Dev.KeepsBy.revokeKey {v} (h : o.Keeps d) : o.Keeps (d.revokeKey v).1 := by
  unfold Dev.revokeKey
  extract_lets _ _ d1 _
  have h1 : o.Keeps d1 := h.event
  exact .iteFst h (.iteFst h (.answer h1.withStore))

theorem Dev.KeepsBy.jtagLock {v} (h : o.Keeps d) : o.Keeps (d.jtagLock v).1 := by
  unfold Dev.jtagLock
  exact .iteFst h (.answer h.event.setOb)

theorem Dev.KeepsBy.busClear {p} (h : o.Keeps d) : o.Keeps (d.busClear p) := by
  unfold Dev.busClear
  exact h.busReset.modBus.zero

theorem Dev.KeepsBy.putMode {p v} (h : o.Keeps d) : o.Keeps (d.putMode p v) := by
  unfold Dev.putMode
  extract_lets _ d1 d2 d4 d6 d8 d9
  have h1 : o.Keeps d1 := h.sweepAbortPort
  have h2 : o.Keeps d2 := h1.iff (fun _ k3 => k3.busClear)
  have h4 : o.Keeps d4 := h2.iff (fun _ k5 => k5.withMacs)
  have h6 : o.Keeps d6 := h4.iff (fun _ k7 => k7.endReception)
  have h8 : o.Keeps d8 := h6.setOb
  have h9 : o.Keeps d9 := h8.event.setOb.modPort
  exact .ite h h9.chFollow

theorem Dev.KeepsBy.probe {p cause} (h : o.Keeps d) : o.Keeps (d.probe p cause) := by
  unfold Dev.probe
  extract_lets d1 d2
  have h1 : o.Keeps d1 := h.modPort
  have h2 : o.Keeps d2 := .ite h1.portFlag.mdixFlag.chFollow h1.portTo
  exact h2.iff (fun _ k3 => k3.busIntegrate)

theorem Dev.KeepsBy.retryWait {p} (h : o.Keeps d) : o.Keeps (d.retryWait p) := by
  unfold Dev.retryWait
  extract_lets _ _
  exact h.modPort

theorem Dev.KeepsBy.portGo {p mode modeWrite num} (h : o.Keeps d) : o.Keeps (d.portGo p mode modeWrite num).1 := by
  unfold Dev.portGo
  extract_lets _ _ f1
  have hf1 : ∀ d x1 x2, o.Keeps d → o.Keeps (f1 d x1 x2) := by
    refine fun _ _ _ k2 => ?_
    unfold f1
    extract_lets d3 d5 _ d6 d7 d8 d10 d12
    have h3 : o.Keeps d3 := k2.iff (fun _ k4 => k4.retryStop)
    have h5 : o.Keeps d5 := .ite h3 h3.dropRes
    have h6 : o.Keeps d6 := h5.putMode
    have h7 : o.Keeps d7 := h6.modPort
    have h8 : o.Keeps d8 := h7.iff (fun _ k9 => k9.event.setOb)
    have h10 : o.Keeps d10 := h8.iff (fun _ k11 => k11.modPort.setOb)
    have h12 : o.Keeps d12 := h10.iff (fun _ k13 => k13.logE)
    exact .ite h12 h12.probe
  refine .iteFst (.answer h.release.putMode) ?_
  split
  · exact hf1 _ _ _ h
  · exact .iteFst (hf1 _ _ _ h) (.iteFst (.answer (h.iff (fun _ k14 => k14.retryWait))) (.answer (h.iff (fun _ k15 => k15.setOb))))

theorem Dev.KeepsBy.bringUp {p mode modeWrite r} (h : o.Keeps d) : o.Keeps (d.bringUp p mode modeWrite r).1 := by
  unfold Dev.bringUp
  extract_lets _ _ f1
  have hf1 : ∀ d, o.Keeps d.1 → o.Keeps (f1 d).1 := fun _ k2 => k2
  refine .iteFst (hf1 _ h.dropRes.portGo) ?_
  refine .iteFst (hf1 _ h.portGo) ?_
  split
  · have h3 := h.ask.ofFst ‹_›
    exact hf1 _ h3.portGo
  · have h4 := h.ask.ofFst ‹_›
    exact .answer h4.modPort
  · have h5 := h.ask.ofFst ‹_›
    exact hf1 _ h5.portGo

theorem Dev.KeepsBy.modeWrite {p v r} (h : o.Keeps d) : o.Keeps (d.modeWrite p v r).1 := by
  unfold Dev.modeWrite
  extract_lets _ d1
  have h1 : o.Keeps d1 := h.iff (fun _ k2 => k2.retryStop)
  exact .iteFst h (.iteFst h (.iteFst h (.iteFst (.answer h.dropRes.putMode) (.iteFst (.answer h1.portOff.putMode) (.iteFst (.answer h.dropRes.putMode) h.bringUp)))))

theorem Dev.KeepsBy.portQuarantine {p cause} (h : o.Keeps d) : o.Keeps (d.portQuarantine p cause) := by
  unfold Dev.portQuarantine
  exact h.dropRes.portTo.logE

theorem Dev.KeepsBy.adminWrite {p v r} (h : o.Keeps d) : o.Keeps (d.adminWrite p v r).1 := by
  unfold Dev.adminWrite
  refine .iteFst h ?_
  refine .iteFst h ?_
  extract_lets d1 _ _ d2 d4 d5 d6 d7
  have h1 : o.Keeps d1 := h.cancelReq
  have h2 : o.Keeps d2 := h1.iff (fun _ k3 => k3.retryStop)
  have h4 : o.Keeps d4 := h2.event.setOb
  have h5 : o.Keeps d5 := h2.event.setOb
  have h6 : o.Keeps d6 := h2.event.setOb.modPort.setOb
  have h7 : o.Keeps d7 := h2.event.setOb
  exact .iteFst (.answer (.ite h4 h4.portQuarantine)) (.iteFst (.answer (.ite h5.dropRes h5.portOff)) (.iteFst h2.bringUp (.iteFst (.answer h6.portTo) (.answer (h7.iff (fun _ k8 => k8.retryWait))))))

theorem Dev.KeepsBy.t1lUnask {p} (h : o.Keeps d) : o.Keeps (d.t1lUnask p) := by
  unfold Dev.t1lUnask
  extract_lets _
  exact h.iff (fun _ k1 => k1.cancelReq)

theorem Dev.KeepsBy.t1lReserve {p} (h : o.Keeps d) : o.Keeps (d.t1lReserve p) := by
  unfold Dev.t1lReserve
  exact .ite h (.ite h.t1lUnask.dropRes (.ite h.bringUp h))

theorem Dev.KeepsBy.optionWrite {p opt v} (h : o.Keeps d) : o.Keeps (d.optionWrite p opt v).1 := by
  unfold Dev.optionWrite
  extract_lets _ d1 _ d2 d3 d5 d7
  have h1 : o.Keeps d1 := h.event.setOb
  have h2 : o.Keeps d2 := .ite h1.portTo h1
  have h3 : o.Keeps d3 := h2.iff (fun _ k4 => k4.mdixFlag)
  have h5 : o.Keeps d5 := h3.iff (fun _ k6 => k6.modPort)
  have h7 : o.Keeps d7 := h5.iff (fun _ k8 => k8.modPort)
  exact .answer (h7.iff (fun _ k9 => k9.t1lReserve))

theorem Dev.KeepsBy.recalWrite {p v} (h : o.Keeps d) : o.Keeps (d.recalWrite p v).1 := by
  unfold Dev.recalWrite
  extract_lets _
  exact .iteFst h (.iteFst h (.iteFst h (.answer h.event.recalStart)))

theorem Dev.KeepsBy.clearEls {key lo hi} (h : o.Keeps d) : o.Keeps (d.clearEls key lo hi).1 := by
  unfold Dev.clearEls
  extract_lets _
  exact .answer h.event.zero

theorem Dev.KeepsBy.moveCancelWrite {p} (h : o.Keeps d) : o.Keeps (d.moveCancelWrite p).1 := by
  unfold Dev.moveCancelWrite
  exact .iteFst h (.answer h.event.moveCancel)

theorem Dev.KeepsBy.setWin {c w} (h : o.Keeps d) : o.Keeps (d.setWin c w) := by
  unfold Dev.setWin
  extract_lets _ d1
  have h1 : o.Keeps d1 := h.setOb.modChan.judgeSwap
  exact .ite h (h1.iff (fun _ k2 => k2.flipIdle))

theorem Dev.KeepsBy.moveAccept {p v w} (h : o.Keeps d) : o.Keeps (d.moveAccept p v w) := by
  unfold Dev.moveAccept
  extract_lets _ d1
  have h1 : o.Keeps d1 := by
    unfold d1
    split
    · extract_lets d2
      have h2 : o.Keeps d2 := h.setWin
      exact .ite h2.startChan h2
    · exact h
  exact h1.event.setOb.portFlag

theorem Dev.KeepsBy.setImageLen {e w bank n} (h : o.Keeps d) : o.Keeps (d.setImageLen e w bank n) := by
  unfold Dev.setImageLen
  exact h.modEngine

theorem Dev.KeepsBy.putProg {e w bank l} (h : o.Keeps d) : o.Keeps (d.putProg e w bank l) := by
  unfold Dev.putProg
  exact h.stAll.setImageLen

theorem Dev.KeepsBy.moveLoad {p q} (h : o.Keeps d) : o.Keeps (d.moveLoad p q).1 := by
  unfold Dev.moveLoad
  split
  · exact h
  · extract_lets _
    exact .answer h.putProg.setImageLen

theorem Dev.KeepsBy.moveWrite {p v r} (h : o.Keeps d) : o.Keeps (d.moveWrite p v r).1 := by
  unfold Dev.moveWrite
  extract_lets _ _
  refine .iteFst h ?_
  refine .iteFst (.answer h.moveAccept) ?_
  split
  · exact .answer h.moveAccept
  · refine .iteFst h ?_
    split
    · have h1 := h.ask.ofFst ‹_›
      split
      have h2 := h1.moveLoad.ofFst ‹_›
      exact .answer h2.moveAccept.release
    · have h3 := h.ask.ofFst ‹_›
      exact h3
    · have h4 := h.ask.ofFst ‹_›
      exact h4
    · have h5 := h.ask.ofFst ‹_›
      exact h5

theorem Dev.KeepsBy.roleMoveWrite {p v r} (h : o.Keeps d) : o.Keeps (d.roleMoveWrite p v r).1 := by
  unfold Dev.roleMoveWrite
  refine .iteFst ?_ h.moveWrite
  split
  have h1 := h.moveCancelWrite.ofFst ‹_›
  exact h1

theorem Dev.KeepsBy.tileCmd {t v r} (h : o.Keeps d) : o.Keeps (d.tileCmd t v r).1 := by
  unfold Dev.tileCmd
  extract_lets _ _ _
  refine .iteFst (.iteFst h (.iteFst h h.tileAsk)) ?_
  refine .iteFst ?_ h
  refine .iteFst h ?_
  refine .iteFst h ?_
  split
  · have h1 := h.ask.ofFst ‹_›
    exact .answer h1.event.modTile.calNext
  · have h2 := h.ask.ofFst ‹_›
    exact h2
  · have h3 := h.ask.ofFst ‹_›
    exact h3
  · have h4 := h.ask.ofFst ‹_›
    exact h4

theorem Dev.KeepsBy.tileUse {t v} (h : o.Keeps d) : o.Keeps (d.tileUse t v).1 := by
  unfold Dev.tileUse
  exact .iteFst (.iteFst h (.answer h.event.setOb.tileOff)) (.answer h.event.setOb.tileOn)

theorem Dev.KeepsBy.tdrBegin {p num} (h : o.Keeps d) : o.Keeps (d.tdrBegin p num).1 := by
  unfold Dev.tdrBegin
  extract_lets _ _ _ d1 d2
  have h1 : o.Keeps d1 := h.event.modTile
  have h2 : o.Keeps d2 := h1.iff (fun _ k3 => k3.modMac)
  exact .iteFst (.answer h.release) (.iteFst (.answer h.release) (.answer h2.setOb.setOb))

theorem Dev.KeepsBy.tdrWrite {p v r} (h : o.Keeps d) : o.Keeps (d.tdrWrite p v r).1 := by
  unfold Dev.tdrWrite
  refine .iteFst h ?_
  extract_lets _
  refine .iteFst h ?_
  split
  · have h1 := h.ask.ofFst ‹_›
    split
    have h2 := h1.tdrBegin.ofFst ‹_›
    exact h2
  · have h3 := h.ask.ofFst ‹_›
    exact h3
  · have h4 := h.ask.ofFst ‹_›
    exact h4
  · have h5 := h.ask.ofFst ‹_›
    exact h5

theorem Dev.KeepsBy.flutterWrite {p key v} (h : o.Keeps d) : o.Keeps (d.flutterWrite p key v) := by
  unfold Dev.flutterWrite
  extract_lets d1
  have h1 : o.Keeps d1 := h.event.setOb
  exact h1.iff (fun _ k2 => k2.modPort)

theorem Dev.KeepsBy.modDin {p i f} (h : o.Keeps d) : o.Keeps (d.modDin p i f) := by
  unfold Dev.modDin
  exact h.modPort

theorem Dev.KeepsBy.stuckWrite {p i key v} (h : o.Keeps d) : o.Keeps (d.stuckWrite p i key v) := by
  unfold Dev.stuckWrite
  extract_lets d1
  have h1 : o.Keeps d1 := h.event.setOb
  exact h1.iff (fun _ k2 => k2.modDin)

theorem Dev.KeepsBy.edgeClear {p v} (h : o.Keeps d) : o.Keeps (d.edgeClear p v).1 := by
  unfold Dev.edgeClear
  extract_lets _
  exact .answer (h.event.zero.each (fun _ _ k1 => k1.setOb))

theorem Dev.KeepsBy.modUp {u f} (h : o.Keeps d) : o.Keeps (d.modUp u f) := h.withUps

theorem Dev.KeepsBy.upSending {u what} (h : o.Keeps d) : o.Keeps (d.upSending u what) := by
  unfold Dev.upSending
  exact .ite h h.modUp.emit

theorem Dev.KeepsBy.upMode {u v} (h : o.Keeps d) : o.Keeps (d.upMode u v) := by
  unfold Dev.upMode
  refine .ite h ?_
  extract_lets d1
  have h1 : o.Keeps d1 := h.setOb
  exact .ite h1.upPowerOff (.ite h1.upSet.upSending (.ite h1 h1.upPowerOn))

theorem Dev.KeepsBy.gclArm {u} (h : o.Keeps d) : o.Keeps (d.gclArm u).1 := by
  unfold Dev.gclArm
  extract_lets _ _ d1 _ _ _
  have h1 : o.Keeps d1 := h.event
  exact .iteFst h (.answer h1.modUp.setOb.setOb)

theorem Dev.KeepsBy.busSetting {p key v judged} (h : o.Keeps d) : o.Keeps (d.busSetting p key v judged).1 := by
  unfold Dev.busSetting
  extract_lets d1
  have h1 : o.Keeps d1 := h.event.setOb
  exact .iteFst h (.answer (.ite h1.probe h1))

theorem Dev.KeepsBy.txqWrite {p v} (h : o.Keeps d) : o.Keeps (d.txqWrite p v).1 := by
  unfold Dev.txqWrite
  exact h.putIf

theorem Dev.KeepsBy.busRecover {p} (h : o.Keeps d) : o.Keeps (d.busRecover p) := by
  unfold Dev.busRecover
  exact h.setOb

theorem Dev.KeepsBy.recoverWrite {p} (h : o.Keeps d) : o.Keeps (d.recoverWrite p).1 := by
  unfold Dev.recoverWrite
  exact .iteFst (.answer h.event.busRecover) h

theorem Dev.KeepsBy.engStart {e mask} (h : o.Keeps d) : o.Keeps (d.engStart e mask) := by
  unfold Dev.engStart
  exact h.event.each (fun _ _ k1 => .ite k1.startChan.modChan k1)

theorem Dev.KeepsBy.engBitsync {e mask} (h : o.Keeps d) : o.Keeps (d.engBitsync e mask) := by
  unfold Dev.engBitsync
  exact h.event.each (fun _ _ k1 => .ite k1.modChan k1)

theorem Dev.KeepsBy.disarmEng {e} (h : o.Keeps d) : o.Keeps (d.disarmEng e) := by
  unfold Dev.disarmEng
  exact h.modEngine.setOb

theorem Dev.KeepsBy.armEng {e} (h : o.Keeps d) : o.KeepsOpt id (d.armEng e) := by
  unfold Dev.armEng
  exact .ite (.none) (.just h.modEngine.setOb)

theorem Dev.KeepsBy.armWrite {e v} (h : o.Keeps d) : o.Keeps (d.armWrite e v).1 := by
  unfold Dev.armWrite
  refine .iteFst (.answer h.event.disarmEng) ?_
  split
  · have h1 := h.armEng.ofSome ‹_›
    exact .answer h1.event
  · exact h

theorem Dev.KeepsBy.headTsDropped {c} (h : o.Keeps d) : o.Keeps (d.headTsDropped c) := by
  unfold Dev.headTsDropped
  extract_lets x2 d1
  have h1 : o.Keeps d1 := h.modChan
  clear_value x2
  split
  · exact h1.postTs
  · exact h1

theorem Dev.KeepsBy.chFlag {c bitNo counter} (h : o.Keeps d) : o.Keeps (d.chFlag c bitNo counter) := by
  unfold Dev.chFlag
  extract_lets d1
  have h1 : o.Keeps d1 := h.setOb
  split
  · exact h1.bump
  · exact h1

theorem Dev.KeepsBy.flipForce {c} (h : o.Keeps d) : o.Keeps (d.flipForce c) := by
  unfold Dev.flipForce
  extract_lets d1 _ d2 d4 d5 d6
  have h1 : o.Keeps d1 := h.rxTorn
  have h2 : o.Keeps d2 := h1.iff (fun _ k3 => k3.headTsDropped)
  have h4 : o.Keeps d4 := h2.modChan
  have h5 : o.Keeps d5 := h4.chFlag
  have h6 : o.Keeps d6 := .ite h5 h5.setOb
  exact h6.flip

theorem Dev.KeepsBy.askSwap {e w mode busy} (h : o.Keeps d) : o.Keeps (d.askSwap e w mode busy).1 := by
  unfold Dev.askSwap
  extract_lets _ _ _ f1 d3 d4
  have hf1 : ∀ d, o.Keeps d → o.Keeps (f1 d) := fun _ k2 => .ite k2 k2.modEngine.winObjects
  have h3 : o.Keeps d3 := hf1 _ h
  have h4 : o.Keeps d4 := (hf1 _ h).each (fun _ _ k5 => .ite k5.flipForce k5)
  refine .iteFst ?_ ?_
  · split
    · exact .iteFst (.answer (((h.each (fun _ _ k6 => k6.modChan)).modEngine).winObjects)) h
    · exact h
  · refine .iteFst h ?_
    refine .iteFst (.answer ((h.each (fun _ _ k7 => k7.modChan)).landSwap)) ?_
    split
    · refine h3.each (fun _ _ k8 => ?_)
      extract_lets _
      exact .ite k8.flipIdle k8
    · exact .iteFst h (.answer ((hf1 _ h).each (fun _ _ k9 => .ite k9.flip k9)))
    · exact .answer h4.bump.logE

theorem Dev.KeepsBy.winSwapWrite {i v} (h : o.Keeps d) : o.Keeps (d.winSwapWrite i v).1 := by
  unfold Dev.winSwapWrite
  split
  have h1 := h.event.askSwap.ofFst ‹_›
  exact .iteFst h1 h

theorem Dev.KeepsBy.unlessSeg {c} {x : Dev × Nat} (h : o.Keeps d) (hx : o.Keeps x.1) : o.Keeps (d.unlessSeg c x).1 := by
  unfold Dev.unlessSeg
  exact .iteFst h hx

theorem Dev.KeepsBy.chargeEnd {key o' cls len} (h : o.Keeps d) : o.Keeps (d.chargeEnd key o' cls len) := by
  unfold Dev.chargeEnd
  refine .ite ?_ h
  extract_lets d1
  have h1 : o.Keeps d1 := h.modSw
  split
  · exact .ite h1.modSw h1
  · exact h1

theorem Dev.KeepsBy.joinDrop {c} (h : o.Keeps d) : o.Keeps (d.joinDrop c) := by
  unfold Dev.joinDrop
  split
  · exact h
  · extract_lets d1
    have h1 : o.Keeps d1 := h.iff (fun _ k2 => k2.dropTs)
    exact h1.offLine.modSw.chargeEnd.bump

theorem Dev.KeepsBy.setJoin {c v} (h : o.Keeps d) : o.Keeps (d.setJoin c v) := by
  unfold Dev.setJoin
  refine .ite h ?_
  extract_lets d1 d3
  have h1 : o.Keeps d1 := by
    refine .foldl h (fun _ _ k2 => ?_)
    split
    · exact k2.postTs
    · exact k2
  have h3 : o.Keeps d3 := h1.iff (fun _ k4 => k4.joinDrop)
  exact h3.setOb.modChan

theorem Dev.KeepsBy.chFixed {c key v} (h : o.Keeps d) : o.Keeps (d.chFixed c key v).1 := by
  unfold Dev.chFixed
  exact .iteFst h (.iteFst (.answer h.event.setJoin) (.iteFst (.answer h.event.setWin) h.put))

theorem Dev.KeepsBy.fmtKeep {c} (h : o.Keeps d) : o.Keeps (d.fmtKeep c) := by
  unfold Dev.fmtKeep
  exact .ite h h.modChan

theorem Dev.KeepsBy.chFlagsClear {c v} (h : o.Keeps d) : o.Keeps (d.chFlagsClear c v).1 := by
  unfold Dev.chFlagsClear
  exact .answer h.event.setOb

theorem Dev.KeepsBy.haltChan {c} (h : o.Keeps d) : o.Keeps (d.haltChan c) := by
  unfold Dev.haltChan
  exact h.setOb.modChan.flipIdle

theorem Dev.KeepsBy.chCmd {c cmd} (h : o.Keeps d) : o.Keeps (d.chCmd c cmd) := by
  unfold Dev.chCmd
  extract_lets _
  split
  · exact .ite h.startChan h
  · exact .ite h.haltChan h
  · exact .ite h h.startChan
  · exact h

theorem Dev.KeepsBy.coreGo {c} (h : o.Keeps d) : o.Keeps (d.coreGo c) := by
  unfold Dev.coreGo
  refine .ite h ?_
  split
  · exact h.setCoreState
  · exact h.setCoreState
  · exact h.setCoreState

theorem Dev.KeepsBy.coreStop {c} (h : o.Keeps d) : o.Keeps (d.coreStop c) := by
  unfold Dev.coreStop
  exact h.setCoreState

theorem Dev.KeepsBy.oscSteps {n} (h : o.Keeps d) : o.Keeps (d.oscSteps n) := by
  unfold Dev.oscSteps
  exact h.withSump.advance

theorem Dev.KeepsBy.upTo {t} (h : o.Keeps d) : o.Keeps (d.upTo t) := by
  unfold Dev.upTo
  exact .ite h (.ite h.advance (.ite h.oscSteps h.advance))

theorem Dev.KeepsBy.ctxRestart {c guard} (h : o.Keeps d) : o.Keeps (d.ctxRestart c guard) := by
  unfold Dev.ctxRestart
  refine .ite h ?_
  extract_lets x6 d1 _ d2 d3 d5
  have h1 : o.Keeps d1 := h.ckptAbort.migCancel
  have h2 : o.Keeps d2 := h1.event.setCtxState.modCtx
  have h3 : o.Keeps d3 := h2.bump.logE.iff (fun _ k4 => k4.raise)
  have h5 : o.Keeps d5 := .ite h3.quarantine h3
  clear_value x6
  split
  · exact h5.coreIdle
  · exact h5

theorem Dev.KeepsBy.coreCtxsRestart {core} (h : o.Keeps d) : o.Keeps (d.coreCtxsRestart core) := by
  unfold Dev.coreCtxsRestart
  exact h.each (fun _ _ k1 => k1.ctxRestart)

theorem Dev.KeepsBy.coreReset {c} (h : o.Keeps d) : o.Keeps (d.coreReset c) := by
  unfold Dev.coreReset
  extract_lets d1 d2 d3
  have h1 : o.Keeps d1 := h.releaseAll
  have h2 : o.Keeps d2 := h1.withCores
  have h3 : o.Keeps d3 := h2.iff (fun _ k4 => k4.setCoreState)
  exact h3.epochInc

theorem Dev.KeepsBy.tapWaits (h : o.Keeps d) : o.Keeps d.tapWaits := by
  unfold Dev.tapWaits
  extract_lets _ d1
  have h1 : o.Keeps d1 := h.modTap
  exact .foldl h1 (fun _ _ k2 => k2.refuse.todo)

theorem Dev.KeepsBy.tapExpire (h : o.Keeps d) : o.Keeps d.tapExpire := by
  unfold Dev.tapExpire
  exact h.modTap

theorem Dev.KeepsBy.tapJournal (h : o.Keeps d) : o.Keeps d.tapJournal := by
  unfold Dev.tapJournal
  refine .ite h ?_
  extract_lets _ d1
  have h1 : o.Keeps d1 := h.modTap.clearMem
  exact h1.withFree

theorem Dev.KeepsBy.tapRebuild (h : o.Keeps d) : o.Keeps d.tapRebuild := by
  unfold Dev.tapRebuild
  exact .ite h.tapJournal.tapExpire.tapWaits.recheck h

theorem Dev.KeepsBy.showKeeper (h : o.Keeps d) : o.Keeps d.showKeeper := by
  unfold Dev.showKeeper
  exact h.showRing.st.st

theorem Dev.KeepsBy.roleTaken {r} (h : o.Keeps d) : o.Keeps (d.roleTaken r) := by
  unfold Dev.roleTaken
  exact .ite h.tapRebuild (.ite h.showKeeper.todo h)

theorem Dev.KeepsBy.hostLevels {f} (h : o.Keeps d) (hf : ∀ d, o.Keeps d → o.Keeps (f d)) : o.Keeps (d.hostLevels f) := by
  unfold Dev.hostLevels
  extract_lets d1
  have h1 : o.Keeps d1 := hf _ h
  exact h1.each (fun _ _ k2 => .ite k2.raise k2)

theorem Dev.KeepsBy.ring {e v} (h : o.Keeps d) : o.Keeps (d.ring e v) := by
  unfold Dev.ring
  exact (h.hostLevels (fun _ k1 => k1.event.setOb)).todo

theorem Dev.KeepsBy.passRoles {k} (h : o.Keeps d) : o.Keeps (d.passRoles k) := by
  unfold Dev.passRoles
  split
  · exact h
  · extract_lets _ d1
    have h1 : o.Keeps d1 := h.event.each (fun _ _ k2 => k2.setOb)
    exact .ite h (h1.each (fun _ _ k3 => k3.ring.logE.bump.roleTaken))

theorem Dev.KeepsBy.keeperReset {k expiry} (h : o.Keeps d) : o.Keeps (d.keeperReset k expiry) := by
  unfold Dev.keeperReset
  extract_lets d1 f2 _ _ _ d5
  have h1 : o.Keeps d1 := h.passRoles
  have hf2 : ∀ d, o.Keeps d → o.Keeps (f2 d) := fun _ k3 => k3.iff (fun _ k4 => k4.showKeeper)
  have h5 : o.Keeps d5 := h1.withSump.coreReset
  exact .ite (hf2 _ h1.coreReset) (.ite h5.coreStop.setOb.logE (hf2 _ h5))

theorem Dev.KeepsBy.coreResetCmd {c} (h : o.Keeps d) : o.Keeps (d.coreResetCmd c) := by
  unfold Dev.coreResetCmd
  extract_lets d1
  have h1 : o.Keeps d1 := h.raise63.upTo.rxUnlock
  exact .ite h1.coreReset.coreCtxsRestart h1.keeperReset

theorem Dev.KeepsBy.coreCmd {c v} (h : o.Keeps d) : o.Keeps (d.coreCmd c v).1 := by
  unfold Dev.coreCmd
  refine .iteFst h ?_
  split
  · exact .answer h.event.coreGo
  · exact .answer h.event.coreStop
  · exact .answer h.event.tookEffect.coreResetCmd

theorem Dev.KeepsBy.ctxFixed {c key v} (h : o.Keeps d) : o.Keeps (d.ctxFixed c key v).1 := by
  unfold Dev.ctxFixed
  exact h.putIf

theorem Dev.KeepsBy.badTable (h : o.Keeps d) : o.Keeps d.badTable := by
  unfold Dev.badTable
  exact h.bump.logE

theorem Dev.KeepsBy.putList {ow img i j shift} (h : o.Keeps d) : o.Keeps (d.putList ow img i j shift) := by
  unfold Dev.putList
  extract_lets _ _ _ d1
  have h1 : o.Keeps d1 := h.withCellar
  exact .ite h1.stAll h1.stAll.badTable

theorem Dev.KeepsBy.addLists {ow image} (h : o.Keeps d) : o.KeepsOpt Prod.fst (d.addLists ow image) := by
  unfold Dev.addLists
  extract_lets _ _ _
  refine .ite (.some h) ?_
  split
  · extract_lets d1
    have h1 : o.Keeps d1 := h.modCellar.stAll
    exact .some (.answer (h1.each (fun _ _ k2 => k2.putList)))
  · exact .none

theorem Dev.KeepsBy.putTpl {ow slot img run i n} (h : o.Keeps d) : o.Keeps (d.putTpl ow slot img run i n) := by
  unfold Dev.putTpl
  refine .ite ?_ h.st.badTable
  extract_lets _ _ d1 _ d2 d3
  have h1 : o.Keeps d1 := h.st
  have h2 : o.Keeps d2 := by
    unfold d2
    split
    · exact .ite h1.st h1
    · exact h1
  have h3 : o.Keeps d3 := h2.each (fun _ _ k4 => k4.st.st)
  exact h3.modCellar

theorem Dev.KeepsBy.addTpls {ow slot image} (h : o.Keeps d) : o.KeepsOpt Prod.fst (d.addTpls ow slot image) := by
  unfold Dev.addTpls
  extract_lets _ _
  refine .ite (.some h) ?_
  split
  · extract_lets d1
    have h1 : o.Keeps d1 := h.modCellar.stAll
    exact .some (.answer (.foldl h1 (fun _ _ k2 => k2.putTpl)))
  · exact .none

theorem Dev.KeepsBy.resolveSets {c j ow} (h : o.Keeps d) : o.KeepsOpt id (d.resolveSets c j ow) := by
  unfold Dev.resolveSets
  refine .bind (.foldl (.some h) (fun _ _ k1 => .bind k1 (fun _ k2 => .map k2.addLists (fun _ k3 => k3)))) (fun _ k4 => ?_)
  split
  refine .bind (.foldl (.just k4) (fun _ _ k6 => .bind k6 (fun _ k7 => .mapDev k7.addTpls (fun _ k8 => k8)))) (fun _ k9 => ?_)
  extract_lets _
  exact .bindPlain (fun _ => .just k9.modSw.entriesUsed)

theorem Dev.KeepsBy.chCfgWrite {c v} (h : o.Keeps d) : o.Keeps (d.chCfgWrite c v) := by
  unfold Dev.chCfgWrite
  extract_lets _ _ _ _ f1 d3 d4
  have hf1 : ∀ d x1 x2, o.Keeps d → o.Keeps (f1 d x1 x2) := fun _ _ _ k2 => k2.setOb
  have h3 : o.Keeps d3 := h.fmtKeep.setWin.setJoin
  have h4 : o.Keeps d4 := hf1 _ _ _ (hf1 _ _ _ (hf1 _ _ _ (hf1 _ _ _ h3)))
  exact .ite h (hf1 _ _ _ (hf1 _ _ _ (hf1 _ _ _ (hf1 _ _ _ (hf1 _ _ _ h4)))))

theorem Dev.KeepsBy.corePush {c v} (h : o.Keeps d) : o.Keeps (d.corePush c v) := by
  unfold Dev.corePush
  extract_lets _
  exact .ite h h.modChan

theorem Dev.KeepsBy.chWrite {c w v bound} (h : o.Keeps d) : o.Keeps (d.chWrite c w v bound) := by
  unfold Dev.chWrite
  extract_lets f1 _
  have hf1 : ∀ x0 x1, o.Keeps (f1 x0 x1) := fun _ _ => h.setOb
  refine .ite h ?_
  split
  · exact hf1 _ _
  · exact h.chCmd
  · exact h.chCfgWrite
  · exact .ite h h.fmtKeep.setOb
  · exact .ite h (hf1 _ _)
  · exact .ite h ((((((hf1 _ _).setOb).setOb).setOb).setOb).setOb)
  · exact .ite h h.setOb
  · exact hf1 _ _
  · exact hf1 _ _
  · exact hf1 _ _
  · exact hf1 _ _
  · exact .ite h h.modChan
  · exact .ite h h.modChan
  · exact h.modChan
  · exact .ite h.corePush h
  · exact h.modChan
  · exact h

theorem Dev.KeepsBy.bindChannel {c j i} (h : o.Keeps d) : o.KeepsOpt id (d.bindChannel c j i) := by
  unfold Dev.bindChannel
  extract_lets _ _ _ _ _ _ _
  refine .ite (.just h) ?_
  refine .mapPlainDev (fun _ => ?_)
  extract_lets d1 d2
  have h1 : o.Keeps d1 := .ite h h.putProg
  have h2 : o.Keeps d2 := h1.chCfgWrite
  exact .foldl h2 (fun _ _ k3 => k3.chWrite)

theorem Dev.KeepsBy.bindChannels {c j} (h : o.Keeps d) : o.KeepsOpt id (d.bindChannels c j) := by
  unfold Dev.bindChannels
  exact .foldl (.just h) (fun _ _ k1 => .bind k1 (fun _ k2 => k2.bindChannel))

theorem Dev.KeepsBy.setProfiles {c w} (h : o.Keeps d) : o.Keeps (d.setProfiles c w) := by
  unfold Dev.setProfiles
  exact .ite h.modSw h

theorem Dev.KeepsBy.bindNow {c} (h : o.Keeps d) : o.KeepsOpt id (d.bindNow c) := by
  unfold Dev.bindNow
  extract_lets _ _ _ _
  refine .bindPlain (fun _ => ?_)
  refine .bindPlain (fun _ => ?_)
  refine .bindPlain (fun _ => ?_)
  extract_lets d1 d2 d3 d4 d5 d6 d7
  have h1 : o.Keeps d1 := h.modCtx.descPut
  have h2 : o.Keeps d2 := h1.descTiming.descPut
  have h3 : o.Keeps d3 := h2.setOb.setOb.setOb
  have h4 : o.Keeps d4 := h3.zero.setCtxState
  have h5 : o.Keeps d5 := h4.clearMem
  have h6 : o.Keeps d6 := h5.clearMem.clearMem
  have h7 : o.Keeps d7 := .foldl h6 (fun _ _ k8 => k8.setOb.modPort)
  exact .bind h7.resolveSets (fun _ k9 => .bind k9.setProfiles.bindChannels (fun _ k10 => .just k10.event.setCtxState.logE))

theorem Dev.KeepsBy.bindGo {c num} (h : o.Keeps d) : o.Keeps (d.bindGo c num).1 := by
  unfold Dev.bindGo
  extract_lets _ _ d1
  have h1 : o.Keeps d1 := .ite h.coreForPers h
  refine .iteFst (.answer h.release) ?_
  split
  · have h2 := h1.bindNow.ofSome ‹_›
    exact .answer h2.release
  · exact .answer h.release

theorem Dev.KeepsBy.ctxBind {c r} (h : o.Keeps d) : o.Keeps (d.ctxBind c r).1 := by
  unfold Dev.ctxBind
  refine .iteFst h ?_
  refine .iteFst h ?_
  refine .iteFst ?_ ?_
  · split
    have h1 := h.bindGo.ofFst ‹_›
    exact h1
  · split
    · have h2 := h.ask.ofFst ‹_›
      split
      have h3 := h2.bindGo.ofFst ‹_›
      exact h3
    · have h4 := h.ask.ofFst ‹_›
      exact h4
    · have h5 := h.ask.ofFst ‹_›
      exact h5
    · have h6 := h.ask.ofFst ‹_›
      exact h6

theorem Dev.KeepsBy.ctxBegin {c} (h : o.Keeps d) : o.Keeps (d.ctxBegin c) := by
  unfold Dev.ctxBegin
  extract_lets _
  exact h.modCtx

theorem Dev.KeepsBy.ctxStart {c} (h : o.Keeps d) : o.Keeps (d.ctxStart c).1 := by
  unfold Dev.ctxStart
  split
  · exact .answer h.event.descTiming.setCtxState.ctxBegin
  · exact .answer h.event.descTiming.setCtxState.modCtx
  · exact h

theorem Dev.KeepsBy.ctxStop {c} (h : o.Keeps d) : o.Keeps (d.ctxStop c).1 := by
  unfold Dev.ctxStop
  refine .iteFst ?_ h
  extract_lets x6 d1 d3 d5
  have h1 : o.Keeps d1 := ((h.iff (fun _ k2 => k2.ckptAbort)).migCancel).modCtx
  have h3 : o.Keeps d3 := h1.each (fun _ _ k4 => k4.moveCancel)
  have h5 : o.Keeps d5 := h3.event.setCtxState
  clear_value x6
  split
  · exact h5.coreIdle
  · exact h5

theorem Dev.KeepsBy.dropCtxSets {c} (h : o.Keeps d) : o.Keeps (d.dropCtxSets c) := by
  unfold Dev.dropCtxSets
  extract_lets d1
  have h1 : o.Keeps d1 := h.dropSets.dropSets
  exact h1.modSw.entriesUsed

theorem Dev.KeepsBy.ctxFree {c} (h : o.Keeps d) : o.Keeps (d.ctxFree c) := by
  unfold Dev.ctxFree
  extract_lets _ d1 _ d3 _ d4 d5
  have h1 : o.Keeps d1 := .foldl h.event.dropCtxSets (fun _ _ k2 => k2.moveCancel.setOb.modChan)
  have h3 : o.Keeps d3 := h1.clearMem
  have h4 : o.Keeps d4 := h3.withDictCtxs
  have h5 : o.Keeps d5 := h4.setCtxState.setOb.setOb
  exact h5.zero.coreIdle

theorem Dev.KeepsBy.ctxUnbind {c} (h : o.Keeps d) : o.Keeps (d.ctxUnbind c).1 := by
  unfold Dev.ctxUnbind
  exact .iteFst (.answer h.ctxFree) h

theorem Dev.KeepsBy.ctxRestartCmd {c} (h : o.Keeps d) : o.Keeps (d.ctxRestartCmd c).1 := by
  unfold Dev.ctxRestartCmd
  exact .iteFst (.answer h.ctxRestart) h

theorem Dev.KeepsBy.ctxCmd {c v r} (h : o.Keeps d) : o.Keeps (d.ctxCmd c v r).1 := by
  unfold Dev.ctxCmd
  split
  · exact h.ctxBind
  · split
    have h1 := h.ctxStart.ofFst ‹_›
    exact h1
  · split
    have h2 := h.ctxStop.ofFst ‹_›
    exact h2
  · split
    have h3 := h.ctxUnbind.ofFst ‹_›
    exact h3
  · split
    have h4 := h.ctxRestartCmd.ofFst ‹_›
    exact h4

theorem Dev.KeepsBy.migGo {c t num} (h : o.Keeps d) : o.Keeps (d.migGo c t num).1 := by
  unfold Dev.migGo
  extract_lets _
  exact .iteFst (.answer h.release) (.answer ((Dev.KeepsBy.migArm (.ite h.coreForPers h)).release))

theorem Dev.KeepsBy.ctxMigrate {c t r} (h : o.Keeps d) : o.Keeps (d.ctxMigrate c t r).1 := by
  unfold Dev.ctxMigrate
  refine .iteFst h ?_
  refine .iteFst ?_ ?_
  · split
    have h1 := h.migGo.ofFst ‹_›
    exact h1
  · split
    · have h2 := h.ask.ofFst ‹_›
      split
      have h3 := h2.migGo.ofFst ‹_›
      exact h3
    · have h4 := h.ask.ofFst ‹_›
      exact h4
    · have h5 := h.ask.ofFst ‹_›
      exact h5
    · have h6 := h.ask.ofFst ‹_›
      exact h6

theorem Dev.KeepsBy.swapPlace {chans placed p prog} (h : o.Keeps d) : o.KeepsOpt Prod.fst (d.swapPlace chans placed p prog) := by
  unfold Dev.swapPlace
  extract_lets _ _ _ _ _ _ _
  refine .ite (.some (.answer h.putProg)) ?_
  split
  · exact .some h
  · exact .mapPlain (fun _ => .answer h.putProg)

theorem Dev.KeepsBy.swapProgs {l j} (h : o.Keeps d) : o.KeepsOpt id (d.swapProgs l j) := by
  unfold Dev.swapProgs
  extract_lets _ _
  refine .foldl (.just h) (fun _ _ k1 => ?_)
  refine .foldl k1 (fun _ _ k2 => ?_)
  refine .bind k2 (fun _ k3 => ?_)
  extract_lets _ _ _
  exact .ite (.just k3) (.mapDev k3.swapPlace (fun _ k4 => k4.modCtx))

theorem Dev.KeepsBy.bankGranted {c num now mask} (h : o.Keeps d) : o.Keeps (d.bankGranted c num now mask) := by
  unfold Dev.bankGranted
  exact h.modCore.swapStat

theorem Dev.KeepsBy.swapLoad {c v num} (h : o.Keeps d) : o.Keeps (d.swapLoad c v num).1 := by
  unfold Dev.swapLoad
  extract_lets _ _ _ _ d1
  have h1 : o.KeepsOpt id d1 := .foldl (.just h) (fun _ _ k2 => .bind k2 (fun _ k3 => k3.resolveSets))
  refine .iteFst (.answer h.release) ?_
  split
  · exact .answer h.release
  · have h4 := Dev.KeepsOpt.ofSome (.bind (.ite (.none) h1) (fun _ k5 => k5.swapProgs)) ‹_›
    extract_lets d6 _
    have h6 : o.Keeps d6 := h4.event.loadBank.each (fun _ _ k7 => k7.modCtx)
    exact .answer h6.bankGranted

theorem Dev.KeepsBy.ctxPersSwap {c v r} (h : o.Keeps d) : o.Keeps (d.ctxPersSwap c v r).1 := by
  unfold Dev.ctxPersSwap
  refine .iteFst h ?_
  refine .iteFst h ?_
  refine .iteFst h ?_
  split
  · have h1 := h.ask.ofFst ‹_›
    split
    have h2 := h1.swapLoad.ofFst ‹_›
    exact h2
  · have h3 := h.ask.ofFst ‹_›
    exact h3
  · have h4 := h.ask.ofFst ‹_›
    exact h4
  · have h5 := h.ask.ofFst ‹_›
    exact h5

theorem Dev.KeepsBy.deleteBundle {j v} (h : o.Keeps d) : o.Keeps (d.deleteBundle j v).1 := by
  unfold Dev.deleteBundle
  exact .iteFst h (.iteFst h (.answer h.withBundles.event.zero.setOb))

theorem Dev.KeepsBy.meterWrite {r key v judged} (h : o.Keeps d) : o.Keeps (d.meterWrite r key v judged).1 := by
  unfold Dev.meterWrite
  extract_lets _ d1
  have h1 : o.Keeps d1.1 := h.putJudged
  exact .iteFst h.modSw.putJudged h1

theorem Dev.KeepsBy.ringWrite {key v} (h : o.Keeps d) : o.Keeps (d.ringWrite key v).1 := by
  unfold Dev.ringWrite
  extract_lets _ _ _ _ _
  split
  exact .iteFst (.iteFst h (.iteFst h h.put)) (.iteFst (.iteFst h h.put) (.iteFst h (.iteFst h (.iteFst h (.answer h.event.setOb.setOb)))))

theorem Dev.KeepsBy.regionWrite {reg key v judged} (h : o.Keeps d) : o.Keeps (d.regionWrite reg key v judged).1 := by
  unfold Dev.regionWrite
  extract_lets _ d1 _ _ _ _
  have h1 : o.Keeps d1 := h.event.setOb
  exact .iteFst h (.iteFst h1 (.iteFst h h1))

theorem Dev.KeepsBy.contestClear {reg} (h : o.Keeps d) : o.Keeps (d.contestClear reg).1 := by
  unfold Dev.contestClear
  exact .answer h.event.modCellar

theorem Dev.KeepsBy.txTook {r} (h : o.Keeps d) : o.Keeps (d.txTook r) := by
  unfold Dev.txTook
  split
  · exact h
  · extract_lets d1
    have h1 : o.Keeps d1 := by
      unfold d1
      split
      · exact h.journal
      · exact h
    exact h1.modDict

theorem Dev.KeepsBy.clearRegion {r} (h : o.Keeps d) : o.Keeps (d.clearRegion r) := by
  unfold Dev.clearRegion
  extract_lets _ _ _ d1 d2
  have h1 : o.Keeps d1 := h.event.clearMem
  have h2 : o.Keeps d2 := h1.setOb
  exact h2.setOb

theorem Dev.KeepsBy.regClearGo {reg r} (h : o.Keeps d) : o.Keeps (d.regClearGo reg r) := by
  unfold Dev.regClearGo
  exact h.clearRegion.modCellar.txTook

theorem Dev.KeepsBy.regClearWrite {reg r} (h : o.Keeps d) : o.Keeps (d.regClearWrite reg r).1 := by
  unfold Dev.regClearWrite
  extract_lets _ _ _ _
  refine .iteFst h ?_
  split
  · have h1 := h.ask.ofFst ‹_›
    exact .answer h1.regClearGo
  · have h2 := h.ask.ofFst ‹_›
    exact h2
  · have h3 := h.ask.ofFst ‹_›
    exact h3
  · have h4 := h.ask.ofFst ‹_›
    exact h4

theorem Dev.KeepsBy.cellarClear (h : o.Keeps d) : o.Keeps d.cellarClear.1 := by
  unfold Dev.cellarClear
  exact .answer h.event.zero

theorem Dev.KeepsBy.tbDict {n f} (h : o.Keeps d) (hf : ∀ d, o.Keeps d → o.Keeps (f d).1) : o.Keeps (d.tbDict n f).1 := by
  unfold Dev.tbDict
  exact .iteFst h (.iteFst h (hf _ h))

theorem Dev.KeepsBy.noteBases (h : o.Keeps d) : o.Keeps d.noteBases := by
  unfold Dev.noteBases
  extract_lets _ _
  exact h.withTime

theorem Dev.KeepsBy.modTb {n f} (h : o.Keeps d) : o.Keeps (d.modTb n f) := by
  unfold Dev.modTb
  exact h.withTime.noteBases

theorem Dev.KeepsBy.tbIncr {n v} (h : o.Keeps d) : o.Keeps (d.tbIncr n v).1 := by
  unfold Dev.tbIncr
  exact .iteFst (.answer h.event.modTb) h

theorem Dev.KeepsBy.startSlew {n ofs} (h : o.Keeps d) : o.Keeps (d.startSlew n ofs) := by
  unfold Dev.startSlew
  extract_lets _ _
  exact h.event.modTb

theorem Dev.KeepsBy.tbOffset {n ofs} (h : o.Keeps d) : o.Keeps (d.tbOffset n ofs).1 := by
  unfold Dev.tbOffset
  exact .iteFst (.answer h.startSlew) h

theorem Dev.KeepsBy.tbPut {key v} (h : o.Keeps d) : o.Keeps (d.tbPut key v).1 := by
  unfold Dev.tbPut
  split
  have h1 := h.putIf.ofFst ‹_›
  exact .answer h1.noteBases

theorem Dev.KeepsBy.pubFollow (h : o.Keeps d) : o.Keeps d.pubFollow := h.withTime

theorem Dev.KeepsBy.stepTb {n ns} (h : o.Keeps d) : o.Keeps (d.stepTb n ns) := by
  unfold Dev.stepTb
  exact h.event.modTb.pubFollow.logE

theorem Dev.KeepsBy.tbSet {n ns} (h : o.Keeps d) : o.Keeps (d.tbSet n ns).1 := by
  unfold Dev.tbSet
  exact .iteFst h (.answer h.stepTb)

theorem Dev.KeepsBy.tbState {n st code} (h : o.Keeps d) : o.Keeps (d.tbState n st code) := by
  unfold Dev.tbState
  exact h.modTb.logE.raise

theorem Dev.KeepsBy.tbToReserve {n} (h : o.Keeps d) : o.Keeps (d.tbToReserve n) := by
  unfold Dev.tbToReserve
  exact h.bump.tbState

theorem Dev.KeepsBy.watchReserves {was} (h : o.Keeps d) : o.Keeps (d.watchReserves was) := by
  unfold Dev.watchReserves
  refine h.each (fun _ _ k1 => ?_)
  extract_lets _
  exact .ite k1.tbToReserve k1

theorem Dev.KeepsBy.tbReserve {n v} (h : o.Keeps d) : o.Keeps (d.tbReserve n v).1 := by
  unfold Dev.tbReserve
  exact .iteFst h (.iteFst h (.iteFst h (.iteFst h (.answer h.event.setOb.noteBases.watchReserves))))

theorem Dev.KeepsBy.syncLoss {n} (h : o.Keeps d) : o.Keeps (d.syncLoss n) := by
  unfold Dev.syncLoss
  extract_lets d1 d2
  have h1 : o.Keeps d1 := h.modTb
  have h2 : o.Keeps d2 := h1.logE.bump.raise
  split
  · exact .ite h2.tbToReserve h2.logE
  · exact .ite h2.tbToReserve h2
  · exact h2

theorem Dev.KeepsBy.setSynced {n v} (h : o.Keeps d) : o.Keeps (d.setSynced n v) := by
  unfold Dev.setSynced
  exact .ite h.event.modTb.watchReserves (.ite h.event.syncLoss h.event)

theorem Dev.KeepsBy.tbToOwn {n} (h : o.Keeps d) : o.Keeps (d.tbToOwn n) := by
  unfold Dev.tbToOwn
  exact h.tbState

theorem Dev.KeepsBy.tbSwitch {n v} (h : o.Keeps d) : o.Keeps (d.tbSwitch n v).1 := by
  unfold Dev.tbSwitch
  exact .iteFst h (.iteFst (.iteFst h (.iteFst (.answer h.event.tbToReserve) h)) (.iteFst (.iteFst (.answer h.event.tbToOwn) h) h))

theorem Dev.KeepsBy.discPut {which v} (h : o.Keeps d) : o.Keeps (d.discPut which v) := by
  unfold Dev.discPut
  split
  · exact h.setOb.setOb
  · exact h.setOb
  · exact h.setOb
  · exact h.setOb

theorem Dev.KeepsBy.discWrite {which v judged} (h : o.Keeps d) : o.Keeps (d.discWrite which v judged).1 := by
  unfold Dev.discWrite
  split
  · exact h
  · exact h
  · extract_lets d1
    have h1 : o.Keeps d1 := h.event.discPut
    split
    · exact .iteFst h h1
    · exact h1

theorem Dev.KeepsBy.ppsEnable {i v} (h : o.Keeps d) : o.Keeps (d.ppsEnable i v) := by
  unfold Dev.ppsEnable
  extract_lets _ d1 _
  have h1 : o.Keeps d1 := h.event.setOb
  exact .ite h1.withTime.emit h1

theorem Dev.KeepsBy.ppsOutWrite {i key v judged} (h : o.Keeps d) : o.Keeps (d.ppsOutWrite i key v judged).1 := by
  unfold Dev.ppsOutWrite
  extract_lets d1 _ _
  have h1 : o.Keeps d1 := h.event.setOb
  exact .iteFst h (.iteFst h h1)

theorem Dev.KeepsBy.segWrite {s key v judged} (h : o.Keeps d) : o.Keeps (d.segWrite s key v judged).1 := by
  unfold Dev.segWrite
  extract_lets d1
  have h1 : o.Keeps d1 := h.event.setOb
  exact .iteFst h (.iteFst h h1)

theorem Dev.KeepsBy.winPermit {ew tag r} (h : o.Keeps d) : o.Keeps (d.winPermit ew tag r).1 := by
  unfold Dev.winPermit
  exact h.ask

theorem Dev.KeepsBy.addSegSets {s p img} (h : o.Keeps d) : o.KeepsOpt id (d.addSegSets s p img) := by
  unfold Dev.addSegSets
  extract_lets _ _ _
  refine .bind h.addLists (fun _ k1 => ?_)
  split
  refine .bind k1.addTpls (fun _ k3 => ?_)
  split
  extract_lets _
  refine .bindPlain (fun _ => ?_)
  extract_lets d5
  have h5 : o.Keeps d5 := k3.modSw.entriesUsed
  exact .just h5.modSeg

theorem Dev.KeepsBy.segChannel {s p w} (h : o.Keeps d) : o.Keeps (d.segChannel s p w) := by
  unfold Dev.segChannel
  extract_lets _
  exact .foldl h.setWin.modChan (fun _ _ k1 => k1.setOb)

theorem Dev.KeepsBy.segBegin {s} (h : o.Keeps d) : o.Keeps (d.segBegin s).1 := by
  unfold Dev.segBegin
  split
  · exact h
  · split
    · exact h
    · have h1 := h.addSegSets.ofSome ‹_›
      extract_lets d2 d3 d4
      have h2 : o.Keeps d2 := h1.event.segChannel.modSeg
      have h3 : o.Keeps d3 := h2.listenFrom
      have h4 : o.Keeps d4 := .foldl h3 (fun _ _ k5 => k5.setOb)
      exact .answer h4.segTo.logE

theorem Dev.KeepsBy.segGo {s num} (h : o.Keeps d) : o.Keeps (d.segGo s num).1 := by
  unfold Dev.segGo
  extract_lets _
  refine .iteFst (.answer h.release) ?_
  split
  · exact .answer h.release
  · split
    · have h1 := h.segBegin.ofFst ‹_›
      extract_lets _ _
      exact .answer h1.putProg.release
    · have h2 := h.segBegin.ofFst ‹_›
      exact .answer h2.release

theorem Dev.KeepsBy.segCmdStart {s r} (h : o.Keeps d) : o.Keeps (d.segCmdStart s r).1 := by
  unfold Dev.segCmdStart
  extract_lets _
  refine .iteFst h ?_
  split
  · exact h
  · split
    · have h1 := h.winPermit.ofFst ‹_›
      split
      have h2 := h1.segGo.ofFst ‹_›
      exact h2
    · have h3 := h.winPermit.ofFst ‹_›
      exact h3
    · have h4 := h.winPermit.ofFst ‹_›
      exact h4
    · have h5 := h.winPermit.ofFst ‹_›
      exact h5

theorem Dev.KeepsBy.dropSegSets {s} (h : o.Keeps d) : o.Keeps (d.dropSegSets s) := by
  unfold Dev.dropSegSets
  exact h.dropSets.modSw.entriesUsed.modSeg

theorem Dev.KeepsBy.setDom {key v} (h : o.Keeps d) : o.Keeps (d.setDom key v) := h.withBlob

theorem Dev.KeepsBy.segStop {s} (h : o.Keeps d) : o.Keeps (d.segStop s) := by
  unfold Dev.segStop
  refine .ite h ?_
  extract_lets _ _ _ _ d1 d2 d3
  have h1 : o.Keeps d1 := h.dropSegSets.modSw
  have h2 : o.Keeps d2 := by
    unfold d2
    split
    · exact h1.setDom
    · exact h1
  have h3 : o.Keeps d3 := h2.modSeg
  exact h3.segTo

theorem Dev.KeepsBy.segClear {s} (h : o.Keeps d) : o.Keeps (d.segClear s).1 := by
  unfold Dev.segClear
  split
  have h1 := h.clearEls.ofFst ‹_›
  exact .answer h1.modSeg

theorem Dev.KeepsBy.axParamWrite {a el v judged} (h : o.Keeps d) : o.Keeps (d.axParamWrite a el v judged).1 := by
  unfold Dev.axParamWrite
  extract_lets _ _ _ d1
  have h1 : o.Keeps d1 := h.event.setOb
  exact .iteFst h (.iteFst (.answer h1.buildAxis) (.iteFst (.answer (.ite h1.logSec h1)) (.iteFst (.answer h1.modAxis.syncAxis) (.answer h1.writeRec))))

theorem Dev.KeepsBy.masterWrite {m key v judged} (h : o.Keeps d) : o.Keeps (d.masterWrite m key v judged).1 := by
  unfold Dev.masterWrite
  refine .iteFst h ?_
  split
  have h1 := h.putIf.ofFst ‹_›
  exact .answer (h1.iff (fun _ k2 => k2.modMotion))

theorem Dev.KeepsBy.homeInputWrite {key v} (h : o.Keeps d) : o.Keeps (d.homeInputWrite key v).1 := by
  unfold Dev.homeInputWrite
  exact h.putIf

theorem Dev.KeepsBy.mVelWrite {m v} (h : o.Keeps d) : o.Keeps (d.mVelWrite m v) := by
  unfold Dev.mVelWrite
  extract_lets _ _ d1
  have h1 : o.Keeps d1 := h.event.setOb
  exact h1.modMotion

theorem Dev.KeepsBy.groupEnable {g} (h : o.Keeps d) : o.Keeps (d.groupEnable g) := by
  unfold Dev.groupEnable
  exact h.setOb.groupStart

theorem Dev.KeepsBy.groupEnWrite {g v} (h : o.Keeps d) : o.Keeps (d.groupEnWrite g v).1 := by
  unfold Dev.groupEnWrite
  extract_lets _
  exact .iteFst (.answer h.event) (.iteFst (.iteFst h.put h) (.iteFst h (.answer h.event.groupEnable)))

theorem Dev.KeepsBy.groupWrite {g key v judged} (h : o.Keeps d) : o.Keeps (d.groupWrite g key v judged).1 := by
  unfold Dev.groupWrite
  extract_lets d1
  have h1 : o.Keeps d1 := h.event.setOb
  exact .iteFst h (.iteFst h h1)

theorem Dev.KeepsBy.setRoute {s v} (h : o.Keeps d) : o.Keeps (d.setRoute s v) := by
  unfold Dev.setRoute
  extract_lets _ _ d1
  have h1 : o.Keeps d1 := h.setOb
  exact .ite h h1.postLine.postLine

theorem Dev.KeepsBy.gcRouteWrite {s v} (h : o.Keeps d) : o.Keeps (d.gcRouteWrite s v).1 := by
  unfold Dev.gcRouteWrite
  extract_lets _
  exact .iteFst h (.iteFst h (.answer h.event.setRoute))

theorem Dev.KeepsBy.gcEnWrite {w v} (h : o.Keeps d) : o.Keeps (d.gcEnWrite w v) := by
  unfold Dev.gcEnWrite
  extract_lets _ _ _ d1 d2
  have h1 : o.Keeps d1 := h.modGather
  have h2 : o.Keeps d2 := h1.each (fun _ _ k3 => .ite k3.deliver k3)
  exact h2.each (fun _ _ k4 => k4.postLine)

theorem Dev.KeepsBy.gcEnableWrite {s v} (h : o.Keeps d) : o.Keeps (d.gcEnableWrite s v).1 := by
  unfold Dev.gcEnableWrite
  extract_lets _
  exact .iteFst h (.answer h.event.gcEnWrite)

theorem Dev.KeepsBy.alertClear {v} (h : o.Keeps d) : o.Keeps (d.alertClear v) := by
  unfold Dev.alertClear
  exact h.setOb

theorem Dev.KeepsBy.clearFail {v} (h : o.Keeps d) : o.Keeps (d.clearFail v) := by
  unfold Dev.clearFail
  exact h.setOb

theorem Dev.KeepsBy.roleMoveTo {r k} (h : o.Keeps d) : o.Keeps (d.roleMoveTo r k) := by
  unfold Dev.roleMoveTo
  exact h.event.setOb.roleTaken

theorem Dev.KeepsBy.roleWrite {role v} (h : o.Keeps d) : o.Keeps (d.roleWrite role v).1 := by
  unfold Dev.roleWrite
  exact .iteFst h (.iteFst h (.iteFst h (.answer h.roleMoveTo.tookEffect)))

theorem Dev.KeepsBy.fwPermit {waitMs tag} (h : o.Keeps d) : o.Keeps (d.fwPermit waitMs tag).1 := by
  unfold Dev.fwPermit
  refine .iteFst h ?_
  split
  · have h1 := h.ask.ofFst ‹_›
    exact h1
  · have h2 := h.ask.ofFst ‹_›
    exact h2
  · have h3 := h.ask.ofFst ‹_›
    exact h3
  · have h4 := h.ask.ofFst ‹_›
    exact h4

theorem Dev.KeepsBy.eraseStart (h : o.Keeps d) : o.Keeps d.eraseStart := by
  unfold Dev.eraseStart
  extract_lets _ d1
  have h1 : o.Keeps d1 := h.withStore
  exact h1.event.setOb.zero.tookEffect

theorem Dev.KeepsBy.fwPrepare {v r} (h : o.Keeps d) : o.Keeps (d.fwPrepare v r).1 := by
  unfold Dev.fwPrepare
  extract_lets _
  refine .iteFst h ?_
  refine .iteFst h ?_
  split
  · have h1 := h.fwPermit.ofFst ‹_›
    exact .answer h1.eraseStart
  · exact h.fwPermit

theorem Dev.KeepsBy.showCopy {b} (h : o.Keeps d) : o.Keeps (d.showCopy b) := by
  unfold Dev.showCopy
  extract_lets _
  exact h.setOb.setOb

theorem Dev.KeepsBy.raiseGen {b} (h : o.Keeps d) : o.Keeps (d.raiseGen b) := by
  unfold Dev.raiseGen
  extract_lets _
  exact h.withStore.showCopy.releaseAll

theorem Dev.KeepsBy.actRestart (h : o.Keeps d) : o.Keeps d.actRestart := by
  unfold Dev.actRestart
  split
  have h1 := h.raiseGen.event.tookEffect.fresh.ofSnd ‹_›
  exact h1.todo

theorem Dev.KeepsBy.bankFlip {c} (h : o.Keeps d) : o.Keeps (d.bankFlip c) := by
  unfold Dev.bankFlip
  extract_lets _ _ d1 _ d2
  have h1 : o.Keeps d1 := h.event.setOb.setOb.setOb
  have h2 : o.Keeps d2 := h1.modCore.release
  exact h2.logE.bump

theorem Dev.KeepsBy.keeperFlip {k} (h : o.Keeps d) : o.Keeps (d.keeperFlip k) := by
  unfold Dev.keeperFlip
  exact h.bankFlip.modCore.setCoreState

theorem Dev.KeepsBy.actSwap {k num} (h : o.Keeps d) : o.Keeps (d.actSwap k num) := by
  unfold Dev.actSwap
  split
  · exact h.release
  · refine .ite h.release ?_
    extract_lets _ d1
    have h1 : o.Keeps d1 := h.loadBank.modCore
    exact h1.keeperFlip.modMm

theorem Dev.KeepsBy.actKeeper {a k} (h : o.Keeps d) : o.Keeps (d.actKeeper a k) := by
  unfold Dev.actKeeper
  extract_lets d1 d2
  have h1 : o.Keeps d1 := h.modMm
  have h2 : o.Keeps d2 := by
    unfold d2
    split
    · exact h1.each (fun _ _ k3 => k3.roleMoveTo)
    · exact h1
  split
  · have h4 := h2.ask.ofFst ‹_›
    exact h4.actSwap
  · have h5 := h2.ask.ofFst ‹_›
    exact h5

theorem Dev.KeepsBy.fwActivate {v r} (h : o.Keeps d) : o.Keeps (d.fwActivate v r).1 := by
  unfold Dev.fwActivate
  extract_lets _ d1
  have h1 : o.Keeps d1 := h.event.setOb.tookEffect
  refine .iteFst h ?_
  refine .iteFst h ?_
  refine .iteFst h ?_
  refine .iteFst ?_ (.iteFst h (.answer h1.actKeeper))
  split
  · have h2 := h.fwPermit.ofFst ‹_›
    exact .answer h2.actRestart
  · exact h.fwPermit

theorem Dev.KeepsBy.effect {r key v src judged} (h : o.Keeps d) : o.Keeps (d.effect r key v src judged).1 := by
  unfold Dev.effect
  extract_lets _ _ _
  split
  · exact .iteFst h.ctxTiming.atOnce h.putJudged.atOnce
  · exact h.modeWrite_
  · exact .iteFst h.limpMembers.did h
  · exact .iteFst h.limpMembers.did h
  · exact h.budgetWrite.atOnce
  · exact h.event.setOb.did
  · exact h.event.setOb.did
  · exact h.revokeKey.atOnce
  · exact h.jtagLock.atOnce
  · exact h.event.zero.did
  · exact h.modeWrite
  · exact h.adminWrite
  · exact .iteFst h h.optionWrite.atOnce
  · exact h.recalWrite.atOnce
  · exact h.clearEls.atOnce
  · exact h.roleMoveWrite
  · exact h.tileCmd
  · exact h.tileUse.atOnce
  · exact h.put.atOnce
  · exact h.putJudged.atOnce
  · exact h.tdrWrite
  · exact h.flutterWrite.did
  · exact h.stuckWrite.did
  · exact h.edgeClear.atOnce
  · exact h.event.setOb.did
  · exact h.put.atOnce
  · exact h.put.atOnce
  · exact h.clearEls.atOnce
  · exact h.event.upMode.did
  · exact h.put.atOnce
  · exact h.gclArm.atOnce
  · exact h.clearEls.atOnce
  · exact h.busSetting.atOnce
  · exact h.busSetting.atOnce
  · exact h.txqWrite.atOnce
  · exact h.recoverWrite.atOnce
  · exact h.clearEls.atOnce
  · exact h.event.engStart.did
  · exact h.event.engBitsync.did
  · exact h.armWrite.atOnce
  · exact h.winSwapWrite.atOnce
  · exact (h.unlessSeg h.chFixed).atOnce
  · exact (h.unlessSeg h.chFixed).atOnce
  · refine .atOnce ?_
    refine h.unlessSeg ?_
    split
    · have h1 := h.fmtKeep.putJudged.ofFst ‹_›
      exact h1
    · have h2 := h.fmtKeep.putJudged.ofFst ‹_›
      exact h
  · exact (h.unlessSeg h.putJudged).atOnce
  · exact (h.unlessSeg h.chFlagsClear).atOnce
  · exact (h.unlessSeg (.answer h.event.chCmd)).atOnce
  · exact (h.unlessSeg h.clearEls).atOnce
  · exact h.coreCmd.atOnce
  · exact .iteFst h h.ctxFixed.atOnce
  · exact h.ctxTiming.atOnce
  · exact h.ctxTiming.atOnce
  · exact h.ctxCmd
  · exact h.ctxMigrate
  · exact h.ctxPersSwap
  · exact h.clearEls.atOnce
  · exact h.deleteBundle.atOnce
  · exact h.meterWrite.atOnce
  · exact h.clearEls.atOnce
  · exact h.event.setOb.did
  · exact h.clearEls.atOnce
  · exact h.event.setOb.did
  · exact h.putJudged.atOnce
  · exact h.putJudged.atOnce
  · exact h.ringWrite.atOnce
  · exact h.ringWrite.atOnce
  · exact h.regionWrite.atOnce
  · exact h.put.atOnce
  · exact h.contestClear.atOnce
  · exact h.regClearWrite
  · exact h.clearEls.atOnce
  · exact h.cellarClear.atOnce
  · exact (h.tbDict (fun _ k3 => k3.tbIncr)).atOnce
  · exact (h.tbDict (fun _ k4 => k4.tbOffset)).atOnce
  · exact h.tbPut.atOnce
  · exact (h.tbDict (fun _ k5 => k5.tbSet)).atOnce
  · exact h.tbReserve.atOnce
  · exact (h.tbDict (fun _ k6 => .answer k6.setSynced)).atOnce
  · exact h.tbSwitch.atOnce
  · exact Dev.KeepsBy.atOnce (.diteFst (fun _ => h.discWrite) (fun _ => h))
  · exact Dev.KeepsBy.atOnce (.iteFst h h.clearEls)
  · exact Dev.KeepsBy.atOnce (.diteFst (fun _ => h.discWrite) (fun _ => h))
  · exact h.ppsEnable.did
  · exact h.ppsOutWrite.atOnce
  · exact h.discWrite.atOnce
  · exact h.segWrite.atOnce
  · exact .iteFst h.segCmdStart h.event.segStop.did
  · exact h.segClear.atOnce
  · exact h.axParamWrite.atOnce
  · exact h.axParamWrite.atOnce
  · exact h.clearEls.atOnce
  · exact h.masterWrite.atOnce
  · exact h.homeInputWrite.atOnce
  · exact h.putIf.atOnce
  · exact h.put.atOnce
  · exact h.mVelWrite.did
  · exact h.groupEnWrite.atOnce
  · exact h.groupWrite.atOnce
  · exact (h.hostLevels (fun _ k7 => k7.event.setOb)).did
  · exact h.ring.did
  · exact h.gcRouteWrite.atOnce
  · exact h.gcEnableWrite.atOnce
  · exact h.event.tookEffect.todo.did
  · exact h.event.alertClear.did
  · exact h.event.clearFail.did
  · exact h.roleWrite.atOnce
  · split
    · exact h.fwPrepare
    · exact h
  · split
    · exact h.fwActivate
    · exact h
  · exact h
  · exact h
  · exact h
  · exact h
  · exact h
  · exact h
  · exact h
  · exact h
  · exact h
  · exact h
  · exact h
  · exact h

theorem Dev.KeepsBy.answered {x} (h : o.Keeps x.1) : o.Keeps (Machine.answered x).1 := by
  unfold Machine.answered
  exact h

theorem Dev.KeepsBy.atticWritten {key} (h : o.Keeps d) : o.Keeps (d.atticWritten key) := by
  unfold Dev.atticWritten
  exact .ite h.withPoison h

theorem Dev.KeepsBy.opWrite {r key w} (h : o.Keeps d) : o.Keeps (d.opWrite r key w).1 := by
  unfold Dev.opWrite
  refine .iteFst h ?_
  split
  · extract_lets d1
    have h1 : o.Keeps d1.1 := h.effect
    exact Dev.KeepsBy.answered (.answer (.ite h1.atticWritten h1))
  · exact h

theorem Dev.KeepsBy.atSameNumber {f} (h : o.Keeps d) (hf : ∀ d, o.Keeps d → o.Keeps (f d).1) : o.Keeps (d.atSameNumber f).1 := by
  unfold Dev.atSameNumber
  extract_lets prev
  have h1 : o.Keeps (f { d with seq := prev }).1 := hf _ h.withSeq
  split
  have h2 := h1.ofFst ‹_›
  exact .answer (.ite h2.withSeq h2)

theorem Dev.KeepsBy.multiApply {r l i} (h : o.Keeps d) : o.Keeps (d.multiApply r l i).1 := by
  induction l generalizing d i with
  | nil => exact h
  | cons a l ih =>
    obtain ⟨k, x, v, n⟩ := a
    unfold Dev.multiApply
    extract_lets go
    have hgo : ∀ d, o.Keeps d → o.Keeps (go d).1 := fun _ k => k.effect
    have h1 : o.Keeps (if i = 0 then go d else d.atSameNumber go).1 := .iteFst (hgo _ h) (h.atSameNumber hgo)
    revert h1
    generalize (if i = 0 then go d else d.atSameNumber go) = p
    intro h1
    split
    · exact ih h1
    · exact h1
    · split
      · exact h1
      · exact ih h1

theorem Dev.KeepsBy.opWriteMulti {r w} (h : o.Keeps d) : o.Keeps (d.opWriteMulti r w).1 := by
  unfold Dev.opWriteMulti
  extract_lets _
  refine .iteFst h ?_
  split
  · exact h
  · split
    · have h1 := h.multiApply.ofFst ‹_›
      exact h
    · have h2 := h.multiApply.ofFst ‹_›
      extract_lets _
      exact .answer h.modTap
    · have h3 := h.multiApply.ofFst ‹_›
      split
      · exact h
      · exact h3

theorem Dev.KeepsBy.putEntry {n e} (h : o.Keeps d) : o.Keeps (d.putEntry n e) := by
  unfold Dev.putEntry
  exact h.stAll

theorem Dev.KeepsBy.contest {r} (h : o.Keeps d) : o.Keeps (d.contest r) := by
  unfold Dev.contest
  extract_lets d1
  have h1 : o.Keeps d1 := h.bump
  exact .ite h1 h1.modCellar.logE.raise

theorem Dev.KeepsBy.land {r w e} (h : o.Keeps d) : o.Keeps (d.land r w e) := by
  unfold Dev.land
  extract_lets d1 d2
  have h1 : o.Keeps d1 := h.putEntry
  have h2 : o.Keeps d2 := .ite h1.setOb h1
  exact .ite h2.setOb h2

theorem Dev.KeepsBy.applyWrite {r w} (h : o.Keeps d) : o.Keeps (d.applyWrite r w).1 := by
  unfold Dev.applyWrite
  extract_lets _ _ d1 _
  have h1 : o.Keeps d1 := h.contest
  exact .iteFst (.iteFst (.answer h.putEntry.setOb) h) (.iteFst (.answer h.bump) (.iteFst (.iteFst (.answer h1.putEntry.bump) (.answer h1.land)) (.answer h.land)))

theorem Dev.KeepsBy.opSig {r op sig w} (h : o.Keeps d) : o.Keeps (d.opSig r op sig w).1 := by
  unfold Dev.opSig
  refine .iteFst h ?_
  split
  · exact h
  · extract_lets _
    refine .iteFst h ?_
    refine .iteFst h ?_
    refine .iteFst h ?_
    refine .iteFst h ?_
    refine .iteFst h ?_
    split
    have h1 := h.event.applyWrite.ofFst ‹_›
    exact h1

theorem Dev.KeepsBy.freshPuts (h : o.Keeps d) : o.Keeps d.freshPuts := by
  unfold Dev.freshPuts
  exact h.modDict

theorem Dev.KeepsBy.dropPut {key} (h : o.Keeps d) : o.Keeps (d.dropPut key) := by
  unfold Dev.dropPut
  exact h.modDict

theorem Dev.KeepsBy.winLoad {e w img num} (h : o.Keeps d) : o.Keeps (d.winLoad e w img num).1 := by
  unfold Dev.winLoad
  exact .iteFst (.answer h.release) (.answer h.putProg.event.release)

theorem Dev.KeepsBy.winProg {e w img r} (h : o.Keeps d) : o.Keeps (d.winProg e w img r).1 := by
  unfold Dev.winProg
  refine .iteFst h ?_
  refine .iteFst h ?_
  refine .iteFst h ?_
  split
  · have h1 := h.winPermit.ofFst ‹_›
    split
    have h2 := h1.winLoad.ofFst ‹_›
    exact h2
  · have h3 := h.winPermit.ofFst ‹_›
    exact h3
  · have h4 := h.winPermit.ofFst ‹_›
    exact h4
  · have h5 := h.winPermit.ofFst ‹_›
    exact h5

theorem Dev.KeepsBy.installBundle {j img} (h : o.Keeps d) : o.Keeps (d.installBundle j img).1 := by
  unfold Dev.installBundle
  extract_lets _
  refine .iteFst h ?_
  refine .iteFst h ?_
  refine .iteFst h ?_
  refine .iteFst h ?_
  refine .iteFst h ?_
  split
  · exact h
  · extract_lets d1 d2 d3
    have h1 : o.Keeps d1 := h.event.stAll
    have h2 : o.Keeps d2 := h1.withBundles
    have h3 : o.Keeps d3 := h2.setOb.setOb.setOb
    exact .answer h3.setOb.logE

theorem Dev.KeepsBy.setDevLists {img} (h : o.Keeps d) : o.KeepsOpt id (d.setDevLists img) := by
  unfold Dev.setDevLists
  extract_lets _ _
  exact .mapDev h.event.addLists (fun _ k1 => k1.dropLists.setOb)

theorem Dev.KeepsBy.setDevTpls {img} (h : o.Keeps d) : o.KeepsOpt id (d.setDevTpls img) := by
  unfold Dev.setDevTpls
  extract_lets _ _
  exact .mapDev h.event.addTpls (fun _ k1 => k1.dropTpls.setOb)

theorem Dev.KeepsBy.installTable {key l} (h : o.Keeps d) : o.Keeps (d.installTable key l).1 := by
  unfold Dev.installTable
  extract_lets f1 _
  have hf1 : ∀ d, o.Keeps d → o.Keeps (f1 d) := fun _ k2 => k2.modSw
  refine .iteFst (.iteFst h (.iteFst h (.answer (hf1 _ h.event)))) ?_
  refine .iteFst ?_ ?_
  · refine .iteFst h ?_
    refine .iteFst h ?_
    split
    · exact h
    · exact .answer (hf1 _ h.event.modSw.entriesUsed)
  · refine .iteFst (.iteFst h (.iteFst h (.answer (hf1 _ h.event)))) ?_
    refine .iteFst ?_ ?_
    · refine .iteFst h ?_
      split
      · have h3 := h.setDevLists.ofSome ‹_›
        exact hf1 _ h3
      · exact h
    · refine .iteFst ?_ h
      refine .iteFst h ?_
      refine .iteFst h ?_
      split
      · have h4 := h.setDevTpls.ofSome ‹_›
        exact hf1 _ h4
      · exact h

theorem Dev.KeepsBy.slotMapWrite {s img} (h : o.Keeps d) : o.Keeps (d.slotMapWrite s img).1 := by
  unfold Dev.slotMapWrite
  exact .iteFst h (.iteFst (.answer h.event.setDom) (.iteFst (.answer h.event.modSeg) h))

theorem Dev.KeepsBy.faultAxis {a cause t} (h : o.Keeps d) : o.Keeps (d.faultAxis a cause t) := by
  unfold Dev.faultAxis
  extract_lets _ d1
  have h1 : o.Keeps d1 := h.dropSteps
  refine .ite h ?_
  split
  extract_lets d2
  have h2 : o.Keeps d2 := h1.modAxis
  exact h2.bump.logSec

end Sys2Proof.Machine
end

section
/-! SUPPORT. What every step keeps, function by function, in the order in which the model uses them (spec 01, R15, R16; spec 04, R105): each lemma
follows its function's branches, one Keeps lemma for each function that it calls. -/
set_option Elab.async false
namespace Sys2Proof.Machine
variable {o d : Dev}

theorem Dev.KeepsBy.lostRecord {a t} (h : o.Keeps d) : o.Keeps (d.lostRecord a t) := by
  unfold Dev.lostRecord
  extract_lets d1 _ _ d2
  have h1 : o.Keeps d1 := h.logSec
  have h2 : o.Keeps d2 := h1.modAxis
  exact .ite h1 h2.faultAxis

theorem Dev.KeepsBy.axCommand {a op w} (h : o.Keeps d) : o.Keeps (d.axCommand a op w).1 := by
  unfold Dev.axCommand
  refine .iteFst h ?_
  extract_lets _ d1
  have h1 : o.Keeps d1 := h.iff (fun _ k2 => k2.lostRecord.syncAxis)
  exact .iteFst h1 (.iteFst h1 (.iteFst h1 (.iteFst h1 (.answer h1.event.modAxis))))

theorem Dev.KeepsBy.domEffect {r key image src} (h : o.Keeps d) : o.Keeps (d.domEffect r key image src).1 := by
  unfold Dev.domEffect
  extract_lets _ _ _
  split
  · exact .iteFst h h.event.setDom.did
  · exact h.winProg
  · exact h.installBundle.atOnce
  · split
    · have h1 := h.installTable.ofFst ‹_›
      exact h1.setDom.did
    · exact h.installTable.atOnce
  · split
    · have h2 := h.installTable.ofFst ‹_›
      exact h2.setDom.did
    · exact h.installTable.atOnce
  · split
    · have h3 := h.installTable.ofFst ‹_›
      exact h3.setDom.did
    · exact h.installTable.atOnce
  · split
    · have h4 := h.installTable.ofFst ‹_›
      exact h4.setDom.did
    · exact h.installTable.atOnce
  · split
    · have h5 := h.installTable.ofFst ‹_›
      exact h5.setDom.did
    · exact h.installTable.atOnce
  · exact h.slotMapWrite.atOnce
  · exact .iteFst h h.event.setDom.did
  · exact .iteFst h h.axCommand.atOnce
  · exact .iteFst h h.event.setDom.did

theorem Dev.KeepsBy.setPut {key via data} (h : o.Keeps d) : o.Keeps (d.setPut key via data) := by
  unfold Dev.setPut
  exact h.dropPut.modDict

theorem Dev.KeepsBy.putWhole {r x key img} (h : o.Keeps d) : o.Keeps (d.putWhole r x key img).1 := by
  unfold Dev.putWhole
  refine .iteFst (.answer h.dropPut) ?_
  split
  · have h1 := h.domEffect.ofFst ‹_›
    exact .answer h1.dropPut
  · have h2 := h.domEffect.ofFst ‹_›
    exact h2
  · have h3 := h.domEffect.ofFst ‹_›
    exact .answer h3.setPut

theorem Dev.KeepsBy.chunkGo {final l} (h : o.Keeps d) : o.Keeps (d.chunkGo final l).1 := by
  unfold Dev.chunkGo
  extract_lets _ _ d1 d2 d3 d4 _ d5 d6
  have h1 : o.Keeps d1 := h.withStore
  have h2 : o.Keeps d2 := h1.event.setOb.tookEffect
  have h3 : o.Keeps d3 := h2.modDict
  have h4 : o.Keeps d4 := h3.withStore
  have h5 : o.Keeps d5 := h4.modDict.showCopy.releaseAll
  have h6 : o.Keeps d6 := h5.setOb
  exact .iteFst h3 (.answer (.ite h6.logE h6))

theorem Dev.KeepsBy.fwChunk {final l r} (h : o.Keeps d) : o.Keeps (d.fwChunk final l r).1 := by
  unfold Dev.fwChunk
  extract_lets _
  refine .iteFst h ?_
  split
  · have h1 := h.fwPermit.ofFst ‹_›
    split
    have h2 := h1.chunkGo.ofFst ‹_›
    exact h2
  · have h3 := h.fwPermit.ofFst ‹_›
    exact .answer h3.modDict
  · exact h.fwPermit

theorem Dev.KeepsBy.putChunk {r x key ofs final l} (h : o.Keeps d) : o.Keeps (d.putChunk r x key ofs final l).1 := by
  unfold Dev.putChunk
  extract_lets d1 _ _ _ d2
  have h1 : o.Keeps d1 := h.freshPuts
  have h2 : o.Keeps d2 := .ite h1.setPut h1
  refine .iteFst h1 ?_
  refine .iteFst h1 ?_
  refine .iteFst h1 ?_
  refine .iteFst (.answer h1.dropPut) ?_
  refine .iteFst ?_ (.iteFst h1.putWhole (.answer h1.setPut))
  split
  · have h3 := h2.fwChunk.ofFst ‹_›
    exact .iteFst h1 h3
  · have h4 := h2.fwChunk.ofFst ‹_›
    exact h4

theorem Dev.KeepsBy.opPut {r key ofs w} (h : o.Keeps d) : o.Keeps (d.opPut r key ofs w).1 := by
  unfold Dev.opPut
  refine .iteFst h ?_
  split
  · exact h
  · extract_lets _ _ f1
    have hf1 : ∀ x0, o.Keeps (f1 x0).1 := fun _ => h
    exact .iteFst (hf1 _) (.iteFst (hf1 _) (.iteFst (hf1 _) h.putChunk))

theorem Dev.KeepsBy.saveGo {num r} (h : o.Keeps d) : o.Keeps (d.saveGo num r) := by
  unfold Dev.saveGo
  refine .ite h.release.complete ?_
  extract_lets d1
  have h1 : o.Keeps d1 := h.event
  split
  extract_lets _
  exact h1.withStore.txTook

theorem Dev.KeepsBy.saveReq {r} (h : o.Keeps d) : o.Keeps (d.saveReq r).1 := by
  unfold Dev.saveReq
  refine .iteFst h ?_
  split
  · have h1 := h.ask.ofFst ‹_›
    exact .answer h1.saveGo
  · have h2 := h.ask.ofFst ‹_›
    exact h2
  · have h3 := h.ask.ofFst ‹_›
    exact h3
  · have h4 := h.ask.ofFst ‹_›
    exact h4

theorem Dev.KeepsBy.offReserve {key} (h : o.Keeps d) : o.Keeps (d.offReserve key) := by
  unfold Dev.offReserve
  exact .foldl h (fun _ _ k1 => k1.iff (fun _ k2 => k2.tbToOwn))

theorem Dev.KeepsBy.restoreOne {r key} (h : o.Keeps d) : o.Keeps (d.restoreOne r key) := by
  unfold Dev.restoreOne
  split
  · exact h
  · extract_lets _
    split
    have h1 := (h.offReserve.atSameNumber (fun _ k2 => k2.effect)).ofFst ‹_›
    extract_lets d3
    have h3 : o.Keeps d3 := .ite h1 h
    exact h3.withOd

theorem Dev.KeepsBy.opRestore {r} (h : o.Keeps d) : o.Keeps (d.opRestore r).1 := by
  unfold Dev.opRestore
  refine .iteFst h ?_
  refine .iteFst h ?_
  refine .iteFst h ?_
  extract_lets _ _ d1 d3
  have h1 : o.Keeps d1 := .foldl h.event (fun _ _ k2 => k2.restoreOne)
  have h3 : o.Keeps d3 := by
    refine .foldl h1 (fun _ _ k4 => ?_)
    extract_lets d5
    have h5 : o.Keeps d5 := k4.installTable
    exact h5.withBlob
  exact h3

theorem Dev.KeepsBy.opSubscribe {r key arg} (h : o.Keeps d) : o.Keeps (d.opSubscribe r key arg).1 := by
  unfold Dev.opSubscribe
  refine .iteFst h ?_
  split
  · exact h
  · refine .iteFst h ?_
    refine .iteFst h ?_
    extract_lets _ _ _ x1
    refine .iteFst (.answer h.modDict) ?_
    clear_value x1
    split
    · exact h
    · exact .answer h.modDict

theorem Dev.KeepsBy.perform {r op key arg w} (h : o.Keeps d) : o.Keeps (d.perform r op key arg w).1 := by
  unfold Dev.perform
  extract_lets f1
  have hf1 : ∀ d, o.Keeps d.1 → o.Keeps (f1 d).1 := fun _ k2 => k2
  split
  · exact h
  · exact h.opWrite
  · exact h
  · exact h.opWriteMulti
  · exact h
  · exact hf1 _ h.opSig
  · exact hf1 _ h.opSig
  · exact hf1 _ h.opSig
  · exact h.opPut
  · exact h
  · exact .iteFst h (.iteFst h h.saveReq.answered)
  · exact hf1 _ h.opRestore
  · exact hf1 _ h.opSubscribe
  · exact h

theorem Dev.KeepsBy.operate {r op key arg w} (h : o.Keeps d) : o.Keeps (d.operate r op key arg w).1 := by
  unfold Dev.operate
  extract_lets _ _
  exact .iteFst h (.iteFst h h.perform)

theorem Dev.KeepsBy.smbServe {r op key arg w} (h : o.Keeps d) : o.Keeps (d.smbServe r op key arg w) := by
  unfold Dev.smbServe
  extract_lets _
  exact .ite (h.carry (fun _ k1 => .answer k1.sumpHold)) (.ite h.deliverCompl (h.carry (fun _ k2 => k2.operate)))

theorem Dev.KeepsBy.keepTx {t} (h : o.Keeps d) : o.Keeps (d.keepTx t) := by
  unfold Dev.keepTx
  extract_lets d1
  have h1 : o.Keeps d1 := h.modDict
  exact h1.setOb

theorem Dev.KeepsBy.take {r op key args f} (h : o.Keeps d) (hf : ∀ d, o.Keeps d → o.Keeps (f d).1) : o.Keeps (d.take r op key args f) := by
  unfold Dev.take
  refine .ite h.bump.deliverCompl ?_
  extract_lets _ d1
  have h1 : o.Keeps d1 := h.withFree
  exact .ite h1.keepTx (h1.keepTx.carry (fun _ k2 => hf _ k2))

theorem Dev.KeepsBy.request {r op key arg w} (h : o.Keeps d) : o.Keeps (d.request r op key arg w) := by
  unfold Dev.request
  exact .ite h.smbServe (.ite h (h.take (fun _ k1 => k1.operate)))

theorem Dev.KeepsBy.requestWords {via w} (h : o.Keeps d) : o.Keeps (d.requestWords via w) := by
  unfold Dev.requestWords
  extract_lets _ _
  exact h.request

theorem Dev.KeepsBy.takeSlots {fuel} (h : o.Keeps d) : o.Keeps (d.takeSlots fuel) := by
  induction fuel generalizing d with
  | zero => exact h
  | succ fuel ih =>
    unfold Dev.takeSlots
    exact .ite h (ih h.st.requestWords)

theorem Dev.KeepsBy.serveRing (h : o.Keeps d) : o.Keeps d.serveRing := by
  unfold Dev.serveRing
  exact .ite h.modDict.takeSlots h

theorem Dev.KeepsBy.serveQuick (h : o.Keeps d) : o.Keeps d.serveQuick := by
  unfold Dev.serveQuick
  extract_lets _ d1
  have h1 : o.Keeps d1 := h.modDict
  exact .ite h h1.request

theorem Dev.KeepsBy.unblock {fuel} (h : o.Keeps d) : o.Keeps (d.unblock fuel) := by
  induction fuel generalizing d with
  | zero => exact h
  | succ fuel ih =>
    unfold Dev.unblock
    refine .ite h ?_
    split
    · exact h
    · exact ih (h.modDict.carry fun _ k => k.operate)

theorem Dev.KeepsBy.mbBody {dst m w v} (h : o.Keeps d) : o.Keeps (d.mbBody dst m w v) := by
  unfold Dev.mbBody
  extract_lets d1
  have h1 : o.Keeps d1 := h.st
  exact .ite h1.modEp h1

theorem Dev.KeepsBy.post {src dst m hdr} (h : o.Keeps d) : o.Keeps (d.post src dst m hdr) := by
  unfold Dev.post
  refine h.hostLevels (fun _ k1 => ?_)
  extract_lets _ d2 d3 d4
  have h2 : o.Keeps d2 := k1.mbBody.event
  have h3 : o.Keeps d3 := h2.modEp
  have h4 : o.Keeps d4 := h3.modEp
  exact .ite h4.bump h4

theorem Dev.KeepsBy.tapReply {ep op status num amount tag} (h : o.Keeps d) : o.Keeps (d.tapReply ep op status num amount tag) := by
  unfold Dev.tapReply
  refine .ite h ?_
  extract_lets _ d1
  have h1 : o.Keeps d1 := h.mbBody.mbBody.mbBody
  exact h1.post

theorem Dev.KeepsBy.ended {g} {x : Dev × Nat} (h : o.Keeps x.1) : o.Keeps (d.ended g x) := h.complete

theorem Dev.KeepsBy.calGranted {t num} (h : o.Keeps d) : o.Keeps (d.calGranted t num) := by
  unfold Dev.calGranted
  exact .ite (Dev.KeepsBy.ended (.answer h.event.modTile.calNext)) (Dev.KeepsBy.ended (.answer h.release))

theorem Dev.KeepsBy.windowGranted {ew num tag} (h : o.Keeps d) : o.Keeps (d.windowGranted ew num tag) := by
  unfold Dev.windowGranted
  refine .ite h.segGo.ended ?_
  split
  · split
    have h1 := h.winLoad.ofFst ‹_›
    exact h1.dropPut.complete
  · exact h.release

theorem Dev.KeepsBy.actEnd (h : o.Keeps d) : o.Keeps d.actEnd := by
  unfold Dev.actEnd
  split
  · exact h.releaseAll
  · extract_lets _ d1 d2 _ d3
    have h1 : o.Keeps d1 := h.raiseGen.modMm
    have h2 : o.Keeps d2 := h1.modSump
    have h3 : o.Keeps d3 := h2.withStore
    exact h3.setOb.setOb.event.setOb

theorem Dev.KeepsBy.flashGranted {tag} (h : o.Keeps d) : o.Keeps (d.flashGranted tag) := by
  unfold Dev.flashGranted
  split
  · exact Dev.KeepsBy.ended (.answer h.eraseStart)
  · split
    · exact h.chunkGo.ended
    · exact h.releaseAll
  · exact Dev.KeepsBy.ended (.answer h.actRestart)
  · exact h.actEnd
  · exact h

theorem Dev.KeepsBy.gearedGranted {num} (h : o.Keeps d) : o.Keeps (d.gearedGranted num) := by
  unfold Dev.gearedGranted
  split
  · exact h.release
  · split
    have h1 := h.modMm.changeTo.ofFst ‹_›
    exact Dev.KeepsBy.complete (.ite h1.modMm h1.requestUndone)

theorem Dev.KeepsBy.moveGranted {p num v} (h : o.Keeps d) : o.Keeps (d.moveGranted p num v) := by
  unfold Dev.moveGranted
  extract_lets _ _
  split
  · have h1 := Dev.KeepsBy.ofFst (.iteFst h.moveLoad h) ‹_›
    exact Dev.KeepsBy.ended (.answer h1.moveAccept.release)
  · have h2 := Dev.KeepsBy.ofFst (.iteFst h.moveLoad h) ‹_›
    exact Dev.KeepsBy.ended (.answer h.release)

theorem Dev.KeepsBy.segAuto {which} (h : o.Keeps d) : o.Keeps (d.segAuto which) := by
  unfold Dev.segAuto
  refine h.each (fun _ _ k1 => ?_)
  extract_lets _
  exact .ite k1.segCmdStart k1

theorem Dev.KeepsBy.ctxGranted {c num tag} (h : o.Keeps d) : o.Keeps (d.ctxGranted c num tag) := by
  unfold Dev.ctxGranted
  extract_lets _ d1
  have h1 : o.Keeps d1.1 := .iteFst h.bindGo h.migGo
  exact .ite (.ite h1.ctxStart.segAuto h1.logE) h1.complete

theorem Dev.KeepsBy.multiGranted {r num} (h : o.Keeps d) : o.Keeps (d.multiGranted r num) := by
  unfold Dev.multiGranted
  split
  · exact h.release
  · extract_lets _ d1 d2
    have h1 : o.Keeps d1 := h.modTap
    have h2 : o.Keeps d2 := h1.carry (fun _ k3 => k3.operate)
    exact h2.modTap.recheck

theorem Dev.KeepsBy.onGrant {h' num amount tag} (h : o.Keeps d) : o.Keeps (d.onGrant h' num amount tag) := by
  unfold Dev.onGrant
  split
  · exact h.tapReply
  · split
    · exact h.modPort
    · exact h.release
  · exact .ite h.modPort h.release
  · exact .ite h.modTile h.release
  · exact h.calGranted
  · exact h.tdrBegin.ended
  · exact .ite h.actSwap h.bankGranted
  · exact h.windowGranted
  · exact h.regClearGo
  · exact h.saveGo
  · exact h.flashGranted
  · exact h.gearedGranted
  · exact h.swapLoad.ended
  · exact h.moveGranted
  · exact h.ctxGranted
  · exact h.multiGranted

theorem Dev.KeepsBy.gearedRefused (h : o.Keeps d) : o.Keeps d.gearedRefused := by
  unfold Dev.gearedRefused
  split
  · exact h
  · exact h.modMm.requestUndone.complete

theorem Dev.KeepsBy.onRefusal {h' tag} (h : o.Keeps d) : o.Keeps (d.onRefusal h' tag) := by
  unfold Dev.onRefusal
  extract_lets f1
  have hf1 : ∀ d, o.Keeps d → o.Keeps (f1 d) := fun _ k2 => k2.complete
  split
  · exact h.tapReply
  · exact h.modPort
  · exact h.modPort
  · exact h.modTile
  · exact .ite h h.swapStat
  · exact hf1 _ (.ite h.dropPut h)
  · exact h.complete
  · exact hf1 _ h.modDict
  · exact h.gearedRefused
  · split
    · exact h.finish
    · exact h
  · exact .ite h.logE (hf1 _ h)
  · exact hf1 _ h

theorem Dev.KeepsBy.portRevoked {p num} (h : o.Keeps d) : o.Keeps (d.portRevoked p num) := by
  unfold Dev.portRevoked
  refine .ite h ?_
  extract_lets d1
  have h1 : o.Keeps d1 := h.modPort
  exact .ite h1 ((h1.iff (fun _ k2 => k2.retryStop)).portOff)

theorem Dev.KeepsBy.portAnswered {p} (h : o.Keeps d) : o.Keeps (d.portAnswered p) := by
  unfold Dev.portAnswered
  split
  · split
    · extract_lets d1 _ d2
      have h1 : o.Keeps d1 := h.modPort
      have h2 : o.Keeps d2 := h1.iff (fun _ k3 => k3.release)
      split
      have h4 := h2.portGo.ofFst ‹_›
      exact h4.complete
    · exact h
  · exact h

theorem Dev.KeepsBy.onRevoke {h' num amount tag} (h : o.Keeps d) : o.Keeps (d.onRevoke h' num amount tag) := by
  unfold Dev.onRevoke
  split
  · exact (h.iff (fun _ k1 => k1.portAnswered)).portRevoked
  · exact h.tapReply
  · exact h

theorem Dev.KeepsBy.logReset {code inst} (h : o.Keeps d) : o.Keeps (d.logReset code inst) := by
  unfold Dev.logReset
  exact .ite h h.logE

theorem Dev.KeepsBy.tbPowerOn (h : o.Keeps d) : o.Keeps d.tbPowerOn := by
  unfold Dev.tbPowerOn
  extract_lets _
  exact h.withTime.noteBases

theorem Dev.KeepsBy.linkTrain {up} (h : o.Keeps d) : o.Keeps (d.linkTrain up) := by
  unfold Dev.linkTrain
  refine .ite h.withHost ?_
  split
  have h1 := h.fresh.ofSnd ‹_›
  split
  have h2 := h1.fresh.ofSnd ‹_›
  exact h2.withHost

theorem Dev.KeepsBy.loadAttic {defaults} (h : o.Keeps d) : o.Keeps (d.loadAttic defaults) := by
  unfold Dev.loadAttic
  extract_lets _ _ d1
  have h1 : o.Keeps d1 := h.withOdBlob
  split
  · exact h.withOdBlob
  · exact Dev.KeepsBy.logE (.foldl h1 (fun _ _ k2 => k2.setOb))

theorem Dev.KeepsBy.prepareAttic {defaults} (h : o.Keeps d) : o.Keeps (d.prepareAttic defaults) := by
  unfold Dev.prepareAttic
  extract_lets _ d1 d2 _
  have h1 : o.Keeps d1 := .ite h.clearMem h
  have h2 : o.Keeps d2 := .ite h1.loadAttic h1
  exact h2.withSump

theorem Dev.KeepsBy.reinstall (h : o.Keeps d) : o.Keeps d.reinstall := by
  unfold Dev.reinstall
  refine h.each (fun _ _ k1 => ?_)
  refine .ite k1 ?_
  extract_lets _ _
  split
  · have h2 := k1.installBundle.ofFst ‹_›
    exact h2.withBundles.setOb
  · exact k1.logE

theorem Dev.KeepsBy.bootTables (h : o.Keeps d) : o.Keeps d.bootTables := by
  unfold Dev.bootTables
  refine h.each (fun _ _ k1 => ?_)
  refine .ite k1 ?_
  split
  · have h2 := k1.installTable.ofFst ‹_›
    exact h2
  · exact k1.modSw.logE

theorem Dev.KeepsBy.enterStart (h : o.Keeps d) : o.Keeps d.enterStart := by
  unfold Dev.enterStart
  extract_lets _ _ d1 d2 _ _ _ _ _ d3
  have h1 : o.Keeps d1 := h.enterHold
  have h2 : o.Keeps d2 := h1.modMm
  have h3 : o.Keeps d3 := .ite h.grant.modMm h
  exact .ite h.enterHold (.ite (.ite h.enterLimp h2.withMotion) (.ite h.logE.enterHold h3.enterRun))

theorem Dev.KeepsBy.ctxAuto (h : o.Keeps d) : o.Keeps d.ctxAuto := by
  unfold Dev.ctxAuto
  refine h.each (fun _ _ k1 => ?_)
  split
  · have h2 := k1.ctxBind.ofFst ‹_›
    exact h2.ctxStart
  · have h3 := k1.ctxBind.ofFst ‹_›
    exact .ite h3.logE h3
  · have h4 := k1.ctxBind.ofFst ‹_›
    exact h4

theorem Dev.KeepsBy.bootRest (h : o.Keeps d) : o.Keeps d.bootRest := by
  unfold Dev.bootRest
  refine .ite h ?_
  extract_lets _ _ _ d1 d2 d3 d5 d6 d7 d8 d9 d11 d12
  have h1 : o.Keeps d1 := h.withStore
  have h2 : o.Keeps d2 := h1.setOb.setOb
  have h3 : o.Keeps d3 := h2.each (fun _ _ k4 => k4.corePowerOn.loadBank.coreGo)
  have h5 : o.Keeps d5 := h3.modCore
  have h6 : o.Keeps d6 := h5.prepareAttic
  have h7 : o.Keeps d7 := h6.bootTables.reinstall
  have h8 : o.Keeps d8 := .ite h7.setOb h7
  have h9 : o.Keeps d9 := h8.setOb.iff (fun _ k10 => k10.setOb)
  have h11 : o.Keeps d11 := h9.modSump.showKeeper
  have h12 : o.Keeps d12 := h11.enterStart
  exact h12.iff (fun _ k13 => k13.ctxAuto.segAuto)

theorem Dev.KeepsBy.openWindow (h : o.Keeps d) : o.Keeps d.openWindow := by
  unfold Dev.openWindow
  extract_lets d1
  have h1 : o.Keeps d1 := h.modSump
  exact h1.st.st.st

theorem Dev.KeepsBy.alert {bit} (h : o.Keeps d) : o.Keeps (d.alert bit) := by
  unfold Dev.alert
  exact h.setOb

theorem Dev.KeepsBy.selectCopy (h : o.Keeps d) : o.Keeps d.selectCopy := by
  unfold Dev.selectCopy
  extract_lets _ _ d1 d3 _ _ _ x7 d5
  have h1 : o.Keeps d1 := h.each (fun _ _ k2 => k2.showCopy)
  have h3 : o.Keeps d3 := h1.each (fun _ _ k4 => k4.logE)
  have h5 : o.Keeps d5 := h3.modSump.alert
  refine .ite h1.openWindow ?_
  clear_value x7
  split
  · extract_lets d6
    have h6 : o.Keeps d6 := h3.modSump
    exact .ite h6.logE.alert h6
  · exact .ite h5.logE h5.openWindow

theorem Dev.KeepsBy.bootStart {code inst} (h : o.Keeps d) : o.Keeps (d.bootStart code inst) := by
  unfold Dev.bootStart
  refine .ite h.logReset ?_
  refine .ite h.modSump.logReset.logE ?_
  extract_lets d1 d2 d3 d4 d5
  have h1 : o.Keeps d1 := h.power.power.tbPowerOn.modSump
  have h2 : o.Keeps d2 := h1.epochInc.corePowerOn.coreGo
  have h3 : o.Keeps d3 := h2.event.setOb.setOb
  have h4 : o.Keeps d4 := h3.linkTrain.logReset
  have h5 : o.Keeps d5 := h4.iff (fun _ k6 => k6.raise)
  exact h5.selectCopy.bootRest

theorem Dev.KeepsBy.wake (h : o.Keeps d) : o.Keeps d.wake := by
  unfold Dev.wake
  exact .ite h (.ite h.logE h.modSump.bootStart)

theorem Dev.KeepsBy.rolesBack {l} (h : o.Keeps d) : o.Keeps (d.rolesBack l) := by
  unfold Dev.rolesBack
  exact h.each (fun _ _ k1 => .ite k1.roleMoveTo k1)

theorem Dev.KeepsBy.keeperReady {k} (h : o.Keeps d) : o.Keeps (d.keeperReady k) := by
  unfold Dev.keeperReady
  split
  · exact h
  · refine .ite h ?_
    extract_lets _ d1
    have h1 : o.Keeps d1 := h.modMm.rolesBack
    refine .ite h.actKeeper ?_
    split
    · have h2 := h1.fwPermit.ofFst ‹_›
      exact h2.actEnd
    · have h3 := h1.fwPermit.ofFst ‹_›
      exact h3

theorem Dev.KeepsBy.onRing {ep bits_} (h : o.Keeps d) : o.Keeps (d.onRing ep bits_) := by
  unfold Dev.onRing
  extract_lets _ _ d1 d3
  have h1 : o.Keeps d1 := h.iff (fun _ k2 => k2.corePowerOn)
  have h3 : o.Keeps d3 := h1.iff (fun _ k4 => k4.modDict)
  exact .ite (.ite h.wake h) (.ite h3.keeperReady h3)

theorem Dev.KeepsBy.holdLines (h : o.Keeps d) : o.Keeps d.holdLines := by
  unfold Dev.holdLines
  extract_lets d1 d3
  have h1 : o.Keeps d1 := h.each (fun _ _ k2 => k2.sweepAbort)
  have h3 : o.Keeps d3 := h1.each (fun _ _ k4 => k4.modMac)
  exact h3.each (fun _ _ k5 => k5.segLost)

theorem Dev.KeepsBy.hardHold (h : o.Keeps d) : o.Keeps d.hardHold := by
  unfold Dev.hardHold
  exact h.withSump.holdLines

theorem Dev.KeepsBy.warmRestart {cause} (h : o.Keeps d) : o.Keeps (d.warmRestart cause) := by
  unfold Dev.warmRestart
  refine .ite h ?_
  extract_lets _ d1 _ d3 d4 d5 d7
  have h1 : o.Keeps d1 := (h.each (fun _ _ k2 => k2.raise63)).upTo
  have h3 : o.Keeps d3 := h1.modSump
  have h4 : o.Keeps d4 := h3.abortChange.hardHold.setOb.allOff
  have h5 : o.Keeps d5 := h4.each (fun _ _ k6 => k6.epochInc)
  have h7 : o.Keeps d7 := h5.setOb.bump.alert
  exact h7.upTo.bootStart

theorem Dev.KeepsBy.dictTaken (h : o.Keeps d) : o.Keeps d.dictTaken := by
  unfold Dev.dictTaken
  refine .foldl h (fun _ _ k1 => ?_)
  split
  · exact k1
  · split
    · exact k1.complete
    · exact k1.modDict

theorem Dev.KeepsBy.doWork {a} (h : o.Keeps d) : o.Keeps (d.doWork a) := by
  unfold Dev.doWork
  split
  · exact h.onGrant
  · exact h.onRefusal
  · exact h.onRevoke
  · exact h.limpCause
  · exact h.holdCause
  · exact h.onRing
  · exact h.warmRestart
  · exact h.dictTaken

theorem Dev.KeepsBy.markNext (h : o.Keeps d) : o.Keeps d.markNext := by
  unfold Dev.markNext
  exact h.modDict

theorem Dev.KeepsBy.drain {fuel} (h : o.Keeps d) : o.Keeps (d.drain fuel) := by
  induction fuel generalizing d with
  | zero => exact h
  | succ fuel ih =>
    unfold Dev.drain
    split
    · exact h
    · exact ih h.withWork.markNext.doWork

theorem Dev.KeepsBy.waitWake {c} (h : o.Keeps d) : o.Keeps (d.waitWake c) := by
  unfold Dev.waitWake
  refine .ite h ?_
  split
  · extract_lets _
    exact h.modCore.setCoreState
  · exact h

theorem Dev.KeepsBy.farWake {c} (h : o.Keeps d) : o.Keeps (d.farWake c) := by
  unfold Dev.farWake
  split
  · split
    · refine .ite h ?_
      extract_lets _
      exact .dite (fun _ => h.modCore) (fun _ => h)
    · exact h
  · exact h

theorem Dev.KeepsBy.bankNow {c} (h : o.Keeps d) : o.Keeps (d.bankNow c) := by
  unfold Dev.bankNow
  exact .ite h.bankFlip.modCore h

theorem Dev.KeepsBy.boundary {c} (h : o.Keeps d) : o.Keeps (d.boundary c) := by
  unfold Dev.boundary
  extract_lets d1
  have h1 : o.Keeps d1 := h.farWake.waitWake
  exact .ite h1.bankNow h1

theorem Dev.KeepsBy.degCheck {p} (h : o.Keeps d) : o.Keeps (d.degCheck p) := by
  unfold Dev.degCheck
  exact .ite h.portTo.logE h

theorem Dev.KeepsBy.limpClock (h : o.Keeps d) : o.Keeps d.limpClock := by
  unfold Dev.limpClock
  extract_lets _
  exact .ite h.modMm (.ite h.modMm h)

theorem Dev.KeepsBy.limpRest (h : o.Keeps d) : o.Keeps d.limpRest := by
  unfold Dev.limpRest
  exact .ite h.applyLimp h

theorem Dev.KeepsBy.followUp (h : o.Keeps d) : o.Keeps d.followUp := by
  unfold Dev.followUp
  extract_lets d1 d3
  have h1 : o.Keeps d1 := h.each (fun _ _ k2 => k2.boundary)
  have h3 : o.Keeps d3 := h1.each (fun _ _ k4 => k4.degCheck)
  exact h3.limpRest.limpClock.coresBarred

theorem Dev.KeepsBy.unmark (h : o.Keeps d) : o.Keeps d.unmark := by
  unfold Dev.unmark
  exact h.modDict

theorem Dev.KeepsBy.aapSend {sess kind body} (h : o.Keeps d) : o.Keeps (d.aapSend sess kind body).1 := by
  unfold Dev.aapSend
  split
  · exact h
  · extract_lets _
    exact .answer h.modDict.emit

theorem Dev.KeepsBy.flushSess {k} (h : o.Keeps d) : o.Keeps (d.flushSess k) := by
  unfold Dev.flushSess
  extract_lets _ d1
  have h1 : o.Keeps d1 := h.modDict
  split
  · exact h1
  · extract_lets _
    refine .foldl h1 (fun _ _ k2 => ?_)
    refine .foldl k2 (fun _ _ k3 => ?_)
    split
    have h4 := k3.aapSend.ofFst ‹_›
    exact h4.modDict

theorem Dev.KeepsBy.flushOpen {u addr} (h : o.Keeps d) : o.Keeps (d.flushOpen u addr) := by
  unfold Dev.flushOpen
  extract_lets _ d1
  have h1 : o.Keeps d1 := h.modDict
  refine .foldl h1 (fun _ _ k2 => ?_)
  split
  have h3 := k2.fresh.ofSnd ‹_›
  exact h3.emit

theorem Dev.KeepsBy.flushAap (h : o.Keeps d) : o.Keeps d.flushAap := by
  unfold Dev.flushAap
  refine .ite h ?_
  extract_lets d1
  have h1 : o.Keeps d1 := h.each (fun _ _ k2 => k2.flushSess)
  refine .foldl h1 (fun _ _ k3 => ?_)
  split
  · exact k3.flushOpen
  · exact k3

theorem Dev.KeepsBy.settle (h : o.Keeps d) : o.Keeps d.settle := by
  unfold Dev.settle
  extract_lets d1 d2
  have h1 : o.Keeps d1 := h.drain.unblock.serveQuick.serveRing
  have h2 : o.Keeps d2 := h1.drain.followUp
  exact h2.drain.unblock.flushAap.unmark

theorem Dev.KeepsBy.instr {c u f} (h : o.Keeps d) (hf : ∀ x0 d, o.Keeps d → o.Keeps (f x0 d).1) : o.Keeps (d.instr c u f) := by
  unfold Dev.instr
  refine .ite h ?_
  extract_lets _ d1 _
  have h1 : o.Keeps d1 := h.modCore
  split
  have h2 := (hf _ _ h1).ofFst ‹_›
  exact h2.modCore

theorem Dev.KeepsBy.noteFault {c kind status addr} (h : o.Keeps d) : o.Keeps (d.noteFault c kind status addr) := by
  unfold Dev.noteFault
  extract_lets d1
  have h1 : o.Keeps d1 := h.modCore
  exact h1.bump.setOb.setOb

theorem Dev.KeepsBy.otherFault {c kind} (h : o.Keeps d) : o.Keeps (d.otherFault c kind) := by
  unfold Dev.otherFault
  split
  have h1 := h.fresh.ofSnd ‹_›
  exact h1.noteFault

theorem Dev.KeepsBy.haltCore {c} (h : o.Keeps d) : o.Keeps (d.haltCore c) := by
  unfold Dev.haltCore
  exact h.otherFault.setCoreState.modCore.logSec

theorem Dev.KeepsBy.raiseTrap {c s} (h : o.Keeps d) : o.Keeps (d.raiseTrap c s) := by
  unfold Dev.raiseTrap
  extract_lets _ d1
  have h1 : o.Keeps d1 := h.pulse
  exact .ite h1.haltCore h1.modCore

theorem Dev.KeepsBy.illegal {c literal} (h : o.Keeps d) : o.Keeps (d.illegal c literal) := by
  unfold Dev.illegal
  exact h.modCore.otherFault.logSec.raiseTrap

theorem Dev.KeepsBy.ackMail {e m} (h : o.Keeps d) : o.Keeps (d.ackMail e m) := by
  unfold Dev.ackMail
  refine .ite ?_ h
  extract_lets _ _ d1
  have h1 : o.Keeps d1 := h.event.modEp
  exact .ite h1.modEp h1

theorem Dev.KeepsBy.mbRead {e m w} (h : o.Keeps d) : o.Keeps (d.mbRead e m w).1 := by
  unfold Dev.mbRead
  extract_lets _
  exact .answer (.ite h.ackMail h)

theorem Dev.KeepsBy.readBell {e} (h : o.Keeps d) : o.Keeps (d.readBell e) := by
  unfold Dev.readBell
  exact h.event.setOb

theorem Dev.KeepsBy.srRead {c n} (h : o.Keeps d) : o.Keeps (d.srRead c n).1 := by
  unfold Dev.srRead
  extract_lets _
  split
  · exact h
  · exact h
  · exact h
  · exact h
  · exact h
  · exact h
  · exact h
  · exact h
  · exact h
  · exact h
  · exact h
  · exact .answer h.modCore
  · exact h
  · exact h
  · exact h
  · exact h
  · exact h
  · exact h
  · exact .answer h.modCore
  · exact h
  · exact h
  · exact h
  · exact h
  · exact h
  · exact .iteFst h (.iteFst h h)

theorem Dev.KeepsBy.privRead {c o'} (h : o.Keeps d) : o.Keeps (d.privRead c o').1 := by
  unfold Dev.privRead
  refine .iteFst ?_ ?_
  · refine .iteFst h ?_
    split
    have h1 := h.mbRead.ofFst ‹_›
    exact h1
  · refine .iteFst h ?_
    refine .iteFst ?_ ?_
    · extract_lets _ _
      refine .iteFst h ?_
      split
      have h2 := h.fresh.ofSnd ‹_›
      exact h2
    · refine .iteFst ?_ ?_
      · extract_lets _
        exact .answer (.ite h.readBell h)
      · refine .iteFst ?_ ?_
        · split
          · exact h
          · exact h
        · refine .iteFst h ?_
          refine .iteFst h ?_
          refine .iteFst h ?_
          refine .iteFst h ?_
          refine .iteFst ?_ h
          split
          have h3 := h.srRead.ofFst ‹_›
          exact h3

theorem Dev.KeepsBy.recReady {a} (h : o.Keeps d) : o.Keeps (d.recReady a) := by
  unfold Dev.recReady
  extract_lets _
  exact .ite h.buildAxis h

theorem Dev.KeepsBy.sharedRead {a} (h : o.Keeps d) : o.Keeps (d.sharedRead a).1 := by
  unfold Dev.sharedRead
  refine .iteFst h ?_
  extract_lets d1
  have h1 : o.Keeps d1 := h.recReady
  exact .iteFst h1 h1

theorem Dev.KeepsBy.inputRead {reader p w} (h : o.Keeps d) : o.Keeps (d.inputRead reader p w).1 := by
  unfold Dev.inputRead
  refine .iteFst (.answer h.modPort) ?_
  split
  · exact .answer h.modPort
  · exact h

theorem Dev.KeepsBy.tsPop {idx} (h : o.Keeps d) : o.Keeps (d.tsPop idx).1 := by
  unfold Dev.tsPop
  split
  · exact .answer h.modMac
  · exact .answer h.modMac

theorem Dev.KeepsBy.tsRead {agent idx w} (h : o.Keeps d) : o.Keeps (d.tsRead agent idx w).1 := by
  unfold Dev.tsRead
  refine .iteFst h ?_
  refine .iteFst h.tsPop ?_
  split
  · exact h
  · exact h

theorem Dev.KeepsBy.tbRead {n w} (h : o.Keeps d) : o.Keeps (d.tbRead n w).1 := by
  unfold Dev.tbRead
  extract_lets _ _ _
  split
  · exact .answer (.ite h.withTime h.modTb)
  · exact h
  · exact h
  · exact h
  · exact .iteFst h h

theorem Dev.KeepsBy.modPps {i f} (h : o.Keeps d) : o.Keeps (d.modPps i f) := h.withTime

theorem Dev.KeepsBy.ppsPop {i} (h : o.Keeps d) : o.Keeps (d.ppsPop i).1 := by
  unfold Dev.ppsPop
  split
  · exact .answer h.modPps
  · exact .answer h.modPps

theorem Dev.KeepsBy.ppsRead {agent i w} (h : o.Keeps d) : o.Keeps (d.ppsRead agent i w).1 := by
  unfold Dev.ppsRead
  exact .iteFst (.iteFst h.ppsPop h) h

theorem Dev.KeepsBy.segRead {s w} (h : o.Keeps d) : o.Keeps (d.segRead s w).1 := by
  unfold Dev.segRead
  extract_lets _
  exact .iteFst (.answer h.modSeg) h

theorem Dev.KeepsBy.busRead {p ofs own} (h : o.Keeps d) : o.Keeps (d.busRead p ofs own).1 := by
  unfold Dev.busRead
  refine .iteFst h ?_
  extract_lets _ _ _ _
  split
  · exact h
  · exact h
  · exact h
  · exact h
  · exact h
  · exact h
  · exact h
  · exact .iteFst (.answer (.ite h.bset h)) h

theorem Dev.KeepsBy.corePop {c} (h : o.Keeps d) : o.Keeps (d.corePop c).1 := by
  unfold Dev.corePop
  split
  · exact h
  · exact .answer h.modChan

theorem Dev.KeepsBy.blockRead {agent a} (h : o.Keeps d) : o.Keeps (d.blockRead agent a).1 := by
  unfold Dev.blockRead
  extract_lets f1 _ _ _ _ _ _
  have hf1 : ∀ d, o.Keeps d.1 → o.Keeps (f1 d).1 := fun _ k2 => k2
  exact .iteFst h (.iteFst (hf1 _ h.inputRead) (.iteFst (.iteFst h (hf1 _ h.tsRead)) (.iteFst h (.iteFst (hf1 _ h.tbRead) (.iteFst (hf1 _ h.ppsRead) (.iteFst (hf1 _ h.segRead) (.iteFst h (.iteFst h (.iteFst h (.iteFst h (.iteFst h (.iteFst h (.iteFst h (.iteFst h (.iteFst (.iteFst h (hf1 _ h.busRead)) (.iteFst (.iteFst h (.iteFst (.iteFst (hf1 _ h.corePop) h) (.iteFst h h))) h))))))))))))))))

theorem Dev.KeepsBy.gateLoad {c n w} (h : o.Keeps d) : o.Keeps (d.gateLoad c n w).1 := by
  unfold Dev.gateLoad
  extract_lets _
  refine .iteFst (.answer h.modCellar) ?_
  split
  · exact .iteFst h (.answer h.modCellar)
  · exact h

theorem Dev.KeepsBy.loadWord {c a} (h : o.Keeps d) : o.Keeps (d.loadWord c a).1 := by
  unfold Dev.loadWord
  refine .iteFst (.iteFst h (.iteFst h h)) ?_
  refine .iteFst h.privRead ?_
  refine .iteFst h.sharedRead ?_
  refine .iteFst h.blockRead ?_
  refine .iteFst ?_ h
  split
  have h1 := h.gateLoad.ofFst ‹_›
  exact .iteFst h1 h1

theorem Dev.KeepsBy.accCost {a status} (h : o.Keeps d) : o.Keeps (d.accCost a status).2 := by
  unfold Dev.accCost
  refine .iteSnd h ?_
  refine .iteSnd h ?_
  refine .iteSnd ?_ ?_
  · split
    have h1 := h.fresh.ofSnd ‹_›
    exact h1
  · split
    have h2 := h.fresh.ofSnd ‹_›
    exact h2

theorem Dev.KeepsBy.accessFault {c kind status addr} (h : o.Keeps d) : o.Keeps (d.accessFault c kind status addr) := by
  unfold Dev.accessFault
  exact h.noteFault.pulse

theorem Dev.KeepsBy.coreLoad {c n rd a} (h : o.Keeps d) : o.Keeps (d.coreLoad c n rd a) := by
  unfold Dev.coreLoad
  split
  have h1 := h.modCore.loadWord.ofFst ‹_›
  split
  have h2 := h1.accCost.ofSnd ‹_›
  extract_lets d3
  have h3 : o.Keeps d3 := .ite h2 h2.accessFault
  exact h3.modCore

theorem Dev.KeepsBy.ctxMiss {c} (h : o.Keeps d) : o.Keeps (d.ctxMiss c) := by
  unfold Dev.ctxMiss
  extract_lets d1 d2
  have h1 : o.Keeps d1 := h.modCtx
  have h2 : o.Keeps d2 := h1.bump.logSec
  exact .ite h2.ctxRestart h2

theorem Dev.KeepsBy.migAbort {c} (h : o.Keeps d) : o.Keeps (d.migAbort c) := by
  unfold Dev.migAbort
  extract_lets _ d1 d2 d3 d4 _
  have h1 : o.Keeps d1 := .ite h.ctxMiss h
  have h2 : o.Keeps d2 := h1.ckptAbort
  have h3 : o.Keeps d3 := h2.pulse
  have h4 : o.Keeps d4 := h3.logE
  exact .ite h (.ite h1.logE (.ite h4.modCtx h4.event.setCtxState.migCancel.coreIdle))

theorem Dev.KeepsBy.winTouched {core a} (h : o.Keeps d) : o.Keeps (d.winTouched core a) := by
  unfold Dev.winTouched
  refine h.each (fun _ _ k1 => ?_)
  extract_lets _
  exact .ite (k1.ckptAbort.iff (fun _ k2 => k2.migAbort)) k1

theorem Dev.KeepsBy.mbStatusWrite {e m v} (h : o.Keeps d) : o.Keeps (d.mbStatusWrite e m v) := by
  unfold Dev.mbStatusWrite
  extract_lets d1 d2
  have h1 : o.Keeps d1 := .ite h.modEp h
  have h2 : o.Keeps d2 := h1.hostLevels (fun _ k3 => k3.setOb)
  exact .ite h2.ackMail h2

theorem Dev.KeepsBy.mbSend {src dst m w v} (h : o.Keeps d) : o.Keeps (d.mbSend src dst m w v).1 := by
  unfold Dev.mbSend
  exact .iteFst h (.answer (.ite h.post h.mbBody))

theorem Dev.KeepsBy.pendSet {c i v} (h : o.Keeps d) : o.Keeps (d.pendSet c i v) := by
  unfold Dev.pendSet
  exact h.modCore

theorem Dev.KeepsBy.pendClr {c i v} (h : o.Keeps d) : o.Keeps (d.pendClr c i v) := by
  unfold Dev.pendClr
  exact h.modCore

theorem Dev.KeepsBy.maskSet {c i v} (h : o.Keeps d) : o.Keeps (d.maskSet c i v) := by
  unfold Dev.maskSet
  exact h.modCore

theorem Dev.KeepsBy.maskClr {c i v} (h : o.Keeps d) : o.Keeps (d.maskClr c i v) := by
  unfold Dev.maskClr
  exact h.modCore

theorem Dev.KeepsBy.unitWrite {c o' v} (h : o.Keeps d) : o.KeepsOpt id (d.unitWrite c o' v) := by
  unfold Dev.unitWrite
  refine .ite (.just h) ?_
  refine .ite (.just h.pendSet) ?_
  refine .ite (.just h.pendClr) ?_
  refine .ite (.just h.maskSet) ?_
  refine .ite (.just h.maskClr) ?_
  refine .ite ?_ ?_
  · extract_lets _
    exact .just h.modCore
  · refine .ite ?_ (.none)
    extract_lets _
    exact .just (.ite h.modCore h)

theorem Dev.KeepsBy.setTimer {c v} (h : o.Keeps d) : o.Keeps (d.setTimer c v) := by
  unfold Dev.setTimer
  exact h.modCore

theorem Dev.KeepsBy.bankAsk {c now mask} (h : o.Keeps d) : o.Keeps (d.bankAsk c now mask) := by
  unfold Dev.bankAsk
  extract_lets _
  refine .ite h.swapStat ?_
  split
  · have h1 := h.ask.ofFst ‹_›
    exact h1.bankGranted
  · have h2 := h.ask.ofFst ‹_›
    exact h2
  · have h3 := h.ask.ofFst ‹_›
    exact h3.swapStat
  · have h4 := h.ask.ofFst ‹_›
    exact h4.swapStat

theorem Dev.KeepsBy.bankWrite {c v} (h : o.Keeps d) : o.Keeps (d.bankWrite c v) := by
  unfold Dev.bankWrite
  extract_lets _ f1
  have hf1 : ∀ d, o.Keeps d → o.Keeps (f1 d) := fun _ k2 => k2.modCore
  split
  · exact h.bankAsk
  · exact (hf1 _ h).bankCancel
  · exact h.bankAsk
  · exact hf1 _ h

theorem Dev.KeepsBy.feedWdog {c} (h : o.Keeps d) : o.Keeps (d.feedWdog c) := by
  unfold Dev.feedWdog
  exact h.modCore

theorem Dev.KeepsBy.srWrite {c n v} (h : o.Keeps d) : o.Keeps (d.srWrite c n v) := by
  unfold Dev.srWrite
  extract_lets _ f1
  have hf1 : ∀ x0, o.Keeps (f1 x0) := fun _ => h.modCore
  split
  · exact hf1 _
  · exact hf1 _
  · exact hf1 _
  · exact .ite (hf1 _) h.otherFault
  · exact .ite h.otherFault (hf1 _)
  · exact hf1 _
  · exact hf1 _
  · exact .ite h (hf1 _)
  · exact hf1 _
  · exact hf1 _
  · exact hf1 _
  · exact hf1 _
  · exact hf1 _
  · exact hf1 _
  · exact hf1 _
  · exact hf1 _
  · exact hf1 _
  · exact hf1 _
  · exact hf1 _
  · exact hf1 _
  · exact hf1 _
  · exact h.bankWrite
  · exact h.feedWdog
  · exact h

theorem Dev.KeepsBy.privWrite {c o' v} (h : o.Keeps d) : o.Keeps (d.privWrite c o' v).1 := by
  unfold Dev.privWrite
  refine .iteFst (.answer h.st) ?_
  refine .iteFst (.answer h.mbStatusWrite) ?_
  refine .iteFst h.mbSend ?_
  refine .iteFst (.answer h.ring) ?_
  refine .iteFst ?_ (.iteFst (.answer h.modCore) (.iteFst (.answer h.setTimer) (.iteFst (.answer (.ite h h.modCore)) (.iteFst h (.iteFst (.answer h.srWrite) h)))))
  split
  · have h1 := h.unitWrite.ofSome ‹_›
    exact h1
  · exact h

theorem Dev.KeepsBy.sharedWrite {a v} (h : o.Keeps d) : o.Keeps (d.sharedWrite a v).1 := by
  unfold Dev.sharedWrite
  exact .iteFst h (.iteFst h (.answer h.recReady.st))

theorem Dev.KeepsBy.noteStore {agent a v} (h : o.Keeps d) : o.Keeps (d.noteStore agent a v) := h.withStores

theorem Dev.KeepsBy.sharedStore {agent a v} (h : o.Keeps d) : o.Keeps (d.sharedStore agent a v).1 := by
  unfold Dev.sharedStore
  exact h.noteStore.sharedWrite

theorem Dev.KeepsBy.errCount {p n} (h : o.Keeps d) : o.Keeps (d.errCount p n) := by
  unfold Dev.errCount
  exact h.setOb.modPort

theorem Dev.KeepsBy.errReport {agent p v} (h : o.Keeps d) : o.Keeps (d.errReport agent p v) := by
  unfold Dev.errReport
  exact .ite h.errCount h

theorem Dev.KeepsBy.cpClear {c v} (h : o.Keeps d) : o.Keeps (d.cpClear c v) := by
  unfold Dev.cpClear
  exact h.modCtx

theorem Dev.KeepsBy.ckptStart {c} (h : o.Keeps d) : o.Keeps (d.ckptStart c) := by
  unfold Dev.ckptStart
  refine .ite h ?_
  extract_lets _
  exact h.modCtx

theorem Dev.KeepsBy.ctxDone {c} (h : o.Keeps d) : o.Keeps (d.ctxDone c) := by
  unfold Dev.ctxDone
  extract_lets d1 _ d2 _
  have h1 : o.Keeps d1 := .ite h.ctxMiss h
  have h2 : o.Keeps d2 := h1.modCtx
  exact .ite h1 (.ite h2.ckptStart h2)

theorem Dev.KeepsBy.ctxWrite {agent c w v} (h : o.Keeps d) : o.Keeps (d.ctxWrite agent c w v) := by
  unfold Dev.ctxWrite
  refine .ite h ?_
  split
  · exact h.cpClear
  · exact h.ctxDone
  · exact .ite h.ckptStart h
  · exact h

theorem Dev.KeepsBy.tbWrite {agent n w v} (h : o.Keeps d) : o.Keeps (d.tbWrite agent n w v) := by
  unfold Dev.tbWrite
  refine .ite h ?_
  extract_lets _ _
  split
  · exact h.modTb
  · exact h.tbIncr
  · exact h.modTb
  · exact h.tbOffset
  · exact h.setSynced
  · exact h.modTb
  · exact h.modTb
  · exact h.modTb
  · refine .ite h ?_
    split
    · have h1 := h.tbSet.ofFst ‹_›
      exact h1
    · have h2 := h.tbSet.ofFst ‹_›
      exact h2.logE
  · exact h

theorem Dev.KeepsBy.gcClear {l} (h : o.Keeps d) : o.Keeps (d.gcClear l) := by
  unfold Dev.gcClear
  refine h.each (fun _ _ k1 => ?_)
  extract_lets d2
  have h2 : o.Keeps d2 := k1.modGather
  exact h2.postLine

theorem Dev.KeepsBy.logPost {agent v} (h : o.Keeps d) : o.Keeps (d.logPost agent v) := by
  unfold Dev.logPost
  exact .ite h h.logE

theorem Dev.KeepsBy.kick {agent} (h : o.Keeps d) : o.Keeps (d.kick agent) := by
  unfold Dev.kick
  exact .ite h.withSump h

theorem Dev.KeepsBy.sendBuf {p b} (h : o.Keeps d) : o.Keeps (d.sendBuf p b) := by
  unfold Dev.sendBuf
  refine .ite h ?_
  refine .ite ?_ h.event.bset
  extract_lets d1
  have h1 : o.Keeps d1 := h.bset
  exact h1.abortBuf.bump

theorem Dev.KeepsBy.abortTx {p b} (h : o.Keeps d) : o.Keeps (d.abortTx p b) := by
  unfold Dev.abortTx
  split
  · exact h.abortBuf.bump
  · exact h.abortBuf.bump
  · exact h.modBus
  · exact h

theorem Dev.KeepsBy.withFull {p f} (h : o.Keeps d) (hf : ∀ d, o.Keeps d → o.Keeps (f d)) : o.Keeps (d.withFull p f) := by
  unfold Dev.withFull
  extract_lets _ d1
  have h1 : o.Keeps d1 := hf _ h
  exact .ite h1.raise h1

theorem Dev.KeepsBy.bsetAll {p ofs l} (h : o.Keeps d) : o.Keeps (d.bsetAll p ofs l) := by
  induction l generalizing d ofs with
  | nil => exact h
  | cons v l ih => exact ih h.bset

theorem Dev.KeepsBy.frontWords {p o' l} (h : o.Keeps d) : o.Keeps (d.frontWords p o' l) := by
  unfold Dev.frontWords
  exact h.bsetAll.bsetAll.bset

theorem Dev.KeepsBy.releaseRx {p o'} (h : o.Keeps d) : o.Keeps (d.releaseRx p o') := by
  unfold Dev.releaseRx
  refine h.withFull (fun _ k1 => ?_)
  extract_lets _ d2
  have h2 : o.Keeps d2 := k1.event.bset
  exact .ite h2.frontWords.bset.modBus h2

theorem Dev.KeepsBy.busWrite {p ofs v} (h : o.Keeps d) : o.Keeps (d.busWrite p ofs v) := by
  unfold Dev.busWrite
  refine .ite h ?_
  refine .ite (.ite h.busRecover h) ?_
  refine .ite h.bset ?_
  refine .ite h ?_
  refine .ite h.bset ?_
  refine .ite h ?_
  refine .ite ?_ (.ite h.releaseRx h)
  extract_lets _ _
  exact .ite h (.ite (.ite h.sendBuf (.ite h.abortTx h)) (.ite (.ite h h.bset) (.ite (.ite h h.bset) h)))

theorem Dev.KeepsBy.setArmWord {e i v} (h : o.Keeps d) : o.Keeps (d.setArmWord e i v) := by
  unfold Dev.setArmWord
  extract_lets _
  exact h.modEngine.setOb

theorem Dev.KeepsBy.engWrite {e ofs v busy} (h : o.Keeps d) : o.Keeps (d.engWrite e ofs v busy) := by
  unfold Dev.engWrite
  split
  · exact h.engStart
  · exact h.engBitsync
  · exact h.setOb
  · exact h.setOb.setOb
  · exact .ite (Dev.KeepsOpt.getD h.armEng h) (.ite h.disarmEng h)
  · exact h.setArmWord
  · exact h.setArmWord
  · exact h.setArmWord
  · exact h.setArmWord
  · split
    have h1 := h.askSwap.ofFst ‹_›
    exact h1.modEngine
  · refine .ite ?_ h
    extract_lets _
    exact .ite h h.st.setImageLen

theorem Dev.KeepsBy.blockWrite {agent a v} (h : o.Keeps d) : o.Keeps (d.blockWrite agent a v).1 := by
  unfold Dev.blockWrite
  extract_lets _ _ _ _ _ _ _ _
  exact .iteFst (.answer (.ite h.errReport h)) (.iteFst h (.iteFst h (.iteFst (.answer h.ctxWrite) (.iteFst (.answer h.tbWrite) (.iteFst h (.iteFst h (.iteFst (.answer (.ite h.setRoute h)) (.iteFst (.answer (.ite h.gcEnWrite h)) (.iteFst h (.iteFst (.answer h.gcClear) (.iteFst (.answer (h.each (fun _ _ k1 => k1.raise))) (.iteFst (.answer (.ite h.setOb h)) (.iteFst (.answer h.logPost) (.iteFst (.answer h.kick) (.iteFst h (.iteFst (.iteFst h (.answer (.ite h.busWrite h))) (.iteFst (.iteFst h (.iteFst (.answer (.ite h.chWrite h)) (.answer (.ite h.engWrite h)))) h)))))))))))))))))

theorem Dev.KeepsBy.gateStore {c n w v} (h : o.Keeps d) : o.Keeps (d.gateStore c n w v).1 := by
  unfold Dev.gateStore
  extract_lets d1 _ d2 _
  have h1 : o.Keeps d1 := h.modCellar
  have h2 : o.Keeps d2 := h1.modCellar
  refine .iteFst (.answer h1.modCellar) ?_
  refine .iteFst ?_ h1
  split
  · exact h2
  · extract_lets _
    exact .iteFst (.answer h2.event.applyWrite) h2

theorem Dev.KeepsBy.storeWord {c a v} (h : o.Keeps d) : o.Keeps (d.storeWord c a v).1 := by
  unfold Dev.storeWord
  exact .iteFst (.iteFst h (.answer h.st.winTouched)) (.iteFst h.privWrite (.iteFst h (.iteFst h.sharedStore (.iteFst h.blockWrite (.iteFst h.gateStore h)))))

theorem Dev.KeepsBy.farRead {c a} (h : o.Keeps d) : o.Keeps (d.farRead c a).1 := by
  unfold Dev.farRead
  split
  · exact .iteFst h (.iteFst h h)
  · extract_lets _
    exact .iteFst h (.iteFst h h)
  · refine .iteFst h.sharedRead ?_
    refine .iteFst h.blockRead ?_
    extract_lets d1
    have h1 : o.Keeps d1 := h.modCellar
    exact .iteFst h1 h1

theorem Dev.KeepsBy.farWrite {c a v} (h : o.Keeps d) : o.Keeps (d.farWrite c a v).1 := by
  unfold Dev.farWrite
  split
  · exact .iteFst h (.answer h.st.winTouched)
  · exact .iteFst h (.iteFst h (.answer h.st))
  · exact .iteFst h.sharedWrite (.iteFst h.blockWrite h.gateStore)

theorem Dev.KeepsBy.farOne {c r i} (h : o.Keeps d) : o.Keeps (d.farOne c r i).1 := by
  unfold Dev.farOne
  extract_lets _ _ _ _
  split
  · split
    have h1 := h.farRead.ofFst ‹_›
    exact .iteFst (.answer h1.st.winTouched) h1
  · exact .iteFst h h.farWrite
  · refine .iteFst h ?_
    split
    have h2 := h.farRead.ofFst ‹_›
    refine .iteFst h2 ?_
    split
    have h3 := h2.farWrite.ofFst ‹_›
    exact .iteFst h3 (.answer h3.st.winTouched)

theorem Dev.KeepsBy.modFar {c t f} (h : o.Keeps d) : o.Keeps (d.modFar c t f) := by
  unfold Dev.modFar
  exact h.modCore

theorem Dev.KeepsBy.farRun {c r m} (h : o.Keeps d) : o.Keeps (d.farRun c r m) := by
  unfold Dev.farRun
  refine .ite h ?_
  extract_lets d1
  have h1 : o.Keeps d1.1 := by
    refine .foldlFst h (fun _ _ k2 => ?_)
    refine .iteFst k2 ?_
    split
    have h3 := k2.farOne.ofFst ‹_›
    exact h3
  exact h1.modFar

theorem Dev.KeepsBy.farWords {c t late} (h : o.Keeps d) : o.Keeps (d.farWords c t late) := by
  unfold Dev.farWords
  split
  · exact h
  · refine .ite h.farRun ?_
    split
    have h1 := h.fresh.ofSnd ‹_›
    exact h1.farRun.modFar

theorem Dev.KeepsBy.farInOrder {c t late} (h : o.Keeps d) : o.Keeps (d.farInOrder c t late) := by
  unfold Dev.farInOrder
  exact (h.each (fun _ _ k1 => k1.farWords)).farWords

theorem Dev.KeepsBy.farFirst {c a} (h : o.Keeps d) : o.Keeps (d.farFirst c a) := by
  unfold Dev.farFirst
  exact .ite (h.each (fun _ _ k1 => k1.farInOrder)) h

theorem Dev.KeepsBy.coreStore {c n a v} (h : o.Keeps d) : o.Keeps (d.coreStore c n a v) := by
  unfold Dev.coreStore
  split
  have h1 := h.modCore.farFirst.storeWord.ofFst ‹_›
  split
  have h2 := h1.accCost.ofSnd ‹_›
  extract_lets d3
  have h3 : o.Keeps d3 := .ite h2 h2.accessFault
  exact h3.modCore

theorem Dev.KeepsBy.slotAccess {c n t discarded} (h : o.Keeps d) : o.Keeps (d.slotAccess c n t discarded) := by
  unfold Dev.slotAccess
  split
  · exact h.coreLoad
  · exact h.coreStore
  · exact h

theorem Dev.KeepsBy.pairWord {c opa xa ya opb xb yb z0} (h : o.Keeps d) : o.Keeps (d.pairWord c opa xa ya opb xb yb z0) := by
  unfold Dev.pairWord
  refine .ite (h.instr (fun _ _ k1 => .answer k1.illegal)) ?_
  extract_lets _ _
  refine h.instr (fun _ _ k2 => ?_)
  extract_lets _ _ _ d3 d4 _
  have h3 : o.Keeps d3 := k2.modCore
  have h4 : o.Keeps d4 := h3.slotAccess
  exact .answer h4.slotAccess

theorem Dev.KeepsBy.regInstr {c regs srs cost f} (h : o.Keeps d) : o.Keeps (d.regInstr c regs srs cost f) := by
  unfold Dev.regInstr
  exact h.instr (fun _ _ k1 => .answer k1.modCore)

theorem Dev.KeepsBy.memInstr {c regs srs store r addr step} (h : o.Keeps d) : o.Keeps (d.memInstr c regs srs store r addr step) := by
  unfold Dev.memInstr
  refine h.instr (fun _ _ k1 => ?_)
  extract_lets _ d2
  have h2 : o.Keeps d2 := k1.modCore
  exact .answer (.ite h2.coreStore h2.coreLoad)

theorem Dev.KeepsBy.dataPush {c r} (h : o.Keeps d) : o.Keeps (d.dataPush c r) := by
  unfold Dev.dataPush
  refine h.instr (fun _ _ k1 => ?_)
  extract_lets _ _
  exact .iteFst (.answer k1.modCore.otherFault.raiseTrap) (.answer k1.modCore.coreStore)

theorem Dev.KeepsBy.dataPop {c r} (h : o.Keeps d) : o.Keeps (d.dataPop c r) := by
  unfold Dev.dataPop
  exact h.memInstr

theorem Dev.KeepsBy.farIssue {c a ctl} (h : o.Keeps d) : o.Keeps (d.farIssue c a ctl).1 := by
  unfold Dev.farIssue
  split
  · exact h
  · extract_lets _ _ _ _ _
    exact .answer h.modCore

theorem Dev.KeepsBy.farCollect {c rd rs blocks} (h : o.Keeps d) : o.Keeps (d.farCollect c rd rs blocks) := by
  unfold Dev.farCollect
  refine h.instr (fun _ _ k1 => ?_)
  extract_lets _ _
  refine .iteFst (.answer k1.modCore) ?_
  split
  · exact .answer k1.modCore
  · exact .iteFst (.answer k1.modCore) (.answer k1.modCore)

theorem Dev.KeepsBy.mbWait {c rd rs} (h : o.Keeps d) : o.Keeps (d.mbWait c rd rs) := by
  unfold Dev.mbWait
  refine h.instr (fun _ _ k1 => ?_)
  extract_lets _
  split
  · exact .answer k1.modCore
  · exact .answer k1.modCore.setCoreState

theorem Dev.KeepsBy.branch {c k ofs} (h : o.Keeps d) : o.Keeps (d.branch c k ofs) := by
  unfold Dev.branch
  refine h.instr (fun _ _ k1 => ?_)
  extract_lets _
  exact .iteFst (.answer k1.modCore) (.answer k1.modCore)

theorem Dev.KeepsBy.pushEntry {c n ra} (h : o.Keeps d) : o.Keeps (d.pushEntry c n ra).1 := by
  unfold Dev.pushEntry
  extract_lets _ _ d1 d2 d3
  have h1 : o.Keeps d1 := .ite h.coreStore h
  have h2 : o.Keeps d2 := h1.modCore
  have h3 : o.Keeps d3 := .ite h2.otherFault.raiseTrap h2
  exact .iteFst (.answer h.haltCore) h3

theorem Dev.KeepsBy.callTo {c regs target} (h : o.Keeps d) : o.Keeps (d.callTo c regs target) := by
  unfold Dev.callTo
  refine h.instr (fun _ _ k1 => ?_)
  extract_lets _
  split
  have h2 := k1.pushEntry.ofFst ‹_›
  exact .answer (.ite h2.modCore h2)

theorem Dev.KeepsBy.popEntry {c n} (h : o.Keeps d) : o.KeepsOpt Prod.fst (d.popEntry c n) := by
  unfold Dev.popEntry
  extract_lets _ _ d1 _
  have h1 : o.Keeps d1 := h.modCore
  refine .ite (.none) ?_
  refine .ite (.some h1) ?_
  split
  have h2 := h1.loadWord.ofFst ‹_›
  split
  have h3 := h2.accCost.ofSnd ‹_›
  extract_lets d4
  have h4 : o.Keeps d4 := .ite h3 h3.accessFault
  exact .some (.answer h4.modCore)

theorem Dev.KeepsBy.popNothing {c} (h : o.Keeps d) : o.Keeps (d.popNothing c) := by
  unfold Dev.popNothing
  exact h.modCore.otherFault.raiseTrap

theorem Dev.KeepsBy.retFrom {c full} (h : o.Keeps d) : o.Keeps (d.retFrom c full) := by
  unfold Dev.retFrom
  refine h.instr (fun _ _ k1 => ?_)
  split
  · exact .answer k1.popNothing
  · have h2 := k1.popEntry.ofSomeFst ‹_›
    exact .answer h2.modCore

theorem Dev.KeepsBy.waitWord {c} (h : o.Keeps d) : o.Keeps (d.waitWord c) := by
  unfold Dev.waitWord
  refine h.instr (fun _ _ k1 => ?_)
  extract_lets d2
  have h2 : o.Keeps d2 := k1.modCore
  split
  · exact h2
  · exact .answer h2.modCore.setCoreState

theorem Dev.KeepsBy.tick (h : o.Keeps d) : o.Keeps d.tick := by
  unfold Dev.tick
  exact .ite h.oscSteps (.ite h.advance h.advance)

theorem Dev.KeepsBy.idle (h : o.Keeps d) : o.Keeps d.idle := by
  unfold Dev.idle
  split
  · exact h.tick
  · exact (h.tick.markNext.each (fun _ _ k1 => k1.parserAll)).settle

theorem Dev.KeepsBy.resetLow (h : o.Keeps d) : o.Keeps d.resetLow := by
  unfold Dev.resetLow
  refine .ite h ?_
  extract_lets d1
  have h1 : o.Keeps d1 := h.abortChange.hardHold.setOb.allOff
  exact h1.setOb.modSump

theorem Dev.KeepsBy.resetRelease {straps test flash} (h : o.Keeps d) : o.Keeps (d.resetRelease straps test flash) := by
  unfold Dev.resetRelease
  refine .ite h ?_
  extract_lets d1 d2 _ d3 _ d4
  have h1 : o.Keeps d1 := h.setOb.modSump
  have h2 : o.Keeps d2 := h1.modSump
  have h3 : o.Keeps d3 := by
    unfold d3
    split
    · exact h1.modSump
    · exact h1.modSump
    · extract_lets _
      exact h2.withStore
  have h4 : o.Keeps d4 := h3.logReset
  exact .ite h4 (.ite h4.logE h3.bootStart)

theorem Dev.KeepsBy.perst (h : o.Keeps d) : o.Keeps d.perst := by
  unfold Dev.perst
  extract_lets d1
  have h1 : o.Keeps d1 := h.modSump
  exact h1.withHost

theorem Dev.KeepsBy.startFailed {t} (h : o.Keeps d) : o.Keeps (d.startFailed t) := by
  unfold Dev.startFailed
  extract_lets _ d1
  have h1 : o.Keeps d1 := h.modTile
  exact .ite h1.logE h1

theorem Dev.KeepsBy.tileLost {t} (h : o.Keeps d) : o.Keeps (d.tileLost t) := by
  unfold Dev.tileLost
  extract_lets _ _ _ d1 d2 d3 d4 d5
  have h1 : o.Keeps d1 := h.tilePortsOff
  have h2 : o.Keeps d2 := h1.power.tileCleared.setOb.bump
  have h3 : o.Keeps d3 := h2.modTile.release
  have h4 : o.Keeps d4 := h3.logE
  have h5 : o.Keeps d5 := .ite h4.startFailed h4.modTile
  exact .ite h h5.todo

theorem Dev.KeepsBy.brownOut {rail} (h : o.Keeps d) (hr : rail ≠ 7) : o.Keeps (d.brownOut rail) := by
  rw [Dev.brownOut, if_neg hr]
  exact .ite h (.ite (.ite h h.tileLost) h.modSump)

theorem Dev.KeepsBy.bootLimit (h : o.Keeps d) : o.Keeps d.bootLimit := by
  unfold Dev.bootLimit
  refine .ite h ?_
  extract_lets d1 d2
  have h1 : o.Keeps d1 := h.upTo
  have h2 : o.Keeps d2 := h1.setOb.logE
  split
  have h3 := h2.fresh.ofSnd ‹_›
  exact h3.warmRestart

theorem Dev.KeepsBy.hostChunk (h : o.Keeps d) : o.Keeps d.hostChunk := by
  unfold Dev.hostChunk
  extract_lets _ d1 _ _ _ f2 f4 d6 _
  have h1 : o.Keeps d1 := h.readBell
  have hf2 : ∀ d x1 x2, o.Keeps d → o.Keeps (f2 d x1 x2) := fun _ _ _ k3 => k3.st.st
  have hf4 : ∀ d x1, o.Keeps d → o.Keeps (f4 d x1) := fun _ _ k5 => hf2 _ _ _ k5.modSump
  have h6 : o.Keeps d6 := h1.stAll.modSump
  exact .ite h (.ite (hf4 _ _ h1) (.ite (hf2 _ _ _ h6) (.ite (hf4 _ _ h6) ((((hf2 _ _ _ h6).st).modSump).bootRest))))

theorem Dev.KeepsBy.refAbsent (h : o.Keeps d) : o.Keeps d.refAbsent := by
  unfold Dev.refAbsent
  refine .ite h ?_
  extract_lets d1
  have h1 : o.Keeps d1 := h.modSump
  exact .ite h1 h1.hardHold.logE

theorem Dev.KeepsBy.refPresent (h : o.Keeps d) : o.Keeps d.refPresent := by
  unfold Dev.refPresent
  refine .ite h ?_
  extract_lets d1
  have h1 : o.Keeps d1 := h.modSump.logE
  exact .ite h1.bootStart (.ite h1 h1.warmRestart)

theorem Dev.KeepsBy.holdPinLow (h : o.Keeps d) : o.Keeps d.holdPinLow := by
  unfold Dev.holdPinLow
  exact .ite h h.modSump.hardHold.holdCause

theorem Dev.KeepsBy.holdPinHigh (h : o.Keeps d) : o.Keeps d.holdPinHigh := by
  unfold Dev.holdPinHigh
  refine .ite h ?_
  extract_lets d1
  have h1 : o.Keeps d1 := h.modSump
  exact h1.setOb.segsResume

theorem Dev.KeepsBy.storeDropped {agent a} (h : o.Keeps d) : o.Keeps (d.storeDropped agent a) := by
  unfold Dev.storeDropped
  split
  · exact h
  · refine .ite h ?_
    extract_lets d1 d2
    have h1 : o.Keeps d1 := h.st
    have h2 : o.Keeps d2 := h1.withStores
    exact .ite h2.withPoison h2

theorem Dev.KeepsBy.busTimeout {agent addr wr} (h : o.Keeps d) : o.Keeps (d.busTimeout agent addr wr) := by
  unfold Dev.busTimeout
  refine .ite (.ite h (.ite h.storeDropped h.emit)) ?_
  refine .ite h ?_
  extract_lets d1
  have h1 : o.Keeps d1 := .ite h.storeDropped h.modCore
  exact h1.accessFault

theorem Dev.KeepsBy.sumpWatchdog (h : o.Keeps d) : o.Keeps d.sumpWatchdog := by
  unfold Dev.sumpWatchdog
  exact .ite h h.upTo.warmRestart

theorem Dev.KeepsBy.modHost {f} (h : o.Keeps d) : o.Keeps (d.modHost f) := h.withHost

theorem Dev.KeepsBy.unmaskVec {v} (h : o.Keeps d) : o.Keeps (d.unmaskVec v) := by
  unfold Dev.unmaskVec
  extract_lets d1
  have h1 : o.Keeps d1 := h.modHost
  exact .ite h1.modHost.emit h1

theorem Dev.KeepsBy.vecPut {v f x} (h : o.Keeps d) : o.Keeps (d.vecPut v f x) := by
  unfold Dev.vecPut
  extract_lets _ f1
  have hf1 : ∀ x0, o.Keeps (f1 x0) := fun _ => h.modHost
  split
  · exact hf1 _
  · exact hf1 _
  · exact hf1 _
  · exact .ite h.modHost h.unmaskVec

theorem Dev.KeepsBy.modQuick {f} (h : o.Keeps d) : o.Keeps (d.modQuick f) := by
  unfold Dev.modQuick
  exact h.modDict

end Sys2Proof.Machine
end

section
/-! SUPPORT. What every step keeps, function by function, in the order in which the model uses them (spec 01, R15, R16; spec 04, R105): each lemma
follows its function's branches, one Keeps lemma for each function that it calls. -/
set_option Elab.async false
namespace Sys2Proof.Machine
variable {o d : Dev}

theorem Dev.KeepsBy.quickPut {f} (h : o.Keeps d) : o.Keeps (d.quickPut f) := by
  unfold Dev.quickPut
  exact .ite h.modQuick h.modQuick

theorem Dev.KeepsBy.quickCtrl {op} (h : o.Keeps d) : o.Keeps (d.quickCtrl op) := by
  unfold Dev.quickCtrl
  exact .ite h.modQuick (.ite h h.modQuick)

theorem Dev.KeepsBy.quickClear (h : o.Keeps d) : o.Keeps d.quickClear := by
  unfold Dev.quickClear
  exact h.modQuick

theorem Dev.KeepsBy.bar0Write {o' v} (h : o.Keeps d) : o.Keeps (d.bar0Write o' v) := by
  unfold Dev.bar0Write
  extract_lets _
  refine .ite h.ring ?_
  refine .ite h.mbStatusWrite ?_
  refine .ite (.ite h h.modHost) ?_
  refine .ite h.mbSend ?_
  refine .ite (.ite h.epochInc h) ?_
  split
  · exact h.quickPut
  · exact h.quickPut
  · exact h.quickPut
  · exact h.quickCtrl
  · exact .ite h.quickClear h
  · exact h

theorem Dev.KeepsBy.bar0Read {o'} (h : o.Keeps d) : o.Keeps (d.bar0Read o').1 := by
  unfold Dev.bar0Read
  extract_lets _ _
  refine .iteFst (.iteFst (.answer h.readBell) h) ?_
  refine .iteFst h ?_
  refine .iteFst h.mbRead ?_
  refine .iteFst h ?_
  refine .iteFst h ?_
  refine .iteFst h ?_
  refine .iteFst ?_ ?_
  · split
    have h1 := h.fresh.ofSnd ‹_›
    exact h1
  · split
    · exact h
    · exact h
    · exact h
    · exact h
    · exact h
    · exact .iteFst h (.iteFst h h)

theorem Dev.KeepsBy.bar4Write {a v} (h : o.Keeps d) : o.Keeps (d.bar4Write a v).1 := by
  unfold Dev.bar4Write
  exact .iteFst h.sharedStore h.blockWrite

theorem Dev.KeepsBy.laneWrite {bar o' v en} (h : o.Keeps d) : o.Keeps (d.laneWrite bar o' v en).1 := by
  unfold Dev.laneWrite
  extract_lets _
  split
  · exact h
  · exact .iteFst (.answer (.ite h h.vecPut)) (.iteFst h (.answer h.bar0Write))
  · extract_lets _ d1 _
    have h1 : o.Keeps d1 := h.iff (fun _ k2 => k2.recReady)
    refine .iteFst h ?_
    refine .iteFst h ?_
    refine .iteFst h ?_
    split
    have h3 := h1.bar4Write.ofFst ‹_›
    exact h3

theorem Dev.KeepsBy.hostRefusal {bad} (h : o.Keeps d) : o.Keeps (d.hostRefusal bad) := by
  unfold Dev.hostRefusal
  exact .ite h.bump.logE h

theorem Dev.KeepsBy.hostWrite {bar ofs lanes} (h : o.Keeps d) : o.Keeps (d.hostWrite bar ofs lanes) := by
  unfold Dev.hostWrite
  refine .ite h ?_
  extract_lets d1
  have h1 : o.Keeps d1.1 := by
    refine .foldlFst h (fun _ _ k2 => ?_)
    split
    have h3 := k2.laneWrite.ofFst ‹_›
    exact h3
  exact h1.hostRefusal

theorem Dev.KeepsBy.coreStoreAt {c a v} (h : o.Keeps d) : o.Keeps (d.coreStoreAt c a v) := by
  unfold Dev.coreStoreAt
  refine .ite h ?_
  split
  have h1 := h.farFirst.storeWord.ofFst ‹_›
  exact .ite h1 h1.accessFault

theorem Dev.KeepsBy.agentStore {agent a v} (h : o.Keeps d) : o.Keeps (d.agentStore agent a v) := by
  unfold Dev.agentStore
  exact .ite h.hostWrite h.coreStoreAt

theorem Dev.KeepsBy.writeReq {r key w} (h : o.Keeps d) : o.Keeps (d.writeReq r key w) := by
  unfold Dev.writeReq
  exact h.request

theorem Dev.KeepsBy.limpWaitEnds (h : o.Keeps d) : o.Keeps d.limpWaitEnds := by
  unfold Dev.limpWaitEnds
  split
  · exact .ite h.upTo.applyLimp h
  · split
    · exact .ite h.upTo h
    · exact h

theorem Dev.KeepsBy.limpReturn (h : o.Keeps d) : o.Keeps d.limpReturn := by
  unfold Dev.limpReturn
  split
  · exact .ite h.upTo.modeRequest h
  · exact h

theorem Dev.KeepsBy.wakeAlarm (h : o.Keeps d) : o.Keeps d.wakeAlarm := by
  unfold Dev.wakeAlarm
  extract_lets _ d1
  have h1 : o.Keeps d1 := h.upTo.setOb
  exact .ite h (.ite h1.wake h1)

theorem Dev.KeepsBy.thermalShutdown (h : o.Keeps d) : o.Keeps d.thermalShutdown := by
  unfold Dev.thermalShutdown
  extract_lets d1 d2
  have h1 : o.Keeps d1 := h.abortChange.hardHold
  have h2 : o.Keeps d2 := h1.setOb.modeEvent.allOff
  exact h2.logE

theorem Dev.KeepsBy.tjSample {temps sump} (h : o.Keeps d) : o.Keeps (d.tjSample temps sump) := by
  unfold Dev.tjSample
  extract_lets _ d1 _ d2 _ d4
  have h1 : o.Keeps d1 := h.modMm
  have h2 : o.Keeps d2 := h1.iff (fun _ k3 => k3.setOb)
  have h4 : o.Keeps d4 := .ite h2.modMm.logE.raise (.ite h2.modMm h2)
  exact .ite (h1.iff (fun _ k5 => k5.logE)) (.ite h1.thermalShutdown (.ite h1 (.ite h4.modMm.logE.limpCause (.ite h4.modMm.setOb h4))))

theorem Dev.KeepsBy.overClock (h : o.Keeps d) : o.Keeps d.overClock := by
  unfold Dev.overClock
  refine .ite h.modMm ?_
  refine .ite h.modMm ?_
  split
  · exact h.modMm
  · exact .ite h.modMm.setOb h

theorem Dev.KeepsBy.overrun (h : o.Keeps d) : o.Keeps d.overrun := by
  unfold Dev.overrun
  refine .ite ?_ (.ite h.modTap.todo h)
  refine .ite ?_ h
  extract_lets _ _ d1
  have h1 : o.Keeps d1 := h.modTap
  exact .ite h1.revokeWhile.recheck (.ite h1 h1.logE.todo)

theorem Dev.KeepsBy.railSample {mw} (h : o.Keeps d) : o.Keeps (d.railSample mw) := by
  unfold Dev.railSample
  extract_lets _ _ d1 d2
  have h1 : o.Keeps d1 := h.modTap
  have h2 : o.Keeps d2 := .ite h1.setOb h1
  exact h2.recheck

theorem Dev.KeepsBy.railStep {rails} (h : o.Keeps d) : o.Keeps (d.railStep rails) := by
  unfold Dev.railStep
  exact .ite h h.railSample.overrun.overClock

theorem Dev.KeepsBy.limpDraw (h : o.Keeps d) : o.Keeps d.limpDraw := by
  unfold Dev.limpDraw
  split
  · refine .ite ?_ h
    extract_lets d1
    have h1 : o.Keeps d1 := h.upTo.abortChange.hardHold
    exact h1.logE.modeEvent.allOff
  · exact h

theorem Dev.KeepsBy.tapMessage {release} (h : o.Keeps d) : o.Keeps (d.tapMessage release) := by
  unfold Dev.tapMessage
  extract_lets _ _ _ _ _ _ d1 _ _ _ f2
  have h1 : o.Keeps d1 := h.ackMail
  have hf2 : ∀ d x1, o.Keeps d → o.Keeps (f2 d x1) := fun _ _ k3 => k3.tapReply
  refine .ite h ?_
  refine .ite h ?_
  refine .ite (hf2 _ _ h1) ?_
  refine .ite (hf2 _ _ h1) ?_
  refine .ite ?_ ?_
  · split
    · exact h1.release.tapReply
    · exact hf2 _ _ h1
  · refine .ite (hf2 _ _ h1) ?_
    split
    · have h4 := h1.ask.ofFst ‹_›
      exact h4.tapReply
    · have h5 := h1.ask.ofFst ‹_›
      exact h5
    · have h6 := h1.ask.ofFst ‹_›
      exact hf2 _ _ h6
    · have h7 := h1.ask.ofFst ‹_›
      exact hf2 _ _ h7

theorem Dev.KeepsBy.tapWaitEnds (h : o.Keeps d) : o.Keeps d.tapWaitEnds := by
  unfold Dev.tapWaitEnds
  refine .ite h ?_
  split
  · exact h.upTo.tapWaits
  · exact h

theorem Dev.KeepsBy.eraseRenew (h : o.Keeps d) : o.Keeps d.eraseRenew := by
  unfold Dev.eraseRenew
  exact .ite h h.fwPermit

theorem Dev.KeepsBy.permitEnds (h : o.Keeps d) : o.Keeps d.permitEnds := by
  unfold Dev.permitEnds
  refine .ite h ?_
  split
  · exact h.upTo.tapExpire.recheck.eraseRenew
  · exact h

theorem Dev.KeepsBy.putIdle {key} (h : o.Keeps d) : o.Keeps (d.putIdle key) := by
  unfold Dev.putIdle
  split
  · exact .ite h.upTo.dropPut h
  · exact h

theorem Dev.KeepsBy.saveBundles (h : o.Keeps d) : o.Keeps d.saveBundles := by
  unfold Dev.saveBundles
  refine h.each (fun _ _ k1 => ?_)
  split
  · extract_lets _ d2
    have h2 : o.Keeps d2 := k1.withStoreBundles
    exact h2.setOb
  · exact k1.logE

theorem Dev.KeepsBy.saveEnd {ok} (h : o.Keeps d) : o.Keeps (d.saveEnd ok) := by
  unfold Dev.saveEnd
  split
  · exact h
  · extract_lets _ _ d1 d2
    have h1 : o.Keeps d1 := h.withStore
    have h2 : o.Keeps d2 := .ite h1.withStore.setOb.saveBundles h1.logE
    exact h2.release.complete

theorem Dev.KeepsBy.postNote {w} (h : o.Keeps d) : o.Keeps (d.postNote w) := by
  unfold Dev.postNote
  refine .ite h.st ?_
  extract_lets _
  exact h.stAll.st

theorem Dev.KeepsBy.notified {via : Via} {w : List Nat} (h : o.Keeps d) : o.Keeps (match via with
      | .hatch => d.postNote w
      | .aap k => (d.aapSend k.val 0x12 (bytesOf w)).1
      | .mgmt c => d.emit (.notify c.val w)
      | .aapOpen u addr =>
        if d.obb K.AAP_OPEN_READ then let (n, d) := d.fresh 32; d.emit (.aap u.val addr (aapDgram 0x12 0xFFFF n (bytesOf w) none)) else d
      | _ => d) := by
  split
  · exact h.postNote
  · exact h.aapSend
  · exact h.emit
  · refine .ite ?_ h
    split
    have h1 := h.fresh.ofSnd ‹_›
    exact h1.emit
  · exact h

theorem Dev.KeepsBy.subscribeSend {via num} (h : o.Keeps d) : o.Keeps (d.subscribeSend via num) := by
  unfold Dev.subscribeSend
  split
  · exact h
  · refine .ite h ?_
    extract_lets d1
    have h1 : o.Keeps d1 := h.upTo
    clear_value d1
    split
    · exact h1
    · extract_lets _ _ d2 d3
      have h2 : o.Keeps d2 := h1.modDict
      clear_value d2
      have h3 : o.Keeps d3 := h2.withFree
      clear_value d3
      exact .ite h1 h3.notified

theorem Dev.KeepsBy.withdraw {w} (h : o.Keeps d) : o.Keeps (d.withdraw w) := by
  unfold Dev.withdraw
  extract_lets f1
  have hf1 : ∀ d x1, o.Keeps d → o.Keeps (f1 d x1) := fun _ _ k2 => k2.modTap
  split
  · extract_lets d3
    have h3 : o.Keeps d3 := hf1 _ _ h
    split
    · extract_lets d4
      have h4 : o.Keeps d4 := by
        unfold d4
        split
        · exact h3.release
        · exact h3
      exact h4.modTile
    · exact h3.dropPut
    · exact h3.modDict
    · exact h3
  · extract_lets d5
    have h5 : o.Keeps d5 := by
      unfold d5
      split
      · exact h.release
      · exact h
    exact (hf1 _ _ h5).modPort
  · exact hf1 _ _ h
  · exact h.modMm.requestUndone.releaseAll
  · exact hf1 _ _ h
  · exact h
  · exact h

theorem Dev.KeepsBy.dictTimeout {r} (h : o.Keeps d) : o.Keeps (d.dictTimeout r) := by
  unfold Dev.dictTimeout
  split
  · exact h
  · refine .ite h ?_
    extract_lets d1 d2
    have h1 : o.Keeps d1 := h.upTo
    have h2 : o.Keeps d2 := .ite h1.tapWaits.drain h1
    split
    · exact h2
    · exact .ite h2 h2.withdraw.bump.recheck.complete

theorem Dev.KeepsBy.hostPut {bar ofs v} (h : o.Keeps d) : o.Keeps (d.hostPut bar ofs v) := by
  unfold Dev.hostPut
  exact h.hostWrite

theorem Dev.KeepsBy.authFail (h : o.Keeps d) : o.Keeps d.authFail := by
  unfold Dev.authFail
  exact h.bump

theorem Dev.KeepsBy.aapPlain {u addr kind body} (h : o.Keeps d) : o.Keeps (d.aapPlain u addr kind body) := by
  unfold Dev.aapPlain
  split
  have h1 := h.fresh.ofSnd ‹_›
  exact h1.emit

theorem Dev.KeepsBy.modSess {f} (h : o.Keeps d) : o.Keeps (d.modSess f) := by
  unfold Dev.modSess
  extract_lets d1
  have h1 : o.Keeps d1 := h.modDict
  exact h1.setOb

theorem Dev.KeepsBy.aapHello {u addr l} (h : o.Keeps d) : o.Keeps (d.aapHello u addr l) := by
  unfold Dev.aapHello
  split
  · exact h
  · refine .ite h ?_
    refine .ite h.authFail ?_
    refine .ite h.aapPlain ?_
    refine .ite h.aapPlain ?_
    split
    · exact h.aapPlain
    · split
      have h1 := h.fresh.ofSnd ‹_›
      extract_lets _ _
      exact h1.modSess.aapPlain

theorem Dev.KeepsBy.proofFails {u addr} (h : o.Keeps d) : o.Keeps (d.proofFails u addr) := by
  unfold Dev.proofFails
  extract_lets _ d1
  have h1 : o.Keeps d1 := h.authFail.modDict.aapPlain
  exact .ite h1 h1.modDict

theorem Dev.KeepsBy.aapProve {u addr l} (h : o.Keeps d) : o.Keeps (d.aapProve u addr l) := by
  unfold Dev.aapProve
  split
  · exact h
  · refine .ite h ?_
    refine .ite h.authFail ?_
    extract_lets _ f1
    have hf1 : ∀ d, o.Keeps d → o.Keeps (f1 d) := fun _ k2 => k2.modSess
    split
    · exact h.proofFails
    · refine .ite ((hf1 _ h).aapPlain) ?_
      refine .ite ((hf1 _ h).proofFails) ?_
      extract_lets _
      exact h.modSess.aapSend

theorem Dev.KeepsBy.sessClose {k} (h : o.Keeps d) : o.Keeps (d.sessClose k) := by
  unfold Dev.sessClose
  extract_lets _ _ _
  exact h.modSess.modDict

theorem Dev.KeepsBy.aapJudge {g} (h : o.Keeps d) : o.Keeps (d.aapJudge g).1 := by
  unfold Dev.aapJudge
  split
  · exact h
  · refine .iteFst (.answer h.sessClose) ?_
    refine .iteFst (.answer h.authFail) ?_
    extract_lets f1
    have hf1 : ∀ d, o.Keeps d → o.Keeps (f1 d) := fun _ k2 => k2.modSess
    split
    · exact hf1 _ h
    · exact .iteFst (hf1 _ h) h

theorem Dev.KeepsBy.aapNote {k seq tids} (h : o.Keeps d) : o.Keeps (d.aapNote k seq tids) := by
  unfold Dev.aapNote
  exact h.modSess

theorem Dev.KeepsBy.aapRequests {u addr l} (h : o.Keeps d) : o.Keeps (d.aapRequests u addr l) := by
  unfold Dev.aapRequests
  split
  · exact h
  · refine .ite h ?_
    split
    · have h1 := h.aapJudge.ofFst ‹_›
      exact h1
    · have h2 := h.aapJudge.ofFst ‹_›
      exact .foldl h2 (fun _ _ k3 => k3.emit)
    · have h4 := h.aapJudge.ofFst ‹_›
      extract_lets _
      exact .foldl h4.aapNote (fun _ _ k5 => k5.requestWords)

theorem Dev.KeepsBy.aapOpenRead {u addr l} (h : o.Keeps d) : o.Keeps (d.aapOpenRead u addr l) := by
  unfold Dev.aapOpenRead
  split
  · exact h
  · exact .ite h (.foldl h (fun _ _ k1 => k1.requestWords))

theorem Dev.KeepsBy.aapClose {u addr l} (h : o.Keeps d) : o.Keeps (d.aapClose u addr l) := by
  unfold Dev.aapClose
  split
  · exact h
  · refine .ite h ?_
    split
    · have h1 := h.aapJudge.ofFst ‹_›
      exact h1.sessClose
    · have h2 := h.aapJudge.ofFst ‹_›
      exact h2

theorem Dev.KeepsBy.aapIdle {k} (h : o.Keeps d) : o.Keeps (d.aapIdle k) := by
  unfold Dev.aapIdle
  split
  · exact h
  · exact .ite h.upTo.sessClose h

theorem Dev.KeepsBy.aapUnblock {addr} (h : o.Keeps d) : o.Keeps (d.aapUnblock addr) := by
  unfold Dev.aapUnblock
  split
  · exact h
  · exact h.upTo.modDict

theorem Dev.KeepsBy.bar4Read {a} (h : o.Keeps d) : o.Keeps (d.bar4Read a).1 := by
  unfold Dev.bar4Read
  exact .iteFst h.sharedRead (.iteFst h.blockRead (.iteFst h h))

theorem Dev.KeepsBy.laneRead {bar o'} (h : o.Keeps d) : o.Keeps (d.laneRead bar o').1 := by
  unfold Dev.laneRead
  split
  · exact h
  · split
    have h1 := h.bar0Read.ofFst ‹_›
    exact h1
  · extract_lets _
    refine .iteFst h ?_
    split
    have h2 := h.bar4Read.ofFst ‹_›
    exact h2

theorem Dev.KeepsBy.hostRead {bar ofs n} (h : o.Keeps d) : o.Keeps (d.hostRead bar ofs n) := by
  unfold Dev.hostRead
  refine .ite h ?_
  extract_lets d1
  have h1 : o.Keeps d1.1 := by
    refine .foldlFst h (fun _ _ k2 => ?_)
    split
    have h3 := k2.laneRead.ofFst ‹_›
    exact h3
  exact h1.hostRefusal.emit

theorem Dev.KeepsBy.repaired {l} (h : o.Keeps d) : o.Keeps (d.repaired l) := h.withEcc

theorem Dev.KeepsBy.noteErr {m u a} (h : o.Keeps d) : o.Keeps (d.noteErr m u a) := by
  unfold Dev.noteErr
  exact h.setOb.setOb

theorem Dev.KeepsBy.corrected {m u a} (h : o.Keeps d) : o.Keeps (d.corrected m u a) := by
  unfold Dev.corrected
  exact h.bump.noteErr.logSec

theorem Dev.KeepsBy.writeBack {bank place} (h : o.Keeps d) : o.Keeps (d.writeBack bank place) := by
  unfold Dev.writeBack
  extract_lets _ _
  exact .ite h.withEcc h.withEcc

theorem Dev.KeepsBy.cellPoisoned (h : o.Keeps d) : o.Keeps d.cellPoisoned := by
  unfold Dev.cellPoisoned
  extract_lets _
  split
  have h1 := h.fresh.ofSnd ‹_›
  split
  · exact h1
  · exact h1.modSw

theorem Dev.KeepsBy.poisonAt {m a l} (h : o.Keeps d) : o.Keeps (d.poisonAt m a l) := by
  unfold Dev.poisonAt
  refine .ite h.modSw ?_
  extract_lets d1
  have h1 : o.Keeps d1 := h.withPoison
  exact .ite h1.cellPoisoned h1

theorem Dev.KeepsBy.scrub {m u a err pass} (h : o.Keeps d) : o.Keeps (d.scrub m u a err pass) := by
  unfold Dev.scrub
  extract_lets _ d1 d3
  have h1 : o.Keeps d1 := h.iff (fun _ k2 => k2.repaired)
  have h3 : o.Keeps d3 := .ite h1 (.ite h1.corrected (.ite h1.corrected.writeBack h1.bump.noteErr.poisonAt.logE.raise))
  refine .ite h ?_
  split
  · exact h3
  · extract_lets d4
    have h4 : o.Keeps d4 := h3.setOb
    exact .ite h4.logE h4

theorem Dev.KeepsBy.probeTimeout {p} (h : o.Keeps d) : o.Keeps (d.probeTimeout p) := by
  unfold Dev.probeTimeout
  refine .ite h ?_
  extract_lets d1
  have h1 : o.Keeps d1 := h.upTo
  exact h1.portFlag.logE

theorem Dev.KeepsBy.busIntegrated {p} (h : o.Keeps d) : o.Keeps (d.busIntegrated p) := by
  unfold Dev.busIntegrated
  extract_lets d1
  have h1 : o.Keeps d1 := h.modBus
  exact .ite h1.setOb h1

theorem Dev.KeepsBy.portUpEvent {p parallel crossed} (h : o.Keeps d) : o.Keeps (d.portUpEvent p parallel crossed) := by
  unfold Dev.portUpEvent
  extract_lets _ d1 _ _ d2 d5
  have h1 : o.Keeps d1 := h.upTo
  have h2 : o.Keeps d2 := h1.iff (fun _ k3 => k3.portFlag.portFlag.iff (fun _ k4 => k4.logE))
  have h5 : o.Keeps d5 := h2.iff (fun _ k6 => k6.busIntegrated)
  exact .ite h5.portTo.bump.logE.degCheck (.ite h.busIntegrated.modPort h)

theorem Dev.KeepsBy.portDown {p} (h : o.Keeps d) : o.Keeps (d.portDown p) := by
  unfold Dev.portDown
  exact .ite h.portTo.t1lReserve h

theorem Dev.KeepsBy.degWindow {p} (h : o.Keeps d) : o.Keeps (d.degWindow p) := by
  unfold Dev.degWindow
  refine .ite h ?_
  extract_lets _ d1 _ _ _ d2
  have h1 : o.Keeps d1 := h.upTo
  have h2 : o.Keeps d2 := h1.modPort
  exact .ite h2.portTo.logE h2

theorem Dev.KeepsBy.anRound {p} (h : o.Keeps d) : o.Keeps (d.anRound p) := by
  unfold Dev.anRound
  exact .ite h.errCount h

theorem Dev.KeepsBy.t1lLevel {p partner} (h : o.Keeps d) : o.Keeps (d.t1lLevel p partner) := by
  unfold Dev.t1lLevel
  refine .ite h ?_
  extract_lets _ _ d1 _ _ _ _ _ d2
  have h1 : o.Keeps d1 := h.t1lReserve
  have h2 : o.Keeps d2 := h1.portFlag
  exact .ite h1.errCount (.ite h2.t1lUnask.dropRes h2)

theorem Dev.KeepsBy.busSwap {p} (h : o.Keeps d) : o.Keeps (d.busSwap p) := by
  unfold Dev.busSwap
  extract_lets _ d1 d2
  have h1 : o.Keeps d1 := h.portFlag.bump.logE
  have h2 : o.Keeps d2 := h1.iff (fun _ k3 => k3.errCount)
  exact .ite h (.ite h2.busIntegrate.modPort h2)

theorem Dev.KeepsBy.idleEval {p mv} (h : o.Keeps d) : o.Keeps (d.idleEval p mv) := by
  unfold Dev.idleEval
  extract_lets _ _ d1
  have h1 : o.Keeps d1 := h.modPort
  exact .ite h (.ite (.ite h1.portFlag.modPort.bump.logE (.ite h1 h1.portFlag.bump.logE.degCheck)) (.ite h1.portFlag h1))

theorem Dev.KeepsBy.recalEnd {p} (h : o.Keeps d) : o.Keeps (d.recalEnd p) := by
  unfold Dev.recalEnd
  split
  · exact h
  · extract_lets d1 d2
    have h1 : o.Keeps d1 := h.upTo.modPort.portFlag
    have h2 : o.Keeps d2 := h1.iff (fun _ k3 => k3.busIntegrate.modPort)
    exact .ite h2.calNext h2

theorem Dev.KeepsBy.tileAnswered {t} (h : o.Keeps d) : o.Keeps (d.tileAnswered t) := by
  unfold Dev.tileAnswered
  extract_lets _
  split
  · exact .ite h.release.modTile.complete h.tileBegin.complete
  · exact h.modTile.complete
  · exact h

theorem Dev.KeepsBy.autoUp {p} (h : o.Keeps d) : o.Keeps (d.autoUp p) := by
  unfold Dev.autoUp
  exact .ite h.bringUp h

theorem Dev.KeepsBy.tileStarted {t ok} (h : o.Keeps d) : o.Keeps (d.tileStarted t ok) := by
  unfold Dev.tileStarted
  extract_lets _
  split
  · exact h
  · extract_lets _ d1 d2 d3 d4 d5 d6 d8
    have h1 : o.Keeps d1 := .ite h h.upTo
    have h2 : o.Keeps d2 := h1.modTile.release
    have h3 : o.Keeps d3 := h2.setOb.tileMeasured
    have h4 : o.Keeps d4 := h3.modTile
    have h5 : o.Keeps d5 := h4.logE
    have h6 : o.Keeps d6 := h5.iff (fun _ k7 => k7.setOb)
    have h8 : o.Keeps d8 := h2.power.tileCleared.setOb
    exact .ite (h6.each (fun _ _ k9 => k9.autoUp)) ((h8.each (fun _ _ k10 => k10.dropRes)).startFailed)

theorem Dev.KeepsBy.tileAuto {t} (h : o.Keeps d) : o.Keeps (d.tileAuto t) := by
  unfold Dev.tileAuto
  split
  · exact h
  · refine .ite h ?_
    extract_lets d1 _
    have h1 : o.Keeps d1 := h.upTo
    exact .ite h1.modTile h1.tileAsk

theorem Dev.KeepsBy.failAttempt {p} (h : o.Keeps d) : o.Keeps (d.failAttempt p) := by
  unfold Dev.failAttempt
  extract_lets d1 d2 _
  have h1 : o.Keeps d1 := h.modPort.bump
  have h2 : o.Keeps d2 := h1.logE
  exact .ite h2.portQuarantine h2.retryWait

theorem Dev.KeepsBy.overBoth {p pin} (h : o.Keeps d) : o.Keeps (d.overBoth p pin) := by
  unfold Dev.overBoth
  refine .ite ?_ h
  extract_lets d1
  have h1 : o.Keeps d1 := (h.iff (fun _ k2 => k2.setOb)).modPort
  exact h1.setOb.setOb.bump

theorem Dev.KeepsBy.lineFault {p pin cause counter} (h : o.Keeps d) : o.Keeps (d.lineFault p pin cause counter) := by
  unfold Dev.lineFault
  extract_lets x3 _ d1 d2
  have h1 : o.Keeps d1 := h.setOb.bump
  have h2 : o.Keeps d2 := h1.portTo.logE.modPort
  refine .ite h ?_
  clear_value x3
  split
  · exact h.setOb.release.failAttempt
  · exact .ite h.overBoth h
  · exact .ite h.overBoth h
  · exact .ite h (.ite h2.portQuarantine h2.retryWait)

theorem Dev.KeepsBy.overVolt {p pin cv} (h : o.Keeps d) : o.Keeps (d.overVolt p pin cv) := by
  unfold Dev.overVolt
  exact .ite h.lineFault h

theorem Dev.KeepsBy.retryAsk {p} (h : o.Keeps d) : o.Keeps (d.retryAsk p) := by
  unfold Dev.retryAsk
  split
  · refine .ite h ?_
    split
    · have h1 := h.upTo.ask.ofFst ‹_›
      exact h1.modPort
    · have h2 := h.upTo.ask.ofFst ‹_›
      exact h2.modPort
    · have h3 := h.upTo.ask.ofFst ‹_›
      exact h3.modPort
  · exact h

theorem Dev.KeepsBy.retryGo {p cv} (h : o.Keeps d) : o.Keeps (d.retryGo p cv) := by
  unfold Dev.retryGo
  split
  · exact h.retryWait
  · exact .ite h.modPort h.release.failAttempt
  · exact h

theorem Dev.KeepsBy.retryEnd {p} (h : o.Keeps d) : o.Keeps (d.retryEnd p) := by
  unfold Dev.retryEnd
  split
  · extract_lets d1
    have h1 : o.Keeps d1 := h.upTo.release
    exact .ite h1.modPort.bringUp h1.probe
  · exact h

theorem Dev.KeepsBy.retryReset {p} (h : o.Keeps d) : o.Keeps (d.retryReset p) := by
  unfold Dev.retryReset
  exact .ite h.upTo.modPort h

theorem Dev.KeepsBy.tdrAcquired {p} (h : o.Keeps d) : o.Keeps (d.tdrAcquired p) := by
  unfold Dev.tdrAcquired
  split
  · refine .ite ?_ h
    extract_lets d1
    have h1 : o.Keeps d1 := h.upTo.modTile
    exact h1.release
  · exact h

theorem Dev.KeepsBy.tdrProcessed {p traces} (h : o.Keeps d) : o.Keeps (d.tdrProcessed p traces) := by
  unfold Dev.tdrProcessed
  split
  · refine .ite h ?_
    extract_lets _ _ _ _ _ d1 d2 d4 d5 d6
    have h1 : o.Keeps d1 := h.event.setDom
    have h2 : o.Keeps d2 := h1.each (fun _ _ k3 => k3.setOb)
    have h4 : o.Keeps d4 := h2.setOb.setOb
    have h5 : o.Keeps d5 := h4.setOb.setOb
    have h6 : o.Keeps d6 := h5.modTile.bump
    exact h6.logE.raise
  · exact h

theorem Dev.KeepsBy.flutterEnd {p i} (h : o.Keeps d) : o.Keeps (d.flutterEnd p i) := by
  unfold Dev.flutterEnd
  extract_lets _ _ d1 _
  have h1 : o.Keeps d1 := h.upTo
  exact h1.modDin

theorem Dev.KeepsBy.stuckEnd {p i} (h : o.Keeps d) : o.Keeps (d.stuckEnd p i) := by
  unfold Dev.stuckEnd
  extract_lets _ _
  exact .ite h h.upTo.modDin.logE.degCheck

theorem Dev.KeepsBy.wbTest {p i cv} (h : o.Keeps d) : o.Keeps (d.wbTest p i cv) := by
  unfold Dev.wbTest
  extract_lets _ _ d1 _ d2
  have h1 : o.Keeps d1 := h.modDin
  have h2 : o.Keeps d2 := h1.modDin
  exact .ite h (.ite h1.modDin (.ite h2.logE h2))

theorem Dev.KeepsBy.supplyTimer {t dv} (h : o.Keeps d) : o.Keeps (d.supplyTimer t dv) := by
  unfold Dev.supplyTimer
  refine .ite h ?_
  extract_lets d1 _
  have h1 : o.Keeps d1 := h.setOb
  exact .ite h1.setOb.bump.logE (.ite h1.setOb h1)

theorem Dev.KeepsBy.encIndex {p rise} (h : o.Keeps d) : o.Keeps (d.encIndex p rise) := by
  unfold Dev.encIndex
  exact .ite (.ite h.modPort h) (.ite h.setOb.setOb.modPort h)

theorem Dev.KeepsBy.encIllegal {p} (h : o.Keeps d) : o.Keeps (d.encIllegal p) := by
  unfold Dev.encIllegal
  exact .ite h.modPort.bump.logSec h

theorem Dev.KeepsBy.macBump {m port up} (h : o.Keeps d) : o.Keeps (d.macBump m port up) := by
  unfold Dev.macBump
  exact h.bump

theorem Dev.KeepsBy.lineErr {m} (h : o.Keeps d) : o.Keeps (d.lineErr m) := by
  unfold Dev.lineErr
  exact .ite h.errCount h

theorem Dev.KeepsBy.pauseRx {m quanta ends} (h : o.Keeps d) : o.Keeps (d.pauseRx m quanta ends) := by
  unfold Dev.pauseRx
  extract_lets d1
  have h1 : o.Keeps d1 := h.macBump
  exact .ite h1.modMac h1

theorem Dev.KeepsBy.servo {n} (h : o.Keeps d) : o.Keeps (d.servo n) := by
  unfold Dev.servo
  split
  have h1 := h.fresh.ofSnd ‹_›
  extract_lets d2
  have h2 : o.Keeps d2 := h1.iff (fun _ k3 => k3.event.modTb)
  split
  have h4 := h2.fresh.ofSnd ‹_›
  exact h4.iff (fun _ k5 => k5.startSlew)

theorem Dev.KeepsBy.asSync (h : o.Keeps d) : o.Keeps d.asSync := by
  unfold Dev.asSync
  extract_lets _
  split
  have h1 := h.fresh.ofSnd ‹_›
  extract_lets d2
  have h2 : o.Keeps d2 := h1.setOb.servo
  exact .ite h2.setSynced h2

theorem Dev.KeepsBy.asAnswers {m t l} (h : o.Keeps d) : o.Keeps (d.asAnswers m t l).2 := by
  unfold Dev.asAnswers
  extract_lets _
  split
  have h1 := h.fresh.ofSnd ‹_›
  extract_lets _ _
  exact h1

theorem Dev.KeepsBy.sendFrame {e data bad cause} (h : o.Keeps d) : o.Keeps (d.sendFrame e data bad cause) := by
  unfold Dev.sendFrame
  split
  extract_lets _ _ _ _ _ _ _ _ _
  exact .ite h h.modSw

theorem Dev.KeepsBy.asAnnounce {p} (h : o.Keeps d) : o.Keeps (d.asAnnounce p) := by
  unfold Dev.asAnnounce
  split
  have h1 := h.fresh.ofSnd ‹_›
  extract_lets _ _ d2 _
  have h2 : o.Keeps d2 := h1.setOb
  exact h2.withTime

theorem Dev.KeepsBy.asFrame {listed m t l} (h : o.Keeps d) : o.Keeps (d.asFrame listed m t l) := by
  unfold Dev.asFrame
  extract_lets _ _
  refine .ite h ?_
  split
  · exact h.iff (fun _ k1 => k1.asSync)
  · split
    have h2 := h.asAnswers.ofSnd ‹_›
    exact .foldl h2 (fun _ _ k3 => k3.sendFrame)
  · exact h.iff (fun _ k4 => k4.asSync)
  · refine h.iff (fun _ k5 => ?_)
    split
    have h6 := k5.fresh.ofSnd ‹_›
    exact h6.setOb
  · exact h.asAnnounce
  · exact h

theorem Dev.KeepsBy.serve {u l e a} (h : o.Keeps d) : o.Keeps (d.serve u l e a) := by
  unfold Dev.serve
  split
  · exact h.sendFrame
  · exact h.sendFrame
  · exact h.sendFrame

theorem Dev.KeepsBy.deviceRx {u l e} (h : o.Keeps d) : o.Keeps (d.deviceRx u l e) := by
  unfold Dev.deviceRx
  split
  · exact .ite h.serve.asFrame h
  · exact .ite h h.bump

theorem Dev.KeepsBy.macRx {m pre frame sym odd cut block headOut} (h : o.Keeps d) : o.Keeps (d.macRx m pre frame sym odd cut block headOut) := by
  unfold Dev.macRx
  refine .ite h ?_
  refine .ite h.bump ?_
  refine .ite ?_ ?_
  · extract_lets d1
    have h1 : o.Keeps d1 := .ite h.macBump h
    exact .ite h1 h1.macBump
  · extract_lets _ _ _ _ _ d2 d3 d4 d5 d6 d7 _ _ _ _ d8 _ _
    have h2 : o.Keeps d2 := .ite h.macBump h
    have h3 : o.Keeps d3 := .ite h2.macBump h2
    have h4 : o.Keeps d4 := .ite h3.macBump.lineErr h3
    have h5 : o.Keeps d5 := .ite h4.macBump.lineErr h4
    have h6 : o.Keeps d6 := .ite h5.macBump.lineErr h5
    have h7 : o.Keeps d7 := .ite h6.macBump h6
    have h8 : o.Keeps d8 := .ite h7 h7.macBump.bumpBy
    refine .ite (.ite (.ite h7.macBump h7.pauseRx) h7.macBump) ?_
    split
    refine .ite h7.macBump ?_
    extract_lets _
    exact .ite (h8.iff (fun _ k9 => k9.deviceRx)) (.ite h8.asFrame h8.toParser)

theorem Dev.KeepsBy.pauseEnds {m} (h : o.Keeps d) : o.Keeps (d.pauseEnds m) := by
  unfold Dev.pauseEnds
  split
  · extract_lets d1
    have h1 : o.Keeps d1 := h.upTo
    exact h1.modMac
  · exact h

theorem Dev.KeepsBy.coreLoadAt {c a} (h : o.Keeps d) : o.Keeps (d.coreLoadAt c a) := by
  unfold Dev.coreLoadAt
  refine .ite h ?_
  split
  have h1 := h.loadWord.ofFst ‹_›
  exact .ite h1.emit h1.accessFault

theorem Dev.KeepsBy.agentLoad {agent a} (h : o.Keeps d) : o.Keeps (d.agentLoad agent a) := by
  unfold Dev.agentLoad
  exact .ite h.hostRead h.coreLoadAt

theorem Dev.KeepsBy.upLink {u} (h : o.Keeps d) : o.Keeps (d.upLink u) := by
  unfold Dev.upLink
  exact .ite h.upSet h

theorem Dev.KeepsBy.upFaulted {u remote} (h : o.Keeps d) : o.Keeps (d.upFaulted u remote) := by
  unfold Dev.upFaulted
  extract_lets _ _
  exact .ite (.ite h.upSet h) (.ite h.upSet.modUp.upSending.bump.logE (.ite h.modUp.upSending h))

theorem Dev.KeepsBy.upCleared {u} (h : o.Keeps d) : o.Keeps (d.upCleared u) := by
  unfold Dev.upCleared
  exact .ite h.upTo.upSet.upSending h

theorem Dev.KeepsBy.deviceFrame {u l} (h : o.Keeps d) : o.Keeps (d.deviceFrame u l) := by
  unfold Dev.deviceFrame
  extract_lets _ _ _
  refine .ite h ?_
  split
  extract_lets _
  exact h.deviceRx

theorem Dev.KeepsBy.upToOn {n ns} (h : o.Keeps d) : o.Keeps (d.upToOn n ns) := by
  unfold Dev.upToOn
  exact h.upTo

theorem Dev.KeepsBy.gclTake {u} (h : o.Keeps d) : o.Keeps (d.gclTake u) := by
  unfold Dev.gclTake
  split
  · exact h
  · extract_lets d1
    have h1 : o.Keeps d1 := h.upToOn
    exact h1.modUp.setOb

theorem Dev.KeepsBy.gclNext {u} (h : o.Keeps d) : o.Keeps (d.gclNext u) := by
  unfold Dev.gclNext
  split
  · exact h
  · extract_lets d1
    have h1 : o.Keeps d1 := h.upToOn
    exact h1.modUp

theorem Dev.KeepsBy.busSelect {p} (h : o.Keeps d) : o.Keeps (d.busSelect p) := by
  unfold Dev.busSelect
  extract_lets _
  refine .ite h ?_
  split
  · exact h
  · extract_lets d1
    have h1 : o.Keeps d1 := h.setTxState.upTo
    exact h1.modBus

theorem Dev.KeepsBy.onWire {o' x} (h : o.Keeps d) : o.Keeps (d.onWire o' x) := by
  unfold Dev.onWire
  exact .ite h.modMac h.emit

theorem Dev.KeepsBy.busOff {p} (h : o.Keeps d) : o.Keeps (d.busOff p) := by
  unfold Dev.busOff
  extract_lets _ d1 d3
  have h1 : o.Keeps d1 := h.event.each (fun _ _ k2 => k2.setTxState)
  have h3 : o.Keeps d3 := h1.modBus.bumpBy
  exact h3.setOb.logE.bump.raise

theorem Dev.KeepsBy.confine {p} (h : o.Keeps d) : o.Keeps (d.confine p) := by
  unfold Dev.confine
  extract_lets _ _
  exact .ite h (.ite h.busOff (.ite (.ite h.setOb.logE h) (.ite h.setOb h)))

theorem Dev.KeepsBy.busErr {p} (h : o.Keeps d) : o.Keeps (d.busErr p) := by
  unfold Dev.busErr
  exact h.errCount

theorem Dev.KeepsBy.busFlagSent {p} (h : o.Keeps d) : o.Keeps (d.busFlagSent p) := by
  unfold Dev.busFlagSent
  exact h.bump.onWire

theorem Dev.KeepsBy.attemptEnd {p res tdc} (h : o.Keeps d) : o.Keeps (d.attemptEnd p res tdc) := by
  unfold Dev.attemptEnd
  split
  · exact h
  · extract_lets _ d1 d2 f5
    have h1 : o.Keeps d1 := by
      unfold d1
      split
      · exact .ite h.setOb h
      · exact h
    have h2 : o.Keeps d2 := by
      refine h1.iff (fun _ k3 => ?_)
      refine .ite k3.modBus ?_
      extract_lets d4
      have h4 : o.Keeps d4 := k3.modBus
      exact h4.withFree
    have hf5 : ∀ d, o.Keeps d → o.Keeps (f5 d) := fun _ k6 => k6.modBus
    split
    · split
      extract_lets d7 d8 d9 d10
      have h7 : o.Keeps d7 := h2.onWire.event.setTxState.bump
      have h8 : o.Keeps d8 := h7.bsetAll
      have h9 : o.Keeps d9 := h8.bset.setDone.twin
      have h10 : o.Keeps d10 := by
        unfold d10
        split
        · exact h9.modBus.postTs
        · exact h9
      exact (hf5 _ h10.setOb).confine
    · exact hf5 _ h2.retryBuf.bump.twin
    · extract_lets _ d11 d12 d13
      have h11 : o.Keeps d11 := h2.retryBuf.busFlagSent.busErr.twin
      have h12 : o.Keeps d12 := h11.setOb
      have h13 : o.Keeps d13 := .ite h12 h12.setOb
      exact (hf5 _ h13).confine

theorem Dev.KeepsBy.storeRx {p o' ovr words} (h : o.Keeps d) : o.Keeps (d.storeRx p o' ovr words) := by
  unfold Dev.storeRx
  refine h.withFull (fun _ k1 => ?_)
  extract_lets d2 _ _ f3
  have h2 : o.Keeps d2 := k1.event
  have hf3 : ∀ d, o.Keeps d → o.Keeps (f3 d) := fun _ k4 => k4.bset.bump
  exact .ite h2.frontWords.bset (.ite h2.modBus.bset (.ite (hf3 _ h2.modBus) (hf3 _ h2)))

theorem Dev.KeepsBy.busRx {p w0 w1 data ago} (h : o.Keeps d) : o.Keeps (d.busRx p w0 w1 data ago) := by
  unfold Dev.busRx
  extract_lets d1 _ _ _ _ _ _ _ d3 _ d4 d5 d6 x8 d7 _
  have h1 : o.Keeps d1 := h.iff (fun _ k2 => k2.busIntegrated)
  have h3 : o.Keeps d3 := h1.bump
  have h4 : o.Keeps d4 := h3.setOb
  have h5 : o.Keeps d5 := .ite h3 (.ite h4.withFree h3.setOb)
  have h6 : o.Keeps d6 := h5.confine
  have h7 : o.Keeps d7 := by
    unfold d7
    clear_value x8
    split
    · exact h6.storeRx
    · exact h6
  exact .ite h1 (.ite h1.bump (.ite h7.toParser h7))

theorem Dev.KeepsBy.busRxError {p code} (h : o.Keeps d) : o.Keeps (d.busRxError p code) := by
  unfold Dev.busRxError
  refine .ite h ?_
  extract_lets d1
  have h1 : o.Keeps d1 := h.bump.busErr.setOb
  exact .ite h1 h1.busFlagSent.busErr.setOb.confine

theorem Dev.KeepsBy.busException {p} (h : o.Keeps d) : o.Keeps (d.busException p) := by
  unfold Dev.busException
  exact .ite h (.ite h.bump.setOb.logSec h.busRxError)

theorem Dev.KeepsBy.badHeads {o'} (h : o.Keeps d) : o.Keeps (d.badHeads o') := by
  unfold Dev.badHeads
  refine h.each (fun _ _ k1 => ?_)
  extract_lets _ _ d2
  have h2 : o.Keeps d2 := .foldl k1 (fun _ _ k3 => k3.dropTs)
  exact .ite k1 h2.modQueue.bumpBy

theorem Dev.KeepsBy.drr {qb key ready hasHead fuel k} (h : o.Keeps d) : o.Keeps (d.drr qb key ready hasHead fuel k).1 := by
  induction fuel generalizing d k with
  | zero => exact h
  | succ fuel ih =>
    unfold Dev.drr
    exact .iteFst (.iteFst (ih h) h) (.iteFst (ih (.ite h h.modSw)) (.iteFst (ih h.modSw) (.answer h.modSw)))

theorem Dev.KeepsBy.pick {qb key ready hasHead} (h : o.Keeps d) : o.Keeps (d.pick qb key ready hasHead).1 := by
  unfold Dev.pick
  split
  · exact h
  · exact .iteFst h.drr (.answer h.modSw)

theorem Dev.KeepsBy.fillBuf {p b f} (h : o.Keeps d) : o.Keeps (d.fillBuf p b f) := by
  unfold Dev.fillBuf
  extract_lets _ _ _ _ d1 d2
  have h1 : o.Keeps d1 := h.bsetAll
  have h2 : o.Keeps d2 := .ite h1.modBus h1
  exact h2.sendBuf

theorem Dev.KeepsBy.busRefill {p} (h : o.Keeps d) : o.Keeps (d.busRefill p) := by
  unfold Dev.busRefill
  extract_lets _ d1 _ _ _
  have h1 : o.Keeps d1 := h.badHeads
  refine .ite h ?_
  split
  · exact h
  · split
    · have h2 := h1.pick.ofFst ‹_›
      exact h2
    · have h3 := h1.pick.ofFst ‹_›
      split
      · exact h3
      · exact h3.modQueue.chargeEnd.fillBuf

theorem Dev.KeepsBy.busRecovered {p} (h : o.Keeps d) : o.Keeps (d.busRecovered p) := by
  unfold Dev.busRecovered
  refine .ite h ?_
  extract_lets _ d1
  have h1 : o.Keeps d1 := h.event.each (fun _ _ k2 => k2.setTxState)
  exact h1.setOb.setOb.setOb.logE

theorem Dev.KeepsBy.issue {c f} (h : o.Keeps d) (hf : ∀ d, o.Keeps d → o.Keeps (f d)) : o.Keeps (d.issue c f) := by
  unfold Dev.issue
  exact .ite (hf _ h.upTo) h

theorem Dev.KeepsBy.flipLand {c} (h : o.Keeps d) : o.Keeps (d.flipLand c) := by
  unfold Dev.flipLand
  exact .ite h.flip h

theorem Dev.KeepsBy.rnNext {c pc extra} (h : o.Keeps d) : o.Keeps (d.rnNext c pc extra) := by
  unfold Dev.rnNext
  extract_lets d1
  have h1 : o.Keeps d1 := h.setOb.modChan
  exact .ite h1.flipLand h1

theorem Dev.KeepsBy.sees {c lin} (h : o.Keeps d) : o.Keeps (d.sees c lin) := by
  unfold Dev.sees
  exact h.modChan

theorem Dev.KeepsBy.rnBlock {c b} (h : o.Keeps d) : o.Keeps (d.rnBlock c b) := by
  unfold Dev.rnBlock
  exact h.modChan

theorem Dev.KeepsBy.rnWaitFor {c dly mode v} (h : o.Keeps d) : o.Keeps (d.rnWaitFor c dly mode v) := by
  unfold Dev.rnWaitFor
  extract_lets _
  exact .ite h.rnNext h.modChan.rnBlock

theorem Dev.KeepsBy.setXY {c toY v} (h : o.Keeps d) : o.Keeps (d.setXY c toY v) := by
  unfold Dev.setXY
  exact h.modChan

theorem Dev.KeepsBy.rnTake {c dly toY nb} (h : o.Keeps d) : o.Keeps (d.rnTake c dly toY nb) := by
  unfold Dev.rnTake
  split
  · exact h.setXY.modChan.rnNext
  · exact .ite h.rnNext h.rnBlock

theorem Dev.KeepsBy.rnPlain {c dly f} (h : o.Keeps d) (hf : ∀ d, o.Keeps d → o.Keeps (f d)) : o.Keeps (d.rnPlain c dly f) := by
  unfold Dev.rnPlain
  exact h.issue (fun _ k1 => (hf _ k1).rnNext)

theorem Dev.KeepsBy.faultChan {c poisoned} (h : o.Keeps d) : o.Keeps (d.faultChan c poisoned) := by
  unfold Dev.faultChan
  extract_lets d1
  have h1 : o.Keeps d1 := h.setOb.modChan
  exact h1.chFlag.logE.raise

theorem Dev.KeepsBy.txTake {c sym cont first} (h : o.Keeps d) : o.Keeps (d.txTake c sym cont first) := by
  unfold Dev.txTake
  extract_lets _ _ x5 d1 d2 d3
  have h1 : o.Keeps d1 := h.modChan
  have h2 : o.Keeps d2 := by
    unfold d2
    clear_value x5
    split
    · exact h1.postTs
    · exact h1
  have h3 : o.Keeps d3 := .ite h2.postTs h2
  exact h3.iff (fun _ k4 => k4.emit)

theorem Dev.KeepsBy.txLoad {c} (h : o.Keeps d) : o.Keeps (d.txLoad c) := by
  unfold Dev.txLoad
  extract_lets _
  split
  · exact .ite h h.modChan.txTake
  · exact h

theorem Dev.KeepsBy.rnOutSym {c dly sym cont first} (h : o.Keeps d) : o.Keeps (d.rnOutSym c dly sym cont first) := by
  unfold Dev.rnOutSym
  exact h.modChan.txLoad.rnNext

theorem Dev.KeepsBy.txEmpty {c} (h : o.Keeps d) : o.Keeps (d.txEmpty c) := by
  unfold Dev.txEmpty
  exact .ite (Dev.KeepsBy.rnBlock (.ite h h.chFlag)) h.rnBlock

theorem Dev.KeepsBy.fillTx {c fuel} (h : o.Keeps d) : o.Keeps (d.fillTx c fuel) := by
  induction fuel generalizing d with
  | zero => exact h
  | succ fuel ih =>
    unfold Dev.fillTx
    split
    · exact h
    · exact .ite h (ih h.modChan.modSw)

theorem Dev.KeepsBy.dropTxEnt {c} (h : o.Keeps d) : o.Keeps (d.dropTxEnt c) := by
  unfold Dev.dropTxEnt
  exact h.modChan.fillTx

theorem Dev.KeepsBy.rnOutTxfN {c dly cont fuel} (h : o.Keeps d) : o.Keeps (d.rnOutTxfN c dly cont fuel) := by
  induction fuel generalizing d with
  | zero => exact h.txEmpty
  | succ fuel ih =>
    unfold Dev.rnOutTxfN
    extract_lets _ _ d1 d2
    have h1 : o.Keeps d1 := h.dropTxEnt
    have h2 : o.Keeps d2 := h1.modChan.bump
    split
    · exact h.txEmpty
    · extract_lets _ _ _ _ _ _ _ d3 d4 d5
      have h3 : o.Keeps d3 := h.modChan
      have h4 : o.Keeps d4 := .ite h3.dropTxEnt h3
      have h5 : o.Keeps d5 := .ite h4.bump h4
      refine .ite (.ite (ih h1) ?_) h5.rnOutSym
      split
      · exact ih h2
      · exact h2.modChan.rnOutSym

theorem Dev.KeepsBy.rnOutTxf {c dly cont} (h : o.Keeps d) : o.Keeps (d.rnOutTxf c dly cont) := by
  unfold Dev.rnOutTxf
  exact .ite h.faultChan h.rnOutTxfN

theorem Dev.KeepsBy.rnOutOf {c dly cont source lit} (h : o.Keeps d) : o.Keeps (d.rnOutOf c dly cont source lit) := by
  unfold Dev.rnOutOf
  extract_lets _
  refine .ite h.faultChan ?_
  refine .ite h.rnBlock ?_
  split
  · exact h.rnOutSym
  · exact h.rnOutSym
  · exact h.rnOutTxf
  · exact h.rnOutSym

theorem Dev.KeepsBy.rnMove {c dst v} (h : o.Keeps d) : o.Keeps (d.rnMove c dst v) := by
  unfold Dev.rnMove
  exact h.modChan

theorem Dev.KeepsBy.parserSome {c} (h : o.Keeps d) : o.Keeps (d.parserSome c) := by
  unfold Dev.parserSome
  extract_lets _
  exact .ite h h.withFree.parserTakes

theorem Dev.KeepsBy.rxPush {c last bad cnt v} (h : o.Keeps d) : o.Keeps (d.rxPush c last bad cnt v) := by
  unfold Dev.rxPush
  extract_lets _ _ _ _ _ _ _ _ _ _ _ d1 d2 d4
  have h1 : o.Keeps d1 := h.modChan
  have h2 : o.Keeps d2 := h1.iff (fun _ k3 => k3.bump)
  have h4 : o.Keeps d4 := h2.iff (fun _ k5 => k5.bump)
  exact .ite h4.bump (h4.iff (fun _ k6 => k6.bump))

theorem Dev.KeepsBy.rnPushEnt {c dly last bad cnt v nb} (h : o.Keeps d) : o.Keeps (d.rnPushEnt c dly last bad cnt v nb) := by
  unfold Dev.rnPushEnt
  extract_lets _ d1
  have h1 : o.Keeps d1 := h.parserSome
  exact .ite h.faultChan (.ite ((h1.modChan.iff (fun _ k2 => k2.bump)).rnNext) (.ite (.ite h1.chFlag.modChan.rnNext h1.rnBlock) h1.rxPush.rnNext))

theorem Dev.KeepsBy.rnPullEnt {c dly toY nb} (h : o.Keeps d) : o.Keeps (d.rnPullEnt c dly toY nb) := by
  unfold Dev.rnPullEnt
  refine .ite h.faultChan ?_
  extract_lets _
  split
  · exact .ite h.rnNext h.txEmpty
  · extract_lets _ d1 d3 d4
    have h1 : o.Keeps d1 := h.iff (fun _ k2 => k2.headTsDropped)
    have h3 : o.Keeps d3 := h1.setXY.modChan
    have h4 : o.Keeps d4 := h3.dropTxEnt
    exact Dev.KeepsBy.rnNext (.ite h4.bump h4)

theorem Dev.KeepsBy.rnSync {c dly} (h : o.Keeps d) : o.Keeps (d.rnSync c dly) := by
  unfold Dev.rnSync
  extract_lets _ _ _ d1 _
  have h1 : o.Keeps d1 := h.rnBlock.modChan
  exact .ite h.rnNext (.ite (h1.each (fun _ _ k2 => k2.modChan.rnNext)) h1)

theorem Dev.KeepsBy.scCount {c tx} (h : o.Keeps d) : o.Keeps (d.scCount c tx) := by
  unfold Dev.scCount
  exact h.modChan

theorem Dev.KeepsBy.rxSymbol {c y} (h : o.Keeps d) : o.Keeps (d.rxSymbol c y) := by
  unfold Dev.rxSymbol
  extract_lets _ _ _ _ d1 _ _ _
  have h1 : o.Keeps d1 := h.upTo
  refine .ite h ?_
  split
  · exact h
  · extract_lets d2
    have h2 : o.Keeps d2 := h1.modChan
    exact Dev.KeepsBy.scCount (.ite h2.chFlag h2)

theorem Dev.KeepsBy.matchEdge {c} (h : o.Keeps d) : o.Keeps (d.matchEdge c) := by
  unfold Dev.matchEdge
  extract_lets _ d1
  have h1 : o.Keeps d1 := h.upToOn
  exact h1.upTo

theorem Dev.KeepsBy.txSymbolEnd {c} (h : o.Keeps d) : o.Keeps (d.txSymbolEnd c) := by
  unfold Dev.txSymbolEnd
  extract_lets _ d1
  have h1 : o.Keeps d1 := h.modChan.scCount
  split
  · exact .ite h.txLoad (.ite h.matchEdge.txLoad h)
  · refine .ite ?_ h1.modChan.txLoad
    split
    · exact h1.modChan.txTake
    · exact .ite h1.chFlag h1.txLoad

theorem Dev.KeepsBy.opPutAll {r key img} (h : o.Keeps d) : o.Keeps (d.opPutAll r key img).1 := by
  unfold Dev.opPutAll
  refine .iteFst h ?_
  split
  · exact h
  · extract_lets _ d1
    have h1 : o.Keeps d1 := h.freshPuts
    exact .iteFst h (.iteFst h (.iteFst h1 (.iteFst (.answer h1.dropPut) h1.dropPut.putWhole)))

theorem Dev.KeepsBy.putReq {r key img} (h : o.Keeps d) : o.Keeps (d.putReq r key img) := by
  unfold Dev.putReq
  exact .ite h (h.take (fun _ k1 => k1.opPutAll))

theorem Dev.KeepsBy.armLand {e} (h : o.Keeps d) : o.Keeps (d.armLand e) := by
  unfold Dev.armLand
  refine .ite h ?_
  extract_lets d1 _
  have h1 : o.Keeps d1 := h.upToOn.disarmEng
  exact .ite h1.engBitsync h1.engStart

theorem Dev.KeepsBy.recoverChan {c} (h : o.Keeps d) : o.Keeps (d.recoverChan c) := by
  unfold Dev.recoverChan
  extract_lets d1 d2 d3
  have h1 : o.Keeps d1 := h.flushChan
  have h2 : o.Keeps d2 := h1.chFlag.logE.raise
  have h3 : o.Keeps d3 := .ite h2.flip h2
  exact h3.startChan

theorem Dev.KeepsBy.stallEnds {c} (h : o.Keeps d) : o.Keeps (d.stallEnds c) := by
  unfold Dev.stallEnds
  exact .ite h.upTo.recoverChan h

theorem Dev.KeepsBy.mulLands {c} (h : o.Keeps d) : o.Keeps (d.mulLands c) := by
  unfold Dev.mulLands
  split
  · exact h
  · exact h.modCore

theorem Dev.KeepsBy.farEnd {c t st} (h : o.Keeps d) : o.Keeps (d.farEnd c t st) := by
  unfold Dev.farEnd
  exact h.modFar.farWake

theorem Dev.KeepsBy.farLate {c t} (h : o.Keeps d) : o.Keeps (d.farLate c t) := by
  unfold Dev.farLate
  split
  · exact h
  · extract_lets d1 d2
    have h1 : o.Keeps d1 := h.upTo
    have h2 : o.Keeps d2 := h1.farInOrder
    split
    · exact h1.farEnd
    · split
      · exact h2.farEnd
      · exact h2

theorem Dev.KeepsBy.farComplete {c t} (h : o.Keeps d) : o.Keeps (d.farComplete c t) := by
  unfold Dev.farComplete
  split
  · exact h
  · refine .ite h.farLate ?_
    extract_lets d1
    have h1 : o.Keeps d1 := h.farInOrder
    split
    · exact h1.farEnd
    · exact h1

theorem Dev.KeepsBy.mbEnd {c} (h : o.Keeps d) : o.Keeps (d.mbEnd c) := by
  unfold Dev.mbEnd
  split
  · refine .ite h ?_
    split
    next e r hp =>
    have h1 : o.Keeps e := by
      split at hp
      · cases hp; exact h
      · cases hp; exact h.upTo
    exact .dite (fun _ => h1.modCore.setCoreState) (fun _ => h1)
  · exact h

theorem Dev.KeepsBy.adoptEntries {c} (h : o.Keeps d) : o.Keeps (d.adoptEntries c) := by
  unfold Dev.adoptEntries
  extract_lets _
  exact h.modSw.entriesUsed

theorem Dev.KeepsBy.adoptSets {c} (h : o.Keeps d) : o.Keeps (d.adoptSets c) := by
  unfold Dev.adoptSets
  extract_lets d1 d2 d4 _ _
  have h1 : o.Keeps d1 := h.dropSets
  have h2 : o.Keeps d2 := .foldl h1 (fun _ _ k3 => .ite k3.st k3)
  have h4 : o.Keeps d4 := .foldl h2 (fun _ _ k5 => .ite k5.st k5)
  exact h4.modCellar

theorem Dev.KeepsBy.swapLanded {core} (h : o.Keeps d) : o.Keeps (d.swapLanded core) := by
  unfold Dev.swapLanded
  extract_lets _
  refine h.each (fun _ _ k1 => ?_)
  extract_lets _ d2 _ d3 d4
  have h2 : o.Keeps d2 := k1.adoptSets.adoptEntries.setOb.descPut
  have h3 : o.Keeps d3 := h2.setProfiles.modCtx
  have h4 : o.Keeps d4 := h3.logE.bump
  refine .foldl h4 (fun _ _ k5 => ?_)
  refine .ite (.ite k5 k5.askSwap) ?_
  extract_lets d6
  have h6 : o.Keeps d6 := k5.modChan
  exact .ite h6.flipIdle h6

theorem Dev.KeepsBy.enter {c} (h : o.Keeps d) : o.Keeps (d.enter c) := by
  unfold Dev.enter
  refine .ite h ?_
  split
  · exact h
  · extract_lets _ _ _ _ d1 d2 d3 d4
    have h1 : o.Keeps d1 := h.modCore.setCoreState
    have h2 : o.Keeps d2 := h1.bankNow
    have h3 : o.Keeps d3 := .ite h2.bankFlip.swapLanded h2
    have h4 : o.Keeps d4 := h3.modCore
    split
    have h5 := h4.pushEntry.ofFst ‹_›
    refine .ite h5 ?_
    extract_lets d6
    have h6 : o.Keeps d6 := h5.modCore
    exact h6.modCore

theorem Dev.KeepsBy.bankCmd {c v} (h : o.Keeps d) : o.Keeps (d.bankCmd c v) := by
  unfold Dev.bankCmd
  exact .ite h.bankWrite h

theorem Dev.KeepsBy.timerExpiry {c} (h : o.Keeps d) : o.Keeps (d.timerExpiry c) := by
  unfold Dev.timerExpiry
  extract_lets _ _ d1
  have h1 : o.Keeps d1 := h.upTo
  exact .ite h h1.modCore.pulse

theorem Dev.KeepsBy.wdogWarn {c} (h : o.Keeps d) : o.Keeps (d.wdogWarn c) := by
  unfold Dev.wdogWarn
  refine .ite h ?_
  extract_lets d1
  have h1 : o.Keeps d1 := h.upTo
  exact h1.modCore.pulse

theorem Dev.KeepsBy.wdogExpiry {c} (h : o.Keeps d) : o.Keeps (d.wdogExpiry c) := by
  unfold Dev.wdogExpiry
  refine .ite h ?_
  extract_lets d1 d2 d3
  have h1 : o.Keeps d1 := h.upTo
  have h2 : o.Keeps d2 := h1.logE.bump.raise
  have h3 : o.Keeps d3 := h2.rxUnlock
  exact .ite h3.coreReset.coreCtxsRestart h3.keeperReset

theorem Dev.KeepsBy.ctxRestored {c} (h : o.Keeps d) : o.Keeps (d.ctxRestored c) := by
  unfold Dev.ctxRestored
  refine .ite h ?_
  extract_lets w base
  split
  next e r hp =>
  have h1 : o.Keeps e := by
    split at hp
    · cases hp; exact h.stAll
    · cases hp; exact h.clearMem
  extract_lets d2
  have h2 : o.Keeps d2 := h1.event.setCtxState
  exact h2.modCtx

theorem Dev.KeepsBy.chBoundary {p} (h : o.Keeps d) : o.Keeps (d.chBoundary p) := by
  unfold Dev.chBoundary
  extract_lets d1
  have h1 : o.Keeps d1 := h.modChan
  exact .ite (.ite h1.modChan h1.flipLand) h1

theorem Dev.KeepsBy.moveLand {p q} (h : o.Keeps d) : o.Keeps (d.moveLand p q) := by
  unfold Dev.moveLand
  extract_lets _ d1 d2 d3 d4 d6 d7 d8 d9
  have h1 : o.Keeps d1 := h.event
  have h2 : o.Keeps d2 := h1.modCtx
  have h3 : o.Keeps d3 := h2.reEntry
  have h4 : o.Keeps d4 := by
    refine h3.each (fun _ _ k5 => ?_)
    extract_lets _
    exact .ite k5.st k5
  have h6 : o.Keeps d6 := h4.modSw
  have h7 : o.Keeps d7 := h6.setOb.setOb.setOb
  have h8 : o.Keeps d8 := h7.portFlag.modPort.modPort.bump
  have h9 : o.Keeps d9 := by
    refine h8.each (fun _ _ k10 => ?_)
    extract_lets d11 d12
    have h11 : o.Keeps d11 := k10.dropSegSets
    have h12 : o.Keeps d12 := Dev.KeepsOpt.getD h11.addSegSets h11
    exact h12.segChannel.modSeg.segLost
  exact h9.portOff.logE.segsResume

theorem Dev.KeepsBy.movesDue {c} (h : o.Keeps d) : o.Keeps (d.movesDue c) := by
  unfold Dev.movesDue
  refine .foldl h (fun _ _ k1 => ?_)
  split
  · extract_lets _
    exact .ite k1 (.ite k1.moveCancel k1.moveLand)
  · exact k1

theorem Dev.KeepsBy.ctxBoundary {c} (h : o.Keeps d) : o.Keeps (d.ctxBoundary c) := by
  unfold Dev.ctxBoundary
  refine .ite h ?_
  extract_lets _ d1 d2 d3 _ d4 d5 d6 d7 d8
  have h1 : o.Keeps d1 := h.upToOn
  have h2 : o.Keeps d2 := .ite h1.migAbort (.ite h1.ctxMiss h1)
  have h3 : o.Keeps d3 := h2.ckptAbort
  have h4 : o.Keeps d4 := h3.event.setOb
  have h5 : o.Keeps d5 := h4.modCtx
  have h6 : o.Keeps d6 := h5.modCtx.descPut
  have h7 : o.Keeps d7 := .ite h6.modCtx.ckptStart h6.pulse
  have h8 : o.Keeps d8 := h7.each (fun _ _ k9 => k9.chBoundary)
  exact .ite h (.ite h2 h8.movesDue)

theorem Dev.KeepsBy.ctxPoint {c j} (h : o.Keeps d) : o.Keeps (d.ctxPoint c j) := by
  unfold Dev.ctxPoint
  extract_lets _ _ _ _ _ _ d1 _ d2
  have h1 : o.Keeps d1 := h.upToOn
  have h2 : o.Keeps d2 := h1.event.modCtx
  exact .ite h h2.pulse

theorem Dev.KeepsBy.deadlineMiss {c} (h : o.Keeps d) : o.Keeps (d.deadlineMiss c) := by
  unfold Dev.deadlineMiss
  refine .ite h ?_
  extract_lets d1
  have h1 : o.Keeps d1 := h.upToOn
  exact .ite h1.migAbort h1.ctxMiss

theorem Dev.KeepsBy.ckptEnd {c} (h : o.Keeps d) : o.Keeps (d.ckptEnd c) := by
  unfold Dev.ckptEnd
  split
  · exact h
  · extract_lets _ _ _ _ d1 d2
    have h1 : o.Keeps d1 := h.clearMem.stAll.stAll
    have h2 : o.Keeps d2 := h1.modCtx
    exact .ite h.ckptAbort h2.setOb.bump

theorem Dev.KeepsBy.ckptDone {c} (h : o.Keeps d) : o.Keeps (d.ckptDone c) := by
  unfold Dev.ckptDone
  refine .ite h ?_
  extract_lets d1
  have h1 : o.Keeps d1 := h.ckptEnd
  exact .ite h1 h1.migAbort

theorem Dev.KeepsBy.migLand {c} (h : o.Keeps d) : o.Keeps (d.migLand c) := by
  unfold Dev.migLand
  extract_lets _ d1 _ _ _
  have h1 : o.Keeps d1 := h.ckptEnd
  split
  · exact h
  · refine .ite h ?_
    refine .ite h.migAbort ?_
    refine .ite h1.migAbort ?_
    extract_lets d2 d3 d4 d5
    have h2 : o.Keeps d2 := h1.event.stAll.setCtxState
    have h3 : o.Keeps d3 := h2.ctxMoveTo
    have h4 : o.Keeps d4 := h3.modCtx
    have h5 : o.Keeps d5 := h4.pulse
    exact h5.logE.bump

theorem Dev.KeepsBy.migLate {c} (h : o.Keeps d) : o.Keeps (d.migLate c) := by
  unfold Dev.migLate
  extract_lets _
  exact .ite h (Dev.KeepsBy.migAbort (.ite h h.upToOn))

theorem Dev.KeepsBy.swapCancel {c} (h : o.Keeps d) : o.Keeps (d.swapCancel c) := by
  unfold Dev.swapCancel
  refine .ite h ?_
  extract_lets d1 _ _ d2
  have h1 : o.Keeps d1 := h.upTo
  have h2 : o.Keeps d2 := h1.bankCancel.swapDrop
  exact h2.each (fun _ _ k3 => k3.logE)

theorem Dev.KeepsBy.parse {inp f} (h : o.Keeps d) : o.Keeps (d.parse inp f) := by
  unfold Dev.parse
  extract_lets _ _ _ _
  split
  · extract_lets _ _ d1 _ _ _ _ _ _ d2 _
    have h1 : o.Keeps d1 := h.modSw
    have h2 : o.Keeps d2 := .ite h1.bump h1
    exact .ite h1.bump (.ite h2.bump h2.sendFrame)
  · split
    · exact h.sendFrame
    · exact h.sendFrame
    · exact h.sendFrame
    · exact h.bump

theorem Dev.KeepsBy.parserStep {inp} (h : o.Keeps d) : o.Keeps (d.parserStep inp) := by
  unfold Dev.parserStep
  split
  · exact h
  · exact h.modSw.parse

theorem Dev.KeepsBy.middleSends {m} (h : o.Keeps d) : o.Keeps (d.middleSends m) := by
  unfold Dev.middleSends
  extract_lets _ _
  split
  · exact h.modSw
  · exact h.modSw

theorem Dev.KeepsBy.stageCell {i cs} (h : o.Keeps d) : o.Keeps (d.stageCell i cs) := by
  unfold Dev.stageCell
  split
  extract_lets _
  exact h.modSw

theorem Dev.KeepsBy.meterCharge {m colour len} (h : o.Keeps d) : o.Keeps (d.meterCharge m colour len) := by
  unfold Dev.meterCharge
  extract_lets _ _ _
  exact h.modSw

theorem Dev.KeepsBy.sourceGives {k} (h : o.Keeps d) : o.Keeps (d.sourceGives k) := by
  unfold Dev.sourceGives
  split
  · exact h
  · split
    · exact h
    · refine .ite h ?_
      refine .ite (((h.iff (fun _ k1 => k1.meterCharge)).modSw).stageCell) ?_
      refine .ite ?_ h
      extract_lets _ _ _
      exact h.bump.logSec.modSw

theorem Dev.KeepsBy.inputSends {i lane m} (h : o.Keeps d) : o.Keeps (d.inputSends i lane m) := by
  unfold Dev.inputSends
  split
  · exact h
  · exact h.modSw

theorem Dev.KeepsBy.inputSlot {i} (h : o.Keeps d) : o.Keeps (d.inputSlot i) := by
  unfold Dev.inputSlot
  extract_lets _ _
  refine .ite h.inputSends ?_
  split
  · exact h.inputSends.modSw
  · exact h.bumpBy

theorem Dev.KeepsBy.fabricSlot (h : o.Keeps d) : o.Keeps d.fabricSlot := by
  unfold Dev.fabricSlot
  extract_lets d1 d3 d5
  have h1 : o.Keeps d1 := h.each (fun _ _ k2 => k2.middleSends)
  have h3 : o.Keeps d3 := h1.each (fun _ _ k4 => k4.sourceGives)
  have h5 : o.Keeps d5 := h3.each (fun _ _ k6 => k6.inputSlot)
  exact h5.modSw

theorem Dev.KeepsBy.fabricRun {isIt fuel} (h : o.Keeps d) : o.Keeps (d.fabricRun isIt fuel) := by
  induction fuel generalizing d with
  | zero => exact h
  | succ fuel ih =>
    unfold Dev.fabricRun
    exact .ite h (ih h.fabricSlot)

theorem Dev.KeepsBy.freeMin (h : o.Keeps d) : o.Keeps d.freeMin := by
  unfold Dev.freeMin
  exact .ite h.setOb h

theorem Dev.KeepsBy.redDrop {f q col} (h : o.Keeps d) : o.Keeps (d.redDrop f q col).1 := by
  unfold Dev.redDrop
  extract_lets _ _ _ _ d1 _ _ _ _
  have h1 : o.Keeps d1 := h.modSw
  exact .iteFst h h1

theorem Dev.KeepsBy.admitHead {c fieldPort} (h : o.Keeps d) : o.Keeps (d.admitHead c fieldPort).1 := by
  unfold Dev.admitHead
  extract_lets _ _ d1 f2 _
  have h1 : o.Keeps d1 := .ite h.bump h
  have hf2 : ∀ d, o.Keeps d → o.Keeps (f2 d) := fun _ k3 => .ite k3.dropTs k3
  refine .iteFst (.answer h1.bump) ?_
  refine .iteFst (.answer (hf2 _ h1.bump)) ?_
  split
  have h4 := h1.redDrop.ofFst ‹_›
  refine .iteFst (.answer (hf2 _ h4.bump)) ?_
  refine .iteFst (.answer (hf2 _ h4.bump)) ?_
  extract_lets _ _
  exact .answer h4.modSw.modQueue.bump

theorem Dev.KeepsBy.cellsWritten {n} (h : o.Keeps d) : o.Keeps (d.cellsWritten n) := by
  unfold Dev.cellsWritten
  refine h.each (fun _ _ k1 => ?_)
  extract_lets _
  refine .ite k1 ?_
  split
  have h2 := k1.fresh.ofSnd ‹_›
  split
  · exact h2.withPoison
  · exact h2

end Sys2Proof.Machine
end

section
/-! SUPPORT. What every step keeps, function by function, in the order in which the model uses them (spec 01, R15, R16; spec 04, R105): each lemma
follows its function's branches, one Keeps lemma for each function that it calls. -/
set_option Elab.async false
namespace Sys2Proof.Machine
variable {o d : Dev}

theorem Dev.KeepsBy.watermarks {q} (h : o.Keeps d) : o.Keeps (d.watermarks q) := by
  unfold Dev.watermarks
  exact Dev.KeepsBy.freeMin (.ite h.setOb h)

theorem Dev.KeepsBy.addBytes {q id data tail len} (h : o.Keeps d) : o.Keeps (d.addBytes q id data tail len) := by
  unfold Dev.addBytes
  split
  · exact h
  · refine .ite h ?_
    extract_lets _ _ _ _ d1 d2
    have h1 : o.Keeps d1 := h.modQueue
    have h2 : o.Keeps d2 := .ite h1.bump.logSec h1.cellsWritten
    exact h2.watermarks

theorem Dev.KeepsBy.admitHeads {c} {l : List Nat} (h : o.Keeps d) :
    o.Keeps (l.foldl (fun (a : Dev × List (Nat × Nat)) p =>
      let (d, r) := a.1.admitHead c p
      (d, match r with
        | some x => a.2 ++ [x]
        | none => a.2)) (d, [])).1 := by
  refine .foldlFst h fun a _ k => ?_
  split
  exact k.admitHead.ofFst ‹_›

theorem Dev.KeepsBy.linkCell {c} (h : o.Keeps d) : o.Keeps (d.linkCell c) := by
  unfold Dev.linkCell
  extract_lets mine d1 _
  have h1 : o.Keeps d1 := by
    refine .ite ?_ h
    split
    exact (h.admitHeads.ofFst ‹_›).modSw
  split
  · exact h1
  · extract_lets d2
    have h2 : o.Keeps d2 := .foldl h1 (fun _ _ k => k.addBytes)
    exact .ite h2.modSw h2

theorem Dev.KeepsBy.linkAll {i o' fuel} (h : o.Keeps d) : o.Keeps (d.linkAll i o' fuel) := by
  induction fuel generalizing d with
  | zero => exact h
  | succ fuel ih =>
    unfold Dev.linkAll
    extract_lets _
    split
    · exact h
    · exact ih h.modSw.linkCell

theorem Dev.KeepsBy.cellArrive {o' i n} (h : o.Keeps d) : o.Keeps (d.cellArrive o' i n) := by
  unfold Dev.cellArrive
  extract_lets _ d1
  have h1 : o.Keeps d1 := h.fabricRun
  split
  · exact h
  · extract_lets _
    exact h1.modSw.linkAll.freeMin

theorem Dev.KeepsBy.macHeads {o' fuel} (h : o.Keeps d) : o.Keeps (d.macHeads o' fuel) := by
  induction fuel generalizing d with
  | zero => exact h
  | succ fuel ih =>
    unfold Dev.macHeads
    extract_lets bad
    clear_value bad
    split
    · exact h
    · exact ih h.modQueue.bump.dropTs

theorem Dev.KeepsBy.macStart {o'} (h : o.Keeps d) : o.Keeps (d.macStart o') := by
  unfold Dev.macStart
  refine .ite h ?_
  extract_lets d1 _ _ _
  have h1 : o.Keeps d1 := h.upTo.badHeads.macHeads
  refine .ite h1 ?_
  split
  · have h2 := h1.pick.ofFst ‹_›
    exact h2
  · have h3 := h1.pick.ofFst ‹_›
    split
    · exact h3
    · extract_lets d4 _ d5 _
      have h4 : o.Keeps d4 := h3.upTo
      have h5 : o.Keeps d5 := h4.upTo
      exact h5.modSw

theorem Dev.KeepsBy.runnelStart {c} (h : o.Keeps d) : o.Keeps (d.runnelStart c) := by
  unfold Dev.runnelStart
  refine .ite h ?_
  extract_lets d1 _ _ _
  have h1 : o.Keeps d1 := h.badHeads
  refine .ite ?_ ?_
  · refine h1.each (fun _ _ k2 => ?_)
    extract_lets _ d3
    have h3 : o.Keeps d3 := .foldl k2 (fun _ _ k4 => k4.dropTs.bump)
    exact .ite h3 h3.modQueue
  · refine .ite h1 ?_
    split
    · have h5 := h1.pick.ofFst ‹_›
      exact h5
    · have h6 := h1.pick.ofFst ‹_›
      split
      · exact h6
      · exact h6.modSw.fillTx

theorem Dev.KeepsBy.outputStart {o'} (h : o.Keeps d) : o.Keeps (d.outputStart o') := by
  unfold Dev.outputStart
  exact .ite h.macStart (.ite h.busRefill (.ite h.runnelStart h))

theorem Dev.KeepsBy.logSecAny {code inst} (h : o.Keeps d) : o.Keeps (d.logSecAny code inst) := by
  unfold Dev.logSecAny
  split
  · exact .ite h.logE.markLog h
  · exact h.logE.markLog

theorem Dev.KeepsBy.macUnderrun {o'} (h : o.Keeps d) : o.Keeps (d.macUnderrun o') := by
  unfold Dev.macUnderrun
  split
  · exact h
  · extract_lets _ _ d1 d2 d3
    have h1 : o.Keeps d1 := h.offLine.onWire
    have h2 : o.Keeps d2 := h1.modMac
    have h3 : o.Keeps d3 := h2.bump.logSecAny.dropTs
    exact .ite h h3.chargeEnd

theorem Dev.KeepsBy.takeWhole {f ok} (h : o.Keeps d) : o.Keeps (d.takeWhole f ok).1 := by
  unfold Dev.takeWhole
  extract_lets _ _ _
  split
  · have h1 := h.pick.ofFst ‹_›
    exact h1
  · have h2 := h.pick.ofFst ‹_›
    split
    · exact h2
    · exact .answer h2.modQueue.chargeEnd

theorem Dev.KeepsBy.rxDesc {e fuel} (h : o.Keeps d) : o.Keeps (d.rxDesc e fuel).1 := by
  induction fuel generalizing d with
  | zero => exact h
  | succ fuel ih =>
    unfold Dev.rxDesc
    exact .iteFst h (.iteFst h (.iteFst h (ih h.st.bump.setOb)))

theorem Dev.KeepsBy.ringDeliver {e} (h : o.Keeps d) : o.Keeps (d.ringDeliver e) := by
  unfold Dev.ringDeliver
  refine .ite h ?_
  split
  · have h1 := h.rxDesc.ofFst ‹_›
    exact h1
  · have h2 := h.rxDesc.ofFst ‹_›
    split
    · have h3 := h2.takeWhole.ofFst ‹_›
      exact h3
    · have h4 := h2.takeWhole.ofFst ‹_›
      refine .ite h4.bump ?_
      split
      extract_lets _ d5 d6 d7
      have h5 : o.Keeps d5 := h4.stAll
      have h6 : o.Keeps d6 := h5.st
      have h7 : o.Keeps d7 := h6.setOb
      exact h7.bump.raise

theorem Dev.KeepsBy.ringSend {e} (h : o.Keeps d) : o.Keeps (d.ringSend e) := by
  unfold Dev.ringSend
  extract_lets _ _ _ _ _ _ d1 _ _ _
  have h1 : o.Keeps d1 := h.st.setOb
  exact .ite h (.ite h (.ite h1.bump (.ite h1.bump h1.sendFrame.bump.raise)))

theorem Dev.KeepsBy.noRight {r} (h : o.Keeps d) : o.Keeps (d.noRight r) := by
  unfold Dev.noRight
  split
  · exact h.bump.logSec
  · exact h.bump.logSec

theorem Dev.KeepsBy.updateAns {k ownCtx src node sig value ns} (h : o.Keeps d) : o.Keeps (d.updateAns k ownCtx src node sig value ns).1 := by
  unfold Dev.updateAns
  split
  · exact .answer h.noRight
  · extract_lets _ _
    exact .iteFst h.applyWrite (.answer h.noRight)

theorem Dev.KeepsBy.scatter {j e data} (h : o.Keeps d) : o.Keeps (d.scatter j e data) := by
  unfold Dev.scatter
  extract_lets _ d1 _ _ _ d2 d6
  have h1 : o.Keeps d1 := h.event
  have h2 : o.Keeps d2 := by
    refine .foldl h1 (fun _ _ k3 => ?_)
    refine .ite ?_ k3.bump.logSec
    split
    have h4 := k3.updateAns.ofFst ‹_›
    exact h4.iff (fun _ k5 => k5.bump)
  have h6 : o.Keeps d6 := by
    unfold d6
    split
    · exact h2.st.st
    · exact h2
  exact h6.bump

theorem Dev.KeepsBy.scatterCommit (h : o.Keeps d) : o.Keeps d.scatterCommit := by
  unfold Dev.scatterCommit
  split
  · have h1 := h.takeWhole.ofFst ‹_›
    exact h1
  · have h2 := h.takeWhole.ofFst ‹_›
    extract_lets _
    refine .ite h2.bump.logSec ?_
    split
    · exact h2.scatter
    · split
      · exact h2.st
      · exact h2

theorem Dev.KeepsBy.staleRise {r} (h : o.Keeps d) : o.Keeps (d.staleRise r) := by
  unfold Dev.staleRise
  exact .ite h.raise.logSec h

theorem Dev.KeepsBy.sweepEntry {n r} (h : o.Keeps d) : o.Keeps (d.sweepEntry n r) := by
  unfold Dev.sweepEntry
  extract_lets _ _ _ _ d1 d2 _ d3
  have h1 : o.Keeps d1 := h.putEntry.setOb
  have h2 : o.Keeps d2 := .ite (.ite h1.staleRise h1) h
  have h3 : o.Keeps d3 := .ite h2.putEntry h2
  split
  · exact h2
  · exact h3.modCellar

theorem Dev.KeepsBy.sweepStep (h : o.Keeps d) : o.Keeps d.sweepStep := by
  unfold Dev.sweepStep
  extract_lets f1 d3 d4
  have hf1 : ∀ d x1, o.Keeps d → o.Keeps (f1 d x1) := fun _ _ k2 => k2.sweepEntry.modCellar
  have h3 : o.Keeps d3 := .ite h h.setOb
  have h4 : o.Keeps d4 := h3.modCellar
  split
  · exact hf1 _ _ h
  · split
    · exact hf1 _ _ h4
    · exact h4

theorem Dev.KeepsBy.regClearEnd {reg} (h : o.Keeps d) : o.Keeps (d.regClearEnd reg) := by
  unfold Dev.regClearEnd
  refine .ite h ?_
  extract_lets d1 d2
  have h1 : o.Keeps d1 := h.modCellar.releaseAll
  have h2 : o.Keeps d2 := by
    unfold d2
    split
    · exact h1.complete
    · exact h1
  exact h2.logE

theorem Dev.KeepsBy.gatherEntry {hold0 base byteBase acc b} (h : o.Keeps acc.1) : o.Keeps (d.gatherEntry hold0 base byteBase acc b).1 := by
  unfold Dev.gatherEntry
  exact .iteFst (.answer h.bump.logSec) (.iteFst h (.iteFst (.answer h.bump) h))

theorem Dev.KeepsBy.compose {t} (h : o.Keeps d) : o.KeepsOpt Prod.fst (d.compose t) := by
  unfold Dev.compose
  extract_lets _ _ _ _ _ _ _ _ _ _ _
  refine .ite (.none) ?_
  split
  have h1 := Dev.KeepsBy.ofFst (.foldlFst h (fun _ _ k2 => .foldlFst k2 (fun _ _ k3 => k3.gatherEntry))) ‹_›
  exact .some h1

theorem Dev.KeepsBy.gatherNow {t} (h : o.Keeps d) : o.Keeps (d.gatherNow t) := by
  unfold Dev.gatherNow
  split
  · exact h
  · have h1 := h.compose.ofSomeFst ‹_›
    exact h1.sendFrame.bump

theorem Dev.KeepsBy.fireOne {n} (h : o.Keeps d) : o.Keeps (d.fireOne n) := by
  unfold Dev.fireOne
  split
  · exact h
  · split
    · exact h
    · extract_lets _ _ _ d1 d3 d5
      have h1 : o.Keeps d1 := h.iff (fun _ k2 => k2.bumpBy.logSec)
      have h3 : o.Keeps d3 := h1.iff (fun _ k4 => k4.bump)
      have h5 : o.Keeps d5 := h3.modCellar
      exact h5.gatherNow

theorem Dev.KeepsBy.fireTemplate {n} (h : o.Keeps d) : o.Keeps (d.fireTemplate n) := by
  unfold Dev.fireTemplate
  split
  · exact h
  · split
    · exact h
    · extract_lets d1
      have h1 : o.Keeps d1 := h.upToOn
      exact (h1.each (fun _ _ k2 => k2.fireOne)).fireOne

theorem Dev.KeepsBy.syncTimeout {n} (h : o.Keeps d) : o.Keeps (d.syncTimeout n) := by
  unfold Dev.syncTimeout
  exact .ite h h.upTo.syncLoss

theorem Dev.KeepsBy.revertHold {n} (h : o.Keeps d) : o.Keeps (d.revertHold n) := by
  unfold Dev.revertHold
  extract_lets _
  exact .ite h h.upTo.tbToOwn

theorem Dev.KeepsBy.onReserve {n} (h : o.Keeps d) : o.Keeps (d.onReserve n) := by
  unfold Dev.onReserve
  refine .ite h ?_
  extract_lets _ _ d1
  have h1 : o.Keeps d1 := .ite h h.advance
  exact h1.tbState.watchReserves

theorem Dev.KeepsBy.onOwn {n} (h : o.Keeps d) : o.Keeps (d.onOwn n) := by
  unfold Dev.onOwn
  refine .ite h ?_
  extract_lets _
  exact Dev.KeepsBy.tbState (.ite h h.advance)

theorem Dev.KeepsBy.linkErrors {t n} (h : o.Keeps d) : o.Keeps (d.linkErrors t n) := by
  unfold Dev.linkErrors
  exact .ite h (h.bumpBy.iff (fun _ k1 => k1.tileLost))

theorem Dev.KeepsBy.tileAlign {t ps} (h : o.Keeps d) : o.Keeps (d.tileAlign t ps) := by
  unfold Dev.tileAlign
  refine .ite h ?_
  extract_lets d1 _ d2
  have h1 : o.Keeps d1 := h.upTo
  have h2 : o.Keeps d2 := h1.withTime
  refine .ite ?_ h2.setOb
  split
  have h3 := h2.fresh.ofSnd ‹_›
  exact h3.setOb.logE.bump

theorem Dev.KeepsBy.ppsSync {i phase} (h : o.Keeps d) : o.Keeps (d.ppsSync i phase) := by
  unfold Dev.ppsSync
  extract_lets _ _ _ d1
  have h1 : o.Keeps d1 := h.servo
  exact .ite h (.ite h1.setSynced h1)

theorem Dev.KeepsBy.ppsEdge {i rising phase} (h : o.Keeps d) : o.Keeps (d.ppsEdge i rising phase) := by
  unfold Dev.ppsEdge
  extract_lets _ _ d1 _ d2
  have h1 : o.Keeps d1 := h.setOb.setOb.modPps
  have h2 : o.Keeps d2 := .ite h1.bump.logSec (h1.modPps.iff (fun _ k3 => k3.raise))
  exact .ite h h2.ppsSync

theorem Dev.KeepsBy.ppsOut {i} (h : o.Keeps d) : o.Keeps (d.ppsOut i) := by
  unfold Dev.ppsOut
  refine .ite h ?_
  extract_lets _ _ _ _ _ _ d1 _
  have h1 : o.Keeps d1 := h.upToOn
  exact h1.withTime.emit

theorem Dev.KeepsBy.takeMap {s} (h : o.Keeps d) : o.Keeps (d.takeMap s) := by
  unfold Dev.takeMap
  split
  · exact h
  · extract_lets d1
    have h1 : o.Keeps d1 := h.event.modSeg
    exact (Dev.KeepsOpt.getD h1.dropSegSets.addSegSets h1).setDom

theorem Dev.KeepsBy.coldStart {s ns cyc} (h : o.Keeps d) : o.Keeps (d.coldStart s ns cyc) := by
  unfold Dev.coldStart
  extract_lets _
  split
  extract_lets d1
  have h1 : o.Keeps d1 := h.modSeg
  exact h1.logE.segTo.takeMap

theorem Dev.KeepsBy.listenExpires {s} (h : o.Keeps d) : o.Keeps (d.listenExpires s) := by
  unfold Dev.listenExpires
  split
  · refine .ite h ?_
    extract_lets d1
    have h1 : o.Keeps d1 := h.upToOn
    exact .ite h1.listenFrom h1.coldStart
  · exact h

theorem Dev.KeepsBy.backoffEnds {s} (h : o.Keeps d) : o.Keeps (d.backoffEnds s) := by
  unfold Dev.backoffEnds
  split
  · exact .ite h.upToOn.coldStart h
  · exact h

theorem Dev.KeepsBy.slotFire {s n} (h : o.Keeps d) : o.Keeps (d.slotFire s n) := by
  unfold Dev.slotFire
  refine .ite h ?_
  split
  · exact h
  · extract_lets _ _ d1 d2 d4
    have h1 : o.Keeps d1 := h.upToOn
    have h2 : o.Keeps d2 := by
      unfold d2
      split
      · exact h1
      · exact h1.iff (fun _ k3 => k3.bumpBy.logSec)
    have h4 : o.Keeps d4 := h2.iff (fun _ k5 => k5.bump)
    exact h4.modSeg.gatherNow

theorem Dev.KeepsBy.segDiscard {p q key f} (h : o.Keeps d) : o.Keeps (d.segDiscard p q key f) := by
  unfold Dev.segDiscard
  exact h.modQueue.dropTs.bump

/-- A recursion on fuel at a successor, for a function that Lean gives no equation lemma. -/
theorem brecOn_succ_apply {α β : Type} {F : (t : Nat) → Nat.below (motive := fun _ => α → β) t → α → β} {f : Nat → α → β}
    (hf : ∀ t a, f t a = Nat.brecOn t F a) (n : Nat) (a : α) : f (n + 1) a = F (n + 1) (Nat.brecOn.go n F) a := hf _ _

theorem Dev.takeSlot_brecOn {s n : Nat} (fuel : Nat) (d : Dev) :
    d.takeSlot s n fuel = Nat.brecOn (motive := fun _ => Dev → Dev × Option QFrame) fuel (Dev.takeSlot._f s n) d := by
  delta Dev.takeSlot; rfl

theorem Dev.KeepsBy.takeSlot {s n fuel} (h : o.Keeps d) : o.Keeps (d.takeSlot s n fuel).1 := by
  induction fuel generalizing d with
  | zero => exact h
  | succ fuel ih =>
    have hb : ∀ d, o.Keeps d → o.Keeps ((Nat.brecOn.go fuel (Dev.takeSlot._f s n)).1 d).1 := fun d k => by
      have e := ih k
      rw [Dev.takeSlot_brecOn] at e
      exact e
    rw [show d.takeSlot s n (fuel + 1) = _ from brecOn_succ_apply Dev.takeSlot_brecOn fuel d]
    generalize Nat.brecOn.go fuel (Dev.takeSlot._f s n) = b at hb ⊢
    delta Dev.takeSlot._f
    extract_lets _ d1 _ _
    have h1 : o.Keeps d1 := h.badHeads
    clear_value d1
    dsimp only
    split
    · exact h1
    · split
      · exact h1
      · split
        · exact .answer h1.modQueue
        · exact h1
        · exact hb _ h1.segDiscard
        · exact hb _ h1.segDiscard

theorem Dev.KeepsBy.slotSend {s n} (h : o.Keeps d) : o.Keeps (d.slotSend s n) := by
  unfold Dev.slotSend
  extract_lets _ d1 _
  have h1 : o.Keeps d1 := h.upToOn
  refine .ite h ?_
  refine .ite h1 ?_
  split
  · have h2 := h1.takeSlot.ofFst ‹_›
    exact h2
  · have h3 := h1.takeSlot.ofFst ‹_›
    extract_lets d4
    have h4 : o.Keeps d4 := .ite h3.postTs h3
    exact h4.emit.modSeg

theorem Dev.KeepsBy.segBad {s f} (h : o.Keeps d) : o.Keeps (d.segBad s f) := by
  unfold Dev.segBad
  extract_lets _
  exact .ite h h.toParser

theorem Dev.KeepsBy.countSlot {s n out edges} (h : o.Keeps d) : o.Keeps (d.countSlot s n out edges) := by
  unfold Dev.countSlot
  extract_lets _ _ _ d1 d2 d3 d4
  have h1 : o.Keeps d1 := h.modSeg
  have h2 : o.Keeps d2 := h1.bumpBy
  have h3 : o.Keeps d3 := .ite h2.bump (.ite h2.bump (.ite h2.bump h2))
  have h4 : o.Keeps d4 := .ite h3 h3.logSec
  exact .ite h4.logSec h4

theorem Dev.KeepsBy.coldCollision {s} (h : o.Keeps d) : o.Keeps (d.coldCollision s) := by
  unfold Dev.coldCollision
  extract_lets _ _
  exact .ite h.modSeg.logE.toListen h.bump.modSeg.logE.segTo

theorem Dev.KeepsBy.slotEnds {s n atStart atEnd starts f} (h : o.Keeps d) : o.Keeps (d.slotEnds s n atStart atEnd starts f) := by
  unfold Dev.slotEnds
  extract_lets _ _ d1 _ _ _
  have h1 : o.Keeps d1 := h.upToOn
  refine .ite h ?_
  refine .ite (.ite h1 h1.segBad) ?_
  split
  extract_lets _ d2 d3 _ d4
  have h2 : o.Keeps d2 := h1.modSeg.countSlot
  have h3 : o.Keeps d3 := .ite h2 h2.bump
  have h4 : o.Keeps d4 := .ite h3 (.ite h3.toParser h3.segBad)
  exact .ite h4.coldCollision h4

theorem Dev.KeepsBy.correct {s counts} (h : o.Keeps d) : o.Keeps (d.correct s counts) := by
  unfold Dev.correct
  extract_lets _ _ _ _ d1 d2 _ _ _ _ _ _ d3 d5
  have h1 : o.Keeps d1 := h.bumpBy
  have h2 : o.Keeps d2 := h1.setOb
  have h3 : o.Keeps d3 := h2.iff (fun _ k4 => k4.bump.logE)
  have h5 : o.Keeps d5 := h3.setOb.setOb
  exact h5.modSeg

theorem Dev.KeepsBy.cycleState {s} (h : o.Keeps d) : o.Keeps (d.cycleState s) := by
  unfold Dev.cycleState
  extract_lets _ _ _ d1 _
  have h1 : o.Keeps d1 := h.modSeg
  split
  · exact .ite h1.modSeg.logE.segTo h1
  · exact .ite h.logE.segTo h
  · exact .ite h.modSeg (.ite h.modSeg.logE.segTo (.ite h.modSeg h.logE.toListen))
  · exact .ite h.modSeg.bump.logE.segTo (.ite h.logE.segTo h)
  · exact .ite h.modSeg.logE.segTo (.ite h.logE.toListen h.modSeg)
  · exact h

theorem Dev.KeepsBy.nextCycle {s} (h : o.Keeps d) : o.Keeps (d.nextCycle s) := by
  unfold Dev.nextCycle
  extract_lets _ d1
  have h1 : o.Keeps d1 := h.modSeg
  exact h1.setOb.takeMap

theorem Dev.KeepsBy.cycleEnds {s} (h : o.Keeps d) : o.Keeps (d.cycleEnds s) := by
  unfold Dev.cycleEnds
  refine .ite h ?_
  extract_lets d1 _ d2 d3
  have h1 : o.Keeps d1 := h.upToOn
  have h2 : o.Keeps d2 := h1.modSeg.correct
  have h3 : o.Keeps d3 := h2.cycleState
  exact .ite h3.nextCycle h3

theorem Dev.KeepsBy.sampleMaster {g m t} (h : o.Keeps d) : o.Keeps (d.sampleMaster g m t).1 := by
  unfold Dev.sampleMaster
  split
  extract_lets _ _ _ _ _ d1 d2 d3 d4
  have h1 : o.Keeps d1 := h.modMotion
  have h2 : o.Keeps d2 := h1.setOb
  have h3 : o.Keeps d3 := h2.setOb
  have h4 : o.Keeps d4 := h3.setOb.bump.logE
  exact .iteFst (.answer (h4.each (fun _ _ k5 => .ite k5.faultAxis k5.faultAxis.syncAxis))) (.iteFst (.answer h3.setOb) h3)

theorem Dev.KeepsBy.sampleAll {g t axisKind} (h : o.Keeps d) : o.Keeps (d.sampleAll g t axisKind).1 := by
  unfold Dev.sampleAll
  extract_lets _
  refine .foldlFst h (fun _ _ k1 => ?_)
  split
  have h2 := k1.sampleMaster.ofFst ‹_›
  exact h2

theorem Dev.KeepsBy.gearStep {a g m t dm} (h : o.Keeps d) : o.Keeps (d.gearStep a g m t dm) := by
  unfold Dev.gearStep
  extract_lets _ _ _ _ _ _
  split
  extract_lets _ d1 d2
  have h1 : o.Keeps d1 := h.freeSteps
  have h2 : o.Keeps d2 := h1.modAxis
  exact h2.bumpBy

theorem Dev.KeepsBy.runPlan {a t} (h : o.Keeps d) : o.Keeps (d.runPlan a t) := by
  unfold Dev.runPlan
  extract_lets _
  split
  · exact h.modAxis
  · extract_lets _
    split
    split
    exact h.modAxis

theorem Dev.KeepsBy.unrest {a t} (h : o.Keeps d) : o.Keeps (d.unrest a t).1 := by
  unfold Dev.unrest
  exact .iteFst (.answer h.modAxis) h

theorem Dev.KeepsBy.launch {a t w} (h : o.Keeps d) : o.Keeps (d.launch a t w) := by
  unfold Dev.launch
  split
  have h1 := h.unrest.ofFst ‹_›
  exact h1.begin_

theorem Dev.KeepsBy.queueStep {a w} (h : o.Keeps d) : o.Keeps (d.queueStep a w) := by
  unfold Dev.queueStep
  extract_lets _
  split
  · exact h
  · extract_lets _ d1 d2 d3
    have h1 : o.Keeps d1 := by
      unfold d1
      split
      · exact h.st
      · exact h
    have h2 : o.Keeps d2 := h1.stAll
    have h3 : o.Keeps d3 := h2.modAxis
    exact .ite h3.logE h3

theorem Dev.KeepsBy.takeCmd {a t c} (h : o.Keeps d) : o.Keeps (d.takeCmd a t c) := by
  unfold Dev.takeCmd
  extract_lets _ _ _ _ _ f1 f3 _
  have hf1 : ∀ d, o.Keeps d → o.Keeps (f1 d) := fun _ k2 => k2.modAxis
  have hf3 : ∀ d x1 x2 x3, o.Keeps d → o.Keeps (f3 d x1 x2 x3) := fun _ _ _ _ k4 => k4.modAxis.launch
  split
  · exact .ite h.modAxis h
  · exact .ite h.modAxis h
  · exact .ite (hf3 _ _ _ _ (hf1 _ h)) h
  · exact .ite (hf3 _ _ _ _ (hf1 _ h)) h
  · exact .ite (hf3 _ _ _ _ (hf1 _ h)) h
  · exact .ite ((hf3 _ _ _ _ (hf1 _ h)).modAxis) h
  · exact .ite ((hf1 _ h).stopAxis) h
  · exact .ite ((hf1 _ h).modAxis) h
  · exact .ite h.queueStep h
  · exact h.dropSteps
  · exact .ite h.modAxis h
  · refine .ite ?_ h
    split
    have h5 := ((hf1 _ h).unrest).ofFst ‹_›
    exact h5.modAxis
  · exact .ite h.modAxis h
  · exact .ite h.modAxis h
  · exact h

theorem Dev.KeepsBy.homeEdges {a} (h : o.Keeps d) : o.Keeps (d.homeEdges a) := by
  unfold Dev.homeEdges
  extract_lets _ _ _ _ _
  exact h.modAxis

theorem Dev.KeepsBy.homeDone {a} (h : o.Keeps d) : o.Keeps (d.homeDone a) := by
  unfold Dev.homeDone
  extract_lets _ _
  exact h.modAxis.logSec

theorem Dev.KeepsBy.homeMove {a t v dec j} (h : o.Keeps d) : o.Keeps (d.homeMove a t v dec j) := by
  unfold Dev.homeMove
  exact h.modAxis

theorem Dev.KeepsBy.homePhase {a t ph} (h : o.Keeps d) : o.Keeps (d.homePhase a t ph) := by
  unfold Dev.homePhase
  extract_lets _ _ d1 _ _
  have h1 : o.Keeps d1 := h.modAxis
  exact h1.homeMove

theorem Dev.KeepsBy.homeFail {a t res dec j quick} (h : o.Keeps d) : o.Keeps (d.homeFail a t res dec j quick) := by
  unfold Dev.homeFail
  exact h.homeEnds.modAxis.homeMove

theorem Dev.KeepsBy.homeBrake {a t ph dec j quick} (h : o.Keeps d) : o.Keeps (d.homeBrake a t ph dec j quick) := by
  unfold Dev.homeBrake
  exact h.modAxis.homeMove

theorem Dev.KeepsBy.homeLatch {a t p} (h : o.Keeps d) : o.Keeps (d.homeLatch a t p) := by
  unfold Dev.homeLatch
  exact h.homeBrake.modAxis

theorem Dev.KeepsBy.homeStep {a g t p0 atRest} (h : o.Keeps d) : o.Keeps (d.homeStep a g t p0 atRest) := by
  unfold Dev.homeStep
  extract_lets d1 _ _ _ _ _ _ _ _
  have h1 : o.Keeps d1 := h.iff (fun _ k2 => k2.homeEdges)
  refine .ite (.ite h1.modAxis h1) ?_
  refine .ite (.ite h1 (.ite h1.modAxis.homeDone (.ite h1.homePhase h1.homePhase))) ?_
  refine .ite h1.homeFail ?_
  refine .ite (.ite (.ite h1.homeDone h1.homePhase) (.ite h1.homeFail h1)) ?_
  refine .ite (.ite h1.homeBrake h1.homeFail) ?_
  split
  · exact .ite h1.homeBrake (.ite h1.homeFail h1)
  · exact .ite h1.homeBrake h1
  · exact .ite (.ite h1.homeFail h1) (.ite h1.homeLatch h1.homeBrake)
  · exact .ite h1 (.ite h1.homeLatch h1.homePhase)
  · exact .ite h1.homeLatch h1
  · exact .ite (.ite h1.homeBrake h1) (.ite h1.modAxis (.ite h1.homeBrake h1))
  · exact h1

theorem Dev.KeepsBy.restStep {a t} (h : o.Keeps d) : o.Keeps (d.restStep a t) := by
  unfold Dev.restStep
  extract_lets _ _ _ _ _ _ _
  exact h.modAxis

theorem Dev.KeepsBy.checkFollow {a t} (h : o.Keeps d) : o.Keeps (d.checkFollow a t) := by
  unfold Dev.checkFollow
  extract_lets _ _ _ d1 _ _ d2
  have h1 : o.Keeps d1 := h.modAxis
  have h2 : o.Keeps d2 := h.modAxis
  exact .ite h.modAxis (.ite (.ite h1.faultAxis h1) (.ite h2.faultAxis h2))

theorem Dev.KeepsBy.checkAhead {a g t} (h : o.Keeps d) : o.Keeps (d.checkAhead a g t) := by
  unfold Dev.checkAhead
  extract_lets _ _ _ _
  exact .ite h (.ite h.faultAxis (.ite h.faultAxis h))

theorem Dev.KeepsBy.update {k ownCtx src node sig value ns} (h : o.Keeps d) : o.Keeps (d.update k ownCtx src node sig value ns) := by
  unfold Dev.update
  exact h.updateAns

theorem Dev.KeepsBy.commitAxis {a g t} (h : o.Keeps d) : o.Keeps (d.commitAxis a g t).1 := by
  unfold Dev.commitAxis
  extract_lets d1 _ _ _ f2 _ d4 _
  have h1 : o.Keeps d1 := h.event
  have hf2 : ∀ d x1 x2, o.Keeps d → o.Keeps (f2 d x1 x2) := fun _ _ _ k3 => k3.update
  have h4 : o.Keeps d4 := hf2 _ _ _ (hf2 _ _ _ (hf2 _ _ _ h1))
  exact .answer h4.modAxis

theorem Dev.KeepsBy.updateAxis {a g t travel} (h : o.Keeps d) : o.Keeps (d.updateAxis a g t travel).1 := by
  unfold Dev.updateAxis
  extract_lets _ d1 _ d3 _ d4 _ f6 _ d8 d10 d12 _ _ d14 _ _ d16 d17
  have h1 : o.Keeps d1 := h.iff (fun _ k2 => k2.lostRecord)
  have h3 : o.Keeps d3 := h1.modAxis
  have h4 : o.Keeps d4 := h3.iff (fun _ k5 => k5.faultAxis)
  have hf6 : ∀ d, o.Keeps d → o.Keeps (f6 d) := by
    refine fun _ k7 => ?_
    unfold f6
    split
    · exact k7.gearStep
    · exact k7
  have h8 : o.Keeps d8 := .ite (h4.iff (fun _ k9 => hf6 _ k9)) h4.runPlan
  have h10 : o.Keeps d10 := .foldl h8 (fun _ _ k11 => k11.takeCmd)
  have h12 : o.Keeps d12 := h10.iff (fun _ k13 => hf6 _ k13)
  have h14 : o.Keeps d14 := h12.iff (fun _ k15 => k15.stopAxis)
  have h16 : o.Keeps d16 := .ite h14.modAxis (.ite h14.modAxis (.ite h14.modAxis (.ite h14.homeStep h14)))
  have h17 : o.Keeps d17 := h16.checkAhead.checkFollow.restStep
  split
  have h18 := h17.commitAxis.ofFst ‹_›
  exact .answer h18.syncAxis

theorem Dev.KeepsBy.motionSend {dest recs} (h : o.Keeps d) : o.Keeps (d.motionSend dest recs) := by
  unfold Dev.motionSend
  extract_lets _
  refine h.each (fun _ _ k1 => ?_)
  extract_lets _
  exact k1.sendFrame

/-- The body is compared with the function's value as a whole, and the functions that it calls stand as variables: the kernel would evaluate them to
tell the branches apart. -/
theorem Dev.KeepsBy.groupRun {g reached} (h : o.Keeps d) : o.Keeps (d.groupRun g reached) := by
  have hsample : ∀ d g t b, o.Keeps d → o.Keeps (Dev.sampleAll d g t b).1 := fun _ _ _ _ k => k.sampleAll
  have hupdate : ∀ d a g t tr, o.Keeps d → o.Keeps (Dev.updateAxis d a g t tr).1 := fun _ _ _ _ _ k => k.updateAxis
  obtain ⟨run, hrun⟩ : ∃ f, f = @Dev.groupRun := ⟨_, rfl⟩
  rw [← hrun]
  delta Dev.groupRun at hrun
  rw [hrun]
  clear hrun run
  revert hsample hupdate
  generalize @Dev.sampleAll = sample
  generalize @Dev.updateAxis = update
  generalize @Dev.updateOrder = order
  generalize @Dev.motionLoad = load
  generalize @Dev.motionCap = cap
  revert sample update order load cap
  refine id ?_
  intro sample update order load cap hsample hupdate
  dsimp -zeta -iota -proj only
  extract_lets +onlyGivenNames gr tt d1
  have h1 : o.Keeps d1 := h.upToOn
  clear_value gr tt d1
  revert gr tt d1
  refine id ?_
  intro gr tt d1 h1
  split
  extract_lets +onlyGivenNames _ _ _ _ _
  split
  have h5 := (hsample _ _ _ _ h1).ofFst ‹_›
  extract_lets +onlyGivenNames f2
  have hf2 : ∀ x0 x x2, o.Keeps x.1 → o.Keeps (f2 x0 x x2).1 := by
    refine fun _ _ _ k => ?_
    unfold f2
    split
    exact (hupdate _ _ _ _ _ k).ofFst ‹_›
  clear_value f2
  split
  have h6 := Dev.KeepsBy.ofFst (.foldlFst h5 (fun _ _ k => hf2 _ _ _ k)) ‹_›
  split
  have h8 := (hsample _ _ _ _ h6).ofFst ‹_›
  split
  have h9 := Dev.KeepsBy.ofFst (.foldlFst h8 (fun _ _ k => hf2 _ _ _ k)) ‹_›
  extract_lets d11 d12 d14
  have h11 : o.Keeps d11 := h9.modMotion
  have h12 : o.Keeps d12 := h11.iff (fun _ k => k.bumpBy.logSec)
  have h14 : o.Keeps d14 := h12.iff (fun _ k => k.motionSend)
  exact h14.modMotion

theorem Dev.KeepsBy.groupUpdate {g reached} (h : o.Keeps d) : o.Keeps (d.groupUpdate g reached) := by
  unfold Dev.groupUpdate
  refine .ite h ?_
  extract_lets d1
  have h1 : o.Keeps d1 := h.upToOn
  exact (h1.each (fun _ _ k2 => k2.groupRun)).groupRun

theorem Dev.KeepsBy.cmdRecord {w} (h : o.Keeps d) : o.Keeps (d.cmdRecord w).1 := by
  unfold Dev.cmdRecord
  extract_lets _ _
  split
  have h1 := h.axCommand.ofFst ‹_›
  exact h1

theorem Dev.KeepsBy.cmdRecords {l : List (List Nat)} (h : o.Keeps d) :
    o.Keeps (l.foldl (fun (x : Dev × List (List Nat)) w => let (d, r) := x.1.cmdRecord w; (d, x.2 ++ [r])) (d, [])).1 := by
  refine .foldlFst h fun a _ k => ?_
  split
  exact k.cmdRecord.ofFst ‹_›

theorem Dev.KeepsBy.commandFrame (h : o.Keeps d) : o.Keeps d.commandFrame := by
  unfold Dev.commandFrame
  refine .ite h ?_
  split
  · exact h.takeWhole.ofFst ‹_›
  · have h1 := h.takeWhole.ofFst ‹_›
    refine .ite h1.bump (.ite h1.bump.logSec ?_)
    split
    have h2 := h1.cmdRecords.ofFst ‹_›
    exact .ite h2 h2.motionSend

theorem Dev.KeepsBy.jogTimeout {a} (h : o.Keeps d) : o.Keeps (d.jogTimeout a) := by
  unfold Dev.jogTimeout
  split
  · refine .ite ?_ h
    extract_lets d1
    have h1 : o.Keeps d1 := h.upTo
    exact h1.stopAxis.syncAxis
  · exact h

theorem Dev.KeepsBy.mailPost {src dst m body hdr} (h : o.Keeps d) : o.Keeps (d.mailPost src dst m body hdr) := by
  unfold Dev.mailPost
  extract_lets _
  exact .ite (.foldl h.hostPut (fun _ _ k1 => k1.hostPut)) (.foldl h (fun _ _ k2 => k2.coreStoreAt))

theorem Dev.KeepsBy.mailAck {e m} (h : o.Keeps d) : o.Keeps (d.mailAck e m) := by
  unfold Dev.mailAck
  extract_lets _
  exact .ite h.hostRead h.coreLoadAt

theorem Dev.KeepsBy.mailStatus {e m v} (h : o.Keeps d) : o.Keeps (d.mailStatus e m v) := by
  unfold Dev.mailStatus
  exact .ite h.hostPut h.coreStoreAt

theorem Dev.KeepsBy.bellRead {e} (h : o.Keeps d) : o.Keeps (d.bellRead e) := by
  unfold Dev.bellRead
  exact .ite h.hostRead h.coreLoadAt

theorem Dev.KeepsBy.imodEnd {c} (h : o.Keeps d) : o.Keeps (d.imodEnd c) := by
  unfold Dev.imodEnd
  split
  · exact h.upTo.modCore
  · exact h

theorem Dev.KeepsBy.consoleSend (h : o.Keeps d) : o.Keeps d.consoleSend := by
  unfold Dev.consoleSend
  refine .ite h ?_
  split
  · exact h
  · exact h.modSump.emit

theorem Dev.KeepsBy.eraseEnd (h : o.Keeps d) : o.Keeps d.eraseEnd := by
  unfold Dev.eraseEnd
  refine .ite h ?_
  extract_lets d1 d2
  have h1 : o.Keeps d1 := h.eraseRenew
  have h2 : o.Keeps d2 := h1.releaseAll
  exact .ite h1 h2.event.setOb.setOb

theorem Dev.KeepsBy.actTimeout (h : o.Keeps d) : o.Keeps d.actTimeout := by
  unfold Dev.actTimeout
  split
  · exact h
  · refine .ite h ?_
    extract_lets d1 d2 d4
    have h1 : o.Keeps d1 := h.upTo
    have h2 : o.Keeps d2 := h1.each (fun _ _ k3 => k3.keeperFlip)
    have h4 : o.Keeps d4 := h2.modMm.rolesBack
    exact h4.setOb.logE

theorem Dev.KeepsBy.modSmb {f} (h : o.Keeps d) : o.Keeps (d.modSmb f) := h.withSump

theorem Dev.KeepsBy.smbBad {status} (h : o.Keeps d) : o.Keeps (d.smbBad status) := by
  unfold Dev.smbBad
  exact h.bump.modSmb

theorem Dev.KeepsBy.smbDo {pec fits good f} (h : o.Keeps d) (hf : ∀ d, o.Keeps d → o.Keeps (f d).1) : o.Keeps (d.smbDo pec fits good f) := by
  unfold Dev.smbDo
  extract_lets _ _ d1
  have h1 : o.Keeps d1 := by
    refine .ite h.smbBad ?_
    refine .ite ?_ ?_
    · split
      have h2 := h.fresh.ofSnd ‹_›
      exact h2.smbBad
    · refine .ite h.smbBad ?_
      split
      have h3 := (hf _ h).ofFst ‹_›
      exact h3.modSmb
  exact h1.modSmb

theorem Dev.KeepsBy.smbRead {pec data} (h : o.Keeps d) : o.Keeps (d.smbRead pec data) := by
  unfold Dev.smbRead
  exact h.smbDo (fun _ k1 => .answer k1.emit)

theorem Dev.KeepsBy.smbRequest {data} (h : o.Keeps d) : o.Keeps (d.smbRequest data).1 := by
  unfold Dev.smbRequest
  exact .iteFst h (.answer h.modSmb.requestWords)

theorem Dev.KeepsBy.coreOff {core} (h : o.Keeps d) : o.Keeps (d.coreOff core) := by
  unfold Dev.coreOff
  exact ((h.each (fun _ _ k1 => .ite k1 k1.quarantine)).rxUnlock).corePowerOff

theorem Dev.KeepsBy.domainOff {n} (h : o.Keeps d) : o.Keeps (d.domainOff n) := by
  unfold Dev.domainOff
  exact .ite h (.ite h.power (.ite h.allOff (.ite h.motionOff (.ite h.coreOff (.ite h.passRoles.rxUnlock.corePowerOff (.ite h.engOff (.ite h.tileOff h.upPowerOff)))))))

theorem Dev.KeepsBy.dinStep {p i raw} (h : o.Keeps d) : o.Keeps (d.dinStep p i raw) := by
  unfold Dev.dinStep
  extract_lets _ d1 _ d2 _ d3 _
  have h1 : o.Keeps d1 := h.modDin
  have h2 : o.Keeps d2 := h1.modDin
  have h3 : o.Keeps d3 := h1.modDin
  exact .ite h1.modDin (.ite (.ite h1 (.ite h2.modDin.bump.logE h2)) (.ite h1.modDin (.ite h3.modDin.bump h3)))

theorem Dev.KeepsBy.dinSample {p cv} (h : o.Keeps d) : o.Keeps (d.dinSample p cv) := by
  unfold Dev.dinSample
  refine .ite h ?_
  extract_lets d1 d2 d3
  have h1 : o.Keeps d1 := h.upTo
  have h2 : o.Keeps d2 := h1.modPort
  have h3 : o.Keeps d3 := by
    refine h2.each (fun _ _ k4 => ?_)
    refine .ite k4.dinStep ?_
    extract_lets _
    exact k4.modDin.dinStep
  exact h3.modPort.degCheck

theorem Dev.KeepsBy.encLevels {p a b} (h : o.Keeps d) : o.Keeps (d.encLevels p a b) := by
  unfold Dev.encLevels
  refine .ite h ?_
  extract_lets _ _ _ _ d1 f2
  have h1 : o.Keeps d1 := h.modPort
  have hf2 : ∀ x0, o.Keeps (f2 x0) := fun _ => h1.setOb
  exact .ite h.encIllegal (.ite (hf2 _) (.ite (hf2 _) h1))

theorem Dev.KeepsBy.lineQuality {p q} (h : o.Keeps d) : o.Keeps (d.lineQuality p q) := by
  unfold Dev.lineQuality
  exact .ite h.modPort.degCheck h

theorem Dev.KeepsBy.busMore {p code tx} (h : o.Keeps d) : o.Keeps (d.busMore p code tx) := by
  unfold Dev.busMore
  refine .ite h ?_
  extract_lets d1
  have h1 : o.Keeps d1 := h.setOb
  exact Dev.KeepsBy.confine (.ite h1.setOb h1.setOb)

theorem Dev.KeepsBy.macEnd {o'} (h : o.Keeps d) : o.Keeps (d.macEnd o') := by
  unfold Dev.macEnd
  split
  · exact h
  · extract_lets _ _ d1 d2 _
    have h1 : o.Keeps d1 := h.upTo
    have h2 : o.Keeps d2 := h1.offLine.modMac
    split
    · exact h
    · extract_lets d3 d4 d5
      have h3 : o.Keeps d3 := h2.onWire
      have h4 : o.Keeps d4 := .ite h3.bump h3.macBump.bumpBy
      have h5 : o.Keeps d5 := .ite h4.postTs h4
      exact h5.chargeEnd

theorem Dev.KeepsBy.runnelEnd {c} (h : o.Keeps d) : o.Keeps (d.runnelEnd c) := by
  unfold Dev.runnelEnd
  split
  · exact h
  · extract_lets d1
    have h1 : o.Keeps d1 := h.fillTx
    exact .ite h1 h1.offLine.modSw.chargeEnd

theorem Dev.KeepsBy.outputEnd {o'} (h : o.Keeps d) : o.Keeps (d.outputEnd o') := by
  unfold Dev.outputEnd
  exact .ite h.macEnd (.ite h.runnelEnd h)

theorem Dev.KeepsBy.nitEdge {s ago} (h : o.Keeps d) : o.Keeps (d.nitEdge s ago) := by
  unfold Dev.nitEdge
  exact .ite h h.modSeg.bump.logSec

theorem Dev.KeepsBy.adopt {s st h'} (h : o.Keeps d) : o.Keeps (d.adopt s st h') := by
  unfold Dev.adopt
  extract_lets _ _ _ _ _
  refine .ite h.bump.logE ?_
  split
  extract_lets d1
  have h1 : o.Keeps d1 := h.modSeg
  exact h1.segTo

theorem Dev.KeepsBy.listenFrame {s ago f} (h : o.Keeps d) : o.Keeps (d.listenFrame s ago f) := by
  unfold Dev.listenFrame
  extract_lets _ _ d1 _ d2
  have h1 : o.Keeps d1 := .ite h.listenFrom h
  have h2 : o.Keeps d2 := h1.segBad
  exact .ite h.nitEdge.segBad (.ite h2.adopt h2)

theorem Dev.KeepsBy.perstRelease (h : o.Keeps d) : o.Keeps d.perstRelease := by
  unfold Dev.perstRelease
  refine .ite h ?_
  extract_lets d1
  have h1 : o.Keeps d1 := (h.hostLevels (fun _ k2 => k2.epochInc)).modSump
  exact h1.linkTrain

theorem Dev.KeepsBy.brownOutReturn {rail} (h : o.Keeps d) : o.Keeps (d.brownOutReturn rail) := by
  unfold Dev.brownOutReturn
  refine .ite h ?_
  extract_lets d1
  have h1 : o.Keeps d1 := h.modSump
  exact .ite h1 h1.warmRestart

theorem Dev.KeepsBy.vtfChange {t present dv} (h : o.Keeps d) : o.Keeps (d.vtfChange t present dv) := by
  unfold Dev.vtfChange
  extract_lets d1
  have h1 : o.Keeps d1 := h.modTile.setOb
  exact .ite h1 (h1.each (fun _ _ k2 => .ite k2.modPort k2))

theorem Dev.KeepsBy.jtag {ir} (h : o.Keeps d) : o.Keeps (d.jtag ir) := by
  unfold Dev.jtag
  refine .ite h ?_
  refine .ite h.emit ?_
  refine .ite h.emit ?_
  refine .ite h.emit ?_
  split
  have h1 := h.fresh.ofSnd ‹_›
  exact h1.emit

end Sys2Proof.Machine
end

section
/-! SUPPORT. What every step keeps, command by command: the outcome of each command, of a core's word and of an idle step. -/
set_option Elab.async false
namespace Sys2Proof.Machine

/-- A command's outcome keeps what every step keeps. -/
def State.Keeps (s : State) (r : Host.Outcome State Fault Refusal) : Prop := ∀ t, r = .next t → s.dev.Keeps t.dev

section
variable {s : State} {f : Dev → Dev}

theorem lift_keeps (h : ∀ d, s.dev.Keeps d → s.dev.Keeps (f d)) : s.Keeps (lift f s) := by
  rintro _ ⟨⟩; exact h _ .refl

theorem run_keeps (h : ∀ d, s.dev.Keeps d → s.dev.Keeps (f d)) : s.Keeps (run f s) :=
  lift_keeps fun _ k => (h _ k.markNext).settle

theorem wants_keeps {ok : Bool} {what : String} (h : ∀ d, s.dev.Keeps d → s.dev.Keeps (f d)) : s.Keeps (wants ok what f s) := by
  intro t e
  cases ok with
  | false => rw [wants_fault rfl] at e; cases e
  | true => rw [wants_next rfl] at e; exact run_keeps h t e

/-- Every command but a power on keeps memory canonical and PD0 on, and T0 does not run back. -/
theorem exec_keeps (c : Instr) (hp : c ≠ .powerOn) (hb : c ≠ .brownOut 7) : s.Keeps (exec c s) := by
  cases c
  case powerOn => exact absurd rfl hp
  case brownOut rail =>
    have hr : rail.val ≠ 7 := fun e => hb (congrArg Instr.brownOut (Fin.ext e))
    exact (run_keeps fun _ k => k.brownOut hr : s.Keeps (execBrownOut ..))
  case doorbellRing bell v =>
    obtain ⟨ep, core⟩ := bell
    cases core with
    | none => exact (run_keeps fun _ k => k.ring : s.Keeps (run (·.ring ep v.toNat) s))
    | some c => exact (run_keeps fun _ k => k.coreStoreAt : s.Keeps (run (·.coreStoreAt c (0x010C00 + ep) v.toNat) s))
  case resetLow => exact (run_keeps fun _ k => k.resetLow : s.Keeps (execResetLow ..))
  case resetRelease => exact (run_keeps fun _ k => k.resetRelease : s.Keeps (execResetRelease ..))
  case warmRestart => exact (run_keeps fun _ k => .ite k k.warmRestart : s.Keeps (execWarmRestart ..))
  case perst => exact (run_keeps fun _ k => k.perst : s.Keeps (execPerst ..))
  case bootLimitExpiry => exact (run_keeps fun _ k => k.bootLimit : s.Keeps (execBootLimitExpiry ..))
  case hostBootChunk => exact (run_keeps fun _ k => k.hostChunk : s.Keeps (execHostBootChunk ..))
  case refclk25Absent => exact (run_keeps fun _ k => k.refAbsent : s.Keeps (execRefclk25Absent ..))
  case refclk25Present => exact (run_keeps fun _ k => k.refPresent : s.Keeps (execRefclk25Present ..))
  case holdPinLow => exact (run_keeps fun _ k => k.holdPinLow : s.Keeps (execHoldPinLow ..))
  case holdPinHigh => exact (run_keeps fun _ k => k.holdPinHigh : s.Keeps (execHoldPinHigh ..))
  case interconnectTimeout => exact (run_keeps fun _ k => k.busTimeout : s.Keeps (execInterconnectTimeout ..))
  case sumpWatchdogExpiry => exact (run_keeps fun _ k => k.sumpWatchdog : s.Keeps (execSumpWatchdogExpiry ..))
  case wdogKick => exact (run_keeps fun _ k => k.agentStore : s.Keeps (execWdogKick ..))
  case ctxDone => exact (run_keeps fun _ k => k.agentStore : s.Keeps (execCtxDone ..))
  case cpPendingClear => exact (run_keeps fun _ k => k.agentStore : s.Keeps (execCpPendingClear ..))
  case ckptReq => exact (run_keeps fun _ k => k.agentStore : s.Keeps (execCkptReq ..))
  case gcEnWrite => exact (run_keeps fun _ k => k.agentStore : s.Keeps (execGcEnWrite ..))
  case modeRequest => exact (run_keeps fun _ k => k.writeReq : s.Keeps (execModeRequest ..))
  case tapBudgetWrite => exact (run_keeps fun _ k => k.writeReq : s.Keeps (execTapBudgetWrite ..))
  case tapPeakClear => exact (run_keeps fun _ k => k.writeReq : s.Keeps (execTapPeakClear ..))
  case tjMaxReset => exact (run_keeps fun _ k => k.writeReq : s.Keeps (execTjMaxReset ..))
  case revokeKey => exact (run_keeps fun _ k => k.writeReq : s.Keeps (execRevokeKey ..))
  case jtagLockWrite => exact (run_keeps fun _ k => k.writeReq : s.Keeps (execJtagLockWrite ..))
  case registerWrite => exact (run_keeps fun _ k => k.writeReq : s.Keeps (execRegisterWrite ..))
  case eccClear => exact (run_keeps fun _ k => k.writeReq : s.Keeps (execEccClear ..))
  case portModeWrite => exact (run_keeps fun _ k => k.writeReq : s.Keeps (execPortModeWrite ..))
  case portDisable => exact (run_keeps fun _ k => k.writeReq : s.Keeps (execPortDisable ..))
  case portEnable => exact (run_keeps fun _ k => k.writeReq : s.Keeps (execPortEnable ..))
  case portQuarantine => exact (run_keeps fun _ k => k.writeReq : s.Keeps (execPortQuarantine ..))
  case portOptionWrite => exact (run_keeps fun _ k => k.writeReq : s.Keeps (execPortOptionWrite ..))
  case recal => exact (run_keeps fun _ k => k.writeReq : s.Keeps (execRecal ..))
  case roleMove => exact (run_keeps fun _ k => k.writeReq : s.Keeps (execRoleMove ..))
  case roleMoveCancel => exact (run_keeps fun _ k => k.writeReq : s.Keeps (execRoleMoveCancel ..))
  case portCntClear => exact (run_keeps fun _ k => k.writeReq : s.Keeps (execPortCntClear ..))
  case tileColdStart => exact (run_keeps fun _ k => k.writeReq : s.Keeps (execTileColdStart ..))
  case tileRecalibrate => exact (run_keeps fun _ k => k.writeReq : s.Keeps (execTileRecalibrate ..))
  case tileUseWrite => exact (run_keeps fun _ k => k.writeReq : s.Keeps (execTileUseWrite ..))
  case tdrStart => exact (run_keeps fun _ k => k.writeReq : s.Keeps (execTdrStart ..))
  case edgeClear => exact (run_keeps fun _ k => k.writeReq : s.Keeps (execEdgeClear ..))
  case encPreset => exact (run_keeps fun _ k => k.writeReq : s.Keeps (execEncPreset ..))
  case uplinkModeWrite => exact (run_keeps fun _ k => k.writeReq : s.Keeps (execUplinkModeWrite ..))
  case gclApply => exact (run_keeps fun _ k => k.writeReq : s.Keeps (execGclApply ..))
  case macCntClear => exact (run_keeps fun _ k => k.writeReq : s.Keeps (execMacCntClear ..))
  case upCntClear => exact (run_keeps fun _ k => k.writeReq : s.Keeps (execUpCntClear ..))
  case busTimingWrite => exact (run_keeps fun _ k => k.writeReq : s.Keeps (execBusTimingWrite ..))
  case listenOnlyWrite => exact (run_keeps fun _ k => k.writeReq : s.Keeps (execListenOnlyWrite ..))
  case busCntClear => exact (run_keeps fun _ k => k.writeReq : s.Keeps (execBusCntClear ..))
  case runCntClear => exact (run_keeps fun _ k => k.writeReq : s.Keeps (execRunCntClear ..))
  case coreStart => exact (run_keeps fun _ k => k.writeReq : s.Keeps (execCoreStart ..))
  case coreHold => exact (run_keeps fun _ k => k.writeReq : s.Keeps (execCoreHold ..))
  case coreReset => exact (run_keeps fun _ k => k.writeReq : s.Keeps (execCoreReset ..))
  case ctxBind => exact (run_keeps fun _ k => k.writeReq : s.Keeps (execCtxBind ..))
  case ctxStart => exact (run_keeps fun _ k => k.writeReq : s.Keeps (execCtxStart ..))
  case ctxStop => exact (run_keeps fun _ k => k.writeReq : s.Keeps (execCtxStop ..))
  case ctxUnbind => exact (run_keeps fun _ k => k.writeReq : s.Keeps (execCtxUnbind ..))
  case ctxRestart => exact (run_keeps fun _ k => k.writeReq : s.Keeps (execCtxRestart ..))
  case ctxMigrate => exact (run_keeps fun _ k => k.writeReq : s.Keeps (execCtxMigrate ..))
  case ctxPersSwap => exact (run_keeps fun _ k => k.writeReq : s.Keeps (execCtxPersSwap ..))
  case persDelete => exact (run_keeps fun _ k => k.writeReq : s.Keeps (execPersDelete ..))
  case ctxCntClear => exact (run_keeps fun _ k => k.writeReq : s.Keeps (execCtxCntClear ..))
  case meterClear => exact (run_keeps fun _ k => k.writeReq : s.Keeps (execMeterClear ..))
  case qCntClear => exact (run_keeps fun _ k => k.writeReq : s.Keeps (execQCntClear ..))
  case peakClear => exact (run_keeps fun _ k => k.writeReq : s.Keeps (execPeakClear ..))
  case freeMinReset => exact (run_keeps fun _ k => k.writeReq : s.Keeps (execFreeMinReset ..))
  case contestClear => exact (run_keeps fun _ k => k.writeReq : s.Keeps (execContestClear ..))
  case regClear => exact (run_keeps fun _ k => k.writeReq : s.Keeps (execRegClear ..))
  case regionWrite => exact (run_keeps fun _ k => k.writeReq : s.Keeps (execRegionWrite ..))
  case regCntClear => exact (run_keeps fun _ k => k.writeReq : s.Keeps (execRegCntClear ..))
  case cellarCntClear => exact (run_keeps fun _ k => k.writeReq : s.Keeps (execCellarCntClear ..))
  case tbIncrWrite => exact (run_keeps fun _ k => k.writeReq : s.Keeps (execTbIncrWrite ..))
  case tbOffsetWrite => exact (run_keeps fun _ k => k.writeReq : s.Keeps (execTbOffsetWrite ..))
  case tbSetWrite => exact (run_keeps fun _ k => k.writeReq : s.Keeps (execTbSetWrite ..))
  case tbSyncedWrite => exact (run_keeps fun _ k => k.writeReq : s.Keeps (execTbSyncedWrite ..))
  case tbReserveWrite => exact (run_keeps fun _ k => k.writeReq : s.Keeps (execTbReserveWrite ..))
  case tbSwitchReserve => exact (run_keeps fun _ k => k.writeReq : s.Keeps (execTbSwitchReserve ..))
  case tbSwitchOwn => exact (run_keeps fun _ k => k.writeReq : s.Keeps (execTbSwitchOwn ..))
  case disciplineWrite => exact (run_keeps fun _ k => k.writeReq : s.Keeps (execDisciplineWrite ..))
  case tbCntClear => exact (run_keeps fun _ k => k.writeReq : s.Keeps (execTbCntClear ..))
  case segStart => exact (run_keeps fun _ k => k.writeReq : s.Keeps (execSegStart ..))
  case segStop => exact (run_keeps fun _ k => k.writeReq : s.Keeps (execSegStop ..))
  case segCntClear => exact (run_keeps fun _ k => k.writeReq : s.Keeps (execSegCntClear ..))
  case axisParamWrite => exact (run_keeps fun _ k => k.writeReq : s.Keeps (execAxisParamWrite ..))
  case axUseWrite => exact (run_keeps fun _ k => k.writeReq : s.Keeps (execAxUseWrite ..))
  case mVelWrite => exact (run_keeps fun _ k => k.writeReq : s.Keeps (execMVelWrite ..))
  case axCntClear => exact (run_keeps fun _ k => k.writeReq : s.Keeps (execAxCntClear ..))
  case fwPrepare => exact (run_keeps fun _ k => k.writeReq : s.Keeps (execFwPrepare ..))
  case fwActivateRestart => exact (run_keeps fun _ k => k.writeReq : s.Keeps (execFwActivateRestart ..))
  case fwActivateLive => exact (run_keeps fun _ k => k.writeReq : s.Keeps (execFwActivateLive ..))
  case roleHolderWrite => exact (run_keeps fun _ k => k.writeReq : s.Keeps (execRoleHolderWrite ..))
  case sumpRestart => exact (run_keeps fun _ k => k.writeReq : s.Keeps (execSumpRestart ..))
  case alertClear => exact (run_keeps fun _ k => k.writeReq : s.Keeps (execAlertClear ..))
  case clearFail => exact (run_keeps fun _ k => k.writeReq : s.Keeps (execClearFail ..))
  case limpWaitEnd => exact (run_keeps fun _ k => k.limpWaitEnds : s.Keeps (execLimpWaitEnd ..))
  case limpReturn => exact (run_keeps fun _ k => k.limpReturn : s.Keeps (execLimpReturn ..))
  case wakeAtAlarm => exact (run_keeps fun _ k => k.wakeAlarm : s.Keeps (execWakeAtAlarm ..))
  case tjSample => exact (wants_keeps fun _ k => k.tjSample : s.Keeps (execTjSample ..))
  case tapRailSample => exact (wants_keeps fun _ k => k.railStep : s.Keeps (execTapRailSample ..))
  case limpPowerDormant => exact (run_keeps fun _ k => k.limpDraw : s.Keeps (execLimpPowerDormant ..))
  case tapRequest => exact (run_keeps fun _ k => k.tapMessage : s.Keeps (execTapRequest ..))
  case tapRelease => exact (run_keeps fun _ k => k.tapMessage : s.Keeps (execTapRelease ..))
  case tapWaitExpiry => exact (run_keeps fun _ k => k.tapWaitEnds : s.Keeps (execTapWaitExpiry ..))
  case permitExpiry => exact (run_keeps fun _ k => k.permitEnds : s.Keeps (execPermitExpiry ..))
  case read => exact (run_keeps fun _ k => k.request : s.Keeps (execRead ..))
  case write => exact (run_keeps fun _ k => k.request : s.Keeps (execWrite ..))
  case readMulti => exact (run_keeps fun _ k => k.request : s.Keeps (execReadMulti ..))
  case writeMulti => exact (run_keeps fun _ k => k.request : s.Keeps (execWriteMulti ..))
  case sigRead => exact (run_keeps fun _ k => k.request : s.Keeps (execSigRead ..))
  case sigWrite => exact (run_keeps fun _ k => k.request : s.Keeps (execSigWrite ..))
  case sigForce => exact (run_keeps fun _ k => k.request : s.Keeps (execSigForce ..))
  case sigUnforce => exact (run_keeps fun _ k => k.request : s.Keeps (execSigUnforce ..))
  case domainPut => exact (run_keeps fun _ k => k.request : s.Keeps (execDomainPut ..))
  case domainGet => exact (run_keeps fun _ k => k.request : s.Keeps (execDomainGet ..))
  case save => exact (run_keeps fun _ k => k.request : s.Keeps (execSave ..))
  case restoreDefaults => exact (run_keeps fun _ k => k.request : s.Keeps (execRestoreDefaults ..))
  case subscribe => exact (run_keeps fun _ k => k.request : s.Keeps (execSubscribe ..))
  case domainPutIdle => exact (run_keeps fun _ k => k.putIdle : s.Keeps (execDomainPutIdle ..))
  case saveDone => exact (run_keeps fun _ k => k.saveEnd : s.Keeps (execSaveDone ..))
  case subscribeSend => exact (run_keeps fun _ k => k.subscribeSend : s.Keeps (execSubscribeSend ..))
  case dictTimeout => exact (run_keeps fun _ k => k.dictTimeout : s.Keeps (execDictTimeout ..))
  case hatchCompletionPost => exact (run_keeps fun _ k => .ite k.postCompl k : s.Keeps (execHatchCompletionPost ..))
  case qwRead => exact (run_keeps fun _ k => k.hostPut : s.Keeps (execQwRead ..))
  case qwWrite1 => exact (run_keeps fun _ k => k.hostPut : s.Keeps (execQwWrite1 ..))
  case qwWrite2 => exact (run_keeps fun _ k => k.hostPut : s.Keeps (execQwWrite2 ..))
  case qwOverlapClear => exact (run_keeps fun _ k => k.hostPut : s.Keeps (execQwOverlapClear ..))
  case hostReset => exact (run_keeps fun _ k => k.hostPut : s.Keeps (execHostReset ..))
  case aapHello => exact (run_keeps fun _ k => k.aapHello : s.Keeps (execAapHello ..))
  case aapProve => exact (run_keeps fun _ k => k.aapProve : s.Keeps (execAapProve ..))
  case aapRequests => exact (run_keeps fun _ k => k.aapRequests : s.Keeps (execAapRequests ..))
  case aapOpenRead => exact (run_keeps fun _ k => k.aapOpenRead : s.Keeps (execAapOpenRead ..))
  case aapClose => exact (run_keeps fun _ k => k.aapClose : s.Keeps (execAapClose ..))
  case aapIdleTimeout => exact (run_keeps fun _ k => k.aapIdle : s.Keeps (execAapIdleTimeout ..))
  case aapBlockExpiry => exact (run_keeps fun _ k => k.aapUnblock : s.Keeps (execAapBlockExpiry ..))
  case hostRead => exact (run_keeps fun _ k => k.hostRead : s.Keeps (execHostRead ..))
  case hostWrite => exact (run_keeps fun _ k => k.hostWrite : s.Keeps (execHostWrite ..))
  case scrubStep => exact (run_keeps fun _ k => k.scrub : s.Keeps (execScrubStep ..))
  case portReservationDone => exact (run_keeps fun _ k => k.portAnswered : s.Keeps (execPortReservationDone ..))
  case probeTimeout => exact (run_keeps fun _ k => k.probeTimeout : s.Keeps (execProbeTimeout ..))
  case portUp => exact (run_keeps fun _ k => k.portUpEvent : s.Keeps (execPortUp ..))
  case linkLost => exact (run_keeps fun _ k => k.portDown : s.Keeps (execLinkLost ..))
  case degWindowEnd => exact (run_keeps fun _ k => k.degWindow : s.Keeps (execDegWindowEnd ..))
  case etxAnRestart => exact (run_keeps fun _ k => k.anRound : s.Keeps (execEtxAnRestart ..))
  case t1lResolve => exact (run_keeps fun _ k => k.t1lLevel : s.Keeps (execT1lResolve ..))
  case busPolaritySwap => exact (run_keeps fun _ k => k.busSwap : s.Keeps (execBusPolaritySwap ..))
  case idleLevelEval => exact (run_keeps fun _ k => k.idleEval : s.Keeps (execIdleLevelEval ..))
  case recalDone => exact (run_keeps fun _ k => k.recalEnd : s.Keeps (execRecalDone ..))
  case errReport => exact (run_keeps fun _ k => k.coreStoreAt : s.Keeps (execErrReport ..))
  case txSend => exact (run_keeps fun _ k => k.coreStoreAt : s.Keeps (execTxSend ..))
  case txAbort => exact (run_keeps fun _ k => k.coreStoreAt : s.Keeps (execTxAbort ..))
  case busRxRelease => exact (run_keeps fun _ k => k.coreStoreAt : s.Keeps (execBusRxRelease ..))
  case busDoneClear => exact (run_keeps fun _ k => k.coreStoreAt : s.Keeps (execBusDoneClear ..))
  case txPush => exact (run_keeps fun _ k => k.coreStoreAt : s.Keeps (execTxPush ..))
  case pendSet => exact (run_keeps fun _ k => k.coreStoreAt : s.Keeps (execPendSet ..))
  case pendClr => exact (run_keeps fun _ k => k.coreStoreAt : s.Keeps (execPendClr ..))
  case maskSet => exact (run_keeps fun _ k => k.coreStoreAt : s.Keeps (execMaskSet ..))
  case maskClr => exact (run_keeps fun _ k => k.coreStoreAt : s.Keeps (execMaskClr ..))
  case logPost => exact (run_keeps fun _ k => k.coreStoreAt : s.Keeps (execLogPost ..))
  case tileLoss => exact (run_keeps fun _ k => k.tileLost : s.Keeps (execTileLoss ..))
  case tileStartPermit => exact (run_keeps fun _ k => k.tileAnswered : s.Keeps (execTileStartPermit ..))
  case tileStartEnd => exact (run_keeps fun _ k => k.tileStarted : s.Keeps (execTileStartEnd ..))
  case tileAutoRestart => exact (run_keeps fun _ k => k.tileAuto : s.Keeps (execTileAutoRestart ..))
  case overcurrent => exact (run_keeps fun _ k => k.lineFault : s.Keeps (execOvercurrent ..))
  case overvoltage => exact (run_keeps fun _ k => k.overVolt : s.Keeps (execOvervoltage ..))
  case retryDelayEnd => exact (run_keeps fun _ k => k.retryAsk : s.Keeps (execRetryDelayEnd ..))
  case retryPermit => exact (run_keeps fun _ k => k.retryGo : s.Keeps (execRetryPermit ..))
  case retryWindowEnd => exact (run_keeps fun _ k => k.retryEnd : s.Keeps (execRetryWindowEnd ..))
  case retryCountReset => exact (run_keeps fun _ k => k.retryReset : s.Keeps (execRetryCountReset ..))
  case tdrAcqEnd => exact (run_keeps fun _ k => k.tdrAcquired : s.Keeps (execTdrAcqEnd ..))
  case tdrProcEnd => exact (wants_keeps fun _ k => k.tdrProcessed : s.Keeps (execTdrProcEnd ..))
  case flutterWindowEnd => exact (run_keeps fun _ k => k.flutterEnd : s.Keeps (execFlutterWindowEnd ..))
  case stuckTimeout => exact (run_keeps fun _ k => k.stuckEnd : s.Keeps (execStuckTimeout ..))
  case wirebreakTest => exact (run_keeps fun _ k => k.wbTest : s.Keeps (execWirebreakTest ..))
  case supplyLowTimer => exact (run_keeps fun _ k => k.supplyTimer : s.Keeps (execSupplyLowTimer ..))
  case encIndexEdge =>
    refine (run_keeps (fun _ k1 => ?_) : s.Keeps (execEncIndexEdge ..))
    refine k1.iff (fun _ k2 => ?_)
    extract_lets _
    exact k2.iff (fun _ k3 => k3.encIndex)
  case encIllegalTransition => exact (run_keeps (fun _ k1 => k1.iff (fun _ k2 => k2.encIllegal)) : s.Keeps (execEncIllegalTransition ..))
  case macRxFrame => exact (run_keeps fun _ k => k.macRx : s.Keeps (execMacRxFrame ..))
  case pauseRx => exact (run_keeps fun _ k => .ite k (.ite k.bump k.pauseRx) : s.Keeps (execPauseRx ..))
  case pauseExpiry => exact (run_keeps fun _ k => k.pauseEnds : s.Keeps (execPauseExpiry ..))
  case tsPop => exact (run_keeps fun _ k => k.agentLoad : s.Keeps (execTsPop ..))
  case ppsPop => exact (run_keeps fun _ k => k.agentLoad : s.Keeps (execPpsPop ..))
  case uplinkUp => exact (run_keeps fun _ k => k.upLink : s.Keeps (execUplinkUp ..))
  case uplinkFault => exact (run_keeps fun _ k => k.upFaulted : s.Keeps (execUplinkFault ..))
  case uplinkFaultClear => exact (run_keeps fun _ k => k.upCleared : s.Keeps (execUplinkFaultClear ..))
  case deviceFrameRx => exact (run_keeps fun _ k => k.deviceFrame : s.Keeps (execDeviceFrameRx ..))
  case gclChange => exact (run_keeps fun _ k => k.gclTake : s.Keeps (execGclChange ..))
  case gclEntryEnd => exact (run_keeps fun _ k => k.gclNext : s.Keeps (execGclEntryEnd ..))
  case busSelect => exact (run_keeps fun _ k => k.busSelect : s.Keeps (execBusSelect ..))
  case busAttemptEnd => exact (run_keeps fun _ k => k.attemptEnd : s.Keeps (execBusAttemptEnd ..))
  case busRxFrame => exact (run_keeps fun _ k => k.busRx : s.Keeps (execBusRxFrame ..))
  case protocolException => exact (run_keeps fun _ k => k.busException : s.Keeps (execProtocolException ..))
  case busRxLockRead => exact (run_keeps fun _ k => k.coreLoadAt : s.Keeps (execBusRxLockRead ..))
  case rxPop => exact (run_keeps fun _ k => k.coreLoadAt : s.Keeps (execRxPop ..))
  case busRefill => exact (run_keeps fun _ k => k.busRefill : s.Keeps (execBusRefill ..))
  case busRecover =>
    refine (run_keeps (fun _ k1 => ?_) : s.Keeps (execBusRecover ..))
    split
    · exact k1.writeReq
    · exact k1.coreStoreAt
  case winSwapWait =>
    refine (run_keeps (fun _ k1 => ?_) : s.Keeps (execWinSwapWait ..))
    split
    · exact k1.writeReq
    · exact k1.coreStoreAt
  case winSwapNow =>
    refine (run_keeps (fun _ k1 => ?_) : s.Keeps (execWinSwapNow ..))
    split
    · exact k1.writeReq
    · exact k1.coreStoreAt
  case winSwapForce =>
    refine (run_keeps (fun _ k1 => ?_) : s.Keeps (execWinSwapForce ..))
    split
    · exact k1.writeReq
    · exact k1.coreStoreAt
  case winSwapCancel =>
    refine (run_keeps (fun _ k1 => ?_) : s.Keeps (execWinSwapCancel ..))
    split
    · exact k1.writeReq
    · exact k1.coreStoreAt
  case engStart =>
    refine (run_keeps (fun _ k1 => ?_) : s.Keeps (execEngStart ..))
    split
    · exact k1.writeReq
    · exact k1.coreStoreAt
  case engBitsync =>
    refine (run_keeps (fun _ k1 => ?_) : s.Keeps (execEngBitsync ..))
    split
    · exact k1.writeReq
    · exact k1.coreStoreAt
  case armActionArm =>
    refine (run_keeps (fun _ k1 => ?_) : s.Keeps (execArmActionArm ..))
    split
    · exact k1.writeReq
    · exact k1.coreStoreAt
  case armActionCancel =>
    refine (run_keeps (fun _ k1 => ?_) : s.Keeps (execArmActionCancel ..))
    split
    · exact k1.writeReq
    · exact k1.coreStoreAt
  case chStart =>
    refine (run_keeps (fun _ k1 => ?_) : s.Keeps (execChStart ..))
    split
    · exact k1.writeReq
    · exact k1.coreStoreAt
  case chHalt =>
    refine (run_keeps (fun _ k1 => ?_) : s.Keeps (execChHalt ..))
    split
    · exact k1.writeReq
    · exact k1.coreStoreAt
  case chRestart =>
    refine (run_keeps (fun _ k1 => ?_) : s.Keeps (execChRestart ..))
    split
    · exact k1.writeReq
    · exact k1.coreStoreAt
  case chFlagsClear =>
    refine (run_keeps (fun _ k1 => ?_) : s.Keeps (execChFlagsClear ..))
    split
    · exact k1.writeReq
    · exact k1.coreStoreAt
  case busRecoveryDone => exact (run_keeps fun _ k => k.busRecovered : s.Keeps (execBusRecoveryDone ..))
  case rnJmp => exact (run_keeps (fun _ k1 => k1.issue (fun _ k2 => k2.rnNext)) : s.Keeps (execRnJmp ..))
  case ctlDelay => exact (run_keeps (fun _ k1 => k1.issue (fun _ k2 => k2.rnNext)) : s.Keeps (execCtlDelay ..))
  case rnJcond =>
    refine (run_keeps (fun _ k1 => ?_) : s.Keeps (execRnJcond ..))
    refine k1.issue (fun _ k2 => ?_)
    extract_lets d3
    have h3 : s.dev.Keeps d3 := k2.sees
    exact h3.rnNext
  case rnWait =>
    refine (run_keeps (fun _ k1 => ?_) : s.Keeps (execRnWait ..))
    refine k1.issue (fun _ k2 => ?_)
    extract_lets d3
    have h3 : s.dev.Keeps d3 := k2.sees
    exact h3.rnWaitFor
  case inRhr => exact (run_keeps (fun _ k1 => k1.issue (fun _ k2 => k2.rnTake)) : s.Keeps (execInRhr ..))
  case inReport =>
    refine (run_keeps (fun _ k1 => ?_) : s.Keeps (execInReport ..))
    refine k1.rnPlain (fun _ k2 => ?_)
    split
    have h3 := k2.inputRead.ofFst ‹_›
    exact h3.setXY
  case inIv =>
    refine (run_keeps (fun _ k1 => ?_) : s.Keeps (execInIv ..))
    refine k1.rnPlain (fun _ k2 => ?_)
    extract_lets d3
    have h3 : s.dev.Keeps d3 := k2.sees
    exact h3.setXY
  case inTime => exact (run_keeps (fun _ k1 => k1.rnPlain (fun _ k2 => k2.setXY)) : s.Keeps (execInTime ..))
  case setX => exact (run_keeps (fun _ k1 => k1.rnPlain (fun _ k2 => k2.setXY)) : s.Keeps (execSetX ..))
  case setY => exact (run_keeps (fun _ k1 => k1.rnPlain (fun _ k2 => k2.setXY)) : s.Keeps (execSetY ..))
  case rnOut => exact (run_keeps (fun _ k1 => k1.issue (fun _ k2 => k2.rnOutOf)) : s.Keeps (execRnOut ..))
  case rnMov =>
    refine (run_keeps (fun _ k1 => ?_) : s.Keeps (execRnMov ..))
    refine k1.rnPlain (fun _ k2 => ?_)
    extract_lets d3
    have h3 : s.dev.Keeps d3 := k2.sees
    exact h3.rnMove
  case rnPush => exact (run_keeps (fun _ k1 => k1.issue (fun _ k2 => k2.rnPushEnt)) : s.Keeps (execRnPush ..))
  case rnPull => exact (run_keeps (fun _ k1 => k1.issue (fun _ k2 => k2.rnPullEnt)) : s.Keeps (execRnPull ..))
  case setDrv => exact (run_keeps (fun _ k1 => k1.rnPlain (fun _ k2 => .ite k2.modChan k2)) : s.Keeps (execSetDrv ..))
  case setLine => exact (run_keeps (fun _ k1 => k1.rnPlain (fun _ k2 => k2.setOb)) : s.Keeps (execSetLine ..))
  case setRxctl => exact (run_keeps (fun _ k1 => k1.rnPlain (fun _ k2 => k2.modChan)) : s.Keeps (execSetRxctl ..))
  case setTsarm => exact (run_keeps (fun _ k1 => k1.rnPlain (fun _ k2 => k2.modChan)) : s.Keeps (execSetTsarm ..))
  case setBitph => exact (run_keeps (fun _ k1 => k1.rnPlain (fun _ k2 => k2.modChan)) : s.Keeps (execSetBitph ..))
  case setSc => exact (run_keeps (fun _ k1 => k1.rnPlain (fun _ k2 => k2.modChan)) : s.Keeps (execSetSc ..))
  case ctlIrq => exact (run_keeps (fun _ k1 => k1.rnPlain (fun _ k2 => k2.raise)) : s.Keeps (execCtlIrq ..))
  case ctlSync => exact (run_keeps (fun _ k1 => k1.issue (fun _ k2 => k2.rnSync)) : s.Keeps (execCtlSync ..))
  case ctlSafe => exact (run_keeps (fun _ k1 => k1.issue (fun _ k2 => k2.rnNext.flipLand)) : s.Keeps (execCtlSafe ..))
  case ctlHalt => exact (run_keeps (fun _ k1 => k1.issue (fun _ k2 => k2.haltChan.iff (fun _ k3 => k3.raise))) : s.Keeps (execCtlHalt ..))
  case rnIllegal => exact (run_keeps (fun _ k1 => k1.issue (fun _ k2 => k2.faultChan)) : s.Keeps (execRnIllegal ..))
  case rxSymbolComplete => exact (run_keeps fun _ k => k.rxSymbol : s.Keeps (execRxSymbolComplete ..))
  case txSymbolEnd => exact (run_keeps fun _ k => k.txSymbolEnd : s.Keeps (execTxSymbolEnd ..))
  case winProg => exact (run_keeps fun _ k => k.putReq : s.Keeps (execWinProg ..))
  case slotMapWrite => exact (run_keeps fun _ k => k.putReq : s.Keeps (execSlotMapWrite ..))
  case axCmd => exact (run_keeps fun _ k => k.putReq : s.Keeps (execAxCmd ..))
  case channelFlip => exact (run_keeps fun _ k => .ite k.flipLand k.flipIdle : s.Keeps (execChannelFlip ..))
  case armActionLand => exact (run_keeps fun _ k => k.armLand : s.Keeps (execArmActionLand ..))
  case stallWatchdog => exact (run_keeps fun _ k => k.stallEnds : s.Keeps (execStallWatchdog ..))
  case pair => exact (run_keeps fun _ k => k.pairWord : s.Keeps (execPair ..))
  case nop => exact (lift_keeps fun _ k => k.regInstr : s.Keeps (execNop ..))
  case addi => exact (lift_keeps fun _ k => k.regInstr : s.Keeps (execAddi ..))
  case cmpi => exact (lift_keeps fun _ k => k.regInstr : s.Keeps (execCmpi ..))
  case andi => exact (lift_keeps fun _ k => k.regInstr : s.Keeps (execAndi ..))
  case ori => exact (lift_keeps fun _ k => k.regInstr : s.Keeps (execOri ..))
  case xori => exact (lift_keeps fun _ k => k.regInstr : s.Keeps (execXori ..))
  case shli => exact (lift_keeps fun _ k => k.regInstr : s.Keeps (execShli ..))
  case shri => exact (lift_keeps fun _ k => k.regInstr : s.Keeps (execShri ..))
  case sari => exact (lift_keeps fun _ k => k.regInstr : s.Keeps (execSari ..))
  case mova => exact (lift_keeps fun _ k => k.regInstr : s.Keeps (execMova ..))
  case mfa => exact (lift_keeps fun _ k => k.regInstr : s.Keeps (execMfa ..))
  case add => exact (lift_keeps fun _ k => k.regInstr : s.Keeps (execAdd ..))
  case sub => exact (lift_keeps fun _ k => k.regInstr : s.Keeps (execSub ..))
  case adc => exact (lift_keeps fun _ k => k.regInstr : s.Keeps (execAdc ..))
  case sbc => exact (lift_keeps fun _ k => k.regInstr : s.Keeps (execSbc ..))
  case and => exact (lift_keeps fun _ k => k.regInstr : s.Keeps (execAnd ..))
  case or => exact (lift_keeps fun _ k => k.regInstr : s.Keeps (execOr ..))
  case xor => exact (lift_keeps fun _ k => k.regInstr : s.Keeps (execXor ..))
  case shl => exact (lift_keeps fun _ k => k.regInstr : s.Keeps (execShl ..))
  case shr => exact (lift_keeps fun _ k => k.regInstr : s.Keeps (execShr ..))
  case sar => exact (lift_keeps fun _ k => k.regInstr : s.Keeps (execSar ..))
  case cmp => exact (lift_keeps fun _ k => k.regInstr : s.Keeps (execCmp ..))
  case mul => exact (lift_keeps fun _ k => k.regInstr : s.Keeps (execMul ..))
  case mulu => exact (lift_keeps fun _ k => k.regInstr : s.Keeps (execMulu ..))
  case mac => exact (lift_keeps fun _ k => k.regInstr : s.Keeps (execMac ..))
  case cvbd => exact (lift_keeps fun _ k => k.regInstr : s.Keeps (execCvbd ..))
  case cvdb => exact (lift_keeps fun _ k => k.regInstr : s.Keeps (execCvdb ..))
  case addd => exact (lift_keeps fun _ k => k.regInstr : s.Keeps (execAddd ..))
  case subd => exact (lift_keeps fun _ k => k.regInstr : s.Keeps (execSubd ..))
  case daj => exact (lift_keeps fun _ k => k.regInstr : s.Keeps (execDaj ..))
  case jmp => exact (lift_keeps fun _ k => k.regInstr : s.Keeps (execJmp ..))
  case jr => exact (lift_keeps fun _ k => k.regInstr : s.Keeps (execJr ..))
  case setgie => exact (lift_keeps fun _ k => k.regInstr : s.Keeps (execSetgie ..))
  case lit => exact (lift_keeps fun _ k => k.regInstr : s.Keeps (execLit ..))
  case addl => exact (lift_keeps fun _ k => k.regInstr : s.Keeps (execAddl ..))
  case andl => exact (lift_keeps fun _ k => k.regInstr : s.Keeps (execAndl ..))
  case orl => exact (lift_keeps fun _ k => k.regInstr : s.Keeps (execOrl ..))
  case xorl => exact (lift_keeps fun _ k => k.regInstr : s.Keeps (execXorl ..))
  case cmpl => exact (lift_keeps fun _ k => k.regInstr : s.Keeps (execCmpl ..))
  case ld => exact (run_keeps fun _ k => k.memInstr : s.Keeps (execLd ..))
  case st => exact (run_keeps fun _ k => k.memInstr : s.Keeps (execSt ..))
  case lda => exact (run_keeps fun _ k => k.memInstr : s.Keeps (execLda ..))
  case sta => exact (run_keeps fun _ k => k.memInstr : s.Keeps (execSta ..))
  case ldx => exact (run_keeps fun _ k => k.memInstr : s.Keeps (execLdx ..))
  case stx => exact (run_keeps fun _ k => k.memInstr : s.Keeps (execStx ..))
  case ldar => exact (run_keeps fun _ k => k.memInstr : s.Keeps (execLdar ..))
  case star => exact (run_keeps fun _ k => k.memInstr : s.Keeps (execStar ..))
  case mfs =>
    refine (run_keeps (fun _ k1 => ?_) : s.Keeps (execMfs ..))
    refine k1.instr (fun _ _ k2 => ?_)
    split
    have h3 := k2.srRead.ofFst ‹_›
    exact .answer h3.modCore
  case mts => exact (run_keeps (fun _ k1 => k1.instr (fun _ _ k2 => .answer k2.modCore.srWrite)) : s.Keeps (execMts ..))
  case push => exact (run_keeps fun _ k => k.dataPush : s.Keeps (execPush ..))
  case pop => exact (run_keeps fun _ k => k.dataPop : s.Keeps (execPop ..))
  case mulLand => exact (lift_keeps fun _ k => k.mulLands : s.Keeps (execMulLand ..))
  case freq =>
    refine (run_keeps (fun _ k1 => ?_) : s.Keeps (execFreq ..))
    refine k1.instr (fun _ _ k2 => ?_)
    extract_lets _
    split
    have h3 := k2.farIssue.ofFst ‹_›
    exact .answer h3.modCore
  case farDone => exact (run_keeps fun _ k => k.farComplete : s.Keeps (execFarDone ..))
  case farTimeout => exact (run_keeps fun _ k => k.farLate : s.Keeps (execFarTimeout ..))
  case fwait => exact (run_keeps fun _ k => k.farCollect : s.Keeps (execFwait ..))
  case fpoll => exact (run_keeps fun _ k => k.farCollect : s.Keeps (execFpoll ..))
  case waitmb => exact (run_keeps fun _ k => k.mbWait : s.Keeps (execWaitmb ..))
  case waitmbRelease => exact (run_keeps fun _ k => k.mbEnd : s.Keeps (execWaitmbRelease ..))
  case bcondLow => exact (lift_keeps fun _ k => k.branch : s.Keeps (execBcondLow ..))
  case bcondHigh => exact (lift_keeps fun _ k => k.branch : s.Keeps (execBcondHigh ..))
  case call => exact (run_keeps fun _ k => k.callTo : s.Keeps (execCall ..))
  case callr => exact (run_keeps fun _ k => k.callTo : s.Keeps (execCallr ..))
  case ret => exact (run_keeps fun _ k => k.retFrom : s.Keeps (execRet ..))
  case reti => exact (run_keeps fun _ k => k.retFrom : s.Keeps (execReti ..))
  case wait => exact (run_keeps fun _ k => k.waitWord : s.Keeps (execWait ..))
  case illegalWord => exact (run_keeps (fun _ k1 => k1.instr (fun _ _ k2 => .answer k2.illegal)) : s.Keeps (execIllegalWord ..))
  case interruptEntry => exact (run_keeps fun _ k => k.enter : s.Keeps (execInterruptEntry ..))
  case bankArm => exact (run_keeps fun _ k => k.bankCmd : s.Keeps (execBankArm ..))
  case bankCancel => exact (run_keeps fun _ k => k.bankCmd : s.Keeps (execBankCancel ..))
  case bankNow => exact (run_keeps fun _ k => k.bankCmd : s.Keeps (execBankNow ..))
  case timerExpiry => exact (run_keeps fun _ k => k.timerExpiry : s.Keeps (execTimerExpiry ..))
  case wdogWarn => exact (run_keeps fun _ k => k.wdogWarn : s.Keeps (execWdogWarn ..))
  case wdogExpiry => exact (run_keeps fun _ k => k.wdogExpiry : s.Keeps (execWdogExpiry ..))
  case ctxRestoreDone => exact (run_keeps fun _ k => k.ctxRestored : s.Keeps (execCtxRestoreDone ..))
  case contextBoundary => exact (run_keeps fun _ k => k.ctxBoundary : s.Keeps (execContextBoundary ..))
  case cyclePoint => exact (run_keeps fun _ k => k.ctxPoint : s.Keeps (execCyclePoint ..))
  case deadlineMiss => exact (run_keeps fun _ k => k.deadlineMiss : s.Keeps (execDeadlineMiss ..))
  case ckptDone => exact (run_keeps fun _ k => k.ckptDone : s.Keeps (execCkptDone ..))
  case migrationLand => exact (run_keeps fun _ k => k.migLand : s.Keeps (execMigrationLand ..))
  case migrationAbort => exact (run_keeps fun _ k => k.migLate : s.Keeps (execMigrationAbort ..))
  case persSwapCancel => exact (run_keeps fun _ k => k.swapCancel : s.Keeps (execPersSwapCancel ..))
  case parserLookup => exact (run_keeps fun _ k => k.parserStep : s.Keeps (execParserLookup ..))
  case cellArrive => exact (run_keeps fun _ k => k.cellArrive : s.Keeps (execCellArrive ..))
  case outputFrameStart => exact (run_keeps fun _ k => k.outputStart : s.Keeps (execOutputFrameStart ..))
  case outputUnderrun => exact (run_keeps fun _ k => .ite k.macUnderrun k : s.Keeps (execOutputUnderrun ..))
  case ringRxDeliver => exact (run_keeps fun _ k => k.ringDeliver : s.Keeps (execRingRxDeliver ..))
  case ringTxSend => exact (run_keeps fun _ k => k.ringSend : s.Keeps (execRingTxSend ..))
  case scatterCommit => exact (run_keeps fun _ k => k.scatterCommit : s.Keeps (execScatterCommit ..))
  case sweepEntry => exact (run_keeps fun _ k => k.sweepStep : s.Keeps (execSweepEntry ..))
  case regClearDone => exact (run_keeps fun _ k => k.regClearEnd : s.Keeps (execRegClearDone ..))
  case templateFire => exact (run_keeps fun _ k => k.fireTemplate : s.Keeps (execTemplateFire ..))
  case syncLossTimeout => exact (run_keeps fun _ k => k.syncTimeout : s.Keeps (execSyncLossTimeout ..))
  case revertHoldEnd => exact (run_keeps fun _ k => k.revertHold : s.Keeps (execRevertHoldEnd ..))
  case convergedReserve => exact (run_keeps fun _ k => k.onReserve : s.Keeps (execConvergedReserve ..))
  case convergedOwn => exact (run_keeps fun _ k => k.onOwn : s.Keeps (execConvergedOwn ..))
  case tileAlignCheck => exact (run_keeps fun _ k => k.tileAlign.linkErrors : s.Keeps (execTileAlignCheck ..))
  case ppsInEdge => exact (run_keeps fun _ k => k.ppsEdge : s.Keeps (execPpsInEdge ..))
  case ppsOutEdge => exact (run_keeps fun _ k => k.ppsOut : s.Keeps (execPpsOutEdge ..))
  case listenTimeout => exact (run_keeps fun _ k => k.listenExpires : s.Keeps (execListenTimeout ..))
  case backoffEnd => exact (run_keeps fun _ k => k.backoffEnds : s.Keeps (execBackoffEnd ..))
  case slotTemplateFire => exact (run_keeps fun _ k => k.slotFire : s.Keeps (execSlotTemplateFire ..))
  case slotSend => exact (run_keeps fun _ k => k.slotSend : s.Keeps (execSlotSend ..))
  case slotEnd => exact (run_keeps fun _ k => k.slotEnds : s.Keeps (execSlotEnd ..))
  case cycleEnd => exact (run_keeps fun _ k => k.cycleEnds : s.Keeps (execCycleEnd ..))
  case groupUpdate => exact (run_keeps fun _ k => k.groupUpdate : s.Keeps (execGroupUpdate ..))
  case commandFrame => exact (run_keeps fun _ k => k.commandFrame : s.Keeps (execCommandFrame ..))
  case jogTimeout => exact (run_keeps fun _ k => k.jogTimeout : s.Keeps (execJogTimeout ..))
  case mailboxPost => exact (wants_keeps fun _ k => k.mailPost : s.Keeps (execMailboxPost ..))
  case mailboxAck => exact (run_keeps fun _ k => k.mailAck : s.Keeps (execMailboxAck ..))
  case mailboxRelease => exact (run_keeps fun _ k => k.mailStatus : s.Keeps (execMailboxRelease ..))
  case collideClear => exact (run_keeps fun _ k => k.mailStatus : s.Keeps (execCollideClear ..))
  case doorbellRead => exact (run_keeps fun _ k => k.bellRead : s.Keeps (execDoorbellRead ..))
  case imodExpiry => exact (run_keeps fun _ k => k.imodEnd : s.Keeps (execImodExpiry ..))
  case gatherEdge => exact (run_keeps fun _ k => .ite k.raise k : s.Keeps (execGatherEdge ..))
  case gcPendClr => exact (run_keeps fun _ k => .ite k.gcClear k : s.Keeps (execGcPendClr ..))
  case gcPendSet => exact (run_keeps (fun _ k1 => k1.each (fun _ _ k2 => k2.raise)) : s.Keeps (execGcPendSet ..))
  case msixUnmask => exact (run_keeps fun _ k => .ite k.unmaskVec k : s.Keeps (execMsixUnmask ..))
  case consoleLine => exact (run_keeps fun _ k => k.consoleSend : s.Keeps (execConsoleLine ..))
  case fwEraseDone => exact (run_keeps fun _ k => k.eraseEnd : s.Keeps (execFwEraseDone ..))
  case activationTimeout => exact (run_keeps fun _ k => k.actTimeout : s.Keeps (execActivationTimeout ..))
  case smbStatus => exact (run_keeps fun _ k => k.smbRead : s.Keeps (execSmbStatus ..))
  case smbDictResp => exact (run_keeps fun _ k => k.smbRead : s.Keeps (execSmbDictResp ..))
  case smbT0 => exact (run_keeps fun _ k => k.smbRead : s.Keeps (execSmbT0 ..))
  case smbAlertClear => exact (run_keeps (fun _ k1 => k1.smbDo (fun _ k2 => .answer k2.event.alertClear)) : s.Keeps (execSmbAlertClear ..))
  case smbDictReq => exact (run_keeps (fun _ k1 => k1.smbDo (fun _ k2 => k2.smbRequest)) : s.Keeps (execSmbDictReq ..))
  case smbLog => exact (run_keeps (fun _ k1 => k1.smbDo (fun _ k2 => .answer k2.emit)) : s.Keeps (execSmbLog ..))
  case smbRing => exact (run_keeps (fun _ k1 => k1.smbDo (fun _ k2 => .answer k2.ring)) : s.Keeps (execSmbRing ..))
  case smbHold => exact (run_keeps (fun _ k1 => k1.smbDo (fun _ k2 => .answer k2.sumpHold)) : s.Keeps (execSmbHold ..))
  case smbRestart => exact (run_keeps (fun _ k1 => k1.smbDo (fun _ k2 => .answer k2.warmRestart)) : s.Keeps (execSmbRestart ..))
  case smbDomainOff => exact (run_keeps (fun _ k1 => k1.smbDo (fun _ k2 => .answer k2.domainOff)) : s.Keeps (execSmbDomainOff ..))
  case smbWake => exact (run_keeps (fun _ k1 => k1.smbDo (fun _ k2 => .iteFst (.answer k2.wake) k2)) : s.Keeps (execSmbWake ..))
  case smbClearFail => exact (run_keeps (fun _ k1 => k1.smbDo (fun _ k2 => .answer k2.event.clearFail)) : s.Keeps (execSmbClearFail ..))
  case smbAlertResponse => exact (run_keeps fun _ k => .ite k k.emit : s.Keeps (execSmbAlertResponse ..))
  case dinSample => exact (run_keeps fun _ k => k.dinSample : s.Keeps (execDinSample ..))
  case encEdge => exact (run_keeps (fun _ k1 => k1.iff (fun _ k2 => k2.encLevels)) : s.Keeps (execEncEdge ..))
  case degradingCondition => exact (run_keeps fun _ k => k.lineQuality : s.Keeps (execDegradingCondition ..))
  case busRxError => exact (run_keeps fun _ k => .ite k.busRxError k.busMore : s.Keeps (execBusRxError ..))
  case outputFrameEnd => exact (run_keeps fun _ k => k.outputEnd : s.Keeps (execOutputFrameEnd ..))
  case listenFrameReceived => exact (run_keeps fun _ k => k.listenFrame : s.Keeps (execListenFrameReceived ..))
  case perstRelease => exact (run_keeps fun _ k => k.perstRelease : s.Keeps (execPerstRelease ..))
  case brownOutReturn => exact (run_keeps fun _ k => k.brownOutReturn : s.Keeps (execBrownOutReturn ..))
  case vtfPresenceChange => exact (run_keeps fun _ k => k.vtfChange : s.Keeps (execVtfPresenceChange ..))
  case jtagInstruction => exact (run_keeps fun _ k => k.jtag : s.Keeps (execJtagInstruction ..))

/-- A core's word runs the command that it spells. -/
theorem uluenWord_keeps (core : Fin 20) (w lit : Word) : s.Keeps (uluenWord core w lit s) := by
  unfold uluenWord
  split
  · exact exec_keeps (.pair ..) nofun nofun
  · extract_lets
    split
    · exact exec_keeps (.nop ..) nofun nofun
    · exact exec_keeps (.addi ..) nofun nofun
    · exact exec_keeps (.cmpi ..) nofun nofun
    · exact exec_keeps (.andi ..) nofun nofun
    · exact exec_keeps (.ori ..) nofun nofun
    · exact exec_keeps (.xori ..) nofun nofun
    · exact exec_keeps (.shli ..) nofun nofun
    · exact exec_keeps (.shri ..) nofun nofun
    · exact exec_keeps (.sari ..) nofun nofun
    · exact exec_keeps (.ld ..) nofun nofun
    · exact exec_keeps (.st ..) nofun nofun
    · exact exec_keeps (.lda ..) nofun nofun
    · exact exec_keeps (.sta ..) nofun nofun
    · exact exec_keeps (.mfs ..) nofun nofun
    · exact exec_keeps (.mts ..) nofun nofun
    · exact exec_keeps (.mova ..) nofun nofun
    · exact exec_keeps (.mfa ..) nofun nofun
    · exact exec_keeps (.push ..) nofun nofun
    · exact exec_keeps (.pop ..) nofun nofun
    · exact exec_keeps (.add ..) nofun nofun
    · exact exec_keeps (.sub ..) nofun nofun
    · exact exec_keeps (.adc ..) nofun nofun
    · exact exec_keeps (.sbc ..) nofun nofun
    · exact exec_keeps (.and ..) nofun nofun
    · exact exec_keeps (.or ..) nofun nofun
    · exact exec_keeps (.xor ..) nofun nofun
    · exact exec_keeps (.shl ..) nofun nofun
    · exact exec_keeps (.shr ..) nofun nofun
    · exact exec_keeps (.sar ..) nofun nofun
    · exact exec_keeps (.cmp ..) nofun nofun
    · exact exec_keeps (.mul ..) nofun nofun
    · exact exec_keeps (.mulu ..) nofun nofun
    · exact exec_keeps (.mac ..) nofun nofun
    · exact exec_keeps (.ldx ..) nofun nofun
    · exact exec_keeps (.stx ..) nofun nofun
    · exact exec_keeps (.ldar ..) nofun nofun
    · exact exec_keeps (.star ..) nofun nofun
    · exact exec_keeps (.cvbd ..) nofun nofun
    · exact exec_keeps (.cvdb ..) nofun nofun
    · exact exec_keeps (.freq ..) nofun nofun
    · exact exec_keeps (.fwait ..) nofun nofun
    · exact exec_keeps (.fpoll ..) nofun nofun
    · exact exec_keeps (.waitmb ..) nofun nofun
    · exact exec_keeps (.addd ..) nofun nofun
    · exact exec_keeps (.subd ..) nofun nofun
    · exact exec_keeps (.daj ..) nofun nofun
    · exact exec_keeps (.bcondLow ..) nofun nofun
    · exact exec_keeps (.bcondHigh ..) nofun nofun
    · exact exec_keeps (.jmp ..) nofun nofun
    · exact exec_keeps (.call ..) nofun nofun
    · exact exec_keeps (.jr ..) nofun nofun
    · exact exec_keeps (.callr ..) nofun nofun
    · exact exec_keeps (.ret ..) nofun nofun
    · exact exec_keeps (.reti ..) nofun nofun
    · exact exec_keeps (.wait ..) nofun nofun
    · exact exec_keeps (.setgie ..) nofun nofun
    · exact exec_keeps (.lit ..) nofun nofun
    · exact exec_keeps (.addl ..) nofun nofun
    · exact exec_keeps (.andl ..) nofun nofun
    · exact exec_keeps (.orl ..) nofun nofun
    · exact exec_keeps (.xorl ..) nofun nofun
    · exact exec_keeps (.cmpl ..) nofun nofun
    · exact exec_keeps (.illegalWord ..) nofun nofun

theorem uluenFetch_keeps (core : Fin 20) : s.Keeps (uluenFetch core s) := by
  unfold uluenFetch
  extract_lets
  split
  · exact exec_keeps (.illegalWord ..) nofun nofun
  · split
    · exact exec_keeps (.illegalWord ..) nofun nofun
    · exact uluenWord_keeps _ _ _

theorem State.coreGoes_keeps (core : Fin 20) : s.dev.Keeps (s.coreGoes core).dev := by
  unfold State.coreGoes
  split
  · exact .refl
  · split
    · next u e => exact (uluenFetch_keeps core u e : s.dev.Keeps u.dev)
    · exact .refl

end

theorem State.programs_keeps (s : State) : s.dev.Keeps s.programs.dev :=
  keeps_foldl (P := fun t : State => s.dev.Keeps t.dev) .refl fun _ core k => k.trans (State.coreGoes_keeps core)

theorem State.idle_keeps (s : State) : s.dev.Keeps s.idle.dev := by
  have h := s.programs_keeps
  rw [State.idle]
  generalize s.programs = p at h ⊢
  exact h.idle

/-- A step keeps memory canonical, PD0 on and T0 not run back, but at a power on. -/
theorem step_keeps {s t : State} (h : step s = .next t) (hp : s.pending.head? ≠ some .powerOn) (hb : s.pending.head? ≠ some (.brownOut 7)) :
    s.dev.Keeps t.dev := by
  unfold step at h
  split at h
  · rw [← Host.Outcome.next.inj h]; exact s.idle_keeps
  · next c rest e =>
    rw [e] at hp hb
    exact exec_keeps (s := { s with pending := rest }) c (fun x => hp (congrArg some x)) (fun x => hb (congrArg some x)) t h

end Sys2Proof.Machine
end

section
/-! SUPPORT. The block after reset, and what every step keeps of memory, PD0 and T0. -/
set_option Elab.async false
namespace Sys2Proof.Machine

/-- After reset the supply's two domains are on and no other. -/
theorem reset_domOn (n : Nat) : State.reset.dev.domOn n = true ↔ n < 2 := by
  show (2 ^ 2 - 1).testBit n = true ↔ n < 2
  rw [Nat.testBit_two_pow_sub_one, decide_eq_true_iff]

/-- What a command does of itself afterwards keeps all three. -/
theorem run_next {s t : State} {f : Dev → Dev} (h : run f s = .next t) : (f s.dev.markNext).Keeps t.dev := by
  have k : (f s.dev.markNext).Keeps (f s.dev.markNext).settle := Dev.KeepsBy.refl.settle
  unfold run lift at h
  dsimp only at h
  generalize (f s.dev.markNext).settle = e at h k
  cases h
  exact k

/-- A step keeps what it keeps, or it is a power on: there memory lists nothing and PD0 is on. -/
theorem step_keeps_or_powerOn {s t : State} (h : step s = .next t) : s.dev.Keeps t.dev ∨ t.dev.mem.wf = true ∧ t.dev.domOn 0 = true := by
  have on {s : State} (h : run (·.powerOn) s = .next t) : t.dev.mem.wf = true ∧ t.dev.domOn 0 = true :=
    ⟨(run_next h).mem rfl, (run_next h).pd0 (rfl : (3 : Nat).testBit 0 = true)⟩
  by_cases hp : s.pending.head? = some .powerOn
  · obtain ⟨rest, e⟩ := List.head?_eq_some_iff.mp hp
    unfold step at h
    rw [e] at h
    exact .inr (on h)
  by_cases hb : s.pending.head? = some (.brownOut 7)
  · obtain ⟨rest, e⟩ := List.head?_eq_some_iff.mp hb
    unfold step at h
    rw [e] at h
    exact .inr (on h)
  · exact .inl (step_keeps h hp hb)

/-- Settles O57: the reset state by evaluation, the steps by what every function of the block keeps. -/
theorem resetState : Obligations.ResetState := by
  refine ⟨rfl, rfl, rfl, rfl, rfl, rfl, rfl, rfl, reset_domOn, fun s t h hm => ?_, fun s t h hd => ?_, fun s t h hp hb => (step_keeps h hp hb).now⟩
  · exact (step_keeps_or_powerOn h).elim (·.mem hm) (·.1)
  · exact (step_keeps_or_powerOn h).elim (·.pd0 hd) (·.2)

end Sys2Proof.Machine
end

section
/-! SUPPORT. The words of the Uluen-24 and the issue of its instructions (spec 10, R274; 11, R303 to R305, R312 to R318). -/
set_option Elab.async false
namespace Sys2Proof.Machine

/-! ### Stalls -/

theorem Core.issueAt_free {x : Core} {n : Nat} {u : Needs} (h : x.accEnds ≤ n) : x.issueAt n u = n := by
  simp [Core.issueAt, Nat.not_lt.mpr h]

theorem Core.issueAt_stalls {x : Core} {n : Nat} {u : Needs} (h : n < x.accEnds)
    (hu : (u.mem || u.regs.any (fun r => r.val != 0 && r.val == x.accReg) || u.srs.any (fun s => x.accSr == some s)) = true) :
    x.issueAt n u = x.accEnds := by
  simp only [Core.issueAt, h, hu, decide_true, Bool.and_self, if_true]

theorem Core.issueAt_unstalled {x : Core} {n : Nat} {u : Needs}
    (hu : (u.mem || u.regs.any (fun r => r.val != 0 && r.val == x.accReg) || u.srs.any (fun s => x.accSr == some s)) = false) :
    x.issueAt n u = n := by
  simp [Core.issueAt, hu]

/-- Settles O34: the clauses are the disjuncts of what waits. -/
theorem stalls : Obligations.Stalls := by
  intro x n regs srs acc u
  refine ⟨Core.issueAt_free, fun h ha => ?_, fun r hr h h0 e => ?_, fun r hr h e => ?_, fun ha hr hs => ?_⟩
  · exact Core.issueAt_stalls h (by simp [u, ha])
  · have hv : r.val ≠ 0 := fun e0 => h0 (Fin.ext e0)
    refine Core.issueAt_stalls h ?_
    have : (regs.any fun r => r.val != 0 && r.val == x.accReg) = true := List.any_eq_true.mpr ⟨r, hr, by simp [hv, ← e]⟩
    simp only [u, this, Bool.or_true, Bool.true_or]
  · refine Core.issueAt_stalls h ?_
    have : (srs.any fun s => x.accSr == some s) = true := List.any_eq_true.mpr ⟨r, hr, by simp [e]⟩
    simp only [u, this, Bool.or_true]
  · refine Core.issueAt_unstalled ?_
    simpa [u, ha] using And.intro hr hs

/-! ### Fields of a word -/

theorem toNat_append_add {m n : Nat} (x : BitVec m) (y : BitVec n) : (x ++ y).toNat = x.toNat * 2 ^ n + y.toNat := by
  rw [BitVec.toNat_append, ← Nat.shiftLeft_add_eq_or_of_lt y.isLt, Nat.shiftLeft_eq]

/-- A long form's word has F in [23] and its opcode in [22:17] (R303, R304). -/
theorem long_of_toNat {w : Word} {op : BitVec 7} {k : Nat} (hw : w.toNat = op.toNat * 2 ^ 17 + k) (hk : k < 2 ^ 17) :
    w.getLsbD 23 = op.getLsbD 6 ∧ fld w 17 6 = op.toNat % 64 := by
  have hop := op.isLt
  constructor
  · rw [← BitVec.testBit_toNat, ← BitVec.testBit_toNat, Nat.testBit_eq_decide_div_mod_eq, Nat.testBit_eq_decide_div_mod_eq, decide_eq_decide]; omega
  · simp only [fld]; omega

theorem ofNat_of_fld {k : Nat} [NeZero k] {w : Word} {n m : Nat} {r : Fin k} (h : fld w n m = r.val) : Fin.ofNat k (fld w n m) = r :=
  Fin.ext (by simp [h])

theorem extractLsb'_of_fld {w : Word} {n m : Nat} {v : BitVec m} (h : fld w n m = v.toNat) : w.extractLsb' n m = v := by
  apply BitVec.eq_of_toNat_eq
  rw [BitVec.extractLsb'_toNat, Nat.shiftRight_eq_div_pow]; exact h

/-- A word with two registers and an immediate (R304). -/
def wordRI (op : BitVec 7) (rd rs : Fin 16) (imm : BitVec 9) : Word := op ++ (.ofFin rd : BitVec 4) ++ (.ofFin rs : BitVec 4) ++ imm

theorem wordRI_toNat (op : BitVec 7) (rd rs : Fin 16) (imm : BitVec 9) : (wordRI op rd rs imm).toNat = op.toNat * 2 ^ 17 + (rd.val * 2 ^ 13 + rs.val * 2 ^ 9 + imm.toNat) := by
  simp only [wordRI, toNat_append_add, BitVec.toNat_ofFin]; omega

theorem wordRI_fields (op : BitVec 7) (rd rs : Fin 16) (imm : BitVec 9) : let w := wordRI op rd rs imm
    w.getLsbD 23 = op.getLsbD 6 ∧ fld w 17 6 = op.toNat % 64 ∧ gReg w 13 = rd ∧ gReg w 9 = rs ∧ w.extractLsb' 0 9 = imm := by
  intro w
  have hw := wordRI_toNat op rd rs imm
  have h_rd := rd.isLt
  have h_rs := rs.isLt
  have h_imm := imm.isLt
  obtain ⟨hF, hop⟩ := long_of_toNat hw (by omega)
  refine ⟨hF, hop, ofNat_of_fld ?_, ofNat_of_fld ?_, extractLsb'_of_fld ?_⟩ <;>
    · simp only [fld, w, hw]; omega

/-- A word with three registers (R304). -/
def wordRRR (op : BitVec 7) (rd rs rt : Fin 16) (x : BitVec 5) : Word := op ++ (.ofFin rd : BitVec 4) ++ (.ofFin rs : BitVec 4) ++ (.ofFin rt : BitVec 4) ++ x

theorem wordRRR_toNat (op : BitVec 7) (rd rs rt : Fin 16) (x : BitVec 5) : (wordRRR op rd rs rt x).toNat = op.toNat * 2 ^ 17 + (rd.val * 2 ^ 13 + rs.val * 2 ^ 9 + rt.val * 2 ^ 5 + x.toNat) := by
  simp only [wordRRR, toNat_append_add, BitVec.toNat_ofFin]; omega

theorem wordRRR_fields (op : BitVec 7) (rd rs rt : Fin 16) (x : BitVec 5) : let w := wordRRR op rd rs rt x
    w.getLsbD 23 = op.getLsbD 6 ∧ fld w 17 6 = op.toNat % 64 ∧ gReg w 13 = rd ∧ gReg w 9 = rs ∧ gReg w 5 = rt := by
  intro w
  have hw := wordRRR_toNat op rd rs rt x
  have h_rd := rd.isLt
  have h_rs := rs.isLt
  have h_rt := rt.isLt
  have h_x := x.isLt
  obtain ⟨hF, hop⟩ := long_of_toNat hw (by omega)
  refine ⟨hF, hop, ofNat_of_fld ?_, ofNat_of_fld ?_, ofNat_of_fld ?_⟩ <;>
    · simp only [fld, w, hw]; omega

/-- A word with a register, an address register and an immediate (R304). -/
def wordAI (op : BitVec 7) (rd : Fin 16) (r : BitVec 2) (k : Fin 4) (imm : BitVec 9) : Word := op ++ (.ofFin rd : BitVec 4) ++ r ++ (.ofFin k : BitVec 2) ++ imm

theorem wordAI_toNat (op : BitVec 7) (rd : Fin 16) (r : BitVec 2) (k : Fin 4) (imm : BitVec 9) : (wordAI op rd r k imm).toNat = op.toNat * 2 ^ 17 + (rd.val * 2 ^ 13 + r.toNat * 2 ^ 11 + k.val * 2 ^ 9 + imm.toNat) := by
  simp only [wordAI, toNat_append_add, BitVec.toNat_ofFin]; omega

theorem wordAI_fields (op : BitVec 7) (rd : Fin 16) (r : BitVec 2) (k : Fin 4) (imm : BitVec 9) : let w := wordAI op rd r k imm
    w.getLsbD 23 = op.getLsbD 6 ∧ fld w 17 6 = op.toNat % 64 ∧ gReg w 13 = rd ∧ Fin.ofNat 4 (fld w 9 2) = k ∧ w.extractLsb' 0 9 = imm := by
  intro w
  have hw := wordAI_toNat op rd r k imm
  have h_rd := rd.isLt
  have h_r := r.isLt
  have h_k := k.isLt
  have h_imm := imm.isLt
  obtain ⟨hF, hop⟩ := long_of_toNat hw (by omega)
  refine ⟨hF, hop, ofNat_of_fld ?_, ofNat_of_fld ?_, extractLsb'_of_fld ?_⟩ <;>
    · simp only [fld, w, hw]; omega

/-- A word with a register, an address register and a step in a register (R304). -/
def wordAR (op : BitVec 7) (rd : Fin 16) (r : BitVec 2) (k : Fin 4) (rt : Fin 16) (x : BitVec 5) : Word := op ++ (.ofFin rd : BitVec 4) ++ r ++ (.ofFin k : BitVec 2) ++ (.ofFin rt : BitVec 4) ++ x

theorem wordAR_toNat (op : BitVec 7) (rd : Fin 16) (r : BitVec 2) (k : Fin 4) (rt : Fin 16) (x : BitVec 5) : (wordAR op rd r k rt x).toNat = op.toNat * 2 ^ 17 + (rd.val * 2 ^ 13 + r.toNat * 2 ^ 11 + k.val * 2 ^ 9 + rt.val * 2 ^ 5 + x.toNat) := by
  simp only [wordAR, toNat_append_add, BitVec.toNat_ofFin]; omega

theorem wordAR_fields (op : BitVec 7) (rd : Fin 16) (r : BitVec 2) (k : Fin 4) (rt : Fin 16) (x : BitVec 5) : let w := wordAR op rd r k rt x
    w.getLsbD 23 = op.getLsbD 6 ∧ fld w 17 6 = op.toNat % 64 ∧ gReg w 13 = rd ∧ Fin.ofNat 4 (fld w 9 2) = k ∧ gReg w 5 = rt := by
  intro w
  have hw := wordAR_toNat op rd r k rt x
  have h_rd := rd.isLt
  have h_r := r.isLt
  have h_k := k.isLt
  have h_rt := rt.isLt
  have h_x := x.isLt
  obtain ⟨hF, hop⟩ := long_of_toNat hw (by omega)
  refine ⟨hF, hop, ofNat_of_fld ?_, ofNat_of_fld ?_, ofNat_of_fld ?_⟩ <;>
    · simp only [fld, w, hw]; omega

/-- A word with an address register to write, a register and an immediate (R304). -/
def wordToA (op : BitVec 7) (r : BitVec 2) (k : Fin 4) (rs : Fin 16) (imm : BitVec 9) : Word := op ++ r ++ (.ofFin k : BitVec 2) ++ (.ofFin rs : BitVec 4) ++ imm

theorem wordToA_toNat (op : BitVec 7) (r : BitVec 2) (k : Fin 4) (rs : Fin 16) (imm : BitVec 9) : (wordToA op r k rs imm).toNat = op.toNat * 2 ^ 17 + (r.toNat * 2 ^ 15 + k.val * 2 ^ 13 + rs.val * 2 ^ 9 + imm.toNat) := by
  simp only [wordToA, toNat_append_add, BitVec.toNat_ofFin]; omega

theorem wordToA_fields (op : BitVec 7) (r : BitVec 2) (k : Fin 4) (rs : Fin 16) (imm : BitVec 9) : let w := wordToA op r k rs imm
    w.getLsbD 23 = op.getLsbD 6 ∧ fld w 17 6 = op.toNat % 64 ∧ Fin.ofNat 4 (fld w 13 2) = k ∧ gReg w 9 = rs ∧ w.extractLsb' 0 9 = imm := by
  intro w
  have hw := wordToA_toNat op r k rs imm
  have h_r := r.isLt
  have h_k := k.isLt
  have h_rs := rs.isLt
  have h_imm := imm.isLt
  obtain ⟨hF, hop⟩ := long_of_toNat hw (by omega)
  refine ⟨hF, hop, ofNat_of_fld ?_, ofNat_of_fld ?_, extractLsb'_of_fld ?_⟩ <;>
    · simp only [fld, w, hw]; omega

/-- A word with two registers and a special register (R304). -/
def wordSys (op : BitVec 7) (rd rs : Fin 16) (q : BitVec 4) (sr : Fin 32) : Word := op ++ (.ofFin rd : BitVec 4) ++ (.ofFin rs : BitVec 4) ++ q ++ (.ofFin sr : BitVec 5)

theorem wordSys_toNat (op : BitVec 7) (rd rs : Fin 16) (q : BitVec 4) (sr : Fin 32) : (wordSys op rd rs q sr).toNat = op.toNat * 2 ^ 17 + (rd.val * 2 ^ 13 + rs.val * 2 ^ 9 + q.toNat * 2 ^ 5 + sr.val) := by
  simp only [wordSys, toNat_append_add, BitVec.toNat_ofFin]; omega

theorem wordSys_fields (op : BitVec 7) (rd rs : Fin 16) (q : BitVec 4) (sr : Fin 32) : let w := wordSys op rd rs q sr
    w.getLsbD 23 = op.getLsbD 6 ∧ fld w 17 6 = op.toNat % 64 ∧ gReg w 13 = rd ∧ gReg w 9 = rs ∧ Fin.ofNat 32 (fld w 0 5) = sr := by
  intro w
  have hw := wordSys_toNat op rd rs q sr
  have h_rd := rd.isLt
  have h_rs := rs.isLt
  have h_q := q.isLt
  have h_sr := sr.isLt
  obtain ⟨hF, hop⟩ := long_of_toNat hw (by omega)
  refine ⟨hF, hop, ofNat_of_fld ?_, ofNat_of_fld ?_, ofNat_of_fld ?_⟩ <;>
    · simp only [fld, w, hw]; omega

/-- A word with a condition and an offset (R304). -/
def wordBranch (op : BitVec 7) (k : Fin 8) (ofs : BitVec 14) : Word := op ++ (.ofFin k : BitVec 3) ++ ofs

theorem wordBranch_toNat (op : BitVec 7) (k : Fin 8) (ofs : BitVec 14) : (wordBranch op k ofs).toNat = op.toNat * 2 ^ 17 + (k.val * 2 ^ 14 + ofs.toNat) := by
  simp only [wordBranch, toNat_append_add, BitVec.toNat_ofFin]; omega

theorem wordBranch_fields (op : BitVec 7) (k : Fin 8) (ofs : BitVec 14) : let w := wordBranch op k ofs
    w.getLsbD 23 = op.getLsbD 6 ∧ fld w 17 6 = op.toNat % 64 ∧ Fin.ofNat 8 (fld w 14 3) = k ∧ w.extractLsb' 0 14 = ofs := by
  intro w
  have hw := wordBranch_toNat op k ofs
  have h_k := k.isLt
  have h_ofs := ofs.isLt
  obtain ⟨hF, hop⟩ := long_of_toNat hw (by omega)
  refine ⟨hF, hop, ofNat_of_fld ?_, extractLsb'_of_fld ?_⟩ <;>
    · simp only [fld, w, hw]; omega

/-- A word with a target (R304). -/
def wordTarget (op : BitVec 7) (r : BitVec 2) (target : BitVec 15) : Word := op ++ r ++ target

theorem wordTarget_toNat (op : BitVec 7) (r : BitVec 2) (target : BitVec 15) : (wordTarget op r target).toNat = op.toNat * 2 ^ 17 + (r.toNat * 2 ^ 15 + target.toNat) := by
  simp only [wordTarget, toNat_append_add]; omega

theorem wordTarget_fields (op : BitVec 7) (r : BitVec 2) (target : BitVec 15) : let w := wordTarget op r target
    w.getLsbD 23 = op.getLsbD 6 ∧ fld w 17 6 = op.toNat % 64 ∧ w.extractLsb' 0 15 = target := by
  intro w
  have hw := wordTarget_toNat op r target
  have h_r := r.isLt
  have h_target := target.isLt
  obtain ⟨hF, hop⟩ := long_of_toNat hw (by omega)
  refine ⟨hF, hop, extractLsb'_of_fld ?_⟩
  simp only [fld, w, hw]; omega

/-- A word with no field (R304). -/
def wordPlain (op : BitVec 7) (y : BitVec 17) : Word := op ++ y

theorem wordPlain_toNat (op : BitVec 7) (y : BitVec 17) : (wordPlain op y).toNat = op.toNat * 2 ^ 17 + (y.toNat) := by
  simp only [wordPlain, toNat_append_add]

theorem wordPlain_fields (op : BitVec 7) (y : BitVec 17) : let w := wordPlain op y
    w.getLsbD 23 = op.getLsbD 6 ∧ fld w 17 6 = op.toNat % 64 := by
  intro w
  have hw := wordPlain_toNat op y
  have h_y := y.isLt
  obtain ⟨hF, hop⟩ := long_of_toNat hw (by omega)
  exact ⟨hF, hop⟩

/-- A word with one bit (R304). -/
def wordBit (op : BitVec 7) (x : BitVec 16) (b : Bool) : Word := op ++ x ++ BitVec.ofBool b

theorem wordBit_toNat (op : BitVec 7) (x : BitVec 16) (b : Bool) : (wordBit op x b).toNat = op.toNat * 2 ^ 17 + (x.toNat * 2 + b.toNat) := by
  simp only [wordBit, toNat_append_add, BitVec.toNat_ofBool]; omega

theorem wordBit_fields (op : BitVec 7) (x : BitVec 16) (b : Bool) : let w := wordBit op x b
    w.getLsbD 23 = op.getLsbD 6 ∧ fld w 17 6 = op.toNat % 64 ∧ w.getLsbD 0 = b := by
  intro w
  have hw := wordBit_toNat op x b
  have h_x := x.isLt
  obtain ⟨hF, hop⟩ := long_of_toNat hw (by cases b <;> simp only [Bool.toNat_true, Bool.toNat_false] <;> omega)
  refine ⟨hF, hop, ?_⟩
  rw [← BitVec.testBit_toNat, Nat.testBit_zero, hw]
  cases b <;> simp <;> omega

/-- Settles O22: `State.runs` for what the instructions do, the fields of each form for their words. -/
theorem registerInstructions : Obligations.RegisterInstructions := by
  refine ⟨fun s c n rd rs rt imm => ⟨fun h => ?_, fun h => ?_, fun h => ?_, fun h => ?_, fun h => ?_⟩, fun s c rd rs rt x lit => ?_,
    fun s c rd rs imm lit => ?_⟩
  · exact ⟨State.runs h _, fun k => State.runs h _⟩
  · exact ⟨State.runs h _, State.runs h _, State.runs h _, State.runs h _, State.runs h _, State.runs h _, State.runs h _, State.runs h _,
      fun k => State.runs h _⟩
  · exact ⟨State.runs h _, State.runs h _, State.runs h _, State.runs h _, State.runs h _, State.runs h _, State.runs h _, State.runs h _,
      State.runs h _, State.runs h _, State.runs h _, State.runs h _⟩
  · exact ⟨State.runs h _, State.runs h _, State.runs h _, State.runs h _, State.runs h _⟩
  · exact ⟨State.runs h _, State.runs h _⟩
  · intro w
    refine ⟨?_, ?_, ?_, ?_, ?_, ?_, ?_, ?_, ?_, ?_, ?_, ?_, ?_, ?_, ?_, ?_, ?_, ?_, ?_⟩ <;>
      · show uluenWord c (wordRRR _ rd rs rt x) lit s = _
        obtain ⟨hF, hop, hrd, hrs, hrt⟩ := wordRRR_fields _ rd rs rt x
        rw [uluenWord, hF, hop, hrd, hrs, hrt]
        rfl
  · intro w
    refine ⟨?_, ?_, ?_, ?_, ?_, ?_, ?_, ?_, ?_⟩ <;>
      · show uluenWord c (wordRI _ rd rs imm) lit s = _
        obtain ⟨hF, hop, hrd, hrs, himm⟩ := wordRI_fields _ rd rs imm
        rw [uluenWord, hF, hop, hrd, hrs, himm]
        rfl

/-- A literal form goes on two words later. -/
theorem Core.next_next (x : Core) : x.next.next = { x with pc := x.pc + 2 } := by
  have h : x.pc + 1 + 1 = x.pc + 2 := by rw [BitVec.add_assoc]; rfl
  rw [← h]; rfl

theorem Core.result_next (x : Core) (rd : Fin 16) (p : Word × FlagUpd) : (x.result rd p).next = { x.result rd p with pc := x.pc + 2 } := by
  have h : x.pc + 1 + 1 = x.pc + 2 := by rw [BitVec.add_assoc]; rfl
  rw [← h, ← (Core.result_frame x rd p).2.1]; rfl

theorem Core.flagResult_next (x : Core) (p : Word × FlagUpd) : (x.flagResult p).next = { x.flagResult p with pc := x.pc + 2 } := by
  have h : x.pc + 1 + 1 = x.pc + 2 := by rw [BitVec.add_assoc]; rfl
  rw [← h]; rfl

/-- `State.runs` with the change of the registers in another form. -/
theorem State.runs_as {s : State} {c n cost : Nat} {regs : List (Fin 16)} {srs : List Nat} {f : Nat → Core → Core} {g : Core → Core}
    (h : s.issuesIn c n regs srs = true) (e : ∀ x, f n x = g x) :
    lift (fun d => d.regInstr c regs srs cost f) s = .next (s.ran c n cost g) := by
  rw [State.runs h f, show f n = g from funext e]

/-- Settles O23: as the register instructions, with the literal of the second word. -/
theorem literalInstructions : Obligations.LiteralInstructions := by
  refine ⟨fun s c n rd rs lit => ⟨fun h => State.runs_as h fun x => ?_, fun h => ?_⟩,
    fun s c rd rs x lit => ?_, fun op x => ?_⟩
  · rw [Core.next_next, Core.setReg_frame]
  · exact ⟨State.runs_as h fun x => Core.result_next x rd _, State.runs_as h fun x => Core.result_next x rd _,
      State.runs_as h fun x => Core.result_next x rd _, State.runs_as h fun x => Core.result_next x rd _,
      State.runs_as h fun x => Core.flagResult_next x _⟩
  · intro w
    refine ⟨?_, ?_, ?_, ?_, ?_, ?_⟩ <;>
      · show uluenWord c (wordRI _ rd rs x) lit s = _
        obtain ⟨hF, hop, hrd, hrs, -⟩ := wordRI_fields _ rd rs x
        rw [uluenWord, hF, hop, hrd, hrs]
        rfl
  · obtain ⟨hF, hop⟩ := wordPlain_fields op x
    have h : op.getLsbD 6 = decide (64 ≤ op.toNat) := by
      have := op.isLt
      rw [← BitVec.testBit_toNat, Nat.testBit_eq_decide_div_mod_eq, decide_eq_decide]; omega
    show hasLiteral (wordPlain op x) = true ↔ _
    rw [hasLiteral, hF, hop, h]
    simp only [Bool.and_eq_true, Bool.not_eq_true', decide_eq_false_iff_not, decide_eq_true_eq]
    omega

end Sys2Proof.Machine
end

section
/-! SUPPORT. Loads and stores of local data as instructions (spec 10, R274, R277, R282). -/
set_option Elab.async false
namespace Sys2Proof.Machine

/-- An access issues once the one before it has ended, so no store to CORE_CTRL is outstanding in its cycle (R317). -/
theorem State.accessIn_lands {s : State} {c n : Nat} (h : s.accessIn c n = true) : ((s.dev.core c).atCycle n).gieDue = none := by
  simp only [State.accessIn, Bool.and_eq_true, beq_iff_eq] at h
  have ended : (s.dev.core c).accEnds ≤ n := h.2 ▸ (issueAt_mem _ _ _ rfl).2
  obtain ⟨mh, ml, o, q, e⟩ := atCycle_frame (s.dev.core c) n
  rw [e]; exact if_pos ended

theorem memInstr_load {s : State} {c n a : Nat} {regs : List (Fin 16)} {srs : List Nat} {rd : Fin 16} {addr : Core → Word} {step : Core → Core}
    (h : s.accessIn c n = true) (ha : (addr ((s.dev.core c).atCycle n)).toNat = a) (hl : a < localWords c)
    (hp : s.dev.poisoned (localAddr c a) = false) (hs : ∀ x, (step x).gieDue = x.gieDue) :
    s.cmd.memInstr c regs srs false rd addr step = s.cmd.loaded c n rd a step := by
  have lands : (step ((s.dev.core c).atCycle n)).next.gieDue = none := (hs _).trans (State.accessIn_lands h)
  rw [Dev.memInstr, State.accessed h rfl]
  simp only [State.inCycle_core, ha, Bool.false_eq_true, if_false]
  rw [Dev.coreLoad_local hl (d := (s.inCycle c n).modCore c _) hp]
  simp only [State.inCycle, Dev.goesOn, Dev.modCore_modCore]
  refine Dev.modCore_congr (d := s.cmd) ?_
  rw [show s.cmd.core c = s.dev.core c from rfl, landGie_of_none _ _ lands]
  rfl

theorem memInstr_store {s : State} {c n a : Nat} {regs : List (Fin 16)} {srs : List Nat} {r : Fin 16} {addr : Core → Word} {step : Core → Core}
    (h : s.accessIn c n = true) (ha : (addr ((s.dev.core c).atCycle n)).toNat = a) (hl : a < localWords c)
    (hs : ∀ x, (step x).gieDue = x.gieDue) :
    s.cmd.memInstr c regs srs true r addr step = s.cmd.stored c n a ((s.dev.core c).reg r) step := by
  have lands : (step ((s.dev.core c).atCycle n)).next.gieDue = none := (hs _).trans (State.accessIn_lands h)
  rw [Dev.memInstr, State.accessed h rfl]
  simp only [State.inCycle_core, ha, if_true]
  rw [Dev.coreStore_local hl, atCycle_reg]
  simp only [State.inCycle, Dev.goesOn, Dev.modCore_modCore]
  have landed : (s.cmd.modCore c fun x => ((step (x.atCycle n)).next).landGie n) = s.cmd.modCore c fun x => (step (x.atCycle n)).next :=
    Dev.modCore_congr (d := s.cmd) (landGie_of_none _ _ lands)
  rw [landed]
  rfl

theorem dataPush_stores {s : State} {c n : Nat} {r : Fin 16} (h : s.accessIn c n = true) (hl : ((s.dev.core c).dsp - 1).toNat < localWords c)
    (hd : (s.dev.core c).dsl ≤ (s.dev.core c).dsp - 1) :
    s.cmd.dataPush c r = s.cmd.stored c n ((s.dev.core c).dsp - 1).toNat ((s.dev.core c).reg r) fun x => { x with dsp := x.dsp - 1 } := by
  have store := memInstr_store (regs := [r]) (srs := [1, 2]) (r := r) (addr := fun x => x.dsp - 1) (step := fun x => { x with dsp := x.dsp - 1 }) h
    (by rw [atCycle_dsp]) hl fun x => rfl
  rw [← store, Dev.dataPush, Dev.memInstr, State.accessed h rfl, State.accessed h rfl]
  have above : ¬ (s.dev.core c).dsp - 1 < (s.dev.core c).dsl := BitVec.not_lt.mpr hd
  have pushed : (s.inCycle c n).modCore c (fun y => { y.next with dsp := (s.dev.core c).dsp - 1 }) =
      (s.inCycle c n).modCore c fun x => ({ x with dsp := x.dsp - 1 } : Core).next :=
    Dev.modCore_congr (by rw [State.inCycle_core, ← atCycle_dsp (s.dev.core c) n]; rfl)
  simp only [State.inCycle_core, atCycle_dsp, atCycle_dsl, atCycle_reg, if_neg above, if_true, pushed]

/-- What the words of an access spell (R304). -/
theorem localWords_spell (s : State) (c : Fin 20) (rd rs rt : Fin 16) (k : Fin 4) (imm : BitVec 9) (lit : Word) (r : BitVec 2) (x : BitVec 5) :
    let ri (op : BitVec 7) := uluenWord c (wordRI op rd rs imm) lit s
    let an (op : BitVec 7) := uluenWord c (wordAI op rd r k imm) lit s
    let rrr (op : BitVec 7) := uluenWord c (wordRRR op rd rs rt x) lit s
    let art (op : BitVec 7) := uluenWord c (wordAR op rd r k rt x) lit s
    (ri 0x09 = exec (.ld c rd rs imm) s ∧ ri 0x0A = exec (.st c rd rs imm) s ∧ ri 0x11 = exec (.push c rd) s ∧ ri 0x12 = exec (.pop c rd) s) ∧
    (an 0x0B = exec (.lda c rd k imm) s ∧ an 0x0C = exec (.sta c rd k imm) s ∧ an 0x10 = exec (.mfa c rd k imm) s) ∧
    uluenWord c (wordToA 0x0F r k rs imm) lit s = exec (.mova c k rs imm) s ∧
    (rrr 0x22 = exec (.ldx c rd rs rt) s ∧ rrr 0x23 = exec (.stx c rd rs rt) s) ∧
    (art 0x24 = exec (.ldar c rd k rt) s ∧ art 0x25 = exec (.star c rd k rt) s) := by
  intro ri an rrr art
  refine ⟨⟨?_, ?_, ?_, ?_⟩, ⟨?_, ?_, ?_⟩, ?_, ⟨?_, ?_⟩, ?_, ?_⟩
  iterate 4
    · show uluenWord c (wordRI _ rd rs imm) lit s = _
      obtain ⟨hF, hop, hrd, hrs, himm⟩ := wordRI_fields _ rd rs imm
      rw [uluenWord, hF, hop, hrd, hrs, himm]
      rfl
  iterate 3
    · show uluenWord c (wordAI _ rd r k imm) lit s = _
      obtain ⟨hF, hop, hrd, han, himm⟩ := wordAI_fields _ rd r k imm
      rw [uluenWord, hF, hop, hrd, han, himm]
      rfl
  · obtain ⟨hF, hop, han, hrs, himm⟩ := wordToA_fields 0x0F r k rs imm
    rw [uluenWord, hF, hop, han, hrs, himm]
    rfl
  iterate 2
    · show uluenWord c (wordRRR _ rd rs rt x) lit s = _
      obtain ⟨hF, hop, hrd, hrs, hrt⟩ := wordRRR_fields _ rd rs rt x
      rw [uluenWord, hF, hop, hrd, hrs, hrt]
      rfl
  iterate 2
    · show uluenWord c (wordAR _ rd r k rt x) lit s = _
      obtain ⟨hF, hop, hrd, han, hrt⟩ := wordAR_fields _ rd r k rt x
      rw [uluenWord, hF, hop, hrd, han, hrt]
      rfl

/-- Settles O28: each access by its address and its step, the words by their fields. -/
theorem localAccesses : Obligations.LocalAccesses := by
  refine ⟨fun s c n rd rs rt k imm h => ?_, fun s c rd rs rt k imm lit r x => ?_⟩
  · intro x here
    have sum (u v : Word) (hu : ((s.dev.core c).atCycle n).reg rs = u) : (((s.dev.core c).atCycle n).reg rs + v).toNat = (u + v).toNat := by rw [hu]
    have at_reg : ((s.dev.core c).atCycle n).reg rs = x.reg rs := atCycle_reg _ _ _
    have at_sum : (((s.dev.core c).atCycle n).reg rs + ((s.dev.core c).atCycle n).reg rt).toNat = (x.reg rs + x.reg rt).toNat := by
      rw [atCycle_reg, atCycle_reg]
    have at_a : (((s.dev.core c).atCycle n).a[k]).toNat = x.a[k].toNat := by simp only [atCycle_a]; rfl
    refine ⟨fun ⟨hl, hp⟩ => ?_, fun ⟨hl, hp⟩ => ?_, fun ⟨hl, hp⟩ => ⟨?_, ?_⟩, fun ⟨hl, hp⟩ => ?_, fun hl => ?_, fun hl => ?_, fun hl => ⟨?_, ?_⟩, fun hl hd => ?_⟩
    · exact run_after (f := (·.memInstr c [rs] [] false rd (fun x => x.reg rs + immWord imm) id)) (memInstr_load h (sum _ _ at_reg) hl hp fun x => rfl)
    · exact run_after (f := (·.memInstr c [rs, rt] [] false rd (fun x => x.reg rs + x.reg rt) id)) (memInstr_load h at_sum hl hp fun x => rfl)
    · exact run_after (f := (·.memInstr c [] (stepSrs k) false rd (fun x => x.a[k]) fun x => x.setA k (x.stepped k (immWord imm))))
        (memInstr_load h at_a hl hp fun x => rfl)
    · exact run_after (f := (·.memInstr c [rt] (stepSrs k) false rd (fun x => x.a[k]) fun x => x.setA k (x.stepped k (x.reg rt))))
        (memInstr_load h at_a hl hp fun x => rfl)
    · exact run_after (f := (·.dataPop c rd)) (memInstr_load h (by rw [atCycle_dsp]) hl hp fun x => rfl)
    · exact run_after (f := (·.memInstr c [rs, rd] [] true rd (fun x => x.reg rs + immWord imm) id)) (memInstr_store h (sum _ _ at_reg) hl fun x => rfl)
    · exact run_after (f := (·.memInstr c [rs, rt, rd] [] true rd (fun x => x.reg rs + x.reg rt) id)) (memInstr_store h at_sum hl fun x => rfl)
    · exact run_after (f := (·.memInstr c [rd] (stepSrs k) true rd (fun x => x.a[k]) fun x => x.setA k (x.stepped k (immWord imm))))
        (memInstr_store h at_a hl fun x => rfl)
    · exact run_after (f := (·.memInstr c [rt, rd] (stepSrs k) true rd (fun x => x.a[k]) fun x => x.setA k (x.stepped k (x.reg rt))))
        (memInstr_store h at_a hl fun x => rfl)
    · exact run_after (f := (·.dataPush c rd)) (dataPush_stores h hl hd)
  · obtain ⟨⟨ld, st, push, pop⟩, ⟨lda, sta, mfa⟩, mova, ⟨ldx, stx⟩, ldar, star⟩ := localWords_spell s c rd rs rt k imm lit r x
    exact ⟨ld, st, lda, sta, mfa, push, pop, mova, ldx, stx, ldar, star⟩

end Sys2Proof.Machine
end

section
/-! SUPPORT. Branches, calls, returns, waits and interrupt entries of a core (spec 10, R278 to R280, R291 to R293, R316, R317; 11, R312, R314). -/
set_option Elab.async false
namespace Sys2Proof.Machine

/-! ### Winner and state of a core -/

/-- What of a core names the winner of its interrupt unit. -/
theorem Dev.winner_modCore {d : Dev} {c : Nat} {f : Core → Core} (held : Bool) (h : ∀ x, (f x).pend = x.pend ∧ (f x).sense = x.sense ∧
    (f x).mask = x.mask ∧ (f x).moder = x.moder ∧ (f x).far = x.far ∧ (f x).level = x.level) : (d.modCore c f).winner c held = d.winner c held := by
  obtain ⟨pend, sense, mask, moder, far, level⟩ := h (d.core c)
  have input (s : Nat) : (d.modCore c f).input c s = d.input c s := by
    rw [Dev.input, Dev.core_modCore, Core.farAny, far, level]; rfl
  have qualifies (s : Nat) : (d.modCore c f).qualifies c held s = d.qualifies c held s := by
    rw [Dev.qualifies, Dev.srcPending, Dev.core_modCore, Core.senseOf, sense, pend, mask, moder, input]; rfl
  rw [Dev.winner, Dev.winner, funext qualifies]

theorem Dev.setCoreState_modCore (d : Dev) (c k s : Nat) (f : Core → Core) : (d.modCore c f).setCoreState k s = (d.setCoreState k s).modCore c f := by
  unfold Dev.setCoreState Dev.iff
  split <;> rfl

theorem Dev.core_setCoreState (d : Dev) (c k s : Nat) : (d.setCoreState k s).core c = d.core c := by
  unfold Dev.setCoreState Dev.iff
  split <;> rfl

theorem Dev.coreState_setCoreState (d : Dev) (c s : Nat) : (d.setCoreState c s).coreState c = s := by
  have put : (d.setOb (K.CORE_STATE c) (s : Nat)).coreState c = s := by simp [Dev.coreState]
  unfold Dev.setCoreState Dev.iff
  split
  · exact put
  · exact put

/-! ### Flow -/

theorem State.ran_congr {s : State} {c n cost : Nat} {f g : Core → Core} (h : f ((s.dev.core c).atCycle n) = g ((s.dev.core c).atCycle n)) :
    s.ran c n cost f = s.ran c n cost g := by
  refine congrArg s.withDev (?_ : s.dev.modCore c _ = s.dev.modCore c _)
  exact Dev.modCore_congr (by rw [h])

theorem branch_goes {s : State} {c n : Nat} (h : s.issuesIn c n [] [0] = true) (k : Nat) (ofs : BitVec 14) :
    lift (·.branch c k ofs) s = .next (if condHolds k (s.dev.core c).flags then s.ran c n 2 fun x => { x with pc := (s.dev.core c).pc + ofs.signExtend 15 }
      else s.ran c n 1 Core.next) := by
  simp only [State.issuesIn, Bool.and_eq_true, beq_iff_eq, decide_eq_true_eq] at h
  have core : (s.dev.modCore c fun x => x.atCycle n).core c = (s.dev.core c).atCycle n := Dev.core_modCore _ _ _
  show Host.Outcome.next { s with dev := s.dev.branch c k ofs } = _
  rw [Dev.branch, instr_issues h.1.1 h.1.2 h.2]
  simp only [core, atCycle_flags]
  by_cases hc : condHolds k (s.dev.core c).flags = true
  · rw [if_pos hc, if_pos hc]
    simp only [Dev.modCore_modCore]
    refine congrArg (fun d => Host.Outcome.next { s with dev := d }) (?_ : s.dev.modCore c _ = s.dev.modCore c _)
    exact Dev.modCore_congr (by rw [← atCycle_pc (s.dev.core c) n])
  · rw [if_neg hc, if_neg hc]
    simp only [Dev.modCore_modCore]
    rfl

theorem callTo_pushes {s : State} {c n : Nat} {regs : List (Fin 16)} {target : Core → BitVec 15} (h : s.issuesIn c n regs [0, 3, 4] = true)
    (hr : (s.dev.core c).rsd < 32) : s.cmd.callTo c regs target = (s.inCycle c n).modCore c fun y =>
      { y with hw := y.entry ((s.dev.core c).pc + 1).toNat :: y.hw, rsd := y.rsd + 1, pc := target ((s.dev.core c).atCycle n), cyc := n + 2 } := by
  have stays : decide (32 ≤ (s.cmd.core c).rsd) = false := decide_eq_false (Nat.not_le.mpr hr)
  have below : ((s.inCycle c n).core c).rsd < 32 := by rw [State.inCycle_core, atCycle_rsd]; exact hr
  have low : (s.dev.core c).rsd < 1024 := by omega
  rw [Dev.callTo, stays]
  show s.cmd.instr c { regs := regs, srs := [0, 3, 4] } _ = _
  rw [State.issued h]
  simp only [Dev.pushEntry_hardware _ _ below, State.inCycle_core, atCycle_pc, atCycle_rsd, if_pos low, Dev.goesOn, Dev.modCore_modCore]

theorem callTo_spills {s : State} {c n : Nat} {regs : List (Fin 16)} {target : Core → BitVec 15} (h : s.accessIn c n = true)
    (hr : 32 ≤ (s.dev.core c).rsd) : let q := (s.inCycle c n).pushEntry c n ((s.dev.core c).pc + 1).toNat
    s.cmd.callTo c regs target =
      (if (s.dev.core c).rsd < 1024 then q.1.modCore c fun y => { y with pc := target ((s.dev.core c).atCycle n) } else q.1).goesOn c (n + 2 + q.2) := by
  intro q
  have spills : decide (32 ≤ (s.cmd.core c).rsd) = true := decide_eq_true hr
  rw [Dev.callTo, State.accessed h spills]
  simp only [State.inCycle_core, atCycle_pc, atCycle_rsd, Nat.add_assoc]
  rfl

/-- What a return takes from its entry: the address, and with RETI the flags and GIE (R280, R316). -/
def Core.takeEntry (all : Bool) (e : Word) (x : Core) : Core :=
  let y := { x with pc := BitVec.ofNat 15 e.toNat }
  if all then { y with flags := BitVec.ofNat 5 (e.toNat / 2 ^ 19 % 2 ^ 5), gie := e.getLsbD 18, trapHeld := false, in63 := false } else y

theorem takeEntry_eq (all : Bool) (e : Word) (x : Core) : x.takeEntry all e =
    let x := { x with pc := BitVec.ofNat 15 e.toNat }
    if all then { x with flags := BitVec.ofNat 5 (bits e.toNat 23 19), gie := e.getLsbD 18, trapHeld := false, in63 := false } else x := by
  rw [Core.takeEntry, bits, Nat.shiftRight_eq_div_pow]

theorem retFrom_empty {s : State} {c n : Nat} (all : Bool) (h : s.issuesIn c n [] [3, 4] = true) (hr : (s.dev.core c).rsd = 0) :
    s.cmd.retFrom c all = ((((s.inCycle c n).modCore c Core.next).otherFault c 4).raiseTrap c 10).goesOn c (n + 2) := by
  have empty : decide (32 < (s.cmd.core c).rsd) = false := decide_eq_false (by rw [show s.cmd.core c = s.dev.core c from rfl, hr]; decide)
  have none : (s.inCycle c n).popEntry c n = none := by rw [Dev.popEntry, State.inCycle_core, atCycle_rsd, if_pos hr]
  rw [Dev.retFrom, empty]
  show s.cmd.instr c { regs := [], srs := [3, 4] } _ = _
  rw [State.issued h]
  simp only [none]
  rfl

theorem retFrom_pops {s : State} {c n j : Nat} {all : Bool} {d : Dev} {e : Word}
    (h : s.issuesIn c n [] [3, 4] = true ∧ (s.dev.core c).rsd ≤ 32 ∨ s.accessIn c n = true ∧ 32 < (s.dev.core c).rsd)
    (hp : (s.inCycle c n).popEntry c n = some (d, e, j)) : s.cmd.retFrom c all = (d.modCore c (Core.takeEntry all e)).goesOn c (n + 2 + j) := by
  have taken : (fun x => Core.takeEntry all e x) = fun x => _ := funext (takeEntry_eq all e)
  have goes (u : Needs) (f : Nat → Dev → Dev × Nat) (hu : u = { srs := [3, 4], mem := decide (32 < (s.dev.core c).rsd) }) :
      s.cmd.instr c u f = (f n (s.inCycle c n)).1.goesOn c (n + (f n (s.inCycle c n)).2) := by
    rcases h with ⟨hi, hr⟩ | ⟨ha, hr⟩
    · rw [hu, decide_eq_false (Nat.not_lt.mpr hr)]; exact State.issued hi f
    · exact State.accessed ha (by rw [hu]; exact decide_eq_true hr) f
  refine (goes _ _ rfl).trans ?_
  simp only [hp, Nat.add_assoc, taken]

theorem waitWord_taken {s : State} {c n src : Nat} (h : s.issuesIn c n [] [] = true) (hw : (s.inCycle c n).winner c false = some src) :
    s.cmd.waitWord c = (s.inCycle c n).modCore c fun x => { x.next with imodEnds := none, cyc := n + 1 } := by
  have win : ((s.inCycle c n).modCore c fun x => { x.next with imodEnds := none }).winner c false = some src :=
    (Dev.winner_modCore (d := s.inCycle c n) (f := fun x => { x.next with imodEnds := none }) _ fun x => ⟨rfl, rfl, rfl, rfl, rfl, rfl⟩).trans hw
  rw [Dev.waitWord, State.issued h]
  simp only [win, Dev.goesOn, Dev.modCore_modCore]

theorem waitWord_waits {s : State} {c n : Nat} (h : s.issuesIn c n [] [] = true) (hw : (s.inCycle c n).winner c false = none) :
    s.cmd.waitWord c = ((s.inCycle c n).modCore c fun x => { x.next with imodEnds := none, wait := .wait, cyc := n + 1 }).setCoreState c 3 := by
  have win : ((s.inCycle c n).modCore c fun x => { x.next with imodEnds := none }).winner c false = none :=
    (Dev.winner_modCore (d := s.inCycle c n) (f := fun x => { x.next with imodEnds := none }) _ fun x => ⟨rfl, rfl, rfl, rfl, rfl, rfl⟩).trans hw
  rw [Dev.waitWord, State.issued h]
  simp only [win, Dev.goesOn, Dev.modCore_modCore, Dev.setCoreState_modCore]

theorem illegalWord_goes {s : State} {c n : Nat} (h : s.issuesIn c n [] [] = true) (lit : Bool) :
    s.cmd.instr c {} (fun _ d => (d.illegal c lit, 1)) = (((((s.inCycle c n).modCore c fun x => { x with pc := x.pc + if lit then 2 else 1 }).otherFault c 5).logSec
        0x5001 c).raiseTrap c 11).goesOn c (n + 1) := by
  rw [State.issued h]; rfl

/-- What the words of the flow spell (R304, R305). -/
theorem flowWords_spell (s : State) (c : Fin 20) (rd rs : Fin 16) (k : Fin 8) (ofs : BitVec 14) (target : BitVec 15) (b : Bool) (lit : Word) (r : BitVec 2)
    (imm : BitVec 9) (x : BitVec 16) (y : BitVec 17) :
    let br (op : BitVec 7) := uluenWord c (wordBranch op k ofs) lit s
    let jt (op : BitVec 7) := uluenWord c (wordTarget op r target) lit s
    let ri (op : BitVec 7) := uluenWord c (wordRI op rd rs imm) lit s
    let plain (op : BitVec 7) := uluenWord c (wordPlain op y) lit s
    (br 0x30 = exec (.bcondLow c k ofs) s ∧ br 0x31 = exec (.bcondHigh c k ofs) s) ∧
    (jt 0x32 = exec (.jmp c target) s ∧ jt 0x33 = exec (.call c target) s) ∧
    (ri 0x34 = exec (.jr c rs) s ∧ ri 0x35 = exec (.callr c rs) s) ∧
    (plain 0x36 = exec (.ret c) s ∧ plain 0x37 = exec (.reti c) s ∧ plain 0x38 = exec (.wait c) s ∧
      plain 0x13 = exec (.illegalWord c false) s ∧ plain 0x2F = exec (.illegalWord c false) s) ∧
    uluenWord c (wordBit 0x39 x b) lit s = exec (.setgie c b) s := by
  intro br jt ri plain
  refine ⟨⟨?_, ?_⟩, ⟨?_, ?_⟩, ⟨?_, ?_⟩, ⟨?_, ?_, ?_, ?_, ?_⟩, ?_⟩
  iterate 2
    · show uluenWord c (wordBranch _ k ofs) lit s = _
      obtain ⟨hF, hop, hk, hofs⟩ := wordBranch_fields _ k ofs
      rw [uluenWord, hF, hop, hk, hofs]
      rfl
  iterate 2
    · show uluenWord c (wordTarget _ r target) lit s = _
      obtain ⟨hF, hop, htarget⟩ := wordTarget_fields _ r target
      rw [uluenWord, hF, hop, htarget]
      rfl
  iterate 2
    · show uluenWord c (wordRI _ rd rs imm) lit s = _
      obtain ⟨hF, hop, -, hrs, -⟩ := wordRI_fields _ rd rs imm
      rw [uluenWord, hF, hop, hrs]
      rfl
  iterate 5
    · show uluenWord c (wordPlain _ y) lit s = _
      obtain ⟨hF, hop⟩ := wordPlain_fields _ y
      rw [uluenWord, hF, hop]
      rfl
  · obtain ⟨hF, hop, hb⟩ := wordBit_fields 0x39 x b
    rw [uluenWord, hF, hop, hb]
    rfl

/-- Settles O30: each word of the flow by its lemma above, the words by their fields. -/
theorem flowInstructions : Obligations.FlowInstructions := by
  refine ⟨fun s c n rs k ofs target b lit => ?_, fun s c rd rs k ofs target b lit r imm x y => ?_⟩
  · intro x took d pushed q spilt back
    have at_reg : ((s.dev.core c).atCycle n).reg rs = x.reg rs := atCycle_reg _ _ _
    refine ⟨fun h => ⟨branch_goes h k ofs, branch_goes h (k + 8) ofs⟩, fun h => ⟨State.runs h _, State.runs h _, ?_, fun src hw => ?_⟩, fun h hw => ?_,
      fun h => ?_, fun h hr => ?_, fun h hr => ?_, fun h hr => ⟨?_, ?_⟩, fun h hr => ⟨?_, ?_⟩, fun h h0 hr all => ?_, fun h hr all d' e j hp => ?_⟩
    · exact run_after (f := fun d => d.instr c {} fun _ d => (d.illegal c lit, 1)) (illegalWord_goes h lit)
    · exact run_after (f := (·.waitWord c)) (waitWord_taken h hw)
    · exact run_after (f := (·.waitWord c)) (waitWord_waits h hw)
    · have go : exec (.jr c rs) s = .next (s.ran c n 2 fun x => { x with pc := (x.reg rs).truncate 15 }) := State.runs h _
      exact go.trans (congrArg Host.Outcome.next (State.ran_congr (by rw [at_reg])))
    · exact run_after (f := (·.callTo c [] fun _ => target)) (callTo_pushes h hr)
    · exact run_after (f := (·.callTo c [rs] fun x => (x.reg rs).truncate 15)) ((callTo_pushes h hr).trans (by rw [at_reg]))
    · exact run_after (f := (·.callTo c [] fun _ => target)) (callTo_spills h hr)
    · exact run_after (f := (·.callTo c [rs] fun x => (x.reg rs).truncate 15)) ((callTo_spills h hr).trans (by rw [at_reg]))
    · exact run_after (f := (·.retFrom c false)) (retFrom_empty false h hr)
    · exact run_after (f := (·.retFrom c true)) (retFrom_empty true h hr)
    · have popped := retFrom_pops (all := all) (.inl ⟨h, hr⟩) (Dev.popEntry_hardware n (by rw [State.inCycle_core, atCycle_rsd]; exact h0)
        (by rw [State.inCycle_core, atCycle_rsd]; exact hr))
      rw [State.inCycle_core, atCycle_hw, Dev.modCore_modCore, Dev.goesOn, Dev.modCore_modCore] at popped
      cases all
      · exact run_after (f := (·.retFrom c false)) popped
      · exact run_after (f := (·.retFrom c true)) popped
    · have popped := retFrom_pops (all := all) (.inr ⟨h, hr⟩) hp
      cases all
      · exact run_after (f := (·.retFrom c false)) popped
      · exact run_after (f := (·.retFrom c true)) popped
  · obtain ⟨⟨low, high⟩, ⟨jmp, call⟩, ⟨jr, callr⟩, ⟨ret, reti, wait, i13, i2F⟩, setgie⟩ := flowWords_spell s c rd rs k ofs target b lit r imm x y
    exact ⟨low, high, jmp, call, jr, callr, ret, reti, wait, setgie, i13, i2F⟩

end Sys2Proof.Machine
end

section
/-! SUPPORT. Interrupt entry, pairs and system instructions of a core (spec 10, R273, R285 to R294; 11, R303 to R307). -/
set_option Elab.async false
namespace Sys2Proof.Machine

/-- A change of a core that leaves what lands as it is, and that no landing reads. -/
structure Core.Apart (U : Core → Core) : Prop where
  gie : ∀ x n, (U x).landGie n = U (x.landGie n)
  mul : ∀ x o, (U x).landMul o = U (x.landMul o)
  queue : ∀ x q, ({ U x with mulq := q } : Core) = U { x with mulq := q }
  mulq : ∀ x, (U x).mulq = x.mulq

theorem Core.Apart.landBefore {U : Core → Core} (h : Core.Apart U) (x : Core) (n : Nat) : (U x).landBefore n = U (x.landBefore n) := by
  have fold (l : List MulOp) (x : Core) : l.foldl Core.landMul (U x) = U (l.foldl Core.landMul x) := by
    induction l generalizing x with
    | nil => rfl
    | cons o l ih => rw [List.foldl_cons, h.mul, ih]; rfl
  rw [Core.landBefore, h.mulq, h.gie, h.queue, fold]; rfl

/-- A core between the two landings of an interrupt entry: it runs, its trap is taken and the entry is pushed. -/
def Core.entering (n depth : Nat) (stack : List Word) (traps in63 : Bool) (x : Core) : Core :=
  { x with wait := .none, trap := none, cyc := n, trapHeld := traps, in63 := in63, hw := stack, rsd := depth }

theorem Core.apart_entering (n depth : Nat) (stack : List Word) (traps in63 : Bool) : Core.Apart (Core.entering n depth stack traps in63) :=
  ⟨fun _ _ => rfl, fun _ _ => rfl, fun _ _ => rfl, fun _ => rfl⟩

theorem Core.apart_woken : Core.Apart fun x => { x with wait := .none, trap := none } := ⟨fun _ _ => rfl, fun _ _ => rfl, fun _ _ => rfl, fun _ => rfl⟩

/-- The vector that an interrupt entry goes to, and what it does to its source (R291, R292, R508). -/
def Core.vectored (n src now : Nat) (x y : Core) : Core :=
  { y with gie := false, pc := BitVec.ofNat 15 (x.ivbase.toNat + 8 * src), cyc := n,
           pend := if x.edgeSensed src then putBit x.pend src false else x.pend,
           imodEnds := if x.moder.testBit src && x.imod ≠ 0 then some (now + x.imod * 1000) else x.imodEnds }

/-- What the two steps of the model after the push do to a core. -/
theorem vectored_eq (n src now : Nat) (x : Core) :
    (let y := { x.landBefore n with gie := false, pc := BitVec.ofNat 15 (x.ivbase.toNat + 8 * src), cyc := n,
                                    pend := if x.edgeSensed src then putBit x.pend src false else x.pend }
     if y.moder.testBit src && y.imod ≠ 0 then { y with imodEnds := some (now + y.imod * 1000) } else y) = Core.vectored n src now x (x.landBefore n) := by
  obtain ⟨h, m, o, q, e⟩ := landBefore_frame x n
  rw [e]
  simp only [Core.vectored]
  split
  · rename_i moderated
    rw [if_pos (show (x.moder.testBit src && decide (x.imod ≠ 0)) = true from moderated)]; rfl
  · rename_i plain
    rw [if_neg (show ¬ (x.moder.testBit src && decide (x.imod ≠ 0)) = true from plain)]; rfl

theorem enter_core (x : Core) (n src now : Nat) :
    let w := ({ x with wait := .none, trap := none } : Core)
    let y := { w.landBefore n with cyc := n, trapHeld := w.trapHeld || x.trap.isSome, in63 := w.in63 || src == 63 }
    let z := { y with hw := y.entry y.pc.toNat :: y.hw, rsd := y.rsd + 1 }
    Core.vectored (n + 4) src now z (z.landBefore (n + 4)) =
      { (x.landBefore n).landBefore (n + 4) with
        wait := .none, trap := none, trapHeld := x.trapHeld || x.trap.isSome, in63 := x.in63 || src == 63,
        hw := (x.landBefore n).entry x.pc.toNat :: x.hw, rsd := x.rsd + 1, gie := false, pc := BitVec.ofNat 15 (x.ivbase.toNat + 8 * src), cyc := n + 4,
        pend := if x.edgeSensed src then putBit x.pend src false else x.pend,
        imodEnds := if x.moder.testBit src && x.imod ≠ 0 then some (now + x.imod * 1000) else x.imodEnds } := by
  intro w y z
  have hz : z = Core.entering n (x.rsd + 1) ((x.landBefore n).entry x.pc.toNat :: x.hw) (x.trapHeld || x.trap.isSome) (x.in63 || src == 63) (x.landBefore n) := by
    have hw : w.landBefore n = { x.landBefore n with wait := .none, trap := none } := Core.apart_woken.landBefore x n
    obtain ⟨h, m, o, q, e⟩ := landBefore_frame x n
    simp only [z, y, hw, e]
    rfl
  rw [hz, (Core.apart_entering _ _ _ _ _).landBefore]
  obtain ⟨h, m, o, q, e⟩ := landBefore_frame x n
  simp only [e]
  rfl

theorem Dev.bankNow_idle {d : Dev} {c : Nat} (h : (d.core c).swapPending = false) : d.bankNow c = d := by
  rw [Dev.bankNow, h, Bool.false_and]; rfl

theorem Dev.coreState_modCore (d : Dev) (c k : Nat) (f : Core → Core) : (d.modCore c f).coreState k = d.coreState k := rfl

theorem Dev.now_setCoreState (d : Dev) (c s : Nat) : (d.setCoreState c s).now = d.now := by
  unfold Dev.setCoreState Dev.iff
  split <;> rfl

theorem Dev.now_modCore (d : Dev) (c : Nat) (f : Core → Core) : (d.modCore c f).now = d.now := rfl

/-- The block of an interrupt entry before its push. -/
def Dev.entered (d : Dev) (c n src : Nat) (trap : Bool) : Dev :=
  ((d.setCoreState c 2).modCore c fun x => { x with wait := .none, trap := none }).modCore c fun x =>
    { x.landBefore n with cyc := n, trapHeld := x.trapHeld || trap, in63 := x.in63 || src == 63 }

/-- The rest of an interrupt entry, after its push of k more cycles. -/
def Dev.vectors (c n src : Nat) (p : Dev × Nat) : Dev :=
  if p.1.coreState c ≠ 2 then p.1 else
  (p.1.modCore c fun x =>
    { (x.landBefore (n + 4 + p.2)) with
      gie := false, pc := BitVec.ofNat 15 (x.ivbase.toNat + 8 * src), cyc := n + 4 + p.2,
      pend := if x.edgeSensed src then putBit x.pend src false else x.pend }).modCore c fun x =>
    if x.moder.testBit src && x.imod ≠ 0 then { x with imodEnds := some (p.1.now + x.imod * 1000) } else x

/-- An entry with no swap of the banks waiting and its push in the hardware's entries. -/
theorem enter_vectors {d : Dev} {c n src : Nat} (run : d.coreState c = 2 ∨ d.coreState c = 3) (ht : d.takes c = some src) (hr : (d.core c).rsd < 32)
    (hs : (d.core c).swapPending = false) (hn : n = d.cycleOf c) :
    d.enter c = Dev.vectors c n src ((d.entered c n src (d.core c).trap.isSome).pushEntry c n ((d.entered c n src (d.core c).trap.isSome).core c).pc.toNat) := by
  have running : ¬ (d.coreState c ≠ 2 && d.coreState c ≠ 3) = true := by rcases run with run | run <;> simp [run]
  have lands : (d.core c).lands src = false := by rw [Core.lands, hs]; rfl
  have quiet : ((d.setCoreState c 2).modCore c fun x => { x with wait := .none, trap := none }).bankNow c =
      (d.setCoreState c 2).modCore c fun x => { x with wait := .none, trap := none } :=
    Dev.bankNow_idle (by rw [Dev.core_modCore, Dev.core_setCoreState]; exact hs)
  rw [Dev.enter, if_neg running]
  simp only [ht, lands, if_neg (Nat.not_le.mpr hr), ← hn, Dev.setCoreState_modCore, quiet, Bool.false_eq_true, if_false]
  rfl

theorem vectors_running {d : Dev} {c : Nat} (n src : Nat) (h : d.coreState c = 2) :
    Dev.vectors c n src (d, 0) = d.modCore c fun x => Core.vectored (n + 4) src d.now x (x.landBefore (n + 4)) := by
  rw [Dev.vectors, if_neg (by simpa using h), Dev.modCore_modCore]
  exact congrArg (d.modCore c) (funext fun x => vectored_eq (n + 4) src d.now x)

/-- Settles O32: the steps of an entry one after the other, put together on its core. -/
theorem interruptEntry : Obligations.InterruptEntry := by
  intro s c n src x run ht hr hs hn
  refine run_after (f := (·.enter c)) ?_
  have below : ((s.cmd.entered c n src (s.cmd.core c).trap.isSome).core c).rsd < 32 := by
    obtain ⟨h, m, o, q, e⟩ := landBefore_frame ({ x with wait := .none, trap := none } : Core) n
    rw [Dev.entered, Dev.core_modCore, Dev.core_modCore, Dev.core_setCoreState]
    exact e ▸ hr
  have runs (f : Core → Core) : ((s.cmd.entered c n src (s.cmd.core c).trap.isSome).modCore c f).coreState c = 2 := by
    rw [Dev.entered, Dev.coreState_modCore, Dev.coreState_modCore, Dev.coreState_modCore, Dev.coreState_setCoreState]
  rw [enter_vectors (d := s.cmd) run ht hr hs hn, Dev.pushEntry_hardware n _ below, vectors_running n src (runs _), Dev.now_modCore, Dev.entered, Dev.now_modCore,
    Dev.now_modCore, Dev.now_setCoreState, Dev.core_modCore, Dev.core_modCore, Dev.core_setCoreState]
  simp only [Dev.modCore_modCore]
  refine Dev.modCore_congr ?_
  rw [Dev.core_setCoreState]
  exact enter_core x n src s.dev.now

end Sys2Proof.Machine
end

section
/-! SUPPORT. Pair words (spec 11, R303, R305 to R307, R313). -/
set_option Elab.async false
namespace Sys2Proof.Machine

/-- A slot accesses memory where its opcode needs it to. -/
theorem Core.slot_accesses (x : Core) (op : BitVec 5) (xr yr : BitVec 3) : (x.slot op xr yr).accesses = (slotNeeds op xr yr).mem := by
  obtain ⟨⟨k, hk⟩⟩ := op
  iterate 32 (rcases k with _ | k; · rfl)
  omega

theorem Dev.slotAccess_none {t : Slot} (h : t.accesses = false) (d : Dev) (c n : Nat) (discarded : Bool) : d.slotAccess c n t discarded = d := by
  simp only [Slot.accesses, Bool.or_eq_false_iff, Option.isSome_eq_false_iff, Option.isNone_iff_eq_none] at h
  rw [Dev.slotAccess, h.1, h.2]

theorem Core.apply_of (x old : Core) (r : Fin 16) (v : Word) (u : FlagUpd) (n : Nat) :
    x.apply old (Slot.of r (v, u)) n = ({ x with flags := u.on x.flags } : Core).setReg r v := rfl

theorem Core.flags_setReg (x : Core) (r : Fin 16) (v : Word) : (x.setReg r v).flags = x.flags := by rw [Core.setReg_frame]

theorem Core.reg_apply_of (x old : Core) (r k : Fin 16) (v : Word) (u : FlagUpd) (n : Nat) : (x.apply old (Slot.of r (v, u)) n).reg k = (x.setReg r v).reg k := by
  rw [Core.apply_of]; exact Core.reg_congr (by unfold Core.setReg; split <;> rfl) k

theorem Core.flags_apply_of (x old : Core) (r : Fin 16) (v : Word) (u : FlagUpd) (n : Nat) : (x.apply old (Slot.of r (v, u)) n).flags = u.on x.flags := by
  rw [Core.apply_of, Core.flags_setReg]

/-- What a pair word in the form of R303 spells. -/
theorem pairWord_spells (s : State) (c : Fin 20) (opa opb : BitVec 5) (xa ya xb yb : BitVec 3) (z : Bool) (lit : Word) :
    uluenWord c (1#1 ++ opa ++ xa ++ ya ++ opb ++ xb ++ yb ++ BitVec.ofBool z) lit s = exec (.pair c opa xa ya opb xb yb z) s := by
  generalize hw : (1#1 ++ opa ++ xa ++ ya ++ opb ++ xb ++ yb ++ BitVec.ofBool z : Word) = w
  have hn : w.toNat = 2 ^ 23 + opa.toNat * 2 ^ 18 + xa.toNat * 2 ^ 15 + ya.toNat * 2 ^ 12 + opb.toNat * 2 ^ 7 + xb.toNat * 2 ^ 4 + yb.toNat * 2 + z.toNat := by
    rw [← hw]
    simp only [toNat_append_add, BitVec.toNat_ofNat, BitVec.toNat_ofBool]; omega
  have h1 := opa.isLt
  have h2 := xa.isLt
  have h3 := ya.isLt
  have h4 := opb.isLt
  have h5 := xb.isLt
  have h6 := yb.isLt
  have h7 := z.toNat_le
  have f : w.getLsbD 23 = true := by
    rw [← BitVec.testBit_toNat, Nat.testBit_eq_decide_div_mod_eq, decide_eq_true_eq, hn]; omega
  have low : w.getLsbD 0 = z := by
    rw [← BitVec.testBit_toNat, Nat.testBit_zero, hn]; cases z <;> simp <;> omega
  have fields : w.extractLsb' 18 5 = opa ∧ w.extractLsb' 15 3 = xa ∧ w.extractLsb' 12 3 = ya ∧ w.extractLsb' 7 5 = opb ∧ w.extractLsb' 4 3 = xb ∧
      w.extractLsb' 1 3 = yb := by
    refine ⟨?_, ?_, ?_, ?_, ?_, ?_⟩ <;>
      · refine extractLsb'_of_fld ?_
        rw [fld, hn]; omega
  obtain ⟨e1, e2, e3, e4, e5, e6⟩ := fields
  rw [uluenWord, if_pos f, low, e1, e2, e3, e4, e5, e6]
  rfl

/-- Settles O33: a pair by its two slots, their merged results by the order in which they are applied. -/
theorem pairInstructions : Obligations.PairInstructions := by
  refine ⟨fun s c n opa opb xa ya xb yb z => ?_, fun x r q v w u t n => ?_, pairWord_spells⟩
  · intro x ta tb ua ub d d1 m
    refine ⟨fun hz h => ?_, fun hz ha hb h => ?_, fun hz hm h => ?_⟩ <;>
      refine run_after (f := (·.pairWord c opa xa ya opb xb yb z)) ?_
    · rw [Dev.pairWord, if_pos hz]; exact illegalWord_goes h false
    · have na : (((s.dev.core c).atCycle n).slot opa xa ya).accesses = false := (Core.slot_accesses _ _ _ _).trans ha
      have nb : (((s.dev.core c).atCycle n).slot opb xb yb).accesses = false := (Core.slot_accesses _ _ _ _).trans hb
      rw [Dev.pairWord, if_neg (by simp [hz])]
      simp only [show (slotNeeds opa xa ya).mem = false from ha, show (slotNeeds opb xb yb).mem = false from hb, Bool.or_false]
      rw [State.issued h]
      simp only [State.inCycle_core, Dev.slotAccess_none na, Dev.slotAccess_none nb, na, Bool.false_and, Bool.false_eq_true, if_false, Nat.sub_self, Nat.zero_add]
      rfl
    · have le : n ≤ m := by simp only [m]; split <;> omega
      rw [Dev.pairWord, if_neg (by simp [hz])]
      refine (State.accessed h hm _).trans ?_
      have ends : n + (m - n + 1) = m + 1 := by omega
      simp only [State.inCycle_core]
      exact congrArg (Dev.goesOn ((d1.slotAccess c m tb false)) c) ends
  · intro y
    have flags : y.flags = t.on (u.on x.flags) := by rw [Core.flags_apply_of, Core.flags_apply_of]
    obtain ⟨uz, -, uc, -, -⟩ := flags_flagsOf (u.z.getD (flagZ x.flags)) (u.n.getD (flagN x.flags)) (u.c.getD (flagC x.flags)) (u.v.getD (flagV x.flags))
      (u.d.getD (flagD x.flags))
    obtain ⟨tz, -, tc, -, -⟩ := flags_flagsOf (t.z.getD (flagZ (u.on x.flags))) (t.n.getD (flagN (u.on x.flags))) (t.c.getD (flagC (u.on x.flags)))
      (t.v.getD (flagV (u.on x.flags))) (t.d.getD (flagD (u.on x.flags)))
    refine ⟨fun hq => ?_, fun hr h0 => ?_, fun o ho hq => ?_, ?_, ?_⟩
    · rw [Core.reg_apply_of, Core.reg_setReg_same _ hq]
    · rw [Core.reg_apply_of, Core.reg_setReg_other _ hr, Core.reg_apply_of, Core.reg_setReg_same _ h0]
    · rw [Core.reg_apply_of, Core.reg_setReg_other _ hq, Core.reg_apply_of, Core.reg_setReg_other _ ho]
    · rw [flags]; exact tz.trans (congrArg t.z.getD uz)
    · rw [flags]; exact tc.trans (congrArg t.c.getD uc)

end Sys2Proof.Machine
end

section
/-! SUPPORT. Special registers, far requests and waits as instructions (spec 10, R273, R285 to R288, R294; 18, R503). -/
set_option Elab.async false
namespace Sys2Proof.Machine

theorem atCycle_farDoneAt (x : Core) (n t : Nat) : (x.atCycle n).farDoneAt t = x.farDoneAt t := by simp only [Core.farDoneAt, atCycle_far]

/-- A request that has completed is one of its tag. -/
theorem Core.farDoneAt_tag {x : Core} {t : Nat} {q : FarReq} (h : x.farDoneAt t = some q) : (x.far.all fun r => r.tag != t) = false := by
  rw [Core.farDoneAt] at h
  have found := List.find?_some h
  have hq : q.tag = t := beq_iff_eq.mp (Bool.and_eq_true_iff.mp found).1
  rw [← Bool.not_eq_true, List.all_eq_true]
  exact fun all => absurd hq (bne_iff_ne.mp (all q (List.mem_of_find?_eq_some h)))

theorem farCollect_free {s : State} {c n : Nat} {rd rs : Fin 16} (h : s.issuesIn c n [rs] [] = true)
    (free : ((s.dev.core c).far.all fun q => q.tag != ((s.dev.core c).reg rs).toNat) = true) (blocks : Bool) : s.cmd.farCollect c rd rs blocks =
      ((s.inCycle c n).modCore c fun x => (x.setReg rd (word Stat.range)).next).goesOn c (n + 1) := by
  rw [Dev.farCollect, State.issued h]
  simp only [State.inCycle_core, atCycle_far, atCycle_reg, if_pos free]

theorem farCollect_done {s : State} {c n : Nat} {rd rs : Fin 16} {q : FarReq} (h : s.issuesIn c n [rs] [] = true)
    (done : (s.dev.core c).farDoneAt ((s.dev.core c).reg rs).toNat = some q) (blocks : Bool) : s.cmd.farCollect c rd rs blocks =
      ((s.inCycle c n).modCore c fun x => ((x.setReg rd q.word).freeTag ((s.dev.core c).reg rs).toNat).next).goesOn c (n + 1) := by
  have taken := Core.farDoneAt_tag done
  rw [Dev.farCollect, State.issued h]
  simp only [State.inCycle_core, atCycle_far, atCycle_reg, taken, Bool.false_eq_true, if_false, atCycle_farDoneAt, done]

theorem farCollect_open {s : State} {c n : Nat} {rd rs : Fin 16} (h : s.issuesIn c n [rs] [] = true)
    (taken : ((s.dev.core c).far.any fun q => q.tag == ((s.dev.core c).reg rs).toNat) = true)
    (open_ : (s.dev.core c).farDoneAt ((s.dev.core c).reg rs).toNat = none) :
    s.cmd.farCollect c rd rs true =
      ((s.inCycle c n).modCore c fun x => { x with wait := .far rd.val ((s.dev.core c).reg rs).toNat }).goesOn c (n + 1) ∧
    s.cmd.farCollect c rd rs false = ((s.inCycle c n).modCore c fun x => (x.setReg rd 0xFFFFFF).next).goesOn c (n + 1) := by
  have some_ : ((s.dev.core c).far.all fun q => q.tag != ((s.dev.core c).reg rs).toNat) = false := by
    rw [← Bool.not_eq_true, List.all_eq_true]
    obtain ⟨q, hq, e⟩ := List.any_eq_true.mp taken
    exact fun all => absurd (beq_iff_eq.mp e) (bne_iff_ne.mp (all q hq))
  constructor <;>
    · rw [Dev.farCollect, State.issued h]
      simp only [State.inCycle_core, atCycle_far, atCycle_reg, some_, Bool.false_eq_true, if_false, if_true, atCycle_farDoneAt, open_]

/-- What the words of these instructions spell (R304). -/
theorem systemWords_spell (s : State) (c : Fin 20) (rd rs rt : Fin 16) (sr : Fin 32) (lit : Word) (q : BitVec 4) (x : BitVec 5) :
    let rrr (op : BitVec 7) := uluenWord c (wordRRR op rd rs rt x) lit s
    let sys (op : BitVec 7) := uluenWord c (wordSys op rd rs q sr) lit s
    (sys 0x0D = exec (.mfs c rd sr) s ∧ sys 0x0E = exec (.mts c sr rs) s) ∧ rrr 0x28 = exec (.freq c rd rs rt) s ∧ rrr 0x29 = exec (.fwait c rd rs) s ∧
    rrr 0x2A = exec (.fpoll c rd rs) s ∧ rrr 0x2B = exec (.waitmb c rd rs) s := by
  intro rrr sys
  refine ⟨⟨?_, ?_⟩, ?_, ?_, ?_, ?_⟩
  iterate 2
    · show uluenWord c (wordSys _ rd rs q sr) lit s = _
      obtain ⟨hF, hop, hrd, hrs, hsr⟩ := wordSys_fields _ rd rs q sr
      rw [uluenWord, hF, hop, hrd, hrs, hsr]
      rfl
  iterate 4
    · show uluenWord c (wordRRR _ rd rs rt x) lit s = _
      obtain ⟨hF, hop, hrd, hrs, hrt⟩ := wordRRR_fields _ rd rs rt x
      rw [uluenWord, hF, hop, hrd, hrs, hrt]
      rfl

/-- Settles O35: each instruction in its cycle, the words by their fields. -/
theorem systemInstructions : Obligations.SystemInstructions := by
  refine ⟨fun s c n rd rs rt sr => ?_, fun s c rd rs rt sr lit q x => ?_⟩
  · intro x d put
    have at_reg (r : Fin 16) : ((s.inCycle c n).core c).reg r = x.reg r := by rw [State.inCycle_core]; exact atCycle_reg _ _ _
    refine ⟨fun h => ?_, fun h => ?_, fun h => ?_, fun h free => ⟨?_, ?_⟩, fun q h done => ⟨?_, ?_⟩, fun h taken open_ => ⟨?_, ?_⟩, fun h v hv => ?_, fun h hv => ?_⟩
    · exact run_after (f := (·.instr c { srs := [sr.val] } fun _ d => let (d, v) := d.srRead c sr.val; (d.modCore c fun x => (x.setReg rd (word v)).next, 1)))
        (State.issued h _)
    · refine run_after (f := (·.instr c { regs := [rs] } fun _ d => ((d.modCore c Core.next).srWrite c sr.val ((d.core c).reg rs).toNat, 1))) ?_
      rw [State.issued h, ← at_reg rs]
    · refine run_after (f := (·.instr c { regs := [rs, rt] } fun _ d =>
        let x := d.core c; let (d, t) := d.farIssue c (x.reg rs).toNat (x.reg rt).toNat; (d.modCore c fun x => (x.setReg rd t).next, 1))) ?_
      rw [State.issued h, ← at_reg rs, ← at_reg rt]
    · exact run_after (f := (·.farCollect c rd rs true)) (farCollect_free h free true)
    · exact run_after (f := (·.farCollect c rd rs false)) (farCollect_free h free false)
    · exact run_after (f := (·.farCollect c rd rs true)) (farCollect_done h done true)
    · exact run_after (f := (·.farCollect c rd rs false)) (farCollect_done h done false)
    · exact run_after (f := (·.farCollect c rd rs true)) (farCollect_open h taken open_).1
    · exact run_after (f := (·.farCollect c rd rs false)) (farCollect_open h taken open_).2
    · refine run_after (f := (·.mbWait c rd rs)) ?_
      rw [Dev.mbWait, State.issued h]
      simp only [at_reg, show (s.inCycle c n).mbReleased c (x.reg rs).toNat true = some v from hv]
      rfl
    · refine run_after (f := (·.mbWait c rd rs)) ?_
      rw [Dev.mbWait, State.issued h]
      simp only [at_reg, show (s.inCycle c n).mbReleased c (x.reg rs).toNat true = none from hv]
      rfl
  · obtain ⟨⟨mfs, mts⟩, freq, fwait, fpoll, waitmb⟩ := systemWords_spell s c rd rs rt sr lit q x
    exact ⟨mfs, mts, freq, fwait, fpoll, waitmb⟩

end Sys2Proof.Machine
end

section
/-! SUPPORT. Bank swaps, timer, watchdog and commands of a core (spec 10, R295 to R302; 18, R503). -/
set_option Elab.async false
namespace Sys2Proof.Machine

/-- The fields of a BANK word with a mask and a command (R297). -/
theorem bankWord_fields (m : BitVec 16) (k : Nat) (hk : k < 4) : bits (m.toNat * 256 + 4 * k) 23 8 = m.toNat ∧ bits (m.toNat * 256 + 4 * k) 3 2 = k := by
  have := m.isLt
  simp only [bits, Nat.shiftRight_eq_div_pow]
  omega

theorem Dev.bankWrite_arm (d : Dev) (c : Nat) (m : BitVec 16) : d.bankWrite c (m.toNat * 256 + 4) = d.bankAsk c false m.toNat := by
  obtain ⟨mask, cmd⟩ := bankWord_fields m 1 (by decide)
  simp only [Dev.bankWrite, show m.toNat * 256 + 4 = m.toNat * 256 + 4 * 1 from rfl, mask, cmd]

theorem Dev.bankWrite_now (d : Dev) (c : Nat) (m : BitVec 16) : d.bankWrite c (m.toNat * 256 + 12) = d.bankAsk c true m.toNat := by
  obtain ⟨mask, cmd⟩ := bankWord_fields m 3 (by decide)
  simp only [Dev.bankWrite, show m.toNat * 256 + 12 = m.toNat * 256 + 4 * 3 from rfl, mask, cmd]

theorem Dev.bankWrite_cancel (d : Dev) (c : Nat) (m : BitVec 16) :
    d.bankWrite c (m.toNat * 256 + 8) = (d.modCore c fun x => { x with cpMask := m }).bankCancel c := by
  obtain ⟨mask, cmd⟩ := bankWord_fields m 2 (by decide)
  simp only [Dev.bankWrite, show m.toNat * 256 + 8 = m.toNat * 256 + 4 * 2 from rfl, mask, cmd, BitVec.ofNat_toNat, BitVec.setWidth_eq]

theorem Dev.coreCmd_effect (d : Dev) (r : Option Src) (c : Fin 20) (v : Int) (b : Bool) :
    d.effect ⟨0x0, 0x10, 20, 1, 0x1, 1, .u8, .w, 0, 1, 3, none, false, .coreCmd⟩ (K.CORE_CMD c) v r b = atOnce (d.coreCmd c v.toNat) := by
  show atOnce (d.coreCmd (Desc.index _ _) v.toNat) = _
  rw [(key_CORE_CMD c c.isLt).2.1]

theorem coreCmd_writes {s : State} {r : Src} {c : Fin 20} {v : Nat} {d : Dev} (h : s.opens r (K.CORE_CMD c) [v] 3 = true) (hv : 1 ≤ v ∧ v ≤ 3)
    (he : (s.taken r 2 (K.CORE_CMD c) 0 [v]).coreCmd c v = (d, Stat.done)) :
    run (·.writeReq r (K.CORE_CMD c) [v]) s = .next (s.wrote r (K.CORE_CMD c) [v] d) :=
  write_word h (key_CORE_CMD c c.isLt) (.inr (.inl ⟨rfl, by decide⟩)) rfl (by decide) (by simp) (by simp) ⟨Int.ofNat_le.mpr hv.1, Int.ofNat_le.mpr hv.2⟩
    (by rw [Dev.coreCmd_effect, Int.toNat_natCast, he]; rfl)

theorem Dev.now_pulse (d : Dev) (c s : Nat) : (d.pulse c s).now = d.now := by
  unfold Dev.pulse
  split <;> rfl

theorem Dev.now_raise63 (d : Dev) (c : Nat) : (d.raise63 c).now = d.now := by
  unfold Dev.raise63
  split
  · exact Dev.now_pulse d c 63
  · rfl

/-- A held core that waits for nothing runs. -/
theorem Dev.coreGo_held {d : Dev} {c : Nat} (held : d.coreState c = 1) (free : (d.core c).wait = .none) : d.event.coreGo c = d.event.setCoreState c 2 := by
  have held' : d.event.coreState c = 1 := held
  have free' : (d.event.core c).wait = .none := free
  rw [Dev.coreGo, if_neg (by rw [held']; decide), free']

/-- A command of the banks that the Tap answers at once. -/
theorem Dev.bankAsk_refused {d d' : Dev} {c mask : Nat} {now : Bool} (idle : (d.core c).swapPending = false)
    (ask : d.ask (.bank c) 300 1000 4 0 (mask * 4 + b2n now) = (d', .refused)) : d.bankAsk c now mask = d'.swapStat c Stat.permit := by
  rw [Dev.bankAsk, if_neg (by simp [idle]), ask]

theorem Dev.bankAsk_granted {d d' : Dev} {c k : Nat} {m : BitVec 16} {now : Bool} (idle : (d.core c).swapPending = false)
    (ask : d.ask (.bank c) 300 1000 4 0 (m.toNat * 4 + b2n now) = (d', .granted k)) : d.bankAsk c now m.toNat =
      (d'.modCore c fun y => { y with swapPending := true, swapNow := now, swapPermit := k, cpMask := m }).swapStat c Stat.done := by
  rw [Dev.bankAsk, if_neg (by simp [idle]), ask]
  simp only [Dev.bankGranted, BitVec.ofNat_toNat, BitVec.setWidth_eq]

theorem bankCommands {s : State} {c : Fin 20} (m : BitVec 16) (run : s.cmd.coreRuns c = true) :
    let d := s.cmd
    let x := s.dev.core c
    let stat (d : Dev) (k : Nat) := d.modCore c fun y => { y with swapStatus := k }
    (x.swapPending = true →
      exec (.bankArm c m) s = .next (s.after (stat d Stat.busy)) ∧ exec (.bankNow c) s = .next (s.after (stat d Stat.busy)) ∧
      exec (.bankCancel c) s = .next (s.after (stat (((d.modCore c fun y => { y with cpMask := x.cpMask }).modCore c fun y =>
        { y with swapPending := false, swapNow := false, swapPermit := 0 }).release x.swapPermit) Stat.done))) ∧
    (x.swapPending = false →
      exec (.bankCancel c) s = .next (s.after (stat (d.modCore c fun y => { y with cpMask := x.cpMask }) Stat.range)) ∧
      (∀ d', d.ask (.bank c) 300 1000 4 0 (m.toNat * 4) = (d', .refused) → exec (.bankArm c m) s = .next (s.after (stat d' Stat.permit))) ∧
      (∀ d', d.ask (.bank c) 300 1000 4 0 (x.cpMask.toNat * 4 + 1) = (d', .refused) → exec (.bankNow c) s = .next (s.after (stat d' Stat.permit))) ∧
      (∀ d' k, d.ask (.bank c) 300 1000 4 0 (m.toNat * 4) = (d', .granted k) → exec (.bankArm c m) s = .next (s.after
        (stat (d'.modCore c fun y => { y with swapPending := true, swapNow := false, swapPermit := k, cpMask := m }) Stat.done))) ∧
      (∀ d' k, d.ask (.bank c) 300 1000 4 0 (x.cpMask.toNat * 4 + 1) = (d', .granted k) → exec (.bankNow c) s = .next (s.after
        (stat (d'.modCore c fun y => { y with swapPending := true, swapNow := true, swapPermit := k, cpMask := x.cpMask }) Stat.done)))) := by
  intro d x stat
  have arm : d.bankCmd c (m.toNat * 256 + 4) = d.bankAsk c false m.toNat := (if_pos run).trans (Dev.bankWrite_arm d c m)
  have now : d.bankCmd c ((d.core c).cpMask.toNat * 256 + 12) = d.bankAsk c true (d.core c).cpMask.toNat := (if_pos run).trans (Dev.bankWrite_now d c _)
  have cancel : d.bankCmd c ((d.core c).cpMask.toNat * 256 + 8) = (d.modCore c fun y => { y with cpMask := (d.core c).cpMask }).bankCancel c :=
    (if_pos run).trans (Dev.bankWrite_cancel d c _)
  have armed {e : Dev} (h : d.bankAsk c false m.toNat = e) : exec (.bankArm c m) s = .next (s.after e) :=
    run_after (f := (·.bankCmd c (m.toNat * 256 + 4))) (arm.trans h)
  have nowed {e : Dev} (h : d.bankAsk c true (d.core c).cpMask.toNat = e) : exec (.bankNow c) s = .next (s.after e) :=
    run_after (f := fun d => d.bankCmd c ((d.core c).cpMask.toNat * 256 + 12)) (now.trans h)
  have cancelled {e : Dev} (h : (d.modCore c fun y => { y with cpMask := (d.core c).cpMask }).bankCancel c = e) : exec (.bankCancel c) s = .next (s.after e) :=
    run_after (f := fun d => d.bankCmd c ((d.core c).cpMask.toNat * 256 + 8)) (cancel.trans h)
  refine ⟨fun pend => ⟨armed (if_pos pend), nowed (if_pos pend), cancelled ?_⟩, fun idle =>
    ⟨cancelled ?_, fun d' ask => armed (Dev.bankAsk_refused idle ask), fun d' ask => nowed (Dev.bankAsk_refused idle ask),
      fun d' k ask => armed (Dev.bankAsk_granted idle ask), fun d' k ask => nowed (Dev.bankAsk_granted idle ask)⟩⟩
  · rw [Dev.bankCancel, Dev.core_modCore, if_pos (show (d.core c).swapPending = true from pend)]; rfl
  · rw [Dev.bankCancel, Dev.core_modCore, if_neg (by simpa using show (d.core c).swapPending = false from idle)]; rfl

/-- A wait for a mailbox ends with what released it, else with its timeout. -/
theorem mbEnd_ends {d : Dev} {c rd v since : Nat} (h : rd < 16) (st : d.coreState c = 3) (hw : (d.core c).wait = .mailbox rd v since) :
    let e := (match d.mbReleased c v false with
      | some r => (d, r)
      | none => (d.upTo (since + (d.core c).mbto * 1000), 0xFF00 + Stat.timeout) : Dev × Nat)
    d.mbEnd c = (e.1.modCore c fun x => { x.outstanding (e.1.cycleOf c) (x.setReg ⟨rd, h⟩ (word e.2)).next with wait := .none, cyc := e.1.cycleOf c + 1 }).setCoreState c 2 := by
  intro e
  rw [Dev.mbEnd, hw]
  simp only [st, ne_eq, not_true_eq_false, if_false, dif_pos h]
  rfl

/-- Settles O38: each command by the branch of its conditions. -/
theorem coreEvents : Obligations.CoreEvents := by
  refine ⟨fun s c m run => bankCommands m run, fun s c on per => ?_, fun s c on cold => ?_, fun s c on => ?_, fun s r c h => ?_, fun s r c h => ?_,
    fun s r c h => ?_, fun s c rd v since k hrd st hw rel => ?_, fun s c rd v since hrd st hw rel => ?_⟩
  · refine run_after (f := (·.timerExpiry c)) ?_
    rw [Dev.timerExpiry, if_neg (by simp [on, show (s.cmd.core c).tmrPeriod ≠ 0 from per])]
    rfl
  · refine run_after (f := (·.wdogWarn c)) ?_
    rw [Dev.wdogWarn, if_neg (by simp [on, show (s.cmd.core c).wdogWarned = false from cold])]
    rfl
  · refine run_after (f := (·.wdogExpiry c)) ?_
    rw [Dev.wdogExpiry, if_neg (by simp [on])]
    rfl
  · intro d held free
    refine coreCmd_writes h (by decide) ?_
    rw [Dev.coreCmd, if_neg (by rw [held]; decide)]
    exact congrArg (·, Stat.done) (Dev.coreGo_held held free)
  · intro d on
    refine coreCmd_writes h (by decide) ?_
    rw [Dev.coreCmd, if_neg on]
    rfl
  · intro d on e t
    refine coreCmd_writes h (by decide) ?_
    unfold Dev.coreCmd
    rw [if_neg on]
    have when_ : e.now = d.event.tookEffect.now := Dev.now_raise63 _ _
    show (Dev.coreResetCmd d.event.tookEffect c, Stat.done) = _
    rw [Dev.coreResetCmd, ← when_]
  · refine run_after (f := (·.mbEnd c)) ?_
    rw [mbEnd_ends (d := s.cmd) hrd st hw, rel]
  · intro d
    refine run_after (f := (·.mbEnd c)) ?_
    rw [mbEnd_ends (d := s.cmd) hrd st hw, rel]
    rfl

end Sys2Proof.Machine
end

section
/-! SUPPORT. A step (spec 03, R80; 11, R303, R304): the front of the queue, else the cores' words, one tick and the parsers. -/
set_option Elab.async false
namespace Sys2Proof.Machine

theorem State.withDev_self (s : State) : s.withDev s.dev = s := rfl

/-- What a core's word leaves is a change of the block alone. -/
theorem State.coreGoes_ran {s t : State} {c : Fin 20} (on : s.dev.issues c = true) (due : (s.dev.core c).cyc ≤ (s.dev.now - (s.dev.core c).resetAt) / 2)
    (h : uluenFetch c s = .next t) : s.coreGoes c = s.withDev t.dev := by
  rw [State.coreGoes, if_neg (by simp [on]; omega), h]; rfl

theorem State.programs_idle {s : State} (h : ∀ c : Fin 20, s.dev.issues c = false) : s.programs = s := by
  have stays (l : List (Fin 20)) : l.foldl State.coreGoes s = s := by
    induction l with
    | nil => rfl
    | cons c l ih => rw [List.foldl_cons, State.coreGoes, if_pos (by simp [h]), ih]
  exact stays _

/-- Settles O56: a step by the queue, a core's word by its fetch. -/
theorem frontCommandRuns : Obligations.FrontCommandRuns := by
  refine ⟨fun s c => rfl, fun s c rest h => ?_, fun s h => ?_, fun s h => ?_, fun s t c => ?_, fun d => ⟨fun h => ?_, fun h => ?_⟩⟩
  · rw [step, h]
  · rw [step, h]
  · rw [State.idle, State.programs_idle h]; rfl
  · intro at_ w due
    refine ⟨fun h => ?_, fun on hd bad run => ?_, fun on hd ok lit bad run => ?_, fun on hd ok lit run => ?_⟩
    · refine if_pos ?_
      simpa [due, Decidable.or_iff_not_imp_left] using h
    · exact State.coreGoes_ran on hd ((if_pos bad).trans run)
    · have both : (hasLiteral w && s.dev.poisoned (at_ 1)) = true := by rw [lit, bad]; rfl
      exact State.coreGoes_ran on hd ((if_neg (ne_true_of_eq_false ok)).trans ((if_pos both).trans run))
    · have literal : ¬ (hasLiteral w && s.dev.poisoned (at_ 1)) = true := by
        cases hl : hasLiteral w with
        | false => simp
        | true => simp [lit hl]
      exact State.coreGoes_ran on hd ((if_neg (ne_true_of_eq_false ok)).trans ((if_neg literal).trans run))
  · rw [Dev.idle, h]
  · obtain ⟨c, l, e⟩ := List.exists_cons_of_ne_nil h
    rw [Dev.idle, e]

end Sys2Proof.Machine
end

section
/-! SUPPORT. Port options, the scrubber and PPS (spec 04, R117 to R121; 05, R123, R125, R135; 15, R421 to R427). -/
set_option Elab.async false
namespace Sys2Proof.Machine

/-! ### Port options -/

theorem Dev.iff_eq (d : Dev) (b : Bool) (f : Dev → Dev) : d.iff b f = if b then f d else d := rfl

theorem Dev.effect_portOption {d : Dev} {x : Desc} {key : Nat} {v : Int} {src : Option Src} {b : Bool} (h : x.eff = .portOption) :
    d.effect x key v src b = if bits key 7 0 = 11 && v.toNat ≠ 1 && v.toNat ≠ 3 then (d, some Stat.range)
      else atOnce (d.optionWrite (x.index key) (bits key 7 0 - 3) v.toNat) := by
  obtain ⟨base, stride, count, sub, el, els, ty, acc, dflt, lo, hi, alt, saved, eff⟩ := x
  subst h; rfl

/-- The row of a port option: one word from 0 up to its limit. -/
theorem portOption_row (p : Fin 96) (opt : Fin 9) : ∃ x : Desc, isRow (K.P_ETX_AN p + opt) x p 2 (0x20 * p) (3 + opt) ∧ x.eff = .portOption ∧ x.acc = .rw ∧
    (x.ty = .bool ∧ x.hi ≤ 1 ∨ x.ty = .u8 ∧ x.hi ≤ 255 ∨ x.ty = .u16 ∧ x.hi ≤ 65535 ∨ x.ty = .u24) ∧ x.lo = 0 ∧
    (([1, 2, 1, 3, 1, 3, 2, 2, 3].getD opt.val 0 : Nat) : Int) ≤ x.hi := by
  have base : 0 + 0x20 * p.val = 0x20 * p.val := Nat.zero_add _
  rw [← base]
  match opt with
  | ⟨0, _⟩ => exact ⟨_, key_P_ETX_AN p p.isLt, rfl, rfl, by decide, rfl, by decide +revert⟩
  | ⟨1, _⟩ => exact ⟨_, key_P_ETX_AN_1 p p.isLt, rfl, rfl, by decide, rfl, by decide +revert⟩
  | ⟨2, _⟩ => exact ⟨_, key_P_ETX_AN_2 p p.isLt, rfl, rfl, by decide, rfl, by decide +revert⟩
  | ⟨3, _⟩ => exact ⟨_, key_P_ETX_AN_3 p p.isLt, rfl, rfl, by decide, rfl, by decide +revert⟩
  | ⟨4, _⟩ => exact ⟨_, key_P_ETX_AN_4 p p.isLt, rfl, rfl, by decide, rfl, by decide +revert⟩
  | ⟨5, _⟩ => exact ⟨_, key_P_ETX_AN_5 p p.isLt, rfl, rfl, by decide, rfl, by decide +revert⟩
  | ⟨6, _⟩ => exact ⟨_, key_P_ETX_AN_6 p p.isLt, rfl, rfl, by decide, rfl, by decide +revert⟩
  | ⟨7, _⟩ => exact ⟨_, key_P_ETX_AN_7 p p.isLt, rfl, rfl, by decide, rfl, by decide +revert⟩
  | ⟨8, _⟩ => exact ⟨_, key_P_ETX_AN_8 p p.isLt, rfl, rfl, by decide, rfl, by decide +revert⟩
  | ⟨k + 9, h⟩ => exact absurd h (by omega)

/-- Settles O12: the effect of an option's row. -/
theorem portOptions : Obligations.PortOptions := by
  intro s r p opt v h hv h8 new d again
  obtain ⟨x, row, eff, acc, ty, lo, hi⟩ := portOption_row p opt
  have el : bits (K.P_ETX_AN p + opt) 7 0 = 3 + opt := row.2.2.2.2
  refine write_word (x := x) h row ty (by rw [acc]; rfl) (by rw [acc]; decide) (by simp) (by simp [acc]) ?_ ?_
  · rw [lo]; exact ⟨Int.natCast_nonneg _, by omega⟩
  · rw [Dev.effect_portOption eff, el, row.2.1, Int.toNat_natCast, if_neg, Nat.add_sub_cancel_left]
    · rfl
    · intro bad
      simp only [Bool.and_eq_true, decide_eq_true_eq] at bad
      obtain ⟨⟨e, n1⟩, n3⟩ := bad
      rcases h8 (by omega) with e | e
      · exact n1 e
      · exact n3 e

/-! ### The scrubber -/

/-- Settles O8: each outcome by its branch. -/
theorem memoryHealth : Obligations.MemoryHealth := by
  refine ⟨fun s mem unit addr hp on => ?_, fun s mem unit addr ms hp on hms => ?_, fun s r mem h => ?_⟩
  · have stands : ¬ ((placesOf mem unit addr).isEmpty || !s.cmd.memOn mem unit) = true := by simp [on, hp]
    intro d
    refine ⟨run_after (f := (·.scrub mem unit addr 0 none)) (if_neg stands), fun clean => ⟨run_after (f := (·.scrub mem unit addr 1 none)) ?_,
      run_after (f := (·.scrub mem unit addr 2 none)) ?_, run_after (f := (·.scrub mem unit addr 3 none)) ?_⟩⟩
    · have clean' : ¬ (decide (1 = 0) || d.isPoisoned mem addr (placesOf mem unit addr)) = true := by
        simpa using show d.isPoisoned mem addr (placesOf mem unit addr) = false from clean
      exact (if_neg stands).trans (if_neg clean')
    · have clean' : ¬ (decide (2 = 0) || d.isPoisoned mem addr (placesOf mem unit addr)) = true := by
        simpa using show d.isPoisoned mem addr (placesOf mem unit addr) = false from clean
      exact (if_neg stands).trans (if_neg clean')
    · have clean' : ¬ (decide (3 = 0) || s.cmd.isPoisoned mem addr (placesOf mem unit addr)) = true := by simpa using clean
      exact (if_neg stands).trans (if_neg clean')
  · have stands : ¬ ((placesOf mem unit addr).isEmpty || !s.cmd.memOn mem unit) = true := by simp [on, hp]
    refine run_after (f := (·.scrub mem unit addr 0 (some ms))) ((if_neg stands).trans ((if_neg (Nat.not_lt.mpr hms)).trans ?_))
    rw [Nat.min_eq_left (by omega)]; rfl
  · refine write_word h (key_ECC_CLEAR mem mem.isLt) (by simp) rfl (by decide) (by simp) (by simp) (by decide) ?_
    show did (Dev.zero _ [K.ECC_CORRECTED (Desc.index _ _), K.ECC_UNCORRECTED (Desc.index _ _)]) = _
    rw [(key_ECC_CLEAR mem mem.isLt).2.1]
    rfl

end Sys2Proof.Machine
end

section
/-! SUPPORT. PPS (spec 15, R421 to R427). -/
set_option Elab.async false
namespace Sys2Proof.Machine

theorem Dev.modPps_modPps (d : Dev) (i : Nat) (f g : PpsIn → PpsIn) : (d.modPps i f).modPps i g = d.modPps i fun p => g (f p) := by
  simp only [Dev.modPps, List.modify_modify_eq]
  rfl

theorem Dev.ppsIn_modPps {d : Dev} {i : Nat} (f : PpsIn → PpsIn) (h : i < d.time.ppsIn.length) : (d.modPps i f).ppsIn i = f (d.ppsIn i) := by
  simp [Dev.ppsIn, Dev.modPps, h]

theorem Dev.ppsSync_none {d : Dev} {i : Nat} (phase : Nat) (h : d.obn (K.PPS_IN_DISC i) = 0xFF) : d.ppsSync i phase = d := by
  rw [Dev.ppsSync, h]
  exact if_pos (by simp)

theorem ppsRead_pops {d : Dev} {c : Nat} {i : Fin 4} (h : c = d.roleOf 3) : d.loadWord c (0x304080 + 16 * i) = ((d.ppsPop i).1, (d.ppsPop i).2, Stat.done) := by
  obtain ⟨i, hi⟩ := i
  have o : 0x304080 + 16 * i - 0x300000 = 0x4080 + 16 * i := by omega
  have shared : isShared (0x304080 + 16 * i) = false := by simp [isShared]; omega
  have block : isBlock (0x304080 + 16 * i) = true := by simp [isBlock]; omega
  have reads : d.blockRead c (0x304080 + 16 * i) = ((d.ppsRead c i 0).1, (d.ppsRead c i 0).2, Stat.done) := by
    simp only [Dev.blockRead, o]
    iterate 5 rw [if_neg (by simp <;> omega)]
    rw [if_pos (by simp; omega), show (0x4080 + 16 * i - 0x4080) / 16 = i by omega, show (0x4080 + 16 * i) % 16 = 0 by omega]
  rw [Dev.loadWord, if_neg (by omega), if_neg (by omega), shared, block, if_neg (by decide), if_pos rfl, reads, Dev.ppsRead, if_pos rfl, if_pos h]

/-- An edge at an input whose queue holds one to three records, and which disciplines no base. -/
theorem ppsEdge_captures {d : Dev} {i : Nat} {rising : Bool} {phase : Nat} (on : d.domOn 2 = true) (edge : rising ≠ d.obb (K.PPS_IN_EDGE i))
    (late : ∀ t, (d.ppsIn i).lastAt = some t → t + 1000 ≤ d.now) (room : (d.ppsIn i).fifo.length < 4) (some_ : (d.ppsIn i).fifo ≠ [])
    (len : i < d.time.ppsIn.length) :
    let ns := d.captureNs (d.obn (K.PPS_IN_TB i)) phase
    let e := (d.setOb (K.PPS_IN_LAST i) (ns : Nat)).setOb (K.PPS_IN_COUNT i) (((d.setOb (K.PPS_IN_LAST i) (ns : Nat)).obn (K.PPS_IN_COUNT i) + 1) % 2 ^ 24 : Nat)
    e.obn (K.PPS_IN_DISC i) = 0xFF →
    d.ppsEdge i rising phase = e.modPps i fun p => { p with lastAt := some d.now, fifo := p.fifo ++ [(ns, d.now)] } := by
  intro ns e free
  have takes : ¬ (!d.domOn 2 || rising == d.obb (K.PPS_IN_EDGE i) || match (d.ppsIn i).lastAt with
      | some t => decide (d.now < t + 1000)
      | none => false) = true := by
    cases h : (d.ppsIn i).lastAt with
    | none => simp [on, edge]
    | some t => simpa [on, edge] using late t h
  have apart : K.PPS_IN_COUNT i ≠ K.PPS_IN_LAST i := by unfold K.PPS_IN_COUNT K.PPS_IN_LAST; omega
  have count : (d.setOb (K.PPS_IN_LAST i) (ns : Nat)).obn (K.PPS_IN_COUNT i) = d.obn (K.PPS_IN_COUNT i) := Dev.obn_setOb_other _ _ _ _ apart
  have queue : ((e.modPps i fun p => { p with lastAt := some d.now }).ppsIn i).fifo = (d.ppsIn i).fifo := by rw [Dev.ppsIn_modPps (d := e) _ len]; rfl
  have stands : (d.ppsIn i).fifo.length ≠ 0 := fun h => some_ (List.length_eq_zero_iff.mp h)
  refine (if_neg takes).trans ?_
  rw [← count]
  show Dev.ppsSync (if 4 ≤ ((e.modPps i fun p => { p with lastAt := some d.now }).ppsIn i).fifo.length then _ else _) i phase = _
  rw [queue, if_neg (Nat.not_le.mpr room), Dev.iff_eq, if_neg (by simp [stands]), Dev.modPps_modPps]
  exact Dev.ppsSync_none phase free

/-- An output turns at an instant of a base. -/
def Dev.ppsTurn (d : Dev) (i n at_ : Nat) (v : Bool) : Dev :=
  let e := d.upToOn n at_
  ({ e with time := { e.time with ppsHigh := e.time.ppsHigh.set i v } }).emit (.pps i v)

theorem Dev.ppsOut_eq (d : Dev) (i : Nat) : d.ppsOut i =
    if !d.domOn 2 || !d.obb (K.PPS_OUT_EN i) then d else
    let n := d.obn (K.PPS_OUT_TB i)
    let per := max (d.obn (K.PPS_OUT_PERIOD i)) 1
    let ph := d.obn (K.PPS_OUT_PHASE i)
    let t := d.tbNs n
    let high := (d.time.ppsHigh[i]?).getD false
    d.ppsTurn i n (if high then (if t < ph then ph else ph + (t - ph) / per * per) + d.obn (K.PPS_OUT_WIDTH i)
      else if t ≤ ph then ph else ph + (t - ph + per - 1) / per * per) !high := rfl

/-- An output that is high falls at the end of its pulse. -/
theorem ppsOut_falls {d : Dev} {i per ph t : Nat} (on : d.domOn 2 = true) (en : d.obb (K.PPS_OUT_EN i) = true) (high : (d.time.ppsHigh[i]?).getD false = true)
    (hper : max (d.obn (K.PPS_OUT_PERIOD i)) 1 = per) (hph : d.obn (K.PPS_OUT_PHASE i) = ph) (ht : d.tbNs (d.obn (K.PPS_OUT_TB i)) = t) (le : ph ≤ t) :
    d.ppsOut i = d.ppsTurn i (d.obn (K.PPS_OUT_TB i)) (ph + (t - ph) / per * per + d.obn (K.PPS_OUT_WIDTH i)) false := by
  rw [Dev.ppsOut_eq, if_neg (by simp [on, en])]
  dsimp only
  rw [high, hper, hph, ht, if_pos rfl, if_neg (Nat.not_lt.mpr le), Bool.not_true]

theorem ppsLoad_pops {d : Dev} {c : Nat} {i : Fin 4} {a b : Nat} {l : List (Nat × Nat)} (hc : c < 20) (run : d.coreRuns c = true) (role : c = d.roleOf 3)
    (rec : (d.ppsIn i).fifo = (a, b) :: l) : d.agentLoad c (0x304080 + 16 * i) =
      (d.modPps i fun p => { p with fifo := l, latched := t80Words a ++ t80Words b }).emit (.coreRead c (2 ^ 23 + l.length)) := by
  have popped : d.ppsPop i = (d.modPps i fun p => { p with fifo := l, latched := t80Words a ++ t80Words b }, 2 ^ 23 + l.length) := by rw [Dev.ppsPop, rec]
  rw [Dev.agentLoad, if_neg (by omega), Dev.coreLoadAt, if_neg (by simp [run]), ppsRead_pops role, popped]
  exact if_pos rfl

theorem ppsOutEdge_turns {s : State} {i : Fin 4} {n at_ : Nat} (h : s.cmd.ppsOut i = s.cmd.ppsTurn i n at_ false) :
    let d := s.cmd.upToOn n at_
    exec (.ppsOutEdge i) s = .next (s.after (({ d with time := { d.time with ppsHigh := d.time.ppsHigh.set i false } }).emit (.pps i false))) :=
  run_after (f := (·.ppsOut i)) h

/-- Settles O48: an edge at an input, an output's edge, and a pop. -/
theorem ppsCommands : Obligations.PpsCommands := by
  refine ⟨fun s i rising phase on edge late free room some_ => ?_, fun s i on en high => ?_, fun s c i a b l hc run on role rec => ?_⟩
  · intro ns d len disc
    exact run_after (f := (·.ppsEdge i rising phase)) (ppsEdge_captures on edge late room some_ len disc)
  · intro per ph t le
    exact ppsOutEdge_turns (ppsOut_falls on en high rfl rfl rfl le)
  · exact run_after (f := (·.agentLoad c (0x304080 + 16 * i))) (ppsLoad_pops hc run role rec)

end Sys2Proof.Machine
end

section
/-! SUPPORT. What the host's accesses do (spec 03, R89, R90; 04, R109 to R111; 18, R491). -/
set_option Elab.async false
namespace Sys2Proof.Machine

/-- A whole word replaces what stood. -/
theorem merge_whole (old : Nat) {v : Nat} (hv : v < 2 ^ 24) : merge old v 15 3 = v := by
  have lanes : (List.range 3) = [0, 1, 2] := rfl
  simp only [merge, lanes, List.foldl_cons, List.foldl_nil, show Nat.testBit 15 0 = true from rfl, show Nat.testBit 15 1 = true from rfl,
    show Nat.testBit 15 2 = true from rfl, if_true, putBits, bits, Nat.shiftRight_eq_div_pow]
  omega

/-- A write of one whole word, with the outcome of its lane. -/
theorem hostWrite_word {d e : Dev} {bar : Bar} {a v : Nat} {w : BitVec 32} (up : d.host.linkUp = true) (word : a % 4 = 0) (hw : w.toNat = v)
    (put : d.laneWrite bar a v 15 = (e, false)) : d.hostWrite bar a [(w, 0xF)] = e := by
  have at_ : a / 4 * 4 + 4 * 0 = a := by omega
  have lanes : [(w, (0xF : BitVec 4))].zip (List.range [(w, (0xF : BitVec 4))].length) = [((w, 0xF), 0)] := rfl
  have all : (0xF : BitVec 4).toNat = 15 := rfl
  rw [Dev.hostWrite, if_neg (by simp [up]), lanes]
  simp only [List.foldl_cons, List.foldl_nil, at_, hw, all, put, Bool.or_self]
  exact if_neg (by simp)

/-- A whole word of BAR0 outside the vectors goes to its register. -/
theorem hostPut_bar0 {d : Dev} {a v : Nat} (up : d.host.linkUp = true) (low : a < 0x2000) (word : a % 4 = 0) (hv : v < 2 ^ 24) :
    d.hostPut .bar0 a v = d.bar0Write a v := by
  have lane : laneAddr .bar0 a = some a := if_pos (by omega)
  have vec : ¬ (decide (0x2000 ≤ a) && decide (a < 0x2200)) = true := by simp; omega
  refine hostWrite_word (v := v) up word (by rw [BitVec.toNat_ofNat]; omega) ?_
  unfold Dev.laneWrite
  rw [lane]
  dsimp only
  rw [if_neg vec, if_neg (by decide), merge_whole _ hv]

theorem hostWrite_bar2 {d d' : Dev} {a : Nat} {v : BitVec 32} (up : d.host.linkUp = true) (ha : a < 0x10000) (hv : v.toNat < 2 ^ 24)
    (put : d.bar4Write (0x40000 + a) v.toNat = (d', Stat.done)) : d.hostWrite .bar2 (4 * a) [(v, 0xF)] = d' := by
  have lane : laneAddr .bar2 (4 * a) = some (0x40000 + a) := by
    rw [laneAddr, if_pos (by omega), Nat.mul_div_cancel_left _ (by decide)]
  have shared : isShared (0x40000 + a) = true := by simp [isShared]; omega
  refine hostWrite_word up (by omega) rfl ?_
  unfold Dev.laneWrite
  rw [lane]
  dsimp only
  rw [if_pos rfl, if_neg (by decide), if_neg (by decide), if_neg (by rw [show (bits 15 2 0 == 7) = true from rfl]; simp), if_pos shared, merge_whole _ hv]
  have iff_false : d.iff (isShared (0x40000 + a) && !(bits 15 2 0 == 7)) (fun d => d.recReady (0x40000 + a)) = d := by
    rw [Dev.iff_eq, if_neg (by simp [bits])]
  rw [iff_false, put]
  rfl

theorem hostRead_bar2 {d d' : Dev} {a v : Nat} (up : d.host.linkUp = true) (ha : a < 0x10000) (get : d.bar4Read (0x40000 + a) = (d', v, Stat.done)) :
    d.hostRead .bar2 (4 * a) 1 = d'.emit (.hostData [v]) := by
  have lane : laneAddr .bar2 (4 * a) = some (0x40000 + a) := by
    rw [laneAddr, if_pos (by omega), Nat.mul_div_cancel_left _ (by decide)]
  have at_ : 4 * a / 4 * 4 + 4 * 0 = 4 * a := by omega
  have read : d.laneRead .bar2 (4 * a) = (d', v, false) := by
    unfold Dev.laneRead
    rw [lane]
    dsimp only
    rw [if_pos rfl, if_neg (by decide), get]
    rfl
  rw [Dev.hostRead, if_neg (by simp [up])]
  show Dev.emit (Dev.hostRefusal (d.laneRead .bar2 (4 * a / 4 * 4 + 4 * 0)).1 (false || (d.laneRead .bar2 (4 * a / 4 * 4 + 4 * 0)).2.2))
    (.hostData [(d.laneRead .bar2 (4 * a / 4 * 4 + 4 * 0)).2.1]) = _
  rw [at_, read]
  exact congrArg (fun d => Dev.emit d (.hostData [v])) (if_neg (by simp))

theorem Dev.quickCtrl_free {d : Dev} {op : Nat} (free : d.dict.quick.busy = false) (hop : op ≠ 0) :
    d.quickCtrl op = d.modQuick fun q => { q with op := op, busy := true } := by
  rw [Dev.quickCtrl, if_neg (by simp [free]), if_neg hop]

/-- Settles O7: each access by its register or its word. -/
theorem hostAccesses : Obligations.HostAccesses := by
  refine ⟨fun s up free => ⟨?_, ?_, ?_⟩, fun s up busy => ?_, fun s up => ⟨?_, ?_⟩, fun s a d' v up ha get => ?_, fun s a v d' up ha hv put => ?_,
    fun s bar ofs n l down => ⟨?_, ?_⟩⟩
  · exact run_after (f := (·.hostPut .bar0 0x80C 1)) ((hostPut_bar0 up (by decide) (by decide) (by decide)).trans (Dev.quickCtrl_free free (by decide)))
  · exact run_after (f := (·.hostPut .bar0 0x80C 2)) ((hostPut_bar0 up (by decide) (by decide) (by decide)).trans (Dev.quickCtrl_free free (by decide)))
  · exact run_after (f := (·.hostPut .bar0 0x80C 3)) ((hostPut_bar0 up (by decide) (by decide) (by decide)).trans (Dev.quickCtrl_free free (by decide)))
  · exact run_after (f := (·.hostPut .bar0 0x80C 1)) ((hostPut_bar0 up (by decide) (by decide) (by decide)).trans (if_pos busy))
  · exact run_after (f := (·.hostPut .bar0 0x810 0x400000)) ((hostPut_bar0 up (by decide) (by decide) (by decide)).trans rfl)
  · exact run_after (f := (·.hostPut .bar0 0x580 1)) ((hostPut_bar0 up (by decide) (by decide) (by decide)).trans rfl)
  · exact run_after (f := (·.hostRead .bar2 (4 * a) 1)) (hostRead_bar2 up ha get)
  · exact run_after (f := (·.hostWrite .bar2 (4 * a) [(v, 0xF)])) (hostWrite_bar2 up ha hv put)
  · exact run_after (f := (·.hostRead bar ofs n)) (by rw [Dev.hostRead, if_pos (by simp [down])])
  · exact run_after (f := (·.hostWrite bar ofs l)) (by rw [Dev.hostWrite, if_pos (by simp [down])])

end Sys2Proof.Machine
end

section
/-! SUPPORT. The reads of the dictionary (spec 03, R75, R76; 14, R394). -/
set_option Elab.async false
namespace Sys2Proof.Machine

theorem Dev.readKey_done {d : Dev} {via : Via} {key : Nat} {x : Desc} (free : d.barred via key = false) (hx : d.desc key = some x)
    (check : d.readCheck via x key = Stat.done) (clean : d.atticPoisoned key = false) (words : x.ty.words ≠ 0) :
    d.readKey via key = (Stat.done, d.wordsAt x key) := by
  rw [Dev.readKey, if_neg (by simp [free]), hx]
  dsimp only
  rw [if_neg (Classical.not_not.mpr check), if_neg (by simp [clean]), if_neg words]

theorem Dev.opRead_done {d : Dev} {r : Src} {key : Nat} {w : List Nat} (h : d.readKey r.via key = (Stat.done, w)) (short : r.via = .quick → w.length ≤ 2) :
    d.opRead r key = { status := Stat.done, data := w, reads := true } := by
  rw [Dev.opRead, h]
  refine if_neg ?_
  simp only [Bool.and_eq_true, decide_eq_true_eq]
  rintro ⟨q, long⟩
  have := short q
  omega

theorem Dev.multiRead_done {d : Dev} {via : Via} {f : Nat → List Nat} (keys : List Nat) (i : Nat) (acc : List Nat)
    (h : ∀ k ∈ keys, d.readKey via k = (Stat.done, f k)) :
    d.multiRead via keys i acc = { status := Stat.done, data := acc ++ keys.flatMap f, reads := true } := by
  induction keys generalizing i acc with
  | nil => simp [Dev.multiRead]
  | cons k keys ih =>
    rw [Dev.multiRead, h k (List.mem_cons_self ..)]
    refine (ih _ _ fun j hj => h j (List.mem_cons_of_mem _ hj)).trans ?_
    rw [List.append_assoc]
    rfl

theorem Dev.sigEntries_done {d : Dev} (n k i : Nat) (acc : List Nat) (h : ∀ j, i ≤ j → j < i + k → d.entryPoisoned (n + j) = false) :
    d.sigEntries n k i acc =
      { status := Stat.done, data := acc ++ (List.range' i k).flatMap fun j => d.ldAll (sigAddr (n + j) 0) 4, reads := true } := by
  induction k generalizing i acc with
  | zero => simp [Dev.sigEntries]
  | succ k ih =>
    rw [Dev.sigEntries, if_neg (by simp [h i (Nat.le_refl _) (by omega)]), ih _ _ fun j hi hj => h j (by omega) (by omega), List.range'_succ, List.append_assoc]
    rfl

theorem Dev.opGet_done {d : Dev} {r : Src} {key ofs n m : Nat} {x : Desc} (free : d.barred r.via key = false) (hx : d.desc key = some x)
    (check : d.readCheck r.via x key = Stat.done) (dom : x.ty = .dom m) (h1 : 1 ≤ bits n 7 0) (h174 : bits n 7 0 ≤ 174)
    (start : ofs ≤ (d.readDom key).length) : let l := ((d.readDom key).drop ofs).take (bits n 7 0)
    d.opGet r key ofs [n] = 
      { status := Stat.done, reads := true,
        data := ((if (d.readDom key).length ≤ ofs + bits n 7 0 then 2 ^ 23 else 0) + l.length) :: wordsOf l } := by
  intro l
  rw [Dev.opGet, if_neg (by simp [free]), hx]
  dsimp only
  rw [if_neg (Classical.not_not.mpr check), dom, if_neg (by simp)]
  refine if_neg ?_
  simp only [List.getD_cons_zero, Bool.or_eq_true, decide_eq_true_eq]
  omega

/-- Settles O4: each read by its operation. -/
theorem dictionaryReads : Obligations.DictionaryReads := by
  refine ⟨fun s r key x h => ?_, fun s r keys f some_ h => ?_, fun s r sig count h => ?_, fun s r key ofs n x m h => ?_⟩
  · intro d free hx check clean words short
    refine request_takes h ?_
    show (d, some (d.opRead r key.toNat)) = _
    rw [Dev.opRead_done (Dev.readKey_done free hx check clean words) short]
  · intro d each long
    have keyed : ∀ k ∈ natsOf keys, d.readKey r.via k = (Stat.done, f k) := by
      intro k hk
      obtain ⟨w, hw, rfl⟩ := List.mem_map.mp hk
      exact each w hw
    have data : (natsOf keys).flatMap f = keys.flatMap fun k => f k.toNat := List.flatMap_map ..
    refine request_takes h ?_
    show (d, some (d.opReadMulti r (natsOf keys))) = _
    rw [Dev.opReadMulti, if_neg (by simpa [natsOf] using some_)]
    dsimp only
    rw [Dev.multiRead_done _ _ _ keyed, List.nil_append, data, if_neg (by simpa using long)]
  · intro d free lo hi last clean
    refine request_takes h ?_
    show (d, some (d.opSigRead r sig.toNat count.toNat)) = _
    rw [Dev.opSigRead, if_neg (by simp [free]), if_neg (by simp; omega), Dev.sigEntries_done _ _ _ _ fun j _ hj => clean j (by omega), List.nil_append,
      List.range_eq_range']
  · intro d len free hx check dom lo hi start l
    refine request_takes h ?_
    show (d, some (d.opGet r key.toNat ofs.toNat [n.toNat])) = _
    rw [Dev.opGet_done free hx check dom lo hi start]

end Sys2Proof.Machine
end

section
/-! SUPPORT. Writes of a time base from the dictionary (spec 15, R411 to R428; 20, R563). -/
set_option Elab.async false
namespace Sys2Proof.Machine

/-- A base that none disciplines takes what the dictionary writes (R426). -/
theorem Dev.tbDict_free {d : Dev} {n : Nat} {f : Dev → Dev × Nat} (hn : n ≠ 0) (free : d.disciplines n = 0) : d.tbDict n f = f d := by
  rw [Dev.tbDict, if_neg hn, if_neg (by simp [free])]

/-- A row of a base past T0's stands past the objects that R428 denies. -/
theorem base_row {n : Fin 8} (hn : n ≠ 0) : ¬ (0x9 = 9 ∧ 0x0 + 0x10 * n.val < 0x10) := by
  have : n.val ≠ 0 := fun e => hn (Fin.ext e)
  omega

theorem hiLo_number (v : BitVec 48) : v.toNat / 2 ^ 24 * 2 ^ 24 + v.toNat % 2 ^ 24 = v.toNat := Nat.div_add_mod' _ _

theorem tbIncr_writes {s : State} {r : Src} {n : Fin 8} {v : BitVec 48} (hn : n ≠ 0) (h : s.opens r (K.TB_INCR n) (hiLo v) 1 = true)
    (free : (s.taken r 2 (K.TB_INCR n) 0 (hiLo v)).disciplines n = 0) (lo : 0x00FFBE76C9 ≤ v.toNat) (hi : v.toNat ≤ 0x0100418937) :
    exec (.tbIncrWrite r n v) s =
      .next (s.wrote r (K.TB_INCR n) (hiLo v) ((s.taken r 2 (K.TB_INCR n) 0 (hiLo v)).event.modTb n fun b => { b with incr := v.toNat })) := by
  have hn' : n.val ≠ 0 := fun e => hn (Fin.ext e)
  have decodes : Ty.decode .u48 (hiLo v) = some ((v.toNat : Nat) : Int) := by rw [← hiLo_number v]; rfl
  refine write_row h (key_TB_INCR n n.isLt) rfl (by decide) (base_row hn) (by simp) rfl (by decide) decodes ⟨by simp, by simp; omega⟩ ?_
  show atOnce (Dev.tbDict _ (Desc.index _ _) _) = _
  rw [(key_TB_INCR n n.isLt).2.1, Dev.tbDict_free hn' free, Int.toNat_natCast, Dev.tbIncr, if_pos (by simp [incrOk, lo, hi])]
  rfl

theorem tbOffset_writes {s : State} {r : Src} {n : Fin 8} {v : BitVec 48} (hn : n ≠ 0) (h : s.opens r (K.TB_OFFSET n) (hiLo v) 1 = true) :
    let d := s.taken r 2 (K.TB_OFFSET n) 0 (hiLo v)
    d.disciplines n = 0 → 2 * ((d.tb n).slewLeft + v.toInt * 2 ^ 32).natAbs ≤ d.obn (K.TB_SLEW_TICKS n) * 2 ^ 32 →
    exec (.tbOffsetWrite r n v) s = .next (s.wrote r (K.TB_OFFSET n) (hiLo v) (d.startSlew n v.toInt)) := by
  intro d free fits
  have hn' : n.val ≠ 0 := fun e => hn (Fin.ext e)
  have decodes : Ty.decode .s48 (hiLo v) = some v.toInt := by
    rw [← sext_toNat (by decide) v]
    exact congrArg (fun k => some (sext 48 k)) (hiLo_number v)
  have lo := BitVec.le_toInt v
  have hi := BitVec.toInt_lt (x := v)
  refine write_row h (key_TB_OFFSET n n.isLt) rfl (by decide) (base_row hn) (by simp) rfl (by decide) decodes ⟨by simpa using lo, by simp; omega⟩ ?_
  show atOnce (Dev.tbDict _ (Desc.index _ _) _) = _
  rw [(key_TB_OFFSET n n.isLt).2.1, Dev.tbDict_free hn' free, Dev.tbOffset, if_pos (show d.offsetOk n v.toInt = true from decide_eq_true fits)]
  rfl

theorem tbSet_row {n : Fin 8} {d : Dev} {src : Option Src} (ns : Nat) (hn : n ≠ 0) (free : d.disciplines n = 0) :
    d.effect ⟨0x0, 0x10, 8, 1, 0x4, 1, .t80, .w, 0, 0, 1208925819614629174706175, none, false, .tbSet⟩ (K.TB_SET n) (ns : Int) src true =
      atOnce (d.tbSet n ns) := by
  have hn' : n.val ≠ 0 := fun e => hn (Fin.ext e)
  show atOnce (Dev.tbDict _ (Desc.index _ _) _) = _
  rw [(key_TB_SET n n.isLt).2.1, Dev.tbDict_free hn' free, Int.toNat_natCast]

theorem tbSet_writes {s : State} {r : Src} {n : Fin 8} {w0 w1 w2 w3 : Word} (hn : n ≠ 0) :
    let w := [w0.toNat, w1.toNat, w2.toNat, w3.toNat]
    s.opens r (K.TB_SET n) w 1 = true → w2.toNat < 256 → w2.toNat * 2 ^ 24 + w3.toNat < 1000000000 →
    let d := s.taken r 2 (K.TB_SET n) 0 w
    let ns := (w0.toNat * 2 ^ 24 + w1.toNat) * 1000000000 + (w2.toNat * 2 ^ 24 + w3.toNat)
    d.disciplines n = 0 →
    ((d.tb n).state ≠ 0 ∨ d.schedules n = 0 → exec (.tbSetWrite r n w0 w1 w2 w3) s = .next (s.wrote r (K.TB_SET n) w (d.stepTb n ns))) ∧
    ((d.tb n).state = 0 → d.schedules n ≠ 0 →
      exec (.tbSetWrite r n w0 w1 w2 w3) s = .next (s.answers r 2 (K.TB_SET n) 0 w d (ans Stat.busy))) := by
  intro w h high sub d ns free
  have b0 := w0.isLt
  have b1 := w1.isLt
  have low : bits w2.toNat 7 0 = w2.toNat := Nat.mod_eq_of_lt high
  have decodes : Ty.decode .t80 w = some ((ns : Nat) : Int) := by
    show (if bits w2.toNat 7 0 * 2 ^ 24 + w3.toNat < 1000000000 then some _ else none) = _
    rw [low, if_pos sub]
    show some (((w0.toNat * 2 ^ 24 + w1.toNat) * 1000000000 + (bits w2.toNat 7 0 * 2 ^ 24 + w3.toNat) : Nat) : Int) = _
    rw [low]
  have bound : (ns : Int) ≤ 1208925819614629174706175 := by
    have : ns ≤ 1208925819614629174706175 := by simp only [ns]; omega
    omega
  refine ⟨fun open_ => ?_, fun busy some_ => ?_⟩
  · refine write_row h (key_TB_SET n n.isLt) rfl (by decide) (base_row hn) (by simp) rfl (by decide) decodes ⟨Int.natCast_nonneg _, bound⟩ ?_
    rw [tbSet_row ns hn free, Dev.tbSet, if_neg (by rcases open_ with h | h <;> simp [h])]
    rfl
  · refine write_refused h (key_TB_SET n n.isLt) rfl (by decide) (base_row hn) (by simp) rfl (by decide) decodes ?_ ?_ (by decide)
    · simp only [Desc.allows, Bool.or_eq_true, Bool.and_eq_true, decide_eq_true_eq]
      exact .inl ⟨Int.natCast_nonneg _, bound⟩
    · rw [tbSet_row ns hn free, Dev.tbSet, if_pos (by simp [busy, some_])]
      rfl

theorem tbSynced_row {n : Fin 8} {d : Dev} {src : Option Src} (v : Nat) :
    d.effect ⟨0x0, 0x10, 8, 1, 0x9, 1, .bool, .rw, 0, 0, 1, none, false, .tbSynced⟩ (K.TB_SYNCED n) (v : Int) src true =
      atOnce (d.tbDict n fun d => (d.setSynced n (v != 0), Stat.done)) := by
  show atOnce (Dev.tbDict _ (Desc.index _ _) _) = _
  rw [(key_TB_SYNCED n n.isLt).2.1, Int.toNat_natCast]

/-- T0's objects are not written (R428). -/
theorem opWrite_T0 {d : Dev} {r : Src} {v : Nat} (free : d.barred r.via (K.TB_SYNCED 0) = false) :
    d.opWrite r (K.TB_SYNCED 0) [v] = (d, some (ans Stat.denied)) := by
  have row := key_TB_SYNCED 0 (by decide)
  have check : d.writeCheck r.via ⟨0x0, 0x10, 8, 1, 0x9, 1, .bool, .rw, 0, 0, 1, none, false, .tbSynced⟩ (K.TB_SYNCED 0) = Stat.denied :=
    if_pos (by simp [row.2.2.1, row.2.2.2.1])
  have value : d.valueOf r.via (K.TB_SYNCED 0) [v] = (⟨0x0, 0x10, 8, 1, 0x9, 1, .bool, .rw, 0, 0, 1, none, false, .tbSynced⟩, 0, Stat.denied) := by
    rw [Dev.valueOf, Dev.desc, row.1]
    dsimp only
    rw [check, if_pos (by decide)]
    rfl
  rw [Dev.opWrite, if_neg (by simp [free]), value]
  rfl

theorem State.opens_unbarred {s : State} {r : Src} {key level : Nat} {w : List Nat} (h : s.opens r key w level = true) :
    (s.taken r 2 key 0 w).barred r.via key = false := by
  simp only [State.opens, Bool.and_eq_true, Bool.not_eq_true'] at h
  exact h.1.2

theorem tbSynced_refused {s : State} {r : Src} {n : Fin 8} {v : Word} (hv : v.toNat ≤ 1) (h : s.opens r (K.TB_SYNCED n) [v.toNat] 1 = true)
    (hn : n ≠ 0) (taken : (s.taken r 2 (K.TB_SYNCED n) 0 [v.toNat]).disciplines n ≠ 0) :
    exec (.tbSyncedWrite r n v) s = .next (s.answers r 2 (K.TB_SYNCED n) 0 [v.toNat] (s.taken r 2 (K.TB_SYNCED n) 0 [v.toNat]) (ans Stat.busy)) := by
  refine write_refused h (key_TB_SYNCED n n.isLt) rfl (by decide) (base_row hn) (by simp) rfl (by decide) (show Ty.decode .bool [v.toNat] = some ((v.toNat : Nat) : Int) from if_pos hv)
    (by simp [Desc.allows]; omega) ?_ (by decide)
  rw [tbSynced_row, Dev.tbDict, if_neg (show ¬ n.val = 0 from fun e => hn (Fin.ext e)), if_pos (by simpa using taken), if_neg (show ¬ Stat.done = Stat.range by decide)]
  rfl

theorem tbSynced_writes {s : State} {r : Src} {n : Fin 8} {v : Word} (hv : v.toNat ≤ 1) (h : s.opens r (K.TB_SYNCED n) [v.toNat] 1 = true)
    (hn : n ≠ 0) (free : (s.taken r 2 (K.TB_SYNCED n) 0 [v.toNat]).disciplines n = 0) :
    exec (.tbSyncedWrite r n v) s =
      .next (s.wrote r (K.TB_SYNCED n) [v.toNat] ((s.taken r 2 (K.TB_SYNCED n) 0 [v.toNat]).setSynced n (v.toNat != 0))) := by
  refine write_row h (key_TB_SYNCED n n.isLt) rfl (by decide) (base_row hn) (by simp) rfl (by decide) (show Ty.decode .bool [v.toNat] = some ((v.toNat : Nat) : Int) from if_pos hv)
    ⟨Int.natCast_nonneg _, Int.ofNat_le.mpr hv⟩ ?_
  rw [tbSynced_row, Dev.tbDict_free (fun e => hn (Fin.ext e)) free]
  rfl

/-- A write that names an agent: refused where the base would have two (R563). -/
theorem Dev.discWrite_eq {d : Dev} {which : Discipline} {v : Nat} (hw : which ≠ .tbDiscCtx 0) (hv : discBase which v = some v) :
    d.discWrite which v true = match d.discNames which v with
      | some n => if 1 < (d.event.discPut which v).disciplines n then (d, Stat.busy) else (d.event.discPut which v, Stat.done)
      | none => (d.event.discPut which v, Stat.done) := by
  unfold Dev.discWrite
  rw [hv]
  split
  · exact absurd rfl hw
  · rename_i e; cases e
  · rename_i e; cases e; simp only [Bool.true_and, decide_eq_true_eq] <;> rfl

/-- The row of an object that names an agent. -/
theorem discipline_row {which : Discipline} {v : Nat} (hw : which ≠ .tbDiscCtx 0) (hv : discBase which v = some v) :
    ∃ x i a o e, isRow (discKey which) x i a o e ∧ levelOf a x.acc = 2 ∧ x.acc = .rwh ∧ ¬ (a = 9 ∧ o < 0x10) ∧ x.ty.words = 1 ∧
      x.ty.decode [v] = some (v : Int) ∧ x.allows v = true ∧ ∀ d src, Dev.effect d x (discKey which) v src true = atOnce (d.discWrite which v true) := by
  cases which with
  | asEnable =>
    have hv' : v ≤ 1 := Classical.byContradiction fun h => by simp [discBase, h] at hv
    exact ⟨_, _, _, _, _, key_AS_ENABLE, rfl, rfl, by decide, rfl, if_pos hv', by simp [Desc.allows]; omega, fun d src => by
      show atOnce (d.discWrite (if bits K.AS_ENABLE 7 0 = 0 then .asEnable else .asTb) (Int.toNat v) true) = _
      rw [key_AS_ENABLE.2.2.2.2, if_pos rfl, Int.toNat_natCast]⟩
  | asTb =>
    have hv' : 1 ≤ v ∧ v ≤ 7 := Classical.byContradiction fun h => by simp [discBase, h] at hv
    exact ⟨_, _, _, _, _, key_AS_TB, rfl, rfl, by decide, rfl, if_pos (show v < 256 by omega), by simp [Desc.allows]; omega, fun d src => by
      show atOnce (d.discWrite (if bits K.AS_TB 7 0 = 0 then .asEnable else .asTb) (Int.toNat v) true) = _
      rw [key_AS_TB.2.2.2.2, if_neg (by decide), Int.toNat_natCast]⟩
  | ppsInDisc i =>
    have hv' : 1 ≤ v ∧ v ≤ 7 ∨ v = 255 := Classical.byContradiction fun h => by simp [discBase, h] at hv
    exact ⟨_, _, _, _, _, key_PPS_IN_DISC i i.isLt, rfl, rfl, by omega, rfl, if_pos (show v < 256 by omega), by simp [Desc.allows]; omega, fun d src => by
      show atOnce (if h : Desc.index _ _ < 4 then d.discWrite (.ppsInDisc ⟨_, h⟩) (Int.toNat v) true else _) = _
      simp only [show Desc.index _ (discKey (.ppsInDisc i)) = i.val from (key_PPS_IN_DISC i i.isLt).2.1, i.isLt, dif_pos, Int.toNat_natCast]⟩
  | tbDiscCtx n =>
    have hv' : v < 128 ∨ v = 255 := Classical.byContradiction fun h => by simp [discBase, h] at hv
    have hn : n.val ≠ 0 := fun e => hw (congrArg _ (Fin.ext e))
    exact ⟨_, _, _, _, _, key_TB_DISC_CTX n n.isLt, rfl, rfl, by omega, rfl, if_pos (show v < 256 by omega), by simp [Desc.allows]; omega, fun d src => by
      show atOnce (if h : Desc.index _ _ < 8 then d.discWrite (.tbDiscCtx ⟨_, h⟩) (Int.toNat v) true else _) = _
      simp only [show Desc.index _ (discKey (.tbDiscCtx n)) = n.val from (key_TB_DISC_CTX n n.isLt).2.1, n.isLt, dif_pos, Int.toNat_natCast]⟩

/-- Settles O46: each write by its row, a refused one by what refuses it. -/
theorem timeBaseWrites : Obligations.TimeBaseWrites := by
  refine ⟨fun s r n v hn h => tbIncr_writes hn h, fun s r n v hn h => tbOffset_writes hn h, fun s r n w0 w1 w2 w3 hn => tbSet_writes hn,
    fun s r n v hv h => ?_, fun s r which v hw hv h => ?_⟩
  · intro d
    refine ⟨fun h0 => ?_, fun hn busy => tbSynced_refused hv h hn busy, fun hn free h1 => ?_, fun hn free h0 => ?_⟩
    · subst h0
      exact request_takes (State.opens_takes h) (opWrite_T0 (State.opens_unbarred h))
    · subst h1
      exact tbSynced_writes hv h hn free
    · subst h0
      exact tbSynced_writes hv h hn free
  · intro d d' hm
    obtain ⟨x, i, a, o, e, row, level, acc, h0, words, decodes, allows, effect⟩ := discipline_row hw hv
    have writable : x.acc ≠ .r := by rw [acc]; decide
    have modes : (x.acc = .rwc ∨ x.acc = .rwh) → d.mode = 2 ∨ (x.acc = .rwh ∧ d.mode = 7) := fun _ => hm.imp_right fun h7 => ⟨acc, h7⟩
    refine ⟨fun alone => ?_, fun n names two => ?_⟩
    · refine write_opens h row.1 (by rw [writeLevel_row row, level]) writable (by rw [row.2.2.1, row.2.2.2.1]; exact h0) modes words.symm (by omega) decodes allows ?_
      rw [effect, Dev.discWrite_eq hw hv]
      cases names : Dev.discNames _ which v.toNat with
      | none => rfl
      | some n => dsimp only; rw [if_neg (Nat.not_lt.mpr (alone n names))]; rfl
    · refine write_refused h row level writable h0 modes words.symm (by omega) decodes allows ?_ (by decide)
      rw [effect, Dev.discWrite_eq hw hv, names]
      dsimp only
      rw [if_pos two]
      rfl

end Sys2Proof.Machine
end

section
/-! SUPPORT. Mailboxes (spec 18, R493 to R498): the accesses of cores and host that post, read and release. -/
set_option Elab.async false
namespace Sys2Proof.Machine

theorem wants_after {ok : Bool} {what : String} {f : Dev → Dev} {s : State} {d : Dev} (h : ok = true) (hd : f s.cmd = d) :
    wants ok what f s = .next (s.after d) := hd ▸ wants_next h what f s

/-- An access below the far send windows waits for no far write. -/
theorem Dev.farFirst_other {d : Dev} {c a : Nat} (h : ((0x10100 ≤ a && a < 0x10B80 && a % 16 = 0) || (0x10C00 ≤ a && a < 0x10C15)) = false) :
    d.farFirst c a = d := by rw [Dev.farFirst, if_neg (by rw [h]; decide)]

theorem Dev.coreStoreAt_done {d e : Dev} {c a v : Nat} (runs : d.coreRuns c = true) (stores : (d.farFirst c a).storeWord c a v = (e, Stat.done)) :
    d.coreStoreAt c a v = e := by
  rw [Dev.coreStoreAt, if_neg (by simp [runs]), stores]
  exact if_pos rfl

theorem Dev.coreStoreAt_fault {d e : Dev} {c a v st : Nat} (runs : d.coreRuns c = true) (stores : (d.farFirst c a).storeWord c a v = (e, st)) (hst : st ≠ Stat.done) :
    d.coreStoreAt c a v = e.accessFault c 2 st a := by
  rw [Dev.coreStoreAt, if_neg (by simp [runs]), stores]
  exact if_neg hst

theorem Dev.storeWord_priv {d : Dev} {c o v : Nat} (h : o < 0x10000) : d.storeWord c (0x10000 + o) v = d.privWrite c o v := by
  rw [Dev.storeWord, if_neg (by omega), if_pos (by omega), Nat.add_sub_cancel_left]

theorem Dev.loadWord_priv {d : Dev} {c o : Nat} (h : o < 0x10000) : d.loadWord c (0x10000 + o) = d.privRead c o := by
  rw [Dev.loadWord, if_neg (by omega), if_pos (by omega), Nat.add_sub_cancel_left]

/-- A store into the send window of a mailbox. -/
theorem Dev.storeWord_send {d : Dev} {c v : Nat} {dst : Fin 21} {m : Fin 8} {w : Nat} (hw : w < 16) :
    d.storeWord c (0x10100 + 128 * dst + 16 * m + w) v = d.mbSend c dst m w v := by
  have hd := dst.isLt
  have hm := m.isLt
  have at_ : 0x10100 + 128 * dst.val + 16 * m.val + w = 0x10000 + (0x100 + 128 * dst.val + 16 * m.val + w) := by omega
  rw [at_, Dev.storeWord_priv (by omega), Dev.privWrite, if_neg (by omega), if_neg (by omega), if_pos (by simp; omega)]
  congr 1 <;> omega

theorem Dev.mbBody_keeps (d : Dev) (dst m w v : Nat) : (d.mbBody dst m w v).doms = d.doms ∧ (d.mbBody dst m w v).od = d.od := by
  unfold Dev.mbBody
  dsimp only
  split <;> exact ⟨rfl, rfl⟩

theorem Dev.epOn_mbBody (d : Dev) (dst m w v e : Nat) : (d.mbBody dst m w v).epOn e = d.epOn e := by
  simp only [Dev.epOn, Dev.domOn, (d.mbBody_keeps dst m w v).1]

theorem Dev.coreRuns_mbBody (d : Dev) (dst m w v c : Nat) : (d.mbBody dst m w v).coreRuns c = d.coreRuns c := by
  simp only [Dev.coreRuns, Dev.obn, Dev.ob, (d.mbBody_keeps dst m w v).2]

/-- A core stores the words of a body one by one. -/
theorem Dev.body_stores {src : Nat} {dst : Fin 21} {m : Fin 8} (l : List (Nat × Nat)) :
    ∀ d : Dev, d.coreRuns src = true → d.epOn dst = true → (∀ x ∈ l, 0 < x.1 ∧ x.1 < 16) →
      l.foldl (fun (d : Dev) (x : Nat × Nat) => d.coreStoreAt src (0x010100 + 128 * dst + 16 * m + x.1) x.2) d = l.foldl (fun d x => d.mbBody dst m x.1 x.2) d ∧
      (l.foldl (fun d x => d.mbBody dst m x.1 x.2) d).coreRuns src = true := by
  induction l with
  | nil => exact fun d runs _ _ => ⟨rfl, runs⟩
  | cons x l ih =>
    intro d runs on words
    obtain ⟨pos, small⟩ := words x List.mem_cons_self
    have hd := dst.isLt
    have hm := m.isLt
    have first : d.coreStoreAt src (0x010100 + 128 * dst + 16 * m + x.1) x.2 = d.mbBody dst m x.1 x.2 := by
      refine Dev.coreStoreAt_done runs ?_
      rw [Dev.farFirst_other (by simp; omega), Dev.storeWord_send small, Dev.mbSend, if_neg (by simp [on]), if_neg (by omega)]
    rw [List.foldl_cons, List.foldl_cons, first]
    exact ih _ (by rw [Dev.coreRuns_mbBody, runs]) (by rw [Dev.epOn_mbBody, on]) fun y hy => words y (List.mem_cons_of_mem _ hy)

theorem mem_numbered {α : Type} {l : List α} {x : α × Nat} (h : x ∈ l.zip (List.range' 1 l.length)) : 0 < x.2 ∧ x.2 < 1 + l.length := by
  have := List.mem_range'_1.mp (List.of_mem_zip h).2
  omega

/-- A core's post: the body, then the header after the far writes made before. -/
theorem Dev.mailPost_core {d : Dev} {src dst : Fin 21} {m : Fin 8} {body : List Word} {hdr : Nat} (hs : src.val < 20) (runs : d.coreRuns src = true)
    (on : d.epOn dst = true ∨ body = []) (len : body.length ≤ 15) :
    let b := (body.zip (List.range' 1 body.length)).foldl (fun d x => d.mbBody dst m x.2 x.1.toNat) d
    d.mailPost src dst m (body.map (·.toNat)) hdr = b.coreStoreAt src (0x10100 + 128 * dst + 16 * m) hdr ∧ b.coreRuns src = true := by
  intro b
  have body_ : ((body.map (·.toNat)).zip (List.range' 1 (body.map (·.toNat)).length)).map (fun x => (x.2, x.1)) =
      (body.zip (List.range' 1 body.length)).map fun x => (x.2, x.1.toNat) := by
    rw [List.length_map, List.zip_map_left, List.map_map]
    rfl
  have stores := Dev.body_stores (src := src) (dst := dst) (m := m) ((body.zip (List.range' 1 body.length)).map fun x => (x.2, x.1.toNat)) d runs
  rcases on with on | rfl
  · obtain ⟨all, runs'⟩ := stores on fun x hx => by
      obtain ⟨y, hy, rfl⟩ := List.mem_map.mp hx
      obtain ⟨pos, small⟩ := mem_numbered hy
      exact ⟨pos, by dsimp only; omega⟩
    rw [List.foldl_map] at all runs'
    refine ⟨?_, by simpa only [List.foldl_map] using runs'⟩
    rw [Dev.mailPost, if_neg (by omega), body_, List.foldl_append, List.foldl_map, all, List.foldl_map]
    rfl
  · refine ⟨?_, runs⟩
    rw [Dev.mailPost, if_neg (by omega)]
    rfl

theorem Dev.storeWord_header {d : Dev} {c v : Nat} {dst : Fin 21} {m : Fin 8} :
    d.storeWord c (0x10100 + 128 * dst + 16 * m) v = d.mbSend c dst m 0 v := Dev.storeWord_send (w := 0) (by decide)

/-- The target word of the host names a mailbox. -/
theorem target_names : ∀ (dst : Fin 21) (m : Fin 8), ¬ 20 < bits (dst.val * 256 + m.val) 12 8 ∧ (dst.val * 256 + m.val) &&& 0x1F07 = dst.val * 256 + m.val ∧
    bits (dst.val * 256 + m.val) 12 8 = dst ∧ bits (dst.val * 256 + m.val) 2 0 = m := by decide +kernel

theorem Dev.mailPost_host {d : Dev} {dst : Fin 21} {m : Fin 8} {hdr : Word} (up : d.host.linkUp = true) (on : d.epOn dst = true) :
    d.mailPost 20 dst m [] hdr.toNat = (d.modHost fun h => { h with target := dst.val * 256 + m.val }).post 20 dst m hdr.toNat := by
  obtain ⟨ok, mask, ep, box⟩ := target_names dst m
  have hd := dst.isLt
  have hm := m.isLt
  have aim : d.hostPut .bar0 0x500 (dst.val * 256 + m.val) = d.modHost fun h => { h with target := dst.val * 256 + m.val } := by
    rw [hostPut_bar0 up (by decide) (by decide) (by omega)]
    unfold Dev.bar0Write
    rw [if_neg (by decide), if_neg (by decide), if_pos rfl, if_neg ok, mask]
  rw [Dev.mailPost, if_pos rfl, aim]
  refine (hostPut_bar0 (d := d.modHost fun h => { h with target := dst.val * 256 + m.val }) (a := 0x540) up (by decide) (by decide) hdr.isLt).trans ?_
  unfold Dev.bar0Write
  rw [if_neg (by decide), if_neg (by decide), if_neg (by decide), if_pos (by decide)]
  show (Dev.mbSend _ 20 (bits (dst.val * 256 + m.val) 12 8) (bits (dst.val * 256 + m.val) 2 0) 0 _).1 = _
  rw [ep, box, Dev.mbSend, if_neg (by rw [show Dev.epOn (d.modHost _) dst = d.epOn dst from rfl, on]; decide), if_pos rfl]

/-- Levels that do not rise wake nothing. -/
theorem Dev.hostLevels_still {d e : Dev} {f : Dev → Dev} (he : f d = e) (h : ∀ m, e.mbLevel 20 m = d.mbLevel 20 m) : d.hostLevels f = e := by
  have still : ∀ (l : List Nat) (x : Dev), l.foldl (fun x m => if !d.mbLevel 20 m && e.mbLevel 20 m then x.raise (0x52C + m) else x) x = x := by
    intro l
    induction l with
    | nil => exact fun x => rfl
    | cons m l ih => intro x; rw [List.foldl_cons, if_neg (by simp [h m]), ih]
  subst he
  exact still _ _

theorem Dev.ep_modEp_other {d : Dev} {e k : Nat} (f : Endpoint → Endpoint) (h : k ≠ e) : (d.modEp e f).ep k = d.ep k := mget_mmod_other _ _ _ _ _ h

/-- What an endpoint sends leaves the mailboxes that are full. -/
theorem Dev.full_modSend (d : Dev) (e k : Nat) (g : Endpoint → SMap SendStat) : ((d.modEp e fun x => { x with send := g x }).ep k).full = (d.ep k).full := by
  by_cases h : k = e
  · subst h
    simp only [Dev.ep, Dev.modEp, mget_mmod_same]
  · rw [Dev.ep_modEp_other _ h]

theorem Dev.mbLevel_of {d e : Dev} {k : Nat} (od : e.od = d.od) (full : (e.ep 20).full = (d.ep 20).full) : e.mbLevel 20 k = d.mbLevel 20 k := by
  simp only [Dev.mbLevel, full, Dev.bell, Dev.obb, Dev.obn, Dev.ob, od]

/-- The state after a post of the header v to a mailbox that is free. -/
def Dev.posted (d : Dev) (src dst m v : Nat) : Dev :=
  ((d.st (mailAddr dst m 0) v).event.modEp dst fun x => { x with full := insNat m x.full }).modEp src fun x =>
    { x with send := mput x.send (8 * dst + m) ⟨false, false, bits (d.obn (K.EP_EPOCH dst)) 11 0⟩ }

theorem Dev.posted_od (d : Dev) (src dst m v : Nat) : (d.posted src dst m v).od = d.od := rfl

theorem Dev.full_posted {d : Dev} {src dst m v k : Nat} (h : k ≠ dst) : ((d.posted src dst m v).ep k).full = (d.ep k).full := by
  rw [Dev.posted, Dev.full_modSend _ _ _ fun x => _, Dev.ep_modEp_other _ h]
  rfl

theorem Dev.post_free {d : Dev} {src dst m hdr : Nat} (hd : dst < 20) (free : (d.ep dst).full.contains m = false) :
    d.post src dst m hdr = d.posted src dst m (src * 2 ^ 19 + bits hdr 18 15 * 2 ^ 15 + bits (d.obn (K.EP_EPOCH src)) 11 0) := by
  have body : ∀ v, d.mbBody dst m 0 v = d.st (mailAddr dst m 0) v := fun v =>
    if_neg (by rw [show (d.st (mailAddr dst m 0) v).ep dst = d.ep dst from rfl, free]; decide)
  obtain ⟨v, hv⟩ : ∃ v, src * 2 ^ 19 + bits hdr 18 15 * 2 ^ 15 + bits (d.obn (K.EP_EPOCH src)) 11 0 = v := ⟨_, rfl⟩
  refine Dev.hostLevels_still ?_ fun k => Dev.mbLevel_of (Dev.posted_od _ _ _ _ _) (Dev.full_posted (by omega))
  dsimp only
  rw [hv, free, body, if_neg Bool.false_ne_true]
  rfl

/-- The read of a message's last word takes it away. -/
theorem Dev.mailAck_core {d : Dev} {ep : Fin 21} {m : Fin 8} (he : ep.val < 20) (runs : d.coreRuns ep = true) (full : (d.ep ep).full.contains m.val = true)
    (clean : d.poisoned (mailAddr ep m (bits (d.ld (mailAddr ep m 0)) 18 15)) = false) :
    d.mailAck ep m = (d.ackMail ep m).emit (.coreRead ep (d.ld (mailAddr ep m (bits (d.ld (mailAddr ep m 0)) 18 15)))) := by
  obtain ⟨n, last⟩ : ∃ n, bits (d.ld (mailAddr ep m 0)) 18 15 = n := ⟨_, rfl⟩
  have hm := m.isLt
  have hn : n < 16 := last ▸ Nat.mod_lt _ (by decide)
  have box : (16 * m.val + n) / 16 = m := by omega
  have word_ : (16 * m.val + n) % 16 = n := by omega
  have reads : d.loadWord ep (0x10000 + (16 * m + n)) = (d.ackMail ep m, d.ld (mailAddr ep m n), Stat.done) := by
    rw [last] at clean
    rw [Dev.loadWord_priv (by omega), Dev.privRead, if_pos (by omega), box, word_, if_neg (by simp [clean]), Dev.mbRead, last, if_pos (by simpa using full)]
  rw [Dev.mailAck, if_neg (by omega), last, Dev.coreLoadAt, if_neg (by simp [runs]), Nat.add_assoc, reads]
  exact if_pos rfl

theorem Dev.mailStatus_core {d : Dev} {ep : Fin 21} {m : Fin 8} {v : Nat} (he : ep.val < 20) (runs : d.coreRuns ep = true) :
    d.mailStatus ep m v = d.mbStatusWrite ep m v := by
  have hm := m.isLt
  rw [Dev.mailStatus, if_neg (by omega)]
  refine Dev.coreStoreAt_done runs ?_
  rw [Dev.farFirst_other (by simp; omega), show 0x10080 + m.val = 0x10000 + (0x80 + m.val) by omega, Dev.storeWord_priv (by omega), Dev.privWrite,
    if_neg (by omega), if_pos (by omega), Nat.add_sub_cancel_left]

theorem Dev.mailStatus_host {d : Dev} {m : Fin 8} {v : Word} (up : d.host.linkUp = true) : d.mailStatus 20 m v.toNat = d.mbStatusWrite 20 m v.toNat := by
  have hm := m.isLt
  rw [Dev.mailStatus, if_pos rfl, hostPut_bar0 up (by omega) (by omega) v.isLt]
  unfold Dev.bar0Write
  rw [if_neg (by omega), if_pos (by simp; omega), show (0x400 + 4 * m.val - 0x400) / 4 = m.val by omega]

/-- Settles O51: posts by core and host, reads and writes of the receiver, and what they are. -/
theorem mailboxCommands : Obligations.MailboxCommands := by
  refine ⟨fun s src dst m body hdr hs runs on len => ?_, fun s dst m hdr up on => run_after (f := (·.mailPost 20 dst m [] hdr.toNat)) (Dev.mailPost_host up on),
    fun s src dst m hdr hs runs => ?_, fun d src dst m hdr hd _ _ free => Dev.post_free hd free, fun s ep m he runs full => ?_, fun s ep m v he runs => ?_,
    fun s m v up => ?_, fun d e m v => rfl⟩
  · intro d on'
    obtain ⟨posts, runs'⟩ := Dev.mailPost_core (m := m) (hdr := hdr.toNat) hs runs (.inl on) len
    refine wants_after (decide_eq_true len) (posts.trans (Dev.coreStoreAt_done runs' ?_))
    rw [Dev.storeWord_header, Dev.mbSend, if_neg (by rw [on']; decide), if_pos rfl]
  · intro d off
    have off' : (!d.epOn dst) = true := by rw [off]; rfl
    obtain ⟨posts, runs'⟩ := Dev.mailPost_core (body := []) (dst := dst) (m := m) (hdr := hdr.toNat) hs runs (.inr rfl) (by decide)
    exact wants_after (f := (·.mailPost src dst m [] hdr.toNat)) (what := "MAILBOX_POST body") (ok := decide (([] : List Word).length ≤ 15)) rfl (posts.trans (Dev.coreStoreAt_fault (st := Stat.asleep) runs' (by
      rw [Dev.storeWord_header, Dev.mbSend, ]
      exact if_pos off') (by decide)))
  · intro n clean
    exact run_after (f := (·.mailAck ep m)) (Dev.mailAck_core he runs full clean)
  · have stores := Dev.mailStatus_core (m := m) (v := v.toNat) he runs
    exact ⟨run_after (f := (·.mailStatus ep m v.toNat)) stores, run_after (f := (·.mailStatus ep m v.toNat)) stores⟩
  · have stores := Dev.mailStatus_host (m := m) (v := v) up
    exact ⟨run_after (f := (·.mailStatus 20 m v.toNat)) stores, run_after (f := (·.mailStatus 20 m v.toNat)) stores⟩

end Sys2Proof.Machine
end

section
/-! SUPPORT. The Tap's commands (spec 02, R55 to R68; 19, R529). -/
set_option Elab.async false
namespace Sys2Proof.Machine

theorem tapBudget_writes {s : State} {r : Src} {v : Word} (h : s.opens r K.TAP_BUDGET [v.toNat] 2 = true) :
    let d := s.taken r 2 K.TAP_BUDGET 0 [v.toNat]
    d.mode = 2 ∨ d.mode = 7 → v.toNat ≤ d.gradeLimit →
    (if d.limits = 7 then 0 else baseOf d.limits) + permitSum (d.tap.permits.filter fun p => !p.revocable) ≤ effOf d.limits v.toNat →
    exec (.tapBudgetWrite r v) s = .next (s.wrote r K.TAP_BUDGET [v.toNat] ((d.event.setOb K.TAP_BUDGET (v.toNat : Nat)).tookEffect).revokeToBudget) := by
  intro d mode grade fits
  have top : (v.toNat : Int) ≤ 16777215 := Int.ofNat_le.mpr (Nat.le_of_lt_succ v.isLt)
  refine write_word h key_TAP_BUDGET (.inr (.inr (.inr rfl))) rfl (by decide) (by omega) (fun _ => mode.imp_right fun h7 => ⟨rfl, h7⟩)
    ⟨Int.natCast_nonneg _, top⟩ ?_
  show atOnce (Dev.budgetWrite _ _) = _
  rw [Int.toNat_natCast, Dev.budgetWrite, if_neg (by simp only [Bool.or_eq_true, decide_eq_true_eq]; exact not_or.mpr ⟨Nat.not_lt.mpr grade, Nat.not_lt.mpr fits⟩)]
  rfl

theorem tapPeak_clears {s : State} {r : Src} {v : Word} (h : s.opens r K.TAP_PEAK [v.toNat] 1 = true) :
    exec (.tapPeakClear r v) s = .next (s.wrote r K.TAP_PEAK [v.toNat] ((s.taken r 2 K.TAP_PEAK 0 [v.toNat]).event.setOb K.TAP_PEAK 0)) := by
  have top : (v.toNat : Int) ≤ 16777215 := Int.ofNat_le.mpr (Nat.le_of_lt_succ v.isLt)
  exact write_word h key_TAP_PEAK (.inr (.inr (.inr rfl))) rfl (by decide) (by omega) (by simp) ⟨Int.natCast_nonneg _, top⟩ rfl

/-- A request of four words to the Tap that is granted. -/
theorem Dev.tapMessage_granted {d e : Dev} {n : Nat} (served : d.served 2 = true) (full : (d.ep (d.roleOf 2)).full.contains 7 = true) :
    let k := d.roleOf 2
    let src := bits (d.ld (mailAddr k 7 0)) 23 19
    let w := fun i => d.ld (mailAddr k 7 1 + i)
    bits (d.ld (mailAddr k 7 0)) 18 15 = 4 → bits (w 0) 23 16 = 1 → bits (w 0) 9 0 ≤ 1000 → w 1 ≠ 0 → w 1 ≤ 38000 → w 2 ≠ 0 →
    (d.ackMail k 7).ask (.core src) (w 1) (w 2) (bits (w 0) 15 13) (bits (w 0) 9 0) (w 3) = (e, .granted n) →
    d.tapMessage false = e.tapReply src 0x81 Stat.done n (w 1) (w 3) := by
  intro k src w len op wait some_ most dur granted
  unfold Dev.tapMessage
  have op' : (if 4 = 0 then 0 else bits ((d.ldAll (mailAddr (d.roleOf 2) 7 1) 4).getD 0 0) 23 16) = 1 := op
  have word (i : Nat) (hi : i < 4) : (d.ldAll (mailAddr (d.roleOf 2) 7 1) 4).getD i 0 = w i := by
    obtain rfl | rfl | rfl | rfl : i = 0 ∨ i = 1 ∨ i = 2 ∨ i = 3 := by omega
    all_goals rfl
  dsimp only
  rw [len, op', word 0 (by decide), word 1 (by decide), word 2 (by decide), word 3 (by decide), if_neg (by rw [served, full]; decide), if_neg (by decide),
    if_neg (by decide), if_neg (by simp; omega), if_neg (by decide), if_neg (by simp; omega),
    if_pos (Nat.le_refl 4), show Dev.ask (d.ackMail (d.roleOf 2) 7) (.core (bits (d.ld (mailAddr (d.roleOf 2) 7 0)) 23 19)) _ _ _ _ _ = _ from granted]
  rfl

theorem Dev.tapMessage_releases {d : Dev} {p : Permit} (served : d.served 2 = true) (full : (d.ep (d.roleOf 2)).full.contains 7 = true) :
    let k := d.roleOf 2
    let src := bits (d.ld (mailAddr k 7 0)) 23 19
    let w := fun i => d.ld (mailAddr k 7 1 + i)
    bits (d.ld (mailAddr k 7 0)) 18 15 = 4 → bits (w 0) 23 16 = 2 → bits (w 0) 9 0 ≤ 1000 → w 2 ≠ 0 →
    ((d.ackMail k 7).tap.permits.find? fun p => p.num == w 1 && p.holder == .core src) = some p →
    d.tapMessage true = ((d.ackMail k 7).release (w 1)).tapReply src 0x82 Stat.done 0 0 (w 3) := by
  intro k src w len op wait dur held
  unfold Dev.tapMessage
  have op' : (if 4 = 0 then 0 else bits ((d.ldAll (mailAddr (d.roleOf 2) 7 1) 4).getD 0 0) 23 16) = 2 := op
  have word (i : Nat) (hi : i < 4) : (d.ldAll (mailAddr (d.roleOf 2) 7 1) 4).getD i 0 = w i := by
    obtain rfl | rfl | rfl | rfl : i = 0 ∨ i = 1 ∨ i = 2 ∨ i = 3 := by omega
    all_goals rfl
  dsimp only
  rw [len, op', word 0 (by decide), word 1 (by decide), word 2 (by decide), word 3 (by decide), if_neg (by rw [served, full]; decide), if_neg (by decide),
    if_neg (by decide), if_neg (by simp; omega), if_pos rfl, show List.find? _ (d.ackMail (d.roleOf 2) 7).tap.permits = _ from held]
  rfl

/-- Settles O2. -/
theorem tapCommands : Obligations.TapCommands := by
  refine ⟨fun s r v h => tapBudget_writes h, fun s r v h => tapPeak_clears h, fun s rails len awake => ?_, fun s rails len => ?_, fun s t served next => ?_,
    fun s t served next => ?_, fun s d' n served full => ?_, fun s p served full => ?_⟩
  · exact wants_after (f := (·.railStep rails)) (beq_iff_eq.mpr len) (if_neg (by omega))
  · exact wants_fault (beq_eq_false_iff_ne.mpr len) _ _ s
  · refine run_after (f := (·.tapWaitEnds)) ?_
    show Dev.tapWaitEnds s.cmd = _
    rw [Dev.tapWaitEnds, if_neg (by simp [served]), next]
  · refine run_after (f := (·.permitEnds)) ?_
    show Dev.permitEnds s.cmd = _
    rw [Dev.permitEnds, if_neg (by simp [served]), next]
  · intro k src w len op wait some_ most dur granted
    exact run_after (f := (·.tapMessage false)) (Dev.tapMessage_granted served full len op wait some_ most dur granted)
  · intro k src w len op wait dur held
    exact run_after (f := (·.tapMessage true)) (Dev.tapMessage_releases served full len op wait dur held)

end Sys2Proof.Machine
end

section
/-! SUPPORT. The Sump on SMBus (spec 03, R96; 19, R537, R538). -/
set_option Elab.async false
namespace Sys2Proof.Machine

/-- The end of a transaction: its status is kept, and the address that it came to. -/
def State.smbServed (s : State) (d : Dev) (st : Nat) : Host.Outcome State Fault Refusal :=
  .next (s.after ((d.modSmb fun m => { m with lastStatus := st }).modSmb fun m => { m with addr := s.dev.obn K.SUMP_ADDR }))

/-- A PEC that is right, or none where none is needed. -/
def State.pecOk (s : State) (pec : Option Bool) : Prop := pec = some true ∨ (pec = none ∧ s.dev.obb K.SMB_PEC_REQ = false)

theorem State.pecOk_good {s : State} {pec : Option Bool} (h : s.pecOk pec) : ¬ (pec = some false || (pec = none && s.cmd.obb K.SMB_PEC_REQ)) = true := by
  rcases h with rfl | ⟨rfl, free⟩
  · simp
  · have free' : s.cmd.obb K.SMB_PEC_REQ = false := free
    simp [free']

/-- A transaction with a right length and a right PEC is judged by its value. -/
theorem Dev.smbDo_good {s : State} {pec : Option Bool} {f : Dev → Dev × Nat} (h : s.pecOk pec) :
    s.cmd.smbDo pec true true f =
      ((f s.cmd).1.modSmb fun m => { m with lastStatus := (f s.cmd).2 }).modSmb fun m => { m with addr := s.dev.obn K.SUMP_ADDR } := by
  unfold Dev.smbDo
  dsimp only
  rw [if_neg (by decide), if_neg (s.pecOk_good h), if_neg (by decide)]
  rfl

theorem Dev.smbDo_bad {s : State} {pec : Option Bool} {f : Dev → Dev × Nat} (h : s.pecOk pec) :
    s.cmd.smbDo pec true false f =
      ((s.cmd.bump K.SMB_ERRORS).modSmb fun m => { m with lastStatus := Stat.range }).modSmb fun m => { m with addr := s.dev.obn K.SUMP_ADDR } := by
  unfold Dev.smbDo
  dsimp only
  rw [if_neg (by decide), if_neg (s.pecOk_good h), if_pos (by decide)]
  rfl

theorem smbDo_judges {s : State} {pec : Option Bool} {fits good : Bool} {f : Dev → Dev × Nat} {p : Prop} [Decidable p] (h : s.pecOk pec) (len : fits = true)
    (hp : good = true ↔ p) : run (·.smbDo pec fits good f) s = if p then s.smbServed (f s.cmd).1 (f s.cmd).2 else s.smbServed (s.cmd.bump K.SMB_ERRORS) Stat.range := by
  subst len
  cases good
  · rw [if_neg fun hv => absurd (hp.mpr hv) (by decide)]
    exact run_after (f := (·.smbDo pec true false f)) (Dev.smbDo_bad h)
  · rw [if_pos (hp.mp rfl)]
    exact run_after (f := (·.smbDo pec true true f)) (Dev.smbDo_good h)

/-- A transaction whose every value is in range. -/
theorem smbDo_serves {s : State} {pec : Option Bool} {fits : Bool} {f : Dev → Dev × Nat} (h : s.pecOk pec) (len : fits = true) :
    run (·.smbDo pec fits true f) s = s.smbServed (f s.cmd).1 (f s.cmd).2 :=
  (smbDo_judges (p := True) h len (by decide)).trans (if_pos trivial)

theorem smbDo_type {s : State} {pec : Option Bool} {fits good : Bool} {f : Dev → Dev × Nat} (len : fits = false) :
    run (·.smbDo pec fits good f) s = s.smbServed (s.cmd.bump K.SMB_ERRORS) Stat.type := by
  subst len
  exact run_after (f := (·.smbDo pec false good f)) (by unfold Dev.smbDo; dsimp only; rw [if_pos (by decide)]; rfl)

theorem smbRead_serves {s : State} {pec : Option Bool} {data : Dev → List Byte} (h : s.pecOk pec) :
    run (fun d => d.smbRead pec (data d)) s = s.smbServed (s.cmd.emit (.smb (data s.cmd))) 0 :=
  run_after (f := fun d => d.smbRead pec (data d)) (Dev.smbDo_good (f := fun d => (d.emit (.smb (data s.cmd)), Stat.done)) h)

theorem byteAt_head (b : Byte) (l : List Byte) : byteAt (b :: l) 0 = b.toNat := rfl

/-- Settles O54. -/
theorem smbusCommands : Obligations.SmbusCommands := by
  unfold Obligations.SmbusCommands
  intro served spoiled pecOk
  refine ⟨fun s pec ok => ⟨smbRead_serves (data := Dev.smbStatusBytes) ok, smbRead_serves (data := Dev.smbResponse) ok, smbRead_serves (data := fun d => beBytes 9 d.now) ok⟩, fun s pec b ok => ?_, fun s pec e b2 b1 b0 ok => ?_,
    fun s pec data ok least most len => ?_, fun s pec data len => ?_, fun s => ⟨fun low => ?_, fun cause mode => ?_⟩⟩
  · refine ⟨smbDo_serves ok rfl, smbDo_serves ok rfl, smbDo_judges ok rfl decide_eq_true_iff, ?_, smbDo_judges ok rfl beq_iff_eq, ?_, ?_⟩
    · have hold : (b.toNat == 1) = (b == 1) := by
        rw [Bool.eq_iff_iff, beq_iff_eq, beq_iff_eq, BitVec.toNat_eq]
        rfl
      refine (smbDo_judges (p := b.toNat ≤ 1) ok rfl decide_eq_true_iff).trans ?_
      show (if b.toNat ≤ 1 then s.smbServed (s.cmd.sumpHold (b.toNat == 1)) 0 else _) = _
      rw [hold]
      rfl
    · exact smbDo_judges ok rfl (by rw [Bool.and_eq_true, decide_eq_true_iff, decide_eq_true_iff]; rfl)
    · refine (smbDo_judges (p := b.toNat = 1) ok rfl beq_iff_eq).trans ?_
      by_cases hb : b.toNat = 1
      · rw [if_pos hb, if_neg (Classical.not_not.mpr hb)]
        by_cases dormant : s.cmd.mode = 0
        · rw [if_pos dormant, if_pos dormant]; rfl
        · rw [if_neg dormant, if_neg dormant]; rfl
      · rw [if_neg hb, if_pos hb]; rfl
  · refine (smbDo_judges (p := e.toNat ≤ 20) ok rfl decide_eq_true_iff).trans ?_
    have whole : beNat [b2, b1, b0] = b2.toNat * 65536 + b1.toNat * 256 + b0.toNat := by
      show ((0 * 256 + b2.toNat) * 256 + b1.toNat) * 256 + b0.toNat = _
      omega
    show (if e.toNat ≤ 20 then s.smbServed (s.cmd.ring e.toNat (beNat [b2, b1, b0])) 0 else _) = _
    rw [whole]
    rfl
  · have whole : smbWhole data = true := by
      simp only [smbWhole, Bool.and_eq_true, decide_eq_true_eq, beq_iff_eq]
      exact ⟨⟨least, most⟩, by rw [len, byteAt, List.getD_eq_getElem?_getD]⟩
    refine (smbDo_serves ok whole).trans ?_
    rw [Dev.smbRequest]
    by_cases pending : s.cmd.sump.smb.pending = true
    · rw [if_pos pending, if_pos pending]; rfl
    · rw [if_neg pending, if_neg pending]; rfl
  · have short : (data.length == 1) = false := beq_eq_false_iff_ne.mpr len
    exact ⟨smbDo_type short, smbDo_type short, smbDo_type short, smbDo_type short, smbDo_type short, smbDo_type short, smbDo_type short⟩
  · refine run_after (f := fun d => if !d.alertLow then d else d.emit (.smb (beBytes 1 d.sump.smb.addr))) (if_neg ?_)
    rcases low with cause | mode
    · simp [Dev.alertLow, cause]
    · simp [Dev.alertLow, mode]
  · refine run_after (f := fun d => if !d.alertLow then d else d.emit (.smb (beBytes 1 d.sump.smb.addr))) (if_pos ?_)
    simp [Dev.alertLow, cause, mode]

end Sys2Proof.Machine
end

section
/-! SUPPORT. Runnel channels (spec 09, R231 to R263): what goes on, what faults, the RX FIFO's entries, and the words. -/
set_option Elab.async false
namespace Sys2Proof.Machine

theorem Dev.chan_modChan_same (d : Dev) (c : Nat) (f : Chan → Chan) : (d.modChan c f).chan c = f (d.chan c) := mget_mmod_same _ _ _ _

theorem Dev.chan_modChan_other {d : Dev} {c k : Nat} (f : Chan → Chan) (h : k ≠ c) : (d.modChan c f).chan k = d.chan k := mget_mmod_other _ _ _ _ _ h

/-- An instruction that completes with no turn of the line due goes on at the next word after its delay. -/
theorem Dev.rnNext_eq {d : Dev} {c pc extra : Nat} (still : (d.chan c).flipDue = false) : d.rnNext c pc extra =
    (d.setOb (K.CH_PC c) (pc % 256 : Nat)).modChan c fun x => { x with block := .none, waitBit := none, issueAt := d.slotAt c + 64 * (1 + extra) } := by
  unfold Dev.rnNext
  dsimp only
  rw [Dev.chan_modChan_same, show (d.setOb (K.CH_PC c) (pc % 256 : Nat)).chan c = d.chan c from rfl]
  exact if_neg (by simp [still])

theorem Dev.rnNext_goes {d : Dev} {c pc extra : Nat} (still : (d.chan c).flipDue = false) :
    let d' := d.rnNext c pc extra
    d'.chPc c = pc % 256 ∧ (d'.chan c).block = .none ∧ (d'.chan c).issueAt = d.slotAt c + 64 * (1 + extra) ∧
    d'.mem = d.mem ∧ d'.cores = d.cores ∧ d'.now = d.now ∧ ∀ k, k ≠ c → d'.chan k = d.chan k := by
  intro d'
  obtain ⟨n, hn⟩ : ∃ n, d.slotAt c + 64 * (1 + extra) = n := ⟨_, rfl⟩
  simp only [d', Dev.rnNext_eq still, hn]
  refine ⟨?_, ?_, ?_, rfl, rfl, rfl, fun k other => ?_⟩
  · exact Dev.obn_setOb_same d (K.CH_PC c) _
  · rw [Dev.chan_modChan_same]
  · rw [Dev.chan_modChan_same]
  · rw [Dev.chan_modChan_other _ other]; rfl

theorem Dev.od_postLine (d : Dev) (c l : Nat) : (d.postLine c l).od = d.od := by
  unfold Dev.postLine
  split <;> rfl

theorem Dev.od_msix (d : Dev) (v : Nat) : (d.msix v).od = d.od := by
  unfold Dev.msix
  split <;> rfl

theorem Dev.od_deliver (d : Dev) (n : Nat) : (d.deliver n).od = d.od := by
  have line (e l : Nat) : (if e = 20 then d.msix l else d.postLine e l).od = d.od := by
    split
    · exact d.od_msix l
    · exact d.od_postLine e l
  unfold Dev.deliver
  dsimp only
  split
  · rfl
  · split
    · rw [Dev.od_postLine]
      exact line _ _
    · exact line _ _

/-- A source of the gather controller changes no object. -/
theorem Dev.od_raise (d : Dev) (n : Nat) : (d.raise n).od = d.od := by
  unfold Dev.raise
  dsimp only
  split
  · split
    · exact Dev.od_deliver _ _
    · rfl
  · rfl

theorem Dev.od_stAll (d : Dev) (a : Nat) (l : List Nat) : (d.stAll a l).od = d.od := by
  induction l generalizing d a with
  | nil => rfl
  | cons v l ih => exact ih _ _

/-- A log entry changes no object but the log's count. -/
theorem Dev.obn_logE {d : Dev} {code inst k : Nat} (h : k ≠ K.LOG_COUNT) : (d.logE code inst).obn k = d.obn k := by
  unfold Dev.logE
  dsimp only
  split
  · rw [Dev.obn_setOb_other _ _ _ _ h]
    simp only [Dev.obn, Dev.ob, Dev.od_stAll]
    rfl
  · rfl

theorem Dev.chState_faultChan (d : Dev) (c : Fin 96) (b : Bool) : (d.faultChan c b).chState c = 4 := by
  have flags : K.CH_STATE c ≠ K.CH_FLAGS c := by unfold K.CH_STATE K.CH_FLAGS; omega
  have log : K.CH_STATE c ≠ K.LOG_COUNT := by unfold K.CH_STATE K.LOG_COUNT; omega
  unfold Dev.faultChan
  simp only [Dev.chState, Dev.obn, Dev.ob, Dev.od_raise]
  refine (Dev.obn_logE log).trans ((Dev.obn_setOb_other _ _ _ _ flags).trans ?_)
  exact Dev.obn_setOb_same d _ 4

theorem Dev.chan_bump (d : Dev) (k c : Nat) : (d.bump k).chan c = d.chan c := by
  unfold Dev.bump Dev.bumpBy
  split
  · split <;> rfl
  · rfl

theorem Dev.chan_iff_bump (d : Dev) (b : Bool) (k c : Nat) : (d.iff b fun d => d.bump k).chan c = d.chan c := by
  rw [Dev.iff_eq]
  split
  · exact Dev.chan_bump d k c
  · rfl

/-- The fields of an entry's tag (R253). -/
theorem rxTag_low (bad new last : Bool) {cnt : Nat} (h : cnt < 4) : (b2n bad * 16 + b2n new * 8 + b2n last * 4 + cnt) % 16 = b2n new * 8 + b2n last * 4 + cnt := by
  have all : ∀ (bad new last : Bool) (cnt : Fin 4), (b2n bad * 16 + b2n new * 8 + b2n last * 4 + cnt.val) % 16 = b2n new * 8 + b2n last * 4 + cnt.val := by
    decide
  exact all bad new last ⟨cnt, h⟩

theorem rxTag_bad (new last : Bool) {cnt : Nat} (h : cnt < 4) : (b2n true * 16 + b2n new * 8 + b2n last * 4 + cnt).testBit 4 = true := by
  have all : ∀ (new last : Bool) (cnt : Fin 4), (b2n true * 16 + b2n new * 8 + b2n last * 4 + cnt.val).testBit 4 = true := by decide
  exact all new last ⟨cnt, h⟩

/-- A PUSH puts one entry at the end of the RX FIFO (R253). -/
theorem Dev.rxPush_entry (d : Dev) (c v : Nat) (last bad : Bool) (cnt : Fin 4) :
    ∃ e : RxEnt, ((d.rxPush c last bad cnt v).chan c).rxF = (d.chan c).rxF ++ [e] ∧
      e.tag % 16 = b2n (d.chan c).newFrame * 8 + b2n last * 4 + cnt ∧ (bad = true → e.tag.testBit 4 = true) ∧
      e.data = beNat (beBytes cnt (v % 2 ^ (8 * cnt.val)) ++ List.replicate (3 - cnt) 0) := by
  unfold Dev.rxPush
  dsimp only
  simp only [apply_ite (fun d : Dev => d.chan c), Dev.chan_bump, Dev.chan_iff_bump, ite_self, Dev.chan_modChan_same]
  have hc := cnt.isLt
  refine ⟨_, rfl, ?_, fun hb => ?_, rfl⟩
  · exact rxTag_low _ _ _ hc
  · subst hb
    exact rxTag_bad _ _ hc

theorem opnd_ofNat {n i k : Nat} (h : n < 2 ^ 14) : opnd (BitVec.ofNat 14 n) i k = n / 2 ^ i % 2 ^ k := by
  rw [opnd, BitVec.toNat_ofNat, Nat.mod_eq_of_lt h]

/-- The fields of a channel's word (R254). -/
theorem runnelWord_fields {op : Nat} (ho : op < 8) (dly : Fin 8) {v : Nat} (hv : v < 256) :
    let w := BitVec.ofNat 14 (2048 * op + 256 * dly + v)
    opnd w 11 3 = op ∧ opnd w 8 3 = dly ∧ (∀ i k, i + k ≤ 8 → opnd w i k = v / 2 ^ i % 2 ^ k) ∧ ∀ i, i < 8 → w.getLsbD i = v.testBit i := by
  intro w
  have hd := dly.isLt
  have small : 2048 * op + 256 * dly.val + v < 2 ^ 14 := by omega
  have high : 2048 * op + 256 * dly.val + v = 2 ^ 8 * (8 * op + dly) + v := by omega
  refine ⟨?_, ?_, fun i k hik => ?_, fun i hi => ?_⟩
  · rw [opnd_ofNat small]; omega
  · rw [opnd_ofNat small]; omega
  · obtain ⟨j, hj⟩ := Nat.exists_eq_add_of_le hik
    have eight : 2 ^ 8 = 2 ^ i * 2 ^ k * 2 ^ j := by rw [← Nat.pow_add, ← Nat.pow_add, ← hj]
    have part : 2 ^ 8 * (8 * op + dly.val) = 2 ^ i * (2 ^ k * (2 ^ j * (8 * op + dly))) := by rw [eight, Nat.mul_assoc, Nat.mul_assoc]
    rw [opnd_ofNat small, high, part, Nat.mul_add_div (Nat.two_pow_pos i), Nat.mul_add_mod]
  · rw [BitVec.getLsbD_ofNat, decide_eq_true (by omega : i < 14), Bool.true_and, high, Nat.testBit_two_pow_mul_add _ hv, if_pos hi]

theorem congr_both {α β γ : Sort _} (f : α → β → γ) {a a' : α} {b b' : β} (h : a = a') (k : b = b') : f a b = f a' b' := by rw [h, k]

theorem fin_of_mod {n a : Nat} [NeZero n] {k : Fin n} (h : a = k) : Fin.ofNat n a = k := by
  subst h
  exact Fin.ofNat_val_eq_self k

theorem bit_of_b2n {n i : Nat} {b : Bool} (h : n / 2 ^ i % 2 = b2n b) : n.testBit i = b := by
  rw [Nat.testBit_eq_decide_div_mod_eq, h]
  cases b <;> rfl

theorem ofNat_of_mod {n a : Nat} {v : BitVec n} (h : a = v.toNat) : BitVec.ofNat n a = v := by
  rw [h, BitVec.ofNat_toNat, BitVec.setWidth_eq]

section
variable (ch : Fin 96) (lin : BitVec 4) (dly : Fin 8)

/-- The word with an OP, a DLY and an OPND. -/
def runnelWord (op : Nat) (dly : Fin 8) (v : Nat) : BitVec 14 := BitVec.ofNat 14 (2048 * op + 256 * dly + v)

/-- What each OP makes of its OPND (R257 to R262). -/
theorem decodeRunnel_jmp {v : Nat} (hv : v < 256) : decodeRunnel ch lin (runnelWord 0 dly v) = .rnJmp ch dly (BitVec.ofNat 8 v) := by
  obtain ⟨op, d, sub, -⟩ := runnelWord_fields (op := 0) (by decide) dly hv
  rw [runnelWord, decodeRunnel, op, d, sub 0 8 (by decide), Fin.ofNat_val_eq_self, show v / 2 ^ 0 % 2 ^ 8 = v by omega]
  rfl

theorem decodeRunnel_jcond {v : Nat} (hv : v < 256) :
    decodeRunnel ch lin (runnelWord 1 dly v) = .rnJcond ch dly (Fin.ofNat 8 (v / 32)) (BitVec.ofNat 5 (v % 32)) lin := by
  obtain ⟨op, d, sub, -⟩ := runnelWord_fields (op := 1) (by decide) dly hv
  rw [runnelWord, decodeRunnel, op, d, sub 5 3 (by decide), sub 0 5 (by decide), Fin.ofNat_val_eq_self, show v / 2 ^ 5 % 2 ^ 3 = v / 32 by omega,
    show v / 2 ^ 0 % 2 ^ 5 = v % 32 by omega]
  rfl

theorem decodeRunnel_wait {v : Nat} (hv : v < 256) :
    decodeRunnel ch lin (runnelWord 2 dly v) = .rnWait ch dly (Fin.ofNat 4 (v / 64)) (Fin.ofNat 8 (v / 8 % 8)) lin := by
  obtain ⟨op, d, sub, -⟩ := runnelWord_fields (op := 2) (by decide) dly hv
  rw [runnelWord, decodeRunnel, op, d, sub 6 2 (by decide), sub 3 3 (by decide), Fin.ofNat_val_eq_self, show v / 2 ^ 6 % 2 ^ 2 = v / 64 by omega]
  rfl

theorem decodeRunnel_in {v : Nat} (hv : v < 256) : decodeRunnel ch lin (runnelWord 3 dly v) =
    match v / 64 with
    | 0 => .inRhr ch dly (v.testBit 5) (v.testBit 4)
    | 1 => .inReport ch dly (v.testBit 5) (Fin.ofNat 8 (v % 8))
    | 2 => .inIv ch dly (v.testBit 5) lin
    | _ => .inTime ch dly (v.testBit 5) := by
  obtain ⟨op, d, sub, bit⟩ := runnelWord_fields (op := 3) (by decide) dly hv
  rw [runnelWord, decodeRunnel, op, d, sub 6 2 (by decide), sub 0 3 (by decide), bit 5 (by decide), bit 4 (by decide), Fin.ofNat_val_eq_self,
    show v / 2 ^ 6 % 2 ^ 2 = v / 64 by omega, show v / 2 ^ 0 % 2 ^ 3 = v % 8 by omega] <;> rfl

theorem decodeRunnel_out {v : Nat} (hv : v < 256) :
    decodeRunnel ch lin (runnelWord 4 dly v) = .rnOut ch dly (v.testBit 7) (Fin.ofNat 4 (v / 32 % 4)) (BitVec.ofNat 5 (v % 32)) := by
  obtain ⟨op, d, sub, bit⟩ := runnelWord_fields (op := 4) (by decide) dly hv
  rw [runnelWord, decodeRunnel, op, d, sub 5 2 (by decide), sub 0 5 (by decide), bit 7 (by decide), Fin.ofNat_val_eq_self,
    show v / 2 ^ 0 % 2 ^ 5 = v % 32 by omega]
  rfl

theorem decodeRunnel_mov {v : Nat} (hv : v < 256) : decodeRunnel ch lin (runnelWord 5 dly v) =
    match v / 64 with
    | 0 => .rnMov ch dly (Fin.ofNat 8 (v / 8 % 8)) (Fin.ofNat 8 (v % 8)) lin
    | 1 => .rnPush ch dly (v.testBit 5) (v.testBit 4) (Fin.ofNat 4 (v / 4 % 4)) (v.testBit 1) (v.testBit 0)
    | 2 => .rnPull ch dly (v.testBit 1) (v.testBit 0)
    | _ => .rnIllegal ch false := by
  obtain ⟨op, d, sub, bit⟩ := runnelWord_fields (op := 5) (by decide) dly hv
  rw [runnelWord, decodeRunnel, op, d, sub 6 2 (by decide), sub 3 3 (by decide), sub 0 3 (by decide), sub 2 2 (by decide), bit 5 (by decide),
    bit 4 (by decide), bit 1 (by decide), bit 0 (by decide), Fin.ofNat_val_eq_self, show v / 2 ^ 6 % 2 ^ 2 = v / 64 by omega,
    show v / 2 ^ 0 % 2 ^ 3 = v % 8 by omega] <;> rfl

theorem decodeRunnel_set {v : Nat} (hv : v < 256) (l : BitVec 5) (hl : l = BitVec.ofNat 5 (v % 32)) : decodeRunnel ch lin (runnelWord 6 dly v) =
    match v / 32 with
    | 0 => .setDrv ch dly l
    | 1 => .setX ch dly l
    | 2 => .setY ch dly l
    | 3 => .setLine ch dly l
    | 4 => .setRxctl ch dly l
    | 5 => .setTsarm ch dly l
    | 6 => .setBitph ch dly l
    | _ => .setSc ch dly l := by
  obtain ⟨op, d, sub, -⟩ := runnelWord_fields (op := 6) (by decide) dly hv
  rw [runnelWord, decodeRunnel, op, d, sub 5 3 (by decide), sub 0 5 (by decide), Fin.ofNat_val_eq_self, show v / 2 ^ 5 % 2 ^ 3 = v / 32 by omega,
    show v / 2 ^ 0 % 2 ^ 5 = v % 32 by omega, ← hl] <;> rfl

theorem decodeRunnel_ctl {v : Nat} (hv : v < 256) (l : BitVec 5) (hl : l = BitVec.ofNat 5 (v % 32)) : decodeRunnel ch lin (runnelWord 7 dly v) =
    match v / 32 with
    | 0 => .ctlIrq ch dly l
    | 1 => .ctlSync ch dly l
    | 2 => .ctlDelay ch dly l
    | 3 => .ctlSafe ch dly l
    | 4 => .ctlHalt ch dly l
    | _ => .rnIllegal ch false := by
  obtain ⟨op, d, sub, -⟩ := runnelWord_fields (op := 7) (by decide) dly hv
  rw [runnelWord, decodeRunnel, op, d, sub 5 3 (by decide), sub 0 5 (by decide), Fin.ofNat_val_eq_self, show v / 2 ^ 5 % 2 ^ 3 = v / 32 by omega,
    show v / 2 ^ 0 % 2 ^ 5 = v % 32 by omega, ← hl] <;> rfl

theorem spelt_in (toY nb : Bool) (x : Fin 16) (y : Fin 4) (w : Fin 8) (z : Fin 32) :
    decodeRunnel ch lin (runnelWord 3 dly (32 * b2n toY + 16 * b2n nb + x)) = .inRhr ch dly toY nb ∧
    decodeRunnel ch lin (runnelWord 3 dly (64 + 32 * b2n toY + 8 * y + w)) = .inReport ch dly toY w ∧
    decodeRunnel ch lin (runnelWord 3 dly (128 + 32 * b2n toY + z)) = .inIv ch dly toY lin ∧
    decodeRunnel ch lin (runnelWord 3 dly (192 + 32 * b2n toY + z)) = .inTime ch dly toY := by
  have hx := x.isLt
  have hy := y.isLt
  have hw := w.isLt
  have hz := z.isLt
  have ht : b2n toY < 2 := by cases toY <;> decide
  have hn : b2n nb < 2 := by cases nb <;> decide
  refine ⟨?_, ?_, ?_, ?_⟩
  · rw [decodeRunnel_in _ _ _ (by omega), show (32 * b2n toY + 16 * b2n nb + x.val) / 64 = 0 by omega]
    exact congr_both _ (bit_of_b2n (by omega)) (bit_of_b2n (by omega))
  · rw [decodeRunnel_in _ _ _ (by omega), show (64 + 32 * b2n toY + 8 * y.val + w.val) / 64 = 1 by omega]
    exact congr_both _ (bit_of_b2n (by omega)) (fin_of_mod (by omega))
  · rw [decodeRunnel_in _ _ _ (by omega), show (128 + 32 * b2n toY + z.val) / 64 = 2 by omega]
    exact congrArg (Instr.inIv ch dly · lin) (bit_of_b2n (by omega))
  · rw [decodeRunnel_in _ _ _ (by omega), show (192 + 32 * b2n toY + z.val) / 64 = 3 by omega]
    exact congrArg _ (bit_of_b2n (by omega))

theorem spelt_mov (dst source : Fin 8) : decodeRunnel ch lin (runnelWord 5 dly (8 * dst + source)) = .rnMov ch dly dst source lin := by
  have hd := dst.isLt
  have hs := source.isLt
  rw [decodeRunnel_mov _ _ _ (by omega), show (8 * dst.val + source.val) / 64 = 0 by omega]
  exact congr_both (Instr.rnMov ch dly · · lin) (fin_of_mod (by omega)) (fin_of_mod (by omega))

theorem spelt_push (last bad fromY nb : Bool) (n : Fin 4) :
    decodeRunnel ch lin (runnelWord 5 dly (64 + 32 * b2n last + 16 * b2n bad + 4 * n + 2 * b2n fromY + b2n nb)) = .rnPush ch dly last bad n fromY nb := by
  have hn := n.isLt
  have h1 : b2n last < 2 := by cases last <;> decide
  have h2 : b2n bad < 2 := by cases bad <;> decide
  have h3 : b2n fromY < 2 := by cases fromY <;> decide
  have h4 : b2n nb < 2 := by cases nb <;> decide
  obtain ⟨v, hv⟩ : ∃ v, 64 + 32 * b2n last + 16 * b2n bad + 4 * n.val + 2 * b2n fromY + b2n nb = v := ⟨_, rfl⟩
  rw [hv, decodeRunnel_mov _ _ _ (by omega), show v / 64 = 1 by omega]
  rw [bit_of_b2n (b := last) (by omega), bit_of_b2n (b := bad) (by omega), bit_of_b2n (b := fromY) (by omega), bit_of_b2n (b := nb) (by omega),
    fin_of_mod (k := n) (by omega)]
  rfl

theorem spelt_pull (x : Fin 16) (toY nb : Bool) :
    decodeRunnel ch lin (runnelWord 5 dly (128 + 4 * x + 2 * b2n toY + b2n nb)) = .rnPull ch dly toY nb := by
  have hx := x.isLt
  have h1 : b2n toY < 2 := by cases toY <;> decide
  have h2 : b2n nb < 2 := by cases nb <;> decide
  rw [decodeRunnel_mov _ _ _ (by omega), show (128 + 4 * x.val + 2 * b2n toY + b2n nb) / 64 = 2 by omega]
  exact congr_both _ (bit_of_b2n (by omega)) (bit_of_b2n (by omega))

theorem spelt_out (cont : Bool) (source : Fin 4) (v : BitVec 5) :
    decodeRunnel ch lin (runnelWord 4 dly (128 * b2n cont + 32 * source + v.toNat)) = .rnOut ch dly cont source v := by
  have hs := source.isLt
  have hv := v.isLt
  have hc : b2n cont < 2 := by cases cont <;> decide
  rw [decodeRunnel_out _ _ _ (by omega), bit_of_b2n (b := cont) (by omega), fin_of_mod (k := source) (by omega), ofNat_of_mod (v := v) (by omega)]

end

/-- Settles O20: completion, fault, push, and the words by their OP. -/
theorem runnelAdvance : Obligations.RunnelAdvance := by
  refine ⟨fun d c pc extra still => Dev.rnNext_goes still, Dev.chState_faultChan, fun d c v last bad cnt => Dev.rxPush_entry d c v last bad cnt,
    fun ch lin dly => ?_⟩
  intro spelt
  refine ⟨fun a => ?_, fun k v => ?_, fun m k x => ?_, fun toY nb x => (spelt_in ch lin dly toY nb x 0 0 0).1, fun toY x w => (spelt_in ch lin dly toY false 0 x w 0).2.1,
    fun toY x => (spelt_in ch lin dly toY false 0 0 0 x).2.2, spelt_out ch lin dly, spelt_mov ch lin dly, spelt_push ch lin dly, spelt_pull ch lin dly,
    fun x => ?_, fun v => ?_, fun v => ?_, fun x => ?_⟩
  · refine (decodeRunnel_jmp ch lin dly a.isLt).trans ?_
    rw [ofNat_of_mod rfl]
  · have hk := k.isLt
    have hv := v.isLt
    refine (decodeRunnel_jcond ch lin dly (v := 32 * k + v.toNat) (by omega)).trans ?_
    rw [fin_of_mod (k := k) (by omega), ofNat_of_mod (v := v) (by omega)]
  · have hm := m.isLt
    have hk := k.isLt
    have hx := x.isLt
    refine (decodeRunnel_wait ch lin dly (v := 64 * m + 8 * k + x) (by omega)).trans ?_
    rw [fin_of_mod (k := m) (by omega), fin_of_mod (k := k) (by omega)]
  · have hx := x.isLt
    refine (decodeRunnel_mov ch lin dly (v := 192 + x) (by omega)).trans ?_
    rw [show (192 + x.val) / 64 = 3 by omega]
    rfl
  · have hv := v.isLt
    have lit (g : Nat) : v = BitVec.ofNat 5 ((32 * g + v.toNat) % 32) := (ofNat_of_mod (by omega)).symm
    have group (g : Nat) : (32 * g + v.toNat) / 32 = g := by omega
    have set (g : Nat) (hg : g < 8) := decodeRunnel_set ch lin dly (v := 32 * g + v.toNat) (by omega) v (lit g)
    simp only [group] at set
    refine ⟨?_, set 1 (by decide), set 2 (by decide), set 3 (by decide), set 4 (by decide), set 5 (by decide), set 6 (by decide), set 7 (by decide)⟩
    exact (decodeRunnel_set ch lin dly (v := v.toNat) (by omega) v (ofNat_of_mod (by omega)).symm).trans (by rw [show v.toNat / 32 = 0 by omega]; rfl)
  · have hv := v.isLt
    have lit (g : Nat) : v = BitVec.ofNat 5 ((32 * g + v.toNat) % 32) := (ofNat_of_mod (by omega)).symm
    have group (g : Nat) : (32 * g + v.toNat) / 32 = g := by omega
    have ctl (g : Nat) (hg : g < 8) := decodeRunnel_ctl ch lin dly (v := 32 * g + v.toNat) (by omega) v (lit g)
    simp only [group] at ctl
    refine ⟨?_, ctl 1 (by decide), ctl 2 (by decide), ctl 3 (by decide), ctl 4 (by decide)⟩
    exact (decodeRunnel_ctl ch lin dly (v := v.toNat) (by omega) v (ofNat_of_mod (by omega)).symm).trans (by rw [show v.toNat / 32 = 0 by omega]; rfl)
  · have hx := x.isLt
    refine (decodeRunnel_ctl ch lin dly (v := 160 + x) (by omega) _ rfl).trans ?_
    rcases (by omega : (160 + x.val) / 32 = 5 ∨ (160 + x.val) / 32 = 6 ∨ (160 + x.val) / 32 = 7) with h | h | h <;> rw [h] <;> rfl

end Sys2Proof.Machine
end

section
/-! SUPPORT. The mode manager and the thermal supervision (spec 02, R39 to R68). -/
set_option Elab.async false
namespace Sys2Proof.Machine

theorem modeRequest_effect (d : Dev) (n : Nat) (src : Option Src) :
    d.effect ⟨0x0, 0x1, 1, 1, 0x1, 1, .u8, .rw, 0, 0, 255, none, false, .modeRequest⟩ K.MODE_REQUEST (n : Int) src true = d.modeWrite_ n src := by
  show d.modeWrite_ (Int.toNat n) src = _
  rw [Int.toNat_natCast]

/-- A request of Hold (R39). -/
theorem Dev.modeRequest_hold {d : Dev} {r : Option Src} (low : 2 ≤ d.mode) (high : d.mode ≤ 6) :
    d.modeRequest 7 r = ((d.setOb K.LIMP_CAUSE (putBit (d.obn K.LIMP_CAUSE) 3 false : Nat)).enterHold 4, some Stat.done) := by
  have allowed : modeAllows d.mode 7 = true := by simp [modeAllows, low, high]
  unfold Dev.modeRequest
  dsimp only
  rw [if_neg (by decide), if_neg (by omega), if_neg (by simp), if_neg (by simp [allowed]), if_pos rfl]
  rfl

/-- A request of Commission, Run or Fast that its checks let pass. -/
theorem Dev.modeRequest_run {d : Dev} {v : Nat} {r : Option Src} (low : 2 ≤ v) (high : v ≤ 4) (new : v ≠ d.mode) (free : d.mm.waiting = none)
    (allowed : modeAllows d.mode v = true) :
    let d' := d.setOb K.LIMP_CAUSE (putBit (d.obn K.LIMP_CAUSE) 3 false : Nat)
    d'.targetStatus v = Stat.done → d'.modeFits v = true → d.modeRequest v r = (d'.enterRun v, some Stat.done) := by
  intro d' ready fits
  have cleared : (d.iff (v != 6) fun d => d.setOb K.LIMP_CAUSE (putBit (d.obn K.LIMP_CAUSE) 3 false : Nat)) = d' :=
    if_pos (bne_iff_ne.mpr (by omega))
  have five : ¬ (decide (v = 5) && decide (d'.mm.gearedNum = 0)) = true := by simp [show v ≠ 5 by omega]
  have goes : d'.changeTo v = (d'.enterRun v, Stat.done) := by
    rw [Dev.changeTo, ready, fits]
    rfl
  unfold Dev.modeRequest
  simp only [cleared]
  rw [if_neg (by simp; omega), if_neg new, if_neg (by simp [free]), if_neg (by simp [allowed]), if_neg (by omega), if_neg (by omega), if_neg (by omega),
    if_neg (by simp [ready]), if_neg five, goes]

theorem modeRequest_writes {s : State} {r : Src} {v : Nat} {d' : Dev} (h : s.opens r K.MODE_REQUEST [v] 1 = true) (hv : v ≤ 255)
    (grants : (s.taken r 2 K.MODE_REQUEST 0 [v]).modeRequest v (some r) = (d', some Stat.done)) :
    run (·.writeReq r K.MODE_REQUEST [v]) s = .next (s.wrote r K.MODE_REQUEST [v] (d'.setOb K.MODE_REQUEST (v : Nat))) := by
  refine write_word h key_MODE_REQUEST (.inr (.inl ⟨rfl, by decide⟩)) rfl (by decide) (by omega) (by simp) ⟨Int.natCast_nonneg _, Int.ofNat_le.mpr hv⟩ ?_
  rw [modeRequest_effect, Dev.modeWrite_, grants]
  rfl

theorem tjMax_resets {s : State} {r : Src} {v : Word} (h : s.opens r K.TJ_MAX [v.toNat] 1 = true) :
    let d := s.taken r 2 K.TJ_MAX 0 [v.toNat]
    exec (.tjMaxReset r v) s = .next (s.wrote r K.TJ_MAX [v.toNat] (d.event.setOb K.TJ_MAX d.tj)) := by
  have decodes : Ty.decode .s24 [v.toNat] = some v.toInt := by
    rw [← sext_toNat (by decide) v]
    rfl
  have lo := BitVec.le_toInt v
  have hi := BitVec.toInt_lt (x := v)
  exact write_row h key_TJ_MAX rfl (by decide) (by omega) (by simp) rfl (by decide) decodes ⟨by simpa using lo, by simp; omega⟩ rfl

/-- A sample in Dormant is the Sump's alone (R53). -/
theorem Dev.tjSample_dormant {d : Dev} {temps : List Int} {sump : Int} (dormant : d.mode = 0) :
    d.tjSample temps sump = (d.modMm fun x => { x with sumpTemp := sump, sensors := [] }).iff (decide (d.mm.sumpTemp < 1250) && decide (1250 ≤ sump))
      fun d => d.logE 0x1012 0 := by
  unfold Dev.tjSample
  simp only [if_pos dormant]
  exact if_pos dormant

/-- A sample past Dormant: a shutdown, or the mode manager's judgement. -/
theorem Dev.tjSample_hot {d : Dev} {temps : List Int} {sump : Int} (awake : d.mode ≠ 0) :
    let e := d.modMm fun x => { x with sumpTemp := sump, sensors := (temps :: x.sensors).take 10 }
    1250 ≤ e.tj ∨ 1250 ≤ sump → d.tjSample temps sump = e.thermalShutdown := by
  intro e hot
  unfold Dev.tjSample
  simp only [if_neg awake]
  refine (if_neg awake).trans (if_pos ?_)
  show (decide (1250 ≤ e.tj) || decide (1250 ≤ sump)) = true
  simpa using hot

theorem Dev.tjSample_cool {d : Dev} {temps : List Int} {sump : Int} (awake : d.mode ≠ 0) :
    let e := d.modMm fun x => { x with sumpTemp := sump, sensors := (temps :: x.sensors).take 10 }
    e.tj < 1120 → sump < 1250 → e.served 1 = true → e.tj ≤ (mget? e.od K.TJ_MAX).getD (-100000) → e.tj < e.ob K.TJ_WARN → e.mm.warn = false →
    e.mm.thermCause = false → d.tjSample temps sump = e := by
  intro e cool sumpCool served most below noWarn noCause
  have noMax : ∀ f, (e.iff (decide ((mget? e.od K.TJ_MAX).getD (-100000) < e.tj)) f) = e := fun f => if_neg (by simpa using most)
  unfold Dev.tjSample
  simp only [if_neg awake]
  refine (if_neg awake).trans ((if_neg ?_).trans ((if_neg ?_).trans ?_))
  · show ¬ (decide (1250 ≤ e.tj) || decide (1250 ≤ sump)) = true
    simp only [Bool.or_eq_true, decide_eq_true_eq]
    omega
  · show ¬ (!e.served 1) = true
    simp [served]
  · rw [show (d.modMm _) = e from rfl]
    simp only [noMax]
    rw [if_neg (c := (!e.mm.warn && decide (e.ob K.TJ_WARN ≤ e.tj)) = true) (by simp; omega), noWarn]
    simp only [Bool.false_and]
    rw [if_neg Bool.false_ne_true, noCause, Bool.false_and, if_neg Bool.false_ne_true]
    exact if_neg (by simp; omega)

/-- Settles O3. -/
theorem modeCommands : Obligations.ModeCommands := by
  refine ⟨fun s r h => ?_, fun s r v h low high => ?_, fun s t wait hold => ?_,
    fun s t clear limp back served => ?_, fun s t at_ some_ => ?_, fun s temps sump len dormant => ?_, fun s temps sump len awake => ?_,
    fun s temps sump len => wants_fault (beq_eq_false_iff_ne.mpr len) _ _ s, fun s t drew limp => ?_, fun s r v h => tjMax_resets h⟩
  · intro d low high
    exact modeRequest_writes h (by decide) (Dev.modeRequest_hold low high)
  · intro d d' new free allowed ready fits
    exact modeRequest_writes h (by omega) (Dev.modeRequest_run low high new free allowed ready fits)
  · refine run_after (f := (·.limpWaitEnds)) ?_
    show s.cmd.limpWaitEnds = _
    rw [Dev.limpWaitEnds, wait]
    exact if_pos hold
  · refine run_after (f := (·.limpReturn)) ?_
    show s.cmd.limpReturn = _
    rw [Dev.limpReturn, clear]
    exact if_pos (by simp [limp, back, served])
  · intro d
    refine run_after (f := (·.wakeAlarm)) ?_
    subst at_
    exact if_neg some_
  · intro d
    have sampled := Dev.tjSample_dormant (temps := temps) (sump := sump) dormant
    refine ⟨fun cool => wants_after (f := (·.tjSample temps sump)) (beq_iff_eq.mpr len) (sampled.trans (if_neg ?_)), fun hot first =>
      wants_after (f := (·.tjSample temps sump)) (beq_iff_eq.mpr len) (sampled.trans (if_pos ?_))⟩
    · simp only [Bool.and_eq_true, decide_eq_true_eq]; omega
    · simp [hot, first]
  · intro d
    exact ⟨fun hot => wants_after (f := (·.tjSample temps sump)) (beq_iff_eq.mpr len) (Dev.tjSample_hot awake hot),
      fun cool sumpCool served most below noWarn noCause =>
        wants_after (f := (·.tjSample temps sump)) (beq_iff_eq.mpr len) (Dev.tjSample_cool awake cool sumpCool served most below noWarn noCause)⟩
  · refine run_after (f := (·.limpDraw)) ?_
    show s.cmd.limpDraw = _
    rw [Dev.limpDraw, drew]
    exact if_pos limp

end Sys2Proof.Machine
end

section
/-! SUPPORT. Power, resets, the supply and the reference clock (spec 01, R13 to R47; 10, R275; 19, R517 to R536; 20, R551 to R556). -/
set_option Elab.async false
namespace Sys2Proof.Machine

/-- A chunk of the host's image that fits goes behind the words that came before it (R526). -/
theorem Dev.hostChunk_takes {d : Dev} (booting : d.sump.booting = true) (window : d.sump.hostWindow = true) (rung : (d.bell 16).testBit 0 = true) :
    let e := d.readBell 16
    let len := e.ld 0x048902
    let ofs := e.ld 0x048904
    let n := e.ld 0x048901 % 65536
    d.ld 0x048903 = 1 → len ≠ 0 → len ≤ 30208 → ofs = e.sump.hostWords → ofs + len ≤ 65582 →
    d.hostChunk = (((e.stAll (0x100000 + ofs) (e.ldAll 0x048A00 len)).modSump fun x => { x with hostWords := ofs + len }).st 0x048901 (n + 1)).st 0x048903 0 := by
  intro e len ofs n ctrl some_ most next whole
  have done (m : Nat) : Stat.done * 65536 + (m + 1) = m + 1 := by rw [show Stat.done = 0 from rfl]; omega
  unfold Dev.hostChunk
  dsimp only
  rw [ctrl]
  refine (if_neg (by simp [booting, window, rung])).trans ((if_neg ?_).trans ((if_pos (by decide)).trans ?_))
  · show ¬ (decide (len = 0) || decide (30208 < len) || decide (ofs ≠ e.sump.hostWords) || decide (65582 < ofs + len)) = true
    simp [some_, next]
    omega
  · rw [done]

/-- A store that was not served leaves the word as it was (R32). -/
theorem Dev.storeDropped_restores {d : Dev} {agent a : Nat} {x : LastStore} (last : mget? d.stores agent = some x) (here : x.addr = a) (stands : d.ld a = x.new)
    (clean : x.bad = false) : d.storeDropped agent a = { d.st a x.old with stores := mdel d.stores agent } := by
  rw [Dev.storeDropped, last]
  dsimp only
  rw [if_neg (by simp [here, stands]), clean]
  rfl

theorem Dev.storeDropped_none {d : Dev} {agent a : Nat} (none_ : mget? d.stores agent = none) : d.storeDropped agent a = d := by
  rw [Dev.storeDropped, none_]

theorem Dev.busTimeout_core {d : Dev} {c : Fin 21} {a : Nat} {wr : Bool} (hc : c.val < 20) (runs : d.coreRuns c = true) :
    d.busTimeout c a wr = (if wr then d.storeDropped c a else d.modCore c fun x =>
      { (if h : x.accReg < 16 then x.setReg ⟨x.accReg, h⟩ 0 else x) with accReg := 0 }).accessFault c (if wr then 2 else 1) Stat.timeout a := by
  rw [Dev.busTimeout, if_neg (by omega), if_neg (by simp [runs])]

theorem Dev.busTimeout_host {d : Dev} {a : Nat} {wr : Bool} (up : d.host.linkUp = true) :
    d.busTimeout 20 a wr = if wr then d.storeDropped 20 a else d.emit (.hostData [0xFF000007]) := by
  rw [Dev.busTimeout, if_pos rfl, if_neg (by simp [up])]

theorem Dev.bootLimit_restarts {d : Dev} (due : d.sump.startDue = true) (window : d.sump.hostWindow = false) (copy : d.sump.bootCopy ≤ 1) :
    let e := d.upTo (d.sump.bootAt + d.obn K.BOOT_LIMIT * 1000000)
    let x := ((e.setOb K.COPY_FAIL (putBit (e.obn K.COPY_FAIL) e.sump.bootCopy true : Nat)).logE 0x5045 0).fresh 3
    d.bootLimit = x.2.warmRestart x.1 :=
  if_neg (by simp [due, window]; omega)

theorem Dev.refPresent_back {d : Dev} (absent : d.sump.refAbsent = true) : d.refPresent =
    let e := (d.modSump fun x => { x with refAbsent := false, oscFrac := 0 }).logE 0xF011 0
    if e.sump.waitRef then e.bootStart 0 e.sump.bootWhy else if e.mode = 0 then e else e.warmRestart 5 :=
  if_neg (by simp [absent])

/-- Settles O55. -/
theorem supplyEvents : Obligations.SupplyEvents := by
  refine ⟨fun s due window copy => run_after (f := (·.bootLimit)) (Dev.bootLimit_restarts due window copy), fun s booting window rung => ?_, fun s present => ?_,
    fun s absent => ?_, fun s high => run_after (f := (·.holdPinLow)) (if_neg (by simp [show s.cmd.sump.holdLow = false from high])),
    fun s low => run_after (f := (·.holdPinHigh)) (if_neg (by simp [show s.cmd.sump.holdLow = true from low])),
    fun s c a hc runs => ⟨?_, fun none_ => ?_, fun x last here stands clean => ?_⟩, fun s a up => ⟨?_, fun none_ => ?_⟩, fun s on => ?_⟩
  · intro d len ofs n ctrl some_ most next whole
    exact run_after (f := (·.hostChunk)) (Dev.hostChunk_takes booting window rung ctrl some_ most next whole)
  · intro d
    exact run_after (f := (·.refAbsent)) (if_neg (by simp [present]))
  · intro d
    have back := Dev.refPresent_back absent
    refine ⟨fun waits => ?_, fun goes off => ?_, fun goes on => ?_⟩
    · exact run_after (f := (·.refPresent)) (back.trans (if_pos waits))
    · exact run_after (f := (·.refPresent)) (back.trans ((if_neg fun e => Bool.noConfusion (goes.symm.trans e)).trans (if_pos off)))
    · exact run_after (f := (·.refPresent)) (back.trans ((if_neg fun e => Bool.noConfusion (goes.symm.trans e)).trans (if_neg on)))
  · exact run_after (f := (·.busTimeout c a.toNat false)) (Dev.busTimeout_core hc runs)
  · refine run_after (f := (·.busTimeout c a.toNat true)) ((Dev.busTimeout_core hc runs).trans ?_)
    rw [if_pos rfl, if_pos rfl, Dev.storeDropped_none (d := s.cmd) none_]
  · intro d e
    refine run_after (f := (·.busTimeout c a.toNat true)) ((Dev.busTimeout_core hc runs).trans ?_)
    rw [if_pos rfl, if_pos rfl, Dev.storeDropped_restores (d := s.cmd) last here stands clean]
    rfl
  · exact run_after (f := (·.busTimeout 20 a.toNat false)) (Dev.busTimeout_host up)
  · exact run_after (f := (·.busTimeout 20 a.toNat true)) ((Dev.busTimeout_host up).trans (Dev.storeDropped_none none_))
  · exact run_after (f := (·.sumpWatchdog)) (if_neg on)

end Sys2Proof.Machine
end

section
/-! SUPPORT. Power on, RESET#, PERST# and the restarts (spec 19, R517 to R536; 20, R546 to R556). -/
set_option Elab.async false
namespace Sys2Proof.Machine

theorem Dev.powerOn_idle {d : Dev} (idle : d.store.saving = none) : d.powerOn =
    { free := d.free, out := d.ppsFall.out, store := d.store, sump := { holdLow := d.sump.holdLow, perstLow := d.sump.perstLow } } := by
  rw [Dev.powerOn, idle]

theorem Dev.resetLow_falls {d : Dev} (high : d.sump.resetLow = false) : d.resetLow =
    ((((d.abortChange.hardHold.setOb K.MODE 0).allOff).setOb K.RESET_CAUSE 1).modSump fun x =>
      { x with resetLow := true, hardHold := true, endpointSaved := false }) := if_neg (by simp [high])

/-- The block as RESET# comes back: the straps, TEST_MODE and the flash that is found (R519, R546). -/
def Dev.strapped (d : Dev) (straps : Nat) (test : Bool) (flash : Flash) : Dev :=
  let d := (d.setOb K.BOOTSEL (straps : Nat)).modSump fun x => { x with resetLow := false, straps := straps, testMode := test, flashOk := flash != .absent }
  match flash with
  | .image l => { d with store := { d.store with flash := l.foldl (fun m e => if e.2 = 0xFF then mdel m e.1 else mput m e.1 e.2) [], atticA := none, atticB := none } }
  | _ => d

theorem Dev.strapped_keeps (d : Dev) (straps : Nat) (test : Bool) (flash : Flash) :
    (d.strapped straps test flash).mm = d.mm ∧ (d.strapped straps test flash).sump.testMode = test ∧
    (d.strapped straps test flash).sump.refAbsent = d.sump.refAbsent ∧ (d.strapped straps test flash).od = (d.setOb K.BOOTSEL (straps : Nat)).od := by
  cases flash <;> exact ⟨rfl, rfl, rfl, rfl⟩

theorem Dev.resetCause_strapped (d : Dev) (straps : Nat) (test : Bool) (flash : Flash) :
    (d.strapped straps test flash).obn K.RESET_CAUSE = d.obn K.RESET_CAUSE := by
  obtain ⟨-, -, -, od⟩ := d.strapped_keeps straps test flash
  rw [Dev.obn, Dev.ob, od]
  exact Dev.obn_setOb_other d K.BOOTSEL K.RESET_CAUSE straps (by decide)

theorem Dev.resetRelease_back {d : Dev} {straps : Nat} {test : Bool} {flash : Flash} (low : d.sump.resetLow = true) : d.resetRelease straps test flash =
    let e := d.strapped straps test flash
    let code : Nat := if d.obn K.RESET_CAUSE = 1 then 0xF002 else 0
    if straps = 3 then e.logReset code 0 else if 1000 ≤ d.mm.sumpTemp then (e.logReset code 0).logE 0x1012 0 else e.bootStart code 0 := by
  have cause := d.resetCause_strapped straps test flash
  obtain ⟨mm, -, -, -⟩ := d.strapped_keeps straps test flash
  unfold Dev.resetRelease
  rw [if_neg (by simp [low])]
  dsimp only
  rw [← cause, ← mm]
  cases flash <;> rfl

theorem Dev.logReset_code (d : Dev) (c : Prop) [Decidable c] (inst : Nat) :
    d.logReset (if c then 0xF002 else 0) inst = if c then d.logE 0xF002 inst else d := by
  by_cases h : c
  · rw [if_pos h, if_pos h]
    exact if_neg (by decide)
  · rw [if_neg h, if_neg h]
    exact if_pos rfl

theorem Dev.bootStart_test {d : Dev} {code inst : Nat} (test : d.sump.testMode = true) : d.bootStart code inst = d.logReset code inst := if_pos test

theorem Dev.bootStart_waits {d : Dev} {code inst : Nat} (test : d.sump.testMode = false) (absent : d.sump.refAbsent = true) :
    d.bootStart code inst = ((d.modSump fun x => { x with waitRef := true, bootWhy := inst }).logReset code inst).logE 0xF010 0 := by
  rw [Dev.bootStart, if_neg (by simp [test]), if_pos absent]

theorem resetRelease_returns {s : State} {straps : BitVec 2} {test : Bool} {flash : Flash} (low : s.dev.sump.resetLow = true) :
    let d := s.cmd.strapped straps.toNat test flash
    let logged := if s.dev.obn K.RESET_CAUSE = 1 then d.logE 0xF002 0 else d
    (straps = 3 → exec (.resetRelease straps test flash) s = .next (s.after logged)) ∧
    (straps ≠ 3 → 1000 ≤ s.dev.mm.sumpTemp → exec (.resetRelease straps test flash) s = .next (s.after (logged.logE 0x1012 0))) ∧
    (straps ≠ 3 → s.dev.mm.sumpTemp < 1000 → test = true → exec (.resetRelease straps test flash) s = .next (s.after logged)) ∧
    (straps ≠ 3 → s.dev.mm.sumpTemp < 1000 → test = false → s.dev.sump.refAbsent = true →
      exec (.resetRelease straps test flash) s = .next (s.after
        ((if s.dev.obn K.RESET_CAUSE = 1 then (d.modSump fun x => { x with waitRef := true, bootWhy := 0 }).logE 0xF002 0
          else d.modSump fun x => { x with waitRef := true, bootWhy := 0 }).logE 0xF010 0))) ∧
    (straps ≠ 3 → s.dev.mm.sumpTemp < 1000 → test = false → s.dev.sump.refAbsent = false →
      exec (.resetRelease straps test flash) s = .next (s.after (d.bootStart (if s.dev.obn K.RESET_CAUSE = 1 then 0xF002 else 0) 0))) := by
  intro d logged
  obtain ⟨-, testMode, refAbsent, -⟩ := s.cmd.strapped_keeps straps.toNat test flash
  have back := Dev.resetRelease_back (d := s.cmd) (straps := straps.toNat) (test := test) (flash := flash) low
  have three : straps = 3 ↔ straps.toNat = 3 := BitVec.toNat_eq
  have noted := Dev.logReset_code d (s.dev.obn K.RESET_CAUSE = 1) 0
  have goes {e : Dev} (h : s.cmd.resetRelease straps.toNat test flash = e) : exec (.resetRelease straps test flash) s = .next (s.after e) :=
    run_after (f := (·.resetRelease straps.toNat test flash)) h
  have cool (other : straps ≠ 3) (low : s.dev.mm.sumpTemp < 1000) : s.cmd.resetRelease straps.toNat test flash =
      d.bootStart (if s.dev.obn K.RESET_CAUSE = 1 then 0xF002 else 0) 0 :=
    back.trans ((if_neg fun e => other (three.mpr e)).trans (if_neg (Int.not_le.mpr low)))
  refine ⟨fun dev => ?_, fun other hot => ?_, fun other low test => ?_, fun other low test absent => ?_, fun other low test present => goes (cool other low)⟩
  · exact goes (back.trans ((if_pos (three.mp dev)).trans noted))
  · exact goes (back.trans ((if_neg fun e => other (three.mpr e)).trans ((if_pos hot).trans (congrArg (Dev.logE · 0x1012 0) noted))))
  · exact goes ((cool other low).trans ((Dev.bootStart_test (testMode.trans test)).trans noted))
  · refine goes ((cool other low).trans ((Dev.bootStart_waits (testMode.trans test) (refAbsent.trans absent)).trans ?_))
    rw [Dev.logReset_code]

/-- A warm restart past RESET# (R536). -/
theorem Dev.warmRestart_eq {d : Dev} {cause : Nat} (high : d.sump.resetLow = false) :
    let e := (d.each ((List.range 20).filter d.coreRuns) fun d c => d.raise63 c).upTo (d.now + 100000)
    let e := ((e.modSump fun x => { x with endpointSaved := e.domOn 2 }).abortChange.hardHold.setOb K.MODE 0).allOff
    d.warmRestart cause = (((((e.each (List.range 20) fun d e => d.epochInc e).setOb K.RESET_CAUSE (cause : Nat)).bump K.WARM_RESTARTS).alert 3).upTo
      (d.now + 1000000)).bootStart 0xF001 cause :=
  if_neg (by simp [high])

theorem Dev.linkTrain_up (d : Dev) : d.linkTrain true =
    let r := (Config.freeValue 24 d.free).toNat
    let w := (Config.freeValue 24 (d.free + 1)).toNat
    { d with free := d.free + 2, host := { d.host with linkUp := true, rate := [25, 50, 80].getD (r % 3) 25, lanes := [1, 2, 4].getD (w % 3) 1 } } := rfl

theorem Dev.perstRelease_trains {d : Dev} (low : d.sump.perstLow = true) : d.perstRelease =
    let e := (d.hostLevels fun d => d.epochInc 20).modSump fun x => { x with perstLow := false, wakeLow := false }
    e.linkTrain (e.domOn 2) := if_neg (by simp [low])

/-- Settles O1. -/
theorem powerAndResetCommands : Obligations.PowerAndResetCommands := by
  refine ⟨fun s idle => run_after (f := (·.powerOn)) (Dev.powerOn_idle idle), fun s high => run_after (f := (·.resetLow)) (Dev.resetLow_falls high),
    fun s straps test flash low => resetRelease_returns low, fun s cause high c0 c1 c6 => ?_, fun s => rfl, fun s low => ?_, fun s => rfl, fun s rail low high => ?_,
    fun s rail tile core high => ?_, fun s rail out high => ?_⟩
  · intro d d'
    have other : ¬ (decide (cause.val = 0) || decide (cause.val = 1) || decide (cause.val = 6)) = true := by
      simp only [Bool.or_eq_true, decide_eq_true_eq, not_or]
      exact ⟨⟨fun e => c0 (Fin.ext e), fun e => c1 (Fin.ext e)⟩, fun e => c6 (Fin.ext e)⟩
    exact run_after (f := fun d => if cause.val = 0 || cause.val = 1 || cause.val = 6 then d else d.warmRestart cause.val)
      ((if_neg other).trans (Dev.warmRestart_eq (d := s.cmd) high))
  · intro d r w
    have trains := Dev.perstRelease_trains (d := s.cmd) low
    refine ⟨fun off => run_after (f := (·.perstRelease)) (trains.trans ?_), fun on => run_after (f := (·.perstRelease)) (trains.trans ?_)⟩
    · show d.linkTrain (d.domOn 2) = _
      rw [off]
      rfl
    · show d.linkTrain (d.domOn 2) = _
      rw [on]
      exact Dev.linkTrain_up d
  · have hl : rail.val < 7 := low
    refine run_after (f := (·.brownOut rail.val)) ((if_neg (by omega)).trans ((if_neg ?_).trans (if_neg (by omega))))
    simp [show s.cmd.sump.resetLow = false from high]
  · refine run_after (f := (·.brownOut rail.val)) ((if_neg (by omega)).trans ((if_neg ?_).trans ((if_pos tile).trans (if_neg core))))
    simp [show s.cmd.sump.resetLow = false from high]
  · refine run_after (f := (·.brownOutReturn rail.val)) ((if_neg ?_).trans (if_neg ?_))
    · rw [show s.cmd.sump.railsOut.contains rail.val = true from out]; decide
    · show ¬ s.cmd.sump.resetLow = true
      rw [show s.cmd.sump.resetLow = false from high]; decide

end Sys2Proof.Machine
end

section
/-! SUPPORT. A tile whose start has passed its end fails (spec 05, R148): `Obligations.TileCommands` says that it starts whenever its end is good. -/
set_option Elab.async false
namespace Sys2Proof.Machine

/-- A block whose tile 0 should have started 1 ns ago, and whose tile 1 is FAULTED. -/
def startLate : State := { dev := ({ now := 1 } : Dev).setOb (K.TILE_STATE 1) 3 |>.modTile 0 fun x => { x with startEnds := some 0 } }

/-- TILE_STATE of tile 0 once a command has run. -/
def tileStateAfter (o : Host.Outcome State Fault Refusal) : Nat :=
  match o with
  | .next t => t.dev.obn (K.TILE_STATE 0)
  | _ => 0

theorem tileStartEnd_fails_late : tileStateAfter (exec (.tileStartEnd 0 true) startLate) = 3 := by decide +kernel

/-- Refutes O14: a good end that comes 1 ns past the instant at which the tile's start ends leaves the tile FAULTED, where the clause has it in service. -/
theorem not_tileCommands : ¬ Obligations.TileCommands := by
  rintro ⟨-, -, -, ends, -⟩
  have claimed := ends startLate 0 0 (by decide +kernel) ⟨1, by decide +kernel⟩
  have starts := congrArg tileStateAfter claimed
  rw [tileStartEnd_fails_late] at starts
  exact absurd starts (by decide +kernel)

end Sys2Proof.Machine
end

section
/-! SUPPORT. Firmware, roles, the Sump's objects and the test access port (spec 03, R102; 19, R529 to R539; 20, R546). -/
set_option Elab.async false
namespace Sys2Proof.Machine

/-- A number as its bit n between the bits above and below it. -/
theorem bit_parts (v n : Nat) : ∃ a r, r < 2 ^ n ∧ v = 2 ^ (n + 1) * a + (2 ^ n * b2n (v.testBit n) + r) := by
  refine ⟨v / 2 ^ (n + 1), v % 2 ^ n, Nat.mod_lt _ (Nat.two_pow_pos n), ?_⟩
  have bit : b2n (v.testBit n) = v / 2 ^ n % 2 := by
    rw [Nat.testBit_eq_decide_div_mod_eq]
    rcases Nat.mod_two_eq_zero_or_one (v / 2 ^ n) with h | h <;> simp [h, b2n]
  have outer := Nat.div_add_mod (v / 2 ^ n) 2
  have inner := Nat.div_add_mod v (2 ^ n)
  rw [Nat.div_div_eq_div_mul, ← Nat.pow_succ] at outer
  rw [bit, ← Nat.add_assoc, show 2 ^ (n + 1) * (v / 2 ^ (n + 1)) = 2 ^ n * (2 * (v / 2 ^ (n + 1))) by rw [Nat.pow_succ, Nat.mul_assoc], ← Nat.mul_add, outer, inner]

theorem testBit_parts {a r n c i : Nat} (hr : r < 2 ^ n) (hc : c < 2) :
    (2 ^ (n + 1) * a + (2 ^ n * c + r)).testBit i = if i < n then r.testBit i else if i = n then c.testBit 0 else a.testBit (i - (n + 1)) := by
  have low : 2 ^ n * c + r < 2 ^ (n + 1) := by
    have : 2 ^ n * c ≤ 2 ^ n * 1 := Nat.mul_le_mul_left _ (by omega)
    rw [Nat.pow_succ]; omega
  rw [Nat.testBit_two_pow_mul_add _ low, Nat.testBit_two_pow_mul_add _ hr]
  rcases Nat.lt_trichotomy i n with h | h | h
  · rw [if_pos (by omega), if_pos h, if_pos h]
  · subst h
    rw [if_pos (by omega), if_neg (by omega), if_neg (by omega), if_pos rfl, Nat.sub_self]
  · rw [if_neg (by omega), if_neg (by omega), if_neg (by omega)]

theorem testBit_putBit (v n : Nat) (b : Bool) (i : Nat) : (putBit v n b).testBit i = if i = n then b else v.testBit i := by
  obtain ⟨a, r, hr, hv⟩ := bit_parts v n
  have put : putBit v n b = 2 ^ (n + 1) * a + (2 ^ n * b2n b + r) := by
    unfold putBit
    split
    · next same => rw [← same]; exact hv
    · next other =>
      have one : b2n true = 1 := rfl
      have zero : b2n false = 0 := rfl
      cases b
      · rw [Bool.not_eq_false] at other
        rw [other, one, Nat.mul_one] at hv
        rw [if_neg (by decide), zero, Nat.mul_zero]
        omega
      · rw [Bool.not_eq_true] at other
        rw [other, zero, Nat.mul_zero] at hv
        rw [if_pos rfl, one, Nat.mul_one]
        omega
  have bool : ∀ c : Bool, b2n c < 2 ∧ (b2n c).testBit 0 = c := by decide
  rw [put, testBit_parts hr (bool b).1, (bool b).2]
  by_cases at_ : i = n
  · rw [if_neg (by omega), if_pos at_, if_pos at_]
  · rw [if_neg at_, if_neg at_]
    conv => rhs; rw [hv, testBit_parts hr (bool _).1, if_neg at_]

/-- The bits of pins put one after the other. -/
theorem testBit_putAll (f : Nat → Bool) (l : List (Option Bool)) : ∀ (k v i : Nat),
    ((l.zipIdx k).foldl (fun n e => putBit n e.2 (e.1.getD (f e.2))) v).testBit i =
      if k ≤ i ∧ i < k + l.length then ((l[i - k]?).join).getD (f i) else v.testBit i := by
  induction l with
  | nil => intro k v i; rw [if_neg (by simp)]; rfl
  | cons x l ih =>
    intro k v i
    rw [List.zipIdx_cons, List.foldl_cons, ih, testBit_putBit, List.length_cons]
    rcases Nat.lt_trichotomy i k with h | h | h
    · rw [if_neg (by omega), if_neg (by omega), if_neg (by omega)]
    · subst h
      rw [if_neg (by omega), if_pos rfl, if_pos (by omega), Nat.sub_self]
      rfl
    · obtain ⟨j, rfl⟩ : ∃ j, i = k + 1 + j := ⟨i - (k + 1), by omega⟩
      rw [show k + 1 + j - (k + 1) = j by omega, show k + 1 + j - k = j + 1 by omega, List.getElem?_cons_succ, if_neg (c := k + 1 + j = k) (by omega)]
      by_cases inside : j < l.length
      · rw [if_pos (by omega), if_pos (by omega)]
      · rw [if_neg (by omega), if_neg (by omega)]

theorem Dev.scanWord_bit {d : Dev} {free i : Nat} (h : i < d.scanPins.length) :
    (d.scanWord free).testBit i = ((d.scanPins[i]?).join).getD (free.testBit i) := by
  rw [Dev.scanWord, testBit_putAll, if_pos (by omega), Nat.sub_zero]

/-- A permit that the Tap grants is in hand. -/
theorem Dev.eraseRenew_held {d : Dev} (held : (d.tap.permits.any fun p => p.holder == .firmware) = true) : d.eraseRenew = d := by
  unfold Dev.eraseRenew
  split
  · rfl
  · rw [Dev.fwPermit, if_pos held]

theorem Dev.eraseRenew_asks {d : Dev} (none_ : (d.tap.permits.any fun p => p.holder == .firmware) = false)
    (idle : (d.tap.queue.any fun q => q.holder == .firmware) = false) (erasing : d.obn K.FW_STATE = 1) :
    d.eraseRenew = (d.ask .firmware 400 2000000 3 1000 4).1 := by
  rw [Dev.eraseRenew, if_neg (by simp only [erasing, idle]; decide), Dev.fwPermit, if_neg (by simp [none_])]
  split <;> (rename_i h; rw [h])

theorem fwErase_ends {s : State} (erasing : s.cmd.obn K.FW_STATE = 1) : let d := s.cmd.releaseAll .firmware
    ((s.cmd.tap.permits.any fun p => p.holder == .firmware) = true →
      exec .fwEraseDone s = .next (s.after ((d.event.setOb K.FW_STATE 2).setOb K.COPY_FAIL (putBit (d.obn K.COPY_FAIL) d.otherCopy false : Nat)))) ∧
    ((s.cmd.eraseRenew.tap.permits.any fun p => p.holder == .firmware) = false → exec .fwEraseDone s = .next (s.after s.cmd.eraseRenew)) := by
  intro d
  refine ⟨fun held => run_after (f := (·.eraseEnd)) ?_, fun none_ => run_after (f := (·.eraseEnd)) ?_⟩
  · show s.cmd.eraseEnd = _
    rw [Dev.eraseEnd, if_neg (Classical.not_not.mpr erasing)]
    simp only [Dev.eraseRenew_held held]
    exact if_neg (by rw [held]; decide)
  · show s.cmd.eraseEnd = _
    rw [Dev.eraseEnd, if_neg (Classical.not_not.mpr erasing)]
    exact if_pos (by rw [none_]; rfl)

theorem fwPrepare_writes {s : State} {r : Src} {d' : Dev} (h : s.opens r K.FW_PREPARE [1] 3 = true) : let d := s.taken r 2 K.FW_PREPARE 0 [1]
    d.obn K.FW_STATE ≠ 1 → d.obn K.FW_STATE ≠ 3 → d.obn K.IMAGE_COPY ≠ 2 → d.fwPermit (d.waitLeft (some r)) 0 = (d', some 0) →
    exec (.fwPrepare r 1) s = .next (s.wrote r K.FW_PREPARE [1] d'.eraseStart) := by
  intro d idle loading copy permit
  refine write_word h key_FW_PREPARE (.inr (.inl ⟨rfl, by decide⟩)) rfl (by decide) (by omega) (by simp) (by decide) ?_
  show Dev.fwPrepare d 1 r = _
  rw [Dev.fwPrepare, if_neg (by decide), if_neg (by simp [idle, loading, copy]), permit] <;> rfl

/-- The effect of FW_ACTIVATE (R530). -/
theorem fwActivate_effect (d : Dev) (n : Nat) (r : Src) (b : Bool) :
    d.effect ⟨0x210, 0x1, 1, 1, 0x3, 1, .u8, .w, 0, 1, 2, none, false, .fwActivate⟩ K.FW_ACTIVATE (n : Int) (some r) b = d.fwActivate n r := by
  show d.fwActivate (Int.toNat n) r = _
  rw [Int.toNat_natCast]

theorem fwActivate_refused {s : State} {r : Src} {n st : Nat} {d' : Dev} (h : s.opens r K.FW_ACTIVATE [n] 3 = true) (hn : 1 ≤ n ∧ n ≤ 2)
    (he : (s.taken r 2 K.FW_ACTIVATE 0 [n]).fwActivate n r = (d', some st)) (hst : st ≠ Stat.done) :
    run (·.writeReq r K.FW_ACTIVATE [n]) s = .next (s.answers r 2 K.FW_ACTIVATE 0 [n] d' (ans st)) := by
  refine write_refused h key_FW_ACTIVATE rfl (by decide) (by omega) (by simp) rfl (by decide) (show Ty.decode .u8 [n] = some (n : Int) from if_pos (show n < 256 by omega)) ?_
    ((fwActivate_effect _ n r true).trans he) hst
  simp [Desc.allows]
  omega

theorem fwActivate_writes {s : State} {r : Src} {n : Nat} {d' : Dev} (h : s.opens r K.FW_ACTIVATE [n] 3 = true) (hn : 1 ≤ n ∧ n ≤ 2)
    (he : (s.taken r 2 K.FW_ACTIVATE 0 [n]).fwActivate n r = (d', some Stat.done)) :
    run (·.writeReq r K.FW_ACTIVATE [n]) s = .next (s.wrote r K.FW_ACTIVATE [n] d') :=
  write_word h key_FW_ACTIVATE (.inr (.inl ⟨rfl, by decide⟩)) rfl (by decide) (by omega) (by simp) (by simp; omega) ((fwActivate_effect _ n r true).trans he)

/-- The refusals of FW_ACTIVATE and its two ways on. -/
theorem Dev.fwActivate_notLoaded {d : Dev} {r : Src} (h : d.obn K.FW_STATE ≠ 4) : d.fwActivate 1 r = (d, some Stat.busy) := by
  rw [Dev.fwActivate, if_neg (by decide), if_pos h]

theorem Dev.fwActivate_version {d : Dev} {r : Src} (h : d.obn K.FW_STATE = 4) (other : d.obn (K.FW_VERSION_AB d.otherCopy) / 65536 ≠ d.obn K.FW_VERSION / 65536) :
    d.fwActivate 1 r = (d, some Stat.range) := by
  rw [Dev.fwActivate, if_neg (by decide), if_neg (by simp [h]), if_pos (by simp [other])]

theorem Dev.fwActivate_live {d : Dev} {r : Src} (h : d.obn K.FW_STATE = 4) (same : d.obn (K.FW_VERSION_AB d.otherCopy) / 65536 = d.obn K.FW_VERSION / 65536)
    (idle : d.mm.act = none) (run : ([16, 17, 18, 19].all d.coreRuns) = true) : let e := (d.event.setOb K.FW_ACT_STATE 1).tookEffect
    d.fwActivate 1 r = (e.actKeeper ⟨19, e.now, d.otherCopy, false, [], (List.range 9).map e.roleOf⟩ 19, some Stat.done) := by
  intro e
  rw [Dev.fwActivate, if_neg (by decide), if_neg (by simp [h]), if_neg (by simp [same]), if_neg (by decide), if_neg (by rw [idle, run]; decide)]

theorem Dev.fwActivate_restart {d d' : Dev} {r : Src} (h : d.obn K.FW_STATE = 4) (permit : d.fwPermit (d.waitLeft (some r)) 2 = (d', some 0)) :
    let x := (d'.raiseGen d'.otherCopy).event.tookEffect.fresh 3
    d.fwActivate 2 r = (x.2.todo (.restart x.1), some Stat.done) := by
  intro x
  rw [Dev.fwActivate, if_neg (by decide), if_neg (by simp [h]), if_neg (by simp), if_pos rfl, permit]
  rfl

theorem roleHolder_writes {s : State} {r : Src} {role : Fin 9} {v : Word} (h : s.opens r (K.ROLE_HOLDER role) [v.toNat] 3 = true) (lo : 16 ≤ v.toNat)
    (hi : v.toNat ≤ 19) : let d := s.taken r 2 (K.ROLE_HOLDER role) 0 [v.toNat]
    d.coreRuns v.toNat = true → d.mm.act = none →
    exec (.roleHolderWrite r role v) s = .next (s.wrote r (K.ROLE_HOLDER role) [v.toNat]
      (((d.event.setOb (K.ROLE_HOLDER role) (v.toNat : Nat)).roleTaken role).tookEffect)) := by
  intro d runs idle
  obtain ⟨el, els, m, row⟩ := key_ROLE_HOLDER role role.isLt
  refine write_word h row (.inr (.inl ⟨rfl, show (19 : Int) ≤ 255 by decide⟩)) rfl (by simp) (by omega) (by simp) (by simp; omega) ?_
  show atOnce (d.roleWrite (bits (K.ROLE_HOLDER role) 7 0) (Int.toNat (v.toNat : Nat))) = _
  obtain ⟨-, -, -, -, here⟩ := row
  rw [here, Int.toNat_natCast, Dev.roleWrite, if_neg (by simp; omega), if_neg (by simp [runs]), if_neg (by simp [idle])]
  rfl

theorem Dev.storeWord_block {d : Dev} {c o v : Nat} (h : o < 0x100000) : d.storeWord c (0x300000 + o) v = d.blockWrite c (0x300000 + o) v := by
  rw [Dev.storeWord, if_neg (by omega), if_neg (by omega), if_neg (by simp [isAttic]; omega), if_neg (by simp [isShared]; omega), if_pos (by simp [isBlock]; omega)]

/-- A keeper's write of the watchdog's word (R534). -/
theorem Dev.wdogKick_kicks {d : Dev} {c : Fin 21} {v : Nat} (hc : c.val < 20) (runs : d.coreRuns c = true) (role : c.val = d.roleOf 1) (on : d.mode ≠ 0) :
    d.agentStore c 0x308000 v = { d with sump := { d.sump with kickAt := d.now } } := by
  have kicks : d.kick c = { d with sump := { d.sump with kickAt := d.now } } := if_pos (by simp [role, on])
  have writes : d.blockWrite c (0x300000 + 0x8000) v = (d.kick c, Stat.done) := by
    simp only [Dev.blockWrite, Nat.add_sub_cancel_left]
    iterate 14 rw [if_neg (by decide)]
    exact if_pos trivial
  rw [Dev.agentStore, if_neg (by omega)]
  refine Dev.coreStoreAt_done runs ?_
  rw [Dev.farFirst_other (by decide), show 0x308000 = 0x300000 + 0x8000 from rfl, Dev.storeWord_block (by decide), writes, kicks]

theorem sumpByte_writes {s : State} {r : Src} {v : Word} (hv : v.toNat < 256) :
    (s.opens r K.ALERT_CLEAR [v.toNat] 1 = true →
      exec (.alertClear r v) s = .next (s.wrote r K.ALERT_CLEAR [v.toNat] ((s.taken r 2 K.ALERT_CLEAR 0 [v.toNat]).event.alertClear v.toNat))) ∧
    (s.opens r K.CLEAR_FAIL [v.toNat] 1 = true →
      exec (.clearFail r v) s = .next (s.wrote r K.CLEAR_FAIL [v.toNat] ((s.taken r 2 K.CLEAR_FAIL 0 [v.toNat]).event.clearFail v.toNat))) := by
  have range : (0 : Int) ≤ (v.toNat : Int) ∧ (v.toNat : Int) ≤ 255 := by omega
  refine ⟨fun h => ?_, fun h => ?_⟩
  · exact write_word h key_ALERT_CLEAR (.inr (.inl ⟨rfl, by decide⟩)) rfl (by decide) (by omega) (by simp) range rfl
  · exact write_word h key_CLEAR_FAIL (.inr (.inl ⟨rfl, by decide⟩)) rfl (by decide) (by omega) (by simp) range rfl

/-- The data register that an instruction of the test access port selects (R546). -/
theorem Dev.jtag_drives {d : Dev} {ir : BitVec 8} (on : d.domOn 2 = true) : d.jtag ir =
    if ir = 0xFF then d.emit (.tapDrive 0xFF 0) else if ir = Config.idcodeIr then d.emit (.tapDrive ir.toNat 0x29616B47)
    else if d.obb K.JTAG_LOCK = true then d.emit (.tapDrive ir.toNat 0)
    else (d.fresh 256).2.emit (.tapDrive ir.toNat (if Config.boundaryIr ir = true then d.scanWord (d.fresh 256).1 else (d.fresh 256).1)) := by
  rw [Dev.jtag, if_neg (by simp [on])]
  by_cases bypass : ir = 0xFF
  · rw [if_pos bypass, if_pos bypass, bypass]
    rfl
  · rw [if_neg bypass, if_neg bypass]
    rfl

theorem Dev.actTimeout_ends {d : Dev} {a : FwAct} (act : d.mm.act = some a) (early : a.keeper < 20) :
    let e := d.upTo (a.since + 1000000000)
    let e := e.each ((if a.swapped then [a.keeper] else []) ++ a.finished) fun d k => d.keeperFlip k
    d.actTimeout = (((e.modMm fun x => { x with act := none }).rolesBack a.holders).setOb K.FW_ACT_STATE 3).logE 0x5044 0 := by
  intro e e'
  rw [Dev.actTimeout, act]
  exact if_neg (by omega)

/-- Settles O53. -/
theorem firmwareCommands : Obligations.FirmwareCommands := by
  refine ⟨fun s r d' h => fwPrepare_writes h, fun s erasing => fwErase_ends erasing, fun d none_ idle erasing => Dev.eraseRenew_asks none_ idle erasing, fun s r h => ?_,
    fun s r d' h => ?_, fun s r h => ?_, fun s a act early => ?_, fun s r role v h lo hi => roleHolder_writes h lo hi,
    fun s c v hc runs role on => run_after (f := (·.agentStore c 0x308000 v.toNat)) (Dev.wdogKick_kicks hc runs role on), fun s r h => ?_,
    fun s r v hv => sumpByte_writes hv, fun s ir on => run_after (f := (·.jtag ir)) (Dev.jtag_drives on), fun d free i h => Dev.scanWord_bit h⟩
  · intro d answer
    exact ⟨fun state => fwActivate_refused h (by decide) (Dev.fwActivate_notLoaded state) (by decide),
      fun state other => fwActivate_refused h (by decide) (Dev.fwActivate_version state other) (by decide)⟩
  · intro d state idle permit
    exact fwActivate_writes h (by decide) (Dev.fwActivate_restart state permit)
  · intro d same state idle run
    exact fwActivate_writes h (by decide) (Dev.fwActivate_live state same idle run)
  · intro d d'
    exact run_after (f := (·.actTimeout)) (Dev.actTimeout_ends act early)
  · exact write_word h key_SUMP_RESTART (.inr (.inl ⟨rfl, by decide⟩)) rfl (by decide) (by omega) (by simp) (by decide) rfl

end Sys2Proof.Machine
end

section
/-! SUPPORT. Reserve pairs of time bases (spec 15, R417 to R422). -/
set_option Elab.async false
namespace Sys2Proof.Machine

/-- The row of an object of a base past T0's. -/
theorem tbReserve_effect (d : Dev) (n : Fin 8) (v : Nat) (src : Option Src) (b : Bool) :
    d.effect ⟨0x0, 0x10, 8, 1, 0x6, 1, .u8, .rwh, 255, 0, 7, some 255, true, .tbReserve⟩ (K.TB_RESERVE n) (v : Int) src b = atOnce (d.tbReserve n v) := by
  show atOnce (Dev.tbReserve d (Desc.index _ _) (Int.toNat v)) = _
  rw [(key_TB_RESERVE n n.isLt).2.1, Int.toNat_natCast]

theorem tbSwitch_effect (d : Dev) (n : Fin 8) (v : Nat) (src : Option Src) (b : Bool) :
    d.effect ⟨0x0, 0x10, 8, 1, 0xA, 1, .u8, .w, 0, 1, 2, none, false, .tbSwitch⟩ (K.TB_SWITCH n) (v : Int) src b = atOnce (d.tbSwitch n v) := by
  show atOnce (Dev.tbSwitch d (Desc.index _ _) (Int.toNat v)) = _
  rw [(key_TB_SWITCH n n.isLt).2.1, Int.toNat_natCast]

theorem Dev.tbReserve_takes {d : Dev} {n : Fin 8} {v : Nat} (hn : n ≠ 0) (hv : v ≤ 7 ∨ v = 0xFF) (chain : v ≤ 7 → d.chainTo n 9 v = false)
    (s1 : (d.tb n).state ≠ 1) (s2 : (d.tb n).state ≠ 2) :
    d.tbReserve n v = ((d.event.setOb (K.TB_RESERVE n) (v : Nat)).noteBases.watchReserves d, Stat.done) := by
  rw [Dev.tbReserve, if_neg (show ¬ n.val = 0 from fun e => hn (Fin.ext e)), if_neg (by simp; omega), if_neg ?_,
    if_neg (by simp only [Bool.or_eq_true, decide_eq_true_eq]; exact not_or.mpr ⟨s1, s2⟩)]
  intro e
  obtain ⟨l, c⟩ := Bool.and_eq_true_iff.mp e
  rw [chain (of_decide_eq_true l)] at c
  exact Bool.noConfusion c

theorem Dev.tbReserve_loops {d : Dev} {n : Fin 8} {v : Nat} (hn : n ≠ 0) (hv : v ≤ 7) (loop : d.chainTo n 9 v = true) : d.tbReserve n v = (d, Stat.range) := by
  rw [Dev.tbReserve, if_neg (show ¬ n.val = 0 from fun e => hn (Fin.ext e)), if_neg (by simp; omega), if_pos (by rw [decide_eq_true hv, loop]; rfl)]

theorem tbReserve_allows {v : Nat} (hv : v ≤ 7 ∨ v = 0xFF) :
    Desc.allows ⟨0x0, 0x10, 8, 1, 0x6, 1, .u8, .rwh, 255, 0, 7, some 255, true, .tbReserve⟩ (v : Nat) = true := by
  rcases hv with low | all <;> simp [Desc.allows] <;> omega

theorem tbReserve_writes {s : State} {r : Src} {n : Fin 8} {v : Nat} {d' : Dev} (hn : n ≠ 0) (hv : v ≤ 7 ∨ v = 0xFF)
    (h : s.opens r (K.TB_RESERVE n) [v] 2 = true) (mode : (s.taken r 2 (K.TB_RESERVE n) 0 [v]).mode = 2 ∨ (s.taken r 2 (K.TB_RESERVE n) 0 [v]).mode = 7)
    (goes : (s.taken r 2 (K.TB_RESERVE n) 0 [v]).tbReserve n v = (d', Stat.done)) :
    run (·.writeReq r (K.TB_RESERVE n) [v]) s = .next (s.wrote r (K.TB_RESERVE n) [v] d') := by
  have row := key_TB_RESERVE n n.isLt
  refine write_opens h row.1 (by rw [writeLevel_row row]; rfl) (by decide) (by rw [row.2.2.1, row.2.2.2.1]; exact base_row hn)
    (fun _ => mode.imp_right fun h7 => ⟨rfl, h7⟩) rfl (by decide) (show Ty.decode .u8 [v] = some (v : Int) from if_pos (show v < 256 by omega)) (tbReserve_allows hv) ?_
  rw [tbReserve_effect, goes]
  rfl

theorem tbReserve_refused {s : State} {r : Src} {n : Fin 8} {v : Nat} {d' : Dev} (hn : n ≠ 0) (hv : v ≤ 7 ∨ v = 0xFF)
    (h : s.opens r (K.TB_RESERVE n) [v] 2 = true) (mode : (s.taken r 2 (K.TB_RESERVE n) 0 [v]).mode = 2 ∨ (s.taken r 2 (K.TB_RESERVE n) 0 [v]).mode = 7)
    (goes : (s.taken r 2 (K.TB_RESERVE n) 0 [v]).tbReserve n v = (d', Stat.range)) :
    run (·.writeReq r (K.TB_RESERVE n) [v]) s = .next (s.answers r 2 (K.TB_RESERVE n) 0 [v] d' (ans Stat.range)) := by
  refine write_refused h (key_TB_RESERVE n n.isLt) rfl (by decide) (base_row hn) (fun _ => mode.imp_right fun h7 => ⟨rfl, h7⟩) rfl (by decide)
    (show Ty.decode .u8 [v] = some (v : Int) from if_pos (show v < 256 by omega)) (tbReserve_allows hv) ?_ (by decide)
  rw [tbReserve_effect, goes]
  rfl

theorem tbSwitch_writes {s : State} {r : Src} {n : Fin 8} {v : Nat} {d' : Dev} (hn : n ≠ 0) (hv : 1 ≤ v ∧ v ≤ 2) (h : s.opens r (K.TB_SWITCH n) [v] 1 = true)
    (goes : (s.taken r 2 (K.TB_SWITCH n) 0 [v]).tbSwitch n v = (d', Stat.done)) :
    run (·.writeReq r (K.TB_SWITCH n) [v]) s = .next (s.wrote r (K.TB_SWITCH n) [v] d') := by
  refine write_word h (key_TB_SWITCH n n.isLt) (.inr (.inl ⟨rfl, by decide⟩)) rfl (by decide) (base_row hn) (by simp) (by simp; omega) ?_
  rw [tbSwitch_effect, goes]
  rfl

theorem Dev.tbSwitch_reserve {d : Dev} {n : Fin 8} (hn : n ≠ 0) (usable : d.reserveUsable n = true) (own : (d.tb n).state = 0 ∨ (d.tb n).state = 3) :
    d.tbSwitch n 1 = (d.event.tbToReserve n, Stat.done) := by
  rw [Dev.tbSwitch, if_neg (show ¬ n.val = 0 from fun e => hn (Fin.ext e)), if_pos rfl, if_neg (by simp [usable]), if_pos (by simpa using own)]

theorem Dev.tbSwitch_own {d : Dev} {n : Fin 8} (hn : n ≠ 0) (away : (d.tb n).state = 1 ∨ (d.tb n).state = 2) :
    d.tbSwitch n 2 = (d.event.tbToOwn n, Stat.done) := by
  rw [Dev.tbSwitch, if_neg (show ¬ n.val = 0 from fun e => hn (Fin.ext e)), if_neg (by decide), if_pos rfl, if_pos (by simpa using away)]

/-- A base that loses its sync: its state says what follows (R418). -/
theorem Dev.syncLoss_cases (d : Dev) (n : Nat) :
    let e := (((d.modTb n fun b => { b with synced := false, lost := true }).logE 0x9000 n).bump (K.TB_SYNC_LOSSES n)).raise (0x520 + n)
    ((e.tb n).state = 1 ∨ (e.tb n).state = 2 → d.syncLoss n = e) ∧
    (e.reserveUsable n = true → (e.tb n).state = 0 ∨ (e.tb n).state = 3 → d.syncLoss n = e.tbToReserve n) ∧
    (e.reserveUsable n = false → (e.tb n).state = 0 → d.syncLoss n = e.logE 0x9002 n) ∧
    (e.reserveUsable n = false → (e.tb n).state = 3 → d.syncLoss n = e) := by
  intro e
  have loss : d.syncLoss n = match (e.tb n).state with
    | 0 => if e.reserveUsable n then e.tbToReserve n else e.logE 0x9002 n
    | 3 => if e.reserveUsable n then e.tbToReserve n else e
    | _ => e := rfl
  rw [loss]
  refine ⟨fun state => ?_, fun usable state => ?_, fun usable state => ?_, fun usable state => ?_⟩
  · rcases state with h | h <;> rw [h] <;> rfl
  · rcases state with h | h <;> rw [h] <;> exact if_pos usable
  · rw [state]; exact if_neg (by simp [usable])
  · rw [state]; exact if_neg (by simp [usable])

theorem closeTicks_zero (k : Nat) : closeTicks 0 k = 0 := by
  unfold closeTicks
  split
  · rfl
  · rw [Int.natAbs_zero, Nat.zero_add]
    exact Nat.div_eq_of_lt (by omega)

theorem Dev.onReserve_met {d : Dev} {n : Nat} (state : (d.tb n).state = 1) (met : (d.tb n).pub = d.pubRaw (d.obn (K.TB_RESERVE n))) :
    d.onReserve n = (d.tbState n 2 0x9003).watchReserves d := by
  rw [Dev.onReserve, if_neg (Classical.not_not.mpr state), ← met, Int.sub_self]
  simp only [closeTicks_zero]
  rfl

theorem Dev.onOwn_closes {d : Dev} {n : Nat} (state : (d.tb n).state = 3) (apart : (d.tb n).src ≠ (d.tb n).pub) (moves : d.slewStep n ≠ 0) :
    let gap := (((d.tb n).src : Int) - (d.tb n).pub).natAbs
    d.onOwn n = (d.advance ((gap + d.slewStep n - 1) / d.slewStep n)).tbState n 0 0x9005 := by
  intro gap
  have ticks : closeTicks ((d.tb n).src - (d.tb n).pub : Int) (d.slewStep n) = (gap + d.slewStep n - 1) / d.slewStep n := if_neg moves
  have some_ : (gap + d.slewStep n - 1) / d.slewStep n ≠ 0 := by
    have : 0 < gap := by simp only [gap]; omega
    exact Nat.ne_of_gt (Nat.div_pos (by omega) (by omega))
  rw [Dev.onOwn, if_neg (Classical.not_not.mpr state)]
  simp only [ticks, if_neg some_]

/-! ### A reserve that becomes usable -/

theorem Dev.time_stAll (d : Dev) (a : Nat) (l : List Nat) : (d.stAll a l).time = d.time := by
  induction l generalizing d a with
  | nil => rfl
  | cons v l ih => exact ih _ _

theorem Dev.time_logE (d : Dev) (code inst : Nat) : (d.logE code inst).time = d.time := by
  unfold Dev.logE
  dsimp only
  split
  · rw [Dev.setOb_time, Dev.time_stAll]
    rfl
  · rfl

theorem Dev.time_postLine (d : Dev) (c l : Nat) : (d.postLine c l).time = d.time := by
  unfold Dev.postLine
  split <;> rfl

theorem Dev.time_msix (d : Dev) (v : Nat) : (d.msix v).time = d.time := by
  unfold Dev.msix
  split <;> rfl

theorem Dev.time_deliver (d : Dev) (n : Nat) : (d.deliver n).time = d.time := by
  have line (e l : Nat) : (if e = 20 then d.msix l else d.postLine e l).time = d.time := by
    split
    · exact d.time_msix l
    · exact d.time_postLine e l
  unfold Dev.deliver
  dsimp only
  split
  · rfl
  · split
    · rw [Dev.time_postLine]
      exact line _ _
    · exact line _ _

theorem Dev.time_raise (d : Dev) (n : Nat) : (d.raise n).time = d.time := by
  unfold Dev.raise
  dsimp only
  split
  · split
    · exact Dev.time_deliver _ _
    · rfl
  · rfl

theorem Dev.time_bump (d : Dev) (k : Nat) : (d.bump k).time = d.time := by
  unfold Dev.bump Dev.bumpBy
  split
  · split <;> rfl
  · rfl

/-- A change of one base leaves the others. -/
theorem Dev.tb_modTb_other (d : Dev) {n k : Nat} (f : TimeBase → TimeBase) (hn : 1 ≤ n) (hk : 1 ≤ k) (h : k ≠ n) : (d.modTb n f).tb k = d.tb k := by
  have apart : (d.time.bases.modify (n - 1) f)[k - 1]? = d.time.bases[k - 1]? := List.getElem?_modify_ne _ _ (by omega)
  exact congrArg (Option.getD · {}) apart

theorem Dev.tb_tbToReserve_other (d : Dev) {n k : Nat} (hn : 1 ≤ n) (hk : 1 ≤ k) (h : k ≠ n) : (d.tbToReserve n).tb k = d.tb k := by
  have time : (d.tbToReserve n).time = ((d.bump (K.TB_SWITCHES n)).modTb n fun b => { b with state := 1 }).time := by
    rw [Dev.tbToReserve, Dev.tbState, Dev.time_raise, Dev.time_logE]
  have kept : (d.tbToReserve n).tb k = ((d.bump (K.TB_SWITCHES n)).modTb n fun b => { b with state := 1 }).tb k := by
    rw [Dev.tb, Dev.tb, time]
  rw [kept, Dev.tb_modTb_other _ _ hn hk h, Dev.tb, Dev.time_bump]
  rfl

theorem foldl_fixed {α β : Type} {f : α → β → α} {d : α} : ∀ {l : List β}, (∀ k ∈ l, f d k = d) → l.foldl f d = d
  | [], _ => rfl
  | k :: l, h => by rw [List.foldl_cons, h k List.mem_cons_self]; exact foldl_fixed fun j hj => h j (List.mem_cons_of_mem _ hj)

/-- What a base does at a change of the reserves. -/
def Dev.watchBase (was d : Dev) (n : Nat) : Dev :=
  let b := d.tb n
  if b.state == 0 && !b.synced && b.lost && d.reserveUsable n && !was.reserveUsable n then d.tbToReserve n else d

theorem Dev.watchReserves_eq (d was : Dev) : d.watchReserves was = [1, 2, 3, 4, 5, 6, 7].foldl (Dev.watchBase was) d := rfl

theorem Dev.watchBase_still {was d : Dev} {n : Nat} (h : (d.tb n).lost = false ∨ was.reserveUsable n = true) : Dev.watchBase was d n = d := by
  refine if_neg ?_
  rcases h with h | h <;> simp [h]

theorem Dev.watchReserves_lone {d : Dev} {n : Nat} (others : ∀ k ∈ List.range' 1 7, k ≠ n → (d.tb k).lost = false) (hn : n ∈ List.range' 1 7) (was : Dev) :
    (was.reserveUsable n = true → d.watchReserves was = d) ∧
    (was.reserveUsable n = false → d.reserveUsable n = true → (d.tb n).state = 0 → (d.tb n).synced = false → (d.tb n).lost = true →
      d.watchReserves was = d.tbToReserve n) := by
  have bases : ([1, 2, 3, 4, 5, 6, 7] : List Nat) = List.range' 1 7 := rfl
  rw [Dev.watchReserves_eq, bases]
  refine ⟨fun usable => foldl_fixed fun k hk => Dev.watchBase_still ?_, fun was_ now state synced lost => ?_⟩
  · by_cases e : k = n
    · exact .inr (e ▸ usable)
    · exact .inl (others k hk e)
  · obtain ⟨l, m, cut⟩ := List.append_of_mem hn
    have once : (l ++ n :: m).Nodup := cut ▸ List.nodup_range'
    obtain ⟨-, hm, apart⟩ := List.nodup_append.mp once
    obtain ⟨notM, -⟩ := List.nodup_cons.mp hm
    have inL : ∀ k ∈ l, k ∈ List.range' 1 7 := fun k hk => cut ▸ List.mem_append_left _ hk
    have inM : ∀ k ∈ m, k ∈ List.range' 1 7 := fun k hk => cut ▸ List.mem_append_right _ (List.mem_cons_of_mem _ hk)
    have pos : ∀ k ∈ List.range' 1 7, 1 ≤ k := fun k hk => (List.mem_range'_1.mp hk).1
    have turns : Dev.watchBase was d n = d.tbToReserve n := if_pos (by simp [state, synced, lost, now, was_])
    rw [cut, List.foldl_append, foldl_fixed fun k hk => Dev.watchBase_still (.inl (others k (inL k hk) (apart k hk n List.mem_cons_self))), List.foldl_cons, turns]
    refine foldl_fixed fun k hk => Dev.watchBase_still (.inl ?_)
    have other : k ≠ n := fun e => notM (e ▸ hk)
    rw [Dev.tb_tbToReserve_other d (pos n hn) (pos k (inM k hk)) other]
    exact others k (inM k hk) other

/-! ### The check of a tile -/

theorem Dev.od_upTo (d : Dev) (t : Nat) : (d.upTo t).od = d.od := by
  unfold Dev.upTo
  split
  · rfl
  · split
    · rfl
    · split <;> rfl

theorem Dev.tileCheck_small {d : Dev} {t : Fin 4} {ps : Int} {errs : Nat} (runs : d.tileRuns t = true) (small : ps.natAbs ≤ 1500) :
    let a := d.upTo ((d.time.alignAt[t.val]?).getD 0)
    let a := { a with time := { a.time with alignAt := a.time.alignAt.set t (a.now + 1000000) } }
    let e := (a.setOb (K.TSA_TS_SKEW t) ps).bumpBy (K.TILE_LINK_ERR t) errs
    (d.tileAlign t ps).linkErrors t errs = if 16 < errs then e.tileLost t else e := by
  intro a a' e
  have aligned : d.tileAlign t ps = a'.setOb (K.TSA_TS_SKEW t) ps := by
    rw [Dev.tileAlign, if_neg (by simp [runs])]
    exact if_neg (by omega)
  have keys : K.TILE_STATE t ≠ K.TSA_TS_SKEW t := by unfold K.TILE_STATE K.TSA_TS_SKEW; omega
  have stands : (d.tileAlign t ps).tileRuns t = true := by
    rw [aligned, Dev.tileRuns, Dev.obn_setOb_other _ _ _ _ keys]
    have od : a'.od = d.od := Dev.od_upTo d _
    rw [Dev.obn, Dev.ob, od]
    exact runs
  rw [Dev.linkErrors, if_neg (by simp [stands]), aligned, Dev.iff_eq]
  by_cases many : 16 < errs
  · rw [if_pos many, if_pos (decide_eq_true many)]
  · rw [if_neg many, if_neg (by simpa using many)]

/-- Settles O47. -/
theorem reservePairs : Obligations.ReservePairs := by
  refine ⟨fun s r n v hn hv h => ?_, fun s r n hn h => ?_, fun s r n hn h => ?_, fun s n synced => run_after (f := (·.syncTimeout n)) (if_neg (by simp [synced])),
    Dev.syncLoss_cases, fun s n revert synced state => run_after (f := (·.revertHold n)) (if_neg ?_),
    fun s n state met _ => run_after (f := (·.onReserve n)) (Dev.onReserve_met state met), fun s n state apart moves => ?_,
    fun d n others hn was => Dev.watchReserves_lone others hn was, fun s t ps errs runs small => ?_⟩
  · intro d mode
    exact ⟨fun chain s1 s2 => tbReserve_writes hn hv h mode (Dev.tbReserve_takes hn hv chain s1 s2),
      fun low loop => tbReserve_refused hn hv h mode (Dev.tbReserve_loops hn low loop)⟩
  · intro d usable own
    exact tbSwitch_writes hn (by decide) h (Dev.tbSwitch_reserve hn usable own)
  · intro d away
    exact tbSwitch_writes hn (by decide) h (Dev.tbSwitch_own hn away)
  · rcases state with e | e <;> simp [revert, synced, e]
  · intro gap
    exact run_after (f := (·.onOwn n)) (Dev.onOwn_closes state apart moves)
  · intro d d' e
    exact run_after (f := fun d => (d.tileAlign t ps).linkErrors t errs) (Dev.tileCheck_small runs small)

end Sys2Proof.Machine
end

section
/-! SUPPORT. The Cellar's units (spec 14, R374 to R403). -/
set_option Elab.async false
namespace Sys2Proof.Machine

theorem Dev.scatterCommit_cases {d e : Dev} {q : Nat} {f : QFrame} (h : d.takeWhole 37 (fun _ => true) = (e, some (q, f))) : let j := f.env.aux % 2 ^ 15
    ((e.ld (0x260000 + 4 * j)).testBit 23 = false → d.scatterCommit = (e.bump K.LIST_MISSING).logSec 0x8003 0) ∧
    (∀ k, (e.ld (0x260000 + 4 * j)).testBit 23 = true → f.tail = some (false, k) → d.scatterCommit = e.scatter j f.env f.data) := by
  intro j
  refine ⟨fun missing => ?_, fun k live good => ?_⟩
  · rw [Dev.scatterCommit, h]
    exact if_pos (by rw [missing]; rfl)
  · rw [Dev.scatterCommit, h]
    refine (if_neg (by rw [live]; decide)).trans ?_
    rw [good]

theorem Dev.cellar_stAll (d : Dev) (a : Nat) (l : List Nat) : (d.stAll a l).cellar = d.cellar := by
  induction l generalizing d a with
  | nil => rfl
  | cons v l ih => exact ih _ _

/-- The sweep of an entry that has just turned stale in a region that has stale ones already (R389). -/
theorem Dev.sweepEntry_stale {d : Dev} {n r : Nat} : let e := d.entry n
    mget? d.cellar.contestPend r = none → d.obn (K.REG_FRESH_LIMIT r) ≠ 0 → e.valid = true → e.forced = false → e.stale = false → d.obn (K.REG_STALE_NOW r) ≠ 0 →
    d.obn (K.REG_FRESH_LIMIT r) < ageOf (d.stampOf r (d.tbNs (d.obn (K.REG_TB r)))) e.stamp →
    d.sweepEntry n r = (d.putEntry n { e with stale := true }).setOb (K.REG_STALE_NOW r) (d.obn (K.REG_STALE_NOW r) + 1 : Nat) := by
  intro e calm limit valid free fresh some_ old
  have turns : (d.obn (K.REG_FRESH_LIMIT r) != 0 && (d.entry n).valid && !(d.entry n).forced && !(d.entry n).stale &&
      decide (d.obn (K.REG_FRESH_LIMIT r) < ageOf (d.stampOf r (d.tbNs (d.obn (K.REG_TB r)))) (d.entry n).stamp)) = true := by
    rw [show (d.entry n).valid = true from valid, show (d.entry n).forced = false from free, show (d.entry n).stale = false from fresh, decide_eq_true old]
    simpa using limit
  have pend : mget? ((d.putEntry n { e with stale := true }).setOb (K.REG_STALE_NOW r) (d.obn (K.REG_STALE_NOW r) + 1 : Nat)).cellar.contestPend r = none := by
    rw [Dev.setOb_cellar, Dev.putEntry, Dev.cellar_stAll, calm]
  unfold Dev.sweepEntry
  simp only [if_pos turns, if_neg some_]
  rw [pend]

theorem contestClear_effect (d : Dev) (g : Fin 1024) (v : Int) (src : Option Src) (b : Bool) :
    d.effect ⟨0x0, 0x1, 1024, 1, 0x8, 1, .u8, .w, 0, 1, 1, none, false, .contestClear⟩ (K.REG_CONTEST_CLEAR g) v src b = atOnce (d.contestClear g) := by
  show atOnce (Dev.contestClear d (Desc.index _ _)) = _
  rw [(key_REG_CONTEST_CLEAR g g.isLt).2.1]

theorem regClear_effect (d : Dev) (g : Fin 1024) (v : Int) (src : Option Src) (b : Bool) :
    d.effect ⟨0x0, 0x1, 1024, 1, 0x9, 1, .u8, .w, 0, 1, 1, none, false, .regClear⟩ (K.REG_CLEAR g) v src b = d.regClearWrite g src := by
  show Dev.regClearWrite d (Desc.index _ _) src = _
  rw [(key_REG_CLEAR g g.isLt).2.1]

/-- A clear of a region that nobody owns, and which the Tap grants. -/
theorem Dev.regClearWrite_granted {d e : Dev} {g k : Nat} {r : Option Src} (none_ : d.obn (K.REG_OWNER g) = 0xFF) (idle : d.cellar.clearing.contains g = false)
    (apart : (d.tap.queue.any fun q => q.holder == .region g) = false)
    (ask : d.ask (.region g) 1200 (1 + (d.obn (K.REG_SIZE g) + 249) / 250) 3 (d.waitLeft r) 0 = (e, .granted k)) :
    d.regClearWrite g r = (((e.clearRegion g).modCellar fun c => { c with clearing := g :: c.clearing }).txTook r, none) := by
  unfold Dev.regClearWrite
  simp only [none_, idle, apart]
  rw [if_neg (by simp), ask] <;> rfl

theorem Dev.regClearEnd_done {d : Dev} {g : Nat} {t : Tx} (runs : d.cellar.clearing.contains g = true) :
    let e := (d.modCellar fun c => { c with clearing := c.clearing.filter fun q => q != g }).releaseAll (.region g)
    e.dict.inflight.find? (fun t => t.wait == .clearing g) = some t → d.regClearEnd g = (e.complete (some t.src) Stat.done).logE 0x8040 g := by
  intro e waits
  rw [Dev.regClearEnd, if_neg (by rw [runs]; decide)]
  dsimp only
  rw [show List.find? _ ((d.modCellar _).releaseAll (.region g)).dict.inflight = some t from waits]

/-- A write of a region that fits. -/
theorem Dev.regionWrite_fits {d : Dev} {g key v : Nat} (free : d.devNames g = false) (owner : 128 ≤ d.obn (K.REG_OWNER g)) :
    let e := d.event.setOb key (v : Nat)
    (if bits key 7 0 = 2 then decide (128 ≤ v) && v != 0xFE && v != 0xFF
      else v % 16 != 0 || (bits key 7 0 == 0 && decide (2 ^ 20 ≤ v)) || (true && (decide (2 ^ 20 < e.obn (K.REG_BASE g) + e.obn (K.REG_SIZE g)) ||
        d.regions.any fun q => q != g && runsMeet (e.obn (K.REG_BASE g)) (e.obn (K.REG_SIZE g)) (d.obn (K.REG_BASE q)) (d.obn (K.REG_SIZE q))))) = false →
    d.regionWrite g key v true = (e, Stat.done) := by
  intro e good
  unfold Dev.regionWrite
  dsimp only
  rw [if_neg (by rw [good]; decide)]
  split
  · rfl
  · rw [if_neg (by simp [free]; omega)]

/-- The template's own firing, on time and after none was missed. -/
theorem Dev.fireOne_onTime {d : Dev} {n at_ per : Nat} {t : Tpl} (lists : mget? d.cellar.tpls n = some t) (next : t.nextAt = some at_) (period : d.tplNs t = per)
    (soon : d.tbNs (d.tplTb t) - at_ ≤ 2000) (inside : d.tbNs (d.tplTb t) - at_ < per) :
    d.fireOne n = (d.modCellar fun c => let tpls := mput c.tpls n { t with nextAt := some (at_ + per) }; { c with tpls := tpls }).gatherNow t := by
  have none_ : (d.tbNs (d.tplTb t) - at_) / per = 0 := Nat.div_eq_of_lt inside
  have late : (d.tbNs (d.tplTb t) - at_) % per = d.tbNs (d.tplTb t) - at_ := Nat.mod_eq_of_lt inside
  rw [Dev.fireOne, lists]
  dsimp only
  rw [next]
  dsimp only
  have onTime : ¬ decide (2000 < d.tbNs (d.tplTb t) - at_) = true := fun e => absurd (of_decide_eq_true e) (Nat.not_lt.mpr soon)
  rw [period, none_, late]
  simp only [Dev.iff_eq, if_neg onTime, Nat.zero_add, Nat.one_mul]
  rfl

theorem Dev.tplTb_eq (d : Dev) (t : Tpl) : d.tplTb t = d.ld t.hdr / 2 ^ 14 % 8 := by
  rw [Dev.tplTb, bits, Nat.shiftRight_eq_div_pow] <;> rfl

/-- A template fires after those that are due before it (R400). -/
theorem Dev.fireTemplate_onTime {d b e : Dev} {n at_ tb per : Nat} {t : Tpl} (lists : mget? d.cellar.tpls n = some t) (next : t.nextAt = some at_)
    (base : d.tplTb t = tb) (due : d.upToOn tb at_ = b) (before : (b.each (b.firesFirst n ((b.tplLate t).getD 0)) Dev.fireOne) = e)
    (same : mget? e.cellar.tpls n = some t) (base' : e.tplTb t = tb) (period : e.tplNs t = per) (soon : e.tbNs tb - at_ ≤ 2000) (inside : e.tbNs tb - at_ < per) :
    d.fireTemplate n = (e.modCellar fun c => let tpls := mput c.tpls n { t with nextAt := some (at_ + per) }; { c with tpls := tpls }).gatherNow t := by
  have fires : d.fireTemplate n = e.fireOne n := by
    rw [Dev.fireTemplate, lists]
    dsimp only
    rw [next]
    dsimp only
    rw [base, due]
    exact congrArg (Dev.fireOne · n) before
  rw [fires]
  exact Dev.fireOne_onTime same next period (by rw [base']; exact soon) (by rw [base']; exact inside)

/-- The rows of a region's base, size and owner. -/
theorem region_effect {x : Desc} {g : Fin 1024} {key a o el : Nat} (row : isRow key x g a o el) (h : x.eff = .region) (d : Dev) (v : Nat) (src : Option Src) (b : Bool) :
    d.effect x key (v : Int) src b = atOnce (d.regionWrite g key v b) := by
  have here := row.2.1
  obtain ⟨base, stride, count, sub, el', els, ty, acc, dflt, lo, hi, alt, saved, eff⟩ := x
  subst h
  show atOnce (Dev.regionWrite d (Desc.index _ _) key (Int.toNat v) b) = _
  rw [here, Int.toNat_natCast]

theorem regionOwner_writes {s : State} {r : Src} {g : Fin 1024} {v : Word} (h : s.opens r (K.REG_OWNER g) [v.toNat] 2 = true) :
    let d := s.taken r 2 (K.REG_OWNER g) 0 [v.toNat]
    (d.mode = 2 ∨ d.mode = 7) → (v.toNat < 128 ∨ v.toNat = 0xFE ∨ v.toNat = 0xFF) → d.devNames g = false → 128 ≤ d.obn (K.REG_OWNER g) →
    exec (.regionWrite r g 2 v) s = .next (s.wrote r (K.REG_OWNER g) [v.toNat] (d.event.setOb (K.REG_OWNER g) (v.toNat : Nat))) := by
  intro d mode owner free none_
  have key : K.REG_OWNER g = K.REG_BASE g + 2 := by unfold K.REG_OWNER K.REG_BASE; omega
  have row := key_REG_BASE_2 g g.isLt
  rw [← key] at row
  obtain ⟨-, -, -, -, el⟩ := id row
  have writes : run (fun d => d.writeReq r (K.REG_OWNER g) [v.toNat]) s = .next (s.wrote r (K.REG_OWNER g) [v.toNat] (d.event.setOb (K.REG_OWNER g) (v.toNat : Nat))) := by
    refine write_word h row (.inr (.inl ⟨rfl, by decide⟩)) rfl (by decide) (by omega) (fun _ => mode.imp_right fun h7 => ⟨rfl, h7⟩) (by simp; omega) ?_
    rw [region_effect row rfl, Dev.regionWrite_fits free none_ (by rw [el, if_pos rfl]; simp; omega)]
    rfl
  rw [key] at writes ⊢
  exact writes

theorem regionEdge_writes {s : State} {r : Src} {g : Fin 1024} {v : Word} {el : Fin 2} : let key := K.REG_BASE g + el
    s.opens r key [v.toNat] 2 = true → let d := s.taken r 2 key 0 [v.toNat]
    (d.mode = 2 ∨ d.mode = 7) →
    let e := d.event.setOb key (v.toNat : Nat)
    v.toNat % 16 = 0 → (el = 0 → v.toNat < 2 ^ 20) → e.obn (K.REG_BASE g) + e.obn (K.REG_SIZE g) ≤ 2 ^ 20 →
    (d.regions.any fun q => q != g.val && runsMeet (e.obn (K.REG_BASE g)) (e.obn (K.REG_SIZE g)) (d.obn (K.REG_BASE q)) (d.obn (K.REG_SIZE q))) = false →
    d.devNames g = false → 128 ≤ d.obn (K.REG_OWNER g) → exec (.regionWrite r g (el.castLE (by omega)) v) s = .next (s.wrote r key [v.toNat] e) := by
  intro key h d mode e whole low fits apart free none_
  obtain ⟨x, row, eff, ty, acc, lo, hi⟩ : ∃ x : Desc, isRow key x g 0x8 (0x0 + 0x1 * g) el ∧ x.eff = .region ∧ x.ty = .u24 ∧ x.acc = .rwh ∧ x.lo = 0 ∧ x.hi = 16777215 := by
    rcases (by omega : el.val = 0 ∨ el.val = 1) with h0 | h1
    · exact ⟨_, by simpa only [key, h0, Nat.add_zero] using key_REG_BASE g g.isLt, rfl, rfl, rfl, rfl, rfl⟩
    · exact ⟨_, by simpa only [key, h1] using key_REG_BASE_1 g g.isLt, rfl, rfl, rfl, rfl, rfl⟩
  obtain ⟨-, -, -, -, el_⟩ := id row
  have hv := v.isLt
  refine write_word h row (.inr (.inr (.inr ty))) (by rw [acc]; rfl) (by rw [acc]; decide) (by omega) (fun _ => mode.imp_right fun h7 => ⟨acc, h7⟩) (by rw [lo, hi]; omega) ?_
  have small : ¬ (el.val = 0 ∧ 2 ^ 20 ≤ v.toNat) := fun b => absurd (low (Fin.ext b.1)) (Nat.not_lt.mpr b.2)
  refine (region_effect row eff _ _ _ _).trans (congrArg atOnce (Dev.regionWrite_fits free none_ ?_))
  rw [el_, if_neg (by omega), Bool.or_eq_false_iff, Bool.or_eq_false_iff, Bool.true_and, Bool.or_eq_false_iff]
  refine ⟨⟨by simp [whole], ?_⟩, decide_eq_false (Nat.not_lt.mpr fits), apart⟩
  rw [Bool.and_eq_false_iff, beq_eq_false_iff_ne, decide_eq_false_iff_not]
  omega

/-- Settles O42. -/
theorem cellarCommands : Obligations.CellarCommands := by
  refine ⟨fun s d q f h => ?_, fun s n r next => ?_, fun d n r => Dev.sweepEntry_stale, fun s r g h => ?_, fun s r g d1 k h => ?_, fun s g t runs => ?_,
    fun s r g v h => regionOwner_writes h, fun s r g v el => regionEdge_writes, fun s n t at_ lists next => ?_⟩
  · obtain ⟨missing, good⟩ := Dev.scatterCommit_cases h
    exact ⟨fun gone => run_after (f := (·.scatterCommit)) (missing gone), fun k live tail => run_after (f := (·.scatterCommit)) (good k live tail)⟩
  · refine run_after (f := (·.sweepStep)) ?_
    show s.cmd.sweepStep = _
    rw [Dev.sweepStep, show s.cmd.nextSwept s.cmd.cellar.sweepAt = some (n, r) from next]
  · exact write_word h (key_REG_CONTEST_CLEAR g g.isLt) (.inr (.inl ⟨rfl, by decide⟩)) rfl (by decide) (by omega) (by simp) (by decide)
      (by rw [contestClear_effect]; rfl)
  · intro d none_ idle apart ask
    exact write_waits h (key_REG_CLEAR g g.isLt) (.inr (.inl ⟨rfl, by decide⟩)) rfl (by decide) (by omega) (by simp) (by decide)
      ((regClear_effect _ g _ _ _).trans (Dev.regClearWrite_granted none_ idle apart ask))
  · intro d waits
    exact run_after (f := (·.regClearEnd g)) (Dev.regClearEnd_done (d := s.cmd) runs waits)
  · intro tb per b d same hdr period soon inside
    have base : s.cmd.tplTb t = tb := Dev.tplTb_eq s.cmd t
    have base' : d.tplTb t = tb := by rw [Dev.tplTb_eq, hdr]
    have period' : d.tplNs t = per := by rw [Dev.tplNs, period]
    exact run_after (f := (·.fireTemplate n)) (Dev.fireTemplate_onTime (d := s.cmd) (b := b) (e := d) lists next base rfl rfl same base' period' soon inside)

end Sys2Proof.Machine
end

section
/-! SUPPORT. The dictionary's commands of contexts and personalities (spec 12, R323 to R341). -/
set_option Elab.async false
namespace Sys2Proof.Machine

theorem ctxCmd_effect (d : Dev) (c : Fin 128) (v : Nat) (src : Option Src) (b : Bool) :
    d.effect ⟨0x1, 0x10, 128, 1, 0x0, 1, .u8, .w, 0, 1, 5, none, false, .ctxCmd⟩ (K.CTX_CMD c) (v : Int) src b = d.ctxCmd c v src := by
  show Dev.ctxCmd d (Desc.index _ _) (Int.toNat v) src = _
  rw [(key_CTX_CMD c c.isLt).2.1, Int.toNat_natCast]

theorem ctxCmd_writes {s : State} {r : Src} {c : Fin 128} {v : Nat} {d' : Dev} (h : s.opens r (K.CTX_CMD c) [v] 1 = true) (hv : 1 ≤ v ∧ v ≤ 5)
    (goes : (s.taken r 2 (K.CTX_CMD c) 0 [v]).ctxCmd c v (some r) = (d', some Stat.done)) :
    run (·.writeReq r (K.CTX_CMD c) [v]) s = .next (s.wrote r (K.CTX_CMD c) [v] d') :=
  write_word h (key_CTX_CMD c c.isLt) (.inr (.inl ⟨rfl, by decide⟩)) rfl (by decide) (by omega) (by simp) (by simp; omega) ((ctxCmd_effect _ c v _ _).trans goes)

/-- A bind to a core that runs a context already (R323). -/
theorem Dev.ctxBind_now {d : Dev} {c : Nat} {r : Option Src} (free : d.ctxState c = 0) (good : d.bindCheck c = 0)
    (on : (d.ctxsOn (d.obn (K.CTX_CORE c))).isEmpty = false) (done : (d.bindGo c 0).2 = 0) : d.ctxCmd c 1 r = ((d.bindGo c 0).1, some Stat.done) := by
  show d.ctxBind c r = _
  rw [Dev.ctxBind, if_neg (Classical.not_not.mpr free), if_neg (Classical.not_not.mpr good), if_pos (by rw [on]; rfl)]
  show ((d.bindGo c 0).1, some (d.bindGo c 0).2) = _
  rw [done]

theorem Dev.ctxStart_bound {d : Dev} {c : Nat} {r : Option Src} (bound : d.ctxState c = 1) :
    let e := (d.event.descTiming c).setOb (K.CTX_STATE c) 2
    let soon := e.tbNs (e.ctxTb c) + 100000
    let open_ := if (e.followed c).isSome then soon else 0
    d.ctxCmd c 2 r = (e.modCtx c fun x =>
      { x with resumed := false, migrated := false, swapped := false, misses := 0, open_ := false, doneSeen := false, eff := none, boundaryAt := 0,
               nextAt := e.boundaryFrom c soon, notBefore := open_ }, some Stat.done) := by
  intro e soon open_
  have start : d.ctxStart c = (e.ctxBegin c, Stat.done) := by
    rw [Dev.ctxStart, bound]
    rfl
  show ((d.ctxStart c).1, some (d.ctxStart c).2) = _
  rw [start]
  rfl

theorem Dev.ctxStart_quarantined {d : Dev} {c : Nat} {r : Option Src} (shut : d.ctxState c = 5) :
    d.ctxCmd c 2 r = ((((d.event.descTiming c).setOb (K.CTX_STATE c) 4).modCtx c fun x => { x with restarts := [] }), some Stat.done) := by
  have start : d.ctxStart c = ((((d.event.descTiming c).setOb (K.CTX_STATE c) 4).modCtx c fun x => { x with restarts := [] }), Stat.done) := by
    rw [Dev.ctxStart, shut]
    rfl
  show ((d.ctxStart c).1, some (d.ctxStart c).2) = _
  rw [start]

theorem Dev.ctxStop_runs {d : Dev} {c : Nat} {r : Option Src} (runs : d.ctxState c = 2) (stays : (d.ctx c).migTarget = none) (free : (d.ctx c).migHeld = false) :
    let e := (d.migCancel c).modCtx c fun x => { x with open_ := false }
    d.ctxCmd c 3 r = ((e.each (e.ctx c).ports fun d p => d.moveCancel p).event.setOb (K.CTX_STATE c) 1, some Stat.done) := by
  intro e
  have stop : d.ctxStop c = ((e.each (e.ctx c).ports fun d p => d.moveCancel p).event.setOb (K.CTX_STATE c) 1, Stat.done) := by
    rw [Dev.ctxStop, if_pos (by simp [runs]), stays, free]
    rfl
  show ((d.ctxStop c).1, some (d.ctxStop c).2) = _
  rw [stop]

theorem Dev.ctxUnbind_frees {d : Dev} {c : Nat} {r : Option Src} (idle : d.ctxState c = 1 ∨ d.ctxState c = 5) : d.ctxCmd c 4 r = (d.ctxFree c, some Stat.done) := by
  have unbind : d.ctxUnbind c = (d.ctxFree c, Stat.done) := if_pos (by simpa using idle)
  show ((d.ctxUnbind c).1, some (d.ctxUnbind c).2) = _
  rw [unbind]

theorem Dev.ctxRestart_runs {d : Dev} {c : Nat} {r : Option Src} (runs : d.ctxState c = 2 ∨ d.ctxState c = 3) :
    d.ctxCmd c 5 r = (d.ctxRestart c false, some Stat.done) := by
  have restart : d.ctxRestartCmd c = (d.ctxRestart c false, Stat.done) := if_pos (by simpa using runs)
  show ((d.ctxRestartCmd c).1, some (d.ctxRestartCmd c).2) = _
  rw [restart]

theorem ctxMigrate_effect (d : Dev) (c : Fin 128) (v : Nat) (src : Option Src) (b : Bool) :
    d.effect ⟨0x1, 0x10, 128, 1, 0x1, 1, .u8, .w, 0, 0, 15, none, false, .ctxMigrate⟩ (K.CTX_MIGRATE c) (v : Int) src b = d.ctxMigrate c v src := by
  show Dev.ctxMigrate d (Desc.index _ _) (Int.toNat v) src = _
  rw [(key_CTX_MIGRATE c c.isLt).2.1, Int.toNat_natCast]

/-- A migration to a core that runs a context already (R334). -/
theorem Dev.ctxMigrate_now {d : Dev} {c t : Nat} {r : Option Src} (small : t ≤ 15) (other : t ≠ d.ctxCore c) (runs : d.ctxState c = 2) (calm : (d.ctx c).swapEntry = none)
    (allowed : d.coreBarred t = false) (room : d.coreTakes t (d.obn (K.CTX_PERS c)) = true) (on : (d.ctxsOn t).isEmpty = false) :
    d.ctxMigrate c t r = (((d.event.setOb (K.CTX_STATE c) 3).modCtx c fun x =>
      { x with migTarget := some t, migSlot := (d.freeSlot t).getD 0, migHeld := false }).release 0, some Stat.done) := by
  have good : d.migCheck c t = Stat.done := by
    rw [Dev.migCheck, if_neg (by simp [other]; omega), if_neg (by simp [runs, calm]), if_neg (by simp [allowed]), if_neg (by simp [room])]
  have goes : d.migGo c t 0 = ((d.migArm c t).release 0, Stat.done) := by
    rw [Dev.migGo, good]
    exact (if_neg (by decide)).trans (by rw [on]; rfl)
  rw [Dev.ctxMigrate, good, if_neg (by decide), if_pos (by rw [on]; rfl)]
  show ((d.migGo c t 0).1, some (d.migGo c t 0).2) = _
  rw [goes]
  rfl

theorem ctxPersSwap_effect (d : Dev) (c : Fin 128) (v : Nat) (src : Option Src) (b : Bool) :
    d.effect ⟨0x1, 0x10, 128, 1, 0x2, 1, .u16, .w, 0, 0, 511, none, false, .ctxPersSwap⟩ (K.CTX_PERS_SWAP c) (v : Int) src b = d.ctxPersSwap c v src := by
  show Dev.ctxPersSwap d (Desc.index _ _) (Int.toNat v) src = _
  rw [(key_CTX_PERS_SWAP c c.isLt).2.1, Int.toNat_natCast]

/-- A swap for which the Tap grants its permit (R339). -/
theorem Dev.ctxPersSwap_granted {d e : Dev} {c v k : Nat} {r : Option Src} (small : v < 512) (has : d.hasBundle (v % 256) = true) (free : d.swapShut c v = false)
    (ask : d.ask (.pers c) 300 1000 4 (d.waitLeft r) v = (e, .granted k)) (loads : (e.swapLoad c v k).2 = 0) :
    d.ctxPersSwap c v r = ((e.swapLoad c v k).1, some Stat.done) := by
  rw [Dev.ctxPersSwap, if_neg (by omega), if_neg (by simp [has]), if_neg (by simp [free]), ask]
  show ((e.swapLoad c v k).1, some (e.swapLoad c v k).2) = _
  rw [loads]

theorem persDelete_effect (d : Dev) (j : Fin 256) (src : Option Src) (b : Bool) :
    d.effect ⟨0x800, 0x1, 256, 1, 0x5, 1, .u8, .w, 0, 1, 1, none, false, .persDelete⟩ (K.PERS_DELETE j) (1 : Nat) src b = atOnce (d.deleteBundle j 1) := by
  show atOnce (Dev.deleteBundle d (Desc.index _ _) 1) = _
  rw [(key_PERS_DELETE j j.isLt).2.1]

theorem Dev.deleteBundle_unused {d : Dev} {j : Nat} (unused : (d.persUsers j).isEmpty = true) : d.deleteBundle j 1 =
    ((({ d with bundles := mdel d.bundles j } : Dev).event.zero [K.PERS_STATE j, K.PERS_ID j, K.PERS_VERSION j]).setOb (K.PERS_SIGNER j) 0xFF, Stat.done) := by
  rw [Dev.deleteBundle, if_neg (by decide), if_neg (by simp only [unused]; decide)]

/-- Settles O39. -/
theorem contextRequests : Obligations.ContextRequests := by
  refine ⟨fun s r c h => ?_, fun s r c h => ?_, fun s r c h => ?_, fun s r c h => ?_, fun s r c h => ?_, fun s r c v h => ?_, fun s r c v k d1 h => ?_, fun s r j h => ?_⟩
  · intro d free good on done
    exact ctxCmd_writes h (by decide) (Dev.ctxBind_now free good on done)
  · intro d e soon open_
    exact ⟨fun bound => ctxCmd_writes h (by decide) (Dev.ctxStart_bound bound), fun shut => ctxCmd_writes h (by decide) (Dev.ctxStart_quarantined shut)⟩
  · intro d runs stays free e
    exact ctxCmd_writes h (by decide) (Dev.ctxStop_runs runs stays free)
  · intro d idle
    exact ctxCmd_writes h (by decide) (Dev.ctxUnbind_frees idle)
  · intro d runs
    exact ctxCmd_writes h (by decide) (Dev.ctxRestart_runs runs)
  · intro d small other runs calm allowed room on slot
    exact write_word h (key_CTX_MIGRATE c c.isLt) (.inr (.inl ⟨rfl, by decide⟩)) rfl (by decide) (by omega) (by simp) (by simp; omega)
      ((ctxMigrate_effect _ c _ _ _).trans (Dev.ctxMigrate_now small other runs calm allowed room on))
  · intro d small has free ask loads
    exact write_word h (key_CTX_PERS_SWAP c c.isLt) (.inr (.inr (.inl ⟨rfl, by decide⟩))) rfl (by decide) (by omega) (by simp) (by simp; omega)
      ((ctxPersSwap_effect _ c _ _ _).trans (Dev.ctxPersSwap_granted small has free ask loads))
  · intro d unused
    exact write_word h (key_PERS_DELETE j j.isLt) (.inr (.inl ⟨rfl, by decide⟩)) rfl (by decide) (by omega) (by simp) (by decide)
      ((persDelete_effect _ j _ _).trans (congrArg atOnce (Dev.deleteBundle_unused unused)))

end Sys2Proof.Machine
end

section
/-! SUPPORT. A one-shot source that is pending when its enable bit is written leaves that bit 0 (spec 18, R511): `Obligations.InterruptCommands` says that a
write of an enable word leaves every bit as it is written. -/
set_option Elab.async false
namespace Sys2Proof.Machine

/-- A block whose gather source 0 is pending, not enabled, and routed to the host's vector 0 with ONESHOT. -/
def oneShotPends : Dev := (({} : Dev).setOb (K.GC_ROUTE 0) (20 * 2 ^ 19 + 2 ^ 13)).modGather fun g => { g with pend := 1 }

theorem gcEnWrite_delivers_oneShot : (oneShotPends.gcEnWrite 0 1).gather.en.testBit 0 = false := by decide +kernel

/-- Refutes O52: the write of 1 to enable word 0 delivers source 0 at once, and its ONESHOT clears the bit that the write has set. -/
theorem not_interruptCommands : ¬ Obligations.InterruptCommands := by
  rintro ⟨-, -, -, -, -, -, -, -, bits, -⟩
  have claimed := bits oneShotPends 0 1 0 (by decide) (by decide)
  rw [gcEnWrite_delivers_oneShot] at claimed
  exact absurd claimed (by decide)

end Sys2Proof.Machine
end

section
/-! SUPPORT. A context's cycle: boundary, cycle points, DONE, miss, checkpoint, restore, migration and swap (spec 12, R328 to R339). -/
set_option Elab.async false
namespace Sys2Proof.Machine

theorem Dev.ctx_logE (d : Dev) (code inst c : Nat) : (d.logE code inst).ctx c = d.ctx c := by
  have stAll (d : Dev) (a : Nat) (l : List Nat) : (d.stAll a l).ctx c = d.ctx c := by
    induction l generalizing d a with
    | nil => rfl
    | cons v r ih => exact ih (d.st a v) (a + 1)
  unfold Dev.logE
  dsimp only
  split
  · exact stAll ..
  · rfl

theorem Dev.ctx_logSec (d : Dev) (code inst c : Nat) : (d.logSec code inst).ctx c = d.ctx c := by
  unfold Dev.logSec Dev.logRate
  split
  · split
    · exact Dev.ctx_logE ..
    · rfl
  · exact Dev.ctx_logE ..

theorem Dev.ctx_modCtx_same (d : Dev) (c : Nat) (f : Ctx → Ctx) : (d.modCtx c f).ctx c = f (d.ctx c) := mget_mmod_same ..

theorem Dev.ctx_setOb (d : Dev) (key : Nat) (v : Int) (c : Nat) : (d.setOb key v).ctx c = d.ctx c := rfl

theorem Dev.ctx_bump (d : Dev) (key c : Nat) : (d.bump key).ctx c = d.ctx c := by
  unfold Dev.bump Dev.bumpBy
  split
  · split <;> rfl
  · rfl

/-- The boundary of a context that runs, follows no other and neither copies nor migrates (R328, R329). -/
theorem Dev.ctxBoundary_opens {d0 : Dev} {c : Nat} (runs0 : d0.ctxState c = 2) (alone : d0.followed c = none) :
    let at_ := (d0.ctx c).nextAt
    let d := d0.upToOn (d0.ctxTb c) at_
    d.ctxState c = 2 → (d.ctx c).open_ = false → (d.ctx c).copying = none → (d.ctx c).migTarget = none →
    let e := d.event.setOb (K.CTX_CYCLE c) ((d.obn (K.CTX_CYCLE c) + 1) % 2 ^ 24 : Nat)
    let f := e.modCtx c fun x =>
      let pending := putBit x.pending 0 true
      let next := at_ + e.ctxPeriod c * 1000
      { x with pending := pending, open_ := true, doneSeen := false, boundaryAt := at_, nextAt := next, cpFired := 0, eff := none }
    let g := (f.modCtx c fun x => { x with eff := some (f.ctxEff c) }).descPut c 6 [(f.ctxEff c).deadline]
    d0.ctxBoundary c = ((g.pulse (g.ctxCore c) (16 + 2 * g.ctxSlot c)).each
      ((g.pulse (g.ctxCore c) (16 + 2 * g.ctxSlot c)).ctx c).ports fun d p => d.chBoundary p).movesDue c := by
  intro at_ d runs shut calm stays e f g
  have due : d0.boundaryDue c = at_ := by rw [Dev.boundaryDue, alone]
  have aborts : d.ckptAbort c = d := if_pos (by rw [calm]; rfl)
  unfold Dev.ctxBoundary
  dsimp only
  rw [if_neg (by simp [runs0]), due, if_neg (by simp [alone]), show d0.upToOn (d0.ctxTb c) at_ = d from rfl,
    if_neg (show ¬ (decide (d.ctxState c = 3) && (d.ctx c).migHeld) = true by simp [runs]), if_neg (show ¬ (d.ctx c).open_ = true by simp [shut]),
    if_neg (by simp [runs]), aborts, if_neg (by simp [stays])]

theorem Dev.ctxPoint_passes {d0 : Dev} {c j : Nat} (runs : d0.ctxState c = 2) (alone : d0.followed c = none) (later : j ≠ 0) :
    let x := d0.ctx c
    let ofs := (d0.ctxEff c).cps.getD (j - 1) 0
    ofs ≠ 0 → x.eff.isSome = true → x.cpFired.testBit j = false →
    let l := (List.range' 1 7).filter fun i => (d0.ctxEff c).cps.getD (i - 1) 0 == ofs
    let d := (d0.upToOn (d0.ctxTb c) (x.boundaryAt + ofs * 1000)).event.modCtx c fun x =>
      let pending := l.foldl (fun v i => putBit v i true) x.pending
      let fired := l.foldl (fun v i => putBit v i true) x.cpFired
      { x with pending := pending, cpFired := fired }
    d0.ctxPoint c j = d.pulse (d.ctxCore c) (17 + 2 * d.ctxSlot c) := by
  intro x ofs some_ taken fresh l d
  have shift : (((ofs * 1000 : Nat) : Int) + (ofs * 1000 : Nat) * 0 / 2 ^ 64).toNat = ofs * 1000 := by
    rw [Int.mul_zero, Int.zero_ediv, Int.add_zero, Int.toNat_natCast]
  have ofs' : (d0.ctxEff c).cps.getD (j - 1) 0 ≠ 0 := some_
  have taken' : (d0.ctx c).eff ≠ none := Option.isSome_iff_ne_none.mp taken
  have fresh' : (d0.ctx c).cpFired.testBit j = false := fresh
  unfold Dev.ctxPoint
  dsimp only
  rw [if_neg later, alone, if_neg (by simpa [runs, fresh'] using And.intro ofs' taken')]
  dsimp only
  rw [shift]

theorem Dev.ctxDone_ends {d : Dev} {c : Nat} (runs : d.ctxState c = 2 ∨ d.ctxState c = 3) (first : (d.ctx c).doneSeen = false)
    (early : (d.ctx c).open_ = false ∨ d.tbNs (d.ctxTb c) ≤ (d.ctx c).boundaryAt + d.deadlineNs c) (never : (d.ctxEff c).ckptEvery = 0) :
    d.ctxDone c = d.modCtx c fun x =>
      let missed := if x.open_ then 0 else x.misses
      { x with doneSeen := true, misses := missed, open_ := false, resumed := false, migrated := false, swapped := false } := by
  have inTime : ((d.ctx c).open_ && decide ((d.ctx c).boundaryAt + d.deadlineNs c < d.tbNs (d.ctxTb c))) = false := by
    rcases early with h | h
    · rw [h]; rfl
    · rw [decide_eq_false (Nat.not_lt.mpr h), Bool.and_false]
  have active : (d.ctxState c ≠ 2 && d.ctxState c ≠ 3 : Bool) = false := by
    rcases runs with h | h <;> rw [h] <;> rfl
  have never' (f : Ctx → Ctx) (same : (f (d.ctx c)).eff = (d.ctx c).eff) : ((d.modCtx c f).ctxEff c).ckptEvery = 0 := by
    rw [← never]
    unfold Dev.ctxEff Dev.ctx Dev.modCtx
    rw [mget_mmod_same]
    exact congrArg (fun e : Option CtxEff => (e.getD _).ckptEvery) same
  unfold Dev.ctxDone
  dsimp only
  rw [if_neg (show ¬ ((d.ctx c).open_ && decide ((d.ctx c).boundaryAt + d.deadlineNs c < d.tbNs (d.ctxTb c))) = true by rw [inTime]; decide),
    if_neg (by rw [first, active]; decide)]
  exact if_neg (by rw [never' _ rfl]; simp)

theorem Dev.ckptEnd_poisoned {d : Dev} {c : Nat} {k : Bool} (copies : (d.ctx c).copying = some k)
    (bad : (d.poison.any fun a => decide (d.winBase c ≤ a) && decide (a < d.winBase c + d.ctxWords c)) = true) : d.ckptEnd c = d.ckptAbort c := by
  rw [Dev.ckptEnd, copies]
  exact if_pos bad

/-- A checkpoint of a window with no poisoned word (R331). -/
theorem Dev.ckptEnd_copies {d : Dev} {c : Nat} {k : Bool} (copies : (d.ctx c).copying = some k)
    (good : (d.poison.any fun a => decide (d.winBase c ≤ a) && decide (a < d.winBase c + d.ctxWords c)) = false) :
    let gen := (d.obn (K.CTX_CKPT_GEN c) + 1) % 2 ^ 24
    let at_ := d.copyBase c k
    let e := ((d.clearMem at_ (at_ + 256)).stAll at_ [gen, d.obn (K.CTX_CYCLE c)]).stAll (at_ + 256) (d.ldAll (d.winBase c) (d.ctxWords c))
    d.ckptEnd c = (((e.modCtx c fun x =>
      let both := if k then (x.copies.1, ⟨true, gen⟩) else (⟨true, gen⟩, x.copies.2)
      { x with copying := none, ckptStatus := Stat.done, copies := both }).setOb (K.CTX_CKPT_GEN c) (gen : Nat)).bump (K.CTX_CKPTS c)) := by
  intro gen at_ e
  rw [Dev.ckptEnd, copies]
  exact if_neg (by rw [good]; decide)

theorem Dev.ckptDone_goes {d : Dev} {c : Nat} {k : Bool} (copies : (d.ctx c).copying = some k) :
    d.ckptDone c = if ((d.ckptEnd c).ctx c).ckptStatus = Stat.done then d.ckptEnd c else (d.ckptEnd c).migAbort c := if_neg (by simp [copies])

theorem Dev.ckptAbort_status {d : Dev} {c : Nat} {k : Bool} (copies : (d.ctx c).copying = some k) : ((d.ckptAbort c).ctx c).ckptStatus = Stat.aborted := by
  rw [Dev.ckptAbort, if_neg (by simp [copies])]
  dsimp only
  rw [Dev.ctx_logSec, Dev.ctx_bump, Dev.ctx_modCtx_same]

theorem Dev.ctxRestored_newest {d0 : Dev} {c : Nat} {k : Bool} (restores : d0.ctxState c = 4) (newest : d0.newestCopy c = some k) :
    let d := (d0.stAll (d0.winBase c) (d0.ldAll (d0.copyBase c k + 256) (d0.ctxWords c))).event.setOb (K.CTX_STATE c) 2
    d0.ctxRestored c = d.modCtx c fun x =>
      let t := d.tbNs (d.ctxTb c)
      let next := d.boundaryFrom c t
      let open_ := if (d.followed c).isSome then t else 0
      { x with resumed := true, migrated := false, swapped := false, open_ := false, nextAt := next, notBefore := open_ } := by
  intro d
  unfold Dev.ctxRestored
  dsimp only
  rw [if_neg (by simp [restores]), newest]
  rfl

theorem Dev.migLand_asleep {d : Dev} {c t : Nat} (migrates : d.ctxState c = 3) (target : (d.ctx c).migTarget = some t) (held : (d.ctx c).migHeld = true)
    (off : d.epOn t = false) : d.migLand c = d.migAbort c := by
  unfold Dev.migLand
  dsimp only
  rw [target]
  dsimp only
  rw [if_neg (by simp [migrates, held]), if_pos (by simp [off])]

/-- A migration that lands by its deadline (R335). -/
theorem Dev.migLand_runs {d0 : Dev} {c t : Nat} (migrates : d0.ctxState c = 3) (target : (d0.ctx c).migTarget = some t) (held : (d0.ctx c).migHeld = true)
    (inTime : d0.tbNs (d0.ctxTb c) ≤ (d0.ctx c).boundaryAt + d0.deadlineNs c) (on : d0.epOn t = true) :
    let d := d0.ckptEnd c
    (d.ctx c).ckptStatus = Stat.done → ∀ k, d.newestCopy c = some k →
    let slot := (d0.ctx c).migSlot
    let e := ((d.event.stAll (localAddr t (0xC00 * slot)) (d.ldAll (d.copyBase c k + 256) (d.ctxWords c))).setOb (K.CTX_STATE c) 2).ctxMoveTo c t slot
    let f := (e.modCtx c fun x => { x with migrated := true, resumed := true }).pulse t (16 + 2 * slot)
    d0.migLand c = (f.logE 0x6010 c).bump (K.CTX_MIGRATIONS c) := by
  intro d copied k newest slot e f
  unfold Dev.migLand
  dsimp only
  rw [target]
  dsimp only
  rw [if_neg (by simp [migrates, held]), if_neg (by simp [on]; omega), if_neg (Classical.not_not.mpr copied), newest]
  rfl

theorem Dev.migLate_aborts {d0 : Dev} {c : Nat} (migrates : d0.ctxState c = 3) (held : (d0.ctx c).migHeld = true) :
    d0.migLate c = (if (d0.ctx c).copying = none ∧ (d0.ctx c).ckptStatus ≠ Stat.done then d0
      else d0.upToOn (d0.ctxTb c) ((d0.ctx c).boundaryAt + d0.deadlineNs c)).migAbort c := by
  unfold Dev.migLate
  dsimp only
  rw [if_neg (by simp [migrates, held])]
  congr 2
  simp

theorem Dev.blockWrite_ctx {d : Dev} {k w v : Nat} {c : Fin 128} (hw : w < 16) :
    d.blockWrite k (0x300000 + (0x3000 + 16 * c + w)) v = (d.ctxWrite k c w v, Stat.done) := by
  unfold Dev.blockWrite
  dsimp only
  rw [Nat.add_sub_cancel_left, if_neg (by omega), if_neg (by simp; omega), if_neg (by simp; omega), if_pos (by simp; omega),
    show (0x3000 + 16 * c.val + w - 0x3000) / 16 = c by omega, show (0x3000 + 16 * c.val + w) % 16 = w by omega]

theorem Dev.agentStore_ctx {d : Dev} {k : Fin 20} {c : Fin 128} {w v : Nat} (hw : w < 16) (runs : d.coreRuns k = true) (agent : d.ctxAgent k c = true) :
    d.agentStore (k.castLE (by omega) : Fin 21) (ctxWordAt c w) v = d.ctxWrite k c w v := by
  have place : ctxWordAt c w = 0x300000 + (0x3000 + 16 * c + w) := by rw [ctxWordAt]; omega
  have far : d.farFirst k (ctxWordAt c w) = d := Dev.farFirst_other (by rw [place]; simp; omega)
  refine (if_neg (show ¬ k.val = 20 by omega)).trans (Dev.coreStoreAt_done runs ?_)
  show (d.farFirst k _).storeWord k _ v = _
  rw [far, place]
  exact (Dev.storeWord_block (by omega)).trans (Dev.blockWrite_ctx hw)

/-- Settles O40. -/
theorem contextEvents : Obligations.ContextEvents := by
  refine ⟨fun s c runs0 alone open0 copying0 mig0 => ?_, fun s c j => ?_, fun s k c v runs agent => ⟨?_, ?_, ?_⟩,
    fun d c runs first early never => Dev.ctxDone_ends runs first early never, fun s c opened => ?_, fun s c k copies good => ?_, fun s c k copies bad => ?_,
    fun s c k restores newest => ?_, fun s c t migrates target held => ⟨fun off => ?_, fun inTime on => ?_⟩, fun s c migrates held => ?_, fun s c swaps => ?_⟩
  · intro at_ d runs shut calm stays
    exact run_after (f := (·.ctxBoundary c)) (Dev.ctxBoundary_opens (d0 := s.cmd) runs0 alone runs shut calm stays)
  · intro x ofs runs alone later some_ taken fresh
    exact run_after (f := (·.ctxPoint c j)) (Dev.ctxPoint_passes (d0 := s.cmd) runs alone later some_ taken fresh)
  · refine run_after (f := (·.agentStore _ (ctxWordAt c 3) 1)) ((Dev.agentStore_ctx (by decide) runs agent).trans ?_)
    exact if_neg (by simp [agent])
  · refine run_after (f := (·.agentStore _ (ctxWordAt c 2) v.toNat)) ((Dev.agentStore_ctx (by decide) runs agent).trans ?_)
    exact if_neg (by simp [agent])
  · refine run_after (f := (·.agentStore _ (ctxWordAt c 4) v.toNat)) ((Dev.agentStore_ctx (by decide) runs agent).trans ?_)
    exact if_neg (by simp [agent])
  · intro d
    have miss (e : Dev) (h : (if d.ctxState c = 3 && (d.ctx c).migHeld then d.migAbort c else d.ctxMiss c) = e) : s.cmd.deadlineMiss c = e :=
      (if_neg (show ¬ (!(s.dev.ctx c).open_) = true by rw [opened]; decide)).trans h
    refine ⟨fun free => run_after (f := (·.deadlineMiss c)) (miss _ (if_neg ?_)), fun migrates held => run_after (f := (·.deadlineMiss c)) (miss _ (if_pos ?_))⟩
    · simpa using free
    · simp [migrates, held]
  · intro d gen at_ e
    have ends := Dev.ckptEnd_copies (d := s.cmd) copies good
    refine run_after (f := (·.ckptDone c)) ((Dev.ckptDone_goes (d := s.cmd) copies).trans ((if_pos ?_).trans ends))
    rw [ends, Dev.ctx_bump, Dev.ctx_setOb, Dev.ctx_modCtx_same]
  · refine run_after (f := (·.ckptDone c)) ((Dev.ckptDone_goes (d := s.cmd) copies).trans ?_)
    rw [Dev.ckptEnd_poisoned (d := s.cmd) copies bad]
    exact if_neg (by rw [Dev.ckptAbort_status (d := s.cmd) copies]; decide)
  · exact run_after (f := (·.ctxRestored c)) (Dev.ctxRestored_newest (d0 := s.cmd) restores newest)
  · exact run_after (f := (·.migLand c)) (Dev.migLand_asleep (d := s.cmd) migrates target held off)
  · intro d copied k newest slot e f
    exact run_after (f := (·.migLand c)) (Dev.migLand_runs (d0 := s.cmd) migrates target held inTime on copied k newest)
  · exact run_after (f := (·.migLate c)) (Dev.migLate_aborts (d0 := s.cmd) migrates held)
  · exact run_after (f := (·.swapCancel c)) (if_neg (show ¬ (s.dev.ctx c).swapEntry.isNone = true by rw [Option.isNone_iff_eq_none]; intro h; rw [h] at swaps; cases swaps))

end Sys2Proof.Machine
end

section
/-! SUPPORT. SAVE, RESTORE_DEFAULTS, subscriptions, time-outs, completions and locks of the dictionary (spec 03, R79 to R102). -/
set_option Elab.async false
namespace Sys2Proof.Machine

theorem save_granted {s : State} {r : Src} {n : Nat} {d' : Dev} (takes : s.takes r 11 0 0 [] = true) :
    let d := s.taken r 11 0 0 []
    d.barred r.via 0 = false → 3 ≤ d.pathLevel r.via → d.saveBusy = false → d.ask .save 400 2000000 3 (d.waitLeft (some r)) 0 = (d', .granted n) →
    exec (.save r) s = .next (s.after (d'.saveGo n (some r))) := by
  intro d allowed level idle granted
  have saves : d.saveReq r = (d'.saveGo n (some r), none) := by
    rw [Dev.saveReq, if_neg (by rw [idle]; decide), granted]
  refine request_waits takes ?_
  show (if d.barred r.via 0 then _ else _) = _
  rw [if_neg (by rw [allowed]; decide), if_neg (Nat.not_lt.mpr level), saves]
  rfl

theorem Dev.saveEnd_keeps {d : Dev} {r : Option Src} {b : Bool} {img : AtticImage} {num q : Nat} (saves : d.store.saving = some (r, b, img, num, q))
    (flash : d.sump.flashOk = true) : d.saveEnd true =
      ((((({ d with store := { d.store with saving := none }.setCopy b (some img) }).setOb K.ATTIC_GEN (img.gen : Nat)).saveBundles).release num).complete r Stat.done) := by
  unfold Dev.saveEnd
  rw [saves]
  dsimp only
  rw [flash]
  rfl

theorem Dev.saveEnd_fails {d : Dev} {r : Option Src} {b : Bool} {img : AtticImage} {num q : Nat} (saves : d.store.saving = some (r, b, img, num, q)) :
    d.saveEnd false = (((({ d with store := { d.store with saving := none } }).logE 0x0020 0).release num).complete r Stat.internal) := by
  unfold Dev.saveEnd
  rw [saves]
  rfl

theorem restoreDefaults_restores {s : State} {r : Src} (takes : s.takes r 12 0 0 [] = true) :
    let d := s.taken r 12 0 0 []
    d.barred r.via 0 = false → 3 ≤ d.pathLevel r.via → d.mode = 2 ∨ d.mode = 7 →
    let keys := (d.od.map (·.1)).filter isSaved
    let doms := (d.blob.map (·.1)).filter isSaved
    exec (.restoreDefaults r) s = .next (s.answers r 12 0 0 []
      (doms.foldl (fun d k => { (d.installTable k []).1 with blob := mdel d.blob k }) (keys.foldl (fun d k => d.restoreOne r k) d.event)) (ans Stat.done)) := by
  intro d allowed level mode keys doms
  refine request_takes takes ?_
  show ((d.opRestore r).1, some (d.opRestore r).2) = _
  rw [Dev.opRestore, if_neg (by rw [allowed]; decide), if_neg (Nat.not_lt.mpr level), if_neg (by rcases mode with h | h <;> rw [h] <;> decide)]

theorem Dev.subscribeSend_hatch {d0 d : Dev} {num : Nat} {u : Sub} {x : Desc} {v : List Nat}
    (finds : (d0.dict.subs.find? fun u => u.via == .hatch && u.num == num) = some u) (served : d0.served 0 = true)
    (due : d0.upTo (u.sentAt + (if u.period = 0 then 1 else u.period) * 1000000) = d) (desc : d.desc u.key = some x) (words : d.wordsAt x u.key = v)
    (news : u.onChange = true → v ≠ u.last) :
    let d' := d.modDict fun y => { y with subs := y.subs.map fun w => if w.via = .hatch && w.num = num then { w with sentAt := d.now, last := v } else w }
    d0.subscribeSend .hatch num = ({ d' with free := d'.free + 512 }).postNote ([0xC0 * 65536 + num * 256 + v.length, 0, d.seq] ++ v) := by
  unfold Dev.subscribeSend
  rw [finds]
  dsimp only
  rw [if_neg (by rw [served]; decide), due, desc]
  dsimp only
  rw [words, if_neg (by simpa using news)]

theorem Dev.dictTimeout_ends {d0 d1 d : Dev} {r : Src} {t t' : Tx} (flies : (d0.dict.inflight.find? fun t => t.src == r) = some t) (served : d0.served 0 = true)
    (due : d0.upTo (t.started + 100000000) = d1) (drains : (if d1.served 2 then (d1.tapWaits).drain 64 else d1) = d)
    (waits : (d.dict.inflight.find? fun t => t.src == r) = some t') (fresh : t'.took = none) :
    d0.dictTimeout r = (((d.withdraw t'.wait).bump K.DICT_TIMEOUTS).recheck).complete (some r) Stat.timeout := by
  unfold Dev.dictTimeout
  rw [flies]
  dsimp only
  rw [if_neg (by rw [served]; decide), due, drains, waits]
  exact if_neg (by rw [fresh]; decide)

theorem Dev.postCompl_posts {d : Dev} {c : Compl} {rest : List Compl} {t : Nat} (finished : d.dict.finished = c :: rest) (room : d.ringFill 3 4 < 256)
    (tail : d.ld (hatch 3) = t) :
    d.postCompl = (((d.stAll (hatch (0x4100 + 64 * (t % 256))) c.words).st (hatch 3) ((t + 1) % 2 ^ 24)).modDict fun x => { x with finished := rest }).raise 0x540 := by
  unfold Dev.postCompl
  rw [finished]
  dsimp only
  rw [if_neg (Nat.not_le.mpr room), tail]

theorem revokeKey_writes {s : State} {r : Src} {v : Word} (h : s.opens r K.REVOKE_KEY [v.toNat] 3 = true) (small : v.toNat ≤ 3) :
    let d := s.taken r 2 K.REVOKE_KEY 0 [v.toNat]
    ((List.range 4).filter fun k => d.store.keyState.testBit k && !d.store.keyState.testBit (4 + k)) ≠ [v.toNat] → v.toNat ≠ d.store.signer →
    exec (.revokeKey r v) s = .next (s.wrote r K.REVOKE_KEY [v.toNat]
      { d.event with store := { d.store with keyState := putBit d.store.keyState (4 + v.toNat) true } }) := by
  intro d spare other
  refine write_word h key_REVOKE_KEY (.inr (.inl ⟨rfl, by decide⟩)) rfl (by decide) (by omega) (by simp) (by simp; omega) ?_
  show atOnce (Dev.revokeKey d (v.toNat : Int).toNat) = _
  rw [Int.toNat_natCast, Dev.revokeKey, if_neg (by omega), if_neg (by simp only [Bool.or_eq_true, beq_iff_eq, decide_eq_true_eq]; exact not_or.mpr ⟨spare, other⟩)]
  rfl

/-- Settles O6. -/
theorem dictionaryServices : Obligations.DictionaryServices := by
  refine ⟨fun s r n d' takes => save_granted takes, fun s r b img num q saves => ⟨fun flash => ?_, ?_⟩, fun s r takes => restoreDefaults_restores takes,
    fun s num u x finds served => ?_, fun s r t t' flies served => ?_, fun s c rest served finished room => ?_, fun s r v h small => revokeKey_writes h small,
    fun s r h commission => ?_⟩
  · exact run_after (f := (·.saveEnd true)) (Dev.saveEnd_keeps (d := s.cmd) saves flash)
  · exact run_after (f := (·.saveEnd false)) (Dev.saveEnd_fails (d := s.cmd) saves)
  · intro d desc v news d'
    exact run_after (f := (·.subscribeSend .hatch num)) (Dev.subscribeSend_hatch (d0 := s.cmd) finds served rfl desc rfl news)
  · intro d1 d waits fresh
    exact run_after (f := (·.dictTimeout r)) (Dev.dictTimeout_ends (d0 := s.cmd) flies served rfl rfl waits fresh)
  · intro t
    exact run_after (f := fun d => if d.served 0 then d.postCompl else d) ((if_pos served).trans (Dev.postCompl_posts (d := s.cmd) finished room rfl))
  · exact write_word h key_JTAG_LOCK (.inl ⟨rfl, by decide⟩) rfl (by decide) (by omega) (fun _ => .inl commission) (by decide) rfl

end Sys2Proof.Machine
end

section
/-! SUPPORT. The datagrams of AAP (spec 03, R91 to R95). -/
set_option Elab.async false
namespace Sys2Proof.Machine

/-- A HELLO that finds a free session (R91). -/
theorem Dev.aapHello_offers {d0 d : Dev} {u addr k n : Nat} {l : List Byte} {g : AapIn} (reads : aapIn l = some g) (takes : d0.aapTakes u addr = true) (kind : g.kind = 1)
    (plain : g.plain = true) (len : g.body.length = 17) (level : byteAt g.body 0 ≤ 3) (room : d0.obn K.AAP_SESSIONS < 8) (free : d0.sessFree = some k)
    (drawn : d0.fresh 128 = (n, d)) :
    d0.aapHello u addr l = (d.modSess fun x => ⟨k, false, u, addr, byteAt g.body 0, g.body.drop 1, beBytes 16 n, d.now, [], [], 0, 0⟩ ::
      (x.filter fun s => s.sess != k)).aapPlain u addr 2 (beBytes 16 n ++ beBytes 2 k) := by
  unfold Dev.aapHello
  rw [reads]
  dsimp only
  rw [if_neg (by simp [takes, kind, plain]), if_neg (Classical.not_not.mpr len), if_neg (Nat.not_lt.mpr level), if_neg (Nat.not_le.mpr room), free, drawn]

section
variable {d : Dev} {u addr : Nat} {l : List Byte} {g : AapIn} {e : AapSess} (reads : aapIn l = some g) (takes : d.aapTakes u addr = true) (kind : g.kind = 3)
  (plain : g.plain = true) (len : g.body.length = 34)
  (offered : (d.dict.sess.find? fun s => s.sess == beNat (g.body.take 2) && !s.opened && s.up == u && s.addr == addr) = some e) (inTime : d.now ≤ e.at_ + 1000000000)
include reads takes kind plain len offered inTime

/-- A PROVE whose proof is right opens its session (R92). -/
theorem Dev.aapProve_opens (good : d.proofOf e = some (g.body.drop 2)) :
    let k := beNat (g.body.take 2)
    let e' : AapSess := { e with opened := true, at_ := d.now, key := d.keyOf e }
    d.aapProve u addr l = ((d.modSess fun x => e' :: (x.filter fun s => s.sess != k)).aapSend k 4 (beBytes 2 k ++ beBytes 1 e.level)).1 := by
  unfold Dev.aapProve
  rw [reads]
  dsimp only
  rw [if_neg (by simp [takes, kind, plain]), if_neg (Classical.not_not.mpr len), offered]
  dsimp only
  rw [if_neg (Nat.not_lt.mpr inTime), if_neg (Classical.not_not.mpr good)]

theorem Dev.aapProve_fails (wrong : d.proofOf e ≠ some (g.body.drop 2)) :
    d.aapProve u addr l = (d.modSess fun x => x.filter fun s => s.sess != beNat (g.body.take 2)).proofFails u addr := by
  unfold Dev.aapProve
  rw [reads]
  dsimp only
  rw [if_neg (by simp [takes, kind, plain]), if_neg (Classical.not_not.mpr len), offered]
  dsimp only
  rw [if_neg (Nat.not_lt.mpr inTime), if_pos wrong]

end

section
variable {d0 d : Dev} {u addr : Nat} {l : List Byte} {g : AapIn} {e : AapSess} (reads : aapIn l = some g) (takes : d0.aapTakes u addr = true)
include reads takes

theorem Dev.aapRequests_fresh (kind : g.kind = 0x10) (judged : d0.aapJudge g = (d, .fresh e)) :
    d0.aapRequests u addr l = g.requests.foldl (fun d w => d.requestWords (.aap (Fin.ofNat 8 e.sess)) w)
      (d.aapNote e.sess g.seq (g.requests.map fun w => bits (w.getD 0 0) 15 8)) := by
  unfold Dev.aapRequests
  rw [reads]
  dsimp only
  rw [if_neg (by simp [takes, kind]), judged]

theorem Dev.aapRequests_again {stored : List (List Byte)} (kind : g.kind = 0x10) (judged : d0.aapJudge g = (d, .again e stored)) :
    d0.aapRequests u addr l = stored.foldl (fun d b => d.emit (.aap e.up e.addr b)) d := by
  unfold Dev.aapRequests
  rw [reads]
  dsimp only
  rw [if_neg (by simp [takes, kind]), judged]

theorem Dev.aapClose_closes (kind : g.kind = 0x13) (judged : d0.aapJudge g = (d, .fresh e)) : d0.aapClose u addr l = d.sessClose e.sess := by
  unfold Dev.aapClose
  rw [reads]
  dsimp only
  rw [if_neg (by simp [takes, kind]), judged]

end

theorem Dev.aapOpenRead_serves {d : Dev} {u : Fin 4} {addr : Nat} {l : List Byte} {g : AapIn} (reads : aapIn l = some g) (takes : d.aapTakes u.val addr = true)
    (kind : g.kind = 0x10) (plain : g.plain = true) (opened : d.obb K.AAP_OPEN_READ = true) :
    d.aapOpenRead u addr l = g.requests.foldl (fun d w => d.requestWords (.aapOpen u addr) w) d := by
  unfold Dev.aapOpenRead
  rw [reads]
  exact if_neg (by simp [takes, kind, plain, opened])

theorem Dev.aapIdle_closes {d : Dev} {k : Nat} {e : AapSess} (live : d.sessOpen k = some e) (served : d.served 0 = true) :
    d.aapIdle k = (d.upTo (d.sessEnds e)).sessClose k := by
  unfold Dev.aapIdle
  rw [live]
  exact if_pos served

theorem Dev.aapUnblock_frees {d : Dev} {addr : Nat} {b : Nat × Nat} (blocked : (d.dict.blocked.find? fun b => b.1 == addr) = some b) :
    d.aapUnblock addr = (d.upTo b.2).modDict fun x => { x with blocked := x.blocked.filter fun b => b.1 != addr } := by
  unfold Dev.aapUnblock
  rw [blocked]

/-- Settles O9. -/
theorem aapCommands : Obligations.AapCommands := by
  refine ⟨fun s u addr l g k reads takes kind plain len level room free => ?_, fun s u addr l g e reads takes kind plain len => ?_,
    fun s u addr l g e d reads takes kind judged => ?_, fun s u addr l g e d stored reads takes kind judged => ?_,
    fun s u addr l g reads takes kind plain opened => ?_, fun s u addr l g e d reads takes kind judged => ?_, fun s k e live served => ?_,
    fun s addr b blocked => ?_⟩
  · exact run_after (f := (·.aapHello u addr l)) (Dev.aapHello_offers reads takes kind plain len level room free rfl)
  · intro k offered inTime
    exact ⟨fun good => run_after (f := (·.aapProve u addr l)) (Dev.aapProve_opens reads takes kind plain len offered inTime good),
      fun wrong => run_after (f := (·.aapProve u addr l)) (Dev.aapProve_fails reads takes kind plain len offered inTime wrong)⟩
  · exact run_after (f := (·.aapRequests u addr l)) (Dev.aapRequests_fresh reads takes kind judged)
  · exact run_after (f := (·.aapRequests u addr l)) (Dev.aapRequests_again reads takes kind judged)
  · exact run_after (f := (·.aapOpenRead u addr l)) (Dev.aapOpenRead_serves reads takes kind plain opened)
  · exact run_after (f := (·.aapClose u addr l)) (Dev.aapClose_closes reads takes kind judged)
  · exact run_after (f := (·.aapIdle k)) (Dev.aapIdle_closes live served)
  · exact run_after (f := (·.aapUnblock addr)) (Dev.aapUnblock_frees blocked)

end Sys2Proof.Machine
end

section
/-! SUPPORT. Writes, transfers and subscriptions of the dictionary (spec 03, R75 to R79; 14, R395). -/
set_option Elab.async false
namespace Sys2Proof.Machine

theorem Dev.opWrite_done {d d' : Dev} {r : Src} {key : Nat} {w : List Nat} {x : Desc} {v : Int} (allowed : d.barred r.via key = false)
    (value : d.valueOf r.via key w = (x, v, Stat.done)) (goes : d.effect x key v (some r) true = (d', some Stat.done)) :
    d.opWrite r key w = (d'.atticWritten key, some (ans Stat.done)) := by
  unfold Dev.opWrite
  rw [if_neg (by rw [allowed]; decide), value]
  show answered (let y := d.effect x key v (some r) true; (if y.2 = some Stat.done then y.1.atticWritten key else y.1, y.2)) = _
  rw [goes]
  rfl

theorem Dev.opWriteMulti_all {d d' : Dev} {r : Src} {w : List Nat} {l : List (Nat × Desc × Int × Nat)} (items : d.multiItems r.via 61 w = l) (some_ : l ≠ [])
    (good : ∀ e ∈ l, e.2.2.2 = Stat.done) (goes : d.multiApply r l 0 = (d', .all)) (crosses : ∀ e ∈ l, d'.crossBad e.2.1 e.1 = Stat.done) :
    d.opWriteMulti r w = (d', some (ans Stat.done)) := by
  have judged : l.findIdx? (fun e => e.2.2.2 != Stat.done) = none := List.findIdx?_eq_none_iff.mpr fun e he => by rw [good e he]; rfl
  have crossed : l.findIdx? (fun e => d'.crossBad e.2.1 e.1 != Stat.done) = none := List.findIdx?_eq_none_iff.mpr fun e he => by rw [crosses e he]; rfl
  unfold Dev.opWriteMulti
  rw [items, if_neg (by simpa using some_), judged]
  dsimp only
  rw [goes]
  dsimp only
  rw [crossed]

/-- The first chunk of a transfer that is not FINAL (R77). -/
theorem Dev.putChunk_opens {d : Dev} {r : Src} {x : Desc} {key m : Nat} {l : List Byte} (dom : x.ty = .dom m) (key_ : x.eff ≠ .aapKey) (cmd : x.eff ≠ .axCmd)
    (fw : x.eff ≠ .fwBundle) (fits : l.length ≤ m) (none_ : (d.freshPuts.dict.puts.find? fun p => p.key == key) = none) :
    d.putChunk r x key 0 false l = (d.freshPuts.setPut key r.via l, some (ans Stat.done)) := by
  unfold Dev.putChunk
  dsimp only
  rw [if_neg (by simp [key_, cmd]), none_, if_neg (by simp), if_neg (by simp), if_neg (by simp [dom, Ty.most]; omega), if_neg fw, if_neg (by decide)]
  rfl

theorem Dev.opPut_opens {d : Dev} {r : Src} {x : Desc} {key m : Nat} {w : List Nat} (allowed : d.barred r.via key = false) (desc : d.desc key = some x)
    (check : d.writeCheck r.via x key = Stat.done) (dom : x.ty = .dom m) (key_ : x.eff ≠ .aapKey) (cmd : x.eff ≠ .axCmd) (fw : x.eff ≠ .fwBundle) :
    let len := bits (w.getD 0 0) 7 0
    1 ≤ len → len ≤ 174 → len ≤ m → w.length = 1 + (len + 2) / 3 → (w.getD 0 0).testBit 23 = false →
    (d.freshPuts.dict.puts.find? fun p => p.key == key) = none →
    d.opPut r key 0 w = (d.freshPuts.setPut key r.via ((bytesOf (w.drop 1)).take len), some (ans Stat.done)) := by
  intro len some_ small fits words open_ none_
  have take : ((bytesOf (w.drop 1)).take len).length ≤ m := Nat.le_trans (List.length_take_le ..) fits
  unfold Dev.opPut
  rw [if_neg (by rw [allowed]; decide), desc]
  dsimp only
  rw [check, if_neg (by decide), if_neg (by simp [dom, Ty.words]; exact words), if_neg (by simp only [Bool.or_eq_true, decide_eq_true_eq]; exact not_or.mpr ⟨Nat.pos_iff_ne_zero.mp some_, Nat.not_lt.mpr small⟩), open_,
     Dev.putChunk_opens dom key_ cmd fw take none_]

section
variable {d : Dev} {r : Src} {op : WOp} {sig reg : Nat} {w : List Nat} (allowed : d.barred r.via 0 = false) (small : sig < 2 ^ 20)
  (region : d.regionOf sig = some reg) (level : (if op = .write then 1 else 2) ≤ d.pathLevel r.via) (mode : op = .force → d.mode = 2 ∨ d.mode = 7)
  (words : op = .unforce ∧ w = [] ∨ w.length = 2) (right : d.mayWrite reg (if op = .write then .dictWrite else .dictForce) false = true)
include allowed small region level mode words right

/-- A write, force or unforce of a signal that its region's rights allow (R395). -/
theorem Dev.opSig_applies :
    let y := d.event.applyWrite reg ⟨sig, w.getD 0 0 * 2 ^ 24 + w.getD 1 0, 127, viaNode r.via, op, d.tbNs (d.obn (K.REG_TB reg))⟩
    d.opSig r op sig w = (y.1, { status := if y.2 then Stat.done else Stat.aborted, took := true }) := by
  unfold Dev.opSig
  rw [if_neg (by rw [allowed]; decide), Nat.mod_eq_of_lt small, region]
  dsimp only
  rw [if_neg (Nat.not_lt.mpr level), if_neg ?_, if_neg ?_, if_neg (Nat.not_le.mpr small), right]
  · rfl
  · rcases words with ⟨h, hw⟩ | hw
    · simp [h, hw]
    · simp [hw]
  · by_cases h : op = .force
    · rcases mode h with hm | hm <;> simp [hm]
    · simp [h]

end

theorem Dev.opSubscribe_adds {d : Dev} {r : Src} {key arg n : Nat} {x : Desc} (allowed : d.barred r.via key = false) (desc : d.desc key = some x) (acc : x.acc ≠ .w)
    (short : x.ty.words ≤ 13) (some_ : x.ty.words ≠ 0) (fresh : (d.dict.subs.find? fun s => s.via == r.via && s.key == key) = none)
    (asks : arg.testBit 23 = true ∨ arg % 65536 ≠ 0)
    (num : ((List.range 64).find? fun n => (d.dict.subs.filter fun s => s.via == r.via).all fun s => s.num != n) = some n) :
    d.opSubscribe r key arg =
      (d.modDict fun y => { y with subs := ⟨r.via, n, key, arg.testBit 23, arg % 65536, d.now, d.wordsAt x key⟩ ::
        (d.dict.subs.filter fun s => !(s.via == r.via && s.key == key)) }, { status := Stat.done, data := [n], reads := true }) := by
  have old : ((d.dict.subs.filter fun s => s.via == r.via).find? fun s => s.key == key) = none := by
    rw [List.find?_filter]
    simpa using fresh
  unfold Dev.opSubscribe
  rw [if_neg (by rw [allowed]; decide), desc]
  dsimp only
  rw [if_neg acc, if_neg (by simp; omega), old, if_neg (by rcases asks with h | h <;> simp [h])]
  dsimp only
  rw [num]

/-- Settles O5. -/
theorem dictionaryWrites : Obligations.DictionaryWrites := by
  refine ⟨fun s r key vals x v d' takes => ?_, fun s r items l d' takes => ?_, fun s r key ofs w x m takes => ?_, fun s key p open_ served => ?_,
    fun s r sig hi lo reg takes => ?_, fun s r sig hi lo reg takes => ?_, fun s r sig reg takes => ?_, fun s r key arg x n takes => ?_⟩
  · intro d allowed value goes
    have writes := request_takes takes (Dev.opWrite_done allowed value goes)
    exact ⟨writes, writes⟩
  · intro d items some_ good goes crosses
    exact request_takes takes (Dev.opWriteMulti_all items some_ good goes crosses)
  · intro d len allowed desc check dom key_ cmd fw some_ small fits words open_ first none_
    subst first
    exact request_takes takes (Dev.opPut_opens allowed desc check dom key_ cmd fw some_ small fits ((List.length_map ..).trans words) open_ none_)
  · refine run_after (f := (·.putIdle key.toNat)) ?_
    unfold Dev.putIdle
    rw [open_]
    exact if_pos served
  · intro d allowed small region level right
    exact request_takes takes (congrArg (fun y : Dev × Ans => (y.1, some y.2))
      (Dev.opSig_applies (op := .write) allowed small region level (fun h => nomatch h) (.inr rfl) right))
  · intro d allowed small region level mode right
    exact request_takes takes (congrArg (fun y : Dev × Ans => (y.1, some y.2))
      (Dev.opSig_applies (op := .force) allowed small region level (fun _ => mode) (.inr rfl) right))
  · intro d allowed small region level right
    exact request_takes takes (congrArg (fun y : Dev × Ans => (y.1, some y.2))
      (Dev.opSig_applies (op := .unforce) allowed small region level (fun h => nomatch h) (.inl ⟨rfl, rfl⟩) right))
  · intro d allowed desc acc short some_ fresh asks num
    exact request_takes takes (congrArg (fun y : Dev × Ans => (y.1, some y.2)) (Dev.opSubscribe_adds allowed desc acc short some_ fresh asks num))

end Sys2Proof.Machine
end

section
/-! SUPPORT. A port that resolves its ET1L level where only 1.0 Vpp is offered gives its reservation up first (spec 05, R131, R138):
`Obligations.PortEvents` says that its flag alone changes. -/
set_option Elab.async false
namespace Sys2Proof.Machine

/-- A block whose port 0 probes ET1L with negotiation, offers 1.0 Vpp alone and still holds reservation 5. -/
def resHeld : State :=
  { dev := (((({} : Dev).setOb (K.PORT_STATE 0) 1).setOb (K.PORT_MODE 0) 2).setOb (K.P_T1L_LEVEL 0) 0).setOb (K.P_T1L_AN 0) 1 |>.modPort 0 fun x => { x with res := 5 } }

/-- The reservation that port 0 holds once a command has run. -/
def resAfter (o : Host.Outcome State Fault Refusal) : Nat :=
  match o with
  | .next t => (t.dev.port 0).res
  | _ => 0

theorem t1lResolve_drops_res : resAfter (exec (.t1lResolve 0 1) resHeld) = 0 := by decide +kernel

/-- Refutes O13: a port that offers 1.0 Vpp alone and resolves to it drops the reservation that it holds, where the clause keeps it. -/
theorem not_portEvents : ¬ Obligations.PortEvents := by
  rintro ⟨-, -, -, -, -, -, resolves, -⟩
  have claimed := (resolves resHeld 0 1 (by decide +kernel) (by decide +kernel)).2 (by decide +kernel) (by decide +kernel)
  have kept := congrArg resAfter claimed
  rw [t1lResolve_drops_res] at kept
  exact absurd kept (by decide +kernel)

end Sys2Proof.Machine
end

section
/-! SUPPORT. Discrete inputs and the encoder of a port (spec 06, R166 to R173). -/
set_option Elab.async false
namespace Sys2Proof.Machine

theorem Dev.dinOn_of {d : Dev} {p : Nat} (mode : d.portMode p = 7) (state : d.portState p = 1 ∨ d.portState p = 2 ∨ d.portState p = 3) : d.dinOn p = true := by
  unfold Dev.dinOn
  rcases state with h | h | h <;> simp [mode, h]

theorem Dev.wbTest_runs {d0 : Dev} {p i : Nat} {cv : Int} (mode : d0.portMode p = 7) (state : d0.portState p = 1 ∨ d0.portState p = 2 ∨ d0.portState p = 3)
    (enabled : (d0.obn (K.P_WB_ENABLE p)).testBit i = true) (supply : (d0.tile (p / 24)).vtfPresent = true) :
    let d := d0.modDin p i fun x => { x with testEnds := d0.now + 20000 }
    d0.wbTest p i cv = if !d.wbOpens p cv then d.modDin p i fun x => { x with wbOpen := 0, wirebreak := false }
      else
        let n := min ((d0.dinIn p i).wbOpen + 1) 10
        let e := d.modDin p i fun x => { x with wbOpen := n, wirebreak := x.wirebreak || n == 10 }
        if n = 10 && !(d0.dinIn p i).wirebreak then e.logE 0x2142 p else e := by
  intro d
  unfold Dev.wbTest
  dsimp only
  rw [if_neg]
  have present : (d0.tile (tileOf p)).vtfPresent = true := supply
  rcases state with h | h | h <;> simp [mode, h, enabled, present]

theorem Dev.wbTest_closed {d0 : Dev} {p i : Nat} {cv : Int} (mode : d0.portMode p = 7) (state : d0.portState p = 1 ∨ d0.portState p = 2 ∨ d0.portState p = 3)
    (enabled : (d0.obn (K.P_WB_ENABLE p)).testBit i = true) (supply : (d0.tile (p / 24)).vtfPresent = true) (low : cv + 200 < 10 * d0.ob (K.TILE_VTF (p / 24))) :
    d0.wbTest p i cv = (d0.modDin p i fun x => { x with testEnds := d0.now + 20000 }).modDin p i fun x => { x with wbOpen := 0, wirebreak := false } := by
  refine (Dev.wbTest_runs mode state enabled supply).trans (if_pos ?_)
  show (!decide (10 * d0.ob (K.TILE_VTF (p / 24)) ≤ cv + 200)) = true
  simp [low]

theorem Dev.wbTest_breaks {d0 : Dev} {p i : Nat} {cv : Int} (mode : d0.portMode p = 7) (state : d0.portState p = 1 ∨ d0.portState p = 2 ∨ d0.portState p = 3)
    (enabled : (d0.obn (K.P_WB_ENABLE p)).testBit i = true) (supply : (d0.tile (p / 24)).vtfPresent = true) (high : 10 * d0.ob (K.TILE_VTF (p / 24)) ≤ cv + 200)
    (ninth : (d0.dinIn p i).wbOpen = 9) (whole : (d0.dinIn p i).wirebreak = false) :
    d0.wbTest p i cv = ((d0.modDin p i fun x => { x with testEnds := d0.now + 20000 }).modDin p i fun x => { x with wbOpen := 10, wirebreak := true }).logE 0x2142 p := by
  refine (Dev.wbTest_runs mode state enabled supply).trans ((if_neg ?_).trans ?_)
  · show ¬ (!decide (10 * d0.ob (K.TILE_VTF (p / 24)) ≤ cv + 200)) = true
    simp [high]
  · dsimp only
    rw [ninth, whole]
    exact (if_pos rfl).trans (by simp only [Bool.or_true, beq_self_eq_true, Nat.reduceAdd, Nat.min_self])

section
variable {d0 : Dev} {t dv : Nat} (supply : (d0.tile t).vtfPresent = true) (runs : d0.tileRuns t = true)
include supply runs

theorem Dev.supplyTimer_judges :
    let d := d0.setOb (K.TILE_VTF t) (dv : Nat)
    d0.supplyTimer t dv = if dv < d.obn (K.TILE_VTF_LOW_LIMIT t) && !d.obb (K.TILE_SUPPLY_LOW t) then
        ((d.setOb (K.TILE_SUPPLY_LOW t) 1).bump (K.TILE_SUPPLY_LOW_EVENTS t)).logE 0x2C10 t
      else if d.obn (K.TILE_VTF_LOW_LIMIT t) + 5 < dv then d.setOb (K.TILE_SUPPLY_LOW t) 0 else d := if_neg (by simp [supply, runs])

end

theorem edgeClear_effect (d : Dev) (p : Fin 96) (v : Nat) (src : Option Src) (b : Bool) :
    d.effect ⟨0x18, 0x20, 96, 1, 0x7, 1, .u8, .w, 0, 0, 31, none, false, .edgeClear⟩ (K.P_EDGE_CLEAR p) (v : Int) src b = atOnce (d.edgeClear p v) := by
  show atOnce (Dev.edgeClear d (Desc.index _ _) (Int.toNat v)) = _
  rw [(key_P_EDGE_CLEAR p p.isLt).2.1, Int.toNat_natCast]

theorem encPreset_effect (d : Dev) (p : Fin 96) (v : Int) (src : Option Src) (b : Bool) :
    d.effect ⟨0x19, 0x20, 96, 1, 0x2, 1, .s48, .w, 0, (-140737488355328), 140737488355327, none, false, .encPreset⟩ (K.P_ENC_PRESET p) v src b =
      (d.event.setOb (K.P_ENC_COUNT p) v, some Stat.done) := by
  show did (d.event.setOb (K.P_ENC_COUNT (Desc.index _ _)) v) = _
  rw [(key_P_ENC_PRESET p p.isLt).2.1]
  rfl

theorem encPreset_writes {s : State} {r : Src} {p : Fin 96} {v : BitVec 48} (h : s.opens r (K.P_ENC_PRESET p) (hiLo v) 1 = true) :
    exec (.encPreset r p v) s = .next (s.wrote r (K.P_ENC_PRESET p) (hiLo v) ((s.taken r 2 (K.P_ENC_PRESET p) 0 (hiLo v)).event.setOb (K.P_ENC_COUNT p) v.toInt)) := by
  have decodes : Ty.decode .s48 (hiLo v) = some v.toInt := by
    rw [← sext_toNat (by decide) v]
    exact congrArg (fun k => some (sext 48 k)) (hiLo_number v)
  have low : -140737488355328 ≤ v.toInt := BitVec.le_toInt v
  have high : v.toInt < 140737488355328 := BitVec.toInt_lt
  exact write_row h (key_P_ENC_PRESET p p.isLt) rfl (by decide) (by omega) (by simp) rfl (by decide) decodes ⟨low, Int.lt_add_one_iff.mp high⟩ (encPreset_effect _ p _ _ _)

/-- The step of the quadrature sequence from the levels (a, b) to (a', b') of an encoder whose pairs are not swapped (R173). -/
theorem Dev.encLevels_steps {d0 : Dev} {p : Nat} {a b : Bool} (on : d0.encOn p = true) (straight : d0.obn (K.P_POL_SWAP p) = 0) :
    d0.encLevels p a b =
      let d := d0.modPort p fun x => { x with encA := a, encB := b }
      let add (k : Int) := d.setOb (K.P_ENC_COUNT p) (sext 48 (wrapN 48 (d.ob (K.P_ENC_COUNT p) + k)))
      let step := (quadOf a b - quadOf (d0.port p).encA (d0.port p).encB) % 4
      if step = 2 then d0.encIllegal p else if step = 1 then add 1 else if step = 3 then add (-1) else d := by
  unfold Dev.encLevels
  rw [if_neg (by rw [on]; decide), straight]
  dsimp only
  simp only [Nat.zero_testBit, Bool.bne_false]

theorem quadOf_same (a b : Bool) : (quadOf a b - quadOf a b) % 4 = 0 := by rw [Int.sub_self]; rfl
theorem quadOf_forward : ∀ a b : Bool, (quadOf (!b) a - quadOf a b) % 4 = 1 := by decide
theorem quadOf_backward : ∀ a b : Bool, (quadOf b (!a) - quadOf a b) % 4 = 3 := by decide
theorem quadOf_opposite : ∀ a b : Bool, (quadOf (!a) (!b) - quadOf a b) % 4 = 2 := by decide

theorem Dev.encOn_of_taken {d : Dev} {p held : Nat} (taken : d.encTaken p held = true) : d.encOn p = true := (Bool.and_eq_true_iff.mp taken).1

theorem Dev.encIllegal_counts {d : Dev} {p : Nat} (on : d.encOn p = true) :
    d.encIllegal p = ((d.modPort p fun x => { x with encA := !x.encA, encB := !x.encB }).bump (K.P_ENC_ERR p)).logSec 0x2150 p := if_pos on

theorem encEdge_counts {s : State} {p : Fin 96} {cva cvb : Int} {held : Nat} (taken : s.cmd.encTaken p held = true) (straight : s.cmd.obn (K.P_POL_SWAP p) = 0) :
    let x := s.cmd.port p
    let a := s.cmd.encLevel p cva x.encA
    let b := s.cmd.encLevel p cvb x.encB
    let d := s.cmd.modPort p fun x => { x with encA := a, encB := b }
    let count (k : Int) := d.setOb (K.P_ENC_COUNT p) (sext 48 (wrapN 48 (d.ob (K.P_ENC_COUNT p) + k)))
    ((a, b) = (x.encA, x.encB) → exec (.encEdge p cva cvb held) s = .next (s.after d)) ∧
    ((a, b) = (!x.encB, x.encA) → exec (.encEdge p cva cvb held) s = .next (s.after (count 1))) ∧
    ((a, b) = (x.encB, !x.encA) → exec (.encEdge p cva cvb held) s = .next (s.after (count (-1)))) ∧
    ((a, b) = (!x.encA, !x.encB) → exec (.encEdge p cva cvb held) s =
      .next (s.after (((s.cmd.modPort p fun x => { x with encA := !x.encA, encB := !x.encB }).bump (K.P_ENC_ERR p)).logSec 0x2150 p))) := by
  intro x a b d count
  have on := Dev.encOn_of_taken taken
  have edge (e : Dev) (goes : s.cmd.encLevels p a b = e) : exec (.encEdge p cva cvb held) s = .next (s.after e) :=
    run_after (f := fun d => d.iff (d.encTaken p held) fun d => d.encLevels p (d.encLevel p cva (d.port p).encA) (d.encLevel p cvb (d.port p).encB))
      ((if_pos taken).trans goes)
  have steps := Dev.encLevels_steps (a := a) (b := b) on straight
  have step (k : Int) {y : Bool × Bool} (q : (a, b) = y) (hk : (quadOf y.1 y.2 - quadOf x.encA x.encB) % 4 = k) : (quadOf a b - quadOf (s.cmd.port p).encA (s.cmd.port p).encB) % 4 = k :=
    (congrArg (fun y : Bool × Bool => (quadOf y.1 y.2 - quadOf x.encA x.encB) % 4) q).trans hk
  refine ⟨fun h => edge _ (steps.trans ?_), fun h => edge _ (steps.trans ?_), fun h => edge _ (steps.trans ?_), fun h => edge _ (steps.trans ?_)⟩ <;> dsimp only
  · rw [step 0 h (quadOf_same ..)]
    rfl
  · rw [step 1 h (quadOf_forward ..)]
    rfl
  · rw [step 3 h (quadOf_backward ..)]
    rfl
  · rw [step 2 h (quadOf_opposite ..)]
    exact Dev.encIllegal_counts on

/-- Settles O16. -/
theorem inputCommands : Obligations.InputCommands := by
  refine ⟨fun s p cv mode state => ?_, fun s p i => ?_, fun s p i some_ high fresh on => ?_, fun s p i cv mode state enabled supply => ⟨fun low => ?_, fun high ninth whole => ?_⟩,
    fun s t dv supply runs => ⟨fun low fresh => ?_, fun high => ?_, fun low high => ?_⟩, fun s t dv => rfl, fun s r p v h small => ?_,
    fun s p cva cvb held taken straight => encEdge_counts taken straight, fun s p cv held taken => ?_, fun s p a b held short => ?_, fun s r p v h => encPreset_writes h⟩
  · exact run_after (f := (·.dinSample p cv)) (if_neg (by rw [Dev.dinOn_of (d := s.cmd) mode state]; decide))
  · exact run_after (f := (·.flutterEnd p i)) rfl
  · exact run_after (f := (·.stuckEnd p i)) (if_neg (by simp [some_, high, fresh, on]))
  · exact run_after (f := (·.wbTest p i cv)) (Dev.wbTest_closed (d0 := s.cmd) mode state enabled supply low)
  · exact run_after (f := (·.wbTest p i cv)) (Dev.wbTest_breaks (d0 := s.cmd) mode state enabled supply high ninth whole)
  · exact run_after (f := (·.supplyTimer t dv)) ((Dev.supplyTimer_judges (d0 := s.cmd) supply runs).trans (if_pos (by simp only [fresh, decide_eq_true low]; rfl)))
  · refine run_after (f := (·.supplyTimer t dv)) ((Dev.supplyTimer_judges (d0 := s.cmd) supply runs).trans ((if_neg ?_).trans (if_pos high)))
    rw [decide_eq_false (by omega), Bool.false_and]
    decide
  · refine run_after (f := (·.supplyTimer t dv)) ((Dev.supplyTimer_judges (d0 := s.cmd) supply runs).trans ((if_neg ?_).trans (if_neg (by omega))))
    rw [decide_eq_false (by omega), Bool.false_and]
    decide
  · intro d counted
    exact write_word h (key_P_EDGE_CLEAR p p.isLt) (.inr (.inl ⟨rfl, by decide⟩)) rfl (by decide) (by omega) (by simp) (by simp; omega) (edgeClear_effect _ p _ _ _)
  · intro v
    have on := Dev.encOn_of_taken taken
    have index (e : Dev) (goes : (s.cmd.iff (v != (s.cmd.port p).encIdx) (·.encIndex p v)) = e) : exec (.encIndexEdge p cv held) s = .next (s.after e) :=
      run_after (f := fun d => d.iff (d.encTaken p held) fun d =>
        let v := d.encIndexLevel p cv (d.port p).encIdx
        d.iff (v != (d.port p).encIdx) (·.encIndex p v)) ((if_pos taken).trans goes)
    refine ⟨fun same => index _ (if_neg ?_), fun falls was => index _ ((if_pos ?_).trans ?_), fun rises was => index _ ((if_pos ?_).trans ?_),
      run_after (f := fun d => d.iff (d.encTaken p held) (·.encIllegal p)) ((if_pos taken).trans (Dev.encIllegal_counts on))⟩
    · rw [same]; simp
    · rw [falls, was]; rfl
    · rw [falls]
      exact if_pos on
    · rw [rises, was]; rfl
    · rw [rises]
      exact if_pos on
  · have passes : s.cmd.encTaken p held = false := by
      unfold Dev.encTaken
      rw [decide_eq_false (by omega), Bool.and_false]
    have skip : ¬ s.cmd.encTaken p held = true := by rw [passes]; decide
    exact ⟨run_after (f := fun d => d.iff (d.encTaken p held) fun d => d.encLevels p (d.encLevel p a (d.port p).encA) (d.encLevel p b (d.port p).encB)) (if_neg skip),
      run_after (f := fun d => d.iff (d.encTaken p held) fun d =>
        let v := d.encIndexLevel p a (d.port p).encIdx
        d.iff (v != (d.port p).encIdx) (·.encIndex p v)) (if_neg skip),
      run_after (f := fun d => d.iff (d.encTaken p held) (·.encIllegal p)) (if_neg skip)⟩

end Sys2Proof.Machine
end

section
/-! SUPPORT. Writes of a port's objects and the answers that they wait for (spec 05, R123 to R151). -/
set_option Elab.async false
namespace Sys2Proof.Machine

/-! ### What a write of each object does -/

theorem portMode_effect (d : Dev) (p : Fin 96) (v : Nat) (src : Option Src) (b : Bool) :
    d.effect ⟨0x0, 0x20, 96, 1, 0x0, 1, .u8, .rw, 0, 0, 7, none, true, .portMode⟩ (K.PORT_MODE p) (v : Int) src b = d.modeWrite p v src := by
  show Dev.modeWrite d (Desc.index _ _) (Int.toNat v) src = _
  rw [(key_PORT_MODE p p.isLt).2.1, Int.toNat_natCast]

theorem portAdmin_effect (d : Dev) (p : Fin 96) (v : Nat) (src : Option Src) (b : Bool) :
    d.effect ⟨0x0, 0x20, 96, 1, 0x1, 1, .u8, .rw, 1, 0, 2, none, true, .portAdmin⟩ (K.PORT_ADMIN p) (v : Int) src b = d.adminWrite p v src := by
  show Dev.adminWrite d (Desc.index _ _) (Int.toNat v) src = _
  rw [(key_PORT_ADMIN p p.isLt).2.1, Int.toNat_natCast]

theorem recal_effect (d : Dev) (p : Fin 96) (v : Nat) (src : Option Src) (b : Bool) :
    d.effect ⟨0x1, 0x20, 96, 1, 0x4, 1, .u8, .w, 0, 1, 1, none, false, .recal⟩ (K.P_RECAL p) (v : Int) src b = atOnce (d.recalWrite p v) := by
  show atOnce (Dev.recalWrite d (Desc.index _ _) (Int.toNat v)) = _
  rw [(key_P_RECAL p p.isLt).2.1, Int.toNat_natCast]

theorem roleMove_effect (d : Dev) (p : Fin 96) (v : Nat) (src : Option Src) (b : Bool) :
    d.effect ⟨0x3, 0x20, 96, 1, 0x1, 1, .u16, .w, 0, 0, 65535, none, false, .roleMove⟩ (K.P_ROLE_MOVE p) (v : Int) src b = d.roleMoveWrite p v src := by
  show Dev.roleMoveWrite d (Desc.index _ _) (Int.toNat v) src = _
  rw [(key_P_ROLE_MOVE p p.isLt).2.1, Int.toNat_natCast]

theorem portMode_writes {s : State} {r : Src} {p : Fin 96} {v : Nat} {d' : Dev} (h : s.opens r (K.PORT_MODE p) [v] 1 = true) (hv : v ≤ 7)
    (goes : (s.taken r 2 (K.PORT_MODE p) 0 [v]).modeWrite p v (some r) = (d', some Stat.done)) :
    run (·.writeReq r (K.PORT_MODE p) [v]) s = .next (s.wrote r (K.PORT_MODE p) [v] d') :=
  write_word h (key_PORT_MODE p p.isLt) (.inr (.inl ⟨rfl, by decide⟩)) rfl (by decide) (by omega) (by simp) (by simp; omega) ((portMode_effect _ p v _ _).trans goes)

theorem portAdmin_writes {s : State} {r : Src} {p : Fin 96} {v : Nat} {d' : Dev} (h : s.opens r (K.PORT_ADMIN p) [v] 1 = true) (hv : v ≤ 2)
    (goes : (s.taken r 2 (K.PORT_ADMIN p) 0 [v]).adminWrite p v (some r) = (d', some Stat.done)) :
    run (·.writeReq r (K.PORT_ADMIN p) [v]) s = .next (s.wrote r (K.PORT_ADMIN p) [v] d') :=
  write_word h (key_PORT_ADMIN p p.isLt) (.inr (.inl ⟨rfl, by decide⟩)) rfl (by decide) (by omega) (by simp) (by simp; omega) ((portAdmin_effect _ p v _ _).trans goes)

theorem roleMove_writes {s : State} {r : Src} {p : Fin 96} {v : Nat} {d' : Dev} (h : s.opens r (K.P_ROLE_MOVE p) [v] 1 = true) (hv : v < 512)
    (goes : (s.taken r 2 (K.P_ROLE_MOVE p) 0 [v]).roleMoveWrite p v (some r) = (d', some Stat.done)) :
    run (·.writeReq r (K.P_ROLE_MOVE p) [v]) s = .next (s.wrote r (K.P_ROLE_MOVE p) [v] d') :=
  write_word h (key_P_ROLE_MOVE p p.isLt) (.inr (.inr (.inl ⟨rfl, by decide⟩))) rfl (by decide) (by omega) (by simp) (by simp; omega)
    ((roleMove_effect _ p v _ _).trans goes)

/-! ### PORT_MODE (R135) -/

section
variable {d : Dev} {p v : Nat} {r : Option Src} (small : v ≤ 7) (free : 128 ≤ d.obn (K.P_ROLE_CONTEXT p)) (idle : (d.port p).req = none)
include small free idle

theorem Dev.modeWrite_same (same : v = d.portMode p) : d.modeWrite p v r = (d, some Stat.done) := by
  unfold Dev.modeWrite
  dsimp only
  rw [if_neg (Nat.not_lt.mpr small), if_neg (by simp [idle]; omega), if_pos same]

theorem Dev.modeWrite_off (new : v ≠ d.portMode p) (off : d.portState p = 5 ∨ d.tileRuns (p / 24) = false) :
    d.modeWrite p v r = ((d.dropRes p).putMode p v, some Stat.done) := by
  unfold Dev.modeWrite
  dsimp only
  have off' : (decide (d.portState p = 5) || !d.tileRuns (tileOf p)) = true := by
    rcases off with h | h
    · simp [h]
    · simp [show d.tileRuns (tileOf p) = false from h]
  rw [if_neg (Nat.not_lt.mpr small), if_neg (by simp [idle]; omega), if_neg new, if_pos off']

omit small in
theorem Dev.modeWrite_zero (zero : v = 0) (on : d.portMode p ≠ 0) (calm : d.portState p ≠ 4) (open_ : d.portState p ≠ 5) (runs : d.tileRuns (p / 24) = true) :
    d.modeWrite p v r = ((d.portOff p 1 false).putMode p 0, some Stat.done) := by
  unfold Dev.modeWrite
  dsimp only
  have calm' : (d.portState p == 4) = false := by simpa using calm
  subst zero
  rw [if_neg (by decide), if_neg (by simp [idle]; omega), if_neg on.symm, if_neg (by simp [open_, show d.tileRuns (tileOf p) = true from runs]), if_pos rfl, calm']
  rfl

end

/-! ### PORT_ADMIN (R127, R135) -/

theorem Dev.cancelReq_idle {d : Dev} {p : Nat} (idle : (d.port p).req = none) : d.cancelReq p = d := by
  unfold Dev.cancelReq
  rw [idle]

/-- The branches of a write of PORT_ADMIN to a port that is not in Fault. -/
theorem Dev.adminWrite_calm {d0 : Dev} {p v : Nat} {r : Option Src} (small : v ≤ 2) (free : v = 1 → (d0.port p).req = none)
    (calm : (d0.cancelReq p).portState p ≠ 4) :
    let d := d0.cancelReq p
    let st := d.portState p
    d0.adminWrite p v r =
      if v = 2 then
        let e := d.event.setOb (K.PORT_ADMIN p) 2
        (if st = 5 then e else e.portQuarantine p 4, some Stat.done)
      else if v = 0 then
        let e := d.event.setOb (K.PORT_ADMIN p) 0
        (if st = 0 || st = 5 then e.dropRes p else e.portOff p 1 false, some Stat.done)
      else if (st = 0 || st = 5) && d.portMode p != 0 && d.tileRuns (tileOf p) then d.bringUp p (d.portMode p) false r
      else if st = 5 then (((((d.event.setOb (K.PORT_ADMIN p) 1).modPort p fun x => { x with attempts := 1 }).setOb (K.PORT_CAUSE p) 0)).portTo p 0 none, some Stat.done)
      else (d.event.setOb (K.PORT_ADMIN p) 1, some Stat.done) := by
  intro d st
  have calm' : ((d0.cancelReq p).portState p == 4) = false := by simpa using calm
  have free' : ((d0.port p).req.isSome && decide (v = 1)) = false := by
    by_cases h : v = 1
    · rw [free h]; rfl
    · rw [decide_eq_false h, Bool.and_false]
  unfold Dev.adminWrite
  dsimp only
  rw [if_neg (Nat.not_lt.mpr small), if_neg (by rw [free']; decide), calm']
  rfl

theorem Dev.adminWrite_disables {d0 : Dev} {p : Nat} {r : Option Src} :
    let d := d0.cancelReq p
    d.portState p ≠ 4 →
    d0.adminWrite p 0 r = (if d.portState p = 0 ∨ d.portState p = 5 then (d.event.setOb (K.PORT_ADMIN p) 0).dropRes p
      else (d.event.setOb (K.PORT_ADMIN p) 0).portOff p 1 false, some Stat.done) := by
  intro d calm
  refine (Dev.adminWrite_calm (v := 0) (by decide) (fun h => nomatch h) calm).trans ?_
  dsimp only
  rw [if_neg (by decide), if_pos rfl]
  simp only [Bool.or_eq_true, decide_eq_true_eq]
  rfl

theorem Dev.adminWrite_quarantines {d0 : Dev} {p : Nat} {r : Option Src} :
    let d := d0.cancelReq p
    d.portState p ≠ 4 → d.portState p ≠ 5 → d0.adminWrite p 2 r = ((d.event.setOb (K.PORT_ADMIN p) 2).portQuarantine p 4, some Stat.done) := by
  intro d calm open_
  refine (Dev.adminWrite_calm (v := 2) (by decide) (fun h => nomatch h) calm).trans ?_
  dsimp only
  rw [if_pos rfl, if_neg open_]

theorem Dev.adminWrite_enabled {d : Dev} {p : Nat} {r : Option Src} (idle : (d.port p).req = none)
    (live : d.portState p = 1 ∨ d.portState p = 2 ∨ d.portState p = 3) : d.adminWrite p 1 r = (d.event.setOb (K.PORT_ADMIN p) 1, some Stat.done) := by
  have same := Dev.cancelReq_idle idle
  refine (Dev.adminWrite_calm (v := 1) (by decide) (fun _ => idle) (by rw [same]; omega)).trans ?_
  dsimp only
  rw [same, if_neg (by decide), if_neg (by decide), if_neg (by rcases live with h | h | h <;> simp [h]), if_neg (by omega)]

/-- A port that takes its reservation as it is enabled (R131). -/
theorem Dev.adminWrite_brings {d d' : Dev} {p n : Nat} {r : Option Src} (idle : (d.port p).req = none) (off : d.portState p = 0 ∨ d.portState p = 5)
    (runs : d.tileRuns (p / 24) = true) (mode : d.portMode p ≠ 0) (needs : d.resNeed p (d.portMode p) ≠ 0) (none_ : (d.port p).res = 0)
    (granted : d.ask (.port p) (d.resNeed p (d.portMode p)) 0xFFFFFF (d.obn (K.PORT_TAP_PRIO p)) 50 0 = (d', .granted n)) :
    d.adminWrite p 1 r = ((d'.portGo p (d.portMode p) false (some n)).1, some Stat.done) := by
  have same := Dev.cancelReq_idle idle
  have brings : d.bringUp p (d.portMode p) false r = ((d'.portGo p (d.portMode p) false (some n)).1, some Stat.done) := by
    unfold Dev.bringUp
    dsimp only
    rw [if_neg needs, if_neg (by simp [none_]), granted]
    rfl
  refine (Dev.adminWrite_calm (v := 1) (by decide) (fun _ => idle) (by rw [same]; omega)).trans ?_
  dsimp only
  rw [same, if_neg (by decide), if_neg (by decide), if_pos, brings]
  rcases off with h | h <;> simp [h, mode, show d.tileRuns (tileOf p) = true from runs]

/-! ### The Tap's answer, recalibration and role moves (R131, R142, R143) -/

theorem Dev.portAnswered_goes {d0 : Dev} {p : Nat} {q : PortReq} {a : Option Nat} (waits : (d0.port p).req = some q) (answered : q.answer = some a) :
    let d := d0.modPort p fun x => { x with req := none }
    let y := if d.resNeed p q.mode = 0 then (d.release (a.getD 0)).portGo p q.mode q.isModeWrite (some 0) else d.portGo p q.mode q.isModeWrite a
    d0.portAnswered p = y.1.complete q.src y.2 := by
  intro d y
  have takes (x : Dev × Nat) (h : (let needs := d.resNeed p q.mode != 0
      (d.iff (!needs) fun d => d.release (a.getD 0)).portGo p q.mode q.isModeWrite (if needs then a else some 0)) = x) :
      d0.portAnswered p = x.1.complete q.src x.2 := by
    unfold Dev.portAnswered
    rw [waits]
    dsimp only
    rw [answered]
    subst h
    rfl
  refine takes y ?_
  by_cases h : d.resNeed p q.mode = 0
  · have needs : (d.resNeed p q.mode != 0) = false := by simp [h]
    simp only [y, needs, if_pos h]
    rfl
  · have needs : (d.resNeed p q.mode != 0) = true := by simp [h]
    simp only [y, needs, if_neg h]
    rfl

theorem Dev.recalWrite_starts {d : Dev} {p v : Nat} (one : v = 1) (live : d.portState p = 1 ∨ d.portState p = 2 ∨ d.portState p = 3) (still : d.sweepsPort p = false)
    (calm : d.calBusy (p / 24) = false) :
    d.recalWrite p v = ((d.event.modPort p fun x => { x with recalEnds := some (d.now + 2000000) }).portFlag p 6 true, Stat.done) := by
  unfold Dev.recalWrite
  dsimp only
  rw [if_neg (Classical.not_not.mpr one), if_neg (by rcases live with h | h | h <;> simp [h]), if_neg (by simp [still, show d.calBusy (tileOf p) = false from calm])]
  rfl

theorem testBit_role (q : Fin 96) : (q.val + 256).testBit 7 = false ∧ (q.val + 256).testBit 8 = true := by
  revert q; decide

theorem Dev.roleMoveWrite_waits {d : Dev} {p q : Fin 96} {r : Option Src} (other : p ≠ q) (from_ : d.obn (K.P_ROLE_CONTEXT p) < 128)
    (free : 128 ≤ d.obn (K.P_ROLE_CONTEXT q)) (mode : d.portMode q = d.portMode p) (none_ : d.movesTo q = []) (open_ : d.portState q ≠ 5)
    (runs : d.tileRuns (q.val / 24) = true) (idle : d.rolePending p = none) (line : d.portMode p < 4)
    (room : (d.reEntries (d.obn (K.P_ROLE_CONTEXT p)) (moveEntry p q)).isSome = true) :
    d.roleMoveWrite p (q.val + 256) r = ((d.event.setOb (K.P_ROLE_PENDING p) ((q.val + 256 : Nat) : Int)).portFlag p 8 true, some Stat.done) := by
  have low : (q.val + 256) % 128 = q.val := by omega
  obtain ⟨bit7, bit8⟩ := testBit_role q
  have other' : q.val ≠ p.val := fun h => other (Fin.ext h.symm)
  have some_ : (d.reEntries (d.obn (K.P_ROLE_CONTEXT p)) (moveEntry p q)).isNone = false := by
    rw [Option.isNone_eq_false_iff]; exact room
  have good : d.moveStatus p (q.val + 256) = Stat.done := by
    unfold Dev.moveStatus
    dsimp only
    rw [low, if_neg (by omega), if_neg (by simp [other', bit7]; omega), if_neg (Classical.not_not.mpr mode), if_neg (by simp [none_]; omega), if_neg open_,
      if_neg (by simp [show d.tileRuns (tileOf q) = true from runs]), if_neg (by simp [idle, bit8]), if_neg (by rw [some_]; decide)]
  rw [Dev.roleMoveWrite, if_neg (by simp; omega), Dev.moveWrite]
  dsimp only
  rw [good, if_neg (by decide), if_pos line, Dev.moveAccept]
  rw [Nat.mod_eq_of_lt (by omega : q.val + 256 < 512)]

theorem Dev.roleMoveWrite_cancels {d : Dev} {p : Nat} {r : Option Src} (from_ : d.obn (K.P_ROLE_CONTEXT p) < 128) (pending : (d.rolePending p).isSome = true) :
    d.roleMoveWrite p 0x7F r = (((d.event.setOb (K.P_ROLE_PENDING p) 0x7F).portFlag p 8 false).logE 0x2121 p, some Stat.done) := by
  have cancels : d.moveCancelWrite p = (((d.event.setOb (K.P_ROLE_PENDING p) 0x7F).portFlag p 8 false).logE 0x2121 p, Stat.done) := by
    rw [Dev.moveCancelWrite, if_neg (by omega), Dev.moveCancel, if_pos (show (d.event.rolePending p).isSome = true from pending)]
  rw [Dev.roleMoveWrite, if_pos (by decide), cancels]

/-- Settles O11. -/
theorem portWrites : Obligations.PortWrites := by
  refine ⟨fun s r p v h small => ?_, fun s r p h => ?_, fun s r p h => ?_, fun s r p n d' h => ?_, fun s r p h => ?_, fun s p q a waits answered => ?_,
    fun s r p v h one => ?_, fun s r p q v h hv other => ?_, fun s r p h => ?_⟩
  · intro d free idle
    exact ⟨fun same => portMode_writes h small (Dev.modeWrite_same small free idle same),
      fun new off => portMode_writes h small (Dev.modeWrite_off small free idle new off),
      fun zero on calm open_ runs => portMode_writes h small (Dev.modeWrite_zero free idle zero on calm open_ runs)⟩
  · intro d calm
    exact portAdmin_writes h (by decide) (Dev.adminWrite_disables calm)
  · intro d idle live
    exact portAdmin_writes h (by decide) (Dev.adminWrite_enabled idle live)
  · intro d idle off runs mode needs none_ granted
    exact portAdmin_writes h (by decide) (Dev.adminWrite_brings idle off runs mode needs none_ granted)
  · intro d calm open_
    exact portAdmin_writes h (by decide) (Dev.adminWrite_quarantines calm open_)
  · exact run_after (f := (·.portAnswered p)) (Dev.portAnswered_goes (d0 := s.cmd) waits answered)
  · intro d live still calm
    exact write_word h (key_P_RECAL p p.isLt) (.inr (.inl ⟨rfl, by decide⟩)) rfl (by decide) (by omega) (by simp) (by simp [one])
      ((recal_effect _ p _ _ _).trans (congrArg atOnce (Dev.recalWrite_starts one live still calm)))
  · intro d from_ free mode none_ open_ runs idle line room
    refine roleMove_writes h (by omega) ?_
    have moves := Dev.roleMoveWrite_waits (r := some r) other from_ free mode none_ open_ runs idle line room
    rw [← hv] at moves
    exact moves
  · intro d from_ pending
    exact roleMove_writes h (by decide) (Dev.roleMoveWrite_cancels from_ pending)

end Sys2Proof.Machine
end

section
/-! SUPPORT. A load of a port's timestamps while the tile of the port is off faults (spec 05, R134; 10, R275): `Obligations.MacCommands` says that it takes
the oldest record. -/
set_option Elab.async false
namespace Sys2Proof.Machine

/-- A block whose core 0 runs and has the context of port 0, whose MAC holds one timestamp, and whose tile 0 is off. -/
def stampsAsleep : State :=
  { dev := (((({} : Dev).setOb (K.CORE_STATE 0) 2).setOb (K.P_ROLE_CONTEXT 0) 0).setOb (K.CTX_CORE_NOW 0) 0).modMac 0 fun x => { x with fifo := [⟨false, 0, 0, 0⟩] } }

/-- How many timestamps the MAC of port 0 holds once a command has run. -/
def stampsAfter (o : Host.Outcome State Fault Refusal) : Nat :=
  match o with
  | .next t => (t.dev.mac 0).fifo.length
  | _ => 0

theorem tsPop_asleep_keeps : stampsAfter (exec (.tsPop 0 0) stampsAsleep) = 1 := by decide +kernel

/-- Refutes O17: the load of a timestamp of a tile that is off ends in ASLEEP and leaves the record, where the clause takes it. -/
theorem not_macCommands : ¬ Obligations.MacCommands := by
  rintro ⟨-, -, -, -, pops, -⟩
  have claimed := pops stampsAsleep 0 0 ⟨false, 0, 0, 0⟩ [] (by decide +kernel) (by decide +kernel) rfl
  have taken := congrArg stampsAfter claimed
  rw [show exec (.tsPop ((0 : Fin 20).castLE (by omega)) ((0 : Fin 96).castLE (by omega))) stampsAsleep = exec (.tsPop 0 0) stampsAsleep from rfl,
    tsPop_asleep_keeps] at taken
  exact absurd taken (by decide +kernel)

end Sys2Proof.Machine
end

section
/-! SUPPORT. The words of a priority-bus controller as its core reads and writes them, and what a write of its settings does (spec 08, R205 to R229). -/
set_option Elab.async false
namespace Sys2Proof.Machine

/-! ### The controller space from the bound core -/

theorem busWord_block (p : Fin 96) (ofs : Nat) : busWord p ofs = 0x300000 + (0x40000 + 0x1000 * p + ofs) := by rw [busWord]; omega

section
variable {d : Dev} {c : Fin 20} {p : Fin 96} {ofs : Nat} (bound : d.boundCore p = some c.val) (on : d.domOn (36 + p / 24) = true) (hofs : ofs < 0x1000)
include bound on hofs

theorem Dev.blockWrite_bus (v : Nat) : d.blockWrite c (0x300000 + (0x40000 + 0x1000 * p + ofs)) v = (d.busWrite p ofs v, Stat.done) := by
  have hp := p.isLt
  have port : (0x40000 + 0x1000 * p.val + ofs - 0x40000) / 0x1000 = p := by omega
  have word : (0x40000 + 0x1000 * p.val + ofs) % 0x1000 = ofs := by omega
  have on' : d.domOn (36 + tileOf p) = true := on
  unfold Dev.blockWrite
  dsimp only
  rw [Nat.add_sub_cancel_left, if_neg (by omega), if_neg (by simp; omega), if_neg (by simp; omega), if_neg (by simp; omega), if_neg (by simp; omega),
    if_neg (by simp; omega), if_neg (by simp; omega), if_neg (by simp; omega), if_neg (by simp; omega), if_neg (by simp; omega), if_neg (by simp; omega),
    if_neg (by simp; omega), if_neg (by simp; omega), if_neg (by omega), if_neg (by omega), if_neg (by simp; omega), if_pos (by simp; omega), port, word, on',
    if_neg (by decide), if_pos (by rw [bound]; simp)]

theorem Dev.blockRead_bus : d.blockRead c (0x300000 + (0x40000 + 0x1000 * p + ofs)) = ((d.busRead p ofs true).1, (d.busRead p ofs true).2, Stat.done) := by
  have hp := p.isLt
  have port : (0x40000 + 0x1000 * p.val + ofs - 0x40000) / 0x1000 = p := by omega
  have word : (0x40000 + 0x1000 * p.val + ofs) % 0x1000 = ofs := by omega
  have on' : d.domOn (36 + tileOf p) = true := on
  unfold Dev.blockRead
  dsimp only
  rw [Nat.add_sub_cancel_left, if_neg (by omega), if_neg (by simp; omega), if_neg (by simp; omega), if_neg (by simp; omega), if_neg (by simp; omega),
    if_neg (by simp; omega), if_neg (by simp; omega), if_neg (by simp; omega), if_neg (by simp; omega), if_neg (by simp; omega), if_neg (by simp; omega),
    if_neg (by simp; omega), if_neg (by simp; omega), if_neg (by simp; omega), if_neg (by simp; omega), if_pos (by simp; omega), port, word, on',
    if_neg (by decide), bound, beq_self_eq_true]

theorem Dev.coreStoreAt_bus (runs : d.coreRuns c = true) (v : Nat) : d.coreStoreAt c (busWord p ofs) v = d.busWrite p ofs v := by
  have hp := p.isLt
  rw [busWord_block]
  refine Dev.coreStoreAt_done runs ?_
  rw [Dev.farFirst_other (by simp; omega)]
  exact (Dev.storeWord_block (by omega)).trans (Dev.blockWrite_bus bound on hofs v)

theorem Dev.coreLoadAt_bus (runs : d.coreRuns c = true) :
    d.coreLoadAt c (busWord p ofs) = (d.busRead p ofs true).1.emit (.coreRead c (d.busRead p ofs true).2) := by
  have hp := p.isLt
  have load : d.loadWord c (busWord p ofs) = ((d.busRead p ofs true).1, (d.busRead p ofs true).2, Stat.done) := by
    rw [busWord_block, Dev.loadWord, if_neg (by omega), if_neg (by omega), if_neg (by simp [isShared]; omega), if_pos (by simp [isBlock]; omega)]
    exact Dev.blockRead_bus bound on hofs
  rw [Dev.coreLoadAt, if_neg (by simp [runs]), load]
  exact if_pos rfl

end

/-! ### What a write of a word does -/

section
variable {d : Dev} {p : Nat} (mode : d.portMode p = 3)
include mode

theorem Dev.busWrite_send {b : Fin 32} (own : d.fabricFed p b = false) : d.busWrite p (txBase b + 24) 1 = d.sendBuf p b := by
  have hb := b.isLt
  have buf : (txBase b + 24 - 0x400) / 32 = b := by rw [txBase]; omega
  unfold Dev.busWrite
  dsimp only
  rw [if_neg (by simp [mode]), buf]
  unfold txBase
  rw [if_neg (by omega), if_neg (by simp), if_neg (by omega), if_neg (by omega), if_neg (by omega), if_pos (by omega), if_neg (by rw [own]; decide),
    if_pos (by omega), if_pos (by decide)]

theorem Dev.busWrite_abort {b : Fin 32} (own : d.fabricFed p b = false) : d.busWrite p (txBase b + 24) 2 = d.abortTx p b := by
  have hb := b.isLt
  have buf : (txBase b + 24 - 0x400) / 32 = b := by rw [txBase]; omega
  unfold Dev.busWrite
  dsimp only
  rw [if_neg (by simp [mode]), buf]
  unfold txBase
  rw [if_neg (by omega), if_neg (by simp), if_neg (by omega), if_neg (by omega), if_neg (by omega), if_pos (by omega), if_neg (by rw [own]; decide),
    if_pos (by omega), if_neg (by decide), if_pos (by decide)]

theorem Dev.busWrite_release {o : Fin 64} {v : Nat} (release : v.testBit 0 = true) : d.busWrite p (rxBase o + 25) v = d.releaseRx p o := by
  have ho := o.isLt
  have object : (rxBase o + 25 - 0x800) / 32 = o := by rw [rxBase]; omega
  unfold Dev.busWrite
  dsimp only
  rw [if_neg (by simp [mode]), object]
  unfold rxBase
  rw [if_neg (by omega), if_neg (by simp), if_neg (by omega), if_neg (by omega), if_neg (by omega), if_neg (by omega),
    if_pos (by simp only [release, Bool.and_true, decide_eq_true_eq]; omega)]

theorem Dev.busWrite_done {ofs v : Nat} (h : ofs = 4 ∨ ofs = 5) : d.busWrite p ofs v = d.bset p ofs (d.bw p ofs &&& (v ^^^ 0xFFFFFF)) := by
  unfold Dev.busWrite
  rw [if_neg (by simp [mode]), if_neg (by omega), if_pos (by simpa using h)]

theorem Dev.busWrite_recover {v : Nat} (recover : v.testBit 0 = true) (off : d.obn (K.BUS_STATE p) = 2) : d.busWrite p 1 v = d.setOb (K.BUS_STATE p) 3 := by
  unfold Dev.busWrite
  rw [if_neg (by simp [mode]), if_pos rfl, if_pos (by simp [recover, off])]
  rfl

/-- The read of a receive object's word 24 by the bound core locks the object (R220). -/
theorem Dev.busRead_locks {o : Fin 64} : let w := d.bw p (rxBase o + 24); d.busRead p (rxBase o + 24) true = (d.bset p (rxBase o + 24) (putBit w 22 true), w) := by
  have ho := o.isLt
  obtain ⟨n, hn, high⟩ : ∃ n, rxBase o + 24 = n + 9 ∧ 0x800 ≤ n + 9 ∧ (n + 9) % 32 = 24 := ⟨rxBase o + 15, rfl, by rw [rxBase]; omega⟩
  unfold Dev.busRead
  rw [if_neg (by simp [mode]), hn]
  exact if_pos (by simp [high])

end

/-! ### Settings -/

/-- What a write of a setting whose timing is right does (R205, R222). -/
theorem Dev.busSetting_takes {d : Dev} {p key : Nat} {v : Int} {judged : Bool} :
    let e := d.event.setOb key v
    e.busTimingOk p = true → d.busSetting p key v judged = (if d.portMode p = 3 ∧ d.portUp p = true then e.probe p (some 4) else e, Stat.done) := by
  intro e ok
  unfold Dev.busSetting
  rw [if_neg (by simp [ok, e])]
  simp only [Bool.and_eq_true, decide_eq_true_eq]
  rfl

theorem listenOnly_effect (d : Dev) (p : Fin 96) (v : Int) (src : Option Src) (b : Bool) :
    d.effect ⟨0x8, 0x10, 96, 1, 0xB, 1, .bool, .rw, 0, 0, 1, none, true, .listenOnly⟩ (K.BUS_LISTEN_ONLY p) v src b =
      atOnce (d.busSetting p (K.BUS_LISTEN_ONLY p) v b) := by
  show atOnce (Dev.busSetting d (Desc.index _ _) (K.BUS_LISTEN_ONLY p) v b) = _
  rw [(key_BUS_LISTEN_ONLY p p.isLt).2.1]

theorem busRecover_effect (d : Dev) (p : Fin 96) (v : Int) (src : Option Src) (b : Bool) :
    d.effect ⟨0x9, 0x10, 96, 1, 0x5, 1, .u8, .w, 0, 1, 1, none, false, .busRecover⟩ (K.BUS_RECOVER p) v src b = atOnce (d.recoverWrite p) := by
  show atOnce (Dev.recoverWrite d (Desc.index _ _)) = _
  rw [(key_BUS_RECOVER p p.isLt).2.1]

/-- A bus setting's row, with the limits of its values: all of them have the effect of a bus setting. -/
theorem busTiming_row (p : Fin 96) (el : Fin 11) : ∃ x : Desc, isRow (K.BUS_FD_MODE p + el) x p 0x3 (0x8 + 0x10 * p) el ∧
    (x.ty = .bool ∧ x.hi ≤ 1 ∨ x.ty = .u8 ∧ x.hi ≤ 255 ∨ x.ty = .u16 ∧ x.hi ≤ 65535 ∨ x.ty = .u24) ∧ x.acc = .rw ∧
    x.lo = ([0, 1, 2, 1, 1, 0, 1, 1, 1, 0, 0].getD el.val 0 : Nat) ∧ x.hi = ([1, 256, 256, 128, 128, 32, 32, 16, 16, 1, 127].getD el.val 0 : Nat) ∧ x.eff = .busTiming := by
  match el with
  | 0 => exact ⟨_, key_BUS_FD_MODE p p.isLt, .inr (.inl ⟨rfl, by decide⟩), rfl, rfl, rfl, rfl⟩
  | 1 => exact ⟨_, key_BUS_FD_MODE_1 p p.isLt, .inr (.inr (.inl ⟨rfl, by decide⟩)), rfl, rfl, rfl, rfl⟩
  | 2 => exact ⟨_, key_BUS_FD_MODE_2 p p.isLt, .inr (.inr (.inl ⟨rfl, by decide⟩)), rfl, rfl, rfl, rfl⟩
  | 3 => exact ⟨_, key_BUS_FD_MODE_3 p p.isLt, .inr (.inl ⟨rfl, by decide⟩), rfl, rfl, rfl, rfl⟩
  | 4 => exact ⟨_, key_BUS_FD_MODE_4 p p.isLt, .inr (.inl ⟨rfl, by decide⟩), rfl, rfl, rfl, rfl⟩
  | 5 => exact ⟨_, key_BUS_FD_MODE_5 p p.isLt, .inr (.inl ⟨rfl, by decide⟩), rfl, rfl, rfl, rfl⟩
  | 6 => exact ⟨_, key_BUS_FD_MODE_6 p p.isLt, .inr (.inl ⟨rfl, by decide⟩), rfl, rfl, rfl, rfl⟩
  | 7 => exact ⟨_, key_BUS_FD_MODE_7 p p.isLt, .inr (.inl ⟨rfl, by decide⟩), rfl, rfl, rfl, rfl⟩
  | 8 => exact ⟨_, key_BUS_FD_MODE_8 p p.isLt, .inr (.inl ⟨rfl, by decide⟩), rfl, rfl, rfl, rfl⟩
  | 9 => exact ⟨_, key_BUS_FD_MODE_9 p p.isLt, .inr (.inl ⟨rfl, by decide⟩), rfl, rfl, rfl, rfl⟩
  | 10 => exact ⟨_, key_BUS_FD_MODE_10 p p.isLt, .inr (.inl ⟨rfl, by decide⟩), rfl, rfl, rfl, rfl⟩

theorem busTiming_effect {d : Dev} {x : Desc} {key i a o e : Nat} (row : isRow key x i a o e) (eff : x.eff = .busTiming) (v : Int) (src : Option Src) (b : Bool) :
    d.effect x key v src b = atOnce (d.busSetting i key v b) := by
  obtain ⟨base, stride, count, sub, el, els, ty, acc, dflt, lo, hi, alt, saved, eff'⟩ := x
  subst eff
  show atOnce (Dev.busSetting d (Desc.index _ key) key v b) = _
  rw [row.2.1]

theorem busTiming_writes {s : State} {r : Src} {p : Fin 96} {el : Fin 11} {v : Word} (h : s.opens r (K.BUS_FD_MODE p + el) [v.toNat] 1 = true)
    (low : [0, 1, 2, 1, 1, 0, 1, 1, 1, 0, 0].getD el.val 0 ≤ v.toNat) (high : v.toNat ≤ [1, 256, 256, 128, 128, 32, 32, 16, 16, 1, 127].getD el.val 0) :
    let d := s.taken r 2 (K.BUS_FD_MODE p + el) 0 [v.toNat]
    let e := d.event.setOb (K.BUS_FD_MODE p + el) (v.toNat : Nat)
    e.busTimingOk p = true →
    exec (.busTimingWrite r p el v) s = .next (s.wrote r (K.BUS_FD_MODE p + el) [v.toNat] (if d.portMode p = 3 ∧ d.portUp p = true then e.probe p (some 4) else e)) := by
  intro d e ok
  obtain ⟨x, row, type, acc, lo, hi, eff⟩ := busTiming_row p el
  exact write_word h row type (by rw [acc]; rfl) (by rw [acc]; decide) (by omega) (by simp [acc]) ⟨by rw [lo]; exact_mod_cast low, by rw [hi]; exact_mod_cast high⟩
    ((busTiming_effect row eff _ _ _).trans (congrArg atOnce (Dev.busSetting_takes ok)))

end Sys2Proof.Machine
end

section
/-! SUPPORT. Selection, attempts, reception and refill of a priority-bus controller (spec 08, R213 to R230). -/
set_option Elab.async false
namespace Sys2Proof.Machine

/-! ### Selection and attempts (R215, R216, R223) -/

theorem Dev.busOn_of {d : Dev} {p : Nat} (mode : d.portMode p = 3) (state : d.obn (K.BUS_STATE p) ≤ 3) : d.busOn p = true := by
  unfold Dev.busOn
  simp only [mode, Bool.and_eq_true, bne_iff_ne, ne_eq, beq_self_eq_true, true_and]
  omega

theorem Dev.busSelect_starts {d0 : Dev} {p b : Nat} (mode : d0.portMode p = 3) (state : d0.obn (K.BUS_STATE p) ≤ 1) (idle : (d0.bus p).active = none)
    (speaks : (d0.bus p).listen = false) (free : d0.sump.hardHold = false) (calm : d0.lineBusy p = false) (urgent : d0.urgent p = some b) :
    let d := (d0.setTxState p b 2).upTo (max (d0.bus p).suspendEnds (d0.now + d0.afterSample p))
    d0.busSelect p = d.modBus p fun x =>
      { x with active := some b, abortActive := false, sof := adjNs (d.tbAgo (d.obn (K.BUS_TS_BASE p)) 0 p) (d.ob (K.BUS_TS_ADJ p)) } := by
  intro d
  have on := Dev.busOn_of mode (by omega)
  unfold Dev.busSelect
  dsimp only
  rw [if_neg (by simp [on, idle, speaks, free, calm]; omega), urgent]

/-- The loop delay that an attempt measures (R207). -/
def Dev.attemptTdc (d : Dev) (p b : Nat) (res : BusEnd) (tdc : Option Nat) : Dev :=
  match tdc with
  | some t => if (d.bw p (txBase b)).testBit 21 && d.obn (K.BUS_TDC_MODE p) = 1 && res != BusEnd.lost then d.setOb (K.BUS_TDC_MEAS p) (t : Nat) else d
  | none => d

/-- The wait of an error-passive controller after an attempt (R224). -/
def Dev.attemptWait (d : Dev) (p : Nat) (res : BusEnd) : Dev :=
  d.iff (d.obn (K.BUS_STATE p) == 1 && res != BusEnd.lost) fun d =>
    if res == .success then d.modBus p fun x => { x with suspendEnds := d.now + d.bitsNs p 11 }
    else { d.modBus p fun x => { x with suspendEnds := d.now + d.bitsNs p (25 + Config.freeNat d.free % 7) } with free := d.free + 1 }

/-- The attempt is over. -/
def Dev.attemptOver (d : Dev) (p : Nat) : Dev := d.modBus p fun x => { x with active := none, abortActive := false }

/-- What a success leaves of the buffer, up to the timestamp that its frame asked for (R216, R218). -/
def Dev.attemptSent (d : Dev) (p b w0 w1 : Nat) (data : List Byte) : Dev :=
  let d := ((d.onWire p (.busFrame p w0 w1 data)).event.setTxState p b 4).bump (K.BUS_TX_FRAMES p)
  let d := d.bsetAll p (txBase b + 26) (t80Words (d.bus p).sof)
  ((d.bset p (txBase b + 31) d.seq).setDone p b).twin p b false

/-- The end of an attempt that ends in success (R223). -/
def Dev.attemptClose (d : Dev) (p : Nat) : Dev := ((d.setOb (K.BUS_TEC p) (d.obn (K.BUS_TEC p) - 1 : Nat)).attemptOver p).confine p

/-- What an attempt leaves that ends in success (R216, R223), stage by stage as the model has them. -/
def Dev.attemptRest (d : Dev) (p b : Nat) : Dev :=
  let (w0, w1, data) := d.busSent p b
  let d := ((d.onWire p (.busFrame p w0 w1 data)).event.setTxState p b 4).bump (K.BUS_TX_FRAMES p)
  let d := d.bsetAll p (txBase b + 26) (t80Words (d.bus p).sof)
  let d := ((d.bset p (txBase b + 31) d.seq).setDone p b).twin p b false
  let d := match mget? (d.bus p).tsTag b with
    | some t => (d.modBus p fun x => { x with tsTag := mdel x.tsTag b }).postTs p (tsRec t (d.bus p).sof)
    | none => d
  ((d.setOb (K.BUS_TEC p) (d.obn (K.BUS_TEC p) - 1 : Nat)).attemptOver p).confine p

theorem Dev.attemptRest_unstamped {d : Dev} {p b w0 w1 : Nat} {data : List Byte} (frame : d.busSent p b = (w0, w1, data))
    (none_ : ((d.attemptSent p b w0 w1 data).bus p).tsTag = []) : d.attemptRest p b = (d.attemptSent p b w0 w1 data).attemptClose p := by
  unfold Dev.attemptSent at none_ ⊢
  unfold Dev.attemptRest
  rw [frame]
  dsimp only at none_ ⊢
  rw [none_]
  rfl

/-- The count of an error in an attempt (R223): TEC stays in the two cases of ISO 11898-1. -/
def Dev.attemptCount (d : Dev) (p : Nat) (code : Fin 8) (stays : Bool) : Dev :=
  let d := d.setOb (K.BUS_LAST_ERR p) (code.val : Nat)
  if stays then d else d.setOb (K.BUS_TEC p) (min 263 (d.obn (K.BUS_TEC p) + 8) : Nat)

theorem Dev.attemptTdc_classic {d : Dev} {p b : Nat} {res : BusEnd} {t : Option Nat} (classic : (d.bw p (txBase b)).testBit 21 = false) :
    d.attemptTdc p b res t = d := by
  unfold Dev.attemptTdc
  cases t with
  | none => rfl
  | some t => exact if_neg (by simp [classic])

theorem Dev.attemptWait_lost (d : Dev) (p : Nat) : d.attemptWait p .lost = d := if_neg (by simp)

theorem Dev.attemptWait_success (d : Dev) (p : Nat) :
    d.attemptWait p .success = if d.obn (K.BUS_STATE p) = 1 then d.modBus p fun x => { x with suspendEnds := d.now + d.bitsNs p 11 } else d := by
  by_cases h : d.obn (K.BUS_STATE p) = 1
  · exact (if_pos (by rw [h]; decide)).trans (if_pos h).symm
  · exact (if_neg (by simp [h])).trans (if_neg h).symm

theorem Dev.attemptWait_error (d : Dev) (p : Nat) (code : Fin 8) (place : Fin 3) : d.attemptWait p (.error code place) = if d.obn (K.BUS_STATE p) = 1 then
    { d.modBus p fun x => { x with suspendEnds := d.now + d.bitsNs p (25 + Config.freeNat d.free % 7) } with free := d.free + 1 } else d := by
  by_cases h : d.obn (K.BUS_STATE p) = 1
  · exact (if_pos (by rw [h]; rfl)).trans (if_pos h).symm
  · exact (if_neg (by simp [h])).trans (if_neg h).symm

section
variable {d0 : Dev} {p b : Nat} {t : Option Nat} (active : (d0.bus p).active = some b)
include active

theorem Dev.attemptEnd_isLost : d0.attemptEnd p .lost t =
    ((((((d0.attemptTdc p b .lost t).attemptWait p .lost).retryBuf p b).bump (K.BUS_ARB_LOST p)).twin p b false).attemptOver p) := by
  unfold Dev.attemptEnd
  rw [active]
  rfl

theorem Dev.attemptEnd_isError {code : Fin 8} {place : Fin 3} : d0.attemptEnd p (.error code place) t =
    let d := (d0.attemptTdc p b (.error code place) t).attemptWait p (.error code place)
    ((((((d.retryBuf p b).busFlagSent p).busErr p).twin p b ((code.val = 4 || code.val = 5) && place.val = 1)).attemptCount p code
      ((code.val = 3 && d.obn (K.BUS_STATE p) == 1) || (code.val = 1 && place.val = 2))).attemptOver p).confine p := by
  unfold Dev.attemptEnd
  rw [active]
  rfl

/-- The state before the success is found by unification: the two texts of the rest then agree word for word. -/
theorem Dev.attemptEnd_isSuccess :
    ∃ e, d0.attemptEnd p .success t = e.attemptRest p b ∧ e = (d0.attemptTdc p b .success t).attemptWait p .success := by
  unfold Dev.attemptEnd Dev.attemptRest
  rw [active]
  generalize Dev.twin = twin
  exact ⟨_, rfl, rfl⟩

variable (classic : (d0.bw p (txBase b)).testBit 21 = false)
include classic

theorem Dev.attemptEnd_lost : d0.attemptEnd p .lost t =
    (((d0.retryBuf p b).bump (K.BUS_ARB_LOST p)).twin p b false).modBus p fun x => { x with active := none, abortActive := false } := by
  rw [Dev.attemptEnd_isLost active, Dev.attemptTdc_classic classic, Dev.attemptWait_lost]
  rfl

/-- A frame sent that asked for no timestamp (R216, R223, R228). -/
theorem Dev.attemptEnd_success {d : Dev} {w0 w1 : Nat} {data : List Byte}
    (suspended : (if d0.obn (K.BUS_STATE p) = 1 then d0.modBus p fun x => { x with suspendEnds := d0.now + d0.bitsNs p 11 } else d0) = d)
    (frame : d.busSent p b = (w0, w1, data)) (none_ : ((d.attemptSent p b w0 w1 data).bus p).tsTag = []) :
    d0.attemptEnd p .success t = (d.attemptSent p b w0 w1 data).attemptClose p := by
  obtain ⟨e, rest, waited⟩ := Dev.attemptEnd_isSuccess (t := t) active
  rw [rest, waited, Dev.attemptTdc_classic classic, Dev.attemptWait_success, suspended, Dev.attemptRest_unstamped frame none_]

theorem Dev.attemptEnd_error2 {d1 : Dev} (place : Fin 3) (suspended : (if d0.obn (K.BUS_STATE p) = 1 then
      { d0.modBus p fun x => { x with suspendEnds := d0.now + d0.bitsNs p (25 + Config.freeNat d0.free % 7) } with free := d0.free + 1 } else d0) = d1) :
    d0.attemptEnd p (.error 2 place) t = ((((((d1.retryBuf p b).busFlagSent p).busErr p).twin p b false).attemptCount p 2 false).attemptOver p).confine p := by
  rw [Dev.attemptEnd_isError active, Dev.attemptTdc_classic classic, Dev.attemptWait_error, suspended]
  rfl

end

/-! ### The three ends of an attempt, as the block leaves them -/

section
variable {s : State} {p : Fin 96} {b : Nat} {t : Option (BitVec 8)} (active : (s.cmd.bus p).active = some b)
  (classic : (s.cmd.bw p (txBase b)).testBit 21 = false)
include active classic

theorem busAttemptEnd_lost : exec (.busAttemptEnd p .lost t) s = .next (s.after
    ((((s.cmd.retryBuf p b).bump (K.BUS_ARB_LOST p)).twin p b false).modBus p fun x => { x with active := none, abortActive := false })) :=
  run_after (f := (·.attemptEnd p .lost (t.map BitVec.toNat))) (Dev.attemptEnd_lost active classic)

theorem busAttemptEnd_success {d d2 : Dev}
    (suspended : (if s.cmd.obn (K.BUS_STATE p) = 1 then s.cmd.modBus p fun x => { x with suspendEnds := s.cmd.now + s.cmd.bitsNs p 11 } else s.cmd) = d)
    (sent : d.attemptSent p b (d.busSent p b).1 (d.busSent p b).2.1 (d.busSent p b).2.2 = d2) (none_ : (d2.bus p).tsTag = []) :
    exec (.busAttemptEnd p .success t) s = .next (s.after (d2.attemptClose p)) := by
  subst sent
  exact run_after (f := (·.attemptEnd p .success (t.map BitVec.toNat))) (Dev.attemptEnd_success active classic suspended rfl none_)

theorem busAttemptEnd_error {d d2 : Dev} (i : Fin 3) (suspended : (if s.cmd.obn (K.BUS_STATE p) = 1 then
      { s.cmd.modBus p fun x => { x with suspendEnds := s.cmd.now + s.cmd.bitsNs p (25 + Config.freeNat s.cmd.free % 7) } with free := s.cmd.free + 1 }
      else s.cmd) = d) (flagged : (((d.retryBuf p b).busFlagSent p).busErr p).twin p b false = d2) :
    exec (.busAttemptEnd p (.error 2 i) t) s = .next (s.after (((d2.attemptCount p 2 false).attemptOver p).confine p)) := by
  subst flagged
  exact run_after (f := (·.attemptEnd p (.error 2 i) (t.map BitVec.toNat))) (Dev.attemptEnd_error2 active classic i suspended)

end

end Sys2Proof.Machine
end

section
/-! SUPPORT. A frame received on the priority bus (spec 08, R208, R214, R219 to R223). -/
set_option Elab.async false
namespace Sys2Proof.Machine

/-- What a frame received counts in the controller (R219, R223). -/
def Dev.rxCounted (d : Dev) (p : Nat) : Dev :=
  let d := d.bump (K.BUS_RX_FRAMES p)
  let rec_ := d.obn (K.BUS_REC p)
  let d := if (d.bus p).listen then d
    else if 127 < rec_ then { d.setOb (K.BUS_REC p) (119 + Config.freeNat d.free % 9 : Nat) with free := d.free + 1 }
    else d.setOb (K.BUS_REC p) (rec_ - 1 : Nat)
  d.confine p

/-- The frame goes on to the fabric where its port is up (R208). -/
def Dev.rxOnward (d : Dev) (p w0 w1 ts : Nat) (data : List Byte) : Dev :=
  if d.portUp p = true then
    d.toParser p { bytes := beBytes 3 w0 ++ beBytes 3 w1 ++ data, bad := false, cause := 0, vid := 0, cls := 0,
                   ingTb := d.obn (K.BUS_TS_BASE p), ingTime := ts, est := false, rate := 0 }
  else d

/-- The words of the received frame and of its timestamp (R214). -/
def rxWords (w0 w1 ts : Nat) (data : List Byte) : List Nat :=
  let body := [w0, w1] ++ wordsOf data
  body ++ List.replicate (24 - body.length) 0 ++ t80Words ts

theorem frameWord_kept {w0 : Nat} (fits : w0 < 2 ^ 24) (low : w0 % 2 ^ 15 < 32) : bits w0 23 15 * 2 ^ 15 + bits w0 4 0 = w0 := by
  unfold bits
  simp only [Nat.shiftRight_eq_div_pow]
  omega

theorem frameData_kept {w0 : Nat} {data : List Byte} (len : data.length = dlcBytes w0) :
    data.take (dlcBytes w0) ++ List.replicate (dlcBytes w0 - data.length) 0 = data := by
  rw [← len, List.take_length, Nat.sub_self, List.replicate_zero, List.append_nil]

section
variable {d : Dev} {p w0 w1 ago : Nat} {data : List Byte} (mode : d.portMode p = 3) (state : d.obn (K.BUS_STATE p) ≤ 1)
  (probed : d.portState p ≠ 1) (classic : w0.testBit 21 = false)
include mode state probed classic

theorem Dev.busRx_recal (busy : d.lineBusy p = true) : d.busRx p w0 w1 data ago = d.bump (K.P_RECAL_DROPS p) := by
  have still : (d.iff (d.busOn p && d.portState p == 1) fun d => d.busIntegrated p) = d := if_neg (by simp [probed])
  have on := Dev.busOn_of mode (by omega)
  unfold Dev.busRx
  rw [still]
  dsimp only
  rw [if_neg (by simp [on, classic]; omega), if_pos busy]

theorem Dev.busRx_frame {ts : Nat} {e : Dev} (calm : d.lineBusy p = false) (fits : w0 < 2 ^ 24) (low : w0 % 2 ^ 15 < 32) (long : w0.testBit 23 = true)
    (len : data.length = dlcBytes w0) (stamp : adjNs (d.tbAgo (d.obn (K.BUS_TS_BASE p)) ago p) (d.ob (K.BUS_TS_ADJ p)) = ts) (counted : d.rxCounted p = e) :
    ((List.range 64).find? (fun o => e.filterHit p o w0 w1) = none → d.busRx p w0 w1 data ago = e.rxOnward p w0 w1 ts data) ∧
    (∀ o f, (List.range 64).find? (fun o => e.filterHit p o w0 w1) = some o →
      e.storeRx p o ((e.bw p (0x40 + 4 * o)).testBit 17) (rxWords w0 w1 ts data) = f →
      d.busRx p w0 w1 data ago = if (f.bw p (0x40 + 4 * o)).testBit 16 then f.rxOnward p w0 w1 ts data else f) := by
  have still : (d.iff (d.busOn p && d.portState p == 1) fun d => d.busIntegrated p) = d := if_neg (by simp [probed])
  have on := Dev.busOn_of mode (by omega)
  have kept := frameWord_kept fits low
  subst stamp
  unfold Dev.rxCounted at counted
  unfold Dev.busRx Dev.rxOnward rxWords
  rw [still]
  dsimp only at counted ⊢
  rw [if_neg (by simp [on, classic]; omega), if_neg (by simp [calm]), kept, if_pos long, frameData_kept len, counted]
  constructor
  · intro none_
    rw [none_]
    dsimp only
    rw [Bool.true_and]
  · intro o f hit stored
    rw [hit]
    dsimp only
    simp only [stored]
    cases (f.bw p (0x40 + 4 * o)).testBit 16 with
    | true => simp only [Bool.true_and, if_true]
    | false => simp only [Bool.false_and, Bool.false_eq_true, if_false]

end

/-! ### The first filter that takes the frame (R220) -/

theorem firstFilter_none {hit : Nat → Bool} (misses : ∀ o : Fin 64, hit o = false) : (List.range 64).find? hit = none := by
  rw [List.find?_eq_none]
  intro o ho
  simp [misses ⟨o, List.mem_range.mp ho⟩]

theorem firstFilter_hit {hit : Nat → Bool} {o : Fin 64} (hits : hit o = true) (lower : ∀ q < o, hit q = false) :
    (List.range 64).find? hit = some o.val := by
  rw [List.find?_range_eq_some]
  refine ⟨hits, List.mem_range.mpr o.isLt, fun q hq => ?_⟩
  simpa using lower ⟨q, by omega⟩ hq

/-! ### Errors, exceptions and recovery (R223 to R226) -/

theorem Dev.obn_bumpBy_other {d : Dev} {k j n : Nat} (h : j ≠ k) : (d.bumpBy k n).obn j = d.obn j := by
  unfold Dev.bumpBy
  split
  · split
    · exact Dev.obn_setOb_other _ _ _ _ h
    · exact Dev.obn_setOb_other _ _ _ _ h
  · rfl

theorem Dev.obn_onWire (d : Dev) (o : Nat) (x : Out) (j : Nat) : (d.onWire o x).obn j = d.obn j := by
  unfold Dev.onWire
  split <;> rfl

/-- Sending an error flag leaves the receive error count as it is. -/
theorem Dev.rec_flagged (d : Dev) (p : Nat) : ((d.busFlagSent p).busErr p).obn (K.BUS_REC p) = d.obn (K.BUS_REC p) := by
  have errs : ((d.busFlagSent p).busErr p).obn (K.BUS_REC p) = (d.busFlagSent p).obn (K.BUS_REC p) :=
    Dev.obn_setOb_other _ _ _ _ (by simp only [K.BUS_REC, K.P_ERR_COUNT]; omega)
  rw [errs]
  unfold Dev.busFlagSent
  rw [Dev.obn_onWire]
  exact Dev.obn_bumpBy_other (by simp only [K.BUS_REC, K.BUS_ERRF_TX]; omega)

section
variable {d : Dev} {p : Nat} (mode : d.portMode p = 3) (state : d.obn (K.BUS_STATE p) ≤ 1)
include mode state

theorem Dev.busMore_receives {code : Nat} (speaks : (d.bus p).listen = false) : d.busMore p code false =
    ((d.setOb (K.BUS_LAST_ERR p) (code : Nat)).setOb (K.BUS_REC p) (min 255 ((d.setOb (K.BUS_LAST_ERR p) (code : Nat)).obn (K.BUS_REC p) + 8) : Nat)).confine p := by
  have on := Dev.busOn_of mode (by omega)
  unfold Dev.busMore
  rw [if_neg (by simp [on, speaks]; omega)]
  rfl

theorem Dev.busMore_sends {code : Nat} (speaks : (d.bus p).listen = false) : d.busMore p code true =
    ((d.setOb (K.BUS_LAST_ERR p) (code : Nat)).setOb (K.BUS_TEC p) (min 263 ((d.setOb (K.BUS_LAST_ERR p) (code : Nat)).obn (K.BUS_TEC p) + 8) : Nat)).confine p := by
  have on := Dev.busOn_of mode (by omega)
  unfold Dev.busMore
  rw [if_neg (by simp [on, speaks]; omega)]
  rfl

theorem Dev.busRxError_counts {code : Nat} {e : Dev} (counted : ((d.bump (K.BUS_ERRF_RX p)).busErr p).setOb (K.BUS_LAST_ERR p) (code : Nat) = e) :
    d.busRxError p code = if (e.bus p).listen then e else
      (((e.busFlagSent p).busErr p).setOb (K.BUS_REC p) (min 255 (e.obn (K.BUS_REC p) + 1) : Nat)).confine p := by
  have on := Dev.busOn_of mode (by omega)
  unfold Dev.busRxError
  rw [if_neg (by simp [on]; omega), counted]

theorem Dev.busException_taken (takes : d.obb (K.BUS_PEX p) = true) :
    d.busException p = ((d.bump (K.BUS_PEX_COUNT p)).setOb (K.BUS_LAST_ERR p) 7).logSec 0x3311 p := by
  have on := Dev.busOn_of mode (by omega)
  unfold Dev.busException
  rw [if_neg (by simp [on]; omega), if_pos takes]

theorem Dev.busException_error (refuses : d.obb (K.BUS_PEX p) = false) : d.busException p = d.busRxError p 2 := by
  have on := Dev.busOn_of mode (by omega)
  unfold Dev.busException
  rw [if_neg (by simp [on]; omega), if_neg (by simp [refuses])]

end

theorem Dev.busRecovered_other {d : Dev} {p : Nat} (state : d.obn (K.BUS_STATE p) ≠ 3) : d.busRecovered p = d := if_pos (by simp [state])

theorem Dev.busRecovered_starts {d : Dev} {p : Nat} (state : d.obn (K.BUS_STATE p) = 3) : d.busRecovered p =
    (((((d.event.each ((List.range 32).filter fun b => d.txState p b == 3) fun d b => d.setTxState p b 1).setOb (K.BUS_TEC p) 0).setOb (K.BUS_REC p) 0).setOb
      (K.BUS_STATE p) 0).logE 0x3302 p) := if_neg (by simp [state])

end Sys2Proof.Machine
end

section
/-! SUPPORT. The refill of a transmit buffer from the fabric's queues (spec 08, R210, R211, R217). -/
set_option Elab.async false
namespace Sys2Proof.Machine

/-! ### The words of a controller, one beside another -/

theorem Dev.bw_modBus_words {d : Dev} {p : Nat} {f : BusCtl → BusCtl} {j : Nat} (words : ∀ x, mget (f x).words j 0 = mget x.words j 0) :
    (d.modBus p f).bw p j = d.bw p j := by
  have bus : (d.modBus p f).bus p = f (d.bus p) := mget_mmod_same _ _ _ _
  rw [Dev.bw, bus, words]
  rfl

theorem Dev.bw_tagged {d : Dev} {p b t j : Nat} : (d.modBus p fun x => { x with tsTag := mput x.tsTag b t }).bw p j = d.bw p j :=
  Dev.bw_modBus_words (f := fun x => { x with tsTag := mput x.tsTag b t }) fun _ => rfl

theorem Dev.bw_bset_other {d : Dev} {p k j v : Nat} (h : j ≠ k) : (d.bset p k v).bw p j = d.bw p j := by
  refine Dev.bw_modBus_words fun x => ?_
  dsimp only
  split
  · simp only [mget, mget?_mdel, if_neg h]
  · exact mget_mput_other _ _ _ _ _ h

theorem Dev.bw_bsetAll_above {p j : Nat} : ∀ {l : List Nat} {d : Dev} {k : Nat}, k + l.length ≤ j → (d.bsetAll p k l).bw p j = d.bw p j
  | [], _, _, _ => rfl
  | v :: r, d, k, h => by
    rw [List.length_cons] at h
    exact (Dev.bw_bsetAll_above (d := d.bset p k v) (k := k + 1) (by omega)).trans (Dev.bw_bset_other (by omega))

/-! ### The words of a frame from the fabric (R210) -/

theorem wordsOf_length (l : List Byte) : (wordsOf l).length = (l.length + 2) / 3 := by simp [wordsOf]

theorem dlcBytes_le (w0 : Nat) : dlcBytes w0 ≤ 64 := by
  have fd : ∀ i, [12, 16, 20, 24, 32, 48, 64].getD i 64 ≤ 64 := by
    intro i
    by_cases h : i < 7
    · exact (by decide : ∀ i : Fin 7, [12, 16, 20, 24, 32, 48, 64].getD i 64 ≤ 64) ⟨i, h⟩
    · have past : [12, 16, 20, 24, 32, 48, 64].getD i 64 = 64 := by
        rw [List.getD_eq_getElem?_getD, List.getElem?_eq_none (by simp; omega)] <;> rfl
      exact Nat.le_of_eq past
  have := fd (bits w0 18 15 - 9)
  unfold dlcBytes
  dsimp only
  split
  · omega
  · split
    · omega
    · split <;> omega

/-- The identifier words of a frame, the reserved bits of the first one at 0. -/
def QFrame.idWords (f : QFrame) : List Nat :=
  (wordsOf (f.data.take 6)).set 0 ((wordsOf (f.data.take 6)).getD 0 0 / 2 ^ 15 * 2 ^ 15 + (wordsOf (f.data.take 6)).getD 0 0 % 32)

/-- The words of a frame's identifier and data. -/
def QFrame.busWords (f : QFrame) : List Nat :=
  f.idWords ++ List.replicate (2 - f.idWords.length) 0 ++ wordsOf ((f.data.drop 6).take (dlcBytes (f.idWords.getD 0 0)))

theorem QFrame.busWords_length (f : QFrame) : f.busWords.length ≤ 24 := by
  have ids : f.idWords.length ≤ 2 := by
    rw [QFrame.idWords, List.length_set, wordsOf_length, List.length_take]
    omega
  have data := dlcBytes_le (f.idWords.getD 0 0)
  rw [QFrame.busWords, List.length_append, List.length_append, List.length_replicate, wordsOf_length, List.length_take]
  omega

/-- The buffer with the frame's words and the tag of the timestamp that it asks for. -/
def Dev.filled (d : Dev) (p b : Nat) (f : QFrame) : Dev :=
  let d := d.bsetAll p (txBase b) (f.busWords ++ List.replicate (24 - f.busWords.length) 0)
  if f.env.tsReq || f.env.oneStep then d.modBus p fun x => { x with tsTag := mput x.tsTag b f.env.tsTag } else d

theorem Dev.fillBuf_filled (d : Dev) (p b : Nat) (f : QFrame) : d.fillBuf p b f = (d.filled p b f).sendBuf p b := rfl

theorem Dev.txState_filled (d : Dev) (p b : Nat) (f : QFrame) : (d.filled p b f).txState p b = d.txState p b := by
  have len := f.busWords_length
  have words : (d.bsetAll p (txBase b) (f.busWords ++ List.replicate (24 - f.busWords.length) 0)).bw p (txBase b + 25) = d.bw p (txBase b + 25) :=
    Dev.bw_bsetAll_above (by rw [List.length_append, List.length_replicate]; omega)
  unfold Dev.filled Dev.txState
  dsimp only
  split
  · rw [Dev.bw_tagged, words]
  · rw [words]

theorem Dev.txBusy_filled (d : Dev) (p b : Nat) (f : QFrame) : (d.filled p b f).txBusy p b = d.txBusy p b := by
  unfold Dev.txBusy
  rw [Dev.txState_filled]

theorem Dev.sendBuf_free {d : Dev} {p b : Nat} (free : d.txBusy p b = false) :
    (d.refusedTx p b = false → d.sendBuf p b = d.event.bset p (txBase b + 25) (2 ^ 21)) ∧
    (d.refusedTx p b = true →
      d.sendBuf p b = ((d.bset p (txBase b + 25) (putBit (d.bw p (txBase b + 25)) 19 true)).abortBuf p b).bump (K.BUS_TX_INVALID p)) := by
  unfold Dev.sendBuf
  rw [if_neg (by simp [free])]
  exact ⟨fun h => if_neg (by simp [h]), fun h => if_pos h⟩

/-! ### The frame that is next (R359, R360) -/

theorem Dev.badHeads_good {d : Dev} {o : Nat} (good : ∀ c < 8, ∀ f l, d.queue (lineQueue o + c) = f :: l → ∃ x, f.tail = some (false, x)) : d.badHeads o = d := by
  refine foldl_fixed fun c hc => ?_
  dsimp only
  cases h : d.queue (lineQueue o + c) with
  | nil => rfl
  | cons f l =>
    obtain ⟨x, tail⟩ := good c (List.mem_range.mp hc) f l h
    rw [List.takeWhile_cons, tail]
    rfl

theorem Dev.pick_strict {d : Dev} {qb key : Nat} {ready hasHead : Nat → Bool} {c : Nat} (strict : 4 ≤ c) (hc : c < 8) (only : ∀ k, k < 8 → ready k = (k == c)) :
    d.pick qb key ready hasHead = (d, some c) := by
  have first : [7, 6, 5, 4].find? ready = some c := by
    have cases_ : c = 4 ∨ c = 5 ∨ c = 6 ∨ c = 7 := by omega
    obtain h | h | h | h := cases_ <;> subst h <;> simp [List.find?, only]
  unfold Dev.pick
  rw [first]

theorem Dev.pick_empty {d : Dev} {qb key : Nat} {ready hasHead : Nat → Bool} (noReady : ∀ k, k < 8 → ready k = false) (noHead : ∀ k, k < 4 → hasHead k = false) :
    d.pick qb key ready hasHead = (d.modSw fun s => { s with deficit := s.deficit.filter fun x => x.1 / 4 != key }, none) := by
  have strict : [7, 6, 5, 4].find? ready = none := by simp [List.find?, noReady]
  unfold Dev.pick
  rw [strict]
  dsimp only
  rw [if_neg (by simp [List.range_succ, noReady])]
  have keys : (fun x : Nat × Int => !(x.1 / 4 == key && !hasHead (x.1 % 4))) = fun x => x.1 / 4 != key := by
    funext x
    rw [noHead _ (Nat.mod_lt _ (by decide))]
    simp [bne]
  rw [keys]

end Sys2Proof.Machine
end

section
/-! SUPPORT. The bus controllers' statement: a refill, a received frame and the write of a setting, then the statement itself. -/
set_option Elab.async false
namespace Sys2Proof.Machine

/-! ### The refill -/

section
variable {d : Dev} {p b : Nat} (mode : d.portMode p = 3) (state : d.obn (K.BUS_STATE p) ≤ 1) (speaks : (d.bus p).listen = false)
  (up : d.portUp p = true) (calm : d.lineBusy p = false)
  (slot : ((List.range 32).find? fun b => d.fabricFed p b && !d.txBusy p b) = some b)
include mode state speaks up calm slot

theorem Dev.busRefill_takes {c : Nat} {f : QFrame} {l : List QFrame} {cause : Nat} (strict : 4 ≤ c) (hc : c < 8)
    (front : d.queue (lineQueue p + c) = f :: l) (tail : f.tail = some (false, cause)) (others : ∀ k < 8, k ≠ c → d.queue (lineQueue p + k) = []) :
    d.busRefill p = ((d.modQueue (lineQueue p + c) fun q => q.drop 1).filled p b f).sendBuf p b := by
  have on := Dev.busOn_of mode (by omega)
  have good : d.badHeads p = d := Dev.badHeads_good fun k hk g r h => by
    by_cases own : k = c
    · subst own
      rw [front, List.cons.injEq] at h
      obtain ⟨rfl, -⟩ := h
      exact ⟨cause, tail⟩
    · rw [others k hk own] at h
      cases h
  unfold Dev.busRefill
  dsimp only
  rw [if_neg (by simp [on, speaks, up, calm]; omega), slot]
  dsimp only
  rw [good, Dev.pick_strict strict hc]
  · dsimp only
    rw [front, List.head?_cons]
    dsimp only
    rw [Dev.chargeEnd, if_neg (by omega)]
    rfl
  · intro k hk
    by_cases own : k = c
    · subst own
      rw [front]
      simp [tail, strict]
    · rw [others k hk own]
      simp [own]

theorem Dev.busRefill_empty (empty : ∀ k < 8, d.queue (lineQueue p + k) = []) :
    d.busRefill p = d.modSw fun x => { x with deficit := x.deficit.filter fun e => e.1 / 4 != p } := by
  have on := Dev.busOn_of mode (by omega)
  have good : d.badHeads p = d := Dev.badHeads_good fun k hk g r h => by
    rw [empty k hk] at h
    cases h
  unfold Dev.busRefill
  dsimp only
  rw [if_neg (by simp [on, speaks, up, calm]; omega), slot]
  dsimp only
  rw [good, Dev.pick_empty]
  · intro k hk
    rw [empty k hk]
    rfl
  · intro k hk
    rw [empty k (by omega)]
    rfl

end

end Sys2Proof.Machine
end

section
/-! SUPPORT. The statement of the bus controllers' commands, clause by clause. -/
set_option Elab.async false
namespace Sys2Proof.Machine

theorem busRecover_writes {s : State} {r : Src} {p : Fin 96} (h : s.opens r (K.BUS_RECOVER p) [1] 1 = true) :
    let d := s.taken r 2 (K.BUS_RECOVER p) 0 [1]
    d.obn (K.BUS_STATE p) = 2 → exec (.busRecover (.dict r) p 1) s = .next (s.wrote r (K.BUS_RECOVER p) [1] (d.event.setOb (K.BUS_STATE p) 3)) := by
  intro d off
  have takes : d.recoverWrite p = (d.event.setOb (K.BUS_STATE p) 3, Stat.done) := by
    unfold Dev.recoverWrite
    rw [if_pos off]
    rfl
  exact write_word h (key_BUS_RECOVER p p.isLt) (.inr (.inl ⟨rfl, by decide⟩)) rfl (by decide) (by omega) (by simp) ⟨by decide, by decide⟩
    ((busRecover_effect _ p _ _ _).trans (congrArg atOnce takes))

theorem listenOnly_writes {s : State} {r : Src} {p : Fin 96} {v : Word} (h : s.opens r (K.BUS_LISTEN_ONLY p) [v.toNat] 1 = true) (flag : v.toNat ≤ 1) :
    let d := s.taken r 2 (K.BUS_LISTEN_ONLY p) 0 [v.toNat]
    let e := d.event.setOb (K.BUS_LISTEN_ONLY p) (v.toNat : Nat)
    e.busTimingOk p = true → exec (.listenOnlyWrite r p v) s = .next (s.wrote r (K.BUS_LISTEN_ONLY p) [v.toNat]
      (if d.portMode p = 3 ∧ d.portUp p = true then e.probe p (some 4) else e)) := by
  intro d e ok
  exact write_word h (key_BUS_LISTEN_ONLY p p.isLt) (.inl ⟨rfl, by decide⟩) rfl (by decide) (by omega) (by simp) ⟨by simp, Int.ofNat_le.mpr flag⟩
    ((listenOnly_effect _ p _ _ _).trans (congrArg atOnce (Dev.busSetting_takes ok)))

theorem busRxFrame_taken {s : State} {p : Fin 96} {w0 w1 : Word} {data : List Byte} {ago ts : Nat} {e : Dev}
    (mode : s.cmd.portMode p = 3) (state : s.cmd.obn (K.BUS_STATE p) ≤ 1)
    (probed : s.cmd.portState p ≠ 1) (calm : s.cmd.lineBusy p = false) (classic : w0.toNat.testBit 21 = false) (long : w0.toNat.testBit 23 = true)
    (len : data.length = dlcBytes w0.toNat) (low : w0.toNat % 2 ^ 15 < 32)
    (stamp : adjNs (s.cmd.tbAgo (s.cmd.obn (K.BUS_TS_BASE p)) ago p) (s.cmd.ob (K.BUS_TS_ADJ p)) = ts) (counted : s.cmd.rxCounted p = e) :
    ((∀ o : Fin 64, e.filterHit p o w0.toNat w1.toNat = false) →
      exec (.busRxFrame p w0 w1 data ago) s = .next (s.after (e.rxOnward p w0.toNat w1.toNat ts data))) ∧
    (∀ o : Fin 64, e.filterHit p o w0.toNat w1.toNat = true → (∀ q < o, e.filterHit p q w0.toNat w1.toNat = false) →
      ∀ f, e.storeRx p o ((e.bw p (0x40 + 4 * o)).testBit 17) (rxWords w0.toNat w1.toNat ts data) = f →
      exec (.busRxFrame p w0 w1 data ago) s = .next (s.after (if (f.bw p (0x40 + 4 * o)).testBit 16 then f.rxOnward p w0.toNat w1.toNat ts data else f))) := by
  obtain ⟨missed, stored⟩ := Dev.busRx_frame mode state probed classic calm w0.isLt low long len stamp counted (w1 := w1.toNat)
  exact ⟨fun misses => run_after (f := (·.busRx p w0.toNat w1.toNat data ago)) (missed (firstFilter_none misses)),
    fun o hits lower f h => run_after (f := (·.busRx p w0.toNat w1.toNat data ago)) (stored o f (firstFilter_hit hits lower) h)⟩

theorem busRxError_flags {s : State} {p : Fin 96} {k : Fin 8} {d : Dev} (mode : s.cmd.portMode p = 3) (state : s.cmd.obn (K.BUS_STATE p) ≤ 1)
    (counted : ((s.cmd.bump (K.BUS_ERRF_RX p)).busErr p).setOb (K.BUS_LAST_ERR p) (k.val : Nat) = d) :
    ((d.bus p).listen = true → exec (.busRxError p k 0) s = .next (s.after d)) ∧
    ((d.bus p).listen = false → ∀ e, (d.busFlagSent p).busErr p = e →
      exec (.busRxError p k 0) s = .next (s.after ((e.setOb (K.BUS_REC p) (min 255 (e.obn (K.BUS_REC p) + 1) : Nat)).confine p))) := by
  have counts := Dev.busRxError_counts (d := s.cmd) mode state counted
  have runs : ∀ {d' : Dev}, s.cmd.busRxError p k = d' → exec (.busRxError p k 0) s = .next (s.after d') := fun h =>
    run_after (f := fun d => if (0 : Fin 3) = 0 then d.busRxError p k else d.busMore p k ((0 : Fin 3) = 2)) ((if_pos rfl).trans h)
  refine ⟨fun listens => runs (counts.trans (if_pos listens)), fun speaks e flagged => runs (counts.trans ((if_neg (by simp [speaks])).trans ?_))⟩
  rw [← Dev.rec_flagged, flagged]

theorem busRxError_more {s : State} {p : Fin 96} {k : Fin 8} (mode : s.cmd.portMode p = 3) (state : s.cmd.obn (K.BUS_STATE p) ≤ 1)
    (speaks : (s.cmd.bus p).listen = false) :
    let d := s.cmd.setOb (K.BUS_LAST_ERR p) (k.val : Nat)
    exec (.busRxError p k 1) s = .next (s.after ((d.setOb (K.BUS_REC p) (min 255 (d.obn (K.BUS_REC p) + 8) : Nat)).confine p)) ∧
    exec (.busRxError p k 2) s = .next (s.after ((d.setOb (K.BUS_TEC p) (min 263 (d.obn (K.BUS_TEC p) + 8) : Nat)).confine p)) := by
  intro d
  exact ⟨run_after (f := fun d => if (1 : Fin 3) = 0 then d.busRxError p k else d.busMore p k ((1 : Fin 3) = 2))
      ((if_neg (by decide)).trans (Dev.busMore_receives mode state speaks)),
    run_after (f := fun d => if (2 : Fin 3) = 0 then d.busRxError p k else d.busMore p k ((2 : Fin 3) = 2))
      ((if_neg (by decide)).trans (Dev.busMore_sends mode state speaks))⟩

theorem protocolException_runs {s : State} {p : Fin 96} (mode : s.cmd.portMode p = 3) (state : s.cmd.obn (K.BUS_STATE p) ≤ 1) :
    (s.cmd.obb (K.BUS_PEX p) = true → exec (.protocolException p) s = .next (s.after
      (((s.cmd.bump (K.BUS_PEX_COUNT p)).setOb (K.BUS_LAST_ERR p) 7).logSec 0x3311 p))) ∧
    (s.cmd.obb (K.BUS_PEX p) = false → exec (.protocolException p) s = exec (.busRxError p 2 0) s) := by
  refine ⟨fun takes => run_after (f := (·.busException p)) (Dev.busException_taken mode state takes), fun refuses => ?_⟩
  rw [show exec (.protocolException p) s = .next (s.after (s.cmd.busRxError p 2)) from
    run_after (f := (·.busException p)) (Dev.busException_error mode state refuses)]
  exact (run_after (f := fun d => if (0 : Fin 3) = 0 then d.busRxError p (2 : Fin 8) else d.busMore p (2 : Fin 8) ((0 : Fin 3) = 2)) (if_pos rfl)).symm

theorem busRefill_frame {s : State} {p : Fin 96} {b : Nat} {d : Dev}
    (refills : s.cmd.busRefill p = d.sendBuf p b) (free : d.txBusy p b = false) :
    (d.refusedTx p b = false → exec (.busRefill p) s = .next (s.after (d.event.bset p (txBase b + 25) (2 ^ 21)))) ∧
    (d.refusedTx p b = true → exec (.busRefill p) s = .next (s.after
      (((d.bset p (txBase b + 25) (putBit (d.bw p (txBase b + 25)) 19 true)).abortBuf p b).bump (K.BUS_TX_INVALID p)))) := by
  obtain ⟨accepted, refused⟩ := Dev.sendBuf_free free
  exact ⟨fun h => run_after (f := (·.busRefill p)) (refills.trans (accepted h)), fun h => run_after (f := (·.busRefill p)) (refills.trans (refused h))⟩

end Sys2Proof.Machine
end

section
namespace Sys2Proof.Machine

/-- A buffer that the refill found free is free after its frame is taken and its words are written. -/
theorem Dev.slot_free {d : Dev} {p b : Nat} (slot : ((List.range 32).find? fun b => d.fabricFed p b && !d.txBusy p b) = some b) (q : Nat) (f : QFrame) :
    ((d.modQueue q fun l => l.drop 1).filled p b f).txBusy p b = false := by
  have found := List.find?_some slot
  rw [Dev.txBusy_filled]
  exact (Bool.not_eq_true' _).mp (Bool.and_eq_true _ _ ▸ found).2

/-- Settles O18: each clause is its command's lemma above. -/
theorem busCommands : Obligations.BusCommands := by
  unfold Obligations.BusCommands
  refine ⟨fun s c p b runs bound on mode own => ?_, fun s c p o v runs bound on mode release => ?_, fun s c p o runs bound on mode => ?_,
    fun s c p v runs bound on mode => ?_, fun s r p h => ?_, fun s p b mode state idle speaks free calm urgent => ?_, fun s p b t active classic => ?_,
    fun s p b t active classic => ?_, fun s p b t i active classic => ?_, fun s p w0 w1 data ago mode state probed busy classic => ?_,
    fun s p w0 w1 data ago mode state probed calm classic long len low => ?_, fun s p k mode state => ?_, fun s p k mode state speaks => ?_,
    fun s p mode state => ?_, fun s p b mode state speaks up calm slot => ?_, fun s p state => ?_, fun s p state => ?_,
    fun s r p el v h low high => ?_, fun s r p v h flag => ?_⟩
  · have ho : txBase b + 24 < 0x1000 := by have := b.isLt; rw [txBase]; omega
    exact ⟨run_after (f := (·.coreStoreAt c (busWord p (txBase b + 24)) 1)) ((Dev.coreStoreAt_bus bound on ho runs 1).trans (Dev.busWrite_send mode own)),
      run_after (f := (·.coreStoreAt c (busWord p (txBase b + 24)) 2)) ((Dev.coreStoreAt_bus bound on ho runs 2).trans (Dev.busWrite_abort mode own))⟩
  · have ho : rxBase o + 25 < 0x1000 := by have := o.isLt; rw [rxBase]; omega
    exact run_after (f := (·.coreStoreAt c (busWord p (rxBase o + 25)) v.toNat))
      ((Dev.coreStoreAt_bus bound on ho runs _).trans (Dev.busWrite_release mode release))
  · have ho : rxBase o + 24 < 0x1000 := by have := o.isLt; rw [rxBase]; omega
    intro w
    refine run_after (f := (·.coreLoadAt c (busWord p (rxBase o + 24)))) ((Dev.coreLoadAt_bus bound on ho runs).trans ?_)
    rw [Dev.busRead_locks mode]
  · exact ⟨run_after (f := (·.coreStoreAt c (busWord p 5) v.toNat)) ((Dev.coreStoreAt_bus bound on (by decide) runs _).trans (Dev.busWrite_done mode (.inr rfl))),
      run_after (f := (·.coreStoreAt c (busWord p 4) v.toNat)) ((Dev.coreStoreAt_bus bound on (by decide) runs _).trans (Dev.busWrite_done mode (.inl rfl))),
      fun recover off => run_after (f := (·.coreStoreAt c (busWord p 1) v.toNat))
        ((Dev.coreStoreAt_bus bound on (by decide) runs _).trans (Dev.busWrite_recover mode recover off))⟩
  · exact busRecover_writes h
  · exact run_after (f := (·.busSelect p)) (Dev.busSelect_starts mode state idle speaks free calm urgent)
  · exact busAttemptEnd_lost active classic
  · intro d d1 d2 d3 none_
    exact busAttemptEnd_success active classic rfl rfl none_
  · exact busAttemptEnd_error active classic i rfl rfl
  · exact run_after (f := (·.busRx p w0.toNat w1.toNat data ago)) (Dev.busRx_recal mode state probed classic busy)
  · obtain ⟨missed, stored⟩ := busRxFrame_taken mode state probed calm classic long len low rfl rfl (w1 := w1)
    exact ⟨missed, fun o hits lower => stored o hits lower _ rfl⟩
  · obtain ⟨listening, speaking⟩ := busRxError_flags mode state rfl (k := k)
    exact ⟨listening, fun speaks => speaking speaks _ rfl⟩
  · exact busRxError_more mode state speaks
  · exact protocolException_runs mode state
  · refine ⟨fun c f l cause strict front tail others => ?_, fun empty => ?_⟩
    · exact busRefill_frame (Dev.busRefill_takes mode state speaks up calm slot strict c.isLt front tail
        fun k hk own => others ⟨k, hk⟩ fun h => own (congrArg Fin.val h)) (Dev.slot_free slot _ f)
    · exact run_after (f := (·.busRefill p)) (Dev.busRefill_empty mode state speaks up calm slot fun k hk => empty ⟨k, hk⟩)
  · exact run_after (f := (·.busRecovered p)) (Dev.busRecovered_other state)
  · exact run_after (f := (·.busRecovered p)) (Dev.busRecovered_starts state)
  · exact busTiming_writes h low high
  · exact listenOnly_writes h flag

end Sys2Proof.Machine
end

section
/-! SUPPORT. The words of a Runnel engine and of its channels as cores and the dictionary write them (spec 09, R238 to R242, R264 to R269). -/
set_option Elab.async false
namespace Sys2Proof.Machine

/-! ### The engine space from a core -/

theorem engWord_block (e : Fin 12) (ofs : Nat) : engWord e ofs = 0x300000 + (0xA0000 + 0x1000 * e + ofs) := by rw [engWord]; omega

theorem chanWord_block (ch : Fin 96) (w : Nat) : chanWord ch w = 0x300000 + (0xA0000 + 0x1000 * (ch / 8) + (0x100 + 32 * (ch % 8) + w)) := by
  rw [chanWord, engWord]
  omega

section
variable {d : Dev} {c : Fin 20}

theorem Dev.blockWrite_engine {e ofs : Nat} (he : e < 12) (hofs : ofs < 0x100) (on : d.domOn (24 + e) = true) (agent : d.engAgent c e = true) (v : Nat) :
    d.blockWrite c (0x300000 + (0xA0000 + 0x1000 * e + ofs)) v = (d.engWrite e ofs v Stat.busy, Stat.done) := by
  have engine : (0xA0000 + 0x1000 * e + ofs - 0xA0000) / 0x1000 = e := by omega
  have word : (0xA0000 + 0x1000 * e + ofs) % 0x1000 = ofs := by omega
  unfold Dev.blockWrite
  dsimp only
  rw [Nat.add_sub_cancel_left, if_neg (by omega), if_neg (by simp; omega), if_neg (by simp; omega), if_neg (by simp; omega), if_neg (by simp; omega),
    if_neg (by simp; omega), if_neg (by simp; omega), if_neg (by simp; omega), if_neg (by simp; omega), if_neg (by simp; omega), if_neg (by simp; omega),
    if_neg (by simp; omega), if_neg (by simp; omega), if_neg (by omega), if_neg (by omega), if_neg (by simp; omega), if_neg (by simp; omega),
    if_pos (by simp; omega), engine, word, on, if_neg (by decide), if_neg (by simp; omega), if_pos agent]

theorem Dev.blockWrite_channel {ch w : Nat} (hch : ch < 96) (hw : w < 32) (on : d.domOn (24 + ch / 8) = true) (bound : d.boundCore ch = some c.val) (v : Nat) :
    d.blockWrite c (0x300000 + (0xA0000 + 0x1000 * (ch / 8) + (0x100 + 32 * (ch % 8) + w))) v = (d.chWrite ch w v true, Stat.done) := by
  have engine : (0xA0000 + 0x1000 * (ch / 8) + (0x100 + 32 * (ch % 8) + w) - 0xA0000) / 0x1000 = ch / 8 := by omega
  have word : (0xA0000 + 0x1000 * (ch / 8) + (0x100 + 32 * (ch % 8) + w)) % 0x1000 = 0x100 + 32 * (ch % 8) + w := by omega
  have channel : 8 * (ch / 8) + (0x100 + 32 * (ch % 8) + w - 0x100) / 32 = ch := by omega
  have own : (0x100 + 32 * (ch % 8) + w) % 32 = w := by omega
  unfold Dev.blockWrite
  dsimp only
  rw [Nat.add_sub_cancel_left, if_neg (by omega), if_neg (by simp; omega), if_neg (by simp; omega), if_neg (by simp; omega), if_neg (by simp; omega),
    if_neg (by simp; omega), if_neg (by simp; omega), if_neg (by simp; omega), if_neg (by simp; omega), if_neg (by simp; omega), if_neg (by simp; omega),
    if_neg (by simp; omega), if_neg (by simp; omega), if_neg (by omega), if_neg (by omega), if_neg (by simp; omega), if_neg (by simp; omega),
    if_pos (by simp; omega), engine, word, on, if_neg (by decide), if_pos (by simp; omega), channel, own, bound, beq_self_eq_true, Bool.or_true, if_pos rfl]

theorem Dev.blockRead_rxData {ch : Nat} (hch : ch < 96) (on : d.domOn (24 + ch / 8) = true) (bound : d.boundCore ch = some c.val) :
    d.blockRead c (0x300000 + (0xA0000 + 0x1000 * (ch / 8) + (0x100 + 32 * (ch % 8) + 16))) = ((d.corePop ch).1, (d.corePop ch).2, Stat.done) := by
  have engine : (0xA0000 + 0x1000 * (ch / 8) + (0x100 + 32 * (ch % 8) + 16) - 0xA0000) / 0x1000 = ch / 8 := by omega
  have word : (0xA0000 + 0x1000 * (ch / 8) + (0x100 + 32 * (ch % 8) + 16)) % 0x1000 = 0x100 + 32 * (ch % 8) + 16 := by omega
  have channel : 8 * (ch / 8) + (0x100 + 32 * (ch % 8) + 16 - 0x100) / 32 = ch := by omega
  unfold Dev.blockRead
  dsimp only
  rw [Nat.add_sub_cancel_left, if_neg (by omega), if_neg (by simp; omega), if_neg (by simp; omega), if_neg (by simp; omega), if_neg (by simp; omega),
    if_neg (by simp; omega), if_neg (by simp; omega), if_neg (by simp; omega), if_neg (by simp; omega), if_neg (by simp; omega), if_neg (by simp; omega),
    if_neg (by simp; omega), if_neg (by simp; omega), if_neg (by simp; omega), if_neg (by simp; omega), if_neg (by simp; omega), if_pos (by simp; omega), engine,
    word, on, if_neg (by decide), if_pos (by simp; omega), channel, bound, beq_self_eq_true, if_pos rfl]

theorem Dev.coreStoreAt_engine {e : Fin 12} {ofs : Nat} (hofs : ofs < 0x100) (on : d.domOn (24 + e) = true) (agent : d.engAgent c e = true)
    (runs : d.coreRuns c = true) (v : Nat) : d.coreStoreAt c (engWord e ofs) v = d.engWrite e ofs v Stat.busy := by
  have he := e.isLt
  rw [engWord_block]
  refine Dev.coreStoreAt_done runs ?_
  rw [Dev.farFirst_other (by simp; omega)]
  exact (Dev.storeWord_block (by omega)).trans (Dev.blockWrite_engine he hofs on agent v)

theorem Dev.coreStoreAt_channel {ch : Fin 96} {w : Nat} (hw : w < 32) (on : d.domOn (24 + ch / 8) = true) (bound : d.boundCore ch = some c.val)
    (runs : d.coreRuns c = true) (v : Nat) : d.coreStoreAt c (chanWord ch w) v = d.chWrite ch w v true := by
  have hch := ch.isLt
  rw [chanWord_block]
  refine Dev.coreStoreAt_done runs ?_
  rw [Dev.farFirst_other (by simp; omega)]
  exact (Dev.storeWord_block (by omega)).trans (Dev.blockWrite_channel hch hw on bound v)

theorem Dev.coreLoadAt_rxData {ch : Fin 96} (on : d.domOn (24 + ch / 8) = true) (bound : d.boundCore ch = some c.val) (runs : d.coreRuns c = true) :
    d.coreLoadAt c (chanWord ch 16) = (d.corePop ch).1.emit (.coreRead c (d.corePop ch).2) := by
  have hch := ch.isLt
  have load : d.loadWord c (chanWord ch 16) = ((d.corePop ch).1, (d.corePop ch).2, Stat.done) := by
    rw [chanWord_block, Dev.loadWord, if_neg (by omega), if_neg (by omega), if_neg (by simp [isShared]; omega), if_pos (by simp [isBlock]; omega)]
    exact Dev.blockRead_rxData hch on bound
  rw [Dev.coreLoadAt, if_neg (by simp [runs]), load]
  exact if_pos rfl

end

/-! ### What a word of a channel does (R265 to R269) -/

section
variable {d : Dev} {c : Nat} {bound : Bool}

theorem Dev.chWrite_cmd (v : Nat) : d.chWrite c 2 v bound = d.chCmd c (v % 8) := rfl

theorem Dev.chWrite_flags (v : Nat) :
    d.chWrite c 1 v bound = d.setOb (K.CH_FLAGS c) (d.obn (K.CH_FLAGS c) &&& ((v % 128) ^^^ 127) : Nat) := rfl

theorem Dev.chWrite_push (v : Nat) : d.chWrite c 18 v true = d.corePush c v := rfl

theorem Dev.chCmd_start (halted : d.chState c = 3) : d.chCmd c 1 = d.startChan c := if_pos (by simp [halted])

theorem Dev.chCmd_halt (runs : d.chState c = 2) : d.chCmd c 2 = d.haltChan c := if_pos runs

theorem Dev.chCmd_restart (loaded : d.chState c ≠ 0) : d.chCmd c 3 = d.startChan c := if_neg loaded

theorem Dev.corePush_takes {v : Word} (fed : d.obn (K.CH_TX_SRC c) = 1) (loaded : d.chState c ≠ 0) (room : (d.chan c).txF.length < txCap (d.obn (K.CH_JOIN c))) :
    d.corePush c v.toNat = d.modChan c fun x =>
      { x with txF := x.txF ++ [⟨v.toNat, x.txTag⟩], txTs := if x.txTag.testBit 3 then x.txTs ++ [none] else x.txTs } := by
  unfold Dev.corePush
  rw [if_neg (by simp [fed, loaded]; omega), Nat.mod_eq_of_lt v.isLt]

/-- Two changes of a channel are the same if they agree on the channel as it stands. -/
theorem Dev.modChan_congr {f g : Chan → Chan} (h : f (d.chan c) = g (d.chan c)) : d.modChan c f = d.modChan c g := by
  show ({ d with chans := mput d.chans c (f (d.chan c)) } : Dev) = { d with chans := mput d.chans c (g (d.chan c)) }
  rw [h]

theorem Dev.corePop_front {x : RxEnt} {l : List RxEnt} (front : (d.chan c).rxF = x :: l) :
    d.corePop c = (d.modChan c fun y => { y with rxF := l, rxClose := y.rxClose.map (· - 1), rxTag := x.tag }, x.data) := by
  have pops : (d.modChan c fun y => { y.popRx with rxTag := x.tag }) = d.modChan c fun y => { y with rxF := l, rxClose := y.rxClose.map (· - 1), rxTag := x.tag } :=
    Dev.modChan_congr (by unfold Chan.popRx; dsimp only; rw [front]; rfl)
  unfold Dev.corePop
  rw [front]
  exact congrArg (·, x.data) pops

end

end Sys2Proof.Machine
end

section
/-! SUPPORT. The Runnel engines' commands from the dictionary, and their statement (spec 09, R238 to R269). -/
set_option Elab.async false
namespace Sys2Proof.Machine

section
variable {s : State} {r : Src} {e : Fin 12}

theorem winProg_loads {w : Fin 4} {img : List Byte} {d' : Dev} {n : Nat} (h : s.puts r (K.WIN_PROG (winOf e w)) 1 = true) :
    let d := s.putting r (K.WIN_PROG (winOf e w))
    img.length % 2 = 0 → progOk img = true → d.winSwap e w = none →
    d.ask (.window (winOf e w)) 300 1000 4 (d.waitLeft (some r)) 0 = (d', .granted n) → d'.winSwap e w = none →
    exec (.winProg r e w img) s = .next (s.placed r (K.WIN_PROG (winOf e w))
      ((d'.putProg e w (!d'.activeBank e w) (progWords img)).event.release n)) := by
  intro d even ok idle granted still
  have window : winOf e w < 48 := by rw [winOf]; omega
  have size : 0 < img.length ∧ img.length ≤ 512 := by
    simp only [progOk, Bool.and_eq_true, decide_eq_true_eq] at ok
    omega
  have loads : d.winProg e w img (some r) = ((d'.putProg e w (!d'.activeBank e w) (progWords img)).event.release n, some Stat.done) := by
    unfold Dev.winProg Dev.winPermit
    rw [if_neg (by omega), if_neg (by simp [ok]), if_neg (by simp [idle]), granted]
    dsimp only
    unfold Dev.winLoad
    rw [if_neg (by simp [still])]
  refine put_row h (key_WIN_PROG _ window) rfl (.inr rfl) (by omega) rfl size ?_
  show Dev.winProg d (Desc.index _ _ / 4) (Desc.index _ _ % 4) img (some r) = _
  rw [(key_WIN_PROG _ window).2.1, winOf, show (4 * e.val + w.val) / 4 = e by omega, show (4 * e.val + w.val) % 4 = w by omega]
  exact loads

theorem winSwap_writes {w m : Fin 4} {d' : Dev} (h : s.opens r (K.WIN_SWAP (winOf e w)) [m.val] 1 = true)
    (asked : (s.taken r 2 (K.WIN_SWAP (winOf e w)) 0 [m.val]).event.askSwap e w m Stat.busy = (d', Stat.done)) :
    run (fun d => d.writeReq r (K.WIN_SWAP (winOf e w)) [m.val]) s = .next (s.wrote r (K.WIN_SWAP (winOf e w)) [m.val] d') := by
  have window : winOf e w < 48 := by rw [winOf]; omega
  refine write_word h (key_WIN_SWAP _ window) (.inr (.inl ⟨rfl, by decide⟩)) rfl (by decide) (by omega) (by simp) ⟨by simp, by simp; omega⟩ ?_
  show atOnce (Dev.winSwapWrite _ (Desc.index _ _) (Int.toNat _)) = _
  rw [(key_WIN_SWAP _ window).2.1, Int.toNat_natCast]
  unfold Dev.winSwapWrite
  rw [winOf, show (4 * e.val + w.val) / 4 = e by omega, show (4 * e.val + w.val) % 4 = w by omega]
  rw [winOf] at asked
  rw [asked]
  rfl

theorem engStart_writes {m : Byte} (h : s.opens r (K.ENG_START e) [m.toNat] 1 = true) :
    exec (.engStart (.dict r) e m) s = .next (s.wrote r (K.ENG_START e) [m.toNat] ((s.taken r 2 (K.ENG_START e) 0 [m.toNat]).event.engStart e m.toNat)) := by
  have := m.isLt
  refine write_word h (key_ENG_START e e.isLt) (.inr (.inl ⟨rfl, by decide⟩)) rfl (by decide) (by omega) (by simp) ⟨by simp, by simp; omega⟩ ?_
  show did (Dev.engStart _ (Desc.index _ _) (Int.toNat _)) = _
  rw [(key_ENG_START e e.isLt).2.1, Int.toNat_natCast]
  rfl

theorem engBitsync_writes {m : Byte} (h : s.opens r (K.ENG_BITSYNC e) [m.toNat] 1 = true) :
    exec (.engBitsync (.dict r) e m) s = .next (s.wrote r (K.ENG_BITSYNC e) [m.toNat] ((s.taken r 2 (K.ENG_BITSYNC e) 0 [m.toNat]).event.engBitsync e m.toNat)) := by
  have := m.isLt
  refine write_word h (key_ENG_BITSYNC e e.isLt) (.inr (.inl ⟨rfl, by decide⟩)) rfl (by decide) (by omega) (by simp) ⟨by simp, by simp; omega⟩ ?_
  show did (Dev.engBitsync _ (Desc.index _ _) (Int.toNat _)) = _
  rw [(key_ENG_BITSYNC e e.isLt).2.1, Int.toNat_natCast]
  rfl

theorem armCmd_writes {n : Nat} {d' : Dev} (h : s.opens r (K.ENG_ARM_CMD e) [n] 1 = true) (range : 1 ≤ n ∧ n ≤ 2)
    (arms : (s.taken r 2 (K.ENG_ARM_CMD e) 0 [n]).armWrite e n = (d', Stat.done)) :
    run (fun d => d.writeReq r (K.ENG_ARM_CMD e) [n]) s = .next (s.wrote r (K.ENG_ARM_CMD e) [n] d') := by
  refine write_word h (key_ENG_ARM_CMD e e.isLt) (.inr (.inl ⟨rfl, by decide⟩)) rfl (by decide) (by omega) (by simp) ⟨by simp; omega, by simp; omega⟩ ?_
  show atOnce (Dev.armWrite _ (Desc.index _ _) (Int.toNat _)) = _
  rw [(key_ENG_ARM_CMD e e.isLt).2.1, Int.toNat_natCast, arms]
  rfl

theorem Dev.armEng_ahead {d : Dev} {e : Nat} (ahead : d.tbNs (d.obn (K.ENG_ARM_BASE e)) ≤ d.armTime e) :
    d.armEng e = some ((d.modEngine e fun g => { g with armed := true }).setOb (K.ENG_ARM_CMD e) 1) := if_neg (by omega)

theorem Dev.armWrite_arm {d : Dev} {e : Nat} (ahead : d.tbNs (d.obn (K.ENG_ARM_BASE e)) ≤ d.armTime e) :
    d.armWrite e 1 = (((d.modEngine e fun g => { g with armed := true }).setOb (K.ENG_ARM_CMD e) 1).event, Stat.done) := by
  unfold Dev.armWrite
  rw [if_neg (by decide), Dev.armEng_ahead ahead]

/-- The write of an engine's word 9 (R239): the window in [1:0], the kind of swap in [3:2]. -/
theorem Dev.engWrite_swap {d : Dev} {e : Nat} {w m : Fin 4} : d.engWrite e 9 (m * 4 + w) Stat.busy =
    ((d.askSwap e w m Stat.busy).1.modEngine e fun g => { g with swapStatus := (d.askSwap e w m Stat.busy).2 }) := by
  have window : (m.val * 4 + w.val) % 4 = w := by omega
  have kind : bits (m.val * 4 + w.val) 3 2 = m := by
    simp only [bits, Nat.shiftRight_eq_div_pow]
    omega
  have asks : ∀ v, d.engWrite e 9 v Stat.busy =
      (d.askSwap e (v % 4) (bits v 3 2) Stat.busy).1.modEngine e fun g => { g with swapStatus := (d.askSwap e (v % 4) (bits v 3 2) Stat.busy).2 } := fun _ => rfl
  rw [asks, window, kind]

end

section
variable {s : State} {r : Src} {ch : Fin 96}

theorem chCmd_writes {n : Nat} (h : s.opens r (K.CH_CMD ch) [n] 1 = true) (range : 1 ≤ n ∧ n ≤ 3) (free : (s.taken r 2 (K.CH_CMD ch) 0 [n]).segHolds ch = false) :
    run (fun d => d.writeReq r (K.CH_CMD ch) [n]) s = .next (s.wrote r (K.CH_CMD ch) [n] ((s.taken r 2 (K.CH_CMD ch) 0 [n]).event.chCmd ch n)) := by
  refine write_word h (key_CH_CMD ch ch.isLt) (.inr (.inl ⟨rfl, by decide⟩)) rfl (by decide) (by omega) (by simp) ⟨by simp; omega, by simp; omega⟩ ?_
  show atOnce (Dev.unlessSeg _ (Desc.index _ _) (Dev.chCmd _ (Desc.index _ _) (Int.toNat _), Stat.done)) = _
  rw [(key_CH_CMD ch ch.isLt).2.1, Int.toNat_natCast, Dev.unlessSeg, if_neg (by simp [free])]
  rfl

theorem chFlags_writes {v : Word} (h : s.opens r (K.CH_FLAGS ch) [v.toNat] 1 = true) (range : v.toNat ≤ 255) :
    let d := s.taken r 2 (K.CH_FLAGS ch) 0 [v.toNat]
    d.segHolds ch = false →
    exec (.chFlagsClear (.dict r) ch v) s = .next (s.wrote r (K.CH_FLAGS ch) [v.toNat]
      (d.event.setOb (K.CH_FLAGS ch) ((setBits v.toNat 8).foldl (fun a b => putBit a b false) (d.obn (K.CH_FLAGS ch)) : Nat))) := by
  intro d free
  refine write_word h (key_CH_FLAGS ch ch.isLt) (.inr (.inl ⟨rfl, by decide⟩)) rfl (by decide) (by omega) (by simp) ⟨by simp, Int.ofNat_le.mpr range⟩ ?_
  show atOnce (Dev.unlessSeg _ (Desc.index _ _) (Dev.chFlagsClear _ (Desc.index _ _) (Int.toNat _))) = _
  rw [(key_CH_FLAGS ch ch.isLt).2.1, Int.toNat_natCast, Dev.unlessSeg, if_neg (by simp [show (s.taken r 2 (K.CH_FLAGS ch) 0 [v.toNat]).segHolds ch = false from free])]
  rfl

end

/-! ### Symbols (R246 to R249) -/

section
variable {d : Dev} {c : Nat}

theorem Dev.rxSymbol_idle {y : Sampled} (listens : (d.chan c).rxOn = true) (mode : 4 ≤ d.portMode c) (loaded : d.chState c ≠ 0)
    (none_ : (d.rxFmt c y.since).read (if d.linePol c true then y.bits.map fun b => ~~~b else y.bits) = none) : d.rxSymbol c y = d := by
  unfold Dev.rxSymbol
  dsimp only
  rw [if_neg (by simp [listens, mode, loaded]), none_]

theorem Dev.rxSymbol_reads {y : Sampled} {sym : Nat} {fe pe : Bool} {f : SymFmt} {raw : Option Nat} {d1 : Dev} (listens : (d.chan c).rxOn = true) (mode : 4 ≤ d.portMode c)
    (loaded : d.chState c ≠ 0) (format : d.rxFmt c y.since = f)
    (reads : f.read (if d.linePol c true then y.bits.map fun b => ~~~b else y.bits) = some (sym, fe, pe)) (empty : (d.chan c).rhr = none)
    (rawEnds : (if f.async then none else some ((d.chan c).rawAt.elim (96 * d.now) fun t => f.rawEnd t d.now)) = raw)
    (due : d.upTo (raw.elim 0 fun t => (t + 95) / 96) = d1) :
    let took := (d.chan c).armIn && decide ((d.chan c).armAt + y.since ≤ d1.now)
    let edge := d1.tbAgo (d1.obn (K.CH_TB c)) f.rxNs c
    d.rxSymbol c y = (d1.modChan c fun x =>
      { x with rhr := some ⟨sym, fe, pe, false⟩, armIn := x.armIn && !took, ingTs := if took then some edge else x.ingTs,
               idleFrom := if f.async then d1.now else x.idleFrom, rawAt := raw, fmtWas := [],
               lin := x.lin / 2 % 4 * 2 + b2n ((y.bits.getLast?.map f.sampled).getD true) + 8 }).scCount c false := by
  intro took edge
  unfold Dev.rxSymbol
  dsimp only
  rw [if_neg (by simp [listens, mode, loaded]), format, reads]
  dsimp only
  rw [rawEnds, due, empty]
  rfl

theorem Dev.txSymbolEnd_last {y : Nat} {d1 : Dev} (shifts : (d.chan c).shift = some (y, false)) (sent : (d.modChan c fun x => { x with shift := none }).scCount c true = d1) :
    d.txSymbolEnd c = (d1.modChan c fun x => { x with inRun := false, drvEnds := d1.now + d1.bitNs c }).txLoad c := by
  unfold Dev.txSymbolEnd
  dsimp only
  rw [shifts]
  dsimp only
  rw [sent]
  rfl

end

end Sys2Proof.Machine
end

section
namespace Sys2Proof.Machine

section
variable {s : State} {c : Fin 20} (runs : s.cmd.coreRuns c = true)
include runs

/-- A running core's stores to the words of an engine that it serves. -/
theorem engineCommands {e : Fin 12} (m : Byte) (on : s.cmd.domOn (24 + e) = true) (agent : s.cmd.engAgent c e = true) :
    exec (.engStart (.core c) e m) s = .next (s.after (s.cmd.engStart e m.toNat)) ∧
    exec (.engBitsync (.core c) e m) s = .next (s.after (s.cmd.engBitsync e m.toNat)) ∧
    (s.cmd.tbNs (s.cmd.obn (K.ENG_ARM_BASE e)) ≤ s.cmd.armTime e → exec (.armActionArm (.core c) e) s = .next (s.after
      ((s.cmd.modEngine e fun g => { g with armed := true }).setOb (K.ENG_ARM_CMD e) 1))) ∧
    exec (.armActionCancel (.core c) e) s = .next (s.after ((s.cmd.modEngine e fun g => { g with armed := false }).setOb (K.ENG_ARM_CMD e) 0)) := by
  have mask : m.toNat % 256 = m.toNat := Nat.mod_eq_of_lt m.isLt
  have start : s.cmd.engWrite e 0 m.toNat Stat.busy = s.cmd.engStart e m.toNat := congrArg (s.cmd.engStart e) mask
  have bitsync : s.cmd.engWrite e 1 m.toNat Stat.busy = s.cmd.engBitsync e m.toNat := congrArg (s.cmd.engBitsync e) mask
  have arm : ∀ ahead : s.cmd.tbNs (s.cmd.obn (K.ENG_ARM_BASE e)) ≤ s.cmd.armTime e,
      s.cmd.engWrite e 4 1 Stat.busy = (s.cmd.modEngine e fun g => { g with armed := true }).setOb (K.ENG_ARM_CMD e) 1 := fun ahead =>
    congrArg (Option.getD · s.cmd) (Dev.armEng_ahead ahead)
  exact ⟨run_after (f := (·.coreStoreAt c (engWord e 0) m.toNat)) ((Dev.coreStoreAt_engine (by decide) on agent runs _).trans start),
    run_after (f := (·.coreStoreAt c (engWord e 1) m.toNat)) ((Dev.coreStoreAt_engine (by decide) on agent runs _).trans bitsync),
    fun ahead => run_after (f := (·.coreStoreAt c (engWord e 4) 1)) ((Dev.coreStoreAt_engine (by decide) on agent runs _).trans (arm ahead)),
    run_after (f := (·.coreStoreAt c (engWord e 4) 2)) (Dev.coreStoreAt_engine (by decide) on agent runs _)⟩

/-- A running core's accesses to the words of a channel that it is bound to. -/
theorem channelCommands {ch : Fin 96} (on : s.cmd.domOn (24 + ch / 8) = true) (bound : s.cmd.boundCore ch = some c.val) :
    (s.cmd.chState ch = 3 → exec (.chStart (.core c) ch) s = .next (s.after (s.cmd.startChan ch))) ∧
    (s.cmd.chState ch = 2 → exec (.chHalt (.core c) ch) s = .next (s.after (s.cmd.haltChan ch))) ∧
    (s.cmd.chState ch ≠ 0 → exec (.chRestart (.core c) ch) s = .next (s.after (s.cmd.startChan ch))) ∧
    (∀ (x : RxEnt) (l : List RxEnt), (s.cmd.chan ch).rxF = x :: l →
      exec (.rxPop c ch) s = .next (s.after ((s.cmd.modChan ch fun y => { y with rxF := l, rxClose := y.rxClose.map (· - 1), rxTag := x.tag }).emit
        (.coreRead c x.data)))) ∧
    (∀ v : Word, s.cmd.obn (K.CH_TX_SRC ch) = 1 → s.cmd.chState ch ≠ 0 → (s.cmd.chan ch).txF.length < txCap (s.cmd.obn (K.CH_JOIN ch)) →
      exec (.txPush c ch v) s = .next (s.after (s.cmd.modChan ch fun x =>
        { x with txF := x.txF ++ [⟨v.toNat, x.txTag⟩], txTs := if x.txTag.testBit 3 then x.txTs ++ [none] else x.txTs }))) ∧
    (∀ v : Word, exec (.chFlagsClear (.core c) ch v) s = .next (s.after
      (s.cmd.setOb (K.CH_FLAGS ch) (s.cmd.obn (K.CH_FLAGS ch) &&& ((v.toNat % 128) ^^^ 127) : Nat)))) := by
  have stores : ∀ {w v : Nat} {d : Dev}, w < 32 → s.cmd.chWrite ch w v true = d → run (·.coreStoreAt c (chanWord ch w) v) s = .next (s.after d) := fun hw h =>
    run_after (f := (·.coreStoreAt c (chanWord ch _) _)) ((Dev.coreStoreAt_channel hw on bound runs _).trans h)
  refine ⟨fun halted => stores (by decide) (Dev.chCmd_start halted), fun running => stores (by decide) (Dev.chCmd_halt running),
    fun loaded => stores (by decide) (Dev.chCmd_restart loaded), fun x l front => ?_, fun v fed loaded room => stores (by decide) (Dev.corePush_takes fed loaded room),
    fun v => stores (by decide) rfl⟩
  refine run_after (f := (·.coreLoadAt c (chanWord ch 16))) ((Dev.coreLoadAt_rxData on bound runs).trans ?_)
  rw [Dev.corePop_front front]

end

/-- The four kinds of swap as the dictionary and a core write them (R239). -/
theorem swapInstr_dict (s : State) (r : Src) (e : Fin 12) (w m : Fin 4) :
    exec ([Instr.winSwapWait (.dict r) e w, .winSwapNow (.dict r) e w, .winSwapForce (.dict r) e w, .winSwapCancel (.dict r) e w].getD m.val (.winSwapWait (.dict r) e w)) s =
      run (fun d => d.writeReq r (K.WIN_SWAP (winOf e w)) [m.val]) s := by
  match m with
  | 0 => rfl
  | 1 => rfl
  | 2 => rfl
  | 3 => rfl

theorem swapInstr_core (s : State) (c : Fin 20) (e : Fin 12) (w m : Fin 4) :
    exec ([Instr.winSwapWait (.core c) e w, .winSwapNow (.core c) e w, .winSwapForce (.core c) e w, .winSwapCancel (.core c) e w].getD m.val (.winSwapWait (.core c) e w)) s =
      run (·.coreStoreAt c (engWord e 9) (m * 4 + w)) s := by
  match m with
  | 0 => rfl
  | 1 => rfl
  | 2 => rfl
  | 3 => rfl

/-- Settles O21: each clause is its command's lemma above. -/
theorem runnelCommands : Obligations.RunnelCommands := by
  unfold Obligations.RunnelCommands
  refine ⟨fun s r e w img d' n h => winProg_loads h, fun s r e w m i d' h instr asked => ?_, fun s c e w m i runs on agent instr => ?_, fun s ch => ?_,
    fun s r e m => ⟨engStart_writes, engBitsync_writes⟩, fun s c e m runs on agent => engineCommands runs m on agent, fun s r e => ?_, fun s e armed => ?_,
    fun s ch counts => ?_, fun s r ch => ?_, fun s c ch runs on bound => channelCommands runs on bound, fun s r ch v h range => chFlags_writes h range,
    fun s ch y listens mode loaded => ?_, fun s ch y shifts => ?_⟩
  · exact (instr ▸ swapInstr_dict s r e w m).trans (winSwap_writes h asked)
  · exact (instr ▸ swapInstr_core s c e w m).trans (run_after (f := (·.coreStoreAt c (engWord e 9) (m * 4 + w)))
      ((Dev.coreStoreAt_engine (by decide) on agent runs _).trans Dev.engWrite_swap))
  · exact ⟨fun runs => run_after (f := fun d => if d.running ch then d.flipLand ch else d.flipIdle ch) (if_pos runs),
      fun idle => run_after (f := fun d => if d.running ch then d.flipLand ch else d.flipIdle ch) (if_neg (by simp [idle]))⟩
  · exact ⟨fun h ahead => armCmd_writes h (by decide) (Dev.armWrite_arm ahead), fun h => armCmd_writes h (by decide) rfl⟩
  · exact run_after (f := (·.armLand e)) (if_neg (by simp [armed]))
  · exact run_after (f := (·.stallEnds ch)) (if_pos counts)
  · exact ⟨fun h free => chCmd_writes h (by decide) free, fun h free => chCmd_writes h (by decide) free, fun h free => chCmd_writes h (by decide) free⟩
  · intro f bits
    refine ⟨fun none_ => run_after (f := (·.rxSymbol ch y)) (Dev.rxSymbol_idle listens mode loaded none_), fun sym fe pe reads empty => ?_⟩
    exact run_after (f := (·.rxSymbol ch y)) (Dev.rxSymbol_reads listens mode loaded rfl reads empty rfl rfl)
  · exact run_after (f := (·.txSymbolEnd ch)) (Dev.txSymbolEnd_last shifts rfl)

end Sys2Proof.Machine
end

section
/-! SUPPORT. What each runnel instruction does in its slot (spec 09, R257 to R263). -/
set_option Elab.async false
namespace Sys2Proof.Machine

/-! ### The slot of a running channel -/

section
variable {s : State} {ch : Fin 96} (runs : s.cmd.running ch = true)
include runs

/-- An instruction of a channel that runs works on the block as it stands at its slot. -/
theorem run_slot {f : Dev → Dev} {d : Dev} (h : f (s.slot ch) = d) : run (·.issue ch f) s = .next (s.after d) :=
  run_after (f := (·.issue ch f)) ((if_pos runs).trans h)

theorem run_plain {f : Dev → Dev} {d : Dev} (dly : Nat) (h : f (s.slot ch) = d) :
    run (·.rnPlain ch dly f) s = .next (s.after (d.rnNext ch ((s.slot ch).chPc ch + 1) dly)) :=
  run_slot runs (f := fun d => (f d).rnNext ch (d.chPc ch + 1) dly) (by rw [h])

end

/-! ### Waits (R258) -/

section
variable {d : Dev} {c dly : Nat}

theorem Dev.rnWaitFor_low : d.rnWaitFor c dly 0 false = d.rnNext c (d.chPc c + 1) dly := rfl

theorem Dev.rnWaitFor_high : d.rnWaitFor c dly 1 true = d.rnNext c (d.chPc c + 1) dly := rfl

theorem Dev.rnWaitFor_change {v : Bool} (was : (d.chan c).waitBit = some (!v)) : d.rnWaitFor c dly 2 v = d.rnNext c (d.chPc c + 1) dly := by
  unfold Dev.rnWaitFor
  rw [was]
  exact if_pos (by cases v <;> rfl)

theorem Dev.rnWaitFor_rise (was : (d.chan c).waitBit = some false) : d.rnWaitFor c dly 3 true = d.rnNext c (d.chPc c + 1) dly := by
  unfold Dev.rnWaitFor
  rw [was]
  exact if_pos rfl

theorem Dev.rnWaitFor_first {v : Bool} (was : (d.chan c).waitBit = none) :
    d.rnWaitFor c dly 3 v = (d.modChan c fun x => { x with waitBit := some v }).rnBlock c .waiting := by
  unfold Dev.rnWaitFor
  rw [was]
  exact if_neg (by simp)

/-! ### The receiver's holding register (R259) -/

theorem Dev.rnTake_empty {toY nb : Bool} (empty : (d.chan c).rhr = none) :
    d.rnTake c dly toY nb = if nb = true then d.rnNext c (d.chPc c + 1) dly else d.rnBlock c .waiting := by
  unfold Dev.rnTake
  rw [empty]

theorem Dev.rnTake_full {toY nb : Bool} {y : RxSym} (full : (d.chan c).rhr = some y) : d.rnTake c dly toY nb =
    ((d.setXY c toY y.sym).modChan c fun x => { x with rhr := none, rferr := y.ferr, rperr := y.perr, rovr := y.ovr }).rnNext c (d.chPc c + 1) dly := by
  unfold Dev.rnTake
  rw [full]

/-! ### OUT (R260) -/

theorem Dev.rnOutOf_symbol {cont : Bool} {source lit : Nat} (free : (d.chan c).thr = none) (sym : source ≠ 2) : d.rnOutOf c dly cont source lit =
    d.rnOutSym c dly (match source with | 0 => (d.chan c).x | 1 => (d.chan c).y | _ => lit) cont false := by
  unfold Dev.rnOutOf
  dsimp only
  rw [if_neg (by simp [sym]), if_neg (by simp [free])]
  match source with
  | 0 => rfl
  | 1 => rfl
  | n + 3 => rfl

theorem Dev.rnOutOf_fifo {cont : Bool} {lit : Nat} (free : (d.chan c).thr = none) (fifo : txCap (d.obn (K.CH_JOIN c)) ≠ 0) :
    d.rnOutOf c dly cont 2 lit = d.rnOutTxf c dly cont := by
  unfold Dev.rnOutOf
  exact (if_neg (by simp [fifo])).trans (if_neg (by simp [free]))

theorem Dev.rnOutOf_full {cont : Bool} {source lit : Nat} (busy : (d.chan c).thr ≠ none) (sym : source ≠ 2) :
    d.rnOutOf c dly cont source lit = d.rnBlock c .thrFull := by
  unfold Dev.rnOutOf
  dsimp only
  rw [if_neg (by simp [sym]), if_pos (Option.isSome_iff_ne_none.mpr busy)]

/-! ### PUSH and PULL (R253, R261) -/

theorem Dev.rnPushEnt_noFifo {last bad nb : Bool} {cnt v : Nat} (none_ : rxCap (d.obn (K.CH_JOIN c)) = 0) :
    d.rnPushEnt c dly last bad cnt v nb = d.faultChan c false := if_pos none_

theorem Dev.rnPushEnt_fifo {last bad nb : Bool} {cnt v cap : Nat} {e : Dev} (size : rxCap (d.obn (K.CH_JOIN c)) = cap) (fifo : cap ≠ 0)
    (drained : d.parserSome c = e) (open_ : e.obn (K.CH_RX_SINK c) = 0 ∨ e.lineBusy c = false) : d.rnPushEnt c dly last bad cnt v nb =
    if cap ≤ (e.chan c).rxF.length then
      if nb then ((e.chFlag c 1 (some (K.CH_RXOVER_CNT c))).modChan c fun x => { x with rxLostEnt := true }).rnNext c (e.chPc c + 1) dly
      else e.rnBlock c .pushFull
    else (e.rxPush c last bad cnt v).rnNext c (e.chPc c + 1) dly := by
  subst size drained
  unfold Dev.rnPushEnt
  dsimp only
  rw [if_neg fifo, if_neg (by simp only [Bool.and_eq_true, bne_iff_ne]; rintro ⟨sink, busy⟩; exact open_.elim sink (by simp [busy]))]

theorem Dev.rnPullEnt_empty {toY nb : Bool} (fifo : txCap (d.obn (K.CH_JOIN c)) ≠ 0) (empty : (d.chan c).txF = []) :
    d.rnPullEnt c dly toY nb = if nb then d.rnNext c (d.chPc c + 1) dly else d.txEmpty c := by
  unfold Dev.rnPullEnt
  rw [if_neg fifo]
  dsimp only
  rw [empty]

theorem Dev.rnPullEnt_entry {toY nb : Bool} {e : FifoEnt} {l : List FifoEnt} {d' : Dev} (fifo : txCap (d.obn (K.CH_JOIN c)) ≠ 0) (front : (d.chan c).txF = e :: l)
    (inFrame : (e.tag.testBit 3 && (d.chan c).pulled) = false)
    (pulls : (((d.setXY c toY e.data).modChan c fun x => { x with
        rsof := e.tag.testBit 3, rend := e.tag.testBit 2, txOpen := if e.tag.testBit 2 then false else x.txOpen || e.tag.testBit 3,
        pulled := x.pulled || e.tag.testBit 3 }).dropTxEnt c) = d') :
    d.rnPullEnt c dly toY nb = (if e.tag.testBit 2 then d'.bump (K.CH_TX_FRAMES c) else d').rnNext c (d'.chPc c + 1) dly := by
  have still : (d.iff (e.tag.testBit 3 && (d.chan c).pulled) fun d => d.headTsDropped c) = d := if_neg (by simp [inFrame])
  unfold Dev.rnPullEnt
  rw [if_neg fifo]
  dsimp only
  rw [front]
  dsimp only
  rw [still, pulls]

/-! ### SYNC (R264) -/

theorem Dev.rnSync_out (out : (d.obn (K.ENG_SYNC_MASK (c / 8))).testBit (c % 8) = false) : d.rnSync c dly = d.rnNext c (d.chPc c + 1) dly :=
  if_pos (by simp [out])

/-- A channel of the mask waits; the last one to arrive starts them all in the next round. -/
theorem Dev.rnSync_joins {l : List Nat} {d' : Dev} (in_ : (d.obn (K.ENG_SYNC_MASK (c / 8))).testBit (c % 8) = true)
    (waits : ((d.rnBlock c .sync).modChan c fun x => { x with syncDly := dly }) = d')
    (members : (((List.range 8).filter fun k => (d.obn (K.ENG_SYNC_MASK (c / 8))).testBit k).map fun k => 8 * (c / 8) + k).filter d'.running = l) :
    ((∀ k ∈ l, (d'.chan k).block = .sync) → d.rnSync c dly = d'.each l fun x k =>
      (x.modChan k fun y => { y with issueAt := d.slotAt c + 56 - 8 * (c % 8) - 56 + 8 * (k % 8) }).rnNext k (x.chPc k + 1) (x.chan k).syncDly) ∧
    ((∃ k ∈ l, (d'.chan k).block ≠ .sync) → d.rnSync c dly = d') := by
  unfold Dev.rnSync
  dsimp only
  rw [if_neg (by simp [in_]), waits, members]
  refine ⟨fun all => if_pos (List.all_eq_true.mpr fun k hk => by simp [all k hk]), fun one => if_neg fun all => ?_⟩
  obtain ⟨k, hk, other⟩ := one
  exact other (by simpa using List.all_eq_true.mp all k hk)

end

end Sys2Proof.Machine
end

section
namespace Sys2Proof.Machine

/-- A literal of a SET fits in a word of a channel. -/
theorem setLiteral_fits (v : BitVec 5) : v.toNat % 2 ^ 24 = v.toNat := Nat.mod_eq_of_lt (by have := v.isLt; omega)

/-- Settles O19: in its slot each instruction does what its lemma above says. -/
theorem runnelInstructions : Obligations.RunnelInstructions := by
  unfold Obligations.RunnelInstructions
  intro s ch dly runs d next
  have slot := fun f => run_slot (s := s) (f := f) runs rfl
  have plain := fun f => run_plain (s := s) (f := f) runs dly rfl
  refine ⟨fun a => slot _, fun cond ofs lin => ?_, fun ivb lin => ?_, fun toY nb => ?_, fun toY w => plain _, fun toY lin => plain _, fun toY => plain _,
    fun cont lit free => ?_, fun cont source lit busy sym => ?_, fun dst source lin => plain _, fun last bad cnt fromY nb none_ => ?_,
    fun last bad cnt fromY nb => ?_, fun toY fifo empty => ?_, fun toY nb e l fifo front inFrame => ?_, fun v => plain _, fun v => ?_, fun v => ?_, fun v => plain _,
    ⟨plain _, plain _, plain _⟩, fun v => plain _, fun v => plain _, fun v => plain _, fun v => plain _, fun v out => ?_, fun v in_ => ?_, fun v => slot _, fun v => slot _,
    ⟨slot _, slot _⟩, fun b => slot _⟩
  · intro d1
    refine run_slot runs ?_
    cases h : d1.rnCond ch cond lin.toNat with
    | true => exact congrArg (fun pc => d1.rnNext ch pc dly) (if_pos h)
    | false => exact congrArg (fun pc => d1.rnNext ch pc dly) (if_neg (by rw [show (d.sees ch lin.toNat).rnCond ch cond lin.toNat = false from h]; decide))
  · intro d1 v
    have waits := fun (mode : Fin 4) {d' : Dev} (h : d1.rnWaitFor ch dly mode v = d') =>
      run_slot (f := fun d => (d.sees ch lin.toNat).rnWaitFor ch dly mode (((d.sees ch lin.toNat).iv ch lin.toNat).testBit ivb)) runs h
    exact ⟨fun low => waits 0 (low ▸ Dev.rnWaitFor_low), fun high => waits 1 (high ▸ Dev.rnWaitFor_high), fun was => waits 2 (Dev.rnWaitFor_change was),
      fun was high => waits 3 (high ▸ Dev.rnWaitFor_rise was), fun was => waits 3 (Dev.rnWaitFor_first was)⟩
  · exact ⟨fun empty => run_slot (f := (·.rnTake ch dly toY nb)) runs (Dev.rnTake_empty empty),
      fun y full => run_slot (f := (·.rnTake ch dly toY nb)) runs (Dev.rnTake_full full)⟩
  · have outs := fun (source : Fin 4) {d' : Dev} (h : d.rnOutOf ch dly cont source lit.toNat = d') => run_slot (f := (·.rnOutOf ch dly cont source lit.toNat)) runs h
    exact ⟨outs 0 (Dev.rnOutOf_symbol free (by decide)), outs 1 (Dev.rnOutOf_symbol free (by decide)), fun fifo => outs 2 (Dev.rnOutOf_fifo free fifo),
      outs 3 (Dev.rnOutOf_symbol free (by decide))⟩
  · exact run_slot (f := (·.rnOutOf ch dly cont source lit.toNat)) runs (Dev.rnOutOf_full busy fun h => sym (Fin.ext h))
  · exact run_slot (f := fun d => d.rnPushEnt ch dly last bad cnt (if fromY then (d.chan ch).y else (d.chan ch).x) nb) runs (Dev.rnPushEnt_noFifo none_)
  · intro cap v d1 fifo open_
    have pushes := fun {d' : Dev} (h : d.rnPushEnt ch dly last bad cnt v nb = d') =>
      run_slot (f := fun d => d.rnPushEnt ch dly last bad cnt (if fromY then (d.chan ch).y else (d.chan ch).x) nb) runs h
    have room := Dev.rnPushEnt_fifo (last := last) (bad := bad) (nb := nb) (cnt := cnt) (v := v) (dly := dly) (c := ch) (d := d) rfl fifo rfl open_
    exact ⟨fun free => pushes (room.trans (if_neg (Nat.not_le.mpr free))), fun full lossy => pushes (room.trans ((if_pos full).trans (if_pos lossy))),
      fun full waits => pushes (room.trans ((if_pos full).trans (if_neg (by simp [waits]))))⟩
  · exact ⟨run_slot (f := (·.rnPullEnt ch dly toY true)) runs ((Dev.rnPullEnt_empty fifo empty).trans (if_pos rfl)),
      run_slot (f := (·.rnPullEnt ch dly toY false)) runs ((Dev.rnPullEnt_empty fifo empty).trans (if_neg (by decide)))⟩
  · exact run_slot (f := (·.rnPullEnt ch dly toY nb)) runs (Dev.rnPullEnt_entry fifo front inFrame rfl)
  · exact run_plain (f := fun d => d.setXY ch false v.toNat) runs dly (Dev.modChan_congr (by simp only [Bool.false_eq_true, if_false, setLiteral_fits]))
  · exact run_plain (f := fun d => d.setXY ch true v.toNat) runs dly (Dev.modChan_congr (by simp only [if_true, setLiteral_fits]))
  · exact run_slot (f := (·.rnSync ch dly)) runs (Dev.rnSync_out out)
  · intro d' l
    obtain ⟨starts, waits⟩ := Dev.rnSync_joins (dly := dly) in_ (d' := d') rfl (l := l) rfl
    exact ⟨fun all => run_slot (f := (·.rnSync ch dly)) runs (starts all), fun one => run_slot (f := (·.rnSync ch dly)) runs (waits one)⟩

end Sys2Proof.Machine
end

section
/-! SUPPORT. The switch: parser, cells in their order, and an input's slot (spec 13, R343 to R355). -/
set_option Elab.async false
namespace Sys2Proof.Machine

/-! ### The parser (R349 to R351) -/

theorem Dev.parserStep_takes {d : Dev} {i : Nat} {f : RxFrame} {l : List RxFrame} (front : mget d.sw.rx i [] = f :: l) :
    d.parserStep i = (d.modSw fun w => { w with rx := if l.isEmpty then mdel w.rx i else mput w.rx i l }).parse i f := by
  unfold Dev.parserStep
  rw [front]

section
variable {d : Dev} {i : Nat} {f : RxFrame} (missed : d.lookup (lookupKey (d.profileOf i) (srcOf i) f.vid f.bytes) = none)
include missed

/-- A miss with CT 0 drops the frame (R349). -/
theorem Dev.parse_dropped (ct : (d.profileOf i).getD 0 0 / 2 ^ 21 % 4 = 0) : d.parse i f = d.bump K.PARSE_MISS := by
  have kind : bits ((d.profileOf i).getD 0 0) 22 21 = 0 := by rw [bits, Nat.shiftRight_eq_div_pow]; exact ct
  unfold Dev.parse
  dsimp only
  rw [missed]
  dsimp only
  rw [kind]
  cases d.boundCtx i <;> rfl

/-- A miss with CT 2 goes on to the multicast group of misses (R349). -/
theorem Dev.parse_flooded (ct : (d.profileOf i).getD 0 0 / 2 ^ 21 % 4 = 2) : d.parse i f =
    d.sendFrame { envOfRx i f with cls := (d.profileOf i).getD 0 0 / 2 ^ 18 % 8, dest := 36 * 16 } f.bytes f.bad f.cause := by
  have kind : bits ((d.profileOf i).getD 0 0) 22 21 = 2 := by rw [bits, Nat.shiftRight_eq_div_pow]; exact ct
  have cls : bits ((d.profileOf i).getD 0 0) 20 18 = (d.profileOf i).getD 0 0 / 2 ^ 18 % 8 := by rw [bits, Nat.shiftRight_eq_div_pow] <;> rfl
  unfold Dev.parse
  dsimp only
  rw [missed]
  dsimp only
  rw [kind, cls]
  cases d.boundCtx i <;> rfl

end

/-! ### Cells in count order (R354, R355) -/

/-- No held cell of the lane is the one that is due. -/
theorem Dev.linkAll_waits {d : Dev} {i o fuel : Nat}
    (early : d.sw.held.find? (fun c => c.inp == i && c.out == o && c.seq % 128 == mget d.sw.expect (48 * o + i) 0 % 128) = none) : d.linkAll i o fuel = d := by
  cases fuel with
  | zero => rfl
  | succ fuel =>
    unfold Dev.linkAll
    dsimp only
    rw [early]

theorem Dev.linkAll_links {d : Dev} {i o fuel : Nat} {c : FCell}
    (due : d.sw.held.find? (fun c => c.inp == i && c.out == o && c.seq % 128 == mget d.sw.expect (48 * o + i) 0 % 128) = some c) :
    d.linkAll i o (fuel + 1) = ((d.modSw fun s =>
      { s with held := s.held.erase c, expect := mput s.expect (48 * o + i) ((mget d.sw.expect (48 * o + i) 0 + 1) % 256) }).linkCell c).linkAll i o fuel := by
  rw [Dev.linkAll]
  dsimp only
  rw [due]

/-- The cell is already at the end of the fabric. -/
theorem Dev.fabricRun_there {d : Dev} {isIt : FCell → Bool} {n : Nat} (there : d.sw.transit.any isIt = true) : d.fabricRun isIt n = d := by
  cases n with
  | zero => rfl
  | succ n => exact if_pos (by simp [there])

/-- The cells of a list that are due once none of the others is. -/
theorem find?_held {held : List FCell} {p others : FCell → Bool} {c : FCell} (rest : ∀ e ∈ held, p e = false) :
    (held.filter others ++ [c]).find? p = if p c then some c else none := by
  have none_ : (held.filter others).find? p = none := List.find?_eq_none.mpr fun e he => by simp [rest e (List.mem_filter.mp he).1]
  rw [List.find?_append, none_, Option.none_or, List.find?_cons]
  cases p c <;> rfl

theorem Dev.cellArrive_held {d : Dev} {i o n want : Nat} {c : FCell} {d1 : Dev}
    (there : d.sw.transit.find? (fun c => c.inp == i && c.out == o && c.seq == n) = some c)
    (arrived : (d.modSw fun w => { w with
      transit := w.transit.erase c, held := w.held.filter (fun x => !(x.inp == i && x.out == o && x.seq % 128 == c.seq % 128)) ++ [c] }) = d1)
    (next : mget d.sw.expect (48 * o + i) 0 = want) (none_ : ∀ e ∈ d.sw.held, ¬ (e.inp = i ∧ e.out = o ∧ e.seq % 128 = want % 128)) :
    (n % 128 ≠ want % 128 → d.cellArrive o i n = d1.freeMin) ∧
    (n % 128 = want % 128 → d.cellArrive o i n =
      (((d1.modSw fun w => { w with held := w.held.erase c, expect := mput w.expect (48 * o + i) ((want + 1) % 256) }).linkCell c).linkAll i o 255).freeMin) := by
  have it : (c.inp == i && c.out == o && c.seq == n) = true := List.find?_some (p := fun c : FCell => c.inp == i && c.out == o && c.seq == n) there
  have stays : d.fabricRun (fun c => c.inp == i && c.out == o && c.seq == n) d.fabricSlots = d :=
    Dev.fabricRun_there (List.any_eq_true.mpr ⟨c, List.mem_of_find?_eq_some there, it⟩)
  have arrives : d.cellArrive o i n = (d1.linkAll i o 256).freeMin := by
    unfold Dev.cellArrive
    dsimp only
    rw [stays, there, ← arrived]
  simp only [Bool.and_eq_true, beq_iff_eq] at it
  obtain ⟨⟨inp, out⟩, seq⟩ := it
  have expect : mget d1.sw.expect (48 * o + i) 0 = want := by rw [← arrived]; exact next
  have first : d1.sw.held.find? (fun c => c.inp == i && c.out == o && c.seq % 128 == want % 128) = if n % 128 = want % 128 then some c else none := by
    rw [← arrived]
    refine (find?_held fun e he => ?_).trans ?_
    · have := none_ e he
      simp only [Bool.and_eq_false_iff, beq_eq_false_iff_ne]
      omega
    · simp [inp, out, seq]
  constructor
  · intro early
    rw [arrives, Dev.linkAll_waits]
    rw [expect, first, if_neg early]
  · intro due
    rw [arrives, Dev.linkAll_links (c := c), expect]
    rw [expect, first, if_pos due]

/-! ### The slot of an input (R343) -/

section
variable {d : Dev} {i m : Nat} (turn : (i + d.sw.slot) % 48 = m)
include turn

/-- The test of a stage: it holds cells and its middle stage is free. -/
def Dev.laneReady (d : Dev) (i m lane : Nat) : Bool := !(d.staged i lane).isEmpty && (mget d.sw.mids (49 * m + lane) []).isEmpty

theorem Dev.inputSlot_multicast (ready : d.laneReady i m 48 = true) : d.inputSlot i = d.inputSends i 48 m := by
  subst turn
  exact if_pos ready

theorem Dev.inputSlot_unicast {k : Nat} (multicast : d.laneReady i m 48 = false) (hk : k < 48)
    (ready : d.laneReady i m ((mget d.sw.ptr i 0 + k) % 48) = true) (before : ∀ j < k, d.laneReady i m ((mget d.sw.ptr i 0 + j) % 48) = false) :
    d.inputSlot i = (d.inputSends i ((mget d.sw.ptr i 0 + k) % 48) m).modSw fun s => { s with ptr := mput s.ptr i (((mget d.sw.ptr i 0 + k) % 48 + 1) % 48) } := by
  subst turn
  have first : ((List.range 48).map fun k => (mget d.sw.ptr i 0 + k) % 48).find? (d.laneReady i ((i + d.sw.slot) % 48)) = some ((mget d.sw.ptr i 0 + k) % 48) := by
    rw [List.find?_map, show (List.range 48).find? (d.laneReady i ((i + d.sw.slot) % 48) ∘ fun k => (mget d.sw.ptr i 0 + k) % 48) = some k by
      rw [List.find?_range_eq_some]
      exact ⟨ready, List.mem_range.mpr hk, fun j hj => by simp [before j hj]⟩]
    rfl
  refine (if_neg (show ¬ d.laneReady i ((i + d.sw.slot) % 48) 48 = true by rw [multicast]; decide)).trans ?_
  show (match ((List.range 48).map fun k => (mget d.sw.ptr i 0 + k) % 48).find? (d.laneReady i ((i + d.sw.slot) % 48)) with
    | some o => (d.inputSends i o ((i + d.sw.slot) % 48)).modSw fun s => { s with ptr := mput s.ptr i ((o + 1) % 48) }
    | none => _) = _
  rw [first]

theorem Dev.inputSlot_idle (idle : ∀ lane < 49, d.laneReady i m lane = false) :
    d.inputSlot i = d.bumpBy (K.STAGED i) ((List.range 49).countP fun lane => !(d.staged i lane).isEmpty) := by
  subst turn
  have none_ : ((List.range 48).map fun k => (mget d.sw.ptr i 0 + k) % 48).find? (d.laneReady i ((i + d.sw.slot) % 48)) = none := by
    refine List.find?_eq_none.mpr fun o ho => ?_
    obtain ⟨k, -, rfl⟩ := List.mem_map.mp ho
    simp [idle _ (show (mget d.sw.ptr i 0 + k) % 48 < 49 by omega)]
  refine (if_neg (show ¬ d.laneReady i ((i + d.sw.slot) % 48) 48 = true by rw [idle 48 (by decide)]; decide)).trans ?_
  show (match ((List.range 48).map fun k => (mget d.sw.ptr i 0 + k) % 48).find? (d.laneReady i ((i + d.sw.slot) % 48)) with
    | some o => _
    | none => d.bumpBy (K.STAGED i) ((List.range 49).filter fun lane => !(d.staged i lane).isEmpty).length) = _
  rw [none_, List.countP_eq_length_filter]

end

end Sys2Proof.Machine
end

section
/-! SUPPORT. The outputs and the rings of the switch (spec 13, R358 to R367). -/
set_option Elab.async false
namespace Sys2Proof.Machine

/-! ### Outputs (R358 to R360) -/

/-- The head of a class that a MAC may start now: it fits, the MAC is not stopped and its gate is open. -/
def Dev.macReady (d : Dev) (o k : Nat) : Bool :=
  match (d.queue (lineQueue o + k)).head? with
  | some f => d.canStart o f && !d.macStopped o (d.cutStart o f) && d.gateOk o k f
  | none => false

theorem pick_highest {d : Dev} {qb key c : Nat} {ready hasHead : Nat → Bool} (strict : 4 ≤ c) (top : c ≤ 7) (own : ready c = true)
    (above : ∀ k, c < k → k ≤ 7 → ready k = false) : d.pick qb key ready hasHead = (d, some c) := by
  have first : [7, 6, 5, 4].find? ready = some c := by
    have cases_ : c = 4 ∨ c = 5 ∨ c = 6 ∨ c = 7 := by omega
    obtain h | h | h | h := cases_ <;> subst h <;> simp [List.find?, own, above]
  unfold Dev.pick
  rw [first]

theorem Dev.macStart_starts {d d1 start e : Dev} {o c : Nat} {f : QFrame} (free : mget? d.sw.line o = none) (runs : d.macRuns o = true) (strict : 4 ≤ c) (top : c ≤ 7)
    (heads : (((d.upTo (d.mac o).gapEnds).badHeads o).macHeads o 4096) = d1) (held : d1.macHeld o = false)
    (front : (d1.queue (lineQueue o + c)).head? = some f) (ready : d1.macReady o c = true) (above : ∀ k, c < k → k ≤ 7 → d1.macReady o k = false)
    (starts : d1.upTo (d1.cutStart o f) = start) (preambled : start.upTo (start.now + bytesNs 8 (start.lineRate o)) = e) :
    d.macStart o = e.modSw fun s => { s with line := mput s.line o ⟨lineQueue o + c, f, start.now,
      adjNs (e.tbAgo (e.macOb o K.MAC_TS_BASE K.UP_TS_BASE) 0 o) (e.ob (macKey o K.MAC_TS_EGR_ADJ K.UP_TS_EGR_ADJ))⟩ } := by
  unfold Dev.macStart
  rw [if_neg (by simp [free, runs]), heads]
  dsimp only
  rw [if_neg (by simp [held]), pick_highest strict top]
  · dsimp only
    rw [front]
    dsimp only
    rw [starts, preambled]
  · unfold Dev.macReady at ready
    rw [front] at ready ⊢
    dsimp only at ready ⊢
    rw [ready, decide_eq_true strict]
    rfl
  · intro k hk hk7
    have low := above k hk hk7
    unfold Dev.macReady at low
    cases h : (d1.queue (lineQueue o + k)).head? with
    | none => rfl
    | some g =>
      rw [h] at low
      dsimp only at low ⊢
      rw [low]
      rfl

section
variable {d : Dev} {o : Nat} {x : OnLine} {f : QFrame} (line : mget? d.sw.line o = some x) (frame : d.onLine x = f)
include line frame

theorem Dev.macEnd_good {k : Nat} {l : List Byte} {d1 d2 g : Dev} (tail : f.tail = some (false, k)) (bytes : d.macBytes o f.env f.data x.ts = l)
    (ends : d.upTo (x.started + d.frameNs o l.length) = d1)
    (sent : (((d1.offLine o x).modMac o fun m => let gap := (d1.offLine o x).now + bytesNs 12 ((d1.offLine o x).lineRate o); { m with gapEnds := gap }).onWire o
      (.frame o (preamble ++ l) false)) = d2)
    (counted : (d2.macBump o K.MAC_TX_FRAMES K.UP_TX_FRAMES).bumpBy (macKey o K.MAC_TX_OCTETS K.UP_TX_OCTETS) l.length = g) :
    d.macEnd o = (if (if o < 96 then f.env.tsReq || f.env.oneStep else f.env.tsReq && !f.env.oneStep) then g.postTs o (tsRec f.env.tsTag x.ts) else g).chargeEnd o
      (some o) (x.queue % 8) f.len := by
  have sent' : ((d1.offLine o x).modMac o fun m => { m with gapEnds := d1.now + bytesNs 12 (d1.lineRate o) }).onWire o (.frame o (preamble ++ l) false) = d2 := sent
  unfold Dev.macEnd
  rw [line]
  dsimp only
  rw [frame, tail]
  dsimp only
  rw [bytes, ends]
  simp only [Bool.false_eq_true, if_false]
  rw [sent', counted]

theorem Dev.macUnderrun_ends {d1 e : Dev} (tail : f.tail = none)
    (spoils : (d.offLine o x).onWire o (.frame o (preamble ++ spoiled (d.macEdit o f.env f.data x.ts)) true) = d1)
    (gap : (d1.modMac o fun m => let gap := d1.now + bytesNs 12 (d1.lineRate o); { m with gapEnds := gap }) = e) :
    d.macUnderrun o = (((e.bump (K.Q_UNDERRUNS x.queue)).logSecAny 0x7002 x.queue).dropTs o f.env).chargeEnd o (some o) (x.queue % 8) f.data.length := by
  have gap' : (d1.modMac o fun m => { m with gapEnds := d1.now + bytesNs 12 (d1.lineRate o) }) = e := gap
  unfold Dev.macUnderrun
  rw [line]
  dsimp only
  rw [frame, if_neg (by simp [tail]), spoils, gap']

end

/-! ### Rings (R365 to R367) -/

theorem Dev.ringDeliver_takes {d0 d g h : Dev} {e a q : Nat} {f : QFrame} (accepts : d0.accepting (16 + e) 0 = true)
    (waits : (d0.takeWhole (16 + e) fun _ => true).2.isSome = true) (desc : d0.rxDesc e 1024 = (d, some a))
    (takes : d.takeWhole (16 + e) (fun _ => true) = (g, some (q, f))) (home : ¬ (e < 20 ∧ f.env.ctxV = true ∧ g.holdsCtx e f.env.ctx = false))
    (stored : (g.stAll (ringAddr e (g.ld (a + 1))) (wordsOf (f.env.bytes ++ f.data))).st a
      (b2n (f.tail.getD (true, 5)).1 * 2 ^ 22 + (f.tail.getD (true, 5)).2 * 2 ^ 18 + (f.env.bytes ++ f.data).length % 4096) = h) :
    d0.ringDeliver e = ((h.setOb (K.RING_RX_PTR e) ((h.obn (K.RING_RX_PTR e) + 1) % h.obn (K.RING_RX_SIZE e) : Nat)).bump (K.RING_RX_FRAMES e)).raise (0x4F0 + e) := by
  have some_ : (d0.takeWhole (16 + e) fun _ => true).2.isNone = false := by rw [← Option.not_isSome, waits]; rfl
  unfold Dev.ringDeliver
  rw [if_neg (by simp [accepts, some_]), desc]
  dsimp only
  rw [takes]
  dsimp only
  rw [if_neg (by
    simp only [Bool.and_eq_true, decide_eq_true_eq, Bool.not_eq_true']
    exact fun ⟨⟨core, valid⟩, absent⟩ => home ⟨core, valid, absent⟩), stored]

theorem Dev.ringSend_sends {d0 d : Dev} {e n i a w : Nat} {bytes : List Byte} {env : Env} (size : d0.obn (K.RING_TX_SIZE e) = n) (ptr : d0.obn (K.RING_TX_PTR e) = i)
    (desc : ringAddr e (d0.obn (K.RING_TX_BASE e) + 2 * i) = a) (word : d0.ld a = w) (ring : n ≠ 0) (ready : w.testBit 23 = true) (buf : bufOk e (d0.ld (a + 1)) = true)
    (taken : (d0.st a (bits w 22 18 * 2 ^ 18 + bits w 11 0)).setOb (K.RING_TX_PTR e) ((i + 1) % n : Nat) = d)
    (data : (bytesOf (d.ldAll (ringAddr e (d0.ld (a + 1))) 683)).take (w % 4096) = bytes)
    (from_ : { envOf bytes with src := if e = 20 then 127 else 100 + e, rate := 0 } = env) (dest : envDestOk env = true) (least : 88 ≤ w % 4096) (most : w % 4096 ≤ 2024) :
    d0.ringSend e = (((d.sendFrame env (bytes.drop 24) false 0).bump (K.RING_TX_FRAMES e))).raise (0x508 + e) := by
  unfold Dev.ringSend
  dsimp only
  rw [size, if_neg ring, ptr, desc, word, if_neg (by simp [ready]), taken, if_neg (by simp [buf]), data, from_, if_neg (by simp [dest]; omega)]

end Sys2Proof.Machine
end

section
namespace Sys2Proof.Machine

/-- Settles O41: each clause is its command's lemma above. -/
theorem switchCommands : Obligations.SwitchCommands := by
  unfold Obligations.SwitchCommands
  refine ⟨fun s i f l front => ?_, fun s o i n c there => ?_, fun s o c f mac free runs strict top => ?_, fun s o line mode => ?_, fun s o line mode segs => ?_,
    fun s o x k mac line tail => ?_, fun s o x mac line tail => ?_, fun s e d g a q f accepts waits desc takes home => ?_, fun s e => ?_, fun d i => ?_⟩
  · intro d prof
    exact ⟨run_after (f := (·.parserStep i)) (Dev.parserStep_takes front), fun missed ct => Dev.parse_dropped missed ct, fun missed ct => Dev.parse_flooded missed ct⟩
  · intro others d want none_
    obtain ⟨early, due⟩ := Dev.cellArrive_held (d := s.cmd) there rfl rfl none_
    exact ⟨fun h => run_after (f := (·.cellArrive o i n.toNat)) (early h), fun h => run_after (f := (·.cellArrive o i n.toNat)) (due h)⟩
  · intro d
    have heads : (((s.cmd.upTo (s.cmd.mac o).gapEnds).badHeads o).macHeads o 4096) = d := rfl
    clear_value d
    intro ready held front own above start e ts
    exact run_after (f := (·.outputStart o)) ((if_pos mac).trans (Dev.macStart_starts (d := s.cmd) (d1 := d) (start := start) (e := e) free runs strict top heads held front own above rfl rfl))
  · exact run_after (f := (·.outputStart o)) ((if_neg (by simp [line])).trans (if_pos mode))
  · exact run_after (f := (·.outputStart o)) ((if_neg (by simp [line])).trans ((if_neg (by omega)).trans (if_pos segs)))
  · intro f l d e g stamped
    exact run_after (f := (·.outputEnd o)) ((if_pos mac).trans (Dev.macEnd_good (d := s.cmd) (l := l) (d1 := d) (d2 := e) (g := g) line rfl tail rfl rfl rfl rfl))
  · intro f d e
    exact run_after (f := fun d => if d.isMac o then d.macUnderrun o else d) ((if_pos mac).trans (Dev.macUnderrun_ends (d := s.cmd) (d1 := d) (e := e) line rfl tail rfl rfl))
  · intro bad cause bytes h
    exact run_after (f := (·.ringDeliver e)) (Dev.ringDeliver_takes (h := h) accepts waits desc takes home rfl)
  · intro n i a w ring ready buf d bytes env dest least most
    exact run_after (f := (·.ringSend e)) (Dev.ringSend_sends (d0 := s.cmd) (d := d) (n := n) (i := i) (a := a) (w := w) (bytes := bytes) (env := env) rfl rfl rfl rfl ring ready buf rfl rfl rfl dest least most)
  · intro m ready o
    exact ⟨Dev.inputSlot_multicast rfl, fun k hk multicast own before => Dev.inputSlot_unicast rfl multicast hk own before, Dev.inputSlot_idle rfl⟩

end Sys2Proof.Machine
end

section
/-! SUPPORT. A slot map is stored with the reserved bits of its rows at 0 (spec 16, R434): `Obligations.SegmentCommands` says that the map is stored as it is
written. -/
set_option Elab.async false
namespace Sys2Proof.Machine

/-- A block in Configuration with every domain on and a running keeper of every role; segment 95 is off. -/
def segOff : State := { dev := ((({ doms := 2 ^ 45 - 1 } : Dev).setOb (K.CORE_STATE 16) 2).setOb K.MODE 2).setOb K.HOST_LEVEL 3 }

/-- A map of one slot that sends nothing, with a reserved bit of its row at 1. -/
def reservedSlot : List Byte := [0, 0, 1, 0, 0, 0]

/-- The slot map of segment 95 once a command has run. -/
def mapAfter (o : Host.Outcome State Fault Refusal) : List Byte :=
  match o with
  | .next t => t.dev.dom (K.SEG_SLOT_MAP 95)
  | _ => []

theorem slotMapWrite_masks : mapAfter (exec (.slotMapWrite ⟨.hatch, 0⟩ 95 reservedSlot) segOff) = [0, 0, 0, 0, 0, 0] := by decide +kernel

/-- Refutes O49: SLOT_MAP_WRITE of a map whose row has a reserved bit at 1 stores the row with that bit at 0, where the clause stores the image as it is. -/
theorem not_segmentCommands : ¬ Obligations.SegmentCommands := by
  rintro ⟨-, -, -, -, -, -, -, -, maps, -⟩
  have claimed := (maps segOff ⟨.hatch, 0⟩ 95 reservedSlot (by decide +kernel) (by decide +kernel) (by decide)).1 (by decide +kernel)
  have stored := congrArg mapAfter claimed
  rw [slotMapWrite_masks] at stored
  exact absurd stored (by decide +kernel)

end Sys2Proof.Machine
end

section
/-! SUPPORT. Motion: the sample of a group, frames of commands, commands of an axis and its parameters (spec 17, R455 to R488). -/
set_option Elab.async false
namespace Sys2Proof.Machine

/-! ### A group's sample (R455 to R458)

The run of a group is a chain of operations on pairs. It is put into projection form with the operations as variables: the kernel then has
nothing to evaluate below them. -/

section
variable (updateOrder : Dev → Nat → List Nat × List Nat) (sampleAll : Dev → Nat → Nat → Bool → Dev × List (Nat × Int))
  (updateAxis : Dev → Nat → Nat → Nat → List (Nat × Int) → Dev × List (List Nat)) (upToOn : Dev → Nat → Nat → Dev) (obn : Dev → Nat → Nat)
  (sampleAt : Dev → Nat → Nat → Nat) (modMotion : Dev → (Motion → Motion) → Dev) (bumpBy logSec : Dev → Nat → Nat → Dev)
  (iff : Dev → Bool → (Dev → Dev) → Dev) (motionLoad motionCap : Dev → Nat) (allAtRest : Dev → Bool)
  (motionSend : Dev → Nat → List (List Nat) → Dev)

theorem groupRun_pairs : (fun (d : Dev) (g reached : Nat) =>
    let gr := mget d.motion.groups g {}
    let t := sampleAt d g gr.next
    let d := upToOn d (obn d (K.GRP_TB g)) t
    let (first, rest) := updateOrder d g
    let all := first ++ rest
    let tooMuch := decide (motionCap d < motionLoad d) && decide (reached < all.length)
    let turned := all.drop (gr.resume % max all.length 1) ++ all.take (gr.resume % max all.length 1)
    let order := if tooMuch then turned.take reached else turned
    let skipped := if tooMuch then all.length - reached else 0
    let (d, tr) := sampleAll d g t false
    let upd := fun (tr : List (Nat × Int)) (x : Dev × List (List Nat)) a => let (d, n) := updateAxis x.1 a g t tr; (d, x.2 ++ n)
    let (d, n1) := (order.filter fun a => first.contains a).foldl (upd tr) (d, [])
    let (d, tr2) := sampleAll d g t true
    let (d, n2) := (order.filter fun a => !first.contains a).foldl (upd (tr ++ tr2)) (d, n1)
    let d := modMotion d fun m => { m with
      groups := mput m.groups g ⟨gr.next + 1, if tooMuch then (gr.resume + reached) % max all.length 1 else 0⟩ }
    let d := iff d (skipped != 0) fun d => logSec (bumpBy d (K.GRP_SKIPS g) skipped) 0xC003 g
    let d := iff d (!n2.isEmpty && obn d K.NOTIFY_DEST != 0xFF) fun d => motionSend d (obn d K.NOTIFY_DEST * 16) n2
    modMotion d fun m => { m with allRest := allAtRest d }) = fun (d : Dev) (g reached : Nat) =>
    let gr := mget d.motion.groups g {}
    let t := sampleAt d g gr.next
    let d := upToOn d (obn d (K.GRP_TB g)) t
    let first := (updateOrder d g).1
    let all := first ++ (updateOrder d g).2
    let tooMuch := decide (motionCap d < motionLoad d) && decide (reached < all.length)
    let turned := all.drop (gr.resume % max all.length 1) ++ all.take (gr.resume % max all.length 1)
    let order := if tooMuch then turned.take reached else turned
    let skipped := if tooMuch then all.length - reached else 0
    let upd := fun (tr : List (Nat × Int)) (x : Dev × List (List Nat)) a => ((updateAxis x.1 a g t tr).1, x.2 ++ (updateAxis x.1 a g t tr).2)
    let x := sampleAll d g t false
    let y := (order.filter fun a => first.contains a).foldl (upd x.2) (x.1, [])
    let z := sampleAll y.1 g t true
    let u := (order.filter fun a => !first.contains a).foldl (upd (x.2 ++ z.2)) (z.1, y.2)
    let d := modMotion u.1 fun m => { m with
      groups := mput m.groups g ⟨gr.next + 1, if tooMuch then (gr.resume + reached) % max all.length 1 else 0⟩ }
    let d := iff d (skipped != 0) fun d => logSec (bumpBy d (K.GRP_SKIPS g) skipped) 0xC003 g
    let d := iff d (!u.2.isEmpty && obn d K.NOTIFY_DEST != 0xFF) fun d => motionSend d (obn d K.NOTIFY_DEST * 16) u.2
    modMotion d fun m => { m with allRest := allAtRest d } := rfl

end

theorem Dev.groupRun_eq : @Dev.groupRun = fun d g reached =>
    let gr := mget d.motion.groups g {}
    let t := d.sampleAt g gr.next
    let d := d.upToOn (d.obn (K.GRP_TB g)) t
    let first := (d.updateOrder g).1
    let all := first ++ (d.updateOrder g).2
    let tooMuch := decide (d.motionCap < d.motionLoad) && decide (reached < all.length)
    let turned := all.drop (gr.resume % max all.length 1) ++ all.take (gr.resume % max all.length 1)
    let order := if tooMuch then turned.take reached else turned
    let skipped := if tooMuch then all.length - reached else 0
    let upd := fun (tr : List (Nat × Int)) (x : Dev × List (List Nat)) a => ((x.1.updateAxis a g t tr).1, x.2 ++ (x.1.updateAxis a g t tr).2)
    let x := d.sampleAll g t false
    let y := (order.filter fun a => first.contains a).foldl (upd x.2) (x.1, [])
    let z := y.1.sampleAll g t true
    let u := (order.filter fun a => !first.contains a).foldl (upd (x.2 ++ z.2)) (z.1, y.2)
    let d := u.1.modMotion fun m => { m with
      groups := mput m.groups g ⟨gr.next + 1, if tooMuch then (gr.resume + reached) % max all.length 1 else 0⟩ }
    let d := d.iff (skipped != 0) fun d => (d.bumpBy (K.GRP_SKIPS g) skipped).logSec 0xC003 g
    let d := d.iff (!u.2.isEmpty && d.obn K.NOTIFY_DEST != 0xFF) fun d => d.motionSend (d.obn K.NOTIFY_DEST * 16) u.2
    d.modMotion fun m => { m with allRest := d.allAtRest } := by
  delta Dev.groupRun
  generalize Dev.updateOrder = updateOrder
  generalize Dev.sampleAll = sampleAll
  generalize Dev.updateAxis = updateAxis
  generalize Dev.upToOn = upToOn
  generalize Dev.motionLoad = motionLoad
  generalize Dev.motionCap = motionCap
  generalize Dev.iff = iff
  generalize Dev.bumpBy = bumpBy
  generalize Dev.logSec = logSec
  generalize Dev.motionSend = motionSend
  generalize Dev.allAtRest = allAtRest
  generalize Dev.modMotion = modMotion
  generalize Dev.obn = obn
  generalize Dev.sampleAt = sampleAt
  revert updateOrder sampleAll updateAxis upToOn motionLoad motionCap iff bumpBy logSec motionSend allAtRest modMotion obn sampleAt
  refine @id _ ?_
  intro updateOrder sampleAll updateAxis upToOn motionLoad motionCap iff bumpBy logSec motionSend allAtRest modMotion obn sampleAt
  exact groupRun_pairs updateOrder sampleAll updateAxis upToOn obn sampleAt modMotion bumpBy logSec iff motionLoad motionCap allAtRest motionSend

section
variable {c d e v : Dev} {g reached t : Nat} {gr : Group} {first all order : List Nat} {x z : Dev × List (Nat × Int)} {y u : Dev × List (List Nat)}
  {upd : List (Nat × Int) → Dev × List (List Nat) → Nat → Dev × List (List Nat)}

/-- The run of a group where the device can update all its axes: those of `updateOrder`'s first list, then the others, in the order of the last stop. -/
theorem Dev.groupRun_fits (group : mget c.motion.groups g {} = gr) (due : c.sampleAt g gr.next = t) (reaches : c.upToOn (c.obn (K.GRP_TB g)) t = d)
    (fits : d.motionLoad ≤ d.motionCap) (heads : (d.updateOrder g).1 = first) (axes : first ++ (d.updateOrder g).2 = all)
    (turned : all.drop (gr.resume % max all.length 1) ++ all.take (gr.resume % max all.length 1) = order)
    (update : (fun (tr : List (Nat × Int)) (x : Dev × List (List Nat)) a => ((x.1.updateAxis a g t tr).1, x.2 ++ (x.1.updateAxis a g t tr).2)) = upd)
    (sampled : d.sampleAll g t false = x) (updated : (order.filter fun a => first.contains a).foldl (upd x.2) (x.1, []) = y)
    (sampled2 : y.1.sampleAll g t true = z) (updated2 : (order.filter fun a => !first.contains a).foldl (upd (x.2 ++ z.2)) (z.1, y.2) = u)
    (next : (u.1.modMotion fun m => { m with groups := mput m.groups g ⟨gr.next + 1, 0⟩ }) = e)
    (sent : (if u.2 ≠ [] ∧ e.obn K.NOTIFY_DEST ≠ 0xFF then e.motionSend (e.obn K.NOTIFY_DEST * 16) u.2 else e) = v) :
    c.groupRun g reached = v.modMotion fun m => { m with allRest := v.allAtRest } := by
  have enough : (decide (d.motionCap < d.motionLoad) && decide (reached < all.length)) = false := by
    rw [decide_eq_false (by omega : ¬ d.motionCap < d.motionLoad), Bool.false_and]
  have noSkip : (e.iff (0 != 0) fun d => (d.bumpBy (K.GRP_SKIPS g) 0).logSec 0xC003 g) = e := if_neg (by decide)
  have sends : (e.iff (!u.2.isEmpty && e.obn K.NOTIFY_DEST != 0xFF) fun d => d.motionSend (d.obn K.NOTIFY_DEST * 16) u.2) = v := by
    rw [← sent, Dev.iff_eq]
    simp
  subst update
  dsimp only at updated updated2
  rw [Dev.groupRun_eq]
  dsimp only
  rw [group, due, reaches, heads, axes, enough]
  simp only [Bool.false_eq_true, if_false]
  rw [turned, sampled, updated, sampled2, updated2, next, noSkip, sends]

end

end Sys2Proof.Machine
end

section
/-! SUPPORT. Motion: what its commands do (spec 17, R455 to R488). -/
set_option Elab.async false
namespace Sys2Proof.Machine

theorem Dev.groupUpdate_runs {d b : Dev} {g reached : Nat} (on : d.domOn 3 = true) (enabled : d.obb (K.GRP_EN g) = true)
    (reaches : d.upToOn (d.obn (K.GRP_TB g)) (d.sampleAt g (mget d.motion.groups g {}).next) = b) :
    d.groupUpdate g reached = (b.each (b.groupsBefore g) fun d h => d.groupRun h (d.groupAxes h).length).groupRun g reached := by
  unfold Dev.groupUpdate
  rw [if_neg (by simp [on, enabled])]
  dsimp only
  rw [reaches]

/-! ### A frame of commands (R467) -/

section
variable {d e : Dev} {q : Nat} {f : QFrame}

/-- The records of a frame, decided one after the other, with their answers. -/
def Dev.cmdAll (d : Dev) (l : List (List Nat)) : Dev × List (List Nat) :=
  l.foldl (fun (x : Dev × List (List Nat)) w => ((x.1.cmdRecord w).1, x.2 ++ [(x.1.cmdRecord w).2])) (d, [])

theorem foldl_answers_ne_nil (l : List (List Nat)) (x : Dev × List (List Nat)) (h : l ≠ [] ∨ x.2 ≠ []) :
    (l.foldl (fun (x : Dev × List (List Nat)) w => ((x.1.cmdRecord w).1, x.2 ++ [(x.1.cmdRecord w).2])) x).2 ≠ [] := by
  induction l generalizing x with
  | nil => simpa using h
  | cons w l ih => exact ih _ (.inr (by simp))

theorem Dev.cmdAll_answers (d : Dev) {l : List (List Nat)} (h : l ≠ []) : (d.cmdAll l).2.isEmpty = false := by
  have := foldl_answers_ne_nil l (d, []) (.inl h)
  simpa [Dev.cmdAll] using this

theorem Dev.commandFrame_badTail (on : d.domOn 3 = true) (taken : d.takeWhole 39 (fun _ => true) = (e, some (q, f))) (tail : f.tail ≠ some (false, 0)) :
    d.commandFrame = e.bump (K.Q_BAD_TAIL q) := by
  unfold Dev.commandFrame
  rw [if_neg (by simp [on]), taken]
  dsimp only
  rw [if_pos (by simpa using tail)]

theorem Dev.commandFrame_stranger (on : d.domOn 3 = true) (taken : d.takeWhole 39 (fun _ => true) = (e, some (q, f)))
    (tail : f.tail = some (false, 0)) (src : f.env.src < 100) : d.commandFrame = (e.bump K.CMD_BAD).logSec 0xC002 0 := by
  unfold Dev.commandFrame
  rw [if_neg (by simp [on]), taken]
  dsimp only
  rw [if_neg (by simp [tail]), if_pos (by simp; omega)]

theorem Dev.commandFrame_core (on : d.domOn 3 = true) (taken : d.takeWhole 39 (fun _ => true) = (e, some (q, f)))
    (tail : f.tail = some (false, 0)) (low : 100 ≤ f.env.src) (high : f.env.src < 120) (records : cmdRecords f.data ≠ []) :
    d.commandFrame = (e.cmdAll (cmdRecords f.data)).1.motionSend (coreDest (f.env.src - 100)) (e.cmdAll (cmdRecords f.data)).2 := by
  unfold Dev.commandFrame
  rw [if_neg (by simp [on]), taken]
  dsimp only
  rw [if_neg (by simp [tail]), if_neg (by simp; omega)]
  show (if (e.cmdAll (cmdRecords f.data)).2.isEmpty then _ else _) = _
  rw [Dev.cmdAll_answers e records, if_neg (by decide), if_neg (by omega)]
  rfl

end

/-! ### Commands of an axis (R468, R472) -/

section
variable {d : Dev} {a op : Nat} {w : List Nat}

/-- Two changes of an axis are the same if they agree on the axis as it stands. -/
theorem Dev.modAxis_congr {f g : Axis → Axis} (h : f (d.axis a) = g (d.axis a)) : d.modAxis a f = d.modAxis a g := by
  show ({ d with motion := { d.motion with axes := mput d.motion.axes a (f (d.axis a)) } } : Dev) =
    { d with motion := { d.motion with axes := mput d.motion.axes a (g (d.axis a)) } }
  rw [h]

theorem Dev.axCommand_unused (use : d.obb (K.AX_USE a) = false) : d.axCommand a op w = (d, Stat.noKey) := by
  unfold Dev.axCommand
  rw [if_pos (by simp [use])]

/-- A command of an axis whose record is sound goes through the checks in the order of R468. -/
theorem Dev.axCommand_sound (use : d.obb (K.AX_USE a) = true) (sound : d.recLost a = false) :
    d.axCommand a op w =
      if !d.opInMode op then (d, Stat.mode) else if d.cmdRange a op w then (d, Stat.range) else if !d.cmdAccepts a op then (d, Stat.busy)
      else (d.event.modAxis a fun x =>
        { x with cmds := x.cmds ++ [⟨op, w, d.now⟩], jogEnds := if op = 6 && x.jogEnds.isSome then some (d.now + d.obn K.JOG_TIMEOUT * 1000000) else x.jogEnds },
        Stat.done) := by
  unfold Dev.axCommand
  rw [if_neg (by simp [use]), sound]
  rfl

theorem Dev.axCommand_mode (use : d.obb (K.AX_USE a) = true) (sound : d.recLost a = false) (mode : d.opInMode op = false) :
    d.axCommand a op w = (d, Stat.mode) := by
  rw [Dev.axCommand_sound use sound, if_pos (by simp [mode])]

theorem Dev.axCommand_range (use : d.obb (K.AX_USE a) = true) (sound : d.recLost a = false) (mode : d.opInMode op = true)
    (range : d.cmdRange a op w = true) : d.axCommand a op w = (d, Stat.range) := by
  rw [Dev.axCommand_sound use sound, if_neg (by simp [mode]), if_pos range]

theorem Dev.axCommand_busy (use : d.obb (K.AX_USE a) = true) (sound : d.recLost a = false) (mode : d.opInMode op = true)
    (range : d.cmdRange a op w = false) (accepts : d.cmdAccepts a op = false) : d.axCommand a op w = (d, Stat.busy) := by
  rw [Dev.axCommand_sound use sound, if_neg (by simp [mode]), if_neg (by simp [range]), if_pos (by simp [accepts])]

theorem Dev.axCommand_waits (use : d.obb (K.AX_USE a) = true) (sound : d.recLost a = false) (mode : d.opInMode op = true)
    (range : d.cmdRange a op w = false) (accepts : d.cmdAccepts a op = true) :
    d.axCommand a op w = (d.event.modAxis a fun x =>
      { x with cmds := x.cmds ++ [⟨op, w, d.now⟩],
               jogEnds := if op = 6 ∧ (d.axis a).jogEnds.isSome then some (d.now + d.obn K.JOG_TIMEOUT * 1000000) else (d.axis a).jogEnds }, Stat.done) := by
  rw [Dev.axCommand_sound use sound, if_neg (by simp [mode]), if_neg (by simp [range]), if_neg (by simp [accepts])]
  refine congrArg (·, Stat.done) (Dev.modAxis_congr ?_)
  rw [show d.event.axis a = d.axis a from rfl]
  simp

end

theorem axCmd_effect (d : Dev) (a : Fin 4096) {rec_ : List Byte} (size : rec_.length = 24) (src : Option Src) :
    d.domEffect ⟨0x0, 0x1, 4096, 1, 0x27, 1, (.dom 24), .w, 0, 0, 0, none, false, .axCmd⟩ (K.AX_CMD a) rec_ src =
      atOnce (d.axCommand a ((wordsOf rec_).getD 0 0 / 65536) ((wordsOf rec_).drop 1)) := by
  show (if rec_.length ≠ 24 then _ else atOnce (Dev.axCommand d (Desc.index _ _) _ _)) = _
  rw [if_neg (by simp [size]), (key_AX_CMD a a.isLt).2.1]
  rfl

theorem axCmd_puts {s : State} {r : Src} {a : Fin 4096} {rec_ : List Byte} {d' : Dev} (h : s.puts r (K.AX_CMD a) 1 = true) (size : rec_.length = 24)
    (taken : (s.putting r (K.AX_CMD a)).axCommand a ((wordsOf rec_).getD 0 0 / 65536) ((wordsOf rec_).drop 1) = (d', Stat.done)) :
    exec (.axCmd r a rec_) s = .next (s.placed r (K.AX_CMD a) d') :=
  put_row h (key_AX_CMD a a.isLt) rfl (.inl rfl) (by omega) rfl (by rw [size]; decide) (by rw [axCmd_effect _ a size, taken]; rfl)

theorem Dev.jogTimeout_stops {d u : Dev} {a e : Nat} (ends : (d.axis a).jogEnds = some e) (jogs : (d.axis a).state = 2) (reaches : d.upTo (e + 1) = u) :
    d.jogTimeout a = (u.stopAxis a (u.groupNow a)).syncAxis a (u.recLost a) := by
  unfold Dev.jogTimeout
  rw [ends]
  dsimp only
  rw [if_pos jogs, reaches]

/-! ### Parameters of an axis and of a master (R463, R488) -/

section
variable {d : Dev} {a el : Nat} {v : Int} {judged : Bool}

theorem Dev.axParamWrite_refused (refused : d.axParamStatus a el v judged ≠ Stat.done) : d.axParamWrite a el v judged = (d, d.axParamStatus a el v judged) :=
  if_pos refused

theorem Dev.axParamWrite_use (fits : d.axParamStatus a 0 v judged = Stat.done) :
    d.axParamWrite a 0 v judged =
      ((d.event.setOb (K.AX_USE a) v).buildAxis a ((d.event.setOb (K.AX_USE a) v).setPoint a ((d.event.setOb (K.AX_USE a) v).axis a) : Int), Stat.done) := by
  unfold Dev.axParamWrite
  rw [if_neg (by simp [fits, Stat.done]), if_pos rfl]
  rfl

theorem Dev.axParamWrite_modLen (fits : d.axParamStatus a 4 v judged = Stat.done) (sound : d.recLost a = false) :
    d.axParamWrite a 4 v judged =
      (((d.event.setOb (K.AX_USE a + 4) v).modAxis a fun x =>
        { x with pos := ratMod x.pos ((d.event.setOb (K.AX_USE a + 4) v).modLen a) }).syncAxis a false, Stat.done) := by
  unfold Dev.axParamWrite
  rw [if_neg (by simp [fits, Stat.done]), if_neg (by decide), if_neg (by simp [sound]), if_pos rfl]

theorem Dev.axParamWrite_stored (fits : d.axParamStatus a el v judged = Stat.done) (sound : d.recLost a = false) (h0 : el ≠ 0) (h4 : el ≠ 4) :
    d.axParamWrite a el v judged = ((d.event.setOb (K.AX_USE a + el) v).writeRec a, Stat.done) := by
  unfold Dev.axParamWrite
  rw [if_neg (by simp [fits, Stat.done]), if_neg h0, if_neg (by simp [sound]), if_neg h4]

end

/-- What the rows of AX_USE and of the parameters after it have in common. -/
def AxRow (a el : Nat) (x : Desc) : Prop :=
  isRow (K.AX_USE a + el) x a 0xA (0x0 + 0x1 * a) el ∧ x.acc = .rw ∧ (x.eff = .axUse ∨ x.eff = .axParam) ∧ (x.ty.words = 1 ∨ x.ty.words = 2)

theorem axRow_exists (a : Nat) (ha : a < 4096) : (el : Nat) → el < 27 → ∃ x, AxRow a el x
  | 0, _ => ⟨_, key_AX_USE a ha, rfl, .inl rfl, .inl rfl⟩
  | 1, _ => ⟨_, key_AX_USE_1 a ha, rfl, .inr rfl, .inl rfl⟩
  | 2, _ => ⟨_, key_AX_USE_2 a ha, rfl, .inr rfl, .inl rfl⟩
  | 3, _ => ⟨_, key_AX_USE_3 a ha, rfl, .inr rfl, .inl rfl⟩
  | 4, _ => ⟨_, key_AX_USE_4 a ha, rfl, .inr rfl, .inr rfl⟩
  | 5, _ => ⟨_, key_AX_USE_5 a ha, rfl, .inr rfl, .inl rfl⟩
  | 6, _ => ⟨_, key_AX_USE_6 a ha, rfl, .inr rfl, .inr rfl⟩
  | 7, _ => ⟨_, key_AX_USE_7 a ha, rfl, .inr rfl, .inr rfl⟩
  | 8, _ => ⟨_, key_AX_USE_8 a ha, rfl, .inr rfl, .inr rfl⟩
  | 9, _ => ⟨_, key_AX_USE_9 a ha, rfl, .inr rfl, .inr rfl⟩
  | 10, _ => ⟨_, key_AX_USE_10 a ha, rfl, .inr rfl, .inr rfl⟩
  | 11, _ => ⟨_, key_AX_USE_11 a ha, rfl, .inr rfl, .inr rfl⟩
  | 12, _ => ⟨_, key_AX_USE_12 a ha, rfl, .inr rfl, .inl rfl⟩
  | 13, _ => ⟨_, key_AX_USE_13 a ha, rfl, .inr rfl, .inr rfl⟩
  | 14, _ => ⟨_, key_AX_USE_14 a ha, rfl, .inr rfl, .inr rfl⟩
  | 15, _ => ⟨_, key_AX_USE_15 a ha, rfl, .inr rfl, .inl rfl⟩
  | 16, _ => ⟨_, key_AX_USE_16 a ha, rfl, .inr rfl, .inr rfl⟩
  | 17, _ => ⟨_, key_AX_USE_17 a ha, rfl, .inr rfl, .inl rfl⟩
  | 18, _ => ⟨_, key_AX_USE_18 a ha, rfl, .inr rfl, .inl rfl⟩
  | 19, _ => ⟨_, key_AX_USE_19 a ha, rfl, .inr rfl, .inl rfl⟩
  | 20, _ => ⟨_, key_AX_USE_20 a ha, rfl, .inr rfl, .inl rfl⟩
  | 21, _ => ⟨_, key_AX_USE_21 a ha, rfl, .inr rfl, .inl rfl⟩
  | 22, _ => ⟨_, key_AX_USE_22 a ha, rfl, .inr rfl, .inl rfl⟩
  | 23, _ => ⟨_, key_AX_USE_23 a ha, rfl, .inr rfl, .inl rfl⟩
  | 24, _ => ⟨_, key_AX_USE_24 a ha, rfl, .inr rfl, .inr rfl⟩
  | 25, _ => ⟨_, key_AX_USE_25 a ha, rfl, .inr rfl, .inr rfl⟩
  | 26, _ => ⟨_, key_AX_USE_26 a ha, rfl, .inr rfl, .inr rfl⟩
  | _ + 27, h => absurd h (by omega)

theorem axRow {a : Nat} (ha : a < 4096) (el : Fin 27) {x : Desc} (hx : descOf (K.AX_USE a + el) = some x) : AxRow a el x := by
  obtain ⟨y, hy⟩ := axRow_exists a ha el el.isLt
  exact (Option.some.inj (hx.symm.trans hy.1.1)) ▸ hy

theorem axRow_effect {a el : Nat} {x : Desc} (h : AxRow a el x) (d : Dev) (v : Int) (src : Option Src) (judged : Bool) :
    d.effect x (K.AX_USE a + el) v src judged = atOnce (d.axParamWrite a el v judged) := by
  obtain ⟨⟨-, index, -, -, element⟩, -, kind, -⟩ := h
  unfold Dev.effect
  rw [index, element]
  obtain kind | kind := kind <;> rw [kind]

section
variable {s : State} {r : Src} {a : Fin 4096} {x : Desc} {n : Int}

theorem axWords_length {key : Nat} {v : BitVec 48} (hx : descOf key = some x) (words : x.ty.words = 1 ∨ x.ty.words = 2) :
    (axWords key v).length = x.ty.words := by
  unfold axWords
  rw [hx]
  obtain words | words := words
  · simp [words]
  · simp [words, hiLo]

/-- A parameter of an axis whose status is DONE. -/
theorem axParam_writes {el : Fin 27} {v : BitVec 48} {d' : Dev} (hx : descOf (K.AX_USE a + el.val) = some x)
    (decodes : x.ty.decode (axWords (K.AX_USE a + el.val) v) = some n) (allows : x.allows n = true)
    (h : s.opens r (K.AX_USE a + el.val) (axWords (K.AX_USE a + el.val) v) 1 = true)
    (stored : (s.taken r 2 (K.AX_USE a + el.val) 0 (axWords (K.AX_USE a + el.val) v)).axParamWrite a el n true = (d', Stat.done)) :
    exec (.axisParamWrite r a el v) s = .next (s.wrote r (K.AX_USE a + el.val) (axWords (K.AX_USE a + el.val) v) d') := by
  have row := axRow a.isLt el hx
  obtain ⟨hk, access, kind, words⟩ := id row
  refine write_opens h hx (by rw [writeLevel_row hk, access]; rfl) (by simp [access]) (by rw [hk.2.2.1]; omega) (by simp [access])
    (axWords_length hx words) (by omega) decodes allows ?_
  rw [axRow_effect row, stored]
  rfl

theorem axParam_refused {el : Fin 27} {v : BitVec 48} (hx : descOf (K.AX_USE a + el.val) = some x)
    (decodes : x.ty.decode (axWords (K.AX_USE a + el.val) v) = some n) (allows : x.allows n = true)
    (h : s.opens r (K.AX_USE a + el.val) (axWords (K.AX_USE a + el.val) v) 1 = true) :
    let d := s.taken r 2 (K.AX_USE a + el.val) 0 (axWords (K.AX_USE a + el.val) v)
    d.axParamStatus a el n true ≠ Stat.done →
    exec (.axisParamWrite r a el v) s =
      .next (s.answers r 2 (K.AX_USE a + el.val) 0 (axWords (K.AX_USE a + el.val) v) d (ans (d.axParamStatus a el n true))) := by
  intro d refused
  have row := axRow a.isLt el hx
  obtain ⟨hk, access, kind, words⟩ := id row
  refine write_refused h hk (by rw [access]; rfl) (by simp [access]) (by omega) (by simp [access])
    (axWords_length hx words) (by omega) decodes allows ?_ refused
  rw [axRow_effect row, Dev.axParamWrite_refused refused]
  rfl

theorem axUse_writes {v : Word} {d' : Dev} (range : v.toNat ≤ 1) (h : s.opens r (K.AX_USE a) [v.toNat] 1 = true)
    (stored : (s.taken r 2 (K.AX_USE a) 0 [v.toNat]).axParamWrite a 0 (v.toNat : Nat) true = (d', Stat.done)) :
    exec (.axUseWrite r a v) s = .next (s.wrote r (K.AX_USE a) [v.toNat] d') := by
  refine write_word h (key_AX_USE a a.isLt) (.inl ⟨rfl, by decide⟩) rfl (by decide) (by omega) (by simp) ⟨by simp, Int.ofNat_le.mpr range⟩ ?_
  have runs := axRow_effect (el := 0) ⟨key_AX_USE a a.isLt, rfl, .inl rfl, .inl rfl⟩ (s.taken r 2 (K.AX_USE a) 0 [v.toNat]) v.toNat (some r) true
  rw [Nat.add_zero] at runs
  rw [runs, stored]
  rfl

theorem mVel_effect (d : Dev) (m : Fin 16) (v : Int) (src : Option Src) (b : Bool) :
    d.effect ⟨0x0, 0x1, 16, 1, 0x3, 1, .s48, .rw, 0, (-140737488355328), 140737488355327, none, true, .mVel⟩ (K.M_VEL m) v src b =
      (d.mVelWrite m v, some Stat.done) := by
  show did (Dev.mVelWrite d (Desc.index _ _) v) = _
  rw [(key_M_VEL m m.isLt).2.1]
  rfl

theorem mVel_writes {m : Fin 16} {v : BitVec 48} (h : s.opens r (K.M_VEL m) (hiLo v) 1 = true) :
    exec (.mVelWrite r m v) s = .next (s.wrote r (K.M_VEL m) (hiLo v) ((s.taken r 2 (K.M_VEL m) 0 (hiLo v)).mVelWrite m v.toInt)) := by
  have decodes : Ty.decode .s48 (hiLo v) = some v.toInt := by
    rw [← sext_toNat (by decide) v]
    exact congrArg (fun k => some (sext 48 k)) (hiLo_number v)
  have low : -140737488355328 ≤ v.toInt := BitVec.le_toInt v
  have high : v.toInt < 140737488355328 := BitVec.toInt_lt
  exact write_row h (key_M_VEL m m.isLt) rfl (by decide) (by omega) (by simp) rfl (by decide) decodes ⟨low, Int.lt_add_one_iff.mp high⟩
    (mVel_effect _ m _ _ _)

end

/-- Settles O50: each command goes through its own checks to its effect, and a sample of a group through the updates of its axes. -/
theorem motionCommands : Obligations.MotionCommands := by
  unfold Obligations.MotionCommands
  refine ⟨?_, ?_, ?_, ?_, ?_, ?_, ?_, ?_⟩
  · intro s g reached on enabled due b c gr t d fits first all upd order x y z u e v
    exact run_after (f := (·.groupUpdate g reached)) ((Dev.groupUpdate_runs on enabled rfl).trans
      (Dev.groupRun_fits (c := c) (d := d) (e := e) (v := v) (gr := gr) (t := t) (first := first) (all := all) (order := order) (x := x) (y := y) (z := z)
        (u := u) (upd := upd) rfl rfl rfl fits rfl rfl rfl rfl rfl rfl rfl rfl rfl rfl))
  · intro s d q f on taken
    refine ⟨fun tail => ?_, fun tail src => ?_, fun tail low high records => ?_⟩
    · exact run_after (f := (·.commandFrame)) (Dev.commandFrame_badTail on taken tail)
    · exact run_after (f := (·.commandFrame)) (Dev.commandFrame_stranger on taken tail src)
    · exact run_after (f := (·.commandFrame)) (Dev.commandFrame_core on taken tail low high records)
  · intro s r a rec_ h size d op w use sound mode range accepts ends
    exact axCmd_puts h size (Dev.axCommand_waits use sound mode range accepts)
  · intro d a op w
    exact ⟨Dev.axCommand_unused, fun use sound => ⟨Dev.axCommand_mode use sound, Dev.axCommand_range use sound, Dev.axCommand_busy use sound⟩⟩
  · intro s a e ends jogs d
    exact run_after (f := (·.jogTimeout a)) (Dev.jogTimeout_stops ends jogs rfl)
  · intro s r a v range h d fits e
    exact axUse_writes range h (Dev.axParamWrite_use fits)
  · intro s r m v h d x here
    exact mVel_writes h
  · intro s r a el v x n key w hx decodes allows h d
    refine ⟨fun h0 h4 fits sound => ?_, fun h4 fits sound => ?_, fun refused => axParam_refused hx decodes allows h refused⟩
    · exact axParam_writes hx decodes allows h (Dev.axParamWrite_stored fits sound h0 h4)
    · obtain ⟨el, bound⟩ := el
      obtain rfl : el = 4 := h4
      exact axParam_writes hx decodes allows h (Dev.axParamWrite_modLen fits sound)

end Sys2Proof.Machine
end

section
/-! SUPPORT. Faults of a line, retries and sweeps (spec 06, R155 to R165). -/
set_option Elab.async false
namespace Sys2Proof.Machine

/-! ### Faults of a line (R155 to R157) -/

theorem Dev.portTo_now (d : Dev) (p st : Nat) (cause : Option Nat) : (d.portTo p st cause).now = d.now :=
  (Dev.KeepsBy.portTo (R := (· = ·)) ⟨id, id, rfl⟩).now.symm

theorem Dev.logE_now (d : Dev) (code inst : Nat) : (d.logE code inst).now = d.now :=
  (Dev.KeepsBy.logE (R := (· = ·)) ⟨id, id, rfl⟩).now.symm

/-- The fault itself: its pin, its count, the state Fault with its cause, and the instant of an overcurrent. -/
def Dev.faulted (d : Dev) (p pin cause counter : Nat) (overAt : Option Nat) : Dev :=
  (((((d.setOb (K.P_FAULT_PIN p) pin).bump counter).portTo p 4 (some cause)).logE 0x2102 p).modPort p fun x =>
    { x with overAt := overAt, ocWas := d.obn (K.P_OC_EVENTS p) })

/-- What follows a fault: the quarantine with RETRY_POLICY 0, else the retry's delay. -/
def Dev.afterFault (d : Dev) (p : Nat) : Dev := if d.obn (K.P_RETRY_POLICY p) = 0 then d.portQuarantine p 5 else d.retryWait p

section
variable {d : Dev} {p pin cause counter : Nat}

theorem Dev.lineFault_new (used : d.pinUsed p pin = true) (state : d.portState p = 1 ∨ d.portState p = 2 ∨ d.portState p = 3) :
    d.lineFault p pin cause counter =
      (d.faulted p pin cause counter (if cause = 9 then some ((d.setOb (K.P_FAULT_PIN p) pin).bump counter).now else none)).afterFault p := by
  unfold Dev.lineFault
  dsimp only
  rw [if_neg (by simp [used])]
  split
  · omega
  · omega
  · omega
  · rw [if_neg (by simp; omega)]
    rfl

theorem Dev.lineFault_overcurrent (used : d.pinUsed p pin = true) (state : d.portState p = 1 ∨ d.portState p = 2 ∨ d.portState p = 3) :
    d.lineFault p pin 9 counter =
      (d.faulted p pin 9 counter (some ((((d.setOb (K.P_FAULT_PIN p) pin).bump counter).portTo p 4 (some 9)).logE 0x2102 p).now)).afterFault p := by
  rw [Dev.lineFault_new used state, if_pos rfl, Dev.logE_now, Dev.portTo_now]

theorem Dev.lineFault_overvoltage (used : d.pinUsed p pin = true) (state : d.portState p = 1 ∨ d.portState p = 2 ∨ d.portState p = 3) :
    d.lineFault p pin 10 counter = (d.faulted p pin 10 counter none).afterFault p := by
  rw [Dev.lineFault_new used state, if_neg (by decide)]

theorem Dev.lineFault_same (used : d.pinUsed p pin = true) (state : d.portState p = 4 ∨ d.portState p = 5)
    (still : ∀ n t, (d.port p).retry ≠ .window n t) : d.lineFault p pin 10 counter = d.overBoth p pin := by
  unfold Dev.lineFault
  dsimp only
  rw [if_neg (by simp [used])]
  split
  · next n t _ retry => exact absurd retry (still n t)
  · rfl
  · rfl
  · next h4 h5 _ => exact absurd state (not_or.mpr ⟨h4, h5⟩)

theorem Dev.port_modPort_same (d : Dev) (p : Nat) (f : Port → Port) : (d.modPort p f).port p = f (d.port p) := mget_mmod_same ..

theorem Dev.overBoth_counts (first : (d.port p).overAt = some d.now) :
    d.overBoth p pin =
      (((((if d.portState p = 4 then d.setOb (K.PORT_CAUSE p) 10 else d).modPort p fun x => { x with overAt := none }).setOb (K.P_FAULT_PIN p) pin).setOb
        (K.P_OC_EVENTS p) ((d.port p).ocWas : Nat)).bump (K.P_OV_EVENTS p)) := by
  unfold Dev.overBoth
  rw [if_pos first]
  dsimp only
  rw [Dev.port_modPort_same, Dev.iff_eq]
  simp only [beq_iff_eq]
  split <;> rfl

theorem Dev.overVolt_out {cv : Int} (out : d.pinOut p cv = true) : d.overVolt p pin cv = d.lineFault p pin 10 (K.P_OV_EVENTS p) := if_pos out

theorem Dev.overVolt_in {cv : Int} (inside : d.pinOut p cv = false) : d.overVolt p pin cv = d := if_neg (by simp [inside])

end

/-! ### Retries (R159) -/

section
variable {d e : Dev} {p n t : Nat} {cv : Vector Int 5}

theorem Dev.retryAsk_granted (retry : (d.port p).retry = .delay t) (state : d.portState p = 4)
    (asked : (d.upTo t).ask (.retry p) 250 5000 1 100 0 = (e, .granted n)) :
    d.retryAsk p = e.modPort p fun x => { x with retry := .answered (some n) } := by
  unfold Dev.retryAsk
  rw [retry]
  dsimp only
  rw [if_neg (by simp [state]), asked]

theorem Dev.retryGo_refused (retry : (d.port p).retry = .answered none) : d.retryGo p cv = d.retryWait p := by
  unfold Dev.retryGo
  rw [retry]

theorem Dev.pinsIn_iff : d.pinsIn p cv = true ↔ ∀ i : Fin 5, d.pinUsed p i = true → d.pinOut p cv[i] = false := by
  simp only [Dev.pinsIn, List.all_eq_true, List.mem_range]
  refine ⟨fun h i used => ?_, fun h i bound => ?_⟩
  · have := h i i.isLt
    simpa [used] using this
  · have := h ⟨i, bound⟩
    cases used : d.pinUsed p i
    · simp
    · simpa [bound, used] using this used

theorem Dev.retryGo_window (retry : (d.port p).retry = .answered (some n)) (inside : ∀ i : Fin 5, d.pinUsed p i = true → d.pinOut p cv[i] = false) :
    d.retryGo p cv = d.modPort p fun x => { x with retry := .window n (d.now + 5000000) } := by
  unfold Dev.retryGo
  rw [retry]
  dsimp only
  rw [if_pos (Dev.pinsIn_iff.mpr inside)]

theorem Dev.retryGo_fails (retry : (d.port p).retry = .answered (some n)) (outside : ∃ i : Fin 5, d.pinUsed p i = true ∧ d.pinOut p cv[i] = true) :
    d.retryGo p cv = (d.release n).failAttempt p := by
  obtain ⟨i, used, out⟩ := outside
  have apart : ¬ d.pinsIn p cv = true := fun h => Bool.noConfusion (out.symm.trans (Dev.pinsIn_iff.mp h i used))
  unfold Dev.retryGo
  rw [retry]
  dsimp only
  rw [if_neg apart]

theorem Dev.retryEnd_probes (retry : (d.port p).retry = .window n t) (reaches : (d.upTo t).release n = e) :
    d.retryEnd p = if e.portMode p == 2 && e.obn (K.P_T1L_LEVEL p) != 0 && (e.port p).res == 0 && !(e.port p).lowOnly
      then ((e.modPort p fun x => { x with retry := .idle }).bringUp p 2 true none).1 else e.probe p none := by
  unfold Dev.retryEnd
  rw [retry]
  dsimp only
  rw [reaches]
  rfl

theorem Dev.retryReset_up (up : d.portUp p = true) :
    d.retryReset p = (d.upTo ((d.port p).serviceSince + 10000000000)).modPort p fun x => { x with attempts := 1 } := if_pos up

end

/-! ### Sweeps (R160 to R165) -/

section
variable {d e : Dev} {p n : Nat} {w : Sweep}

/-- A permit that is granted changes the Tap and the sequence number alone. -/
theorem Dev.ask_granted {h : Holder} {amount dur prio waitMs tag : Nat} (asked : d.ask h amount dur prio waitMs tag = (e, .granted n)) :
    e = d.grant h amount dur prio tag n := by
  unfold Dev.ask at asked
  dsimp only at asked
  split at asked
  · simp at asked
  · split at asked
    · simp at asked
    · split at asked
      · split at asked
        · simp only [Prod.mk.injEq, TapAns.granted.injEq] at asked
          rw [← asked.1, asked.2]
        · split at asked <;> simp at asked
      · split at asked <;> simp at asked

theorem Dev.tdrStatus_grant {h : Holder} {amount dur prio tag : Nat} : (d.grant h amount dur prio tag n).tdrStatus p = d.tdrStatus p := rfl

/-- The sweep begins: the tile's engine is taken, a frame on the line is cut, and the port shows the sweep. -/
theorem Dev.tdrBegin_takes (free : d.tdrStatus p = Stat.done) (idle : (d.tile (p / 24)).sweep = none) (calibrated : (d.port p).recalEnds = none) :
    d.tdrBegin p n =
      let e := d.event.modTile (p / 24) fun x => { x with
        sweep := some ⟨p, n, true, d.obn (K.P_TDR_PAIRS p) % 16, d.now + popBits (d.obn (K.P_TDR_PAIRS p) % 16) 4 * 4180000⟩ }
      let e := if d.isMac p ∧ (mget? d.sw.line p).isSome then e.modMac p fun m => { m with cut := true } else e
      ((e.setOb (K.TILE_TDR_PORT (p / 24)) (p : Nat)).setOb (K.P_TDR_STATUS p) (Stat.busy : Nat), Stat.done) := by
  have quiet : ((d.tile (tileOf p)).sweep.isSome || (d.port p).recalEnds.isSome) = false := by
    rw [show tileOf p = p / 24 from rfl, idle, calibrated]; rfl
  unfold Dev.tdrBegin
  dsimp only
  rw [if_neg (by simp [free, Stat.done]), quiet, if_neg (by decide), Dev.iff_eq]
  simp only [Bool.and_eq_true]
  rfl

theorem Dev.tdrWrite_takes {r : Option Src} (free : d.tdrStatus p = Stat.done)
    (asked : d.ask (.tdr p) 900 20000 (d.obn (K.P_TDR_PRIO p)) (d.waitLeft r) 0 = (e, .granted n)) :
    d.tdrWrite p 1 r = ((e.tdrBegin p n).1, some (e.tdrBegin p n).2) := by
  unfold Dev.tdrWrite
  dsimp only
  rw [if_neg (by decide), if_neg (by simp [free, Stat.done]), asked]

theorem Dev.tdrAcquired_ends (sweep : (d.tile (p / 24)).sweep = some w) (port : w.port = p) (acquiring : w.acquiring = true) :
    d.tdrAcquired p = ((d.upTo w.ends).modTile (p / 24) fun x => { x with sweep := some { w with acquiring := false } }).release w.permit := by
  unfold Dev.tdrAcquired
  rw [show tileOf p = p / 24 from rfl, sweep]
  dsimp only
  rw [if_pos (by simp [port, acquiring])]

theorem Dev.tdrEvents_seq (d : Dev) (l : List TdrEvent) :
    (d.each (List.range 8) fun d i => d.setOb (K.P_TDR_EVENT p i) (((l[i]?).map TdrEvent.value).getD 0xFFFFFF000000 : Nat)).seq = d.seq :=
  keeps_foldl (P := fun e : Dev => e.seq = d.seq) rfl fun _ _ h => h

/-- The processed sweep: its traces, its events in the order of their distance, the number that finds no place, and its sequence number. -/
theorem Dev.tdrProcessed_stores {y z : List (List Word)} {taken : List Nat} {l : List TdrEvent} {a b c : Dev}
    (sweep : (d.tile (p / 24)).sweep = some w) (port : w.port = p) (acquired : w.acquiring = false) (pairs : setBits w.pairs 4 = taken)
    (traces : ((List.range taken.length).map fun i => tdrCorrelate ((y[i]?).getD [])) = z)
    (events : ((taken.zip z).flatMap fun x => d.tdrEvents p x.1 x.2).foldl (fun a e => tdrInsert e a) [] = l)
    (samples : d.event.setDom (K.P_TDR_SAMPLES p) (bytesOf (z.flatMap fun t => t.map fun v => v.toNat)) = a)
    (list : (a.each (List.range 8) fun d i => d.setOb (K.P_TDR_EVENT p i) (((l[i]?).map TdrEvent.value).getD 0xFFFFFF000000 : Nat)) = b)
    (numbers : (b.setOb (K.P_TDR_DROPPED p) (min (l.length - 8) 255 : Nat)).setOb (K.P_TDR_SEQ p) ((d.seq + 1) % 2 ^ 24 : Nat) = c) :
    d.tdrProcessed p y =
      ((((((c.setOb (K.P_TDR_STATUS p) 0).setOb (K.TILE_TDR_PORT (p / 24)) 0xFF).modTile (p / 24) fun x => { x with sweep := none }).bump
        (K.TILE_TDR_SWEEPS (p / 24))).logE 0x2130 p).raise (0x430 + p)) := by
  have seq : b.seq = (d.seq + 1) % 2 ^ 24 := by
    rw [← list, Dev.tdrEvents_seq, ← samples]
    rfl
  unfold Dev.tdrProcessed
  rw [show tileOf p = p / 24 from rfl, sweep]
  dsimp only
  rw [if_neg (by simp [port, acquired]), pairs, traces, events, samples, list, seq, numbers]

end

section
variable {s : State} {r : Src} {p : Fin 96}

theorem tdrStart_effect (d : Dev) (p : Fin 96) (v : Nat) (src : Option Src) (b : Bool) :
    d.effect ⟨0x12, 0x20, 96, 1, 0x0, 1, .u8, .w, 0, 1, 1, none, false, .tdrStart⟩ (K.P_TDR_START p) (v : Int) src b = d.tdrWrite p v src := by
  show Dev.tdrWrite d (Desc.index _ _) (Int.toNat v) src = _
  rw [(key_P_TDR_START p p.isLt).2.1, Int.toNat_natCast]

theorem tdrStart_writes {d' : Dev} (h : s.opens r (K.P_TDR_START p) [1] 1 = true)
    (starts : (s.taken r 2 (K.P_TDR_START p) 0 [1]).tdrWrite p 1 (some r) = (d', some Stat.done)) :
    exec (.tdrStart r p 1) s = .next (s.wrote r (K.P_TDR_START p) [1] d') := by
  refine write_word (n := 1) h (key_P_TDR_START p p.isLt) (.inr (.inl ⟨rfl, by decide⟩)) rfl (by decide) (by omega) (by simp) ⟨by simp, by simp⟩ ?_
  rw [tdrStart_effect]
  exact starts

end

/-- Settles O15: each clause by what its command does in the state that it names; T0 stands while a port goes to Fault. -/
theorem lineFaults : Obligations.LineFaults := by
  unfold Obligations.LineFaults
  refine ⟨?_, ?_, ?_, ?_, ?_, ?_, ?_, ?_, ?_, ?_, ?_⟩
  · intro s p pin cv used state was d f e
    refine ⟨run_after (f := (·.lineFault p pin 9 (K.P_OC_EVENTS p))) (Dev.lineFault_overcurrent used state), fun out => ?_, fun inside => ?_⟩
    · exact run_after (f := (·.overVolt p pin cv)) ((Dev.overVolt_out out).trans (Dev.lineFault_overvoltage used state))
    · exact run_after (f := (·.overVolt p pin cv)) (Dev.overVolt_in inside)
  · intro s p pin cv used out state still first d e
    exact run_after (f := (·.overVolt p pin cv)) ((Dev.overVolt_out out).trans ((Dev.lineFault_same used state still).trans (Dev.overBoth_counts first)))
  · intro s p t n d' retry state asked
    exact run_after (f := (·.retryAsk p)) (Dev.retryAsk_granted retry state asked)
  · intro s p retry cv
    exact run_after (f := (·.retryGo p cv)) (Dev.retryGo_refused retry)
  · intro s p n cv retry
    exact ⟨fun inside => run_after (f := (·.retryGo p cv)) (Dev.retryGo_window retry inside),
      fun outside => run_after (f := (·.retryGo p cv)) (Dev.retryGo_fails retry outside)⟩
  · intro s p n t retry d asks
    exact run_after (f := (·.retryEnd p)) (Dev.retryEnd_probes retry rfl)
  · intro s p up
    exact run_after (f := (·.retryReset p)) (Dev.retryReset_up up)
  · intro s r p d' n h d free asked idle calibrated pairs e f
    have free' : d'.tdrStatus p = Stat.done := by rw [Dev.ask_granted asked, Dev.tdrStatus_grant]; exact free
    refine tdrStart_writes h ?_
    rw [Dev.tdrWrite_takes free asked, Dev.tdrBegin_takes free' idle calibrated]
  · intro s p w sweep port acquiring
    exact run_after (f := (·.tdrAcquired p)) (Dev.tdrAcquired_ends sweep port acquiring)
  · intro s p y long
    exact if_neg (by simpa using long)
  · intro s p y w short sweep port acquired taken z l a b c e
    refine (if_pos (by simpa using short)).trans (run_after (f := (·.tdrProcessed p y)) ?_)
    exact Dev.tdrProcessed_stores sweep port acquired rfl rfl rfl rfl rfl rfl

end Sys2Proof.Machine
end
